-- ==== Sys2Proof/Word.lean ====
section
/-! DEFINITION. The words of the device: bytes of its memories and the bits of a stored word. -/

namespace Sys2Proof

/-- One byte of an addressed memory (R8). -/
abbrev Byte := BitVec 8

/-- Bits hi to lo of a stored word. -/
def bits (v hi lo : Nat) : Nat := v / 2 ^ lo % 2 ^ (hi + 1 - lo)

/-- Bit b of a stored word. -/
def bit (v b : Nat) : Bool := v.testBit b

end Sys2Proof
end

