-- ==== Sys2Proof/Machine/Inputs.lean ====
section
/-! DEFINITION. The operands of commands that have parts. -/

namespace Sys2Proof.Machine

/-- What a REEL_FETCH or CATCH_FLUSH window meets: the lines that the channel serves in it, the hop, if any, at which a
parity error is found on its lines, and on the packets in the other direction (R239), and the routers on whose outputs SCH
flits meet (R234). -/
structure WindowLines where
  lines : Nat
  perr : Option Nat := none
  other : Option Nat := none
  meets : List (Fin 120) := []
  deriving DecidableEq, Repr

/-- A DDR_RFM_SPARE window: its entry, and the commands that fit in it (R41, R254). -/
structure SpareWindow where
  idx : Nat
  fit : Nat
  deriving DecidableEq, Repr

/-- What a training record holds beside its repairs (R262): whether its CRC is right, the data rate, the topology (bits 8:4
of DC_CONFIG), the CRC-32 of the SPD identity bytes, and the final delays, read and write, of each bit and each
nibble. -/
structure TrainImage where
  crc : Bool := true
  rate : Nat := 0
  topology : Nat := 0
  spd : Nat := 0
  deskew : List (Nat × Nat) := []
  dqs : List (Nat × Nat) := []
  deriving DecidableEq, Repr

/-- A populated channel at boot (R244, R261, R262): its outcome, the population in the layout of DC_CONFIG, the CRC-32 of
the SPD identity bytes of its modules, and the delays that a full training ends with. -/
structure ChannelBoot where
  chan : Nat
  outcome : Nat
  cfg : Nat
  spd : Nat := 0
  deskew : List (Nat × Nat) := []
  dqs : List (Nat × Nat) := []
  deriving DecidableEq, Repr

/-- A word time without a response word: whether a control block came (R294), and the bits in which copy B of the compare
logic disagrees (R109). -/
structure NoResponse where
  control : Bool
  flip : Nat := 0
  deriving DecidableEq, Repr

/-- What upsets have done to the working copies and read pointers of a block's delays (R110): the bits of a lane's working
copy that they have inverted; how far they have moved the read pointer of a lane's copy, 0 A or 1 B. -/
structure WorkUpset where
  copy : List (Fin 8 × Fin 8192) := []
  pointer : List (Fin 8 × Fin 2 × Fin 8192) := []
  deriving DecidableEq, Repr

/-- The delays of a block whose parity bit, and whose shadow, upsets have changed, lane by lane (R110). -/
structure DelayUpset where
  parity : Fin 256
  shadow : Fin 256
  deriving DecidableEq, Repr

/-- A parity error that a router finds on a packet of a command (R239): on the access-th of its requests, or on that
request's answer, at a hop. -/
structure Upset where
  access : Nat := 0
  answer : Bool := false
  hop : Nat
  deriving DecidableEq, Repr

/-- The hop of the k-th request, and of its answer, at which a parity error is found. -/
def hopOf (u : Option Upset) (k : Nat) (answer : Bool) : Option Nat :=
  (u.filter fun x => x.access == k && x.answer == answer).map (·.hop)

/-- What the source of a configuration stream does (R190, R192 to R194, R198): it delivers what comes next, which
a parity error may meet (R239); it has delivered
so many more bodies of a run of an F1 stream; it fails. -/
inductive Delivery where
  | whole (upset : Option Upset := none)
  | bodies (n : Nat)
  | fails
  deriving DecidableEq, Repr

/-- How a transfer of lines ends (R347, R348): the host link fails after so many; a parity error meets it. A DEBUG_READ may only
begin. -/
structure TransferEnd where
  failedAt : Option Nat := none
  upset : Option Upset := none
  begins : Bool := false
  deriving DecidableEq, Repr

/-- What the host reads and sets in the configuration space of the endpoint (R332), named and not placed: the spec leaves the
places to the PCIe specification. A margining point is one of lane 0 to 15, in time or in voltage. -/
inductive PcieField where
  | vendorId | deviceId | classCode | subsystemVendor | subsystemId
  | msixEnable | functionMask | maxPayload | maxReadRequest | ecrcGenerate | ecrcCheck | aerMask
  | margin (lane : Fin 16) (voltage : Bool)
  deriving DecidableEq, Repr

/-- Where a register write goes (R332, R333): BAR0 with the registers, BAR2 with the doorbells, or the configuration space. -/
inductive BusSpace where
  | registers | doorbells
  | config (field : PcieField)
  deriving DecidableEq, Repr

/-- A job whose completion record is written, and a parity error that meets the record (R371, R239). -/
structure ReleasedJob where
  slot : Nat
  upset : Option Upset := none
  deriving DecidableEq, Repr

/-- The stream ID of the port that sends a message to the dispatcher, and a parity error that meets it (R222, R239). -/
structure MessageFrom where
  sid : Nat
  upset : Option Upset := none
  deriving DecidableEq, Repr

/-- A block of a lane (R292): whether it is an alignment marker, whether it is a control block, and its payload. -/
structure LaneBlock where
  marker : Bool := false
  control : Bool := false
  payload : Nat
  deriving DecidableEq, Repr

/-- How a frame or an ACK block of a link arrives (R312): with its blocks as sent, or with these blocks in their place, in
the order of the link's stream. -/
inductive Wire where
  | whole
  | blocks (l : List LaneBlock)
  deriving DecidableEq, Repr

/-- A lane, and the types of the control blocks that have arrived on it since its last marker slot, alignment markers
excepted (R293). -/
structure LaneSlot where
  lane : Fin 8
  types : List (Fin 256) := []
  deriving DecidableEq, Repr

/-- A link, and the fraction, in 1/64 core cycle, of the core cycle in which the START block of its TIME frame leaves
(R327). -/
structure TimeStart where
  link : Fin 144
  frac : Fin 64 := 0
  deriving DecidableEq, Repr

/-- A holder of standing reservations, and the hop, if any, at which a parity error is found on the packet (R237, R239). -/
structure Holder where
  port : Fin 480
  perr : Option Nat := none
  deriving DecidableEq, Repr

end Sys2Proof.Machine
end

