-- ==== Sys2Proof/Syntax.lean ====
section
/-! DEFINITION. The commands of the device: one constructor per row of spec/opcode_table.json. Operands say
which unit a command concerns and what comes from outside the device with it: data, measured values, the
outcome of a physical process. An operand of type Unit carries nothing: what it stands for the model computes from its
state. -/

namespace Sys2Proof

open Machine (WindowLines SpareWindow NoResponse WorkUpset DelayUpset Holder Wire LaneSlot TimeStart)

/-- A command. -/
inductive Instr where
  /-- REGISTER_WRITE (R335): A host or register-target write to a register field that has no row of its own is applied, or discarded and logged if it has the wrong width, alignment or offset. -/
  | registerWrite (bar2 : Machine.BusSpace) (off : Nat) (be : Fin 256) (v : Nat) (who : Fin 3)
  /-- PAIR_LOW_READ (R336): A read of the low half of a 64-bit pair, or of the lowest word of a 128-bit entry, returns data and latches the higher bits for later reads. -/
  | pairLowRead (off : Nat) (wide debug : Bool)
  /-- RWF_WRITE (R57): A write to an RWF field joins the staged set, or is discarded while the staging area is locked or owned by the other requester. -/
  | rwfWrite (off v : Nat) (who : Fin 3)
  /-- TICK (R27): The tick engine emits a tick every N core cycles and advances the tick number and frame index. -/
  | tick
  /-- FRAME_LOG_READ (R44): A read of a frame-log word by an initiator other than the debug master marks the entry as read. -/
  | frameLogRead (k : Fin 256) (debug : Bool)
  /-- REEL_FETCH_WINDOW (R86): A REEL_FETCH window opens and the engine fetches header, dictionary and operation lines from the reel's channel up to QUOTA. -/
  | reelFetchWindow (k : Nat) (lines : WindowLines)
  /-- CATCH_FLUSH_WINDOW (R123): A CATCH_FLUSH window opens and the catch block writes released records to its catch-memory ring in whole lines. -/
  | catchFlushWindow (k : Nat) (lines : WindowLines)
  /-- NOC_SLOT_WINDOW (R235): A NOC_SLOT window opens and the initiator port sends its SCHED-marked requests in SCH class up to FLITS. -/
  | nocSlotWindow (k : Nat) (meets : List (Fin 120))
  /-- DDR_REFRESH_WINDOW (R252): A DDR_REFRESH window opens and the controller issues one REFsb, optionally followed by one ZQ calibration or DQS oscillator read. -/
  | ddrRefreshWindow (k : Nat) (waits : Bool) (delays : List (Nat × Nat))
  /-- DDR_RFM_SPARE_WINDOW (R254): A DDR_RFM_SPARE window opens and the controller issues up to OPPS queued refresh-management commands, oldest first. -/
  | ddrRfmSpareWindow (k : SpareWindow)
  /-- DDR_SCRUB_WINDOW (R257): A DDR_SCRUB window opens and the patrol scrubber reads lines in address order when it is not ahead of its pace. -/
  | ddrScrubWindow (k lines : Nat)
  /-- DISPATCH_ADVANCE_WINDOW (R364): A DISPATCH_ADVANCE window opens and the dispatcher moves expired delay-list entries to their ready lists, up to MAX_EXP. -/
  | dispatchAdvanceWindow (k : Nat)
  /-- IO_DIAG_WINDOW (R497): An IO_DIAG window opens and a 40 ns diagnostic pulse is emitted on the named STROBE pin when permitted and idle. -/
  | ioDiagWindow (k : Nat)
  /-- WINDOW_CLOSE (R42): At the end of a window the unit reports whether its action completed, and undone work is carried forward. -/
  | windowClose (k : Nat) (settled : Bool)
  /-- SYNC_MARK (R49): A pulse on the SYNC pair is classed as plain, epoch or ignored and drives the alignment state machine and phase trim. -/
  | syncMark (width : Nat) (pos : Int)
  /-- SYNC_MARK_MISSED (R49): An expected mark that does not arrive in window counts a miss and moves ALIGNED to HOLDOVER or FREE. -/
  | syncMarkMissed
  /-- ALIGN_ARM (R49): A write setting ALIGN_CTRL.ARM arms an epoch load or check, or is refused with ARM_REFUSED set. -/
  | alignArm (v : Nat)
  /-- ALIGN_MODE_CHANGE (R49): At the tick after a MODE write the new alignment mode takes effect and the state moves to FREE where it was aligning. -/
  | alignModeChange
  /-- PROOF_LOAD (R61): PROOF_LOAD reads a proof-set image by DMA into the staging area, validating each item as it reads it. -/
  | proofLoad (ring : Fin 65) (arg : Nat)
  /-- PROOF_LOAD_DONE (R61): The proof-set image has been read or a fault ended the load, and the outcome is decided with item and field index. -/
  | proofLoadDone
  /-- PROOF_CHECK (R62): PROOF_CHECK moves the staging area to PROOFING and starts the consistency checks, check 07h first. -/
  | proofCheck (ring : Fin 65)
  /-- PROOF_CHECK_DONE (R62): The consistency checks complete and the set becomes PROOFED or returns to LOADING with the first failure reported. -/
  | proofCheckDone (vccOk : Bool)
  /-- FIX (R65): FIX names a fix tick T and moves a PROOFED set to FIX_PENDING, or is rejected. -/
  | fix (ring : Fin 65) (arg : Nat)
  /-- FIX_CANCEL (R68): FIX_CANCEL arrives and waits to be latched at the next tick. -/
  | fixCancel (ring : Fin 65)
  /-- FIX_CANCEL_LATCH (R68): A FIX_CANCEL latched at or before tick T minus 1 aborts the fix; one latched later completes ALREADY_DONE after the fix. -/
  | fixCancelLatch
  /-- PROOF_DISCARD (R56): PROOF_DISCARD empties the staging area. -/
  | proofDiscard (ring : Fin 65)
  /-- FINAL_CHECK (R66): In frame T minus 1 the final check repeats the live checks of a pending fix and the staged frame 0 is read. -/
  | finalCheck
  /-- FIX_APPLY (R67): At core cycle 0 of tick T every staged copy becomes active, the schedule banks swap and SCHED_BASE becomes T. -/
  | fixApply (vcs mismatch : Unit)
  /-- FUSE_PROGRAM_DONE (R73): After a limited change the fuses are programmed in order: value, log entry with VALID, then COMMIT. -/
  | fuseProgramDone
  /-- REEL_START (R87): REEL_START is checked field by field and an accepted descriptor puts the reel engine in ARMED. -/
  | reelStart (ring : Fin 64)
  /-- REEL_ABORT (R96): REEL_ABORT naming an engine and start tick arrives and waits to be latched at the next tick. -/
  | reelAbort (ring : Fin 64)
  /-- REEL_ABORT_LATCH (R96): A latched REEL_ABORT starts a run-down, ends an armed or prefetching reel, or completes ALREADY_DONE. -/
  | reelAbortLatch (n : Fin 16)
  /-- REEL_PREFETCH_START (R90): At tick S minus P an ARMED engine enters PREFETCH and starts fetching in its windows. -/
  | reelPrefetchStart (n : Fin 16)
  /-- REEL_START_TICK (R89): At tick S the reel starts RUNNING if prefetch, dictionary, initial stop point and lanes were ready 20 cycles before, and otherwise ends. -/
  | reelStartTick (n : Fin 16) (inTime : Unit) (w0 : Nat)
  /-- REEL_NATURAL_COMPLETION (R96): At the tick after the frame in which the final stop point was reached the natural completion is latched. -/
  | reelNaturalCompletion (n : Fin 16)
  /-- PAD (R79): A PAD operation skips SKIP operation words. -/
  | pad (n : Fin 16)
  /-- LITERAL (R79): A LITERAL operation emits its COUNT payload vectors with the selected mask. -/
  | literal (n : Fin 16) (k : Nat)
  /-- REPEAT_VECTOR (R79): A REPEAT_VECTOR operation emits its payload vector COUNT times. -/
  | repeatVector (n : Fin 16) (k : Nat)
  /-- REPEAT_BLOCK (R79): A REPEAT_BLOCK operation replays the following block of operation words COUNT times from the block buffer. -/
  | repeatBlock (n : Fin 16)
  /-- DICT (R79): A DICT operation emits dictionary vectors INDEX to INDEX + COUNT - 1. -/
  | dict (n : Fin 16) (k : Nat)
  /-- SPLICE (R79): A SPLICE operation merges COUNT splice-port vectors with a dictionary vector by REPLACE or XOR. -/
  | splice (n : Fin 16) (k : Nat)
  /-- STOP (R79): A STOP operation marks a stop point with its hold words and ends a run-down or the reel when reached. -/
  | stop (n : Fin 16)
  /-- SPLICE_WRITE (R84): Region n writes one or two splice vectors into the splice FIFO on an SPL_CLK edge. -/
  | spliceWrite (n : Fin 16) (valid : Fin 4) (v0 v1 : Nat)
  /-- REEL_UNDERRUN (R99): A transmit FIFO empty at a word time while RUNNING or RUNDOWN stops the engine for good and starts substitution. -/
  | reelUnderrun (n : Fin 16)
  /-- SUBSTITUTION_START (R98): With the engine stopped and a transmit FIFO empty, the lane logic sends INVALID and then the held hold word at each word time. -/
  | substitutionStart (n : Fin 16)
  /-- HOLD_REACHED (R98): The lane logic's count reaches the next stop point's position and it sends a HOLD control block. -/
  | holdReached (n : Fin 16)
  /-- REEL_HOLDING (R97): Once the late-alarm window of every used line has closed the engine enters HOLDING and delivers its TAINT notice or none. -/
  | reelHolding (n : Fin 16)
  /-- RE_CLEAR_COUNTS (R103): RE_CTRL.CLEAR_COUNTS clears the reel engine's counters. -/
  | reClearCounts (n : Fin 16)
  /-- FLUSH_DICT (R103): RE_CTRL.FLUSH_DICT clears DICT_VALID while the engine is IDLE. -/
  | flushDict (n : Fin 16)
  /-- RESPONSE_WORD (R108): A response word crossing into the core clock is compared in two copies against the delay-line entry D word times earlier, and runs and records are updated. -/
  | responseWord (n : Fin 16) (i : Fin 8) (r word flip : Nat)
  /-- MISSING_RESPONSE (R107): A word time with no response word produces a MISSING fail when the due entry's mask is non-zero and counts MISSING. -/
  | missingResponse (n : Fin 16) (i : Fin 8) (r : Nat) (control : NoResponse)
  /-- DELAY_SHADOW_CHECK (R110): In core cycles N - 16 to N - 1 the block compares each delay's working copy, register and shadow and the read pointers. -/
  | delayShadowCheck (n : Fin 16) (upset : WorkUpset) (bad : DelayUpset)
  /-- RECORD_TO_FLOW (R123): A closed record drains from the record FIFO into the block's dispatcher flow, at most one per 8 core cycles. -/
  | recordToFlow (n : Fin 16)
  /-- PENDING_SUMMARY_RELEASE (R120): The pending summary enters the flow once fewer than C records are held or its frame count reaches 65,535. -/
  | pendingSummaryRelease (n : Fin 16)
  /-- BURST_END (R126): Once compares have ended, runs closed and the TAINT notice or its absence is known, BURST_END is created. -/
  | burstEnd (n : Fin 16)
  /-- CM_RD_WRITE (R124): The host writes CM_RD, which is accepted or left unchanged with RD_ERR set. -/
  | cmRdWrite (n : Fin 16) (v : Nat)
  /-- STROBE_RELEASE (R114): A STROBE source is released STRETCH core cycles after its last assertion. -/
  | strobeRelease (n : Fin 16) (j : Fin 2)
  /-- CB_CLEAR_COUNTS (R129): CB_CTRL.CLEAR_COUNTS clears the catch block's counters except BURST_FAILS. -/
  | cbClearCounts (n : Fin 16)
  /-- FABRIC_RESET (R153): RG_CTRL.FABRIC_RESET applies a REGION reset to a running region, or is ignored with IGNORED set. -/
  | fabricReset (k : Fin 64)
  /-- TEMP_READING (R148): Every 50 us each region sensor reads and neighbouring regions' readings are compared for skew. -/
  | tempReading (readings : List Nat)
  /-- BIAS_FAULT (R149): A body bias more than 25 mV from target for 10 us raises BIAS_FAULT and sets EDGE_SUSPECT on its edges. -/
  | biasFault (k : Fin 64) (measured : Fin 1024)
  /-- SLICE_START (R168): SL_CMD START clears accumulators and pointers and runs the slice from SL_ENTRY. -/
  | sliceStart (k : Fin 64) (t : Fin 96) (entry : Fin 64)
  /-- SLICE_STOP (R168): SL_CMD STOP halts a running slice at an instruction boundary into STOPPED. -/
  | sliceStop (k : Fin 64) (t : Fin 96)
  /-- SLICE_CONTINUE (R168): SL_CMD CONTINUE resumes a STOPPED slice with its next instruction. -/
  | sliceContinue (k : Fin 64) (t : Fin 96)
  /-- SLICE_NOP (R165): A slice NOP instruction takes one slice cycle. -/
  | sliceNop (k : Fin 64) (t : Fin 96)
  /-- MAC (R157): A MAC instruction loads operands and updates the accumulators from the mode's sums. -/
  | mac (k : Fin 64) (t : Fin 96)
  /-- REPEAT (R166): A REPEAT instruction runs its body COUNT times as a loop level, advancing the pointers by STEP and STRIDE. -/
  | repeat_ (k : Fin 64) (t : Fin 96)
  /-- STORE (R159): A STORE instruction shifts, rounds and saturates the accumulators and writes the word to memory or the output FIFO. -/
  | store (k : Fin 64) (t : Fin 96)
  /-- SETP (R165): A SETP instruction sets one operand pointer. -/
  | setp (k : Fin 64) (t : Fin 96)
  /-- HALT (R168): A HALT instruction retires, the slice enters DONE and SL_DONE pulses. -/
  | halt (k : Fin 64) (t : Fin 96)
  /-- SLICE_MEM_ACCESS (R160): A fabric-port read or write of operand memory or program space is served in the first free phase. -/
  | sliceMemAccess (k : Fin 64) (t : Fin 96) (space write : Bool) (addr : Fin 256) (data : Nat)
  /-- SLICE_INPUT_WORD (R170): The fabric writes a word into the slice input FIFO, ending any input stall. -/
  | sliceInputWord (k : Fin 64) (t : Fin 96) (word : Nat)
  /-- SLICE_OUTPUT_TAKE (R170): The fabric takes a word from the slice output FIFO, ending any output stall. -/
  | sliceOutputTake (k : Fin 64) (t : Fin 96)
  /-- SL_CLEAR_COUNTS (R172): SL_CTRL.CLEAR_COUNTS clears the slice's cycle, MAC, stall and steal counters. -/
  | slClearCounts (k : Fin 64) (t : Fin 96)
  /-- CONFIG_LOAD (R192): CONFIG_LOAD starts a host-sourced stream load by DMA, or completes BUSY if a load runs. -/
  | configLoad (ring : Fin 64)
  /-- CONFIG_HEADER (R196): A stream header taken in is checked in order, identity included, and on acceptance the named regions are held and cleared. -/
  | configHeader (fail : Machine.Delivery)
  /-- CONFIG_CLEAR_DONE (R178): The clear of the named frames completes and the load enters LOADING. -/
  | configClearDone
  /-- CONFIG_SEGMENT (R185): A segment taken in is decrypted and its tag or CRC verified before any of its frames is written. -/
  | configSegment (fail : Machine.Delivery)
  /-- CFG_NOP (R187): A configuration NOP command does nothing. -/
  | cfgNop
  /-- REGION_SELECT (R187): REGION_SELECT selects the block that later frame writes address. -/
  | regionSelect
  /-- WRITE_FRAME (R187): WRITE_FRAME queues COUNT frame bodies for consecutive frames of the selected block. -/
  | writeFrame
  /-- REPEAT_FRAME (R187): REPEAT_FRAME queues one frame body for writing at each listed frame address. -/
  | repeatFrame
  /-- CHECK (R188): CHECK compares its word with the CRC of the frames read back since the previous CHECK. -/
  | check
  /-- FIX_AT_TICK (R179): FIX_AT_TICK names the release tick T of the load, or is ignored with FIX_IGNORED in a swap load. -/
  | fixAtTick
  /-- KEY_ROLL (R184): KEY_ROLL ends a segment and the next segment key is derived. -/
  | keyRoll
  /-- END (R188): END ends the stream and the frame count is checked against FRAME_WRITES. -/
  | cfgEnd
  /-- FRAME_COMMIT (R176): The frame writer commits one frame with its trailer per 128 core cycles and folds its readback into the checksum. -/
  | frameCommit
  /-- CONFIG_RELEASE (R179): At the release tick the loaded regions leave reset, start their clocks and become CONFIGURED. -/
  | configRelease (lines : Unit) (words : List (Nat × Nat × Nat)) (mismatch : Unit) (pins : List (Nat × Nat × Nat)) (banks : List (Nat × Nat))
  /-- CONFIG_ABORT (R196): CFG_CTRL.ABORT requests an abort of the load in progress, latched at the next tick. -/
  | configAbort
  /-- CONFIG_ABORT_LATCH (R196): A latched configuration abort ends the load ABORTED, unless release has already come. -/
  | configAbortLatch
  /-- CFG_CLEAR_COUNTS (R201): CFG_CTRL.CLEAR_COUNTS clears CFG_COUNTS. -/
  | cfgClearCounts
  /-- SWAP_DRAINED (R205): The swap's drain completes when no reservation made before its tick remains, and the region moves on to LOAD_WAIT or OPENING. -/
  | swapDrained (k : Fin 64)
  /-- SWAP_DRAIN_FORCED (R205): After DRAIN_LIMIT frames the drain is forced: packets and requests are returned ROLE_MOVED and owed responses discarded. -/
  | swapDrainForced (k : Fin 64)
  /-- SWAP_LOAD_START (R206): When the group has drained and the configuration block is IDLE, the swap's load or clear starts. -/
  | swapLoadStart (k : Fin 64)
  /-- SWAP_OPEN (R207): At the open tick the region takes its new epoch and owner, starts if reloaded, and its ports accept reservations. -/
  | swapOpen (k : Fin 64) (lines : Unit) (words : List (Nat × Nat × Nat)) (mismatch : Unit)
  /-- SCRUB_STEP (R212): Every 512 core cycles the scrubber checks or skips one frame and corrects a single-bit error in place. -/
  | scrubStep
  /-- AUTO_RELOAD_START (R216): At the first permitted tick at least 2 after detection an automatic reload swap of the region starts. -/
  | autoReloadStart (k : Fin 64)
  /-- SCRUB_CLEAR_COUNTS (R219): SCRUB_CTRL.CLEAR_COUNTS clears the scrubber, reload and firmware counters. -/
  | scrubClearCounts
  /-- FW_WRITE (R346): FW_WRITE has Hearth write an image into the slot that is not running and check its signature and version. -/
  | fwWrite (ring : Fin 64) (good : Bool) (version : Fin 256)
  /-- FW_CORE_RESTART (R211): After a firmware switch each core restarts from the new image at the first tick after its held job completes. -/
  | fwCoreRestart (c : Fin 4)
  /-- FW_SELF_CHECK (R211): The new image's self-check passes and switches ACTIVE_SLOT, or fails and reverts every core to the old slot. -/
  | fwSelfCheck (pass : Bool)
  /-- FW_COMMIT_RETRY (R211): While another requester holds the staging area Hearth retries the version commit every 1 ms. -/
  | fwCommitRetry
  /-- FABRIC_REQUEST (R229): A fabric request at its attachment is checked and either completed with a code at once or sent for reservation. -/
  | fabricRequest (k : Fin 64) (p : Fin 2) (kind : Fin 16) (dst : Fin 128) (dstPort : Fin 4) (addr : Nat) (bytes : Fin 1024) (data : List Byte) (prio : Fin 4) (epoch : Fin 65536) (sched : Bool) (tag : Fin 256)
  /-- RESERVE (R231): A RESERVE lands at a target's reservation sink and is granted, queued, answered BUSY or refused DOMAIN_CLOSED. -/
  | reserve (q : Fin 480) (tag : Fin 256) (perr : Option Nat)
  /-- GRANT (R231): A GRANT arriving at the initiator lets it send the covered request, or reports BUSY or DOMAIN_CLOSED. -/
  | grant (q : Fin 480) (tag : Fin 256) (perr : Option Nat)
  /-- RESERVE_RETRY (R231): A BUSY initiator sends its RESERVE again after 64 core cycles. -/
  | reserveRetry (q : Fin 480) (tag : Fin 256)
  /-- READ_REQ (R228): A READ_REQ landing at its target is executed, with epoch, protection, code and tag handling at that target. -/
  | readReq (q : Fin 480) (tag : Fin 256) (perr : Option Nat)
  /-- WRITE_REQ (R228): A WRITE_REQ landing at its target is executed, including register-target, dispatcher, mesh-engine and DRAM writes. -/
  | writeReq (q : Fin 480) (tag : Fin 256) (perr : Option Nat) (susp : List (Nat × Nat))
  /-- READ_RESP (R228): A READ_RESP arrives at its initiator and delivers data, status and sequence tag to the consumer. -/
  | readResp (q : Fin 480) (tag : Fin 256) (code : Fin 65536) (data : List Byte) (perr : Option Nat) (susp : List (Nat × Nat))
  /-- WRITE_RESP (R228): A WRITE_RESP arrives at its initiator and completes the write with its status. -/
  | writeResp (q : Fin 480) (tag : Fin 256) (code : Fin 65536) (perr : Option Nat)
  /-- RETURN (R236): A RETURN arrives and the initiator completes its request with ROLE_MOVED and the target's epoch. -/
  | return_ (q : Fin 480) (tag : Fin 256) (perr : Option Nat) (susp : List (Nat × Nat))
  /-- REVOKE (R237): A REVOKE reaches the holder of a standing reservation, which answers RELEASE after its last covered packet. -/
  | revoke (q : Fin 480) (holder : Holder)
  /-- RELEASE (R237): A RELEASE reaches a closing port and frees the revoked standing reservation. -/
  | release (q : Fin 480) (holder : Holder)
  /-- NOC_TIMEOUT (R238): A request unanswered 2^(TIMEOUT_EXP + 8) core cycles after injection completes ABORTED and raises NOC_TIMEOUT. -/
  | nocTimeout (q : Fin 480) (tag : Fin 256)
  /-- PRIORITY_AGING (R234): A packet waiting AGE_LIMIT x 64 cycles at one output rises one priority level. -/
  | priorityAging (r : Fin 120) (q : Fin 480) (tag : Fin 256)
  /-- PORT_DRAINED (R237): A CLOSING port whose covered deliveries, revokes and requests are all done becomes CLOSED. -/
  | portDrained (q : Fin 480)
  /-- STAT_SNAP (R241): A SNAP write latches a port's statistics and computes MEAN at core cycle 0 of the next tick. -/
  | statSnap (q : Fin 480) (clear : Bool)
  /-- STAT_CLEAR (R241): A CLEAR in STAT_CTRL resets the port's live statistics after the latch. -/
  | statClear (q : Fin 480)
  /-- NR_CLEAR_COUNTS (R242): NR_CTRL.CLEAR_COUNTS clears the router's link and NR_COUNTS counters. -/
  | nrClearCounts (r : Fin 120)
  /-- FALLBACK_REFRESH (R253): A missed REFsb, an aged bank or an unscheduled channel makes the controller issue a fallback REFab. -/
  | fallbackRefresh (c : Fin 8) (rank : Fin 4) (sub : Fin 2)
  /-- MR4_READ (R251): Every 256 us the controller reads MR4 and halves or restores each rank's refresh interval. -/
  | mr4Read (c : Fin 8) (doubled : Fin 16)
  /-- WRITE_BACK (R249): A queued corrected or poisoned line is written back in unscheduled time. -/
  | writeBack (c : Fin 8)
  /-- TRAINING_PASS (R261): TR_CTRL.START runs one training pattern pass and counts errors per bit. -/
  | trainingPass (c : Fin 8) (errs : List (Nat × Nat))
  /-- SELF_REFRESH_EXIT_DONE (R260): After tXS, PHY relock and ZQ calibration the channel is READY and its port opens at the next tick. -/
  | selfRefreshExitDone (c : Fin 8)
  /-- TRAIN_RECORD (R262): TRAIN_RECORD has Hearth read out a channel's saved training record or adopt a written-back one. -/
  | trainRecord (ring : Fin 64) (matched : Machine.TrainImage) (refusal : Nat) (applied : Unit) (repairs : List (Nat × Nat × Nat × Nat))
  /-- DDR_REPAIR (R263): DDR_REPAIR asks Hearth for an sPPR or hPPR of one row, parking the rank if accepted. -/
  | ddrRepair (ring : Fin 64) (noResource held : Bool)
  /-- DDR_REPAIR_DONE (R263): A repair ends, the rank is unparked and DDR_REPAIR_DONE is raised. -/
  | ddrRepairDone (c : Fin 8)
  /-- DC_CLEAR_COUNTS (R266): DC_CTRL.CLEAR_COUNTS clears the channel's counters. -/
  | dcClearCounts (c : Fin 8)
  /-- DC_CLEAR_LOGS (R266): DC_CTRL.CLEAR_LOGS clears UE_LOG and CE_LOG. -/
  | dcClearLogs (c : Fin 8)
  /-- LATE_ALARM (R275): A late alarm on the alarm bus reaches every attachment, and the consumer of the named response discards or substitutes. -/
  | lateAlarm
  /-- KEY_LOAD (R280): KEY_LOAD unwraps a memory key into an EMPTY key ID, or is refused uniformly. -/
  | keyLoad (ring : Fin 64)
  /-- KEY_ERASE (R280): KEY_ERASE zeroes the key of a LOADED key ID, or is refused uniformly. -/
  | keyErase (ring : Fin 64)
  /-- KEY_RETIRE (R281): KEY_RETIRE empties a LOADED key ID or starts a re-key or zero walk of an ACTIVE one. -/
  | keyRetire (ring : Fin 64)
  /-- KEY_OP_COMPLETE (R280): A key operation completes exactly 2,048 core cycles after acceptance. -/
  | keyOpComplete
  /-- REFUSAL_ANSWER (R283): A refused key, protected-range or ember access is answered REFUSED exactly 2,048 core cycles after acceptance or landing. -/
  | refusalAnswer (noc : Bool)
  /-- REKEY_WALK_START (R281): At the first tick after its turn, the walk of a retiring key ID starts at its first range. -/
  | rekeyWalkStart
  /-- REKEY_LINE (R281): The re-keyer reads, checks and rewrites one line and advances the watermark, up to PACE lines per frame. -/
  | rekeyLine
  /-- KEY_RETIRED (R282): When the walk has ended and every old-key operation is done the ranges pass on, the ID becomes EMPTY and KEY_RETIRED is raised. -/
  | keyRetired
  /-- EN_CLEAR_COUNTS (R287): EN_CTRL.CLEAR_COUNTS clears INTEGRITY_FAILS and EN_COUNTS. -/
  | enClearCounts
  /-- LANE_TRAINED (R300): A TRAINING lane completes lock and adaptation and becomes ACTIVE. -/
  | laneTrained (g : Fin 18) (i : Fin 8)
  /-- LANE_TRAIN_TIMEOUT (R300): A lane still TRAINING after 3 ms raises LANE_TRAIN_TIMEOUT once and keeps training. -/
  | laneTrainTimeout (g : Fin 18)
  /-- ALIGN_MARKER_RECEIVED (R296): An alignment marker is received, checked for BIP errors, and used for marker lock and deskew of the bonded set. -/
  | alignMarkerReceived (g : Fin 18) (i : Fin 8) (spaced : Bool) (bip : Fin 256) (badTypes : List (Fin 256)) (fill : Fin 65) (skew : Option Int)
  /-- ALIGN_MARKER_MISSED (R296): An expected marker not found increments MARKERS_MISSED, and a fourth in a row loses marker lock. -/
  | alignMarkerMissed (g : Fin 18) (i : LaneSlot)
  /-- LANE_LOCK_LOST (R296): Sixteen invalid sync headers within 64 lose block lock, increment LOCK_LOSSES and raise LANE_LOCK_LOST. -/
  | laneLockLost (g : Fin 18) (i : Fin 8)
  /-- LANE_ELASTIC_SLIP (R298): A receive elastic buffer overflow or underrun slips one block, counts SLIPS and raises LANE_ELASTIC_SLIP. -/
  | laneElasticSlip (g : Fin 18) (i : Fin 8) (overflow : Bool)
  /-- PRBS_TX_EN (R303): A TX_EN write starts or stops the PRBS generator on a lane without role traffic, or sets IGNORED. -/
  | prbsTxEn (g : Fin 18) (i : Fin 8) (on : Bool) (pattern : Fin 4)
  /-- PRBS_RX_EN (R303): An RX_EN write starts the PRBS checker, clearing its counts, on a lane without role traffic, or sets IGNORED. -/
  | prbsRxEn (g : Fin 18) (i : Fin 8) (on : Bool) (pattern : Fin 4)
  /-- EYE_SCAN_START (R304): LN_EYE_CTRL.START begins an eye scan at PHASE and VOLT, or is ignored while BUSY. -/
  | eyeScanStart (g : Fin 18) (i : Fin 8) (v : Nat)
  /-- EYE_SCAN_DONE (R304): An eye scan completes its dwell and records ERRORS. -/
  | eyeScanDone (g : Fin 18) (i : Fin 8) (errors : Nat)
  /-- LG_CLEAR_COUNTS (R308): LG_CTRL.CLEAR_COUNTS clears the group and lane counters. -/
  | lgClearCounts (g : Fin 18)
  /-- MESH_PACKET_FRAME (R315): A PACKET frame passing its CRC is accepted, discarded as duplicate or out of order, acknowledged, and delivered or forwarded. -/
  | meshPacketFrame (l : Fin 144) (intact : Wire) (seq ack : Fin 65536) (vc : Bool) (h0 h1 : Nat) (route payload host : List Nat)
  /-- ACK_BLOCK (R314): An ACK block releases acknowledged frames from the replay buffer and updates the receiver's free counts. -/
  | ackBlock (l : Fin 144) (intact : Wire) (ack : Fin 65536) (free0 free1 : Fin 256)
  /-- HELLO_FRAME (R319): A HELLO frame updates the link's neighbour entry and may take an INIT link UP. -/
  | helloFrame (l : Fin 144) (intact : Wire) (ack : Fin 65536) (w0 w1 w2 w3 : Nat)
  /-- HELLO_SEND (R318): Every 10 us in INIT and every 100 us in UP the link sends a HELLO frame. -/
  | helloSend (l : Fin 144)
  /-- HELLO_TIMEOUT (R318): An UP link that has received no HELLO for 300 us goes DOWN. -/
  | helloTimeout (l : Fin 144)
  /-- SET_NOT_READY_TIMEOUT (R318): An UP link whose bonded set has not been ready for 100 us goes DOWN. -/
  | setNotReadyTimeout (l : Fin 144)
  /-- REPLAY_TIMEOUT (R316): The replay timer expires and every unacknowledged frame is sent again. -/
  | replayTimeout (l : Fin 144)
  /-- QUIET_FRAME (R320): A QUIET frame is answered and both sides send their lanes QUIET. -/
  | quietFrame (l : Fin 144) (intact : Wire) (ack : Fin 65536)
  /-- TIME_FRAME_SEND (R327): At every tick that is a multiple of 2^TIME_DIV each UP link sends a TIME frame. -/
  | timeFrameSend (l : TimeStart)
  /-- TIME_FRAME (R328): A received TIME frame yields round trip, delay and phase error and acts as a mark on the time link. -/
  | timeFrame (l : Fin 144) (intact : Wire) (ack : Fin 65536) (w0 w1 w2 w3 : Nat) (frac : Fin 64)
  /-- TIME_FRAME_MISSED (R328): 2^TIME_DIV ticks without a usable TIME frame count as one missing mark. -/
  | timeFrameMissed
  /-- MESH_REPORT_SEND (R325): On a link change or every REPORT_PERIOD x 10 ms the device floods its own report. -/
  | meshReportSend
  /-- MESH_REPORT_PACKET (R325): A received REPORT packet is forwarded if newer and written to the report ring at a gateway. -/
  | meshReportPacket
  /-- MESH_DATA_REQUEST (R324): A DATA request delivered to its destination is written into the inbox and answered with a DATA response. -/
  | meshDataRequest
  /-- MESH_DATA_RESPONSE (R324): A DATA response reaches the originating engine, which answers the WRITE_REQ with its status. -/
  | meshDataResponse
  /-- MESH_HOST_PACKET (R354): A HOST packet carries a proxied descriptor, host-memory access or completion between gateway and target. -/
  | meshHostPacket
  /-- LK_QUIET (R320): LK_CTRL.QUIET asks for a quiet link, or re-activates it when written 0. -/
  | lkQuiet (l : Fin 144) (on : Bool)
  /-- LK_RESET (R318): LK_CTRL.RESET takes the link DOWN. -/
  | lkReset (l : Fin 144)
  /-- MS_REPORT_RD_WRITE (R326): The host writes MS_REPORT_RD to release report-ring entries. -/
  | msReportRdWrite (v : Nat)
  /-- MS_CLEAR_COUNTS (R331): MS_CTRL.CLEAR_COUNTS clears MS_COUNTS and the link counters. -/
  | msClearCounts
  /-- COMMAND_DOORBELL (R338): A command doorbell write sets a new producer index if it passes its checks. -/
  | commandDoorbell (r : Fin 64) (p : Nat)
  /-- COMPLETION_DOORBELL (R340): A completion doorbell write releases completion entries or is discarded with RD_ERR. -/
  | completionDoorbell (r : Fin 64) (v : Nat)
  /-- EVENT_DOORBELL (R340): An event doorbell write releases event records or is discarded with RD_ERR. -/
  | eventDoorbell (v : Nat)
  /-- DESCRIPTOR_CONSUME (R339): The device reads, checks and accepts or rejects the next descriptor of a ring when room and fences allow. -/
  | descriptorConsume (r : Fin 64) (fails : Bool)
  /-- OUTCOME_LATCH (R351): A decided outcome is latched at the first tick at or after its decision. -/
  | outcomeLatch (r : Fin 64) (idx : Nat)
  /-- COMPLETION_WRITE (R340): A completion entry is written once its outcome is latched and its chapter's conditions hold, and MSI-X is sent as configured. -/
  | completionWrite (r : Fin 64) (fails : Bool)
  /-- MSIX_TIMER (R342): TIME frames after the first uncovered completion entry the ring's MSI-X message is sent. -/
  | msixTimer (r : Fin 64)
  /-- EVENT_RECORD_WRITE (R464): The event FIFO writes one record to the event ring, at most one per 16 core cycles, while room exists. -/
  | eventRecordWrite
  /-- RING_ENABLE (R343): Writing ENABLE 1 with valid base and size starts a command ring RUNNING with its indices at 0. -/
  | ringEnable (r : Fin 64) (v : Nat)
  /-- RING_DISABLE (R343): Writing ENABLE 0 moves a ring to DRAINING, and to DISABLED when its accepted operations have completed. -/
  | ringDisable (r : Fin 64) (v : Nat)
  /-- RING_RESUME (R343): CR_CFG.RESUME moves a HALTED ring back to RUNNING and retries the failed access. -/
  | ringResume (r : Fin 64) (v : Nat)
  /-- EVENT_RING_ENABLE (R337): EV_CFG.ENABLE starts or stops the event ring. -/
  | eventRingEnable (v : Nat)
  /-- HI_CLEAR_COUNTS (R357): HI_CTRL.CLEAR_COUNTS clears the host interface counters. -/
  | hiClearCounts
  /-- LINK_RESET (R353): PERST_N low, a hot reset or an FLR disables every ring and aborts operations that use host memory. -/
  | linkResetCmd (kind : Fin 3)
  /-- D3HOT_ENTRY (R332): Entry to D3hot disables every ring as a LINK reset does. -/
  | d3hotEntry
  /-- PROXY_TIMEOUT (R354): A proxied descriptor with no completion within 2^TIMEOUT_EXP ms completes ABORTED. -/
  | proxyTimeout (r : Fin 64) (idx : Nat)
  /-- NOP (R346): The NOP descriptor completes OK. -/
  | nop (r : Fin 64)
  /-- DMA_MOVE (R347): DMA_MOVE starts a move of lines between host and device memory on the host DMA master. -/
  | dmaMove (r : Fin 64)
  /-- DMA_MOVE_DONE (R347): A DMA move writes its last line, or fails, and its outcome is decided. -/
  | dmaMoveDone (r : Fin 64) (idx : Nat) (failedAt : Machine.TransferEnd)
  /-- DEBUG_READ (R348): DEBUG_READ reads device memory, registers, schedule or frames through the debug master into host memory. -/
  | debugRead (r : Fin 64) (failedAt : Machine.TransferEnd)
  /-- ABORT (R352): ABORT names an operation of a ring and waits to be latched at the next tick. -/
  | abortOp (r : Fin 64)
  /-- HOST_ABORT_LATCH (R352): A latched ABORT stops the named operation ABORTED, or completes ALREADY_DONE if its outcome was already latched. -/
  | hostAbortLatch (moved : Nat)
  /-- DISPATCH_ENQUEUE (R361): DISPATCH_ENQUEUE reads COUNT jobs from host memory and enqueues them in order until one fails. -/
  | dispatchEnqueue (ring : Fin 64)
  /-- JOB_DISPATCH (R368): Every 2 core cycles an eligible ready job is dispatched to a free worker's mailbox. -/
  | jobDispatch
  /-- DONE_MESSAGE (R369): A worker's done message marks its job done, or is discarded as late. -/
  | doneMessage (sid : Machine.MessageFrom) (entry gen status result : Nat)
  /-- DISPATCH_JOB_TIMEOUT (R369): A job not done within 2^TIMEOUT_EXP frames of dispatch is done ABORTED and the event raised. -/
  | dispatchJobTimeout (slot : Nat)
  /-- JOB_RELEASE (R370): A done job whose flow predecessors are released is released, frees its entry and writes its completion record. -/
  | jobRelease (slot : Machine.ReleasedJob)
  /-- WORKER_REGISTRATION (R366): A registration record registers, updates or deregisters a worker, or is refused. -/
  | workerRegistration (sid : Machine.MessageFrom) (w : Fin 128) (w0 w1 w2 w3 : Nat)
  /-- DP_CLEAR_COUNTS (R377): DP_CTRL.CLEAR_COUNTS clears the dispatcher counters and histograms. -/
  | dpClearCounts
  /-- SLOT_PROVISION (R434): SLOT_PROVISION has Hearth pass a slot blob to the key hardware, which installs it or refuses uniformly. -/
  | slotProvision (ring : Fin 64)
  /-- WATCHDOG_KICK (R381): A management core kicks its watchdog through its private path. -/
  | watchdogKick (c : Fin 4)
  /-- WATCHDOG_EXPIRY (R381): A core that has not kicked for 2^WD_PERIOD_EXP credited frames is restarted and its jobs returned. -/
  | watchdogExpiry (c : Fin 4)
  /-- CORE_RESTART_DONE (R381): A restarted core is RUNNING again and may take jobs. -/
  | coreRestartDone (c : Fin 4)
  /-- SCRATCHPAD_ACCESS (R383): A master's scratchpad access takes its turn in the round, is admitted or refused, and is ECC-checked. -/
  | scratchpadAccess (cls : Fin 4) (sid addr n : Nat) (kind : Fin 3) (core0 : Bool) (data : List Byte)
  /-- TEST_STEP (R390): Every 2^TEST_STEP_EXP frames a background test step copies a block to the spare and runs March C- on it. -/
  | testStep (fails : Bool)
  /-- TEST_STEP_END (R390): The test step writes the spare back and ends the redirection. -/
  | testStepEnd
  /-- EMBER_WIPE_DONE (R388): The wipe completes with zeros and valid codes throughout the ember region. -/
  | emberWipeDone
  /-- SP_CLEAR_COUNTS (R393): SP_CTRL.CLEAR_COUNTS clears the scratchpad ECC, test and denial counters. -/
  | spClearCounts
  /-- MONITOR_WINDOW (R401): A clock monitor window ends and the count is judged in or out of band. -/
  | monitorWindow (m : Fin 54) (count : Nat) (disagree : Bool)
  /-- MONITOR_EDGE_LOSS (R402): A monitored clock showing no edge for 64 kindling cycles is LOST and fails its PLL's reference. -/
  | monitorEdgeLoss (m : Fin 54)
  /-- PLL_LOCK_LOSS (R402): A PLL's lock detector reporting loss of lock for more than 1 us fails its reference. -/
  | pllLockLoss (d : Fin 34)
  /-- PLL_RELOCK (R409): Once its reference is judged stable a smouldering PLL relocks with its domains at 1/16 rate. -/
  | pllRelock (d : Fin 34)
  /-- RAMP_STEP (R405): After RAMP_STEP source cycles an edge keeper moves to the next step of its up- or down-ramp. -/
  | rampStep (d : Fin 13)
  /-- RAMP_END (R409): An up-ramp after recovery ends and the PLL's domains return to RUN. -/
  | rampEnd (d : Fin 13)
  /-- TRIM_WINDOW (R400): A trim window of 2^16 kindling cycles ends and the kindling trim code is searched, confirmed or tracked. -/
  | trimWindow (count : Nat)
  /-- CK_CLEAR_COUNTS (R412): CK_CTRL.CLEAR_COUNTS clears the clock, domain and monitor counters. -/
  | ckClearCounts
  /-- POWER_REQUEST (R421): POWER_REQUEST is checked and queued at the power controller. -/
  | powerRequest (ring : Fin 65)
  /-- POWER_CHECK (R422): At the checking tick a queued request is refused by a refuser or accepted and its steps begin. -/
  | powerCheck
  /-- BIAS_SETTLED (R418): The region's bias and memory assist reach their new levels, completing or advancing a power transition. -/
  | biasSettledCmd (k : Fin 64)
  /-- POWER_DRAIN_TIMEOUT (R423): A drain not complete DRAIN_FRAMES frames after the checking tick aborts the entry under NOC_DRAIN. -/
  | powerDrainTimeout
  /-- PW_CLEAR_COUNTS (R426): PW_CTRL.CLEAR_COUNTS clears every PW_COUNT. -/
  | pwClearCounts
  /-- TAMPER_SENSOR_FIRE (R438): A voltage, temperature, clock or mesh sensor fires and the keys and ember region are wiped. -/
  | tamperSensorFire (sensors : Fin 16)
  /-- TAP_RESET (R444): TRST low or five TCK cycles with TMS high reset the TAP controller to IDCODE. -/
  | tapReset
  /-- EXTEST (R448): EXTEST takes the pins for boundary scan, or loads as BYPASS while a reel is not IDLE. -/
  | extest (cells update : Nat)
  /-- SAMPLE_PRELOAD (R447): SAMPLE/PRELOAD samples or preloads the boundary register without taking the pins. -/
  | samplePreload (cells update : Nat)
  /-- EXTEST_PULSE (R448): EXTEST_PULSE takes the pins and drives IEEE 1149.6 pulses on the lane transmitters. -/
  | extestPulse (cells update : Nat)
  /-- EXTEST_TRAIN (R448): EXTEST_TRAIN takes the pins and drives IEEE 1149.6 trains on the lane transmitters. -/
  | extestTrain (cells update : Nat)
  /-- CLAMP (R448): CLAMP takes the pins holding the boundary values with the bypass register selected. -/
  | clamp
  /-- HIGHZ (R448): HIGHZ takes the pins and sets them to high impedance. -/
  | highz
  /-- IDCODE (R445): IDCODE returns the 32-bit identity register. -/
  | idcode
  /-- BYPASS (R446): BYPASS, or any unknown opcode, selects the 1-bit bypass register. -/
  | bypass (op : Fin 256)
  /-- CFG_IN (R194): CFG_IN shifts a configuration stream in through JTAG. -/
  | cfgIn (start : Bool) (bytes : List (Fin 256))
  /-- CFG_STATUS (R446): CFG_STATUS returns the configuration state and result code. -/
  | cfgStatus
  /-- DBG_REG (R454): DBG_REG starts a 32-bit register read or write through the debug master. -/
  | dbgReg (dr : Nat)
  /-- DBG_MEM (R455): DBG_MEM starts a 64-bit access to DRAM, scratchpad, frame readback or slice memory. -/
  | dbgMem (dr : Nat)
  /-- DBG_ATTACH (R458): DBG_ATTACH issues a debug-attach command to a slice or soft core. -/
  | dbgAttach (dr : Nat)
  /-- DEBUG_ACCESS_DONE (R456): A debug master access completes with data and code, after any borrowed scrub step or stolen slice cycle. -/
  | debugAccessDone (mem : Bool)
  /-- DB_HALT (R451): DB_CTRL.HALT requests a debug halt, latched at the next tick. -/
  | dbHalt
  /-- DB_RESUME (R451): DB_CTRL.RESUME requests a return to RUN, latched at the next tick. -/
  | dbResume
  /-- DB_STEP (R451): DB_CTRL.STEP requests one credited frame, latched at the next tick. -/
  | dbStep
  /-- RUN_CONTROL_LATCH (R451): A latched HALT, RESUME or STEP moves run control, and a HALT gives every running reel its debug halt. -/
  | runControlLatch
  /-- HALTED_ENTRY (R451): When every reel is IDLE or HOLDING and no catch block compares or drains, or HALT_WAIT passes, run control enters HALTED at the next tick. -/
  | haltedEntry
  /-- SEQ_ARM (R450): Setting SEQ_ARM puts the trigger sequencer in state 0 with its counts cleared. -/
  | seqArm (on : Bool)
  /-- DB_CLEAR_COUNTS (R461): DB_CTRL.CLEAR_COUNTS clears every comparator HITS and SQ_COUNT. -/
  | dbClearCounts
  /-- DA_ATTACH (R457): DA_CMD ATTACH attaches a slice or soft core of a region. -/
  | daAttach (k : Fin 64) (t : Fin 128)
  /-- DA_DETACH (R457): DA_CMD DETACH releases halted targets and clears the region's attach when none remains. -/
  | daDetach (k : Fin 64) (t : Fin 128)
  /-- DA_HALT (R457): DA_CMD HALT puts the target in DEBUG_HALT at its next instruction boundary. -/
  | daHalt (k : Fin 64) (t : Fin 128)
  /-- DA_STEP (R457): DA_CMD STEP issues one instruction from DEBUG_HALT. -/
  | daStep (k : Fin 64) (t : Fin 128)
  /-- DA_RELEASE (R457): DA_CMD RELEASE takes the target out of DEBUG_HALT. -/
  | daRelease (k : Fin 64) (t : Fin 128)
  /-- DA_READ (R457): DA_CMD READ reads the target's state at ADDR into DA_DATA. -/
  | daRead (k : Fin 64) (t : Fin 128) (a : Fin 256)
  /-- DA_WRITE (R457): DA_CMD WRITE writes DA_DATA at ADDR of a halted target. -/
  | daWrite (k : Fin 64) (t : Fin 128) (a : Fin 256)
  /-- DA_ACK (R459): The fabric acknowledges a soft-core debug command with data and code. -/
  | daAck (code : Fin 65536) (data : Nat)
  /-- DA_TIMEOUT (R459): A soft-core command with no DA_ACK within 2^16 core cycles completes ABORTED. -/
  | daTimeout
  /-- CHECKER_TEST (R468): In core cycles N - 16 to N - 1 of a credited frame the compare and delay cross-checkers are tested with known inputs. -/
  | checkerTest (n : Fin 16) (cmpFails dlyFails : Bool)
  /-- EA_CLEAR_COUNTS (R474): EA_CTRL.CLEAR_COUNTS clears the event aggregation counters and first-fault latch. -/
  | eaClearCounts
  /-- INJ_DISAGREE (R469): Arms CB_INJECT.INJ_DISAGREE to invert bit 0 of copy B's fail mask on the next compared word of LANE. -/
  | injDisagree (n : Fin 16) (v : Nat)
  /-- INJ_DELAY (R469): Arms CB_INJECT.INJ_DELAY to invert bit 0 of a lane's working delay copy. -/
  | injDelay (n : Fin 16) (v : Nat)
  /-- INJ_TEMP (R469): Arms RG_INJECT.INJ_TEMP to add 32 degrees C to the region's next sensor reading. -/
  | injTemp (n : Fin 64) (v : Nat)
  /-- INJ_BIAS (R469): Arms RG_INJECT.INJ_BIAS to offset the bias monitor by 40 mV for 12 us. -/
  | injBias (n : Fin 64) (v : Nat)
  /-- INJ_BCLK (R469): Arms RG_INJECT.INJ_BCLK to fail the named RELATED group at the next boundary check. -/
  | injBclk (n : Fin 64) (v : Nat)
  /-- INJ_OPMEM (R469): Arms SL_INJECT.INJ_OPMEM to invert the parity of the next sequencer operand read. -/
  | injOpmem (k : Fin 64) (t : Fin 96) (v : Nat)
  /-- INJ_PROG (R469): Arms SL_INJECT.INJ_PROG to invert the parity of the next instruction fetch. -/
  | injProg (k : Fin 64) (t : Fin 96) (v : Nat)
  /-- INJ_AUTH (R469): Arms CFG_INJECT.INJ_AUTH to fail the next segment tag or CRC comparison. -/
  | injAuth (v : Nat)
  /-- INJ_CHECK (R469): Arms CFG_INJECT.INJ_CHECK to fail the next CHECK comparison. -/
  | injCheck (v : Nat)
  /-- INJ_SINGLE (R469): Arms SCRUB_INJECT.INJ_SINGLE to invert one bit of the next checked frame as read. -/
  | injSingle (v : Nat)
  /-- INJ_DOUBLE (R469): Arms SCRUB_INJECT.INJ_DOUBLE to invert two bits of the next checked frame as read. -/
  | injDouble (v : Nat)
  /-- INJ_PARITY (R469): Arms NR_INJECT.INJ_PARITY to invert the parity of the next flit sent on a mesh port. -/
  | injParity (n : Fin 120) (v : Nat)
  /-- NR_INJ_TIMEOUT (R469): Arms NR_INJECT.INJ_TIMEOUT so the next request of a local port times out at injection. -/
  | nrInjTimeout (n : Fin 120) (v : Nat)
  /-- INJ_CE (R469): Arms DC_INJECT.INJ_CE to invert one device's contribution of the next line read. -/
  | injCe (n : Fin 8) (v : Nat)
  /-- INJ_UE (R469): Arms DC_INJECT.INJ_UE to invert two devices' contributions of the next line read. -/
  | injUe (n : Fin 8) (v : Nat)
  /-- INJ_REFMISS (R469): Arms DC_INJECT.INJ_REFMISS so the next DDR_REFRESH window issues no REFsb. -/
  | injRefmiss (n : Fin 8) (v : Nat)
  /-- INJ_TAG (R469): Arms EN_INJECT.INJ_TAG so the next protected line read fails its check. -/
  | injTag (v : Nat)
  /-- INJ_REFUSE (R469): Arms EN_INJECT.INJ_REFUSE so the next key operation is refused with reason INJECTED. -/
  | injRefuse (v : Nat)
  /-- INJ_BIP (R469): Arms LG_INJECT.INJ_BIP so the next marker on a lane fails its BIP check in one bit. -/
  | injBip (n : Fin 18) (v : Nat)
  /-- INJ_LOCK (R469): Arms LG_INJECT.INJ_LOCK so a lane loses and reacquires block lock. -/
  | injLock (n : Fin 18) (v : Nat)
  /-- INJ_SLIP (R469): Arms LG_INJECT.INJ_SLIP so a lane's elastic buffer slips once. -/
  | injSlip (n : Fin 18) (v : Nat)
  /-- INJ_CRC (R469): Arms MS_INJECT.INJ_CRC so the next PACKET frame sent on a link carries a wrong CRC-32. -/
  | injCrc (v : Nat)
  /-- INJ_ACK_DROP (R469): Arms MS_INJECT.INJ_ACK_DROP so the next ACK block received on a link is discarded. -/
  | injAckDrop (v : Nat)
  /-- INJ_TIME_MISS (R469): Arms MS_INJECT.INJ_TIME_MISS so the next TIME frame received on a link is discarded. -/
  | injTimeMiss (v : Nat)
  /-- INJ_FETCH (R469): Arms HI_INJECT.INJ_FETCH so the next descriptor read of a ring fails. -/
  | injFetch (v : Nat)
  /-- INJ_DOORBELL (R469): Arms HI_INJECT.INJ_DOORBELL so the next command doorbell of a ring fails its check. -/
  | injDoorbell (v : Nat)
  /-- DP_INJ_TIMEOUT (R469): Arms DP_INJECT.INJ_TIMEOUT so the next job dispatched to a worker times out at once. -/
  | dpInjTimeout (v : Nat)
  /-- INJ_LOST (R469): Arms DP_INJECT.INJ_LOST so the next dispatch write to a worker is treated as returned ROLE_MOVED. -/
  | injLost (v : Nat)
  /-- INJ_ECC1 (R469): Arms SP_INJECT.INJ_ECC1 so the next scratchpad read returns one lane with one bit inverted. -/
  | injEcc1 (v : Nat)
  /-- INJ_ECC2 (R469): Arms SP_INJECT.INJ_ECC2 so the next scratchpad read returns one lane with two bits inverted. -/
  | injEcc2 (v : Nat)
  /-- INJ_MARCH (R469): Arms SP_INJECT.INJ_MARCH so the next test step records a March C- failure. -/
  | injMarch (v : Nat)
  /-- INJ_LOSS (R469): Arms CK_INJECT.INJ_LOSS so a monitor sees no edge for one window. -/
  | injLoss (v : Nat)
  /-- INJ_BAND (R469): Arms CK_INJECT.INJ_BAND so a monitor's next window is out of band. -/
  | injBand (v : Nat)
  /-- INJ_DRAIN (R469): Arms PW_INJECT.INJ_DRAIN so the next power entry's drain is treated as incomplete. -/
  | injDrain (v : Nat)
  /-- TP_INJ_SENSOR (R469): Arms TP_INJECT.INJ_SENSOR so the named tamper sensors fire once. -/
  | tpInjSensor (v : Nat)
  /-- INJ_OVERRUN (R469): Arms FI_TICK_INJECT.INJ_OVERRUN so the next window to close reports incomplete. -/
  | injOverrun (v : Nat)
  /-- INJ_SYNC_MISS (R469): Arms FI_TICK_INJECT.INJ_SYNC_MISS so the next expected mark is treated as missing. -/
  | injSyncMiss (v : Nat)
  /-- INJ_UNDERRUN (R469): Arms FI_REEL_INJECT.INJ_UNDERRUN so the engine latches an underrun at its next word time. -/
  | injUnderrun (v : Nat)
  /-- INJ_FORMAT (R469): Arms FI_REEL_INJECT.INJ_FORMAT so the next operation header decodes as an invalid opcode. -/
  | injFormat (v : Nat)
  /-- INJ_SPLICE (R469): Arms FI_REEL_INJECT.INJ_SPLICE so the next splice vector needed is treated as absent. -/
  | injSplice (v : Nat)
  /-- INJ_CMP_CHECK (R469): Arms FI_CHECK_INJECT.INJ_CMP_CHECK so a block's next compare-checker test fails. -/
  | injCmpCheck (v : Nat)
  /-- INJ_DLY_CHECK (R469): Arms FI_CHECK_INJECT.INJ_DLY_CHECK so a block's next delay-checker test fails. -/
  | injDlyCheck (v : Nat)
  /-- INJ_MONITOR (R469): Arms FI_CHECK_INJECT.INJ_MONITOR so a monitor's next window ends in disagreement. -/
  | injMonitor (v : Nat)
  /-- FI_INJ_SENSOR (R469): Arms FI_CHECK_INJECT.INJ_SENSOR so a temperature sensor is judged stuck at its next reading. -/
  | fiInjSensor (v : Nat)
  /-- INJ_WATCHDOG (R469): Arms FI_CORE_INJECT.INJ_WATCHDOG so a core's watchdog expires at the next credited tick. -/
  | injWatchdog (v : Nat)
  /-- INJ_SCH_CONFLICT (R469): Arms FI_MISC_INJECT.INJ_SCH_CONFLICT so the next SCH flit at a router is delayed one cycle. -/
  | injSchConflict (v : Nat)
  /-- INJ_MR4 (R469): Arms FI_MISC_INJECT.INJ_MR4 so a channel's next MR4 read reports a doubled rate. -/
  | injMr4 (v : Nat)
  /-- INJ_RFM_FULL (R469): Arms FI_MISC_INJECT.INJ_RFM_FULL so a channel's next draw finds the queue full. -/
  | injRfmFull (v : Nat)
  /-- INJ_DESKEW (R469): Arms FI_MISC_INJECT.INJ_DESKEW so a group's next deskew fails on its highest lane. -/
  | injDeskew (v : Nat)
  /-- INJ_TRAIN_TIMEOUT (R469): Arms FI_MISC_INJECT.INJ_TRAIN_TIMEOUT so a group's next TRAINING raises LANE_TRAIN_TIMEOUT at once. -/
  | injTrainTimeout (v : Nat)
  /-- INJ_SLOW (R469): Arms FI_MISC_INJECT.INJ_SLOW so a link's next measured round trip is increased by 1.3 us. -/
  | injSlow (v : Nat)
  /-- POR_ASSERT (R476): A rail below threshold or POR_N low for over 1 us holds the device in POR. -/
  | porAssert (burnt : Fin 3)
  /-- POR_END (R476): POR ends 1 ms after its conditions clear, fuses are sensed and a DEVICE reset follows. -/
  | porEnd (bootsel : Fin 4)
  /-- DEVRST_N (R477): DEVRST_N held low for at least 1 us starts a DEVICE reset. -/
  | devrstN
  /-- DEVICE_RESET (R477): RS_CTRL.DEVICE_RESET with KEY A5h starts a DEVICE reset within 1 us. -/
  | deviceResetCmd (v : Nat)
  /-- PERST_N_RISE (R481): PERST_N going high lets the endpoint enter link training once MEMORY has begun. -/
  | perstNRise
  /-- BOOT_CLOCK (R478): Boot stage CLOCK starts the kindling oscillator, judges REFCLK0 and starts the CPLL. -/
  | bootClock (refclk : Bool) (code : Fin 1024)
  /-- BOOT_DIRECTORY (R480): Boot stage DIRECTORY reads the boot directory from the xSPI flash. -/
  | bootDirectory (readable : Bool)
  /-- BOOT_IMAGE (R480): Boot stage IMAGE chooses and verifies an image, decides Recovery and sets the core memory regions. -/
  | bootImage (goodA goodB : Bool) (verA verB : Fin 256) (regions : List (Nat × Nat × Nat × Nat))
  /-- BOOT_MEMORY (R481): Boot stage MEMORY brings up the PCIe endpoint and trains or restores every populated channel. -/
  | bootMemory (chans : List Machine.ChannelBoot)
  /-- BOOT_KEYS (R478): Boot stage KEYS provisions the slot blobs and sets HI_STATUS.READY. -/
  | bootKeys
  /-- BOOT_FABRIC (R483): Boot stage FABRIC loads the boot configuration stream, or its alternate, when BOOTSEL is 00b. -/
  | bootFabric
  /-- BOOT_SERVICE (R478): Boot stage SERVICE registers workers 0 to 3, sets the watchdog period and ember mode and BOOT_DONE. -/
  | bootService (exp timeout : Fin 21)
  /-- BOOT_WAIT_IMAGE (R482): With no runnable image the device brings up the link, sets READY and serves FW_WRITE only. -/
  | bootWaitImage
  /-- BOOT_WATCHDOG (R479): A boot stage exceeding its bound ends in a DEVICE reset by the boot watchdog. -/
  | bootWatchdog
  /-- VCCO_MEASURE (R488): Every 50 us each bank's VCCO is measured and mismatching outputs go to high impedance or resume. -/
  | vccoMeasure (b : Fin 8) (mv : Fin 4096)
  /-- CONTENTION_DETECT (R492): A driven pin disagreeing with its sensed level for 5 ns is shut and counted. -/
  | contentionDetect (b : Fin 8) (p : Fin 48) (sensed : Bool)
  /-- PIN_RETRY (R493): PIN_CTRL.RETRY re-enables a SHUT pin's driver at the next tick. -/
  | pinRetry (b : Fin 8) (p : Fin 48)
  /-- SENSE_TEST (R494): IO_TEST.SENSE_TEST presents an opposite sensed level for 8 ns and records whether the detector flagged it. -/
  | senseTest (b : Fin 8) (pin : Fin 64) (flagged : Bool)
  /-- STROBE_OPEN_CHECK (R495): 16 to 19 ns into a checked STROBE pulse the driver measures its load current and records CONNECTED or OPEN. -/
  | strobeOpenCheck (b : Fin 8) (p : Fin 4) (connected : Bool)
  /-- BK_CLEAR_COUNTS (R508): BK_CTRL.CLEAR_COUNTS clears the bank, diagnosis and contention counters. -/
  | bkClearCounts (b : Fin 8)
  /-- BLOCK_LOCK_ACQUIRED (R296): A receiver gains block lock after 64 consecutive valid sync headers. -/
  | blockLockAcquired (g : Fin 18) (i : Fin 8)
  /-- PRBS_CHECKER_SYNC (R303): The PRBS checker synchronises itself to the partner's pattern and sets RX_LOCK, after which it counts bits and errors. -/
  | prbsCheckerSync (g : Fin 18) (i : Fin 8) (n : List Bool) (e : Unit)
  /-- PCIE_LINK_UP (R481): PCIe link training completes, HI_STATUS.LINK_UP sets and the device becomes a gateway where group 16 holds PCIE. -/
  | pcieLinkUp (width : Fin 3) (speed : Fin 6)
  /-- DDR_SELF_REFRESH_ENTERED (R259): A channel's self-refresh entry completes after the drain, write-back, precharge, REFab and clock stop, and the channel becomes SELF_REFRESH. -/
  | ddrSelfRefreshEntered (c : Fin 8)
  /-- FAIL_PORT_SNAPSHOT (R112): A CF_CLK edge of region n takes a whole snapshot of the fail signals accumulated since the previous edge and restarts accumulation. -/
  | failPortSnapshot (n : Fin 16)
  /-- BIAS_FAULT_CLEARED (R149): Once the body bias has stayed within 25 mV of its target for 10 us, BIAS_FAULT and the edges' EDGE_SUSPECT clear. -/
  | biasFaultCleared (k : Fin 64) (measured : Fin 1024)
  /-- LINK_SIGNAL_DETECTED (R320): A QUIET mesh link whose peer starts transmitting detects signal and activates its lanes, returning the link to UP. -/
  | linkSignalDetected (l : Fin 144)
  deriving DecidableEq, Repr

end Sys2Proof
end

