-- ==== Sys2Proof/Machine/Aes.lean ====
section
/-! DEFINITION. The ciphers that the spec names by their standards, over lists of byte values: AES-256
(R271, R272, R184), XTS-AES-256 with a 4,096-byte data unit (R271), GHASH and GCM (R185, R273), CMAC and
the counter-mode key derivation (R184, R432), and AES key wrap (R280, R433). The standards are not part of
the spec: log entry 7, PRESUMED. -/

namespace Sys2Proof.Machine

/-- Multiplication by x in the field of AES. -/
def aesX (a : Nat) : Nat := if a < 128 then 2 * a else (2 * a) ^^^ 0x11B

/-- Multiplication in the field of AES. -/
def aesMul (a b : Nat) : Nat :=
  ((List.range 8).foldl (fun (p : Nat × Nat) i => (if b.testBit i then p.1 ^^^ p.2 else p.1, aesX p.2)) (0, a)).1

/-- The inverse in the field of AES, 0 for 0: the power 254. -/
def aesInv (a : Nat) : Nat :=
  ((List.range 7).foldl (fun (p : Nat × Nat) _ => let q := aesMul p.2 p.2; (aesMul p.1 q, q)) (1, a)).1

/-- A byte rotated left by k. -/
def rotByte (a k : Nat) : Nat := (a * 2 ^ k) % 256 ||| (a / 2 ^ (8 - k))

/-- The byte substitution of AES. -/
def aesSub (a : Nat) : Nat :=
  let i := aesInv a
  i ^^^ rotByte i 1 ^^^ rotByte i 2 ^^^ rotByte i 3 ^^^ rotByte i 4 ^^^ 0x63

/-- The inverse byte substitution of AES. -/
def aesUnsub (a : Nat) : Nat := aesInv (rotByte a 1 ^^^ rotByte a 3 ^^^ rotByte a 6 ^^^ 5)

/-- The bitwise exclusive or of two lists of bytes. -/
def xorBytes (a b : List Nat) : List Nat := List.zipWith (· ^^^ ·) a b

/-- The words of the AES-256 key schedule, newest first; k more words. -/
def aesExpand : Nat → List (List Nat) → List (List Nat)
  | 0, ws => ws
  | k + 1, ws =>
    let i := ws.length
    let last := ws.headD []
    let t :=
      if i % 8 = 0 then
        xorBytes ((last.drop 1 ++ last.take 1).map aesSub) [2 ^ (i / 8 - 1), 0, 0, 0]
      else if i % 8 = 4 then last.map aesSub
      else last
    aesExpand k (xorBytes (ws.getD 7 []) t :: ws)

/-- The 15 round keys of a 32-byte key, first to last. -/
def aesKeys (key : List Nat) : List (List Nat) :=
  let w := (aesExpand 52 ((List.range 8).map fun i => (key.drop (4 * i)).take 4).reverse).reverse
  (List.range 15).map fun r => ((w.drop (4 * r)).take 4).flatten

/-- Row r of column c of the state comes from column c + r. -/
def shiftRows (b : List Nat) : List Nat :=
  (List.range 16).map fun i => b.getD ((i + 4 * (i % 4)) % 16) 0

/-- The inverse of the row shift. -/
def unshiftRows (b : List Nat) : List Nat :=
  (List.range 16).map fun i => b.getD ((i + 16 - 4 * (i % 4)) % 16) 0

/-- The column mix with the coefficients c. -/
def mixWith (c : List Nat) (b : List Nat) : List Nat :=
  (List.range 16).map fun i =>
    (List.range 4).foldl (fun x k => x ^^^ aesMul (b.getD (i / 4 * 4 + (i + k) % 4) 0) (c.getD k 0)) 0

/-- AES-256 enciphers a block of 16 bytes. -/
def aesEnc (key block : List Nat) : List Nat :=
  let ks := aesKeys key
  let mid := (ks.drop 1).take 13
  let s := mid.foldl (fun s k => xorBytes (mixWith [2, 3, 1, 1] (shiftRows (s.map aesSub))) k)
    (xorBytes block (ks.headD []))
  xorBytes (shiftRows (s.map aesSub)) (ks.getD 14 [])

/-- AES-256 deciphers a block of 16 bytes. -/
def aesDec (key block : List Nat) : List Nat :=
  let ks := aesKeys key
  let mid := ((ks.drop 1).take 13).reverse
  let s := mid.foldl (fun s k => mixWith [14, 11, 13, 9] (xorBytes ((unshiftRows s).map aesUnsub) k))
    (xorBytes block (ks.getD 14 []))
  xorBytes ((unshiftRows s).map aesUnsub) (ks.headD [])

/-- n bytes of a number, least significant first. -/
def leBytes (v : Nat) : Nat → List Nat
  | 0 => []
  | n + 1 => v % 256 :: leBytes (v / 256) n

/-- The number of a list of bytes, least significant first. -/
def leNat (b : List Nat) : Nat := b.foldr (fun x v => x + 256 * v) 0

/-- n bytes of a number, most significant first. -/
def beBytes (v n : Nat) : List Nat := (leBytes v n).reverse

/-- The number of a list of bytes, most significant first. -/
def beNat (b : List Nat) : Nat := b.foldl (fun v x => v * 256 + x) 0

/-- The XTS tweak times the j-th power of the primitive element. -/
def xtsTweak (t : Nat) : Nat → Nat
  | 0 => t
  | j + 1 =>
    let u := 2 * xtsTweak t j
    if u < 2 ^ 128 then u else (u % 2 ^ 128) ^^^ 0x87

/-- One line of a sector under XTS-AES-256 (R271): f is aesEnc or aesDec; key holds Key1 then Key2. -/
def xtsLine (f : List Nat → List Nat → List Nat) (key : List Nat) (lsn line : Nat) (data : List Nat) : List Nat :=
  let t := leNat (aesEnc (key.drop 32) (leBytes lsn 16))
  ((List.range 4).map fun b =>
    let m := leBytes (xtsTweak t (4 * line + b)) 16
    xorBytes (f (key.take 32) (xorBytes ((data.drop (16 * b)).take 16) m)) m).flatten

/-- The product of two blocks in GHASH, as numbers with the first byte most significant. -/
def ghashMul (x y : Nat) : Nat :=
  ((List.range 128).foldl (fun (p : Nat × Nat) i =>
    (if x.testBit (127 - i) then p.1 ^^^ p.2 else p.1,
     if p.2 % 2 = 1 then (p.2 / 2) ^^^ (0xE1 * 2 ^ 120) else p.2 / 2)) (0, y)).1

/-- The 16-byte blocks of a list of bytes, the last one filled with zeros; k blocks at most. -/
def blocksOf : Nat → List Nat → List (List Nat)
  | 0, _ => []
  | _, [] => []
  | k + 1, b => ((b.take 16) ++ List.replicate (16 - (b.take 16).length) 0) :: blocksOf k (b.drop 16)

/-- GHASH of additional data a and ciphertext c under hash key h (R185, R273). -/
def ghash (h : Nat) (a c : List Nat) : Nat :=
  let bs := blocksOf a.length a ++ blocksOf c.length c ++ [beBytes (8 * a.length) 8 ++ beBytes (8 * c.length) 8]
  bs.foldl (fun y b => ghashMul (y ^^^ beNat b) h) 0

/-- The key stream of GCM from counter block j0 on, exclusive-or-ed with the data. -/
def gcmCtr (key : List Nat) (j0 : List Nat) (data : List Nat) : List Nat :=
  let ctr := beNat (j0.drop 12)
  (((blocksOf data.length data).zipIdx.map fun (b, i) =>
    xorBytes b (aesEnc key (j0.take 12 ++ beBytes ((ctr + 1 + i) % 2 ^ 32) 4))).flatten).take data.length

/-- GCM with a 96-bit IV deciphers c with additional data a, when the 16-byte tag is right (R185). -/
def gcmOpen (key iv a c tag : List Nat) : Option (List Nat) :=
  let h := beNat (aesEnc key (List.replicate 16 0))
  let j0 := iv ++ [0, 0, 0, 1]
  if beBytes (ghash h a c ^^^ beNat (aesEnc key j0)) 16 = tag then some (gcmCtr key j0 c) else none

/-- AES-256-CMAC (R184). -/
def cmac (key msg : List Nat) : List Nat :=
  let dbl (v : Nat) : Nat := if v < 2 ^ 127 then 2 * v else (2 * v % 2 ^ 128) ^^^ 0x87
  let k1 := dbl (beNat (aesEnc key (List.replicate 16 0)))
  let n := (msg.length + 15) / 16 - 1
  let head := msg.take (16 * n)
  let tail := msg.drop (16 * n)
  let last :=
    if tail.length = 16 then beNat tail ^^^ k1
    else beNat (tail ++ [0x80] ++ List.replicate (15 - tail.length) 0) ^^^ dbl k1
  let y := (blocksOf head.length head).foldl (fun y b => aesEnc key (xorBytes y b)) (List.replicate 16 0)
  aesEnc key (xorBytes y (beBytes last 16))

/-- The key derivation of R184 with L = 256 bits: label and context are the bytes between [i] and [256]. -/
def kdf (key mid : List Nat) : List Nat :=
  let prf (i : Nat) := cmac key (beBytes i 4 ++ mid ++ beBytes 256 4)
  prf 1 ++ prf 2

/-- The steps of an AES key unwrap: A, the registers, and the counts t left, highest first. -/
def kwSteps (key : List Nat) (n : Nat) : Nat → List Nat × List (List Nat) → List Nat × List (List Nat)
  | 0, x => x
  | t + 1, (a, r) =>
    let i := t % n
    let b := aesDec key (beBytes (beNat a ^^^ (t + 1)) 8 ++ r.getD i [])
    kwSteps key n t (b.take 8, r.set i (b.drop 8))

/-- AES key unwrap of n + 1 semiblocks (R280, R433): the n semiblocks of the plaintext when the integrity
check passes. -/
def kwOpen (key wrapped : List Nat) : Option (List Nat) :=
  let n := wrapped.length / 8 - 1
  let r := (List.range n).map fun i => (wrapped.drop (8 * (i + 1))).take 8
  let (a, r) := kwSteps key n (6 * n) (wrapped.take 8, r)
  if a = List.replicate 8 0xA6 then some r.flatten else none

end Sys2Proof.Machine
end

