-- ==== Sys2Proof/Machine/Design.lean ====
section
/-! DEFINITION. The design of a region's fabric, as its configuration frames give it (chapter 06): cell clusters,
memories, clock lines and boundary groups. How frame bits select these the spec does not say: Config.fabric reads them
(log entry 79). The numbers of R131 are in the types. -/

namespace Sys2Proof.Machine

/-- A flag of a block memory: of its FIFO (R137, R138), or of its last SECDED read. -/
inductive MemFlag where
  | full
  | empty
  | threshold
  | overflow
  | single
  | double
  deriving DecidableEq, Repr

/-- A one-bit signal inside a region. Cluster site x is column x ÷ 100, row x mod 100 (R131). -/
inductive Sig where
  /-- A constant. -/
  | const (b : Bool)
  /-- Output of a LUT; the second one of two functions of five inputs (R132). -/
  | lut (site : Fin 10500) (l : Fin 8) (second : Bool)
  /-- A flip-flop (R133). -/
  | ff (site : Fin 10500) (f : Fin 16)
  /-- A result bit of a cluster's carry chain, and the carry out of its eighth bit (R134). -/
  | sum (site : Fin 10500) (b : Fin 8)
  | carry (site : Fin 10500)
  /-- A bit that a block memory's port reads, 0 A, 1 B, 2 and 3 those of a second half, and a flag (R137). -/
  | bram (m : Fin 160) (port : Fin 4) (b : Fin 72)
  | bramFlag (m : Fin 160) (port : Fin 4) (f : MemFlag)
  /-- A bit that a deep memory reads, and its flags (R139). -/
  | deep (m : Fin 24) (b : Fin 72)
  | deepFlag (m : Fin 24) (f : MemFlag)
  /-- A bit of a boundary group that the region receives (R143, R144). -/
  | edge (e : Fin 4) (g : Fin 48) (b : Fin 64)
  /-- The acknowledge of a HANDSHAKE group that the region sends (R144). -/
  | ack (e : Fin 4) (g : Fin 48)
  /-- EDGE_STALE[e], as a receiving line that uses the edge registers it (R147). -/
  | stale (e : Fin 4) (line : Fin 24)
  /-- A signal of hard logic to the fabric: its port and bit, as hardWord numbers them. -/
  | hard (port : Nat) (b : Nat)
  deriving DecidableEq, Repr

/-- What a LUT is used as (R132, R135). -/
inductive LutUse where
  | logic
  | ram64
  | ram32
  | shift
  deriving DecidableEq, Repr

/-- One LUT: its function or initial contents, its inputs, low first; in a memory cluster its writing side. -/
structure LutCfg where
  /-- 64 entries; with split, the function of the first output in bits 31:0, of the second in bits 63:32. -/
  table : Nat := 0
  ins : List Sig := []
  split : Bool := false
  use : LutUse := .logic
  /-- The clock of the control set that writes, the write enable and the data: one bit, or two for a 32 × 2 RAM. -/
  clk : Fin 2 := 0
  we : Sig := .const false
  data : List Sig := []
  /-- Bits of a shift register, 1 to 32, and whether it takes its data from the LUT below it. -/
  len : Nat := 32
  chained : Bool := false
  deriving DecidableEq, Repr

/-- A flip-flop: its D input, its initial value and the value its set/reset gives (R133). -/
structure FfCfg where
  d : Sig := .const false
  init : Bool := false
  sr : Bool := false
  deriving DecidableEq, Repr

/-- What a group of 4 flip-flops takes from the control set, and whether its set/reset is asynchronous (R132, R133). -/
structure FfGroup where
  clk : Fin 2 := 0
  ce : Fin 4 := 0
  sr : Fin 2 := 0
  async : Bool := false
  deriving DecidableEq, Repr

/-- What a carry chain does (R134). -/
inductive CarryOp where
  | add
  | subtract
  | compare
  deriving DecidableEq, Repr

/-- The carry chain of a cluster: 8 bits of each operand, low first, and the carry in, unless the cluster below
supplies it (R134). -/
structure CarryCfg where
  op : CarryOp := .add
  a : List Sig := []
  b : List Sig := []
  cin : Sig := .const false
  chained : Bool := false
  deriving DecidableEq, Repr

/-- A cell cluster (R132): its control set of 2 clock lines, 4 enables and 2 set/resets; its four groups; its LUTs,
flip-flops and carry chain. -/
structure ClusterCfg where
  site : Fin 10500
  clks : Fin 24 × Fin 24 := (0, 0)
  ces : List Sig := []
  srs : List Sig := []
  groups : List FfGroup := []
  luts : List (Fin 8 × LutCfg) := []
  ffs : List (Fin 16 × FfCfg) := []
  carry : Option CarryCfg := none
  deriving DecidableEq, Repr

/-- Modes of a block memory (R137). -/
inductive BramMode where
  | trueDual
  | simpleDual
  | split
  | fifo
  deriving DecidableEq, Repr

/-- What a port returns when its word is written (R138). -/
inductive WriteMode where
  | readFirst
  | writeFirst
  | noChange
  deriving DecidableEq, Repr

/-- A port of a fabric memory: clock line, enable, a write enable for each 9-bit lane, address and data, low first; its
width, write mode and output register; in a cascade its place and the upper address bits (R137, R139). -/
structure PortCfg where
  line : Fin 24 := 0
  en : Sig := .const false
  we : List Sig := []
  addr : List Sig := []
  din : List Sig := []
  width : Nat := 36
  mode : WriteMode := .readFirst
  outReg : Bool := false
  place : Option Nat := none
  upper : List Sig := []
  deriving DecidableEq, Repr

/-- A block memory (R137, R138): its mode, its ports by number, SECDED, COLLISION_PRIORITY, the FIFO threshold, and its
contents, 9-bit lane n in bits 9n + 8 to 9n. -/
structure BramCfg where
  mode : BramMode := .trueDual
  ports : List (Fin 4 × PortCfg) := []
  secded : Bool := false
  prioB : Bool := false
  threshold : Nat := 0
  init : Nat := 0
  deriving DecidableEq, Repr

/-- A deep memory (R139): a write port and a read port of one width. -/
structure DeepCfg where
  write : PortCfg := {}
  read : PortCfg := {}
  secded : Bool := false
  init : Nat := 0
  deriving DecidableEq, Repr

/-- Sources of a regional clock line (R141): output j of FPLLp; the core clock divided by 2, 3 or 4; clock-capable input
i of the adjacent I/O bank. -/
inductive ClockSrc where
  | fpll (p : Fin 12) (j : Fin 4)
  | core (d : Fin 3)
  | input (i : Fin 4)
  deriving DecidableEq, Repr

/-- Modes of a boundary group (R144). -/
inductive GroupMode where
  | related
  | sync2
  | gray
  | handshake
  deriving DecidableEq, Repr

/-- The design of a region (R131, R141, R144, R154). -/
structure FabricDesign where
  /-- Clock lines: source and enable. -/
  lines : List (Fin 24 × ClockSrc × Sig) := []
  clusters : List ClusterCfg := []
  brams : List (Fin 160 × BramCfg) := []
  deeps : List (Fin 24 × DeepCfg) := []
  /-- Boundary groups that the region receives: edge, group, mode and receiving line. -/
  receives : List (Fin 4 × Fin 48 × GroupMode × Fin 24) := []
  /-- Boundary groups that it sends: edge, group, driving line and the 64 signals, low first. -/
  sends : List (Fin 4 × Fin 48 × Fin 24 × List Sig) := []
  /-- The regional clock of the fabric side of its ports (R142). -/
  ports : List (Fin 2 × Fin 24) := []
  /-- The SL_CLK and SL_PCLK lines of its slices. -/
  slices : List (Fin 96 × Fin 24 × Fin 24) := []
  deriving DecidableEq, Repr, Inhabited

end Sys2Proof.Machine
end

