-- ==== Sys2Proof/Config.lean ====
section
/-! DEFINITION. What an implementation fixes and the spec leaves open: the free values, and the root key
that each device carries. None of them has a body, so nothing can be proved of their values (log entries 6,
7, 79 and 81). -/

namespace Sys2Proof.Config

/-- The free value number n: a value the device draws and the spec does not fix (R254). -/
opaque freeValue : Nat → Nat

/-- Byte i of the device-unique root key (R431). -/
opaque rootKey : Nat → Nat

/-- The accumulated activates at which a bank that requires refresh management takes no further one, and what a
refresh-management command takes from its count: the DRAM declares both (R254). -/
opaque raaMax : Nat → Nat
opaque raaStep : Nat → Nat

/-- The design that the frames of a region hold, by frame index and contents: the frame encoding is not given (R173,
log entry 79). -/
opaque fabric : List (Nat × Nat) → Machine.FabricDesign

/-- May the LUTs of a cluster site act as memory, as far as 2,625 sites of a region do (R135)? The spec does not place them. -/
opaque memoryCluster : Nat → Bool

/-- Has source n of clock lines a rising edge in a core cycle, and how many picoseconds after the cycle's start: no
frequency of an FPLL output or of a bank's input is tied to the core clock (R141). Those of an FPLL output are the edges before its edge keeper (R405). Output j of FPLLp is 4p + j, input i
of bank b is 48 + 4b + i. -/
opaque edgeAt : Nat → Nat → Option Nat

/-- What a signal that nothing drives, or that runs in a combinational loop, reads as in a core cycle. -/
opaque floating : Nat → Bool

/-- Does a 9-bit lane read in the same half nanosecond in which it is written return its new value (R138): region,
memory, lane, core cycle? -/
opaque laneNew : Nat → Nat → Nat → Nat → Bool

/-- The bits of a boundary group that a synchronising stage takes one receiving cycle late (R144): region, 48 × edge +
group, core cycle. -/
opaque lateBits : Nat → Nat → Nat → Nat

/-- What a RELATED group on a suspect edge captures of a value presented (R148): region, 48 × edge + group, core cycle, value. -/
opaque suspectValue : Nat → Nat → Nat → Nat → Nat

/-- The block slot of each period in which a group sends its markers, and the state from which the scrambler of a lane
starts (R292, R295). -/
opaque markerSlot : Nat → Nat
opaque scramblerStart : Nat → Nat

/-- The block slot of every 2,048 in which the lanes of a group send the IDLE block over and above their traffic (R298). -/
opaque idleSlot : Nat → Nat

/-- The bits from which the PRBS generator of a lane starts (R303). -/
opaque prbsStart : Nat → Nat

/-- Phintipo's PCI-SIG vendor ID (R332). -/
opaque vendorId : Nat

end Sys2Proof.Config
end

