-- ==== Sys2Proof/Machine/Field.lean ====
section
/-! DEFINITION. What a register field is (R9 to R13): its place in its register, its access code, its
reset value, when a write takes effect, and its reset domain; and what a row of the register map is (R509). -/

namespace Sys2Proof.Machine

/-- The access codes of R9. No field of the map has the code RC. -/
inductive Acc where
  | rw | ro | w1c | w1s | wo | rwf | fuse
  deriving DecidableEq, Repr

/-- When a write takes effect (R12). -/
inductive Eff where
  | write | tick | fix | none
  deriving DecidableEq, Repr

/-- The reset domains of R13. -/
inductive Dom where
  | por | device | link | region
  deriving DecidableEq, Repr

/-- A non-reserved field of a register. The id numbers the fields in the order of the register tables. -/
structure Fld where
  id : Nat
  hi : Nat
  lo : Nat
  acc : Acc
  rst : Nat
  eff : Eff
  dom : Dom
  deriving DecidableEq, Repr

/-- A register of the map (R509): the BAR0 offset of its first instance, the stride and number of its
block's instances, the stride and length of its own index or indices, its width, and its fields. -/
structure RegRow where
  off : Nat
  inst : List (Nat × Nat)
  dims : List (Nat × Nat)
  width : Nat
  fields : List Fld
  deriving DecidableEq, Repr

end Sys2Proof.Machine
end

