-- ==== Sys2Proof/Machine/Sparse.lean ====
section
/-! DEFINITION. Sparse tables of plain data: lists of (key, entry) pairs, keys strictly rising, with no
entry equal to what an unlisted key reads as, so that equal tables are equal lists. -/

namespace Sys2Proof.Machine

variable {α : Type}

/-- The entry of key k; the default where none is listed. -/
def sget (d : α) : List (Nat × α) → Nat → α
  | [], _ => d
  | (a, w) :: t, k => if a = k then w else sget d t k

/-- The table without key k. -/
def serase : List (Nat × α) → Nat → List (Nat × α)
  | [], _ => []
  | (a, w) :: t, k => if a = k then serase t k else (a, w) :: serase t k

/-- The table with entry v at key k. -/
def sins : List (Nat × α) → Nat → α → List (Nat × α)
  | [], k, v => [(k, v)]
  | (a, w) :: t, k, v =>
      if k < a then (k, v) :: (a, w) :: t
      else if k = a then (k, v) :: t
      else (a, w) :: sins t k v

/-- The table after writing v at key k; an entry equal to the default is removed. -/
def sput [DecidableEq α] (d : α) (m : List (Nat × α)) (k : Nat) (v : α) : List (Nat × α) :=
  if v = d then serase m k else sins m k v

/-- Every key of the table is above b, and the keys rise. -/
def srise (b : Nat) : List (Nat × α) → Bool
  | [] => true
  | (a, _) :: t => decide (b < a) && srise a t

/-- The canonical form: keys strictly rising, no entry equal to the default. -/
def swf [DecidableEq α] (d : α) : List (Nat × α) → Bool
  | [] => true
  | (a, w) :: t => decide (w ≠ d) && srise a t && swf d t

end Sys2Proof.Machine
end

