-- ==== Sys2Proof/Machine/Types.lean ====
section
/-! DEFINITION. The plain data of the state that no register holds: the structured, hidden state of the
units of the device, chapter by chapter. INVENTORY.md lists it. -/

namespace Sys2Proof.Machine

/-- A byte memory: (address, byte) pairs in canonical form; an unlisted byte reads 0 (log entry 4). -/
abbrev Mem := List (Nat × Byte)

/-- The canonical form of a byte memory: addresses strictly rising, no byte that reads as an unlisted one. -/
def Memory.wf (m : Mem) : Bool := swf (0 : Byte) m

/-- A write to a field that takes effect at the next tick (R12). -/
structure FieldWrite where
  fld : Fld
  i : Nat
  j : Nat
  v : Nat
  deriving DecidableEq, Repr

/-! Events (chapters 15 and 22). -/

/-- A record waiting in the event FIFO (R463, R464). -/
structure EvRec where
  id : Nat
  cls : Nat
  injected : Bool
  inst : Nat
  tick : Nat
  off : Nat
  dev : Nat
  seq : Nat
  arg : Nat
  deriving DecidableEq, Repr

/-- The event path: the FIFO (R464), the sequence number of the next stamp (R53), the records not yet
reported by EVENTS_LOST (R341), and the once-per-frame events already written in this frame (R466). -/
structure EvSt where
  fifo : List EvRec := []
  seq : Nat := 0
  lostRun : Nat := 0
  once : List (Nat × Nat) := []
  deriving DecidableEq, Repr

/-! The tick engine (chapter 02). -/

/-- How ACQUIRING was entered (R49). -/
inductive AcqFrom where
  | arm | degraded
  deriving DecidableEq, Repr

/-- A window that is open in the current frame: its entry index in the frame, its type, unit, closing
core cycle, and whether its action has completed (R41, R42). -/
structure OpenWin where
  idx : Nat
  type : Nat
  unit : Nat
  param : Nat
  last : Nat
  complete : Bool
  deriving DecidableEq, Repr

/-- The hidden state of the tick engine: alignment, the status of the current frame, and its windows. -/
structure TickSt where
  /-- The core cycles of all earlier frames. -/
  base : Nat := 0
  /-- The core cycles that the fabric has been through (R133). -/
  fabric : Nat := 0
  /-- How ACQUIRING was entered (R49). -/
  acqFrom : AcqFrom := .arm
  /-- In ACQUIRING: the count or the phase has been set, and marks are being judged (R49). -/
  phaseSet : Bool := false
  /-- Consecutive marks within one core cycle (R49). -/
  closeMarks : Nat := 0
  /-- Consecutive marks missed (R49). -/
  missRun : Nat := 0
  /-- Marks counted while DEGRADED and until the tick number is set (R51). -/
  marksFrozen : Nat := 0
  /-- The core PLL is stable again and the tick number is still to be set (R51). -/
  awaitTick : Bool := false
  /-- A write set ARM and changed MODE; it is judged at the tick (R49). -/
  armAtTick : Bool := false
  /-- Incomplete actions of the current frame and the lowest of their entries (R42). -/
  ovrCount : Nat := 0
  ovrFirst : Nat := 0
  /-- The FRAME_OVERRUN record of the current frame, stamped at the close of its first incomplete window;
  it is complete at the end of the frame (R42). -/
  ovrRec : Option EvRec := none
  /-- The tick phase, in 1/64,000,000 core cycle: what the marks have trimmed and set (R49). -/
  phase : Int := 0
  /-- The tick of the last usable TIME frame, or of the last missing mark that its absence stood for (R328). -/
  timeFrom : Nat := 0
  /-- The MODE write whose tick has come (R49, R54). -/
  modeDue : Option Nat := none
  /-- A block marked the current frame (R44). -/
  tainted : Bool := false
  /-- The current frame ran in a state other than ALIGNED in SYNC or MESH mode (R49). -/
  unaligned : Bool := false
  /-- The previous frame was logged UNALIGNED (R49). -/
  prevUnaligned : Bool := false
  /-- Frame-log entries not read since they were written (R44). -/
  unread : List Nat := []
  /-- The first tick and the length of the current run of halted ticks (R452). -/
  haltRun : Option (Nat × Nat) := none
  /-- The windows open now (R34). -/
  wins : List OpenWin := []
  /-- The entries of the current frame whose windows have opened (R34). -/
  opened : List Nat := []
  /-- The current frame was cut short: its other windows never open (R51). -/
  cut : Bool := false
  /-- The first uncredited or skipped tick whose delay-list entries are still to be released (R52). -/
  lateFrom : Option Nat := none
  deriving DecidableEq, Repr

/-! The host interface and the staging area (chapters 15 and 03). -/

/-- The phases of an operation (R339, R351): accepted and waiting for its opcode's command, running,
outcome decided, outcome latched. -/
inductive OpPhase where
  | accepted | running | decided | latched
  deriving DecidableEq, Repr

/-- An accepted descriptor whose completion has not been written (R339, R349). Ring 0 to 63 are the
command rings; 64 stands for Hearth, whose requests write no completion entry. -/
structure Op where
  ring : Nat
  idx : Nat
  desc : List Nat
  phase : OpPhase
  /-- A condition of the operation's chapter on the write of its completion is not met yet (R340). -/
  held : Bool := false
  /-- A LINK reset discards the completion (R353). -/
  lost : Bool := false
  /-- It was rejected (R345). -/
  rejected : Bool := false
  code : Nat := 0
  fidx : Nat := 0
  result : Nat := 0
  /-- The reel form of the completion: END_TICK and its word 2, when the opcode is REEL_START (R349). -/
  reelForm : Option (Nat × Nat) := none
  tick : Nat := 0
  off : Nat := 0
  dev : Nat := 0
  seq : Nat := 0
  deriving DecidableEq, Repr

/-- One item of the staged proof set (R59), and the ring of the PROOF_LOAD that brought it, 64 for Hearth (R203). -/
structure Item where
  type : Nat
  inst : Nat
  index : Nat
  payload : List Byte
  ring : Nat := 64
  deriving DecidableEq, Repr

/-- A fused limited change whose fuses are being programmed (R73). -/
structure FuseJob where
  entry : Nat
  word0 : Nat
  word1 : Nat
  /-- The log entry has been burnt with VALID, and without COMMIT. -/
  valid : Bool := false
  deriving DecidableEq, Repr

/-- The staging area beside its registers (R55 to R68, R73). -/
structure StageSt where
  items : List Item := []
  rwf : List FieldWrite := []
  /-- The number of items, and the staged values, before the PROOF_LOAD that runs (R352). -/
  before : Nat × List FieldWrite := (0, [])
  /-- The PROOF_LOAD that runs, with the outcome its reading has found: code, item index, field index. -/
  load : Option (Nat × Nat × Nat × Nat × Nat) := none
  /-- The PROOF_CHECK that runs, and the core cycle of its acceptance. -/
  check : Option (Nat × Nat × Nat) := none
  /-- The pending FIX, and the last one accepted. -/
  fixOp : Option (Nat × Nat) := none
  lastFix : Option (Nat × Nat) := none
  /-- Hearth fixes the set at the first permitted tick after its proof (R211). -/
  autoFix : Bool := false
  /-- The final check of the pending fix has passed (R66). -/
  checked : Bool := false
  /-- The key IDs whose KEY_RETIRE was accepted while the set is FIX_PENDING (R286). -/
  retired : List Nat := []
  /-- The FIX_CANCELs that have arrived and are not latched: ring, index, frame of arrival. -/
  cancels : List (Nat × Nat × Nat) := []
  /-- The FIX_CANCELs that complete ALREADY_DONE once the completion of a fix has been written: ring and index, and
  those of the fix. -/
  lateCancels : List (Nat × Nat × Nat × Nat) := []
  /-- A fix has taken place in this frame and its APPLY window is still open: its completion. -/
  applied : Option (Nat × Nat) := none
  /-- The SET_ID of that fix's set (R67). -/
  appliedSet : Nat := 0
  /-- The clock domains whose switch starts when that window closes (R405). -/
  switches : List Nat := []
  /-- The limited changes whose fuses are being programmed, oldest first (R73). -/
  fuses : List FuseJob := []
  deriving DecidableEq, Repr

/-! Run control and the TAP (chapter 21). -/

/-- An access of the debug master that the TAP has started (R454 to R456): its code and data and the core cycle
from which it may complete; for a readback that fetches a frame, the frame and the word pair. -/
structure DbgAccess where
  flight : Option (Nat × Nat × Nat) := none
  fetch : Option (Nat × Nat) := none
  /-- An access of device DRAM that waits for its channel: WRITE, ADDR and data (R39, R255, R455). -/
  parked : Option (Bool × Nat × Nat) := none
  /-- Code and data of the last access. -/
  code : Nat := 0
  data : Nat := 0
  /-- An Update-DR came while an access was running. -/
  missed : Bool := false
  deriving DecidableEq, Repr

/-- A command of R457 passed to a soft core: region, target, OP, whether the TAP sent it, and the core cycle of
its issue, with what the port presents beside them (R459). -/
structure DaRun where
  region : Nat
  target : Nat
  op : Nat
  addr : Nat := 0
  data : Nat := 0
  tap : Bool
  since : Nat
  deriving DecidableEq, Repr

/-- Run control and the debug port beside their registers. -/
structure DbgSt where
  /-- Requests not latched yet, each with the frame of its arrival (R451). -/
  halt : Option Nat := none
  resume : Option Nat := none
  step : Option Nat := none
  /-- The tick at which HALT was latched (R451). -/
  latched : Nat := 0
  /-- The states that HALT_CORES took the management cores from: core and state (R453). -/
  cores : List (Nat × Nat) := []
  /-- Attached targets: region and target (R457). -/
  attached : List (Nat × Nat) := []
  /-- Soft cores that HALT has been passed to (R457, R459). -/
  coreHalt : List (Nat × Nat) := []
  /-- The core cycle of the sequencer's last count (R450). -/
  seqCycle : Option (Nat × Nat) := none
  /-- What Capture-IR and Capture-DR last loaded (R444, R446). -/
  irCapture : Nat := 0
  capture : Nat := 0
  /-- The boundary register as last updated (R447). -/
  boundary : Nat := 0
  /-- The pins: 0 the device's, 1 to be taken once the channels are in self-refresh, 2 taken (R448). -/
  pins : Nat := 0
  /-- A test instruction closed the ember region, which was in SERVICE (R387). -/
  emberShut : Bool := false
  /-- The last JTAG load was refused (R195). -/
  jtagRefused : Bool := false
  reg : DbgAccess := {}
  mem : DbgAccess := {}
  /-- The frame in the readback buffer, and its contents (R456). -/
  frameBuf : Option (Nat × Nat) := none
  /-- The soft-core command that runs (R459). -/
  da : Option DaRun := none
  /-- Code and read data of the last DBG_ATTACH command (R458). -/
  tapCode : Nat := 0
  tapData : Nat := 0
  deriving DecidableEq, Repr

/-! Reel engines (chapter 04). A vector is one 512-bit number: word i of lane 8n + i in bits 64i + 63 to 64i
(R78). -/

/-- A run of vector positions sent to the lanes: count positions from vector cycle vc. -/
structure TxSeg where
  vc : Nat
  count : Nat
  /-- The mask vector that selects the bits compared (R81). -/
  mask : Nat
  /-- Substituted positions, flagged INVALID (R98). -/
  invalid : Bool
  /-- The vectors in order; a run that repeats one vector lists it once. -/
  vecs : List Nat
  deriving DecidableEq, Repr

/-- A block being replayed (R79): its first operation word, its length, the passes left. -/
structure BlockLvl where
  start : Nat
  words : Nat
  left : Nat
  deriving DecidableEq, Repr

/-- A TAINT notice (R102): the burst, the range affected, the causes, the stop point, the first failing line, and
whether the TAINT event has been raised. -/
structure Notice where
  op : Nat × Nat
  first : Nat
  endVc : Nat
  cause : Nat
  seen : Nat
  stopId : Nat
  tag : Nat
  raised : Bool
  deriving DecidableEq, Repr

/-- The operation that a reel engine has under way: its first word, the vectors it has produced, its header, and the
payload vector that a REPEAT_VECTOR repeats (R79). -/
structure OpNow where
  pos : Nat
  done : Nat := 0
  header : Nat
  payload : Nat := 0
  deriving DecidableEq, Repr

/-- The hold in which a burst has ended (R92, R93): its hold words, and what its HOLD blocks name. -/
structure LaneHold where
  words : List Nat
  stopId : Nat := 0
  cause : Nat := 0
  vc : Nat := 0
  deriving DecidableEq, Repr

/-- One reel engine beside its registers. -/
structure ReelU where
  /-- The REEL_START whose burst is armed, running or holding: ring and index. -/
  op : Option (Nat × Nat) := none
  addr : Nat := 0
  prefetch : Nat := 0
  /-- Lines fetched, in the order of R86. -/
  fetched : Nat := 0
  header : List Byte := []
  hdrOk : Bool := false
  opWords : Nat := 0
  dictLines : Nat := 0
  dictAddr : Nat := 0
  rundown : Nat := 0
  vectors : Nat := 0
  /-- The dictionary: vector v at bytes 64v to 64v + 63. -/
  dict : Mem := []
  /-- How many lines the loaded dictionary has (R80). -/
  dictLoaded : Nat := 0
  /-- The fetch buffer: the operation words fetched and not freed, word w at bytes 8w to 8w + 7. -/
  opBuf : Mem := []
  /-- The operation lines freed so far, in order (R86). -/
  freed : Nat := 0
  /-- The next operation word to decode. -/
  pos : Nat := 0
  /-- The operation words decoded so far: what lies below is read again from the block buffer only. -/
  seen : Nat := 0
  /-- The block buffer: the words of the outermost block in progress that have been decoded, under the addresses of
  opBuf (R75, R86). -/
  blockBuf : Mem := []
  /-- The operation in progress. -/
  cur : Option OpNow := none
  blocks : List BlockLvl := []
  /-- The core cycles at which the header check, the dictionary load and the initial stop point were completed (R89). -/
  hdrAt : Nat := 0
  dictAt : Nat := 0
  stopAt : Nat := 0
  /-- The core cycle of tick S, from which the lanes read the transmit FIFOs (R89). -/
  started : Option Nat := none
  /-- The initial stop point has been decoded (R89). -/
  initStop : Bool := false
  /-- The hold words and the position of the last stop point passed (R93). -/
  stopHold : List Nat := []
  stopVc : Nat := 0
  /-- The engine writes no further vector (R99, R100). -/
  stopped : Bool := false
  /-- The position at which the burst ends, once it is known. -/
  endVc : Option Nat := none
  final : Bool := false
  /-- The lane logic is substituting (R98). -/
  subst : Bool := false
  /-- The lanes have entered hold (R97), in this frame. -/
  heldAt : Option Nat := none
  /-- The tick at which the first cause was latched. -/
  causeTick : Nat := 0
  firstTaint : Option Nat := none
  /-- A line has failed, and the line sequence tag of the first that did (R102). -/
  lineHit : Bool := false
  tag : Nat := 0
  taintRaised : Bool := false
  /-- The TAINT notice of a burst that waits for the core PLL (R101). -/
  owed : Option Notice := none
  /-- The protected lines fetched: sequence tag, the line's place in the order of R86, and its core cycle of arrival.
  A tag that is used again names the newest line. -/
  lines : List (Nat × Nat × Nat) := []
  /-- What each operation drew on: its first word, its words, the payload words of one vector (0 when every
  vector draws on the whole operation), and its first vector cycle (R100). -/
  draws : List (Nat × Nat × Nat × Nat) := []
  /-- REEL_ABORTs that wait to be latched: ring, index, frame of arrival, START_TICK. -/
  aborts : List (Nat × Nat × Nat × Nat) := []
  /-- REEL_ABORTs that complete ALREADY_DONE once the completion of a reel has been written: ring and index, and the
  reel's. -/
  lateAborts : List (Nat × Nat × Nat × Nat) := []
  tx : List TxSeg := []
  /-- The hold that the lanes send outside a burst; none: LANE_HOLD (R93). -/
  laneHold : Option LaneHold := none
  splice : List Nat := []
  /-- The runs of spliced positions decoded and not yet written by the fabric, by first vector cycle and length; the
  vectors written before they were asked for; and the SPL_FLUSH pulses given (R83, R84). -/
  asked : List (Nat × Nat) := []
  ahead : Nat := 0
  flushes : Nat := 0
  /-- The lowest fetch-buffer level of the current frame (R103). -/
  minLevel : Nat := 0
  deriving DecidableEq, Repr

/-! Catch blocks (chapter 05). -/

/-- A record of a catch block (R115, R116). -/
structure Rec where
  type : Nat
  vc : Nat
  lane : Nat
  flags : Nat
  body : Nat
  length : Nat
  bp : Nat
  tick : Nat
  off : Nat
  dev : Nat
  seq : Nat
  /-- The reel-start operation that waits for this BURST_END (R126). -/
  op : Option (Nat × Nat) := none
  /-- The flow it has entered (R359, R372). -/
  inFlow : Option Nat := none
  deriving DecidableEq, Repr

/-- The run being merged on a lane (R117). -/
structure Run where
  lane : Nat
  vc : Nat
  length : Nat
  mask : Nat
  flags : Nat
  bp : Nat
  tick : Nat
  off : Nat
  dev : Nat
  seq : Nat
  deriving DecidableEq, Repr

/-- The burst of a delay line: its transmit positions by vector cycle, the transmit word time of vector
cycle 0, and the position at which it ends (R105, R106). -/
structure LineBurst where
  op : Nat × Nat
  w0 : Nat
  tx : List TxSeg
  endVc : Option Nat
  /-- The hold it ended in, as far as it is known. -/
  hold : LaneHold := { words := [] }
  /-- REEL_ID and start tick of the burst. -/
  reelId : Nat
  start : Nat
  /-- The engine has told the block of the burst's TAINT notice, or that it has none. -/
  notice : Bool := false
  /-- Its BURST_END has been created (R126), with this parity (R115). -/
  closed : Bool := false
  bp : Nat := 0
  deriving DecidableEq, Repr

/-- A burst whose compares have begun (R126). -/
structure CatchBurst where
  op : Nat × Nat
  bp : Nat
  /-- Lanes whose ending entry has reached its compare point. -/
  endedLanes : Nat := 0
  ended : Bool := false
  /-- The engine has delivered its TAINT notice, or has reported none. -/
  notice : Bool := false
  endVc : Nat := 0
  fails : Nat := 0
  seen : Nat := 0
  deriving DecidableEq, Repr

/-- A catch block's open flush window: the frame's entry, its PARAM, the lines it may still write, and whether that is less
than its quota gives (R123). -/
structure FlushWin where
  idx : Nat
  param : Nat
  lines : Nat
  short : Bool
  deriving DecidableEq, Repr

/-- One catch block beside its registers. -/
structure CatchU where
  /-- The delay line's bursts, newest first, the engine's own burst excepted (R105). -/
  prev : List LineBurst := []
  /-- The transmit word time of the current burst's vector cycle 0. -/
  w0 : Option Nat := none
  /-- The working delay copy of each lane, as its difference from the register (R110). -/
  workDiff : List (Nat × Nat) := []
  /-- How far each read pointer stands from where D puts it, by 2 × lane + copy (R110). -/
  ptrDiff : List (Nat × Nat) := []
  /-- The shadow copy of each lane, as its difference from the register, and the lanes whose parity bit does not fit the
  register (R110). -/
  shadowDiff : List (Nat × Nat) := []
  parityBad : Nat := 0
  /-- The next receive word time of each lane (R106). -/
  rxNext : List (Nat × Nat) := []
  /-- DELAY_BROKEN was set by these lanes (R110). -/
  broken : Nat := 0
  /-- Lanes whose working copy INJ_DELAY has changed, and no DELAY_FAULT has told so (R471). -/
  injDelay : Nat := 0
  runs : List Run := []
  fifo : List Rec := []
  flow : List Rec := []
  deferred : List Rec := []
  /-- Records opened in the current frame (R119), and the highest FIFO level. -/
  opened : Nat := 0
  maxLevel : Nat := 0
  /-- The current frame's summary: flags, lanes, suppressed words, first record. -/
  sumFlags : Nat := 0
  sumLanes : Nat := 0
  sumCount : Nat := 0
  sumFirst : Option Rec := none
  /-- The pending summary and the first frame it covers (R120). -/
  pendingSum : Option (Rec × Nat) := none
  bursts : List CatchBurst := []
  /-- The strobe sources asserted: A and B (R114). -/
  strobeA : Bool := false
  strobeB : Bool := false
  /-- The fail port since the last snapshot, and the last snapshot (R112). -/
  cfFail : Nat := 0
  cfBits : Nat := 0
  cfFirst : Nat := 0
  snapFail : Nat := 0
  snapBits : Nat := 0
  snapFirst : Nat := 0
  snapActive : Bool := false
  snapSummary : Bool := false
  snapSuspect : Bool := false
  /-- The ring was found full and CATCH_RING_FULL raised for this filling (R125). -/
  fullRaised : Bool := false
  /-- The open flush window (R123). -/
  window : Option FlushWin := none
  /-- The burst whose BURST_END has been created last, and its parity (R115, R126). -/
  lastClosed : Option ((Nat × Nat) × Nat) := none
  deriving DecidableEq, Repr

/-! DDR channels (chapter 11). -/

/-- A post-package repair that runs (R263): its operation, place, and kind (1: hPPR). -/
structure Repair where
  ring : Nat
  idx : Nat
  rank : Nat
  sub : Nat
  bank : Nat
  row : Nat
  hard : Bool
  deriving DecidableEq, Repr

/-- One DDR channel beside its registers. -/
structure DdrU where
  /-- The write-back queue, oldest first: line address, and whether it is to be written poisoned (R249). -/
  wb : List (Nat × Bool) := []
  /-- The refresh-management queue: rank, subchannel, bank and row (R254). -/
  rfm : List (Nat × Nat × Nat × Nat) := []
  /-- The commands that the last spare window issued: whether in the directed form, rank, subchannel, bank, and the row
  of the directed form (R254). -/
  rfmOut : List (Bool × Nat × Nat × Nat × Nat) := []
  /-- The rolling accumulated activate count of bank b of rank r and subchannel u, at key 64r + 32u + b, where the DRAM
  requires refresh management (R254). -/
  raa : List (Nat × Nat) := []
  /-- The core cycle of the last refresh of bank address b of rank r and subchannel u, at key 8r + 4u + b
  (R253). -/
  refreshed : List (Nat × Nat) := []
  /-- Ranks and subchannels whose DDR_REFRESH window ended without its REFsb, and whether an injection made it so (R253). -/
  missed : List (Nat × Nat × Bool) := []
  /-- The ranks whose interval is halved in this frame (R251). -/
  halved : Nat := 0
  /-- Entries of CE_LOG written, modulo its length (R265). -/
  ceNext : Nat := 0
  /-- Lines read in the scrub pass, the core cycles of READY time before the present READY period of the
  pass, and the core cycle at which that period began (R257). -/
  scrubRead : Nat := 0
  scrubTime : Nat := 0
  scrubSince : Nat := 0
  /-- The core cycle at which the present scrub pass began (R257). -/
  scrubPass : Nat := 0
  /-- Where the scrubber stood in a rank that is parked, while it reads on behind it (R257, R263). -/
  scrubSaved : Option Nat := none
  /-- The CRC-32 of the SPD identity bytes of the modules (R262). -/
  spd : Nat := 0
  /-- The core cycle after that of the last fallback of each rank (R253). -/
  fellBack : List (Nat × Nat) := []
  /-- The repair that runs. -/
  repair : Option Repair := none
  /-- The soft repairs in force: rank, subchannel, bank and row (R262, R263). -/
  sppr : List (Nat × Nat × Nat × Nat) := []
  /-- The channel waits for the next tick to open its port (R260, R264). -/
  openAtTick : Bool := false
  /-- Why the channel enters or stays in self-refresh: bit 0 the core clock (R408), bit 1 the TAP (R448), bit 2
  Standby (R425). -/
  parked : Nat := 0
  deriving DecidableEq, Repr

/-- The saved training record of a channel, in retention storage of the POR domain (R262): its bytes as the
host reads them out, the sPPR repairs it lists (rank, subchannel, bank, row), and what else it holds. -/
structure TrainRec where
  bytes : List Byte
  repairs : List (Nat × Nat × Nat × Nat)
  image : TrainImage := {}
  deriving DecidableEq, Repr

/-! Inline encryption (chapter 12). -/

/-- A late alarm on the alarm bus (R275): channel, sequence tag, requester, line address. -/
structure Alarm where
  chan : Nat
  tag : Nat
  sid : Nat
  addr : Nat
  deriving DecidableEq, Repr

/-- A key operation accepted and not completed (R280): its operation (1 KEY_LOAD, 2 KEY_ERASE, 3
KEY_RETIRE, 4 SLOT_PROVISION), its outcome, and the tick and offset of its acceptance. -/
structure KeyJob where
  ring : Nat
  idx : Nat
  kind : Nat
  kid : Nat
  code : Nat
  mode : Nat
  target : Nat
  tick : Nat
  off : Nat
  /-- It retires an ID that was ACTIVE (R281). -/
  walks : Bool := false
  deriving DecidableEq, Repr

/-- The walk of a retiring key ID (R281): the ranges not yet walked whole, the current one first. -/
structure Walk where
  kid : Nat
  ranges : List Nat
  deriving DecidableEq, Repr

/-- The encryption engine beside its registers. -/
structure EncSt where
  /-- Key1 then Key2 of each key ID: 64 byte values. -/
  keys : List (Nat × List Nat) := []
  /-- The key of each user key slot: 32 byte values (R434). -/
  slotKeys : List (Nat × List Nat) := []
  /-- The RETIRING key IDs, in the order of acceptance. -/
  retiring : List Nat := []
  walk : Option Walk := none
  /-- Lines walked in this frame. -/
  paced : Nat := 0
  /-- The last sequence tag of each channel. -/
  tags : List (Nat × Nat) := []
  alarms : List Alarm := []
  jobs : List KeyJob := []
  /-- Entries of DETAIL_LOG written, modulo its length. -/
  detailNext : Nat := 0
  /-- Temperature readings in a row in which no sensor met the condition of the TEMP tamper sensor, up to 20, which span
  1 ms (R148, R437, R438). -/
  tempQuiet : Nat := 20
  deriving DecidableEq, Repr

/-! The on-chip network (chapter 10). A port q is local port q mod 4 of router q / 4. -/

/-- Whose request a transaction is: a fabric region's, or the dispatcher's dispatch of an entry to a
worker (R368). -/
inductive XOwner where
  | fabric
  | dispatch (worker slot : Nat)
  deriving DecidableEq, Repr

/-- Where a request stands (R229 to R239): waiting for its NOC_SLOT window; for one of 8 outstanding
RESERVEs; RESERVE in flight; queued at the target; GRANT in flight with its status; BUSY, to be sent again;
reservation held, response space not free; in the network; in the landing buffer of a DDR channel; consumed by a region port; refused, its answer
not due yet; answer in flight. -/
inductive XPhase where
  | slot | waiting | reserve | queued | grant (status : Nat) | retry | ready | sent | landed | atTarget | refused | answer
  deriving DecidableEq, Repr

/-- A request of an attachment (R226 to R240). -/
structure Xact where
  src : Nat
  tag : Nat
  /-- KIND: 2 READ_REQ, 3 WRITE_REQ. -/
  kind : Nat
  dst : Nat
  addr : Nat
  bytes : Nat
  data : List Byte
  prio : Nat
  epoch : Nat
  sched : Bool
  sid : Nat
  owner : XOwner
  phase : XPhase
  /-- It travels under a standing reservation. -/
  standing : Bool := false
  /-- Its answers' space is that of the standing reservation (R232). -/
  respHeld : Bool := false
  /-- The core cycle in which the packet that is on its way now was injected: RESERVE, GRANT, request or answer. -/
  since : Nat := 0
  /-- Priority rises of that packet, the core cycle of the last, and the hop of its route at whose output it came
  (R234). -/
  aged : Nat := 0
  agedAt : Nat := 0
  agedHop : Nat := 0
  /-- The core cycle in which it became ready, and in which its head flit was injected. -/
  t0 : Nat := 0
  sentAt : Nat := 0
  /-- The core cycle in which it landed at its target. -/
  landedAt : Nat := 0
  /-- The flits that earlier NOC_SLOT windows have sent (R43, R235). -/
  sentPart : Nat := 0
  /-- A NOC_SLOT window has closed with flits of it undone: its port is back-pressured (R43). -/
  pressed : Bool := false
  /-- Its answer is discarded on arrival: the drain of its port has been forced (R205). -/
  discard : Bool := false
  /-- It timed out (R238). -/
  late : Bool := false
  /-- The answer is a RETURN (R236). -/
  returned : Bool := false
  status : Nat := 0
  answer : List Byte := []
  seqTag : Nat := 0
  epochNow : Nat := 0
  deriving DecidableEq, Repr

/-- What an attachment last delivered to its source (R229, R236, R238): tag, code, data, sequence tag,
epoch. -/
structure XDone where
  tag : Nat
  code : Nat
  data : List Byte
  seqTag : Nat
  epoch : Nat
  deriving DecidableEq, Repr

/-- A standing reservation of a NOC_RESERVATION item (R232). -/
structure Standing where
  target : Nat
  holder : Nat
  sched : Bool
  landing : Nat
  response : Nat
  deriving DecidableEq, Repr

/-- The live statistics of a port (R241). -/
structure PortStat where
  bytes : Nat := 0
  packets : Nat := 0
  sum : Nat := 0
  min : Nat := 0xFFFFFFFF
  max : Nat := 0
  wait : Nat := 0
  hist : List (Nat × Nat) := []
  deriving DecidableEq, Repr

/-- The network beside its registers. -/
structure NocSt where
  /-- The requests in progress; of those in one phase at one port, the older first. -/
  xacts : List Xact := []
  standing : List Standing := []
  /-- REVOKEs and RELEASEs of closing ports: port, holder, and whether the REVOKE has arrived (R237). -/
  revokes : List (Nat × Nat × Bool) := []
  dones : List (Nat × XDone) := []
  stats : List (Nat × PortStat) := []
  /-- STAT_CTRL writes that wait for the tick: port, SNAP, CLEAR (R241). -/
  snaps : List (Nat × Bool × Bool) := []
  /-- Ports that open at the next tick, and ports that go CLOSING at it (R237). -/
  opens : List Nat := []
  closes : List Nat := []
  /-- The statistics latched at this tick: port, what was latched, CLEAR (R240, R241). -/
  snapped : List (Nat × PortStat × Bool) := []
  /-- The NOC_SLOT windows of this frame that have opened: entry, port, target router, flits of the quota that are left
  (R235). -/
  slotWins : List (Nat × Nat × Nat × Nat) := []
  deriving DecidableEq, Repr

/-! The dispatcher (chapter 16). -/

/-- Where a job stands (R358, R364, R368, R370). -/
inductive JobPlace where
  | delayed (expiry : Nat)
  | ready
  | held (worker : Nat)
  | done
  deriving DecidableEq, Repr

/-- A job that the dispatcher holds (R358 to R371). -/
structure Job where
  slot : Nat
  gen : Nat
  prio : Nat
  /-- Its flow and its position in it. -/
  flow : Option (Nat × Nat)
  classMask : Nat
  doneAddr : Nat
  tag : Nat
  payload : List Nat
  /-- It takes a shared entry. -/
  shared : Bool
  dlist : Nat
  place : JobPlace
  enqTick : Nat
  lateness : Nat := 0
  readyAt : Nat := 0
  wait : Nat := 0
  /-- The order and the tick of its dispatch. -/
  order : Nat := 0
  dispTick : Nat := 0
  worker : Nat := 0
  status : Nat := 0
  result : Nat := 0
  /-- The descriptor served by Hearth that this job carries (R379). -/
  op : Option (Nat × Nat) := none
  deriving DecidableEq, Repr

/-- A worker beside its registers. -/
structure WorkerU where
  /-- Dispatch records written to the mailbox. -/
  sent : Nat := 0
  /-- The mailbox of a management core, which is hard (R366): its records, by slot. -/
  mailbox : List (Nat × List Nat) := []
  /-- The order of the last dispatch to it. -/
  last : Nat := 0
  /-- The core cycle since which it has held a job in this frame, and the cycles counted in this frame. -/
  since : Option Nat := none
  busy : Nat := 0
  /-- Busy cycles of the last complete frames, up to 256, newest first (R376); 0 in every frame before. -/
  frames : List Nat := []
  deriving DecidableEq, Repr

/-- The dispatcher beside its registers. -/
structure DispSt where
  /-- The jobs held; of those in one list, the earlier first. -/
  jobs : List Job := []
  /-- How often each entry slot has been freed or its job returned (GEN). -/
  gens : List (Nat × Nat) := []
  /-- The next position of each flow. -/
  positions : List (Nat × Nat) := []
  workers : List (Nat × WorkerU) := []
  /-- Dispatches made so far. -/
  order : Nat := 0
  /-- Core cycles of the last complete frames, up to 256, newest first (R376). -/
  cycles : List Nat := []
  /-- A source has waited for entries in this frame (R363). -/
  stalled : Bool := false
  deriving DecidableEq, Repr

/-! The scratchpad and the management cores (chapter 17). -/

/-- The kinds of a scratchpad access (R384, R386). -/
inductive SpKind where
  | read | write | setBits | clearBits | fetch
  deriving DecidableEq, Repr

/-- An access that waits for the port of the scratchpad (R382, R383), of a request of the network or not. -/
structure PadReq where
  cls : Nat
  sid : Nat
  addr : Nat
  bytes : Nat
  kind : SpKind
  core0 : Bool
  data : List Byte
  xact : Option (Nat × Nat) := none
  deriving DecidableEq, Repr

/-- The scratchpad and the management cores beside their registers. -/
structure SpSt where
  /-- The accesses that wait, in the order of their arrival, the core cycle from which the port is free, and the class that it
  served last (R383). -/
  queue : List PadReq := []
  portTo : Nat := 0
  last : Nat := 3
  /-- Lanes in error: 1 one bit, 2 more (R389), by offset / 8. -/
  bad : List (Nat × Nat) := []
  /-- The test step in progress: its block, and whether it failed March C-. -/
  test : Option (Nat × Bool) := none
  /-- The tick at which a step of the background test was last due, and whether that step still waits for the one before it
  (R390). -/
  stepAt : Option Nat := none
  stepLate : Bool := false
  /-- Failing blocks that could not be remapped (R391). -/
  skip : List Nat := []
  /-- The last answer to each class: code and data. -/
  answers : List (Nat × Nat × List Byte) := []
  /-- Refused ember accesses whose answers are not due: class, the core cycle of landing, and how many zeros the answer carries. -/
  refused : List (Nat × Nat × Nat) := []
  /-- Credited frames since each core's kick, and restarts since its last kick (R381). -/
  frames : List (Nat × Nat) := []
  restarts : List (Nat × Nat) := []
  deriving DecidableEq, Repr

/-! Regions and slices (chapters 06 and 07). -/

/-- A swap of a region (R202, R216): its item, its group, and the tick at which it started. -/
structure SwapReq where
  owner : Nat
  mode : Nat
  /-- The stream stands in device DRAM. -/
  dram : Bool
  epoch : Nat
  drain : Nat
  addr : Nat
  len : Nat
  openTick : Nat
  /-- The proof set and the group in it, in item order (R206). -/
  set : Nat
  group : Nat
  start : Nat
  auto : Bool
  deriving DecidableEq, Repr

/-- What a port of a block memory returns (R137): the word of its last read with its SECDED verdict, 1 corrected, 2
uncorrectable, and the same behind the output register; a bit that says another block of the cascade answers. -/
structure PortU where
  word : Nat := 0
  err : Nat := 0
  away : Bool := false
  regWord : Nat := 0
  regErr : Nat := 0
  regAway : Bool := false
  deriving DecidableEq, Repr

/-- A port of a block memory at an edge: its number; the time of the edge, in thirds of a picosecond; the source of its clock
and its write mode; whether its block is the one that its cascade names; the places of its word: lane, mask and shift; the
lanes that it writes: lane, mask and bits; what they held before; and the bits that it read. -/
structure PortHit where
  port : Nat
  at_ : Nat
  src : Option ClockSrc
  mode : WriteMode
  here : Bool
  places : List (Nat × Nat × Nat)
  writes : List (Nat × Nat × Nat)
  olds : List (Nat × Nat) := []
  read : Option Nat := none
  deriving DecidableEq, Repr

/-- A block memory (R137, R138): the 9-bit lanes as they differ from the configured contents, its ports, its ports' edges in
the last core cycle, the words that a FIFO has taken in and given out, and its overflow flag. -/
structure BramU where
  lanes : List (Nat × Nat) := []
  ports : List (Nat × PortU) := []
  recent : List PortHit := []
  taken : Nat := 0
  given : Nat := 0
  overflow : Bool := false
  deriving DecidableEq, Repr

/-- A deep memory (R139): its lanes, and the three stages of its read, oldest first: word, SECDED verdict and whether
another memory of the cascade answers; the time of a write in the last core cycle, in thirds of a picosecond, and what its
lanes held before. -/
structure DeepU where
  lanes : List (Nat × Nat) := []
  pipe : List (Nat × Nat × Bool) := []
  recent : Option (Nat × List (Nat × Nat)) := none
  deriving DecidableEq, Repr

/-- A boundary group at its receiver (R144): the value that the fabric sees, the stage before it, and the bits that this
stage took late at its last edge. Bit 63 of a HANDSHAKE group is the request, and its acknowledge once seen. -/
structure EdgeU where
  value : Nat := 0
  stage : Nat := 0
  late : Nat := 0
  deriving DecidableEq, Repr

/-- The region ramp of R418 in progress: up or down, and the edges that the source of each line has given, by line. -/
structure RegionRamp where
  up : Bool
  edges : List (Nat × Nat) := []
  deriving DecidableEq, Repr

/-- One region beside its registers. Key 64 stands for the central temperature sensor. -/
structure RegionU where
  /-- The design that its configuration gives it, from its release on (R173, R179). -/
  design : FabricDesign := {}
  /-- Bit e: the temperature condition of edge e holds (R148). -/
  hot : Nat := 0
  /-- RELATED groups that stopped capturing: 48 × edge + group (R145). -/
  heldGroups : List Nat := []
  /-- The last reading, how many readings in a row have shown it (0: none yet), and the sum of the
  readings it is compared with when they began (R468). -/
  last : Nat := 0
  same : Nat := 0
  refSum : Int := 0
  /-- Flip-flops whose value differs from its initial value (R133): 16 × site + flip-flop. -/
  flops : List (Nat × Nat) := []
  /-- LUT memories, by 8 × site + LUT, as they differ from their initial contents, bit by bit (R135). -/
  luts : List (Nat × Nat) := []
  /-- Block memories and deep memories (R137, R139). -/
  brams : List (Nat × BramU) := []
  deeps : List (Nat × DeepU) := []
  /-- Boundary registers that the region receives with, by 48 × edge + group (R143, R144). -/
  edges : List (Nat × EdgeU) := []
  /-- Acknowledges of the HANDSHAKE groups that the region sends, in their two stages, first stage in bit 0 (R144). -/
  acks : List (Nat × Nat) := []
  /-- EDGE_STALE as each receiving line registers it, by 24 × edge + line: the captures of live values still to come until
  it falls (R147). -/
  stales : List (Nat × Nat) := []
  /-- The clock lines that have had an edge since the region's clocks began to run (R147). -/
  launched : List Nat := []
  /-- A FABRIC_RESET in progress: the edges that each running line has had, by line (R153). -/
  resetting : Option (List (Nat × Nat)) := none
  /-- A load or swap holds the region: clocks stopped, REGION reset asserted (R178, R199, R208). -/
  held : Bool := false
  /-- A power transition has stopped its clocks (R418). -/
  stopped : Bool := false
  /-- Its clocks ramp for a power transition (R418). -/
  ramp : Option RegionRamp := none
  /-- The current or last swap (R202 to R208). -/
  swap : Option SwapReq := none
  /-- The tick from which the region may open (R207). -/
  openFrom : Nat := 0
  /-- The last late alarm presented to the fabric at a port (R275): channel and sequence tag. -/
  alarm : Option (Nat × Nat) := none
  deriving DecidableEq, Repr

/-- An open loop of a slice (R166): its first entry, its length, its level, the iterations not begun. -/
structure Loop where
  start : Nat
  body : Nat
  level : Nat
  left : Nat
  deriving DecidableEq, Repr

/-- One arithmetic slice beside its registers. -/
structure SliceU where
  acc0 : Int := 0
  acc1 : Int := 0
  /-- The operand words last loaded into X and Y. -/
  x : Nat := 0
  y : Nat := 0
  opmem : List (Nat × Nat) := []
  prog : List (Nat × Nat) := []
  /-- Operand words with the mask of their lanes whose parity is wrong, and words of the program space whose parity is
  wrong (R160, R161). -/
  opBad : List (Nat × Nat) := []
  progBad : List (Nat × Nat) := []
  inFifo : List Nat := []
  outFifo : List Nat := []
  /-- The open loops, innermost first. -/
  loops : List Loop := []
  /-- Execution has passed entry 63. -/
  past : Bool := false
  /-- Slice cycles since a MAC that used an accumulator, up to 3 (R167). -/
  sinceMac : Nat := 3
  /-- SL_DONE is high (R168, R170). -/
  donePulse : Bool := false
  /-- The last answer of the memory port, data and SL_MEM_ERR, and the last word taken (R170). -/
  ack : Option (Nat × Bool) := none
  taken : Option Nat := none
  deriving DecidableEq, Repr

/-! Configuration (chapters 08 and 09). -/

/-- A frame body that waits for the frame writer: linear frame index, DYNAMIC, contents (R176, R187). -/
structure CfgWrite where
  frame : Nat
  dyn : Bool
  body : Nat
  deriving DecidableEq, Repr

/-- The configuration block and the scrubber beside their registers. -/
structure CfgSt where
  /-- Where the stream comes from: 0 host memory, 1 device DRAM, 2 flash, 3 JTAG; its address and length. -/
  src : Nat := 0
  addr : Nat := 0
  len : Nat := 0
  /-- The CONFIG_LOAD that carries it. -/
  op : Option (Nat × Nat) := none
  /-- The regions of the swap group it serves, and whether that group only clears (R206). -/
  swap : List Nat := []
  clearOnly : Bool := false
  /-- Stream bytes shifted in over JTAG (R194). -/
  jtag : List Byte := []
  /-- The offset of the next item to take in. -/
  pos : Nat := 0
  /-- The accepted header: its bytes, kind, regions, nonce, and counts. -/
  header : List Byte := []
  full : Bool := false
  mask : Nat := 0
  nonce : List Nat := []
  segments : Nat := 0
  writes : Nat := 0
  /-- The key of the segment being taken in, and that of the segment being decoded, from which its KEY_ROLL derives the
  next (R184). -/
  key : List Nat := []
  parent : List Nat := []
  /-- The frames that the load has committed at the end of the last segment decoded, and of the one before (R182). -/
  segEnd : Nat := 0
  prevEnd : Nat := 0
  /-- The next segment, and the one being decoded: commands left, their offset, bodies owed, LAST. -/
  seg : Nat := 0
  decoding : Bool := false
  payload : List Byte := []
  payPos : Nat := 0
  bodies : Nat := 0
  last : Bool := false
  block : Option Nat := none
  queue : List CfgWrite := []
  /-- The running checksum of readbacks (R188), and of an F1 stream (R189). -/
  crc : Nat := 0xFFFFFFFF
  f1Crc : Nat := 0xFFFFFFFF
  fixTick : Option Nat := none
  /-- The core cycle of the header's acceptance (R196). -/
  acceptedAt : Option Nat := none
  /-- The tick of an abort request that waits to be latched (R196). -/
  abort : Option Nat := none
  /-- The tick and offset at which a header arrived whose key is refused; the answer follows 2,048 core cycles later (R198,
  R283). -/
  refusedAt : Option (Nat × Nat) := none
  /-- A parity error that meets a request of the read that is under way (R239). -/
  upset : Option Upset := none
  /-- The run of an F1 stream whose bodies arrive: the next frame, DYNAMIC and the bodies still to come (R189, R190). -/
  run : Option (Nat × Bool × Nat) := none
  /-- The scrubber's pass: the core cycle of its start, its skips (R212), and the steps since one was
  borrowed (R213). -/
  passStart : Nat := 0
  skipDyn : Nat := 0
  skipExc : Nat := 0
  steps : Nat := 0
  /-- Frames that DEBUG_READ has read and for which no step has been borrowed yet (R213, R348). -/
  owed : Nat := 0
  /-- Automatic reloads that wait: region and first tick; regions whose last one ended FAILED (R216). -/
  reloads : List (Nat × Nat) := []
  noAuto : List Nat := []
  /-- The tick of the last release (R201). -/
  lastRelease : Nat := 0
  deriving DecidableEq, Repr

/-! Lanes (chapter 13). -/

/-- What a lane sends (R292, R300, R302, R303): IDLE blocks, the logical word w of its engine, its part of a Wavar
link's stream, or a PRBS pattern. Alignment markers stand in all but the last. -/
inductive LineMode where
  | off | idle
  | word (w : Nat)
  | mesh
  | prbs (pattern : Nat)
  deriving DecidableEq, Repr

/-- One physical lane beside its registers. -/
structure LaneU where
  /-- Expected markers missed in a row (R296). -/
  missed : Nat := 0
  /-- Aligned to the reference lane of its set (R297). -/
  deskewed : Bool := false
  /-- The core cycle of its last passage to ACTIVE (R89, R300). -/
  activeAt : Nat := 0
  /-- What it has sent since its transmitter came on, newest first: from which block slot, and what (R292, R300). -/
  line : List (Nat × LineMode) := []
  /-- The bits that the PRBS checker holds of its partner's pattern, the newest as bit 0 (R303). -/
  checker : Nat := 0
  deriving DecidableEq, Repr

/-- One lane group beside its registers. -/
structure GroupU where
  /-- The core cycle at which the present training began, and whether its timeout has been raised (R300). -/
  trainFrom : Option Nat := none
  timedOut : Bool := false
  /-- A core cycle, and the number of the block slot that begins in it (R292, R295). -/
  slotAt : Nat × Nat := (0, 0)
  deriving DecidableEq, Repr

/-! Clocks (chapter 18). -/

/-- What a PLL and its domains do (R405, R409): off; running; coasting in smoulder; the down-ramp of a switch;
held, the relock waiting for the reference; relocked, its VCO being judged; the last up-ramp; and, for CORE, the
up-ramp onto the kindling oscillator, the two relock steps on it, and the down-ramp off it. -/
inductive PllPhase where
  | off | run | coast | down | held | judge | up | kindUp | kindRelock | kindJudge | kindDown
  deriving DecidableEq, Repr

/-- One PLL beside its registers: key 0 CPLL, 1 to 12 FPLL0 to FPLL11, 16 + g LPLLg. -/
structure PllU where
  phase : PllPhase := .off
  /-- The step of the ramp: this many of every 16 source edges pass. -/
  step : Nat := 0
  /-- A source switch is in progress; a smoulder is being recovered from. -/
  switching : Bool := false
  smoulder : Bool := false
  deriving DecidableEq, Repr

/-- One clock monitor beside its registers (R401, R402, R468). -/
structure MonU where
  /-- Windows out of band in a row. -/
  bad : Nat := 0
  /-- Its clock has failed and has shown no window in band since. -/
  failed : Bool := false
  /-- Agreeing windows in a row while MON_FAULT is set. -/
  agree : Nat := 0
  deriving DecidableEq, Repr

/-- The clocks beside their registers. -/
structure ClkSt where
  plls : List (Nat × PllU) := []
  mons : List (Nat × MonU) := []
  /-- The kindling trim (R400): bits of the search not decided yet, and windows confirmed in a row. -/
  search : Nat := 10
  confirm : Nat := 0
  /-- Monitors whose COMPARE changed at the last tick (R411). -/
  changed : List Nat := []
  /-- Monitors whose running window counts against the clock that COMPARE selects (R401). -/
  selected : List Nat := []
  deriving DecidableEq, Repr

/-! The Wavar mesh (chapter 14) and the host interface (chapter 15). -/

/-- What a HOST packet carries (R354): a descriptor for a target, a completion for a gateway, a read or write of
host memory, or the data of a read. Indices name the gateway's ring and descriptor. -/
inductive HostLoad where
  | descriptor (ring idx : Nat) (words : List Nat)
  | completion (ring idx : Nat) (words : List Nat)
  | read (ring idx addr bytes : Nat)
  | write (addr : Nat) (data : List Byte)
  | data (ring idx addr : Nat) (bytes : List Byte)
  deriving DecidableEq, Repr

/-- A packet of the mesh (R321). Class: 0 HOST, 1 DATA, 2 REPORT. -/
structure Pkt where
  dst : Nat
  src : Nat
  cls : Nat
  vc : Nat
  srcRouted : Bool
  hops : Nat
  routePos : Nat
  tag : Nat
  status : Nat
  offset : Nat
  resp : Bool
  route : List Nat
  payload : List Byte
  /-- What a HOST packet carries. -/
  host : Option HostLoad := none
  deriving DecidableEq, Repr

/-- A packet that waits for a link, as it is to be sent: the receive buffer it stands in, by link and VC (R314), and the
packet as it came, which a new routing table routes again (R330). -/
structure Queued where
  pkt : Pkt
  from_ : Option (Nat × Nat)
  orig : Option Pkt := none
  deriving DecidableEq, Repr

/-- A frame of a link (R312): its KIND is 0 PACKET, 1 HELLO, 2 TIME or 3 QUIET. -/
structure MeshFrame where
  seq : Nat := 0
  ack : Nat
  kind : Nat
  vc : Nat := 0
  data : List Nat := []
  deriving DecidableEq, Repr

/-- What a link sends (R312): a frame, with a wrong CRC-32 where that is injected (R331), or an ACK block. -/
inductive LinkItem where
  | frame (f : MeshFrame) (wrongCrc : Bool := false)
  | ack (ack free0 free1 : Nat)
  deriving DecidableEq, Repr

/-- A PACKET frame sent and not acknowledged: its SEQ, and the core cycle in which its END block left (R314,
R316). -/
structure Sent where
  seq : Nat
  endAt : Nat
  pkt : Pkt
  deriving DecidableEq, Repr

/-- One link beside its registers. -/
structure LinkU where
  queue : List Queued := []
  replay : List Sent := []
  /-- The frame that the last ACK block named, and the free counts it gave (R314). -/
  named : Nat := 0xFFFF
  free0 : Nat := 128
  free1 : Nat := 128
  /-- PACKET frames of each VC sent after the frame that the last ACK block named. -/
  since0 : Nat := 0
  since1 : Nat := 0
  expiries : Nat := 0
  /-- The next SEQ expected, and the ACK, FREE0 and FREE1 last sent (R315). -/
  expect : Nat := 0
  ackSent : Nat × Nat × Nat := (0xFFFF, 128, 128)
  /-- The core cycle of the last HELLO received, and that since which the set is not ready (R318). -/
  helloAt : Nat := 0
  notReady : Option Nat := none
  /-- QUIET frames of this handshake sent and received (R320). -/
  quietSent : Bool := false
  quietRecv : Bool := false
  /-- The last TIME frame received: TX_TICK, TX_OFFSET, and its receive time by tick and offset, in 1/64 core
  cycle (R327). -/
  time : Option (Nat × Nat × Nat × Nat) := none
  /-- The words of the last HELLO, TIME or QUIET frame sent. -/
  sent : List Nat := []
  /-- What stands in the link's stream, newest first: the block of the stream at which it begins, and what (R311). -/
  stream : List (Nat × LinkItem) := []
  /-- The frame that is being received: the payload of its START block and its data so far (R312). -/
  partial_ : Option (Nat × List Nat) := none
  deriving DecidableEq, Repr

/-- The mesh beside its registers. -/
structure MeshSt where
  links : List (Nat × LinkU) := []
  /-- Packets delivered here and not served yet, with the link and VC they stand in. -/
  local_ : List (Pkt × Nat × Nat) := []
  /-- DATA requests outstanding: the mesh tag, and the port and tag of the NoC request (R324). -/
  out : List (Nat × Nat × Nat) := []
  nextTag : Nat := 0
  /-- The REPORT_SEQ of the next report, and the last one seen of each serial number (R325). -/
  reportSeq : Nat := 0
  seen : List (Nat × Nat) := []
  /-- A change asks for a report, and the core cycle of the last one (R325). -/
  reportDue : Bool := false
  reportAt : Nat := 0
  /-- The gateway that receives this device's HOST traffic (R322). -/
  hostGw : Nat := 0
  /-- Serial numbers whose conflict has been raised (R310). -/
  conflicts : List Nat := []
  deriving DecidableEq, Repr

/-- An MSI-X table entry (R334): message address, message data, and its mask bit. -/
structure Msix where
  addr : Nat := 0
  data : Nat := 0
  masked : Bool := true
  deriving DecidableEq, Repr

/-- An ABORT that waits to be latched, or for the completion of the operation it names (R352): ring and index of
the ABORT, the frame of its arrival, ring and index named. -/
structure AbortReq where
  ring : Nat
  idx : Nat
  frame : Nat
  onRing : Nat
  onIdx : Nat
  /-- The operation named had been consumed when the ABORT came (R355). -/
  named : Bool := true
  deriving DecidableEq, Repr

/-- Host memory that an operation executed for a gateway reads (R354): its ring and index, the reads that have not come
back (address and length), and the bytes that have come. -/
structure Fetched where
  ring : Nat
  idx : Nat
  awaited : List (Nat × Nat) := []
  bytes : Mem := []
  deriving DecidableEq, Repr

/-- What the host sets in the configuration space of the endpoint (R332): MSI-X enable and function mask; the codes of
Max_Payload_Size and Max_Read_Request_Size (128 bytes × 2^code); ECRC generation and checking; the errors that Advanced Error
Reporting masks; and the margining points in force, by lane and kind (0 timing, 1 voltage). -/
structure PcieCfg where
  msixEnable : Bool := false
  functionMask : Bool := false
  maxPayload : Nat := 0
  maxReadRequest : Nat := 2
  ecrcGenerate : Bool := false
  ecrcCheck : Bool := false
  aerMask : Nat := 0
  margins : List (Nat × Nat) := []
  deriving DecidableEq, Repr

/-- The host interface beside its registers. -/
structure HostSt where
  pcie : PcieCfg := {}
  /-- The host memory that operations executed for gateways read. -/
  fetched : List Fetched := []
  msix : List (Nat × Msix) := []
  /-- MSI-X vectors pending. -/
  pendingBits : List Nat := []
  /-- Completion entries that no message has covered, and the frame of the first, by ring (R342). -/
  uncovered : List (Nat × (Nat × Nat)) := []
  aborts : List AbortReq := []
  /-- ABORTs that complete ALREADY_DONE once the operation they name has been answered. -/
  lateAborts : List AbortReq := []
  /-- Descriptors sent to other devices: ring, index, and the core cycle of their timeout (R354). -/
  proxied : List (Nat × Nat × Nat) := []
  /-- Where the descriptors executed for gateways came from: ring, the index they run under, and the packet. -/
  serving : List (Nat × Nat × Pkt) := []
  /-- How often each ring has been enabled: descriptors of earlier runs of a ring keep names of their own. -/
  runs : List (Nat × Nat) := []
  /-- READY was cleared by a LINK reset and is set again at the next tick (R484, log entry 53). -/
  readyDue : Bool := false
  deriving DecidableEq, Repr

/-! The power controller (chapter 19). -/

/-- A power request (R421): ring and index of its operation, and its fields. -/
structure PwReq where
  ring : Nat
  idx : Nat
  target : Nat
  regions : Nat
  chans : Nat
  groups : Nat
  deriving DecidableEq, Repr

/-- The steps of a request in progress (R418, R420): the ports drain; channels enter self-refresh; regions change; lane
groups and cores follow; channels and groups return; the ports that are to open. -/
inductive PwStep where
  | drain | chans | regions | back | opening
  deriving DecidableEq, Repr

/-- The power controller beside its registers. -/
structure PwSt where
  /-- The requests accepted and not checked, the head first, and the tick since which the head has been one. -/
  queue : List PwReq := []
  headAt : Nat := 0
  /-- The request in progress, its checking tick, its step, and the states to which its regions were and are to
  go: the regions it changes, those changed already, and those that were in Boost. -/
  active : Option PwReq := none
  checkTick : Nat := 0
  step : PwStep := .drain
  mine : Nat := 0
  done : Nat := 0
  boost : Nat := 0
  /-- The channels and groups it changes. -/
  myChans : Nat := 0
  myGroups : Nat := 0
  /-- It has been aborted under this refuser, and its domains return (R423). -/
  aborted : Option Nat := none
  /-- The regions, channels and groups that the present Standby has changed (R420). -/
  standby : Nat × Nat × Nat := (0, 0, 0)
  deriving DecidableEq, Repr

/-! I/O banks (chapter 24). Pin p of bank b has the key 48b + p. -/

/-- The I/O banks beside their registers. -/
structure IoSt where
  /-- The region that drives a pin, plus 1, as the global frames give it (R490). -/
  drivers : List (Nat × Nat) := []
  /-- How a STROBE pin was classified at the last tick: 1 long-pulse, 2 short-pulse (R496). -/
  classes : List (Nat × Nat) := []
  /-- Pins whose RETRY waits for the tick (R493). -/
  retries : List Nat := []
  /-- Pins whose diagnostic pulse has left and has not been checked (R497). -/
  pulses : List Nat := []
  /-- Pins whose last window sent no pulse: NOT_DIAGNOSABLE stands until their next one (R43). -/
  missed : List Nat := []
  deriving DecidableEq, Repr

/-! Power-up, boot and the image switch (chapters 09 and 23). -/

/-- What the boot stage keeps beside its registers, and the progress of an image switch. -/
structure BootSt where
  /-- The device is held in POR (R476). -/
  por : Bool := false
  /-- PERST_N is high (R481). -/
  perst : Bool := false
  /-- The work of MEMORY has begun: the populated channels are in training (R264, R478). -/
  memory : Bool := false
  /-- The core cycle in which CLOCK ended, and with it the DEVICE reset (R395, R478). -/
  clocked : Nat := 0
  /-- The boot directory in use: 256 bytes, or none (R480). -/
  dir : List Byte := []
  /-- Streams that FABRIC has started (R483). -/
  tries : Nat := 0
  /-- The slot that an image switch runs, COMMIT_VERSION, the cores that have not restarted yet, and whether they
  return to the old image (R211). -/
  fwSlot : Nat := 0
  fwCommit : Bool := false
  fwLeft : List Nat := []
  fwBack : Bool := false
  deriving DecidableEq, Repr

end Sys2Proof.Machine
end

