-- ==== Sys2Proof/Machine/Events.lean ====
section
/-! DEFINITION. The events of the master table R466 with their classes (R462), and the codes of R356. -/

namespace Sys2Proof.Machine

/-- An event: its number and its class (R462, R466). -/
structure Evt where
  id : Nat
  cls : Nat
  deriving DecidableEq, Repr

namespace E

def FRAME_OVERRUN : Evt := ⟨0x0100, 2⟩
def TICK_MISMATCH : Evt := ⟨0x0101, 3⟩
def SYNC_LOST : Evt := ⟨0x0102, 2⟩
def TICK_RESUMED : Evt := ⟨0x0103, 0⟩
def FRAMES_UNALIGNED : Evt := ⟨0x0104, 2⟩
def FRAMES_ALIGNED : Evt := ⟨0x0105, 0⟩
def FIX_APPLIED : Evt := ⟨0x0110, 0⟩
def STAGE_LOCKED : Evt := ⟨0x0111, 1⟩
def REEL_UNDERRUN : Evt := ⟨0x0200, 2⟩
def SPLICE_FAULT : Evt := ⟨0x0201, 2⟩
def REEL_FORMAT : Evt := ⟨0x0202, 2⟩
def TAINT : Evt := ⟨0x0203, 2⟩
def COMPARE_DISAGREE : Evt := ⟨0x0300, 2⟩
def DELAY_FAULT : Evt := ⟨0x0301, 2⟩
def CATCH_SUMMARY : Evt := ⟨0x0302, 1⟩
def CATCH_RING_FULL : Evt := ⟨0x0303, 1⟩
def CATCH_WRITE_REFUSED : Evt := ⟨0x0304, 1⟩
def CHECKER_FAULT : Evt := ⟨0x0305, 3⟩
def BOUNDARY_CLOCK_MISMATCH : Evt := ⟨0x0400, 3⟩
def EDGE_TEMP_SKEW : Evt := ⟨0x0401, 1⟩
def BIAS_FAULT : Evt := ⟨0x0402, 1⟩
def SLICE_FAULT : Evt := ⟨0x0403, 1⟩
def SENSOR_FAULT : Evt := ⟨0x0404, 3⟩
def CONFIG_IDENTITY : Evt := ⟨0x0500, 1⟩
def CONFIG_LOAD_FAIL : Evt := ⟨0x0501, 1⟩
def CONFIG_AUTH_FAIL : Evt := ⟨0x0502, 3⟩
def CONFIG_CHECK_FAIL : Evt := ⟨0x0503, 3⟩
def CONFIG_LATE_RELEASE : Evt := ⟨0x0504, 0⟩
def FRAME_UNCORRECTABLE : Evt := ⟨0x0510, 2⟩
def SWAP_DRAIN_FORCED : Evt := ⟨0x0511, 1⟩
def SWAP_DONE : Evt := ⟨0x0512, 0⟩
def SWAP_FAILED : Evt := ⟨0x0513, 1⟩
def FW_SWITCHED : Evt := ⟨0x0514, 0⟩
def FW_REVERTED : Evt := ⟨0x0515, 1⟩
def NOC_PARITY : Evt := ⟨0x0600, 3⟩
def NOC_TIMEOUT : Evt := ⟨0x0601, 1⟩
def NOC_SCHED_CONFLICT : Evt := ⟨0x0602, 1⟩
def DDR_UNCORRECTABLE : Evt := ⟨0x0700, 2⟩
def DDR_SCRUB_POISON : Evt := ⟨0x0701, 2⟩
def DDR_FALLBACK_REFRESH : Evt := ⟨0x0702, 1⟩
def DDR_REFRESH_RATE : Evt := ⟨0x0703, 0⟩
def DDR_RFM_OVERFLOW : Evt := ⟨0x0704, 1⟩
def DDR_TRAIN_FAIL : Evt := ⟨0x0705, 3⟩
def DDR_REPAIR_DONE : Evt := ⟨0x0706, 0⟩
def INTEGRITY_FAIL : Evt := ⟨0x0800, 2⟩
def KEY_RETIRED : Evt := ⟨0x0801, 0⟩
def LANE_LOCK_LOST : Evt := ⟨0x0900, 1⟩
def LANE_MARKER_LOST : Evt := ⟨0x0901, 1⟩
def LANE_DESKEW_FAIL : Evt := ⟨0x0902, 1⟩
def LANE_ELASTIC_SLIP : Evt := ⟨0x0903, 1⟩
def LANE_TRAIN_TIMEOUT : Evt := ⟨0x0904, 1⟩
def LANE_SQUELCH : Evt := ⟨0x0905, 2⟩
def MESH_LINK_UP : Evt := ⟨0x0A00, 0⟩
def MESH_LINK_DOWN : Evt := ⟨0x0A01, 1⟩
def MESH_LINK_SLOW : Evt := ⟨0x0A02, 1⟩
def MESH_TOPOLOGY_CHANGE : Evt := ⟨0x0A03, 0⟩
def MESH_UNROUTABLE : Evt := ⟨0x0A04, 1⟩
def MESH_ADDR_CONFLICT : Evt := ⟨0x0A05, 3⟩
def MESH_TIME_FAILOVER : Evt := ⟨0x0A06, 1⟩
def ACCESS_DISCARDED : Evt := ⟨0x0B00, 1⟩
def DOORBELL_BAD : Evt := ⟨0x0B01, 1⟩
def HOST_RING_FAULT : Evt := ⟨0x0B02, 1⟩
def EVENTS_LOST : Evt := ⟨0x0B03, 1⟩
def DISPATCH_JOB_TIMEOUT : Evt := ⟨0x0C00, 1⟩
def DISPATCH_WORKER_LOST : Evt := ⟨0x0C01, 1⟩
def DISPATCH_DONE_REFUSED : Evt := ⟨0x0C02, 1⟩
def HEARTH_WATCHDOG : Evt := ⟨0x0D00, 1⟩
def HEARTH_CORE_HELD : Evt := ⟨0x0D01, 3⟩
def SCRATCH_ECC_UNCORR : Evt := ⟨0x0D02, 2⟩
def SCRATCH_TEST_FAIL : Evt := ⟨0x0D03, 1⟩
def EMBER_WIPED : Evt := ⟨0x0D04, 3⟩
def PLL_SMOULDER : Evt := ⟨0x0E00, 1⟩
def CLOCK_DEGRADED : Evt := ⟨0x0E01, 2⟩
def PLL_STABLE : Evt := ⟨0x0E02, 0⟩
def CLOCK_RESTORED : Evt := ⟨0x0E03, 0⟩
def KINDLING_TRIM_HOLD : Evt := ⟨0x0E04, 1⟩
def MONITOR_FAULT : Evt := ⟨0x0E05, 3⟩
def POWER_ABORTED : Evt := ⟨0x0F00, 1⟩
def TAMPER_DETECTED : Evt := ⟨0x0F10, 3⟩
def DEBUG_TRIGGER : Evt := ⟨0x0F18, 0⟩
def DEBUG_HALTED : Evt := ⟨0x0F19, 0⟩
def INJECT_DISCARDED : Evt := ⟨0x0F1C, 1⟩

end E

namespace Code

/-- The values of the eighteen codes (R356). -/
def all : List Nat := [0x00, 0x01, 0x02, 0x10, 0x11, 0x12, 0x13, 0x14, 0x15, 0x20, 0x21, 0x22, 0x30, 0x31, 0x40, 0x41,
  0x42, 0xF0]
/-- The code of the table that a free value names: no other code is returned (R356). -/
def free (v : Nat) : Nat := all.getD (v % 18) 0
/-- OK (R356). -/
def OK : Nat := 0x0000
/-- ALREADY_DONE (R356). -/
def ALREADY_DONE : Nat := 0x0001
/-- BUSY (R356). -/
def BUSY : Nat := 0x0002
/-- BAD_OPCODE (R356). -/
def BAD_OPCODE : Nat := 0x0010
/-- BAD_FIELD (R356). -/
def BAD_FIELD : Nat := 0x0011
/-- BAD_ALIGN (R356). -/
def BAD_ALIGN : Nat := 0x0012
/-- OUT_OF_RANGE (R356). -/
def OUT_OF_RANGE : Nat := 0x0013
/-- INCONSISTENT (R356). -/
def INCONSISTENT : Nat := 0x0014
/-- ACCESS_WIDTH (R356). -/
def ACCESS_WIDTH : Nat := 0x0015
/-- REFUSED (R356). -/
def REFUSED : Nat := 0x0020
/-- ROLE_MOVED (R356). -/
def ROLE_MOVED : Nat := 0x0021
/-- DOMAIN_CLOSED (R356). -/
def DOMAIN_CLOSED : Nat := 0x0022
/-- LIMIT_REACHED (R356). -/
def LIMIT_REACHED : Nat := 0x0030
/-- LIFECYCLE (R356). -/
def LIFECYCLE : Nat := 0x0031
/-- ABORTED (R356). -/
def ABORTED : Nat := 0x0040
/-- TAINTED (R356). -/
def TAINTED : Nat := 0x0041
/-- POISONED (R356). -/
def POISONED : Nat := 0x0042
/-- INTERNAL (R356). -/
def INTERNAL : Nat := 0x00F0

end Code

end Sys2Proof.Machine
end

