-- ==== Sys2Proof/Machine/Regs.lean ====
section
/-! DEFINITION. The register map: one constant per non-reserved field of the register tables of
spec/02 to spec/25 (R54, R74, R103, R129, R152, R153, R172, R201, R219, R242, R266, R287, R308, R331, R357,
R377, R393, R412, R426, R442, R443, R461, R474, R485, R508, R512), and the map of the registers (R509).
A field written by fuses or by the boot stages resets to the value log entry 5 names. -/

namespace Sys2Proof.Machine.F

/-! Tick engine: 02_frame_tick_and_schedule.md R54, domain DEVICE. -/
def TICK_NOW_TICK : Fld := ⟨0, 63, 0, .ro, 0, .none, .device⟩
def FRAME_OFFSET_OFFSET : Fld := ⟨1, 16, 0, .ro, 0, .none, .device⟩
def PERIOD_NOW_N : Fld := ⟨2, 16, 0, .ro, 0x5dc, .fix, .device⟩
def SCHED_ID_NOW_SCHED_ID : Fld := ⟨3, 31, 0, .ro, 0, .fix, .device⟩
def SCHED_POS_CYCLE_LEN : Fld := ⟨4, 12, 0, .ro, 1, .fix, .device⟩
def SCHED_POS_INDEX : Fld := ⟨5, 28, 16, .ro, 0, .none, .device⟩
def SCHED_BASE_BASE : Fld := ⟨6, 63, 0, .ro, 0, .fix, .device⟩
def ALIGN_CTRL_MODE : Fld := ⟨7, 1, 0, .rw, 0, .tick, .device⟩
def ALIGN_CTRL_MARK_DIV : Fld := ⟨8, 6, 4, .rw, 0, .tick, .device⟩
def ALIGN_CTRL_HOLDOVER : Fld := ⟨9, 15, 8, .rw, 0x10, .tick, .device⟩
def ALIGN_CTRL_ARM : Fld := ⟨10, 16, 16, .w1s, 0, .write, .device⟩
def ALIGN_TICK_EPOCH : Fld := ⟨11, 63, 0, .rw, 0, .write, .device⟩
def SYNC_DELAY_DELAY : Fld := ⟨12, 13, 0, .rw, 0, .tick, .device⟩
def ALIGN_STATUS_STATE : Fld := ⟨13, 2, 0, .ro, 0, .none, .device⟩
def ALIGN_STATUS_PHASE_ERR : Fld := ⟨14, 15, 8, .ro, 0, .none, .device⟩
def ALIGN_STATUS_IN_WINDOW : Fld := ⟨15, 23, 16, .ro, 0, .none, .device⟩
def ALIGN_STATUS_EPOCH_DONE : Fld := ⟨16, 24, 24, .w1c, 0, .write, .device⟩
def ALIGN_STATUS_EPOCH_MISMATCH : Fld := ⟨17, 25, 25, .w1c, 0, .write, .device⟩
def ALIGN_STATUS_ARM_REFUSED : Fld := ⟨18, 26, 26, .w1c, 0, .write, .device⟩
def SYNC_MISS_COUNT_MISSES : Fld := ⟨19, 31, 0, .ro, 0, .none, .device⟩
def OVERRUN_COUNT_OVERRUNS : Fld := ⟨20, 31, 0, .ro, 0, .none, .device⟩
def UNCREDITED_COUNT_GAP_TOTAL : Fld := ⟨21, 63, 0, .ro, 0, .none, .device⟩
def LOG_STATUS_WR_INDEX : Fld := ⟨22, 7, 0, .ro, 0, .none, .device⟩
def LOG_STATUS_LOG_LOST : Fld := ⟨23, 31, 16, .ro, 0, .none, .device⟩
def FRAME_LOG_ENTRY : Fld := ⟨24, 127, 0, .ro, 0, .none, .device⟩

/-! Proof and fix: 03_proof_and_fix.md R74, domain DEVICE. -/
def PF_STATE_STATE : Fld := ⟨25, 2, 0, .ro, 0, .none, .device⟩
def PF_STATE_OWNER : Fld := ⟨26, 3, 3, .ro, 0, .none, .device⟩
def PF_SET_ID_SET_ID : Fld := ⟨27, 31, 0, .ro, 0, .none, .device⟩
def PF_FIX_TICK_T : Fld := ⟨28, 63, 0, .ro, 0, .none, .device⟩
def PF_RESULT_CODE : Fld := ⟨29, 15, 0, .ro, 0, .none, .device⟩
def PF_RESULT_CHECK_ID : Fld := ⟨30, 23, 16, .ro, 0, .none, .device⟩
def PF_RESULT_DETAIL : Fld := ⟨31, 31, 24, .ro, 0, .none, .device⟩
def PF_ITEM_ITEM : Fld := ⟨32, 15, 0, .ro, 0, .none, .device⟩
def PF_ITEM_FIELD : Fld := ⟨33, 31, 16, .ro, 0, .none, .device⟩
def FIX_COUNT_FIXES : Fld := ⟨34, 31, 0, .ro, 0, .none, .device⟩
def INCONSISTENT_COUNT_FAILS : Fld := ⟨35, 31, 0, .ro, 0, .none, .device⟩
def LAST_FIX_TICK_TICK : Fld := ⟨36, 63, 0, .ro, 0, .none, .device⟩
def PROOF_TIME_CYCLES : Fld := ⟨37, 31, 0, .ro, 0, .none, .device⟩

/-! Global, limit status: 03_proof_and_fix.md R74, domain POR. -/
def LIMIT_STATUS_RECOVERY_USED : Fld := ⟨38, 2, 0, .fuse, 0, .none, .por⟩
def LIMIT_STATUS_ANTI_ROLLBACK : Fld := ⟨39, 15, 8, .fuse, 0, .none, .por⟩
def LIMIT_STATUS_ADDR_REWRITES : Fld := ⟨40, 19, 16, .fuse, 0, .none, .por⟩
def LIMIT_STATUS_ADDR_LOCKED : Fld := ⟨41, 20, 20, .fuse, 0, .none, .por⟩
def LIMIT_STATUS_LOG_USED : Fld := ⟨42, 30, 24, .fuse, 0, .none, .por⟩
def LIMIT_STATUS_REVOKED : Fld := ⟨43, 47, 32, .fuse, 0, .none, .por⟩

/-! Global, change log: 03_proof_and_fix.md R74, domain POR. -/
def CHANGE_LOG_ENTRY : Fld := ⟨44, 127, 0, .fuse, 0, .none, .por⟩

/-! Reel engine n: 04_reel_engines.md R103, domain DEVICE. -/
def RE_CTRL_CLEAR_COUNTS : Fld := ⟨45, 0, 0, .wo, 0, .write, .device⟩
def RE_CTRL_FLUSH_DICT : Fld := ⟨46, 1, 1, .wo, 0, .write, .device⟩
def RE_STATUS_STATE : Fld := ⟨47, 2, 0, .ro, 0, .none, .device⟩
def RE_STATUS_END_CAUSE : Fld := ⟨48, 7, 4, .ro, 0, .none, .device⟩
def RE_STATUS_DICT_VALID : Fld := ⟨49, 8, 8, .ro, 0, .none, .device⟩
def RE_STATUS_CAUSE_SEEN : Fld := ⟨50, 26, 16, .ro, 0, .none, .device⟩
def RE_BUDGET_FETCH_BUDGET : Fld := ⟨51, 15, 0, .rwf, 0, .fix, .device⟩
def FRAME_WORDS_WORDS : Fld := ⟨52, 31, 0, .ro, 0, .fix, .device⟩
def REEL_ID_NOW_REEL_ID : Fld := ⟨53, 31, 0, .ro, 0, .none, .device⟩
def DICT_ID_LOADED_DICT_ID : Fld := ⟨54, 31, 0, .ro, 0, .none, .device⟩
def STOP_NOW_STOP_ID : Fld := ⟨55, 15, 0, .ro, 0, .none, .device⟩
def VCYCLE_VC : Fld := ⟨56, 63, 0, .ro, 0, .none, .device⟩
def START_TICK_S : Fld := ⟨57, 63, 0, .ro, 0, .none, .device⟩
def END_TICK_TICK : Fld := ⟨58, 63, 0, .ro, 0, .none, .device⟩
def FIRST_TAINT_VC_VC : Fld := ⟨59, 63, 0, .ro, 0, .none, .device⟩
def NEXT_STOP_VC_VC : Fld := ⟨60, 63, 0, .ro, 0, .none, .device⟩
def LINES_FETCHED_LINES : Fld := ⟨61, 63, 0, .ro, 0, .none, .device⟩
def VECTORS_EMITTED_VECTORS : Fld := ⟨62, 63, 0, .ro, 0, .none, .device⟩
def SPLICED_VECTORS_VECTORS : Fld := ⟨63, 63, 0, .ro, 0, .none, .device⟩
def UNDERRUN_COUNT_COUNT : Fld := ⟨64, 31, 0, .ro, 0, .none, .device⟩
def TAINT_COUNT_COUNT : Fld := ⟨65, 31, 0, .ro, 0, .none, .device⟩
def ABORT_COUNT_COUNT : Fld := ⟨66, 31, 0, .ro, 0, .none, .device⟩
def FORMAT_COUNT_COUNT : Fld := ⟨67, 31, 0, .ro, 0, .none, .device⟩
def SPLICE_ERR_BAD_VALID : Fld := ⟨68, 15, 0, .ro, 0, .none, .device⟩
def SPLICE_ERR_OVERFLOW : Fld := ⟨69, 31, 16, .ro, 0, .none, .device⟩
def SPLICE_LEFTOVER_VECTORS : Fld := ⟨70, 31, 0, .ro, 0, .none, .device⟩
def BUFFER_LEVEL_LEVEL : Fld := ⟨71, 11, 0, .ro, 0, .none, .device⟩
def BUFFER_LEVEL_MIN_LEVEL : Fld := ⟨72, 27, 16, .ro, 0, .tick, .device⟩
def LANE_HOLD_WORD : Fld := ⟨73, 63, 0, .rw, 0, .tick, .device⟩
def MASK_TABLE_MASK : Fld := ⟨74, 63, 0, .ro, 0, .none, .device⟩

/-! Catch block n: 05_catch_blocks.md R129, domain DEVICE. -/
def CB_CTRL_CLEAR_COUNTS : Fld := ⟨75, 0, 0, .wo, 0, .write, .device⟩
def CB_STATUS_COMPARING : Fld := ⟨76, 0, 0, .ro, 0, .none, .device⟩
def CB_STATUS_DRAINING : Fld := ⟨77, 1, 1, .ro, 0, .none, .device⟩
def CB_STATUS_SUMMARY : Fld := ⟨78, 2, 2, .ro, 0, .none, .device⟩
def CB_STATUS_SUMMARY_PENDING : Fld := ⟨79, 3, 3, .ro, 0, .none, .device⟩
def CB_STATUS_RING_FULL : Fld := ⟨80, 4, 4, .ro, 0, .none, .device⟩
def CB_STATUS_CONFIG_BAD : Fld := ⟨81, 5, 5, .ro, 0, .none, .device⟩
def CB_STATUS_DELAY_BROKEN : Fld := ⟨82, 6, 6, .ro, 0, .none, .device⟩
def CB_STATUS_BP : Fld := ⟨83, 7, 7, .ro, 0, .none, .device⟩
def CB_STATUS_RD_ERR : Fld := ⟨84, 8, 8, .w1c, 0, .write, .device⟩
def CB_STATUS_SEEN : Fld := ⟨85, 20, 16, .ro, 0, .none, .device⟩
def CB_BUDGET_BUDGET : Fld := ⟨86, 13, 0, .rwf, 0, .fix, .device⟩
def CB_FLOW_FLOW : Fld := ⟨87, 9, 0, .rwf, 0, .fix, .device⟩
def CM_BASE_ADDR : Fld := ⟨88, 63, 0, .rwf, 0, .fix, .device⟩
def CM_LINES_LINES : Fld := ⟨89, 31, 0, .rwf, 0, .fix, .device⟩
def CB_INJECT_LANE : Fld := ⟨90, 2, 0, .rw, 0, .write, .device⟩
def CB_INJECT_INJ_DISAGREE : Fld := ⟨91, 8, 8, .w1s, 0, .write, .device⟩
def CB_INJECT_INJ_DELAY : Fld := ⟨92, 9, 9, .w1s, 0, .write, .device⟩
def CM_WR_INDEX : Fld := ⟨93, 63, 0, .ro, 0, .none, .device⟩
def CM_RD_INDEX : Fld := ⟨94, 63, 0, .rw, 0, .write, .device⟩
def STB_CFG_LANE_MASK : Fld := ⟨95, 7, 0, .rw, 0, .tick, .device⟩
def STB_CFG_STRETCH : Fld := ⟨96, 15, 8, .rw, 0, .tick, .device⟩
def STB_CFG_INVERT : Fld := ⟨97, 16, 16, .rw, 0, .tick, .device⟩
def FIFO_LEVEL_LEVEL : Fld := ⟨98, 6, 0, .ro, 0, .none, .device⟩
def FIFO_LEVEL_MAX_LEVEL : Fld := ⟨99, 22, 16, .ro, 0, .tick, .device⟩
def FRAME_RECORDS_OPENED : Fld := ⟨100, 13, 0, .ro, 0, .tick, .device⟩
def FRAME_RECORDS_CAUSES : Fld := ⟨101, 18, 16, .ro, 0, .tick, .device⟩
def RECORDS_MADE_RECORDS : Fld := ⟨102, 63, 0, .ro, 0, .none, .device⟩
def SUMMARY_COUNT_COUNT : Fld := ⟨103, 31, 0, .ro, 0, .none, .device⟩
def DISAGREE_COUNT_COUNT : Fld := ⟨104, 31, 0, .ro, 0, .none, .device⟩
def DELAY_FAULT_COUNT_COUNT : Fld := ⟨105, 31, 0, .ro, 0, .none, .device⟩
def WRITE_ERR_REFUSED_WRITES : Fld := ⟨106, 15, 0, .ro, 0, .none, .device⟩
def WRITE_ERR_WRONG_CHANNEL : Fld := ⟨107, 31, 16, .ro, 0, .none, .device⟩
def BURST_COUNT_BURSTS : Fld := ⟨108, 31, 0, .ro, 0, .none, .device⟩
def DELAY_WORDS : Fld := ⟨109, 12, 0, .rwf, 0, .fix, .device⟩
def FAIL_WORDS_COUNT : Fld := ⟨110, 63, 0, .ro, 0, .none, .device⟩
def FAIL_BITS_COUNT : Fld := ⟨111, 63, 0, .ro, 0, .none, .device⟩
def COMPARED_COUNT : Fld := ⟨112, 63, 0, .ro, 0, .none, .device⟩
def BURST_FAILS_COUNT : Fld := ⟨113, 31, 0, .ro, 0, .none, .device⟩
def MISSING_COUNT : Fld := ⟨114, 31, 0, .ro, 0, .none, .device⟩
def UNCOMPARED_COUNT : Fld := ⟨115, 31, 0, .ro, 0, .none, .device⟩

/-! Region k status: 06_fabric_regions.md R152, domain DEVICE. -/
def RG_STATUS_PSTATE : Fld := ⟨116, 2, 0, .ro, 3, .none, .device⟩
def RG_STATUS_SWAP : Fld := ⟨117, 3, 3, .ro, 0, .none, .device⟩
def RG_STATUS_CONFIGURED : Fld := ⟨118, 4, 4, .ro, 0, .none, .device⟩
def RG_STATUS_FRAME_UNCORRECTABLE : Fld := ⟨119, 5, 5, .ro, 0, .none, .device⟩
def RG_STATUS_BIAS_FAULT : Fld := ⟨120, 6, 6, .ro, 0, .none, .device⟩
def RG_STATUS_EDGE_STALE : Fld := ⟨121, 11, 8, .ro, 0, .none, .device⟩
def RG_STATUS_EDGE_SUSPECT : Fld := ⟨122, 15, 12, .ro, 0, .none, .device⟩
def RG_EPOCH_EPOCH : Fld := ⟨123, 15, 0, .ro, 0, .fix, .device⟩
def RG_OWNER_OWNER : Fld := ⟨124, 7, 0, .ro, 0x40, .fix, .device⟩
def RG_TEMP_TEMP : Fld := ⟨125, 11, 0, .ro, 0, .none, .device⟩
def RG_TEMP_MAX_TEMP : Fld := ⟨126, 27, 16, .ro, 0, .none, .device⟩
def RG_BIAS_MEASURED : Fld := ⟨127, 9, 0, .ro, 0, .none, .device⟩
def RG_BIAS_TARGET : Fld := ⟨128, 25, 16, .ro, 0, .none, .device⟩
def RG_BB_TRIM_TRIM : Fld := ⟨129, 4, 0, .rwf, 0, .fix, .device⟩
def RG_CLK_STATUS_RUNNING : Fld := ⟨130, 23, 0, .ro, 0, .none, .device⟩
def RG_REPAIR_BRAM_REPAIRED : Fld := ⟨131, 7, 0, .fuse, 0, .none, .device⟩
def RG_REPAIR_DEEP_REPAIRED : Fld := ⟨132, 12, 8, .fuse, 0, .none, .device⟩
def RG_FAULT_COUNT_TEMP_SKEW : Fld := ⟨133, 7, 0, .ro, 0, .none, .device⟩
def RG_FAULT_COUNT_BIAS_FAULTS : Fld := ⟨134, 15, 8, .ro, 0, .none, .device⟩
def RG_FAULT_COUNT_BCLK_MISMATCH : Fld := ⟨135, 23, 16, .ro, 0, .none, .device⟩
def RG_MISMATCH_GROUP : Fld := ⟨136, 5, 0, .ro, 0, .none, .device⟩
def RG_MISMATCH_EDGE : Fld := ⟨137, 7, 6, .ro, 0, .none, .device⟩

/-! Region k control: 06_fabric_regions.md R153, domain REGION. -/
def RG_CTRL_FABRIC_RESET : Fld := ⟨138, 0, 0, .wo, 0, .write, .region⟩
def RG_CTRL_IGNORED : Fld := ⟨139, 1, 1, .w1c, 0, .write, .region⟩
def RG_ROLE_MOVED_COUNT : Fld := ⟨140, 31, 0, .ro, 0, .none, .region⟩
def RG_INJECT_EDGE : Fld := ⟨141, 1, 0, .rw, 0, .write, .region⟩
def RG_INJECT_GROUP : Fld := ⟨142, 7, 2, .rw, 0, .write, .region⟩
def RG_INJECT_INJ_TEMP : Fld := ⟨143, 8, 8, .w1s, 0, .write, .region⟩
def RG_INJECT_INJ_BIAS : Fld := ⟨144, 9, 9, .w1s, 0, .write, .region⟩
def RG_INJECT_INJ_BCLK : Fld := ⟨145, 10, 10, .w1s, 0, .write, .region⟩

/-! Arithmetic slice s of region k: 07_arithmetic_slices.md R172, domain REGION. -/
def SL_STATUS_STATE : Fld := ⟨146, 2, 0, .ro, 0, .none, .region⟩
def SL_STATUS_OVF0 : Fld := ⟨147, 3, 3, .ro, 0, .none, .region⟩
def SL_STATUS_OVF1 : Fld := ⟨148, 4, 4, .ro, 0, .none, .region⟩
def SL_STATUS_STORE_SAT : Fld := ⟨149, 5, 5, .ro, 0, .none, .region⟩
def SL_STATUS_CMD_IGNORED : Fld := ⟨150, 6, 6, .w1c, 0, .write, .region⟩
def SL_CTRL_CLEAR_COUNTS : Fld := ⟨151, 0, 0, .wo, 0, .write, .region⟩
def SL_ITER_ITER : Fld := ⟨152, 63, 0, .ro, 0, .none, .region⟩
def SL_PTR_P_X : Fld := ⟨153, 7, 0, .ro, 0, .none, .region⟩
def SL_PTR_P_Y : Fld := ⟨154, 15, 8, .ro, 0, .none, .region⟩
def SL_PTR_P_W : Fld := ⟨155, 23, 16, .ro, 0, .none, .region⟩
def SL_PTR_PC : Fld := ⟨156, 29, 24, .ro, 0, .none, .region⟩
def SL_FAULT_INFO_FAULT_CODE : Fld := ⟨157, 3, 0, .ro, 0, .none, .region⟩
def SL_FAULT_INFO_FAULT_PC : Fld := ⟨158, 13, 8, .ro, 0, .none, .region⟩
def SL_FAULT_INFO_PARITY_ERRS : Fld := ⟨159, 23, 16, .ro, 0, .none, .region⟩
def SL_FAULT_INFO_FAULTS : Fld := ⟨160, 31, 24, .ro, 0, .none, .region⟩
def SL_CYCLES_CYCLES : Fld := ⟨161, 63, 0, .ro, 0, .none, .region⟩
def SL_MACS_MACS : Fld := ⟨162, 63, 0, .ro, 0, .none, .region⟩
def SL_STALL_STALL_IN : Fld := ⟨163, 15, 0, .ro, 0, .none, .region⟩
def SL_STALL_STALL_OUT : Fld := ⟨164, 31, 16, .ro, 0, .none, .region⟩
def SL_STEAL_STOLEN : Fld := ⟨165, 31, 0, .ro, 0, .none, .region⟩
def SL_INJECT_INJ_OPMEM : Fld := ⟨166, 0, 0, .w1s, 0, .write, .region⟩
def SL_INJECT_INJ_PROG : Fld := ⟨167, 1, 1, .w1s, 0, .write, .region⟩

/-! Configuration: 08_configuration_streams.md R201, domain DEVICE. -/
def CFG_CTRL_ABORT : Fld := ⟨168, 0, 0, .wo, 0, .tick, .device⟩
def CFG_CTRL_CLEAR_COUNTS : Fld := ⟨169, 1, 1, .wo, 0, .write, .device⟩
def CFG_STATUS_STATE : Fld := ⟨170, 2, 0, .ro, 0, .none, .device⟩
def CFG_STATUS_SOURCE : Fld := ⟨171, 5, 4, .ro, 0, .none, .device⟩
def CFG_STATUS_FORMAT : Fld := ⟨172, 6, 6, .ro, 0, .none, .device⟩
def CFG_STATUS_ENCRYPTED : Fld := ⟨173, 7, 7, .ro, 0, .none, .device⟩
def CFG_STATUS_ID_RESULT : Fld := ⟨174, 10, 8, .ro, 0, .none, .device⟩
def CFG_STATUS_GLOBAL_LOADED : Fld := ⟨175, 11, 11, .ro, 0, .none, .device⟩
def CFG_STATUS_RELEASE_LATE : Fld := ⟨176, 12, 12, .w1c, 0, .write, .device⟩
def CFG_STATUS_FIX_IGNORED : Fld := ⟨177, 13, 13, .w1c, 0, .write, .device⟩
def CFG_RESULT_CODE : Fld := ⟨178, 15, 0, .ro, 0, .none, .device⟩
def CFG_RESULT_FIELD : Fld := ⟨179, 23, 16, .ro, 0, .none, .device⟩
def CFG_RESULT_CAUSE : Fld := ⟨180, 31, 24, .ro, 0, .none, .device⟩
def CFG_SEGMENT_SEG : Fld := ⟨181, 31, 0, .ro, 0, .none, .device⟩
def CFG_FRAMES_FRAMES : Fld := ⟨182, 31, 0, .ro, 0, .none, .device⟩
def CFG_DESIGN_ID_DESIGN_ID : Fld := ⟨183, 31, 0, .ro, 0, .none, .device⟩
def CFG_BYTES_BYTES : Fld := ⟨184, 63, 0, .ro, 0, .none, .device⟩
def CFG_ERR_POS_OFFSET : Fld := ⟨185, 63, 0, .ro, 0, .none, .device⟩
def CFG_RELEASE_TICK_TICK : Fld := ⟨186, 63, 0, .ro, 0, .none, .device⟩
def CFG_LOADED_REGIONS : Fld := ⟨187, 63, 0, .ro, 0, .none, .device⟩
def CFG_TIME_CYCLES : Fld := ⟨188, 63, 0, .ro, 0, .none, .device⟩
def CFG_COUNTS_LOADS_OK : Fld := ⟨189, 15, 0, .ro, 0, .none, .device⟩
def CFG_COUNTS_LOADS_FAILED : Fld := ⟨190, 31, 16, .ro, 0, .none, .device⟩
def CFG_INJECT_INJ_AUTH : Fld := ⟨191, 0, 0, .w1s, 0, .write, .device⟩
def CFG_INJECT_INJ_CHECK : Fld := ⟨192, 1, 1, .w1s, 0, .write, .device⟩

/-! Configuration, scrubber and swap: 09_region_swap_and_scrubbing.md R219, domain DEVICE. -/
def SCRUB_CTRL_ENABLE : Fld := ⟨193, 0, 0, .rw, 1, .write, .device⟩
def SCRUB_CTRL_CLEAR_COUNTS : Fld := ⟨194, 1, 1, .wo, 0, .write, .device⟩
def SCRUB_CTRL_AUTO_DRAIN : Fld := ⟨195, 15, 8, .rw, 0x10, .write, .device⟩
def SCRUB_STATUS_RUNNING : Fld := ⟨196, 0, 0, .ro, 0, .none, .device⟩
def SCRUB_STATUS_GLOBAL_UNCORRECTABLE : Fld := ⟨197, 1, 1, .ro, 0, .none, .device⟩
def SCRUB_STATUS_RELOAD_ACTIVE : Fld := ⟨198, 2, 2, .ro, 0, .none, .device⟩
def SCRUB_STATUS_BORROWED : Fld := ⟨199, 3, 3, .ro, 0, .none, .device⟩
def SCRUB_POS_ADDR : Fld := ⟨200, 31, 0, .ro, 0, .none, .device⟩
def SCRUB_PASSES_PASSES : Fld := ⟨201, 63, 0, .ro, 0, .none, .device⟩
def SCRUB_CORRECTED_COUNT : Fld := ⟨202, 63, 0, .ro, 0, .none, .device⟩
def SCRUB_UNCORR_COUNT : Fld := ⟨203, 31, 0, .ro, 0, .none, .device⟩
def SCRUB_LAST_UNC_ADDR : Fld := ⟨204, 31, 0, .ro, 0, .none, .device⟩
def SCRUB_POLICY_RELOAD : Fld := ⟨205, 63, 0, .rwf, 0, .fix, .device⟩
def SCRUB_UNC_REGIONS_REGIONS : Fld := ⟨206, 63, 0, .ro, 0, .none, .device⟩
def SCRUB_PASS_TIME_CYCLES : Fld := ⟨207, 63, 0, .ro, 0, .none, .device⟩
def SCRUB_SKIPS_DYNAMIC : Fld := ⟨208, 31, 0, .ro, 0, .tick, .device⟩
def SCRUB_SKIPS_EXCLUDED : Fld := ⟨209, 63, 32, .ro, 0, .tick, .device⟩
def SCRUB_INJECT_INJ_SINGLE : Fld := ⟨210, 0, 0, .w1s, 0, .write, .device⟩
def SCRUB_INJECT_INJ_DOUBLE : Fld := ⟨211, 1, 1, .w1s, 0, .write, .device⟩
def RELOAD_ADDR_ADDR : Fld := ⟨212, 63, 0, .rwf, 0, .fix, .device⟩
def RELOAD_LEN_BYTES : Fld := ⟨213, 31, 0, .rwf, 0, .fix, .device⟩
def RELOAD_COUNT_COUNT : Fld := ⟨214, 31, 0, .ro, 0, .none, .device⟩
def SWAP_STATUS_STATE : Fld := ⟨215, 2, 0, .ro, 0, .none, .device⟩
def SWAP_STATUS_AUTO : Fld := ⟨216, 3, 3, .ro, 0, .none, .device⟩
def SWAP_STATUS_FORCED : Fld := ⟨217, 4, 4, .ro, 0, .none, .device⟩
def SWAP_STATUS_LATE : Fld := ⟨218, 5, 5, .ro, 0, .none, .device⟩
def SWAP_STATUS_MODE : Fld := ⟨219, 7, 6, .ro, 0, .none, .device⟩
def SWAP_STATUS_CAUSE : Fld := ⟨220, 15, 8, .ro, 0, .none, .device⟩
def SWAP_STATUS_CODE : Fld := ⟨221, 31, 16, .ro, 0, .none, .device⟩
def SWAP_DISCARDED_RESPONSES : Fld := ⟨222, 15, 0, .ro, 0, .none, .device⟩
def SWAP_DISCARDED_RETURNED : Fld := ⟨223, 31, 16, .ro, 0, .none, .device⟩
def SWAP_TICK_TICK : Fld := ⟨224, 63, 0, .ro, 0, .none, .device⟩
def FW_STATUS_ACTIVE_SLOT : Fld := ⟨225, 0, 0, .ro, 0, .none, .device⟩
def FW_STATUS_STATE : Fld := ⟨226, 2, 1, .ro, 0, .none, .device⟩
def FW_STATUS_VALID_A : Fld := ⟨227, 3, 3, .ro, 0, .none, .device⟩
def FW_STATUS_VALID_B : Fld := ⟨228, 4, 4, .ro, 0, .none, .device⟩
def FW_STATUS_COMMIT_PENDING : Fld := ⟨229, 5, 5, .ro, 0, .none, .device⟩
def FW_STATUS_VERSION_A : Fld := ⟨230, 15, 8, .ro, 0, .none, .device⟩
def FW_STATUS_VERSION_B : Fld := ⟨231, 23, 16, .ro, 0, .none, .device⟩
def FW_COUNTS_SWITCHES : Fld := ⟨232, 15, 0, .ro, 0, .none, .device⟩
def FW_COUNTS_REVERTS : Fld := ⟨233, 31, 16, .ro, 0, .none, .device⟩

/-! NoC router r: 10_on_chip_network.md R242, domain DEVICE. -/
def NR_CTRL_CLEAR_COUNTS : Fld := ⟨234, 0, 0, .wo, 0, .write, .device⟩
def NR_CTRL_AGE_LIMIT : Fld := ⟨235, 15, 8, .rw, 0x10, .tick, .device⟩
def NR_STATUS_PORT_STATE : Fld := ⟨236, 7, 0, .ro, 0xaa, .none, .device⟩
def NR_INJECT_DIR : Fld := ⟨237, 1, 0, .rw, 0, .write, .device⟩
def NR_INJECT_PORT : Fld := ⟨238, 3, 2, .rw, 0, .write, .device⟩
def NR_INJECT_INJ_PARITY : Fld := ⟨239, 4, 4, .w1s, 0, .write, .device⟩
def NR_INJECT_INJ_TIMEOUT : Fld := ⟨240, 5, 5, .w1s, 0, .write, .device⟩
def PORT_CFG_STREAM_ID : Fld := ⟨241, 15, 0, .rwf, 0, .fix, .device⟩
def PORT_CFG_HIST_SHIFT : Fld := ⟨242, 20, 16, .rw, 0, .tick, .device⟩
def PORT_CFG_TIMEOUT_EXP : Fld := ⟨243, 27, 24, .rw, 0xc, .tick, .device⟩
def PORT_FREE_LANDING_FREE : Fld := ⟨244, 11, 0, .ro, 0, .none, .device⟩
def PORT_FREE_RESP_FREE : Fld := ⟨245, 24, 16, .ro, 0, .none, .device⟩
def LINK_FLITS_FLITS : Fld := ⟨246, 63, 0, .ro, 0, .none, .device⟩
def LINK_PARITY_PARITY : Fld := ⟨247, 15, 0, .ro, 0, .none, .device⟩
def LINK_SUSPEND_CYCLES : Fld := ⟨248, 31, 0, .ro, 0, .none, .device⟩
def NR_COUNTS_A_SCH_CONFLICTS : Fld := ⟨249, 15, 0, .ro, 0, .none, .device⟩
def NR_COUNTS_A_AGED : Fld := ⟨250, 31, 16, .ro, 0, .none, .device⟩
def NR_COUNTS_B_RETURNS : Fld := ⟨251, 15, 0, .ro, 0, .none, .device⟩
def NR_COUNTS_B_CLOSED_REFUSALS : Fld := ⟨252, 31, 16, .ro, 0, .none, .device⟩
def NR_COUNTS_C_RETRIES : Fld := ⟨253, 7, 0, .ro, 0, .none, .device⟩
def NR_COUNTS_C_TIMEOUTS : Fld := ⟨254, 15, 8, .ro, 0, .none, .device⟩
def NR_COUNTS_C_LATE_RESP : Fld := ⟨255, 23, 16, .ro, 0, .none, .device⟩
def STAT_CTRL_SNAP : Fld := ⟨256, 0, 0, .wo, 0, .tick, .device⟩
def STAT_CTRL_CLEAR : Fld := ⟨257, 1, 1, .wo, 0, .tick, .device⟩
def STAT_BYTES_BYTES : Fld := ⟨258, 63, 0, .ro, 0, .none, .device⟩
def STAT_PACKETS_PACKETS : Fld := ⟨259, 63, 0, .ro, 0, .none, .device⟩
def STAT_LAT_SUM_CYCLES : Fld := ⟨260, 63, 0, .ro, 0, .none, .device⟩
def STAT_CREDIT_WAIT_CYCLES : Fld := ⟨261, 63, 0, .ro, 0, .none, .device⟩
def STAT_LAT_MIN_CYCLES : Fld := ⟨262, 31, 0, .ro, 0, .none, .device⟩
def STAT_LAT_MAX_CYCLES : Fld := ⟨263, 31, 0, .ro, 0, .none, .device⟩
def STAT_MEAN_CYCLES : Fld := ⟨264, 31, 0, .ro, 0, .none, .device⟩
def STAT_SNAP_TICK_TICK : Fld := ⟨265, 63, 0, .ro, 0, .none, .device⟩
def STAT_HIST_COUNT : Fld := ⟨266, 31, 0, .ro, 0, .none, .device⟩

/-! DDR channel c: 11_ddr5_controllers.md R266, domain DEVICE. -/
def DC_CTRL_CLEAR_COUNTS : Fld := ⟨267, 0, 0, .wo, 0, .write, .device⟩
def DC_CTRL_CLEAR_LOGS : Fld := ⟨268, 1, 1, .wo, 0, .write, .device⟩
def DC_STATUS_STATE : Fld := ⟨269, 2, 0, .ro, 0, .none, .device⟩
def DC_STATUS_TR_IGNORED : Fld := ⟨270, 3, 3, .w1c, 0, .write, .device⟩
def DC_STATUS_PARKED : Fld := ⟨271, 7, 4, .ro, 0, .none, .device⟩
def DC_STATUS_RATE_2X : Fld := ⟨272, 11, 8, .ro, 0, .none, .device⟩
def DC_STATUS_TRAIN_SOURCE : Fld := ⟨273, 13, 12, .ro, 0, .none, .device⟩
def DC_STATUS_FAIL_CAUSE : Fld := ⟨274, 15, 14, .ro, 0, .none, .device⟩
def DC_STATUS_WB_LEVEL : Fld := ⟨275, 21, 16, .ro, 0, .none, .device⟩
def DC_STATUS_RFM_LEVEL : Fld := ⟨276, 26, 22, .ro, 0, .none, .device⟩
def DC_CONFIG_RATE : Fld := ⟨277, 3, 0, .ro, 0, .none, .device⟩
def DC_CONFIG_RANKS : Fld := ⟨278, 5, 4, .ro, 0, .none, .device⟩
def DC_CONFIG_DENSITY : Fld := ⟨279, 7, 6, .ro, 0, .none, .device⟩
def DC_CONFIG_TWO_DIMMS : Fld := ⟨280, 8, 8, .ro, 0, .none, .device⟩
def DC_CONFIG_DRFM : Fld := ⟨281, 9, 9, .ro, 0, .none, .device⟩
def DC_CONFIG_RFM_REQUIRED : Fld := ⟨282, 10, 10, .ro, 0, .none, .device⟩
def DC_POLICY_RFM_PROB : Fld := ⟨283, 4, 0, .rwf, 0xa, .fix, .device⟩
def DC_POLICY_SCRUB_HOURS : Fld := ⟨284, 15, 8, .rwf, 0x18, .fix, .device⟩
def DC_CAPACITY_BYTES : Fld := ⟨285, 63, 0, .ro, 0, .none, .device⟩
def DC_SCRUB_POS_OFFSET : Fld := ⟨286, 63, 0, .ro, 0, .none, .device⟩
def DC_SCRUB_PASSES_PASSES : Fld := ⟨287, 23, 0, .ro, 0, .none, .device⟩
def DC_SCRUB_PASSES_LATE_PASSES : Fld := ⟨288, 31, 24, .ro, 0, .none, .device⟩
def DC_REFRESH_COUNTS_FALLBACK_MISSED : Fld := ⟨289, 15, 0, .ro, 0, .none, .device⟩
def DC_REFRESH_COUNTS_FALLBACK_AGE : Fld := ⟨290, 31, 16, .ro, 0, .none, .device⟩
def DC_REFRESH_MORE_UNSCHEDULED_REFRESH : Fld := ⟨291, 15, 0, .ro, 0, .none, .device⟩
def DC_REFRESH_MORE_PARKED_REFRESH : Fld := ⟨292, 31, 16, .ro, 0, .none, .device⟩
def DC_RFM_COUNTS_RFM_ISSUED : Fld := ⟨293, 15, 0, .ro, 0, .none, .device⟩
def DC_RFM_COUNTS_RFM_CARRIED : Fld := ⟨294, 23, 16, .ro, 0, .none, .device⟩
def DC_RFM_COUNTS_RFM_OVERFLOW : Fld := ⟨295, 31, 24, .ro, 0, .none, .device⟩
def DC_CORRECTED_CORRECTED : Fld := ⟨296, 63, 0, .ro, 0, .none, .device⟩
def DC_UE_COUNTS_UNCORR : Fld := ⟨297, 11, 0, .ro, 0, .none, .device⟩
def DC_UE_COUNTS_POISON_READS : Fld := ⟨298, 23, 12, .ro, 0, .none, .device⟩
def DC_UE_COUNTS_WB_SKIPPED : Fld := ⟨299, 31, 24, .ro, 0, .none, .device⟩
def DC_INJECT_INJ_CE : Fld := ⟨300, 0, 0, .w1s, 0, .write, .device⟩
def DC_INJECT_INJ_UE : Fld := ⟨301, 1, 1, .w1s, 0, .write, .device⟩
def DC_INJECT_INJ_REFMISS : Fld := ⟨302, 2, 2, .w1s, 0, .write, .device⟩
def DC_REPAIR_SPPR_ACTIVE : Fld := ⟨303, 7, 0, .ro, 0, .none, .device⟩
def DC_REPAIR_HPPR_DONE : Fld := ⟨304, 15, 8, .ro, 0, .none, .device⟩
def UE_LOG_ADDR : Fld := ⟨305, 39, 0, .ro, 0, .none, .device⟩
def UE_LOG_SOURCE : Fld := ⟨306, 41, 40, .ro, 0, .none, .device⟩
def UE_LOG_VALID : Fld := ⟨307, 42, 42, .ro, 0, .none, .device⟩
def UE_LOG_TICK : Fld := ⟨308, 127, 64, .ro, 0, .none, .device⟩
def CE_LOG_ADDR : Fld := ⟨309, 39, 0, .ro, 0, .none, .device⟩
def CE_LOG_DEVICE : Fld := ⟨310, 43, 40, .ro, 0, .none, .device⟩
def CE_LOG_VALID : Fld := ⟨311, 44, 44, .ro, 0, .none, .device⟩
def CE_LOG_TICK : Fld := ⟨312, 127, 64, .ro, 0, .none, .device⟩
def TR_CTRL_START : Fld := ⟨313, 0, 0, .wo, 0, .write, .device⟩
def TR_CTRL_MODE : Fld := ⟨314, 1, 1, .rw, 0, .write, .device⟩
def TR_CTRL_RANK : Fld := ⟨315, 3, 2, .rw, 0, .write, .device⟩
def TR_CTRL_SUBCH : Fld := ⟨316, 4, 4, .rw, 0, .write, .device⟩
def TR_CTRL_WRITE_PATH : Fld := ⟨317, 5, 5, .rw, 0, .write, .device⟩
def TR_CTRL_BURSTS : Fld := ⟨318, 31, 16, .rw, 0, .write, .device⟩
def TR_STATUS_BUSY : Fld := ⟨319, 0, 0, .ro, 0, .none, .device⟩
def TR_SEED_PATTERN : Fld := ⟨320, 31, 0, .rw, 0, .write, .device⟩
def TR_ERR_ERRORS : Fld := ⟨321, 15, 0, .ro, 0, .none, .device⟩
def TR_DESKEW_READ : Fld := ⟨322, 6, 0, .rw, 0, .write, .device⟩
def TR_DESKEW_WRITE : Fld := ⟨323, 14, 8, .rw, 0, .write, .device⟩
def TR_DQS_READ_DQS : Fld := ⟨324, 9, 0, .rw, 0, .write, .device⟩
def TR_DQS_WRITE_DQS : Fld := ⟨325, 25, 16, .rw, 0, .write, .device⟩

/-! Encryption: 12_inline_encryption.md R287, domain DEVICE. -/
def EN_CTRL_CLEAR_COUNTS : Fld := ⟨326, 0, 0, .wo, 0, .write, .device⟩
def EN_STATUS_SEALED_ANY : Fld := ⟨327, 0, 0, .ro, 0, .none, .device⟩
def EN_STATUS_REKEY_ACTIVE : Fld := ⟨328, 1, 1, .ro, 0, .none, .device⟩
def EN_STATUS_REKEY_ID : Fld := ⟨329, 13, 8, .ro, 0, .none, .device⟩
def EN_STATUS_RETIRE_QUEUE : Fld := ⟨330, 21, 16, .ro, 0, .none, .device⟩
def RK_CTRL_PACE : Fld := ⟨331, 11, 0, .rw, 0x80, .tick, .device⟩
def RK_CTRL_PRIO : Fld := ⟨332, 13, 12, .rw, 0, .tick, .device⟩
def RK_POS_ADDR : Fld := ⟨333, 39, 0, .ro, 0, .none, .device⟩
def INTEGRITY_FAILS_COUNT : Fld := ⟨334, 63, 0, .ro, 0, .none, .device⟩
def EN_COUNTS_REFUSALS : Fld := ⟨335, 15, 0, .ro, 0, .none, .device⟩
def EN_COUNTS_REKEY_POISONED : Fld := ⟨336, 31, 16, .ro, 0, .none, .device⟩
def EN_INJECT_INJ_TAG : Fld := ⟨337, 0, 0, .w1s, 0, .write, .device⟩
def EN_INJECT_INJ_REFUSE : Fld := ⟨338, 1, 1, .w1s, 0, .write, .device⟩
def KEY_STATE_STATE : Fld := ⟨339, 2, 0, .ro, 0, .none, .device⟩
def KEY_STATE_MODE : Fld := ⟨340, 3, 3, .ro, 0, .none, .device⟩
def KEY_STATE_TARGET : Fld := ⟨341, 9, 4, .ro, 0, .none, .device⟩
def KEY_STATE_RANGES : Fld := ⟨342, 31, 16, .ro, 0, .fix, .device⟩
def RANGE_BASE_SECTOR : Fld := ⟨343, 27, 0, .ro, 0, .fix, .device⟩
def RANGE_LIMIT_SECTOR : Fld := ⟨344, 27, 0, .ro, 0, .fix, .device⟩
def RANGE_LSN_LSN_BASE : Fld := ⟨345, 39, 0, .ro, 0, .fix, .device⟩
def RANGE_STATUS_STATE : Fld := ⟨346, 1, 0, .ro, 0, .fix, .device⟩
def RANGE_STATUS_KEY_ID : Fld := ⟨347, 7, 2, .ro, 0, .fix, .device⟩
def RANGE_ENTRY_ENTRY : Fld := ⟨348, 33, 0, .ro, 0, .fix, .device⟩
def FAIL_LOG_ADDR : Fld := ⟨349, 39, 0, .ro, 0, .none, .device⟩
def FAIL_LOG_KEY_ID : Fld := ⟨350, 45, 40, .ro, 0, .none, .device⟩
def FAIL_LOG_CHANNEL : Fld := ⟨351, 48, 46, .ro, 0, .none, .device⟩
def FAIL_LOG_VALID : Fld := ⟨352, 63, 63, .ro, 0, .none, .device⟩
def FAIL_LOG_SEQ_TAG : Fld := ⟨353, 79, 64, .ro, 0, .none, .device⟩
def FAIL_LOG_STREAM_ID : Fld := ⟨354, 95, 80, .ro, 0, .none, .device⟩
def FAIL_LOG_TICK : Fld := ⟨355, 127, 96, .ro, 0, .none, .device⟩
def DETAIL_LOG_REASON : Fld := ⟨356, 7, 0, .ro, 0, .none, .device⟩
def DETAIL_LOG_OPERATION : Fld := ⟨357, 15, 8, .ro, 0, .none, .device⟩
def DETAIL_LOG_KEY_ID : Fld := ⟨358, 21, 16, .ro, 0, .none, .device⟩
def DETAIL_LOG_RANGE : Fld := ⟨359, 25, 22, .ro, 0, .none, .device⟩
def DETAIL_LOG_STREAM_ID : Fld := ⟨360, 47, 32, .ro, 0, .none, .device⟩
def DETAIL_LOG_VALID : Fld := ⟨361, 63, 63, .ro, 0, .none, .device⟩
def DETAIL_LOG_TICK : Fld := ⟨362, 127, 64, .ro, 0, .none, .device⟩

/-! Lane group g: 13_serial_lanes.md R308, domain DEVICE. -/
def LG_CTRL_CLEAR_COUNTS : Fld := ⟨363, 0, 0, .wo, 0, .write, .device⟩
def LG_STATUS_PLL_STATE : Fld := ⟨364, 1, 0, .ro, 0, .none, .device⟩
def LG_STATUS_READY : Fld := ⟨365, 15, 8, .ro, 0, .none, .device⟩
def LG_ROLE_WORD0 : Fld := ⟨366, 63, 0, .ro, 0, .fix, .device⟩
def LG_PLL_WORD1 : Fld := ⟨367, 63, 0, .ro, 0, .fix, .device⟩
def LG_COUNTS_SLIPS : Fld := ⟨368, 15, 0, .ro, 0, .none, .device⟩
def LG_COUNTS_DESKEW_FAILS : Fld := ⟨369, 31, 16, .ro, 0, .none, .device⟩
def LG_INJECT_LANE : Fld := ⟨370, 2, 0, .rw, 0, .write, .device⟩
def LG_INJECT_INJ_BIP : Fld := ⟨371, 3, 3, .w1s, 0, .write, .device⟩
def LG_INJECT_INJ_LOCK : Fld := ⟨372, 4, 4, .w1s, 0, .write, .device⟩
def LG_INJECT_INJ_SLIP : Fld := ⟨373, 5, 5, .w1s, 0, .write, .device⟩
def LN_STATUS_STATE : Fld := ⟨374, 2, 0, .ro, 0, .none, .device⟩
def LN_STATUS_BLOCK_LOCK : Fld := ⟨375, 3, 3, .ro, 0, .none, .device⟩
def LN_STATUS_MARKER_LOCK : Fld := ⟨376, 4, 4, .ro, 0, .none, .device⟩
def LN_STATUS_SPARE : Fld := ⟨377, 5, 5, .ro, 0, .none, .device⟩
def LN_STATUS_WORD : Fld := ⟨378, 8, 6, .ro, 0, .none, .device⟩
def LN_STATUS_ELASTIC : Fld := ⟨379, 22, 16, .ro, 0, .none, .device⟩
def LN_LOCK_LOCK_LOSSES : Fld := ⟨380, 15, 0, .ro, 0, .none, .device⟩
def LN_LOCK_BAD_TYPE : Fld := ⟨381, 31, 16, .ro, 0, .none, .device⟩
def LN_MARKER_BIP_ERRORS : Fld := ⟨382, 15, 0, .ro, 0, .none, .device⟩
def LN_MARKER_MARKERS_MISSED : Fld := ⟨383, 31, 16, .ro, 0, .none, .device⟩
def LN_SKEW_SKEW : Fld := ⟨384, 12, 0, .ro, 0, .none, .device⟩
def LN_PRBS_CTRL_PATTERN : Fld := ⟨385, 1, 0, .rw, 0, .write, .device⟩
def LN_PRBS_CTRL_TX_EN : Fld := ⟨386, 2, 2, .rw, 0, .write, .device⟩
def LN_PRBS_CTRL_RX_EN : Fld := ⟨387, 3, 3, .rw, 0, .write, .device⟩
def LN_PRBS_CTRL_IGNORED : Fld := ⟨388, 4, 4, .w1c, 0, .write, .device⟩
def LN_PRBS_CTRL_RX_LOCK : Fld := ⟨389, 5, 5, .ro, 0, .none, .device⟩
def LN_EYE_CTRL_PHASE : Fld := ⟨390, 5, 0, .rw, 0, .write, .device⟩
def LN_EYE_CTRL_VOLT : Fld := ⟨391, 12, 6, .rw, 0, .write, .device⟩
def LN_EYE_CTRL_EYE : Fld := ⟨392, 14, 13, .rw, 0, .write, .device⟩
def LN_EYE_CTRL_DWELL : Fld := ⟨393, 19, 15, .rw, 0, .write, .device⟩
def LN_EYE_CTRL_START : Fld := ⟨394, 20, 20, .wo, 0, .write, .device⟩
def LN_EYE_CTRL_BUSY : Fld := ⟨395, 21, 21, .ro, 0, .none, .device⟩
def LN_PRBS_ERR_ERRORS : Fld := ⟨396, 63, 0, .ro, 0, .none, .device⟩
def LN_PRBS_BITS_BITS : Fld := ⟨397, 63, 0, .ro, 0, .none, .device⟩
def LN_EYE_RESULT_ERRORS : Fld := ⟨398, 47, 0, .ro, 0, .none, .device⟩

/-! Wavar mesh: 14_wavar_mesh.md R331, domain DEVICE. -/
def MS_CTRL_CLEAR_COUNTS : Fld := ⟨399, 0, 0, .wo, 0, .write, .device⟩
def MS_CTRL_TIME_DIV : Fld := ⟨400, 6, 4, .rw, 4, .tick, .device⟩
def MS_CTRL_REPORT_PERIOD : Fld := ⟨401, 15, 8, .rw, 0xa, .tick, .device⟩
def MS_STATUS_ADDR : Fld := ⟨402, 11, 0, .ro, 0, .fix, .device⟩
def MS_STATUS_ADDR_VALID : Fld := ⟨403, 12, 12, .ro, 0, .fix, .device⟩
def MS_STATUS_ADDR_LOCKED : Fld := ⟨404, 13, 13, .ro, 0, .none, .device⟩
def MS_STATUS_GATEWAY : Fld := ⟨405, 14, 14, .ro, 0, .none, .device⟩
def MS_STATUS_ADDR_CONFLICT : Fld := ⟨406, 15, 15, .w1c, 0, .write, .device⟩
def MS_STATUS_STRATUM : Fld := ⟨407, 23, 16, .ro, 0xff, .none, .device⟩
def MS_STATUS_TIME_SOURCE : Fld := ⟨408, 24, 24, .ro, 0, .none, .device⟩
def MS_SERIAL_SERIAL : Fld := ⟨409, 63, 0, .fuse, 0, .none, .device⟩
def MS_ROUTES_ROUTES_ID : Fld := ⟨410, 31, 0, .ro, 0, .fix, .device⟩
def MS_TIME_CFG_ROOT : Fld := ⟨411, 11, 0, .ro, 0, .fix, .device⟩
def MS_TIME_CFG_UPLINK : Fld := ⟨412, 19, 12, .ro, 0xff, .fix, .device⟩
def MS_TIME_CFG_BACKUP : Fld := ⟨413, 27, 20, .ro, 0xff, .fix, .device⟩
def MS_INBOX_BASE_ADDR : Fld := ⟨414, 63, 0, .rwf, 0, .fix, .device⟩
def MS_INBOX_SIZE_BYTES : Fld := ⟨415, 26, 0, .rwf, 0, .fix, .device⟩
def MS_COUNTS_UNROUTABLE : Fld := ⟨416, 15, 0, .ro, 0, .none, .device⟩
def MS_COUNTS_REPORTS_DROPPED : Fld := ⟨417, 31, 16, .ro, 0, .none, .device⟩
def MS_REPORT_BASE_ADDR : Fld := ⟨418, 63, 0, .rwf, 0, .fix, .device⟩
def MS_REPORT_LINES_LINES : Fld := ⟨419, 20, 0, .rwf, 0, .fix, .device⟩
def MS_INJECT_LINK : Fld := ⟨420, 7, 0, .rw, 0, .write, .device⟩
def MS_INJECT_INJ_CRC : Fld := ⟨421, 8, 8, .w1s, 0, .write, .device⟩
def MS_INJECT_INJ_ACK_DROP : Fld := ⟨422, 9, 9, .w1s, 0, .write, .device⟩
def MS_INJECT_INJ_TIME_MISS : Fld := ⟨423, 10, 10, .w1s, 0, .write, .device⟩
def MS_REPORT_WR_INDEX : Fld := ⟨424, 63, 0, .ro, 0, .none, .device⟩
def MS_REPORT_RD_INDEX : Fld := ⟨425, 63, 0, .rw, 0, .write, .device⟩
def LK_STATUS_STATE : Fld := ⟨426, 1, 0, .ro, 0, .none, .device⟩
def LK_STATUS_WIDTH : Fld := ⟨427, 3, 2, .ro, 0, .fix, .device⟩
def LK_STATUS_PEER_ADDR : Fld := ⟨428, 15, 4, .ro, 0, .none, .device⟩
def LK_STATUS_PEER_LINK : Fld := ⟨429, 23, 16, .ro, 0, .none, .device⟩
def LK_STATUS_PEER_ADDR_VALID : Fld := ⟨430, 24, 24, .ro, 0, .none, .device⟩
def LK_STATUS_SLOW : Fld := ⟨431, 25, 25, .ro, 0, .none, .device⟩
def LK_SEQ_NEXT_SEQ : Fld := ⟨432, 15, 0, .ro, 0, .none, .device⟩
def LK_SEQ_ACK_RX : Fld := ⟨433, 31, 16, .ro, 0xffff, .none, .device⟩
def LK_PEER_SERIAL : Fld := ⟨434, 63, 0, .ro, 0, .none, .device⟩
def LK_ERRORS_CRC_ERRORS : Fld := ⟨435, 7, 0, .ro, 0, .none, .device⟩
def LK_ERRORS_ACK_ERRORS : Fld := ⟨436, 15, 8, .ro, 0, .none, .device⟩
def LK_ERRORS_DUPLICATES : Fld := ⟨437, 23, 16, .ro, 0, .none, .device⟩
def LK_ERRORS_OUT_OF_ORDER : Fld := ⟨438, 31, 24, .ro, 0, .none, .device⟩
def LK_REPLAY_REPLAYS : Fld := ⟨439, 15, 0, .ro, 0, .none, .device⟩
def LK_REPLAY_TIMEOUTS : Fld := ⟨440, 23, 16, .ro, 0, .none, .device⟩
def LK_REPLAY_DOWNS : Fld := ⟨441, 31, 24, .ro, 0, .none, .device⟩
def LK_DELAY_ROUND_TRIP : Fld := ⟨442, 23, 0, .ro, 0, .none, .device⟩
def LK_CTRL_QUIET : Fld := ⟨443, 0, 0, .rw, 0, .write, .device⟩
def LK_CTRL_RESET : Fld := ⟨444, 1, 1, .wo, 0, .write, .device⟩
def LK_CTRL_IGNORED : Fld := ⟨445, 2, 2, .w1c, 0, .write, .device⟩
def LK_FRAMES_TX_FRAMES : Fld := ⟨446, 63, 0, .ro, 0, .none, .device⟩
def LK_FRAMES_RX_FRAMES : Fld := ⟨447, 63, 0, .ro, 0, .none, .device⟩
def ROUTE_LINK : Fld := ⟨448, 7, 0, .ro, 0xff, .fix, .device⟩
def ROUTE_SET_VC1 : Fld := ⟨449, 8, 8, .ro, 0, .fix, .device⟩

/-! Host interface: 15_host_link_and_rings.md R357, domain LINK. -/
def HI_CTRL_CLEAR_COUNTS : Fld := ⟨450, 0, 0, .wo, 0, .write, .link⟩
def HI_STATUS_READY : Fld := ⟨451, 0, 0, .ro, 0, .none, .link⟩
def HI_STATUS_LINK_UP : Fld := ⟨452, 1, 1, .ro, 0, .none, .link⟩
def HI_STATUS_WIDTH : Fld := ⟨453, 3, 2, .ro, 0, .none, .link⟩
def HI_STATUS_SPEED : Fld := ⟨454, 6, 4, .ro, 0, .none, .link⟩
def HI_ACCESS_LOG_OFFSET : Fld := ⟨455, 25, 0, .ro, 0, .none, .link⟩
def HI_ACCESS_LOG_BAR : Fld := ⟨456, 26, 26, .ro, 0, .none, .link⟩
def HI_ACCESS_LOG_BYTE_EN : Fld := ⟨457, 30, 27, .ro, 0, .none, .link⟩
def HI_ACCESS_LOG_KIND : Fld := ⟨458, 31, 31, .ro, 0, .none, .link⟩
def HI_COUNTS_WIDTH_ERRS : Fld := ⟨459, 7, 0, .ro, 0, .none, .link⟩
def HI_COUNTS_EARLY_DOORBELLS : Fld := ⟨460, 15, 8, .ro, 0, .none, .link⟩
def HI_COUNTS_LOST_COMPLETIONS : Fld := ⟨461, 31, 16, .ro, 0, .none, .link⟩
def EV_BASE_ADDR : Fld := ⟨462, 63, 0, .rw, 0, .write, .link⟩
def EV_CFG_SIZE_LOG2 : Fld := ⟨463, 4, 0, .rw, 0, .write, .link⟩
def EV_CFG_ENABLE : Fld := ⟨464, 5, 5, .rw, 0, .write, .link⟩
def EV_CFG_VECTOR : Fld := ⟨465, 26, 16, .rw, 0, .write, .link⟩
def EV_STATUS_RUNNING : Fld := ⟨466, 0, 0, .ro, 0, .none, .link⟩
def EV_STATUS_RD_ERR : Fld := ⟨467, 1, 1, .w1c, 0, .write, .link⟩
def EV_STATUS_OVERFLOW : Fld := ⟨468, 2, 2, .ro, 0, .none, .link⟩
def EV_STATUS_CFG_ERR : Fld := ⟨469, 3, 3, .w1c, 0, .write, .link⟩
def EV_WR_INDEX : Fld := ⟨470, 31, 0, .ro, 0, .none, .link⟩
def EV_RD_INDEX : Fld := ⟨471, 31, 0, .ro, 0, .none, .link⟩
def EV_LOST_COUNT : Fld := ⟨472, 31, 0, .ro, 0, .none, .link⟩
def HI_INJECT_RING : Fld := ⟨473, 5, 0, .rw, 0, .write, .link⟩
def HI_INJECT_INJ_FETCH : Fld := ⟨474, 8, 8, .w1s, 0, .write, .link⟩
def HI_INJECT_INJ_DOORBELL : Fld := ⟨475, 9, 9, .w1s, 0, .write, .link⟩
def CR_BASE_ADDR : Fld := ⟨476, 63, 0, .rw, 0, .write, .link⟩
def CR_CFG_SIZE_LOG2 : Fld := ⟨477, 4, 0, .rw, 0, .write, .link⟩
def CR_CFG_ENABLE : Fld := ⟨478, 5, 5, .rw, 0, .write, .link⟩
def CR_CFG_PROXY : Fld := ⟨479, 6, 6, .rw, 0, .write, .link⟩
def CR_CFG_RESUME : Fld := ⟨480, 7, 7, .wo, 0, .write, .link⟩
def CR_CFG_VECTOR : Fld := ⟨481, 18, 8, .rw, 0, .write, .link⟩
def CR_STATUS_STATE : Fld := ⟨482, 1, 0, .ro, 0, .none, .link⟩
def CR_STATUS_DB_ERR : Fld := ⟨483, 2, 2, .w1c, 0, .write, .link⟩
def CR_STATUS_RD_ERR : Fld := ⟨484, 3, 3, .w1c, 0, .write, .link⟩
def CR_STATUS_CFG_ERR : Fld := ⟨485, 4, 4, .w1c, 0, .write, .link⟩
def CR_STATUS_HALT_WRITE : Fld := ⟨486, 5, 5, .ro, 0, .none, .link⟩
def CR_STATUS_OUTSTANDING : Fld := ⟨487, 31, 15, .ro, 0, .none, .link⟩
def CR_CONS_INDEX : Fld := ⟨488, 31, 0, .ro, 0, .none, .link⟩
def CR_PROD_INDEX : Fld := ⟨489, 31, 0, .ro, 0, .none, .link⟩
def CQ_BASE_ADDR : Fld := ⟨490, 63, 0, .rw, 0, .write, .link⟩
def CQ_WR_INDEX : Fld := ⟨491, 31, 0, .ro, 0, .none, .link⟩
def CQ_RD_INDEX : Fld := ⟨492, 31, 0, .ro, 0, .none, .link⟩
def CR_IRQ_COUNT : Fld := ⟨493, 7, 0, .rw, 0, .write, .link⟩
def CR_IRQ_TIME : Fld := ⟨494, 15, 8, .rw, 0, .write, .link⟩
def CR_COUNTS_REJECTED : Fld := ⟨495, 15, 0, .ro, 0, .none, .link⟩
def CR_COUNTS_STALL_FRAMES : Fld := ⟨496, 31, 16, .ro, 0, .none, .link⟩
def PX_CFG_DST : Fld := ⟨497, 11, 0, .rw, 0, .write, .link⟩
def PX_CFG_SRC_ROUTED : Fld := ⟨498, 12, 12, .rw, 0, .write, .link⟩
def PX_CFG_OUT_LEN : Fld := ⟨499, 18, 13, .rw, 0, .write, .link⟩
def PX_CFG_BACK_LEN : Fld := ⟨500, 24, 19, .rw, 0, .write, .link⟩
def PX_CFG_TIMEOUT_EXP : Fld := ⟨501, 31, 28, .rw, 0xa, .write, .link⟩
def PX_OUT_ROUTE : Fld := ⟨502, 63, 0, .rw, 0, .write, .link⟩
def PX_BACK_ROUTE : Fld := ⟨503, 63, 0, .rw, 0, .write, .link⟩

/-! Dispatcher: 16_dispatcher.md R377, domain DEVICE. -/
def DP_CTRL_CLEAR_COUNTS : Fld := ⟨504, 0, 0, .wo, 0, .write, .device⟩
def DP_CTRL_HIST_SHIFT : Fld := ⟨505, 8, 4, .rw, 0, .tick, .device⟩
def DP_STATUS_BUSY : Fld := ⟨506, 0, 0, .ro, 0, .none, .device⟩
def DP_POOL_FREE : Fld := ⟨507, 16, 0, .ro, 0x10000, .none, .device⟩
def DP_POOL_SHARED_FREE : Fld := ⟨508, 48, 32, .ro, 0xfc00, .none, .device⟩
def DP_COUNTS_ENQ_STALL_FRAMES : Fld := ⟨509, 15, 0, .ro, 0, .none, .device⟩
def DP_COUNTS_JOB_TIMEOUTS : Fld := ⟨510, 31, 16, .ro, 0, .none, .device⟩
def DP_COUNTS_B_LATE_DONE : Fld := ⟨511, 7, 0, .ro, 0, .none, .device⟩
def DP_COUNTS_B_WORKERS_LOST : Fld := ⟨512, 15, 8, .ro, 0, .none, .device⟩
def DP_COUNTS_B_DONE_REFUSED : Fld := ⟨513, 23, 16, .ro, 0, .none, .device⟩
def DP_COUNTS_B_UNSCHEDULED_ADVANCE : Fld := ⟨514, 31, 24, .ro, 0, .none, .device⟩
def DP_INJECT_WORKER : Fld := ⟨515, 6, 0, .rw, 0, .write, .device⟩
def DP_INJECT_INJ_TIMEOUT : Fld := ⟨516, 7, 7, .w1s, 0, .write, .device⟩
def DP_INJECT_INJ_LOST : Fld := ⟨517, 8, 8, .w1s, 0, .write, .device⟩
def READY_DEPTH_DEPTH : Fld := ⟨518, 16, 0, .ro, 0, .none, .device⟩
def DELAY_NEXT_TICK : Fld := ⟨519, 63, 0, .ro, 0xffffffffffffffff, .none, .device⟩
def DELAY_DEPTH_DEPTH : Fld := ⟨520, 14, 0, .ro, 0, .none, .device⟩
def DELAY_LATE_LATE_JOBS : Fld := ⟨521, 15, 0, .ro, 0, .none, .device⟩
def DELAY_LATE_MAX_LATE : Fld := ⟨522, 31, 16, .ro, 0, .none, .device⟩
def WAIT_HIST_COUNT : Fld := ⟨523, 31, 0, .ro, 0, .none, .device⟩
def FLOW_CFG_RESERVED : Fld := ⟨524, 15, 0, .ro, 0, .fix, .device⟩
def FLOW_CFG_KIND : Fld := ⟨525, 17, 16, .ro, 0, .fix, .device⟩
def FLOW_CFG_CATCH : Fld := ⟨526, 21, 18, .ro, 0, .fix, .device⟩
def FLOW_DEPTH_HELD : Fld := ⟨527, 16, 0, .ro, 0, .none, .device⟩
def FLOW_DEPTH_WINDOW : Fld := ⟨528, 25, 17, .ro, 0, .none, .device⟩
def WK_CFG_STATE : Fld := ⟨529, 1, 0, .ro, 0, .none, .device⟩
def WK_CFG_DEPTH_M1 : Fld := ⟨530, 5, 2, .ro, 0, .none, .device⟩
def WK_CFG_ROUTER : Fld := ⟨531, 12, 6, .ro, 0, .none, .device⟩
def WK_CFG_PORT : Fld := ⟨532, 14, 13, .ro, 0, .none, .device⟩
def WK_CFG_CLASS : Fld := ⟨533, 31, 16, .ro, 0, .none, .device⟩
def WK_STATUS_IN_FLIGHT : Fld := ⟨534, 4, 0, .ro, 0, .none, .device⟩
def WK_STATUS_TIMEOUT_EXP : Fld := ⟨535, 15, 8, .ro, 0, .none, .device⟩
def WK_STATUS_EPOCH : Fld := ⟨536, 31, 16, .ro, 0, .none, .device⟩
def WK_MAILBOX_ADDR : Fld := ⟨537, 37, 0, .ro, 0, .none, .device⟩
def WK_BUSY_F1 : Fld := ⟨538, 15, 0, .ro, 0, .tick, .device⟩
def WK_BUSY_F16 : Fld := ⟨539, 31, 16, .ro, 0, .tick, .device⟩
def WK_BUSY_F256 : Fld := ⟨540, 47, 32, .ro, 0, .tick, .device⟩
def WK_JOBS_JOBS : Fld := ⟨541, 63, 0, .ro, 0, .none, .device⟩
def WK_COUNTS_TIMEOUTS : Fld := ⟨542, 15, 0, .ro, 0, .none, .device⟩
def WK_COUNTS_RETURNED : Fld := ⟨543, 31, 16, .ro, 0, .none, .device⟩

/-! Scratchpad and management: 17_management_and_scratchpad.md R393, domain DEVICE. -/
def SP_CTRL_CLEAR_COUNTS : Fld := ⟨544, 0, 0, .wo, 0, .write, .device⟩
def SP_CTRL_TEST_ENABLE : Fld := ⟨545, 1, 1, .rw, 1, .tick, .device⟩
def SP_CTRL_TEST_STEP_EXP : Fld := ⟨546, 8, 4, .rw, 6, .tick, .device⟩
def SP_STATUS_EMBER_MODE : Fld := ⟨547, 1, 0, .ro, 0, .none, .device⟩
def SP_STATUS_WIPING : Fld := ⟨548, 2, 2, .ro, 0, .none, .device⟩
def SP_STATUS_TESTING : Fld := ⟨549, 3, 3, .ro, 0, .none, .device⟩
def SP_STATUS_UNREPAIRED : Fld := ⟨550, 4, 4, .ro, 0, .none, .device⟩
def SP_STATUS_REPAIRS_USED : Fld := ⟨551, 7, 5, .ro, 0, .none, .device⟩
def SP_TEST_POS_BLOCK : Fld := ⟨552, 10, 0, .ro, 0, .none, .device⟩
def SP_ECC_CORRECTED : Fld := ⟨553, 15, 0, .ro, 0, .none, .device⟩
def SP_ECC_UNCORR : Fld := ⟨554, 31, 16, .ro, 0, .none, .device⟩
def SP_TEST_COUNTS_PASSES : Fld := ⟨555, 15, 0, .ro, 0, .none, .device⟩
def SP_TEST_COUNTS_TEST_FAILS : Fld := ⟨556, 23, 16, .ro, 0, .none, .device⟩
def SP_TEST_COUNTS_TEST_LATE : Fld := ⟨557, 31, 24, .ro, 0, .none, .device⟩
def SP_INJECT_INJ_ECC1 : Fld := ⟨558, 0, 0, .w1s, 0, .write, .device⟩
def SP_INJECT_INJ_ECC2 : Fld := ⟨559, 1, 1, .w1s, 0, .write, .device⟩
def SP_INJECT_INJ_MARCH : Fld := ⟨560, 2, 2, .w1s, 0, .write, .device⟩
def SP_REPAIR_ENTRIES : Fld := ⟨561, 63, 0, .ro, 0, .none, .por⟩
def SP_WIPE_WIPES : Fld := ⟨562, 15, 0, .ro, 0, .none, .device⟩
def SP_WIPE_LAST_CAUSE : Fld := ⟨563, 19, 16, .ro, 0, .none, .device⟩
def SP_WIPE_TICK_TICK : Fld := ⟨564, 63, 0, .ro, 0, .none, .device⟩
def SP_DENY_LOG_OFFSET : Fld := ⟨565, 22, 0, .ro, 0, .none, .device⟩
def SP_DENY_LOG_CLASS : Fld := ⟨566, 24, 23, .ro, 0, .none, .device⟩
def SP_DENY_LOG_KIND : Fld := ⟨567, 26, 25, .ro, 0, .none, .device⟩
def SP_DENY_LOG_STREAM_ID : Fld := ⟨568, 47, 32, .ro, 0, .none, .device⟩
def SP_DENY_LOG_VALID : Fld := ⟨569, 63, 63, .ro, 0, .none, .device⟩
def SP_DENY_COUNT_DENIALS : Fld := ⟨570, 31, 0, .ro, 0, .none, .device⟩
def SP_RGN_BASE_BLOCK : Fld := ⟨571, 10, 0, .rwf, 0, .fix, .device⟩
def SP_RGN_LIMIT_BLOCK : Fld := ⟨572, 10, 0, .rwf, 0, .fix, .device⟩
def SP_RGN_PERM_R : Fld := ⟨573, 0, 0, .rwf, 0, .fix, .device⟩
def SP_RGN_PERM_W : Fld := ⟨574, 1, 1, .rwf, 0, .fix, .device⟩
def SP_RGN_PERM_X : Fld := ⟨575, 2, 2, .rwf, 0, .fix, .device⟩
def SP_RGN_PERM_ENABLE : Fld := ⟨576, 3, 3, .rwf, 0, .fix, .device⟩
def HM_STATUS_CORE_STATE : Fld := ⟨577, 11, 0, .ro, 0, .none, .device⟩
def HM_STATUS_BOOT_DONE : Fld := ⟨578, 12, 12, .ro, 0, .none, .device⟩
def WD_CFG_WD_PERIOD_EXP : Fld := ⟨579, 4, 0, .ro, 0, .tick, .device⟩
def WD_COUNTS_RESTARTS : Fld := ⟨580, 31, 0, .ro, 0, .none, .device⟩

/-! Clocks: 18_clocks.md R412, domain DEVICE. -/
def CK_CTRL_CLEAR_COUNTS : Fld := ⟨581, 0, 0, .wo, 0, .write, .device⟩
def CK_STATUS_CORE_ON_CPLL : Fld := ⟨582, 0, 0, .ro, 1, .none, .device⟩
def CK_STATUS_DEGRADED : Fld := ⟨583, 1, 1, .ro, 0, .none, .device⟩
def CK_STATUS_CAUSE : Fld := ⟨584, 3, 2, .ro, 0, .none, .device⟩
def CK_KINDLING_TRIM_CODE : Fld := ⟨585, 9, 0, .ro, 0, .none, .device⟩
def CK_KINDLING_TRIMMED : Fld := ⟨586, 10, 10, .ro, 0, .none, .device⟩
def CK_KINDLING_TRIM_HOLD : Fld := ⟨587, 11, 11, .ro, 0, .none, .device⟩
def CK_KINDLING_TRIM_REF : Fld := ⟨588, 14, 12, .ro, 0, .fix, .device⟩
def CK_INJECT_MON : Fld := ⟨589, 5, 0, .rw, 0, .write, .device⟩
def CK_INJECT_INJ_LOSS : Fld := ⟨590, 6, 6, .w1s, 0, .write, .device⟩
def CK_INJECT_INJ_BAND : Fld := ⟨591, 7, 7, .w1s, 0, .write, .device⟩
def CK_COUNTS_SMOULDERS : Fld := ⟨592, 15, 0, .ro, 0, .none, .device⟩
def CK_COUNTS_SWITCHES : Fld := ⟨593, 31, 16, .ro, 0, .none, .device⟩
def CK_SEL_WORD0 : Fld := ⟨594, 63, 0, .ro, 0, .fix, .device⟩
def CK_DOM_STATE : Fld := ⟨595, 1, 0, .ro, 0, .none, .device⟩
def CK_DOM_RAMP_STEP : Fld := ⟨596, 31, 16, .ro, 0x400, .fix, .device⟩
def CK_DOM_COUNTS_SMOULDERS : Fld := ⟨597, 15, 0, .ro, 0, .none, .device⟩
def CK_DOM_COUNTS_SWITCHES : Fld := ⟨598, 31, 16, .ro, 0, .none, .device⟩
def MON_CFG_WINDOW_EXP : Fld := ⟨599, 4, 0, .rw, 0xc, .tick, .device⟩
def MON_CFG_COMPARE : Fld := ⟨600, 7, 5, .rw, 0, .tick, .device⟩
def MON_CFG_BAND : Fld := ⟨601, 19, 8, .rw, 0x1f4, .tick, .device⟩
def MON_CFG_K : Fld := ⟨602, 27, 20, .rw, 8, .tick, .device⟩
def MON_CFG_FAIL_K : Fld := ⟨603, 31, 28, .rw, 2, .tick, .device⟩
def MON_NOMINAL_KHZ : Fld := ⟨604, 31, 0, .rw, 0, .tick, .device⟩
def MON_STATUS_STABLE : Fld := ⟨605, 0, 0, .ro, 0, .none, .device⟩
def MON_STATUS_LOST : Fld := ⟨606, 1, 1, .ro, 0, .none, .device⟩
def MON_STATUS_RUN : Fld := ⟨607, 9, 2, .ro, 0, .none, .device⟩
def MON_STATUS_ERR : Fld := ⟨608, 31, 16, .ro, 0, .none, .device⟩
def MON_COUNTS_OUT_OF_BAND : Fld := ⟨609, 15, 0, .ro, 0, .none, .device⟩
def MON_COUNTS_LOSSES : Fld := ⟨610, 31, 16, .ro, 0, .none, .device⟩

/-! Power: 19_power_states.md R426, domain DEVICE. -/
def PW_CTRL_CLEAR_COUNTS : Fld := ⟨611, 0, 0, .wo, 0, .write, .device⟩
def PW_CTRL_DRAIN_FRAMES : Fld := ⟨612, 15, 8, .rw, 0x10, .tick, .device⟩
def PW_STATUS_DEVICE_STATE : Fld := ⟨613, 1, 0, .ro, 0, .none, .device⟩
def PW_STATUS_BUSY : Fld := ⟨614, 2, 2, .ro, 0, .none, .device⟩
def PW_STATUS_QUEUED : Fld := ⟨615, 6, 3, .ro, 0, .none, .device⟩
def PW_DAMPED_REGIONS : Fld := ⟨616, 63, 0, .ro, 0, .none, .device⟩
def PW_DARK_REGIONS : Fld := ⟨617, 63, 0, .ro, 0xffffffffffffffff, .none, .device⟩
def PW_BOOST_REGIONS : Fld := ⟨618, 63, 0, .ro, 0, .none, .device⟩
def PW_RESTORE_REGIONS : Fld := ⟨619, 63, 0, .ro, 0, .none, .device⟩
def PW_LAST_REFUSER : Fld := ⟨620, 7, 0, .ro, 0, .none, .device⟩
def PW_LAST_KIND : Fld := ⟨621, 8, 8, .ro, 0, .none, .device⟩
def PW_LAST_TARGET : Fld := ⟨622, 15, 12, .ro, 0, .none, .device⟩
def PW_INJECT_INJ_DRAIN : Fld := ⟨623, 0, 0, .w1s, 0, .write, .device⟩
def PW_LAST_TICK_TICK : Fld := ⟨624, 63, 0, .ro, 0, .none, .device⟩
def PW_COUNT_REFUSALS : Fld := ⟨625, 15, 0, .ro, 0, .none, .device⟩
def PW_COUNT_ABORTS : Fld := ⟨626, 31, 16, .ro, 0, .none, .device⟩

/-! Global, lifecycle and tamper record: 20_keys_and_lifecycle.md R442, domain POR. -/
def LC_STATUS_FUSED_STATE : Fld := ⟨627, 2, 0, .fuse, 0, .none, .por⟩
def LC_STATUS_STATE : Fld := ⟨628, 6, 4, .ro, 0, .none, .por⟩
def LC_STATUS_RECOVERY_DENIED : Fld := ⟨629, 7, 7, .ro, 0, .none, .por⟩
def LC_STATUS_RECOVERY_REQ : Fld := ⟨630, 8, 8, .rw, 0, .write, .por⟩
def TP_LAST_SENSORS : Fld := ⟨631, 3, 0, .ro, 0, .none, .por⟩
def TP_COUNTS_COUNTS : Fld := ⟨632, 31, 0, .ro, 0, .none, .por⟩
def TP_LAST_TICK_TICK : Fld := ⟨633, 63, 0, .ro, 0, .none, .por⟩

/-! Global, keys and permissions: 20_keys_and_lifecycle.md R443, domain DEVICE. -/
def TP_MASK_MASK : Fld := ⟨634, 3, 0, .rw, 0, .write, .device⟩
def TP_INJECT_INJ_SENSOR : Fld := ⟨635, 3, 0, .w1s, 0, .write, .device⟩
def INJ_PERMIT_PERMIT : Fld := ⟨636, 31, 0, .rwf, 0, .fix, .device⟩
def SLOT_STATE_STATE : Fld := ⟨637, 1, 0, .ro, 0, .none, .device⟩
def SLOT_STATE_CONFIG : Fld := ⟨638, 2, 2, .ro, 0, .none, .device⟩
def SLOT_STATE_MEMORY : Fld := ⟨639, 3, 3, .ro, 0, .none, .device⟩
def SLOT_STATE_REVOKE_BIT : Fld := ⟨640, 7, 4, .ro, 0, .none, .device⟩

/-! Debug: 21_debug_port.md R461, domain DEVICE. -/
def DB_CTRL_HALT : Fld := ⟨641, 0, 0, .wo, 0, .tick, .device⟩
def DB_CTRL_RESUME : Fld := ⟨642, 1, 1, .wo, 0, .tick, .device⟩
def DB_CTRL_STEP : Fld := ⟨643, 2, 2, .wo, 0, .tick, .device⟩
def DB_CTRL_SEQ_ARM : Fld := ⟨644, 3, 3, .rw, 0, .write, .device⟩
def DB_CTRL_HALT_CORES : Fld := ⟨645, 4, 4, .rw, 0, .tick, .device⟩
def DB_CTRL_CLEAR_COUNTS : Fld := ⟨646, 5, 5, .wo, 0, .write, .device⟩
def DB_CTRL_HALT_WAIT : Fld := ⟨647, 15, 8, .rw, 0x40, .tick, .device⟩
def DB_STATUS_RC_STATE : Fld := ⟨648, 2, 0, .ro, 0, .none, .device⟩
def DB_STATUS_DRAIN_INCOMPLETE : Fld := ⟨649, 3, 3, .w1c, 0, .write, .device⟩
def DB_STATUS_SEQ_STATE : Fld := ⟨650, 5, 4, .ro, 0, .none, .device⟩
def DB_STATUS_PIN_REFUSED : Fld := ⟨651, 6, 6, .w1c, 0, .write, .device⟩
def DB_STATUS_CORES_HALTED : Fld := ⟨652, 7, 7, .ro, 0, .none, .device⟩
def DB_STATUS_INSTRUCTION : Fld := ⟨653, 15, 8, .ro, 2, .none, .device⟩
def DB_STATUS_DEBUG_PERMITTED : Fld := ⟨654, 16, 16, .ro, 0, .none, .device⟩
def DB_HALT_TICK_TICK : Fld := ⟨655, 63, 0, .ro, 0, .none, .device⟩
def DB_HIT_COMPARATOR : Fld := ⟨656, 4, 0, .ro, 0, .none, .device⟩
def DB_HIT_STATE : Fld := ⟨657, 9, 8, .ro, 0, .none, .device⟩
def DA_CMD_REGION : Fld := ⟨658, 5, 0, .rw, 0, .write, .device⟩
def DA_CMD_TARGET : Fld := ⟨659, 14, 8, .rw, 0, .write, .device⟩
def DA_CMD_OP : Fld := ⟨660, 19, 16, .rw, 0, .write, .device⟩
def DA_CMD_ADDR : Fld := ⟨661, 27, 20, .rw, 0, .write, .device⟩
def DA_CMD_GO : Fld := ⟨662, 31, 31, .wo, 0, .write, .device⟩
def DA_STATUS_CODE : Fld := ⟨663, 15, 0, .ro, 0, .none, .device⟩
def DA_STATUS_BUSY : Fld := ⟨664, 16, 16, .ro, 0, .none, .device⟩
def DA_DATA_DATA : Fld := ⟨665, 63, 0, .rw, 0, .write, .device⟩
def DA_ATTACHED_REGIONS : Fld := ⟨666, 63, 0, .ro, 0, .none, .device⟩
def NC_CFG_ROUTER : Fld := ⟨667, 6, 0, .rw, 0, .write, .device⟩
def NC_CFG_PORT : Fld := ⟨668, 8, 7, .rw, 0, .write, .device⟩
def NC_CFG_KIND : Fld := ⟨669, 10, 9, .rw, 0, .write, .device⟩
def NC_CFG_CTX_EN : Fld := ⟨670, 11, 11, .rw, 0, .write, .device⟩
def NC_CTX_STREAM_ID : Fld := ⟨671, 15, 0, .rw, 0, .write, .device⟩
def NC_CTX_MASK : Fld := ⟨672, 31, 16, .rw, 0, .write, .device⟩
def NC_LOW_ADDR : Fld := ⟨673, 37, 0, .rw, 0, .write, .device⟩
def NC_HIGH_ADDR : Fld := ⟨674, 37, 0, .rw, 0, .write, .device⟩
def NC_HITS_COUNT : Fld := ⟨675, 31, 0, .ro, 0, .none, .device⟩
def TC_TICK_TICK : Fld := ⟨676, 63, 0, .rw, 0, .write, .device⟩
def TC_CFG_OFFSET : Fld := ⟨677, 16, 0, .rw, 0, .write, .device⟩
def TC_CFG_MODE : Fld := ⟨678, 18, 17, .rw, 0, .write, .device⟩
def TC_HITS_COUNT : Fld := ⟨679, 31, 0, .ro, 0, .none, .device⟩
def EC_CFG_EVENT_ID : Fld := ⟨680, 15, 0, .rw, 0, .write, .device⟩
def EC_CFG_ENABLE : Fld := ⟨681, 16, 16, .rw, 0, .write, .device⟩
def EC_HITS_COUNT : Fld := ⟨682, 31, 0, .ro, 0, .none, .device⟩
def SQ_MASK_COMPARATORS : Fld := ⟨683, 31, 0, .rw, 0, .write, .device⟩
def SQ_CFG_COUNT_M1 : Fld := ⟨684, 15, 0, .rw, 0, .write, .device⟩
def SQ_CFG_NEXT : Fld := ⟨685, 17, 16, .rw, 0, .write, .device⟩
def SQ_CFG_ACT_HALT : Fld := ⟨686, 18, 18, .rw, 0, .write, .device⟩
def SQ_CFG_ACT_EVENT : Fld := ⟨687, 19, 19, .rw, 0, .write, .device⟩
def SQ_CFG_ACT_STOP : Fld := ⟨688, 20, 20, .rw, 0, .write, .device⟩
def SQ_COUNT_HITS : Fld := ⟨689, 15, 0, .ro, 0, .none, .device⟩

/-! Global, fault injection and aggregation: 22_fault_detection_and_injection.md R474, domain DEVICE. -/
def FI_TICK_INJECT_INJ_OVERRUN : Fld := ⟨690, 0, 0, .w1s, 0, .write, .device⟩
def FI_TICK_INJECT_INJ_SYNC_MISS : Fld := ⟨691, 1, 1, .w1s, 0, .write, .device⟩
def FI_REEL_INJECT_ENGINE : Fld := ⟨692, 3, 0, .rw, 0, .write, .device⟩
def FI_REEL_INJECT_INJ_UNDERRUN : Fld := ⟨693, 4, 4, .w1s, 0, .write, .device⟩
def FI_REEL_INJECT_INJ_FORMAT : Fld := ⟨694, 5, 5, .w1s, 0, .write, .device⟩
def FI_REEL_INJECT_INJ_SPLICE : Fld := ⟨695, 6, 6, .w1s, 0, .write, .device⟩
def FI_CHECK_INJECT_BLOCK : Fld := ⟨696, 3, 0, .rw, 0, .write, .device⟩
def FI_CHECK_INJECT_SEL : Fld := ⟨697, 10, 4, .rw, 0, .write, .device⟩
def FI_CHECK_INJECT_INJ_CMP_CHECK : Fld := ⟨698, 11, 11, .w1s, 0, .write, .device⟩
def FI_CHECK_INJECT_INJ_DLY_CHECK : Fld := ⟨699, 12, 12, .w1s, 0, .write, .device⟩
def FI_CHECK_INJECT_INJ_MONITOR : Fld := ⟨700, 13, 13, .w1s, 0, .write, .device⟩
def FI_CHECK_INJECT_INJ_SENSOR : Fld := ⟨701, 14, 14, .w1s, 0, .write, .device⟩
def FI_CORE_INJECT_CORE : Fld := ⟨702, 1, 0, .rw, 0, .write, .device⟩
def FI_CORE_INJECT_INJ_WATCHDOG : Fld := ⟨703, 2, 2, .w1s, 0, .write, .device⟩
def FI_MISC_INJECT_UNIT : Fld := ⟨704, 7, 0, .rw, 0, .write, .device⟩
def FI_MISC_INJECT_INJ_SCH_CONFLICT : Fld := ⟨705, 8, 8, .w1s, 0, .write, .device⟩
def FI_MISC_INJECT_INJ_MR4 : Fld := ⟨706, 9, 9, .w1s, 0, .write, .device⟩
def FI_MISC_INJECT_INJ_RFM_FULL : Fld := ⟨707, 10, 10, .w1s, 0, .write, .device⟩
def FI_MISC_INJECT_INJ_DESKEW : Fld := ⟨708, 11, 11, .w1s, 0, .write, .device⟩
def FI_MISC_INJECT_INJ_TRAIN_TIMEOUT : Fld := ⟨709, 12, 12, .w1s, 0, .write, .device⟩
def FI_MISC_INJECT_INJ_SLOW : Fld := ⟨710, 13, 13, .w1s, 0, .write, .device⟩
def FI_STATUS_DISCARDED : Fld := ⟨711, 15, 0, .ro, 0, .none, .device⟩
def FI_STATUS_DISARMED : Fld := ⟨712, 31, 16, .ro, 0, .none, .device⟩
def FI_LAST_DISCARD_OFFSET : Fld := ⟨713, 25, 0, .ro, 0, .none, .device⟩
def FI_CHECK_STATUS_CMP_LOST : Fld := ⟨714, 15, 0, .ro, 0, .none, .device⟩
def FI_CHECK_STATUS_DLY_LOST : Fld := ⟨715, 31, 16, .ro, 0, .none, .device⟩
def FI_CHECK_STATUS_CENTRAL_FAULT : Fld := ⟨716, 32, 32, .ro, 0, .none, .device⟩
def FI_MON_FAULT_MONITORS : Fld := ⟨717, 53, 0, .ro, 0, .none, .device⟩
def FI_SENSOR_FAULT_REGIONS : Fld := ⟨718, 63, 0, .ro, 0, .none, .device⟩
def EA_CTRL_CLEAR_COUNTS : Fld := ⟨719, 0, 0, .wo, 0, .write, .device⟩
def EA_INJECTED_COUNT : Fld := ⟨720, 31, 0, .ro, 0, .none, .device⟩
def EA_CLASS_NOTE : Fld := ⟨721, 15, 0, .ro, 0, .none, .device⟩
def EA_CLASS_HANDLED : Fld := ⟨722, 31, 16, .ro, 0, .none, .device⟩
def EA_CLASS_MARKED : Fld := ⟨723, 47, 32, .ro, 0, .none, .device⟩
def EA_CLASS_FAULT : Fld := ⟨724, 63, 48, .ro, 0, .none, .device⟩
def EA_FIRST_FAULT_EVENT_ID : Fld := ⟨725, 15, 0, .ro, 0, .none, .device⟩
def EA_FIRST_FAULT_INSTANCE : Fld := ⟨726, 31, 16, .ro, 0, .none, .device⟩
def EA_FIRST_FAULT_VALID : Fld := ⟨727, 32, 32, .ro, 0, .none, .device⟩
def EA_FIRST_TICK_TICK : Fld := ⟨728, 63, 0, .ro, 0, .none, .device⟩
def EA_MASK_MASK : Fld := ⟨729, 31, 0, .rw, 0, .tick, .device⟩
def EA_COUNT_COUNT : Fld := ⟨730, 31, 0, .ro, 0, .none, .device⟩

/-! Global, reset control: 23_power_up_and_reset.md R485, domain POR. -/
def RS_CTRL_DEVICE_RESET : Fld := ⟨731, 0, 0, .wo, 0, .write, .por⟩
def RS_CTRL_KEY : Fld := ⟨732, 15, 8, .wo, 0, .write, .por⟩
def RS_STATUS_LAST_CAUSE : Fld := ⟨733, 2, 0, .ro, 1, .none, .por⟩
def RS_STATUS_BOOTSEL : Fld := ⟨734, 4, 3, .ro, 0, .none, .por⟩
def RS_STATUS_DEVICE_RESETS : Fld := ⟨735, 31, 16, .ro, 0, .none, .por⟩

/-! Global, boot status: 23_power_up_and_reset.md R485, domain DEVICE. -/
def BOOT_STATUS_STAGE : Fld := ⟨736, 3, 0, .ro, 1, .none, .device⟩
def BOOT_STATUS_DIR_COPY : Fld := ⟨737, 4, 4, .ro, 0, .none, .device⟩
def BOOT_STATUS_CFG_FAILED : Fld := ⟨738, 5, 5, .ro, 0, .none, .device⟩
def BOOT_STATUS_CFG_ALT_USED : Fld := ⟨739, 6, 6, .ro, 0, .none, .device⟩
def BOOT_STATUS_NO_DIRECTORY : Fld := ⟨740, 7, 7, .ro, 0, .none, .device⟩
def BOOT_TIME_CYCLES : Fld := ⟨741, 63, 0, .ro, 0, .none, .device⟩

/-! I/O bank b: 24_balls_and_electrical.md R508, domain DEVICE. -/
def BK_CTRL_CLEAR_COUNTS : Fld := ⟨742, 0, 0, .wo, 0, .write, .device⟩
def BK_STATUS_VCCO_MV : Fld := ⟨743, 11, 0, .ro, 0, .none, .device⟩
def BK_STATUS_VCCO_CLASS : Fld := ⟨744, 13, 12, .ro, 0, .none, .device⟩
def BK_STATUS_VCCO_MISMATCH : Fld := ⟨745, 14, 14, .ro, 0, .none, .device⟩
def BK_SHUT_PINS : Fld := ⟨746, 47, 0, .ro, 0, .none, .device⟩
def BK_COUNTS_SHUTS : Fld := ⟨747, 15, 0, .ro, 0, .none, .device⟩
def BK_COUNTS_RETRIES : Fld := ⟨748, 31, 16, .ro, 0, .none, .device⟩
def IO_TEST_PIN : Fld := ⟨749, 5, 0, .rw, 0, .write, .device⟩
def IO_TEST_SENSE_TEST : Fld := ⟨750, 8, 8, .w1s, 0, .write, .device⟩
def IO_TEST_RESULT : Fld := ⟨751, 10, 9, .ro, 0, .none, .device⟩
def DIAG_COUNTS_OPENS : Fld := ⟨752, 15, 0, .ro, 0, .none, .device⟩
def DIAG_COUNTS_DIAG_MISSED : Fld := ⟨753, 31, 16, .ro, 0, .none, .device⟩
def PIN_CTRL_RETRY : Fld := ⟨754, 0, 0, .wo, 0, .tick, .device⟩
def PIN_STATUS_STANDARD : Fld := ⟨755, 3, 0, .ro, 0, .none, .device⟩
def PIN_STATUS_DIR : Fld := ⟨756, 5, 4, .ro, 0, .none, .device⟩
def PIN_STATUS_SHUT : Fld := ⟨757, 6, 6, .ro, 0, .none, .device⟩
def PIN_STATUS_SENSED : Fld := ⟨758, 7, 7, .ro, 0, .none, .device⟩
def PIN_STATUS_DIAG : Fld := ⟨759, 10, 8, .ro, 0, .tick, .device⟩
def PIN_STATUS_DIAG_OK : Fld := ⟨760, 11, 11, .ro, 0, .none, .device⟩
def PIN_STATUS_SOURCE : Fld := ⟨761, 16, 12, .ro, 0, .none, .device⟩
def PIN_STATUS_STROBE : Fld := ⟨762, 17, 17, .ro, 0, .none, .device⟩
def PIN_STATUS_CONTENTIONS : Fld := ⟨763, 31, 24, .ro, 0, .none, .device⟩

/-! Global, identity: 25_register_space.md R512, domain POR. -/
def GL_IDCODE_IDCODE : Fld := ⟨764, 31, 0, .fuse, 0x1537656f, .none, .por⟩
def GL_GRADE_SPEED : Fld := ⟨765, 1, 0, .fuse, 3, .none, .por⟩
def GL_GRADE_TEMP : Fld := ⟨766, 2, 2, .fuse, 0, .none, .por⟩
def GL_GRADE_VERSION : Fld := ⟨767, 11, 8, .fuse, 1, .none, .por⟩
def GL_MAP_VERSION_MAP : Fld := ⟨768, 15, 0, .ro, 1, .none, .por⟩
def GL_DIE_LOT : Fld := ⟨769, 23, 0, .fuse, 0, .none, .por⟩
def GL_DIE_WAFER : Fld := ⟨770, 31, 24, .fuse, 0, .none, .por⟩
def GL_DIE_SITE : Fld := ⟨771, 47, 32, .fuse, 0, .none, .por⟩
def GL_ATTENTION_FAULT_SEEN : Fld := ⟨772, 0, 0, .w1c, 0, .write, .por⟩
def GL_ATTENTION_GROUP_SEEN : Fld := ⟨773, 15, 1, .w1c, 0, .write, .por⟩

end Sys2Proof.Machine.F

namespace Sys2Proof.Machine

open F

/-- The registers of: Tick engine. -/
def regs_Tick_engine : List RegRow :=
  [⟨0x100000, [], [], 64, [TICK_NOW_TICK]⟩,
   ⟨0x100008, [], [], 32, [FRAME_OFFSET_OFFSET]⟩,
   ⟨0x10000c, [], [], 32, [PERIOD_NOW_N]⟩,
   ⟨0x100010, [], [], 32, [SCHED_ID_NOW_SCHED_ID]⟩,
   ⟨0x100014, [], [], 32, [SCHED_POS_CYCLE_LEN, SCHED_POS_INDEX]⟩,
   ⟨0x100018, [], [], 64, [SCHED_BASE_BASE]⟩,
   ⟨0x100020, [], [], 32, [ALIGN_CTRL_MODE, ALIGN_CTRL_MARK_DIV, ALIGN_CTRL_HOLDOVER, ALIGN_CTRL_ARM]⟩,
   ⟨0x100028, [], [], 64, [ALIGN_TICK_EPOCH]⟩,
   ⟨0x100030, [], [], 32, [SYNC_DELAY_DELAY]⟩,
   ⟨0x100034, [], [], 32, [ALIGN_STATUS_STATE, ALIGN_STATUS_PHASE_ERR, ALIGN_STATUS_IN_WINDOW, ALIGN_STATUS_EPOCH_DONE, ALIGN_STATUS_EPOCH_MISMATCH, ALIGN_STATUS_ARM_REFUSED]⟩,
   ⟨0x100038, [], [], 32, [SYNC_MISS_COUNT_MISSES]⟩,
   ⟨0x10003c, [], [], 32, [OVERRUN_COUNT_OVERRUNS]⟩,
   ⟨0x100040, [], [], 64, [UNCREDITED_COUNT_GAP_TOTAL]⟩,
   ⟨0x100048, [], [], 32, [LOG_STATUS_WR_INDEX, LOG_STATUS_LOG_LOST]⟩,
   ⟨0x101000, [], [(0x10, 256)], 128, [FRAME_LOG_ENTRY]⟩]

/-- The registers of: Proof and fix. -/
def regs_Proof_and_fix : List RegRow :=
  [⟨0x140000, [], [], 32, [PF_STATE_STATE, PF_STATE_OWNER]⟩,
   ⟨0x140004, [], [], 32, [PF_SET_ID_SET_ID]⟩,
   ⟨0x140008, [], [], 64, [PF_FIX_TICK_T]⟩,
   ⟨0x140010, [], [], 32, [PF_RESULT_CODE, PF_RESULT_CHECK_ID, PF_RESULT_DETAIL]⟩,
   ⟨0x140014, [], [], 32, [PF_ITEM_ITEM, PF_ITEM_FIELD]⟩,
   ⟨0x140018, [], [], 32, [FIX_COUNT_FIXES]⟩,
   ⟨0x14001c, [], [], 32, [INCONSISTENT_COUNT_FAILS]⟩,
   ⟨0x140020, [], [], 64, [LAST_FIX_TICK_TICK]⟩,
   ⟨0x140028, [], [], 32, [PROOF_TIME_CYCLES]⟩]

/-- The registers of: Global, limit status. -/
def regs_Global_limit_status : List RegRow :=
  [⟨0x200, [], [], 64, [LIMIT_STATUS_RECOVERY_USED, LIMIT_STATUS_ANTI_ROLLBACK, LIMIT_STATUS_ADDR_REWRITES, LIMIT_STATUS_ADDR_LOCKED, LIMIT_STATUS_LOG_USED, LIMIT_STATUS_REVOKED]⟩]

/-- The registers of: Global, change log. -/
def regs_Global_change_log : List RegRow :=
  [⟨0x2000, [], [(0x10, 64)], 128, [CHANGE_LOG_ENTRY]⟩]

/-- The registers of: Reel engine n. -/
def regs_Reel_engine_n : List RegRow :=
  [⟨0x1000000, [(0x10000, 16)], [], 32, [RE_CTRL_CLEAR_COUNTS, RE_CTRL_FLUSH_DICT]⟩,
   ⟨0x1000004, [(0x10000, 16)], [], 32, [RE_STATUS_STATE, RE_STATUS_END_CAUSE, RE_STATUS_DICT_VALID, RE_STATUS_CAUSE_SEEN]⟩,
   ⟨0x1000008, [(0x10000, 16)], [], 32, [RE_BUDGET_FETCH_BUDGET]⟩,
   ⟨0x100000c, [(0x10000, 16)], [], 32, [FRAME_WORDS_WORDS]⟩,
   ⟨0x1000010, [(0x10000, 16)], [], 32, [REEL_ID_NOW_REEL_ID]⟩,
   ⟨0x1000014, [(0x10000, 16)], [], 32, [DICT_ID_LOADED_DICT_ID]⟩,
   ⟨0x1000018, [(0x10000, 16)], [], 32, [STOP_NOW_STOP_ID]⟩,
   ⟨0x1000020, [(0x10000, 16)], [], 64, [VCYCLE_VC]⟩,
   ⟨0x1000028, [(0x10000, 16)], [], 64, [START_TICK_S]⟩,
   ⟨0x1000030, [(0x10000, 16)], [], 64, [END_TICK_TICK]⟩,
   ⟨0x1000038, [(0x10000, 16)], [], 64, [FIRST_TAINT_VC_VC]⟩,
   ⟨0x1000040, [(0x10000, 16)], [], 64, [NEXT_STOP_VC_VC]⟩,
   ⟨0x1000048, [(0x10000, 16)], [], 64, [LINES_FETCHED_LINES]⟩,
   ⟨0x1000050, [(0x10000, 16)], [], 64, [VECTORS_EMITTED_VECTORS]⟩,
   ⟨0x1000058, [(0x10000, 16)], [], 64, [SPLICED_VECTORS_VECTORS]⟩,
   ⟨0x1000060, [(0x10000, 16)], [], 32, [UNDERRUN_COUNT_COUNT]⟩,
   ⟨0x1000064, [(0x10000, 16)], [], 32, [TAINT_COUNT_COUNT]⟩,
   ⟨0x1000068, [(0x10000, 16)], [], 32, [ABORT_COUNT_COUNT]⟩,
   ⟨0x100006c, [(0x10000, 16)], [], 32, [FORMAT_COUNT_COUNT]⟩,
   ⟨0x1000070, [(0x10000, 16)], [], 32, [SPLICE_ERR_BAD_VALID, SPLICE_ERR_OVERFLOW]⟩,
   ⟨0x1000074, [(0x10000, 16)], [], 32, [SPLICE_LEFTOVER_VECTORS]⟩,
   ⟨0x1000078, [(0x10000, 16)], [], 32, [BUFFER_LEVEL_LEVEL, BUFFER_LEVEL_MIN_LEVEL]⟩,
   ⟨0x1000100, [(0x10000, 16)], [(0x8, 8)], 64, [LANE_HOLD_WORD]⟩,
   ⟨0x1000200, [(0x10000, 16)], [(0x40, 8), (0x8, 8)], 64, [MASK_TABLE_MASK]⟩]

/-- The registers of: Catch block n. -/
def regs_Catch_block_n : List RegRow :=
  [⟨0x1100000, [(0x10000, 16)], [], 32, [CB_CTRL_CLEAR_COUNTS]⟩,
   ⟨0x1100004, [(0x10000, 16)], [], 32, [CB_STATUS_COMPARING, CB_STATUS_DRAINING, CB_STATUS_SUMMARY, CB_STATUS_SUMMARY_PENDING, CB_STATUS_RING_FULL, CB_STATUS_CONFIG_BAD, CB_STATUS_DELAY_BROKEN, CB_STATUS_BP, CB_STATUS_RD_ERR, CB_STATUS_SEEN]⟩,
   ⟨0x1100008, [(0x10000, 16)], [], 32, [CB_BUDGET_BUDGET]⟩,
   ⟨0x110000c, [(0x10000, 16)], [], 32, [CB_FLOW_FLOW]⟩,
   ⟨0x1100010, [(0x10000, 16)], [], 64, [CM_BASE_ADDR]⟩,
   ⟨0x1100018, [(0x10000, 16)], [], 32, [CM_LINES_LINES]⟩,
   ⟨0x110001c, [(0x10000, 16)], [], 32, [CB_INJECT_LANE, CB_INJECT_INJ_DISAGREE, CB_INJECT_INJ_DELAY]⟩,
   ⟨0x1100020, [(0x10000, 16)], [], 64, [CM_WR_INDEX]⟩,
   ⟨0x1100028, [(0x10000, 16)], [], 64, [CM_RD_INDEX]⟩,
   ⟨0x1100030, [(0x10000, 16)], [(0x4, 2)], 32, [STB_CFG_LANE_MASK, STB_CFG_STRETCH, STB_CFG_INVERT]⟩,
   ⟨0x1100038, [(0x10000, 16)], [], 32, [FIFO_LEVEL_LEVEL, FIFO_LEVEL_MAX_LEVEL]⟩,
   ⟨0x110003c, [(0x10000, 16)], [], 32, [FRAME_RECORDS_OPENED, FRAME_RECORDS_CAUSES]⟩,
   ⟨0x1100040, [(0x10000, 16)], [], 64, [RECORDS_MADE_RECORDS]⟩,
   ⟨0x1100048, [(0x10000, 16)], [], 32, [SUMMARY_COUNT_COUNT]⟩,
   ⟨0x110004c, [(0x10000, 16)], [], 32, [DISAGREE_COUNT_COUNT]⟩,
   ⟨0x1100050, [(0x10000, 16)], [], 32, [DELAY_FAULT_COUNT_COUNT]⟩,
   ⟨0x1100054, [(0x10000, 16)], [], 32, [WRITE_ERR_REFUSED_WRITES, WRITE_ERR_WRONG_CHANNEL]⟩,
   ⟨0x1100058, [(0x10000, 16)], [], 32, [BURST_COUNT_BURSTS]⟩,
   ⟨0x1100100, [(0x10000, 16)], [(0x4, 8)], 32, [DELAY_WORDS]⟩,
   ⟨0x1100200, [(0x10000, 16)], [(0x40, 8)], 64, [FAIL_WORDS_COUNT]⟩,
   ⟨0x1100208, [(0x10000, 16)], [(0x40, 8)], 64, [FAIL_BITS_COUNT]⟩,
   ⟨0x1100210, [(0x10000, 16)], [(0x40, 8)], 64, [COMPARED_COUNT]⟩,
   ⟨0x1100218, [(0x10000, 16)], [(0x40, 8)], 32, [BURST_FAILS_COUNT]⟩,
   ⟨0x110021c, [(0x10000, 16)], [(0x40, 8)], 32, [MISSING_COUNT]⟩,
   ⟨0x1100220, [(0x10000, 16)], [(0x40, 8)], 32, [UNCOMPARED_COUNT]⟩]

/-- The registers of: Region k status. -/
def regs_Region_k_status : List RegRow :=
  [⟨0x2000000, [(0x10000, 64)], [], 32, [RG_STATUS_PSTATE, RG_STATUS_SWAP, RG_STATUS_CONFIGURED, RG_STATUS_FRAME_UNCORRECTABLE, RG_STATUS_BIAS_FAULT, RG_STATUS_EDGE_STALE, RG_STATUS_EDGE_SUSPECT]⟩,
   ⟨0x2000004, [(0x10000, 64)], [], 32, [RG_EPOCH_EPOCH]⟩,
   ⟨0x2000008, [(0x10000, 64)], [], 32, [RG_OWNER_OWNER]⟩,
   ⟨0x200000c, [(0x10000, 64)], [], 32, [RG_TEMP_TEMP, RG_TEMP_MAX_TEMP]⟩,
   ⟨0x2000010, [(0x10000, 64)], [], 32, [RG_BIAS_MEASURED, RG_BIAS_TARGET]⟩,
   ⟨0x2000014, [(0x10000, 64)], [], 32, [RG_BB_TRIM_TRIM]⟩,
   ⟨0x2000018, [(0x10000, 64)], [], 32, [RG_CLK_STATUS_RUNNING]⟩,
   ⟨0x200001c, [(0x10000, 64)], [], 32, [RG_REPAIR_BRAM_REPAIRED, RG_REPAIR_DEEP_REPAIRED]⟩,
   ⟨0x2000020, [(0x10000, 64)], [], 32, [RG_FAULT_COUNT_TEMP_SKEW, RG_FAULT_COUNT_BIAS_FAULTS, RG_FAULT_COUNT_BCLK_MISMATCH]⟩,
   ⟨0x2000024, [(0x10000, 64)], [], 32, [RG_MISMATCH_GROUP, RG_MISMATCH_EDGE]⟩]

/-- The registers of: Region k control. -/
def regs_Region_k_control : List RegRow :=
  [⟨0x2000100, [(0x10000, 64)], [], 32, [RG_CTRL_FABRIC_RESET, RG_CTRL_IGNORED]⟩,
   ⟨0x2000104, [(0x10000, 64)], [], 32, [RG_ROLE_MOVED_COUNT]⟩,
   ⟨0x2000108, [(0x10000, 64)], [], 32, [RG_INJECT_EDGE, RG_INJECT_GROUP, RG_INJECT_INJ_TEMP, RG_INJECT_INJ_BIAS, RG_INJECT_INJ_BCLK]⟩]

/-- The registers of: Arithmetic slice s of region k. -/
def regs_Arithmetic_slice_s_of_region_k : List RegRow :=
  [⟨0x2001000, [(0x10000, 64), (0x40, 96)], [], 32, [SL_STATUS_STATE, SL_STATUS_OVF0, SL_STATUS_OVF1, SL_STATUS_STORE_SAT, SL_STATUS_CMD_IGNORED]⟩,
   ⟨0x2001004, [(0x10000, 64), (0x40, 96)], [], 32, [SL_CTRL_CLEAR_COUNTS]⟩,
   ⟨0x2001008, [(0x10000, 64), (0x40, 96)], [], 64, [SL_ITER_ITER]⟩,
   ⟨0x2001010, [(0x10000, 64), (0x40, 96)], [], 32, [SL_PTR_P_X, SL_PTR_P_Y, SL_PTR_P_W, SL_PTR_PC]⟩,
   ⟨0x2001014, [(0x10000, 64), (0x40, 96)], [], 32, [SL_FAULT_INFO_FAULT_CODE, SL_FAULT_INFO_FAULT_PC, SL_FAULT_INFO_PARITY_ERRS, SL_FAULT_INFO_FAULTS]⟩,
   ⟨0x2001018, [(0x10000, 64), (0x40, 96)], [], 64, [SL_CYCLES_CYCLES]⟩,
   ⟨0x2001020, [(0x10000, 64), (0x40, 96)], [], 64, [SL_MACS_MACS]⟩,
   ⟨0x2001028, [(0x10000, 64), (0x40, 96)], [], 32, [SL_STALL_STALL_IN, SL_STALL_STALL_OUT]⟩,
   ⟨0x200102c, [(0x10000, 64), (0x40, 96)], [], 32, [SL_STEAL_STOLEN]⟩,
   ⟨0x2001030, [(0x10000, 64), (0x40, 96)], [], 32, [SL_INJECT_INJ_OPMEM, SL_INJECT_INJ_PROG]⟩]

/-- The registers of: Configuration. -/
def regs_Configuration : List RegRow :=
  [⟨0x400000, [], [], 32, [CFG_CTRL_ABORT, CFG_CTRL_CLEAR_COUNTS]⟩,
   ⟨0x400004, [], [], 32, [CFG_STATUS_STATE, CFG_STATUS_SOURCE, CFG_STATUS_FORMAT, CFG_STATUS_ENCRYPTED, CFG_STATUS_ID_RESULT, CFG_STATUS_GLOBAL_LOADED, CFG_STATUS_RELEASE_LATE, CFG_STATUS_FIX_IGNORED]⟩,
   ⟨0x400008, [], [], 32, [CFG_RESULT_CODE, CFG_RESULT_FIELD, CFG_RESULT_CAUSE]⟩,
   ⟨0x40000c, [], [], 32, [CFG_SEGMENT_SEG]⟩,
   ⟨0x400010, [], [], 32, [CFG_FRAMES_FRAMES]⟩,
   ⟨0x400014, [], [], 32, [CFG_DESIGN_ID_DESIGN_ID]⟩,
   ⟨0x400018, [], [], 64, [CFG_BYTES_BYTES]⟩,
   ⟨0x400020, [], [], 64, [CFG_ERR_POS_OFFSET]⟩,
   ⟨0x400028, [], [], 64, [CFG_RELEASE_TICK_TICK]⟩,
   ⟨0x400030, [], [], 64, [CFG_LOADED_REGIONS]⟩,
   ⟨0x400038, [], [], 64, [CFG_TIME_CYCLES]⟩,
   ⟨0x400040, [], [], 32, [CFG_COUNTS_LOADS_OK, CFG_COUNTS_LOADS_FAILED]⟩,
   ⟨0x400044, [], [], 32, [CFG_INJECT_INJ_AUTH, CFG_INJECT_INJ_CHECK]⟩]

/-- The registers of: Configuration, scrubber and swap. -/
def regs_Configuration_scrubber_and_swap : List RegRow :=
  [⟨0x400100, [], [], 32, [SCRUB_CTRL_ENABLE, SCRUB_CTRL_CLEAR_COUNTS, SCRUB_CTRL_AUTO_DRAIN]⟩,
   ⟨0x400104, [], [], 32, [SCRUB_STATUS_RUNNING, SCRUB_STATUS_GLOBAL_UNCORRECTABLE, SCRUB_STATUS_RELOAD_ACTIVE, SCRUB_STATUS_BORROWED]⟩,
   ⟨0x400108, [], [], 32, [SCRUB_POS_ADDR]⟩,
   ⟨0x400110, [], [], 64, [SCRUB_PASSES_PASSES]⟩,
   ⟨0x400118, [], [], 64, [SCRUB_CORRECTED_COUNT]⟩,
   ⟨0x400120, [], [], 32, [SCRUB_UNCORR_COUNT]⟩,
   ⟨0x400124, [], [], 32, [SCRUB_LAST_UNC_ADDR]⟩,
   ⟨0x400128, [], [], 64, [SCRUB_POLICY_RELOAD]⟩,
   ⟨0x400130, [], [], 64, [SCRUB_UNC_REGIONS_REGIONS]⟩,
   ⟨0x400138, [], [], 64, [SCRUB_PASS_TIME_CYCLES]⟩,
   ⟨0x400140, [], [], 64, [SCRUB_SKIPS_DYNAMIC, SCRUB_SKIPS_EXCLUDED]⟩,
   ⟨0x400148, [], [], 32, [SCRUB_INJECT_INJ_SINGLE, SCRUB_INJECT_INJ_DOUBLE]⟩,
   ⟨0x400200, [], [(0x10, 64)], 64, [RELOAD_ADDR_ADDR]⟩,
   ⟨0x400208, [], [(0x10, 64)], 32, [RELOAD_LEN_BYTES]⟩,
   ⟨0x40020c, [], [(0x10, 64)], 32, [RELOAD_COUNT_COUNT]⟩,
   ⟨0x400600, [], [(0x10, 64)], 32, [SWAP_STATUS_STATE, SWAP_STATUS_AUTO, SWAP_STATUS_FORCED, SWAP_STATUS_LATE, SWAP_STATUS_MODE, SWAP_STATUS_CAUSE, SWAP_STATUS_CODE]⟩,
   ⟨0x400604, [], [(0x10, 64)], 32, [SWAP_DISCARDED_RESPONSES, SWAP_DISCARDED_RETURNED]⟩,
   ⟨0x400608, [], [(0x10, 64)], 64, [SWAP_TICK_TICK]⟩,
   ⟨0x400a00, [], [], 32, [FW_STATUS_ACTIVE_SLOT, FW_STATUS_STATE, FW_STATUS_VALID_A, FW_STATUS_VALID_B, FW_STATUS_COMMIT_PENDING, FW_STATUS_VERSION_A, FW_STATUS_VERSION_B]⟩,
   ⟨0x400a04, [], [], 32, [FW_COUNTS_SWITCHES, FW_COUNTS_REVERTS]⟩]

/-- The registers of: NoC router r. -/
def regs_NoC_router_r : List RegRow :=
  [⟨0x500000, [(0x400, 120)], [], 32, [NR_CTRL_CLEAR_COUNTS, NR_CTRL_AGE_LIMIT]⟩,
   ⟨0x500004, [(0x400, 120)], [], 32, [NR_STATUS_PORT_STATE]⟩,
   ⟨0x500008, [(0x400, 120)], [], 32, [NR_INJECT_DIR, NR_INJECT_PORT, NR_INJECT_INJ_PARITY, NR_INJECT_INJ_TIMEOUT]⟩,
   ⟨0x500010, [(0x400, 120)], [(0x4, 4)], 32, [PORT_CFG_STREAM_ID, PORT_CFG_HIST_SHIFT, PORT_CFG_TIMEOUT_EXP]⟩,
   ⟨0x500020, [(0x400, 120)], [(0x4, 4)], 32, [PORT_FREE_LANDING_FREE, PORT_FREE_RESP_FREE]⟩,
   ⟨0x500040, [(0x400, 120)], [(0x10, 4)], 64, [LINK_FLITS_FLITS]⟩,
   ⟨0x500048, [(0x400, 120)], [(0x10, 4)], 32, [LINK_PARITY_PARITY]⟩,
   ⟨0x50004c, [(0x400, 120)], [(0x10, 4)], 32, [LINK_SUSPEND_CYCLES]⟩,
   ⟨0x500080, [(0x400, 120)], [], 32, [NR_COUNTS_A_SCH_CONFLICTS, NR_COUNTS_A_AGED]⟩,
   ⟨0x500084, [(0x400, 120)], [], 32, [NR_COUNTS_B_RETURNS, NR_COUNTS_B_CLOSED_REFUSALS]⟩,
   ⟨0x500088, [(0x400, 120)], [], 32, [NR_COUNTS_C_RETRIES, NR_COUNTS_C_TIMEOUTS, NR_COUNTS_C_LATE_RESP]⟩,
   ⟨0x500200, [(0x400, 120)], [(0x80, 4)], 32, [STAT_CTRL_SNAP, STAT_CTRL_CLEAR]⟩,
   ⟨0x500208, [(0x400, 120)], [(0x80, 4)], 64, [STAT_BYTES_BYTES]⟩,
   ⟨0x500210, [(0x400, 120)], [(0x80, 4)], 64, [STAT_PACKETS_PACKETS]⟩,
   ⟨0x500218, [(0x400, 120)], [(0x80, 4)], 64, [STAT_LAT_SUM_CYCLES]⟩,
   ⟨0x500220, [(0x400, 120)], [(0x80, 4)], 64, [STAT_CREDIT_WAIT_CYCLES]⟩,
   ⟨0x500228, [(0x400, 120)], [(0x80, 4)], 32, [STAT_LAT_MIN_CYCLES]⟩,
   ⟨0x50022c, [(0x400, 120)], [(0x80, 4)], 32, [STAT_LAT_MAX_CYCLES]⟩,
   ⟨0x500230, [(0x400, 120)], [(0x80, 4)], 32, [STAT_MEAN_CYCLES]⟩,
   ⟨0x500238, [(0x400, 120)], [(0x80, 4)], 64, [STAT_SNAP_TICK_TICK]⟩,
   ⟨0x500240, [(0x400, 120)], [(0x80, 4), (0x4, 16)], 32, [STAT_HIST_COUNT]⟩]

/-- The registers of: DDR channel c. -/
def regs_DDR_channel_c : List RegRow :=
  [⟨0x800000, [(0x20000, 8)], [], 32, [DC_CTRL_CLEAR_COUNTS, DC_CTRL_CLEAR_LOGS]⟩,
   ⟨0x800004, [(0x20000, 8)], [], 32, [DC_STATUS_STATE, DC_STATUS_TR_IGNORED, DC_STATUS_PARKED, DC_STATUS_RATE_2X, DC_STATUS_TRAIN_SOURCE, DC_STATUS_FAIL_CAUSE, DC_STATUS_WB_LEVEL, DC_STATUS_RFM_LEVEL]⟩,
   ⟨0x800008, [(0x20000, 8)], [], 32, [DC_CONFIG_RATE, DC_CONFIG_RANKS, DC_CONFIG_DENSITY, DC_CONFIG_TWO_DIMMS, DC_CONFIG_DRFM, DC_CONFIG_RFM_REQUIRED]⟩,
   ⟨0x80000c, [(0x20000, 8)], [], 32, [DC_POLICY_RFM_PROB, DC_POLICY_SCRUB_HOURS]⟩,
   ⟨0x800010, [(0x20000, 8)], [], 64, [DC_CAPACITY_BYTES]⟩,
   ⟨0x800018, [(0x20000, 8)], [], 64, [DC_SCRUB_POS_OFFSET]⟩,
   ⟨0x800020, [(0x20000, 8)], [], 32, [DC_SCRUB_PASSES_PASSES, DC_SCRUB_PASSES_LATE_PASSES]⟩,
   ⟨0x800024, [(0x20000, 8)], [], 32, [DC_REFRESH_COUNTS_FALLBACK_MISSED, DC_REFRESH_COUNTS_FALLBACK_AGE]⟩,
   ⟨0x800028, [(0x20000, 8)], [], 32, [DC_REFRESH_MORE_UNSCHEDULED_REFRESH, DC_REFRESH_MORE_PARKED_REFRESH]⟩,
   ⟨0x80002c, [(0x20000, 8)], [], 32, [DC_RFM_COUNTS_RFM_ISSUED, DC_RFM_COUNTS_RFM_CARRIED, DC_RFM_COUNTS_RFM_OVERFLOW]⟩,
   ⟨0x800030, [(0x20000, 8)], [], 64, [DC_CORRECTED_CORRECTED]⟩,
   ⟨0x800038, [(0x20000, 8)], [], 32, [DC_UE_COUNTS_UNCORR, DC_UE_COUNTS_POISON_READS, DC_UE_COUNTS_WB_SKIPPED]⟩,
   ⟨0x80003c, [(0x20000, 8)], [], 32, [DC_INJECT_INJ_CE, DC_INJECT_INJ_UE, DC_INJECT_INJ_REFMISS]⟩,
   ⟨0x800040, [(0x20000, 8)], [], 32, [DC_REPAIR_SPPR_ACTIVE, DC_REPAIR_HPPR_DONE]⟩,
   ⟨0x800100, [(0x20000, 8)], [(0x10, 16)], 128, [UE_LOG_ADDR, UE_LOG_SOURCE, UE_LOG_VALID, UE_LOG_TICK]⟩,
   ⟨0x800200, [(0x20000, 8)], [(0x10, 8)], 128, [CE_LOG_ADDR, CE_LOG_DEVICE, CE_LOG_VALID, CE_LOG_TICK]⟩,
   ⟨0x801000, [(0x20000, 8)], [], 32, [TR_CTRL_START, TR_CTRL_MODE, TR_CTRL_RANK, TR_CTRL_SUBCH, TR_CTRL_WRITE_PATH, TR_CTRL_BURSTS]⟩,
   ⟨0x801004, [(0x20000, 8)], [], 32, [TR_STATUS_BUSY]⟩,
   ⟨0x801008, [(0x20000, 8)], [], 32, [TR_SEED_PATTERN]⟩,
   ⟨0x801100, [(0x20000, 8)], [(0x4, 80)], 32, [TR_ERR_ERRORS]⟩,
   ⟨0x801300, [(0x20000, 8)], [(0x4, 80)], 32, [TR_DESKEW_READ, TR_DESKEW_WRITE]⟩,
   ⟨0x801500, [(0x20000, 8)], [(0x4, 20)], 32, [TR_DQS_READ_DQS, TR_DQS_WRITE_DQS]⟩]

/-- The registers of: Encryption. -/
def regs_Encryption : List RegRow :=
  [⟨0x600000, [], [], 32, [EN_CTRL_CLEAR_COUNTS]⟩,
   ⟨0x600004, [], [], 32, [EN_STATUS_SEALED_ANY, EN_STATUS_REKEY_ACTIVE, EN_STATUS_REKEY_ID, EN_STATUS_RETIRE_QUEUE]⟩,
   ⟨0x600008, [], [], 32, [RK_CTRL_PACE, RK_CTRL_PRIO]⟩,
   ⟨0x600010, [], [], 64, [RK_POS_ADDR]⟩,
   ⟨0x600018, [], [], 64, [INTEGRITY_FAILS_COUNT]⟩,
   ⟨0x600020, [], [], 32, [EN_COUNTS_REFUSALS, EN_COUNTS_REKEY_POISONED]⟩,
   ⟨0x600024, [], [], 32, [EN_INJECT_INJ_TAG, EN_INJECT_INJ_REFUSE]⟩,
   ⟨0x600100, [], [(0x4, 64)], 32, [KEY_STATE_STATE, KEY_STATE_MODE, KEY_STATE_TARGET, KEY_STATE_RANGES]⟩,
   ⟨0x600200, [], [(0x20, 16)], 64, [RANGE_BASE_SECTOR]⟩,
   ⟨0x600208, [], [(0x20, 16)], 64, [RANGE_LIMIT_SECTOR]⟩,
   ⟨0x600210, [], [(0x20, 16)], 64, [RANGE_LSN_LSN_BASE]⟩,
   ⟨0x600218, [], [(0x20, 16)], 32, [RANGE_STATUS_STATE, RANGE_STATUS_KEY_ID]⟩,
   ⟨0x600400, [], [(0x40, 16), (0x8, 8)], 64, [RANGE_ENTRY_ENTRY]⟩,
   ⟨0x600800, [], [(0x10, 16)], 128, [FAIL_LOG_ADDR, FAIL_LOG_KEY_ID, FAIL_LOG_CHANNEL, FAIL_LOG_VALID, FAIL_LOG_SEQ_TAG, FAIL_LOG_STREAM_ID, FAIL_LOG_TICK]⟩,
   ⟨0x600a00, [], [(0x10, 64)], 128, [DETAIL_LOG_REASON, DETAIL_LOG_OPERATION, DETAIL_LOG_KEY_ID, DETAIL_LOG_RANGE, DETAIL_LOG_STREAM_ID, DETAIL_LOG_VALID, DETAIL_LOG_TICK]⟩]

/-- The registers of: Lane group g. -/
def regs_Lane_group_g : List RegRow :=
  [⟨0x1200000, [(0x10000, 18)], [], 32, [LG_CTRL_CLEAR_COUNTS]⟩,
   ⟨0x1200004, [(0x10000, 18)], [], 32, [LG_STATUS_PLL_STATE, LG_STATUS_READY]⟩,
   ⟨0x1200008, [(0x10000, 18)], [], 64, [LG_ROLE_WORD0]⟩,
   ⟨0x1200010, [(0x10000, 18)], [], 64, [LG_PLL_WORD1]⟩,
   ⟨0x1200018, [(0x10000, 18)], [], 32, [LG_COUNTS_SLIPS, LG_COUNTS_DESKEW_FAILS]⟩,
   ⟨0x120001c, [(0x10000, 18)], [], 32, [LG_INJECT_LANE, LG_INJECT_INJ_BIP, LG_INJECT_INJ_LOCK, LG_INJECT_INJ_SLIP]⟩,
   ⟨0x1200100, [(0x10000, 18)], [(0x40, 8)], 32, [LN_STATUS_STATE, LN_STATUS_BLOCK_LOCK, LN_STATUS_MARKER_LOCK, LN_STATUS_SPARE, LN_STATUS_WORD, LN_STATUS_ELASTIC]⟩,
   ⟨0x1200104, [(0x10000, 18)], [(0x40, 8)], 32, [LN_LOCK_LOCK_LOSSES, LN_LOCK_BAD_TYPE]⟩,
   ⟨0x1200108, [(0x10000, 18)], [(0x40, 8)], 32, [LN_MARKER_BIP_ERRORS, LN_MARKER_MARKERS_MISSED]⟩,
   ⟨0x120010c, [(0x10000, 18)], [(0x40, 8)], 32, [LN_SKEW_SKEW]⟩,
   ⟨0x1200110, [(0x10000, 18)], [(0x40, 8)], 32, [LN_PRBS_CTRL_PATTERN, LN_PRBS_CTRL_TX_EN, LN_PRBS_CTRL_RX_EN, LN_PRBS_CTRL_IGNORED, LN_PRBS_CTRL_RX_LOCK]⟩,
   ⟨0x1200114, [(0x10000, 18)], [(0x40, 8)], 32, [LN_EYE_CTRL_PHASE, LN_EYE_CTRL_VOLT, LN_EYE_CTRL_EYE, LN_EYE_CTRL_DWELL, LN_EYE_CTRL_START, LN_EYE_CTRL_BUSY]⟩,
   ⟨0x1200118, [(0x10000, 18)], [(0x40, 8)], 64, [LN_PRBS_ERR_ERRORS]⟩,
   ⟨0x1200120, [(0x10000, 18)], [(0x40, 8)], 64, [LN_PRBS_BITS_BITS]⟩,
   ⟨0x1200128, [(0x10000, 18)], [(0x40, 8)], 64, [LN_EYE_RESULT_ERRORS]⟩]

/-- The registers of: Wavar mesh. -/
def regs_Wavar_mesh : List RegRow :=
  [⟨0x1400000, [], [], 32, [MS_CTRL_CLEAR_COUNTS, MS_CTRL_TIME_DIV, MS_CTRL_REPORT_PERIOD]⟩,
   ⟨0x1400004, [], [], 32, [MS_STATUS_ADDR, MS_STATUS_ADDR_VALID, MS_STATUS_ADDR_LOCKED, MS_STATUS_GATEWAY, MS_STATUS_ADDR_CONFLICT, MS_STATUS_STRATUM, MS_STATUS_TIME_SOURCE]⟩,
   ⟨0x1400008, [], [], 64, [MS_SERIAL_SERIAL]⟩,
   ⟨0x1400010, [], [], 32, [MS_ROUTES_ROUTES_ID]⟩,
   ⟨0x1400014, [], [], 32, [MS_TIME_CFG_ROOT, MS_TIME_CFG_UPLINK, MS_TIME_CFG_BACKUP]⟩,
   ⟨0x1400018, [], [], 64, [MS_INBOX_BASE_ADDR]⟩,
   ⟨0x1400020, [], [], 32, [MS_INBOX_SIZE_BYTES]⟩,
   ⟨0x1400024, [], [], 32, [MS_COUNTS_UNROUTABLE, MS_COUNTS_REPORTS_DROPPED]⟩,
   ⟨0x1400028, [], [], 64, [MS_REPORT_BASE_ADDR]⟩,
   ⟨0x1400030, [], [], 32, [MS_REPORT_LINES_LINES]⟩,
   ⟨0x1400034, [], [], 32, [MS_INJECT_LINK, MS_INJECT_INJ_CRC, MS_INJECT_INJ_ACK_DROP, MS_INJECT_INJ_TIME_MISS]⟩,
   ⟨0x1400038, [], [], 64, [MS_REPORT_WR_INDEX]⟩,
   ⟨0x1400040, [], [], 64, [MS_REPORT_RD_INDEX]⟩,
   ⟨0x1401000, [], [(0x40, 144)], 32, [LK_STATUS_STATE, LK_STATUS_WIDTH, LK_STATUS_PEER_ADDR, LK_STATUS_PEER_LINK, LK_STATUS_PEER_ADDR_VALID, LK_STATUS_SLOW]⟩,
   ⟨0x1401004, [], [(0x40, 144)], 32, [LK_SEQ_NEXT_SEQ, LK_SEQ_ACK_RX]⟩,
   ⟨0x1401008, [], [(0x40, 144)], 64, [LK_PEER_SERIAL]⟩,
   ⟨0x1401010, [], [(0x40, 144)], 32, [LK_ERRORS_CRC_ERRORS, LK_ERRORS_ACK_ERRORS, LK_ERRORS_DUPLICATES, LK_ERRORS_OUT_OF_ORDER]⟩,
   ⟨0x1401014, [], [(0x40, 144)], 32, [LK_REPLAY_REPLAYS, LK_REPLAY_TIMEOUTS, LK_REPLAY_DOWNS]⟩,
   ⟨0x1401018, [], [(0x40, 144)], 32, [LK_DELAY_ROUND_TRIP]⟩,
   ⟨0x140101c, [], [(0x40, 144)], 32, [LK_CTRL_QUIET, LK_CTRL_RESET, LK_CTRL_IGNORED]⟩,
   ⟨0x1401020, [], [(0x40, 144)], 64, [LK_FRAMES_TX_FRAMES]⟩,
   ⟨0x1401028, [], [(0x40, 144)], 64, [LK_FRAMES_RX_FRAMES]⟩,
   ⟨0x1404000, [], [(0x4, 4096)], 32, [ROUTE_LINK, ROUTE_SET_VC1]⟩]

/-- The registers of: Host interface. -/
def regs_Host_interface : List RegRow :=
  [⟨0x1500000, [], [], 32, [HI_CTRL_CLEAR_COUNTS]⟩,
   ⟨0x1500004, [], [], 32, [HI_STATUS_READY, HI_STATUS_LINK_UP, HI_STATUS_WIDTH, HI_STATUS_SPEED]⟩,
   ⟨0x1500008, [], [], 32, [HI_ACCESS_LOG_OFFSET, HI_ACCESS_LOG_BAR, HI_ACCESS_LOG_BYTE_EN, HI_ACCESS_LOG_KIND]⟩,
   ⟨0x150000c, [], [], 32, [HI_COUNTS_WIDTH_ERRS, HI_COUNTS_EARLY_DOORBELLS, HI_COUNTS_LOST_COMPLETIONS]⟩,
   ⟨0x1500010, [], [], 64, [EV_BASE_ADDR]⟩,
   ⟨0x1500018, [], [], 32, [EV_CFG_SIZE_LOG2, EV_CFG_ENABLE, EV_CFG_VECTOR]⟩,
   ⟨0x150001c, [], [], 32, [EV_STATUS_RUNNING, EV_STATUS_RD_ERR, EV_STATUS_OVERFLOW, EV_STATUS_CFG_ERR]⟩,
   ⟨0x1500020, [], [], 32, [EV_WR_INDEX]⟩,
   ⟨0x1500024, [], [], 32, [EV_RD_INDEX]⟩,
   ⟨0x1500028, [], [], 32, [EV_LOST_COUNT]⟩,
   ⟨0x150002c, [], [], 32, [HI_INJECT_RING, HI_INJECT_INJ_FETCH, HI_INJECT_INJ_DOORBELL]⟩,
   ⟨0x1501000, [], [(0x40, 64)], 64, [CR_BASE_ADDR]⟩,
   ⟨0x1501008, [], [(0x40, 64)], 32, [CR_CFG_SIZE_LOG2, CR_CFG_ENABLE, CR_CFG_PROXY, CR_CFG_RESUME, CR_CFG_VECTOR]⟩,
   ⟨0x150100c, [], [(0x40, 64)], 32, [CR_STATUS_STATE, CR_STATUS_DB_ERR, CR_STATUS_RD_ERR, CR_STATUS_CFG_ERR, CR_STATUS_HALT_WRITE, CR_STATUS_OUTSTANDING]⟩,
   ⟨0x1501010, [], [(0x40, 64)], 32, [CR_CONS_INDEX]⟩,
   ⟨0x1501014, [], [(0x40, 64)], 32, [CR_PROD_INDEX]⟩,
   ⟨0x1501018, [], [(0x40, 64)], 64, [CQ_BASE_ADDR]⟩,
   ⟨0x1501020, [], [(0x40, 64)], 32, [CQ_WR_INDEX]⟩,
   ⟨0x1501024, [], [(0x40, 64)], 32, [CQ_RD_INDEX]⟩,
   ⟨0x1501028, [], [(0x40, 64)], 32, [CR_IRQ_COUNT, CR_IRQ_TIME]⟩,
   ⟨0x150102c, [], [(0x40, 64)], 32, [CR_COUNTS_REJECTED, CR_COUNTS_STALL_FRAMES]⟩,
   ⟨0x1502000, [], [(0x80, 64)], 64, [PX_CFG_DST, PX_CFG_SRC_ROUTED, PX_CFG_OUT_LEN, PX_CFG_BACK_LEN, PX_CFG_TIMEOUT_EXP]⟩,
   ⟨0x1502008, [], [(0x80, 64), (0x8, 4)], 64, [PX_OUT_ROUTE]⟩,
   ⟨0x1502028, [], [(0x80, 64), (0x8, 4)], 64, [PX_BACK_ROUTE]⟩]

/-- The registers of: Dispatcher. -/
def regs_Dispatcher : List RegRow :=
  [⟨0x200000, [], [], 32, [DP_CTRL_CLEAR_COUNTS, DP_CTRL_HIST_SHIFT]⟩,
   ⟨0x200004, [], [], 32, [DP_STATUS_BUSY]⟩,
   ⟨0x200008, [], [], 64, [DP_POOL_FREE, DP_POOL_SHARED_FREE]⟩,
   ⟨0x200010, [], [], 32, [DP_COUNTS_ENQ_STALL_FRAMES, DP_COUNTS_JOB_TIMEOUTS]⟩,
   ⟨0x200014, [], [], 32, [DP_COUNTS_B_LATE_DONE, DP_COUNTS_B_WORKERS_LOST, DP_COUNTS_B_DONE_REFUSED, DP_COUNTS_B_UNSCHEDULED_ADVANCE]⟩,
   ⟨0x200018, [], [], 32, [DP_INJECT_WORKER, DP_INJECT_INJ_TIMEOUT, DP_INJECT_INJ_LOST]⟩,
   ⟨0x200020, [], [(0x4, 8)], 32, [READY_DEPTH_DEPTH]⟩,
   ⟨0x200040, [], [(0x10, 4)], 64, [DELAY_NEXT_TICK]⟩,
   ⟨0x200048, [], [(0x10, 4)], 32, [DELAY_DEPTH_DEPTH]⟩,
   ⟨0x20004c, [], [(0x10, 4)], 32, [DELAY_LATE_LATE_JOBS, DELAY_LATE_MAX_LATE]⟩,
   ⟨0x200100, [], [(0x40, 8), (0x4, 16)], 32, [WAIT_HIST_COUNT]⟩,
   ⟨0x201000, [], [(0x8, 1024)], 32, [FLOW_CFG_RESERVED, FLOW_CFG_KIND, FLOW_CFG_CATCH]⟩,
   ⟨0x201004, [], [(0x8, 1024)], 32, [FLOW_DEPTH_HELD, FLOW_DEPTH_WINDOW]⟩,
   ⟨0x204000, [], [(0x40, 128)], 32, [WK_CFG_STATE, WK_CFG_DEPTH_M1, WK_CFG_ROUTER, WK_CFG_PORT, WK_CFG_CLASS]⟩,
   ⟨0x204004, [], [(0x40, 128)], 32, [WK_STATUS_IN_FLIGHT, WK_STATUS_TIMEOUT_EXP, WK_STATUS_EPOCH]⟩,
   ⟨0x204008, [], [(0x40, 128)], 64, [WK_MAILBOX_ADDR]⟩,
   ⟨0x204010, [], [(0x40, 128)], 64, [WK_BUSY_F1, WK_BUSY_F16, WK_BUSY_F256]⟩,
   ⟨0x204018, [], [(0x40, 128)], 64, [WK_JOBS_JOBS]⟩,
   ⟨0x204020, [], [(0x40, 128)], 32, [WK_COUNTS_TIMEOUTS, WK_COUNTS_RETURNED]⟩]

/-- The registers of: Scratchpad and management. -/
def regs_Scratchpad_and_management : List RegRow :=
  [⟨0x300000, [], [], 32, [SP_CTRL_CLEAR_COUNTS, SP_CTRL_TEST_ENABLE, SP_CTRL_TEST_STEP_EXP]⟩,
   ⟨0x300004, [], [], 32, [SP_STATUS_EMBER_MODE, SP_STATUS_WIPING, SP_STATUS_TESTING, SP_STATUS_UNREPAIRED, SP_STATUS_REPAIRS_USED]⟩,
   ⟨0x300008, [], [], 32, [SP_TEST_POS_BLOCK]⟩,
   ⟨0x30000c, [], [], 32, [SP_ECC_CORRECTED, SP_ECC_UNCORR]⟩,
   ⟨0x300010, [], [], 32, [SP_TEST_COUNTS_PASSES, SP_TEST_COUNTS_TEST_FAILS, SP_TEST_COUNTS_TEST_LATE]⟩,
   ⟨0x300014, [], [], 32, [SP_INJECT_INJ_ECC1, SP_INJECT_INJ_ECC2, SP_INJECT_INJ_MARCH]⟩,
   ⟨0x300018, [], [], 64, [SP_REPAIR_ENTRIES]⟩,
   ⟨0x300020, [], [], 32, [SP_WIPE_WIPES, SP_WIPE_LAST_CAUSE]⟩,
   ⟨0x300028, [], [], 64, [SP_WIPE_TICK_TICK]⟩,
   ⟨0x300030, [], [], 64, [SP_DENY_LOG_OFFSET, SP_DENY_LOG_CLASS, SP_DENY_LOG_KIND, SP_DENY_LOG_STREAM_ID, SP_DENY_LOG_VALID]⟩,
   ⟨0x300038, [], [], 32, [SP_DENY_COUNT_DENIALS]⟩,
   ⟨0x300100, [], [(0x200, 4), (0x10, 32)], 32, [SP_RGN_BASE_BLOCK]⟩,
   ⟨0x300104, [], [(0x200, 4), (0x10, 32)], 32, [SP_RGN_LIMIT_BLOCK]⟩,
   ⟨0x300108, [], [(0x200, 4), (0x10, 32)], 32, [SP_RGN_PERM_R, SP_RGN_PERM_W, SP_RGN_PERM_X, SP_RGN_PERM_ENABLE]⟩,
   ⟨0x301000, [], [], 32, [HM_STATUS_CORE_STATE, HM_STATUS_BOOT_DONE]⟩,
   ⟨0x301004, [], [], 32, [WD_CFG_WD_PERIOD_EXP]⟩,
   ⟨0x301008, [], [], 32, [WD_COUNTS_RESTARTS]⟩]

/-- The registers of: Clocks. -/
def regs_Clocks : List RegRow :=
  [⟨0x180000, [], [], 32, [CK_CTRL_CLEAR_COUNTS]⟩,
   ⟨0x180004, [], [], 32, [CK_STATUS_CORE_ON_CPLL, CK_STATUS_DEGRADED, CK_STATUS_CAUSE]⟩,
   ⟨0x180008, [], [], 32, [CK_KINDLING_TRIM_CODE, CK_KINDLING_TRIMMED, CK_KINDLING_TRIM_HOLD, CK_KINDLING_TRIM_REF]⟩,
   ⟨0x18000c, [], [], 32, [CK_INJECT_MON, CK_INJECT_INJ_LOSS, CK_INJECT_INJ_BAND]⟩,
   ⟨0x180010, [], [], 32, [CK_COUNTS_SMOULDERS, CK_COUNTS_SWITCHES]⟩,
   ⟨0x180100, [], [(0x10, 14)], 64, [CK_SEL_WORD0]⟩,
   ⟨0x180108, [], [(0x10, 14)], 32, [CK_DOM_STATE, CK_DOM_RAMP_STEP]⟩,
   ⟨0x18010c, [], [(0x10, 14)], 32, [CK_DOM_COUNTS_SMOULDERS, CK_DOM_COUNTS_SWITCHES]⟩,
   ⟨0x180400, [], [(0x10, 54)], 32, [MON_CFG_WINDOW_EXP, MON_CFG_COMPARE, MON_CFG_BAND, MON_CFG_K, MON_CFG_FAIL_K]⟩,
   ⟨0x180404, [], [(0x10, 54)], 32, [MON_NOMINAL_KHZ]⟩,
   ⟨0x180408, [], [(0x10, 54)], 32, [MON_STATUS_STABLE, MON_STATUS_LOST, MON_STATUS_RUN, MON_STATUS_ERR]⟩,
   ⟨0x18040c, [], [(0x10, 54)], 32, [MON_COUNTS_OUT_OF_BAND, MON_COUNTS_LOSSES]⟩]

/-- The registers of: Power. -/
def regs_Power : List RegRow :=
  [⟨0x1c0000, [], [], 32, [PW_CTRL_CLEAR_COUNTS, PW_CTRL_DRAIN_FRAMES]⟩,
   ⟨0x1c0004, [], [], 32, [PW_STATUS_DEVICE_STATE, PW_STATUS_BUSY, PW_STATUS_QUEUED]⟩,
   ⟨0x1c0008, [], [], 64, [PW_DAMPED_REGIONS]⟩,
   ⟨0x1c0010, [], [], 64, [PW_DARK_REGIONS]⟩,
   ⟨0x1c0018, [], [], 64, [PW_BOOST_REGIONS]⟩,
   ⟨0x1c0020, [], [], 64, [PW_RESTORE_REGIONS]⟩,
   ⟨0x1c0028, [], [], 32, [PW_LAST_REFUSER, PW_LAST_KIND, PW_LAST_TARGET]⟩,
   ⟨0x1c002c, [], [], 32, [PW_INJECT_INJ_DRAIN]⟩,
   ⟨0x1c0030, [], [], 64, [PW_LAST_TICK_TICK]⟩,
   ⟨0x1c0044, [], [(0x4, 7)], 32, [PW_COUNT_REFUSALS, PW_COUNT_ABORTS]⟩]

/-- The registers of: Global, lifecycle and tamper record. -/
def regs_Global_lifecycle_and_tamper_record : List RegRow :=
  [⟨0x300, [], [], 32, [LC_STATUS_FUSED_STATE, LC_STATUS_STATE, LC_STATUS_RECOVERY_DENIED, LC_STATUS_RECOVERY_REQ]⟩,
   ⟨0x304, [], [], 32, [TP_LAST_SENSORS]⟩,
   ⟨0x308, [], [], 32, [TP_COUNTS_COUNTS]⟩,
   ⟨0x310, [], [], 64, [TP_LAST_TICK_TICK]⟩]

/-- The registers of: Global, keys and permissions. -/
def regs_Global_keys_and_permissions : List RegRow :=
  [⟨0x400, [], [], 32, [TP_MASK_MASK]⟩,
   ⟨0x404, [], [], 32, [TP_INJECT_INJ_SENSOR]⟩,
   ⟨0x408, [], [], 64, [INJ_PERMIT_PERMIT]⟩,
   ⟨0x440, [], [(0x4, 16)], 32, [SLOT_STATE_STATE, SLOT_STATE_CONFIG, SLOT_STATE_MEMORY, SLOT_STATE_REVOKE_BIT]⟩]

/-- The registers of: Debug. -/
def regs_Debug : List RegRow :=
  [⟨0x1600000, [], [], 32, [DB_CTRL_HALT, DB_CTRL_RESUME, DB_CTRL_STEP, DB_CTRL_SEQ_ARM, DB_CTRL_HALT_CORES, DB_CTRL_CLEAR_COUNTS, DB_CTRL_HALT_WAIT]⟩,
   ⟨0x1600004, [], [], 32, [DB_STATUS_RC_STATE, DB_STATUS_DRAIN_INCOMPLETE, DB_STATUS_SEQ_STATE, DB_STATUS_PIN_REFUSED, DB_STATUS_CORES_HALTED, DB_STATUS_INSTRUCTION, DB_STATUS_DEBUG_PERMITTED]⟩,
   ⟨0x1600008, [], [], 64, [DB_HALT_TICK_TICK]⟩,
   ⟨0x1600018, [], [], 32, [DB_HIT_COMPARATOR, DB_HIT_STATE]⟩,
   ⟨0x1600020, [], [], 32, [DA_CMD_REGION, DA_CMD_TARGET, DA_CMD_OP, DA_CMD_ADDR, DA_CMD_GO]⟩,
   ⟨0x1600024, [], [], 32, [DA_STATUS_CODE, DA_STATUS_BUSY]⟩,
   ⟨0x1600028, [], [], 64, [DA_DATA_DATA]⟩,
   ⟨0x1600030, [], [], 64, [DA_ATTACHED_REGIONS]⟩,
   ⟨0x1600100, [], [(0x20, 16)], 32, [NC_CFG_ROUTER, NC_CFG_PORT, NC_CFG_KIND, NC_CFG_CTX_EN]⟩,
   ⟨0x1600104, [], [(0x20, 16)], 32, [NC_CTX_STREAM_ID, NC_CTX_MASK]⟩,
   ⟨0x1600108, [], [(0x20, 16)], 64, [NC_LOW_ADDR]⟩,
   ⟨0x1600110, [], [(0x20, 16)], 64, [NC_HIGH_ADDR]⟩,
   ⟨0x1600118, [], [(0x20, 16)], 32, [NC_HITS_COUNT]⟩,
   ⟨0x1600400, [], [(0x10, 8)], 64, [TC_TICK_TICK]⟩,
   ⟨0x1600408, [], [(0x10, 8)], 32, [TC_CFG_OFFSET, TC_CFG_MODE]⟩,
   ⟨0x160040c, [], [(0x10, 8)], 32, [TC_HITS_COUNT]⟩,
   ⟨0x1600500, [], [(0x8, 8)], 32, [EC_CFG_EVENT_ID, EC_CFG_ENABLE]⟩,
   ⟨0x1600504, [], [(0x8, 8)], 32, [EC_HITS_COUNT]⟩,
   ⟨0x1600600, [], [(0x10, 4)], 32, [SQ_MASK_COMPARATORS]⟩,
   ⟨0x1600604, [], [(0x10, 4)], 32, [SQ_CFG_COUNT_M1, SQ_CFG_NEXT, SQ_CFG_ACT_HALT, SQ_CFG_ACT_EVENT, SQ_CFG_ACT_STOP]⟩,
   ⟨0x1600608, [], [(0x10, 4)], 32, [SQ_COUNT_HITS]⟩]

/-- The registers of: Global, fault injection and aggregation. -/
def regs_Global_fault_injection_and_aggregation : List RegRow :=
  [⟨0x500, [], [], 32, [FI_TICK_INJECT_INJ_OVERRUN, FI_TICK_INJECT_INJ_SYNC_MISS]⟩,
   ⟨0x504, [], [], 32, [FI_REEL_INJECT_ENGINE, FI_REEL_INJECT_INJ_UNDERRUN, FI_REEL_INJECT_INJ_FORMAT, FI_REEL_INJECT_INJ_SPLICE]⟩,
   ⟨0x508, [], [], 32, [FI_CHECK_INJECT_BLOCK, FI_CHECK_INJECT_SEL, FI_CHECK_INJECT_INJ_CMP_CHECK, FI_CHECK_INJECT_INJ_DLY_CHECK, FI_CHECK_INJECT_INJ_MONITOR, FI_CHECK_INJECT_INJ_SENSOR]⟩,
   ⟨0x50c, [], [], 32, [FI_CORE_INJECT_CORE, FI_CORE_INJECT_INJ_WATCHDOG]⟩,
   ⟨0x510, [], [], 32, [FI_MISC_INJECT_UNIT, FI_MISC_INJECT_INJ_SCH_CONFLICT, FI_MISC_INJECT_INJ_MR4, FI_MISC_INJECT_INJ_RFM_FULL, FI_MISC_INJECT_INJ_DESKEW, FI_MISC_INJECT_INJ_TRAIN_TIMEOUT, FI_MISC_INJECT_INJ_SLOW]⟩,
   ⟨0x520, [], [], 32, [FI_STATUS_DISCARDED, FI_STATUS_DISARMED]⟩,
   ⟨0x524, [], [], 32, [FI_LAST_DISCARD_OFFSET]⟩,
   ⟨0x528, [], [], 64, [FI_CHECK_STATUS_CMP_LOST, FI_CHECK_STATUS_DLY_LOST, FI_CHECK_STATUS_CENTRAL_FAULT]⟩,
   ⟨0x530, [], [], 64, [FI_MON_FAULT_MONITORS]⟩,
   ⟨0x538, [], [], 64, [FI_SENSOR_FAULT_REGIONS]⟩,
   ⟨0x600, [], [], 32, [EA_CTRL_CLEAR_COUNTS]⟩,
   ⟨0x604, [], [], 32, [EA_INJECTED_COUNT]⟩,
   ⟨0x608, [], [], 64, [EA_CLASS_NOTE, EA_CLASS_HANDLED, EA_CLASS_MARKED, EA_CLASS_FAULT]⟩,
   ⟨0x610, [], [], 64, [EA_FIRST_FAULT_EVENT_ID, EA_FIRST_FAULT_INSTANCE, EA_FIRST_FAULT_VALID]⟩,
   ⟨0x618, [], [], 64, [EA_FIRST_TICK_TICK]⟩,
   ⟨0x700, [], [(0x4, 16)], 32, [EA_MASK_MASK]⟩,
   ⟨0x1000, [], [(0x80, 16), (0x4, 32)], 32, [EA_COUNT_COUNT]⟩]

/-- The registers of: Global, reset control. -/
def regs_Global_reset_control : List RegRow :=
  [⟨0x100, [], [], 32, [RS_CTRL_DEVICE_RESET, RS_CTRL_KEY]⟩,
   ⟨0x104, [], [], 32, [RS_STATUS_LAST_CAUSE, RS_STATUS_BOOTSEL, RS_STATUS_DEVICE_RESETS]⟩]

/-- The registers of: Global, boot status. -/
def regs_Global_boot_status : List RegRow :=
  [⟨0x108, [], [], 32, [BOOT_STATUS_STAGE, BOOT_STATUS_DIR_COPY, BOOT_STATUS_CFG_FAILED, BOOT_STATUS_CFG_ALT_USED, BOOT_STATUS_NO_DIRECTORY]⟩,
   ⟨0x110, [], [], 64, [BOOT_TIME_CYCLES]⟩]

/-- The registers of: I/O bank b. -/
def regs_I_O_bank_b : List RegRow :=
  [⟨0x1700000, [(0x1000, 8)], [], 32, [BK_CTRL_CLEAR_COUNTS]⟩,
   ⟨0x1700004, [(0x1000, 8)], [], 32, [BK_STATUS_VCCO_MV, BK_STATUS_VCCO_CLASS, BK_STATUS_VCCO_MISMATCH]⟩,
   ⟨0x1700008, [(0x1000, 8)], [], 64, [BK_SHUT_PINS]⟩,
   ⟨0x1700010, [(0x1000, 8)], [], 32, [BK_COUNTS_SHUTS, BK_COUNTS_RETRIES]⟩,
   ⟨0x1700014, [(0x1000, 8)], [], 32, [IO_TEST_PIN, IO_TEST_SENSE_TEST, IO_TEST_RESULT]⟩,
   ⟨0x1700018, [(0x1000, 8)], [], 32, [DIAG_COUNTS_OPENS, DIAG_COUNTS_DIAG_MISSED]⟩,
   ⟨0x1700100, [(0x1000, 8)], [(0x8, 48)], 32, [PIN_CTRL_RETRY]⟩,
   ⟨0x1700104, [(0x1000, 8)], [(0x8, 48)], 32, [PIN_STATUS_STANDARD, PIN_STATUS_DIR, PIN_STATUS_SHUT, PIN_STATUS_SENSED, PIN_STATUS_DIAG, PIN_STATUS_DIAG_OK, PIN_STATUS_SOURCE, PIN_STATUS_STROBE, PIN_STATUS_CONTENTIONS]⟩]

/-- The registers of: Global, identity. -/
def regs_Global_identity : List RegRow :=
  [⟨0x0, [], [], 32, [GL_IDCODE_IDCODE]⟩,
   ⟨0x4, [], [], 32, [GL_GRADE_SPEED, GL_GRADE_TEMP, GL_GRADE_VERSION]⟩,
   ⟨0xc, [], [], 32, [GL_MAP_VERSION_MAP]⟩,
   ⟨0x10, [], [], 64, [GL_DIE_LOT, GL_DIE_WAFER, GL_DIE_SITE]⟩,
   ⟨0x18, [], [], 32, [GL_ATTENTION_FAULT_SEEN, GL_ATTENTION_GROUP_SEEN]⟩]

/-- Every register of BAR0 (R509). -/
def regTable : List RegRow :=
  regs_Tick_engine ++ regs_Proof_and_fix ++ regs_Global_limit_status ++ regs_Global_change_log ++ regs_Reel_engine_n ++ regs_Catch_block_n ++ regs_Region_k_status ++ regs_Region_k_control ++ regs_Arithmetic_slice_s_of_region_k ++ regs_Configuration ++ regs_Configuration_scrubber_and_swap ++ regs_NoC_router_r ++ regs_DDR_channel_c ++ regs_Encryption ++ regs_Lane_group_g ++ regs_Wavar_mesh ++ regs_Host_interface ++ regs_Dispatcher ++ regs_Scratchpad_and_management ++ regs_Clocks ++ regs_Power ++ regs_Global_lifecycle_and_tamper_record ++ regs_Global_keys_and_permissions ++ regs_Debug ++ regs_Global_fault_injection_and_aggregation ++ regs_Global_reset_control ++ regs_Global_boot_status ++ regs_I_O_bank_b ++ regs_Global_identity

end Sys2Proof.Machine
end

