-- ==== Sys2Proof/Machine/State.lean ====
section
/-! DEFINITION. The state of the device: every register field, every hidden piece of state the spec gives
it, its memories, and the queue of commands that wait. State.reset is the device right after reset, as
R28, R485 and the Reset columns of the register tables give it. -/

namespace Sys2Proof.Machine

/-- Why a run stops with a fault: never. The spec answers every access with a code, and gives every command an
effect, so no command raises a fault. Safe: there is no stop that hides an effect. -/
inductive Fault where
  deriving DecidableEq, Repr

/-- Why a command is refused. -/
inductive Refusal where
  /-- The dispatch of a command that the model does not give a meaning yet. Safe: no effect is claimed. -/
  | notModelled (mnemonic : String)
  deriving DecidableEq, Repr

/-- The schedule of R28, in the layout of R30 to R34: PERIOD 1,500, CYCLE_LEN 1, ENTRY_TOTAL 1, one
directory entry with FIRST 0 and COUNT 1, and one APPLY entry with START 0 and LENGTH 32. -/
def defaultSchedule : Mem :=
  [(0x04, 0xDC), (0x05, 0x05), (0x08, 0x01), (0x0A, 0x01), (0x1002, 0x01), (0x10000, 0x01), (0x10004, 0x40)]

/-- The state of the device. -/
structure State where
  /-- The commands that wait, first in, first out (the model's own). -/
  pending : List Instr
  /-- Every register field, by field id, block instance and index in the block: R9 to R13 and the register tables. A field not listed holds its reset value. -/
  regs : List (Nat × List (Nat × List (Nat × Nat)))
  /-- Writes that take effect at the next tick, oldest first (R12). -/
  tickWrites : List FieldWrite
  /-- Latched higher words of 64-bit registers and 128-bit entries, by offset (R336). -/
  latches : List (Nat × Nat)
  /-- Low halves written and held until the high half is written, by offset (R336). -/
  lowHalves : List (Nat × Nat)
  /-- How many free values have been drawn (the model's own; log entry 6). -/
  drawn : Nat
  /-- The active bank of the schedule memory (R30). -/
  sched : Mem
  /-- The event path (R341, R464, R466). -/
  ev : EvSt
  /-- The tick engine's hidden state (R33 to R51). -/
  tick : TickSt
  /-- The accepted operations whose completions are not written (R339, R351). -/
  ops : List Op
  /-- The operations whose completions are writable, in the order in which they became so (R340). -/
  ready : List (Nat × Nat)
  /-- Host memory, which the device reads and writes by DMA (R340, R347). -/
  hostMem : Mem
  /-- The staging area (R55 to R68). -/
  stage : StageSt
  /-- Run control and the debug port (R444 to R460). -/
  dbg : DbgSt
  /-- The scratchpad (R382): its data bytes. -/
  scratch : Mem
  /-- The reel engines beside their registers (R75 to R102). -/
  reels : List (Nat × ReelU)
  /-- DRAM, by device physical address (R245): the bytes stored. -/
  dram : Mem
  /-- The catch blocks beside their registers (R104 to R127). -/
  catches : List (Nat × CatchU)
  /-- The DDR channels beside their registers (R243 to R265). -/
  ddr : List (Nat × DdrU)
  /-- The saved training records, by channel (R262). -/
  records : List (Nat × TrainRec)
  /-- The 56-bit tag stored with each line, by line number (R247, R273). -/
  dramTags : List (Nat × Nat)
  /-- The devices whose contribution to a stored line is in error: bit d for device d, by line number (R247). -/
  dramBad : List (Nat × Nat)
  /-- Lines that hold the poison pattern: 1, by line number; in a rank of dramWhole, lines that do not (R248). -/
  dramPoison : List (Nat × Nat)
  /-- Ranks filled with the poison pattern by a hard repair: 1, at key 4c + rank (R263). -/
  dramWhole : List (Nat × Nat)
  /-- The encryption engine and the key slots beside their registers (R267 to R286, R431 to R435). -/
  enc : EncSt
  /-- The on-chip network beside its registers (R220 to R241). -/
  noc : NocSt
  /-- The dispatcher beside its registers (R358 to R376). -/
  disp : DispSt
  /-- The scratchpad and the management cores beside their registers (R378 to R391). -/
  sp : SpSt
  /-- The regions beside their registers (R130 to R151, R468). -/
  regions : List (Nat × RegionU)
  /-- The arithmetic slices beside their registers, by k × 96 + s (R154 to R171). -/
  slices : List (Nat × SliceU)
  /-- The configuration frames, by linear index (R173, R189): 3,072 bits each. -/
  frames : List (Nat × Nat)
  /-- The DYNAMIC bits of the frame trailers (R175). -/
  frameDyn : List (Nat × Nat)
  /-- The CODE bits of the frame trailers (R175); 0 is that of an all-zero frame. -/
  frameCode : List (Nat × Nat)
  /-- How many bits of a stored frame and its trailer are in error (R214). -/
  frameBad : List (Nat × Nat)
  /-- The configuration block and the scrubber beside their registers (R173 to R218). -/
  cfg : CfgSt
  /-- The boot flash, an external memory the device reads (R193, R480). -/
  flash : Mem
  /-- The physical lanes beside their registers, by lane 8g + i (R296, R297). -/
  lanes : List (Nat × LaneU)
  /-- The lane groups beside their registers (R300). -/
  groups : List (Nat × GroupU)
  /-- The clocks beside their registers (R396 to R411). -/
  clk : ClkSt
  /-- The Wavar mesh beside its registers (R309 to R331). -/
  mesh : MeshSt
  /-- The host interface beside its registers (R334 to R354). -/
  host : HostSt
  /-- The power controller beside its registers (R417 to R425). -/
  pw : PwSt
  /-- The I/O banks beside their registers (R487 to R498). -/
  io : IoSt
  /-- The boot stage and the image switch beside their registers (R211, R480 to R483). -/
  boot : BootSt
  deriving DecidableEq, Repr

/-- The device right after reset: every register field at its reset value (an unlisted field), MON_NOMINAL[0]
at 0001_86A0h (R412), DEBUG_PERMITTED as the fused state gives it (R485), the default schedule (R28), every memory empty, no work in progress. -/
def State.reset : State where
  pending := []
  regs := [(524, [(0, [(1023, 1024)])]), (604, [(0, [(0, 100000), (22, 200000), (23, 93750)])]), (654, [(0, [(0, 1)])])]
  tickWrites := []
  latches := []
  lowHalves := []
  drawn := 0
  sched := defaultSchedule
  ev := {}
  tick := {}
  ops := []
  ready := []
  hostMem := []
  stage := {}
  dbg := {}
  scratch := []
  reels := []
  dram := []
  catches := []
  ddr := []
  records := []
  dramTags := []
  dramBad := []
  dramPoison := []
  dramWhole := []
  enc := {}
  noc := {}
  disp := {}
  sp := {}
  regions := []
  slices := []
  frames := []
  frameDyn := []
  frameCode := []
  frameBad := []
  cfg := {}
  flash := []
  lanes := []
  groups := []
  clk := { plls := [(0, { phase := .run })] }
  mesh := {}
  host := {}
  pw := {}
  io := {}
  boot := {}

end Sys2Proof.Machine
end

