-- ==== Sys2Proof/Machine/Upd.lean ====
section
/-! DEFINITION. One update operation for each piece of the state; every other definition changes the state
through them. -/

namespace Sys2Proof.Machine

/-- The state with pending changed by f. -/
def State.updPending (s : State) (f : List Instr → List Instr) : State := { s with pending := f s.pending }

/-- The state with regs changed by f. -/
def State.updRegs (s : State) (f : List (Nat × List (Nat × List (Nat × Nat))) → List (Nat × List (Nat × List (Nat × Nat)))) : State := { s with regs := f s.regs }

/-- The state with tickWrites changed by f. -/
def State.updTickWrites (s : State) (f : List FieldWrite → List FieldWrite) : State := { s with tickWrites := f s.tickWrites }

/-- The state with latches changed by f. -/
def State.updLatches (s : State) (f : List (Nat × Nat) → List (Nat × Nat)) : State := { s with latches := f s.latches }

/-- The state with lowHalves changed by f. -/
def State.updLowHalves (s : State) (f : List (Nat × Nat) → List (Nat × Nat)) : State := { s with lowHalves := f s.lowHalves }

/-- The state with drawn changed by f. -/
def State.updDrawn (s : State) (f : Nat → Nat) : State := { s with drawn := f s.drawn }

/-- The state with sched changed by f. -/
def State.updSched (s : State) (f : Mem → Mem) : State := { s with sched := f s.sched }

/-- The state with ev changed by f. -/
def State.updEv (s : State) (f : EvSt → EvSt) : State := { s with ev := f s.ev }

/-- The state with tick changed by f. -/
def State.updTick (s : State) (f : TickSt → TickSt) : State := { s with tick := f s.tick }

/-- The state with ops changed by f. -/
def State.updOps (s : State) (f : List Op → List Op) : State := { s with ops := f s.ops }

/-- The state with ready changed by f. -/
def State.updReady (s : State) (f : List (Nat × Nat) → List (Nat × Nat)) : State := { s with ready := f s.ready }

/-- The state with hostMem changed by f. -/
def State.updHostMem (s : State) (f : Mem → Mem) : State := { s with hostMem := f s.hostMem }

/-- The state with stage changed by f. -/
def State.updStage (s : State) (f : StageSt → StageSt) : State := { s with stage := f s.stage }

/-- The state with dbg changed by f. -/
def State.updDbg (s : State) (f : DbgSt → DbgSt) : State := { s with dbg := f s.dbg }

/-- The state with scratch changed by f. -/
def State.updScratch (s : State) (f : Mem → Mem) : State := { s with scratch := f s.scratch }

/-- The state with reels changed by f. -/
def State.updReels (s : State) (f : List (Nat × ReelU) → List (Nat × ReelU)) : State := { s with reels := f s.reels }

/-- The state with dram changed by f. -/
def State.updDram (s : State) (f : Mem → Mem) : State := { s with dram := f s.dram }

/-- The state with catches changed by f. -/
def State.updCatches (s : State) (f : List (Nat × CatchU) → List (Nat × CatchU)) : State := { s with catches := f s.catches }

/-- The state with ddr changed by f. -/
def State.updDdr (s : State) (f : List (Nat × DdrU) → List (Nat × DdrU)) : State := { s with ddr := f s.ddr }

/-- The state with records changed by f. -/
def State.updRecords (s : State) (f : List (Nat × TrainRec) → List (Nat × TrainRec)) : State := { s with records := f s.records }

/-- The state with dramTags changed by f. -/
def State.updDramTags (s : State) (f : List (Nat × Nat) → List (Nat × Nat)) : State := { s with dramTags := f s.dramTags }

/-- The state with dramBad changed by f. -/
def State.updDramBad (s : State) (f : List (Nat × Nat) → List (Nat × Nat)) : State := { s with dramBad := f s.dramBad }

/-- The state with dramPoison changed by f. -/
def State.updDramPoison (s : State) (f : List (Nat × Nat) → List (Nat × Nat)) : State := { s with dramPoison := f s.dramPoison }

/-- The state with dramWhole changed by f. -/
def State.updDramWhole (s : State) (f : List (Nat × Nat) → List (Nat × Nat)) : State := { s with dramWhole := f s.dramWhole }

/-- The state with enc changed by f. -/
def State.updEnc (s : State) (f : EncSt → EncSt) : State := { s with enc := f s.enc }

/-- The state with noc changed by f. -/
def State.updNoc (s : State) (f : NocSt → NocSt) : State := { s with noc := f s.noc }

/-- The state with disp changed by f. -/
def State.updDisp (s : State) (f : DispSt → DispSt) : State := { s with disp := f s.disp }

/-- The state with sp changed by f. -/
def State.updSp (s : State) (f : SpSt → SpSt) : State := { s with sp := f s.sp }

/-- The state with regions changed by f. -/
def State.updRegions (s : State) (f : List (Nat × RegionU) → List (Nat × RegionU)) : State := { s with regions := f s.regions }

/-- The state with slices changed by f. -/
def State.updSlices (s : State) (f : List (Nat × SliceU) → List (Nat × SliceU)) : State := { s with slices := f s.slices }

/-- The state with frames changed by f. -/
def State.updFrames (s : State) (f : List (Nat × Nat) → List (Nat × Nat)) : State := { s with frames := f s.frames }

/-- The state with frameDyn changed by f. -/
def State.updFrameDyn (s : State) (f : List (Nat × Nat) → List (Nat × Nat)) : State := { s with frameDyn := f s.frameDyn }

/-- The state with frameCode changed by f. -/
def State.updFrameCode (s : State) (f : List (Nat × Nat) → List (Nat × Nat)) : State := { s with frameCode := f s.frameCode }

/-- The state with frameBad changed by f. -/
def State.updFrameBad (s : State) (f : List (Nat × Nat) → List (Nat × Nat)) : State := { s with frameBad := f s.frameBad }

/-- The state with cfg changed by f. -/
def State.updCfg (s : State) (f : CfgSt → CfgSt) : State := { s with cfg := f s.cfg }

/-- The state with flash changed by f. -/
def State.updFlash (s : State) (f : Mem → Mem) : State := { s with flash := f s.flash }

/-- The state with lanes changed by f. -/
def State.updLanes (s : State) (f : List (Nat × LaneU) → List (Nat × LaneU)) : State := { s with lanes := f s.lanes }

/-- The state with groups changed by f. -/
def State.updGroups (s : State) (f : List (Nat × GroupU) → List (Nat × GroupU)) : State := { s with groups := f s.groups }

/-- The state with clk changed by f. -/
def State.updClk (s : State) (f : ClkSt → ClkSt) : State := { s with clk := f s.clk }

/-- The state with mesh changed by f. -/
def State.updMesh (s : State) (f : MeshSt → MeshSt) : State := { s with mesh := f s.mesh }

/-- The state with host changed by f. -/
def State.updHost (s : State) (f : HostSt → HostSt) : State := { s with host := f s.host }

/-- The state with pw changed by f. -/
def State.updPw (s : State) (f : PwSt → PwSt) : State := { s with pw := f s.pw }

/-- The state with io changed by f. -/
def State.updIo (s : State) (f : IoSt → IoSt) : State := { s with io := f s.io }

/-- The state with boot changed by f. -/
def State.updBoot (s : State) (f : BootSt → BootSt) : State := { s with boot := f s.boot }

end Sys2Proof.Machine
end

