-- ==== Sys2Proof/Machine/Store.lean ====
section
/-! DEFINITION. Reading and writing the register fields. A field of a register of block instance i, at
index j of the register's own index or indices (flattened, first index slowest), is one value below 2 to
the field's width; every write keeps the low bits of what is written. -/

namespace Sys2Proof.Machine

/-- The width of a field. -/
def Fld.width (f : Fld) : Nat := f.hi + 1 - f.lo

/-- The greatest value of a field. -/
def Fld.max (f : Fld) : Nat := 2 ^ f.width - 1

/-- The value a field holds. -/
def State.rd (s : State) (f : Fld) (i : Nat := 0) (j : Nat := 0) : Nat :=
  sget f.rst (sget [] (sget [] s.regs f.id) i) j

/-- The state after field f of instance i, index j, takes the value v (its low bits). -/
def State.wr (s : State) (f : Fld) (v : Nat) (i : Nat := 0) (j : Nat := 0) : State :=
  s.updRegs fun r =>
    let inst := sget [] r f.id
    sput [] r f.id (sput [] inst i (sput f.rst (sget [] inst i) j (v % 2 ^ f.width)))

/-- A one-bit field as a Bool. -/
def State.flag (s : State) (f : Fld) (i : Nat := 0) (j : Nat := 0) : Bool := s.rd f i j != 0

/-- Sets a one-bit field. -/
def State.setb (s : State) (f : Fld) (b : Bool) (i : Nat := 0) (j : Nat := 0) : State :=
  s.wr f (if b then 1 else 0) i j

/-- A counter that saturates, n higher. -/
def State.incSat (s : State) (f : Fld) (i : Nat := 0) (j : Nat := 0) (n : Nat := 1) : State :=
  s.wr f (min (s.rd f i j + n) f.max) i j

/-- A counter that wraps, n higher. -/
def State.incWrap (s : State) (f : Fld) (i : Nat := 0) (j : Nat := 0) (n : Nat := 1) : State :=
  s.wr f (s.rd f i j + n) i j

/-- Every instance of field f back at its reset value. -/
def State.clr (s : State) (f : Fld) : State := s.updRegs fun r => sput [] r f.id []

/-- Every index of field f of block instance i back at its reset value. -/
def State.clrInst (s : State) (f : Fld) (i : Nat) : State :=
  s.updRegs fun r => sput [] r f.id (sput [] (sget [] r f.id) i [])

/-- Every field of the list back at its reset value, in every instance. -/
def State.clrAll (s : State) (fs : List Fld) : State := fs.foldl State.clr s

/-- Every field of the list back at its reset value, in block instance i. -/
def State.clrAllInst (s : State) (fs : List Fld) (i : Nat) : State :=
  fs.foldl (fun t f => t.clrInst f i) s

/-- Bit b of a mask field. -/
def State.mbit (s : State) (f : Fld) (b : Nat) (i : Nat := 0) (j : Nat := 0) : Bool :=
  (s.rd f i j).testBit b

/-- Sets or clears bit b of a mask field. -/
def State.setmbit (s : State) (f : Fld) (b : Nat) (v : Bool) (i : Nat := 0) (j : Nat := 0) : State :=
  let x := s.rd f i j
  s.wr f (if v then x ||| 2 ^ b else if x.testBit b then x - 2 ^ b else x) i j

/-- An addressed memory read as a little-endian number of n bytes (R8). -/
def memRd (m : Mem) (a : Nat) : Nat → Nat
  | 0 => 0
  | n + 1 => (sget (0 : Byte) m a).toNat + 256 * memRd m (a + 1) n

/-- A little-endian number of n bytes written to an addressed memory (R8). -/
def memWr (m : Mem) (a v : Nat) : Nat → Mem
  | 0 => m
  | n + 1 => memWr (sput (0 : Byte) m a (BitVec.ofNat 8 v)) (a + 1) (v / 256) n

/-- A list of bytes written to an addressed memory from address a upwards. -/
def memWrBytes (m : Mem) (a : Nat) : List Byte → Mem
  | [] => m
  | b :: t => memWrBytes (sput (0 : Byte) m a b) (a + 1) t

/-- n bytes of an addressed memory from address a upwards. -/
def memBytes (m : Mem) (a : Nat) : Nat → List Byte
  | 0 => []
  | n + 1 => sget (0 : Byte) m a :: memBytes m (a + 1) n

end Sys2Proof.Machine
end

