-- ==== Sys2Proof/Machine/Ops.lean ====
section
/-! DEFINITION. The operations every unit shares: stamping and raising an event (R53, R462 to R466, R513),
the comparators and the trigger sequencer of run control (R449, R450), marking a frame, and drawing a free
value. -/

namespace Sys2Proof.Machine

open F

/-- What a command answers. -/
abbrev Out := Host.Outcome State Fault Refusal

/-- Does f when the condition holds. -/
def State.whenDo (s : State) (b : Bool) (f : State → State) : State := if b then f s else s

/-- Draws the next free value (log entry 6). -/
def State.draw (s : State) : Nat × State := (Config.freeValue s.drawn, s.updDrawn (· + 1))

/-- The tick number of the current frame. -/
def State.now (s : State) : Nat := s.rd TICK_NOW_TICK

/-- The core-cycle offset in the current frame. -/
def State.offset (s : State) : Nat := s.rd FRAME_OFFSET_OFFSET

/-- The number N of core cycles of a frame. -/
def State.period (s : State) : Nat := s.rd PERIOD_NOW_N

/-- The number of core cycles since reset: the model's clock for latencies and ages. -/
def State.cycle (s : State) : Nat := s.tick.base + s.offset

/-- The number of 1 bits of a 64-bit word. -/
def popcount (v : Nat) : Nat := (List.range 64).countP fun b => v.testBit b

/-- The class counter of an event class (R462, R465). -/
def classCounter : Nat → Fld
  | 0 => EA_CLASS_NOTE
  | 1 => EA_CLASS_HANDLED
  | 2 => EA_CLASS_MARKED
  | _ => EA_CLASS_FAULT

/-- The index of an event's counter: j × 32 + i for the number j × 100h + i (R474). -/
def eventIndex (id : Nat) : Nat := id / 256 * 32 + id % 256

/-- The counts and latches that every event raised sets, written, lost or masked (R465, R513). -/
def countEvent (e : Evt) (inst : Nat) (injected : Bool) (s : State) : State :=
  let s := (s.incSat EA_COUNT_COUNT 0 (eventIndex e.id)).incSat (classCounter e.cls)
  let s := if injected then s.incSat EA_INJECTED_COUNT else s
  let s := if e.cls = 3 then s.wr GL_ATTENTION_FAULT_SEEN 1 else s
  let s := if e.id / 256 = 0 then s else s.setmbit GL_ATTENTION_GROUP_SEEN (e.id / 256 - 1) true
  if e.cls = 3 && !s.flag EA_FIRST_FAULT_VALID then
    (((s.wr EA_FIRST_FAULT_EVENT_ID e.id).wr EA_FIRST_FAULT_INSTANCE inst).wr
      EA_FIRST_FAULT_VALID 1).wr EA_FIRST_TICK_TICK s.now
  else s

/-- Is the record of this event masked (R465)? Mask bits of FAULT-class events have no effect. -/
def masked (e : Evt) (s : State) : Bool :=
  decide (e.cls ≠ 3) && s.mbit EA_MASK_MASK (e.id % 256) 0 (e.id / 256)

/-- The difference of two free-running 32-bit indices. -/
def idxDiff (a b : Nat) : Nat := (a + 2 ^ 32 - b % 2 ^ 32) % 2 ^ 32

/-- The size of the event ring (R337). -/
def eventSize (s : State) : Nat := 2 ^ s.rd EV_CFG_SIZE_LOG2

/-- Is the event ring RUNNING, with room for a record (R341)? -/
def eventRoom (s : State) : Bool :=
  s.flag EV_STATUS_RUNNING && decide (idxDiff (s.rd EV_WR_INDEX) (s.rd EV_RD_INDEX) < eventSize s)

/-- A record enters the event FIFO, or is lost and counted: the event ring is full or not RUNNING, or the FIFO is full (R341,
R464). -/
def pushRecord (r : EvRec) (s : State) : State :=
  if eventRoom s && decide (s.ev.fifo.length < 512) then s.updEv fun e => { e with fifo := e.fifo ++ [r] }
  else ((s.incWrap EV_LOST_COUNT).wr EV_STATUS_OVERFLOW 1).updEv
    fun e => { e with lostRun := e.lostRun + 1 }

/-- The record of an event stamped now (R53, R463). -/
def mkRecord (e : Evt) (inst arg : Nat) (injected : Bool) (s : State) : EvRec :=
  { id := e.id, cls := e.cls, injected := injected, inst := inst, tick := s.now, off := s.offset,
    dev := s.rd MS_STATUS_ADDR, seq := s.ev.seq, arg := arg % 2 ^ 62 }

/-- An event is stamped, counted and, unless masked, recorded; write says whether this occurrence is
written (R466: an event limited to once per frame is counted at every occurrence and written once). -/
def raiseCore (e : Evt) (inst arg : Nat) (injected write : Bool) (s : State) : State :=
  let r := mkRecord e inst arg injected s
  let s := (countEvent e inst injected s).updEv fun v => { v with seq := (v.seq + 1) % 65536 }
  if write && !masked e s then pushRecord r s else s

/-- The event comparators that match an event (R449): comparators 24 to 31. -/
def eventHits (id : Nat) (s : State) : List Nat :=
  (List.range 8).filter fun i => s.flag EC_CFG_ENABLE 0 i && s.rd EC_CFG_EVENT_ID 0 i == id

/-- Increments HITS of every comparator that hits (R449). -/
def countHits (hits : List Nat) (s : State) : State :=
  hits.foldl (fun t c =>
    if c < 16 then t.incWrap NC_HITS_COUNT 0 c
    else if c < 24 then t.incWrap TC_HITS_COUNT 0 (c - 16)
    else t.incWrap EC_HITS_COUNT 0 (c - 24)) s

/-- Comparators as a mask. -/
def maskOf (l : List Nat) : Nat := l.foldl (fun m b => m ||| 2 ^ b) 0

/-- The state after a slice of a region is told to halt at its next instruction boundary (R457, R168):
between commands every slice stands at one. Its pipeline drains, so no MAC stands within the three slice cycles of a STORE
after the halt (R167). Slice states: 1 RUNNING, 5 DEBUG_HALT (SL_STATUS.STATE). -/
def haltSlice (k t : Nat) (s : State) : State :=
  if s.rd SL_STATUS_STATE (k * 96 + t) == 1 then
    (s.wr SL_STATUS_STATE 5 (k * 96 + t)).updSlices fun m =>
      sput {} m (k * 96 + t) { sget {} m (k * 96 + t) with sinceMac := 3 }
  else s

/-- The state after a halted slice is released (R168, R457). -/
def releaseSlice (k t : Nat) (s : State) : State :=
  if s.rd SL_STATUS_STATE (k * 96 + t) == 5 then s.wr SL_STATUS_STATE 1 (k * 96 + t) else s

/-- Every halted slice of a region is released (R457). -/
def releaseSlices (k : Nat) (s : State) : State := (List.range 96).foldl (fun t g => releaseSlice k g t) s

/-- A region's attach is dropped at the open step of its swap (R457). -/
def dropAttach (k : Nat) (s : State) : State :=
  if s.mbit DA_ATTACHED_REGIONS k then
    (releaseSlices k (s.setmbit DA_ATTACHED_REGIONS k false)).updDbg fun d =>
      { d with attached := d.attached.filter (·.1 != k), coreHalt := d.coreHalt.filter (·.1 != k) }
  else s

/-- ACT_STOP: every attached target is sent HALT (R450, R457). -/
def haltAttached (s : State) : State :=
  s.dbg.attached.foldl (fun t (k, g) => if g < 96 then haltSlice k g t else
    t.updDbg fun d => { d with coreHalt := (k, g) :: d.coreHalt.filter (· != (k, g)) }) s

/-- The trigger sequencer's step in a core cycle in which these comparators hit (R450). It counts once
per core cycle; a hit in the core cycle of a transition belongs to the old state only. -/
def sequencerStep (hits : List Nat) (s : State) : State :=
  let st := s.rd DB_STATUS_SEQ_STATE
  let counting := hits.filter fun c => s.mbit SQ_MASK_COMPARATORS c 0 st
  if s.flag DB_CTRL_SEQ_ARM && !counting.isEmpty && s.dbg.seqCycle != some (s.now, s.offset) then
    let s := s.updDbg fun d => { d with seqCycle := some (s.now, s.offset) }
    let n := s.rd SQ_COUNT_HITS 0 st + 1
    let s := s.wr SQ_COUNT_HITS n 0 st
    if n ≥ s.rd SQ_CFG_COUNT_M1 0 st + 1 then
      let next := s.rd SQ_CFG_NEXT 0 st
      let s := (s.wr DB_HIT_COMPARATOR (counting.foldl min 31)).wr DB_HIT_STATE st
      let s := if s.flag SQ_CFG_ACT_HALT 0 st then s.updDbg fun d => { d with halt := some (d.halt.getD s.now) } else s
      let s := if s.flag SQ_CFG_ACT_EVENT 0 st then
          let s := raiseCore E.DEBUG_TRIGGER st (maskOf counting) false true s
          countHits ((eventHits E.DEBUG_TRIGGER.id s).map (· + 24)) s
        else s
      let s := if s.flag SQ_CFG_ACT_STOP 0 st then haltAttached s else s
      (s.wr DB_STATUS_SEQ_STATE next).wr SQ_COUNT_HITS 0 0 next
    else s
  else s

/-- Comparators that hit in one core cycle: each counts, and the sequencer takes its step (R449, R450). -/
def comparatorHits (hits : List Nat) (s : State) : State :=
  if hits.isEmpty then s else sequencerStep hits (countHits hits s)

/-- An event is raised (R53, R464, R465, R513), and the event comparators see it (R449). -/
def raiseInj (e : Evt) (inst arg : Nat) (injected : Bool) (s : State) : State :=
  let s := raiseCore e inst arg injected true s
  comparatorHits ((eventHits e.id s).map (· + 24)) s

/-- An event is raised that no injection provoked. -/
def raise (e : Evt) (inst arg : Nat) (s : State) : State := raiseInj e inst arg false s

/-- An event that its chapter limits to once per frame and unit: counted at every occurrence, written
once (R466). -/
def raiseOnce (e : Evt) (inst arg : Nat) (injected : Bool := false) (s : State) : State :=
  let first := !s.ev.once.contains (e.id, inst)
  let s := raiseCore e inst arg injected first s
  let s := s.updEv fun v => { v with once := if first then (e.id, inst) :: v.once else v.once }
  comparatorHits ((eventHits e.id s).map (· + 24)) s

/-- A block marks the current frame TAINTED (R44). -/
def markFrame (s : State) : State := s.updTick fun t => { t with tainted := true }

/-- Is the current frame credited: the alignment state is not DEGRADED (R51) and run control is not
HALTED (R452). Alignment states: 0 FREE, 1 ACQUIRING, 2 ALIGNED, 3 HOLDOVER, 4 DEGRADED. -/
def credited (s : State) : Bool :=
  s.rd ALIGN_STATUS_STATE != 4 && s.rd DB_STATUS_RC_STATE != 2

/-- Is every reel engine IDLE or HOLDING, and does no catch block compare (R451)? -/
def reelsDown (s : State) : Bool :=
  (List.range 16).all fun n =>
    (s.rd RE_STATUS_STATE n == 0 || s.rd RE_STATUS_STATE n == 6) && !s.flag CB_STATUS_COMPARING n

/-- Does a catch block drain (R451)? -/
def anyDraining (s : State) : Bool := (List.range 16).any fun n => s.flag CB_STATUS_DRAINING n

/-- Does run control enter HALTED at this tick: the HALT has been latched at an earlier one, and nothing runs (R451)? -/
def haltDue (s : State) : Bool :=
  s.rd DB_STATUS_RC_STATE == 1 && decide (s.dbg.latched < s.now) && reelsDown s &&
    (!anyDraining s || decide (s.dbg.latched + max 1 (s.rd DB_CTRL_HALT_WAIT) ≤ s.now))

/-- An armed injection is performed where its occasion has come: the bit clears (R469). -/
def takeInj (f : Fld) (i : Nat) (occasion : Bool) (s : State) : Bool × State :=
  if occasion && s.flag f i then (true, s.wr f 0 i) else (false, s)

/-- The tick comparators that match offset o of the current frame (R449): comparators 16 to 23. -/
def tickHits (o : Nat) (s : State) : List Nat :=
  ((List.range 8).filter fun i =>
    s.rd TC_CFG_OFFSET 0 i == o &&
      ((s.rd TC_CFG_MODE 0 i == 1 && s.rd TC_TICK_TICK 0 i == s.now) ||
        (s.rd TC_CFG_MODE 0 i == 2 && decide (s.rd TC_TICK_TICK 0 i ≤ s.now)))).map (· + 16)

/-- The least number of a list that is above a. -/
def leastAbove (a : Nat) (l : List Nat) : Option Nat :=
  l.foldl (fun m x => if x ≤ a then m else match m with
    | none => some x
    | some y => some (min x y)) none

/-- The offsets up to o at which a tick comparator may match pass, in order; at most k of them. -/
def passOffsets (o : Nat) : Nat → State → State
  | 0, s => s
  | k + 1, s =>
    match leastAbove s.offset ((List.range 8).map fun i => s.rd TC_CFG_OFFSET 0 i) with
    | some x =>
      if x ≤ o then
        let s := s.wr FRAME_OFFSET_OFFSET x
        passOffsets o k (comparatorHits (tickHits x s) s)
      else s
    | none => s

/-- The core cycles of the current frame up to offset o pass, with the tick comparators that match (R449). -/
def advanceTo (o : Nat) (s : State) : State := (passOffsets o 8 s).wr FRAME_OFFSET_OFFSET o

/-- Does the offset stand still (R51)? -/
def frozen (s : State) : Bool := s.rd ALIGN_STATUS_STATE == 4 || s.tick.awaitTick

/-- One core cycle passes: the offset in the frame advances, up to the frame's last core cycle, and not
while the tick engine is frozen (R51; log entry 2). -/
def passCycle (s : State) : State :=
  if !frozen s && decide (s.offset + 1 < s.period) then advanceTo (s.offset + 1) s else s

end Sys2Proof.Machine
end

