-- ==== Sys2Proof/Machine/Ports.lean ====
section
/-! DEFINITION. The ports of the network (R220 to R222, R237): port q is local port q mod 4 of router q / 4. -/

namespace Sys2Proof.Machine

open F

/-- The port of router (x, y). -/
def portAt (x y p : Nat) : Nat := 4 * (y * 12 + x) + p

/-- The router of pair n (R221): (n + 2, 1) for n below 8, else (n - 6, 2). -/
def pairRouter (n : Nat) : Nat × Nat := if n < 8 then (n + 2, 1) else (n - 6, 2)

/-- The port of reel engine n, catch block n, DDR channel c, and region k (R221). -/
def portReel (n : Nat) : Nat := portAt (pairRouter n).1 (pairRouter n).2 2
def portCatch (n : Nat) : Nat := portAt (pairRouter n).1 (pairRouter n).2 3
def portDdr (c : Nat) : Nat := if c < 4 then portAt 0 (2 * c + 1) 0 else portAt 11 (2 * c - 7) 0
def portRegion (k p : Nat) : Nat := portAt (k % 8 + 2) (k / 8 + 1) p

/-- The fixed stream ID of a hard block's port (R222). -/
def streamOf (q : Nat) : Nat := 0xF000 + q

/-- Stream IDs of reel engine n and catch block n. -/
def streamReel (n : Nat) : Nat := streamOf (portReel n)
def streamCatch (n : Nat) : Nat := streamOf (portCatch n)

/-- Does the port have an attachment (R221)? -/
def attached (q : Nat) : Bool :=
  let x := q / 4 % 12
  let y := q / 48
  let p := q % 4
  if decide (2 ≤ x ∧ x ≤ 9 ∧ 1 ≤ y ∧ y ≤ 8) then decide (p < 2) || decide (y ≤ 2)
  else if x = 0 ∧ y % 2 = 1 ∧ y ≤ 7 then p == 0
  else if x = 11 ∧ y % 2 = 1 ∧ y ≤ 7 then p == 0
  else if y = 0 then
    match x with
    | 2 => decide (p < 2)
    | 5 => true
    | 3 => p == 0
    | 4 => p == 0
    | 6 => p == 0
    | 7 => p == 0
    | 8 => p == 0
    | 9 => p == 0
    | _ => false
  else false

/-- The region of a region port, if it is one (R142). -/
def regionOf (q : Nat) : Option Nat :=
  let x := q / 4 % 12
  let y := q / 48
  if decide (2 ≤ x ∧ x ≤ 9 ∧ 1 ≤ y ∧ y ≤ 8) && decide (q % 4 < 2) then some ((y - 1) * 8 + (x - 2)) else none

/-- The state of a port (R237, NR_STATUS): 0 OPEN, 1 CLOSING, 2 CLOSED. -/
def portState (s : State) (q : Nat) : Nat :=
  bits (s.rd NR_STATUS_PORT_STATE (q / 4)) (2 * (q % 4) + 1) (2 * (q % 4))

/-- Sets the state of a port. -/
def setPort (q st : Nat) (s : State) : State :=
  let v := s.rd NR_STATUS_PORT_STATE (q / 4)
  let p := q % 4
  s.wr NR_STATUS_PORT_STATE (v - bits v (2 * p + 1) (2 * p) * 4 ^ p + st * 4 ^ p) (q / 4)

end Sys2Proof.Machine
end

