-- ==== Sys2Proof/Machine/Crc.lean ====
section
/-! DEFINITION. The checks of the spec's formats: CRC-32 with the IEEE 802.3 polynomial (R31, R58, R480)
and CRC-16 with the polynomial 1021h. -/

namespace Sys2Proof.Machine

/-- One bit of the reflected CRC-32. -/
def crc32Bit (c : Nat) : Nat := if c % 2 = 1 then (c / 2) ^^^ 0xEDB88320 else c / 2

/-- One byte of the reflected CRC-32. -/
def crc32Byte (c b : Nat) : Nat :=
  crc32Bit (crc32Bit (crc32Bit (crc32Bit (crc32Bit (crc32Bit (crc32Bit (crc32Bit (c ^^^ b))))))))

/-- The CRC-32 register after a list of bytes. -/
def crc32From (c : Nat) : List Byte → Nat
  | [] => c
  | b :: t => crc32From (crc32Byte c b.toNat) t

/-- CRC-32 as IEEE 802.3 gives it: initial value and final complement all ones, bits reflected. -/
def crc32 (l : List Byte) : Nat := crc32From 0xFFFFFFFF l ^^^ 0xFFFFFFFF

/-- One bit of the CRC-16 with polynomial 1021h, most significant bit first. -/
def crc16Bit (c : Nat) : Nat := if c < 0x8000 then c * 2 else (c * 2 % 0x10000) ^^^ 0x1021

/-- The CRC-16 register after a list of bytes. -/
def crc16From (c : Nat) : List Byte → Nat
  | [] => c
  | b :: t =>
    let x := c ^^^ (b.toNat * 256)
    crc16From (crc16Bit (crc16Bit (crc16Bit (crc16Bit (crc16Bit (crc16Bit (crc16Bit (crc16Bit x)))))))) t

end Sys2Proof.Machine
end

