-- ==== Sys2Proof/Machine/Map.lean ====
section
/-! DEFINITION. The map of the registers: finding the register at a BAR0 offset (R335, R509), reading a
32-bit word of it, and writing it (R9, R10, R12, R336). -/

namespace Sys2Proof.Machine

open F

/-- The index of an offset in nested strides, flattened with the first index slowest, and the rest. -/
def strideIndex : List (Nat × Nat) → Nat → Nat → Option (Nat × Nat)
  | [], rem, acc => some (acc, rem)
  | (stride, count) :: t, rem, acc =>
      if rem / stride < count then strideIndex t (rem % stride) (acc * count + rem / stride) else none

/-- Where an offset falls in a register: the block instance, the index, and the byte within it. -/
def RegRow.locate (r : RegRow) (off : Nat) : Option (Nat × Nat × Nat) :=
  if off < r.off then none
  else match strideIndex r.inst (off - r.off) 0 with
    | none => none
    | some (i, rem) =>
      match strideIndex r.dims rem 0 with
      | none => none
      | some (j, b) => if b < r.width / 8 then some (i, j, b) else none

/-- The register at a BAR0 offset: its row, block instance, index, and the byte within it (R509). -/
def regAt (off : Nat) : Option (RegRow × Nat × Nat × Nat) :=
  let rec go : List RegRow → Option (RegRow × Nat × Nat × Nat)
    | [] => none
    | r :: t => match r.locate off with
      | some (i, j, b) => some (r, i, j, b)
      | none => go t
  go regTable

/-- The value of a register: its fields in their places; a reserved field and a WO field read 0 (R9, R10). -/
def regValue (s : State) (r : RegRow) (i j : Nat) : Nat :=
  r.fields.foldl (fun v f => if f.acc = .wo then v else v + s.rd f i j * 2 ^ f.lo) 0

/-- The value of one field after a write of register value v, by its access code (R9). None: the field
is not changed by this write. -/
def fieldAfter (s : State) (f : Fld) (i j v : Nat) : Option Nat :=
  let new := bits v f.hi f.lo
  match f.acc with
  | .rw => some new
  | .w1c => some (s.rd f i j &&& (f.max - new))
  | .w1s => some (s.rd f i j ||| new)
  | _ => none

/-- One field takes a write: at once, or at the next tick where the map says so (R12). -/
def writeField (s : State) (f : Fld) (i j v : Nat) : State :=
  match fieldAfter s f i j v with
  | none => s
  | some x =>
    if f.eff = .tick then s.updTickWrites (· ++ [⟨f, i, j, x⟩]) else s.wr f x i j

/-- The writes that waited for the tick take effect (R12). -/
def applyTickWrites (s : State) : State :=
  (s.tickWrites.foldl (fun t w => t.wr w.fld w.v w.i w.j) s).updTickWrites (fun _ => [])

end Sys2Proof.Machine
end

