-- ==== Sys2Proof/Machine/HostOps.lean ====
section
/-! DEFINITION. Operations of the host's descriptors: finding an accepted operation, deciding its outcome
with its stamp (R349, R351), and holding back or releasing the write of its completion (R340). -/

namespace Sys2Proof.Machine

open F

/-- Hearth as a requester: its requests write no completion entry. -/
def hearth : Nat := 64

/-- Does this entry belong to operation idx of a ring? -/
def Op.is (o : Op) (ring idx : Nat) : Bool := o.ring == ring && o.idx == idx

/-- The operation idx of a ring. -/
def opAt (s : State) (ring idx : Nat) : Option Op := s.ops.find? (·.is ring idx)

/-- Changes the operation idx of a ring. -/
def State.updOp (s : State) (ring idx : Nat) (f : Op → Op) : State :=
  s.updOps fun l => l.map fun o => if o.is ring idx then f o else o

/-- The opcode of an operation (R344). -/
def Op.opcode (o : Op) : Nat := bits (o.desc.headD 0) 7 0

/-- Word w of an operation's descriptor. -/
def Op.word (o : Op) (w : Nat) : Nat := o.desc.getD w 0

/-- The operation has not reached its outcome. -/
def Op.isOpen (o : Op) : Bool := o.phase == .accepted || o.phase == .running

/-- Is the operation one of this device's own rings? The index of a descriptor of run n of its ring is its
free-running index + n × 2^45; that of one executed for the gateway at address a is the gateway's index +
(a + 1) × 2^32 (R354). -/
def Op.own (o : Op) : Bool := o.ring < 64 && o.idx / 2 ^ 32 % 8192 == 0

/-- Whose ring the operation came by: 0 this device's own, a + 1 that of the gateway at address a. -/
def Op.origin (o : Op) : Nat := o.idx / 2 ^ 32 % 8192

/-- Hearth's priority for a descriptor (R379), if Hearth serves it. -/
def hearthPrio (opcode : Nat) : Option Nat :=
  match opcode with
  | 0x33 => some 6
  | 0x72 => some 5
  | 0x71 => some 4
  | 0x70 => some 3
  | _ => none

/-- Has the operation been accepted without being judged by its target yet (R339)? One that Hearth serves waits as a job of the
dispatcher. -/
def Op.unjudged (o : Op) : Bool := o.phase == .accepted && (hearthPrio o.opcode).isNone

/-- Is it this operation's turn to start: it is the oldest of its ring, from its own source, that has not started (R339)? -/
def inTurn (s : State) (o : Op) : Bool :=
  (hearthPrio o.opcode).isSome ||
    (s.ops.find? fun p => p.ring == o.ring && p.origin == o.origin && p.unjudged).any (·.is o.ring o.idx)

/-- Has an operation executed for a gateway still reads of host memory on their way (R354)? -/
def fetching (s : State) (o : Op) : Bool :=
  s.host.fetched.any fun f => f.ring == o.ring && f.idx == o.idx && !f.awaited.isEmpty

/-- The oldest operation of a ring that waits for the command of this opcode, and may start (R339). -/
def takeOp (s : State) (ring opcode : Nat) : Option Op :=
  s.ops.find? fun o => o.ring == ring && o.opcode == opcode && o.phase == .accepted && inTurn s o && !fetching s o

/-- Host memory as an operation reads it: that of this device's own host, or, for one executed for a gateway, what that gateway
has sent (R354). -/
def hostImage (s : State) (o : Op) : Mem :=
  if o.origin = 0 then s.hostMem
  else match s.host.fetched.find? fun f => f.ring == o.ring && f.idx == o.idx with
    | some f => f.bytes
    | none => []

/-- OUTSTANDING of a ring follows its operations (R357). -/
def noteOutstanding (ring : Nat) (s : State) : State :=
  if ring < 64 then
    s.wr CR_STATUS_OUTSTANDING (s.ops.countP fun o => o.ring == ring && o.own && !o.rejected && !o.lost) 0 ring
  else s

/-- Does a code reject a descriptor (R345, R356): malformed, refused, limit or BUSY? -/
def rejects (code : Nat) : Bool := code == Code.BUSY || (decide (0x10 ≤ code) && decide (code < 0x40))

/-- A descriptor is rejected by a check of R345, before its operation starts (R345, R357). -/
def noteRejected (o : Op) (code : Nat) (s : State) : State :=
  if o.phase != .accepted || !rejects code then s
  else
    let s := s.updOp o.ring o.idx fun o => { o with rejected := true }
    if o.own then noteOutstanding o.ring (s.incSat CR_COUNTS_REJECTED 0 o.ring) else s

/-- An outcome is decided, stamped in this core cycle (R349, R351). An operation whose outcome is already
decided keeps it. The requests of Hearth leave no entry. -/
def decideOp (ring idx code fidx result : Nat) (s : State) : State :=
  match opAt s ring idx with
  | none => s
  | some o =>
    if !o.isOpen then s
    else if ring == hearth then s.updOps fun l => l.filter fun o => !o.is ring idx
    else
      let s := noteRejected o code s
      (s.updOp ring idx fun o =>
        { o with
          phase := .decided, code := code, fidx := fidx, result := result, tick := s.now,
          off := s.offset, dev := s.rd MS_STATUS_ADDR, seq := s.ev.seq }).updEv
        fun v => { v with seq := (v.seq + 1) % 65536 }

/-- An operation runs. -/
def runOp (ring idx : Nat) (s : State) : State := s.updOp ring idx fun o => { o with phase := .running }

/-- The write of an operation's completion waits for a condition of its chapter (R340). -/
def holdOp (ring idx : Nat) (s : State) : State := s.updOp ring idx fun o => { o with held := true }

/-- The condition of its chapter is met; a latched outcome becomes writable (R340). -/
def releaseOp (ring idx : Nat) (s : State) : State :=
  match opAt s ring idx with
  | none => s
  | some o =>
    let s := s.updOp ring idx fun o => { o with held := false }
    if o.held && o.phase == .latched then s.updReady (· ++ [(ring, idx)]) else s

/-- The tick at which a decided outcome is latched: the first at or after its decision (R351). -/
def Op.latchTick (o : Op) : Nat := if o.off = 0 then o.tick else o.tick + 1

/-- A decided outcome is latched, and is writable where no condition holds it (R351, R340). -/
def latchOp (ring idx : Nat) (s : State) : State :=
  match opAt s ring idx with
  | none => s
  | some o =>
    if o.phase == .decided && decide (o.latchTick ≤ s.now) then
      let s := s.updOp ring idx fun o => { o with phase := .latched }
      if o.held then s else s.updReady (· ++ [(ring, idx)])
    else s

end Sys2Proof.Machine
end

