-- ==== Sys2Proof/Machine/Sched.lean ====
section
/-! DEFINITION. Reading a schedule bank (R30 to R36), and the frame index of a tick (R33). -/

namespace Sys2Proof.Machine

open F

/-- A slot entry (R34). -/
structure Slot where
  type : Nat
  unit : Nat
  start : Nat
  length : Nat
  param : Nat
  /-- The reserved bits of word 0. -/
  rsv : Nat
  deriving DecidableEq, Repr

/-- Slot entry e of a bank (R30, R34). -/
def slotAt (m : Mem) (e : Nat) : Slot :=
  let w0 := memRd m (0x10000 + e * 16) 8
  { type := bits w0 7 0, unit := bits w0 15 8, start := bits w0 32 16, length := bits w0 49 33,
    param := memRd m (0x10000 + e * 16 + 8) 8, rsv := bits w0 63 50 }

/-- Frame directory entry f of a bank: FIRST and COUNT (R32). -/
def frameAt (m : Mem) (f : Nat) : Nat × Nat :=
  let w := memRd m (0x1000 + f * 8) 8
  (bits w 15 0, bits w 26 16)

/-- The slot entries of frame index f of a bank, in order. -/
def frameSlots (m : Mem) (f : Nat) : List Slot :=
  let (first, count) := frameAt m f
  (List.range count).map fun k => slotAt m (first + k)

/-- The frame index of tick t in the schedule in force (R33). -/
def frameIndex (s : State) (t : Nat) : Nat :=
  (t - s.rd SCHED_BASE_BASE) % Nat.max 1 (s.rd SCHED_POS_CYCLE_LEN)

/-- The entry at index k of the current frame, when the frame has one. -/
def currentSlot (s : State) (k : Nat) : Option Slot :=
  let (first, count) := frameAt s.sched (frameIndex s s.now)
  if k < count then some (slotAt s.sched (first + k)) else none

/-- Does the frame at tick t hold an APPLY entry in the schedule in force (R38)? -/
def hasApply (s : State) (t : Nat) : Bool :=
  (frameSlots s.sched (frameIndex s t)).any fun e => e.type == 1

/-- Does the current frame open windows: it is credited, its ticks run, and it was not cut short (R33, R51)? -/
def windowsOpen (s : State) : Bool := credited s && !frozen s && !s.tick.cut

/-- May the window of entry k of the current frame open (R33, R34, R51): the frame opens windows, the entry is of this
type and has not opened in this frame, and START has not passed? -/
def opening (s : State) (type k : Nat) : Option Slot :=
  match currentSlot s k with
  | some e =>
    if windowsOpen s && e.type == type && !s.tick.opened.contains k && decide (s.offset ≤ e.start) then some e else none
  | none => none

/-- A window opens; complete says whether its action has completed already (R41). -/
def openWin (k : Nat) (e : Slot) (complete : Bool) (s : State) : State :=
  s.updTick fun t =>
    { t with
      opened := k :: t.opened
      wins := t.wins ++ [{ idx := k, type := e.type, unit := e.unit, param := e.param,
                           last := e.start + e.length - 1, complete := complete }] }

/-- The windows that are open on a unit for a type. -/
def winOf (s : State) (type unit : Nat) : Option OpenWin :=
  s.tick.wins.find? fun w => w.type == type && w.unit == unit

/-- The action of the open windows of a unit completes or not (R41). -/
def markWins (type unit : Nat) (complete : Bool) (s : State) : State :=
  s.updTick fun t =>
    { t with wins := t.wins.map fun w =>
        if w.type == type && w.unit == unit then { w with complete := complete } else w }

end Sys2Proof.Machine
end

