-- ==== Sys2Proof/Machine/ProofOps.lean ====
section
/-! DEFINITION. The staging area (R55 to R61, R65, R68, R70 to R74): who owns it, loading a proof-set image,
staging a write to an RWF field, and ending a fix. -/

namespace Sys2Proof.Machine

open F

/-- Who makes a request of the staging area or of the device: a command ring's next descriptor of the
opcode, or Hearth, with its one argument (R57). -/
def isHearth (ring : Nat) : Bool := ring == hearth

/-- Staging states (R56): 0 EMPTY, 1 LOADING, 2 PROOFING, 3 PROOFED, 4 FIX_PENDING, 5 APPLYING. -/
def stageState (s : State) : Nat := s.rd PF_STATE_STATE

/-- May this requester act on the staging area: it is EMPTY, or owned by it (R57)? -/
def ownsStage (s : State) (byHearth : Bool) : Bool :=
  stageState s == 0 || s.flag PF_STATE_OWNER == byHearth

/-- Is the staging area locked against loads, checks and writes (R57)? -/
def stageLocked (s : State) : Bool := stageState s == 2 || stageState s == 4 || stageState s == 5

/-- The staging area becomes, or stays, LOADING for its requester (R56). -/
def stageLoading (byHearth : Bool) (s : State) : State :=
  (s.wr PF_STATE_STATE 1).setb PF_STATE_OWNER byHearth

/-- The staging area becomes EMPTY: staged copies equal active copies, no owner (R56). -/
def stageEmpty (s : State) : State :=
  (((s.wr PF_STATE_STATE 0).wr PF_STATE_OWNER 0).wr PF_FIX_TICK_T 0).updStage
    fun g => { g with items := [], rwf := [], load := none, check := none, fixOp := none, checked := false, autoFix := false }

/-- A staged value joins the set, replacing an earlier one of the same field (R56). -/
def stageWrite (w : FieldWrite) (l : List FieldWrite) : List FieldWrite :=
  l.filter (fun x => !(x.fld.id == w.fld.id && x.i == w.i && x.j == w.j)) ++ [w]

/-- Is the field an RWF field for this requester: the memory regions of the CORE and MDMA classes are so for Hearth only
(R385), and STREAM_ID only at ports 0 and 1 of region routers (R222)? -/
def rwfFor (mine : Bool) (f : Fld) (i j : Nat) : Bool :=
  f.acc == .rwf &&
    !(!mine && decide (SP_RGN_BASE_BLOCK.id ≤ f.id ∧ f.id ≤ SP_RGN_PERM_ENABLE.id ∧ j < 64)) &&
    !(f.id == PORT_CFG_STREAM_ID.id && (regionOf (4 * i + j)).isNone)

/-- The RWF fields that lie in the 32 bits from byte b of a register, and their new values: a field of more
than the word keeps its staged or active other half. -/
def rwfWrites (mine : Bool) (s : State) (staged : List FieldWrite) (r : RegRow) (i j b v : Nat) : List FieldWrite :=
  r.fields.filterMap fun f =>
    if rwfFor mine f i j && decide (f.lo < b * 8 + 32 ∧ b * 8 ≤ f.hi) then
      let old := match staged.find? (fun x => x.fld.id == f.id && x.i == i && x.j == j) with
        | some x => x.v
        | none => s.rd f i j
      let reg := old * 2 ^ f.lo
      let reg := reg - bits reg (b * 8 + 31) (b * 8) * 2 ^ (b * 8) + v % 2 ^ 32 * 2 ^ (b * 8)
      some ⟨f, i, j, bits reg f.hi f.lo⟩
    else none

/-- What an image offset pair of an RWF_WRITES item stages over the values staged so far; none where it holds no RWF
field (R61). -/
def rwfPair (mine : Bool) (s : State) (staged : List FieldWrite) (off v : Nat) : Option (List FieldWrite) :=
  if off % 4 = 0 then
    match regAt off with
    | some (r, i, j, b) =>
      let l := rwfWrites mine s staged r i j b v
      if l.isEmpty then none else some l
    | none => none
  else none

/-- The range of INSTANCE of an item type (R60). -/
def instanceLimit : Nat → Option Nat
  | 0x01 => some 1
  | 0x02 => some 18
  | 0x03 => some 120
  | 0x04 => some 1024
  | 0x05 => some 64
  | 0x06 => some 64
  | 0x07 => some 1
  | 0x08 => some 14
  | 0x09 => some 1
  | 0x0A => some 1
  | 0x0B => some 1
  | 0x0F => some 1
  | _ => none

/-- The bytes of an image: CRC-32 is taken with the CRC field at 0 (R58). -/
def imageCrc (m : Mem) (addr len : Nat) : Nat :=
  crc32 (memBytes m addr 0x3C ++ [0, 0, 0, 0] ++ memBytes m (addr + 0x40) (len - 0x40))

/-- A fault of an image: code and item index (R61). -/
structure LoadFault where
  code : Nat
  item : Nat
  deriving DecidableEq, Repr

/-- What a PROOF_LOAD stages: the items and values read before the first fault, and the fault. -/
structure Loaded where
  items : List Item
  rwf : List FieldWrite
  fault : Option LoadFault
  deriving DecidableEq, Repr

/-- The pairs of an RWF_WRITES payload join the staged values; false where an offset holds no RWF
field (R61). -/
def loadPairs (mine : Bool) (s : State) (m : Mem) (a : Nat) : Nat → List FieldWrite → List FieldWrite × Bool
  | 0, acc => (acc, true)
  | n + 1, acc =>
    match rwfPair mine s acc (memRd m a 4) (memRd m (a + 4) 4) with
    | none => (acc, false)
    | some l => loadPairs mine s m (a + 8) n (l.foldl (fun x w => stageWrite w x) acc)

/-- The bytes of a payload. -/
def payNat (p : List Byte) (off n : Nat) : Nat := leNat (((p.drop off).take n).map (·.toNat))

/-- Word w of a payload of 64-bit words. -/
def payWord (p : List Byte) (w : Nat) : Nat := payNat p (8 * w) 8

/-- Is a NOC_RESERVATION entry well formed (R232)? -/
def standingOk (w : Nat) : Bool :=
  bits w 7 2 == 0 && !bit w 15 && bits w 23 18 == 0 && bits w 31 25 == 0 && bits w 47 44 == 0 && bits w 63 60 == 0 &&
    decide (bits w 14 8 < 120) && decide (1 ≤ bits w 43 32 ∧ bits w 43 32 ≤ 2048) && decide (bits w 59 48 ≤ 256)

/-- Is a range descriptor well formed (R268)? -/
def rangeDescOk (p : List Byte) (b : Nat) : Bool :=
  let w (k : Nat) := payNat p (b + 8 * k) 8
  bits (w 0) 7 4 == 0 && bits (w 0) 63 36 == 0 && bits (w 1) 63 28 == 0 && bits (w 2) 63 40 == 0 && w 3 == 0 &&
    (List.range 8).all fun e => bits (w (4 + e)) 63 34 == 0

/-- Is a REGION_ROLE payload inside the values of R202, and in step with the earlier items of its swap group (R203)? -/
def regionRoleOk (earlier : List Item) (p : List Byte) : Bool :=
  let w := payWord p
  let reload := bits (w 0) 9 8 == 0
  decide (bits (w 0) 7 0 ≤ 0x40) && bits (w 0) 9 8 != 3 && bits (w 0) 15 11 == 0 && bits (w 0) 63 48 == 0 &&
    bits (w 0) 47 32 != 0 && bits (w 2) 63 32 == 0 &&
    (if reload then w 1 % 64 == 0 else w 1 == 0 && w 2 == 0) &&
    (!reload || earlier.all fun x =>
      x.type != 5 || bits (payWord x.payload 0) 9 8 != 0 || payWord x.payload 1 != w 1 ||
        (bit (payWord x.payload 0) 10 == bit (w 0) 10 && bits (payWord x.payload 0) 47 32 == bits (w 0) 47 32 &&
          payWord x.payload 2 == w 2 && payWord x.payload 3 == w 3))

/-- Is a slot of the Hearth image running, or not VALID (R210)? -/
def slotUnfit (s : State) (slot : Nat) : Bool :=
  slot == s.rd FW_STATUS_ACTIVE_SLOT || !s.flag (if slot = 0 then FW_STATUS_VALID_A else FW_STATUS_VALID_B)

/-- What is wrong with an item's payload, as PROOF_LOAD finds it (R61): its length, its reserved fields, and the values
that its chapter has PROOF_LOAD reject. The fields of SCHEDULE, LANE_ROLE, MESH_ROUTES and CLOCK_SELECT are judged by
their checks. The payload of a DEVICE_ADDRESS item has a length of 8, as every item of one word has (DESIGN CHOICE, log
entry 25: R60 gives its bits 11:0 and no length). -/
def itemFlaw (s : State) (mine : Bool) (earlier : List Item) (x : Item) : Option Nat :=
  let p := x.payload
  let n := p.length
  let w := payWord p
  let ok (b : Bool) : Option Nat := if b then none else some Code.BAD_FIELD
  match x.type with
  | 0x02 => ok (n == 16)
  | 0x03 => ok (n % 8 == 0 && decide (n ≤ 512) && (List.range (n / 8)).all fun k => standingOk (w k))
  | 0x04 => ok (n == 8 && x.inst != 1023 && decide (bits (w 0) 15 0 ≤ 32768) && decide (bits (w 0) 17 16 ≤ 1) &&
      bits (w 0) 63 22 == 0 && (bits (w 0) 17 16 == 1 || bits (w 0) 21 18 == 0))
  | 0x05 => ok (n == 32 && regionRoleOk earlier p)
  | 0x06 => ok (n % 96 == 0 && decide (n ≤ 16 * 96) && (List.range (n / 96)).all fun k => rangeDescOk p (96 * k))
  | 0x07 => ok (n == 64 + 4096 * 4)
  | 0x08 => ok (n == 16)
  | 0x09 => ok (n == 8 && bits (w 0) 63 12 == 0)
  | 0x0A =>
    if n = 8 ∧ s.rd LC_STATUS_STATE = 4 then some Code.LIFECYCLE
    else ok (n == 8 && bits (w 0) 63 2 == 0 && !slotUnfit s (bits (w 0) 0 0))
  | 0x0B => ok (n == 8 && decide (1 ≤ bits (w 0) 3 0 ∧ bits (w 0) 3 0 ≤ 4) && bits (w 0) 7 4 == 0 &&
      bits (w 0) 63 32 == 0 && bits (w 0) 15 8 != 0 && (mine || !bit (w 0) 15))
  | _ => none

/-- The items of an image, from item k at address a, n of them left (R59 to R61): they end where the image does. The area
keeps the items before the one that fails, and nothing of that one. -/
def loadItems (ring : Nat) (s : State) (m : Mem) (limit : Nat) : Nat → Nat → Nat → Loaded → Loaded
  | 0, k, a, acc => if a = limit then acc else { acc with fault := some ⟨Code.BAD_FIELD, k - 1⟩ }
  | n + 1, k, a, acc =>
    let w0 := memRd m a 4
    let len := memRd m (a + 4) 4
    let type := bits w0 7 0
    let inst := bits w0 31 16
    let fail (code : Nat) : Loaded := { acc with fault := some ⟨code, k⟩ }
    let next := a + (16 + len + 63) / 64 * 64
    match instanceLimit type with
    | none => fail Code.OUT_OF_RANGE
    | some lim =>
      if lim ≤ inst then fail Code.OUT_OF_RANGE
      else if bits w0 15 8 ≠ 0 ∨ memRd m (a + 8) 8 ≠ 0 then fail Code.BAD_FIELD
      else if limit < next then fail Code.BAD_FIELD
      else if type = 1 ∧ 0x100000 < len then fail Code.OUT_OF_RANGE
      else if type ≠ 0x0F ∧ acc.items.any (fun x => x.type == type && x.inst == inst) then
        fail Code.BAD_FIELD
      else if memRd m (a + 16 + len) (next - (a + 16 + len)) ≠ 0 then fail Code.BAD_FIELD
      else
        let item : Item := { type := type, inst := inst, index := k, payload := memBytes m (a + 16) len, ring := ring }
        if type = 0x0F then
          if len % 8 ≠ 0 then fail Code.BAD_FIELD
          else if acc.items.any (fun x => x.type == type) then fail Code.BAD_FIELD
          else
            let (rwf, ok) := loadPairs (isHearth ring) s m (a + 16) (len / 8) acc.rwf
            if ok then loadItems ring s m limit n (k + 1) next { acc with items := acc.items ++ [item], rwf := rwf }
            else fail Code.BAD_FIELD
        else match itemFlaw s (isHearth ring) acc.items item with
          | some code => fail code
          | none => loadItems ring s m limit n (k + 1) next { acc with items := acc.items ++ [item] }

/-- Reading an image of len bytes at addr (R58, R61): header, items, and the CRC over the whole. The header is judged first,
in this order, then item by item, and the CRC when all has been read, so that a CRC fault keeps every item (DESIGN CHOICE, log
entry 25: R61 does not say which of several faults is found first). -/
def loadImage (ring : Nat) (s : State) (m : Mem) (addr len : Nat) : Loaded :=
  let acc : Loaded := { items := s.stage.items, rwf := s.stage.rwf, fault := none }
  let fail (code : Nat) : Loaded := { acc with fault := some ⟨code, 0⟩ }
  let count := memRd m (addr + 4) 2
  let dev := memRd m (addr + 0x0C) 4
  if addr % 64 ≠ 0 then fail Code.BAD_ALIGN
  else if memRd m (addr + 6) 2 ≠ 0 ∨ bits dev 31 12 ≠ 0 ∨ memRd m (addr + 0x10) 44 ≠ 0 then fail Code.BAD_FIELD
  else if memRd m (addr + 8) 4 ≠ len ∨ len % 64 ≠ 0 then fail Code.BAD_FIELD
  else if count = 0 ∨ 4096 < count ∨ len < 64 ∨ 0x400000 < len then fail Code.OUT_OF_RANGE
  else if bits dev 11 0 ≠ 0xFFF ∧ bits dev 11 0 ≠ s.rd MS_STATUS_ADDR then fail Code.BAD_FIELD
  else
    let r := loadItems ring s m (addr + len) count 0 (addr + 64) acc
    match r.fault with
    | some _ => r
    | none =>
      if imageCrc m addr len = memRd m (addr + 0x3C) 4 then r
      else { r with fault := some ⟨Code.BAD_FIELD, 0⟩ }

/-- Ends a pending fix without applying it: the set stays staged and PROOFED, the fix completes ABORTED
(R52, R68). -/
def abortFix (s : State) : State :=
  match s.stage.fixOp with
  | none => s
  | some (r, k) =>
    let s := ((s.wr PF_STATE_STATE 3).wr PF_FIX_TICK_T 0).updStage fun g => { g with fixOp := none, checked := false }
    let s := ((s.wr PF_RESULT_CODE Code.ABORTED).wr PF_RESULT_CHECK_ID 0).wr PF_RESULT_DETAIL 0
    decideOp r k Code.ABORTED 0 0 s

/-- The log entry of a limited change is burnt with VALID and without COMMIT (R73, R74). -/
def burnEntry (j : FuseJob) (s : State) : State :=
  s.wr CHANGE_LOG_ENTRY (j.word0 + (j.word1 + 2 ^ 62) * 2 ^ 64) 0 j.entry

/-- By the tick after a limited change the entry of the oldest job has been burnt with VALID (R73; log entry 76). -/
def burnValid (s : State) : State :=
  match s.stage.fuses with
  | [] => s
  | j :: t =>
    if j.valid then s else (burnEntry j s).updStage fun g => { g with fuses := { j with valid := true } :: t }

/-- At a boot Hearth sets COMMIT in the entries that have VALID without it (R73). -/
def commitLog (s : State) : State :=
  (List.range 64).foldl (fun t k =>
    let e := t.rd CHANGE_LOG_ENTRY 0 k
    if e.testBit 126 && !e.testBit 127 then t.wr CHANGE_LOG_ENTRY (e + 2 ^ 127) 0 k else t) s

/-- Is a fix pending or being applied (R56)? -/
def fixPending (s : State) : Bool := stageState s == 4 || stageState s == 5

/-- The cancels that waited for the completion of this fix to be written complete ALREADY_DONE (R68). -/
def releaseCancels (fr fk : Nat) (s : State) : State :=
  let due := s.stage.lateCancels.filter fun e => e.2.2 == (fr, fk)
  let s := s.updStage fun g => { g with lateCancels := g.lateCancels.filter fun e => e.2.2 != (fr, fk) }
  due.foldl (fun t e => decideOp e.1 e.2.1 Code.ALREADY_DONE 0 0 t) s

/-- A cancel waits for the completion of the last fix, while that has not been written (R68). -/
def awaitFix (r k : Nat) (s : State) : State :=
  match s.stage.lastFix with
  | some (fr, fk) =>
    if (opAt s fr fk).isSome then s.updStage fun g => { g with lateCancels := g.lateCancels ++ [(r, k, fr, fk)] }
    else decideOp r k Code.ALREADY_DONE 0 0 s
  | none => decideOp r k Code.ALREADY_DONE 0 0 s

/-- One latched cancel (R68): at or before tick T - 1 it aborts the fix; later it waits for the fix's
completion to be written. -/
def latchCancel (s : State) (c : Nat × Nat × Nat) : State :=
  let (r, k, arrived) := c
  if s.stage.fixOp.isSome && decide (arrived + 1 ≤ s.rd PF_FIX_TICK_T - 1) then
    decideOp r k Code.OK 0 0 (abortFix s)
  else awaitFix r k s

/-- The cancels that arrived in an earlier frame (R68). -/
def dueCancels (s : State) : List (Nat × Nat × Nat) := s.stage.cancels.filter fun c => decide (c.2.2 < s.now)

/-- They are latched. -/
def latchCancels (s : State) : State :=
  let due := dueCancels s
  due.foldl latchCancel (s.updStage fun g => { g with cancels := g.cancels.filter fun c => !decide (c.2.2 < s.now) })

/-- Tick T - 1 of a pending fix has been reached, and no cancel is to be latched at it: APPLYING (R56, R68). -/
def reachApply (s : State) : State :=
  if stageState s = 4 ∧ s.rd PF_FIX_TICK_T ≤ s.now + 1 ∧ (dueCancels s).isEmpty then s.wr PF_STATE_STATE 5 else s

end Sys2Proof.Machine
end

