-- ==== Sys2Proof/Machine/DramOps.lean ====
section
/-! DEFINITION. DRAM: the decode of an address (R245, R246), the line code's outcomes and the write-back
queue (R247 to R250), refresh-management draws (R254), and the encryption engine in front of every channel
(R267 to R278). -/

namespace Sys2Proof.Machine

open F

/-- DDR channel c beside its registers. -/
def ddr_ (s : State) (c : Nat) : DdrU := sget {} s.ddr c

/-- Changes DDR channel c. -/
def updDdr_ (c : Nat) (f : DdrU → DdrU) (s : State) : State :=
  s.updDdr fun m => sput {} m c (f (sget {} m c))

/-- CAPACITY of channel c (R245); 0 unless READY or SELF_REFRESH. -/
def State.dramCapacity (s : State) (c : Nat) : Nat := s.rd DC_CAPACITY_BYTES c

/-- The channel of a device physical address (R245). -/
def chanOf (addr : Nat) : Nat := addr / 2 ^ 37

/-- Channel states (DC_STATUS.STATE): 0 OFF, 1 TRAINING, 2 READY, 3 SELF_REFRESH, 4 FAILED. -/
def chanState (s : State) (c : Nat) : Nat := s.rd DC_STATUS_STATE c

/-- Does one of n bytes of DRAM from an address lie in a channel in self-refresh: does an access to them wait (R408)? -/
def dramRests (s : State) (addr n : Nat) : Bool :=
  (List.range 8).any fun c =>
    chanState s c == 3 && decide (c * 2 ^ 37 < addr + n) && decide (addr < (c + 1) * 2 ^ 37)

/-- RANK_BYTES of a channel (R244). -/
def rankBytes (s : State) (c : Nat) : Nat :=
  match s.rd DC_CONFIG_DENSITY c with
  | 0 => 2 ^ 35
  | 1 => 3 * 2 ^ 34
  | _ => 2 ^ 36

/-- The decode of an address (R246): rank, subchannel, bank and row. -/
structure Place where
  rank : Nat
  sub : Nat
  bank : Nat
  row : Nat
  deriving DecidableEq, Repr

/-- Where a device physical address lies in its channel (R246). -/
def placeOf (s : State) (addr : Nat) : Place :=
  let c := chanOf addr
  let off := addr % 2 ^ 37
  { rank := off / rankBytes s c, sub := bits off 6 6, bank := bits off 18 16 * 4 + bits off 15 14,
    row := off % rankBytes s c / 2 ^ 19 }

/-- May a window with this PARAM touch the line (R36)? -/
def inMasks (s : State) (addr param : Nat) : Bool :=
  let p := placeOf s addr
  (bits param 6 3).testBit p.rank && (bits param 63 32).testBit p.bank

/-- The key of a place's bank in the table of accumulated activates (R254). -/
def Place.bankKey (p : Place) : Nat := 64 * p.rank + 32 * p.sub + p.bank

/-- May the bank of an address take no activate before refresh management (R254)? -/
def bankBlocked (s : State) (addr : Nat) : Bool :=
  let c := chanOf addr
  s.flag DC_CONFIG_RFM_REQUIRED c &&
    decide (Config.raaMax c ≤ sget 0 (ddr_ s c).raa (placeOf s addr).bankKey)

/-- RFM_PROB: a value outside 8 to 16 acts as the nearer limit (R266). -/
def rfmExponent (s : State) (c : Nat) : Nat := max 8 (min 16 (s.rd DC_POLICY_RFM_PROB c))

/-- An activate for a line: where the DRAM requires refresh management it counts in its bank, and a new draw is made
(R254). Whether a command is drawn, with probability 2^-RFM_PROB, is a free value. -/
def rfmDraw (addr : Nat) (s : State) : State :=
  let c := chanOf addr
  let p := placeOf s addr
  let s := if s.flag DC_CONFIG_RFM_REQUIRED c then
      updDdr_ c (fun u => { u with raa := sput 0 u.raa p.bankKey (sget 0 u.raa p.bankKey + 1) }) s
    else s
  let (v, s) := s.draw
  if v % 2 ^ rfmExponent s c ≠ 0 then s
  else
    let (inj, s) := takeInj FI_MISC_INJECT_INJ_RFM_FULL 0 (decide (s.rd FI_MISC_INJECT_UNIT = c)) s
    let q := (ddr_ s c).rfm
    if inj || decide (16 ≤ q.length) then
      raiseOnce E.DDR_RFM_OVERFLOW c 0 inj (s.incSat DC_RFM_COUNTS_RFM_OVERFLOW c)
    else
      updDdr_ c (fun u => { u with rfm := u.rfm ++ [(p.rank, p.sub, p.bank, p.row)] })
        (s.wr DC_STATUS_RFM_LEVEL (q.length + 1) c)

/-- Does the line hold the poison pattern (R248, R263)? -/
def poisoned (s : State) (addr : Nat) : Bool :=
  (sget 0 s.dramPoison (addr / 64) != 0) != (sget 0 s.dramWhole (4 * chanOf addr + (placeOf s addr).rank) != 0)

/-- The line takes or loses the poison pattern. -/
def setPoison (addr : Nat) (p : Bool) (s : State) : State :=
  let w := sget 0 s.dramWhole (4 * chanOf addr + (placeOf s addr).rank) != 0
  s.updDramPoison fun m => sput 0 m (addr / 64) (if p != w then 1 else 0)

/-- A line is stored whole: data, tag and a correct code (R250). -/
def storeLine (addr : Nat) (data : List Byte) (tag : Nat) (s : State) : State :=
  let s := s.updDram fun m => memWrBytes m (addr / 64 * 64) data
  let s := s.updDramTags fun m => sput 0 m (addr / 64) tag
  setPoison addr false (s.updDramBad fun m => sput 0 m (addr / 64) 0)

/-- A line is written poisoned: zeros in its data and tag bits (R248). -/
def poisonLine (addr : Nat) (s : State) : State :=
  setPoison addr true (storeLine addr (List.replicate 64 0) 0 s)

/-- WB_LEVEL follows the write-back queue. -/
def noteWb (c : Nat) (s : State) : State := s.wr DC_STATUS_WB_LEVEL (min 32 (ddr_ s c).wb.length) c

/-- A line enters the write-back queue (R249): 8 of the 32 entries are set aside for poison writes. -/
def enqueueWb (addr : Nat) (poison : Bool) (s : State) : State :=
  let c := chanOf addr
  let q := (ddr_ s c).wb
  let p := (q.filter (·.2)).length
  if q.contains (addr, poison) then s
  else if !poison && decide (24 ≤ q.length - min p 8) then s.incSat DC_UE_COUNTS_WB_SKIPPED c
  else noteWb c (updDdr_ c (fun u => { u with wb := u.wb ++ [(addr, poison)] }) s)

/-- A line leaves the write-back queue (R249, R265). -/
def dequeueWb (addr : Nat) (s : State) : State :=
  noteWb (chanOf addr) (updDdr_ (chanOf addr) (fun u => { u with wb := u.wb.filter (·.1 != addr) }) s)

/-- UE_LOG takes an entry; entries fill in order and stop when all 16 are valid (R266). -/
def logUe (addr src : Nat) (s : State) : State :=
  let c := chanOf addr
  match (List.range 16).find? fun j => !s.flag UE_LOG_VALID c j with
  | none => s
  | some j =>
    (((s.wr UE_LOG_ADDR addr c j).wr UE_LOG_SOURCE src c j).wr UE_LOG_VALID 1 c j).wr UE_LOG_TICK s.now c j

/-- CE_LOG takes an entry; the oldest is overwritten (R265). -/
def logCe (addr dev : Nat) (s : State) : State :=
  let c := chanOf addr
  let j := (ddr_ s c).ceNext
  let s := (((s.wr CE_LOG_ADDR addr c j).wr CE_LOG_DEVICE dev c j).wr CE_LOG_VALID 1 c j).wr CE_LOG_TICK s.now c j
  updDdr_ c (fun u => { u with ceNext := (j + 1) % 8 }) s

/-- What the decoder finds in a line (R248). -/
inductive Found where
  | clean | corrected | uncorrectable | poison
  deriving DecidableEq, Repr

/-- The controller reads a line and decodes it (R247, R248, R258, R265): src is 0 read, 1 scrub, 2 partial
write. Every consequence but the answer to a requester is taken here; a scrub's write-back is its own. -/
def decodeLine (addr src : Nat) (s : State) : Found × Bool × State :=
  let c := chanOf addr
  let s := rfmDraw addr s
  let (ue, s) := takeInj DC_INJECT_INJ_UE c true s
  let (ce, s) := takeInj DC_INJECT_INJ_CE c true s
  let (d, s) := if ce then s.draw else (0, s)
  if (poisoned s addr && !ue) || (ddr_ s c).wb.contains (addr, true) then
    (.poison, false, if src = 1 then s else s.incSat DC_UE_COUNTS_POISON_READS c)
  else
    let bad := sget 0 s.dramBad (addr / 64) ||| (if ce then 2 ^ (d % 10) else 0)
    if ue || decide (2 ≤ popcount bad) then
      let s := logUe addr src (s.incSat DC_UE_COUNTS_UNCORR c)
      if src = 1 then (.uncorrectable, ue, s)
      else (.uncorrectable, ue, raiseInj E.DDR_UNCORRECTABLE c addr ue (enqueueWb addr true s))
    else if bad ≠ 0 then
      let s := logCe addr (Nat.log2 bad) (s.incWrap DC_CORRECTED_CORRECTED c)
      (.corrected, ce, if src = 1 then s else enqueueWb addr false s)
    else (.clean, false, s)

/-- What a read of a line answers: data, status, and its sequence tag (R228, R248, R275). -/
structure LineRead where
  data : List Byte
  code : Nat
  tag : Nat
  deriving DecidableEq, Repr

/-- Zero data under a status. -/
def noData (code : Nat) : LineRead := ⟨List.replicate 64 0, code, 0⟩

/-- The controller answers a read of a line with its stored data (R248). -/
def controllerRead (addr src : Nat) (s : State) : LineRead × State :=
  match decodeLine addr src s with
  | (.poison, _, s) => (noData Code.POISONED, s)
  | (.uncorrectable, _, s) => (noData Code.POISONED, s)
  | (_, _, s) => (⟨memBytes s.dram (addr / 64 * 64) 64, Code.OK, 0⟩, s)

/-- The controller stores a whole line (R249, R250). -/
def controllerWrite (addr : Nat) (data : List Byte) (tag : Nat) (s : State) : State :=
  storeLine addr data tag (dequeueWb (addr / 64 * 64) (rfmDraw addr s))

/-! The encryption engine. -/

/-- Changes the encryption engine's hidden state. -/
def updEngine (f : EncSt → EncSt) (s : State) : State := s.updEnc f

/-- A refusal is counted and its reason logged (R283, R284). -/
def refuse (operation kid range sid reason : Nat) (s : State) : State :=
  let j := s.enc.detailNext
  let s := s.incSat EN_COUNTS_REFUSALS
  let s := ((s.wr DETAIL_LOG_REASON reason 0 j).wr DETAIL_LOG_OPERATION operation 0 j).wr DETAIL_LOG_KEY_ID kid 0 j
  let s := ((s.wr DETAIL_LOG_RANGE range 0 j).wr DETAIL_LOG_STREAM_ID sid 0 j).wr DETAIL_LOG_VALID 1 0 j
  updEngine (fun e => { e with detailNext := (j + 1) % 64 }) (s.wr DETAIL_LOG_TICK s.now 0 j)

/-- The lowest range in state st that holds a line: 1 bound, 2 SEALED (R267, R285). -/
def rangeIn (s : State) (st addr : Nat) : Option Nat :=
  let sector := addr / 4096
  (List.range 16).find? fun j =>
    s.rd RANGE_STATUS_STATE 0 j == st && decide (s.rd RANGE_BASE_SECTOR 0 j ≤ sector) &&
      decide (sector ≤ s.rd RANGE_LIMIT_SECTOR 0 j)

/-- The range a line lies in (R267): a SEALED one before any other, since it never falls open (R285). -/
def rangeOf (s : State) (addr : Nat) : Option Nat := (rangeIn s 2 addr).orElse fun _ => rangeIn s 1 addr

/-- The DMA class: host DMA, management DMA and the debug master (R270). -/
def dmaClass (sid : Nat) : Bool := sid == 0xF008 || sid == 0xF00C || sid == 0xF020

/-- Does entry e of range j admit the access (R268, R270)? -/
def entryAdmits (s : State) (j e sid : Nat) (write : Bool) : Bool :=
  let w := s.rd RANGE_ENTRY_ENTRY 0 (j * 8 + e)
  decide (sid &&& bits w 31 16 = bits w 15 0 &&& bits w 31 16) && bit w (if write then 33 else 32)

/-- Why an access to range j is refused, if it is (R270, R284, R285). -/
def accessRefusal (s : State) (j sid : Nat) (write : Bool) : Option Nat :=
  if s.rd RANGE_STATUS_STATE 0 j = 2 then some 0x0C
  else if dmaClass sid then some 0x0A
  else if (List.range 8).any fun e => entryAdmits s j e sid write then none
  else some 0x0B

/-- The range that refuses an access, and why (R270): the engine passes no refused access to the controller. -/
def refusedBy (s : State) (sid addr : Nat) (write : Bool) : Option (Nat × Nat) :=
  (rangeOf s addr).bind fun j => (accessRefusal s j sid write).map fun r => (j, r)

/-- A refused access is counted and logged (R270, R283, R284). -/
def refuseAccess (sid j r : Nat) (s : State) : State := refuse 6 (s.rd RANGE_STATUS_KEY_ID 0 j) j sid r s

/-- The key ID that serves a line of range j, by the watermark of a walk (R281): none is plaintext. -/
def servingKey (s : State) (j addr : Nat) : Option Nat :=
  let k := s.rd RANGE_STATUS_KEY_ID 0 j
  match s.enc.walk with
  | some w =>
    let past := !w.ranges.contains j || (w.ranges.headD 16 == j && decide (addr < s.rd RK_POS_ADDR))
    if w.kid = k && past then
      if s.flag KEY_STATE_MODE 0 k then none else some (s.rd KEY_STATE_TARGET 0 k)
    else some k
  | none => some k

/-- The logical sector number of a line of range j (R271). -/
def lsnOf (s : State) (j addr : Nat) : Nat :=
  s.rd RANGE_LSN_LSN_BASE 0 j + addr / 4096 - s.rd RANGE_BASE_SECTOR 0 j

/-- The key of a key ID; one that is erased is zeros (R280). -/
def keyOf (s : State) (k : Nat) : List Nat :=
  match sget [] s.enc.keys k with
  | [] => List.replicate 64 0
  | key => key

/-- The byte values of stored bytes, and back. -/
def byteVals (b : List Byte) : List Nat := b.map (·.toNat)
def valBytes (b : List Nat) : List Byte := b.map (BitVec.ofNat 8 ·)

/-- The tag of a line at an address under key ID k with ciphertext c (R273). -/
def lineTag (key : List Nat) (k addr : Nat) (c : List Nat) : Nat :=
  let key2 := key.drop 32
  let a := leBytes (addr / 64) 5 ++ [k]
  let h := beNat (aesEnc key2 (List.replicate 14 0 ++ [0x01, 0xFF]))
  let m := aesEnc key2 (a ++ List.replicate 8 0 ++ [0x02, 0xFF])
  leNat ((xorBytes (beBytes (ghash h (a ++ List.replicate 10 0) c) 16) m).take 7)

/-- Encrypts a line of range j under key ID k: the ciphertext and its tag (R271, R273). -/
def encryptLine (s : State) (j k addr : Nat) (data : List Byte) : List Byte × Nat :=
  let c := xtsLine aesEnc (keyOf s k) (lsnOf s j addr) (addr / 64 % 64) (byteVals data)
  (valBytes c, lineTag (keyOf s k) k addr c)

/-- Decrypts a line of range j under key ID k (R271). -/
def decryptLine (s : State) (j k addr : Nat) (data : List Byte) : List Byte :=
  valBytes (xtsLine aesDec (keyOf s k) (lsnOf s j addr) (addr / 64 % 64) (byteVals data))

/-- A failed check (R275, R277): counted, logged and raised. -/
def integrityFail (addr k tag sid : Nat) (injected : Bool) (s : State) : State :=
  let c := chanOf addr
  let s := s.incWrap INTEGRITY_FAILS_COUNT
  let s := match (List.range 16).find? fun i => !s.flag FAIL_LOG_VALID 0 i with
    | none => s
    | some i =>
      let s := ((s.wr FAIL_LOG_ADDR addr 0 i).wr FAIL_LOG_KEY_ID k 0 i).wr FAIL_LOG_CHANNEL c 0 i
      let s := ((s.wr FAIL_LOG_VALID 1 0 i).wr FAIL_LOG_SEQ_TAG tag 0 i).wr FAIL_LOG_STREAM_ID sid 0 i
      s.wr FAIL_LOG_TICK s.now 0 i
  raiseInj E.INTEGRITY_FAIL c addr injected s

/-- The check of a protected line just read (R273, R277): does it fail? -/
def checkLine (addr k tag sid : Nat) (c : List Byte) (s : State) : Bool × State :=
  let (inj, s) := takeInj EN_INJECT_INJ_TAG 0 true s
  if inj || decide (lineTag (keyOf s k) k addr (byteVals c) ≠ sget 0 s.dramTags (addr / 64)) then
    (true, integrityFail addr k tag sid inj s)
  else (false, s)

/-- The next line sequence tag of a channel: 0001h to FFFFh, wrapping past 0 (R275). -/
def newTag (c : Nat) (s : State) : Nat × State :=
  let t := sget 0 s.enc.tags c % 65535 + 1
  (t, updEngine (fun e => { e with tags := sput 0 e.tags c t }) s)

/-- Is the line within its channel's capacity, and its rank not parked (R245, R263)? Else the code. -/
def lineReach (s : State) (addr : Nat) : Nat :=
  let c := chanOf addr
  if 8 ≤ c ∨ s.dramCapacity c < addr % 2 ^ 37 / 64 * 64 + 64 then Code.OUT_OF_RANGE
  else if (s.rd DC_STATUS_PARKED c).testBit (placeOf s addr).rank then Code.DOMAIN_CLOSED
  else Code.OK

/-- An admitted read of a line by stream ID sid through the engine (R267, R275): tag is the response's
sequence tag when one of its lines has drawn it already. -/
def engineRead (sid addr tag : Nat) (s : State) : LineRead × State :=
  match rangeOf s addr with
  | none => controllerRead addr 0 s
  | some j =>
    let (r, s) := controllerRead addr 0 s
    if r.code ≠ Code.OK then (r, s)
    else match servingKey s j addr with
      | none => (r, s)
      | some k =>
        let (t, s) := if tag = 0 then newTag (chanOf addr) s else (tag, s)
        let (bad, s) := checkLine addr k t sid r.data s
        let s := if bad then
            updEngine (fun e => { e with alarms := e.alarms ++ [⟨chanOf addr, t, sid, addr⟩] }) s
          else s
        (⟨decryptLine s j k addr r.data, Code.OK, t⟩, s)

/-- A read of one line by stream ID sid (R267, R270, R275): a refused access delivers zeros. -/
def readLine (sid addr : Nat) (s : State) : LineRead × State :=
  match refusedBy s sid addr false with
  | some (j, r) => (noData Code.REFUSED, refuseAccess sid j r s)
  | none =>
    let code := lineReach s addr
    if code ≠ Code.OK then (noData code, s) else engineRead sid addr 0 s

/-- An admitted write of a whole line (R250, R278). -/
def engineWrite (addr : Nat) (data : List Byte) (s : State) : State :=
  match (rangeOf s addr).bind fun j => (servingKey s j addr).map fun k => (j, k) with
  | none => controllerWrite addr data 0 s
  | some (j, k) =>
    let (c, t) := encryptLine s j k addr data
    controllerWrite addr c t s

/-- A write of one whole line by stream ID sid (R270, R278): a refused access stores nothing. -/
def writeLine (sid addr : Nat) (data : List Byte) (s : State) : Nat × State :=
  match refusedBy s sid addr true with
  | some (j, r) => (Code.REFUSED, refuseAccess sid j r s)
  | none =>
    let code := lineReach s addr
    if code ≠ Code.OK then (code, s) else (Code.OK, engineWrite addr data s)

/-- Bytes laid over a line from byte at on. -/
def overlay (line data : List Byte) (at_ : Nat) : List Byte :=
  line.take at_ ++ data ++ line.drop (at_ + data.length)

/-- An admitted write of part of a line: a read-modify-write (R250, R278). -/
def enginePart (sid addr : Nat) (data : List Byte) (s : State) : Nat × State :=
  let base := addr / 64 * 64
  let was := poisoned s base || (ddr_ s (chanOf base)).wb.contains (base, true)
  let (r, s) := controllerRead base 2 s
  if r.code ≠ Code.OK then (r.code, if was then logUe base 2 s else s)
  else match (rangeOf s addr).bind fun j => (servingKey s j base).map fun k => (j, k) with
    | none => (Code.OK, controllerWrite base (overlay r.data data (addr % 64)) 0 s)
    | some (j, k) =>
      let (bad, s) := checkLine base k 0 sid r.data s
      if bad then (Code.TAINTED, s)
      else
        let (c, t) := encryptLine s j k base (overlay (decryptLine s j k base r.data) data (addr % 64))
        (Code.OK, controllerWrite base c t s)

/-- The first code that is not OK. -/
def firstCode (a b : Nat) : Nat := if a = Code.OK then b else a

/-- A write of bytes within one line by stream ID sid, whole or in part (R250, R270, R278). -/
def writeBytes (sid addr : Nat) (data : List Byte) (s : State) : Nat × State :=
  if addr % 64 = 0 ∧ data.length = 64 then writeLine sid addr data s
  else match refusedBy s sid addr true with
    | some (j, r) => (Code.REFUSED, refuseAccess sid j r s)
    | none =>
      let code := lineReach s addr
      if code ≠ Code.OK then (code, s) else enginePart sid addr data s

/-- The pieces of a span of n bytes from an address, cut at line ends: at most k of them. -/
def linePieces : Nat → Nat → Nat → List (Nat × Nat)
  | 0, _, _ => []
  | k + 1, a, n =>
    if n = 0 then []
    else
      let m := min n (64 - a % 64)
      (a, m) :: linePieces k (a + m) (n - m)

/-- A read of a span of bytes within one sector by stream ID sid (R228, R270, R275): one answer, with one
sequence tag. -/
def readSpan (sid addr n : Nat) (s : State) : LineRead × State :=
  match refusedBy s sid addr false with
  | some (j, r) => (⟨List.replicate n 0, Code.REFUSED, 0⟩, refuseAccess sid j r s)
  | none =>
    let ps := linePieces (n / 64 + 2) addr n
    let code := ps.foldl (fun c p => firstCode c (lineReach s p.1)) Code.OK
    if code ≠ Code.OK then (⟨List.replicate n 0, code, 0⟩, s)
    else
      ps.foldl (fun (acc : LineRead × State) p =>
        let (r, s) := engineRead sid (p.1 / 64 * 64) acc.1.tag acc.2
        (⟨acc.1.data ++ ((r.data.drop (p.1 % 64)).take p.2), firstCode acc.1.code r.code,
          if acc.1.tag = 0 then r.tag else acc.1.tag⟩, s)) (⟨[], Code.OK, 0⟩, s)

/-- A write of a span of bytes within one sector by stream ID sid. -/
def writeSpan (sid addr : Nat) (data : List Byte) (s : State) : Nat × State :=
  match refusedBy s sid addr true with
  | some (j, r) => (Code.REFUSED, refuseAccess sid j r s)
  | none =>
    let ps := linePieces (data.length / 64 + 2) addr data.length
    let code := ps.foldl (fun c p => firstCode c (lineReach s p.1)) Code.OK
    if code ≠ Code.OK then (code, s)
    else
      ps.foldl (fun (acc : Nat × State) p =>
        let (c, s) := writeBytes sid p.1 ((data.drop (p.1 - addr)).take p.2) acc.2
        (firstCode acc.1 c, s)) (Code.OK, s)

end Sys2Proof.Machine
end

