-- ==== Sys2Proof/Machine/DdrOps.lean ====
section
/-! DEFINITION. The DDR channels' shared operations (R243 to R264): ranks, refresh ages, patrol-scrub pace,
one line of the patrol scrubber,
when unscheduled commands wait, and what goes before them. -/

namespace Sys2Proof.Machine

open F

/-- The number of ranks of a channel. -/
def rankCount (s : State) (c : Nat) : Nat :=
  match s.rd DC_CONFIG_RANKS c with
  | 0 => 0
  | 1 => 1
  | 2 => 2
  | _ => 4

/-- The keys of a rank and subchannel in the table of refresh times: its four bank addresses. -/
def refreshKeys (rank sub : Nat) : List Nat := (List.range 4).map fun b => 8 * rank + 4 * sub + b

/-- These banks are refreshed now (R252, R253). -/
def refreshNow (c : Nat) (keys : List Nat) (s : State) : State :=
  let t := s.cycle
  updDdr_ c (fun u => { u with refreshed := keys.foldl (fun m k => sput 0 m k t) u.refreshed }) s

/-- The refresh interval of a rank in core cycles (R251): about 1.95 µs, and half of that at a doubled rate
(PRESUMED, log entry 20). -/
def refreshInterval (s : State) (c rank : Nat) : Nat :=
  if (ddr_ s c).halved.testBit rank then 1462 else 2925

/-- Has some bank address of the rank and subchannel reached its refresh interval (R253)? -/
def refreshDue (s : State) (c rank sub : Nat) : Bool :=
  (refreshKeys rank sub).any fun k =>
    decide (refreshInterval s c rank ≤ s.cycle - sget 0 (ddr_ s c).refreshed k)

/-- The channel's entries in the schedule in force that satisfy p. -/
def scheduled (s : State) (p : Slot → Bool) : Bool :=
  (List.range (s.rd SCHED_POS_CYCLE_LEN)).any fun f => (frameSlots s.sched f).any p

/-- Does the schedule in force hold a DDR_REFRESH window of the channel (R253)? -/
def refreshScheduled (s : State) (c : Nat) : Bool := scheduled s fun e => e.type == 0x40 && e.unit == c

/-- The data windows: REEL_FETCH, CATCH_FLUSH and DDR_SCRUB (R36). -/
def isDataWindow (e : Slot) : Bool := e.type == 0x10 || e.type == 0x20 || e.type == 0x42

/-- Does the schedule in force grant the channel a window that names the rank (R263)? -/
def rankScheduled (s : State) (c rank : Nat) : Bool :=
  scheduled s fun e =>
    (isDataWindow e && bits e.param 2 0 == c && (bits e.param 6 3).testBit rank) ||
    (e.type == 0x40 && e.unit == c && bits e.param 5 4 == rank)

/-- The topology of a channel (R244): its ranks, density and modules, as bits 8:4 of DC_CONFIG show them. -/
def topologyOf (s : State) (c : Nat) : Nat :=
  s.rd DC_CONFIG_RANKS c + 4 * s.rd DC_CONFIG_DENSITY c + 16 * s.rd DC_CONFIG_TWO_DIMMS c

/-- Does a training record match a channel of this rate, topology and SPD identity (R262)? -/
def imageMatches (rate topology spd : Nat) (i : TrainImage) : Bool :=
  i.crc && i.rate == rate && i.topology == topology && i.spd == spd

/-- The delays of a record are the channel's (R261, R262). -/
def setDelays (c : Nat) (deskew dqs : List (Nat × Nat)) (s : State) : State :=
  let s := (List.range 80).foldl (fun t b =>
    let d := deskew.getD b (0, 0)
    (t.wr TR_DESKEW_READ d.1 c b).wr TR_DESKEW_WRITE d.2 c b) s
  (List.range 20).foldl (fun t q =>
    let d := dqs.getD q (0, 0)
    (t.wr TR_DQS_READ_DQS d.1 c q).wr TR_DQS_WRITE_DQS d.2 c q) s

/-- Core cycles of READY time in the present scrub pass (R257). -/
def scrubElapsed (s : State) (c : Nat) : Nat :=
  (ddr_ s c).scrubTime + (if chanState s c = 2 then s.cycle - (ddr_ s c).scrubSince else 0)

/-- The core cycles of the patrol period (R257): 1.5 × 10⁹ a second; SCRUB_HOURS 0 acts as 1. -/
def scrubPeriod (s : State) (c : Nat) : Nat := max 1 (s.rd DC_POLICY_SCRUB_HOURS c) * 5400000000000

/-- Is the scrubber ahead of its pace (R257)? -/
def scrubAhead (s : State) (c : Nat) : Bool :=
  let lines := s.dramCapacity c / 64
  decide ((lines * scrubElapsed s c + scrubPeriod s c - 1) / scrubPeriod s c ≤ (ddr_ s c).scrubRead)

/-- The scrubber skips a parked rank (R257, R263): it reads on at the next rank and saves its position, from which it
resumes once the rank is unparked. -/
def scrubSeek (c : Nat) (s : State) : State :=
  let rb := rankBytes s c
  let parked (off : Nat) : Bool := (s.rd DC_STATUS_PARKED c).testBit (off / rb)
  let pos := s.rd DC_SCRUB_POS_OFFSET c
  match (ddr_ s c).scrubSaved with
  | some p =>
    if parked p then s
    else updDdr_ c (fun u => { u with scrubSaved := none, scrubRead := p / 64 }) (s.wr DC_SCRUB_POS_OFFSET p c)
  | none =>
    if parked pos ∧ (pos / rb + 1) * rb < s.dramCapacity c then
      updDdr_ c (fun u => { u with scrubSaved := some pos }) (s.wr DC_SCRUB_POS_OFFSET ((pos / rb + 1) * rb) c)
    else s

/-- The scrubber's position moves past a line; at the end of the channel a pass ends (R257), or the scrubber waits for the
rank that it has skipped. -/
def scrubAdvance (c : Nat) (s : State) : State :=
  let pos := s.rd DC_SCRUB_POS_OFFSET c + 64
  if pos < s.dramCapacity c then
    updDdr_ c (fun u => { u with scrubRead := u.scrubRead + 1 }) (s.wr DC_SCRUB_POS_OFFSET pos c)
  else if let some p := (ddr_ s c).scrubSaved then
    updDdr_ c (fun u => { u with scrubRead := u.scrubRead + 1 }) (s.wr DC_SCRUB_POS_OFFSET p c)
  else
    let late := decide (scrubPeriod s c < s.cycle - (ddr_ s c).scrubPass)
    let s := s.incSat DC_SCRUB_PASSES_PASSES c
    let s := if late then s.incSat DC_SCRUB_PASSES_LATE_PASSES c else s
    let t := s.cycle
    updDdr_ c (fun u => { u with scrubRead := 0, scrubTime := 0, scrubSince := t, scrubPass := t }) (s.wr DC_SCRUB_POS_OFFSET 0 c)

/-- One line of the patrol scrubber (R257, R258), with quota lines left in the window: what it used of the
quota, none where it may not read the line. -/
def scrubLine (c param quota : Nat) (s : State) : Option Nat × State :=
  let addr := c * 2 ^ 37 + s.rd DC_SCRUB_POS_OFFSET c
  let rank := (placeOf s addr).rank
  if !inMasks s addr param || bankBlocked s addr then (none, s)
  else if (s.rd DC_STATUS_PARKED c).testBit rank then (none, s)
  else
    match decodeLine addr 1 s with
    | (.corrected, _, s) =>
      if 2 ≤ quota then
        (some 2, scrubAdvance c (s.updDramBad fun m => sput 0 m (addr / 64) 0))
      else (some 1, scrubAdvance c (enqueueWb addr false s))
    | (.uncorrectable, inj, s) =>
      let s := if 2 ≤ quota then poisonLine addr s else enqueueWb addr true s
      let s := raiseInj E.DDR_SCRUB_POISON c addr inj s
      (some (if 2 ≤ quota then 2 else 1), scrubAdvance c s)
    | (_, _, s) => (some 1, scrubAdvance c s)

/-- Does the scrubber stand in a parked rank, with no other rank left to read in this pass (R257, R263)? -/
def scrubWaits (s : State) (c : Nat) : Bool :=
  (s.rd DC_STATUS_PARKED c).testBit (s.rd DC_SCRUB_POS_OFFSET c / rankBytes s c)

/-- Up to k lines of a scrub window with quota left: whether the action is complete (R41). One that waits at a parked rank
has nothing to read. -/
def scrubLines (c param : Nat) : Nat → Nat → State → Bool × State
  | 0, quota, s => (decide (quota = 0) || scrubAhead s c, s)
  | k + 1, quota, s =>
    if quota = 0 ∨ scrubAhead s c then (true, s)
    else
      let s := scrubSeek c s
      if scrubWaits s c then (true, s)
      else match scrubLine c param quota s with
        | (none, s) => (false, s)
        | (some used, s) => scrubLines c param k (quota - used) s

/-! When unscheduled commands wait (R39, R40, R253 to R255), and what goes before them (R249, R253, R256). -/

/-- The channel on which a window works (R35, R36). -/
def windowChan (type unit param : Nat) : Option Nat :=
  if type = 0x10 ∨ type = 0x20 then some (bits param 2 0)
  else if type = 0x40 ∨ type = 0x42 then some unit
  else none

/-- The ranks that a window may touch (R36). -/
def windowRanks (type param : Nat) : Nat := if type = 0x40 then 2 ^ bits param 5 4 else bits param 6 3

/-- The guard interval before a window, in core cycles (R255). -/
def guardCycles (type : Nat) : Nat := if type = 0x40 then 96 else 72

/-- The entries whose windows are still to open: those of the current frame, by the core cycles until they do, and those
of the next (R34, R51). -/
def comingWindows (s : State) : List (Nat × Slot) :=
  let here := if windowsOpen s then
      ((frameSlots s.sched (frameIndex s s.now)).zipIdx.filter fun e =>
        !s.tick.opened.contains e.2 && decide (s.offset ≤ e.1.start)).map fun e => (e.1.start - s.offset, e.1)
    else []
  let next := if credited s && !frozen s then
      (frameSlots s.sched (frameIndex s (s.now + 1))).map fun e => (s.period - s.offset + e.start, e)
    else []
  here ++ next

/-- Is a data window of the channel open with its action incomplete (R253)? The channel's bandwidth is its action's alone
(R35, R39). -/
def inDataWindow (s : State) (c : Nat) : Bool :=
  s.tick.wins.any fun w =>
    (w.type == 0x10 || w.type == 0x20 || w.type == 0x42) && windowChan w.type w.unit w.param == some c && !w.complete

/-- Does a window or its guard interval keep unscheduled commands from a rank of a channel (R39, R40, R255)? A data window
keeps them from the whole channel, a DDR_REFRESH window and a guard interval from the ranks that the window may touch. A
window whose action has completed has released it. -/
def rankHeld (s : State) (c rank : Nat) : Bool :=
  inDataWindow s c ||
    (s.tick.wins.any fun w =>
      w.type == 0x40 && w.unit == c && !w.complete && (windowRanks w.type w.param).testBit rank) ||
    ((comingWindows s).any fun e =>
      windowChan e.2.type e.2.unit e.2.param == some c && decide (e.1 ≤ guardCycles e.2.type) &&
        (windowRanks e.2.type e.2.param).testBit rank)

/-- Does an unscheduled command for a line wait (R39, R254, R255)? One to a channel in self-refresh does (R408). -/
def lineHeld (s : State) (addr : Nat) : Bool :=
  chanState s (chanOf addr) == 3 || rankHeld s (chanOf addr) (placeOf s addr).rank || bankBlocked s addr

/-- Would a request for these lines take a bank past the maximum of its accumulated activates (R254)? Its first line opens
an idle bank whatever follows. -/
def banksFull (s : State) (lines : List Nat) : Bool :=
  lines.any fun a =>
    let k := (placeOf s a).bankKey
    let c := chanOf a
    let raa := sget 0 (ddr_ s c).raa k
    s.flag DC_CONFIG_RFM_REQUIRED c && raa != 0 &&
      decide (Config.raaMax c < raa + lines.countP fun b => (placeOf s b).bankKey == k)

/-- Does an access of n bytes wait, in a request of its own or at the last line of a longer transfer (R39, R254, R255,
R408)? -/
def accessHeld (s : State) (addr n : Nat) : Bool :=
  let ps := if n ≤ 1024 then (linePieces (n / 64 + 2) addr n).map (·.1) else [addr + n - 1]
  dramRests s addr n || ps.any (lineHeld s) || banksFull s ps

/-- A fallback refresh of a rank and subchannel, where one was missed or is due (R253, R263). -/
def fallbackRefresh (c rank sub : Nat) (s : State) : State :=
  if chanState s c ≠ 2 ∨ rankCount s c ≤ rank ∨ inDataWindow s c then s
  else
    let missed := (ddr_ s c).missed.find? fun m => m.1 == rank && m.2.1 == sub
    let t := s.cycle
    let done (s : State) : State :=
      refreshNow c (refreshKeys rank sub)
        (updDdr_ c (fun u =>
          { u with
            missed := u.missed.filter fun m => !(m.1 == rank && m.2.1 == sub)
            fellBack := sput 0 u.fellBack rank (t + 1) }) s)
    if (s.rd DC_STATUS_PARKED c).testBit rank then
      if refreshDue s c rank sub then done (s.incSat DC_REFRESH_MORE_PARKED_REFRESH c) else s
    else match missed with
      | some m => done (raiseOnce E.DDR_FALLBACK_REFRESH c 1 m.2.2 (s.incSat DC_REFRESH_COUNTS_FALLBACK_MISSED c))
      | none =>
        if !refreshDue s c rank sub then s
        else if refreshScheduled s c then
          done (raiseOnce E.DDR_FALLBACK_REFRESH c 2 false (s.incSat DC_REFRESH_COUNTS_FALLBACK_AGE c))
        else done (s.incSat DC_REFRESH_MORE_UNSCHEDULED_REFRESH c)

/-- The fallback refreshes that a rank of a channel is due (R253). -/
def rankFallback (c rank : Nat) (s : State) : State := fallbackRefresh c rank 1 (fallbackRefresh c rank 0 s)

/-- The fallback refreshes that a channel is due: until they are issued no unscheduled command goes to their ranks
(R253, R256). -/
def chanFallback (c : Nat) (s : State) : State := (List.range (rankCount s c)).foldl (fun t r => rankFallback c r t) s

/-- The oldest line of the write-back queue is written back, corrected or poisoned (R249). -/
def writeBackOne (c : Nat) (s : State) : State :=
  match (ddr_ s c).wb with
  | [] => s
  | (addr, poison) :: t =>
    if chanState s c ≠ 2 ∨ lineHeld s addr then s
    else
      let s := noteWb c (updDdr_ c (fun u => { u with wb := t }) s)
      if poison then poisonLine addr s else s.updDramBad fun m => sput 0 m (addr / 64) 0

/-- What goes before an unscheduled request to a channel (R253, R256): its due fallback refreshes, and the write-back
queue. -/
def precedence (c : Nat) (s : State) : State :=
  let s := chanFallback c s
  (List.range (ddr_ s c).wb.length).foldl (fun t _ => writeBackOne c t) s

end Sys2Proof.Machine
end

