-- ==== Sys2Proof/Machine/NocOps.lean ====
section
/-! DEFINITION. The network's shared operations (R223 to R241): routes and parity, landing and response
space, reservations, injection, completion to the source, and the states of ports. -/

namespace Sys2Proof.Machine

open F

/-- The bytes of a list of 64-bit words (R8). -/
def wordBytes (w : List Nat) : List Byte := (w.map fun v => valBytes (leBytes v 8)).flatten

/-- Changes the network. -/
def updNet (f : NocSt → NocSt) (s : State) : State := s.updNoc f

/-- The hops of the dimension-ordered route from (x, y) to (tx, ty): router and mesh port (R223): first
along x, then along y. Mesh ports: 0 north, 1 east, 2 south, 3 west (R220). -/
def route : Nat → Nat → Nat → Nat → Nat → List (Nat × Nat)
  | 0, _, _, _, _ => []
  | k + 1, x, y, tx, ty =>
    let r := y * 12 + x
    if x < tx then (r, 1) :: route k (x + 1) y tx ty
    else if tx < x then (r, 3) :: route k (x - 1) y tx ty
    else if y < ty then (r, 0) :: route k x (y + 1) tx ty
    else if ty < y then (r, 2) :: route k x (y - 1) tx ty
    else []

/-- The route between the routers of two ports. -/
def routeOf (a b : Nat) : List (Nat × Nat) :=
  route 20 (a / 4 % 12) (a / 48) (b / 4 % 12) (b / 48)

/-- The neighbour of a router on a mesh port, and the port on which it receives. -/
def neighbour (r d : Nat) : Nat × Nat :=
  match d with
  | 0 => (r + 12, 2)
  | 1 => (r + 1, 3)
  | 2 => (r - 12, 0)
  | _ => (r - 1, 1)

/-- A router finds a parity error on flits received at mesh port d (R239). -/
def parityError (r d : Nat) (injected : Bool) (s : State) : State :=
  raiseInj E.NOC_PARITY r d injected (s.incSat LINK_PARITY_PARITY r d)

/-- The requests in which n lines travel, 16 to a request at most (R226, R232), and the flits of their data (R226; log
entry 73). -/
def lineRequests (n : Nat) : Nat := (n + 15) / 16
def lineDataFlits (n : Nat) : Nat := if n % 16 = 1 then n + 1 else n

/-- The NoC comparators that match a request of a kind from stream ID sid as its head lands at port d (R449): comparators 0
to 15. -/
def nocHits (s : State) (d kind addr sid : Nat) : List Nat :=
  (List.range 16).filter fun i =>
    s.rd NC_CFG_ROUTER 0 i == d / 4 && s.rd NC_CFG_PORT 0 i == d % 4 &&
      (s.rd NC_CFG_KIND 0 i).testBit (kind - 2) && decide (s.rd NC_LOW_ADDR 0 i ≤ addr) &&
      decide (addr ≤ s.rd NC_HIGH_ADDR 0 i) &&
      (!s.flag NC_CFG_CTX_EN 0 i ||
        (sid &&& s.rd NC_CTX_MASK 0 i) == (s.rd NC_CTX_STREAM_ID 0 i &&& s.rd NC_CTX_MASK 0 i))

/-- The head of a request lands at port d (R449): kind 2 a read, 3 a write; addr relative to the port (R228). -/
def headLands (d kind addr sid : Nat) (s : State) : State := comparatorHits (nocHits s d kind addr sid) s

/-- The heads of the requests of n lines land, 16 lines to a request; addrs gives the address of each line. -/
def headsLand (d kind sid n : Nat) (addrs : Nat → Nat) (s : State) : State :=
  (List.range (lineRequests n)).foldl (fun t i => headLands d kind (addrs (16 * i) % 2 ^ 37) sid t) s

/-- A packet of n flits travels from port a to port b: whether it lands with PAR_ERR. perr is the hop, if
any, on which a parity error is found (R239). -/
def travel (a b n : Nat) (perr : Option Nat) (s : State) : Bool × State :=
  (routeOf a b).zipIdx.foldl (fun (acc : Bool × State) (h, i) =>
    let s := acc.2.incWrap LINK_FLITS_FLITS h.1 h.2 n
    let (inj, s) := takeInj NR_INJECT_INJ_PARITY h.1 (decide (s.rd NR_INJECT_DIR h.1 = h.2)) s
    let t := neighbour h.1 h.2
    if inj || perr == some i then (true, parityError t.1 t.2 inj s) else (acc.1, s)) (false, s)

/-- The cycles for which SCH flits suspended an unscheduled packet on the hops of its route (R40, R234): hop and
cycles. -/
def suspend (a b : Nat) (susp : List (Nat × Nat)) (s : State) : State :=
  susp.foldl (fun t e => match (routeOf a b)[e.1]? with
    | none => t
    | some h => t.incWrap LINK_SUSPEND_CYCLES h.1 h.2 e.2) s

/-- Two SCH flits meet at an output of router r (R234). -/
def slotConflict (injected : Bool) (r : Nat) (s : State) : State :=
  raiseOnce E.NOC_SCHED_CONFLICT r 0 injected (s.incSat NR_COUNTS_A_SCH_CONFLICTS r)

/-- SCH flits have met at outputs of these routers (R234). -/
def meetsAt (meets : List (Fin 120)) (s : State) : State := meets.foldl (fun t (r : Fin 120) => slotConflict false r t) s

/-- The flits of a packet with n bytes of data, and of one without (R226). -/
def dataFlits (n : Nat) : Nat := max 2 ((n + 63) / 64)

/-- The flits of a request, and of its answer (R226, R228). -/
def Xact.flits (x : Xact) : Nat := if x.kind = 3 then dataFlits x.bytes else 1
def Xact.answerFlits (x : Xact) : Nat :=
  if x.returned then x.flits else if x.kind = 3 then 1 else dataFlits x.bytes

/-- The response space a request sets aside (R230). -/
def Xact.respSpace (x : Xact) : Nat := max x.flits (if x.kind = 3 then 1 else dataFlits x.bytes)

/-- The landing buffer of a port (R230). -/
def landingBuffer (q : Nat) : Nat :=
  if (List.range 8).any fun c => portDdr c == q then 2048
  else if q = portAt 4 0 0 then 512
  else 256

/-- Landing that the built-in reservations hold at a port, and response space that they hold at a holder (R232). -/
def builtinLanding (q : Nat) : Nat := if (List.range 8).any fun c => portDdr c == q then 16 * 8 + 16 * 64 else 0
def builtinResponse (q : Nat) : Nat :=
  if (List.range 16).any fun n => portReel n == q then 128
  else if (List.range 16).any fun n => portCatch n == q then 64 else 0

/-- Landing held permanently at a port, and response space at a holder, by the built-in reservations and the tables
(R232). -/
def standingLanding (s : State) (q : Nat) : Nat :=
  builtinLanding q + (s.noc.standing.filter (·.target == q)).foldl (fun a e => a + e.landing) 0
def standingResponse (s : State) (q : Nat) : Nat :=
  builtinResponse q + (s.noc.standing.filter (·.holder == q)).foldl (fun a e => a + e.response) 0

/-- The sum of a measure over a list. -/
def sumOf {α : Type} (f : α → Nat) (l : List α) : Nat := (l.map f).sum

/-- Does the request hold landing space at its target? -/
def Xact.landingSpace (x : Xact) : Bool :=
  match x.phase with
    | .slot => x.standing
    | .grant st => st == Code.OK
    | .ready => true
    | .sent => true
    | .landed => true
    | _ => false

/-- Does the request hold dynamic landing space at its target? -/
def Xact.holdsLanding (x : Xact) : Bool := !x.standing && x.landingSpace

/-- Has the request been injected and not been answered? -/
def Xact.inFlight (x : Xact) : Bool :=
  match x.phase with
  | .sent => true
  | .landed => true
  | .atTarget => true
  | .refused => true
  | .answer => true
  | _ => false

/-- Has the request space for its answer set aside (R230)? -/
def Xact.holdsResponse (x : Xact) : Bool := x.inFlight || (x.phase == .slot && x.standing)

/-- Whom a standing reservation joins: target, holder, and whether it serves scheduled windows (R232). -/
def Standing.key (e : Standing) : Nat × Nat × Bool := (e.target, e.holder, e.sched)
def Xact.key (x : Xact) : Nat × Nat × Bool := (x.dst, x.src, x.sched)

/-- What the tables hold for a pair of ports, and what its packets use of it. -/
def tableLanding (s : State) (k : Nat × Nat × Bool) : Nat := sumOf (·.landing) (s.noc.standing.filter (·.key == k))
def tableResponse (s : State) (k : Nat × Nat × Bool) : Nat := sumOf (·.response) (s.noc.standing.filter (·.key == k))
def usedLanding (s : State) (k : Nat × Nat × Bool) : Nat :=
  sumOf (·.flits) (s.noc.xacts.filter fun x => x.key == k && x.standing && x.landingSpace)
def usedResponse (s : State) (k : Nat × Nat × Bool) : Nat :=
  sumOf (·.respSpace) (s.noc.xacts.filter fun x => x.key == k && x.respHeld && x.holdsResponse)

/-- The pairs of ports that the tables name, and those of packets that travel under a standing reservation, one that has
been removed included (R233). -/
def standingPairs (s : State) : List (Nat × Nat × Bool) :=
  (s.noc.standing.map (·.key) ++ (s.noc.xacts.filter (·.standing)).map (·.key)).eraseDups

/-- Landing space free outside standing reservations, and response space free (R230, R242). A removed reservation keeps
the space of the packets sent under it (R233). -/
def landingFree (s : State) (q : Nat) : Nat :=
  landingBuffer q - builtinLanding q -
    sumOf (fun k => max (tableLanding s k) (usedLanding s k)) ((standingPairs s).filter (·.1 == q)) -
    sumOf (·.flits) (s.noc.xacts.filter fun x => x.dst == q && x.holdsLanding)
def responseFree (s : State) (q : Nat) : Nat :=
  256 - builtinResponse q -
    sumOf (fun k => max (tableResponse s k) (usedResponse s k)) ((standingPairs s).filter (·.2.1 == q)) -
    sumOf (·.respSpace) (s.noc.xacts.filter fun x => x.src == q && x.holdsResponse && !x.respHeld)

/-- PORT_FREE follows the space at a port. -/
def notePort (q : Nat) (s : State) : State :=
  (s.wr PORT_FREE_LANDING_FREE (landingFree s q) (q / 4) (q % 4)).wr PORT_FREE_RESP_FREE (responseFree s q)
    (q / 4) (q % 4)

/-- The request of a port with a tag. -/
def xactAt (s : State) (q tag : Nat) : Option Xact := s.noc.xacts.find? fun x => x.src == q && x.tag == tag

/-- Is this the same request? -/
def Xact.same (x y : Xact) : Bool := x.src == y.src && x.tag == y.tag

/-- Changes a request in its place. -/
def updXact (x : Xact) (f : Xact → Xact) (s : State) : State :=
  updNet (fun n => { n with xacts := n.xacts.map fun y => if y.same x then f y else y }) s

/-- Changes a request and lets it count as the youngest; of packets, the one injected last (R225). -/
def moveXact (x : Xact) (f : Xact → Xact) (s : State) : State :=
  updNet (fun n => { n with xacts := (n.xacts.filter fun y => !y.same x) ++ (n.xacts.filter fun y => y.same x).map f }) s

/-- A packet of a request is injected in core cycle cyc: the request's youngest packet (R225, R234). -/
def sendPacket (x : Xact) (cyc : Nat) (f : Xact → Xact) (s : State) : State :=
  moveXact x (fun y => { f y with since := cyc, aged := 0, agedAt := cyc, agedHop := 0 }) s

/-- A request ends. -/
def dropXact (x : Xact) (s : State) : State :=
  updNet (fun n => { n with xacts := n.xacts.filter fun y => !y.same x }) s

/-- The live statistics of a port. -/
def updStat (q : Nat) (f : PortStat → PortStat) (s : State) : State :=
  updNet (fun n => { n with stats := sput {} n.stats q (f (sget {} n.stats q)) }) s

/-- The attachment delivers a code to its source (R229, R236, R238). -/
def deliver (q : Nat) (d : XDone) (s : State) : State :=
  updNet (fun n => { n with dones := (q, d) :: n.dones.filter (·.1 != q) }) s

/-- A queued RESERVE with the highest priority, the oldest among equals (R231). -/
def queueHead (s : State) (q : Nat) : Option Xact :=
  (s.noc.xacts.filter fun x => x.dst == q && x.phase == .queued).foldl (fun a x =>
    match a with
    | none => some x
    | some y => if y.prio < x.prio then some x else a) none

/-- Is the request an enqueue at the dispatcher (R362)? Its reservation waits for entries as well (R363). -/
def Xact.enqueues (x : Xact) : Bool := x.kind == 3 && x.dst == portAt 6 0 0 && decide (x.addr < 0x400)

/-- May the mesh engine take one request more (R324)? It holds at most 256, counting those on their way to it. -/
def engineRoom (s : State) (q : Nat) : Bool :=
  q != portAt 9 0 0 ||
    decide ((s.noc.xacts.countP fun x => x.dst == q && (x.holdsLanding || x.phase == .atTarget)) < 256)

/-- Queued RESERVEs are granted while the landing space suffices; at most k. Those of the dispatcher's enqueue window
are left to the dispatcher. -/
def serveQueue (q : Nat) : Nat → State → State
  | 0, s => s
  | k + 1, s =>
    match queueHead s q with
    | none => s
    | some x =>
      if x.flits ≤ landingFree s q ∧ !x.enqueues ∧ engineRoom s q then 
        serveQueue q k (sendPacket x s.cycle (fun y => { y with phase := .grant Code.OK }) s)
      else s

/-- Landing space at a port has been freed. -/
def landingFreed (q : Nat) (s : State) : State := notePort q (serveQueue q 64 s)

/-- The RESERVEs a port has outstanding (R231). -/
def reservesOut (s : State) (q : Nat) : Nat :=
  s.noc.xacts.countP fun x => x.src == q && match x.phase with
    | .reserve => true
    | .queued => true
    | .grant _ => true
    | _ => false

/-- Requests of a port that wait for one of its 8 RESERVEs send theirs while they can; at most k. -/
def sendReserves (q : Nat) : Nat → State → State
  | 0, s => s
  | k + 1, s =>
    match s.noc.xacts.find? (fun x => x.src == q && x.phase == .waiting) with
    | none => s
    | some x =>
      if reservesOut s q < 8 then sendReserves q k (sendPacket x s.cycle (fun y => { y with phase := .reserve }) s) else s

/-- A request completes to its source: the statistics of R241 take an answer that arrived in time. -/
def completeXact (x : Xact) (code : Nat) (s : State) : State :=
  let d : XDone :=
    { tag := x.tag, code := code,
      data := if x.kind = 2 && !x.returned then x.answer else [],
      seqTag := x.seqTag, epoch := x.epochNow }
  deliver x.src d s

/-- The registers show these statistics of port q (R241). -/
def showStats (q : Nat) (v : PortStat) (s : State) : State :=
  let r := q / 4
  let p := q % 4
  let s := (((s.wr STAT_BYTES_BYTES v.bytes r p).wr STAT_PACKETS_PACKETS v.packets r p).wr
    STAT_LAT_SUM_CYCLES v.sum r p).wr STAT_CREDIT_WAIT_CYCLES v.wait r p
  let s := ((s.wr STAT_LAT_MIN_CYCLES v.min r p).wr STAT_LAT_MAX_CYCLES v.max r p).wr STAT_MEAN_CYCLES
    (v.sum / v.packets) r p
  let s := s.wr STAT_SNAP_TICK_TICK s.now r p
  (List.range 16).foldl (fun t b => t.wr STAT_HIST_COUNT (min 0xFFFFFFFF (sget 0 v.hist b)) r (p * 16 + b)) s

/-- The statistics of port q take a completed request of so many bytes and so many core cycles (R241). One in the core
cycle of the latch is in the snapshot, and not in the live values that CLEAR has reset (R240). -/
def countRequest (q bytes l : Nat) (s : State) : State :=
  let b := min 15 (l / 2 ^ min 20 (s.rd PORT_CFG_HIST_SHIFT (q / 4) (q % 4)))
  let f (p : PortStat) : PortStat :=
    { p with
      bytes := p.bytes + bytes, packets := p.packets + 1, sum := p.sum + l, min := min p.min l,
      max := max p.max l, hist := sput 0 p.hist b (sget 0 p.hist b + 1) }
  match s.noc.snapped.find? (·.1 == q) with
  | some (_, v, clear) =>
    if s.offset ≠ 0 then updStat q f s
    else
      let s := showStats q (f v) (updNet (fun n => { n with snapped := (q, f v, clear) :: n.snapped.filter (·.1 != q) }) s)
      if clear then s else updStat q f s
  | none => updStat q f s

/-- The statistics of a request whose answer has arrived (R241). -/
def countAnswer (x : Xact) (s : State) : State :=
  let bytes := if x.returned then 2 * (if x.kind = 3 then x.bytes else 0) else x.bytes
  countRequest x.src bytes (s.cycle - x.sentAt) s

/-- A request that has not been injected completes with a code and ends. -/
def failXact (x : Xact) (code : Nat) (s : State) : State :=
  sendReserves x.src 8 (dropXact x (completeXact x code s))

/-- A request times out (R238). -/
def timeOut (x : Xact) (injected : Bool) (s : State) : State :=
  let s := raiseInj E.NOC_TIMEOUT x.src x.tag injected (s.incSat NR_COUNTS_C_TIMEOUTS (x.src / 4))
  updXact x (fun y => { y with late := true }) (completeXact { x with answer := [] } Code.ABORTED s)

/-- Is response space free for a request (R230, R232): of its standing reservation, some true, or of the rest of the
buffer, some false? -/
def responseRoom (s : State) (x : Xact) : Option Bool :=
  if x.standing && decide (usedResponse s x.key + x.respSpace ≤ tableResponse s x.key) then some true
  else if x.respSpace ≤ responseFree s x.src then some false
  else none

/-- A request times out at its injection where INJ_TIMEOUT of its port says so (R238, R242). -/
def takeTimeout (q : Nat) (s : State) : Bool × State :=
  takeInj NR_INJECT_INJ_TIMEOUT (q / 4) (decide (s.rd NR_INJECT_PORT (q / 4) = q % 4)) s

/-- A request whose response space is set aside is injected; cyc is the core cycle of its last packet's start (R230,
R231). -/
def injectWith (x : Xact) (cyc : Nat) (held : Bool) (s : State) : State :=
  let s := sendPacket x cyc (fun y =>
    { y with phase := .sent, respHeld := held, pressed := false, sentAt := if x.sentPart = 0 then cyc else y.sentAt }) s
  let s := notePort x.src s
  let (inj, s) := takeTimeout x.src s
  if inj then timeOut x true s else s

/-- A request with its reservation is injected when its response space is free (R230, R231). -/
def inject (x : Xact) (cyc : Nat) (s : State) : State :=
  match responseRoom s x with
  | some held => injectWith x cyc held s
  | none => updXact x (fun y => { y with phase := .ready }) s

/-- Requests of a port that wait for response space are injected while it suffices; at most k. -/
def injectReady (q : Nat) : Nat → State → State
  | 0, s => s
  | k + 1, s =>
    match s.noc.xacts.find? (fun x => x.src == q && x.phase == .ready && (responseRoom s x).isSome) with
    | none => s
    | some x => injectReady q k (inject x s.cycle s)

/-- A request ends after its answer: its response space is free (R230). -/
def endXact (x : Xact) (s : State) : State := notePort x.src (injectReady x.src 256 (dropXact x s))

/-- A target answers a request: a code, the data of a read and the sequence tag; its landing space is free. -/
def answerXact (x : Xact) (code : Nat) (data : List Byte) (tag : Nat) (s : State) : State :=
  landingFreed x.dst (sendPacket x s.cycle (fun y =>
    { y with phase := .answer, status := code, answer := data, seqTag := tag }) s)

/-- The class of the packet of a request that is on its way (R223): 1 RSV, 2 GNT, 3 REQ, 4 SCH, 5 RSP; 0 none. -/
def Xact.pktClass (x : Xact) : Nat :=
  match x.phase with
  | .reserve => 1
  | .grant _ => 2
  | .sent => if x.sched then 4 else 3
  | .answer => 5
  | _ => 0

/-- The packets of a class on their way between the two ports of a request, at its priority, the oldest first. -/
def packetsOf (s : State) (x : Xact) (c : Nat) : List Xact :=
  s.noc.xacts.filter fun y => y.src == x.src && y.dst == x.dst && y.prio == x.prio && y.pktClass == c

/-- Is the packet on its way the oldest in the network of its initiator, target, class and priority (R225)? -/
def inOrder (s : State) (x : Xact) : Bool := ((packetsOf s x x.pktClass).head?.map (·.same x)).getD false

/-- A free standing reservation that covers the request (R232, R233, R237). -/
def coveredBy (s : State) (x : Xact) : Bool :=
  s.noc.standing.any (·.key == x.key) && portState s x.dst == 0 && portState s x.src == 0 &&
    decide (usedLanding s x.key + x.flits ≤ tableLanding s x.key)

/-- The requests of a port that wait for their slot travel, in order, while flits of the window's quota are left and their
standing reservation covers them; at most k of them. One that the quota cuts waits for the next window with the rest of
its flits (R43, R235). Answer: the flits left. -/
def sendSlots (q dst : Nat) : Nat → Nat → State → Nat × State
  | 0, quota, s => (quota, s)
  | k + 1, quota, s =>
    match s.noc.xacts.find? fun x => x.src == q && x.phase == .slot && x.dst / 4 == dst with
    | none => (quota, s)
    | some x =>
      if quota = 0 || !(x.standing || coveredBy s x) then (quota, s)
      else match if x.sentPart = 0 then responseRoom s { x with standing := true } else some x.respHeld with
        | none => (quota, s)
        | some held =>
          let left := x.flits - x.sentPart
          let s := updXact x (fun z => { z with standing := true }) s
          if left ≤ quota then sendSlots q dst k (quota - left) (injectWith { x with standing := true } s.cycle held s)
          else
            (0, notePort q (updXact x (fun z =>
              { z with
                respHeld := held, sentPart := x.sentPart + quota,
                sentAt := if x.sentPart = 0 then s.cycle else z.sentAt }) s))

/-- The flits that wait at a port for a NOC_SLOT window to a router. -/
def slotFlits (s : State) (q dst : Nat) : Nat :=
  sumOf (fun x => x.flits - x.sentPart) (s.noc.xacts.filter fun x => x.src == q && x.phase == .slot && x.dst / 4 == dst)

/-- An open NOC_SLOT window sends what waits for it (R41, R235). Its action is complete when its quota is used or nothing
is left. -/
def serveSlot (k : Nat) (s : State) : State :=
  match s.noc.slotWins.find? (·.1 == k) with
  | none => s
  | some (_, q, dst, quota) =>
    let (left, s) := sendSlots q dst 256 quota s
    let s := updNet (fun n => { n with slotWins := n.slotWins.map fun w => if w.1 == k then (k, q, dst, left) else w }) s
    s.updTick fun t =>
      { t with wins := t.wins.map fun w =>
          if w.idx == k then { w with complete := left == 0 || slotFlits s q dst == 0 } else w }

/-- The NOC_SLOT window of the frame's entry k closes with work undone: the flits left over are held for the next window
(R43). -/
def holdSlots (k : Nat) (s : State) : State :=
  match s.noc.slotWins.find? (·.1 == k) with
  | none => s
  | some (_, q, dst, _) => updNet (fun n =>
      { n with xacts := n.xacts.map fun x =>
          if x.src == q && x.phase == .slot && x.dst / 4 == dst then { x with pressed := true } else x }) s

/-- Is a port back-pressured by flits that a NOC_SLOT window left over (R43)? It takes no request meanwhile. -/
def portPressed (s : State) (q : Nat) : Bool := s.noc.xacts.any fun x => x.src == q && x.phase == .slot && x.pressed

/-- Space that has become free serves the NOC_SLOT windows that are open (R235). -/
def serveSlots (s : State) : State :=
  (s.noc.slotWins.filter fun w => s.tick.wins.any fun o => o.idx == w.1 && decide (s.offset ≤ o.last)).foldl
    (fun t w => serveSlot w.1 t) s

/-- The NOC_SLOT windows open now for a request that waits at its attachment. -/
def slotsFor (s : State) (x : Xact) : List Nat :=
  (s.noc.slotWins.filter fun w => w.2.1 == x.src && w.2.2.1 == x.dst / 4 &&
    s.tick.wins.any fun o => o.idx == w.1 && decide (s.offset ≤ o.last)).map (·.1)

/-- A request enters the network's care (R229, R231, R232, R235). -/
def submit (x : Xact) (s : State) : State :=
  let x := { x with t0 := s.cycle }
  let add (y : Xact) (s : State) : State := updNet (fun n => { n with xacts := n.xacts ++ [y] }) s
  if x.sched then (slotsFor s x).foldl (fun t k => serveSlot k t) (add { x with phase := .slot } s)
  else if coveredBy s x then
    let y := { x with standing := true, phase := .ready }
    inject y s.cycle (add y s)
  else sendReserves x.src 8 (add { x with phase := .waiting } s)

/-- The holders of standing reservations at a port (R232). -/
def holdersOf (s : State) (q : Nat) : List Nat :=
  (if (List.range 8).any fun c => portDdr c == q then
    (List.range 16).map portReel ++ (List.range 16).map portCatch else []) ++
    ((s.noc.standing.filter (·.target == q)).map (·.holder)).eraseDups

/-- A target answers a RESERVE with a status. -/
def answerReserve (x : Xact) (status : Nat) (s : State) : State :=
  let s := if status = Code.BUSY then s.incSat NR_COUNTS_C_RETRIES (x.dst / 4)
    else if status = Code.DOMAIN_CLOSED then s.incSat NR_COUNTS_B_CLOSED_REFUSALS (x.dst / 4)
    else s
  notePort x.dst (sendPacket x s.cycle (fun y => { y with phase := .grant status }) s)

/-- A port goes CLOSING (R205, R237): waiting RESERVEs to and from it are refused, its own requests that wait for a
NOC_SLOT window complete DOMAIN_CLOSED (log entry 80), and every holder is sent a REVOKE. -/
def closePort (q : Nat) (s : State) : State :=
  if portState s q ≠ 0 then s
  else
    let queued := s.noc.xacts.filter fun x => (x.dst == q || x.src == q) && x.phase == .queued
    let slots := s.noc.xacts.filter fun x => x.src == q && x.phase == .slot && x.sentPart == 0
    let hs := holdersOf s q
    let s := queued.foldl (fun t x => answerReserve x Code.DOMAIN_CLOSED t) s
    let s := slots.foldl (fun t x => failXact x Code.DOMAIN_CLOSED t) s
    setPort q 1 (updNet (fun m => { m with revokes := m.revokes ++ hs.map fun h => (q, h, false) }) s)

/-- A port opens (R237). -/
def openPort (q : Nat) (s : State) : State := notePort q (setPort q 0 s)

/-- Does a request hold up the drain of port q: a covered one to it that is not consumed and answered, or one of its own
that has no answer, one that has timed out included (R205, R237, R238)? -/
def holdsDrain (q : Nat) (x : Xact) : Bool :=
  (x.dst == q && (x.landingSpace || x.phase == .atTarget)) || x.src == q

/-- Is a CLOSING port drained (R237)? -/
def portDrained (s : State) (q : Nat) : Bool :=
  !s.noc.xacts.any (holdsDrain q) && !(s.noc.revokes.any fun r => r.1 == q)

/-- A request at a region port that is not consumed comes back as a RETURN (R236). -/
def sendBack (x : Xact) (epoch : Nat) (s : State) : State :=
  sendPacket x s.cycle (fun y => { y with phase := .answer, returned := true, status := Code.ROLE_MOVED, epochNow := epoch })
    (s.incSat NR_COUNTS_B_RETURNS (x.dst / 4))

/-- What a forced drain makes of a request to port q or of it (R205): one that the region has consumed is answered by the
port with ROLE_MOVED, a reservation that no packet has used ends refused, the answer to one of its own is discarded on
arrival, and what has not been sent of its own ends. -/
def drainXact (q : Nat) (x : Xact) (s : State) : State :=
  if x.src = q then
    if x.inFlight then updXact x (fun y => { y with discard := true }) s
    else landingFreed x.dst (dropXact x s)
  else if x.dst ≠ q then s
  else
    let answer (phase : XPhase) (s : State) : State :=
      sendPacket x s.cycle (fun y => { y with phase := phase, status := Code.ROLE_MOVED }) s
    match x.phase with
    | .atTarget => answer .answer s
    | .ready => answer (.grant Code.DOMAIN_CLOSED) s
    | .grant _ => answer (.grant Code.DOMAIN_CLOSED) s
    | _ => s

/-- Has the head flit of a request reached its target (R224)? -/
def landedBy (s : State) (x : Xact) : Bool :=
  decide (x.since + 2 * ((routeOf x.src x.dst).length + 2) ≤ s.cycle)

/-- A drain is forced (R205, R236, R237): the packets in the port's FIFO come back as RETURNs with the new epoch, requests
without an answer are answered, and the answers the port awaits are discarded as they arrive. Answers: how many were
returned, and how many are to be discarded. -/
def forceDrain (q epoch : Nat) (s : State) : Nat × Nat × State :=
  let back := s.noc.xacts.filter fun x => x.dst == q && x.phase == .sent && landedBy s x
  let owed := s.noc.xacts.countP fun x => x.dst == q && x.phase == .atTarget
  let gone := s.noc.xacts.countP fun x => x.src == q && x.inFlight && !x.late
  let s := back.foldl (fun t x => sendBack x epoch (match regionOf q with
    | some k => t.incWrap RG_ROLE_MOVED_COUNT k
    | none => t)) s
  let s := s.noc.xacts.foldl (fun t x => drainXact q x t) s
  let s := updNet (fun n => { n with revokes := n.revokes.filter (·.1 != q) }) s
  (back.length + owed, gone, notePort q s)

/-- The port bound to a stream ID (R222). -/
def portOfStream (s : State) (sid : Nat) : Option Nat :=
  if 0xF000 ≤ sid then some (sid - 0xF000)
  else (List.range 128).findSome? fun i =>
    let q := portRegion (i / 2) (i % 2)
    if s.rd PORT_CFG_STREAM_ID (q / 4) (q % 4) = sid then some q else none

/-- The stream ID that a port carries (R222). -/
def streamAt (s : State) (q : Nat) : Nat :=
  if (regionOf q).isSome then s.rd PORT_CFG_STREAM_ID (q / 4) (q % 4) else streamOf q

/-- Does a ready request wait for its reservation (R241)? -/
def Xact.waits (x : Xact) : Bool :=
  match x.phase with
  | .waiting => true
  | .reserve => true
  | .queued => true
  | .grant _ => true
  | .retry => true
  | _ => false

/-- The cycles that requests of port q have waited for reservations so far, the present one included, count (R241). -/
def accrueWait (q : Nat) (s : State) : State :=
  let t := s.cycle + 1
  let w := sumOf (fun x => t - x.t0) (s.noc.xacts.filter fun x => x.src == q && x.waits)
  updStat q (fun p => { p with wait := p.wait + w })
    (updNet (fun n => { n with xacts := n.xacts.map fun x => if x.src == q && x.waits then { x with t0 := t } else x }) s)

/-- STAT_CTRL of port q at the tick (R241): the statistics are latched, and the live values cleared. -/
def latchStats (q : Nat) (snap clear : Bool) (s : State) : State :=
  let s := accrueWait q s
  let v := sget {} s.noc.stats q
  let s := if snap then showStats q v (updNet (fun n => { n with snapped := (q, v, clear) :: n.snapped }) s) else s
  if clear then updStat q (fun _ => {}) s else s

/-- What the tick does to the network (R237, R241): ports open and close, and statistics are latched and
cleared. -/
def nocTick (s : State) : State :=
  let opens := s.noc.opens
  let closes := s.noc.closes
  let snaps := s.noc.snaps
  let s := updNet (fun n => { n with opens := [], closes := [], snaps := [], snapped := [], slotWins := [] }) s
  let s := opens.foldl (fun t q => openPort q t) s
  let s := closes.foldl (fun t q => closePort q t) s
  snaps.foldl (fun t (q, snap, clear) => latchStats q snap clear t) s

/-! The traffic of the hard blocks (R221, R235, R241). -/

/-- The port of a hard block's stream ID (R222). -/
def hardPort (sid : Nat) : Nat := sid - 0xF000

/-- A hard block's access has been answered: the statistics take a latency that the command does not say, drawn free, and
one that has timed out at its injection completes ABORTED, with its answer late (R238, R241). -/
def endAccess (q bytes code : Nat) (timedOut : Bool) (s : State) : Nat × State :=
  if timedOut then
    let s := raiseInj E.NOC_TIMEOUT q 0 true (s.incSat NR_COUNTS_C_TIMEOUTS (q / 4))
    (Code.ABORTED, s.incSat NR_COUNTS_C_LATE_RESP (q / 4))
  else
    let (l, s) := s.draw
    (code, countRequest q bytes (l % 2 ^ 32) s)

/-- Up to k RESERVEs of a hard block's request travel from port q to port d, each with its GRANT (R231, R239): one that a
parity error meets is answered BUSY and sent again, and a port that is not OPEN refuses. Answer: whether the reservation is
granted. -/
def reserveTraffic (q d : Nat) : Nat → State → Bool × State
  | 0, s => (true, s)
  | k + 1, s =>
    let (bad, s) := travel q d 1 none s
    let closed := portState s d != 0
    let s := if closed then s.incSat NR_COUNTS_B_CLOSED_REFUSALS (d / 4)
      else if bad then s.incSat NR_COUNTS_C_RETRIES (d / 4) else s
    let (bad', s) := travel d q 1 none s
    if closed && !bad' then (false, s)
    else if closed || bad || bad' then reserveTraffic q d k s
    else (true, s)

/-- The core cycles for which a request of port q has waited for its reservation, which its command does not say, count
(R241). -/
def waitTraffic (q : Nat) (s : State) : State :=
  let (w, s) := s.draw
  updStat q (fun p => { p with wait := p.wait + w % 2 ^ 32 }) s

/-- A message of so many bytes to an address of the dispatcher whose command stands for its landing, whole: its reservation, its flits and
those of its answer, and the statistics of its port, if the stream ID is a port's (R221, R239, R241). Answer: whether it
lands with a parity error. -/
def countMessage (m : MessageFrom) (addr bytes : Nat) (s : State) : Bool × State :=
  match portOfStream s m.sid with
  | none => (false, s)
  | some q =>
    if !attached q then (false, s)
    else
      let d := portAt 6 0 0
      let (_, s) := reserveTraffic q d 4 s
      let (late, s) := takeTimeout q (waitTraffic q s)
      let (bad, s) := travel q d (dataFlits bytes) (hopOf m.upset 0 false) s
      let s := headLands d 3 addr m.sid s
      let (_, s) := travel d q 1 (hopOf m.upset 0 true) s
      (bad, (endAccess q bytes 0 late s).2)

/-- Requests for n lines of a window complete at port q (R241). -/
def countLines (q n : Nat) (s : State) : State :=
  (List.range (lineRequests n)).foldl (fun t i =>
    let (l, t) := t.draw
    countRequest q (64 * min 16 (n - 16 * i)) (l % 2 ^ 32) t) s

/-- n lines have been fetched in a window from port d to port q (R37, R235, R241): whether a parity error, or a timeout, met
them. perr and other are the hops, if any, at which a parity error is found on the data, and on the requests; addrs gives the
address of each line. -/
def fetchTraffic (q d n : Nat) (addrs : Nat → Nat) (perr other : Option Nat) (s : State) : Bool × State :=
  if n = 0 then (false, s)
  else
    let (late, s) := takeTimeout q s
    let (asked, s) := travel q d (lineRequests n) other s
    let s := headsLand d 2 (streamOf q) n addrs s
    let (bad, s) := travel d q (lineDataFlits n) perr s
    if late then (true, (endAccess q 0 0 true s).2) else (asked || bad, countLines q n s)

/-- n lines have been written in a window from port q to port d; their data has travelled line by line. A request that times
out at its injection completes ABORTED, with its answer late; other is the hop, if any, at which a parity error is found on
the answers (R238, R239); addrs gives the address of each line. -/
def flushTraffic (q d n : Nat) (addrs : Nat → Nat) (other : Option Nat) (s : State) : State :=
  if n = 0 then s
  else
    let (late, s) := takeTimeout q s
    let s := headsLand d 3 (streamOf q) n addrs (travel q d (lineDataFlits n - n) none s).2
    let s := (travel d q (lineRequests n) other s).2
    if late then (endAccess q 0 0 true s).2 else countLines q n s

end Sys2Proof.Machine
end

