-- ==== Sys2Proof/Machine/DdrServe.lean ====
section
/-! DEFINITION. How a DDR channel serves unscheduled requests (R39, R40, R253 to R256): those that wait in the landing
buffer, and those of the hard blocks. -/

namespace Sys2Proof.Machine

open F

/-- A refused request: its answer leaves 2,048 core cycles after its landing (R270, R283, R386). -/
def refuseXact (x : Xact) (s : State) : State :=
  landingFreed x.dst (updXact x (fun y => { y with phase := .refused, t0 := x.landedAt }) s)

/-- A target answers at once. -/
def answerNow (x : Xact) (code : Nat) (data : List Byte) (tag : Nat) (s : State) : State :=
  answerXact x code (if x.kind = 2 then (data ++ List.replicate x.bytes 0).take x.bytes else []) tag s

/-- Channel c serves a request, through the encryption engine (R245, R250, R270, R275). -/
def serveRequest (c : Nat) (x : Xact) (s : State) : State :=
  let a := c * 2 ^ 37 + x.addr
  if 2 ^ 37 < x.addr + x.bytes then answerNow x Code.OUT_OF_RANGE [] 0 s
  else
    let s := precedence c s
    if x.kind = 2 then
      let (r, s) := readSpan x.sid a x.bytes s
      if r.code = Code.REFUSED then refuseXact x s else answerNow x r.code r.data r.tag s
    else
      let (code, s) := writeSpan x.sid a x.data s
      if code = Code.REFUSED then refuseXact x s else answerNow x code [] 0 s

/-- Do two requests of one stream ID touch a common line (R256)? -/
def Xact.meets (x y : Xact) : Bool :=
  x.sid == y.sid && decide (x.addr / 64 ≤ (y.addr + y.bytes - 1) / 64) && decide (y.addr / 64 ≤ (x.addr + x.bytes - 1) / 64)

/-- Does some line of a request to channel c wait? -/
def requestHeld (s : State) (c : Nat) (x : Xact) : Bool :=
  let lines := (linePieces (x.bytes / 64 + 2) (c * 2 ^ 37 + x.addr) x.bytes).map (·.1)
  lines.any (lineHeld s) || banksFull s lines

/-- The requests in the landing buffer of channel c that may be served, the highest PRIO first and the oldest among
equals; one that touches a line of an older one from the same stream ID waits for it (R256). -/
def nextRequest (s : State) (c : Nat) : Option Xact :=
  let l := s.noc.xacts.filter fun x => x.dst == portDdr c && x.phase == .landed
  let free := l.zipIdx.filter fun e => !requestHeld s c e.1 && !(l.take e.2).any e.1.meets
  (free.map (·.1)).foldl (fun a x => match a with
    | none => some x
    | some y => if y.prio < x.prio then some x else a) none

/-- Up to k requests of the landing buffer of channel c are served, those of this PRIO and above. -/
def serveAbove (c prio : Nat) : Nat → State → State
  | 0, s => s
  | k + 1, s =>
    match nextRequest s c with
    | none => s
    | some x => if prio ≤ x.prio then serveAbove c prio k (serveRequest c x s) else s

/-- Up to k requests of the landing buffer of channel c are served. -/
def serveChan (c k : Nat) (s : State) : State := serveAbove c 0 k s

/-- Channel c serves the requests that no longer wait. -/
def serveWaiting (c : Nat) (s : State) : State :=
  let n := s.noc.xacts.countP fun x => x.phase == .landed && x.dst == portDdr c
  if n = 0 then s else serveChan c n (chanFallback c s)

/-- Every channel serves the requests that no longer wait. -/
def serveDdr (s : State) : State :=
  if s.noc.xacts.any fun x => x.phase == .landed then (List.range 8).foldl (fun t c => serveWaiting c t) s else s

/-- A request lands at DDR channel c: the engine refuses it at once, or it enters the landing buffer, and the channel serves
what it may (R39, R255, R256, R270). -/
def landDdr (c : Nat) (x : Xact) (s : State) : State :=
  let a := c * 2 ^ 37 + x.addr
  match if x.addr + x.bytes ≤ 2 ^ 37 then refusedBy s x.sid a (x.kind == 3) else none with
  | some (j, r) => refuseXact x (refuseAccess x.sid j r s)
  | none =>
    let s := moveXact x (fun y => { y with phase := .landed }) s
    serveChan c (s.noc.xacts.countP fun y => y.phase == .landed) s

/-! Accesses of the hard blocks to DRAM (R221, R235, R245). The command that makes one makes all of it. -/

/-- What a channel does before a hard block's request of this PRIO (R253, R256): the fallbacks and write-backs that are due,
and the requests that have landed before it and are not of lower PRIO. -/
def serveFirst (c prio : Nat) (s : State) : State :=
  let s := precedence c s
  serveAbove c prio (s.noc.xacts.countP fun x => x.phase == .landed && x.dst == portDdr c) s

/-- A hard block reads n bytes of DRAM, in one request, with a reservation of its own (R226, R231, R239). It is the k-th
request of its command, which the parity error upset may meet. -/
def blockRead (sid addr n : Nat) (s : State) (prio : Nat := 0) (upset : Option Upset := none) (k : Nat := 0) :
    LineRead × State :=
  let q := hardPort sid
  let d := portDdr (chanOf addr)
  if 8 ≤ chanOf addr then readSpan sid addr n s
  else
    let (granted, s) := reserveTraffic q d 4 (waitTraffic q s)
    if !granted then (⟨List.replicate n 0, Code.DOMAIN_CLOSED, 0⟩, s)
    else
      let (late, s) := takeTimeout q s
      let (bad, s) := travel q d 1 (hopOf upset k false) s
      let s := headLands d 2 (addr % 2 ^ 37) sid s
      let (r, s) := if bad then (⟨List.replicate n 0, Code.INTERNAL, 0⟩, s)
        else readSpan sid addr n (serveFirst (chanOf addr) prio s)
      let (bad', s) := travel d q (dataFlits n) (hopOf upset k true) s
      let (code, s) := endAccess q n (if bad' then Code.INTERNAL else r.code) late s
      (⟨if late then List.replicate n 0 else r.data, code, r.tag⟩, s)

/-- A hard block writes bytes to DRAM, in one request, with a reservation of its own. -/
def blockWrite (sid addr : Nat) (data : List Byte) (s : State) (prio : Nat := 0) (upset : Option Upset := none)
    (k : Nat := 0) : Nat × State :=
  let q := hardPort sid
  let d := portDdr (chanOf addr)
  if 8 ≤ chanOf addr then writeSpan sid addr data s
  else
    let (granted, s) := reserveTraffic q d 4 (waitTraffic q s)
    if !granted then (Code.DOMAIN_CLOSED, s)
    else
      let (late, s) := takeTimeout q s
      let (bad, s) := travel q d (dataFlits data.length) (hopOf upset k false) s
      let s := headLands d 3 (addr % 2 ^ 37) sid s
      let (code, s) := if bad then (Code.INTERNAL, s) else writeSpan sid addr data (serveFirst (chanOf addr) prio s)
      let (bad', s) := travel d q 1 (hopOf upset k true) s
      endAccess q data.length (if bad' then Code.INTERNAL else code) late s

end Sys2Proof.Machine
end

