-- ==== Sys2Proof/Machine/DispOps.lean ====
section
/-! DEFINITION. The dispatcher's shared operations (R358 to R374): entries and flows, checking and enqueuing
a job, the delay lists, dispatch, done messages, release, registration, and workers that disappear. -/

namespace Sys2Proof.Machine

open F

/-- Changes the dispatcher. -/
def updJobs (f : DispSt → DispSt) (s : State) : State := s.updDisp f

/-- The built-in flow of the management cores (R358). -/
def hearthFlow : Nat := 1023

/-- The jobs of a flow. -/
def jobsOf (s : State) (f : Nat) : List Job :=
  s.disp.jobs.filter fun j => match j.flow with
    | some (g, _) => g == f
    | none => false

/-- The records held under flow f: those that entered it, whatever a fix has changed since (R359, R372). -/
def recordsIn (s : State) (f : Nat) : Nat :=
  (List.range 16).foldl (fun a n => a + (sget {} s.catches n).flow.countP (·.inFlow == some f)) 0

/-- The entries held: every job and every record (R358). -/
def entriesHeld (s : State) : Nat :=
  (List.range 16).foldl (fun a n => a + (sget {} s.catches n).flow.length) s.disp.jobs.length

/-- The reserved entries of a flow that its jobs hold (R358). -/
def reservedJobs (s : State) (f : Nat) : Nat := (jobsOf s f).countP fun j => !j.shared

/-- Reserved entries of a flow free (R358, R359). -/
def reservedFree (s : State) (f : Nat) : Nat := s.rd FLOW_CFG_RESERVED 0 f - (reservedJobs s f + recordsIn s f)

/-- The capacity C of a RECORD flow: its RESERVED (R372), without the entries that jobs hold which entered it before a fix
changed its kind (R359). -/
def flowCapacity (s : State) (f : Nat) : Nat := s.rd FLOW_CFG_RESERVED 0 f - reservedJobs s f

/-- Is a reserved entry free for a record of flow f (R358, R359)? -/
def recordRoom (s : State) (f : Nat) : Bool := decide (0 < reservedFree s f) && decide (entriesHeld s < 65536)

/-- Everything reserved by the flows' registers (R346: at most 57,344). -/
def reservedAll (s : State) : Nat :=
  (List.range 1024).foldl (fun a f => a + s.rd FLOW_CFG_RESERVED 0 f) 0

/-- All reserved entries free. -/
def reservedOpen (s : State) : Nat :=
  (List.range 1024).foldl (fun a f => if s.rd FLOW_CFG_RESERVED 0 f = 0 then a else a + reservedFree s f) 0

/-- Shared entries free (R358): those that nothing holds and no flow reserves. -/
def sharedFree (s : State) : Nat := 65536 - entriesHeld s - reservedOpen s

/-- Is the dispatcher busy (R374)? -/
def dispatchBusy (s : State) : Bool :=
  s.disp.jobs.any fun j => match j.place with
    | .ready => true
    | .held _ => true
    | _ => false

/-- The registers that show the lists and the pool follow them (R376, R377). -/
def noteJobs (s : State) : State :=
  let js := s.disp.jobs
  let s := (List.range 8).foldl (fun t p =>
    t.wr READY_DEPTH_DEPTH (js.countP fun j => j.prio == p && j.place == .ready) 0 p) s
  let s := (List.range 4).foldl (fun t l =>
    let es := js.filterMap fun j => match j.place with
      | .delayed e => if j.dlist = l then some e else none
      | _ => none
    (t.wr DELAY_DEPTH_DEPTH es.length 0 l).wr DELAY_NEXT_TICK (es.foldl min (2 ^ 64 - 1)) 0 l) s
  let s := (s.wr DP_POOL_FREE (65536 - entriesHeld s)).wr DP_POOL_SHARED_FREE (sharedFree s)
  s.setb DP_STATUS_BUSY (dispatchBusy s)

/-- FLOW_DEPTH of a flow follows its entries. -/
def noteFlow (f : Nat) (s : State) : State :=
  let js := jobsOf s f
  let w := js.countP fun j => match j.place with
    | .held _ => true
    | .done => true
    | _ => false
  (s.wr FLOW_DEPTH_HELD (js.length + recordsIn s f) 0 f).wr FLOW_DEPTH_WINDOW w 0 f

/-- A record enters or leaves a flow: called after the flow's list has changed (R372). -/
def flowEnter (f : Nat) (s : State) : State := noteJobs (noteFlow f s)
def flowLeave (f : Nat) (s : State) : State := noteJobs (noteFlow f s)

/-- Why a job fails its check, if it does (R361); fromCore says that the source is a management core. -/
def jobCheck (s : State) (w : List Nat) (fromCore : Bool) : Option Nat :=
  let h := w.getD 0 0
  let flowed := bit h 3
  if bits h 47 41 ≠ 0 ∨ bits (w.getD 2 0) 63 32 ≠ 0 then some Code.BAD_FIELD
  else if flowed && bits h 13 4 == hearthFlow then some Code.BAD_FIELD
  else if flowed && s.rd FLOW_CFG_KIND 0 (bits h 13 4) == 1 then some Code.INCONSISTENT
  else if 16777216 < bits h 40 16 then some Code.OUT_OF_RANGE
  else if bits h 63 48 = 0 then some Code.BAD_FIELD
  else if bit h 48 && !fromCore then some Code.REFUSED
  else if w.getD 1 0 % 32 ≠ 0 then some Code.BAD_ALIGN
  else none

/-- A job takes an entry, its flow position, and its place in a ready or delay list (R358, R361, R364). The
slot is the lowest one free (DESIGN CHOICE, log entry 21). -/
def addJob (prio : Nat) (flow : Option Nat) (classMask doneAddr tag : Nat) (payload : List Nat)
    (dlist delay : Nat) (op : Option (Nat × Nat)) (s : State) : State :=
  let slot := ((List.range (s.disp.jobs.length + 1)).find? fun k => !s.disp.jobs.any (·.slot == k)).getD 0
  let tick := if s.offset = 0 then s.now else s.now + 1
  let pos := flow.map fun f => (f, sget 0 s.disp.positions f)
  let shared := match flow with
    | some f => reservedFree s f == 0
    | none => true
  let j : Job :=
    { slot := slot, gen := sget 0 s.disp.gens slot % 256, prio := prio, flow := pos, classMask := classMask,
      doneAddr := doneAddr, tag := tag, payload := payload, shared := shared, dlist := dlist,
      place := if delay = 0 then .ready else .delayed (tick + delay), enqTick := tick, readyAt := s.cycle,
      op := op }
  let s := updJobs (fun d =>
    { d with
      jobs := d.jobs ++ [j],
      positions := match flow with
        | some f => sput 0 d.positions f (sget 0 d.positions f + 1)
        | none => d.positions }) s
  let s := match flow with
    | some f => noteFlow f s
    | none => s
  noteJobs s

/-- A job descriptor of eight words enters (R360, R361). -/
def enqueueJob (w : List Nat) (s : State) : State :=
  let h := w.getD 0 0
  addJob (bits h 2 0) (if bit h 3 then some (bits h 13 4) else none) (bits h 63 48) (w.getD 1 0)
    (bits (w.getD 2 0) 31 0) (w.drop 3) (bits h 15 14) (bits h 40 16) none s

/-- Jobs enter in order until one fails its check (R361): its code, how many entered, and the state. -/
def enqueueJobs (fromCore : Bool) : List (List Nat) → Nat → State → Nat × Nat × State
  | [], n, s => (Code.OK, n, s)
  | w :: t, n, s =>
    match jobCheck s w fromCore with
    | some c => (c, n, s)
    | none => enqueueJobs fromCore t (n + 1) (enqueueJob w s)

/-- What a job needs to enter: an entry, of its flow where it is of a JOB flow, and a place in its delay list, where it has a
delay. -/
abbrev Need : Type := Option Nat × Option Nat

/-- What a job descriptor needs (R358, R364). -/
def needOf (s : State) (w : List Nat) : Need :=
  let h := w.getD 0 0
  let f := bits h 13 4
  (if bit h 3 && f != hearthFlow && s.rd FLOW_CFG_KIND 0 f == 0 then some f else none,
    if bits h 40 16 = 0 then none else some (bits h 15 14))

/-- Are entries free for all of these (R358, R363, R364)? The reserved entries taken are counted by flow, the shared ones, and the
places of each delay list. -/
def needsFit (s : State) : List Need → List Nat → Nat → List Nat → Bool
  | [], _, _, _ => true
  | (f, l) :: t, taken, shared, lists =>
    decide (entriesHeld s + taken.length + shared < 65536) &&
      l.all (fun k => decide (s.rd DELAY_DEPTH_DEPTH 0 k + lists.count k < 16384)) &&
      (match f.filter fun g => decide (taken.count g < reservedFree s g) with
        | some g => needsFit s t (g :: taken) shared (l.toList ++ lists)
        | none => decide (shared < sharedFree s) && needsFit s t taken (shared + 1) (l.toList ++ lists))

/-- The jobs that a list of bytes carries, one per 64 bytes (R361). -/
def jobsIn (d : List Byte) : List (List Nat) :=
  (List.range (d.length / 64)).map fun k => (List.range 8).map fun w => payNat d (64 * k + 8 * w) 8

/-- What the granted reservations for which keep holds can still bring (R363). -/
def promised (s : State) (keep : Xact → Bool) : List Need :=
  ((s.noc.xacts.filter fun y => y.enqueues && y.holdsLanding && keep y).map fun y => (jobsIn y.data).map (needOf s)).flatten

/-- Are entries free for these, beside those that granted reservations can still bring (R363)? -/
def fitsBeside (s : State) (l : List Need) : Bool := needsFit s (promised s (fun _ => true) ++ l) [] 0 []

/-- Are entries free for every job of a list, COUNT of them (R363)? -/
def roomFor (l : List (List Nat)) (s : State) : Bool := fitsBeside s (l.map (needOf s))

/-- Is an entry free for a job of flow 1,023 (R358, R380)? -/
def hearthRoom (s : State) : Bool := fitsBeside s [(some hearthFlow, none)]

/-- The words of k job descriptors in a list of bytes. -/
def jobWords (m : Mem) (addr : Nat) (k : Nat) : List (List Nat) :=
  (List.range k).map fun i => (List.range 8).map fun w => memRd m (addr + 64 * i + 8 * w) 8

/-- The delayed job of list l, with an expiry from lo to hi, that moves next: the least expiry, the earliest enqueued
among equals. -/
def nextExpired (s : State) (l lo hi : Nat) : Option (Nat × Job) :=
  (s.disp.jobs.filter fun j => match j.place with
    | .delayed e => decide (lo ≤ e)
    | _ => false).foldl (fun a j => match j.place, a with
    | .delayed e, none => if j.dlist = l ∧ e ≤ hi then some (e, j) else none
    | .delayed e, some (b, k) => if j.dlist = l ∧ e < b then some (e, j) else some (b, k)
    | _, _ => a) none

/-- Up to k entries of list l with an expiry from lo to hi move to the tails of their ready lists (R364, R365). -/
def advanceList (l lo hi : Nat) : Nat → State → State
  | 0, s => s
  | k + 1, s =>
    match nextExpired s l lo hi with
    | none => s
    | some (e, j) =>
      let late := s.now - e
      let s := if late = 0 then s else
        (s.incSat DELAY_LATE_LATE_JOBS 0 l).wr DELAY_LATE_MAX_LATE
          (min 65535 (max late (s.rd DELAY_LATE_MAX_LATE 0 l))) 0 l
      let t := s.cycle
      advanceList l lo hi k (updJobs (fun d =>
        { d with jobs := d.jobs.filter (·.slot != j.slot) ++
            [{ j with place := .ready, lateness := late, readyAt := t }] }) s)

/-- Worker states (WK_CFG.STATE): 0 FREE, 1 ACTIVE, 2 DRAINING. -/
def workerState (s : State) (w : Nat) : Nat := s.rd WK_CFG_STATE 0 w

/-- The jobs a worker holds. -/
def heldBy (s : State) (w : Nat) : List Job := s.disp.jobs.filter fun j => j.place == .held w

/-- The port a worker is bound to. -/
def workerPort (s : State) (w : Nat) : Nat := 4 * s.rd WK_CFG_ROUTER 0 w + s.rd WK_CFG_PORT 0 w

/-- The worker of DispSt. -/
def updWorker (w : Nat) (f : WorkerU → WorkerU) (s : State) : State :=
  updJobs (fun d => { d with workers := sput {} d.workers w (f (sget {} d.workers w)) }) s

/-- IN_FLIGHT, the busy time, and the end of draining follow the jobs a worker holds (R367, R376). -/
def noteWorker (w : Nat) (s : State) : State :=
  let n := (heldBy s w).length
  let t := s.cycle
  let s := s.wr WK_STATUS_IN_FLIGHT n 0 w
  let s := updWorker w (fun u => match u.since with
    | none => if n = 0 then u else { u with since := some t }
    | some b => if n = 0 then { u with since := none, busy := u.busy + (t - b) } else u) s
  if n = 0 ∧ workerState s w = 2 then s.wr WK_CFG_STATE 0 0 w else s

/-- A job's entry is done (R369). -/
def finishJob (j : Job) (status result : Nat) (s : State) : State :=
  let s := updJobs (fun d =>
    { d with jobs := d.jobs.map fun k =>
        if k.slot == j.slot then { k with place := .done, status := status, result := result } else k }) s
  let s := s.incWrap WK_JOBS_JOBS 0 j.worker
  noteJobs (noteWorker j.worker s)

/-- The job times out (R369): a descriptor served by Hearth completes ABORTED (R379). -/
def timeoutJob (j : Job) (injected : Bool) (s : State) : State :=
  let s := (s.incSat DP_COUNTS_JOB_TIMEOUTS).incSat WK_COUNTS_TIMEOUTS 0 j.worker
  let s := raiseInj E.DISPATCH_JOB_TIMEOUT j.worker j.slot injected s
  let s := match j.op with
    | some (r, k) => decideOp r k Code.ABORTED 0 0 s
    | none => s
  finishJob j Code.ABORTED 0 s

/-- Does the flow's reorder window reach the job (R370)? -/
def inWindow (s : State) (j : Job) : Bool :=
  match j.flow with
  | none => true
  | some (f, p) => (jobsOf s f).all fun k => match k.flow with
    | some (_, q) => decide (p < q + 256)
    | none => true

/-- The dispatcher's port (R221). -/
def dispPort : Nat := portAt 6 0 0

/-- A transaction tag of the dispatcher that is free (R229). -/
def dispTag (s : State) : Option Nat := (List.range 256).find? fun t => (xactAt s dispPort t).isNone

/-- May a worker take a job now (R211, R368, R381): ACTIVE, below its DEPTH, its port OPEN, a core running, and for the write to a
fabric worker a tag free? -/
def workerFree (s : State) (w : Nat) : Bool :=
  workerState s w == 1 && decide ((heldBy s w).length ≤ s.rd WK_CFG_DEPTH_M1 0 w) && portState s (workerPort s w) == 0 &&
    (if w < 4 then bits (s.rd HM_STATUS_CORE_STATE) (3 * w + 2) (3 * w) == 0 && !s.boot.fwLeft.contains w
     else (dispTag s).isSome)

/-- The worker that takes a job: of those free and able, the one least recently dispatched to (R368). -/
def chooseWorker (s : State) (j : Job) : Option Nat :=
  ((List.range 128).filter fun w =>
    workerFree s w && (s.rd WK_CFG_CLASS 0 w &&& j.classMask) != 0).foldl (fun a w =>
      match a with
      | none => some w
      | some v =>
        if (sget {} s.disp.workers w).last < (sget {} s.disp.workers v).last then some w else some v) none

/-- The job and worker of the next dispatch (R368): ready lists from the highest priority down, the first
eligible of each list's first 16 entries. -/
def chooseJob (s : State) : Option (Job × Nat) :=
  [7, 6, 5, 4, 3, 2, 1, 0].findSome? fun p =>
    ((s.disp.jobs.filter fun j => j.prio == p && j.place == .ready).take 16).findSome? fun j =>
      if inWindow s j then (chooseWorker s j).map fun w => (j, w) else none

/-- The jobs a worker held and had not reported done go back to the heads of their ready lists, in the order
of their dispatch (R373). keep leaves a job where it is. -/
def returnJobs (w : Nat) (keep : Job → Bool) (s : State) : State :=
  let back := (heldBy s w).filter fun j => !keep j
  let sorted := back.mergeSort fun a b => decide (a.order ≤ b.order)
  let t := s.cycle
  let s := updJobs (fun d =>
    { d with
      jobs := sorted.map (fun j => { j with place := .ready, gen := (j.gen + 1) % 256, readyAt := t }) ++
        d.jobs.filter (fun j => !back.any (·.slot == j.slot)),
      gens := back.foldl (fun m j => sput 0 m j.slot (sget 0 m j.slot + 1)) d.gens }) s
  let s := s.incSat WK_COUNTS_RETURNED 0 w back.length
  let s := back.foldl (fun u j => match j.flow with
    | some (f, _) => noteFlow f u
    | none => u) s
  noteJobs (noteWorker w s)

/-- A worker is lost (R373). -/
def workerLost (w : Nat) (injected : Bool) (s : State) : State :=
  let s := returnJobs w (fun _ => false) (s.wr WK_CFG_STATE 0 0 w)
  raiseInj E.DISPATCH_WORKER_LOST w 0 injected (s.incSat DP_COUNTS_B_WORKERS_LOST)

/-- The workers bound to the ports of a region become FREE, their jobs returned (R373). -/
def freeRegionWorkers (k : Nat) (s : State) : State :=
  (List.range 128).foldl (fun t w =>
    if 4 ≤ w ∧ workerState t w ≠ 0 ∧ regionOf (workerPort t w) = some k then
      returnJobs w (fun _ => false) (t.wr WK_CFG_STATE 0 0 w)
    else t) s

/-- A done message (R369): ENTRY and GEN name a job held by the worker of the writing port, or it is late. -/
def doneMessage (sid entry gen status result : Nat) (s : State) : State :=
  let q := portOfStream s sid
  match s.disp.jobs.find? fun j =>
      j.slot == entry && j.gen == gen && j.place == .held j.worker && q == some (workerPort s j.worker) with
  | some j => finishJob j status result s
  | none => s.incSat DP_COUNTS_B_LATE_DONE

/-- The management cores' stream IDs: router (5,0) ports 0 to 3 (R221, R222). -/
def coreStream (c : Nat) : Nat := streamOf (portAt 5 0 c)

/-- A registration record (R366): its answer. -/
def registerWorker (sid w : Nat) (d : List Nat) (s : State) : Nat × State :=
  let h := d.getD 0 0
  let st := workerState s w
  let bound := portOfStream s sid == some (workerPort s w)
  if bits h 3 1 ≠ 0 ∨ bits h 63 40 ≠ 0 ∨ bits (d.getD 1 0) 63 38 ≠ 0 ∨ bits (d.getD 2 0) 63 8 ≠ 0 ∨
      d.getD 3 0 ≠ 0 ∨ (4 ≤ w ∧ bit h 8) then (Code.BAD_FIELD, s)
  else if (4 ≤ w ∧ 0xF000 ≤ sid) ∨ (w < 4 ∧ !(List.range 4).any fun c => coreStream c == sid) then
    (Code.REFUSED, s)
  else match portOfStream s sid with
    | none => (Code.REFUSED, s)
    | some q =>
      if st ≠ 0 ∧ !bound then (Code.BUSY, s)
      else if !bit h 0 then
        if st = 1 then (Code.OK, noteWorker w (s.wr WK_CFG_STATE 2 0 w)) else (Code.OK, s)
      else if st = 1 then
        (Code.OK, ((s.wr WK_CFG_CLASS (bits h 23 8) 0 w).wr WK_STATUS_EPOCH (bits h 39 24) 0 w).wr
          WK_STATUS_TIMEOUT_EXP (bits (d.getD 2 0) 7 0) 0 w)
      else if st = 2 then (Code.BUSY, s)
      else if d.getD 1 0 % 1024 ≠ 0 then (Code.BAD_ALIGN, s)
      else
        let s := ((s.wr WK_CFG_STATE 1 0 w).wr WK_CFG_DEPTH_M1 (bits h 7 4) 0 w).wr WK_CFG_CLASS (bits h 23 8) 0 w
        let s := (s.wr WK_CFG_ROUTER (q / 4) 0 w).wr WK_CFG_PORT (q % 4) 0 w
        let s := (s.wr WK_STATUS_EPOCH (bits h 39 24) 0 w).wr WK_STATUS_TIMEOUT_EXP (bits (d.getD 2 0) 7 0) 0 w
        (Code.OK, updWorker w (fun u => { u with sent := 0 }) (s.wr WK_MAILBOX_ADDR (d.getD 1 0) 0 w))

/-- The oldest accepted descriptor of this opcode on a ring whose job a management core holds (R379). -/
def hearthTake (s : State) (ring opcode : Nat) : Option Op :=
  s.ops.find? fun o => o.ring == ring && o.opcode == opcode && o.phase == .accepted &&
    !fetching s o &&
    s.disp.jobs.any fun j => j.op == some (o.ring, o.idx) && j.place == .held j.worker

/-- A descriptor served by Hearth enters the dispatcher as a job of flow 1,023 (R379), once an entry is free (R380). -/
def enqueueHearth (o : Op) (s : State) : State :=
  match hearthPrio o.opcode with
  | some p => if hearthRoom s then addJob p (some hearthFlow) 1 0 0 [] 0 0 (some (o.ring, o.idx)) s else s
  | none => s

/-- The oldest accepted descriptor that Hearth serves and that has no job yet. -/
def waitingHearth (s : State) : Option Op :=
  s.ops.find? fun o => o.phase == .accepted && (hearthPrio o.opcode).isSome &&
    !s.disp.jobs.any fun j => j.op == some (o.ring, o.idx)

/-- The jobs that a DISPATCH_ENQUEUE reads from host memory (R346, R361). -/
def enqueueArray (s : State) (o : Op) : List (List Nat) := jobWords (hostImage s o) (o.word 1) (bits (o.word 2) 8 0)

/-- Are entries free for every job of an enqueue, beside those that the other granted reservations can still bring (R363)? -/
def enqueueFits (x : Xact) (s : State) : Bool :=
  needsFit s (promised s (fun y => !y.same x) ++ (jobsIn x.data).map (needOf s)) [] 0 []

/-- Does a NoC reservation, or an accepted descriptor, wait for entries (R363)? -/
def enqueueStalled (s : State) : Bool :=
  (s.ops.any fun o => o.opcode == 0x50 && o.phase == .accepted && !roomFor (enqueueArray s o) s) ||
    s.noc.xacts.any fun x => x.dst == portAt 6 0 0 && x.phase == .queued && x.enqueues && !enqueueFits x s

/-- The jobs of a landed enqueue enter, and it is answered (R361). -/
def landJobs (x : Xact) (s : State) : State :=
  let (code, _, s) := enqueueJobs ((List.range 4).any fun c => coreStream c == x.sid) (jobsIn x.data) 0 s
  answerNow x code [] 0 s

/-- Are entries free for the jobs of an enqueue that has landed (R358, R364)? -/
def landedFits (s : State) (x : Xact) : Bool :=
  x.enqueues && x.phase == .landed && needsFit s ((jobsIn x.data).map (needOf s)) [] 0 []

/-- What waits for entries goes on while they suffice (R363, R380): enqueues that have landed, descriptors that Hearth serves, and the
queued reservations of the enqueue window; at most k. -/
def serveDispatch : Nat → State → State
  | 0, s => s
  | k + 1, s =>
    match s.noc.xacts.find? (landedFits s) with
    | some x => serveDispatch k (landJobs x s)
    | none =>
      match (waitingHearth s).filter fun _ => s.rd BOOT_STATUS_STAGE != 8 && hearthRoom s with
      | some o => serveDispatch k (enqueueHearth o s)
      | none =>
        match queueHead s (portAt 6 0 0) with
        | none => s
        | some x =>
          if x.flits ≤ landingFree s x.dst ∧ (!x.enqueues || enqueueFits x s) then
            serveDispatch k (sendPacket x s.cycle (fun y => { y with phase := .grant Code.OK }) s)
          else s

/-- The schedule bank of the frame that begins, and its cycle length: the bank in force, or that of the set which is fixed at this
very tick (R33, R375). -/
def bankNow (s : State) : Mem × Nat :=
  match (s.stage.items.find? (·.type == 0x01)).filter fun _ =>
      s.rd PF_STATE_STATE == 5 && s.stage.checked && s.rd PF_FIX_TICK_T == s.now && credited s with
  | some x => (memWrBytes [] 0 x.payload, payNat x.payload 8 4 % 8192)
  | none => (s.sched, s.rd SCHED_POS_CYCLE_LEN)

/-- The delay lists for which the schedule of this frame holds no DISPATCH_ADVANCE entry (R364). -/
def unscheduledLists (s : State) : List Nat :=
  let (bank, len) := bankNow s
  (List.range 4).filter fun l =>
    !(List.range len).any fun f => (frameSlots bank f).any fun e => e.type == 0x50 && e.unit == l

/-- The lists without a window advance by up to 64 entries (R364). Expiries that fall on uncredited ticks wait for the
first credited one (R52, R452). -/
def advanceUnscheduled (s : State) : State :=
  let hi := match s.tick.lateFrom with
    | some a => a - 1
    | none => s.now
  (unscheduledLists s).foldl (fun t l => advanceList l 0 hi 64 t) s

/-- At a credited tick, the entries of every list whose expiries fell on the uncredited or skipped ticks before it are
released (R50, R52). -/
def releaseMissed (s : State) : State :=
  match s.tick.lateFrom with
  | none => s
  | some a =>
    if credited s && !haltDue s then
      let s := (List.range 4).foldl (fun t l => advanceList l a (t.now - 1) t.disp.jobs.length t) s
      s.updTick fun t => { t with lateFrom := none }
    else s

/-- What the tick does to the dispatcher (R52, R363, R364): a frame with a stall is counted, expiries of uncredited ticks
are released, and lists without a window advance. -/
def dispTick (stalled : Bool) (s : State) : State :=
  let s := if stalled || s.disp.stalled then s.incSat DP_COUNTS_ENQ_STALL_FRAMES else s
  let s := updJobs (fun d => { d with stalled := false }) s
  let s := if (unscheduledLists s).isEmpty then s else s.incSat DP_COUNTS_B_UNSCHEDULED_ADVANCE
  serveDispatch 64 (noteJobs (advanceUnscheduled (releaseMissed s)))

/-- A worker's busy fractions at the end of a frame (R376). -/
def workerFrame (w : Nat) (s : State) : State :=
  let t := s.cycle
  let s := updWorker w (fun u =>
    let b := u.busy + (match u.since with
      | some x => t - x
      | none => 0)
    { u with busy := 0, since := u.since.map fun _ => t, frames := (b :: u.frames).take 256 }) s
  let fs := (sget {} s.disp.workers w).frames
  let frac (k : Nat) : Nat :=
    min 65535 ((fs.take k).foldl (· + ·) 0 * 65536 / max 1 ((s.disp.cycles.take k).foldl (· + ·) 0))
  ((s.wr WK_BUSY_F1 (frac 1) 0 w).wr WK_BUSY_F16 (frac 16) 0 w).wr WK_BUSY_F256 (frac 256) 0 w

/-- The busy fractions of all workers at the end of a frame of n core cycles (R376); an uncredited frame enters none. A
worker that is not listed has never been busy. -/
def workerFrames (cred : Bool) (n : Nat) (s : State) : State :=
  if cred then
    let s := s.updDisp fun d => { d with cycles := (n :: d.cycles).take 256 }
    s.disp.workers.foldl (fun t e => workerFrame e.1 t) s
  else
    let t := s.cycle
    s.updDisp fun d => { d with workers := d.workers.map fun e => (e.1, { e.2 with busy := 0, since := e.2.since.map fun _ => t }) }

end Sys2Proof.Machine
end

