-- ==== Sys2Proof/Machine/ReelOps.lean ====
section
/-! DEFINITION. The reel engines' shared operations (R77 to R102): causes, substitution, fetching and
checking a line, decoding an operation's header, emitting vectors, and ending a reel. -/

namespace Sys2Proof.Machine

open F

/-- Reel engine n beside its registers. -/
def reel (s : State) (n : Nat) : ReelU := sget {} s.reels n

/-- Changes reel engine n. -/
def updReel (n : Nat) (f : ReelU → ReelU) (s : State) : State :=
  s.updReels fun m => sput {} m n (f (sget {} m n))

/-- Reel states (RE_STATUS.STATE): 0 IDLE, 1 ARMED, 2 PREFETCH, 3 RUNNING, 4 RUNDOWN, 5 SUBSTITUTING,
6 HOLDING. -/
def reelState (s : State) (n : Nat) : Nat := s.rd RE_STATUS_STATE n

/-- Causes (RE_STATUS.END_CAUSE). -/
abbrev Cause := Nat
def causeFinal : Cause := 1
def causeAbort : Cause := 2
def causeDebug : Cause := 3
def causeUnderrun : Cause := 4
def causeSplice : Cause := 5
def causeAlarm : Cause := 6
def causePoison : Cause := 7
def causeClock : Cause := 8
def causeFormat : Cause := 9
def causeShort : Cause := 10

/-- Is group n in the reel and catch role (R87, R289)? -/
def isReelGroup (s : State) (n : Nat) : Bool := bits (s.rd LG_ROLE_WORD0 n) 2 0 == 1

/-- Does lane i of group n carry a word (R81, R302)? With SPARE set one lane of the eight carries none. -/
def carriesWord (s : State) (n i : Nat) : Bool :=
  let w := s.rd LG_ROLE_WORD0 n
  if !bit w 3 then true
  else if bit w 4 then i != bits w 7 5
  else i != 7

/-- A cause is latched: the first sets END_CAUSE, every one its bit of CAUSE_SEEN (R97). -/
def latchCause (n : Nat) (c : Cause) (s : State) : State :=
  let first := s.rd RE_STATUS_END_CAUSE n == 0
  let s := s.setmbit RE_STATUS_CAUSE_SEEN c true n
  if first then updReel n (fun u => { u with causeTick := s.now }) (s.wr RE_STATUS_END_CAUSE c n)
  else s

/-- The taint causes are latched in a burst (R97): UNDERRUN, SPLICE, ALARM, POISON, CLOCK or FORMAT. -/
def tainted (s : State) (n : Nat) : Bool := s.rd RE_STATUS_CAUSE_SEEN n / 16 % 64 != 0

/-- The position of the stop point at which a request latched now ends the burst (R95, R98): the first
stop point at or after the first vector cycle not yet written. -/
def nextStopAt (s : State) (n : Nat) : Nat :=
  if s.rd VCYCLE_VC n == (reel s n).stopVc && (reel s n).initStop then (reel s n).stopVc
  else s.rd NEXT_STOP_VC_VC n

/-- The lowest affected vector cycle so far (R102). -/
def addTaint (n vc : Nat) (s : State) : State :=
  updReel n (fun u => { u with firstTaint := some (match u.firstTaint with
    | none => vc
    | some x => min x vc) }) s

/-- A taint cause handled by substitution (R95, R98 to R100): the engine writes no further vector, and the
lanes will hold at the next stop point. -/
def substitute (n : Nat) (c : Cause) (vc : Nat) (s : State) : State :=
  let st := reelState s n
  if st == 3 || st == 4 then
    let stop := nextStopAt s n
    addTaint n vc (updReel n (fun u =>
      { u with stopped := true, endVc := some (u.endVc.getD stop) })
      ((latchCause n c s).wr RE_STATUS_STATE 5 n))
  else if st == 5 || st == 6 then addTaint n vc (latchCause n c s)
  else if st == 2 then addTaint n vc (updReel n (fun u => { u with stopped := true }) (latchCause n c s))
  else s

/-- RESULT of the reel form of a completion (R349): REEL_ID reads 0 for a reel that did not come as far as a correct header
(log entry 26). -/
def reelResult (s : State) (n hdrField : Nat) : Nat :=
  s.rd RE_STATUS_END_CAUSE n + s.rd RE_STATUS_CAUSE_SEEN n * 16
    + (if (reel s n).hdrOk then s.rd REEL_ID_NOW_REEL_ID n * 65536 else 0) + hdrField * 2 ^ 48

/-- The outcome of a reel is decided, in the reel form (R97, R349): the completion gives endTick in place of the
stamp's tick. -/
def decideReel (n code hdrField endTick word2 : Nat) (s : State) : State :=
  match (reel s n).op with
  | none => s
  | some (r, k) =>
    let s := if code = Code.ABORTED then s.incWrap ABORT_COUNT_COUNT n else s
    let s := decideOp r k code 0 (reelResult s n hdrField) s
    s.updOp r k fun o => { o with reelForm := some (endTick, word2) }

/-- The burst ends for the splice port: SPL_FLUSH pulses, and the vectors left are discarded and counted (R84). -/
def flushSplice (n : Nat) (s : State) : State :=
  updReel n (fun u => { u with splice := [], asked := [], ahead := 0, flushes := u.flushes + 1 })
    (s.incWrap SPLICE_LEFTOVER_VECTORS n 0 (reel s n).splice.length)

/-! The splice port's signals to region n (R83): SPL_READY, SPL_DEMAND, SPL_VCYCLE, SPL_ACTIVE, SPL_FLUSH (by its pulses)
and SPL_LEVEL. -/

/-- SPL_READY: at least 8 free entries. -/
def splReady (s : State) (n : Nat) : Bool := decide ((reel s n).splice.length + 8 ≤ 128)

/-- SPL_DEMAND: the spliced vectors decoded and not yet written. -/
def splDemand (s : State) (n : Nat) : Nat := min 65535 (((reel s n).asked.map (·.2)).foldl (· + ·) 0)

/-- SPL_VCYCLE: the vector cycle of the next write, valid while SPL_DEMAND is not 0. -/
def splVcycle (s : State) (n : Nat) : Option Nat := (reel s n).asked.head?.map (·.1)

/-- SPL_ACTIVE: PREFETCH, RUNNING, RUNDOWN and SUBSTITUTING. -/
def splActive (s : State) (n : Nat) : Bool := decide (2 ≤ reelState s n) && decide (reelState s n ≤ 5)

/-- SPL_FLUSH: how many times it has pulsed. -/
def splFlush (s : State) (n : Nat) : Nat := (reel s n).flushes

/-- SPL_LEVEL: the occupancy of the splice FIFO. -/
def splLevel (s : State) (n : Nat) : Nat := (reel s n).splice.length

/-- A SPLICE of count vectors from vector cycle vc on is decoded: SPL_DEMAND rises (R84). What the fabric wrote before it
was asked is not asked for again. -/
def askSplice (vc count : Nat) (u : ReelU) : ReelU :=
  let k := min u.ahead count
  { u with ahead := u.ahead - k, asked := if k < count then u.asked ++ [(vc + k, count - k)] else u.asked }

/-- The fabric writes one vector: SPL_DEMAND falls and SPL_VCYCLE moves on (R83). -/
def supplySplice (u : ReelU) : ReelU :=
  match u.asked with
  | [] => { u with ahead := u.ahead + 1 }
  | (vc, k) :: t => { u with asked := if 1 < k then (vc + 1, k - 1) :: t else t }

/-- LEVEL shows this many lines, and the frame's lowest level follows (R103). -/
def setLevel (n v : Nat) (s : State) : State :=
  updReel n (fun u => { u with minLevel := min u.minLevel v }) (s.wr BUFFER_LEVEL_LEVEL v n)

/-- The fetch buffer is empty (R99, R103). -/
def dropBuffer (n : Nat) (s : State) : State :=
  setLevel n 0 (updReel n (fun u =>
    { u with opBuf := [], blockBuf := [], fetched := min u.fetched (9 + u.dictLines), freed := 0 }) s)

/-- A reel that does not start ends: IDLE, its cause alone in CAUSE_SEEN, its completion decided, its lines discarded (R88 to
R90, R97, R103). A failed header check gives FORMAT as its END_CAUSE and no more: it counts no format fault and raises no
REEL_FORMAT (DESIGN CHOICE, log entry 26: R95 does so for the faults of the stream, R88 and R103 do not say). -/
def endUnstarted (n code : Nat) (c : Cause) (hdrField : Nat) (s : State) : State :=
  let s := ((s.wr RE_STATUS_END_CAUSE c n).wr RE_STATUS_CAUSE_SEEN (2 ^ c) n).wr RE_STATUS_STATE 0 n
  let s := decideReel n code hdrField s.now 0 s
  dropBuffer n (updReel n (fun u => { u with op := none }) (flushSplice n s))

/-- The checks of a reel header in the order of R88: code and header field index. Within the first row, for which the rule
gives no order, the order is MAGIC, FORMAT, the reserved fields, OP_WORDS, DICT_LINES, RUNDOWN_WORDS, FETCH_LINES, and
last the CRC (DESIGN CHOICE, log entry 77). -/
def checkHeader (s : State) (n : Nat) (h : List Byte) : Option (Nat × Nat) :=
  let m : Mem := (List.range h.length).map fun a => (a, h.getD a 0)
  let f (a k : Nat) := memRd m a k
  let crc := crc32 (h.take 0x3C ++ [0, 0, 0, 0] ++ h.drop 0x40)
  let opEnd := (reel s n).addr + 0x240 + f 0x10 4 * 8
  let chan (a : Nat) := a / 2 ^ 37
  let cap := s.dramCapacity (chan (reel s n).addr)
  let dictEnd := f 0x18 8 + bits (f 0x14 4) 10 0 * 64
  if f 0 4 ≠ 0x4C585245 then some (Code.BAD_FIELD, 1)
  else if f 4 2 ≠ 1 then some (Code.BAD_FIELD, 2)
  else if f 6 2 ≠ 0 ∨ bits (f 0x14 4) 31 11 ≠ 0 ∨ f 0x26 2 ≠ 0 ∨ f 0x2E 2 ≠ 0 ∨ f 0x30 12 ≠ 0 then
    some (Code.BAD_FIELD, 0)
  else if f 0x10 4 < 18 then some (Code.BAD_FIELD, 5)
  else if 1024 < bits (f 0x14 4) 10 0 then some (Code.BAD_FIELD, 6)
  else if f 0x20 4 = 0 then some (Code.BAD_FIELD, 8)
  else if f 0x24 2 = 0 then some (Code.BAD_FIELD, 9)
  else if crc ≠ f 0x3C 4 then some (Code.BAD_FIELD, 11)
  else if bits (f 0x14 4) 10 0 ≠ 0 ∧ f 0x18 8 % 64 ≠ 0 then some (Code.BAD_ALIGN, 7)
  else if bits (f 0x14 4) 10 0 ≠ 0 ∧
      (chan (f 0x18 8) ≠ chan (reel s n).addr ∨ chan (f 0x18 8) * 2 ^ 37 + cap < dictEnd) then
    some (Code.INCONSISTENT, 7)
  else if chan (reel s n).addr * 2 ^ 37 + cap < opEnd then some (Code.INCONSISTENT, 5)
  else if s.rd RE_BUDGET_FETCH_BUDGET n < f 0x24 2 then some (Code.INCONSISTENT, 9)
  else if 4 * s.rd FRAME_WORDS_WORDS n < f 0x20 4 then some (Code.INCONSISTENT, 8)
  else if bits (f 0x14 4) 10 0 = 0 ∧
      (!s.flag RE_STATUS_DICT_VALID n ∨ s.rd DICT_ID_LOADED_DICT_ID n ≠ f 0x0C 4) then
    some (Code.INCONSISTENT, 6)
  else none

/-- The header's fields are taken over (R77, R103). -/
def takeHeader (n : Nat) (h : List Byte) (s : State) : State :=
  let m : Mem := (List.range h.length).map fun a => (a, h.getD a 0)
  let f (a k : Nat) := memRd m a k
  let s := s.wr REEL_ID_NOW_REEL_ID (f 8 4) n
  let s := (List.range 64).foldl (fun t x => t.wr MASK_TABLE_MASK (f (0x40 + x * 8) 8) n x) s
  updReel n (fun u =>
    { u with
      hdrOk := true, hdrAt := s.cycle, opWords := f 0x10 4, dictLines := bits (f 0x14 4) 10 0, dictAddr := f 0x18 8,
      rundown := f 0x20 4, vectors := bits (f 0x28 8) 47 0 }) s

/-- Operation words w to w + k - 1 as a number: from the block buffer what has been decoded, else from the fetch buffer
(R86). -/
def opWordsAt (u : ReelU) (w k : Nat) : Nat :=
  memRd (if w < u.seen then u.blockBuf else u.opBuf) (8 * w) (8 * k)

/-- Operation word w. -/
def opWord (u : ReelU) (w : Nat) : Nat := opWordsAt u w 1

/-- How many operation lines have been fetched, and how many words they hold. -/
def fetchedLines (u : ReelU) : Nat := u.fetched - 9 - u.dictLines
def fetchedWords (u : ReelU) : Nat := fetchedLines u * 8

/-- How many lines the reel has in all (R86). -/
def reelLines (u : ReelU) : Nat :=
  if u.hdrOk then 9 + u.dictLines + (u.opWords + 7) / 8 else 9

/-- Operation words before w have been decoded; those of a block go to the block buffer (R86). -/
def decodeTo (w : Nat) (u : ReelU) : ReelU :=
  if w ≤ u.seen then u
  else
    { u with
      seen := w,
      blockBuf := if u.blocks.isEmpty then u.blockBuf
        else u.blockBuf ++ u.opBuf.filter fun c => decide (8 * u.seen ≤ c.1) && decide (c.1 < 8 * w) }

/-- Is the late-alarm window of a line that arrived at core cycle t closed (R275)? -/
def windowShut (s : State) (t : Nat) : Bool := decide (t + 20 ≤ s.cycle)

/-- How many operation lines may be freed by now: wholly decoded, and their late-alarm windows closed (R86). -/
def freeable (s : State) (u : ReelU) : Nat :=
  let decoded := if u.opWords ≤ u.seen then fetchedLines u else min (u.seen / 8) (fetchedLines u)
  match u.lines.find? fun l => decide (9 + u.dictLines ≤ l.2.1) && !windowShut s l.2.2 with
  | some l => min decoded (l.2.1 - 9 - u.dictLines)
  | none => decoded

/-- Lines are freed (R86). -/
def freeLines (n : Nat) (s : State) : State :=
  let k := freeable s (reel s n)
  if k ≤ (reel s n).freed then s
  else updReel n (fun u => { u with freed := k, opBuf := u.opBuf.filter fun c => decide (64 * k ≤ c.1) }) s

/-- Fetch-buffer lines held now (R103). -/
def bufferLevel (u : ReelU) : Nat := fetchedLines u - u.freed

/-- BUFFER_LEVEL follows the fetch buffer (R86, R103). -/
def noteLevel (n : Nat) (s : State) : State :=
  let s := freeLines n s
  setLevel n (bufferLevel (reel s n)) s

/-- The fetch buffers of the engines with a burst follow the core cycle (R86, R103). -/
def noteLevels (s : State) : State :=
  (s.reels.filter fun e => splActive s e.1).foldl (fun t e => noteLevel e.1 t) s

/-- What the tick does to a reel engine: MIN_LEVEL shows the frame that has ended (R103). -/
def reelTick (n : Nat) (s : State) : State :=
  let s := if splActive s n then noteLevel n s else s
  let s := s.wr BUFFER_LEVEL_MIN_LEVEL (reel s n).minLevel n
  updReel n (fun u => { u with minLevel := s.rd BUFFER_LEVEL_LEVEL n }) s

/-- The first operation is checked with the header: a STOP with FINAL 0 and NEXT from 1 to RUNDOWN_WORDS
(R88). -/
def firstOpOk (u : ReelU) : Bool :=
  let w := opWord u 0
  bits w 63 60 == 6 && bits w 56 56 == 0 && decide (1 ≤ bits w 31 0) && decide (bits w 31 0 ≤ u.rundown)

/-- A fetched line failed: a POISONED read, of tag 0, or a late alarm (R88, R89, R95, R100, R102). A header or dictionary
line clears DICT_VALID and the reel does not start; an operation line taints the burst. -/
def lineFailed (n line tag : Nat) (c : Cause) (s : State) : State :=
  let u := reel s n
  let st := reelState s n
  if line < 9 + u.dictLines && (st == 1 || st == 2) then
    endUnstarted n Code.TAINTED c 0 (s.wr RE_STATUS_DICT_VALID 0 n)
  else
    let word := (line - 9 - u.dictLines) * 8
    let hit := u.draws.filterMap fun (w, len, per, vc) =>
      if line < 9 + u.dictLines ∨ word + 8 ≤ w ∨ w + len ≤ word then none
      else if per = 0 then some vc else some (vc + (word - (w + 1)) / per)
    let vc := hit.foldl min (s.rd VCYCLE_VC n)
    let s := if u.lineHit then s else updReel n (fun u => { u with lineHit := true, tag := tag }) s
    let s := substitute n c vc s
    if (reel s n).taintRaised then s
    else updReel n (fun u => { u with taintRaised := true }) (raise E.TAINT n vc s)

/-- The address of the next line to fetch, in the order of R86. -/
def fetchAddr (u : ReelU) : Nat :=
  let i := u.fetched
  if i < 9 then u.addr + i * 64
  else if i < 9 + u.dictLines then u.dictAddr + (i - 9) * 64
  else u.addr + 0x240 + (i - 9 - u.dictLines) * 64

/-- One line is fetched, in the order of R86. A dictionary load that is broken off leaves DICT_VALID and DICT_ID_LOADED as
they stood, though lines of the dictionary have been overwritten (DESIGN CHOICE, log entry 26: R86 sets them by a load that
ends). -/
def fetchLine (n : Nat) (s : State) : State :=
  let u := reel s n
  let i := u.fetched
  let (r, s) := readLine (streamReel n) (fetchAddr u) s
  let s := (s.incWrap LINES_FETCHED_LINES n)
  let s := updReel n (fun u =>
    { u with
      fetched := i + 1,
      lines := if r.tag = 0 then u.lines else (u.lines.filter fun l => l.1 != r.tag) ++ [(r.tag, i, s.cycle)] }) s
  let s :=
    if i < 9 then updReel n (fun u => { u with header := u.header ++ r.data }) s
    else if i < 9 + u.dictLines then
      updReel n (fun u => { u with dict := memWrBytes u.dict ((i - 9) * 64) r.data }) s
    else updReel n (fun u => { u with opBuf := memWrBytes u.opBuf ((i - 9 - u.dictLines) * 64) r.data }) s
  let s := if r.code = Code.POISONED then lineFailed n i 0 causePoison s else s
  if (reel s n).op.isNone then s
  else if i = 8 then
    match checkHeader s n (reel s n).header with
    | some (code, fld) => endUnstarted n code causeFormat fld s
    | none => takeHeader n (reel s n).header s
  else if i = 8 + u.dictLines ∧ u.dictLines ≠ 0 then
    let h := u.header
    let s := updReel n (fun u =>
      { u with
        dict := u.dict.filter fun c => decide (c.1 < u.dictLines * 64), dictLoaded := u.dictLines, dictAt := s.cycle }) s
    (s.wr DICT_ID_LOADED_DICT_ID ((h.getD 12 0).toNat + (h.getD 13 0).toNat * 256 +
      (h.getD 14 0).toNat * 65536 + (h.getD 15 0).toNat * 16777216) n).wr RE_STATUS_DICT_VALID 1 n
  else if i = 9 + u.dictLines ∧ !firstOpOk (reel s n) then
    endUnstarted n Code.BAD_FIELD causeFormat 13 s
  else s

/-- Fetches up to k lines, while the reel has lines to fetch, the buffer has room (R75, R86), the window of this PARAM may
touch the line (R36) and its bank takes an activate (R254). -/
def fetchLines (n param : Nat) : Nat → State → State
  | 0, s => s
  | k + 1, s =>
    let s := freeLines n s
    let u := reel s n
    let st := reelState s n
    if (st == 2 || st == 3 || st == 4) && decide (u.fetched < reelLines u) &&
        decide (bufferLevel u < 2048) && !u.stopped && inMasks s (fetchAddr u) param &&
        !bankBlocked s (fetchAddr u) then
      fetchLines n param k (fetchLine n s)
    else s

/-- Nothing is left to fetch in this window: buffer full, stream at its end, or no reel that fetches. -/
def fetchDone (s : State) (n : Nat) : Bool :=
  let u := reel s n
  let st := reelState s n
  !(st == 2 || st == 3 || st == 4) || decide (reelLines u ≤ u.fetched) || decide (2048 ≤ bufferLevel u) ||
    u.stopped

/-- A format fault is counted and raised (R95, R103). -/
def formatFault (n : Nat) (injected : Bool) (s : State) : State :=
  raiseInj E.REEL_FORMAT n (s.rd VCYCLE_VC n) injected (s.incWrap FORMAT_COUNT_COUNT n)

/-- A breach by an operation other than STOP: substitution (R95). -/
def formatBreach (n : Nat) (injected : Bool) (s : State) : State :=
  substitute n causeFormat (s.rd VCYCLE_VC n) (formatFault n injected s)

/-- The burst ends where the engine stands, in the hold words of the last stop point passed (R95): a STOP that breaks the
rules, or the position that a NEXT not met gives. FORMAT is a taint cause, so the engine leaves RUNNING or RUNDOWN for
SUBSTITUTING (R90), with no position left to substitute. The lowest affected vector cycle of this cause is the ending
position itself: FIRST_VC is then LAST_VC + 1 where no other cause tainted the burst (DESIGN CHOICE, log entry 26: the spec
names no affected vector cycle). -/
def formatEnd (n vc : Nat) (s : State) : State :=
  let st := reelState s n
  let s := addTaint n vc (latchCause n causeFormat (formatFault n false s))
  let s := if st = 3 ∨ st = 4 then s.wr RE_STATUS_STATE 5 n else s
  updReel n (fun u => { u with stopped := true, endVc := some vc, subst := true }) s

/-- The vectors an operation header word produces in all, 0 for those that produce none (R79). -/
def opCount (w : Nat) : Nat :=
  match bits w 63 60 with
  | 1 => bits w 15 0
  | 2 => bits w 31 0
  | 4 => bits w 10 0
  | 5 => bits w 15 0
  | _ => 0

/-- The words of an operation, header included (R79): a block's header only. -/
def opLength (w : Nat) : Nat :=
  match bits w 63 60 with
  | 0 => 1 + bits w 31 0
  | 1 => 1 + 8 * bits w 15 0
  | 2 => 9
  | 6 => 9
  | _ => 1

/-- Are the reserved bits of an operation's header 0 and its fields in range (R79, R80)? -/
def opOk (s : State) (n w : Nat) : Bool :=
  match bits w 63 60 with
  | 0 => bits w 59 32 == 0
  | 1 => bits w 56 16 == 0 && bits w 15 0 != 0
  | 2 => bits w 56 32 == 0 && bits w 31 0 != 0
  | 3 => bits w 59 28 == 0 && decide (1 ≤ bits w 27 16) && decide (bits w 27 16 ≤ 2048) && bits w 15 0 != 0
  | 4 => bits w 56 26 == 0 && bits w 15 11 == 0 && decide (1 ≤ bits w 10 0) && decide (bits w 10 0 ≤ 1024)
      && decide (bits w 25 16 + bits w 10 0 ≤ 1024)
  | 5 => bits w 54 48 == 0 && bits w 39 26 == 0 && decide (bits w 56 55 < 2) && bits w 15 0 != 0 &&
      decide (bits w 25 16 < (reel s n).dictLoaded)
  | 6 => bits w 59 57 == 0 && bits w 55 48 == 0
  | _ => false

/-- After an operation or a block pass the decode position moves on: at the end of a block it returns to
the block's start while passes are left (R79). -/
def advance (u : ReelU) (dst : Nat) : ReelU :=
  match u.blocks with
  | [] => { u with pos := dst, cur := none }
  | b :: t =>
    if dst = b.start + b.words then
      if b.left ≤ 1 then
        match t with
        | [] => { u with pos := dst, cur := none, blocks := [] }
        | c :: t' =>
          if dst = c.start + c.words then
            if c.left ≤ 1 then { u with pos := dst, cur := none, blocks := t' }
            else { u with pos := c.start, cur := none, blocks := { c with left := c.left - 1 } :: t' }
          else { u with pos := dst, cur := none, blocks := t }
      else { u with pos := b.start, cur := none, blocks := { b with left := b.left - 1 } :: t }
    else { u with pos := dst, cur := none }

/-- The mask vector of a MASK_SEL (R81), 512 bits; in 7 + 1 operation word 7's mask is 0. -/
def maskVector (s : State) (n m : Nat) : Nat :=
  (List.range (if bit (s.rd LG_ROLE_WORD0 n) 3 then 7 else 8)).foldl (fun v i => v + s.rd MASK_TABLE_MASK n (m * 8 + i) * 2 ^ (64 * i)) 0

/-- Vectors are written to the transmit FIFOs: positions from VCYCLE on (R81, R103). -/
def emit (n maskSel : Nat) (vecs : List Nat) (count : Nat) (s : State) : State :=
  let vc := s.rd VCYCLE_VC n
  let seg : TxSeg := { vc := vc, count := count, mask := maskVector s n maskSel, invalid := false, vecs := vecs }
  updReel n (fun u => { u with tx := u.tx ++ [seg] })
    ((s.incWrap VECTORS_EMITTED_VECTORS n 0 count).wr VCYCLE_VC (vc + count) n)

/-- Does an operation stay within the block it stands in, and within the stream (R80)? -/
def inBlock (u : ReelU) (w : Nat) : Bool :=
  (match u.blocks with
  | [] => true
  | b :: _ => decide (u.pos + opLength w ≤ b.start + b.words)) && decide (u.pos + opLength w ≤ u.opWords)

/-- How many words a lane of group n takes from its transmit FIFO in a number of core cycles: ⌊cycles × R × 16,384 ÷
(99 × 10⁹ × 16,385)⌋ for the exact lane rate R of its group, and 0 outside the reel and catch role (R94; log entry 77). -/
def wordsIn (s : State) (n cycles : Nat) : Nat :=
  let w0 := s.rd LG_ROLE_WORD0 n
  let w1 := s.rd LG_PLL_WORD1 n
  let rate4 := bits w1 18 0 * 1000 * bits w1 34 24 * 2 * (if bit w0 10 then 2 else 1)
  if bits w0 2 0 = 1 then cycles * rate4 * 16384 / (4 * 2 ^ bits w1 37 35 * 99 * 10 ^ 9 * 16385) else 0

/-- The word times that have passed on the lanes since the word of vector cycle 0 (R89). -/
def laneTimes (s : State) (n : Nat) : Nat :=
  match (reel s n).started with
  | none => 0
  | some c => wordsIn s n (s.cycle - c)

/-- The first vector cycle not sent: the lanes read every vector written, in order (R98). -/
def notSent (s : State) (n : Nat) : Nat := min (s.rd VCYCLE_VC n) (laneTimes s n)

/-- The word times of a burst are not those of the core clock while the core PLL smoulders, or once a clock has failed it
(R101, R306). -/
def wordsLoose (s : State) (n : Nat) : Bool :=
  s.rd ALIGN_STATUS_STATE == 4 || s.mbit RE_STATUS_CAUSE_SEEN causeClock n

/-- Is a transmit FIFO empty at this word time (R95, R98)? -/
def fifoEmpty (s : State) (n : Nat) : Bool := wordsLoose s n || decide (s.rd VCYCLE_VC n ≤ laneTimes s n)

/-- How many vectors the transmit FIFOs of 512 words take now (R75); the first are written in frame S - 1 (R89). -/
def fifoRoom (s : State) (n : Nat) : Nat :=
  if reelState s n = 2 ∧ s.now + 1 < s.rd START_TICK_S n then 0
  else 512 - (s.rd VCYCLE_VC n - notSent s n)

/-- May the engine decode now: PREFETCH, RUNNING or RUNDOWN, and nothing has stopped it or ended the
burst? -/
def decoding (s : State) (n : Nat) : Bool :=
  let st := reelState s n
  (st == 2 || st == 3 || st == 4) && !(reel s n).stopped && (reel s n).endVc.isNone && (reel s n).hdrOk

/-- The words that must be there before an operation is decoded: the payload of a LITERAL or a PAD need not. -/
def needWords (w : Nat) : Nat := if bits w 63 60 < 2 then 1 else opLength w

/-- The operation at the decode position can be decoded: its words have been fetched, or decoded in an earlier pass. -/
def opFetched (u : ReelU) : Bool :=
  decide (u.pos < u.opWords) &&
    decide (u.pos + needWords (opWord u u.pos) ≤ max u.seen (fetchedWords u))

/-- The next operation, when the engine may decode it and its opcode is opc, or it is invalid: its header
word, and whether it breaks the reel rules. An operation of another opcode is none of this command's. -/
def nextOp (s : State) (n opc : Nat) : Option (Nat × Bool) :=
  let u := reel s n
  if !decoding s n then none
  else match u.cur with
  | some c => if bits c.header 63 60 ≠ opc then none else some (c.header, false)
  | none =>
    if u.opWords ≤ u.pos ∧ u.hdrOk then some (0, true)
    else if max u.seen (fetchedWords u) ≤ u.pos then none
    else
      let w := opWord u u.pos
      let bad := !opOk s n w || !inBlock u w
      if 7 ≤ bits w 63 60 then some (w, true)
      else if bits w 63 60 ≠ opc then none
      else if !opFetched u ∧ !bad then none
      else some (w, bad)

/-- Decoding one header: an armed INJ_FORMAT makes it invalid; a breach is handled as R95 gives; anything but a STOP at
NEXT ends the burst there. Otherwise run has its effect. -/
def decodeOp (n opc : Nat) (run : Nat → State → State) (s : State) : State :=
  match nextOp s n opc with
  | none => s
  | some (w, bad) =>
    let (inj, s) := takeInj FI_REEL_INJECT_INJ_FORMAT 0
      (decide (s.rd FI_REEL_INJECT_ENGINE = n) && (reel s n).cur.isNone) s
    let stop := opc = 6 ∧ bits w 63 60 = 6
    if inj then formatBreach n true s
    else if ¬stop ∧ (reel s n).initStop ∧ s.rd VCYCLE_VC n = s.rd NEXT_STOP_VC_VC n then
      formatEnd n (s.rd VCYCLE_VC n) s
    else if ¬stop ∧ !(reel s n).initStop then formatBreach n false s
    else if bad then
      if stop then formatEnd n (s.rd VCYCLE_VC n) s else formatBreach n false s
    else run w s

/-- The operation under way, of header w: a new one begins, and a REPEAT_VECTOR takes its payload vector. -/
def opNow (u : ReelU) (w : Nat) : OpNow :=
  u.cur.getD { pos := u.pos, header := w, payload := if bits w 63 60 = 2 then opWordsAt u (u.pos + 1) 8 else 0 }

/-- How many vectors of an operation can be produced with the words there are; perVec payload words make one. -/
def opReady (u : ReelU) (c : OpNow) (perVec : Nat) : Nat :=
  let left := opCount c.header - c.done
  if perVec = 0 then left
  else min left ((max u.seen (fetchedWords u) - (c.pos + 1 + perVec * c.done)) / perVec)

/-- How many vectors a step of an operation produces: k, or all it can for k = 0, not past NEXT, and only while the
transmit FIFOs take them (R75, R95). -/
def opStep (s : State) (n k perVec : Nat) (c : OpNow) : Nat :=
  let ready := opReady (reel s n) c perVec
  min (min (if k = 0 then ready else min k ready) (s.rd NEXT_STOP_VC_VC n - s.rd VCYCLE_VC n)) (fifoRoom s n)

/-- A step of an operation that produces vectors: k of them (all it can for k = 0); vec gives vector x of the operation,
rep says that all are one vector. -/
def emitOp (n k : Nat) (rep : Bool) (perVec : Nat) (vec : ReelU → OpNow → Nat → Nat) (w : Nat) (s : State) : State :=
  let u := reel s n
  let c := opNow u w
  let cnt := opStep s n k perVec c
  let left := opCount w - c.done
  let vecs := if rep then [vec u c 0] else (List.range cnt).map fun x => vec u c (c.done + x)
  let vc := s.rd VCYCLE_VC n
  let room := s.rd NEXT_STOP_VC_VC n - vc
  let drew := (c.pos, opLength w, perVec, vc - c.done)
  let used := if perVec = 0 then c.pos + opLength w else c.pos + 1 + perVec * (c.done + cnt)
  let s := updReel n (fun u => decodeTo used
    { u with
      cur := some { c with done := c.done + cnt },
      draws := if cnt = 0 ∨ u.draws.contains drew then u.draws else u.draws ++ [drew] }) s
  let s := if cnt = 0 then s else emit n (bits w 59 57) vecs cnt s
  if cnt = room ∧ room < left then formatEnd n (vc + cnt) s
  else if c.done + cnt = opCount w then
    noteLevel n (updReel n (fun u => advance u (c.pos + opLength w)) s)
  else noteLevel n s

/-- A run-down begins (R95): the burst will end at the first stop point at or after the position. -/
def runDown (n : Nat) (c : Cause) (s : State) : State :=
  let s := (latchCause n c s).wr RE_STATUS_STATE 4 n
  let u := reel s n
  if u.endVc.isNone && u.initStop && s.rd VCYCLE_VC n == u.stopVc then
    updReel n (fun u => { u with stopped := true, endVc := some u.stopVc }) s
  else s

/-- A debug halt or an abort reaches an engine (R90, R95, R96, R451). -/
def stopReel (n : Nat) (c : Cause) (s : State) : State :=
  let st := reelState s n
  if st == 1 || st == 2 then endUnstarted n Code.ABORTED c 0 s
  else if st == 3 then runDown n c s
  else s

/-- Has the natural completion of the burst been latched, or is it latched at this tick (R96)? -/
def naturalStands (s : State) (n : Nat) : Bool :=
  let u := reel s n
  u.final && decide (s.rd RE_STATUS_END_CAUSE n ≤ 1) &&
    (match u.heldAt with
     | some t => decide (t < s.now)
     | none => false)

/-- A start tick found among uncredited or skipped ticks (R52, R89). -/
def missStart (a b : Nat) (s : State) : State :=
  (List.range 16).foldl (fun t n =>
    let st := reelState t n
    if (st == 1 || st == 2) && decide (a ≤ t.rd START_TICK_S n) && decide (t.rd START_TICK_S n ≤ b) then
      endUnstarted n Code.ABORTED causeClock 0 t
    else t) s

end Sys2Proof.Machine
end

