-- ==== Sys2Proof/Machine/CatchOps.lean ====
section
/-! DEFINITION. The catch blocks' shared operations (R105 to R127): the due entry of the delay line, opening
and closing runs, summaries, creating and deferring MARK and TAINT records, and the end of a burst. -/

namespace Sys2Proof.Machine

open F

/-- Catch block n beside its registers. -/
def catch_ (s : State) (n : Nat) : CatchU := sget {} s.catches n

/-- Changes catch block n. -/
def updCatch (n : Nat) (f : CatchU → CatchU) (s : State) : State :=
  s.updCatches fun m => sput {} m n (f (sget {} m n))

/-- A finished burst stays in the delay line when its engine lets go of it (R105), and as what the lanes have sent (R292),
until the group enters its role anew. -/
def lineKeep (n : Nat) (s : State) : State :=
  let e := reel s n
  match (catch_ s n).w0, e.op with
  | some w0, some op =>
    let b : LineBurst :=
      { op := op, w0 := w0, tx := e.tx, endVc := e.endVc, hold := e.laneHold.getD { words := [] }, reelId := s.rd REEL_ID_NOW_REEL_ID n,
        start := s.rd START_TICK_S n,
        closed := (catch_ s n).lastClosed.any fun c => c.1 == op,
        bp := ((catch_ s n).lastClosed.map (·.2)).getD 0 }
    updCatch n (fun u => { u with w0 := none, prev := b :: u.prev }) s
  | _, _ => s

/-- The stamp of this core cycle is taken: its sequence number (R53, R118). -/
def takeStamp (s : State) : Nat × State :=
  (s.ev.seq, s.updEv fun v => { v with seq := (v.seq + 1) % 65536 })

/-- The flow of a catch block. -/
def catchFlow (s : State) (n : Nat) : Nat := s.rd CB_FLOW_FLOW n

/-- C: the capacity of the block's flow (R119), without what other blocks hold of it since a fix changed CB_FLOW (R359). -/
def catchCapacity (s : State) (n : Nat) : Nat :=
  let f := catchFlow s n
  flowCapacity s f - (recordsIn s f - (catch_ s n).flow.countP (·.inFlow == some f))

/-- B: the record budget per frame; below 4 acts as 4 (R119). -/
def catchBudget (s : State) (n : Nat) : Nat := max 4 (s.rd CB_BUDGET_BUDGET n)

/-- The records held (R119). -/
def recordsHeld (s : State) (n : Nat) : Nat :=
  let u := catch_ s n
  u.fifo.length + u.flow.length + u.runs.length + (if u.pendingSum.isSome then 1 else 0)

/-- The burst parity of the current or last burst. -/
def burstParity (s : State) (n : Nat) : Nat := s.rd CB_STATUS_BP n

/-- FIFO_LEVEL follows the record FIFO. -/
def noteFifo (n : Nat) (s : State) : State :=
  let l := (catch_ s n).fifo.length
  updCatch n (fun u => { u with maxLevel := max u.maxLevel l }) (s.wr FIFO_LEVEL_LEVEL l n)

/-- A record enters the record FIFO (R117, R118). -/
def pushRec (n : Nat) (r : Rec) (s : State) : State :=
  noteFifo n (updCatch n (fun u => { u with fifo := u.fifo ++ [r] }) s)

/-- A record enters the block's flow (R123, R372). -/
def recToFlow (n : Nat) (r : Rec) (s : State) : State :=
  flowEnter (catchFlow s n)
    (updCatch n (fun u => { u with flow := u.flow ++ [{ r with inFlow := some (catchFlow s n) }] }) (s.incWrap RECORDS_MADE_RECORDS n))

/-- May a MARK or TAINT record be created: conditions 1 and 2 of R119 (R121). -/
def mayCreate (s : State) (n : Nat) : Bool :=
  decide ((catch_ s n).opened < catchBudget s n) && decide (recordsHeld s n + 1 < catchCapacity s n)

/-- The deferred records are created in order while they can be (R121). -/
def createDeferred (n : Nat) : Nat → State → State
  | 0, s => s
  | k + 1, s =>
    match (catch_ s n).deferred with
    | [] => s
    | r :: t =>
      if mayCreate s n then
        createDeferred n k (pushRec n r
          (updCatch n (fun u => { u with deferred := t, opened := u.opened + 1 }) s))
      else s

/-- A MARK or TAINT record is created, or deferred behind those that wait (R121). A deferred record is created as soon as it
can be: at a tick, when a flush has made room, or before a FAIL record would open. -/
def createRec (n : Nat) (r : Rec) (s : State) : State :=
  createDeferred n ((catch_ s n).deferred.length + 1) (updCatch n (fun u => { u with deferred := u.deferred ++ [r] }) s)

/-- A record stamped now. -/
def mkRec (type vc lane flags body length : Nat) (s : State) : Rec × State :=
  let (q, s') := takeStamp s
  ({ type := type, vc := vc, lane := lane, flags := flags, body := body, length := length, bp := 0,
     tick := s.now, off := s.offset, dev := s.rd MS_STATUS_ADDR, seq := q }, s')

/-- A run closes: its FAIL record enters the record FIFO (R117). -/
def closeRun (n : Nat) (r : Run) (s : State) : State :=
  pushRec n
    { type := 1, vc := r.vc, lane := 8 * n + r.lane, flags := r.flags, body := r.mask,
      length := r.length, bp := r.bp, tick := r.tick, off := r.off, dev := r.dev, seq := r.seq }
    (updCatch n (fun u => { u with runs := u.runs.filter fun x => x.lane != r.lane }) s)

/-- The open run of a lane closes, if there is one. -/
def closeLane (n i : Nat) (s : State) : State :=
  match (catch_ s n).runs.find? (fun r => r.lane == i) with
  | some r => closeRun n r s
  | none => s

/-- The flags of the conditions of R119 that a new FAIL record fails: 1 BUDGET, 2 RATE, 4 BACKLOG; while a pending
summary exists, BACKLOG (R120). 0: it may open. -/
def failBlocked (s : State) (n : Nat) : Nat :=
  let u := catch_ s n
  (if catchBudget s n ≤ u.opened then 1 else 0) + (if 48 ≤ u.fifo.length then 2 else 0) +
    (if u.pendingSum.isSome ∨ catchCapacity s n ≤ recordsHeld s n + 1 then 4 else 0)

/-- Sets a _SEEN bit of the burst being compared: 0 DISAGREE, 1 DELAY_FAULT, 2 SUMMARY, 3 MISSING,
4 CLOCK_GAP. -/
def setSeen (n b : Nat) (s : State) : State := s.setmbit CB_STATUS_SEEN b true n

/-- A failing word of a burst of parity bp that opens no run is suppressed into the frame's summary (R115, R119, R120). -/
def suppress (n i vc flag bp : Nat) (s : State) : State :=
  let u := catch_ s n
  let entry := !s.flag CB_STATUS_SUMMARY n
  let s := if entry then raise E.CATCH_SUMMARY n flag (setSeen n 2 (s.wr CB_STATUS_SUMMARY 1 n)) else s
  let (first, s) := match u.sumFirst with
    | some r => (r, s)
    | none =>
      let (r, s) := mkRec 2 vc 0 0 0 0 s
      ({ r with bp := bp }, s)
  updCatch n (fun u =>
    { u with
      sumFlags := u.sumFlags ||| flag, sumLanes := u.sumLanes ||| 2 ^ i, sumCount := u.sumCount + 1,
      sumFirst := some first }) s

/-- A failing word on a lane, of a burst of parity bp (R115, R117, R119): it extends the lane's run, or closes it and opens a
new one, or is suppressed. Deferred records are created before a FAIL record opens (R121). -/
def failWord (n i vc mask flags bp : Nat) (s : State) : State :=
  let open_ (s : State) : State :=
    let s := createDeferred n (catch_ s n).deferred.length s
    let b := failBlocked s n
    if s.flag CB_STATUS_SUMMARY n then suppress n i vc b bp s
    else if b ≠ 0 then suppress n i vc b bp s
    else
      let (q, s') := takeStamp s
      updCatch n (fun u =>
        { u with
          opened := u.opened + 1,
          runs := u.runs ++ [{ lane := i, vc := vc, length := 1, mask := mask, flags := flags,
                               bp := bp, tick := s.now, off := s.offset,
                               dev := s.rd MS_STATUS_ADDR, seq := q }] }) s'
  match (catch_ s n).runs.find? (fun r => r.lane == i) with
  | some r =>
    if r.mask = mask ∧ r.flags = flags ∧ r.bp = bp ∧ r.length < 131071 then
      updCatch n (fun u =>
        { u with runs := u.runs.map fun x => if x.lane == i then { x with length := x.length + 1 } else x }) s
    else open_ (closeRun n r s)
  | none => open_ s

/-- The position vc of a list of segments: its word and mask word for lane i, and whether it was
substituted (R81, R105). -/
def segAt : List TxSeg → Nat → Nat → Option (Nat × Nat × Bool)
  | [], _, _ => none
  | g :: t, vc, i =>
    if g.vc ≤ vc ∧ vc < g.vc + g.count then
      let v := if g.vecs.length = 1 then g.vecs.headD 0 else g.vecs.getD (vc - g.vc) 0
      some (bits v (64 * i + 63) (64 * i), bits g.mask (64 * i + 63) (64 * i), g.invalid)
    else segAt t vc i

/-! What the lanes send (R92, R93, R98, R294). -/

/-- A word time of a burst: a vector; a substituted position; the INVALID block before so many of them; the HOLD block or
a hold word of the hold it ends in. -/
inductive TxSlot where
  | data (vc : Nat) | subst (vc : Nat) | invalid (left : Nat) | holdBlock | hold
  deriving DecidableEq, Repr

/-- A hold, from its first word time on: HOLD, and again after every 1,024 data blocks (R92). -/
def holdSlot (x : Nat) : TxSlot := if x % 1025 = 0 then .holdBlock else .hold

/-- Word time x after that of vector cycle 0 of a burst (R92, R98, R294): each control block takes one. -/
def burstSlot (tx : List TxSeg) (endVc : Option Nat) (x : Nat) : TxSlot :=
  match tx.find? (·.invalid) with
  | some g =>
    if x < g.vc then .data x
    else
      let p := x - g.vc
      let len := g.count + (g.count + 1023) / 1024
      if len ≤ p then holdSlot (p - len)
      else if p % 1025 = 0 then .invalid (g.count - p / 1025 * 1024)
      else .subst (g.vc + p / 1025 * 1024 + p % 1025 - 1)
  | none =>
    match endVc with
    | some e => if x < e then .data x else holdSlot (x - e)
    | none => .data x

/-! The control blocks of R92: type in bits 7:0, payload above. -/
def streamStartBlock (start reelId : Nat) : Nat := 0x0F + start % 2 ^ 32 * 2 ^ 8 + reelId % 2 ^ 16 * 2 ^ 40
def holdBlock (h : LaneHold) : Nat :=
  0x2D + h.stopId % 2 ^ 16 * 2 ^ 8 + h.cause % 16 * 2 ^ 24 + h.vc % 2 ^ 32 * 2 ^ 28
def invalidBlock (left cause : Nat) : Nat := 0x33 + left % 2 ^ 24 * 2 ^ 8 + cause % 16 * 2 ^ 32

/-- An entry of the delay line (R81, R105): which burst it belongs to, if any, its vector cycle, word, mask and flags; the
control block that its word time carried in place of a word; and whether it is the burst's ending entry or later (R126). -/
structure Due where
  op : Option (Nat × Nat)
  vc : Nat
  word : Nat
  mask : Nat
  hold : Bool := false
  invalid : Bool := false
  control : Option Nat := none
  past : Bool
  deriving DecidableEq, Repr

/-- The shadow copy of a lane's delay, and the parity bit of its register (R110). -/
def shadowDelay (s : State) (n i : Nat) : Nat := s.rd DELAY_WORDS n i ^^^ sget 0 (catch_ s n).shadowDiff i
def delayParity (s : State) (n i : Nat) : Bool :=
  (popcount (s.rd DELAY_WORDS n i) % 2 == 1) != (catch_ s n).parityBad.testBit i

/-- The register and its shadow agree and carry good parity (R110). -/
def delayGood (s : State) (n i : Nat) : Bool :=
  shadowDelay s n i == s.rd DELAY_WORDS n i && delayParity s n i == (popcount (s.rd DELAY_WORDS n i) % 2 == 1)

/-- The working delay of a lane (R110). -/
def workDelay (s : State) (n i : Nat) : Nat := s.rd DELAY_WORDS n i ^^^ sget 0 (catch_ s n).workDiff i

/-- The entry that lane i writes at word time x after that of vector cycle 0 of a burst: none where the burst has no vector
there yet. -/
def burstEntry (b : LineBurst) (x i : Nat) : Option Due :=
  match burstSlot b.tx b.endVc x with
  | .data vc => (segAt b.tx vc i).map fun (w, m, _) => { op := some b.op, vc := vc, word := w, mask := m, past := false }
  | .subst vc => (segAt b.tx vc i).map fun (w, _, _) =>
    { op := some b.op, vc := vc, word := w, mask := 0, invalid := true, past := false }
  | .invalid left =>
    let vc := b.endVc.getD 0 - left
    some { op := some b.op, vc := vc, word := 0, mask := 0, invalid := true, past := false,
           control := some (invalidBlock left b.hold.cause) }
  | .holdBlock =>
    some { op := some b.op, vc := b.endVc.getD 0, word := 0, mask := 0, hold := true, past := true,
           control := some (holdBlock b.hold) }
  | .hold =>
    some { op := some b.op, vc := b.endVc.getD 0, word := b.hold.words.getD i 0, mask := 0, hold := true, past := true }

/-- The bursts of group n since it entered its role, newest first: that of the engine, once it has started, and the earlier
ones (R105). Before it holds, what it will name is what the engine has latched. -/
def lineBursts (s : State) (n : Nat) : List LineBurst :=
  let u := catch_ s n
  let e := reel s n
  match u.w0, e.op with
  | some w0, some op =>
    let held : LaneHold :=
      { words := e.stopHold, stopId := s.rd STOP_NOW_STOP_ID n, cause := s.rd RE_STATUS_END_CAUSE n,
        vc := e.endVc.getD 0 }
    { op := op, w0 := w0, tx := e.tx, endVc := e.endVc,
      hold := if e.heldAt.isSome then e.laneHold.getD held else held,
      reelId := s.rd REEL_ID_NOW_REEL_ID n, start := s.rd START_TICK_S n } :: u.prev
  | _, _ => u.prev

/-- The entry that lane i of group n writes into its delay line at transmit word time t, counted from the group's entry into
the reel and catch role (R92, R93, R105): STREAM_START before the word of vector cycle 0; before the first burst LANE_HOLD,
under HOLD. -/
def entryAt (s : State) (n i t : Nat) : Option Due :=
  let bs := lineBursts s n
  match bs.find? fun b => b.w0 == t + 1 with
  | some b => some { op := none, vc := 0, word := 0, mask := 0, past := false,
                     control := some (streamStartBlock b.start b.reelId) }
  | none =>
    match bs.find? fun b => decide (b.w0 ≤ t) with
    | some b => burstEntry b (t - b.w0) i
    | none =>
      let idle : Due := { op := none, vc := 0, word := s.rd LANE_HOLD_WORD n i, mask := 0, hold := true, past := false }
      some (if t % 1025 = 0 then { idle with word := 0, control := some (holdBlock { words := [] }) } else idle)

/-- The block that lane i of group n sends at transmit word time t (R92, R292): whether it is a control block, and its 64
bits. -/
def laneBlock (s : State) (n i t : Nat) : Option (Bool × Nat) :=
  (entryAt s n i t).map fun d => match d.control with
    | some c => (true, c)
    | none => (false, d.word)

/-- How far the read pointer of copy c of a lane, 0 A or 1 B, stands from where its delay puts it (R110). -/
def ptrDiff (s : State) (n i c : Nat) : Nat := sget 0 (catch_ s n).ptrDiff (2 * i + c)

/-- The entry that the read pointer of copy c finds due at receive word time r on lane i (R104, R106, R107, R110): the one
written D word times earlier, where the pointer stands right. Word times count from the group's entry into the reel and
catch role; outside it nothing is compared. -/
def dueOf (s : State) (n i r c : Nat) : Option Due :=
  let d := (workDelay s n i + ptrDiff s n i c) % 8192
  if r < d ∨ bits (s.rd LG_ROLE_WORD0 n) 2 0 ≠ 1 then none else entryAt s n i (r - d)

/-- The entry due at receive word time r on lane i, as copy A compares it. -/
def dueEntry (s : State) (n i r : Nat) : Option Due := dueOf s n i r 0

/-- The fail mask of a response word, or of none, against a due entry (R107, R108). -/
def failMask (d : Option Due) (word : Option Nat) : Nat :=
  match d, word with
  | none, _ => 0
  | some d, some w => ((w % 2 ^ 64) ^^^ d.word) &&& d.mask
  | some d, none => d.mask

/-- The bits in which the fail masks of the two copies differ because a read pointer stands wrong (R109, R110). -/
def pointerFlip (s : State) (n i r : Nat) (word : Option Nat) : Nat :=
  if ptrDiff s n i 0 = ptrDiff s n i 1 then 0
  else failMask (dueOf s n i r 0) word ^^^ failMask (dueOf s n i r 1) word

/-- The burst of an operation whose compares have begun. -/
def catchBurst (s : State) (n : Nat) (op : Nat × Nat) : Option CatchBurst :=
  (catch_ s n).bursts.find? fun b => b.op == op

/-- The parity of a burst (R115): that of its BURST_START, the coming one where its compares have not begun. -/
def parityOf (s : State) (n : Nat) (op : Nat × Nat) : Nat :=
  let u := catch_ s n
  let coming (l : List LineBurst) : Nat :=
    (s.rd BURST_COUNT_BURSTS n + 1 + l.countP fun b => !b.closed && (catchBurst s n b.op).isNone) % 2
  match catchBurst s n op with
  | some b => b.bp
  | none =>
    match u.prev.dropWhile fun b => b.op != op with
    | b :: older => if b.closed then b.bp else coming older
    | [] => match u.lastClosed with
      | some c => if c.1 == op then c.2 else coming u.prev
      | none => coming u.prev

/-- The parity of the burst of a due entry. -/
def Due.parity (d : Due) (s : State) (n : Nat) : Nat :=
  match d.op with
  | some op => parityOf s n op
  | none => burstParity s n

/-- Has the BURST_END of a burst been created (R126)? -/
def burstClosed (s : State) (n : Nat) (op : Nat × Nat) : Bool :=
  ((catch_ s n).prev.any fun b => b.op == op && b.closed) || (catch_ s n).lastClosed.any fun c => c.1 == op

/-- BURST_START (R116, R122, R126): the entry of vector cycle 0 first reaches its compare point. Where the record is
deferred, BURST_COUNT, BURST_FAILS and the _SEEN bits change here all the same (DESIGN CHOICE, log entry 78). -/
def burstStart (n : Nat) (op : Nat × Nat) (s : State) : State :=
  let s := (s.incWrap BURST_COUNT_BURSTS n).wr CB_STATUS_BP ((s.rd BURST_COUNT_BURSTS n + 1) % 2) n
  let s := ((s.wr CB_STATUS_SEEN 0 n).wr CB_STATUS_COMPARING 1 n).clrInst BURST_FAILS_COUNT n
  let old := (catch_ s n).prev.find? fun b => b.op == op
  let (reelId, start, notice, endVc) := match old with
    | some b => (b.reelId, b.start, b.notice, b.endVc.getD 0)
    | none => (s.rd REEL_ID_NOW_REEL_ID n, s.rd START_TICK_S n, false, 0)
  let b : CatchBurst := { op := op, bp := burstParity s n, notice := notice, endVc := endVc }
  let s := updCatch n (fun u => { u with bursts := u.bursts ++ [b] }) s
  let (r, s) := mkRec 4 0 (8 * n) 1 (reelId + start % 2 ^ 32 * 2 ^ 32) 0 s
  createRec n { r with bp := b.bp } s

/-- Changes the burst of an operation. -/
def updBurst (n : Nat) (op : Nat × Nat) (f : CatchBurst → CatchBurst) (s : State) : State :=
  updCatch n (fun u => { u with bursts := u.bursts.map fun b => if b.op == op then f b else b }) s

/-- The sum of the eight BURST_FAILS (R122). -/
def burstFails (s : State) (n : Nat) : Nat :=
  (List.range 8).foldl (fun a i => a + s.rd BURST_FAILS_COUNT n i) 0

/-- The logical lanes of group n, those that carry a word, as a mask (R81, R302): a 7 + 1 group carries words 0 to 6. -/
def wordLanes (s : State) (n : Nat) : Nat := if bit (s.rd LG_ROLE_WORD0 n) 3 then 127 else 255

/-- The entry at or past the ending position has reached its compare point on a lane; on the last lane the
burst's compares end and its runs close (R117, R126). The _SEEN bits that BURST_END will carry are those that stand then
(DESIGN CHOICE, log entry 78). -/
def laneEnded (n i : Nat) (op : Nat × Nat) (s : State) : State :=
  match catchBurst s n op with
  | none => s
  | some b =>
    if b.ended then s
    else
      let m := b.endedLanes ||| 2 ^ i
      let s := updBurst n op (fun b => { b with endedLanes := m }) s
      if m &&& wordLanes s n = wordLanes s n then
        let s := (List.range 8).foldl (fun t j => closeLane n j t) s
        let s := updBurst n op (fun b =>
          { b with ended := true, fails := burstFails s n, seen := s.rd CB_STATUS_SEEN n }) s
        (s.setb CB_STATUS_COMPARING ((catch_ s n).bursts.any fun b => !b.ended) n).wr CB_STATUS_DRAINING 1 n
      else s

/-- DELAY_FAULT (R110): the event, the mark and the counts; the working copy and both read pointers reload where the register
and its shadow are good. -/
def delayFault (n i : Nat) (good : Bool) (s : State) : State :=
  let s := raiseInj E.DELAY_FAULT n i ((catch_ s n).injDelay.testBit i) s
  let s := updCatch n (fun u =>
    { u with injDelay := if u.injDelay.testBit i then u.injDelay - 2 ^ i else u.injDelay }) s
  let s := setSeen n 1 ((markFrame s).incWrap DELAY_FAULT_COUNT_COUNT n)
  if good then
    updCatch n (fun u =>
      { u with
        workDiff := sput 0 u.workDiff i 0, ptrDiff := sput 0 (sput 0 u.ptrDiff (2 * i) 0) (2 * i + 1) 0 }) s
  else updCatch n (fun u => { u with broken := u.broken ||| 2 ^ i }) (s.wr CB_STATUS_DELAY_BROKEN 1 n)

/-- A strobe source is asserted by a fail on one of its lanes, unless its STRETCH is 0 (R114). -/
def strobes (n i : Nat) (s : State) : State :=
  let on (j : Nat) : Bool := (s.rd STB_CFG_LANE_MASK n j).testBit i && s.rd STB_CFG_STRETCH n j != 0
  updCatch n (fun u => { u with strobeA := u.strobeA || on 0, strobeB := u.strobeB || on 1 }) s

/-- A failing word: strobes, fail port, exact counters and records (R112, R114, R117, R122). -/
def takeFail (n i vc mask flags bp : Nat) (s : State) : State :=
  let s := strobes n i s
  let s := updCatch n (fun u =>
    { u with
      cfFirst := if u.cfFail = 0 then vc else u.cfFirst, cfFail := u.cfFail ||| 2 ^ i,
      cfBits := u.cfBits ||| mask }) s
  let s := ((s.incWrap FAIL_WORDS_COUNT n i).incSat BURST_FAILS_COUNT n i).incWrap FAIL_BITS_COUNT n i
    (popcount mask)
  failWord n i vc mask flags bp s

/-- The block learns that a burst's TAINT notice has come, or that it has none (R126); its compares may not have begun. -/
def tellNotice (n : Nat) (op : Nat × Nat) (endVc : Nat) (s : State) : State :=
  updBurst n op (fun b => { b with notice := true, endVc := endVc })
    (updCatch n (fun u => { u with prev := u.prev.map fun b => if b.op == op then { b with notice := true } else b }) s)

/-- The TAINT notice that engine n has to give of its burst (R102). -/
def noticeOf (s : State) (n : Nat) : Notice :=
  let u := reel s n
  { op := u.op.getD (0, 0), first := u.firstTaint.getD (s.rd VCYCLE_VC n), endVc := u.endVc.getD 0,
    cause := s.rd RE_STATUS_END_CAUSE n, seen := s.rd RE_STATUS_CAUSE_SEEN n, stopId := s.rd STOP_NOW_STOP_ID n,
    tag := u.tag, raised := u.taintRaised }

/-- A TAINT notice is delivered (R102, R116, R126): its record, its counts and its event. -/
def deliverNotice (n : Nat) (x : Notice) (s : State) : State :=
  let bp := parityOf s n x.op
  let (r, s) := mkRec 3 x.first (8 * n) x.cause
    ((x.endVc - x.first) % 2 ^ 32 + x.stopId * 2 ^ 32 + x.tag * 2 ^ 48) x.seen s
  let s := createRec n { r with bp := bp } s
  let s := markFrame ((s.incWrap TAINT_COUNT_COUNT n).wr FIRST_TAINT_VC_VC x.first n)
  let s := if x.raised then s else raise E.TAINT n x.first s
  tellNotice n x.op x.endVc s

/-- The notice of the burst that holds goes to the catch block, or waits for the core PLL (R101, R102). -/
def taintNotice (n : Nat) (s : State) : State :=
  let x := noticeOf s n
  if s.rd ALIGN_STATUS_STATE = 4 then updReel n (fun u => { u with owed := some x }) s
  else deliverNotice n x (updReel n (fun u => { u with taintRaised := true }) s)

/-- The notice that has waited is delivered once the core PLL is judged stable again (R101). -/
def payNotice (s : State) (n : Nat) : State :=
  match (reel s n).owed with
  | none => s
  | some x => deliverNotice n x (updReel n (fun u => { u with taintRaised := u.taintRaised || u.op == some x.op, owed := none }) s)

/-- At HOLDING the engine reports that the burst has no TAINT notice (R126). -/
def noTaint (n : Nat) (s : State) : State := tellNotice n ((reel s n).op.getD (0, 0)) ((reel s n).endVc.getD 0) s

/-- What the tick does to a catch block (R119 to R121, R129): the summary record of the frame that ended is
built, the frame's counts start again, and deferred records are created. -/
def catchTick (frame n : Nat) (s : State) : State :=
  let u := catch_ s n
  let s := ((s.wr FRAME_RECORDS_OPENED u.opened n).wr FRAME_RECORDS_CAUSES u.sumFlags n).wr
    FIFO_LEVEL_MAX_LEVEL u.maxLevel n
  let s := s.wr CB_STATUS_SUMMARY 0 n
  let s := match u.sumFirst with
    | none => s
    | some r =>
      let r := { r with
        lane := u.sumLanes, flags := u.sumFlags, body := min u.sumCount 0xFFFFFFFF + 2 ^ 32 }
      let s := s.incWrap SUMMARY_COUNT_COUNT n
      match u.pendingSum with
      | some (p, from_) =>
        let frames := min 65535 (frame - from_ + 1)
        let p := { p with
          lane := p.lane ||| r.lane, flags := p.flags ||| r.flags,
          body := min (bits p.body 31 0 + u.sumCount) 0xFFFFFFFF + frames * 2 ^ 32 }
        updCatch n (fun u => { u with pendingSum := some (p, from_) }) s
      | none =>
        if recordsHeld s n < catchCapacity s n ∧ recordRoom s (catchFlow s n) then recToFlow n r s
        else updCatch n (fun u => { u with pendingSum := some (r, frame) }) (s.wr CB_STATUS_SUMMARY_PENDING 1 n)
  let s := updCatch n (fun u =>
    { u with
      opened := 0, sumFlags := 0, sumLanes := 0, sumCount := 0, sumFirst := none,
      maxLevel := u.fifo.length }) s
  createDeferred n (catch_ s n).deferred.length s

end Sys2Proof.Machine
end

