-- ==== Sys2Proof/Machine/CatchFlush.lean ====
section
/-! DEFINITION. The flush of a catch block's records to its ring (R123 to R125). -/

namespace Sys2Proof.Machine

open F

/-- The 32 bytes of a record as one number (R115), with its GEN for ring index k of a ring of q records. -/
def recWord (r : Rec) (k q : Nat) : Nat :=
  let gen := 1 - (k / q) % 2
  (r.vc % 2 ^ 48 + r.lane % 256 * 2 ^ 48 + r.type * 2 ^ 56 + r.flags % 16 * 2 ^ 60) + r.body % 2 ^ 64 * 2 ^ 64
    + (r.seq + r.off * 2 ^ 16 + r.dev * 2 ^ 33 + r.length % 2 ^ 17 * 2 ^ 45 + r.bp * 2 ^ 62 + gen * 2 ^ 63) * 2 ^ 128
    + r.tick * 2 ^ 192

/-- A FILL record: the partner's BP, nothing else (R116). -/
def fillRec (r : Rec) : Rec :=
  { type := 0, vc := 0, lane := 0, flags := 0, body := 0, length := 0, bp := r.bp, tick := 0, off := 0,
    dev := 0, seq := 0 }

/-- The little-endian bytes of a number. -/
def bytesOf (v : Nat) : Nat → List Byte
  | 0 => []
  | n + 1 => BitVec.ofNat 8 v :: bytesOf (v / 256) n

/-- Why a flush ends: it may go on, the ring is full, a line was refused (R125), nothing is left, one record waits for a
partner, or the window may not touch the line (R36). -/
inductive FlushEnd where
  | more | full | refused | empty | lone | blocked
  deriving DecidableEq, Repr

/-- CATCH_RING_FULL is raised once for a filling (R125). -/
def ringFilled (n : Nat) (s : State) : State :=
  if (catch_ s n).fullRaised then s
  else updCatch n (fun u => { u with fullRaised := true }) (raise E.CATCH_RING_FULL n (s.rd CM_WR_INDEX n) s)

/-- A record that has been written leaves the flow, and a deferred record may now be created (R121); the last BURST_END due ends DRAINING, and the reel-start operation
that waits for one is released (R21, R126). -/
def recordGone (n : Nat) (r : Rec) (s : State) : State :=
  let s := if r.type = 0 then s else flowLeave (r.inFlow.getD (catchFlow s n)) s
  let s := createDeferred n (catch_ s n).deferred.length s
  match r.op with
  | some (x, k) =>
    let u := catch_ s n
    let more := u.bursts.any (·.ended) || (u.fifo ++ u.flow ++ u.deferred).any (·.op.isSome)
    releaseOp x k (if more then s else s.wr CB_STATUS_DRAINING 0 n)
  | none => s

/-- Where the record of an index goes in the ring of block n (R124). -/
def ringLine (s : State) (n idx : Nat) : Nat := s.rd CM_BASE_ADDR n + idx % (2 * s.rd CM_LINES_LINES n) * 32

/-- One line of a flush window (R123 to R125): two records, or, at its end (last), one and a FILL record. The line that fills
the ring, or finds no room for two records in it, raises CATCH_RING_FULL. perr is the hop, if any, at which a parity error is
found on it: the write is answered INTERNAL (R239). -/
def flushLine (n param : Nat) (last : Bool) (perr : Option Nat) (s : State) : FlushEnd × State :=
  let u := catch_ s n
  let q := 2 * s.rd CM_LINES_LINES n
  let wr := s.rd CM_WR_INDEX n
  match u.flow with
  | [] => (.empty, s)
  | a :: t =>
    if q < wr + 2 - s.rd CM_RD_INDEX n then (.full, ringFilled n s)
    else if t.isEmpty && !last then (.lone, s)
    else
      let b := t.headD (fillRec a)
      let addr := ringLine s n wr
      if lineReach s addr = Code.OK && !inMasks s addr param then (.blocked, s)
      else
      let (bad, s) := travel (portCatch n) (portDdr (chanOf addr)) 1 perr s
      let (code, s) := if bad then (Code.INTERNAL, s)
        else writeLine (streamCatch n) addr (bytesOf (recWord a wr q) 32 ++ bytesOf (recWord b (wr + 1) q) 32) s
      if code = Code.OK then
        let s := updCatch n (fun u => { u with flow := u.flow.drop 2, fullRaised := false }) (s.wr CM_WR_INDEX (wr + 2) n)
        let full := wr + 2 == s.rd CM_RD_INDEX n + q
        let s := s.setb CB_STATUS_RING_FULL full n
        (.more, recordGone n b (recordGone n a (if full then ringFilled n s else s)))
      else
        (.refused, raise E.CATCH_WRITE_REFUSED n addr (s.incSat WRITE_ERR_REFUSED_WRITES n))

/-- Up to k lines of a flush window: how it stands, and the lines of it left. -/
def flushLines (n param : Nat) (last : Bool) : Nat → Option Nat → State → FlushEnd × Nat × State
  | 0, _, s => (.more, 0, s)
  | k + 1, perr, s =>
    match flushLine n param last perr s with
    | (.more, s) => flushLines n param last k none s
    | (e, s) => (e, k + 1, s)

/-- The action of the open window of the frame's entry k has completed or not (R41). -/
def markWin (k : Nat) (complete : Bool) (s : State) : State :=
  s.updTick fun t => { t with wins := t.wins.map fun w => if w.idx == k then { w with complete := complete } else w }

/-- The flush window of block n writes what has been released to it while it is open, from START to its last core cycle
(R34, R41, R123); last says that it closes. Its action is complete when nothing is left, its quota is used, or the ring or a
refusal stops it. -/
def flushOpen (n : Nat) (last : Bool) (perr other : Option Nat) (s : State) : State :=
  match (catch_ s n).window with
  | none => s
  | some f =>
    if !last && !(s.tick.wins.any fun w => w.idx == f.idx && decide (s.offset ≤ w.last)) then s
    else
      let before := s.rd CM_WR_INDEX n
      let (how, left, s) := flushLines n f.param last f.lines perr s
      let s := flushTraffic (portCatch n) (portDdr (bits f.param 2 0))
        ((s.rd CM_WR_INDEX n - before) / 2 + (if how = .refused then 1 else 0))
        (fun i => ringLine s n (before + 2 * i)) other s
      let stops := how == .full || how == .refused || how == .blocked
      let s := updCatch n (fun u =>
        { u with window := if stops || last then none else some { f with lines := left } }) s
      markWin f.idx (how == .full || how == .refused || (catch_ s n).flow.isEmpty || (left == 0 && !f.short)) s

/-- The flush window of the frame's entry k closes on block n, at its last core cycle or where CLOCK_DEGRADED or the end of
the frame cuts it off (R51, R123): a record without a partner is written with a FILL record. -/
def closeFlush (n k : Nat) (s : State) : State :=
  if (catch_ s n).window.any fun f => f.idx == k then flushOpen n true none none s else s

end Sys2Proof.Machine
end

