-- ==== Sys2Proof/Machine/MgmtOps.lean ====
section
/-! DEFINITION. The scratchpad and the management cores (R381 to R391), and the wipe of the ember region and
of the keys (R285, R388). -/

namespace Sys2Proof.Machine

open F

/-- Changes the scratchpad's hidden state. -/
def updPad (f : SpSt → SpSt) (s : State) : State := s.updSp f

/-- The effective lifecycle state (R427): 0 Blank, 1 Developer, 2 Production, 3 Recovery, 4 Retired. -/
def lifecycle (s : State) : Nat := s.rd LC_STATUS_STATE

/-- Does a byte range touch the ember region (R382)? -/
def inEmber (off n : Nat) : Bool := decide (0x780000 < off + n)

/-- Does the access right p of some enabled region of the class cover the range (R385)? -/
def regionAdmits (s : State) (cls off n : Nat) (p : Fld) : Bool :=
  (List.range 32).any fun j =>
    let k := cls * 32 + j
    s.flag SP_RGN_PERM_ENABLE 0 k && s.flag p 0 k && decide (s.rd SP_RGN_BASE_BLOCK 0 k ≤ off / 4096) &&
      decide ((off + n - 1) / 4096 ≤ s.rd SP_RGN_LIMIT_BLOCK 0 k)

/-- The right an access needs (R385). -/
def SpKind.right : SpKind → Fld
  | .read => SP_RGN_PERM_R
  | .fetch => SP_RGN_PERM_X
  | _ => SP_RGN_PERM_W

/-- The classes of R382: 0 CORE, 1 MDMA, 2 DEBUG, 3 NOC. Is the access admitted (R385 to R388)? alias says
that it came through an alias window; core0 that it is core 0 running the boot stage. -/
def padAdmits (s : State) (cls : Nat) (kind : SpKind) (alias_ core0 : Bool) (off n : Nat) : Bool :=
  if kind == .fetch && (alias_ || cls != 0) then false
  else if inEmber off n then
    cls == 0 && !s.flag SP_STATUS_WIPING &&
      match s.rd SP_STATUS_EMBER_MODE with
      | 0 => core0 && !s.flag HM_STATUS_BOOT_DONE
      | 1 => regionAdmits s cls off n kind.right
      | _ => false
  else regionAdmits s cls off n kind.right

/-- SP_DENY_LOG takes a refusal (R386). -/
def logDenial (cls : Nat) (kind : SpKind) (off sid : Nat) (s : State) : State :=
  let k := match kind with
    | .read => 0
    | .write => 1
    | .fetch => 3
    | _ => 2
  ((((s.wr SP_DENY_LOG_OFFSET off).wr SP_DENY_LOG_CLASS cls).wr SP_DENY_LOG_KIND k).wr SP_DENY_LOG_STREAM_ID
    (if cls = 3 then sid else 0)).wr SP_DENY_LOG_VALID 1

/-- A lane is read and its code checked (R389): is it uncorrectable? -/
def padLane (lane : Nat) (s : State) : Bool × State :=
  let (e2, s) := takeInj SP_INJECT_INJ_ECC2 0 true s
  let (e1, s) := takeInj SP_INJECT_INJ_ECC1 0 true s
  let b := if e2 then 2 else max (sget 0 s.sp.bad lane) (if e1 then 1 else 0)
  if b = 0 then (false, s)
  else if b = 1 then (false, updPad (fun p => { p with bad := sput 0 p.bad lane 0 }) (s.incSat SP_ECC_CORRECTED))
  else (true, raiseInj E.SCRATCH_ECC_UNCORR 0 (lane * 8) e2 (s.incSat SP_ECC_UNCORR))

/-- The lanes of a byte range. -/
def lanesOf (off n : Nat) : List Nat := (List.range ((off + n + 7) / 8 - off / 8)).map (· + off / 8)

/-- Lanes read one after another: is any uncorrectable? -/
def padLanes (ls : List Nat) (s : State) : Bool × State :=
  ls.foldl (fun (acc : Bool × State) l => let (b, s) := padLane l acc.2; (acc.1 || b, s)) (false, s)

/-- Does the range cover the whole lane? -/
def coversLane (off n l : Nat) : Bool := decide (off ≤ 8 * l) && decide (8 * l + 8 ≤ off + n)

/-- An admitted access takes effect (R384, R389): its code and data. -/
def padPerform (kind : SpKind) (off n : Nat) (data : List Byte) (s : State) : Nat × List Byte × State :=
  let zeros := List.replicate n (0 : Byte)
  match kind with
  | .write =>
    let (bad, s) := padLanes ((lanesOf off n).filter fun l => !coversLane off n l) s
    let s := s.updScratch fun m => memWrBytes m off (data.take n)
    let s := updPad (fun p =>
      { p with bad := ((lanesOf off n).filter (coversLane off n)).foldl (fun b l => sput 0 b l 0) p.bad }) s
    (if bad then Code.INTERNAL else Code.OK, [], s)
  | .setBits =>
    let (bad, s) := padLanes (lanesOf off n) s
    if bad then (Code.INTERNAL, [], s)
    else (Code.OK, [], s.updScratch fun m =>
      memWrBytes m off (List.zipWith (· ||| ·) (memBytes m off n) (data.take n)))
  | .clearBits =>
    let (bad, s) := padLanes (lanesOf off n) s
    if bad then (Code.INTERNAL, [], s)
    else (Code.OK, [], s.updScratch fun m =>
      memWrBytes m off (List.zipWith (fun a b => a &&& ~~~b) (memBytes m off n) (data.take n)))
  | _ =>
    let (bad, s) := padLanes (lanesOf off n) s
    if bad then (Code.INTERNAL, zeros, s) else (Code.OK, memBytes s.scratch off n, s)

/-- What becomes of a scratchpad access (R382 to R389): answered now with a code and data, or refused in the
ember region, to be answered 2,048 core cycles after its landing. -/
inductive PadAnswer where
  | now (code : Nat) (data : List Byte)
  | refusedEmber
  deriving DecidableEq, Repr

/-- One scratchpad access by a class, at an address of the three windows (R382, R384). -/
def padAccess (cls sid addr n : Nat) (kind : SpKind) (core0 : Bool) (data : List Byte) (s : State) :
    PadAnswer × State :=
  let win := addr / 0x800000
  let off := addr % 0x800000
  let zeros := List.replicate n (0 : Byte)
  let k := match kind, win with
    | .write, 1 => .setBits
    | .write, 2 => .clearBits
    | k, _ => k
  if 3 ≤ win ∨ 0x800000 < off + n then (.now Code.OUT_OF_RANGE zeros, s)
  else if padAdmits s cls k (win ≠ 0) core0 off n then
    let (code, d, s) := padPerform k off n data s
    (.now code d, s)
  else if inEmber off n then
    (.refusedEmber, if lifecycle s = 1 then logDenial cls k off sid s else s)
  else (.now Code.REFUSED zeros, logDenial cls k off sid (s.incWrap SP_DENY_COUNT_DENIALS))

/-- The core cycles that an access takes the port for (R382, R383): one for each 256-bit word, two where a lane is written in part,
through an alias, or in the block under test. -/
def padCost (s : State) (r : PadReq) : Nat :=
  let off := r.addr % 0x800000
  let part := r.kind == .write && (decide (0x800000 ≤ r.addr) || (lanesOf off r.bytes).any fun l => !coversLane off r.bytes l)
  let tested := s.sp.test.any fun t => decide (off / 4096 ≤ t.1 ∧ t.1 ≤ (off + r.bytes - 1) / 4096)
  ((off + r.bytes + 31) / 32 - off / 32) * (if part || tested then 2 else 1)

/-- An access is performed and answered (R382 to R386): its port is taken, and an ember access that is refused waits for its
answer. -/
def padServe (r : PadReq) (s : State) : State :=
  let cost := padCost s r
  let t := s.cycle
  let s := updPad (fun p => { p with last := r.cls, portTo := max p.portTo t + cost }) s
  let x := r.xact.bind fun e => xactAt s e.1 e.2
  match padAccess r.cls r.sid r.addr r.bytes r.kind r.core0 r.data s, x with
  | (.now code d, s), some x => answerNow x code d 0 s
  | (.refusedEmber, s), some x => refuseXact x s
  | (.now code d, s), none =>
    updPad (fun p => { p with answers := (r.cls, code, d) :: p.answers.filter (·.1 != r.cls) }) s
  | (.refusedEmber, s), none =>
    updPad (fun p => { p with refused := p.refused ++ [(r.cls, t, if r.kind == .write then 0 else r.bytes)] }) s

/-- The waiting access that the round CORE, MDMA, DEBUG, NOC serves next, after the class served last (R383). -/
def padNext (s : State) : Option PadReq :=
  ((List.range 4).map fun k => (s.sp.last + 1 + k) % 4).findSome? fun c => s.sp.queue.find? (·.cls == c)

/-- Waiting accesses are performed while the port is free (R383); at most k. -/
def servePad : Nat → State → State
  | 0, s => s
  | k + 1, s =>
    match padNext s with
    | none => s
    | some r =>
      if s.sp.portTo ≤ s.cycle then servePad k (padServe r (updPad (fun p => { p with queue := p.queue.erase r }) s)) else s

/-- Is the port free at once? -/
def padFree (s : State) : Bool := s.sp.queue.isEmpty && decide (s.sp.portTo ≤ s.cycle)

/-- What the scratchpad does as core cycles pass (R383). -/
def padTick (s : State) : State := servePad s.sp.queue.length s

/-- An access reaches the scratchpad (R383): it is performed at once where the port is free, and waits otherwise. -/
def padArrive (r : PadReq) (s : State) : State :=
  let s := padTick s
  if padFree s then padServe r s else updPad (fun p => { p with queue := p.queue ++ [r] }) s

/-- The wipe of the engine's keys and the user key slots (R285, R388, R434, R435): every key ID EMPTY, every
bound range SEALED, the walk stopped, every slot EMPTY. -/
def keyWipe (s : State) : State :=
  let s := s.clrAll [KEY_STATE_STATE, KEY_STATE_MODE, KEY_STATE_TARGET, KEY_STATE_RANGES, EN_STATUS_REKEY_ACTIVE,
    EN_STATUS_REKEY_ID, EN_STATUS_RETIRE_QUEUE, SLOT_STATE_STATE, SLOT_STATE_CONFIG, SLOT_STATE_MEMORY,
    SLOT_STATE_REVOKE_BIT]
  let s := (List.range 16).foldl (fun t j =>
    if t.rd RANGE_STATUS_STATE 0 j = 1 then t.wr RANGE_STATUS_STATE 2 0 j else t) s
  let s := s.setb EN_STATUS_SEALED_ANY ((List.range 16).any fun j => s.rd RANGE_STATUS_STATE 0 j == 2)
  updEngine (fun e =>
    { e with
      keys := [], slotKeys := [], retiring := [], walk := none,
      jobs := e.jobs.map fun j => { j with walks := false } }) s

/-- The ember region reads as zeros with valid codes; a test step on one of its blocks is abandoned and
counts as done (R388, R392). -/
def clearEmber (s : State) : State :=
  let s := s.updScratch fun m => m.filter fun c => decide (c.1 < 0x780000)
  let s := updPad (fun p => { p with bad := p.bad.filter fun c => decide (c.1 < 0xF0000) }) s
  match s.sp.test with
  | some (b, _) =>
    if b < 0x780 then s
    else
      let s := s.wr SP_STATUS_TESTING 0
      let s := if b = 2047 then s.incSat SP_TEST_COUNTS_PASSES else s
      updPad (fun p => { p with test := none }) (s.wr SP_TEST_POS_BLOCK (b + 1))
  | none => s

/-- A wipe of the ember region starts (R388, R441): one while another runs is the same wipe. Causes: 1 tamper,
2 lifecycle change, 3 Recovery entry, 4 DEVICE reset, which raises nothing. -/
def emberWipe (cause : Nat) (s : State) : State :=
  if s.flag SP_STATUS_WIPING then s
  else
    let s := keyWipe (clearEmber s)
    if cause = 4 then s
    else
      let s := ((s.incSat SP_WIPE_WIPES).wr SP_WIPE_LAST_CAUSE cause).wr SP_WIPE_TICK_TICK s.now
      raise E.EMBER_WIPED 0 cause (s.wr SP_STATUS_WIPING 1)

/-- The state of management core c (HM_STATUS): 0 RUNNING, 1 WAITING, 2 RESTARTING, 3 HELD, 4 DEBUG_HALT. -/
def coreState (s : State) (c : Nat) : Nat := bits (s.rd HM_STATUS_CORE_STATE) (3 * c + 2) (3 * c)

/-- Sets the state of management core c. -/
def setCore (c st : Nat) (s : State) : State :=
  let v := s.rd HM_STATUS_CORE_STATE
  s.wr HM_STATUS_CORE_STATE (v - bits v (3 * c + 2) (3 * c) * 8 ^ c + st * 8 ^ c)

/-- A byte counter within a field saturates. -/
def incByte (f : Fld) (b : Nat) (s : State) : State :=
  let v := s.rd f
  if bits v (8 * b + 7) (8 * b) = 255 then s else s.wr f (v + 256 ^ b)

/-- Changes the boot stage's hidden state. -/
def updBt (f : BootSt → BootSt) (s : State) : State := s.updBoot f

/-- The cores that an image switch has to restart: every core but a HELD one (R211). -/
def switchCores (s : State) : List Nat := (List.range 4).filter fun c => coreState s c != 3

/-- Hearth's job of a version commit (R211, R379), by the requester Hearth and a mark. -/
def commitJob : Nat × Nat := (hearth, 1)

/-- The states of an image switch (FW_STATUS.STATE): 0 IDLE, 1 SWITCHING, 2 SELF_CHECK. -/
def fwState (s : State) : Nat := s.rd FW_STATUS_STATE

/-- The boot directory in use with PREFER_B and its CRC changed (R480). -/
def preferIn (b : Bool) (d : List Byte) : List Byte :=
  let x := (d.getD 0x0C 0).toNat
  let d := (d.set 0x0C (BitVec.ofNat 8 (x - x / 8 % 2 * 8 + (if b then 8 else 0)))).take 0xFC
  d ++ valBytes (leBytes (crc32 d) 4)

/-- Hearth keeps PREFER_B equal to ACTIVE_SLOT in both copies of the directory (R480). -/
def keepPrefer (s : State) : State :=
  if s.boot.dir.isEmpty then s
  else
    let d := preferIn (s.flag FW_STATUS_ACTIVE_SLOT) s.boot.dir
    updBt (fun b => { b with dir := d }) (s.updFlash fun m => memWrBytes (memWrBytes m 0x10000 d) 0 d)

/-- A switch of the image fails (R211): every core restarts from the old slot, and the new slot loses VALID. -/
def fwRevert (injected : Bool) (s : State) : State :=
  let n := s.boot.fwSlot
  let left := switchCores s
  let s := updBt (fun b => { b with fwLeft := left, fwBack := true, fwCommit := false }) (s.wr FW_STATUS_STATE 1)
  let s := (s.wr (if n = 0 then FW_STATUS_VALID_A else FW_STATUS_VALID_B) 0).incSat FW_COUNTS_REVERTS
  keepPrefer (raiseInj E.FW_REVERTED 0 n injected s)

/-- A core that already runs the new image has been restarted by its watchdog before the self-check passed: that is a
failure of the switch (R211). -/
def fwWatch (c : Nat) (injected : Bool) (s : State) : State :=
  if fwState s != 0 && !s.boot.fwBack && !s.boot.fwLeft.contains c then fwRevert injected s else s

/-- A core is restarted by its watchdog (R381, R392): its jobs return, but not a SLOT_PROVISION. -/
def restartCore (c : Nat) (injected : Bool) (s : State) : State :=
  let n := sget 0 s.sp.restarts c + 1
  let s := updPad (fun p => { p with restarts := sput 0 p.restarts c n, frames := sput 0 p.frames c 0 }) s
  let s := raiseInj E.HEARTH_WATCHDOG c 0 injected (incByte WD_COUNTS_RESTARTS c (setCore c 2 s))
  let provision (j : Job) : Bool := match j.op with
    | some (r, k) => ((opAt s r k).map (·.opcode)) == some 0x33
    | none => false
  let s := fwWatch c injected (returnJobs c provision s)
  if n = 16 then
    noteWorker c ((raiseInj E.HEARTH_CORE_HELD c 0 injected (setCore c 3 s)).wr WK_CFG_STATE
      (if workerState s c = 1 then 2 else workerState s c) 0 c)
  else s

/-- What a credited tick does to the watchdogs (R381): the frames since each kick are counted, but not of a
core in DEBUG_HALT or HELD. -/
def watchdogTick (s : State) : State :=
  (List.range 4).foldl (fun t c =>
    if coreState t c = 4 ∨ coreState t c = 3 then t
    else updPad (fun p => { p with frames := sput 0 p.frames c (sget 0 p.frames c + 1) }) t) s

end Sys2Proof.Machine
end

