-- ==== Sys2Proof/Machine/AlignOps.lean ====
section
/-! DEFINITION. The tick engine beside the tick itself (chapter 02): the alignment state, the frame log, and
the close of the windows (R41 to R44, R49, R51). -/

namespace Sys2Proof.Machine

open F

/-- Changes the tick engine's hidden state. -/
def updTck (f : TickSt → TickSt) (s : State) : State := s.updTick f

/-- The alignment state: 0 FREE, 1 ACQUIRING, 2 ALIGNED, 3 HOLDOVER, 4 DEGRADED. -/
def alignState (s : State) : Nat := s.rd ALIGN_STATUS_STATE

/-- The alignment mode: 0 FREE, 1 SYNC, 2 MESH. -/
def alignMode (s : State) : Nat := s.rd ALIGN_CTRL_MODE

/-- A frame-log entry is written (R44): word 0 the tick, word 1 the rest; an overwritten unread entry counts
in LOG_LOST. -/
def writeLog (tick word1 : Nat) (s : State) : State :=
  let k := s.rd LOG_STATUS_WR_INDEX
  let s := if s.tick.unread.contains k then s.incSat LOG_STATUS_LOG_LOST else s
  let s := (s.wr FRAME_LOG_ENTRY (tick + word1 * 2 ^ 64) 0 k).incWrap LOG_STATUS_WR_INDEX
  updTck (fun t => { t with unread := if t.unread.contains k then t.unread else t.unread ++ [k] }) s

/-- A run of n uncredited ticks from a first tick is logged and counted (R44, R51, R452). GAP saturates at its 32 bits
for a longer run, for which the spec states no value (DESIGN CHOICE, log entry 74). -/
def logGap (first n : Nat) (s : State) : State :=
  if n = 0 then s
  else (writeLog first (2 + min n 0xFFFFFFFF * 2 ^ 32) s).incWrap UNCREDITED_COUNT_GAP_TOTAL 0 0 n

/-- The run of halted ticks, if there is one, ends and is logged (R452). -/
def endHaltRun (s : State) : State :=
  match s.tick.haltRun with
  | none => s
  | some (first, n) => updTck (fun t => { t with haltRun := none }) (logGap first n s)

/-- Does the frame run now in a state other than ALIGNED in SYNC or MESH mode (R49)? -/
def isUnaligned (s : State) : Bool := alignMode s != 0 && alignState s != 2

/-- The current frame is found UNALIGNED, in the core cycle in which it first runs so (R49). -/
def noteUnaligned (injected : Bool) (s : State) : State :=
  if isUnaligned s && !s.tick.unaligned then
    let s := updTck (fun t => { t with unaligned := true }) s
    if s.tick.prevUnaligned then s else raiseInj E.FRAMES_UNALIGNED 0 s.now injected s
  else s

/-- The alignment state changes (R49): ARM clears whenever it becomes FREE. -/
def setAlign (st : Nat) (injected : Bool) (s : State) : State :=
  let s := s.wr ALIGN_STATUS_STATE st
  let s := if st = 0 then s.wr ALIGN_CTRL_ARM 0 else s
  noteUnaligned injected (updTck (fun t => { t with closeMarks := 0, missRun := if st = 3 then t.missRun else 0 }) s)

/-- A window of the current frame closes and its unit reports (R41, R42): the first incomplete action of the
frame is stamped and counted as FRAME_OVERRUN. The lowest incomplete entry index, in OVR_FIRST and in ARG 15:0, counts
within the frame's own entries, not within the bank (DESIGN CHOICE, log entry 74). -/
def judgeWindow (w : OpenWin) (s : State) : State :=
  let s := updTck (fun t => { t with wins := t.wins.filter (fun x => x.idx != w.idx) }) s
  let (inj, s) := takeInj FI_TICK_INJECT_INJ_OVERRUN 0 true s
  if w.complete && !inj then s
  else
    let s := s.incWrap OVERRUN_COUNT_OVERRUNS
    let s :=
      if s.tick.ovrCount = 0 then
        let r := mkRecord E.FRAME_OVERRUN 0 0 inj s
        let s := (countEvent E.FRAME_OVERRUN 0 inj s).updEv fun v => { v with seq := (v.seq + 1) % 65536 }
        let s := updTck (fun t => { t with ovrRec := some r }) s
        comparatorHits ((eventHits E.FRAME_OVERRUN.id s).map (· + 24)) s
      else s
    updTck (fun t =>
      { t with
        ovrFirst := if t.ovrCount = 0 then w.idx else min t.ovrFirst w.idx, ovrCount := t.ovrCount + 1 }) s

/-- What a unit does as its window closes: a flush window writes a record without a partner (R123), and a NOC_SLOT window
whose action is incomplete leaves its port back-pressured (R43). The window as its unit then reports it. -/
def endAction (w : OpenWin) (s : State) : OpenWin × State :=
  let s := if w.type = 0x20 then closeFlush w.unit w.idx s
    else if w.type = 0x30 && !w.complete then holdSlots w.idx s else s
  ((s.tick.wins.find? fun x => x.idx == w.idx).getD w, s)

/-- Every open window closes and is judged (R51). -/
def judgeAll (s : State) : State :=
  s.tick.wins.foldl (fun t w =>
    let (w, t) := endAction w t
    judgeWindow w t) s

/-- CLOCK_DEGRADED takes the alignment to DEGRADED (R49, R51): tick number and offset freeze, and every open
window closes. Where it comes again while the first mark after an exit is still awaited, the marks counted so far go on
being counted: the frozen value is still the same (DESIGN CHOICE, log entry 74: the spec does not say). -/
def degradeAlign (s : State) : State :=
  let s := setAlign 4 false (judgeAll s)
  updTck (fun t =>
    { t with marksFrozen := if t.awaitTick then t.marksFrozen else 0, awaitTick := false, phaseSet := false, acqFrom := .degraded, cut := true }) s

/-- The core PLL is judged stable again (R49, R51): FREE mode resumes the frozen frame; SYNC and MESH mode
wait for the mark or message that sets the tick number. -/
def restoreAlign (s : State) : State :=
  if alignState s ≠ 4 then s
  else if alignMode s = 0 then raise E.TICK_RESUMED 0 0 (setAlign 0 false s)
  else
    let s := setAlign 1 false s
    updTck (fun t => { t with awaitTick := true, phaseSet := false, acqFrom := .degraded }) s

/-- A marked tick is missed (R49): ALIGNED and HOLDOVER count the run of misses; HOLDOVER 0 acts as 1. -/
def missMark (injected : Bool) (s : State) : State :=
  let s := (s.incWrap SYNC_MISS_COUNT_MISSES).wr ALIGN_STATUS_IN_WINDOW 0
  let s := updTck (fun t => { t with closeMarks := 0 }) s
  let limit := max 1 (s.rd ALIGN_CTRL_HOLDOVER)
  let st := alignState s
  if st = 2 ∨ st = 3 then
    let n := if st = 2 then 1 else s.tick.missRun + 1
    if limit ≤ n then
      let s := setAlign 0 injected s
      raiseInj E.SYNC_LOST 0 limit injected s
    else setAlign 3 injected (updTck (fun t => { t with missRun := n }) s)
  else s

/-- A write that sets ARM is judged (R49). Reel states 3 to 5 are a burst on the pins. -/
def judgeArm (s : State) : State :=
  let refuse := (s.wr ALIGN_CTRL_ARM 0).wr ALIGN_STATUS_ARM_REFUSED 1
  let st := alignState s
  if st = 2 then s.wr ALIGN_CTRL_ARM 1
  else if st ≠ 0 then refuse
  else
    let running := (List.range 16).any fun n =>
      decide (3 ≤ s.rd RE_STATUS_STATE n) && decide (s.rd RE_STATUS_STATE n ≤ 5)
    if alignMode s = 0 ∨ running ∨ fixPending s ∨ s.rd ALIGN_TICK_EPOCH ≤ s.now then refuse
    else
      let s := setAlign 1 false (s.wr ALIGN_CTRL_ARM 1)
      updTck (fun t => { t with acqFrom := .arm, phaseSet := false }) s

/-- An epoch mark or message acts on ARM as a check (R49): the count is not changed. -/
def epochCheck (count : Nat) (s : State) : State :=
  let s := s.wr ALIGN_CTRL_ARM 0
  if count = s.rd ALIGN_TICK_EPOCH then s.wr ALIGN_STATUS_EPOCH_DONE 1
  else
    let s := raise E.TICK_MISMATCH 0 count (s.wr ALIGN_STATUS_EPOCH_MISMATCH 1)
    if alignState s = 2 then setAlign 0 false s else s

/-- A mark or message within one core cycle counts towards ALIGNED (R49): 4 in a row reach it. -/
def countClose (close : Bool) (s : State) : State :=
  if !close then updTck (fun t => { t with closeMarks := 0 }) s
  else if 4 ≤ s.tick.closeMarks + 1 then setAlign 2 false s
  else updTck (fun t => { t with closeMarks := t.closeMarks + 1 }) s

/-- The phase is trimmed towards an error, in 1/64 core cycle, by no more than 50 ppm of the time between
two marks (R49). -/
def trimPhase (err : Int) (s : State) : State :=
  let limit : Int := 50 * 64 * (s.period * 2 ^ s.rd ALIGN_CTRL_MARK_DIV : Nat)
  let want : Int := err * 1000000
  updTck (fun t => { t with phase := t.phase + max (-limit) (min limit want) }) s

end Sys2Proof.Machine
end

