-- ==== Sys2Proof/Machine/LaneOps.lean ====
section
/-! DEFINITION. Lane groups (chapter 13): bonded sets, locks, the lane states and what changes them. -/

namespace Sys2Proof.Machine

open F

/-- Lane states (LN_STATUS.STATE): 0 BANKED, 1 TRAINING, 2 QUIET, 3 ACTIVE. -/
def laneState (s : State) (g i : Nat) : Nat := s.rd LN_STATUS_STATE g i

/-- Lane 8g + i beside its registers. -/
def laneU (s : State) (g i : Nat) : LaneU := sget {} s.lanes (8 * g + i)

/-- Changes lane 8g + i. -/
def updLane (g i : Nat) (f : LaneU → LaneU) (s : State) : State :=
  s.updLanes fun m => sput {} m (8 * g + i) (f (sget {} m (8 * g + i)))

/-- Changes lane group g. -/
def updGroup (g : Nat) (f : GroupU → GroupU) (s : State) : State :=
  s.updGroups fun m => sput {} m g (f (sget {} m g))

/-- The role of group g (R289): 0 UNUSED, 1 REEL_CATCH, 2 MESH, 3 PCIE, 4 DIAG. -/
def groupRole (s : State) (g : Nat) : Nat := bits (s.rd LG_ROLE_WORD0 g) 2 0

/-- The monitored lane of word 0 of a LANE_ROLE (R302), if there is one. -/
def monitoredOf (w : Nat) : Option Nat :=
  if bits w 2 0 = 1 ∧ bit w 3 then some (if bit w 4 then bits w 7 5 else 7) else none

/-- The logical word that lane i carries (R302); 0 outside REEL_CATCH and on the monitored lane. -/
def wordOf (w i : Nat) : Nat :=
  if bits w 2 0 ≠ 1 ∨ monitoredOf w = some i then 0
  else if bit w 3 && bit w 4 && i == 7 then bits w 7 5
  else i

/-- The role of group g that lets its lanes carry blocks (R292): REEL_CATCH, MESH or DIAG. -/
def blockRole (s : State) (g : Nat) : Bool := groupRole s g == 1 || groupRole s g == 2 || groupRole s g == 4

/-- May PRBS run on lane i of the group (R303)? -/
def prbsLane (w i : Nat) : Bool := bits w 2 0 == 4 || monitoredOf w == some i

/-- How many block slots pass on group g in a number of core cycles (R292): ⌊cycles × R ÷ (99 × 10⁹)⌋ for the exact lane rate
R of R290. -/
def slotsIn (s : State) (g cycles : Nat) : Nat :=
  let w1 := s.rd LG_PLL_WORD1 g
  let rate4 := bits w1 18 0 * 1000 * bits w1 34 24 * 2 * (if bit (s.rd LG_ROLE_WORD0 g) 10 then 2 else 1)
  if blockRole s g then cycles * rate4 / (4 * 2 ^ bits w1 37 35 * 99 * 10 ^ 9) else 0

/-- The block slot of group g that has begun last, counted from its entry into its role. -/
def slotNow (s : State) (g : Nat) : Nat :=
  let a := (sget {} s.groups g).slotAt
  a.2 + slotsIn s g (s.cycle - a.1)

/-- Does the transmitter of lane i of group g send (R300, R306, R448)? It is off while BANKED, in electrical idle while QUIET
or while its PLL smoulders, and not the lane's own while boundary scan holds the pins. -/
def transmits (s : State) (g i : Nat) : Bool :=
  (laneState s g i == 1 || laneState s g i == 3) && s.rd LG_STATUS_PLL_STATE g != 3 && s.dbg.pins != 2

/-- What lane i of group g sends now (R300, R302, R303). -/
def lineMode (s : State) (g i : Nat) : LineMode :=
  let w := s.rd LG_ROLE_WORD0 g
  if !transmits s g i || !blockRole s g then .off
  else if s.flag LN_PRBS_CTRL_TX_EN g i && prbsLane w i then .prbs (s.rd LN_PRBS_CTRL_PATTERN g i)
  else if laneState s g i ≠ 3 ∨ monitoredOf w = some i then .idle
  else match groupRole s g with
    | 1 => .word (wordOf w i)
    | 2 => .mesh
    | _ => .idle

/-- The line of lane i follows a change: from the next block slot on it sends something else (R301). A transmitter that
goes off forgets its line, and one that comes on starts a new one (DESIGN CHOICE, log entry 81). -/
def noteLaneLine (g : Nat) (s : State) (i : Nat) : State :=
  let m := lineMode s g i
  let old := ((laneU s g i).line.head?.map (·.2)).getD .off
  if m = old then s
  else
    let at_ := slotNow s g + 1
    updLane g i (fun u => { u with line := if m = .off then [] else (at_, m) :: u.line }) s

/-- The lines of a group follow a change. -/
def noteLine (g : Nat) (s : State) : State := (List.range 8).foldl (noteLaneLine g) s

/-- Lanes of a Wavar link of the group (R290). -/
def linkWidth (w : Nat) : Nat := 2 ^ bits w 9 8

/-- The lanes of the bonded sets of the group (R297), set j in place j. -/
def bondedSets (w : Nat) : List (List Nat) :=
  match bits w 2 0 with
  | 1 => [(List.range 8).filter fun i => monitoredOf w != some i]
  | 2 => (List.range (8 / linkWidth w)).map fun j => (List.range (linkWidth w)).map (j * linkWidth w + ·)
  | _ => []

/-- Link l beside its registers. -/
def linkU (s : State) (l : Nat) : LinkU := sget {} s.mesh.links l

/-- Changes link l. -/
def updLink (l : Nat) (f : LinkU → LinkU) (s : State) : State :=
  s.updMesh fun m => { m with links := sput {} m.links l (f (sget {} m.links l)) }

/-- The links of a group (R290, R311): set and link index. -/
def groupLinks (g w : Nat) : List (Nat × Nat) :=
  if bits w 2 0 = 2 then (List.range (8 / linkWidth w)).map fun j => (j, 8 * g + j * linkWidth w) else []

/-- A link follows the readiness of its bonded set (R318): DOWN passes to INIT, INIT back to DOWN, and an UP link
counts the time it is not ready. Link states: 0 DOWN, 1 INIT, 2 UP, 3 QUIET. -/
def noteLink (g j l : Nat) (s : State) : State :=
  let ready := s.mbit LG_STATUS_READY j g
  match s.rd LK_STATUS_STATE 0 l with
  | 0 => if ready then (s.wr LK_STATUS_STATE 1 0 l).updMesh fun m => { m with reportDue := true } else s
  | 1 => if ready then s else (s.wr LK_STATUS_STATE 0 0 l).updMesh fun m => { m with reportDue := true }
  | 2 => updLink l (fun u => { u with notReady := if ready then none else some (u.notReady.getD s.cycle) }) s
  | _ => s

/-- The links of a group follow its sets. -/
def noteLinks (g : Nat) (s : State) : State :=
  (groupLinks g (s.rd LG_ROLE_WORD0 g)).foldl (fun t e => noteLink g e.1 e.2 t) s

/-- The lanes of some bonded sets are to be deskewed anew (R297, R302). -/
def loseDeskew (g : Nat) (lanes : List Nat) (s : State) : State :=
  lanes.foldl (fun t i => updLane g i (fun u => { u with deskewed := false }) t) s

/-- READY of a group, and with it its links, follow its lanes (R297, R318). -/
def refreshReady (g : Nat) (s : State) : State :=
  let sets := bondedSets (s.rd LG_ROLE_WORD0 g)
  let ready := fun j => match sets[j]? with
    | none => false
    | some l =>
      l.all fun i => laneState s g i == 3 && s.flag LN_STATUS_MARKER_LOCK g i && (laneU s g i).deskewed
  noteLinks g (s.wr LG_STATUS_READY (maskOf ((List.range 8).filter ready)) g)

/-- Marker lock is lost (R296). -/
def loseMarkers (g i : Nat) (injected : Bool) (s : State) : State :=
  if s.flag LN_STATUS_MARKER_LOCK g i then
    let s := updLane g i (fun u => { u with deskewed := false, missed := 0 }) (s.wr LN_STATUS_MARKER_LOCK 0 g i)
    raiseInj E.LANE_MARKER_LOST (8 * g + i) 0 injected (refreshReady g s)
  else s

/-- Block lock is lost (R296): marker lock goes with it. -/
def loseLock (g i : Nat) (injected : Bool) (s : State) : State :=
  if s.flag LN_STATUS_BLOCK_LOCK g i then
    let s := (s.wr LN_STATUS_BLOCK_LOCK 0 g i).incSat LN_LOCK_LOCK_LOSSES g i
    loseMarkers g i injected (raiseInj E.LANE_LOCK_LOST (8 * g + i) 0 injected s)
  else s

/-- PRBS stops on lanes that may not run it (R307). -/
def stopPrbs (g : Nat) (s : State) : State :=
  (List.range 8).foldl (fun t i =>
    if prbsLane (t.rd LG_ROLE_WORD0 g) i then t
    else ((t.wr LN_PRBS_CTRL_TX_EN 0 g i).wr LN_PRBS_CTRL_RX_EN 0 g i).wr LN_PRBS_CTRL_RX_LOCK 0 g i) s

/-- An eye scan ends at the banking of its lane (R307): ERRORS holds the count so far, a free value. -/
def endScan (g i : Nat) (s : State) : State :=
  if s.flag LN_EYE_CTRL_BUSY g i then
    let (v, s) := s.draw
    (s.wr LN_EYE_CTRL_BUSY 0 g i).wr LN_EYE_RESULT_ERRORS v g i
  else s

/-- One lane is banked (R300): transmitter, PLL and CDR loops off. -/
def bankLane (g i : Nat) (s : State) : State :=
  let s := [LN_STATUS_STATE, LN_STATUS_BLOCK_LOCK, LN_STATUS_MARKER_LOCK, LN_STATUS_ELASTIC, LN_SKEW_SKEW,
    LN_PRBS_CTRL_RX_LOCK].foldl (fun t f => t.wr f 0 g i) s
  endScan g i (updLane g i (fun _ => {}) s)

/-- LPLLg in the table of PLLs. -/
def lpll (g : Nat) : Nat := 16 + g

/-- A PLL beside its registers. -/
def State.pll (s : State) (d : Nat) : PllU := sget {} s.clk.plls d

/-- Changes a PLL. -/
def updPll (d : Nat) (f : PllU → PllU) (s : State) : State :=
  s.updClk fun c => { c with plls := sput {} c.plls d (f (sget {} c.plls d)) }

/-- Every lane of group g is banked (R291, R300). -/
def bankGroup (g : Nat) (s : State) : State :=
  let s := (List.range 8).foldl (fun t i => bankLane g i t) s
  let s := updGroup g (fun u => { slotAt := u.slotAt }) (updPll (lpll g) (fun _ => {}) (s.wr LG_STATUS_PLL_STATE 0 g))
  refreshReady g s

/-- LANE_TRAIN_TIMEOUT, once in a training (R300). -/
def trainTimeout (g : Nat) (injected : Bool) (s : State) : State :=
  updGroup g (fun u => { u with timedOut := true }) (raiseInj E.LANE_TRAIN_TIMEOUT g 0 injected s)

/-- The group passes through TRAINING (R300, R306), with no marker missed. -/
def trainGroup (g : Nat) (s : State) : State :=
  let s := (List.range 8).foldl (fun t i => updLane g i (fun u => { u with missed := 0 }) (t.wr LN_STATUS_STATE 1 g i)) s
  let s := updGroup g (fun u => { trainFrom := some s.cycle, slotAt := u.slotAt }) (noteLine g (refreshReady g s))
  let (inj, s) := takeInj FI_MISC_INJECT_INJ_TRAIN_TIMEOUT 0 (s.rd FI_MISC_INJECT_UNIT == g) s
  if inj then trainTimeout g true s else s

/-- A banked group is activated (R300, R301): its PLL locks and its lanes train. -/
def activateGroup (g : Nat) (s : State) : State :=
  let s := s.wr LG_STATUS_PLL_STATE 1 g
  trainGroup g (updPll (lpll g) (fun _ => { phase := .run }) s)

/-- SPARE and WORD of the lanes follow the role (R302). -/
def noteWords (g : Nat) (s : State) : State :=
  let w := s.rd LG_ROLE_WORD0 g
  (List.range 8).foldl (fun t i =>
    (t.setb LN_STATUS_SPARE (monitoredOf w == some i) g i).wr LN_STATUS_WORD (wordOf w i) g i) s

/-- The nominal frequencies that a LANE_ROLE gives its monitors (R401), in kHz. -/
def noteLaneNominal (g : Nat) (s : State) : State :=
  let w := s.rd LG_PLL_WORD1 g
  (s.wr MON_NOMINAL_KHZ (bits w 18 0) 0 (4 + g)).wr MON_NOMINAL_KHZ (bits w 18 0 * bits w 34 24 / 256) 0 (36 + g)

/-- The registers of a link; they read 0 unless their index is that of a link in the MESH role (R331). -/
def linkRegs : List Fld :=
  [LK_STATUS_STATE, LK_STATUS_WIDTH, LK_STATUS_PEER_ADDR, LK_STATUS_PEER_LINK, LK_STATUS_PEER_ADDR_VALID,
    LK_STATUS_SLOW, LK_SEQ_NEXT_SEQ, LK_SEQ_ACK_RX, LK_PEER_SERIAL, LK_ERRORS_CRC_ERRORS, LK_ERRORS_ACK_ERRORS,
    LK_ERRORS_DUPLICATES, LK_ERRORS_OUT_OF_ORDER, LK_REPLAY_REPLAYS, LK_REPLAY_TIMEOUTS, LK_REPLAY_DOWNS,
    LK_DELAY_ROUND_TRIP, LK_CTRL_QUIET, LK_CTRL_IGNORED, LK_FRAMES_TX_FRAMES, LK_FRAMES_RX_FRAMES]

/-- The link registers of group g follow its role (R290, R331). -/
def noteLinkRegs (g : Nat) (s : State) : State :=
  let w := s.rd LG_ROLE_WORD0 g
  let mine := (groupLinks g w).map (·.2)
  (List.range 8).foldl (fun t i =>
    let l := 8 * g + i
    if mine.contains l then
      let t := if t.rd LK_STATUS_STATE 0 l = 0 ∧ t.rd LK_SEQ_ACK_RX 0 l = 0 then t.wr LK_SEQ_ACK_RX 0xFFFF 0 l else t
      t.wr LK_STATUS_WIDTH (bits w 9 8) 0 l
    else updLink l (fun _ => {}) (linkRegs.foldl (fun u f => u.wr f 0 0 l) t)) s

/-- A LANE_ROLE item takes effect (R290, R291, R297, R302, R307): a change of ROLE, MOD, RATE or word 1 banks the
group's lanes and trains them anew; a change of the spare or of the link width alone lets the sets be deskewed again, each
to its reference lane. -/
def applyLaneRole (g w0 w1 : Nat) (s : State) : State :=
  let old := s.rd LG_ROLE_WORD0 g
  let slot := if bits old 2 0 ≠ bits w0 2 0 then 0 else slotNow s g
  let s := updGroup g (fun u => { u with slotAt := (s.cycle, slot) }) s
  let banks := bits old 2 0 ≠ bits w0 2 0 ∨ bit old 10 ≠ bit w0 10 ∨ bits old 32 16 ≠ bits w0 32 16 ∨
    s.rd LG_PLL_WORD1 g ≠ w1
  let resets := bits old 9 3 ≠ bits w0 9 3
  let s := stopPrbs g (noteLinkRegs g (noteLaneNominal g (noteWords g ((s.wr LG_ROLE_WORD0 w0 g).wr LG_PLL_WORD1 w1 g))))
  if bits w0 2 0 = 3 then s
  else if banks then
    let s := bankGroup g s
    if bits w0 2 0 = 0 then s else activateGroup g s
  else if resets then noteLine g (refreshReady g (loseDeskew g (List.range 8) s))
  else noteLine g (refreshReady g s)

/-- A lane becomes ACTIVE (R300). -/
def goActive (g i : Nat) (s : State) : State :=
  noteLaneLine g (updLane g i (fun u => { u with activeAt := s.cycle }) (s.wr LN_STATUS_STATE 3 g i)) i

/-- The lanes of a Wavar link are sent QUIET, or leave it (R300, R301). -/
def quietLanes (g : Nat) (lanes : List Nat) (quiet : Bool) (s : State) : State :=
  refreshReady g (lanes.foldl (fun t i =>
    if quiet && laneState t g i == 3 then noteLaneLine g (t.wr LN_STATUS_STATE 2 g i) i
    else if !quiet && laneState t g i == 2 then goActive g i t
    else t) s)

/-- LPLLg smoulders (R306): the transmitters squelch, the receivers lose lock, and reel engine g, where it runs a burst,
latches CLOCK and writes no further vector. -/
def squelch (g : Nat) (s : State) : State :=
  let s := noteLine g (raise E.LANE_SQUELCH g 0 (s.wr LG_STATUS_PLL_STATE 3 g))
  let s := (List.range 8).foldl (fun t i => loseLock g i false t) s
  if groupRole s g = 1 ∧ g < 16 then
    let st := reelState s g
    if st == 3 || st == 4 || st == 5 then substitute g causeClock (notSent s g) s else s
  else s

end Sys2Proof.Machine
end

