-- ==== Sys2Proof/Machine/RegionOps.lean ====
section
/-! DEFINITION. The regions: the floorplan (R130), what neighbours present (R147), the boundary check (R145),
power states and their mirrors (R415, R426), and the REGION reset (R13, R153). -/

namespace Sys2Proof.Machine

open F

/-- Region k of the device. -/
def State.region_ (s : State) (k : Nat) : RegionU := sget {} s.regions k

/-- Changes region k. -/
def updRegion (k : Nat) (f : RegionU → RegionU) (s : State) : State :=
  s.updRegions fun m => sput {} m k (f (s.region_ k))

/-- The region across edge e (0 north, 1 east, 2 south, 3 west), if the edge is shared (R130). -/
def across (k e : Nat) : Option Nat :=
  match e with
  | 0 => if k / 8 < 7 then some (k + 8) else none
  | 1 => if k % 8 < 7 then some (k + 1) else none
  | 2 => if 0 < k / 8 then some (k - 8) else none
  | _ => if 0 < k % 8 then some (k - 1) else none

/-- The I/O bank that region k touches: bank b serves column 0 or 7, rows 2 × (b mod 4) and the next (R130). -/
def bankOf (k : Nat) : Option Nat :=
  if k % 8 = 0 then some (k / 16) else if k % 8 = 7 then some (4 + k / 16) else none

/-- The regions that share an edge with region k. -/
def neighboursOf (k : Nat) : List Nat := (List.range 4).filterMap (across k)

/-- Do the region's clocks run (R154, R178, R418)? PSTATE: 0 Run, 1 Boost, 2 Damped, 3 Dark, 4 changing. -/
def regionRuns (s : State) (k : Nat) : Bool :=
  let p := s.rd RG_STATUS_PSTATE k
  (decide (p < 2) || (p == 4 && !(s.region_ k).stopped)) && !(s.region_ k).held

/-- Does a neighbour of region k receive held values (R147)? It does from the start of a down-ramp (R418). -/
def presentsHeld (s : State) (k : Nat) : Bool :=
  !regionRuns s k || s.rd SWAP_STATUS_STATE 0 k != 0 || (((s.region_ k).ramp.map fun r => !r.up).getD false)

/-- EDGE_STALE of region r (R145, R147): what the receiving lines of the edge have registered, or a group that stopped
capturing. An edge on which the design receives no group follows its neighbour's condition at once (DESIGN CHOICE, log
entry 79). A region whose clocks are stopped captures nothing. -/
def refreshStale (r : Nat) (s : State) : State :=
  if !regionRuns s r then s
  else
    let u := s.region_ r
    let bad := fun e =>
      (if u.design.receives.any fun x => x.1.val == e then u.stales.any fun x => x.1 / 24 == e && x.2 != 0
        else ((across r e).map (presentsHeld s)).getD false) ||
      u.heldGroups.any fun g => g / 48 == e
    s.wr RG_STATUS_EDGE_STALE (maskOf ((List.range 4).filter bad)) r

/-- The edges of region k and of its neighbours follow a change of its condition; while its clocks stand it launches
nothing. -/
def refreshEdges (k : Nat) (s : State) : State :=
  let s := if regionRuns s k || (s.region_ k).launched.isEmpty then s else updRegion k (fun u => { u with launched := [] }) s
  (k :: neighboursOf k).foldl (fun t r => refreshStale r t) s

/-- EDGE_SUSPECT of region r (R148, R149, R151): the temperature condition of the edge, or a bias fault on
either side. -/
def refreshSuspect (r : Nat) (s : State) : State :=
  let bad := fun e => (s.region_ r).hot.testBit e || s.flag RG_STATUS_BIAS_FAULT r ||
    ((across r e).map fun n => s.flag RG_STATUS_BIAS_FAULT n).getD false
  s.wr RG_STATUS_EDGE_SUSPECT (maskOf ((List.range 4).filter bad)) r

/-- BB_TRIM of a region in millivolts: signed, limited to 10 either way (R152). -/
def trimOf (s : State) (k : Nat) : Int :=
  let v := s.rd RG_BB_TRIM_TRIM k
  let t : Int := if v < 16 then v else (v : Int) - 32
  max (-10) (min 10 t)

/-- The target bias of a power state with the trim (R149, R415), as RG_BIAS holds it. -/
def biasTarget (s : State) (k st : Nat) : Nat :=
  let v : Int := match st with
    | 1 => 120 + trimOf s k
    | 2 => -160 + trimOf s k
    | _ => trimOf s k
  (v % 1024).toNat

/-- A region takes a power state: PSTATE and the mirrors of R426. One that has reached a state has reached its bias, unless
a BIAS_FAULT stands (log entry 79). -/
def setPstate (k st : Nat) (s : State) : State :=
  let s := s.wr RG_STATUS_PSTATE st k
  let s := s.setmbit PW_DAMPED_REGIONS k (st == 2)
  let s := s.setmbit PW_DARK_REGIONS k (st == 3)
  let s := s.setmbit PW_BOOST_REGIONS k (st == 1)
  let s := if st < 4 then s.wr RG_BIAS_TARGET (biasTarget s k st) k else s
  let s := if st < 4 && !s.flag RG_STATUS_BIAS_FAULT k then s.wr RG_BIAS_MEASURED (biasTarget s k st) k else s
  refreshEdges k s

/-- CONFIGURED of a region and its mirror (R201). -/
def setConfigured (k : Nat) (b : Bool) (s : State) : State :=
  (s.setb RG_STATUS_CONFIGURED b k).setmbit CFG_LOADED_REGIONS k b

/-- FRAME_UNCORRECTABLE of a region and its mirror (R219). -/
def setUncorrectable (k : Nat) (b : Bool) (s : State) : State :=
  (s.setb RG_STATUS_FRAME_UNCORRECTABLE b k).setmbit SCRUB_UNC_REGIONS_REGIONS k b

/-- One RELATED group of region r, 48 × edge + group, fails the check of R145. -/
def failGroup (r g : Nat) (injected : Bool) (s : State) : State :=
  let s := ((s.wr RG_MISMATCH_GROUP (g % 48) r).wr RG_MISMATCH_EDGE (g / 48) r).incSat
    RG_FAULT_COUNT_BCLK_MISMATCH r
  raiseInj E.BOUNDARY_CLOCK_MISMATCH r (g % 48 + g / 48 * 64) injected s

/-! Clock lines (R141). -/

/-- OUTj_DIV of a fabric PLL: word 0 of its CLOCK_SELECT in force (R397, R403). -/
def outDiv (s : State) (p j : Nat) : Nat := bits (s.rd CK_SEL_WORD0 0 (p + 1)) (39 + 8 * j) (32 + 8 * j)

/-- Does a source of region k give any edge (R141, R397, R405): an FPLL output that is on and not held low; an input of
the bank that the region touches? Domain states (CK_DOM.STATE): 0 RUN, 1 RAMPING, 2 SMOULDER, 3 HELD. -/
def sourceMoves (s : State) (k : Nat) (src : ClockSrc) : Bool :=
  match src with
  | .fpll p j => s.rd CK_DOM_STATE 0 (p + 1) != 3 && outDiv s p j != 0
  | .core _ => true
  | .input _ => (bankOf k).isSome

/-- Does a source run and stand stable (R141, R405, R407)? A clock-capable input has no monitor (R401): the model takes it
as stable (log entry 79). -/
def sourceRuns (s : State) (k : Nat) (src : ClockSrc) : Bool :=
  sourceMoves s k src && match src with
    | .fpll p _ => s.rd CK_DOM_STATE 0 (p + 1) == 0
    | .core _ => s.flag CK_STATUS_CORE_ON_CPLL && !s.flag CK_STATUS_DEGRADED
    | .input _ => true

/-- Two lines of different regions have the same clock source: the same output of the same FPLL (R141). -/
def sameSource : Option ClockSrc → Option ClockSrc → Bool
  | some (.fpll p j), some (.fpll q i) => p == q && j == i
  | _, _ => false

/-- The source of line l of a design. -/
def FabricDesign.source (d : FabricDesign) (l : Nat) : Option ClockSrc :=
  (d.lines.find? fun e => e.1.val == l).map (·.2.1)

/-- RG_CLK_STATUS of a region follows the sources of its lines, while its clocks run. -/
def refreshLines (k : Nat) (s : State) : State :=
  if !regionRuns s k then s.wr RG_CLK_STATUS_RUNNING 0 k
  else s.wr RG_CLK_STATUS_RUNNING (maskOf ((List.range 24).filter fun l =>
    ((((s.region_ k).design.source l).map (sourceRuns s k)).getD false))) k

/-! The boundary check (R145). -/

/-- The receiving groups of a region in RELATED mode: 48 × edge + group, and the receiving line. -/
def FabricDesign.relatedGroups (d : FabricDesign) : List (Nat × Nat) :=
  (d.receives.filter fun x => x.2.2.1 == .related).map fun x => (48 * x.1.val + x.2.1.val, x.2.2.2.val)

/-- The RELATED groups of region r whose sending region's driving line and receiving line have different sources (R145).
A group that nothing drives has no two lines to compare. -/
def unrelatedGroups (s : State) (r : Nat) : List Nat :=
  let d := (s.region_ r).design
  (d.relatedGroups.filter fun x =>
    match across r (x.1 / 48) with
    | none => false
    | some n =>
      let far := (s.region_ n).design
      match far.sends.find? fun y => y.1.val == (x.1 / 48 + 2) % 4 && y.2.1.val == x.1 % 48 with
      | none => false
      | some (_, _, l, _) => !sameSource (far.source l) (d.source x.2)).map (·.1)

/-- The check of every RELATED group (R145); INJ_BCLK makes the RELATED group that it names fail (R153). A group that
passes captures again. -/
def boundaryCheck (s : State) : State :=
  (List.range 64).foldl (fun t r =>
    let named := s.rd RG_INJECT_EDGE r * 48 + s.rd RG_INJECT_GROUP r
    let stands := decide (s.rd RG_INJECT_GROUP r < 48) && (s.region_ r).design.relatedGroups.any (·.1 == named)
    let (inj, t) := takeInj RG_INJECT_INJ_BCLK r stands t
    let real := unrelatedGroups s r
    let all := if inj && !real.contains named then real ++ [named] else real
    if all.isEmpty && (t.region_ r).heldGroups.isEmpty then t
    else
      let t := updRegion r (fun u => { u with heldGroups := all }) t
      refreshStale r (all.foldl (fun t g => failGroup r g (inj && g == named) t) t)) s

/-- The fields of the REGION domain of a region, its slices' apart (R153). -/
def regionFields : List Fld :=
  [RG_CTRL_IGNORED, RG_ROLE_MOVED_COUNT, RG_INJECT_EDGE, RG_INJECT_GROUP, RG_INJECT_INJ_TEMP,
    RG_INJECT_INJ_BIAS, RG_INJECT_INJ_BCLK]

/-- The fields of the REGION domain of a slice (R172). -/
def sliceFields : List Fld :=
  [SL_STATUS_STATE, SL_STATUS_OVF0, SL_STATUS_OVF1, SL_STATUS_STORE_SAT, SL_STATUS_CMD_IGNORED, SL_ITER_ITER,
    SL_PTR_P_X, SL_PTR_P_Y, SL_PTR_P_W, SL_PTR_PC, SL_FAULT_INFO_FAULT_CODE, SL_FAULT_INFO_FAULT_PC,
    SL_FAULT_INFO_PARITY_ERRS, SL_FAULT_INFO_FAULTS, SL_CYCLES_CYCLES, SL_MACS_MACS, SL_STALL_STALL_IN,
    SL_STALL_STALL_OUT, SL_STEAL_STOLEN, SL_INJECT_INJ_OPMEM, SL_INJECT_INJ_PROG]

/-- Clears a field in the slices of region k: every instance of its 96. -/
def clrSlices (k : Nat) (s : State) (f : Fld) : State :=
  s.updRegs fun r => sput [] r f.id ((sget [] r f.id).filter fun e => e.1 / 96 != k)

/-- Accumulators, pointers, iteration counters and FIFOs of a slice cleared; its memories, and X and Y, stay
(R161, R168). -/
def SliceU.cleared (u : SliceU) : SliceU :=
  { u with
    acc0 := 0, acc1 := 0, inFifo := [], outFifo := [], loops := [], past := false, sinceMac := 3, donePulse := false,
    ack := none }

/-- The slices of region k in IDLE with accumulators, pointers, iteration counters and FIFOs cleared (R168). -/
def idleSlices (k : Nat) (s : State) : State :=
  let s := [SL_STATUS_STATE, SL_ITER_ITER, SL_PTR_P_X, SL_PTR_P_Y, SL_PTR_P_W, SL_PTR_PC].foldl (clrSlices k) s
  s.updSlices fun m => (List.range 96).foldl (fun m j => sput {} m (k * 96 + j) (sget {} m (k * 96 + j)).cleared) m

/-- A REGION reset of region k (R13, R133, R153, R168): every flip-flop at its initial value, the registers
of the REGION domain at theirs, the boundary registers clear, the slices IDLE; memories and port state stay. -/
def regionReset (k : Nat) (s : State) : State :=
  let s := s.clrAllInst regionFields k
  let s := sliceFields.foldl (clrSlices k) s
  updRegion k (fun u => { u with flops := [], edges := [], acks := [] }) (idleSlices k s)

/-- The lines of every region follow a change of a source. -/
def refreshAllLines (s : State) : State := s.regions.foldl (fun t e => refreshLines e.1 t) s

/-- A region is held (R178): its clocks stop and its REGION reset is asserted. -/
def holdRegion (k : Nat) (s : State) : State :=
  let s := regionReset k (s.wr RG_CLK_STATUS_RUNNING 0 k)
  refreshEdges k (updRegion k (fun u => { u with held := true, design := {}, resetting := none }) s)

/-- A reading as a signed number of quarter degrees. -/
def tempOf (code : Nat) : Int := if code % 4096 < 2048 then (code % 4096 : Nat) else (code % 4096 : Nat) - 4096

/-- The difference of two readings. -/
def tempGap (a b : Nat) : Nat := (tempOf a - tempOf b).natAbs

/-- A sensor takes a reading: its value in the registers, and how long it has stood unchanged, against the
sum of the readings it is compared with (R468). -/
def takeReading (k code : Nat) (around : Int) (s : State) : State :=
  let u := s.region_ k
  let fresh := u.same == 0 || u.last != code
  updRegion k (fun u =>
    if fresh then { u with last := code, same := 1, refSum := around } else { u with same := u.same + 1 }) s

/-- Is a sensor judged stuck: 1,024 readings unchanged while the mean of the others has moved by 4 °C (R468)? -/
def stuck (u : RegionU) (around : Int) (count : Nat) : Bool :=
  decide (u.same ≥ 1024) && decide ((around - u.refSum).natAbs ≥ 16 * count)

end Sys2Proof.Machine
end

