-- ==== Sys2Proof/Machine/ClockOps.lean ====
section
/-! DEFINITION. The clocks (chapter 18): judging a clock, failing a reference, smoulder, switches and ramps. PLL 0
is the CPLL, 1 to 12 are FPLL0 to FPLL11, 16 + g is LPLLg. -/

namespace Sys2Proof.Machine

open F

/-- Monitor m beside its registers. -/
def monU (s : State) (m : Nat) : MonU := sget {} s.clk.mons m

/-- Changes monitor m. -/
def updMon (m : Nat) (f : MonU → MonU) (s : State) : State :=
  s.updClk fun c => { c with mons := sput {} c.mons m (f (sget {} c.mons m)) }

/-- Is the clock of monitor m judged stable? -/
def stable (s : State) (m : Nat) : Bool := s.flag MON_STATUS_STABLE 0 m

/-- Does the core clock count as stable (R401)? -/
def coreStable (s : State) : Bool := s.flag CK_STATUS_CORE_ON_CPLL && !s.flag CK_STATUS_DEGRADED

/-- Does the kindling oscillator count as stable (R401)? -/
def kindlingStable (s : State) : Bool := s.flag CK_KINDLING_TRIMMED

/-- The clock that COMPARE selects for monitor m (R401, R412): 0 the kindling oscillator, 1 to 4 REFCLK0 to REFCLK3,
5 the core clock. -/
def selClock (s : State) (m : Nat) : Nat :=
  let c := s.rd MON_CFG_COMPARE 0 m
  let named := if 5 < c ∨ (1 ≤ c ∧ c ≤ 4 ∧ m = c - 1) then 0 else c
  if m = 22 ∧ named = 0 then 5 else named

/-- Is a comparison clock judged stable (R401)? -/
def clockStable (s : State) (c : Nat) : Bool :=
  match c with
  | 0 => kindlingStable s
  | 5 => coreStable s
  | c + 1 => stable s c

/-- The frequency of a comparison clock in kHz (R401). -/
def clockKhz (s : State) (c : Nat) : Nat :=
  match c with
  | 0 => 200000
  | 5 => 1500000
  | c + 1 => s.rd MON_NOMINAL_KHZ 0 c

/-- The frequency in kHz of the comparison clock against which monitor m counts a window that ends now (R401);
none when it counts nothing. A window that began on the kindling oscillator stays on it; one that began when neither
clock was stable began with the selected clock. Monitor 22 falls back on the core clock. -/
def comparison (s : State) (m : Nat) : Option Nat :=
  let sel := selClock s m
  let back := if m = 22 then 5 else 0
  if m = 22 ∧ !coreStable s then none
  else if clockStable s sel ∧ (s.clk.selected.contains m ∨ !clockStable s back) then some (clockKhz s sel)
  else if clockStable s back then some (clockKhz s back)
  else none

/-- A window of monitor m begins: it counts against its selected comparison clock when that is judged stable (R401). -/
def startWindow (m : Nat) (s : State) : State :=
  let on := clockStable s (selClock s m)
  s.updClk fun c => { c with selected := (if on then [m] else []) ++ c.selected.filter (· != m) }

/-- Clock c is no longer judged stable: what counts against it counts on against the kindling oscillator (R401). -/
def dropSelected (c : Nat) (s : State) : State :=
  let keep := s.clk.selected.filter fun m => selClock s m != c
  s.updClk fun u => { u with selected := keep }

/-- The window exponent in effect (R412). -/
def windowExp (s : State) (m : Nat) : Nat := max 8 (min 24 (s.rd MON_CFG_WINDOW_EXP 0 m))

/-- Is a count of monitor m in band (R401)? |count − expected| ≤ expected × BAND ÷ 10⁶ + 1, with expected =
2^WINDOW_EXP × NOMINAL ÷ comparison frequency and BAND in units of 10 ppm. -/
def inBand (s : State) (m comp count : Nat) : Bool :=
  let e := 2 ^ windowExp s m * s.rd MON_NOMINAL_KHZ 0 m
  let d := ((count * comp : Nat) - (e : Int)).natAbs
  decide (d * 1000000 ≤ e * (s.rd MON_CFG_BAND 0 m * 10) + comp * 1000000)

/-- The deviation of a window as ERR holds it: signed, in 10 ppm, saturating (R412). -/
def windowErr (s : State) (m comp count : Nat) : Nat :=
  let e := 2 ^ windowExp s m * s.rd MON_NOMINAL_KHZ 0 m
  let d : Int := ((count * comp : Nat) - (e : Int)) * 100000 / (e : Int)
  ((max (-32768) (min 32767 d)) % 65536).toNat

/-- The monitor that judges the reference of a PLL (R397, R402, R403); LPLL17 in PCIE takes the reference of
group 16 (R305). -/
def refMonitor (s : State) (d : Nat) : Nat :=
  if d = 33 ∧ groupRole s 17 = 3 then 20
  else if 16 ≤ d then 4 + (d - 16)
  else
    let r := bits (s.rd CK_SEL_WORD0 0 d) 2 0
    if r = 4 then 23 else r

/-- The monitor that judges the VCO of a PLL (R401). -/
def vcoMonitor (d : Nat) : Nat := if 16 ≤ d then 36 + (d - 16) else 23 + d

/-- Is the PLL locked, so that its lock detector can report a loss (R402)? One that coasts, is held or is off is not. -/
def pllLocked (s : State) (d : Nat) : Bool :=
  match (s.pll d).phase with
  | .off | .coast | .held | .kindRelock => false
  | _ => true

/-- Every PLL. -/
def allPlls : List Nat := List.range 13 ++ (List.range 18).map (16 + ·)

/-- STATE of a domain (CK_DOM): 0 RUN, 1 RAMPING, 2 SMOULDER, 3 HELD. The lines that the PLL feeds follow. -/
def setDomain (d st : Nat) (s : State) : State :=
  if 16 ≤ d then s else refreshAllLines (s.wr CK_DOM_STATE st 0 d)

/-- Every READY channel is to enter self-refresh (R408); bit 0 of parked. -/
def parkChannels (bit : Nat) (s : State) : State :=
  (List.range 8).foldl (fun t c =>
    if t.rd DC_STATUS_STATE c == 2 then updDdr_ c (fun u => { u with parked := u.parked ||| bit }) t else t) s

/-- A reason for self-refresh is over (R260, R408). -/
def unparkChannels (bit : Nat) (s : State) : State :=
  (List.range 8).foldl (fun t c =>
    updDdr_ c (fun u => { u with parked := u.parked - (u.parked &&& bit) }) t) s

/-- CLOCK_DEGRADED comes into force (R51, R406, R408): cause 1 SMOULDER, 2 SWITCH. -/
def degradeClock (cause : Nat) (s : State) : State :=
  let s := dropSelected 5 (if cause = 1 then s.wr CK_STATUS_CORE_ON_CPLL 0 else s)
  if s.flag CK_STATUS_DEGRADED then s
  else
    let s := raise E.CLOCK_DEGRADED 0 0 ((s.wr CK_STATUS_DEGRADED 1).wr CK_STATUS_CAUSE cause)
    degradeAlign (parkChannels 1 (refreshAllLines s))

/-- Does the PLL run, so that a failed reference makes it smoulder (R402, R411)? One that is off, or held for an
FPLL switch, does not. -/
def pllRuns (s : State) (d : Nat) : Bool :=
  match (s.pll d).phase with
  | .off => false
  | .held => false
  | _ => true

/-- A PLL smoulders (R406, R407, R409, R411): it coasts, and during a CORE switch the domains stay on the kindling
oscillator until the new reference is stable. -/
def smoulder (d : Nat) (injected : Bool) (s : State) : State :=
  if !pllRuns s d then s
  else
    let s := s.incSat CK_COUNTS_SMOULDERS
    let s := if d < 13 then s.incSat CK_DOM_COUNTS_SMOULDERS 0 d else s
    let back := d == 0 && (s.pll 0).switching
    let s := setDomain d 2 s
    let s := updPll d (fun u =>
      { u with phase := if back then .kindRelock else .coast, step := 0, smoulder := true }) s
    let s := raiseInj E.PLL_SMOULDER d 0 injected s
    if d = 0 then degradeClock 1 s
    else if 16 ≤ d then squelch (d - 16) s
    else s

/-- The trim engine holds its code (R400): raised once. -/
def holdTrim (injected : Bool) (s : State) : State :=
  if s.flag CK_KINDLING_TRIM_HOLD then s
  else raiseInj E.KINDLING_TRIM_HOLD 0 0 injected (s.wr CK_KINDLING_TRIM_HOLD 1)

/-- The reference judged by monitor m fails (R402): the PLLs that run from it smoulder. -/
def failReference (m : Nat) (injected : Bool) (s : State) : State :=
  let s := updMon m (fun u => { u with failed := true }) s
  allPlls.foldl (fun t d => if refMonitor t d == m then smoulder d injected t else t) s

/-- Monitor m no longer judges its clock stable (a REFCLK also serves no longer as a comparison clock); the trim engine holds when it is the trim reference (R400). -/
def unstable (m : Nat) (injected : Bool) (s : State) : State :=
  let s := (s.wr MON_STATUS_STABLE 0 0 m).wr MON_STATUS_RUN 0 0 m
  let s := if m < 4 then dropSelected (m + 1) s else s
  if s.rd CK_KINDLING_TRIM_REF == m && decide (m < 4) then holdTrim injected s else s

/-- Monitor m sees no edge for 64 kindling cycles (R402). -/
def loseClock (m : Nat) (injected : Bool) (s : State) : State :=
  let s := (s.wr MON_STATUS_LOST 1 0 m).incSat MON_COUNTS_LOSSES 0 m
  failReference m injected (unstable m injected s)

/-- An edge keeper starts an up-ramp (R405). -/
def startUp (d : Nat) (s : State) : State :=
  setDomain d 1 (updPll d (fun u => { u with phase := .up, step := 1 }) s)

/-- A PLL is running at full rate again (R405, R409): a recovery raises PLL_STABLE and, for the CPLL,
CLOCK_RESTORED; a switch counts; the lanes of an LPLL train, those of the host link excepted (R305, R306). -/
def pllDone (d : Nat) (s : State) : State :=
  let u := s.pll d
  let s := updPll d (fun _ => { phase := .run }) s
  let s := if u.switching && decide (d < 13) then (s.incSat CK_COUNTS_SWITCHES).incSat CK_DOM_COUNTS_SWITCHES 0 d else s
  let s := if d = 0 then (((s.wr CK_STATUS_CORE_ON_CPLL 1).wr CK_STATUS_DEGRADED 0).wr CK_STATUS_CAUSE 0) else s
  let s := setDomain d 0 s
  let s := if u.smoulder then raise E.PLL_STABLE d 0 s else s
  if d = 0 then
    let s := unparkChannels 1 (raise E.CLOCK_RESTORED 0 0 s)
    let s := restoreAlign s
    (List.range 16).foldl payNotice s
  else if 16 ≤ d then
    let s := s.wr LG_STATUS_PLL_STATE 2 (d - 16)
    if groupRole s (d - 16) = 3 then s else trainGroup (d - 16) s
  else s

/-- The VCO of a PLL is judged stable (R405, R409). An LPLL has no edge keeper. -/
def vcoStable (m : Nat) (s : State) : State :=
  match allPlls.find? fun d => vcoMonitor d == m with
  | none => s
  | some d =>
    match (s.pll d).phase with
    | .judge => if 16 ≤ d then pllDone d s else startUp d s
    | .run => if 16 ≤ d ∧ s.rd LG_STATUS_PLL_STATE (d - 16) = 1 then s.wr LG_STATUS_PLL_STATE 2 (d - 16) else s
    | .kindJudge => updPll 0 (fun u => { u with phase := .kindDown, step := 16 }) (setDomain 0 1 s)
    | _ => s

/-- A window of monitor m ends in band or out of it (R401, R402). -/
def judgeClock (m : Nat) (good injected : Bool) (s : State) : State :=
  if good then
    let s := s.incSat MON_STATUS_RUN 0 m
    let s := updMon m (fun u => { u with bad := 0, failed := false }) s
    if max 1 (s.rd MON_CFG_K 0 m) ≤ s.rd MON_STATUS_RUN 0 m && !stable s m then
      vcoStable m (s.wr MON_STATUS_STABLE 1 0 m)
    else s
  else
    let s := unstable m injected (s.incSat MON_COUNTS_OUT_OF_BAND 0 m)
    let s := updMon m (fun u => { u with bad := u.bad + 1 }) s
    let u := monU s m
    if max 1 (s.rd MON_CFG_FAIL_K 0 m) ≤ u.bad && !u.failed then failReference m injected s else s

/-- A PLL relocks, and its VCO is judged anew (R405, R409). -/
def relock (d : Nat) (phase : PllPhase) (s : State) : State :=
  let m := vcoMonitor d
  let s := (s.wr MON_STATUS_STABLE 0 0 m).wr MON_STATUS_RUN 0 0 m
  updPll d (fun u => { u with phase := phase, step := 1 }) s

/-- The switch of a domain's source starts (R405, R409): its CLOCK_SELECT is already in force. -/
def startSwitch (d : Nat) (s : State) : State :=
  if d = 13 then s.updClk fun c => { c with search := 10, confirm := 0 }
  else
    let s := updPll d (fun u => { u with switching := true }) s
    match (s.pll d).phase with
    | .run =>
      let s := setDomain d 1 (updPll d (fun u => { u with phase := .down, step := 16 }) s)
      if d = 0 then degradeClock 2 s else s
    | .up =>
      let s := setDomain d 1 (updPll d (fun u => { u with phase := .down }) s)
      if d = 0 then degradeClock 2 s else s
    | .off => setDomain d 3 (updPll d (fun u => { u with phase := .held }) s)
    | .judge => if (s.pll d).smoulder then updPll d (fun u => { u with phase := .coast }) s
        else setDomain d 3 (updPll d (fun u => { u with phase := .held }) s)
    | _ => s

/-- A ramp takes its next step (R405). -/
def rampStep (d : Nat) (s : State) : State :=
  let u := s.pll d
  match u.phase with
  | .up => if u.step < 16 then updPll d (fun u => { u with step := u.step + 1 }) s else s
  | .kindUp =>
    if u.step < 16 then updPll d (fun u => { u with step := u.step + 1 }) s
    else setDomain d 3 (updPll d (fun u => { u with phase := .kindRelock, step := 16 }) s)
  | .down =>
    if 1 < u.step then updPll d (fun u => { u with step := u.step - 1 }) s
    else if d = 0 then updPll d (fun u => { u with phase := .kindUp, step := 1 }) (s.wr CK_STATUS_CORE_ON_CPLL 0)
    else setDomain d 3 (updPll d (fun u => { u with phase := .held, step := 0 }) s)
  | .kindDown =>
    if 1 < u.step then updPll d (fun u => { u with step := u.step - 1 }) s
    else startUp d s
  | _ => s

/-- The count that a trim window would show at the nominal kindling frequency, as a numerator over 30 (R400):
reference cycles in 2^16 kindling cycles, or kindling cycles between marks. -/
def trimNominal (s : State) : Nat :=
  let r := s.rd CK_KINDLING_TRIM_REF
  if r = 5 then s.period * 2 ^ s.rd ALIGN_CTRL_MARK_DIV * 4
  else 65536 * s.rd MON_NOMINAL_KHZ 0 r * 30 / 200000

/-- May the trim engine use its reference (R400)? -/
def trimUsable (s : State) : Bool :=
  let r := s.rd CK_KINDLING_TRIM_REF
  if r = 5 then alignMode s == 1 else stable s r

/-- A trim window ends with a count (R400): search, confirmation, tracking. A higher code is taken to run
faster (PRESUMED, log entry 22). -/
def trimWindow (count : Nat) (s : State) : State :=
  if !trimUsable s then holdTrim false s
  else if s.flag CK_KINDLING_TRIM_HOLD then
    (s.wr CK_KINDLING_TRIM_HOLD 0).updClk fun c => { c with search := 0 }
  else
    let want := trimNominal s
    let got := count * 30
    let byMark := s.rd CK_KINDLING_TRIM_REF = 5
    let fast := if byMark then want < got else got < want
    let k := s.clk.search
    let code := s.rd CK_KINDLING_TRIM_CODE
    if 0 < k then
      let tried := if k = 10 then 512 else code
      let kept := if fast then tried - 2 ^ (k - 1) else tried
      let next := if 1 < k then kept + 2 ^ (k - 2) else kept
      (s.wr CK_KINDLING_TRIM_CODE next).updClk fun c => { c with search := k - 1, confirm := 0 }
    else if ((got : Int) - want).natAbs * 1000 ≤ want then
      let n := s.clk.confirm + 1
      let s := s.updClk fun c => { c with confirm := min 4 n }
      if 4 ≤ n then s.wr CK_KINDLING_TRIMMED 1 else s
    else
      let s := s.updClk fun c => { c with confirm := 0 }
      s.wr CK_KINDLING_TRIM_CODE (if fast then code - 1 else min 1023 (code + 1))

end Sys2Proof.Machine
end

