-- ==== Sys2Proof/Machine/EncOps.lean ====
section
/-! DEFINITION. The key operations' shared steps (R280 to R284, R432 to R435). -/

namespace Sys2Proof.Machine

open F

/-- Key ID states (KEY_STATE.STATE): 0 EMPTY, 1 LOADED, 2 ACTIVE, 3 RETIRING. -/
def keyState (s : State) (k : Nat) : Nat := s.rd KEY_STATE_STATE 0 k

/-- The stamp d core cycles after a tick and offset, at the frame length in force. -/
def stampAfter (s : State) (tick off d : Nat) : Nat × Nat :=
  (tick + (off + d) / max 1 s.period, (off + d) % max 1 s.period)

/-- A key operation is accepted with its outcome (R280). -/
def acceptKey (ring idx kind kid code mode target : Nat) (s : State) (walks : Bool := false) : State :=
  let t := s.now
  let o := s.offset
  updEngine (fun e => { e with jobs := e.jobs ++ [⟨ring, idx, kind, kid, code, mode, target, t, o, walks⟩] })
    (runOp ring idx s)

/-- A key operation is refused: the reason is logged now, the answer follows (R283, R284). -/
def refuseKey (ring idx kind operation kid reason : Nat) (s : State) : State :=
  acceptKey ring idx kind kid Code.REFUSED 0 0 (refuse operation kid 0 0 reason s)

/-- INJ_REFUSE refuses the next key operation (R287). -/
def injectedRefusal (s : State) : Bool × State := takeInj EN_INJECT_INJ_REFUSE 0 true s

/-- The slot-wrapping key of the effective lifecycle class (R432): 1 Developer, 2 Production. -/
def slotWrapKey (c : Nat) : List Nat :=
  kdf ((List.range 32).map fun i => Config.rootKey i % 256)
    [0x4C, 0x58, 0x39, 0x53, 0x4C, 0x4F, 0x54, 0x57, 0x00, c]

/-- RETIRE_QUEUE follows the IDs that retire and do not walk (R287). -/
def noteRetiring (s : State) : State :=
  s.wr EN_STATUS_RETIRE_QUEUE (s.enc.retiring.length - (if s.enc.walk.isSome then 1 else 0))

/-- The ranges bound to a key ID, in range-number order. -/
def boundRanges (s : State) (k : Nat) : List Nat :=
  (List.range 16).filter fun j => s.rd RANGE_STATUS_STATE 0 j == 1 && s.rd RANGE_STATUS_KEY_ID 0 j == k

/-- The first address of a range, and the first one after it. -/
def rangeStart (s : State) (j : Nat) : Nat := s.rd RANGE_BASE_SECTOR 0 j * 4096
def rangeEnd (s : State) (j : Nat) : Nat := (s.rd RANGE_LIMIT_SECTOR 0 j + 1) * 4096

end Sys2Proof.Machine
end

