-- ==== Sys2Proof/Machine/Secded.lean ====
section
/-! DEFINITION. SECDED over n data bits (R137, R139, R175): c Hamming check bits and one overall parity bit, the code's
top bit. Data bit i stands at the i-th position from 3 on that is no power of two, and check bit j covers the positions
with bit j (log entry 79). -/

namespace Sys2Proof.Machine

/-- The position after p for a data bit: the next one that is no power of two. -/
def nextPos (p : Nat) : Nat := if (p + 1) &&& p = 0 then p + 2 else p + 1

/-- The positions of n data bits, after position p. -/
def positions : Nat → Nat → List Nat
  | 0, _ => []
  | n + 1, p => nextPos p :: positions n (nextPos p)

/-- The Hamming check bits of n data bits d. -/
def checkBits (n d : Nat) : Nat :=
  ((positions n 2).foldl (fun (a : Nat × Nat) p => (if a.2 % 2 = 1 then a.1 ^^^ p else a.1, a.2 / 2)) (0, d)).1

/-- Is the number of ones among the low n bits odd? -/
def oddOnes (n d : Nat) : Bool := (List.range n).foldl (fun b i => b != d.testBit i) false

/-- The code of n data bits d: c check bits, and the bit that makes the ones of data and code even. -/
def secdedCode (n c d : Nat) : Nat :=
  checkBits n d + if oddOnes n d != oddOnes c (checkBits n d) then 2 ^ c else 0

/-- What n data bits with their code read as: the data, and 0 no error, 1 a single error corrected, 2 a double one. -/
def secdedRead (n c d code : Nat) : Nat × Nat :=
  let syn := checkBits n d ^^^ code % 2 ^ c
  let odd := oddOnes n d != oddOnes (c + 1) code
  if syn = 0 then (d, if odd then 1 else 0)
  else if !odd then (d, 2)
  else if syn &&& (syn - 1) = 0 then (d, 1)
  else match (positions n 2).findIdx? (· == syn) with
    | some i => (d ^^^ 2 ^ i, 1)
    | none => (d, 2)

end Sys2Proof.Machine
end

