-- ==== Sys2Proof/Machine/ConfigOps.lean ====
section
/-! DEFINITION. The configuration block (R173 to R201): frames, the stream, its checks and keys, failure and
release; and the swaps that it serves (R202 to R209). -/

namespace Sys2Proof.Machine

open F

/-- Changes the configuration block. -/
def upC (f : CfgSt → CfgSt) (s : State) : State := s.updCfg f

/-- The stream ID of the configuration block (R221, R222). -/
def streamCfg : Nat := streamOf (portAt 7 0 0)

/-- The states of the configuration block (CFG_STATUS.STATE): 0 IDLE, 1 HEADER, 2 CLEARING, 3 LOADING, 4
RELEASE_WAIT. -/
def cfgState (s : State) : Nat := s.rd CFG_STATUS_STATE

/-- The number of frames (R173), and the linear index of frame f of block b: 40h the global block (R174, R189). -/
def frameCount : Nat := 659456
def frameIdx (b f : Nat) : Nat := if b = 0x40 then f else 4096 + b * 10240 + f

/-- The block of a linear index, and its frame address (R174). -/
def frameBlock (l : Nat) : Nat := if l < 4096 then 0x40 else (l - 4096) / 10240
def frameAddr (l : Nat) : Nat :=
  frameBlock l * 2 ^ 16 + (if l < 4096 then l else (l - 4096) % 10240)

/-- The frames of a block. -/
def blockFrames (b : Nat) : Nat := if b = 0x40 then 4096 else 10240

/-- The regions of a mask. -/
def regionsOf (mask : Nat) : List Nat := (List.range 64).filter fun k => mask.testBit k

/-- The frames of these blocks cleared to zero, with the trailers of zero frames (R173, R178). -/
def clearFrames (blocks : List Nat) (s : State) : State :=
  let keep := fun (m : List (Nat × Nat)) => m.filter fun e => !blocks.contains (frameBlock e.1)
  (((s.updFrames keep).updFrameDyn keep).updFrameCode keep).updFrameBad keep

/-- Is a stream byte range there: within the length of a stream in memory or flash, or shifted in already (R192 to
R194)? -/
def streamHas (s : State) (off n : Nat) : Bool :=
  let c := s.cfg
  if c.src = 3 then decide (off + n ≤ c.jtag.length)
  else decide (off + n ≤ c.len)

/-- Does the stream wait for its channel (R39, R254, R255, R408): for the next line to be read? -/
def streamRests (s : State) : Bool :=
  s.cfg.src == 1 && (dramRests s s.cfg.addr s.cfg.len || accessHeld s (s.cfg.addr + s.cfg.pos) 1)

/-- Is a late alarm for data of the stream on its way (R276)? -/
def streamAlarmed (s : State) : Bool := s.cfg.src == 1 && s.enc.alarms.any (·.sid == streamCfg)

/-- n bytes of device DRAM read by the configuration block (R206), in pieces of 1,024 bytes at most, from its k-th request on;
a parity error may meet one (R239). -/
def readDram (upset : Option Upset) : Nat → Nat → Nat → Nat → State → Option (List Byte) × State
  | 0, _, _, _, s => (some [], s)
  | fuel + 1, k, a, n, s =>
    if n = 0 then (some [], s)
    else
      let m := min n (1024 - a % 1024)
      let (r, s) := blockRead streamCfg a m s 0 upset k
      if r.code ≠ Code.OK then (none, s)
      else
        match readDram upset fuel (k + 1) (a + m) (n - m) s with
        | (some t, s) => (some (r.data ++ t), s)
        | (none, s) => (none, s)

/-- The host memory that the CONFIG_LOAD in progress reads. -/
def streamMem (s : State) : Mem :=
  match s.cfg.op.bind fun e => opAt s e.1 e.2 with
  | some o => hostImage s o
  | none => s.hostMem

/-- The stream bytes off to off + n − 1; nothing when the read is refused (R206). They count as taken in. -/
def streamRead (off n : Nat) (s : State) : Option (List Byte) × State :=
  let c := s.cfg
  let s := s.wr CFG_BYTES_BYTES (max (s.rd CFG_BYTES_BYTES) (off + n))
  match c.src with
  | 1 => readDram c.upset (n / 1024 + 2) 0 (c.addr + off) n s
  | 2 => (some (memBytes s.flash (c.addr + off) n), s)
  | 3 => (some ((c.jtag.drop off).take n), s)
  | _ => (some (memBytes (streamMem s) (c.addr + off) n), s)

/-- Byte b of a list, and its little-endian number of n bytes from byte b. -/
def leAt (l : List Byte) (b n : Nat) : Nat := leNat ((byteVals (l.drop b)).take n)

/-- The load ends: its per-load state is gone, an alarm for its data on the way concerns no later load, the block is
IDLE, and CFG_RELEASE_TICK gives the last release again (R201, R276). -/
def cfgIdle (s : State) : State :=
  let s := match s.cfg.acceptedAt with
    | some t => s.wr CFG_TIME_CYCLES (s.cycle - t)
    | none => s
  let c := s.cfg
  let s := updEngine (fun e => { e with alarms := e.alarms.filter (·.sid != streamCfg) }) s
  upC (fun _ =>
    { passStart := c.passStart, skipDyn := c.skipDyn, skipExc := c.skipExc, steps := c.steps,
      owed := c.owed, reloads := c.reloads, noAuto := c.noAuto, lastRelease := c.lastRelease })
    ((if cfgState s = 4 then s.wr CFG_RELEASE_TICK_TICK c.lastRelease else s).wr CFG_STATUS_STATE 0)

/-- The result of a load in its registers and in the completion of its CONFIG_LOAD, whose FIELD names no descriptor field
(R198, R201, R350, R356). A refused key moves no counter but REFUSALS (R283). -/
def cfgResult (code cause field : Nat) (s : State) : State :=
  let s := ((s.wr CFG_RESULT_CODE code).wr CFG_RESULT_CAUSE cause).wr CFG_RESULT_FIELD field
  let s := if cause = 0x08 then s
    else if code = Code.OK then s.incSat CFG_COUNTS_LOADS_OK
    else s.incSat CFG_COUNTS_LOADS_FAILED
  match s.cfg.op with
  | some (ring, idx) => decideOp ring idx code 0 (cause + field * 256) s
  | none => s

/-- Debug readback has read so many frames, each on a borrowed scrub step (R213, R348, R456). -/
def borrowFrames (n : Nat) (s : State) : State :=
  if n = 0 then s else upC (fun c => { c with owed := c.owed + n }) (s.wr SCRUB_STATUS_BORROWED 1)

/-- RELOAD_ACTIVE follows the swaps that automatic reloads have under way (R219). -/
def refreshReloads (s : State) : State :=
  s.setb SCRUB_STATUS_RELOAD_ACTIVE ((List.range 64).any fun j => s.flag SWAP_STATUS_AUTO 0 j && s.flag RG_STATUS_SWAP j)

/-- A region's swap ends FAILED, and the region unconfigured (R208). -/
def swapFailed (code cause k : Nat) (s : State) : State :=
  let s := (((s.wr SWAP_STATUS_STATE 5 0 k).wr SWAP_STATUS_CODE code 0 k).wr SWAP_STATUS_CAUSE cause 0 k).wr
    SWAP_TICK_TICK s.now 0 k
  let s := refreshReloads (setConfigured k false (s.wr RG_STATUS_SWAP 0 k))
  let auto := s.flag SWAP_STATUS_AUTO 0 k
  let s := if auto then upC (fun c => { c with noAuto := k :: c.noAuto }) s else s
  raise E.SWAP_FAILED k (code + cause * 2 ^ 16) (refreshEdges k s)

/-- A load fails or is aborted (R198, R199, R208): code, cause and position are recorded, the event is raised,
and every region of a swap group ends FAILED. -/
def cfgFail (code cause field pos : Nat) (s : State) : State :=
  let group := s.cfg.swap
  let s := cfgResult code cause field (s.wr CFG_ERR_POS_OFFSET pos)
  let s := raise E.CONFIG_LOAD_FAIL 0 (code + cause * 2 ^ 16) s
  group.foldl (fun t k => swapFailed code cause k t) (cfgIdle s)

/-- The stream ends before END, taken in to its last byte (R192, R201). -/
def cfgShort (pos : Nat) (s : State) : State :=
  cfgFail Code.BAD_FIELD 0x0F 0 pos (s.wr CFG_BYTES_BYTES (max (s.rd CFG_BYTES_BYTES) s.cfg.len))

/-- The key that a header names is refused: the refusal is counted and logged, and the answer waits (R198, R283,
R284). -/
def holdKey (s : State) : State :=
  upC (fun c => { c with refusedAt := some (s.now, s.offset) }) (refuse 7 0 0 streamCfg 0x12 s)

/-- The answer to a refused key, stamped 2,048 core cycles after the header arrived (R198, R283). -/
def answerKey (tick off : Nat) (s : State) : State :=
  let op := s.cfg.op
  let (t, o) := stampAfter s tick off 2048
  if s.now < t ∨ (s.now = t ∧ s.offset < o) then s
  else
    let s := cfgFail Code.REFUSED 0x08 0 0 s
    match op with
    | some (ring, idx) => s.updOp ring idx fun p => { p with tick := t, off := o }
    | none => s

/-- A load begins (R192 to R195): the block takes in the header. Sources of CFG_STATUS: 1 host, 2 xSPI, 3 JTAG. -/
def cfgStart (src source addr len : Nat) (op : Option (Nat × Nat)) (group : List Nat) (s : State) : State :=
  let s := (s.wr CFG_STATUS_STATE 1).wr CFG_STATUS_SOURCE source
  let s := ((((s.wr CFG_STATUS_FORMAT 0).wr CFG_STATUS_ENCRYPTED 0).wr CFG_STATUS_ID_RESULT 0).wr
    CFG_BYTES_BYTES 0).wr CFG_FRAMES_FRAMES 0
  upC (fun c => { c with src := src, addr := addr, len := len, op := op, swap := group }) (s.wr CFG_SEGMENT_SEG 0)

/-- Is a configuration load, or a group that waits for the block, in the way of a load request (R195, R206), or FABRIC running (R483)? -/
def cfgBusy (s : State) : Bool :=
  cfgState s != 0 || s.rd BOOT_STATUS_STAGE == 6 || (List.range 64).any fun k =>
    s.rd SWAP_STATUS_STATE 0 k == 2 || s.rd SWAP_STATUS_STATE 0 k == 3

/-- What a header check finds: a failure's code, cause and field. -/
abbrev Flaw := Option (Nat × Nat × Nat)

/-- The first failure of a list of checks in order. -/
def firstFlaw (l : List (Bool × Nat × Nat × Nat)) : Flaw := (l.find? (·.1)).map (·.2)

/-- The identity check (R191): the code of ID_RESULT. -/
def identity (s : State) (idcode grade : Nat) : Nat :=
  if bits idcode 27 1 ≠ bits (s.rd GL_IDCODE_IDCODE) 27 1 then 2
  else if grade = 3 ∧ s.rd GL_GRADE_SPEED = 2 then 3
  else 1

/-- May the load of this kind be accepted (R177, R206)? -/
def kindFlaw (s : State) (full : Bool) (mask : Nat) : Bool :=
  let c := s.cfg
  if !c.swap.isEmpty then full || mask != maskOf c.swap || !s.flag CFG_STATUS_GLOBAL_LOADED
  else if full then s.rd CFG_LOADED_REGIONS != 0 || s.flag CFG_STATUS_GLOBAL_LOADED
  else
    !s.flag CFG_STATUS_GLOBAL_LOADED ||
    (regionsOf mask).any fun k =>
      ((s.flag RG_STATUS_CONFIGURED k || s.rd RG_STATUS_PSTATE k == 2) && !s.flag RG_STATUS_SWAP k) ||
      match c.op with
      | some (ring, _) => s.rd RG_OWNER_OWNER k != 0x40 && s.rd RG_OWNER_OWNER k != ring
      | none => false

/-- The lifecycle check (R186): plaintext only in Blank and Developer; nothing in Retired. -/
def lifeFlaw (s : State) (enc : Bool) : Bool :=
  let l := lifecycle s
  l == 4 || (!enc && l != 0 && l != 1)

/-- Is user key slot k usable for configuration (R435)? -/
def slotOpens (s : State) (k : Nat) : Bool := s.rd SLOT_STATE_STATE 0 k == 1 && s.flag SLOT_STATE_CONFIG 0 k

/-- The header checks of an F2 stream, in the order of R198. -/
def flawF2 (s : State) (h : List Byte) : Flaw :=
  let w := leAt h 0x0C 4
  let enc := bit w 2
  let full := bit w 3
  let mask := leAt h 0x10 8
  let id := identity s (leAt h 0x08 4) (bits w 1 0)
  firstFlaw [
    (leAt h 4 2 != 2, Code.BAD_FIELD, 0x01, 2),
    (crc32 (h.take 60) != leAt h 0x3C 4, Code.BAD_FIELD, 0x02, 13),
    (id == 2, Code.BAD_FIELD, 0x03, 3),
    (id == 3, Code.INCONSISTENT, 0x04, 4),
    (leAt h 6 2 != 0, Code.BAD_FIELD, 0x05, 0),
    (decide (bits w 1 0 < 2), Code.BAD_FIELD, 0x05, 4),
    (bits w 7 4 != 0 || bits w 31 12 != 0, Code.BAD_FIELD, 0x05, 0),
    (!enc && bits w 11 8 != 0, Code.BAD_FIELD, 0x05, 7),
    (mask == 0 || (full && mask != 2 ^ 64 - 1), Code.BAD_FIELD, 0x05, 8),
    (leAt h 0x20 4 == 0 || decide (leAt h 0x20 4 > 65535), Code.OUT_OF_RANGE, 0x05, 10),
    (leAt h 0x24 4 == 0 || decide (leAt h 0x24 4 > frameCount), Code.OUT_OF_RANGE, 0x05, 11),
    ((h.drop 0x2C).take 16 |>.any (· != 0), Code.BAD_FIELD, 0x05, 0),
    (lifeFlaw s enc, Code.LIFECYCLE, 0x06, 0),
    (kindFlaw s full mask, Code.INCONSISTENT, 0x07, 0),
    (enc && !slotOpens s (bits w 11 8), Code.REFUSED, 0x08, 0)]

/-- The header checks of an F1 stream (R189, R190, R198). -/
def flawF1 (s : State) (h : List Byte) : Flaw :=
  let w := leAt h 0x08 4
  let id := identity s (leAt h 0x04 4) (bits w 1 0)
  firstFlaw [
    (crc32 (h.take 28) != leAt h 0x1C 4, Code.BAD_FIELD, 0x02, 13),
    (id == 2, Code.BAD_FIELD, 0x03, 3),
    (id == 3, Code.INCONSISTENT, 0x04, 4),
    (decide (bits w 1 0 < 2), Code.BAD_FIELD, 0x05, 4),
    (bits w 31 2 != 0, Code.BAD_FIELD, 0x05, 0),
    (leAt h 0x0C 4 == 0 || decide (leAt h 0x0C 4 > frameCount), Code.OUT_OF_RANGE, 0x05, 11),
    ((h.drop 0x10).take 12 |>.any (· != 0), Code.BAD_FIELD, 0x05, 0),
    (lifeFlaw s false, Code.LIFECYCLE, 0x06, 0),
    (kindFlaw s true (2 ^ 64 - 1), Code.INCONSISTENT, 0x07, 0)]

/-- The position of the first byte of a header field in an F2 or F1 header (R181, R189). -/
def fieldPos (f1 : Bool) (field : Nat) : Nat :=
  if f1 then
    match field with
    | 3 => 0x04
    | 4 => 0x08
    | 11 => 0x0C
    | 13 => 0x1C
    | _ => 0
  else
    match field with
    | 2 => 0x04
    | 3 => 0x08
    | 4 => 0x0C
    | 7 => 0x0C
    | 8 => 0x10
    | 10 => 0x20
    | 11 => 0x24
    | 13 => 0x3C
    | _ => 0

/-- The offset of the first reserved header item that is not 0 (R181, R189, R198). -/
def reservedPos (f1 : Bool) (h : List Byte) : Nat :=
  let items := if f1 then (0x08, bits (leAt h 0x08 4) 31 2) :: (List.range 3).map fun j => (0x10 + 4 * j, leAt h (0x10 + 4 * j) 4)
    else [(0x06, leAt h 6 2), (0x0C, bits (leAt h 0x0C 4) 7 4 + bits (leAt h 0x0C 4) 31 12)] ++
      (List.range 4).map fun j => (0x2C + 4 * j, leAt h (0x2C + 4 * j) 4)
  ((items.find? fun e => e.2 != 0).map (·.1)).getD 0

/-- A region that a load names is held, and a Dark one brought to Run (R178). A Damped one, which a swap
names, returns to Run with its clocks held (R425). -/
def loadRegion (k : Nat) (s : State) : State :=
  let s := setConfigured k false (holdRegion k s)
  let s := updRegion k (fun u => { u with stopped := false, luts := [], brams := [], deeps := [], heldGroups := [] }) s
  if s.rd RG_STATUS_PSTATE k ≤ 1 then s else setPstate k 0 s

/-- The header is accepted (R178, R196): the named regions are held, the named frames cleared. -/
def acceptHeader (f1 : Bool) (h : List Byte) (s : State) : State :=
  let w := leAt h 0x0C 4
  let enc := !f1 && bit w 2
  let full := f1 || bit w 3
  let mask := if f1 then 2 ^ 64 - 1 else leAt h 0x10 8
  let nonce := byteVals ((h.drop 0x18).take 8)
  let s := (s.wr CFG_STATUS_STATE 2).wr CFG_DESIGN_ID_DESIGN_ID
    (if f1 then 0 else leAt h 0x28 4)
  let regions := regionsOf mask
  let s := regions.foldl (fun t k => loadRegion k t) s
  let s := clearFrames (if full then 0x40 :: regions else regions) s
  let key := if enc then kdf (sget [] s.enc.slotKeys (bits w 11 8))
      ([0x4C, 0x58, 0x39, 0x43, 0x46, 0x47, 0x4B, 0x52, 0] ++ nonce ++ beBytes 0 4) else []
  upC (fun c =>
    { c with
      pos := h.length, header := h, full := full, mask := mask, nonce := nonce,
      segments := if f1 then 1 else leAt h 0x20 4, writes := if f1 then leAt h 0x0C 4 else leAt h 0x24 4,
      key := key, acceptedAt := some s.cycle }) s

/-- A header taken in (R191, R196, R198), and judged once no alarm for its bytes is on the way (R276). -/
def takeCfgHeader (s : State) : State :=
  let bytes := fun n (s : State) => streamRead 0 n s
  if !streamHas s 0 4 then (if s.cfg.src = 3 then s else cfgShort 0 s)
  else match bytes 4 s with
    | (none, s) => cfgFail Code.ABORTED 0x10 0 0 s
    | (some m, s) =>
      let magic := leAt m 0 4
      if streamAlarmed s then s
      else if magic ≠ 0x4643584C ∧ magic ≠ 0x3146584C then cfgFail Code.BAD_FIELD 0x01 1 0 s
      else
        let f1 := magic == 0x3146584C
        let n := if f1 then 32 else 64
        if !streamHas s 0 n then (if s.cfg.src = 3 then s else cfgShort 0 s)
        else match bytes n s with
          | (none, s) => cfgFail Code.ABORTED 0x10 0 0 s
          | (some h, s) =>
            if streamAlarmed s then s else
            let s := (s.setb CFG_STATUS_FORMAT f1).setb CFG_STATUS_ENCRYPTED (!f1 && bit (leAt h 0x0C 4) 2)
            let flaw := if f1 then flawF1 s h else flawF2 s h
            let id := if f1 then identity s (leAt h 4 4) (leAt h 8 4 % 4)
              else identity s (leAt h 8 4) (leAt h 0x0C 4 % 4)
            let judged := match flaw with
              | some (_, cause, _) => decide (cause > 2)
              | none => true
            let s := if judged then s.wr CFG_STATUS_ID_RESULT id else s
            match flaw with
            | some (_, 0x08, _) => holdKey s
            | some (code, cause, field) =>
              let s := if cause = 3 ∨ cause = 4 then raise E.CONFIG_IDENTITY 0 id s else s
              cfgFail code cause field (if cause = 5 ∧ field = 0 then reservedPos f1 h else fieldPos f1 field) s
            | none => acceptHeader f1 h s

/-- The regions of a swap group whose load or clear is done wait for their open tick (R204, R207). -/
def handOver (group : List Nat) (s : State) : State :=
  group.foldl (fun t k =>
    let open_ := (((t.region_ k).swap).map (·.openTick)).getD 0
    updRegion k (fun u => { u with openFrom := max open_ (t.now + 1) }) (t.wr SWAP_STATUS_STATE 4 0 k)) s

/-- The load's frames are all committed (R196): it waits for its release tick, or hands over to its swap
(R179, R207). -/
def cfgDone (s : State) : State :=
  let c := s.cfg
  if !c.swap.isEmpty then handOver c.swap (cfgIdle (cfgResult Code.OK 0 0 s))
  else
    let due := match c.fixTick with
      | some t => if s.now < t then t else s.now + 1
      | none => s.now + 1
    (s.wr CFG_STATUS_STATE 4).wr CFG_RELEASE_TICK_TICK due

/-- The place of a field in a segment header (R182). -/
def segFieldPos : Nat → Nat
  | 21 => 4
  | 22 => 8
  | 23 => 12
  | _ => 0

/-- The header of segment s, its payload and tag (R182, R185, R186, R198), verified once no alarm for their bytes is on the
way (R276). Once it is verified K[s] is erased; until its
KEY_ROLL it stands only as the parent of the next key (R184). -/
def takeSegment (s : State) : State :=
  let c := s.cfg
  if !streamHas s c.pos 16 then (if c.src = 3 then s else cfgShort c.pos s)
  else match streamRead c.pos 16 s with
    | (none, s) => cfgFail Code.ABORTED 0x10 0 c.pos s
    | (some h, s) =>
      if streamAlarmed s then s else
      let n := leAt h 4 4
      let s := s.wr CFG_SEGMENT_SEG c.seg
      let lastBit := leAt h 12 4 % 2 == 1
      let bad := firstFlaw [
        (leAt h 0 4 != c.seg, Code.BAD_FIELD, 0x09, 20),
        (n % 4 != 0 || decide (n < 4) || decide (n > 524288), Code.BAD_FIELD, 0x09, 21),
        (decide (bits (leAt h 8 4) 10 0 > 1024), Code.BAD_FIELD, 0x09, 22),
        (bits (leAt h 8 4) 31 11 != 0, Code.BAD_FIELD, 0x09, 0),
        (lastBit != (c.seg + 1 == c.segments), Code.BAD_FIELD, 0x09, 23),
        (bits (leAt h 12 4) 31 1 != 0, Code.BAD_FIELD, 0x09, 0)]
      match bad with
      | some (code, cause, field) =>
        let at_ := if field ≠ 0 then segFieldPos field else if bits (leAt h 8 4) 31 11 ≠ 0 then 8 else 12
        cfgFail code cause field (c.pos + at_) s
      | none =>
        if !streamHas s (c.pos + 16) (n + 16) then (if c.src = 3 then s else cfgShort c.pos s)
        else match streamRead (c.pos + 16) (n + 16) s with
          | (none, s) => cfgFail Code.ABORTED 0x10 0 c.pos s
          | (some b, s) =>
            if streamAlarmed s then s else
            let body := b.take n
            let tag := byteVals (b.drop n)
            let (inj, s) := takeInj CFG_INJECT_INJ_AUTH 0 true s
            let plain := if s.flag CFG_STATUS_ENCRYPTED then
                (gcmOpen c.key (c.nonce ++ beBytes c.seg 4)
                  (byteVals ((if c.seg = 0 then c.header else []) ++ h)) (byteVals body) tag).map valBytes
              else if leNat (tag.take 4) = crc32 (h ++ body) ∧ (tag.drop 4).all (· == 0) then some body
              else none
            match plain, inj with
            | some p, false =>
              upC (fun c =>
                { c with
                  decoding := true, payload := p, payPos := c.pos + 16, bodies := bits (leAt h 8 4) 10 0,
                  last := lastBit, pos := c.pos + 32 + n, key := [], parent := if lastBit then [] else c.key }) s
            | _, _ =>
              let s := raiseInj E.CONFIG_AUTH_FAIL 0 c.seg inj s
              cfgFail Code.TAINTED 0x0A 0 c.pos s

/-- The whole bodies, up to n of them, of which the bytes are there from a stream position on (R190). -/
def bodiesThere (s : State) (pos n : Nat) : Nat :=
  min n (((if s.cfg.src = 3 then s.cfg.jtag.length else s.cfg.len) - pos) / 384)

/-- Bodies of a run of an F1 stream, up to n of them, wait for consecutive frames as they arrive (R189, R190). -/
def takeBodies (first : Nat) (dyn : Bool) (left n : Nat) (s : State) : State :=
  let pos := s.cfg.pos
  let m := min n (bodiesThere s pos left)
  match streamRead pos (m * 384) s with
  | (none, s) => cfgFail Code.ABORTED 0x10 0 pos s
  | (some b, s) =>
    let new := (List.range m).map fun j => { frame := first + j, dyn := dyn, body := leAt b (j * 384) 384 : CfgWrite }
    upC (fun c =>
      { c with
        pos := pos + m * 384, queue := c.queue ++ new, f1Crc := crc32From c.f1Crc b,
        run := if m < left then some (first + m, dyn, left - m) else none }) s

/-- A run of an F1 stream taken in, up to n of its bodies, or the terminating run and closing CRC (R189, R190). The stream
ends SHORT within a run once the frames that arrived are written. -/
def takeRun (n : Nat) (s : State) : State :=
  let c := s.cfg
  match c.run with
  | some (first, dyn, left) =>
    if 0 < bodiesThere s c.pos left then takeBodies first dyn left n s
    else if c.src = 3 ∨ !c.queue.isEmpty then s
    else cfgShort c.pos s
  | none =>
    if !streamHas s c.pos 8 then (if c.src = 3 ∨ !c.queue.isEmpty then s else cfgShort c.pos s)
    else match streamRead c.pos 8 s with
      | (none, s) => cfgFail Code.ABORTED 0x10 0 c.pos s
      | (some h, s) =>
        let w := leAt h 0 4
        let count := leAt h 4 4
        if count = 0 then
          if !c.queue.isEmpty then s
          else if !streamHas s (c.pos + 8) 4 then (if c.src = 3 then s else cfgShort c.pos s)
          else match streamRead (c.pos + 8) 4 s with
            | (none, s) => cfgFail Code.ABORTED 0x10 0 c.pos s
            | (some b, s) =>
              let (inj, s) := takeInj CFG_INJECT_INJ_AUTH 0 true s
              if inj || (crc32From c.f1Crc h) ^^^ 0xFFFFFFFF != leAt b 0 4 then
                cfgFail Code.TAINTED 0x0E 0 (c.pos + 8) s
              else if s.rd CFG_FRAMES_FRAMES ≠ c.writes then cfgFail Code.BAD_FIELD 0x12 11 c.pos s
              else cfgDone s
        else if bits w 30 20 ≠ 0 ∨ frameCount < bits w 19 0 + count then cfgFail Code.BAD_FIELD 0x09 0 c.pos s
        else
          takeBodies (bits w 19 0) (bit w 31) count n
            (upC (fun c => { c with pos := c.pos + 8, f1Crc := crc32From c.f1Crc h }) s)

/-- A breach of R183 or of rules 1, 2 and 4 of R188. -/
def cfgBreach (s : State) : State := cfgFail Code.BAD_FIELD 0x0C 0 s.cfg.payPos s

/-- The next command of the segment being decoded, for the command of an opcode (R187): its word. An invalid
opcode ends the load whichever command was due. -/
def nextCommand (opc : Nat) (s : State) : Option (Sum State Nat) :=
  let c := s.cfg
  if cfgState s != 3 || !c.decoding then none
  else
    let w := leAt c.payload 0 4
    if bits w 31 24 > 7 then some (.inl (cfgFail Code.BAD_OPCODE 0x0B 0 c.payPos s))
    else if bits w 31 24 = opc then some (.inr w)
    else none

/-- The command of n words is done: the decoder goes on. A segment that ends without KEY_ROLL or END breaks
R183. -/
def consume (n : Nat) (s : State) : State :=
  let s := upC (fun c => { c with payload := c.payload.drop (4 * n), payPos := c.payPos + 4 * n }) s
  if s.cfg.payload.isEmpty then cfgBreach s else s

/-- Does the segment hold the n words of its next command? -/
def holdsWords (s : State) (n : Nat) : Bool := decide (4 * n ≤ s.cfg.payload.length)

/-- May the load write this frame (R188, rule 2)? -/
def mayWrite (s : State) (block frame : Nat) : Bool :=
  let c := s.cfg
  decide (frame < blockFrames block) &&
    (if block = 0x40 then c.full else decide (block < 0x40) && c.mask.testBit block)

/-- The frame writer commits the oldest frame that waits, with its trailer's CODE and DYNAMIC, and folds its readback into
the checksum (R175, R176, R188). -/
def commitFrame (s : State) : State :=
  match s.cfg.queue with
  | [] => s
  | w :: t =>
    let s := (((s.updFrames fun m => sput 0 m w.frame w.body).updFrameDyn
      fun m => sput 0 m w.frame (if w.dyn then 1 else 0)).updFrameCode
      fun m => sput 0 m w.frame (secdedCode 3072 12 w.body)).updFrameBad fun m => sput 0 m w.frame 0
    upC (fun c => { c with queue := t, crc := crc32From c.crc (valBytes (leBytes w.body 384)) })
      (s.incWrap CFG_FRAMES_FRAMES)

/-- A load is aborted (R196): in LOADING the frame in progress commits first, unless an alarm for the stream's data is on
the way (R276). -/
def cfgAbort (s : State) : State :=
  let s := if cfgState s = 3 && !streamAlarmed s then commitFrame s else s
  cfgFail Code.ABORTED 0x11 0 s.cfg.pos s

/-- Does the release of a load stand at this tick, before any abort (R179, R196, R200)? One that FIX_AT_TICK names needs a
credited tick. -/
def releaseStands (s : State) : Bool :=
  cfgState s == 4 && (s.cfg.fixTick.isNone || credited s) && decide (s.rd CFG_RELEASE_TICK_TICK ≤ s.now)

/-- The design that the frames of region k hold (R173): an all-zero frame configures its resources as unused. -/
def designOf (s : State) (k : Nat) : FabricDesign :=
  match s.frames.filter fun e => frameBlock e.1 == k with
  | [] => {}
  | l => Config.fabric (l.map fun e => ((e.1 - 4096) % 10240, e.2))

/-- A loaded region runs (R141, R168, R179, R207): its reset is released with every flip-flop at its configured value, its
clock lines start, and its slices hold the words that its frames give them, listed as slice, address (256 and above:
program space) and word. -/
def startRegion (words : List (Nat × Nat × Nat)) (k : Nat) (s : State) : State :=
  let s := idleSlices k s
  let s := s.updSlices fun m => (m.map fun e =>
    (e.1, if e.1 / 96 == k then { e.2 with opmem := [], prog := [], opBad := [], progBad := [] } else e.2)).filter
      fun e => e.2 != {}
  let s := (words.filter fun w => w.1 / 96 == k).foldl (fun t w => t.updSlices fun m =>
    let u := sget {} m w.1
    sput {} m w.1 (if w.2.1 < 256 then { u with opmem := sput 0 u.opmem w.2.1 (w.2.2 % 2 ^ 128) }
      else if w.2.1 < 325 then { u with prog := sput 0 u.prog (w.2.1 - 256) (w.2.2 % 2 ^ 64) } else u)) s
  let s := updRegion k (fun u =>
    { u with
      held := false, design := designOf s k, flops := [], luts := [], brams := [], deeps := [], edges := [], acks := [],
      resetting := none }) s
  setConfigured k true (refreshLines k s)

/-- The ports of a region open under its epoch (R207, R237). -/
def openRegion (k : Nat) (s : State) : State :=
  refreshEdges k (openPort (portRegion k 1) (openPort (portRegion k 0) s))

/-- The release of a load (R179). -/
def releaseLoad (words : List (Nat × Nat × Nat)) (s : State) : State :=
  let c := s.cfg
  let late := match c.fixTick with
    | some t => decide (t < s.now)
    | none => false
  let owner := c.op.map (·.1)
  let s := (regionsOf c.mask).foldl (fun t k =>
    let t := startRegion words k t
    let t := match owner with
      | some r => t.wr RG_OWNER_OWNER r k
      | none => t
    openRegion k t) s
  let s := if c.full then s.wr CFG_STATUS_GLOBAL_LOADED 1 else s
  let s := upC (fun c => { c with lastRelease := s.now }) s
  let s := cfgIdle (cfgResult Code.OK 0 0 s)
  let s := boundaryCheck s
  if late then raise E.CONFIG_LATE_RELEASE 0 (c.fixTick.getD 0) (s.wr CFG_STATUS_RELEASE_LATE 1) else s

/-! Swaps (R202 to R209). -/

/-- A swap of region k begins (R204, R205, R216, R218): an automatic reload that waits is not started; its ports go CLOSING, and the region keeps running; a FAILED
region waits for its load at once. A Damped one returns to Run with its clocks held (R425). -/
def startSwap (k : Nat) (r : SwapReq) (s : State) : State :=
  let failed := s.rd SWAP_STATUS_STATE 0 k == 5
  let damped := s.rd RG_STATUS_PSTATE k == 2
  let s := (((s.wr SWAP_STATUS_STATE (if failed then 2 else 1) 0 k).setb SWAP_STATUS_AUTO r.auto 0 k).wr
    SWAP_STATUS_FORCED 0 0 k).wr SWAP_STATUS_LATE 0 0 k
  let s := (s.wr SWAP_STATUS_MODE r.mode 0 k).wr SWAP_STATUS_CAUSE 0 0 k
  let s := updRegion k (fun u => { u with swap := some r }) (s.wr RG_STATUS_SWAP 1 k)
  let s := if damped then
      setPstate k 0 (updRegion k (fun u => { u with held := true, stopped := false }) s) else s
  let s := upC (fun c =>
    { c with
      reloads := c.reloads.filter (·.1 != k), noAuto := if r.auto then c.noAuto else c.noAuto.filter (· != k) }) s
  let s := updNet (fun n => { n with opens := n.opens.filter fun q => q / 4 != portRegion k 0 / 4 }) s
  let s := if failed then s else closePort (portRegion k 1) (closePort (portRegion k 0) s)
  refreshEdges k s

/-- The drain of a swap ends (R205): the ports close, jobs return to their lists, and the region waits for its
load or for its open tick. -/
def drainEnds (k : Nat) (s : State) : State :=
  let s := freeRegionWorkers k (setPort (portRegion k 1) 2 (setPort (portRegion k 0) 2 s))
  match (s.region_ k).swap with
  | none => s
  | some r =>
    if r.mode = 1 then
      updRegion k (fun u => { u with openFrom := max r.openTick (s.now + 1) }) (s.wr SWAP_STATUS_STATE 4 0 k)
    else holdRegion k (s.wr SWAP_STATUS_STATE 2 0 k)

/-- The regions of a swap's group (R203). -/
def groupOf (s : State) (r : SwapReq) : List Nat :=
  (List.range 64).filter fun k =>
    s.flag RG_STATUS_SWAP k &&
      ((s.region_ k).swap.map fun q => q.set == r.set && q.group == r.group).getD false

/-- May the group of region k's swap load now (R206): every region of it has drained, the block is IDLE, and
no earlier group of its proof set still has to load? -/
def groupReady (s : State) (k : Nat) : Bool :=
  match (s.region_ k).swap with
  | none => false
  | some r =>
    s.rd SWAP_STATUS_STATE 0 k == 2 && cfgState s == 0 &&
      (groupOf s r).all (fun j => s.rd SWAP_STATUS_STATE 0 j == 2) &&
      !(List.range 64).any fun j =>
        let st := s.rd SWAP_STATUS_STATE 0 j
        (st == 1 || st == 2 || st == 3) && ((s.region_ j).swap.map fun q =>
          q.set == r.set && decide (q.group < r.group) && q.mode != 1).getD false

end Sys2Proof.Machine
end

