-- ==== Sys2Proof/Machine/LaneLine.lean ====
section
/-! DEFINITION. What a lane sends on its line (R292, R294, R295): 66-bit blocks, the scrambler, the alignment markers and
the symbols, from what State holds of the lane's line, its engine's bursts and its link's stream; the frames and ACK blocks of
a link as blocks (R311 to R313); and the control blocks, the fill and the PRBS pattern of a receiver (R293, R298, R303). -/

namespace Sys2Proof.Machine

open F

/-- One bit through the scrambler 1 + x^39 + x^58 (R292): the bit sent, and the last 58 bits sent, the newest as bit 0. -/
def scrambleBit (st : Nat) (b : Bool) : Bool × Nat :=
  let o := (b ^^ st.testBit 38) ^^ st.testBit 57
  (o, (2 * st + o.toNat) % 2 ^ 58)

/-- One bit through the receiver's descrambler: it keeps the bits as they arrive. -/
def descrambleBit (st : Nat) (b : Bool) : Bool × Nat :=
  ((b ^^ st.testBit 38) ^^ st.testBit 57, (2 * st + b.toNat) % 2 ^ 58)

/-- Bits through either, in order. -/
def throughBits (f : Nat → Bool → Bool × Nat) : Nat → List Bool → List Bool × Nat
  | st, [] => ([], st)
  | st, b :: t =>
    let (o, st) := f st b
    let (r, st) := throughBits f st t
    (o :: r, st)

/-- The bits of a payload in the order of the line, bit 0 first, and the payload that they make. -/
def payloadBits (p : Nat) : List Bool := (List.range 64).map p.testBit
def bitsPayload : List Bool → Nat
  | [] => 0
  | b :: t => b.toNat + 2 * bitsPayload t

/-- The bits of a block on the line, and the scrambler after it: the sync header, 01b for data and 10b for control with the
left bit first (log entry 81), and the payload, scrambled unless it is a marker. -/
def blockBits (st : Nat) (b : LaneBlock) : List Bool × Nat :=
  let (p, st') := throughBits scrambleBit st (payloadBits b.payload)
  ([b.control || b.marker, !(b.control || b.marker)] ++ (if b.marker then payloadBits b.payload else p),
    if b.marker then st else st')

/-- A received block of 66 bits, in the slot of a marker or in another, and the descrambler after it; none for an invalid
header (R292, R296). -/
def readBlock (marker : Bool) (st : Nat) (l : List Bool) : Option (LaneBlock × Nat) :=
  match l with
  | h0 :: h1 :: p =>
    if h0 = h1 then none
    else if marker then some ({ marker := true, control := h0, payload := bitsPayload p }, st)
    else
      let (d, st) := throughBits descrambleBit st p
      some ({ control := h0, payload := bitsPayload d }, st)
  | _ => none

/-- The symbols of a line under PAM4 (R292): bit pairs in Gray code, the earlier bit the more significant. -/
def pam4 : List Bool → List Nat
  | a :: b :: t => (if a then if b then 2 else 3 else b.toNat) :: pam4 t
  | _ => []

/-- The symbols of a line: one bit each under NRZ. -/
def symbols (mod4 : Bool) (l : List Bool) : List Nat := if mod4 then pam4 l else l.map (·.toNat)

/-- The IDLE block (R293). -/
def idleBlock : LaneBlock := { control := true, payload := 0x1E }

/-! The stream of a Wavar link. -/

/-- The payload of the START block of a frame (R312). -/
def startPayload (f : MeshFrame) : Nat :=
  0x87 + f.seq % 2 ^ 16 * 2 ^ 8 + f.ack % 2 ^ 16 * 2 ^ 24 + f.kind % 8 * 2 ^ 40 + f.vc % 2 * 2 ^ 43 +
    f.data.length % 256 * 2 ^ 44

/-- The CRC-32 of a frame (R312): over bits 55:8 of the START payload and the payloads of the data blocks, in order. -/
def frameCrc (start : Nat) (data : List Nat) : Nat :=
  crc32 ((valBytes (leBytes (bits start 55 8) 6)) ++ wordBytes data)

/-- The blocks of a frame (R312, R331): wrong says that its CRC-32 is injected wrong. -/
def frameBlocks (f : MeshFrame) (wrong : Bool := false) : List LaneBlock :=
  { control := true, payload := startPayload f } :: f.data.map (fun w => { payload := w }) ++
    [{ control := true, payload := 0x99 + (frameCrc (startPayload f) f.data ^^^ wrong.toNat) * 2 ^ 8 }]

/-- The CRC-16 of an ACK block (R312): over bits 39:8 of its payload. -/
def ackCrc (body : Nat) : Nat := crc16From 0xFFFF (valBytes (leBytes (body % 2 ^ 32) 4))

/-- The ACK block of a link (R312, R314). -/
def ackBlockOf (ack free0 free1 : Nat) : LaneBlock :=
  let body := ack % 2 ^ 16 + min 255 free0 * 2 ^ 16 + min 255 free1 * 2 ^ 24
  { control := true, payload := 0x8A + body * 2 ^ 8 + ackCrc body * 2 ^ 40 }

/-- The blocks of what a link sends, and how many they are. -/
def LinkItem.blocks : LinkItem → List LaneBlock
  | .frame f wrong => frameBlocks f wrong
  | .ack a f0 f1 => [ackBlockOf a f0 f1]
def LinkItem.length : LinkItem → Nat
  | .frame f _ => f.data.length + 2
  | .ack _ _ _ => 1

/-- Does block slot j of group g, counted from its entry into its role, carry a marker: one slot of every 16,385 (R295)? -/
def markerSlot (g j : Nat) : Bool := j % 16385 == Config.markerSlot g % 16385

/-- The word time of block slot j: a slot is one unless a marker takes it (R294). -/
def slotWord (g j : Nat) : Nat := j - (j + 16384 - Config.markerSlot g % 16385) / 16385

/-- Does the IDLE block that is due in block slot j - 1 stand in slot j, because a marker takes j - 1? -/
def idleMoved (g j : Nat) : Bool :=
  decide (0 < j) && (j - 1) % 2048 == Config.idleSlot g % 2048 && markerSlot g (j - 1)

/-- Does block slot j of a lane in the roles MESH and DIAG carry the IDLE block over and above its traffic: one of every
2,048 slots (R298)? -/
def idleSlot (g j : Nat) : Bool := (j % 2048 == Config.idleSlot g % 2048 && !markerSlot g j) || idleMoved g j

/-- The block slots before slot j that carry a link's stream (R311): those without a marker and without that IDLE block. -/
def streamSlot (g j : Nat) : Nat := slotWord g j - ((j + 2047 - Config.idleSlot g % 2048) / 2048 - (idleMoved g j).toNat)

/-- The first block of the stream of link l, of width w, that has not left yet (R311): a frame begins in the first slot after
it is sent. -/
def streamNow (s : State) (l w : Nat) : Nat :=
  let g := l / 8
  w * streamSlot g (slotNow s g + 1)

/-- A frame or an ACK block joins the stream of link l, behind what stands in it (R311, R312). -/
def putItem (l : Nat) (x : LinkItem) (s : State) : State :=
  let w := linkWidth (s.rd LG_ROLE_WORD0 (l / 8))
  let free := match (linkU s l).stream with
    | [] => 0
    | (k, y) :: _ => k + y.length
  updLink l (fun u => { u with stream := (max free (streamNow s l w), x) :: u.stream }) s

/-- Block k of the stream of link l (R311): IDLE where nothing stands in it. -/
def streamBlock (s : State) (l k : Nat) : LaneBlock :=
  match (linkU s l).stream.find? fun e => decide (e.1 ≤ k) && decide (k < e.1 + e.2.length) with
  | some (k0, x) => x.blocks.getD (k - k0) idleBlock
  | none => idleBlock

/-- The lane that carries block k of the stream of a link of width w (R311). -/
def blockLane (l w k : Nat) : Nat := l + k % w

/-! The line of a lane. -/

/-- The block that a lane sends in block slot j where no marker stands: the word of its word time (R92), its part of the link's
stream, or IDLE. -/
def slotBlock (s : State) (g i : Nat) (m : LineMode) (j : Nat) : LaneBlock :=
  match m with
  | .word w =>
    match laneBlock s g w (slotWord g j) with
    | some (control, p) => { control := control, payload := p }
    | none => idleBlock
  | .mesh =>
    let w := linkWidth (s.rd LG_ROLE_WORD0 g)
    if idleSlot g j then idleBlock else streamBlock s (8 * g + i / w * w) (w * streamSlot g j + i % w)
  | _ => idleBlock

/-- The parity that 16,384 payloads as sent leave (R295): bit b is that of positions b, b + 8, … b + 56. -/
def bipOf (l : List (List Bool)) : Nat :=
  (List.range 8).foldl (fun a b =>
    let n := (l.map fun p => (List.range 8).countP fun k => p.getD (2 + b + 8 * k) false).sum
    a + n % 2 * 2 ^ b) 0

/-- The payload of a marker (R295). -/
def markerPayload (role g i count bip : Nat) : Nat :=
  0x78 + role * 2 ^ 8 + g * 2 ^ 16 + i * 2 ^ 24 + count % 65536 * 2 ^ 32 + bip * 2 ^ 48

/-- The taps of the generator of a PATTERN (R303, log entry 81), and its length. -/
def prbsTaps : Nat → List Nat × Nat
  | 0 => ([6, 7], 7)
  | 1 => ([14, 15], 15)
  | 2 => ([28, 31], 31)
  | _ => ([1, 2, 12, 13], 13)

/-- The next bit of a PRBS pattern whose last bits are st with the newest as bit 0. -/
def prbsNext (pattern st : Nat) : Bool := (prbsTaps pattern).1.foldl (fun o k => o ^^ st.testBit (k - 1)) false

/-- Bit b joins the last bits of a PRBS pattern. -/
def prbsPush (pattern st : Nat) (b : Bool) : Nat := (2 * st + b.toNat) % 2 ^ (prbsTaps pattern).2

/-- The next bits of a PRBS generator, and the generator after them. -/
def prbsBits (pattern : Nat) : Nat → Nat → List Bool × Nat
  | 0, st => ([], st)
  | k + 1, st =>
    let b := prbsNext pattern st
    let (l, st) := prbsBits pattern k (prbsPush pattern st b)
    (b :: l, st)

/-- The 66 bits in block slot j, counted from TX_EN, of the raw pattern that a generator puts in the place of the lane's
blocks (R303). A generator whose start is open starts from no state of zeros alone. -/
def prbsSlot (p g i j : Nat) : List Bool :=
  let n := (prbsTaps p).2
  let start := Config.prbsStart (8 * g + i) % 2 ^ n
  (prbsBits p 66 (prbsBits p (66 * j) (if start = 0 then 1 else start)).2).1

/-- What a lane sends in block slot j, by its line: the slot from which, and what. -/
def modeAt (l : List (Nat × LineMode)) (j : Nat) : Nat × LineMode := (l.find? fun e => decide (e.1 ≤ j)).getD (0, .off)

/-- One more block slot of a lane's line: what it has sent since its transmitter came on, newest first, and its scrambler. The
raw pattern of a PRBS generator passes neither. -/
def sendSlot (s : State) (g i j : Nat) (a : List (List Bool) × Nat) : List (List Bool) × Nat :=
  let m := modeAt (laneU s g i).line j
  match m.2 with
  | .off => a
  | .prbs p => (prbsSlot p g i (j - m.1) :: a.1, a.2)
  | x =>
    let b := if markerSlot g j then
        { marker := true, control := true,
          payload := markerPayload (groupRole s g) g i (j / 16385) (bipOf (a.1.take 16384)) }
      else slotBlock s g i x j
    let (l, st) := blockBits a.2 b
    (l :: a.1, st)

/-- What lane i of group g has sent in the block slots from first on, n of them, newest first, and the scrambler after them.
Its first state is the device's (R292). -/
def laneLine (s : State) (g i first : Nat) : Nat → List (List Bool) × Nat
  | 0 => ([], Config.scramblerStart (8 * g + i) % 2 ^ 58)
  | n + 1 => sendSlot s g i (first + n) (laneLine s g i first n)

/-- The block slot in which the transmitter of lane i came on. -/
def lineStart (s : State) (g i : Nat) : Nat := ((laneU s g i).line.getLast?.map (·.1)).getD 0

/-- The symbols that lane i of group g sends in block slot j (R292, R303): none while its transmitter is off. -/
def lineSymbols (s : State) (g i j : Nat) : List Nat :=
  let first := lineStart s g i
  if (modeAt (laneU s g i).line j).2 = .off then []
  else symbols (bit (s.rd LG_ROLE_WORD0 g) 10) ((laneLine s g i first (j + 1 - first)).1.headD [])

/-! What a receiver makes of its line. -/

/-- The control types that a group in a role knows (R293, R312): those of the table of its role, and of the mesh framing those that R312
names. -/
def knownTypes : Nat → List Nat
  | 1 => [0x0F, 0x1E, 0x2D, 0x33, 0x78]
  | 2 => [0x1E, 0x78, 0x87, 0x8A, 0x99]
  | _ => [0x1E, 0x78]

/-- The control blocks of these types that a lane counts in BAD_TYPE and discards (R293). -/
def badTypes (role : Nat) (types : List Nat) : Nat := types.countP fun t => !(knownTypes role).contains t

/-- The fill of an elastic buffer after n IDLE blocks in the roles MESH and DIAG (R298): each is deleted while the buffer
lies above 32, and doubled while it lies below. -/
def idleFill (fill n : Nat) : Nat := if 32 ≤ fill then max 32 (fill - n) else min 32 (fill + n)

/-- Received bits against the bits that follow in a PRBS pattern from its last bits st (R303): how many disagree, and the
pattern's last bits after them. -/
def prbsCompare (pattern : Nat) : Nat → List Bool → Nat × Nat
  | st, [] => (0, st)
  | st, b :: t =>
    let want := prbsNext pattern st
    let (n, st) := prbsCompare pattern (prbsPush pattern st want) t
    (n + (want != b).toNat, st)

/-- Received bits join a checker that is not synchronised (R303). -/
def prbsFill (pattern st : Nat) (l : List Bool) : Nat := l.foldl (prbsPush pattern) st

end Sys2Proof.Machine
end

