-- ==== Sys2Proof/Machine/MeshLine.lean ====
section
/-! DEFINITION. What a Wavar link carries (R312 to R314, R321): what a receiver makes of its blocks, the words of a packet, and
what the sender puts into its stream. -/

namespace Sys2Proof.Machine

open F

/-- What a receiver makes of a block (R312): nothing, a frame, a frame discarded, an ACK, an ACK discarded, or a control block
of an unknown type (R293). -/
inductive LinkEvent where
  | none
  | frame (f : MeshFrame)
  | crcError
  | ack (ack free0 free1 : Nat)
  | ackError
  | badType
  deriving DecidableEq, Repr

/-- A frame that is being received: the payload of its START block and its data so far. -/
abbrev Partial := Option (Nat × List Nat)

/-- One block at the receiver of a link (R293, R312): a START inside a frame, an END outside one, a wrong number of data
blocks and a wrong CRC discard the frame in progress. -/
def linkBlock (p : Partial) (b : LaneBlock) : LinkEvent × Partial :=
  if b.marker then (.none, p)
  else if !b.control then (.none, p.map fun (h, l) => (h, l ++ [b.payload]))
  else
    let w := b.payload
    let t := bits w 7 0
    if t = 0x1E ∨ t = 0x78 then (.none, p)
    else if t = 0x87 then (if p.isSome then .crcError else .none, some (w, []))
    else if t = 0x8A then
      (if bits w 55 40 = ackCrc (bits w 39 8) then .ack (bits w 23 8) (bits w 31 24) (bits w 39 32) else .ackError, p)
    else if t = 0x99 then
      match p with
      | Option.none => (.crcError, Option.none)
      | some (h, l) =>
        if l.length = bits h 51 44 ∧ bits w 39 8 = frameCrc h l ∧ bits h 42 40 ≤ 3 ∧ l.length ≤ 134 then
          (.frame { seq := bits h 23 8, ack := bits h 39 24, kind := bits h 42 40, vc := bits h 43 43, data := l }, Option.none)
        else (.crcError, Option.none)
    else (.badType, p)

/-- The blocks of a link through its receiver: what it makes of them, and the frame still in progress. -/
def linkBlocks : Partial → List LaneBlock → List LinkEvent × Partial
  | p, [] => ([], p)
  | p, b :: t =>
    let (e, p) := linkBlock p b
    let (r, p) := linkBlocks p t
    (if e = .none then r else e :: r, p)

/-- The word at a byte offset (R8). -/
def wordAt (b : List Byte) (off : Nat) : Nat := leNat (byteVals ((b.drop off).take 8))

/-- The eight-byte words of a packet (R321): its header, its source route padded with zeros, and its payload. -/
def packetWords (p : Pkt) : List Nat :=
  let words := fun (b : List Byte) => (List.range ((b.length + 7) / 8)).map (wordAt b <| 8 * ·)
  let h0 := p.dst + p.src * 2 ^ 12 + p.cls * 2 ^ 24 + p.vc * 2 ^ 26 + p.srcRouted.toNat * 2 ^ 27 + p.hops * 2 ^ 28 +
    p.route.length * 2 ^ 34 + p.routePos * 2 ^ 40 + p.tag * 2 ^ 46
  let h1 := p.payload.length + p.status * 2 ^ 16 + p.offset * 2 ^ 32 + p.resp.toNat * 2 ^ 58
  h0 :: h1 :: words (valBytes p.route) ++ words p.payload

/-- The last PACKET frame that link l has accepted in order, which every START block and ACK block names (R313, R314). -/
def ackNow (s : State) (l : Nat) : Nat := ((linkU s l).expect + 65535) % 65536

/-- The PACKET frame of a packet in the replay buffer of link l as it leaves (R313, R314). -/
def packetFrame (s : State) (l : Nat) (f : Sent) : MeshFrame :=
  { seq := f.seq, ack := ackNow s l, kind := 0, vc := f.pkt.vc, data := packetWords f.pkt }

/-- A HELLO, TIME or QUIET frame leaves on link l, with SEQ 0 and a valid ACK (R313). -/
def sendControl (l kind : Nat) (words : List Nat) (s : State) : State :=
  let s := putItem l (.frame { ack := ackNow s l, kind := kind, data := words }) (s.incWrap LK_FRAMES_TX_FRAMES 0 l)
  updLink l (fun u => { u with sent := words }) s

/-- What the blocks that arrive on link l count (R293, R312). -/
def countLinkEvent (l : Nat) (s : State) : LinkEvent → State
  | .crcError => s.incSat LK_ERRORS_CRC_ERRORS 0 l
  | .ackError => s.incSat LK_ERRORS_ACK_ERRORS 0 l
  | .badType => s.incSat LN_LOCK_BAD_TYPE (l / 8) (l % 8)
  | _ => s

/-- A frame of a KIND, or an ACK block (4), arrives on link l (R312): whether its receiver accepts it. Whole, it comes
with its blocks as sent, and a START inside another frame discards that one; otherwise the blocks that come in its place go
through the receiver one by one, and what passes the checks is the frame of the command. -/
def arrives (l kind : Nat) (w : Wire) (s : State) : Bool × State :=
  match w with
  | .whole =>
    if kind = 4 ∨ (linkU s l).partial_ = none then (true, s)
    else (true, updLink l (fun u => { u with partial_ := none }) (s.incSat LK_ERRORS_CRC_ERRORS 0 l))
  | .blocks b =>
    let (es, p) := linkBlocks (linkU s l).partial_ b
    let s := es.foldl (countLinkEvent l) (updLink l (fun u => { u with partial_ := p }) s)
    (es.any fun e => match e with
      | .frame f => f.kind == kind
      | .ack _ _ _ => kind == 4
      | _ => false, s)

end Sys2Proof.Machine
end

