-- ==== Sys2Proof/Machine/MeshOps.lean ====
section
/-! DEFINITION. The Wavar mesh (chapter 14): links, frames, packets and routes, reports and DATA. -/

namespace Sys2Proof.Machine

open F

/-- Changes the mesh. -/
def updMsh (f : MeshSt → MeshSt) (s : State) : State := s.updMesh f

/-- The state of link l: 0 DOWN, 1 INIT, 2 UP, 3 QUIET. -/
def linkState (s : State) (l : Nat) : Nat := s.rd LK_STATUS_STATE 0 l

/-- The bonded set of link l, if l is the index of a link in the MESH role (R311, R331). -/
def linkSet (s : State) (l : Nat) : Option Nat :=
  ((groupLinks (l / 8) (s.rd LG_ROLE_WORD0 (l / 8))).find? (·.2 == l)).map (·.1)

/-- The lanes of link l within its group. -/
def linkLanes (s : State) (l : Nat) : List Nat :=
  (List.range (linkWidth (s.rd LG_ROLE_WORD0 (l / 8)))).map (l % 8 + ·)

/-- Is the bonded set of link l ready (R297)? -/
def linkReady (s : State) (l : Nat) : Bool :=
  match linkSet s l with
  | some j => s.mbit LG_STATUS_READY j (l / 8)
  | none => false

/-- The links in the MESH role. -/
def allLinks (s : State) : List Nat :=
  ((List.range 18).map fun g => (groupLinks g (s.rd LG_ROLE_WORD0 g)).map (·.2)).flatten

/-- The free entries of VC v in the receive buffer of link l (R314): 128 less what stands in it. -/
def freeOn (s : State) (l v : Nat) : Nat :=
  let waiting := s.mesh.links.foldl (fun a e => a + e.2.queue.countP fun q => q.from_ == some (l, v)) 0
  128 - waiting - s.mesh.local_.countP fun e => e.2.1 == l && e.2.2 == v

/-- An ACK leaves on link l: the last frame accepted, and the free counts (R314, R315). -/
def sendAck (l : Nat) (s : State) : State :=
  let f0 := freeOn s l 0
  let f1 := freeOn s l 1
  putItem l (.ack (ackNow s l) f0 f1) (updLink l (fun u => { u with ackSent := (ackNow s l, f0, f1) }) s)

/-- A further ACK leaves when a free count has risen by 16 since the last one sent (R315). -/
def reportFree (l : Nat) (s : State) : State :=
  let a := (linkU s l).ackSent
  if linkState s l = 2 ∧ (a.2.1 + 16 ≤ freeOn s l 0 ∨ a.2.2 + 16 ≤ freeOn s l 1) then sendAck l s else s

/-- May a new PACKET frame leave on link l, VC v (R314, R320)? -/
def maySend (s : State) (l v : Nat) : Bool :=
  let u := linkU s l
  linkState s l == 2 && linkReady s l && !u.quietSent && !s.flag LK_CTRL_QUIET 0 l &&
    decide (u.replay.length < 256) && decide (if v = 0 then u.since0 < u.free0 else u.since1 < u.free1)

/-- A PACKET frame goes into the stream of link l; INJ_CRC gives it a wrong CRC-32 (R312, R331). -/
def putFrame (l : Nat) (f : Sent) (s : State) : State :=
  let (inj, s) := takeInj MS_INJECT_INJ_CRC 0 (s.rd MS_INJECT_LINK == l) s
  putItem l (.frame (packetFrame s l f) inj) s

/-- A PACKET frame leaves on link l (R313, R314). -/
def sendFrame (l : Nat) (q : Queued) (s : State) : State :=
  let seq := s.rd LK_SEQ_NEXT_SEQ 0 l
  let s := (s.incWrap LK_SEQ_NEXT_SEQ 0 l).incWrap LK_FRAMES_TX_FRAMES 0 l
  let f : Sent := { seq := seq, endAt := s.cycle, pkt := q.pkt }
  let s := updLink l (fun u =>
    { u with
      replay := u.replay ++ [f],
      since0 := if q.pkt.vc = 0 then u.since0 + 1 else u.since0,
      since1 := if q.pkt.vc = 0 then u.since1 else u.since1 + 1 }) (putFrame l f s)
  match q.from_ with
  | some (m, _) => reportFree m s
  | none => s

/-- Packets that wait for link l leave while they may, in order on each VC; at most k. -/
def pump (l : Nat) : Nat → State → State
  | 0, s => s
  | k + 1, s =>
    match (linkU s l).queue.findIdx? fun q => maySend s l q.pkt.vc with
    | none => s
    | some i =>
      match (linkU s l).queue[i]? with
      | none => s
      | some q => pump l k (sendFrame l q (updLink l (fun u => { u with queue := u.queue.eraseIdx i }) s))

/-- The links that may give mesh time (R322): UPLINK, BACKUP. -/
def upLink (s : State) : Nat := s.rd MS_TIME_CFG_UPLINK
def backupLink (s : State) : Nat := s.rd MS_TIME_CFG_BACKUP

/-- The time link in use (R328). -/
def timeLink (s : State) : Nat := if s.flag MS_STATUS_TIME_SOURCE then backupLink s else upLink s

/-- TIME_SOURCE follows the links (R328): UPLINK, or BACKUP while UPLINK is not UP. -/
def refreshTimeSource (s : State) : State :=
  let up := linkState s (upLink s) == 2
  let want := if up then false else if linkState s (backupLink s) == 2 then true else s.flag MS_STATUS_TIME_SOURCE
  if upLink s ≥ 144 ∨ want = s.flag MS_STATUS_TIME_SOURCE then s
  else
    let s := s.setb MS_STATUS_TIME_SOURCE want
    raise E.MESH_TIME_FAILOVER (timeLink s) 0 s

/-- A QUIET link is activated (R320): its lanes leave QUIET and its sequence state is kept; a time link that is UP again is
taken again (R328). -/
def wakeLink (l : Nat) (s : State) : State :=
  if linkState s l = 3 then
    let s := (s.wr LK_STATUS_STATE 2 0 l).wr LK_CTRL_QUIET 0 0 l
    let s := updLink l (fun u => { u with quietSent := false, quietRecv := false, helloAt := s.cycle }) s
    refreshTimeSource (updMsh (fun m => { m with reportDue := true }) (quietLanes (l / 8) (linkLanes s l) false s))
  else s

/-- A packet is queued for link l (R314, R320). -/
def enqueuePkt (l : Nat) (q : Queued) (s : State) : State :=
  let s := wakeLink l (updLink l (fun u => { u with queue := u.queue ++ [q] }) s)
  pump l 512 s

/-- The mesh address of this device, if it is valid (R309). -/
def ownAddr (s : State) : Option Nat := if s.flag MS_STATUS_ADDR_VALID then some (s.rd MS_STATUS_ADDR) else none

/-- Is a packet delivered here (R321)? A report is taken in by every device. -/
def isLocal (s : State) (p : Pkt) : Bool :=
  p.cls == 2 || (p.srcRouted && p.routePos == p.route.length) || ownAddr s == some p.dst

/-- Where a packet goes (R321 to R323): the link and the packet as sent, or the code of a packet that cannot be
forwarded, none where no rule names one. The hop counts only where the packet is forwarded. -/
def routePkt (s : State) (forwarded : Bool) (p : Pkt) : Sum (Option Nat) (Nat × Pkt) :=
  if !p.srcRouted && (ownAddr s).isNone then .inl none
  else
    let l := if p.srcRouted then p.route.getD p.routePos 0xFF else s.rd ROUTE_LINK 0 p.dst
    if l = 0xFF then .inl (some Code.OUT_OF_RANGE)
    else if forwarded && decide (p.hops ≤ 1) then .inl (some Code.OUT_OF_RANGE)
    else if linkState s l ≠ 2 ∧ linkState s l ≠ 3 then .inl (some Code.DOMAIN_CLOSED)
    else
      let vc := if !p.srcRouted && s.flag ROUTE_SET_VC1 0 p.dst then 1 else p.vc
      .inr (l, { p with
        vc := vc, hops := if forwarded then p.hops - 1 else p.hops,
        routePos := if p.srcRouted then p.routePos + 1 else p.routePos })

/-- A packet that cannot be sent is counted (R323). -/
def countUnroutable (p : Pkt) (s : State) : State :=
  raiseOnce E.MESH_UNROUTABLE 0 p.dst false (s.incSat MS_COUNTS_UNROUTABLE)

/-- A packet waits here for the command of its class. -/
def deliverLocal (p : Pkt) (l v : Nat) (s : State) : State :=
  updMsh (fun m => { m with local_ := m.local_ ++ [(p, l, v)] }) s

/-- A DATA response leaves (R323, R324), towards this device itself where the request was its own; one that cannot be
sent is discarded. -/
def sendResponse (own : Bool) (p : Pkt) (s : State) : State :=
  if own || isLocal s p then deliverLocal p 255 0 s
  else match routePkt s false p with
    | .inr (l, q) => enqueuePkt l { pkt := q, from_ := none, orig := some p } s
    | .inl _ => countUnroutable p s

/-- The DATA response of this device to a request (R321, R324). -/
def responseTo (s : State) (p : Pkt) (status : Nat) : Pkt :=
  { dst := p.src, src := s.rd MS_STATUS_ADDR, cls := 1, vc := 0, srcRouted := false, hops := 63, routePos := 0,
    tag := p.tag, status := status, offset := 0, resp := true, route := [], payload := [] }

/-- A packet cannot be sent (R323, R354): the outcome of its class. The code of a DATA request that no rule
names is a free value. own says that this device is its source. -/
def unroutable (own : Bool) (p : Pkt) (code : Option Nat) (s : State) : State :=
  let s := countUnroutable p s
  match p.cls with
  | 0 => match p.host with
    | some (.descriptor r k _) =>
      if (s.host.proxied.any fun e => e.1 == r && e.2.1 == k) && p.src == s.rd MS_STATUS_ADDR then
        decideOp r k (code.getD Code.OUT_OF_RANGE) 0 0
          (s.updHost fun h => { h with proxied := h.proxied.filter fun e => !(e.1 == r && e.2.1 == k) })
      else s
    | _ => s
  | 1 =>
    if p.resp then s
    else match code with
      | some c => sendResponse own (responseTo s p c) s
      | none =>
        let (v, s) := s.draw
        sendResponse own (responseTo s p (v % 65536)) s
  | _ => s.incSat MS_COUNTS_REPORTS_DROPPED

/-- This device sends a packet of its own. -/
def emitPkt (p : Pkt) (s : State) : State :=
  if isLocal s p then deliverLocal p 255 0 s
  else match routePkt s false p with
    | .inr (l, q) => enqueuePkt l { pkt := q, from_ := none, orig := some p } s
    | .inl c => unroutable true p c s

/-- A packet accepted on VC v of link l is delivered or forwarded (R321); one of the invalid class is
discarded. -/
def receivePkt (p : Pkt) (l v : Nat) (s : State) : State :=
  if 3 ≤ p.cls then s
  else if isLocal s p then deliverLocal p l v s
  else match routePkt s true p with
    | .inr (m, q) => enqueuePkt m { pkt := q, from_ := some (l, v), orig := some p } s
    | .inl c => unroutable false p c s

/-- A packet that waits is routed by the table in force now (R330). -/
def reroute (q : Queued) (s : State) : State :=
  match q.orig, q.from_ with
  | none, _ => s
  | some p, none => if p.cls == 1 && p.resp then sendResponse false p s else emitPkt p s
  | some p, some (l, v) => reportFree l (receivePkt p l v s)

/-- Every packet that still waits to be forwarded is routed anew, as the table in force at its forwarding says (R330); the
links in rising order, each in the order of its queue. A report goes on as it is: it follows no table (R325). -/
def rerouteAll (s : State) : State :=
  let waits := fun q : Queued => q.orig.isSome
  let qs := (s.mesh.links.map fun e => e.2.queue.filter waits).flatten
  let s := s.mesh.links.foldl (fun t e => updLink e.1 (fun u => { u with queue := u.queue.filter fun q => !waits q }) t) s
  qs.foldl (fun t q => reroute q t) s

/-- A link goes DOWN (R318): its replay buffer is discarded, its queued packets are unroutable, which frees their receive
buffers (R315), and a frame half received is discarded (R330); with its set ready it starts again. What it has put into its
stream leaves. -/
def linkDown (l : Nat) (s : State) : State :=
  let st := linkState s l
  if st = 0 then s
  else
    let u := linkU s l
    let s := quietLanes (l / 8) (linkLanes s l) false (s.wr LK_STATUS_STATE 0 0 l)
    let s := if u.partial_.isSome then s.incSat LK_ERRORS_CRC_ERRORS 0 l else s
    let s := updMsh (fun m => { m with reportDue := true }) (updLink l (fun u => { stream := u.stream }) s)
    let s := if 2 ≤ st then
        raise E.MESH_LINK_DOWN l u.replay.length (s.incSat LK_REPLAY_DOWNS 0 l)
      else s
    let s := u.queue.foldl (fun t q => unroutable q.from_.isNone q.pkt (some Code.DOMAIN_CLOSED) t) s
    let s := (u.queue.filterMap (·.from_)).foldl (fun t e => reportFree e.1 t) s
    let s := refreshTimeSource s
    match linkSet s l with
    | some j => noteLink (l / 8) j l s
    | none => s

/-- A link goes UP (R318): sequence numbers from 0, ACK FFFFh. -/
def linkUp (l : Nat) (s : State) : State :=
  let s := ((s.wr LK_STATUS_STATE 2 0 l).wr LK_SEQ_NEXT_SEQ 0 0 l).wr LK_SEQ_ACK_RX 0xFFFF 0 l
  let s := updLink l (fun u => { queue := u.queue, sent := u.sent, stream := u.stream, helloAt := s.cycle }) s
  let s := raise E.MESH_LINK_UP l (s.rd LK_STATUS_PEER_ADDR 0 l) s
  refreshTimeSource (updMsh (fun m => { m with reportDue := true }) s)

/-- An ACK arrives (R314, R316, R330): the frames it covers leave the replay buffer; one that covers none of those
unacknowledged, or is older, changes nothing. -/
def takeAck (l ack : Nat) (s : State) : State :=
  let u := linkU s l
  match u.replay.findIdx? fun f => f.seq == ack with
  | none => s
  | some i => updLink l (fun u => { u with replay := u.replay.drop (i + 1), expiries := 0 })
      (s.wr LK_SEQ_ACK_RX ack 0 l)

/-- The quiet handshake (R311, R320): with every frame acknowledged a QUIET frame leaves, once the set is ready; with one sent
and one received the lanes go QUIET. -/
def quietStep (l : Nat) (s : State) : State :=
  let u := linkU s l
  if linkState s l ≠ 2 then s
  else
    let s := if (s.flag LK_CTRL_QUIET 0 l || u.quietRecv) && u.replay.isEmpty && !u.quietSent && linkReady s l then
        updLink l (fun u => { u with quietSent := true }) (sendControl l 3 [] s)
      else s
    let u := linkU s l
    if u.quietSent && u.quietRecv then
      let s := s.wr LK_STATUS_STATE 3 0 l
      let s := refreshTimeSource
        (updMsh (fun m => { m with reportDue := true }) (quietLanes (l / 8) (linkLanes s l) true s))
      if u.queue.isEmpty then s else wakeLink l s
    else s

/-- What follows an ACK: packets that waited leave, and a quiet handshake may go on. -/
def afterAck (l : Nat) (s : State) : State := quietStep l (pump l 512 s)

/-- What the tick does to the links: packets that wait leave where they may. -/
def meshTick (s : State) : State :=
  (s.mesh.links.filter fun e => !e.2.queue.isEmpty).foldl (fun t e => pump e.1 512 t) s

/-! Reports (R325, R326). -/

/-- One report entry of this device for link l; none where it has no link (R326). -/
def reportEntry (s : State) (l : Option Nat) (seq idx count : Nat) : List Nat :=
  let w0 := s.rd MS_STATUS_ADDR + s.rd MS_STATUS_ADDR_VALID * 2 ^ 12 + s.rd MS_STATUS_GATEWAY * 2 ^ 13 +
    seq * 2 ^ 16 + idx * 2 ^ 32 + count * 2 ^ 40
  let w2 := s.rd GL_IDCODE_IDCODE + s.rd MS_ROUTES_ROUTES_ID * 2 ^ 32
  match l with
  | none => [w0, s.rd MS_SERIAL_SERIAL, w2, 0xFF, 0, 0, s.now, 0]
  | some l =>
    let role := s.rd LG_ROLE_WORD0 (l / 8)
    let w3 := l + s.rd LK_STATUS_PEER_LINK 0 l * 2 ^ 8 + s.rd LK_STATUS_PEER_ADDR 0 l * 2 ^ 16 +
      bits role 9 8 * 2 ^ 28 + linkState s l * 2 ^ 30 + bits role 32 16 * 2 ^ 32
    [w0, s.rd MS_SERIAL_SERIAL, w2, w3, s.rd LK_PEER_SERIAL 0 l, s.rd LK_DELAY_ROUND_TRIP 0 l, s.now, 0]

/-- A gateway writes a 64-byte report entry to its ring (R326); one that would overwrite an entry not consumed is
dropped. -/
def writeReport (entry : List Byte) (s : State) : State :=
  let lines := s.rd MS_REPORT_LINES_LINES
  let k := s.rd MS_REPORT_WR_INDEX
  let base := s.rd MS_REPORT_BASE_ADDR
  if lines < 64 ∨ 2 ^ 20 < lines ∨ base % 64 ≠ 0 then s
  else if s.rd MS_REPORT_RD_INDEX + lines ≤ k then s.incSat MS_COUNTS_REPORTS_DROPPED
  else
    let gen := 1 - k / lines % 2
    let w7 := wordAt entry 56 % 2 ^ 63 + gen * 2 ^ 63
    let (_, s) := writeLine 0xF024 (base + k % lines * 64) (entry.take 56 ++ valBytes (leBytes w7 8)) s
    s.incWrap MS_REPORT_WR_INDEX

/-- The entries of a payload, 64 bytes each; at most k. -/
def entriesOf : Nat → List Byte → List (List Byte)
  | 0, _ => []
  | k + 1, b => if b.length < 64 then [] else b.take 64 :: entriesOf k (b.drop 64)

/-- A REPORT packet leaves on link l, or is dropped where it finds no room (R325). -/
def sendReport (l : Nat) (p : Pkt) (s : State) : State :=
  if maySend s l p.vc then enqueuePkt l { pkt := p, from_ := none } s else s.incSat MS_COUNTS_REPORTS_DROPPED

/-- The entries of a report in packets of up to 16; at most k packets. -/
def chunks16 {α : Type} : Nat → List α → List (List α)
  | 0, _ => []
  | k + 1, l => if l.isEmpty then [] else l.take 16 :: chunks16 k (l.drop 16)

/-- Is a report due (R325): after a change of a neighbour entry or link state, or REPORT_PERIOD × 10 ms, of 15,000,000
core cycles each, after the last one? 0 acts as 1. -/
def reportNow (s : State) : Bool :=
  s.mesh.reportDue || decide (s.mesh.reportAt + max 1 (s.rd MS_CTRL_REPORT_PERIOD) * 15000000 ≤ s.cycle)

/-- This device floods its report (R325, R326); every packet carries a REPORT_SEQ of its own. -/
def floodReport (s : State) : State :=
  let links := (allLinks s).filter fun l => linkState s l != 0
  let count := max 1 links.length
  let rows : List (Option Nat × Nat) := if links.isEmpty then [(none, 0)]
    else (List.range links.length).map fun i => (links[i]?, i)
  let s := updMsh (fun m => { m with reportDue := false, reportAt := s.cycle }) s
  (chunks16 16 rows).foldl (fun t c =>
    let seq := t.mesh.reportSeq
    let entries := c.map fun r => wordBytes (reportEntry t r.1 seq r.2 count)
    let t := updMsh (fun m => { m with reportSeq := (m.reportSeq + 1) % 65536 }) t
    let t := if t.flag MS_STATUS_GATEWAY then entries.foldl (fun u e => writeReport e u) t else t
    let p : Pkt :=
      { dst := 0, src := t.rd MS_STATUS_ADDR, cls := 2, vc := 0, srcRouted := false, hops := 63, routePos := 0,
        tag := 0, status := 0, offset := 0, resp := false, route := [], payload := entries.flatten }
    ((allLinks t).filter fun l => linkState t l == 2).foldl (fun u l => sendReport l p u) t) s

/-- Is a REPORT_SEQ newer than another: within the 32,768 values after it (R325)? -/
def newer (a b : Nat) : Bool := decide (1 ≤ (a + 65536 - b) % 65536) && decide ((a + 65536 - b) % 65536 ≤ 32768)

/-- A REPORT packet is taken in (R310, R325, R326). -/
def takeReport (p : Pkt) (arrival : Nat) (s : State) : State :=
  let es := entriesOf 16 p.payload
  match es.head? with
  | none => s
  | some e =>
    let serial := wordAt e 8
    let seq := bits (wordAt e 0) 31 16
    let fresh := serial != s.rd MS_SERIAL_SERIAL && match s.mesh.seen.find? (·.1 == serial) with
      | none => true
      | some x => newer seq x.2
    if !fresh then s
    else
      let s := updMsh (fun m => { m with seen := sput 65536 m.seen serial seq }) s
      let claims := es.any fun e =>
        bit (wordAt e 0) 12 && bits (wordAt e 0) 11 0 == s.rd MS_STATUS_ADDR && s.flag MS_STATUS_ADDR_VALID
      let s := if claims then s.wr MS_STATUS_ADDR_CONFLICT 1 else s
      let s := if claims && !s.mesh.conflicts.contains serial then
          raise E.MESH_ADDR_CONFLICT 0 serial (updMsh (fun m => { m with conflicts := serial :: m.conflicts }) s)
        else s
      let s := if s.flag MS_STATUS_GATEWAY then es.foldl (fun t e => writeReport e t) s else s
      if p.hops ≤ 1 then countUnroutable p (s.incSat MS_COUNTS_REPORTS_DROPPED)
      else
        let q := { p with hops := p.hops - 1 }
        ((allLinks s).filter fun l => linkState s l == 2 && l != arrival).foldl (fun t l => sendReport l q t) s

/-! DATA (R324). -/

/-- A NoC write to the mesh engine is sent to its destination's inbox (R324); one of its 256 requests must be
free. -/
def engineSend (x : Xact) (s : State) : State :=
  let tag := s.mesh.nextTag
  let s := updMsh (fun m => { m with nextTag := (m.nextTag + 1) % 65536, out := m.out ++ [(tag, x.src, x.tag)] }) s
  let s := updXact x (fun y => { y with phase := .atTarget }) s
  emitPkt { dst := bits x.addr 37 26, src := s.rd MS_STATUS_ADDR, cls := 1, vc := 0, srcRouted := false, hops := 63,
            routePos := 0, tag := tag, status := 0, offset := bits x.addr 25 0, resp := false, route := [],
            payload := x.data } s

/-- The spans of a write of n bytes from an address that each lie within one sector of 4,096 bytes; at most k. -/
def sectorPieces : Nat → Nat → Nat → List (Nat × Nat)
  | 0, _, _ => []
  | k + 1, a, n =>
    if n = 0 then []
    else
      let m := min n (4096 - a % 4096)
      (a, m) :: sectorPieces k (a + m) (n - m)

/-- A DATA request is written into the inbox (R324): the code of its response. -/
def writeInbox (p : Pkt) (s : State) : Nat × State :=
  if s.rd MS_INBOX_SIZE_BYTES < p.offset + p.payload.length ∨ s.rd MS_INBOX_SIZE_BYTES = 0 then
    (Code.OUT_OF_RANGE, s)
  else
    let base := s.rd MS_INBOX_BASE_ADDR + p.offset
    (sectorPieces 3 base p.payload.length).foldl (fun (acc : Nat × State) e =>
      let (c, t) := blockWrite 0xF024 e.1 ((p.payload.drop (e.1 - base)).take e.2) acc.2
      (firstCode acc.1 c, t)) (Code.OK, s)

/-- A DATA response ends the request it answers (R324). -/
def takeResponse (p : Pkt) (s : State) : State :=
  match s.mesh.out.find? (·.1 == p.tag) with
  | none => s
  | some (_, q, t) =>
    let s := updMsh (fun m => { m with out := m.out.filter (·.1 != p.tag) }) s
    match xactAt s q t with
    | none => s
    | some x => answerXact x p.status [] 0 s

/-- The oldest packet that waits here for the command of a class. -/
def takeLocal (f : Pkt → Bool) (s : State) : Option (Pkt × Nat × State) :=
  match s.mesh.local_.findIdx? fun e => f e.1 with
  | none => none
  | some i =>
    match s.mesh.local_[i]? with
    | none => none
    | some (p, l, _) =>
      let s := updMsh (fun m => { m with local_ := m.local_.eraseIdx i }) s
      some (p, l, if l < 144 then reportFree l s else s)

end Sys2Proof.Machine
end

