-- ==== Sys2Proof/Machine/RegRead.lean ====
section
/-! DEFINITION. What a register reads as (R9, R335, R510): registers of instances not served read 0, the detail
logs read 0 outside the Developer state. -/

namespace Sys2Proof.Machine

open F

/-- Does a register serve its instance i, index j (R242, R331, R510)? Link registers stand at 1000h to 33FFh of the
mesh. -/
def servesReg (s : State) (r : RegRow) (j : Nat) : Bool :=
  if 0x1401000 ≤ r.off ∧ r.off < 0x1404000 then (bondedSets (s.rd LG_ROLE_WORD0 (j / 8))).any (fun l =>
      bits (s.rd LG_ROLE_WORD0 (j / 8)) 2 0 == 2 && l.head? == some (j % 8))
  else true

/-- Are the contents of a register withheld in the present lifecycle state (R284, R386)? Outside the Developer
state the detail log reads 0, and so does SP_DENY_LOG while it holds an access to the ember region, which begins
at 78_0000h (R387). -/
def withheld (s : State) (r : RegRow) : Bool :=
  s.rd LC_STATUS_STATE != 1 && r.fields.any fun f =>
    f.id == DETAIL_LOG_REASON.id || (f.id == SP_DENY_LOG_OFFSET.id && decide (0x780000 ≤ s.rd SP_DENY_LOG_OFFSET))

/-- The value a register reads as. -/
def regReads (s : State) (r : RegRow) (i j : Nat) : Nat :=
  if !servesReg s r j || withheld s r then 0 else regValue s r i j

/-- The 32-bit word at an aligned BAR0 offset, as the debug master reads it: without a latch and without a read
action (R348). An offset that holds no register reads 0 (R335). -/
def debugWord (s : State) (off : Nat) : Nat :=
  match regAt off with
  | none => 0
  | some (r, i, j, b) => bits (regReads s r i j) (8 * b + 31) (8 * b)

end Sys2Proof.Machine
end

