-- ==== Sys2Proof/Machine/Transfer.lean ====
section
/-! DEFINITION. The transfers that descriptors make between host memory and the device (R347, R348), those of descriptors
executed for a gateway included, whose host memory is reached by HOST packets (R354). -/

namespace Sys2Proof.Machine

open F

/-- A little-endian number of n bytes at a of the boot directory in use. -/
def dirWord (s : State) (a n : Nat) : Nat := leNat (byteVals ((s.boot.dir.drop a).take n))

/-! Host memory. -/

/-- The route bytes of a proxy ring towards its target, and back (R354, R357). -/
def proxyRoute (s : State) (r : Nat) : List Nat :=
  (List.range (min 32 (s.rd PX_CFG_OUT_LEN 0 r))).map fun i =>
    bits (s.rd PX_OUT_ROUTE 0 (r * 4 + i / 8)) (i % 8 * 8 + 7) (i % 8 * 8)
def proxyBack (s : State) (r : Nat) : List Nat :=
  (List.range (min 32 (s.rd PX_CFG_BACK_LEN 0 r))).map fun i =>
    bits (s.rd PX_BACK_ROUTE 0 (r * 4 + i / 8)) (i % 8 * 8 + 7) (i % 8 * 8)

/-- The packet that brought a descriptor executed for a gateway (R354). -/
def servedBy (s : State) (o : Op) : Option Pkt :=
  (s.host.serving.find? fun e => e.1 == o.ring && e.2.1 == o.idx).map (·.2.2)

/-- A HOST packet to the gateway of a descriptor executed for it (R354): by the route back that came with the descriptor when
it was source-routed, and towards HOST_GW otherwise (R322). -/
def backPkt (s : State) (p : Pkt) (payload : List Byte) (h : HostLoad) : Pkt :=
  { dst := if p.srcRouted then p.src else s.mesh.hostGw, src := s.rd MS_STATUS_ADDR, cls := 0, vc := 0,
    srcRouted := p.srcRouted, hops := 63, routePos := 0, tag := p.tag, status := 0, offset := 0, resp := false,
    route := if p.srcRouted then (p.payload.drop 64).map (·.toNat) else [], payload := payload, host := some h }

/-- The pieces of at most 1,024 bytes, a packet's payload, of n bytes at a (R321). -/
def pieces (a n : Nat) : List (Nat × Nat) :=
  (List.range ((n + 1023) / 1024)).map fun i => (a + 1024 * i, min 1024 (n - 1024 * i))

/-- The host memory that an operation reads (R346): address and length. -/
def hostReads (o : Op) : Option (Nat × Nat) :=
  match o.opcode with
  | 0x01 => if bits (o.word 3) 33 32 = 0 then some (o.word 1, bits (o.word 3) 31 0) else none
  | 0x10 => some (o.word 1, bits (o.word 2) 31 0)
  | 0x20 => some (o.word 1, bits (o.word 2) 22 0)
  | 0x30 => some (o.word 2, 72)
  | 0x33 => some (o.word 2, 64)
  | 0x50 => some (o.word 1, 64 * bits (o.word 2) 8 0)
  | 0x70 => some (o.word 2, bits (o.word 3) 31 0)
  | 0x71 => if bit (o.word 1) 8 then some (o.word 2, 4096) else none
  | _ => none

/-- The reads of an operation executed for a gateway leave for it (R354); the operation waits for their answers. -/
def fetchHost (o : Op) (s : State) : State :=
  match servedBy s o, hostReads o with
  | some p, some (a, n) =>
    let l := pieces a n
    let s := s.updHost fun h => { h with fetched := h.fetched ++ [{ ring := o.ring, idx := o.idx, awaited := l }] }
    l.foldl (fun t e => emitPkt (backPkt t p [] (.read o.ring (o.idx % 2 ^ 32) e.1 e.2)) t) s
  | _, _ => s

/-- An answer to a read of host memory arrives (R354). -/
def takeFetched (ring idx a : Nat) (data : List Byte) (s : State) : State :=
  s.updHost fun h =>
    { h with
      fetched := h.fetched.map fun f =>
        if f.ring == ring && f.idx == idx && f.awaited.contains (a, data.length) then
          { f with awaited := f.awaited.erase (a, data.length), bytes := memWrBytes f.bytes a data }
        else f }

/-- An operation writes host memory: that of this device's own host, or, executed for a gateway, by HOST packets (R354). -/
def hostPut (o : Op) (a : Nat) (data : List Byte) (s : State) : State :=
  if o.origin = 0 then s.updHostMem fun m => memWrBytes m a data
  else match servedBy s o with
    | none => s
    | some p =>
      (pieces a data.length).foldl (fun t e =>
        let part := (data.drop (e.1 - a)).take e.2
        emitPkt (backPkt t p part (.write e.1 part)) t) s

/-! The lines of a transfer (R347, R348). -/

/-- What the lines of a transfer have met: a refusal, a poisoned line, and another code of a line that its target
did not serve. -/
structure LineSum where
  refused : Bool := false
  poisoned : Bool := false
  other : Nat := 0
  deriving DecidableEq, Repr

/-- One code more. -/
def LineSum.note (a : LineSum) (code : Nat) : LineSum :=
  if code = Code.REFUSED then { a with refused := true }
  else if code = Code.POISONED then { a with poisoned := true }
  else if code = Code.OK ∨ a.other ≠ 0 then a
  else { a with other := code }

/-- The code of the transfer (R347): 0020h if any line was refused, otherwise 0042h if any was poisoned. -/
def LineSum.code (a : LineSum) : Nat :=
  if a.refused then Code.REFUSED else if a.poisoned then Code.POISONED else a.other

/-- Lines a move takes one after another; at most k of them, from byte n. Line i has the requests 2i, its read, and 2i + 1, its
write, of the move, one of which a parity error may meet (R239). -/
def moveLines (o : Op) (upset : Option Upset) : Nat → Nat → LineSum → State → LineSum × State
  | 0, _, acc, s => (acc, s)
  | k + 1, n, acc, s =>
    let src := o.word 1 + n
    let dst := o.word 2 + n
    let dir := bits (o.word 3) 33 32
    let prio := bits (o.word 3) 35 34
    let (code, data, s) :=
      if dir = 0 then (Code.OK, memBytes (hostImage s o) src 64, s)
      else
        let (r, s) := blockRead 0xF008 src 64 s prio upset (n / 32)
        (r.code, r.data, s)
    let (wcode, s) :=
      if dir = 1 then (Code.OK, hostPut o dst data s)
      else blockWrite 0xF008 dst data s prio upset (n / 32 + 1)
    moveLines o upset k (n + 64) ((acc.note code).note wcode) s

/-- The bytes that DEBUG_READ reads at a time in each space (R348). -/
def debugUnit (space : Nat) : Nat := if space = 2 then 4 else if space = 4 then 384 else 64

/-- One unit of a space, n bytes from its start, as the debug master reads it: the code, and the data. -/
def debugUnitAt (upset : Option Upset) (space src n : Nat) (s : State) : Nat × List Byte × State :=
  match space with
  | 0 =>
    let (r, s) := blockRead 0xF020 (src + n) 64 s 0 upset (n / 64)
    (r.code, r.data, s)
  | 1 =>
    match padAccess 2 0xF020 (src + n) 64 .read false [] s with
    | (.now code data, s) => (code, data, s)
    | (.refusedEmber, s) => (Code.REFUSED, List.replicate 64 0, s)
  | 2 => (Code.OK, valBytes (leBytes (debugWord s (src + n)) 4), s)
  | 3 => (Code.OK, memBytes s.sched (src + n) 64, s)
  | _ =>
    let body := sget 0 s.frames (frameIdx (bits src 22 16) (bits src 13 0 + n / 384))
    (Code.OK, valBytes (leBytes body 384), s)

/-- Units that DEBUG_READ moves one after another; at most k of them, from byte n. -/
def debugUnits (o : Op) (upset : Option Upset) (space src dst : Nat) : Nat → Nat → LineSum → State → LineSum × State
  | 0, _, acc, s => (acc, s)
  | k + 1, n, acc, s =>
    let (code, data, s) := debugUnitAt upset space src n s
    debugUnits o upset space src dst k (n + debugUnit space) (acc.note code) (hostPut o (dst + n) data s)

end Sys2Proof.Machine
end

