-- ==== Sys2Proof/Machine/RingOps.lean ====
section
/-! DEFINITION. The host interface (chapter 15): doorbells, descriptors and their checks (R345, R346), completion
entries (R349), event records (R463), MSI-X (R342), DMA moves (R347), proxy rings (R354), aborts (R352), and the
reset of the link (R353). -/

namespace Sys2Proof.Machine

open F

/-- Changes the host interface. -/
def updHst (f : HostSt → HostSt) (s : State) : State := s.updHost f

/-- The state of ring r: 0 DISABLED, 1 RUNNING, 2 DRAINING, 3 HALTED. -/
def ringState (s : State) (r : Nat) : Nat := s.rd CR_STATUS_STATE 0 r

/-- The size of ring r (R337). -/
def ringSize (s : State) (r : Nat) : Nat := 2 ^ s.rd CR_CFG_SIZE_LOG2 0 r

/-- The run of ring r: how often it has been enabled, modulo its names. -/
def runOf (s : State) (r : Nat) : Nat := sget 0 s.host.runs r

/-- The name of descriptor index k of the present run of ring r. -/
def ownIdx (s : State) (r k : Nat) : Nat := k % 2 ^ 32 + runOf s r * 2 ^ 45

/-- An MSI-X message of a vector is sent, or pends while the vector or the function is masked (R342); none is sent or pends while
MSI-X is not enabled (PRESUMED, log entry 85). -/
def sendMsix (v : Nat) (s : State) : State :=
  let e : Msix := sget {} s.host.msix v
  if !s.host.pcie.msixEnable then s
  else if e.masked || s.host.pcie.functionMask then updHst (fun h => { h with pendingBits := if h.pendingBits.contains v then h.pendingBits else v :: h.pendingBits }) s
  else s.updHostMem fun m => memWr m e.addr e.data 4

/-- A completion entry has been written on ring r (R342): its message is due after COUNT entries. -/
def countEntry (r : Nat) (s : State) : State :=
  let (n, first) := sget (0, 0) s.host.uncovered r
  if max 1 (s.rd CR_IRQ_COUNT 0 r) ≤ n + 1 then
    sendMsix (s.rd CR_CFG_VECTOR 0 r) (updHst (fun h => { h with uncovered := sput (0, 0) h.uncovered r (0, 0) }) s)
  else
    let f := if n = 0 then s.now else first
    updHst (fun h => { h with uncovered := sput (0, 0) h.uncovered r (n + 1, f) }) s

/-- The words of a completion entry, without GEN (R349). -/
def completionWords (o : Op) : List Nat :=
  let w0 := o.code + o.opcode * 2 ^ 16 + o.fidx % 256 * 2 ^ 24 + bits (o.word 0) 31 16 * 2 ^ 32 + o.idx % 65536 * 2 ^ 48
  match o.reelForm with
  | none => [w0, o.tick, o.off + o.dev * 2 ^ 17 + o.seq * 2 ^ 29, o.result % 2 ^ 62]
  | some (endTick, w2) => [w0, endTick, w2, o.result % 2 ^ 62 + 2 ^ 62]

/-- The words of an event record, without GEN (R463). -/
def recordWords (e : EvRec) : List Nat :=
  [e.id + e.cls * 2 ^ 16 + (if e.injected then 2 ^ 18 else 0) + e.inst * 2 ^ 32, e.tick,
    e.off + e.dev * 2 ^ 17 + e.seq * 2 ^ 29, e.arg % 2 ^ 62]

/-- Four words with GEN of free-running index k in a ring of a size, written at a base (R340). -/
def writeEntry (base size k : Nat) (w : List Nat) (s : State) : State :=
  let gen := 1 - k / size % 2
  let w3 := w.getD 3 0 % 2 ^ 63 + gen * 2 ^ 63
  s.updHostMem fun m => memWrBytes m (base + k % size * 32) (wordBytes (w.take 3 ++ [w3]))

/-- An event record is written to the event ring, and its message sent (R341, R342, R463). -/
def writeRecord (e : EvRec) (s : State) : State :=
  let s := writeEntry (s.rd EV_BASE_ADDR) (eventSize s) (s.rd EV_WR_INDEX) (recordWords e) s
  sendMsix (s.rd EV_CFG_VECTOR) (s.incWrap EV_WR_INDEX)

/-- A ring that drains is DISABLED once every accepted operation's completion is written (R343). -/
def settleRing (r : Nat) (s : State) : State :=
  if ringState s r = 2 ∧ !(s.ops.any fun o => o.ring == r && o.own && !o.lost) then s.wr CR_STATUS_STATE 0 0 r else s

/-! Descriptors (R344 to R346). -/

/-- The opcodes of R346. -/
def opcodes : List Nat :=
  [0x00, 0x01, 0x02, 0x10, 0x20, 0x21, 0x22, 0x23, 0x24, 0x30, 0x31, 0x32, 0x33, 0x40, 0x41, 0x50, 0x60, 0x70, 0x71,
    0x72, 0xF0]

/-- The bits hi to lo of a word. -/
def span (hi lo : Nat) : Nat := 2 ^ (hi + 1) - 2 ^ lo

/-- Every bit of a word. -/
def allBits : Nat := 2 ^ 64 - 1

/-- The bits of words 1 to 7 that an opcode's fields take; the others are reserved (R346). -/
def fieldBits (opcode : Nat) : List Nat :=
  match opcode with
  | 0x01 => [allBits, allBits, span 35 0]
  | 0x02 => [span 3 0, allBits, allBits, span 31 0]
  | 0x10 => [allBits, span 31 0]
  | 0x20 => [allBits, span 22 0]
  | 0x22 => [allBits]
  | 0x30 => [span 5 0 + span 11 8, allBits]
  | 0x31 => [span 5 0]
  | 0x32 => [span 5 0 + span 8 8 + span 21 16]
  | 0x33 => [span 3 0, allBits]
  | 0x40 => [span 3 0, allBits, allBits, span 4 0]
  | 0x41 => [span 3 0, allBits]
  | 0x50 => [allBits, span 8 0]
  | 0x60 => [allBits, span 3 0, span 7 0 + span 25 8]
  | 0x70 => [span 0 0, allBits, span 31 0]
  | 0x71 => [span 2 0 + span 8 8, allBits]
  | 0x72 => [span 2 0 + span 5 4 + span 8 8 + span 20 16 + span 48 32 + span 56 56]
  | 0xF0 => [span 5 0, span 31 0]
  | _ => []

/-- The first word whose reserved bits are not 0 (R344, R345). -/
def reservedWord (d : List Nat) : Option Nat :=
  let masks := (span 8 0 + span 31 16) :: fieldBits (bits (d.getD 0 0) 7 0)
  (List.range 8).find? fun w => (d.getD w 0) &&& (allBits - masks.getD w 0) != 0

/-- Steps 1 and 2 of R345: the code and field of the first failure. -/
def headerCheck (d : List Nat) : Option (Nat × Nat) :=
  if !opcodes.contains (bits (d.getD 0 0) 7 0) then some (Code.BAD_OPCODE, 1)
  else (reservedWord d).map fun w => (Code.BAD_FIELD, 64 + w)

/-- Is this one of the four key operations, which complete as R280 and R283 give whatever the check that fails (R346)? -/
def keyOpcode (d : List Nat) : Bool :=
  let opc := bits (d.getD 0 0) 7 0
  opc == 0x30 || opc == 0x31 || opc == 0x32 || opc == 0x33

/-- A host-memory address must be aligned to 64 bytes (R345). -/
def hostAddr (a fld : Nat) : Option (Nat × Nat) := if a % 64 = 0 then none else some (Code.BAD_ALIGN, fld)

/-- The first check of a list that fails. -/
def firstFail (l : List (Option (Nat × Nat))) : Option (Nat × Nat) := l.findSome? id

/-- A value outside its range. -/
def inRange (ok : Bool) (fld : Nat) : Option (Nat × Nat) := if ok then none else some (Code.OUT_OF_RANGE, fld)

/-- An encoding that is invalid. -/
def validField (ok : Bool) (fld : Nat) : Option (Nat × Nat) := if ok then none else some (Code.BAD_FIELD, fld)

/-- Step 3 of R345: the fields in index order (R346). The key operations take it as a refusal instead. -/
def fieldCheck (d : List Nat) : Option (Nat × Nat) :=
  let w (k : Nat) := d.getD k 0
  match bits (w 0) 7 0 with
  | 0x01 =>
    let len := bits (w 3) 31 0
    let dir := bits (w 3) 33 32
    firstFail [if dir = 0 then hostAddr (w 1) 8 else none, if dir = 1 then hostAddr (w 2) 9 else none,
      inRange (decide (64 ≤ len ∧ len ≤ 2 ^ 28 ∧ len % 64 = 0)) 10, validField (dir != 3) 11]
  | 0x02 =>
    firstFail [validField (decide (bits (w 1) 3 0 ≤ 4)) 8, hostAddr (w 3) 10,
      inRange (decide (bits (w 4) 31 0 ≤ 2 ^ 20)) 11]
  | 0x10 => hostAddr (w 1) 8
  | 0x20 => firstFail [hostAddr (w 1) 8,
      inRange (decide (64 ≤ bits (w 2) 22 0 ∧ bits (w 2) 22 0 ≤ 4194304)) 9]
  | 0x50 => firstFail [hostAddr (w 1) 8, inRange (decide (1 ≤ bits (w 2) 8 0 ∧ bits (w 2) 8 0 ≤ 256)) 9]
  | 0x60 => validField (decide (bits (w 2) 3 0 ≤ 9)) 9
  | 0x70 => firstFail [hostAddr (w 2) 9,
      inRange (decide (4096 ≤ bits (w 3) 31 0 ∧ bits (w 3) 31 0 ≤ 2 ^ 25 ∧ bits (w 3) 31 0 % 4096 = 0)) 10]
  | 0x71 => hostAddr (w 2) 10
  | _ => none

/-- Step 4 of R345 for DMA_MOVE (R347): every device range lies within one channel's range. -/
def moveCheck (s : State) (d : List Nat) : Option (Nat × Nat) :=
  let w (k : Nat) := d.getD k 0
  let len := bits (w 3) 31 0
  let dir := bits (w 3) 33 32
  let within (a : Nat) : Bool := decide (a < 2 ^ 40) && decide (a % 2 ^ 37 + len ≤ s.dramCapacity (chanOf a))
  firstFail [inRange (dir == 0 || within (w 1)) 8, inRange (dir == 1 || within (w 2)) 9]

/-- A proxied descriptor travels to its target (R354): by PX_OUT where SRC_ROUTED is 1, with the route back of PX_BACK behind
it, by table otherwise. -/
def proxyPkt (s : State) (r k : Nat) (d : List Nat) : Pkt :=
  let src := s.flag PX_CFG_SRC_ROUTED 0 r
  { dst := s.rd PX_CFG_DST 0 r, src := s.rd MS_STATUS_ADDR, cls := 0, vc := 0, srcRouted := src, hops := 63,
    routePos := 0, tag := 0, status := 0, offset := 0, resp := false, route := if src then proxyRoute s r else [],
    payload := wordBytes d ++ if src then (proxyBack s r).map (BitVec.ofNat 8) else [],
    host := some (.descriptor r k d) }

/-- The core cycles of a proxy timeout (R354): 2^TIMEOUT_EXP ms. -/
def proxyTimeout (s : State) (r : Nat) : Nat := 2 ^ s.rd PX_CFG_TIMEOUT_EXP 0 r * 1500000

/-- An operation is entered in the list of those accepted, or rejected at once. In WAIT_IMAGE the boot stage serves
FW_WRITE itself, and Hearth's other descriptors complete BUSY (R482). -/
def enterOp (r k : Nat) (d : List Nat) (reject : Option (Nat × Nat)) (s : State) : State :=
  let s := s.updOps (· ++ [{ ring := r, idx := k, desc := d, phase := .accepted }])
  match reject with
  | some (code, fld) => decideOp r k code fld 0 s
  | none =>
    let s := noteOutstanding r s
    match opAt s r k with
    | none => s
    | some o =>
      let s := if o.origin = 0 then s else fetchHost o s
      if s.rd BOOT_STATUS_STAGE ≠ 8 then enqueueHearth o s
      else if o.opcode ≠ 0x70 ∧ (hearthPrio o.opcode).isSome then decideOp r k Code.BUSY 0 0 s
      else s

/-- A descriptor is checked and accepted or rejected (R345). The key operations answer a reserved bit or an
invalid field as a refusal of their own (R346). -/
def acceptDescriptor (r k : Nat) (d : List Nat) (s : State) : State :=
  enterOp r k d (if keyOpcode d then none else (headerCheck d).or (fieldCheck d)) s

/-- A descriptor of a proxy ring is sent to its target (R354). -/
def proxyDescriptor (r k : Nat) (d : List Nat) (s : State) : State :=
  match if keyOpcode d then none else headerCheck d with
  | some f => enterOp r k d (some f) s
  | none =>
    let s := s.updOps (· ++ [{ ring := r, idx := k, desc := d, phase := .running }])
    let s := noteOutstanding r s
    let s := updHst (fun h => { h with proxied := h.proxied ++ [(r, k, s.cycle + proxyTimeout s r)] }) s
    emitPkt (proxyPkt s r k d) s

/-- The descriptor in slot C of ring r (R338). -/
def nextDescriptor (s : State) (r : Nat) : List Nat :=
  let a := s.rd CR_BASE_ADDR 0 r + s.rd CR_CONS_INDEX 0 r % ringSize s r * 64
  (List.range 8).map fun w => memRd s.hostMem (a + 8 * w) 8

/-- Can the target of this descriptor not take it now (R339): a dispatcher without room for its jobs, or for the job of a
descriptor that Hearth serves (R380), a staging area busy
with a PROOF_LOAD, or a power controller whose queue is full (R422)? -/
def targetFull (s : State) (d : List Nat) : Bool :=
  match bits (d.getD 0 0) 7 0 with
  | 0x50 => (headerCheck d).isNone && (fieldCheck d).isNone &&
      !roomFor (jobWords s.hostMem (d.getD 1 0) (bits (d.getD 2 0) 8 0)) s
  | 0x33 | 0x70 | 0x71 | 0x72 =>
    s.rd BOOT_STATUS_STAGE != 8 && (keyOpcode d || ((headerCheck d).isNone && (fieldCheck d).isNone)) && !hearthRoom s
  | 0x60 =>
    decide (9 ≤ s.pw.queue.length + (if s.pw.active.isSome then 1 else 0) +
      s.ops.countP fun o => o.opcode == 0x60 && o.phase == .accepted)
  | 0x20 => s.stage.load.isSome
  | 0x21 => s.stage.load.isSome
  | 0x22 => s.stage.load.isSome
  | 0x24 => s.stage.load.isSome
  | _ => false

/-- Do descriptors of ring r wait (R338)? -/
def waiting (s : State) (r : Nat) : Bool := s.rd CR_CONS_INDEX 0 r != s.rd CR_PROD_INDEX 0 r

/-- May the next descriptor of ring r be consumed (R339, R343): the one before it has been accepted or rejected by its target?
A proxy ring's goes to another device (R354). -/
def mayConsume (s : State) (r : Nat) (d : List Nat) : Bool :=
  ringState s r == 1 && waiting s r &&
    decide (idxDiff (s.rd CR_CONS_INDEX 0 r) (s.rd CQ_RD_INDEX 0 r) < ringSize s r) &&
    !(bit (d.getD 0 0) 8 && s.ops.any fun o => o.ring == r && o.own && !o.lost) &&
    !(s.ops.any fun o => o.ring == r && o.own && o.unjudged) &&
    (s.flag CR_CFG_PROXY 0 r || !targetFull s d)

/-- Is the consumer index of ring r held by the target of its next descriptor (R339)? -/
def ringStalled (s : State) (r : Nat) : Bool :=
  ringState s r == 1 && waiting s r && !s.flag CR_CFG_PROXY 0 r && targetFull s (nextDescriptor s r)

/-- Does a descriptor that is not consumed yet wait for entries (R363, R380)? -/
def ringWaitsForEntries (s : State) : Bool :=
  (List.range 64).any fun r => ringStalled s r &&
    [0x50, 0x33, 0x70, 0x71, 0x72].contains (bits ((nextDescriptor s r).getD 0 0) 7 0)

/-- A source that waits for entries in this frame is noted before they are freed (R363). -/
def noteStall (s : State) : State :=
  if enqueueStalled s || ringWaitsForEntries s then s.updDisp fun d => { d with stalled := true } else s

/-- What the tick does to the rings (R339, R484): READY is set again after a LINK reset, and every frame in which a
target holds C counts. -/
def ringTick (s : State) : State :=
  let s := if s.host.readyDue then (s.wr HI_STATUS_READY 1).updHost fun h => { h with readyDue := false } else s
  (List.range 64).foldl (fun t r =>
    if ringStalled t r then
      t.incSat CR_COUNTS_STALL_FRAMES 0 r
    else t) s

/-- A ring is halted by a failed access (R343). -/
def haltRing (r k : Nat) (byWrite injected : Bool) (s : State) : State :=
  raiseInj E.HOST_RING_FAULT r k injected ((s.wr CR_STATUS_STATE 3 0 r).setb CR_STATUS_HALT_WRITE byWrite 0 r)

/-! What the write of a completion brings with it. -/

/-- A reel that is HOLDING becomes IDLE when its completion has been written (R97), and the aborts that waited for
it complete, on an engine that has taken a further reel as well (R96). -/
def reelAnswered (r k : Nat) (s : State) : State :=
  (List.range 16).foldl (fun t n =>
    let t := if (reel t n).op == some (r, k) then
        updReel n (fun u => { u with op := none }) (if reelState t n == 6 then t.wr RE_STATUS_STATE 0 n else t)
      else t
    let due := (reel t n).lateAborts.filter fun a => a.2.2 == (r, k)
    if due.isEmpty then t
    else
      due.foldl (fun x a => decideOp a.1 a.2.1 Code.ALREADY_DONE 0 0 x)
        (updReel n (fun u => { u with lateAborts := u.lateAborts.filter fun a => a.2.2 != (r, k) }) t)) s

/-- The ABORTs that waited for an operation's answer complete (R352). -/
def abortsAnswered (r k : Nat) (s : State) : State :=
  let due := s.host.lateAborts.filter fun a => a.onRing == r && a.onIdx == k
  let s := updHst (fun h => { h with lateAborts := h.lateAborts.filter fun a => !(a.onRing == r && a.onIdx == k) }) s
  due.foldl (fun t a => decideOp a.ring a.idx Code.ALREADY_DONE 0 0 t) s

/-- An operation has been answered, and leaves. -/
def answered (o : Op) (s : State) : State :=
  let s := s.updOps fun l => l.filter fun p => !p.is o.ring o.idx
  let s := s.updReady fun l => l.filter (· != (o.ring, o.idx))
  let s := if o.origin = 0 then s
    else updHst (fun h => { h with fetched := h.fetched.filter fun f => !(f.ring == o.ring && f.idx == o.idx) }) s
  let s := if o.opcode = 0x40 then reelAnswered o.ring o.idx s else s
  let s := if o.opcode = 0x22 then releaseCancels o.ring o.idx s else s
  settleRing o.ring (noteOutstanding o.ring (abortsAnswered o.ring o.idx s))

/-- The completion of a descriptor executed for a gateway travels back (R354). -/
def returnCompletion (o : Op) (s : State) : State :=
  match servedBy s o with
  | none => s
  | some p =>
    let s := updHst (fun h => { h with serving := h.serving.filter fun e => !(e.1 == o.ring && e.2.1 == o.idx) }) s
    let words := completionWords o
    emitPkt (backPkt s p (wordBytes words) (.completion o.ring (o.idx % 2 ^ 32) words)) s

/-- The operation whose completion is the next to be written for ring r. -/
def nextReady (s : State) (r : Nat) : Option Op :=
  (s.ready.find? fun e => e.1 == r).bind fun e => opAt s e.1 e.2

/-! DMA moves (R347). -/

/-- Does a move wait for a channel, in self-refresh (R408) or at its last line (R39, R254, R255)? -/
def moveRests (s : State) (o : Op) : Bool :=
  let n := bits (o.word 3) 31 0
  let dir := bits (o.word 3) 33 32
  let waits (addr : Nat) : Bool := dramRests s addr n || accessHeld s (addr + n - 64) 64
  (dir != 0 && waits (o.word 1)) || (dir != 1 && waits (o.word 2))

/-- A move ends after n lines (R347): ABORTED where the link failed or it was aborted. -/
def endMove (o : Op) (n : Nat) (stopped failed : Bool) (s : State) (upset : Option Upset := none) : State :=
  let all := bits (o.word 3) 31 0 / 64
  let n := min n all
  let (acc, s) := moveLines o upset n 0 {} s
  let code := if stopped then Code.ABORTED else acc.code
  decideOp o.ring o.idx code 0 (n * 64 + (if failed then 2 ^ 61 else 0)) s

/-! Aborts and resets (R352, R353). -/

/-- The opcodes that ABORT applies to (R352). -/
def abortable (opcode : Nat) : Bool :=
  opcode == 0x01 || opcode == 0x02 || opcode == 0x10 || opcode == 0x20 || opcode == 0x70 || opcode == 0x71

/-- DEBUG_READ ends after n units (R348): ABORTED where the link failed or it was aborted. -/
def endDebug (o : Op) (n : Nat) (stopped failed : Bool) (s : State) (upset : Option Upset := none) : State :=
  let space := bits (o.word 1) 3 0
  let u := debugUnit space
  let n := min n (bits (o.word 4) 31 0 / u)
  let (acc, s) := debugUnits o upset space (o.word 2) (o.word 3) n 0 {} s
  let s := if space = 4 then borrowFrames n s else s
  decideOp o.ring o.idx (if stopped then Code.ABORTED else acc.code) 0 (n * u + (if failed then 2 ^ 61 else 0)) s

/-- An aborted PROOF_LOAD keeps the items that it had loaded (R61, R352): RESULT is the index of the item at which it stopped, a
free value up to the items it has found, with a free field index. -/
def stopLoad (o : Op) (s : State) : State :=
  let (v, s) := s.draw
  let (fld, s) := s.draw
  let (first, rwf) := s.stage.before
  let k := v % (s.stage.items.length - first + 1)
  let kept := s.stage.items.take (first + k)
  let s := s.updStage fun g =>
    { g with load := none, items := kept, rwf := if (kept.drop first).any (·.type == 0x0F) then g.rwf else rwf }
  decideOp o.ring o.idx Code.ABORTED 0 (k + fld % 65536 * 65536) s

/-- May FW_WRITE program a slot: not in Retired, nor the slot that runs (R211, R429)? -/
def slotWritable (s : State) (slot : Nat) : Bool :=
  s.rd LC_STATUS_STATE != 4 && (s.rd BOOT_STATUS_STAGE == 8 || slot != s.rd FW_STATUS_ACTIVE_SLOT)

/-- n bytes of an image are programmed where the boot directory places its slot (R480). -/
def programSlot (o : Op) (n : Nat) (s : State) : State :=
  if s.boot.dir.isEmpty then s
  else s.updFlash fun m => memWrBytes m (dirWord s (0x20 + 8 * bits (o.word 1) 0 0) 4) (memBytes (hostImage s o) (o.word 2) n)

/-- An aborted FW_WRITE has programmed n lines of its image, and the slot is not VALID (R352, R350; log entry 85). -/
def stopImage (o : Op) (n : Nat) (s : State) : State :=
  if n = 0 ∨ !slotWritable s (bits (o.word 1) 0 0) then decideOp o.ring o.idx Code.ABORTED 0 0 s
  else
    let s := programSlot o (min (64 * n) (bits (o.word 3) 31 0)) s
    let (s, version) := if bits (o.word 1) 0 0 = 0 then (s.wr FW_STATUS_VALID_A 0, s.rd FW_STATUS_VERSION_A)
      else (s.wr FW_STATUS_VALID_B 0, s.rd FW_STATUS_VERSION_B)
    decideOp o.ring o.idx Code.ABORTED 0 version s

/-- Has the job of a descriptor that Hearth serves reached a core? -/
def heldByHearth (s : State) (o : Op) : Bool :=
  s.disp.jobs.any fun j => j.op == some (o.ring, o.idx) && j.place == .held j.worker

/-- A running operation is stopped ABORTED (R61, R196, R352), a transfer or the programming of an image after n lines. -/
def stopOp (o : Op) (n : Nat) (s : State) : State :=
  let running := o.phase == .running
  if o.opcode = 0x01 ∧ running then endMove o n true false s
  else if o.opcode = 0x02 ∧ running then endDebug o n true false s
  else if o.opcode = 0x10 ∧ running ∧ s.cfg.op = some (o.ring, o.idx) then cfgAbort s
  else if o.opcode = 0x20 ∧ running then stopLoad o s
  else if o.opcode = 0x70 ∧ (heldByHearth s o ∨ s.rd BOOT_STATUS_STAGE = 8) then stopImage o n s
  else decideOp o.ring o.idx Code.ABORTED 0 0 s

/-- Does the descriptor run on another device (R354)? -/
def isProxied (s : State) (ring idx : Nat) : Bool := s.host.proxied.any fun e => e.1 == ring && e.2.1 == idx

/-- One ABORT is latched (R352, R355): n is the lines a transfer has moved. One that names itself, an index that had not been
consumed when it came, or a descriptor that runs on another device finds no such operation; one that names an operation
rejected or latched waits for its completion to be written. An outcome decided later than the tick that latches the ABORT
gives way to it. -/
def latchHostAbort (n : Nat) (s : State) (a : AbortReq) : State :=
  match opAt s a.onRing a.onIdx with
  | none => decideOp a.ring a.idx Code.ALREADY_DONE 0 0 s
  | some o =>
    if !a.named || !abortable o.opcode || (o.ring == a.ring && o.idx == a.idx) || isProxied s o.ring o.idx then
      decideOp a.ring a.idx Code.ALREADY_DONE 0 0 s
    else if o.isOpen && !(s.cfg.op == some (o.ring, o.idx) && releaseStands s) then
      decideOp a.ring a.idx Code.OK 0 0 (stopOp o n s)
    else if o.phase == .decided && !o.rejected && decide (a.frame + 1 < o.latchTick) then
      decideOp a.ring a.idx Code.OK 0 0 (s.updOp o.ring o.idx fun o => { o with code := Code.ABORTED, fidx := 0 })
    else updHst (fun h => { h with lateAborts := h.lateAborts ++ [a] }) s

/-- Does an operation still read or write host memory (R353)? A move between device addresses does not; a key operation has read
its key once it runs. -/
def usesHost (o : Op) : Bool :=
  match o.opcode with
  | 0x01 => bits (o.word 3) 33 32 != 2
  | 0x30 | 0x33 => o.phase == .accepted
  | opc => opc == 0x02 || opc == 0x10 || opc == 0x20 || opc == 0x50 || opc == 0x70 || opc == 0x71

/-- The fields of the LINK domain (R357). -/
def linkFields : List Fld :=
  [HI_STATUS_READY, HI_STATUS_WIDTH, HI_STATUS_SPEED, HI_ACCESS_LOG_OFFSET, HI_ACCESS_LOG_BAR, HI_ACCESS_LOG_BYTE_EN,
    HI_ACCESS_LOG_KIND, HI_COUNTS_WIDTH_ERRS, HI_COUNTS_EARLY_DOORBELLS, HI_COUNTS_LOST_COMPLETIONS, EV_BASE_ADDR,
    EV_CFG_SIZE_LOG2, EV_CFG_ENABLE, EV_CFG_VECTOR, EV_STATUS_RUNNING, EV_STATUS_RD_ERR, EV_STATUS_CFG_ERR,
    EV_STATUS_OVERFLOW, EV_WR_INDEX, EV_RD_INDEX, EV_LOST_COUNT, HI_INJECT_RING, HI_INJECT_INJ_FETCH,
    HI_INJECT_INJ_DOORBELL,
    CR_BASE_ADDR, CR_CFG_SIZE_LOG2, CR_CFG_ENABLE, CR_CFG_PROXY, CR_CFG_VECTOR, CR_STATUS_STATE, CR_STATUS_DB_ERR,
    CR_STATUS_RD_ERR, CR_STATUS_CFG_ERR, CR_STATUS_HALT_WRITE, CR_STATUS_OUTSTANDING, CR_CONS_INDEX, CR_PROD_INDEX,
    CQ_BASE_ADDR, CQ_WR_INDEX, CQ_RD_INDEX, CR_IRQ_COUNT, CR_IRQ_TIME, CR_COUNTS_REJECTED, CR_COUNTS_STALL_FRAMES,
    PX_CFG_DST, PX_CFG_SRC_ROUTED, PX_CFG_OUT_LEN, PX_CFG_BACK_LEN, PX_CFG_TIMEOUT_EXP, PX_OUT_ROUTE, PX_BACK_ROUTE]

/-- The operations that use host memory end ABORTED, a transfer after so many lines as a free value gives (R355), a load from host
memory by an abort that is latched at the next tick (R196). Every completion of this device's rings is to be discarded (R353),
also that of a descriptor that runs on another device. -/
def dropHostOps (s : State) : State :=
  let loads := decide (cfgState s ≠ 0 ∧ s.cfg.src = 0)
  let mine := s.ops.filter fun o => o.own && o.isOpen && usesHost o && !isProxied s o.ring o.idx &&
    !(loads && s.cfg.op == some (o.ring, o.idx))
  let s := s.whenDo loads fun s => upC (fun c => { c with abort := some (c.abort.getD s.now) }) s
  let s := mine.foldl (fun t o => let (v, t) := t.draw; stopOp o (v % (2 ^ 22 + 1)) t) s
  s.updOps fun l => l.map fun o => if o.own then { o with lost := true } else o

/-- A reset of the LINK domain (R332, R353): every ring is disabled, every ring register and MSI-X entry cleared, the
configuration space reset, and the operations that still use host memory end ABORTED. -/
def linkReset (s : State) : State :=
  let s := dropHostOps s
  let runs := s.host.runs
  let aborts := s.host.aborts
  let late := s.host.lateAborts
  let serving := s.host.serving
  let fetched := s.host.fetched
  let proxied := s.host.proxied
  let due := s.host.readyDue || s.flag HI_STATUS_READY
  let s := s.clrAll linkFields
  s.updHost fun _ =>
    { runs := runs, aborts := aborts, lateAborts := late, serving := serving, fetched := fetched, proxied := proxied,
      readyDue := due }

/-- GATEWAY follows the host link (R326, R481): group 16 holds PCIE and the link is up. -/
def refreshGateway (s : State) : State :=
  s.setb MS_STATUS_GATEWAY (groupRole s 16 == 3 && s.flag HI_STATUS_LINK_UP)

end Sys2Proof.Machine
end

