-- ==== Sys2Proof/Machine/PowerOps.lean ====
section
/-! DEFINITION. The power controller (chapter 19): its queue, the refusers (R422), the steps of a request (R418, R420),
its abort (R423) and its completion. -/

namespace Sys2Proof.Machine

open F

/-- Changes the power controller. -/
def updPower (f : PwSt → PwSt) (s : State) : State := s.updPw f

/-- QUEUED and BUSY follow the controller (R426). -/
def notePower (s : State) : State :=
  let n := s.pw.queue.length
  (s.setb PW_STATUS_BUSY s.pw.active.isSome).wr PW_STATUS_QUEUED (if s.pw.active.isSome then n else n - 1)

/-- The regions, channels and groups of a mask. -/
def chansOf (m : Nat) : List Nat := (List.range 8).filter fun c => m.testBit c
def groupsOf (m : Nat) : List Nat := (List.range 18).filter fun g => m.testBit g

/-- Is the request an entry (R421)? -/
def PwReq.isEntry (q : PwReq) : Bool := q.target == 2 || q.target == 3 || q.target == 4 || q.target == 6 || q.target == 8

/-- The power state of region k. -/
def pstate (s : State) (k : Nat) : Nat := s.rd RG_STATUS_PSTATE k

/-- The regions that run: in Run or Boost. -/
def runningRegions (s : State) : List Nat := (List.range 64).filter fun k => decide (pstate s k ≤ 1)

/-- The READY channels, and those in self-refresh. -/
def readyChans (s : State) : List Nat := (List.range 8).filter fun c => s.rd DC_STATUS_STATE c == 2
def restingChans (s : State) : List Nat := (List.range 8).filter fun c => s.rd DC_STATUS_STATE c == 3

/-- The lane groups that Standby banks (R301, R419): every one outside PCIE that has a role. -/
def bankableGroups (s : State) : List Nat :=
  (List.range 18).filter fun g => groupRole s g != 0 && groupRole s g != 3

/-- Is a group Banked: is its PLL off (R300)? -/
def isBanked (s : State) (g : Nat) : Bool := s.rd LG_STATUS_PLL_STATE g == 0

/-- Are all lanes of a group active? -/
def isActive (s : State) (g : Nat) : Bool := (List.range 8).all fun i => decide (2 ≤ laneState s g i)

/-- The channels that a request would stop. -/
def stopsChans (s : State) (q : PwReq) : List Nat :=
  if q.target = 4 then readyChans s else if q.target = 6 then chansOf q.chans else []

/-- A refusing condition of R259 holds for channel c. -/
def chanBusy (s : State) (c : Nat) : Bool :=
  let st := s.rd DC_STATUS_STATE c
  st == 1 || (st == 2 && (scheduled s (fun e =>
      (isDataWindow e && bits e.param 2 0 == c) || (e.type == 0x40 && e.unit == c)) ||
    (ddr_ s c).repair.isSome || s.rd DC_STATUS_PARKED c != 0 || (ddr_ s c).wb.any (·.2)))

/-- Does a key ID that is RETIRING hold a range on one of these channels (R282)? -/
def retiringOn (s : State) (cs : List Nat) : Bool :=
  (List.range 16).any fun j =>
    s.rd RANGE_STATUS_STATE 0 j != 0 && s.enc.retiring.contains (s.rd RANGE_STATUS_KEY_ID 0 j) &&
      cs.any fun c => decide (chanOf (s.rd RANGE_BASE_SECTOR 0 j * 4096) ≤ c) &&
        decide (c ≤ chanOf (s.rd RANGE_LIMIT_SECTOR 0 j * 4096))

/-- Does a worker bound to a port of region k hold a job (R422)? -/
def regionHolds (s : State) (k : Nat) : Bool :=
  s.disp.jobs.any fun j => match j.place with
    | .held w => regionOf (workerPort s w) == some k
    | _ => false

/-- The refusers of an entry that apply now, by code (R422): 1 DISPATCH_BUSY, 3 DDR_BUSY, 4 DEBUG_ATTACHED, 5
SWAP_ACTIVE, 6 REEL_RUNNING, 7 KEY_RETIRING. The regions and channels are those the entry concerns. -/
def refusers (s : State) (q : PwReq) (regions chans : List Nat) : List Nat :=
  let standby := q.target == 4
  let onRegions := q.target == 2 || q.target == 3 || standby
  let onChans := q.target == 6 || standby
  [((standby && dispatchBusy s) || (q.target == 2 && regions.any (regionHolds s)), 1),
    (onChans && chans.any (chanBusy s), 3),
    (onRegions && (s.rd DB_STATUS_RC_STATE == 2 || regions.any fun k => s.mbit DA_ATTACHED_REGIONS k), 4),
    ((onRegions && regions.any fun k => s.flag RG_STATUS_SWAP k) || cfgState s != 0, 5),
    ((List.range 16).any fun n => reelState s n != 0, 6),
    (onChans && retiringOn s chans, 7)].filterMap fun e => if e.1 then some e.2 else none

/-- A refusal or an abort is recorded (R422, R423, R426). -/
def recordPower (code target : Nat) (abort : Bool) (s : State) : State :=
  let s := s.incSat (if abort then PW_COUNT_ABORTS else PW_COUNT_REFUSALS) 0 code
  let s := ((s.wr PW_LAST_REFUSER code).setb PW_LAST_KIND abort).wr PW_LAST_TARGET target
  s.wr PW_LAST_TICK_TICK s.now

/-- The request in progress ends, and the next becomes the head. -/
def endRequest (code result : Nat) (s : State) : State :=
  match s.pw.active with
  | none => s
  | some q =>
    let s := updPower (fun p => { queue := p.queue, headAt := s.now, standby := p.standby }) s
    notePower (decideOp q.ring q.idx code 0 result s)

/-- The state of PW_STATUS: 0 Run, 1 entering Standby, 2 Standby, 3 leaving Standby. -/
def deviceState (s : State) : Nat := s.rd PW_STATUS_DEVICE_STATE

/-- The clocks of a region have stopped, and its bias and memory assist move (R418). -/
def stopRegion (k st : Nat) (s : State) : State :=
  refreshEdges k (updRegion k (fun u => { u with stopped := true, ramp := none })
    ((s.wr RG_BIAS_TARGET (biasTarget s k st) k).wr RG_CLK_STATUS_RUNNING 0 k))

/-- Has a ramp of region k ended: has every line whose source gives edges had 16 steps of 256 cycles (R418)? -/
def rampOver (s : State) (k : Nat) (r : RegionRamp) : Bool :=
  (s.region_ k).design.lines.all fun e => decide (4096 ≤ sget 0 r.edges e.1.val) || !sourceMoves s k e.2.1

/-- The lines of region k begin to ramp down, for the state st (R418); without a line that runs, its clocks stop at once. -/
def rampDown (k st : Nat) (s : State) : State :=
  if rampOver s k ⟨false, []⟩ then stopRegion k st s
  else refreshEdges k (updRegion k (fun u => { u with ramp := some ⟨false, []⟩ }) s)

/-- The lines of region k begin to ramp up (R418). -/
def rampUp (k : Nat) (s : State) : State :=
  refreshEdges k (updRegion k (fun u => { u with stopped := false, ramp := some ⟨true, []⟩ }) s)

/-- A region begins to change: PSTATE reads 100b (R418). -/
def beginChange (k : Nat) (s : State) : State := setPstate k 4 s

/-- A Dark region keeps nothing (R415, R416). -/
def darkRegion (k : Nat) (s : State) : State :=
  let s := regionReset k (clearFrames [k] s)
  let s := s.updSlices fun m => m.filter fun e => e.1 / 96 != k
  setPstate k 3 (updRegion k (fun u =>
    { u with
      stopped := true, ramp := none, design := {}, luts := [], brams := [], deeps := [], heldGroups := [], resetting := none }) (setConfigured k false s))

/-- Are both ports of region k closed? -/
def portsClosed (s : State) (k : Nat) : Bool :=
  portState s (portRegion k 0) == 2 && portState s (portRegion k 1) == 2

/-- The ports of region k open at the next tick; those of a region without a design stay closed, and those of one under
swap until its open step (R205, R237). -/
def reopen (k : Nat) (s : State) : State :=
  if !s.flag RG_STATUS_CONFIGURED k || s.flag RG_STATUS_SWAP k then s
  else updNet (fun n => { n with opens := n.opens ++ [portRegion k 0, portRegion k 1] }) s

/-- The state to which a region of the request in progress goes: its target, or, on an abort or a return from
Standby, the state it was in. -/
def goalOf (s : State) (k : Nat) : Nat :=
  let former := if s.pw.boost.testBit k then 1 else 0
  match s.pw.active with
  | none => former
  | some q =>
    if s.pw.aborted.isSome then former
    else match q.target with
      | 4 => 2
      | 5 => if s.mbit PW_RESTORE_REGIONS k then 1 else 0
      | t => t

/-- The regions of the request that have not reached their goal, the batch of 8 at work first (R420). -/
def batchOf (s : State) : List Nat :=
  let left := (regionsOf s.pw.mine).filter fun k => !s.pw.done.testBit k
  let n := match s.pw.active with
    | some q => if q.target = 4 ∨ q.target = 5 then 8 else 64
    | none => 0
  left.take n

/-- The regions of a batch begin their change (R418): an entry ramps their clocks down, an exit moves bias and assist
first. -/
def startBatch (s : State) : State :=
  (batchOf s).foldl (fun t k =>
    let goal := goalOf t k
    if goal = 2 ∨ goal = 3 then
      if (t.region_ k).ramp.isSome then t
      else if (t.region_ k).stopped then stopRegion k goal (beginChange k t)
      else rampDown k goal (beginChange k t)
    else (beginChange k t).wr RG_BIAS_TARGET (biasTarget t k goal) k) s

/-- Channels begin to enter self-refresh for a power state (R259): their ports go CLOSING, at core cycle 0 of a tick
(R237). -/
def restChans (cs : List Nat) (s : State) : State :=
  cs.foldl (fun t c =>
    let t := if t.offset = 0 then closePort (portDdr c) t
      else updNet (fun n => { n with closes := n.closes ++ [portDdr c] }) t
    updDdr_ c (fun u => { u with parked := u.parked ||| 4 }) t) s

/-- Channels may leave self-refresh (R260); one that has not entered it keeps running, and its port reopens. -/
def wakeChans (cs : List Nat) (s : State) : State :=
  cs.foldl (fun t c =>
    let t := updNet (fun n => { n with closes := n.closes.filter (· != portDdr c) })
      (updDdr_ c (fun u => { u with parked := u.parked - (u.parked &&& 4) }) t)
    if t.rd DC_STATUS_STATE c = 2 then updNet (fun n => { n with opens := n.opens ++ [portDdr c] }) t else t) s

/-- Lane groups are banked (R301, R318): a MESH group takes its links DOWN. -/
def bankGroups (gs : List Nat) (s : State) : State :=
  gs.foldl (fun t g =>
    bankGroup g ((groupLinks g (t.rd LG_ROLE_WORD0 g)).foldl (fun u e => linkDown e.2 u) t)) s

/-- Groups that are banked are activated. -/
def wakeGroups (gs : List Nat) (s : State) : State := gs.foldl (fun t g => if isBanked t g then activateGroup g t else t) s

/-- The cores enter WAITING, or leave it (R378, R420). Core states: 0 RUNNING, 1 WAITING. One that restarts waits too. -/
def restCores (s : State) : State :=
  (List.range 4).foldl (fun t c => if coreState t c = 0 ∨ coreState t c = 2 then setCore c 1 t else t) s
def wakeCores (s : State) : State :=
  (List.range 4).foldl (fun t c => if coreState t c = 1 then setCore c 0 t else t) s

/-- Sets the step of the request in progress. -/
def setStep (x : PwStep) (s : State) : State := updPower (fun p => { p with step := x }) s

/-- Has the drain of every port of the entry ended (R418, R423)? -/
def drained (s : State) : Bool := (regionsOf s.pw.mine).all (portsClosed s) && !s.flag PW_INJECT_INJ_DRAIN

/-- The step that the request in progress has finished gives way to the next (R418, R420); at most k steps. -/
def powerAdvance : Nat → State → State
  | 0, s => s
  | k + 1, s =>
    match s.pw.active with
    | none => s
    | some q =>
      let back := s.pw.aborted.isSome || q.target == 5
      match s.pw.step with
      | .drain =>
        if !drained s then s
        else if q.target = 4 then powerAdvance k (setStep .chans (restChans (chansOf s.pw.myChans) s))
        else powerAdvance k (startBatch (setStep .regions s))
      | .chans =>
        if (chansOf s.pw.myChans).any fun c => s.rd DC_STATUS_STATE c == 2 then s
        else if q.target = 4 then powerAdvance k (startBatch (setStep .regions s))
        else endRequest Code.OK 0 s
      | .regions =>
        if s.pw.done ≠ s.pw.mine then s
        else if back then
          powerAdvance k (setStep .back
            (wakeCores (wakeGroups (groupsOf s.pw.myGroups) (wakeChans (chansOf s.pw.myChans) s))))
        else if q.target = 4 then
          let s := restCores (bankGroups (groupsOf s.pw.myGroups) s)
          let s := updPower (fun p => { p with standby := (p.mine, p.myChans, p.myGroups) }) s
          endRequest Code.OK 0 (s.wr PW_STATUS_DEVICE_STATE 2)
        else if q.target = 2 ∨ q.target = 3 then endRequest Code.OK 0 s
        else powerAdvance k (setStep .opening s)
      | .back =>
        if (chansOf s.pw.myChans).any (fun c => s.rd DC_STATUS_STATE c == 3) ||
            (groupsOf s.pw.myGroups).any fun g => !isActive s g then s
        else powerAdvance k (setStep .opening s)
      | .opening =>
        if (regionsOf s.pw.mine).any (fun k => s.flag RG_STATUS_CONFIGURED k && !s.flag RG_STATUS_SWAP k &&
              (portState s (portRegion k 0) != 0 || portState s (portRegion k 1) != 0)) ||
            (chansOf s.pw.myChans).any fun c => s.rd DC_STATUS_STATE c == 2 && portState s (portDdr c) != 0 then s
        else
          let s := if q.target = 4 ∨ q.target = 5 then s.wr PW_STATUS_DEVICE_STATE 0 else s
          match s.pw.aborted with
          | some c => endRequest Code.ABORTED c s
          | none => endRequest Code.OK 0 s

/-- Enough steps for any request. -/
def powerGo (s : State) : State := powerAdvance 16 s

/-- The entry in progress is aborted under a refuser (R423): its domains return to their former states. -/
def powerAbort (code : Nat) (injected : Bool) (s : State) : State :=
  match s.pw.active with
  | none => s
  | some q =>
    if s.pw.aborted.isSome || !q.isEntry then s
    else
      let s := raiseInj E.POWER_ABORTED 0 code injected (recordPower code q.target true s)
      let s := updPower (fun p => { p with aborted := some code }) s
      let moved := (regionsOf s.pw.mine).filter fun k => (s.region_ k).stopped
      let ramps := (regionsOf s.pw.mine).filter fun k => (s.region_ k).ramp.isSome
      let still := (regionsOf s.pw.mine).filter fun k => !(s.region_ k).stopped && (s.region_ k).ramp.isNone
      let s := still.foldl (fun t k => reopen k (setPstate k (goalOf t k) t)) s
      let s := updPower (fun p => { p with done := maskOf still }) s
      let s := moved.foldl (fun t k => (beginChange k t).wr RG_BIAS_TARGET (biasTarget t k (goalOf t k)) k) s
      powerGo (setStep .regions (ramps.foldl (fun t k => rampUp k t) s))

/-- A refuser that arises while an entry is in progress aborts it (R423). -/
def powerWatch (s : State) : State :=
  match s.pw.active with
  | none => s
  | some q =>
    if !q.isEntry || s.pw.aborted.isSome then s
    else match (refusers s q (regionsOf s.pw.mine) (chansOf s.pw.myChans)).head? with
      | some c => powerAbort c false s
      | none => s

/-- A region of the request in progress has reached its goal (R418); when its batch has, the next begins (R420). -/
def endChange (k : Nat) (opens : Bool) (s : State) : State :=
  let goal := goalOf s k
  let s := updPower (fun p => { p with done := p.done ||| 2 ^ k }) s
  let s := if goal = 3 then darkRegion k s else setPstate k goal (updRegion k (fun u => { u with ramp := none }) s)
  let s := if opens then reopen k (refreshLines k s) else s
  powerGo (if (batchOf s).all fun k => pstate s k == 4 then s else startBatch s)

/-- The bias and memory assist of region k have reached their new levels (R418): an entry and a change between Run and
Boost are at their end, and an exit ramps the clocks up. While the clocks ramp, neither moves. -/
def biasSettled (k : Nat) (s : State) : State :=
  let u := s.region_ k
  if s.pw.step ≠ .regions ∨ !(batchOf s).contains k ∨ pstate s k ≠ 4 ∨ u.ramp.isSome then s
  else if !u.stopped ∨ 2 ≤ goalOf s k then endChange k false s
  else
    let s := rampUp k s
    if rampOver s k ⟨true, []⟩ then endChange k true s else s

/-- The ramps of the request in progress that have ended (R418): clocks that have ramped down stop, and a region whose clocks
have ramped up has reached its state. -/
def rampsGo (s : State) : State :=
  if s.pw.active.isNone then s
  else (regionsOf s.pw.mine).foldl (fun t k =>
    match (t.region_ k).ramp with
    | none => t
    | some r =>
      if !rampOver t k r then t
      else if r.up then endChange k true t
      else stopRegion k (goalOf t k) t) s

/-- What the tick does to the power controller. -/
def powerTick (s : State) : State := powerGo (powerWatch s)

end Sys2Proof.Machine
end

