-- ==== Sys2Proof/Machine/SlicePort.lean ====
section
/-! DEFINITION. A slice's place among its region's clock lines, and the signals of its fabric port (R154, R170). Slice t of
region k has the index k × 96 + t. -/

namespace Sys2Proof.Machine

open F

/-- Slice i of the device. -/
def State.slice_ (s : State) (i : Nat) : SliceU := sget {} s.slices i

/-- Changes slice i. -/
def State.updSlice (s : State) (i : Nat) (f : SliceU → SliceU) : State :=
  s.updSlices fun m => sput {} m i (f (s.slice_ i))

/-- The SL_CLK and SL_PCLK lines of slice i, as its region's configuration selects them (R154). -/
def sliceLines (s : State) (i : Nat) : Option (Nat × Nat) :=
  ((s.region_ (i / 96)).design.slices.find? fun e => e.1.val == i % 96).map fun e => (e.2.1.val, e.2.2.val)

/-! The signals of the fabric port (R170). States: 0 IDLE, 1 RUNNING, 2 STOPPED, 3 DONE, 4 FAULT, 5 DEBUG_HALT. -/

def slBusy (s : State) (i : Nat) : Bool :=
  s.rd SL_STATUS_STATE i == 1 || s.rd SL_STATUS_STATE i == 2 || s.rd SL_STATUS_STATE i == 5
def slDone (s : State) (i : Nat) : Bool := (s.slice_ i).donePulse
def slFault (s : State) (i : Nat) : Bool := s.rd SL_STATUS_STATE i == 4
def slInReady (s : State) (i : Nat) : Bool := decide ((s.slice_ i).inFifo.length < 16)
def slOutValid (s : State) (i : Nat) : Bool := !(s.slice_ i).outFifo.isEmpty

/-- They, as the fabric sees them: SL_BUSY, SL_DONE, SL_FAULT, SL_IN_READY and SL_OUT_VALID in bits 0 to 4, SL_STATE in
bits 7:5, SL_OVF in bits 10:8. -/
def slStatus (s : State) (i : Nat) : Nat :=
  maskOf ((List.range 5).filter fun b => [slBusy s i, slDone s i, slFault s i, slInReady s i, slOutValid s i].getD b false)
    + s.rd SL_STATUS_STATE i * 32 + s.rd SL_STATUS_OVF0 i * 256 + s.rd SL_STATUS_OVF1 i * 512 + s.rd SL_STATUS_STORE_SAT i * 1024

end Sys2Proof.Machine
end

