-- ==== Sys2Proof/Machine/Fabric.lean ====
section
/-! DEFINITION. The fabric of the regions in a core cycle (chapter 06): clock edges, logic, flip-flops, memories and
boundary registers. What an edge captures is what stood at the start of the cycle (log entry 79). -/

namespace Sys2Proof.Machine

open F

/-- The number of a list of signals, low bit first. -/
def sigsNat (ev : Sig → Bool) : List Sig → Nat
  | [] => 0
  | x :: t => (if ev x then 1 else 0) + 2 * sigsNat ev t

/-- The signal at place i of a list; one that is not there is 0. -/
def sigAt (l : List Sig) (i : Nat) : Sig := l.getD i (.const false)

/-- A number with bit i at b. -/
def putBit (v i : Nat) (b : Bool) : Nat := if b then v ||| 2 ^ i else v - if v.testBit i then 2 ^ i else 0

/-- The cluster at a site, if the design uses it. -/
def FabricDesign.cluster (d : FabricDesign) (site : Nat) : Option ClusterCfg :=
  d.clusters.find? fun c => c.site.val == site

/-- What the soft-core debug port of region k presents (R459): DA_REQ, DA_TARGET, DA_OP, DA_ADDR and DA_WDATA, from bit 0. -/
def daPort (s : State) (k : Nat) : Nat :=
  match s.dbg.da with
  | some r =>
    if r.region = k then
      1 + bits (r.target - 96) 2 0 * 2 + bits r.op 2 0 * 2 ^ 4 + bits r.addr 7 0 * 2 ^ 7 + bits r.data 63 0 * 2 ^ 15
    else 0
  | none => 0

/-- What hard logic presents to the fabric of region k. Port 0: SPL_READY and SPL_ACTIVE; 1 to 4: SPL_DEMAND, SPL_VCYCLE,
SPL_FLUSH, SPL_LEVEL (R83); 5 to 7: the fail port's snapshot (R112); 8: the last late alarm, channel above tag (R275); 9: the
soft-core debug port (R459).
From 16: the status signals of slice t, in the order of slStatus; from 128: its SL_OUT_DATA; from 256: its SL_MEM_RDATA,
with SL_MEM_ERR in bit 128 and SL_MEM_ACK in bit 129 (R170). -/
def hardWord (s : State) (k port : Nat) : Nat :=
  let slice := fun t => k * 96 + t
  match port with
  | 0 => (if splReady s k then 1 else 0) + if splActive s k then 2 else 0
  | 1 => splDemand s k
  | 2 => (splVcycle s k).getD 0
  | 3 => splFlush s k
  | 4 => splLevel s k
  | 5 => (catch_ s k).snapFail
  | 6 => (catch_ s k).snapBits
  | 7 => (catch_ s k).snapFirst
  | 8 => ((s.region_ k).alarm.map fun a => a.1 * 65536 + a.2).getD 0
  | 9 => daPort s k
  | p =>
    if p < 16 then 0
    else if p < 112 then slStatus s (slice (p - 16))
    else if 128 ≤ p ∧ p < 224 then (s.slice_ (slice (p - 128))).outFifo.headD 0
    else if 256 ≤ p ∧ p < 352 then
      match (s.slice_ (slice (p - 256))).ack with
      | some (v, err) => v % 2 ^ 128 + (if err then 2 ^ 128 else 0) + 2 ^ 129
      | none => 0
    else 0

/-! Logic (R132 to R135). -/

/-- Is a cluster site one of the 2,625 memory clusters of a region (R135)? The spec does not place them: they are the sites
that the open Config.memoryCluster names, as far as it names 2,625 of the 10,500; where it names fewer, the first of the
others are added. -/
def memorySite (site : Nat) : Bool :=
  let count (b : Bool) (n : Nat) : Nat := (List.range n).countP fun x => Config.memoryCluster x == b
  if Config.memoryCluster site then decide (count true site < 2625)
  else decide (count false site + count true 10500 < 2625)

/-- What a LUT of the site is used as: outside a memory cluster, logic (R135). -/
def lutUse (site : Nat) (c : LutCfg) : LutUse := if memorySite site then c.use else .logic

/-- The contents of a LUT memory. -/
def lutMem (u : RegionU) (site l : Nat) (c : LutCfg) : Nat := (c.table % 2 ^ 64) ^^^ sget 0 u.luts (8 * site + l)

/-- The outputs of a LUT (R132, R135). -/
def lutOut (ev : Sig → Bool) (u : RegionU) (site l : Nat) (c : LutCfg) (second : Bool) : Bool :=
  let a := sigsNat ev (c.ins.take 6)
  let half := if second then 32 else 0
  match lutUse site c with
  | .logic => if c.split then c.table.testBit (half + a % 32) else !second && c.table.testBit (a % 64)
  | .ram64 => !second && (lutMem u site l c).testBit (a % 64)
  | .ram32 => (lutMem u site l c).testBit (half + a % 32)
  | .shift => (lutMem u site l c).testBit (min 32 c.len - 1)

/-- The result of a cluster's carry chain and its carry out, with the carries of at most n clusters below it in its
column (R134). A comparison gives, as its carry, whether a is at least b. -/
def carryOf (ev : Sig → Bool) (d : FabricDesign) : Nat → Nat → Nat × Bool
  | n, site =>
    match (d.cluster site).bind (·.carry) with
    | none => (0, false)
    | some y =>
      let cin := match n with
        | 0 => ev y.cin
        | n + 1 => if y.chained && site % 100 != 0 then (carryOf ev d n (site - 1)).2 else ev y.cin
      let a := sigsNat ev (y.a.take 8)
      let b := sigsNat ev (y.b.take 8)
      let t := a + (if y.op == .add then b else 255 - b) + if cin then 1 else 0
      (t % 256, decide (256 ≤ t))

/-! Memories (R137 to R139): a memory is 9-bit lanes. -/

/-- The words of width w that a number of lanes holds. -/
def memDepth (lanes w : Nat) : Nat := if w < 9 then lanes * 8 / w else lanes / (w / 9)

/-- The places of the word at address a, from lane base on: lane, mask and shift. A word below 9 bits stands in the low 8
bits of its lane. -/
def memPlaces (base lanes w a : Nat) : List (Nat × Nat × Nat) :=
  let a := a % memDepth lanes w
  if w < 9 then [(base + a * w / 8, (2 ^ w - 1) * 2 ^ (a * w % 8), a * w % 8)]
  else (List.range (w / 9)).map fun j => (base + a * (w / 9) + j, 511, 0)

/-- The word at places, as a function gives the lanes. -/
def gather (lane : Nat → Nat) : List (Nat × Nat × Nat) → Nat
  | [] => 0
  | (l, m, h) :: t => (lane l &&& m) / 2 ^ h + 512 * gather lane t

/-- The lanes that a write of a word changes: lane, mask and bits; enables holds one bit for each lane of the word. -/
def scatter (enables : Nat) : Nat → List (Nat × Nat × Nat) → List (Nat × Nat × Nat)
  | _, [] => []
  | w, (l, m, h) :: t =>
    let rest := scatter (enables / 2) (w / 512) t
    if enables % 2 = 1 then (l, m, (w % 512 * 2 ^ h) &&& m) :: rest else rest

/-- A lane after writes, in order. -/
def laneAfter (ws : List (Nat × Nat × Nat)) (l v : Nat) : Nat :=
  ws.foldl (fun v w => if w.1 = l then (v - (v &&& w.2.1)) ||| w.2.2 else v) v

/-- Lane n of the contents that configuration gives. -/
def initLane (init n : Nat) : Nat := init / 2 ^ (9 * n) % 512

/-- Lanes, as they differ from the configured contents, after writes. -/
def putLanes (init : Nat) (ws : List (Nat × Nat × Nat)) (lanes : List (Nat × Nat)) : List (Nat × Nat) :=
  ws.foldl (fun m w =>
    let v := initLane init w.1 ^^^ sget 0 m w.1
    sput 0 m w.1 (laneAfter [w] w.1 v ^^^ initLane init w.1)) lanes

/-- A word with its SECDED code, and what it reads as (R137, R139). -/
def sealWord (on : Bool) (w : Nat) : Nat := if on then w % 2 ^ 64 + secdedCode 64 7 (w % 2 ^ 64) * 2 ^ 64 else w
def openWord (on : Bool) (w : Nat) : Nat × Nat := if on then secdedRead 64 7 (w % 2 ^ 64) (w / 2 ^ 64) else (w, 0)

/-- What port p of block memory m has read, behind its output register where it has one: word, SECDED verdict, and whether
another block of the cascade answers. -/
def bramOwn (d : FabricDesign) (u : RegionU) (p m : Nat) : Nat × Nat × Bool :=
  let c := ((d.brams.find? fun e => e.1.val == m).bind fun e => e.2.ports.find? fun q => q.1.val == p).map (·.2)
  let v := sget {} (sget {} u.brams m).ports p
  if (c.map (·.outReg)).getD false then (v.regWord, v.regErr, v.regAway) else (v.word, v.err, v.away)

/-- What it presents: in a cascade, what the block below presents where that one answers (R137). -/
def bramRead (d : FabricDesign) (u : RegionU) (p : Nat) : Nat → Nat × Nat
  | 0 => ((bramOwn d u p 0).1, (bramOwn d u p 0).2.1)
  | m + 1 =>
    if (bramOwn d u p (m + 1)).2.2 && (m + 1) % 20 != 0 then bramRead d u p m
    else ((bramOwn d u p (m + 1)).1, (bramOwn d u p (m + 1)).2.1)

/-- What deep memory m has read, and what it presents (R139). -/
def deepOwn (u : RegionU) (m : Nat) : Nat × Nat × Bool := (sget {} u.deeps m).pipe.headD (0, 0, false)
def deepRead (u : RegionU) : Nat → Nat × Nat
  | 0 => ((deepOwn u 0).1, (deepOwn u 0).2.1)
  | m + 1 =>
    if (deepOwn u (m + 1)).2.2 && (m + 1) % 12 != 0 then deepRead u m
    else ((deepOwn u (m + 1)).1, (deepOwn u (m + 1)).2.1)

/-- The width of a port, and the lanes of its memory (R137). -/
def BramCfg.widthOf (c : BramCfg) (p : Nat) : Nat :=
  if c.mode == .simpleDual then 72 else ((c.ports.find? fun q => q.1.val == p).map (·.2.width)).getD 36
def BramCfg.lanesOf (c : BramCfg) : Nat := if c.mode == .split then 2048 else 4096

/-- The words a FIFO holds, and whether it is full (R137). -/
def BramU.level (u : BramU) : Nat := u.taken - u.given
def BramCfg.full (c : BramCfg) (u : BramU) : Bool := decide (memDepth 4096 (c.widthOf 0) ≤ u.level)

/-- A flag of a block memory. -/
def bramFlag (d : FabricDesign) (u : RegionU) (m p : Nat) (f : MemFlag) : Bool :=
  match d.brams.find? fun e => e.1.val == m with
  | none => false
  | some (_, c) =>
    let v := sget {} u.brams m
    match f with
    | .full => c.full v
    | .empty => v.level == 0
    | .threshold => decide (c.threshold ≤ v.level)
    | .overflow => v.overflow
    | .single => (bramRead d u p m).2 == 1
    | .double => (bramRead d u p m).2 == 2

/-- The value of a signal of region k. The fuel bounds the depth of its logic; a combinational loop runs out of it. -/
def sigVal (s : State) (k : Nat) : Nat → Sig → Bool
  | 0, _ => Config.floating s.tick.fabric
  | fuel + 1, x =>
    let u := s.region_ k
    let d := u.design
    let ev := sigVal s k fuel
    match x with
    | .const b => b
    | .lut site l second =>
      match (d.cluster site).bind fun c => c.luts.find? fun e => e.1 == l with
      | none => false
      | some (_, c) => lutOut ev u site l c second
    | .ff site f =>
      match (d.cluster site).bind fun c => c.ffs.find? fun e => e.1 == f with
      | none => false
      | some (_, c) => c.init != (sget 0 u.flops (16 * site.val + f.val) != 0)
    | .sum site b => (carryOf ev d 99 site).1.testBit b
    | .carry site => (carryOf ev d 99 site).2
    | .bram m p b => (bramRead d u p m).1.testBit b
    | .bramFlag m p f => bramFlag d u m p f
    | .deep m b => (deepRead u m).1.testBit b
    | .deepFlag m f => (deepRead u m).2 == if f == .double then 2 else 1
    | .edge e g b => (sget {} u.edges (48 * e.val + g.val)).value.testBit b
    | .ack e g => (sget 0 u.acks (48 * e.val + g.val)).testBit 1
    | .stale e l => sget 0 u.stales (24 * e.val + l.val) != 0
    | .hard p b => (hardWord s k p).testBit b

/-- The value of a signal: deeper logic than every LUT and carry of a region cannot be free of loops. -/
def State.sig (s : State) (k : Nat) (x : Sig) : Bool := sigVal s k 200000 x

/-! Clock edges (R141, R405). -/

/-- The rising edges that source n of clock lines has given before a core cycle. -/
def edgesBefore (n : Nat) : Nat → Nat
  | 0 => 0
  | t + 1 => edgesBefore n t + if (Config.edgeAt n t).isSome then 1 else 0

/-- Step k of a ramp lets k of every 16 edges through, spread evenly (R405): does edge e pass? -/
def keeps (k e : Nat) : Bool := decide (e * k / 16 < (e + 1) * k / 16)

/-- Does the edge keeper of FPLLp let the coming edge of its output j through (R405, R409)? All of them but in a ramp, and
one in 16 from the relock of a smouldering PLL until its up-ramp. -/
def keeperOpen (s : State) (p j : Nat) : Bool :=
  let u : PllU := sget {} s.clk.plls (p + 1)
  match u.phase with
  | .up | .down | .judge => keeps u.step (edgesBefore (4 * p + j) s.tick.fabric)
  | _ => true

/-- The rising edge of a source in this core cycle, for region k, behind its edge keeper: its picosecond. -/
def sourceEdge (s : State) (k : Nat) (src : ClockSrc) : Option Nat :=
  if !sourceMoves s k src then none
  else match src with
    | .fpll p j => (Config.edgeAt (4 * p.val + j.val) s.tick.fabric).filter fun _ => keeperOpen s p j
    | .core d => if s.tick.fabric % (d.val + 2) = 0 then some 0 else none
    | .input i => (bankOf k).bind fun b => Config.edgeAt (48 + 4 * b + i.val) s.tick.fabric

/-- Does the ramp of a region, when one is in progress, let the coming edge of line l through (R405, R418)? Its steps last
256 cycles of the line. -/
def rampOpen (s : State) (k l : Nat) : Bool :=
  match (s.region_ k).ramp with
  | none => true
  | some r =>
    let n := sget 0 r.edges l
    keeps (if r.up then min 16 (n / 256 + 1) else 16 - n / 256) n

/-- The rising edge of line l of region k in this core cycle, behind its enable and its region's ramp. -/
def lineEdge (s : State) (k l : Nat) : Option Nat :=
  match (s.region_ k).design.lines.find? fun e => e.1.val == l with
  | none => none
  | some (_, src, en) => if s.sig k en && rampOpen s k l then sourceEdge s k src else none

/-- Does line l of region k run: its source gives edges and its enable is high (R141)? -/
def lineMoves (s : State) (k l : Nat) : Bool :=
  match (s.region_ k).design.lines.find? fun e => e.1.val == l with
  | none => false
  | some (_, src, en) => sourceMoves s k src && s.sig k en

/-- Does a clock line chosen by the design of region k run, in a region whose clocks run and that no reset holds? -/
def clocked (s : State) (k : Nat) (line : Option Nat) : Bool :=
  regionRuns s k && !(s.region_ k).resetting.isSome && (line.map (lineMoves s k)).getD false

/-- Does the SL_CLK line of a slice run, or its SL_PCLK line (R154)? A slice in a Damped or held region, under a REGION
reset, or without its line is frozen. -/
def sliceRuns (s : State) (i : Nat) : Bool := clocked s (i / 96) ((sliceLines s i).map (·.1))
def slicePort (s : State) (i : Nat) : Bool := clocked s (i / 96) ((sliceLines s i).map (·.2))

/-- Does the fabric side of port p of region k run, on the regional clock that the design chooses (R142)? -/
def regionPort (s : State) (k p : Nat) : Bool :=
  clocked s k (((s.region_ k).design.ports.find? fun e => e.1.val == p).map (·.2.val))

/-- The source of a line. -/
def lineSource (s : State) (k l : Nat) : Option ClockSrc :=
  ((s.region_ k).design.lines.find? fun e => e.1.val == l).map (·.2.1)

/-! What an edge captures. -/

/-- A flip-flop of a cluster after the cycle (R132, R133): 16 × site + number, and whether it differs from its initial
value. A set/reset acts whatever the enable. -/
def ffNext (s : State) (k : Nat) (c : ClusterCfg) (f : Fin 16) (y : FfCfg) : Nat × Nat :=
  let g := c.groups.getD (f.val / 4) {}
  let clk := (lineEdge s k (if g.clk = 0 then c.clks.1 else c.clks.2)).isSome
  let sr := s.sig k (sigAt c.srs g.sr)
  let key := 16 * c.site.val + f.val
  let v := if sr && (g.async || clk) then y.sr
    else if clk && s.sig k (c.ces.getD g.ce (.const true)) then s.sig k y.d
    else s.sig k (.ff c.site f)
  (key, if v = y.init then 0 else 1)

/-- A LUT memory of a cluster after the cycle (R135). In a 32 × 2 RAM across four LUTs the last of the four gives the
write port: its inputs the address, its data, clock and enable those of all four. -/
def lutNext (s : State) (k : Nat) (c : ClusterCfg) (l : Fin 8) (y : LutCfg) : Nat × Nat :=
  let u := s.region_ k
  let key := 8 * c.site.val + l.val
  let mem := lutMem u c.site l y
  let lutOf := fun (j : Nat) => (c.luts.find? fun e => e.1.val == j).map (·.2)
  let port := if y.use == .ram32 then (lutOf (l.val / 4 * 4 + 3)).getD {} else y
  let clk := (lineEdge s k (if port.clk = 0 then c.clks.1 else c.clks.2)).isSome && s.sig k port.we
  let bitOf := fun i => s.sig k (sigAt port.data i)
  let new := if !clk then mem else match lutUse c.site y with
    | .logic => mem
    | .ram64 => putBit mem (sigsNat (s.sig k) (y.ins.take 6)) (bitOf 0)
    | .ram32 =>
      let a := sigsNat (s.sig k) (port.ins.take 5)
      putBit (putBit mem a (bitOf 0)) (32 + a) (bitOf 1)
    | .shift =>
      let from_ := match l.val, lutOf (l.val - 1) with
        | j + 1, some z => if y.chained then (lutMem u c.site j z).testBit (min 32 z.len - 1) else bitOf 0
        | _, _ => bitOf 0
      mem * 2 % 2 ^ 32 + if from_ then 1 else 0
  (key, (new % 2 ^ 64) ^^^ (y.table % 2 ^ 64))

/-- Is a port's block the one that the upper address bits of its cascade name? -/
def selected (s : State) (k : Nat) (c : PortCfg) : Bool :=
  match c.place with
  | none => true
  | some q => sigsNat (s.sig k) c.upper == q

/-- The time of an edge at a picosecond of this core cycle of 2/3 ns, in thirds of a picosecond (R138). -/
def edgeTime (s : State) (ps : Nat) : Nat := 2000 * s.tick.fabric + 3 * ps

/-- The ports of a block memory with an edge and their enable in this cycle; a simple dual-port memory writes with A and
reads with B (R137). -/
def bramHits (s : State) (k : Nat) (c : BramCfg) : List PortHit :=
  c.ports.filterMap fun e =>
    let p := e.1.val
    let y := e.2
    match lineEdge s k y.line with
    | none => none
    | some ps =>
      if !s.sig k y.en then none
      else
        let places := memPlaces (if c.mode == .split && decide (2 ≤ p) then 2048 else 0) c.lanesOf (c.widthOf p)
          (sigsNat (s.sig k) y.addr)
        let may := selected s k y && !(c.mode == .simpleDual && p == 1)
        let w := sealWord (c.secded && c.mode == .simpleDual) (sigsNat (s.sig k) y.din)
        some
          { port := p, at_ := edgeTime s ps, src := lineSource s k y.line, mode := y.mode, here := selected s k y,
            places := places, writes := if may then scatter (sigsNat (s.sig k) y.we) w places else [] }

/-- Are two edges within 0.5 ns, at times in thirds of a picosecond? -/
def near (a b : Nat) : Bool := decide (a ≤ b + 1500) && decide (b ≤ a + 1500)

/-- Do two ports of a block memory share its words: A and B, or the two of a second half (R137)? -/
def PortHit.meets (x y : PortHit) : Bool := x.port != y.port && x.port / 2 == y.port / 2

/-- Which of two ports that write within 0.5 ns stays: port A, or B where COLLISION_PRIORITY is set (R138)? -/
def PortHit.stays (prioB : Bool) (x : PortHit) : Bool := (x.port % 2 == 1) == prioB

/-- The writes of a port without those to lanes that the port that stays has written within 0.5 ns, in this core cycle or the
one before (R138). -/
def writesLeft (prioB : Bool) (hits : List PortHit) (x : PortHit) : List (Nat × Nat × Nat) :=
  x.writes.filter fun w => !(hits.any fun y =>
    x.meets y && near x.at_ y.at_ && y.stays prioB && y.writes.any fun v => v.1 == w.1)

/-- The writes of a block memory's ports, in the order of their edges (R138). -/
def writeOrder (prioB : Bool) (recent hits : List PortHit) : List (Nat × Nat × Nat) :=
  ((hits.mergeSort fun x y => decide (x.at_ ≤ y.at_)).map (writesLeft prioB (recent ++ hits))).flatten

/-- Do two ports have the same clock? -/
def sameClock (x y : PortHit) : Bool := x.src == y.src && x.src.isSome

/-- A lane that port x reads, where port y writes it in the same core cycle (R138). -/
def laneMet (s : State) (k m : Nat) (x y : PortHit) (l old : Nat) : Nat :=
  let new := laneAfter y.writes l old
  if sameClock x y then (if x.mode == .writeFirst then new else old)
  else if near x.at_ y.at_ then (if Config.laneNew k m l s.tick.fabric then new else old)
  else if y.at_ < x.at_ then new else old

/-- A lane that port x reads, where port y wrote it in the core cycle before, on an unrelated clock within 0.5 ns (R138). -/
def laneRecent (s : State) (k m : Nat) (x y : PortHit) (l new : Nat) : Nat :=
  match y.olds.find? fun e => e.1 == l with
  | some (_, old) =>
    if !sameClock x y && near x.at_ y.at_ && !Config.laneNew k m l s.tick.fabric then old else new
  | none => new

/-- The lanes as port x of a block memory reads them, beside the other ports' writes of this core cycle and the one before. -/
def lanesSeen (s : State) (k m : Nat) (lane : Nat → Nat) (recent hits : List PortHit) (x : PortHit) (l : Nat) : Nat :=
  let v := (recent.filter x.meets).foldl (fun v y => laneRecent s k m x y l v) (lane l)
  let v := (hits.filter x.meets).foldl (fun v y => if y.writes.isEmpty then v else laneMet s k m x y l v) v
  if x.mode == .writeFirst then laneAfter x.writes l v else v

/-- What a port of a block memory reads at its edge: the bits in its places; none where a write on it in NO_CHANGE mode
leaves its output, where it is the writing port of a simple dual-port memory, or where another block of the cascade
answers (R137, R138). -/
def portReads (s : State) (k m : Nat) (c : BramCfg) (lane : Nat → Nat) (recent hits : List PortHit) (x : PortHit) :
    Option Nat :=
  if !x.here || !x.writes.isEmpty && x.mode == .noChange || c.mode == .simpleDual && x.port == 0 then none
  else some (gather (lanesSeen s k m lane recent hits x) x.places)

/-- A port after its edge: the word that it reads, as its SECDED gives it. -/
def portTakes (c : BramCfg) (x : PortHit) (v : PortU) : PortU :=
  if !x.here then { v with away := true }
  else match x.read with
    | none => v
    | some raw =>
      let r := openWord (c.secded && c.mode == .simpleDual) raw
      { v with word := r.1, err := r.2, away := false }

/-- A read of the core cycle before, where a port on an unrelated clock writes the word within 0.5 ns in this one: each lane
gives its old or its new value (R138). -/
def lateRead (s : State) (k m : Nat) (hits : List PortHit) (x : PortHit) : Option Nat :=
  x.read.map fun raw =>
    let lane := fun l old => (hits.filter x.meets).foldl (fun v y =>
      if !sameClock x y && near x.at_ y.at_ && Config.laneNew k m l s.tick.fabric then laneAfter y.writes l v else v) old
    (x.places.zipIdx.map fun e =>
      let old := bits raw (9 * e.2 + 8) (9 * e.2) * 2 ^ e.1.2.2
      (lane e.1.1 old &&& e.1.2.1) / 2 ^ e.1.2.2 * 2 ^ (9 * e.2)).foldl (· + ·) 0

/-- A FIFO's two ports in a cycle: A writes, B reads (R137, R138). A word offered to a full FIFO is ignored and sets the
overflow flag. -/
def fifoNext (c : BramCfg) (lane : Nat → Nat) (hits : List PortHit) (u : BramU) : BramU :=
  let w := c.widthOf 0
  let push := (hits.find? fun x => x.port == 0).filter fun x => !x.writes.isEmpty
  let pop := (hits.any fun x => x.port == 1) && u.level != 0
  let u1 := if pop then
      { u with
        given := u.given + 1,
        ports := sput {} u.ports 1
          { sget {} u.ports 1 with word := gather lane (memPlaces 0 4096 w u.given), away := false } }
    else u
  match push with
  | none => u1
  | some x =>
    if c.full u then { u1 with overflow := true }
    else
      let word := gather (fun l => laneAfter x.writes l 0) x.places
      { u1 with
        taken := u.taken + 1,
        lanes := putLanes c.init (scatter (2 ^ 9 - 1) word (memPlaces 0 4096 w u.taken)) u.lanes }

/-- A block memory after the cycle (R137, R138): a port with an output register passes its last read on at each edge of
its clock. -/
def bramNext (s : State) (k m : Nat) (c : BramCfg) : BramU :=
  let u := sget {} (s.region_ k).brams m
  let lane := fun l => initLane c.init l ^^^ sget 0 u.lanes l
  let hits := bramHits s k c
  let old := u.recent.foldl (fun ps x =>
    match lateRead s k m hits x with
    | none => ps
    | r => sput {} ps x.port (portTakes c { x with read := r } (sget {} ps x.port))) u.ports
  let pass := fun (ports : List (Nat × PortU)) => c.ports.foldl (fun ps e =>
    if (lineEdge s k e.2.line).isSome then
      let was := sget {} old e.1.val
      sput {} ps e.1.val
        { sget {} ps e.1.val with regWord := was.word, regErr := was.err, regAway := was.away }
    else ps) ports
  if c.mode == .fifo then
    let v := fifoNext c lane hits u
    { v with ports := pass v.ports }
  else
    let hits := hits.map fun x =>
      { x with
        read := portReads s k m c lane u.recent hits x,
        writes := writesLeft c.prioB (u.recent ++ hits) x, olds := x.writes.map fun w => (w.1, lane w.1) }
    { u with
      lanes := putLanes c.init (writeOrder c.prioB u.recent hits) u.lanes, recent := hits,
      ports := pass (hits.foldl (fun ps x => sput {} ps x.port (portTakes c x (sget {} ps x.port))) old) }

/-- A deep memory after the cycle (R139): a read of a word written within 0.5 ns returns the old word, in this core cycle or
the next. -/
def deepNext (s : State) (k m : Nat) (c : DeepCfg) : DeepU :=
  let u := sget {} (s.region_ k).deeps m
  let lane := fun l => initLane c.init l ^^^ sget 0 u.lanes l
  let placesOf := fun (y : PortCfg) => memPlaces 0 32768 y.width (sigsNat (s.sig k) y.addr)
  let writeEdge := (lineEdge s k c.write.line).filter fun _ => s.sig k c.write.en && selected s k c.write
  let ws := if writeEdge.isSome then
      scatter (sigsNat (s.sig k) c.write.we) (sealWord c.secded (sigsNat (s.sig k) c.write.din)) (placesOf c.write)
    else []
  let pipe := match lineEdge s k c.read.line with
    | none => u.pipe
    | some ps =>
      let now := edgeTime s ps
      let late := (writeEdge.map fun w => decide (w + 500 < ps)).getD false
      let seen := fun l =>
        match u.recent with
        | some (t, olds) =>
          if near t now then ((olds.find? fun e => e.1 == l).map (·.2)).getD (lane l)
          else if late then laneAfter ws l (lane l) else lane l
        | none => if late then laneAfter ws l (lane l) else lane l
      let next := if !s.sig k c.read.en then u.pipe.getLast?.getD (0, 0, false)
        else if !selected s k c.read then (0, 0, true)
        else
          let r := openWord c.secded (gather seen (placesOf c.read))
          (r.1, r.2, false)
      ((List.replicate (3 - u.pipe.length) (0, 0, false) ++ u.pipe) ++ [next]).drop 1
  { lanes := putLanes c.init ws u.lanes, pipe := pipe,
    recent := writeEdge.map fun ps => (edgeTime s ps, ws.map fun w => (w.1, lane w.1)) }

/-! Boundary registers (R143 to R147). -/

/-- What region n presents at its edge e, group g, to the neighbour that receives there (R147): nothing new while the last
captured values stand, under a swap that has not begun its load; 0 while Dark, being loaded, or FAILED; else what its
logic drives, which a Damped region's retained flip-flops hold. -/
def presented (s : State) (n e g : Nat) : Option Nat :=
  let st := s.rd SWAP_STATUS_STATE 0 n
  let epochOnly := ((s.region_ n).swap.map fun r => r.mode == 1).getD false
  if st = 1 ∨ st = 2 ∨ (st = 4 ∧ epochOnly) then none
  else if 3 ≤ st ∨ (s.region_ n).held ∨ s.rd RG_STATUS_PSTATE n = 3 then some 0
  else match (s.region_ n).design.sends.find? fun x => x.1.val == e && x.2.1.val == g with
    | none => some 0
    | some (_, _, _, sigs) => some (sigsNat (s.sig n) (sigs.take 64))

/-- A boundary group at an edge of its receiving line, with the value presented (none: the last one captured), whether its
sender runs, and the bits that its first stage would take late (R144). A HANDSHAKE group takes a new transfer as a whole,
once its last one has come through, and only from a sender that runs; one whose request has been captured completes
(R147). -/
def edgeNext (mode : GroupMode) (w : Option Nat) (runs : Bool) (late : Nat) (u : EdgeU) : EdgeU :=
  match mode with
  | .related => { u with value := w.getD u.value }
  | .handshake =>
    let w := w.getD u.stage
    let new := u.stage.testBit 63 == u.value.testBit 63 && w.testBit 63 != u.value.testBit 63
    if !runs || !new then { u with value := u.stage, late := 0 }
    else if late.testBit 63 && u.late == 0 then { u with value := u.stage, late := 2 ^ 63 }
    else { value := u.stage, stage := w, late := 0 }
  | _ =>
    let w := w.getD u.stage
    let hold := (late &&& (w ^^^ u.stage)) - ((late &&& (w ^^^ u.stage)) &&& u.late)
    { value := u.stage, stage := w ^^^ ((w ^^^ u.stage) &&& hold), late := hold }

/-- What a RELATED group captures of a value presented: on a suspect edge a wrong value may be captured, and which is a free
value (R148). -/
def relatedTakes (s : State) (k key w : Nat) : Nat :=
  if (s.rd RG_STATUS_EDGE_SUSPECT k).testBit (key / 48) then Config.suspectValue k key s.tick.fabric w % 2 ^ 64 else w

/-- The boundary registers of region k after the cycle; a RELATED group that failed its check captures nothing (R145). -/
def edgesNext (s : State) (k : Nat) : List (Nat × EdgeU) :=
  let u := s.region_ k
  u.design.receives.foldl (fun m x =>
    let e := x.1.val
    let g := x.2.1.val
    let key := 48 * e + g
    match lineEdge s k x.2.2.2, across k e with
    | some _, some n =>
      if u.heldGroups.contains key then m
      else
        let w := presented s n ((e + 2) % 4) g
        let w := if x.2.2.1 == .related then w.map (relatedTakes s k key) else w
        sput {} m key (edgeNext x.2.2.1 w (regionRuns s n) (Config.lateBits k key s.tick.fabric) (sget {} m key))
    | _, _ => m) u.edges

/-- Does a group that region k receives carry no value launched by a running clock of its sender (R147): the sender presents
held values, or its driving line has had no edge since its clocks began to run, or the group failed its check (R145)? -/
def groupStale (s : State) (k e g : Nat) : Bool :=
  match across k e with
  | none => false
  | some n =>
    presentsHeld s n || (s.region_ k).heldGroups.contains (48 * e + g) ||
      match (s.region_ n).design.sends.find? fun x => x.1.val == (e + 2) % 4 && x.2.1.val == g with
      | none => false
      | some (_, _, l, _) => !(s.region_ n).launched.contains l.val

/-- EDGE_STALE as each receiving line of region k registers it, by 24 × edge + line (R147): set at the capture of the first
held value; it falls at the first capture of a live value by a RELATED group, and one capture later where other groups,
whose stages must pass that value, use the line. -/
def stalesNext (s : State) (k : Nat) : List (Nat × Nat) :=
  let groups := (s.region_ k).design.receives
  ((groups.map fun x => (x.1.val, x.2.2.2.val)).eraseDups).foldl (fun m (x : Nat × Nat) =>
    if (lineEdge s k x.2).isNone then m
    else
      let mine := groups.filter fun y => y.1.val == x.1 && y.2.2.2.val == x.2
      let key := 24 * x.1 + x.2
      if mine.any fun y => groupStale s k x.1 y.2.1 then
        sput 0 m key (if mine.any fun y => y.2.2.1 != .related then 2 else 1)
      else sput 0 m key (sget 0 m key - 1)) (s.region_ k).stales

/-- The acknowledges that region k receives, each through two stages of its sending line (R144). -/
def acksNext (s : State) (k : Nat) : List (Nat × Nat) :=
  let u := s.region_ k
  u.design.sends.foldl (fun m x =>
    let key := 48 * x.1.val + x.2.1.val
    match lineEdge s k x.2.2.1, across k x.1 with
    | some _, some n =>
      let raw := (sget {} (s.region_ n).edges (48 * ((x.1.val + 2) % 4) + x.2.1.val)).value.testBit 63
      sput 0 m key (sget 0 m key % 2 * 2 + if raw then 1 else 0)
    | _, _ => m) u.acks

/-- A FABRIC_RESET in progress after the cycle (R153): it lasts 16 cycles of the slowest line that has a running, stable
source, whatever the enables of the lines. -/
def resetNext (s : State) (k : Nat) : Option (List (Nat × Nat)) :=
  match (s.region_ k).resetting with
  | none => none
  | some m =>
    let lines := (s.region_ k).design.lines
    let m := lines.foldl (fun m e => if (sourceEdge s k e.2.1).isSome then sput 0 m e.1 (sget 0 m e.1 + 1) else m) m
    if lines.all fun e => decide (16 ≤ sget 0 m e.1.val) || !sourceRuns s k e.2.1 then none else some m

/-- The ramp of a region after the cycle: the edges of each line's source (R418). -/
def rampNext (s : State) (k : Nat) : Option RegionRamp :=
  (s.region_ k).ramp.map fun r =>
    { r with edges := (s.region_ k).design.lines.foldl (fun m e =>
      if (sourceEdge s k e.2.1).isSome then sput 0 m e.1 (sget 0 m e.1 + 1) else m) r.edges }

/-- The fabric of region k after a core cycle. -/
def captureRegion (s : State) (k : Nat) : RegionU :=
  let u := s.region_ k
  let d := u.design
  let flops := d.clusters.foldl (fun m c => c.ffs.foldl (fun m f =>
    let r := ffNext s k c f.1 f.2
    sput 0 m r.1 r.2) m) u.flops
  let luts := d.clusters.foldl (fun m c => c.luts.foldl (fun m l =>
    let r := lutNext s k c l.1 l.2
    if lutUse c.site l.2 == .logic then m else sput 0 m r.1 r.2) m) u.luts
  { u with
    flops := if u.resetting.isSome then [] else flops,
    luts := luts,
    brams := d.brams.foldl (fun m e => sput {} m e.1.val (bramNext s k e.1 e.2)) u.brams,
    deeps := d.deeps.foldl (fun m e => sput {} m e.1.val (deepNext s k e.1 e.2)) u.deeps,
    edges := if u.resetting.isSome then [] else edgesNext s k,
    acks := if u.resetting.isSome then [] else acksNext s k,
    stales := stalesNext s k,
    launched := (d.lines.filter fun e => !u.launched.contains e.1.val && (lineEdge s k e.1).isSome).foldl
      (fun l e => e.1.val :: l) u.launched,
    ramp := rampNext s k,
    resetting := resetNext s k }

/-- SL_DONE is high for one edge of SL_PCLK, and so is SL_MEM_ACK (R170; log entry 38). -/
def dropDone (s : State) (t : State) : State :=
  (s.slices.filter fun e => e.2.donePulse || e.2.ack.isSome).foldl (fun t e =>
    match sliceLines s e.1 with
    | some (_, p) =>
      if slicePort s e.1 && (lineEdge s (e.1 / 96) p).isSome then
        t.updSlice e.1 fun u => { u with donePulse := false, ack := none }
      else t
    | none => t) t

/-- Does the fabric of a region have a design, and clocks that run? -/
def fabricLives (s : State) (e : Nat × RegionU) : Bool := e.2.design != {} && regionRuns s e.1

/-- A core cycle of the fabric: every region whose clocks run captures what stood before it, and the ramps
of regions that have ended give way to what follows them (R418). -/
def fabricCycle (s : State) : State :=
  let live := s.regions.filter (fabricLives s)
  let t := dropDone s (live.foldl (fun t e => updRegion e.1 (fun _ => captureRegion s e.1) t) s)
  let t := live.foldl (fun t e => if e.2.design.receives.isEmpty then t else refreshStale e.1 t) t
  rampsGo (t.updTick fun u => { u with fabric := u.fabric + 1 })

/-- The core cycles of the current frame up to offset o pass (R27, R133, R449): the fabric captures in each of them. -/
def passTo (o : Nat) (s : State) : State :=
  padTick (if s.regions.any (fabricLives s) then
      (List.range (o - s.offset)).foldl (fun t _ => advanceTo (t.offset + 1) (fabricCycle t)) s
    else advanceTo o (s.updTick fun u => { u with fabric := u.fabric + (o - s.offset) }))

/-- The core cycles up to the window's START have passed (R34). -/
def windowStart (e : Slot) (s : State) : State := if s.offset < e.start then passTo e.start s else s

/-- The core cycles up to the window's last one have passed (R34). A window whose last core cycle has passed already
reports late, in the present one (DESIGN CHOICE, log entry 74). -/
def windowEnd (w : OpenWin) (s : State) : State := if s.offset < w.last then passTo w.last s else s

end Sys2Proof.Machine
end

