-- ==== Sys2Proof/Machine/Catch.lean ====
section
/-! DEFINITION. The catch blocks' commands (chapter 05). -/

namespace Sys2Proof.Machine

open F

/-- What every word time does whose entry is due (R126): the first entry of a burst starts its compares;
an ending entry ends them on its lane. A burst whose BURST_END has been created does neither again. -/
def burstEdges (n i : Nat) (d : Due) (s : State) : State :=
  match d.op with
  | none => s
  | some op =>
    if burstClosed s n op then s
    else
      let s := if (catchBurst s n op).isNone && d.vc == 0 then burstStart n op s else s
      if d.past then laneEnded n i op s else s

/-- The working copy of a lane fails its parity check at this use (R110). -/
def delayParityBad (s : State) (n i : Nat) : Bool := popcount (sget 0 (catch_ s n).workDiff i) % 2 == 1

/-- The DELAY_SUSPECT flag of a record made now (R110, R468). -/
def suspectFlag (s : State) (n i : Nat) : Nat :=
  if delayParityBad s n i || s.flag CB_STATUS_DELAY_BROKEN n || s.mbit FI_CHECK_STATUS_DLY_LOST n then 4 else 0

/-- A delay that fails its parity check in use is reported and reloaded after the word (R110). -/
def delayUse (n i : Nat) (s : State) : State :=
  if delayParityBad s n i then delayFault n i (delayGood s n i) s else s

/-- Receive word time r of lane i has passed (R106). -/
def noteWordTime (n i r : Nat) (s : State) : State :=
  updCatch n (fun u => { u with rxNext := sput 0 u.rxNext i (r + 1) }) s

/-- One word is compared in two copies (R108, R109, R122): a is the fail mask of copy A, flip what a datapath fault inverts
in copy B's, flags the flags of its record. -/
def compareWord (n i : Nat) (d : Due) (a flip flags : Nat) (s : State) : State :=
  let (inj, s) := takeInj CB_INJECT_INJ_DISAGREE n (decide (s.rd CB_INJECT_LANE n = i)) s
  let b := a ^^^ (flip % 2 ^ 64) ^^^ (if inj then 1 else 0)
  let mask := a ||| b
  let s := s.incWrap COMPARED_COUNT n i
  let lost := s.mbit FI_CHECK_STATUS_CMP_LOST n
  let s := if lost then setSeen n 0 (markFrame s) else s
  let s := if a ≠ b then
      setSeen n 0 ((markFrame (raiseInj E.COMPARE_DISAGREE n (d.vc % 2 ^ 48 + (8 * n + i) * 2 ^ 48) inj s)).incWrap
        DISAGREE_COUNT_COUNT n)
    else s
  let flags := flags + (if a ≠ b then 1 else 0) + suspectFlag s n i
  if mask = 0 then closeLane n i s else takeFail n i d.vc mask flags (d.parity s n) s

/-- A word time without a response word (R107, R127): control says that the slot held a control block, which in a slot whose
due entry has an all-zero mask is no missing response, where the set is ready, and leaves the lane's open run open, while a
missing response of such a slot closes it (DESIGN CHOICE, log entry 30). While the core PLL smoulders it is counted and not compared. -/
def missingWord (n i r : Nat) (control : Bool) (flip : Nat) (s : State) : State :=
  let due := dueEntry s n i r
  let pf := pointerFlip s n i r none
  let s := noteWordTime n i r s
  delayUse n i (match due with
    | none => s
    | some d =>
      let s := burstEdges n i d s
      if control && d.mask == 0 && s.mbit LG_STATUS_READY 0 n then s
      else
        let s := setSeen n 3 (s.incWrap MISSING_COUNT n i)
        if s.rd ALIGN_STATUS_STATE = 4 then s
        else if d.mask = 0 ∧ pf = 0 then closeLane n i s
        else compareWord n i d d.mask (flip ^^^ pf) 2 s)

/-- Can the elastic buffer of lane i of group g slip (R298, R300)? -/
def slips (s : State) (g i : Nat) : Bool := laneState s g i == 3 && blockRole s g && transmits s g i

/-- The elastic buffer of a lane slips by one block (R298): in the reel and catch role that is a missing response, at the
next word time of the word that the lane carries. -/
def elasticSlip (g i : Nat) (overflow injected : Bool) (s : State) : State :=
  let s := (s.incSat LG_COUNTS_SLIPS g).wr LN_STATUS_ELASTIC (if overflow then 64 else 0) g i
  let s := raiseInj E.LANE_ELASTIC_SLIP (8 * g + i) 0 injected s
  let w := s.rd LG_ROLE_WORD0 g
  if groupRole s g = 1 ∧ g < 16 ∧ monitoredOf w ≠ some i then
    missingWord g (wordOf w i) (sget 0 (catch_ s g).rxNext (wordOf w i)) false 0 s
  else s

/-- INJ_LOCK (R308): LANE loses block lock, where it holds it, and reacquires it as BLOCK_LOCK_ACQUIRED gives. -/
def performLock (g : Nat) (s : State) : State :=
  let i := s.rd LG_INJECT_LANE g
  let (inj, s) := takeInj LG_INJECT_INJ_LOCK g (s.flag LN_STATUS_BLOCK_LOCK g i) s
  if inj then loseLock g i true s else s

/-- INJ_SLIP (R308): LANE's elastic buffer slips once, where it is in use; the spec does not say which way, so it
overflows or underruns by a free value. -/
def performSlip (g : Nat) (s : State) : State :=
  let i := s.rd LG_INJECT_LANE g
  let (inj, s) := takeInj LG_INJECT_INJ_SLIP g (slips s g i) s
  if inj then
    let (v, s) := s.draw
    elasticSlip g i (v % 2 == 1) true s
  else s

/-- RESPONSE_WORD (R106, R108, R109, R122, R127, R297): a response word of lane i at receive word time r is
compared in two copies; flip is what a datapath fault inverts in copy B's fail mask. While the core PLL smoulders every
word delivered is only counted. A set that is not ready delivers no word: its word time is a missing response. -/
def execResponseWord (n : Fin 16) (i : Fin 8) (r word flip : Nat) (s : State) : Out :=
  if !isReelGroup s n then .next s
  else if !s.mbit LG_STATUS_READY 0 n then .next (missingWord n i r false flip s)
  else
    let due := dueEntry s n i r
    let pf := pointerFlip s n i r (some word)
    let s := noteWordTime n i r s
    let s := match due with
      | none => s
      | some d => burstEdges n i d s
    .next (delayUse n i (
      if s.rd ALIGN_STATUS_STATE = 4 then setSeen n 4 (s.incWrap UNCOMPARED_COUNT n i)
      else match due with
        | none => s
        | some d =>
          if d.mask = 0 ∧ pf = 0 then closeLane n i s
          else compareWord n i d (failMask due (some word)) (flip ^^^ pf) 0 s))

/-- MISSING_RESPONSE (R107, R127): a word time with no response word, or with a control block. -/
def execMissingResponse (n : Fin 16) (i : Fin 8) (r : Nat) (control : NoResponse) (s : State) : Out :=
  .next (if isReelGroup s n then missingWord n i r control.control control.flip s else s)

/-- What upsets have done to the delays of block n since the last compare (R110). -/
def upsetDelays (n : Nat) (work : WorkUpset) (bad : DelayUpset) (s : State) : State :=
  updCatch n (fun u =>
    { u with
      workDiff := work.copy.foldl (fun m e => sput 0 m e.1 (sget 0 m e.1 ^^^ e.2)) u.workDiff,
      ptrDiff := work.pointer.foldl (fun m e => sput 0 m (2 * e.1 + e.2.1) ((sget 0 m (2 * e.1 + e.2.1) + e.2.2) % 8192))
        u.ptrDiff,
      parityBad := u.parityBad ^^^ bad.parity.val,
      shadowDiff := (List.range 8).foldl (fun d i =>
        if bad.shadow.val.testBit i then sput 0 d i (sget 0 d i ^^^ 1) else d) u.shadowDiff }) s

/-- Does the shadow compare find lane i wrong (R110): its working copy differs from its register, a read pointer does not
stand D entries behind the write pointer, or the register and its shadow are not good? -/
def delayWrong (s : State) (n i : Nat) : Bool :=
  sget 0 (catch_ s n).workDiff i != 0 || ptrDiff s n i 0 != 0 || ptrDiff s n i 1 != 0 || !delayGood s n i

/-- DELAY_SHADOW_CHECK (R110): in core cycle N − 16 of the frame, or now where that has passed, working copy, register, shadow
and read pointers are compared, lane by lane; upset says what upsets have done to the working copies and read pointers,
bad on which lanes a fault has inverted the parity bit of the register, or a bit of its shadow. Where DELAY_BROKEN is set
the compares go on with the working copy as it stands. It runs and reports in every role of the group, although R104 lets
the counters hold outside the reel and catch role (DESIGN CHOICE, log entry 78). -/
def execDelayShadowCheck (n : Fin 16) (upset : WorkUpset) (bad : DelayUpset) (s : State) : Out :=
  if s.rd ALIGN_STATUS_STATE = 4 then .next s
  else
    let s := upsetDelays n upset bad (if s.offset < s.period - 16 then passTo (s.period - 16) s else s)
    .next ((List.range 8).foldl (fun t i => if delayWrong t n i then delayFault n i (delayGood t n i) t else t) s)

/-- RECORD_TO_FLOW (R119, R123, R359): the oldest closed record passes from the record FIFO into the flow, once a reserved entry
is free; an open flush window writes it. -/
def execRecordToFlow (n : Fin 16) (s : State) : Out :=
  match (catch_ s n).fifo with
  | [] => .next s
  | r :: t =>
    if !recordRoom s (catchFlow s n) then .next s else
    let s := updCatch n (fun u => { u with fifo := t }) s
    .next (flushOpen n false none none (noteFifo n (recToFlow n r s)))

/-- PENDING_SUMMARY_RELEASE (R120): the pending summary enters the flow once there is space, or when it
covers 65,535 frames. -/
def execPendingSummaryRelease (n : Fin 16) (s : State) : Out :=
  match (catch_ s n).pendingSum with
  | none => .next s
  | some (p, _) =>
    if recordRoom s (catchFlow s n) ∧ (recordsHeld s n < catchCapacity s n ∨ bits p.body 47 32 = 65535) then
      let s := updCatch n (fun u => { u with pendingSum := none }) (s.wr CB_STATUS_SUMMARY_PENDING 0 n)
      .next (flushOpen n false none none (recToFlow n p s))
    else .next s

/-- BURST_END (R116, R126): the compares have ended, the runs are closed and the TAINT notice or its
absence is known: the record is created, or deferred. It waits for a SUMMARY record of the burst that is still to enter the
flow, so that it is the burst's last record (R21). -/
def execBurstEnd (n : Fin 16) (s : State) : Out :=
  let u := catch_ s n
  let summary (b : CatchBurst) : Bool :=
    u.sumFirst.any (fun r => r.bp == b.bp) || u.pendingSum.any (fun p => p.1.bp == b.bp)
  match u.bursts.find? (fun b => b.ended && b.notice && !summary b) with
  | none => .next s
  | some b =>
    let s := updCatch n (fun u =>
      { u with
        bursts := u.bursts.filter fun x => x.op != b.op,
        prev := u.prev.map (fun x => if x.op == b.op then { x with closed := true, bp := b.bp } else x),
        lastClosed := some (b.op, b.bp) }) s
    let (r, s) := mkRec 4 b.endVc (8 * n.val) 2 b.fails b.seen s
    .next (createRec n { r with bp := b.bp, op := some b.op } s)

/-- CM_RD_WRITE (R124, R125): the host's read index; out of range it changes nothing and sets RD_ERR. -/
def execCmRdWrite (n : Fin 16) (v : Nat) (s : State) : Out :=
  let v := v % 2 ^ 64
  let wr := s.rd CM_WR_INDEX n
  let q := 2 * s.rd CM_LINES_LINES n
  if wr < v ∨ v + q < wr then .next (s.wr CB_STATUS_RD_ERR 1 n)
  else
    let s := (s.wr CM_RD_INDEX v n).setb CB_STATUS_RING_FULL (q != 0 && wr == v + q) n
    .next (if wr + 2 ≤ v + q then updCatch n (fun u => { u with fullRaised := false }) s else s)

/-- STROBE_RELEASE (R114): a source falls STRETCH core cycles after its last assertion. -/
def execStrobeRelease (n : Fin 16) (j : Fin 2) (s : State) : Out :=
  .next (updCatch n (fun u => if j = 0 then { u with strobeA := false } else { u with strobeB := false }) s)

/-- CB_CLEAR_COUNTS (R129): the counters at 0040h to 0058h and the lane counters except BURST_FAILS. -/
def execCbClearCounts (n : Fin 16) (s : State) : Out :=
  .next (s.clrAllInst [RECORDS_MADE_RECORDS, SUMMARY_COUNT_COUNT, DISAGREE_COUNT_COUNT,
    DELAY_FAULT_COUNT_COUNT, WRITE_ERR_REFUSED_WRITES, WRITE_ERR_WRONG_CHANNEL, BURST_COUNT_BURSTS,
    FAIL_WORDS_COUNT, FAIL_BITS_COUNT, COMPARED_COUNT, MISSING_COUNT, UNCOMPARED_COUNT] n)

/-- FAIL_PORT_SNAPSHOT (R112, R113): a CF_CLK edge takes what has accumulated and starts again. In a region that is Damped,
Dark or under swap nothing takes snapshots. -/
def execFailPortSnapshot (n : Fin 16) (s : State) : Out :=
  if presentsHeld s n then .next s
  else .next (updCatch n (fun u =>
    { u with
      snapFail := u.cfFail, snapBits := u.cfBits, snapFirst := u.cfFirst,
      snapActive := s.flag CB_STATUS_COMPARING n, snapSummary := s.flag CB_STATUS_SUMMARY n,
      snapSuspect := s.flag CB_STATUS_COMPARING n && decide (s.rd CB_STATUS_SEEN n % 4 ≠ 0), cfFail := 0, cfBits := 0, cfFirst := 0 }) s)

/-- Is the ring's setting invalid (R124)? -/
def ringBad (s : State) (n : Nat) : Bool :=
  s.rd CM_BASE_ADDR n % 64 != 0 || decide (s.rd CM_LINES_LINES n < 64) || decide (2 ^ 30 < s.rd CM_LINES_LINES n)

/-- CATCH_FLUSH_WINDOW (R41, R123 to R125): the window of the frame's entry k opens; the channel takes up to so
many lines in it. It writes what the flow holds, and what reaches the flow while it is open. A parity error meets its first
line. -/
def execCatchFlushWindow (k : Nat) (lines : WindowLines) (s : State) : Out :=
  match opening s 0x20 k with
  | none => .next s
  | some e =>
    let s := windowStart e s
    let n := e.unit
    let quota := bits e.param 23 8
    if ringBad s n then .next (openWin k e true (s.wr CB_STATUS_CONFIG_BAD 1 n))
    else if bits e.param 2 0 ≠ s.rd CM_BASE_ADDR n / 2 ^ 37 then
      .next (openWin k e true (s.incSat WRITE_ERR_WRONG_CHANNEL n))
    else
      let s := match (catch_ s n).window with
        | some f => closeFlush n f.idx s
        | none => s
      .next (flushOpen n false lines.perr lines.other (updCatch n (fun u =>
        { u with window := some ⟨k, e.param, min quota lines.lines, decide (lines.lines < quota)⟩ })
        (openWin k e false (meetsAt lines.meets s))))

end Sys2Proof.Machine
end

