-- ==== Sys2Proof/Machine/InjectOps.lean ====
section
/-! DEFINITION. The tamper sensors (R437, R438) and the injection registers: permission, arming, discarding and
disarming (R439, R469, R470, R472). -/

namespace Sys2Proof.Machine

open F

/-- The tamper sensors of a mask fire together, by the bits of R437 (R438). TP_MASK acts in Developer only. -/
def fireSensors (m : Nat) (injected : Bool) (s : State) : State :=
  let m := m % 16
  let m := if lifecycle s = 1 then m - (m &&& s.rd TP_MASK_MASK) else m
  if m = 0 then s
  else
    let s := (List.range 4).foldl (fun t b => if m.testBit b then incByte TP_COUNTS_COUNTS b t else t) s
    let s := (s.wr TP_LAST_SENSORS m).wr TP_LAST_TICK_TICK s.now
    emberWipe 1 (raiseInj E.TAMPER_DETECTED 0 m injected s)

/-- The detail log and the ember entry of SP_DENY_LOG are cleared, at a lifecycle change and at the entry to
Recovery (R440). -/
def clearLogs (s : State) : State :=
  let s := s.clrAll [DETAIL_LOG_REASON, DETAIL_LOG_OPERATION, DETAIL_LOG_KEY_ID, DETAIL_LOG_RANGE,
    DETAIL_LOG_STREAM_ID, DETAIL_LOG_VALID, DETAIL_LOG_TICK]
  let s := updEngine (fun e => { e with detailNext := 0 }) s
  if inEmber (s.rd SP_DENY_LOG_OFFSET) 1 then
    s.clrAll [SP_DENY_LOG_OFFSET, SP_DENY_LOG_CLASS, SP_DENY_LOG_KIND, SP_DENY_LOG_STREAM_ID, SP_DENY_LOG_VALID]
  else s

/-- The injection actions by their bit of INJ_PERMIT (R439, R472). -/
def injTable : List (Nat × List Fld) :=
  [(0, [CB_INJECT_INJ_DISAGREE, CB_INJECT_INJ_DELAY]),
   (1, [RG_INJECT_INJ_TEMP, RG_INJECT_INJ_BIAS, RG_INJECT_INJ_BCLK]),
   (2, [SL_INJECT_INJ_OPMEM, SL_INJECT_INJ_PROG]),
   (3, [CFG_INJECT_INJ_AUTH, CFG_INJECT_INJ_CHECK]),
   (4, [SCRUB_INJECT_INJ_SINGLE, SCRUB_INJECT_INJ_DOUBLE]),
   (5, [NR_INJECT_INJ_PARITY, NR_INJECT_INJ_TIMEOUT]),
   (6, [DC_INJECT_INJ_CE, DC_INJECT_INJ_UE, DC_INJECT_INJ_REFMISS]),
   (7, [EN_INJECT_INJ_TAG, EN_INJECT_INJ_REFUSE]),
   (8, [LG_INJECT_INJ_BIP, LG_INJECT_INJ_LOCK, LG_INJECT_INJ_SLIP]),
   (9, [MS_INJECT_INJ_CRC, MS_INJECT_INJ_ACK_DROP, MS_INJECT_INJ_TIME_MISS]),
   (10, [HI_INJECT_INJ_FETCH, HI_INJECT_INJ_DOORBELL]),
   (11, [DP_INJECT_INJ_TIMEOUT, DP_INJECT_INJ_LOST]),
   (12, [SP_INJECT_INJ_ECC1, SP_INJECT_INJ_ECC2, SP_INJECT_INJ_MARCH]),
   (13, [CK_INJECT_INJ_LOSS, CK_INJECT_INJ_BAND]),
   (14, [PW_INJECT_INJ_DRAIN]),
   (15, [TP_INJECT_INJ_SENSOR]),
   (16, [FI_TICK_INJECT_INJ_OVERRUN, FI_TICK_INJECT_INJ_SYNC_MISS]),
   (17, [FI_REEL_INJECT_INJ_UNDERRUN, FI_REEL_INJECT_INJ_FORMAT, FI_REEL_INJECT_INJ_SPLICE]),
   (18, [FI_CHECK_INJECT_INJ_CMP_CHECK, FI_CHECK_INJECT_INJ_DLY_CHECK, FI_CHECK_INJECT_INJ_MONITOR,
         FI_CHECK_INJECT_INJ_SENSOR]),
   (19, [FI_CORE_INJECT_INJ_WATCHDOG]),
   (20, [FI_MISC_INJECT_INJ_SCH_CONFLICT, FI_MISC_INJECT_INJ_MR4, FI_MISC_INJECT_INJ_RFM_FULL,
         FI_MISC_INJECT_INJ_DESKEW, FI_MISC_INJECT_INJ_TRAIN_TIMEOUT, FI_MISC_INJECT_INJ_SLOW])]

/-- The INJ_PERMIT bit of an injection action; none for another field. -/
def permitBit (f : Fld) : Option Nat := (injTable.find? fun e => e.2.any fun g => g.id == f.id).map (·.1)

/-- Is the action with this INJ_PERMIT bit permitted now (R439)? -/
def permitted (s : State) (b : Nat) : Bool :=
  lifecycle s == 1 || (lifecycle s == 2 && s.mbit INJ_PERMIT_PERMIT b)

/-- Does a register hold injection actions? -/
def RegRow.isInject (r : RegRow) : Bool := r.fields.any fun f => (permitBit f).isSome

/-- The BAR0 offset of a register's instance i, index j: the strides with the first index slowest (R509). -/
def strideOffset : List (Nat × Nat) → Nat → Nat
  | [], _ => 0
  | (stride, _) :: t, k =>
      let below := t.foldl (fun n e => n * e.2) 1
      k / below * stride + strideOffset t (k % below)

/-- The BAR0 offset of a register's instance i, index j. -/
def RegRow.offsetOf (r : RegRow) (i j : Nat) : Nat := r.off + strideOffset r.inst i + strideOffset r.dims j

/-- How many instances a register has. -/
def RegRow.instances (r : RegRow) : Nat := r.inst.foldl (fun n e => n * e.2) 1

/-- Copy B of the delay: INJ_DELAY inverts bit 0 of the working copy of LANE (R110). -/
def performDelay (n : Nat) (s : State) : State :=
  let i := s.rd CB_INJECT_LANE n
  updCatch n (fun u =>
    { u with workDiff := sput 0 u.workDiff i (sget 0 u.workDiff i ^^^ 1), injDelay := u.injDelay ^^^ 2 ^ i })
    (s.wr CB_INJECT_INJ_DELAY 0 n)

/-- An action whose occasion is its arming is performed: INJ_DELAY, the firing of tamper sensors, and the loss of block lock
and the slip of a lane that can lose it and slip. -/
def performNow (f : Fld) (i : Nat) (s : State) : State :=
  if f.id = CB_INJECT_INJ_DELAY.id then performDelay i s
  else if f.id = LG_INJECT_INJ_LOCK.id then performLock i s
  else if f.id = LG_INJECT_INJ_SLIP.id then performSlip i s
  else if f.id = TP_INJECT_INJ_SENSOR.id then
    fireSensors (s.rd TP_INJECT_INJ_SENSOR) true (s.wr TP_INJECT_INJ_SENSOR 0)
  else s

/-- An injection write is discarded: each of its n actions counts and raises INJECT_DISCARDED (R470). -/
def discardInj (off : Nat) : Nat → State → State
  | 0, s => s
  | n + 1, s =>
    let s := (s.incSat FI_STATUS_DISCARDED).wr FI_LAST_DISCARD_OFFSET off
    discardInj off n (raiseOnce E.INJECT_DISCARDED 0 off false s)

/-- One action of an injection register takes a write of register value v: armed where permitted, else discarded
(R469, R470). -/
def injField (off i v : Nat) (f : Fld) (s : State) : State :=
  let new := bits v f.hi f.lo
  match permitBit f with
  | none => s
  | some b =>
    if new = 0 then s
    else if permitted s b then performNow f i (s.wr f (s.rd f i ||| new) i)
    else discardInj off (popcount new) s

/-- A write of register value v to instance i of an injection register (R469, R470): its selectors first, then
its actions. -/
def injWrite (r : RegRow) (i v : Nat) (s : State) : State :=
  let s := r.fields.foldl (fun t f => if (permitBit f).isSome then t else writeField t f i 0 v) s
  r.fields.foldl (fun t f => injField (r.offsetOf i 0) i v f t) s

/-- The row of the map that holds a field. -/
def rowOf (f : Fld) : Option RegRow := regTable.find? fun r => r.fields.any fun g => g.id == f.id

/-- A write of register value v to the injection register of instance i that holds action f, where v has the
action's bit. -/
def injCommand (f : Fld) (i v : Nat) (s : State) : State :=
  match rowOf f with
  | none => s
  | some r => if i < r.instances ∧ bits v f.hi f.lo ≠ 0 then injWrite r i v s else s

/-- One field of one instance is disarmed where armed (R469). -/
def disarmAt (f : Fld) (i j : Nat) (s : State) : State :=
  if s.rd f i j = 0 then s
  else (s.incSat FI_STATUS_DISARMED 0 0 (popcount (s.rd f i j))).wr f 0 i j

/-- Every armed action of a field is disarmed (R469). -/
def disarmField (f : Fld) (s : State) : State :=
  (sget [] s.regs f.id).foldl (fun t (i, l) => l.foldl (fun t (j, _) => disarmAt f i j t) t) s

/-- Every armed action that is not permitted now is disarmed (R469). -/
def disarm (s : State) : State :=
  injTable.foldl (fun t (b, fs) => if permitted t b then t else fs.foldl (fun t f => disarmField f t) t) s

/-- Every armed action is disarmed: a DEVICE reset (R469). -/
def disarmAll (s : State) : State :=
  injTable.foldl (fun t (_, fs) => fs.foldl (fun t f => disarmField f t) t) s

/-- A checker test's outcome for one checker of block n (R468): a failure sets its bit and raises CHECKER_FAULT;
a pass clears it. -/
def checkerResult (lost : Fld) (arg n : Nat) (fails injected : Bool) (s : State) : State :=
  if fails || injected then
    raiseInj E.CHECKER_FAULT n arg injected (s.setmbit lost n true)
  else s.setmbit lost n false

end Sys2Proof.Machine
end

