-- ==== Sys2Proof/Machine/PinOps.lean ====
section
/-! DEFINITION. The pins under boundary scan (R448): taking them and giving them back. -/

namespace Sys2Proof.Machine

open F

/-- Has every channel that parks for the TAP left READY? -/
def tapParked (s : State) : Bool :=
  (List.range 8).all fun c => !((ddr_ s c).parked &&& 2 != 0 && s.rd DC_STATUS_STATE c == 2)

/-- The pins are taken once the channels are in self-refresh (R448): the PCIe link goes down, every Wavar link goes
DOWN, and every lane loses lock. -/
def pinsGo (s : State) : State :=
  if s.dbg.pins = 1 ∧ tapParked s then
    let s := s.updDbg fun d => { d with pins := 2 }
    let s := refreshGateway ((linkReset s).wr HI_STATUS_LINK_UP 0)
    let s := (allLinks s).foldl (fun t l => linkDown l t) s
    (List.range 144).foldl (fun t i => loseLock (i / 8) (i % 8) false t) s
  else s

/-- A pin-taking instruction is loaded (R448). -/
def takePins (s : State) : State :=
  if s.dbg.pins ≠ 0 then s
  else pinsGo ((parkChannels 2 s).updDbg fun d => { d with pins := 1 })

/-- The pins return (R448): the channels may exit self-refresh, and the lanes that are not banked retrain. -/
def returnPins (s : State) : State :=
  let taken := s.dbg.pins
  let s := s.updDbg fun d => { d with pins := 0 }
  let s := if taken = 0 then s else unparkChannels 2 s
  if taken = 2 then
    (List.range 18).foldl (fun t g =>
      if (List.range 8).any fun i => laneState t g i != 0 then trainGroup g t else t) s
  else s

end Sys2Proof.Machine
end

