-- ==== Sys2Proof/Machine/SliceOps.lean ====
section
/-! DEFINITION. The arithmetic slices: operands, sums, accumulators, stores, pointers and the sequencer
(R156 to R168). -/

namespace Sys2Proof.Machine

open F

/-- A value of w bits read as two's complement. -/
def toSigned (w v : Nat) : Int := if v % 2 ^ w < 2 ^ (w - 1) then (v % 2 ^ w : Nat) else (v % 2 ^ w : Nat) - 2 ^ w

/-- The A operand (27 bits) or B operand (18 bits) in lane j of an operand word (R156). -/
def operandLane (word width : Nat) (signed : Bool) (j : Nat) : Int :=
  let v := bits word (32 * j + width - 1) (32 * j)
  if signed then toSigned width v else v

/-- The two sums of a MAC (R157). -/
def macSums (mode : Nat) (xa yb : Nat → Int) : Int × Int :=
  match mode with
  | 0 => (xa 0 * yb 0 + xa 1 * yb 1, xa 2 * yb 2 + xa 3 * yb 3)
  | 1 => (xa 0 * yb 0 + xa 1 * yb 2, xa 0 * yb 1 + xa 1 * yb 3)
  | _ => (xa 0 * yb 0 - xa 1 * yb 1, xa 0 * yb 1 + xa 1 * yb 0)

/-- A result within the signed 48-bit range, and whether it overflowed (R158). -/
def fit48 (sat : Bool) (v : Int) : Int × Bool :=
  if v < -2 ^ 47 then (if sat then -2 ^ 47 else toSigned 48 (v % 2 ^ 48).toNat, true)
  else if v ≥ 2 ^ 47 then (if sat then 2 ^ 47 - 1 else toSigned 48 (v % 2 ^ 48).toNat, true)
  else (v, false)

/-- One accumulator's operation: 0 HOLD, 1 ADD, 2 SUB, 3 LOAD, 4 ROTXOR (R158). -/
def accOp (op : Nat) (sat : Bool) (acc sum : Int) : Int × Bool :=
  match op with
  | 1 => fit48 sat (acc + sum)
  | 2 => fit48 sat (acc - sum)
  | 3 => fit48 sat sum
  | 4 =>
    let a := (acc % 2 ^ 48).toNat
    let rot := (a * 2) % 2 ^ 48 + a / 2 ^ 47
    (toSigned 48 (rot ^^^ (sum % 2 ^ 48).toNat), false)
  | _ => (acc, false)

/-- The rounded shift of a stored value (R159): 0 truncates, 1 rounds half up, 2 half even. -/
def roundShift (rnd shift : Nat) (v : Int) : Int :=
  let q := v / 2 ^ shift
  let r := v % 2 ^ shift
  if shift = 0 then q
  else if rnd = 1 then (if r ≥ 2 ^ (shift - 1) then q + 1 else q)
  else if rnd = 2 then
    (if r > 2 ^ (shift - 1) || (r == 2 ^ (shift - 1) && q % 2 == 1) then q + 1 else q)
  else q

/-- The saturation of a stored value to a width, and whether it saturated (R159). -/
def saturate (width : Nat) (signed : Bool) (v : Int) : Int × Bool :=
  let lo : Int := if signed then -2 ^ (width - 1) else 0
  let hi : Int := if signed then 2 ^ (width - 1) - 1 else 2 ^ width - 1
  if v < lo then (lo, true) else if v > hi then (hi, true) else (v, false)

/-- The width that a WIDTH code selects (R159). -/
def storeWidth : Nat → Nat
  | 0 => 18
  | 1 => 27
  | 2 => 32
  | _ => 48

/-- The 128-bit word of a STORE and whether a value saturated (R159). -/
def storeWord (ins : Nat) (a0 a1 : Int) : Nat × Bool :=
  let w := storeWidth (bits ins 49 48)
  let reduce := fun v => saturate w (bit ins 46) (roundShift (bits ins 51 50) (bits ins 57 52) v)
  let sum := bit ins 58
  let (v, sv) := reduce (if sum then a0 + a1 else a0)
  let (u, su) := reduce (if sum then 0 else a1)
  let lane1 := if w = 48 then 64 else 32
  ((v % 2 ^ w).toNat + (u % 2 ^ w).toNat * 2 ^ lane1, sv || su)

/-- advance(p, d, wrap) of R164 for generator g (0 X, 1 Y, 2 W) with the window word. -/
def advancePtr (window g p : Nat) (d : Int) (wrap : Bool) : Nat :=
  if !wrap then (((p : Int) + d) % 256).toNat
  else
    let base := bits window (16 * g + 7) (16 * g)
    let len := bits window (16 * g + 15) (16 * g + 8) + 1
    let off := ((p : Int) - base) % 256
    (((base : Int) + (off + d) % len) % 256).toNat

/-- The pointer register of generator g. -/
def ptrField : Nat → Fld
  | 0 => SL_PTR_P_X
  | 1 => SL_PTR_P_Y
  | _ => SL_PTR_P_W

/-- Every pointer moves by a level's STEP, or by its STRIDE (R164, R166). -/
def movePointers (i level : Nat) (stride : Bool) (s : State) : State :=
  let u := s.slice_ i
  let lw := sget 0 u.prog (64 + level)
  let window := sget 0 u.prog 68
  (List.range 3).foldl (fun t g =>
    let lo := 16 * g + (if stride then 8 else 0)
    let d := toSigned 8 (bits lw (lo + 7) lo)
    t.wr (ptrField g) (advancePtr window g (t.rd (ptrField g) i) d (bit lw (48 + g))) i) s

/-- Slice cycles pass in RUNNING (R172), and with them the STORE interlock (R167). -/
def sliceCycles (i n : Nat) (s : State) : State :=
  (s.incWrap SL_CYCLES_CYCLES i 0 n).updSlice i
    fun u => { u with sinceMac := min 3 (u.sinceMac + n) }

/-- Sets ITER of a level (R166, R172). -/
def setIter (i level n : Nat) (s : State) : State :=
  let v := s.rd SL_ITER_ITER i
  s.wr SL_ITER_ITER (v - bits v (16 * level + 15) (16 * level) * 2 ^ (16 * level)
    + (n % 2 ^ 16) * 2 ^ (16 * level)) i

/-- Execution arrives at an entry: every loop that ends there iterates or closes (R166). The fuel is the
number of open loops. -/
def arrive (i pc : Nat) : Nat → State → State
  | 0, s => (s.wr SL_PTR_PC pc i).updSlice i fun u => { u with past := decide (pc > 63) }
  | fuel + 1, s =>
    match (s.slice_ i).loops with
    | [] => (s.wr SL_PTR_PC pc i).updSlice i fun u => { u with past := decide (pc > 63) }
    | l :: rest =>
      if pc = l.start + l.body then
        let done := bits (s.rd SL_ITER_ITER i) (16 * l.level + 15) (16 * l.level) + 1
        let s := setIter i l.level done s
        if l.left > 0 then
          let s := movePointers i l.level false s
          (s.wr SL_PTR_PC l.start i).updSlice i
            fun u => { u with loops := { l with left := l.left - 1 } :: rest, past := false }
        else
          let s := movePointers i l.level true s
          arrive i pc fuel (s.updSlice i fun u => { u with loops := rest })
      else (s.wr SL_PTR_PC pc i).updSlice i fun u => { u with past := decide (pc > 63) }

/-- The instruction retires and execution goes on with the next entry. -/
def retire (i : Nat) (s : State) : State :=
  arrive i (s.rd SL_PTR_PC i + 1) ((s.slice_ i).loops.length + 1) s

/-- A fault of the slice (R168): codes 1 BAD_INSTRUCTION, 2 NESTING, 3 PROGRAM_END, 4 OPMEM_PARITY, 5
PROG_PARITY. The entry of a PROGRAM_END fault does not fit its field: a free value. -/
def sliceFault (i code : Nat) (injected : Bool) (s : State) : State :=
  let (pc, s) := if code = 3 then ((s.draw).1 % 64, (s.draw).2) else (s.rd SL_PTR_PC i, s)
  let s := if code ≥ 4 then s.incSat SL_FAULT_INFO_PARITY_ERRS i else s
  let s := ((s.wr SL_FAULT_INFO_FAULT_CODE code i).wr SL_FAULT_INFO_FAULT_PC pc i).incSat
    SL_FAULT_INFO_FAULTS i
  raiseInj E.SLICE_FAULT i (code + pc * 16) injected (s.wr SL_STATUS_STATE 4 i)

/-- The bits of an instruction that its opcode lists (R165). -/
def insBits : Nat → Nat
  | 1 => 0xFFFFE00000000000
  | 2 => 0xFC00FFFF0000003F
  | 3 => 0xFFFFC00000000000
  | 4 => 0xFC000000000000FF
  | _ => 0xF000000000000000

/-- Is the instruction invalid: its opcode, a field value, or a reserved bit (R165)? -/
def badIns (ins : Nat) : Bool :=
  let op := bits ins 63 60
  (ins &&& insBits op) != ins ||
  match op with
  | 0 => false
  | 1 =>
    bits ins 59 58 == 3 || bits ins 57 56 == 3 || bits ins 55 54 == 3 || decide (bits ins 51 49 > 4)
      || decide (bits ins 48 46 > 4) || (bits ins 57 56 == 2 && bits ins 55 54 == 2)
  | 2 => bits ins 47 32 == 0 || bits ins 5 0 == 0
  | 3 => decide (bits ins 57 52 > 47) || bits ins 51 50 == 3
  | 4 => bits ins 59 58 == 3
  | 15 => false
  | _ => true

/-- Is a rule of R166 broken by the REPEAT at entry pc? -/
def badNest (u : SliceU) (pc ins : Nat) : Bool :=
  let level := bits ins 59 58
  let body := bits ins 5 0
  let op := fun e => bits (sget 0 u.prog e) 63 60
  u.loops.any (fun l => decide (pc + body ≥ l.start + l.body) || decide (level ≥ l.level))
    || (decide (pc + body < 64) && op (pc + body) == 2)
    || ((List.range body).any fun j => decide (pc + 1 + j < 64) && op (pc + 1 + j) == 15)

/-- The next instruction of a running slice, for the command of an opcode (R165, R166): the instruction when
it has this opcode, the state after a fault, or nothing when the slice is about to do something else. An
execution past entry 63, a parity error and an invalid instruction fault whichever instruction was due. -/
def fetchIns (i opc : Nat) (s : State) : Option (Option Nat × State) :=
  if s.rd SL_STATUS_STATE i != 1 || !sliceRuns s i then none
  else
    let u := s.slice_ i
    let pc := s.rd SL_PTR_PC i
    if u.past then some (none, sliceFault i 3 false s)
    else
      let (inj, s) := takeInj SL_INJECT_INJ_PROG i true s
      if inj || sget 0 u.progBad pc != 0 then some (none, sliceFault i 5 inj s)
      else
        let ins := sget 0 u.prog pc
        if badIns ins then some (none, sliceFault i 1 false s)
        else if bits ins 63 60 == opc then some (some ins, s)
        else none

/-- The operand memory's word at a pointer, and the parity check of a sequencer read (R161). -/
def readOperand (i p : Nat) (s : State) : Option Nat × Bool × State :=
  let u := s.slice_ i
  let (inj, s) := takeInj SL_INJECT_INJ_OPMEM i true s
  if inj || sget 0 u.opBad p != 0 then (none, inj, s) else (some (sget 0 u.opmem p), false, s)

/-- The word that one side of a MAC loads: the state after a parity fault, or the word and the state; no
word when the side holds (R165). -/
def loadSide (i src ptr : Nat) (s : State) : Sum State (Option Nat × State) :=
  match src with
  | 1 =>
    match readOperand i ptr s with
    | (some w, _, s) => .inr (some w, s)
    | (none, inj, s) => .inl (sliceFault i 4 inj s)
  | 2 =>
    match (s.slice_ i).inFifo with
    | w :: t => .inr (some w, s.updSlice i fun u => { u with inFifo := t })
    | [] => .inr (none, s)
  | _ => .inr (none, s)

/-- A MAC issues (R157, R158). -/
def runMac (i ins : Nat) (s : State) : State :=
  let xs := bits ins 57 56
  let ys := bits ins 55 54
  if (xs == 2 || ys == 2) && (s.slice_ i).inFifo.isEmpty then
    (sliceCycles i 1 s).incSat SL_STALL_STALL_IN i
  else
    match loadSide i xs (s.rd SL_PTR_P_X i) s with
    | .inl s => s
    | .inr (x, s1) =>
      match loadSide i ys (s1.rd SL_PTR_P_Y i) s1 with
      | .inl s2 =>
        if xs == 2 then s2.updSlice i fun u => { u with inFifo := (s.slice_ i).inFifo } else s2
      | .inr (y, s) =>
        let s := s.updSlice i fun u => { u with x := x.getD u.x, y := y.getD u.y }
        let u := s.slice_ i
        let (s0, s1) := macSums (bits ins 59 58) (operandLane u.x 27 (bit ins 53)) (operandLane u.y 18 (bit ins 52))
        let op0 := bits ins 51 49
        let op1 := bits ins 48 46
        let (a0, o0) := accOp op0 (bit ins 45) u.acc0 s0
        let (a1, o1) := accOp op1 (bit ins 45) u.acc1 s1
        let s := if o0 then s.wr SL_STATUS_OVF0 1 i else s
        let s := if o1 then s.wr SL_STATUS_OVF1 1 i else s
        let s := (sliceCycles i 1 s).incWrap SL_MACS_MACS i
        let s := s.updSlice i fun u =>
          { u with
            acc0 := a0, acc1 := a1, sinceMac := if op0 != 0 || op1 != 0 then 0 else u.sinceMac }
        retire i s

/-- A STORE issues after its interlock (R159, R167). -/
def runStore (i ins : Nat) (s : State) : State :=
  let s := sliceCycles i (3 - min 3 (s.slice_ i).sinceMac) s
  let u := s.slice_ i
  if bit ins 59 && decide (u.outFifo.length ≥ 8) then
    (sliceCycles i 1 s).incSat SL_STALL_STALL_OUT i
  else
    let (w, sat) := storeWord ins u.acc0 u.acc1
    let s := if sat then s.wr SL_STATUS_STORE_SAT 1 i else s
    let pw := s.rd SL_PTR_P_W i
    let s := if bit ins 59 then s.updSlice i fun u => { u with outFifo := u.outFifo ++ [w] }
      else s.updSlice i fun u =>
        { u with opmem := sput 0 u.opmem pw w, opBad := sput 0 u.opBad pw 0 }
    let s := if bit ins 47 then s.updSlice i fun u => { u with acc0 := 0, acc1 := 0 } else s
    retire i (sliceCycles i 1 s)

/-- A REPEAT is decoded and opens a loop, in no slice cycle (R166). Wrong parity of its level word, or of the window word that
is read with it, is PROG_PARITY (DESIGN CHOICE for the window word, log entry 38: R168 names an instruction fetch and a level
word). -/
def runRepeat (i ins : Nat) (s : State) : State :=
  let u := s.slice_ i
  let pc := s.rd SL_PTR_PC i
  let level := bits ins 59 58
  if badNest u pc ins then sliceFault i 2 false s
  else if sget 0 u.progBad (64 + level) != 0 || sget 0 u.progBad 68 != 0 then sliceFault i 5 false s
  else
    let s := setIter i level 0 s
    (s.wr SL_PTR_PC (pc + 1) i).updSlice i fun u =>
      { u with
        loops := { start := pc + 1, body := bits ins 5 0, level := level, left := bits ins 47 32 - 1 } :: u.loops,
        past := decide (pc + 1 > 63) }

/-- SETP (R165): GEN 0 X, 1 Y, 2 W. -/
def runSetp (i ins : Nat) (s : State) : State :=
  retire i (sliceCycles i 1 (s.wr (ptrField (bits ins 59 58)) (bits ins 7 0) i))

/-- HALT retires: DONE, and SL_DONE goes high (R168, R170). -/
def runHalt (i : Nat) (s : State) : State :=
  ((sliceCycles i 1 s).updSlice i fun u => { u with donePulse := true }).wr SL_STATUS_STATE 3 i

/-- The next instruction of a running slice, whatever its opcode (R165). -/
def runNext (i : Nat) (s : State) : State :=
  let opc := bits (sget 0 (s.slice_ i).prog (s.rd SL_PTR_PC i)) 63 60
  match fetchIns i opc s with
  | none => s
  | some (none, t) => t
  | some (some ins, t) =>
    match opc with
    | 1 => runMac i ins t
    | 2 => runRepeat i ins t
    | 3 => runStore i ins t
    | 4 => runSetp i ins t
    | 15 => runHalt i t
    | _ => retire i (sliceCycles i 1 t)

/-- A command was ignored (R169). -/
def ignoreCmd (i : Nat) (s : State) : State := s.wr SL_STATUS_CMD_IGNORED 1 i

end Sys2Proof.Machine
end

