-- ==== Sys2Proof/Machine/DebugOps.lean ====
section
/-! DEFINITION. The debug port and debug attach (R444 to R459): loading a TAP instruction, the accesses of DBG_MEM,
and the commands to an attached target. -/

namespace Sys2Proof.Machine

open F

/-- Changes the hidden debug state. -/
def updDb (f : DbgSt → DbgSt) (s : State) : State := s.updDbg f

/-- Are run control and debug access permitted (R429): Blank, Developer, Production? -/
def debugPermitted (s : State) : Bool := decide (lifecycle s < 3)

/-- Does the instruction take the pins (R448)? -/
def takesPins (op : Nat) : Bool := op == 0x00 || (decide (0x03 ≤ op) && decide (op ≤ 0x06))

/-- Does the instruction close the ember region while it is selected (R446)? -/
def closesEmber (op : Nat) : Bool := takesPins op || op == 0x01 || op == 0x20 || op == 0x21

/-- The ember region follows the selected instruction (R387, R446): CLOSED while it closes the region, and back in SERVICE where
that is what it left. A region closed during the boot stage stays closed up to its end. -/
def emberFollows (op : Nat) (s : State) : State :=
  if closesEmber op then
    if s.rd SP_STATUS_EMBER_MODE = 1 then updDb (fun d => { d with emberShut := true }) (s.wr SP_STATUS_EMBER_MODE 2)
    else s.wr SP_STATUS_EMBER_MODE 2
  else if s.dbg.emberShut then updDb (fun d => { d with emberShut := false }) (s.wr SP_STATUS_EMBER_MODE 1)
  else s

/-- What Capture-IR loads (R444). -/
def irBits (s : State) : Nat :=
  1 + (if s.rd DB_STATUS_RC_STATE = 0 then 0 else 4) + (if cfgState s = 0 then 0 else 8) +
    s.rd DB_STATUS_DEBUG_PERMITTED * 16

/-- The selected instruction becomes op (R387, R448). -/
def selectIr (op : Nat) (s : State) : State :=
  let s := emberFollows op (s.wr DB_STATUS_INSTRUCTION op)
  if takesPins op then takePins s else returnPins s

/-- Update-IR with opcode op: a pin-taking instruction is loaded as BYPASS while a reel engine is not IDLE (R446,
R448). -/
def loadIr (op : Nat) (s : State) : State :=
  let s := updDb (fun d => { d with irCapture := irBits s }) s
  if takesPins op && (List.range 16).any (fun n => reelState s n != 0) then
    selectIr 0xFF (s.wr DB_STATUS_PIN_REFUSED 1)
  else selectIr op s

/-- What Capture-DR loads. -/
def captureDr (v : Nat) (s : State) : State := updDb (fun d => { d with capture := v }) s

/-! DBG_MEM (R455, R456). -/

/-- The slice index, word and half of a DBG_MEM address of space 11b; none where it names nothing. -/
def sliceAt (a : Nat) : Option (Nat × Bool × Nat × Nat) :=
  let t := bits a 16 10
  let prog := bit a 9
  let w := bits a 8 1
  if 2 ^ 23 ≤ a ∨ 96 ≤ t then none
  else if prog ∧ (68 < w ∨ bits a 0 0 = 1) then none
  else some (bits a 22 17 * 96 + t, prog, w, bits a 0 0)

/-- A debug read of a slice memory word with wrong parity (R161). -/
def debugParity (i code : Nat) (bad : Bool) (s : State) : State :=
  if bad then raise E.SLICE_FAULT i (code + s.rd SL_PTR_PC i * 16) (s.incSat SL_FAULT_INFO_PARITY_ERRS i) else s

/-- The bad lanes of an operand word that a half of it holds, two lanes a half (R156, R161). -/
def halfBad (u : SliceU) (w half : Nat) : Nat := bits (sget 0 u.opBad w) (2 * half + 1) (2 * half) * 4 ^ half

/-- A debug access to a slice memory, in one stolen slice cycle, which passes for a RUNNING slice like any other (R162,
R172, R455): code, data. A slice whose SL_CLK stands has no cycle to steal, and the access answers DOMAIN_CLOSED (DESIGN
CHOICE, log entry 38). -/
def sliceDebug (a : Nat) (write : Bool) (data : Nat) (s : State) : Nat × Nat × State :=
  match sliceAt a with
  | none => (Code.OUT_OF_RANGE, 0, s)
  | some (i, prog, w, half) =>
    if !sliceRuns s i then (Code.DOMAIN_CLOSED, 0, s)
    else if prog && write && s.rd SL_STATUS_STATE i == 1 then (Code.BUSY, 0, s)
    else
      let s := s.incWrap SL_STEAL_STOLEN i
      let s := if s.rd SL_STATUS_STATE i == 1 then sliceCycles i 1 s else s
      let u := s.slice_ i
      match prog, write with
      | true, true =>
        (Code.OK, 0, s.updSlice i fun u =>
          { u with prog := sput 0 u.prog w (data % 2 ^ 64), progBad := sput 0 u.progBad w 0 })
      | true, false => (Code.OK, sget 0 u.prog w, debugParity i 5 (sget 0 u.progBad w != 0) s)
      | false, true =>
        let old := sget 0 u.opmem w
        let v := old - bits old (64 * half + 63) (64 * half) * 2 ^ (64 * half) + data % 2 ^ 64 * 2 ^ (64 * half)
        (Code.OK, 0, s.updSlice i fun u =>
          { u with opmem := sput 0 u.opmem w v, opBad := sput 0 u.opBad w (sget 0 u.opBad w - halfBad u w half) })
      | false, false =>
        (Code.OK, bits (sget 0 u.opmem w) (64 * half + 63) (64 * half), debugParity i 4 (halfBad u w half != 0) s)

/-- A word pair of a configuration frame. -/
def framePair (body p : Nat) : Nat := bits body (64 * p + 63) (64 * p)

/-- The access of DBG_MEM is answered: its code, data and the core cycle from which it may complete. -/
def flyMem (code v due : Nat) (s : State) : State :=
  updDb (fun d => { d with mem := { d.mem with flight := some (code, v, due), fetch := none, parked := none } }) s

/-- DBG_MEM reaches device DRAM (R455), and waits while the channel takes no command for the line (R39, R254, R255,
R408). A refused access is answered 2,048 core cycles later (R270). -/
def landDram (write : Bool) (a data : Nat) (s : State) : State :=
  if accessHeld s (8 * a) 8 && (refusedBy s 0xF020 (8 * a) write).isNone then
    updDb (fun d =>
      { d with mem := { d.mem with flight := some (Code.OK, 0, s.cycle), fetch := none, parked := some (write, a, data) } }) s
  else
    let (code, v, s) :=
      if write then
        let (code, s) := blockWrite 0xF020 (8 * a) (valBytes (leBytes data 8)) s
        (code, 0, s)
      else
        let (r, s) := blockRead 0xF020 (8 * a) 8 s
        (r.code, leNat (byteVals r.data), s)
    flyMem code v (if code = Code.REFUSED then s.cycle + 2048 else s.cycle) s

/-- A DBG_MEM access lands (R455, R456): a refused one is answered 2,048 core cycles later; a frame that is not in the
readback buffer is fetched on a borrowed scrub step. -/
def landMem (write : Bool) (space a data : Nat) (s : State) : State :=
  match space with
  | 0 => landDram write a data s
  | 1 =>
    if 2 ^ 20 ≤ a then flyMem Code.OUT_OF_RANGE 0 s.cycle s
    else
      match padAccess 2 0xF020 (8 * a) 8 (if write then .write else .read) false (valBytes (leBytes data 8)) s with
      | (.now code d, s) => flyMem code (if write then 0 else leNat (byteVals d)) s.cycle s
      | (.refusedEmber, s) => flyMem Code.REFUSED 0 (s.cycle + 2048) s
  | 2 =>
    let b := bits a 26 20
    let f := bits a 19 6
    let p := bits a 5 0
    if write ∨ 2 ^ 27 ≤ a ∨ 0x40 < b ∨ blockFrames b ≤ f ∨ 48 ≤ p then flyMem Code.OUT_OF_RANGE 0 s.cycle s
    else
      match s.dbg.frameBuf with
      | some (l, body) =>
        if l = frameIdx b f then flyMem Code.OK (framePair body p) s.cycle s
        else updDb (fun d => { d with mem := { d.mem with flight := some (Code.OK, 0, s.cycle), fetch := some (frameIdx b f, p) } })
          (borrowFrames 1 s)
      | none =>
        updDb (fun d => { d with mem := { d.mem with flight := some (Code.OK, 0, s.cycle), fetch := some (frameIdx b f, p) } })
          (borrowFrames 1 s)
  | _ =>
    let (code, v, s) := sliceDebug a write data s
    flyMem code v s.cycle s

/-- A frame comes into the readback buffer, in the form of the access in flight (R456). -/
def fetchFrame (s : State) : State :=
  match s.dbg.mem.fetch with
  | none => s
  | some (l, p) =>
    let body := sget 0 s.frames l
    updDb (fun d =>
      { d with
        frameBuf := some (l, body),
        mem := { d.mem with fetch := none, flight := d.mem.flight.map fun e => (e.1, framePair body p, e.2.2) } }) s

/-- An access completes with its code and data, once it is due (R454, R456). -/
def DbgAccess.done (x : DbgAccess) (cycle : Nat) : DbgAccess :=
  match x.flight with
  | some (code, v, due) => if due ≤ cycle then { x with flight := none, code := code, data := v } else x
  | none => x

/-- The code that Capture-DR returns: BUSY after an ignored Update-DR (R454). -/
def DbgAccess.captureCode (x : DbgAccess) : Nat := if x.missed then Code.BUSY else x.code

/-! Debug attach (R457 to R459). -/

/-- A command ends with a code and, for READ, data, where it was sent from (R457, R458). -/
def daEnd (tap : Bool) (code : Nat) (data : Option Nat) (s : State) : State :=
  if tap then
    updDb (fun d => { d with tapCode := code, tapData := data.getD d.tapData }) s
  else
    let s := (s.wr DA_STATUS_CODE code).wr DA_STATUS_BUSY 0
    match data with
    | some v => s.wr DA_DATA_DATA v
    | none => s

/-- What ADDR of a slice's map reads as (R457); none above 07h. -/
def sliceReg (s : State) (i a : Nat) : Option Nat :=
  let u := s.slice_ i
  let word (v hi lo : Nat) : Nat := bits v hi lo
  match a with
  | 0 => some (u.acc0 % 2 ^ 48).toNat
  | 1 => some (u.acc1 % 2 ^ 48).toNat
  | 2 => some (word u.x 63 0)
  | 3 => some (word u.x 127 64)
  | 4 => some (word u.y 63 0)
  | 5 => some (word u.y 127 64)
  | 6 => some (s.rd SL_PTR_P_X i * 2 ^ SL_PTR_P_X.lo + s.rd SL_PTR_P_Y i * 2 ^ SL_PTR_P_Y.lo +
      s.rd SL_PTR_P_W i * 2 ^ SL_PTR_P_W.lo + s.rd SL_PTR_PC i * 2 ^ SL_PTR_PC.lo)
  | 7 => some (s.rd SL_ITER_ITER i)
  | _ => none

/-- Bits 64h + 63 to 64h of a 128-bit word replaced. -/
def putHalf (old half v : Nat) : Nat :=
  old - bits old (64 * half + 63) (64 * half) * 2 ^ (64 * half) + v % 2 ^ 64 * 2 ^ (64 * half)

/-- ADDR of a slice's map is written (R457). -/
def writeSliceReg (i a v : Nat) (s : State) : State :=
  match a with
  | 0 => s.updSlice i fun u => { u with acc0 := toSigned 48 v }
  | 1 => s.updSlice i fun u => { u with acc1 := toSigned 48 v }
  | 2 => s.updSlice i fun u => { u with x := putHalf u.x 0 v }
  | 3 => s.updSlice i fun u => { u with x := putHalf u.x 1 v }
  | 4 => s.updSlice i fun u => { u with y := putHalf u.y 0 v }
  | 5 => s.updSlice i fun u => { u with y := putHalf u.y 1 v }
  | 6 => [SL_PTR_P_X, SL_PTR_P_Y, SL_PTR_P_W, SL_PTR_PC].foldl (fun t f => t.wr f (bits v f.hi f.lo) i) s
  | 7 => s.wr SL_ITER_ITER v i
  | _ => s

/-- An OP on a slice (R457): the state after it, and its code and data. -/
def sliceCommand (k t op a v : Nat) (s : State) : Nat × Option Nat × State :=
  let i := k * 96 + t
  let halted := s.rd SL_STATUS_STATE i == 5
  match op with
  | 2 => (Code.OK, none, haltSlice k t s)
  | 3 =>
    if halted then (Code.OK, none, haltSlice k t (runNext i (s.wr SL_STATUS_STATE 1 i))) else (Code.OK, none, s)
  | 4 => (Code.OK, none, releaseSlice k t s)
  | 5 =>
    match sliceReg s i a with
    | some x => (Code.OK, some x, s)
    | none => (Code.OUT_OF_RANGE, none, s)
  | 6 =>
    if 7 < a then (Code.OUT_OF_RANGE, none, s)
    else if halted then (Code.OK, none, writeSliceReg i a v s)
    else (Code.BUSY, none, s)
  | _ => (Code.OK, none, s)

/-- The attach of a target itself (R457): ATTACH sets the region's bit, DETACH releases every halted slice and clears the
bit when no target stays attached. -/
def attachBit (k t op : Nat) (s : State) : State :=
  match op with
  | 0 =>
    let s := updDb (fun d => { d with attached := (k, t) :: d.attached.filter (· != (k, t)) }) s
    powerWatch (s.setmbit DA_ATTACHED_REGIONS k true)
  | 1 =>
    let s := updDb (fun d => { d with attached := d.attached.filter (· != (k, t)) }) (releaseSlices k s)
    s.setmbit DA_ATTACHED_REGIONS k (s.dbg.attached.any (·.1 == k))
  | _ => s

/-- Is a region closed to debug commands (R457): Damped, Dark, or under swap? -/
def daClosed (s : State) (k : Nat) : Bool :=
  s.rd RG_STATUS_PSTATE k == 2 || s.rd RG_STATUS_PSTATE k == 3 || s.flag RG_STATUS_SWAP k

/-- A command of DA_CMD or DBG_ATTACH (R457, R459): ignored while one runs; one for a soft core is passed to the
fabric and runs until it is acknowledged. -/
def daCommand (tap : Bool) (k t op a v : Nat) (s : State) : State :=
  if !debugPermitted s || s.dbg.da.isSome then s
  else if 6 < op ∨ 103 < t then daEnd tap Code.OUT_OF_RANGE none s
  else if daClosed s k then daEnd tap Code.DOMAIN_CLOSED none s
  else
    let s := attachBit k t op s
    if t < 96 then
      let (code, data, s) := sliceCommand k t op a v s
      daEnd tap code data s
    else
      let s := if op = 2 then updDb (fun d => { d with coreHalt := (k, t) :: d.coreHalt.filter (· != (k, t)) }) s
        else if op = 4 ∨ op = 1 then updDb (fun d => { d with coreHalt := d.coreHalt.filter (· != (k, t)) }) s
        else s
      let s := if tap then s else s.wr DA_STATUS_BUSY 1
      updDb (fun d => { d with da := some { region := k, target := t, op := op, addr := a, data := v, tap := tap, since := s.cycle } }) s

/-- A write of DA_CMD with GO and this OP (R457, R461): the fields take it, and the command is issued. -/
def daWrite (k t op a : Nat) (s : State) : State :=
  if !debugPermitted s then s
  else
    let s := (((s.wr DA_CMD_REGION k).wr DA_CMD_TARGET t).wr DA_CMD_OP op).wr DA_CMD_ADDR a
    daCommand false k t op a (s.rd DA_DATA_DATA) s

/-- The soft-core command ends (R459). -/
def daFinish (code data : Nat) (s : State) : State :=
  match s.dbg.da with
  | none => s
  | some r => daEnd r.tap code (if r.op = 5 then some data else none) (updDb (fun d => { d with da := none }) s)

/-! Run control (R451, R452, R460). -/

/-- A request of run control arrives (R451). -/
def runRequest (f : DbgSt → DbgSt) (s : State) : State := if debugPermitted s then updDb f s else s

/-- HALT is latched (R451): every engine receives its debug halt, unless its completion stands (R460). -/
def latchHalt (s : State) : State :=
  let s := updDb (fun d => { d with latched := s.now }) (s.wr DB_STATUS_RC_STATE 1)
  (List.range 16).foldl (fun t n => if naturalStands t n then t else stopReel n causeDebug t) s

/-- Every HITS and SQ_COUNT clears (R461). -/
def clearDebugCounts (s : State) : State := s.clrAll [NC_HITS_COUNT, TC_HITS_COUNT, EC_HITS_COUNT, SQ_COUNT_HITS]

/-- SEQ_ARM is written (R450): its setting starts the sequencer in state 0 with every count cleared. -/
def armSequencer (on : Bool) (s : State) : State :=
  if !debugPermitted s then s
  else if on && !s.flag DB_CTRL_SEQ_ARM then ((s.wr DB_CTRL_SEQ_ARM 1).wr DB_STATUS_SEQ_STATE 0).clr SQ_COUNT_HITS
  else s.setb DB_CTRL_SEQ_ARM on

end Sys2Proof.Machine
end

