-- ==== Sys2Proof/Machine/Enc.lean ====
section
/-! DEFINITION. The commands of the encryption engine and the key slots (chapters 12 and 20), the late alarm
excepted. -/

namespace Sys2Proof.Machine

open F

/-- Why a KEY_LOAD is refused, if it is, and the key it unwraps (R280, R284, R429). -/
def loadKeyCheck (s : State) (o : Op) : Except Nat (List Nat) :=
  let d1 := o.word 1
  let k := bits d1 5 0
  let slot := bits d1 11 8
  if k = 0 then .error 0x01
  else if keyState s k ≠ 0 then .error 0x02
  else if s.rd SLOT_STATE_STATE 0 slot ≠ 1 ∨ !s.flag SLOT_STATE_MEMORY 0 slot then .error 0x03
  else match kwOpen (sget [] s.enc.slotKeys slot) (byteVals (memBytes (hostImage s o) (o.word 2) 72)) with
    | none => .error 0x04
    | some key =>
      if key.take 32 = key.drop 32 then .error 0x05
      else if lifecycle s ≠ 1 ∧ lifecycle s ≠ 2 then .error 0x06
      else .ok key

/-- A reserved bit or a field that fails R345 is answered as a refusal; the spec gives no reason code for it, so the
reason is a free value (R346). -/
def badField (s : State) : Nat × State :=
  let (v, s) := s.draw
  (v % 256, s)

/-- Has a key operation a reserved bit that is not 0 (R345)? -/
def badWord (o : Op) : Bool := (reservedWord o.desc).isSome

/-- KEY_LOAD (R280): unwraps a key into an EMPTY key ID, or is refused; either way it completes 2,048 core
cycles later. -/
def execKeyLoad (ring : Fin 64) (s : State) : Out :=
  match takeOp s ring 0x30 with
  | none => .next s
  | some o =>
    let k := bits (o.word 1) 5 0
    let (inj, s) := injectedRefusal s
    if inj then .next (refuseKey ring o.idx 1 1 k 0x10 s)
    else if badWord o ∨ o.word 2 % 64 ≠ 0 then
      let (r, s) := badField s
      .next (refuseKey ring o.idx 1 1 k r s)
    else match loadKeyCheck s o with
      | .error r => .next (refuseKey ring o.idx 1 1 k r s)
      | .ok key =>
        let s := updEngine (fun e => { e with keys := sput [] e.keys k key }) (s.wr KEY_STATE_STATE 1 0 k)
        .next (acceptKey ring o.idx 1 k Code.OK 0 0 s)

/-- KEY_ERASE (R280): zeroes the key of a LOADED key ID, or is refused. -/
def execKeyErase (ring : Fin 64) (s : State) : Out :=
  match takeOp s ring 0x31 with
  | none => .next s
  | some o =>
    let k := bits (o.word 1) 5 0
    let (inj, s) := injectedRefusal s
    if inj then .next (refuseKey ring o.idx 2 2 k 0x10 s)
    else if badWord o then
      let (r, s) := badField s
      .next (refuseKey ring o.idx 2 2 k r s)
    else if k = 0 then .next (refuseKey ring o.idx 2 2 k 0x01 s)
    else if keyState s k ≠ 1 then .next (refuseKey ring o.idx 2 2 k 0x0D s)
    else
      let s := updEngine (fun e => { e with keys := sput [] e.keys k [] }) (s.wr KEY_STATE_STATE 0 0 k)
      .next (acceptKey ring o.idx 2 k Code.OK 0 0 s)

/-- A pending fix learns that the retirement of a key ID has been accepted (R286). -/
def noteRetired (k : Nat) (s : State) : State :=
  if s.rd PF_STATE_STATE = 4 ∨ s.rd PF_STATE_STATE = 5 then s.updStage fun g => { g with retired := g.retired ++ [k] } else s

/-- KEY_RETIRE (R280, R281, R286): empties a LOADED key ID at once; an ACTIVE one is RETIRING from the completion
on. -/
def execKeyRetire (ring : Fin 64) (s : State) : Out :=
  match takeOp s ring 0x32 with
  | none => .next s
  | some o =>
    let k := bits (o.word 1) 5 0
    let mode := bits (o.word 1) 8 8
    let target := bits (o.word 1) 21 16
    let (inj, s) := injectedRefusal s
    if inj then .next (refuseKey ring o.idx 3 3 k 0x10 s)
    else if badWord o then
      let (r, s) := badField s
      .next (refuseKey ring o.idx 3 3 k r s)
    else if k = 0 then .next (refuseKey ring o.idx 3 3 k 0x01 s)
    else if keyState s k = 0 ∨ keyState s k = 3 then .next (refuseKey ring o.idx 3 3 k 0x0E s)
    else if mode = 0 ∧ (target = 0 ∨ target = k ∨ (keyState s target ≠ 1 ∧ keyState s target ≠ 2)) then
      .next (refuseKey ring o.idx 3 3 k 0x0F s)
    else
      let walks := keyState s k = 2
      let s := noteRetired k s
      if walks then .next (powerWatch (acceptKey ring o.idx 3 k Code.OK mode target s true))
      else
        let s := updEngine (fun e => { e with keys := sput [] e.keys k [] }) (s.wr KEY_STATE_STATE 0 0 k)
        .next (acceptKey ring o.idx 3 k Code.OK mode target s)

/-- KEY_OP_COMPLETE (R280, R283): the oldest key operation completes, stamped exactly 2,048 core cycles after
its acceptance. -/
def execKeyOpComplete (s : State) : Out :=
  match s.enc.jobs with
  | [] => .next s
  | j :: t =>
    let s := updEngine (fun e => { e with jobs := t }) s
    let (tick, off) := stampAfter s j.tick j.off 2048
    let s := decideOp j.ring j.idx j.code 0 0 s
    let s := s.updOp j.ring j.idx fun o => { o with tick := tick, off := off }
    if j.walks ∧ (keyState s j.kid = 1 ∨ keyState s j.kid = 2) then
      let s := ((s.wr KEY_STATE_STATE 3 0 j.kid).wr KEY_STATE_MODE j.mode 0 j.kid).wr KEY_STATE_TARGET j.target 0 j.kid
      .next (noteRetiring (updEngine (fun e => { e with retiring := e.retiring ++ [j.kid] }) s))
    else .next s

/-- REKEY_WALK_START (R281): at a tick, the walk of the ID whose turn has come starts at its first range. -/
def execRekeyWalkStart (s : State) : Out :=
  if s.offset ≠ 0 then .next s
  else match s.enc.walk, s.enc.retiring with
  | none, k :: _ =>
    let rs := boundRanges s k
    let s := updEngine (fun e => { e with walk := some ⟨k, rs⟩ }) s
    let s := (s.wr EN_STATUS_REKEY_ACTIVE 1).wr EN_STATUS_REKEY_ID k
    let s := match rs with
      | j :: _ => s.wr RK_POS_ADDR (rangeStart s j)
      | [] => s
    .next (noteRetiring s)
  | _, _ => .next s

/-- One line of range j is walked under key ID k (R281). -/
def walkLine (j k addr : Nat) (s : State) : State :=
  if lineReach s addr = Code.OUT_OF_RANGE then s
  else
    let (r, s) := controllerRead addr 0 s
    let (bad, s) :=
      if r.code ≠ Code.OK then
        let (v, s) := s.draw
        (true, integrityFail addr k 0 (v % 65536) false s)
      else
        let (v, s) := s.draw
        checkLine addr k 0 (v % 65536) r.data s
    if bad then
      (poisonLine addr (dequeueWb addr s)).incSat EN_COUNTS_REKEY_POISONED
    else if s.flag KEY_STATE_MODE 0 k then controllerWrite addr (List.replicate 64 0) 0 s
    else
      let (c, t) := encryptLine s j (s.rd KEY_STATE_TARGET 0 k) addr (decryptLine s j k addr r.data)
      controllerWrite addr c t s

/-- REKEY_LINE (R39, R255, R281): the line at the watermark is read, checked and rewritten in unscheduled time, and the
watermark moves on; at most PACE lines a frame. A line of a parked rank or of a channel in self-refresh waits (R263,
R408). -/
def execRekeyLine (s : State) : Out :=
  match s.enc.walk with
  | none => .next s
  | some w =>
    match w.ranges with
    | [] => .next s
    | j :: rest =>
      let addr := s.rd RK_POS_ADDR
      if max 1 (s.rd RK_CTRL_PACE) ≤ s.enc.paced ∨ lineHeld s addr ∨ lineReach s addr = Code.DOMAIN_CLOSED then .next s
      else
        let s := serveFirst (chanOf addr) (s.rd RK_CTRL_PRIO) s
        let s := walkLine j w.kid addr s
        let s := updEngine (fun e => { e with paced := e.paced + 1 }) s
        if addr + 64 < rangeEnd s j then .next (s.wr RK_POS_ADDR (addr + 64))
        else
          let s := updEngine (fun e => { e with walk := some { w with ranges := rest } }) s
          match rest with
          | i :: _ => .next (s.wr RK_POS_ADDR (rangeStart s i))
          | [] => .next (s.wr RK_POS_ADDR (addr + 64))

/-- KEY_RETIRED (R282): the walk has ended; each walked range passes to TARGET or is unbound, the ID is
EMPTY, and the event is raised. -/
def execKeyRetired (s : State) : Out :=
  match s.enc.walk with
  | none => .next s
  | some w =>
    if !w.ranges.isEmpty then .next s
    else
      let k := w.kid
      let zero := s.flag KEY_STATE_MODE 0 k
      let target := s.rd KEY_STATE_TARGET 0 k
      let rs := boundRanges s k
      let s := rs.foldl (fun t j =>
        if zero then (t.wr RANGE_STATUS_STATE 0 0 j).wr RANGE_STATUS_KEY_ID 0 0 j
        else (t.wr RANGE_STATUS_KEY_ID target 0 j).setmbit KEY_STATE_RANGES j true 0 target) s
      let s := if !zero && keyState s target == 1 && !rs.isEmpty then s.wr KEY_STATE_STATE 2 0 target else s
      let s := (((s.wr KEY_STATE_STATE 0 0 k).wr KEY_STATE_MODE 0 0 k).wr KEY_STATE_TARGET 0 0 k).wr KEY_STATE_RANGES 0 0 k
      let s := updEngine (fun e =>
        { e with keys := sput [] e.keys k [], walk := none, retiring := e.retiring.filter (· != k) }) s
      let s := (s.wr EN_STATUS_REKEY_ACTIVE 0).wr EN_STATUS_REKEY_ID 0
      .next (raise E.KEY_RETIRED k 0 (noteRetiring s))

/-- EN_CLEAR_COUNTS (R287): INTEGRITY_FAILS and EN_COUNTS. -/
def execEnClearCounts (s : State) : Out :=
  .next (s.clrAll [INTEGRITY_FAILS_COUNT, EN_COUNTS_REFUSALS, EN_COUNTS_REKEY_POISONED])

/-- What a slot blob holds when it is sound for the slot (R433, R434): the key and the attribute word; else
the reason. -/
def blobCheck (s : State) (slot : Nat) (blob : List Nat) : Except Nat (List Nat × Nat) :=
  let c := lifecycle s
  if c ≠ 1 ∧ c ≠ 2 then .error 0x06
  else if s.rd SLOT_STATE_STATE 0 slot ≠ 0 then .error 0x02
  else if leNat (blob.take 4) ≠ 0x4B53584C ∨ leNat ((blob.drop 4).take 4) ≠ 1 ∨ leNat (blob.drop 0x38) ≠ 0 then
    .error 0x04
  else match kwOpen (slotWrapKey c) ((blob.drop 8).take 48) with
    | none => .error 0x04
    | some p =>
      let a := leNat (p.drop 32)
      if bits a 3 0 ≠ slot ∨ bits a 5 4 = 0 ∨ bits a 7 6 ≠ 0 ∨ bits a 63 12 ≠ 0 then .error 0x04
      else if (s.rd LIMIT_STATUS_REVOKED).testBit (bits a 11 8) then .error 0x03
      else .ok (p.take 32, a)

/-- A sound blob is installed (R434). -/
def installSlot (slot : Nat) (key : List Nat) (a : Nat) (s : State) : State :=
  let s := ((s.wr SLOT_STATE_STATE 1 0 slot).wr SLOT_STATE_CONFIG (bits a 4 4) 0 slot).wr SLOT_STATE_MEMORY
    (bits a 5 5) 0 slot
  updEngine (fun e => { e with slotKeys := sput [] e.slotKeys slot key })
    (s.wr SLOT_STATE_REVOKE_BIT (bits a 11 8) 0 slot)

/-- SLOT_PROVISION (R434), served by Hearth: the key hardware takes the request from the core that holds its
job and decides it; the completion follows 2,048 core cycles later. The detail log gives it no operation
code, so that field is a free value. -/
def execSlotProvision (ring : Fin 64) (s : State) : Out :=
  match hearthTake s ring 0x33 with
  | none => .next s
  | some o =>
    let slot := bits (o.word 1) 3 0
    let (v, s) := s.draw
    if badWord o ∨ o.word 2 % 64 ≠ 0 then
      let (r, s) := badField s
      .next (refuseKey ring o.idx 4 (v % 256) 0 r s)
    else match blobCheck s slot (byteVals (memBytes (hostImage s o) (o.word 2) 64)) with
      | .error r => .next (refuseKey ring o.idx 4 (v % 256) 0 r s)
      | .ok (key, a) => .next (acceptKey ring o.idx 4 0 Code.OK 0 0 (installSlot slot key a s))

end Sys2Proof.Machine
end

