-- ==== Sys2Proof/Machine/Ddr.lean ====
section
/-! DEFINITION. The DDR channels' commands (chapter 11). -/

namespace Sys2Proof.Machine

open F

/-- Is a rank busy with a fallback refresh (R253)? tRFC2 is the DRAM's: a fallback of this or the last frame may still keep
the rank busy. -/
def fallbackBusy (s : State) (c rank : Nat) : Bool :=
  let t := sget 0 (ddr_ s c).fellBack rank
  t != 0 && decide (s.cycle + 1 - t ≤ s.period)

/-- DDR_REFRESH_WINDOW (R252, R265): the window of the frame's entry k opens, a fallback that its rank is due goes first, and
one REFsb goes to its BANK. waits: the window ends before a rank busy with a fallback is free (R253). delays are the read delays that a
ZQ calibration or DQS oscillator read after the REFsb adjusts (R261). -/
def execDdrRefreshWindow (k : Nat) (waits : Bool) (delays : List (Nat × Nat)) (s : State) : Out :=
  match opening s 0x40 k with
  | none => .next s
  | some e =>
    let s := windowStart e s
    let c := e.unit
    let rank := bits e.param 5 4
    if chanState s c ≠ 2 ∨ rankCount s c ≤ rank then .next (openWin k e true s)
    else
      let s := rankFallback c rank s
      let (inj, s) := takeInj DC_INJECT_INJ_REFMISS c true s
      let waits := waits && fallbackBusy s c rank
      let subs := (List.range 2).filter fun u => (bits e.param 9 8).testBit u
      if inj || waits then
        let s := updDdr_ c (fun u => { u with missed := u.missed ++ subs.map fun x => (rank, x, inj) }) s
        .next (openWin k e false s)
      else
        let s := refreshNow c (subs.map fun x => 8 * rank + 4 * x + bits e.param 1 0) s
        let s := delays.foldl (fun t (q, v) => if q < 20 then t.wr TR_DQS_READ_DQS v c q else t) s
        .next (openWin k e true s)

/-- A refresh-management command for a bank takes from its accumulated activates (R254). -/
def rfmIssue (c : Nat) (e : Nat × Nat × Nat × Nat) (s : State) : State :=
  let drfm := s.flag DC_CONFIG_DRFM c
  let key := 64 * e.1 + 32 * e.2.1 + e.2.2.1
  updDdr_ c (fun u =>
    { u with
      rfmOut := u.rfmOut ++ [(drfm, e.1, e.2.1, e.2.2.1, if drfm then e.2.2.2 else 0)]
      raa := sput 0 u.raa key (sget 0 u.raa key - Config.raaStep c) }) s

/-- The banks that take no further activate and have no command in the queue (R254). -/
def blockedBanks (s : State) (c : Nat) : List (Nat × Nat × Nat × Nat) :=
  let u := ddr_ s c
  if s.flag DC_CONFIG_RFM_REQUIRED c then
    ((u.raa.filter fun e => decide (Config.raaMax c ≤ e.2)).map fun e => (e.1 / 64, e.1 / 32 % 2, e.1 % 32, 0)).filter
      fun b => !u.rfm.any fun q => q.1 == b.1 && q.2.1 == b.2.1 && q.2.2.1 == b.2.2.1
  else []

/-- DDR_RFM_SPARE_WINDOW (R43, R254): up to OPPS queued commands are issued, oldest first, of which the window has time
for fit; the rest are carried and counted. Opportunities left over go to banks that take no further activate (DESIGN
CHOICE, log entry 31). -/
def execDdrRfmSpareWindow (k : SpareWindow) (s : State) : Out :=
  let fit := k.fit
  let k := k.idx
  match opening s 0x41 k with
  | none => .next s
  | some e =>
    let s := windowStart e s
    let c := e.unit
    if chanState s c ≠ 2 then .next (openWin k e true s)
    else
      let q := (ddr_ s c).rfm
      let opps := min fit (bits e.param 7 0)
      let n := min q.length opps
      let extra := (blockedBanks s c).take (opps - n)
      let s := (s.incWrap DC_RFM_COUNTS_RFM_ISSUED c 0 (n + extra.length)).incSat DC_RFM_COUNTS_RFM_CARRIED c 0 (q.length - n)
      let s := updDdr_ c (fun u => { u with rfm := u.rfm.drop n, rfmOut := [] })
        (s.wr DC_STATUS_RFM_LEVEL (q.length - n) c)
      let s := (q.take n ++ extra).foldl (fun t x => rfmIssue c x t) s
      .next (openWin k e (decide (n = min q.length (bits e.param 7 0))) s)

/-- DDR_SCRUB_WINDOW (R257, R258): the patrol scrubber reads up to QUOTA lines, of which the channel delivers
up to lines, unless it is ahead of its pace. -/
def execDdrScrubWindow (k lines : Nat) (s : State) : Out :=
  match opening s 0x42 k with
  | none => .next s
  | some e =>
    let s := windowStart e s
    if chanState s e.unit ≠ 2 then .next (openWin k e true s)
    else
      let (complete, s) := scrubLines e.unit e.param lines (bits e.param 23 8) s
      .next (openWin k e complete s)

/-- FALLBACK_REFRESH (R253, R263): a REFab goes to a rank and subchannel whose refresh was missed or is due, outside the
channel's data windows; a parked rank's is counted apart. The requests that waited for it are served. -/
def execFallbackRefresh (c : Fin 8) (rank : Fin 4) (sub : Fin 2) (s : State) : Out :=
  .next (serveWaiting c (fallbackRefresh c rank sub s))

/-- MR4_READ (R251): MR4 reports a doubled refresh rate on the ranks of the mask; a change is shown and
raised, and the intervals follow at the next tick. -/
def execMr4Read (c : Fin 8) (doubled : Fin 16) (s : State) : Out :=
  if chanState s c ≠ 2 then .next s
  else
    let (inj, s) := takeInj FI_MISC_INJECT_INJ_MR4 0 (decide (s.rd FI_MISC_INJECT_UNIT = c.val)) s
    let now := doubled.val % 2 ^ rankCount s c ||| (if inj then 1 else 0)
    if now = s.rd DC_STATUS_RATE_2X c then .next s
    else .next (raiseInj E.DDR_REFRESH_RATE c now inj (s.wr DC_STATUS_RATE_2X now c))

/-- WRITE_BACK (R249): the oldest line of the write-back queue is written back in unscheduled time, after the fallback
refreshes that the channel is due (R253). -/
def execWriteBack (c : Fin 8) (s : State) : Out := .next (writeBackOne c (chanFallback c s))

/-- TRAINING_PASS (R261, R266): one pattern pass while TRAINING, at whose end BUSY falls; errs lists the bit
errors found, by bit. -/
def execTrainingPass (c : Fin 8) (errs : List (Nat × Nat)) (s : State) : Out :=
  if chanState s c ≠ 1 then .next (s.wr DC_STATUS_TR_IGNORED 1 c)
  else .next ((List.range 80).foldl (fun t b => t.wr TR_ERR_ERRORS (min 65535 (sget 0 errs b)) c b)
      (s.wr TR_STATUS_BUSY 0 c))

/-- The 128 lines of a row of a soft repair are copied out and written back (R263). -/
def copyRow (c rank sub bank row : Nat) (s : State) : State :=
  let base := c * 2 ^ 37 + rank * rankBytes s c + row * 2 ^ 19 + bank / 4 * 2 ^ 16 + bank % 4 * 2 ^ 14 + sub * 64
  (List.range 128).foldl (fun t b =>
    let addr := base + b * 128
    match decodeLine addr 0 t with
    | (.clean, _, t) => t
    | (.corrected, _, t) => dequeueWb addr (t.updDramBad fun m => sput 0 m (addr / 64) 0)
    | (_, _, t) => poisonLine addr (dequeueWb addr t)) s

/-- A soft repair of a row is made, and is then in force (R263). -/
def softRepair (c : Nat) (row : Nat × Nat × Nat × Nat) (s : State) : State :=
  let s := updDdr_ c (fun u => { u with sppr := u.sppr ++ [row] }) s
  copyRow c row.1 row.2.1 row.2.2.1 row.2.2.2 (s.wr DC_REPAIR_SPPR_ACTIVE (ddr_ s c).sppr.length c)

/-- Bytes from an address that lie in a rank of a channel. -/
def touchesRank (s : State) (c rank addr n : Nat) : Bool :=
  let lo := c * 2 ^ 37 + rank * rankBytes s c
  decide (lo < addr + n) && decide (addr < lo + rankBytes s c)

/-- Is a hard block at work whose reservations to a channel may name a rank (R263): a DMA move, a DEBUG_READ, a
configuration load, a walk? -/
def blockNames (s : State) (c rank : Nat) : Bool :=
  (s.ops.any fun o =>
    o.phase == .running && o.opcode == 0x01 &&
      ((bits (o.word 3) 33 32 != 0 && touchesRank s c rank (o.word 1) (bits (o.word 3) 31 0)) ||
        (bits (o.word 3) 33 32 != 1 && touchesRank s c rank (o.word 2) (bits (o.word 3) 31 0)))) ||
    (s.rd CFG_STATUS_STATE != 0 && s.cfg.src == 1 && touchesRank s c rank s.cfg.addr s.cfg.len) ||
    (s.enc.walk.isSome && touchesRank s c rank (s.rd RK_POS_ADDR) 64)

/-- Why Hearth refuses a repair of a rank (R263); full says that the bank group has no repair resource left, and held that
an unscheduled initiator holds a reservation that names the rank. -/
def repairRefusal (s : State) (c rank : Nat) (hard full held : Bool) : Nat :=
  if rankScheduled s c rank then Code.INCONSISTENT
  else if full then Code.LIMIT_REACHED
  else if chanState s c != 2 || (List.range 8).any fun d => (ddr_ s d).repair.isSome then Code.BUSY
  else if hard && held then Code.BUSY
  else Code.OK

/-- The repairs of a written-back record that are not in force are applied one at a time (R262): the code of the first
refusal. Bit i of full says that the bank group of the i-th has no repair resource left. -/
def applyRepairs (c full : Nat) (rows : List (Nat × Nat × Nat × Nat)) (s : State) : Nat × State :=
  rows.zipIdx.foldl (fun (acc : Nat × State) e =>
    if (ddr_ acc.2 c).sppr.contains e.1 then acc
    else
      let code := repairRefusal acc.2 c e.1.1 false (full.testBit e.2) false
      (firstCode acc.1 code,
        if code = Code.OK then raise E.DDR_REPAIR_DONE c e.1.1 (softRepair c e.1 acc.2) else acc.2)) (Code.OK, s)

/-- TRAIN_RECORD (R262), served by Hearth: DIR 0 writes the saved record to host memory; DIR 1 adopts a
written-back one that matches the channel, applying its repairs first. matched is what the written-back record holds beside
its repairs, repairs lists those, and bit i of refusal says that the bank group of the i-th has no repair resource left. -/
def execTrainRecord (ring : Fin 64) (matched : TrainImage) (refusal : Nat) (_applied : Unit)
    (repairs : List (Nat × Nat × Nat × Nat))
    (s : State) : Out :=
  match hearthTake s ring 0x71 with
  | none => .next s
  | some o =>
    let c := bits (o.word 1) 2 0
    let addr := o.word 2
    let s := runOp ring o.idx s
    if bit (o.word 1) 8 then
      if !imageMatches (s.rd DC_CONFIG_RATE c) (topologyOf s c) (ddr_ s c).spd matched then .next (decideOp ring o.idx Code.INCONSISTENT 0 0 s)
      else
        let rec_ : TrainRec := ⟨memBytes (hostImage s o) addr 4096, repairs, matched⟩
        let (code, s) := applyRepairs c refusal repairs (s.updRecords fun m => (c, rec_) :: m.filter (·.1 != c))
        .next (decideOp ring o.idx code 0 0 s)
    else
      let (bytes, s) := match s.records.find? (·.1 == c) with
        | some (_, r) => (r.bytes, s)
        | none => let (v, s) := s.draw; (valBytes (leBytes v 4096), s)
      .next (decideOp ring o.idx Code.OK 0 0 (hostPut o addr bytes s))

/-- DDR_REPAIR (R263), served by Hearth: refused in four cases, else the rank is parked. noResource: the DRAM
has no repair resource left; held: a hard block at work on the rank holds a reservation at this instant. The requests of
the network that hold one are state. -/
def execDdrRepair (ring : Fin 64) (noResource held : Bool) (s : State) : Out :=
  match hearthTake s ring 0x72 with
  | none => .next s
  | some o =>
    let w := o.word 1
    let c := bits w 2 0
    let rank := bits w 5 4
    let s := runOp ring o.idx s
    let held := (held && blockNames s c rank) || s.noc.xacts.any fun x =>
      x.dst == portDdr c && !x.sched && x.landingSpace && (placeOf s (c * 2 ^ 37 + x.addr)).rank == rank
    let code := repairRefusal s c rank (bit w 56) noResource held
    if code ≠ Code.OK then .next (decideOp ring o.idx code 0 0 s)
    else
      let r : Repair := ⟨ring.val, o.idx, rank, bits w 8 8, bits w 20 16, bits w 48 32, bit w 56⟩
      .next (updDdr_ c (fun u => { u with repair := some r }) (s.setmbit DC_STATUS_PARKED rank true c))

/-- A hard repair leaves the poison pattern in every line of the rank (R263). -/
def poisonRank (c rank : Nat) (s : State) : State :=
  let lo := c * 2 ^ 37 + rank * rankBytes s c
  let hi := lo + rankBytes s c
  let keep (m : List (Nat × Nat)) := m.filter fun e => decide (e.1 < lo / 64) || decide (hi / 64 ≤ e.1)
  let s := ((s.updDramPoison keep).updDramTags keep).updDramBad keep
  let s := s.updDram fun m => m.filter fun e => decide (e.1 < lo) || decide (hi ≤ e.1)
  s.updDramWhole fun m => sput 0 m (4 * c + rank) 1

/-- DDR_REPAIR_DONE (R263): the repair ends, the rank is unparked, and the service completes. -/
def execDdrRepairDone (c : Fin 8) (s : State) : Out :=
  match (ddr_ s c).repair with
  | none => .next s
  | some r =>
    let s := updDdr_ c (fun u => { u with repair := none }) s
    let s :=
      if r.hard then poisonRank c r.rank (s.incSat DC_REPAIR_HPPR_DONE c)
      else
        (softRepair c (r.rank, r.sub, r.bank, r.row) s).updRecords fun m =>
          m.map fun (d, t) =>
            if d = c.val then (d, { t with repairs := t.repairs ++ [(r.rank, r.sub, r.bank, r.row)] }) else (d, t)
    let s := raise E.DDR_REPAIR_DONE c r.rank (s.setmbit DC_STATUS_PARKED r.rank false c)
    .next (decideOp r.ring r.idx Code.OK 0 0 s)

/-- DC_CLEAR_COUNTS (R266): the counters at 0020h to 0038h. -/
def execDcClearCounts (c : Fin 8) (s : State) : Out :=
  .next (s.clrAllInst [DC_SCRUB_PASSES_PASSES, DC_SCRUB_PASSES_LATE_PASSES, DC_REFRESH_COUNTS_FALLBACK_MISSED,
    DC_REFRESH_COUNTS_FALLBACK_AGE, DC_REFRESH_MORE_UNSCHEDULED_REFRESH, DC_REFRESH_MORE_PARKED_REFRESH,
    DC_RFM_COUNTS_RFM_ISSUED, DC_RFM_COUNTS_RFM_CARRIED, DC_RFM_COUNTS_RFM_OVERFLOW, DC_CORRECTED_CORRECTED,
    DC_UE_COUNTS_UNCORR, DC_UE_COUNTS_POISON_READS, DC_UE_COUNTS_WB_SKIPPED] c)

/-- DC_CLEAR_LOGS (R266): UE_LOG and CE_LOG. -/
def execDcClearLogs (c : Fin 8) (s : State) : Out :=
  .next (updDdr_ c (fun u => { u with ceNext := 0 })
    (s.clrAllInst [UE_LOG_ADDR, UE_LOG_SOURCE, UE_LOG_VALID, UE_LOG_TICK, CE_LOG_ADDR, CE_LOG_DEVICE,
      CE_LOG_VALID, CE_LOG_TICK] c))

/-- What the tick does to a channel: the intervals of R251 follow RATE_2X, and a port that waits opens
(R260, R264). -/
def ddrTick (c : Nat) (s : State) : State :=
  let s := if (ddr_ s c).openAtTick then setPort (portDdr c) 0 s else s
  let halved := s.rd DC_STATUS_RATE_2X c
  updDdr_ c (fun u => { u with halved := halved, openAtTick := false }) s

end Sys2Proof.Machine
end

