-- ==== Sys2Proof/Machine/FixOps.lean ====
section
/-! DEFINITION. The close of a fix's APPLY window (R67, R405). -/

namespace Sys2Proof.Machine

open F

/-- The APPLY window of a fix tick closes (R67, R405): the fix's completion may be written, FIX_APPLIED is raised with the SET_ID
of the set that was fixed, the fix is counted, and the switches of its CLOCK_SELECT items start. A window still open at the end of its frame has
closed by then. -/
def closeApply (s : State) : State :=
  match s.stage.applied with
  | none => s
  | some (r, k) =>
    let switches := s.stage.switches
    let s := raise E.FIX_APPLIED 0 s.stage.appliedSet s
    let s := (s.incWrap FIX_COUNT_FIXES).wr LAST_FIX_TICK_TICK s.now
    let s := s.updStage fun g => { g with applied := none, switches := [] }
    switches.foldl (fun t d => startSwitch d t) (releaseOp r k s)

end Sys2Proof.Machine
end

