-- ==== Sys2Proof/Machine/IoOps.lean ====
section
/-! DEFINITION. The I/O banks (R487 to R498): which pins drive, what the global frames give them, and what happens to
them at a tick. Pin p of bank b has the key 48b + p. -/

namespace Sys2Proof.Machine

open F

/-- Changes the hidden state of the I/O banks. -/
def updPins (f : IoSt → IoSt) (s : State) : State := s.updIo f

/-- May the region that drives a pin drive it now (R490): not Dark, not being loaded, not under swap? -/
def driverRuns (s : State) (q : Nat) : Bool :=
  match sget 0 s.io.drivers q with
  | 0 => true
  | k + 1 => s.rd RG_STATUS_PSTATE k != 3 && !(s.region_ k).held && !s.flag RG_STATUS_SWAP k

/-- Does a pin drive its ball (R488, R490, R492, R498)? -/
def pinDrives (s : State) (b p : Nat) : Bool :=
  s.flag CFG_STATUS_GLOBAL_LOADED && decide (2 ≤ s.rd PIN_STATUS_DIR b p) && !s.flag PIN_STATUS_SHUT b p &&
    !s.flag BK_STATUS_VCCO_MISMATCH b && s.dbg.pins != 2 && driverRuns s (48 * b + p)

/-- The STRETCH of a pin's source (R114, R491). -/
def sourceStretch (s : State) (b p : Nat) : Nat :=
  s.rd STB_CFG_STRETCH (s.rd PIN_STATUS_SOURCE b p / 2) (s.rd PIN_STATUS_SOURCE b p % 2)

/-- How a pin is classified (R496): 0 no STROBE output, 1 long-pulse, 2 short-pulse. -/
def pinClass (s : State) (b p : Nat) : Nat :=
  if !s.flag PIN_STATUS_STROBE b p then 0 else if 30 ≤ sourceStretch s b p then 1 else 2

/-- A check's result, or its loss, is DIAG from the next tick on (R496, R508; log entry 60). -/
def diagAtTick (b p v : Nat) (s : State) : State := s.updTickWrites (· ++ [⟨PIN_STATUS_DIAG, b, p, v⟩])

/-- A pin that changes class enters the first state of its new row (R496): NONE, UNCHECKED or NOT_DIAGNOSABLE. -/
def classify (b p : Nat) (s : State) : State :=
  let c := pinClass s b p
  if c = sget 0 s.io.classes (48 * b + p) then s
  else
    updPins (fun u => { u with classes := sput 0 u.classes (48 * b + p) c, missed := u.missed.filter (· != 48 * b + p) })
      (s.wr PIN_STATUS_DIAG (if c = 0 then 0 else if c = 1 then 1 else 4) b p)

/-- The global frames of a released FULL load give every pin its settings and every bank its VCCO class (R487, R488,
R491): pins lists pin key, the settings in the places of PIN_STATUS, and the driving region plus 1, one that its bank serves (R130). -/
def pinRelease (pins : List (Nat × Nat × Nat)) (banks : List (Nat × Nat)) (s : State) : State :=
  let fs := [PIN_STATUS_STANDARD, PIN_STATUS_DIR, PIN_STATUS_DIAG_OK, PIN_STATUS_SOURCE, PIN_STATUS_STROBE]
  let s := s.clrAll (BK_STATUS_VCCO_CLASS :: fs)
  let s := (banks.filter fun e => decide (e.1 < 8)).foldl (fun t e => t.wr BK_STATUS_VCCO_CLASS e.2 e.1) s
  let ok := pins.filter fun e => decide (e.1 < 384)
  let s := ok.foldl (fun t e =>
    fs.foldl (fun u f =>
      if f.id = PIN_STATUS_STROBE.id ∧ 4 ≤ e.1 % 48 then u
      else u.wr f (bits e.2.1 f.hi f.lo) (e.1 / 48) (e.1 % 48)) t) s
  let touches := fun (e : Nat × Nat × Nat) => decide (0 < e.2.2) && bankOf (e.2.2 - 1) == some (e.1 / 48)
  updPins (fun u => { u with drivers := (ok.filter touches).foldl (fun m e => sput 0 m e.1 (e.2.2 % 65)) [] }) s

/-- RETRY of a pin at the tick (R493). -/
def retryPin (q : Nat) (s : State) : State :=
  let b := q / 48
  let p := q % 48
  if s.flag PIN_STATUS_SHUT b p && !s.flag BK_STATUS_VCCO_MISMATCH b then
    ((s.wr PIN_STATUS_SHUT 0 b p).setmbit BK_SHUT_PINS p false b).incSat BK_COUNTS_RETRIES b
  else s

/-- What a tick does at the pins: retries, and the classification of the STROBE-capable pins (R493, R496). -/
def ioTick (s : State) : State :=
  let s := s.io.retries.foldl (fun t q => retryPin q t) s
  let s := updPins (fun u => { u with retries := [] }) s
  (List.range 32).foldl (fun t x => classify (x / 4) (x % 4) t) s

/-- A pin is SHUT (R492). -/
def shutPin (b p : Nat) (s : State) : State :=
  let s := ((s.wr PIN_STATUS_SHUT 1 b p).setmbit BK_SHUT_PINS p true b).incSat BK_COUNTS_SHUTS b
  updPins (fun u => { u with pulses := u.pulses.filter (· != 48 * b + p) }) (s.incSat PIN_STATUS_CONTENTIONS b p)

/-- The nominal voltage of a VCCO class in mV (R488, R508). -/
def classMv : Nat → Nat
  | 1 => 1200
  | 2 => 1500
  | 3 => 1800
  | _ => 0

/-- A bank's VCCO is measured (R488). -/
def measureVcco (b mv : Nat) (s : State) : State :=
  let s := s.wr BK_STATUS_VCCO_MV mv b
  let c := s.rd BK_STATUS_VCCO_CLASS b
  let v := classMv c
  let off := if v < mv then mv - v else v - mv
  if c = 0 then s.wr BK_STATUS_VCCO_MISMATCH 0 b
  else if v < 10 * off then
    updPins (fun u => { u with pulses := u.pulses.filter (· / 48 != b) }) (s.wr BK_STATUS_VCCO_MISMATCH 1 b)
  else if 100 * off ≤ 7 * v then s.wr BK_STATUS_VCCO_MISMATCH 0 b
  else s

end Sys2Proof.Machine
end

