-- ==== Sys2Proof/Machine/TickOps.lean ====
section
/-! DEFINITION. The tick (R27, R33, R44, R49 to R52): what ends with a frame and what begins with the next, and
the setting of the tick number by a mark or a time message. -/

namespace Sys2Proof.Machine

open F

/-- Does a catch block compare whose cross-checker has failed its test (R468)? Its frames are TAINTED. -/
def checkerLost (s : State) : Bool :=
  (List.range 16).any fun n => s.mbit FI_CHECK_STATUS_CMP_LOST n && (catch_ s n).bursts.any fun b => !b.ended

/-- The frame that ends is logged when its status is not clean, its FRAME_OVERRUN record is complete, and
FRAMES_ALIGNED is due after a run of unaligned frames (R42, R44, R49). The tick is already the next. -/
def closeFrame (ended : Nat) (s : State) : State :=
  let t := s.tick
  let s := match t.ovrRec with
    | none => s
    | some r =>
      if masked E.FRAME_OVERRUN s then s
      else pushRecord { r with arg := t.ovrFirst + min t.ovrCount 4095 * 65536 } s
  let word := (if t.ovrCount = 0 then 0 else 1 + min t.ovrCount 4095 * 16 + t.ovrFirst * 65536) +
    (if t.unaligned then 4 else 0) + (if t.tainted then 8 else 0)
  let s := if word = 0 then s else writeLog ended word s
  let s := if t.prevUnaligned && !t.unaligned then raise E.FRAMES_ALIGNED 0 ended s else s
  updTck (fun t =>
    { t with
      ovrRec := none, ovrCount := 0, ovrFirst := 0, prevUnaligned := t.unaligned, unaligned := false,
      tainted := false }) s

/-- Writes that waited for the tick take effect (R12); one of MODE waits for its own rule (R49), and MODE 3 and
MARK_DIV 7 leave their fields unchanged (R54). A monitor begins a new window when its COMPARE changes (R411, log entry 47). -/
def takeTickWrites (s : State) : State :=
  let modes := s.tickWrites.filter fun w => w.fld.id == ALIGN_CTRL_MODE.id && w.v != 3
  let s := updTck (fun t => { t with modeDue := match modes.getLast? with
    | none => t.modeDue
    | some w => some w.v }) s
  let moved := (s.tickWrites.filter fun w => w.fld.id == MON_CFG_COMPARE.id && w.v != s.rd w.fld w.i w.j).map (·.j)
  let s := s.updClk fun c => { c with changed := moved }
  let s := applyTickWrites (s.updTickWrites fun l => l.filter fun w =>
    w.fld.id != ALIGN_CTRL_MODE.id && !(w.fld.id == ALIGN_CTRL_MARK_DIV.id && w.v == 7))
  moved.foldl (fun t m => startWindow m t) s

/-- What the units do at the tick after the frame `ended`. -/
def unitTicks (ended : Nat) (cred : Bool) (cycles : Nat) (s : State) : State :=
  let s := (List.range 16).foldl (fun t n => reelTick n (catchTick ended n t)) s
  let s := (List.range 8).foldl (fun t c => ddrTick c t) s
  let s := dispTick (enqueueStalled s || ringWaitsForEntries s) (nocTick s)
  let s := if cred then watchdogTick s else s
  let s := ioTick (powerTick (ringTick (meshTick (workerFrames cred cycles s))))
  padTick (s.updEnc fun e => { e with paced := 0 })

/-- Run control enters HALTED (R451, R453): the first halted tick is recorded and, with HALT_CORES in Developer,
the management cores enter DEBUG_HALT. -/
def enterHalted (s : State) : State :=
  let s := raise E.DEBUG_HALTED 0 0 ((s.wr DB_STATUS_RC_STATE 2).wr DB_HALT_TICK_TICK s.now)
  if s.flag DB_CTRL_HALT_CORES && lifecycle s == 1 then
    let held := (List.range 4).filterMap fun c => if coreState s c < 2 then some (c, coreState s c) else none
    let s := held.foldl (fun t e => setCore e.1 4 t) (s.wr DB_STATUS_CORES_HALTED 1)
    s.updDbg fun d => { d with cores := held }
  else s

/-- Run control leaves HALTED at this tick, for RUN (0) or STEPPING (3) (R451 to R453). -/
def leaveHalted (st : Nat) (s : State) : State :=
  let s := serveDispatch 64 (noteJobs (advanceUnscheduled (releaseMissed (endHaltRun (s.wr DB_STATUS_RC_STATE st)))))
  let s := s.dbg.cores.foldl (fun t e => if coreState t e.1 = 4 then setCore e.1 e.2 t else t) s
  (s.wr DB_STATUS_CORES_HALTED 0).updDbg fun d => { d with cores := [] }

/-- The current frame, after so many core cycles, gives way to the frame of tick number `tick`. -/
def frameTurn (tick cycles : Nat) (s : State) : State :=
  let ended := s.now
  let cred := credited s
  let s := judgeAll (closeApply (noteUnaligned false s))
  let s := if checkerLost s then markFrame s else s
  let s := if s.rd DB_STATUS_RC_STATE ≠ 2 then s
    else
      let s := updTck (fun t => { t with haltRun := match t.haltRun with
        | none => some (ended, 1)
        | some (f, n) => some (f, n + 1) }) s
      missStart ended ended (if fixPending s && s.rd PF_FIX_TICK_T == ended then abortFix s else s)
  let s := (s.wr TICK_NOW_TICK tick).wr FRAME_OFFSET_OFFSET 0
  let missed := if !cred then some ended else if ended + 1 < tick then some (ended + 1) else none
  let s := updTck (fun t =>
    { t with base := t.base + cycles, opened := [], cut := false, lateFrom := t.lateFrom <|> missed }) s
  let s := s.wr SCHED_POS_INDEX (frameIndex s tick)
  let s := s.updEv fun v => { v with once := [] }
  let s := takeTickWrites (closeFrame ended s)
  let s := if s.tick.modeDue.isSome then s else noteUnaligned false s
  let s := if s.rd DB_STATUS_RC_STATE = 3 then enterHalted s else s
  let s := burnValid (reachApply s)
  let s := if credited s && !haltDue s then s else updTck (fun t => { t with lateFrom := t.lateFrom <|> some tick }) s
  let s := unitTicks ended cred cycles s
  comparatorHits (tickHits 0 s) s

/-- The next tick (R27): the frame's last core cycle has passed. -/
def nextTick (s : State) : State :=
  let n := s.period
  let s := fabricCycle (passTo (n - 1) s)
  frameTurn (s.now + 1) n s

/-- The tick number jumps, at this core cycle, over the ticks between (R50 to R52): reel starts and a fix on
the skipped ticks end. -/
def jumpTick (tick : Nat) (s : State) : State :=
  let first := s.now + 1
  let s := frameTurn tick (s.offset + 1) (fabricCycle s)
  if first < tick then
    let s := missStart first (tick - 1) s
    let t := s.rd PF_FIX_TICK_T
    if fixPending s && decide (first ≤ t) && decide (t < tick) then abortFix s else s
  else s

/-- The tick number is set on the exit from DEGRADED (R51): the uncredited ticks are logged, and TICK_RESUMED
raised at the first credited tick. -/
def resumeTick (tick : Nat) (s : State) : State :=
  let first := s.now + 1
  let s := updTck (fun t => { t with awaitTick := false, phaseSet := true }) s
  let s := jumpTick (max tick first) (endHaltRun s)
  let n := s.now - first
  raise E.TICK_RESUMED 0 n (logGap first n s)

/-- ALIGN_TICK is loaded at the epoch mark or message that arrives in ACQUIRING (R49). -/
def loadEpoch (s : State) : State :=
  let t := s.rd ALIGN_TICK_EPOCH
  if s.now < t then
    let s := (s.wr ALIGN_CTRL_ARM 0).wr ALIGN_STATUS_EPOCH_DONE 1
    jumpTick t (updTck (fun u => { u with phaseSet := true }) s)
  else
    let s := s.wr ALIGN_STATUS_EPOCH_MISMATCH 1
    setAlign 0 false (raise E.TICK_MISMATCH 0 s.now s)

/-- A position as PHASE_ERR holds it: signed, saturating at 127 either way (R54). -/
def phaseErr (err : Int) : Nat := ((max (-127) (min 127 err)) % 256).toNat

/-- A mark of SYNC mode within 8 core cycles of the expected tick, at err/64 core cycles from it (R49). -/
def markInWindow (epoch : Bool) (err : Int) (s : State) : State :=
  let s := (s.wr ALIGN_STATUS_PHASE_ERR (phaseErr err)).incSat ALIGN_STATUS_IN_WINDOW
  let count := if err < 0 then s.now + 1 else s.now
  let s := updTck (fun t => { t with missRun := 0 }) s
  let check := epoch && s.flag ALIGN_CTRL_ARM
  match alignState s with
  | 1 =>
    let s := if check && s.tick.acqFrom == .degraded then epochCheck count s else s
    countClose (decide (err.natAbs ≤ 64)) s
  | 2 => trimPhase err (if check then epochCheck count s else s)
  | 3 =>
    let s := setAlign 2 false s
    trimPhase err (if check then epochCheck count s else s)
  | _ => s

/-- Where a mark stands, in 1/64 core cycle, against the expected tick moved by SYNC_DELAY (R49, R54; log entry 28). -/
def markError (s : State) (pos : Int) : Int :=
  let d := s.rd SYNC_DELAY_DELAY
  pos - (if d < 8192 then (d : Int) else d - 16384)

/-- A mark of SYNC mode, epoch or plain, at pos/64 core cycles from the expected tick before SYNC_DELAY (R49,
R51). The mark that sets the tick number after DEGRADED does nothing else: an epoch mark among them is not also a check
of a set ARM, which stays set for the next one (DESIGN CHOICE, log entry 74). -/
def syncMark (epoch : Bool) (pos : Int) (s : State) : State :=
  let err := markError s pos
  if alignMode s ≠ 1 then s
  else if alignState s = 4 then updTck (fun t => { t with marksFrozen := t.marksFrozen + 1 }) s
  else if s.tick.awaitTick then
    resumeTick (s.now + (s.tick.marksFrozen + 1) * 2 ^ s.rd ALIGN_CTRL_MARK_DIV) s
  else if alignState s = 1 && s.tick.acqFrom == .arm && !s.tick.phaseSet then
    if epoch then loadEpoch s else s
  else if err.natAbs ≤ 512 then
    let (inj, s) := takeInj FI_TICK_INJECT_INJ_SYNC_MISS 0 true s
    if inj then missMark true s else markInWindow epoch err s
  else s

end Sys2Proof.Machine
end

