-- ==== Sys2Proof/Machine/Host.lean ====
section
/-! DEFINITION. The commands of the host interface (chapter 15). An operation is named by its ring and by the name that
the model gives its index (`ownIdx`). -/

namespace Sys2Proof.Machine

open F

/-- A doorbell write while READY is 0 is discarded and counted (R334). -/
def doorbell (s : State) (f : State → State) : Out :=
  .next (if s.flag HI_STATUS_READY then f s else s.incSat HI_COUNTS_EARLY_DOORBELLS)

/-- COMMAND_DOORBELL (R338): a new producer index p for ring r. -/
def execCommandDoorbell (r : Fin 64) (p : Nat) (s : State) : Out :=
  doorbell s fun s =>
    let p := p % 2 ^ 32
    let (inj, s) := takeInj HI_INJECT_INJ_DOORBELL 0 (s.rd HI_INJECT_RING == r.val) s
    let ok := decide (idxDiff p (s.rd CR_CONS_INDEX 0 r) ≤ ringSize s r) &&
      decide (idxDiff p (s.rd CR_PROD_INDEX 0 r) < 2 ^ 31)
    if ok && !inj then s.wr CR_PROD_INDEX p 0 r
    else raiseInj E.DOORBELL_BAD r p inj (s.wr CR_STATUS_DB_ERR 1 0 r)

/-- COMPLETION_DOORBELL (R340): a new read index v for completion ring r. -/
def execCompletionDoorbell (r : Fin 64) (v : Nat) (s : State) : Out :=
  doorbell s fun s =>
    let v := v % 2 ^ 32
    if idxDiff (s.rd CQ_WR_INDEX 0 r) v ≤ ringSize s r then s.wr CQ_RD_INDEX v 0 r
    else s.wr CR_STATUS_RD_ERR 1 0 r

/-- EVENT_DOORBELL (R340): a new read index v for the event ring. -/
def execEventDoorbell (v : Nat) (s : State) : Out :=
  doorbell s fun s =>
    let v := v % 2 ^ 32
    if idxDiff (s.rd EV_WR_INDEX) v ≤ eventSize s then s.wr EV_RD_INDEX v else s.wr EV_STATUS_RD_ERR 1

/-- DESCRIPTOR_CONSUME (R339, R343, R345, R354): the next descriptor of ring r is read; fails says that the link
fails the read. -/
def execDescriptorConsume (r : Fin 64) (fails : Bool) (s : State) : Out :=
  let d := nextDescriptor s r
  if !mayConsume s r d then .next s
  else
    let c := s.rd CR_CONS_INDEX 0 r
    let (inj, s) := takeInj HI_INJECT_INJ_FETCH 0 (s.rd HI_INJECT_RING == r.val) s
    if fails || inj then .next (haltRing r c false inj s)
    else
      let s := s.incWrap CR_CONS_INDEX 0 r
      let k := ownIdx s r c
      .next (if s.flag CR_CFG_PROXY 0 r then proxyDescriptor r k d s else acceptDescriptor r k d s)

/-- OUTCOME_LATCH (R351): the decided outcome of an operation is latched. -/
def execOutcomeLatch (r : Fin 64) (idx : Nat) (s : State) : Out := .next (latchOp r idx s)

/-- COMPLETION_WRITE (R340, R342, R343, R353, R354): the next completion of ring r that may be written; fails says that
the link fails the write, which halts a RUNNING ring, and leaves the completion of a DRAINING one held. -/
def execCompletionWrite (r : Fin 64) (fails : Bool) (s : State) : Out :=
  match nextReady s r with
  | none => .next s
  | some o =>
    if o.lost then .next (answered o (s.incSat HI_COUNTS_LOST_COMPLETIONS))
    else if !o.own then .next (answered o (returnCompletion o s))
    else if ringState s r = 3 then .next s
    else
      let k := s.rd CQ_WR_INDEX 0 r
      if fails then .next (if ringState s r = 1 then haltRing r k true false s else s)
      else
        let s := writeEntry (s.rd CQ_BASE_ADDR 0 r) (ringSize s r) k (completionWords o) s
        .next (answered o (countEntry r (s.incWrap CQ_WR_INDEX 0 r)))

/-- MSIX_TIMER (R342): TIME frames after the first entry that no message has covered, one is sent. -/
def execMsixTimer (r : Fin 64) (s : State) : Out :=
  let (n, first) := sget (0, 0) s.host.uncovered r
  let t := s.rd CR_IRQ_TIME 0 r
  .next (if n = 0 ∨ t = 0 ∨ s.now < first + t then s
    else sendMsix (s.rd CR_CFG_VECTOR 0 r)
      (updHst (fun h => { h with uncovered := sput (0, 0) h.uncovered r (0, 0) }) s))

/-- EVENTS_LOST is the first record written once room has returned (R341). -/
def writeLost (s : State) : State :=
  let n := s.ev.lostRun
  let rec_ := mkRecord E.EVENTS_LOST 0 n false s
  let s := (countEvent E.EVENTS_LOST 0 false s).updEv fun v => { v with seq := (v.seq + 1) % 65536, lostRun := 0 }
  let s := s.wr EV_STATUS_OVERFLOW 0
  let s := if masked E.EVENTS_LOST s then s else writeRecord rec_ s
  comparatorHits ((eventHits E.EVENTS_LOST.id s).map (· + 24)) s

/-- EVENT_RECORD_WRITE (R341, R464): one record is written to the event ring while it runs and has room. -/
def execEventRecordWrite (s : State) : Out :=
  if !eventRoom s then .next s
  else if 0 < s.ev.lostRun then .next (writeLost s)
  else match s.ev.fifo with
    | [] => .next s
    | e :: rest => .next (writeRecord e (s.updEv fun v => { v with fifo := rest }))

/-- A command ring starts (R337, R343), or stays DISABLED with CFG_ERR. While READY is 0 no ring is enabled. -/
def startRing (r : Nat) (s : State) : State :=
  let n := s.rd CR_CFG_SIZE_LOG2 0 r
  if !s.flag HI_STATUS_READY then s
  else if n < 4 ∨ 16 < n ∨ s.rd CR_BASE_ADDR 0 r % 4096 ≠ 0 ∨ s.rd CQ_BASE_ADDR 0 r % 4096 ≠ 0 then
    s.wr CR_STATUS_CFG_ERR 1 0 r
  else
    let s := [CR_CONS_INDEX, CR_PROD_INDEX, CQ_WR_INDEX, CQ_RD_INDEX, CR_STATUS_HALT_WRITE].foldl
      (fun t f => t.wr f 0 0 r) s
    let s := updHst (fun h =>
      { h with runs := sput 0 h.runs r (sget 0 h.runs r + 1), uncovered := sput (0, 0) h.uncovered r (0, 0) }) s
    (s.wr CR_CFG_ENABLE 1 0 r).wr CR_STATUS_STATE 1 0 r

/-- CR_CFG of ring r is written (R337, R343): the size and PROXY change only while the ring is DISABLED. -/
def writeRingCfg (r v : Nat) (s : State) : State :=
  let st := ringState s r
  let s := s.wr CR_CFG_VECTOR (bits v 18 8) 0 r
  let s := if st = 0 then (s.wr CR_CFG_SIZE_LOG2 (bits v 4 0) 0 r).setb CR_CFG_PROXY (bit v 6) 0 r
    else if bits v 4 0 ≠ s.rd CR_CFG_SIZE_LOG2 0 r then s.wr CR_STATUS_CFG_ERR 1 0 r
    else s
  if bit v 5 then
    if st = 0 then startRing r s
    else if st = 3 && bit v 7 then (s.wr CR_STATUS_STATE 1 0 r).wr CR_STATUS_HALT_WRITE 0 0 r
    else s
  else
    let s := s.wr CR_CFG_ENABLE 0 0 r
    if st = 1 ∨ st = 3 then settleRing r (s.wr CR_STATUS_STATE 2 0 r) else s

/-- RING_ENABLE (R337, R343): v with ENABLE 1 is written to CR_CFG of ring r. -/
def execRingEnable (r : Fin 64) (v : Nat) (s : State) : Out := .next (if bit v 5 then writeRingCfg r v s else s)

/-- RING_DISABLE (R343): v with ENABLE 0 is written to CR_CFG of ring r. -/
def execRingDisable (r : Fin 64) (v : Nat) (s : State) : Out := .next (if bit v 5 then s else writeRingCfg r v (noteStall s))

/-- RING_RESUME (R343): v with RESUME 1 is written to CR_CFG of ring r; the failed access is retried by the
command that makes it. -/
def execRingResume (r : Fin 64) (v : Nat) (s : State) : Out := .next (if bit v 7 then writeRingCfg r v s else s)

/-- EV_CFG is written (R337, R343). -/
def writeEventCfg (v : Nat) (s : State) : State :=
  let running := s.flag EV_STATUS_RUNNING
  let s := s.wr EV_CFG_VECTOR (bits v 26 16)
  let s := if !running then s.wr EV_CFG_SIZE_LOG2 (bits v 4 0)
    else if bits v 4 0 ≠ s.rd EV_CFG_SIZE_LOG2 then s.wr EV_STATUS_CFG_ERR 1
    else s
  if !bit v 5 then (s.wr EV_CFG_ENABLE 0).wr EV_STATUS_RUNNING 0
  else if running || !s.flag HI_STATUS_READY then s
  else
    let n := s.rd EV_CFG_SIZE_LOG2
    if n < 6 ∨ 16 < n ∨ s.rd EV_BASE_ADDR % 4096 ≠ 0 then s.wr EV_STATUS_CFG_ERR 1
    else (((s.wr EV_WR_INDEX 0).wr EV_RD_INDEX 0).wr EV_CFG_ENABLE 1).wr EV_STATUS_RUNNING 1

/-- EVENT_RING_ENABLE (R337, R343): v is written to EV_CFG. -/
def execEventRingEnable (v : Nat) (s : State) : Out := .next (writeEventCfg v s)

/-- HI_CLEAR_COUNTS (R357). -/
def execHiClearCounts (s : State) : Out :=
  .next (s.clrAll [HI_COUNTS_WIDTH_ERRS, HI_COUNTS_EARLY_DOORBELLS, HI_COUNTS_LOST_COMPLETIONS, EV_LOST_COUNT,
    CR_COUNTS_REJECTED, CR_COUNTS_STALL_FRAMES])

/-- LINK_RESET (R332, R353, R477, R481): a reset of the LINK domain by PERST_N going low, a hot reset, or a Function
Level Reset (kind 0, 1, 2), which leaves the link up. The boot stage or Hearth sets READY again within 1 ms (R484). -/
def execLinkReset (kind : Fin 3) (s : State) : Out :=
  let flr := kind.val == 2
  let s := if kind.val = 0 then s.updBoot fun b => { b with perst := false } else s
  let width := s.rd HI_STATUS_WIDTH
  let speed := s.rd HI_STATUS_SPEED
  let s := linkReset (noteStall s)
  .next (if flr then (s.wr HI_STATUS_WIDTH width).wr HI_STATUS_SPEED speed
    else refreshGateway (s.wr HI_STATUS_LINK_UP 0))

/-- D3HOT_ENTRY (R332, R353): every ring is disabled as a LINK reset does. -/
def execD3hotEntry (s : State) : Out :=
  .next ((dropHostOps (noteStall s)).clrAll [CR_CFG_ENABLE, CR_STATUS_STATE, CR_STATUS_HALT_WRITE, EV_CFG_ENABLE, EV_STATUS_RUNNING])

/-- PROXY_TIMEOUT (R354): no completion has come back in time. -/
def execProxyTimeout (r : Fin 64) (idx : Nat) (s : State) : Out :=
  .next (if s.host.proxied.any fun e => e.1 == r.val && e.2.1 == idx && decide (e.2.2 ≤ s.cycle) then
      decideOp r idx Code.ABORTED 0 (2 ^ 61)
        (updHst (fun h => { h with proxied := h.proxied.filter fun e => !(e.1 == r.val && e.2.1 == idx) }) s)
    else s)

/-- NOP (R346). -/
def execNop (r : Fin 64) (s : State) : Out :=
  match takeOp s r 0x00 with
  | none => .next s
  | some o => .next (decideOp r o.idx Code.OK 0 0 s)

/-- DMA_MOVE (R347): a move starts, or is rejected where a device range does not lie within one channel's range. -/
def execDmaMove (r : Fin 64) (s : State) : Out :=
  match takeOp s r 0x01 with
  | none => .next s
  | some o =>
    .next (match moveCheck s o.desc with
      | some (code, fld) => decideOp r o.idx code fld 0 s
      | none => runOp r o.idx s)

/-- DMA_MOVE_DONE (R347): a running move writes its last line, or the link fails after so many lines. -/
def execDmaMoveDone (r : Fin 64) (idx : Nat) (failedAt : TransferEnd) (s : State) : Out :=
  match opAt s r idx with
  | none => .next s
  | some o =>
    if o.opcode ≠ 0x01 ∨ o.phase ≠ .running then .next s
    else match failedAt.failedAt with
      | some n => .next (endMove o n true true s failedAt.upset)
      | none => .next (if moveRests s o then s else endMove o (2 ^ 22) false false s failedAt.upset)

/-- The checks of DEBUG_READ (R348): alignment, and that what is named exists. -/
def debugCheck (s : State) (space src len : Nat) : Option (Nat × Nat) :=
  let u := debugUnit space
  let frame := bits src 15 14 == 0 && bits src 63 23 == 0 && decide (bits src 22 16 ≤ 0x40)
  let align := firstFail [
    if (if space = 4 then frame else src % u == 0) then none else some (Code.BAD_ALIGN, 9),
    if len % u = 0 then none else some (Code.BAD_ALIGN, 11)]
  let size := match space with
    | 0 => if src < 2 ^ 40 then src / 2 ^ 37 * 2 ^ 37 + s.dramCapacity (chanOf src) else 0
    | 1 => 0x800000
    | 2 => 0x4000000
    | 3 => 0x100000
    | _ => blockFrames (bits src 22 16) * 384
  let first := if space = 4 then bits src 13 0 * 384 else src
  firstFail [align, inRange (decide (first < size)) 9, inRange (decide (first + len ≤ size)) 11]

/-- Does the data of a DEBUG_READ wait for its channel (R39, R255, R408)? -/
def debugRests (s : State) (o : Op) : Bool :=
  let len := bits (o.word 4) 31 0
  bits (o.word 1) 3 0 == 0 && (dramRests s (o.word 2) len || accessHeld s (o.word 2 + len - 64) 64)

/-- DEBUG_READ (R348): data read through the debug master is written to host memory; the link may fail after so many
units. The command checks and starts the oldest accepted one, and ends it where its data is at hand; a later one ends it
otherwise. -/
def execDebugRead (r : Fin 64) (failedAt : TransferEnd) (s : State) : Out :=
  let running := s.ops.find? fun o => o.ring == r.val && o.opcode == 0x02 && o.phase == .running && !isProxied s o.ring o.idx
  match (takeOp s r 0x02).or running with
  | none => .next s
  | some o =>
    match debugCheck s (bits (o.word 1) 3 0) (o.word 2) (bits (o.word 4) 31 0) with
    | some (code, fld) => .next (decideOp r o.idx code fld 0 s)
    | none =>
      let s := runOp r o.idx s
      .next (match failedAt.failedAt with
        | some n => endDebug o n true true s failedAt.upset
        | none => if failedAt.begins || debugRests s o then s else endDebug o (2 ^ 20) false false s failedAt.upset)

/-- ABORT (R352, R354): it waits for the next tick. INDEX names an operation of the device's own ring, or, in an
ABORT of a gateway, of that gateway's ring. -/
def execAbort (r : Fin 64) (s : State) : Out :=
  match takeOp s r 0xF0 with
  | none => .next s
  | some o =>
    let ring := bits (o.word 1) 5 0
    let k := bits (o.word 2) 31 0
    let named := if o.own then ownIdx s ring k else k + o.idx / 2 ^ 32 % 8192 * 2 ^ 32
    let a : AbortReq := { ring := r, idx := o.idx, frame := s.now, onRing := ring, onIdx := named,
                           named := (opAt s ring named).isSome }
    .next (updHst (fun h => { h with aborts := h.aborts ++ [a] }) (runOp r o.idx s))

/-- HOST_ABORT_LATCH (R352): the ABORTs that arrived in an earlier frame are latched; moved is the number of lines that a
running transfer has moved. -/
def execHostAbortLatch (moved : Nat) (s : State) : Out :=
  let due := s.host.aborts.filter fun a => decide (a.frame < s.now)
  let s := updHst (fun h => { h with aborts := h.aborts.filter fun a => !decide (a.frame < s.now) }) s
  .next (due.foldl (latchHostAbort moved) s)

/-- The lanes of the host link that the boot directory names (R480, R481): 0 none, 1 x8, 2 x16. -/
def pcieLanes (s : State) : Nat :=
  if s.boot.dir.isEmpty then 2 else min 2 (bits (s.boot.dir.getD 0x0C 0).toNat 1 0)

/-- May the endpoint train (R481): MEMORY has begun and the directory names a host link, or WAIT_IMAGE brings it up
(R482), and PERST_N is high? -/
def mayTrainLink (s : State) : Bool :=
  decide (4 ≤ s.rd BOOT_STATUS_STAGE) && s.boot.perst && (pcieLanes s != 0 || s.rd BOOT_STATUS_STAGE == 8)

/-- Can the link train to a width (1 x8, 2 x16) and a speed (1 to 5): group 16 holds the PCIE role, and for x16 group 17
too (R289, R305)? -/
def linkFits (s : State) (width speed : Nat) : Bool :=
  width != 0 && speed != 0 && groupRole s 16 == 3 && (width == 1 || groupRole s 17 == 3)

/-- PCIE_LINK_UP (R305, R326, R332, R448, R481): the link has trained, with a width and a speed; not while the pins are
taken. -/
def execPcieLinkUp (width : Fin 3) (speed : Fin 6) (s : State) : Out :=
  if s.dbg.pins = 2 || !mayTrainLink s || !linkFits s width speed then .next s
  else .next (refreshGateway (((s.wr HI_STATUS_LINK_UP 1).wr HI_STATUS_WIDTH width).wr HI_STATUS_SPEED speed))

end Sys2Proof.Machine
end

