-- ==== Sys2Proof/Machine/BootOps.lean ====
section
/-! DEFINITION. Reset and boot (chapter 23): what each kind of reset keeps (R477, R485), the boot directory (R480),
the entry to Recovery (R430), and what each boot stage leaves (R478). -/

namespace Sys2Proof.Machine

open F

/-- The fields of the POR domain, and those that show a fuse (R13, R485). -/
def fuseFields : List Fld :=
  ((regTable.map (·.fields)).flatten.filter fun f => f.acc == .fuse) ++
    [MS_STATUS_ADDR, MS_STATUS_ADDR_VALID, MS_STATUS_ADDR_LOCKED]
def porFields : List Fld := (regTable.map (·.fields)).flatten.filter fun f => f.dom == .por && f.acc != .fuse

/-- Every register at its value after a reset, but for the fields kept. -/
def resetRegs (keep : List Fld) (s : State) : List (Nat × List (Nat × List (Nat × Nat))) :=
  keep.foldl (fun r f => sput [] r f.id (sget [] s.regs f.id)) State.reset.regs

/-- LC_STATUS.STATE and DEBUG_PERMITTED follow the fused state until IMAGE (R485). -/
def followFused (s : State) : State :=
  let l := s.rd LC_STATUS_FUSED_STATE
  (s.wr LC_STATUS_STATE l).setb DB_STATUS_DEBUG_PERMITTED (decide (l < 3))

/-- A DEVICE reset (R477, R485), with its LAST_CAUSE: the ember region and the keys are wiped, every frame cleared, and
every register of the DEVICE, LINK and REGION domains reset; an address that is not locked goes (R309), and the ember region is CLOSED
where the selected instruction closes it (R387). The contents of the
scratchpad are device state and go too (R13). The fuses, the change log, the POR domain, the saved training records and
the TAP controller are kept, and with them what lies outside the device, DRAM among it (log entry 61). The boot stage
then runs from CLOCK. -/
def deviceReset (cause : Nat) (s : State) : State :=
  let n := s.rd RS_STATUS_DEVICE_RESETS
  let d := s.dbg
  let s : State :=
    { State.reset with
      pending := s.pending, drawn := s.drawn, hostMem := s.hostMem, flash := s.flash, records := s.records,
      dram := s.dram, dramTags := s.dramTags, dramBad := s.dramBad, dramPoison := s.dramPoison,
      dramWhole := s.dramWhole,
      stage := { fuses := s.stage.fuses },
      dbg := { irCapture := d.irCapture, capture := d.capture, boundary := d.boundary, pins := d.pins,
               jtagRefused := d.jtagRefused, reg := d.reg, mem := d.mem, tapCode := d.tapCode,
               tapData := d.tapData },
      boot := { perst := s.boot.perst },
      regs := resetRegs (DB_STATUS_INSTRUCTION :: fuseFields ++ porFields) s }
  let s := if s.flag LIMIT_STATUS_ADDR_LOCKED then s else (s.wr MS_STATUS_ADDR 0).wr MS_STATUS_ADDR_VALID 0
  let s := if closesEmber (s.rd DB_STATUS_INSTRUCTION) then s.wr SP_STATUS_EMBER_MODE 2 else s
  followFused ((s.wr RS_STATUS_LAST_CAUSE cause).wr RS_STATUS_DEVICE_RESETS (min 65535 (n + 1)))

/-- A limited change that a power loss meets before its value fuses are burnt has not happened (R73): its old value
stands. -/
def unburn (j : FuseJob) (s : State) : State :=
  let old := bits j.word1 47 32
  match bits j.word1 3 0 with
  | 1 => s.wr LC_STATUS_FUSED_STATE old
  | 2 => s.wr LIMIT_STATUS_ANTI_ROLLBACK old
  | 3 =>
    let n := s.rd LIMIT_STATUS_ADDR_REWRITES
    if n = 0 then
      (((s.wr LIMIT_STATUS_ADDR_LOCKED 0).wr MS_STATUS_ADDR_LOCKED 0).wr MS_STATUS_ADDR 0).wr MS_STATUS_ADDR_VALID 0
    else (s.wr LIMIT_STATUS_ADDR_REWRITES (n - 1)).wr MS_STATUS_ADDR old
  | 4 => s.wr LIMIT_STATUS_REVOKED old
  | _ => s

/-- How far the programming of the oldest limited change has come at a power loss (R73): 0 no value fuse burnt, 1 the
value, 2 the value and the log entry with VALID, without COMMIT. Younger changes are
unburnt. -/
def powerLoss (burnt : Nat) (s : State) : State :=
  let s := match s.stage.fuses with
    | [] => s
    | j :: t =>
      let s := t.reverse.foldl (fun x k => unburn k x) s
      if j.valid ∨ 2 ≤ burnt then (burnEntry j s).incSat LIMIT_STATUS_LOG_USED
      else if burnt = 0 then unburn j s
      else s
  s.updStage fun g => { g with fuses := [] }

/-- A POR (R444, R477): fuses are sensed, scratchpad remaps and training records cleared, the TAP controller reset, and
a DEVICE reset follows. Power-off loses the contents of DRAM and the scratchpad (R419). -/
def porReset (bootsel : Nat) (s : State) : State :=
  let keep := resetRegs fuseFields s
  let s := (((((s.updDram fun _ => []).updDramTags fun _ => []).updDramBad fun _ => []).updDramPoison
    fun _ => []).updDramWhole fun _ => []).updRecords fun _ => []
  let s := ((s.updScratch fun _ => []).updSp fun _ => {}).updDbg fun _ => {}
  let s := deviceReset 1 (s.updRegs fun _ => keep)
  (s.wr RS_STATUS_DEVICE_RESETS 0).wr RS_STATUS_BOOTSEL bootsel

/-- The boot stage (BOOT_STATUS.STAGE, R478): 1 CLOCK, 2 DIRECTORY, 3 IMAGE, 4 MEMORY, 5 KEYS, 6 FABRIC, 7 SERVICE, 8
WAIT_IMAGE. -/
def bootStage (s : State) : Nat := s.rd BOOT_STATUS_STAGE

/-- What the status balls STAT2 to STAT0 drive (R478): low until POR ends, then the value of the stage. -/
def statBalls (s : State) : Nat :=
  if s.boot.por then 0
  else match bootStage s with
    | 5 | 6 => 5
    | 7 => 6
    | 8 => 7
    | n => n

/-- The next boot stage. -/
def setBoot (n : Nat) (s : State) : State := s.wr BOOT_STATUS_STAGE n

/-- Does a stage run: the device is not held in POR, and the boot has not ended? -/
def inStage (n : Nat) (s : State) : Bool := bootStage s == n && !s.boot.por && !s.flag HM_STATUS_BOOT_DONE

/-- The copy of the boot directory at a flash offset, when its MAGIC, FORMAT, CRC and reserved bytes are right (R480). -/
def directoryAt (m : Mem) (off : Nat) : Option (List Byte) :=
  let d := memBytes m off 256
  let reserved := [6, 7, 0x0D, 0x0E, 0x0F] ++ (List.range 0x7C).map (0x80 + ·)
  if memRd m off 4 = 0x4244584C ∧ memRd m (off + 4) 2 = 1 ∧ crc32 (d.take 0xFC) = memRd m (off + 0xFC) 4 ∧
      reserved.all (fun b => d.getD b 0 == 0) then some d
  else none

/-- The boot directory in use (R480), and MON_NOMINAL of the references (R478, R480). -/
def takeDirectory (copy : Nat) (d : List Byte) (s : State) : State :=
  let s := updBt (fun b => { b with dir := d }) (s.wr BOOT_STATUS_DIR_COPY copy)
  (List.range 4).foldl (fun t i =>
    let v := dirWord t (0x10 + 4 * i) 4
    if v = 0 then t else t.wr MON_NOMINAL_KHZ v 0 i) s

/-- Entry to Recovery, or its refusal (R430), when no image is runnable or the host has asked for it. -/
def recovery (runnable : Bool) (s : State) : State :=
  let fused := s.rd LC_STATUS_FUSED_STATE
  if lifecycle s = 3 ∨ !(fused = 1 ∨ fused = 2) ∨ (runnable ∧ !s.flag LC_STATUS_RECOVERY_REQ) then s
  else
    let used := s.rd LIMIT_STATUS_RECOVERY_USED
    let k := s.rd LIMIT_STATUS_LOG_USED + s.stage.fuses.length
    if 7 ≤ used ∨ 64 ≤ k then s.wr LC_STATUS_RECOVERY_DENIED 1
    else
      let word1 := 1 + 0x81 * 2 ^ 8 + 3 * 2 ^ 16 + fused * 2 ^ 32 + 2 ^ 62 + 2 ^ 63
      let s := (s.wr LIMIT_STATUS_RECOVERY_USED (used + 1)).wr CHANGE_LOG_ENTRY (s.now + word1 * 2 ^ 64) 0 k
      let s := (s.incSat LIMIT_STATUS_LOG_USED).wr LC_STATUS_RECOVERY_REQ 0
      disarm (emberWipe 3 (clearLogs (s.wr LC_STATUS_STATE 3)))

/-- The PCIE role of the groups that the directory names (R289, R305, R481): every field but ROLE is 0, and the
endpoint runs from group 16's pair at 100 MHz. -/
def setPcie (lanes : Nat) (s : State) : State :=
  if lanes = 0 then s
  else
    let s := (List.range lanes).foldl (fun t j =>
      let g := 16 + j
      updPll (lpll g) (fun _ => { phase := .run })
        (((t.wr LG_ROLE_WORD0 3 g).wr LG_PLL_WORD1 0 g).wr LG_STATUS_PLL_STATE 2 g)) s
    refreshGateway (s.wr MON_NOMINAL_KHZ 100000 0 20)

/-- The rate code that a population runs at (R244): the highest that its DRAM declares, its topology and the speed
grade permit. -/
def ddrRate (s : State) (cfg : Nat) : Nat :=
  min (bits cfg 3 0) (if bit cfg 8 || s.rd GL_GRADE_SPEED == 2 then 5 else 7)

/-- Does the population fit R244? cfg has the layout of DC_CONFIG. -/
def ddrFits (cfg : Nat) : Bool :=
  let ranks := bits cfg 5 4
  bits cfg 3 0 != 0 && ranks != 0 && bits cfg 7 6 != 3 && (if bit cfg 8 then ranks != 1 else ranks != 3) &&
    decide ((if ranks = 3 then 4 else ranks) * (32 + 16 * bits cfg 7 6) ≤ 128)

/-- A channel's training ends (R244, R261, R262, R264): outcome 0 a record restored and verified, 1 trained, 2 TOPOLOGY, 3
MARGIN, 4 SIDEBAND. A population that does not fit fails as TOPOLOGY; a restore needs a saved record that matches, and gives
the channel its delays. The soft repairs that a saved record lists are applied again (R263). -/
def trainChannel (e : ChannelBoot) (outcome : Nat) (injected : Bool) (s : State) : State :=
  let c := e.chan
  let cfg := e.cfg
  let outcome := if 2 < outcome then outcome else if ddrFits cfg then outcome else 2
  if 2 ≤ outcome then
    raiseInj E.DDR_TRAIN_FAIL c (outcome - 1) injected ((s.wr DC_STATUS_STATE 4 c).wr DC_STATUS_FAIL_CAUSE (outcome - 1) c)
  else
    let s := (((s.wr DC_CONFIG_RATE (ddrRate s cfg) c).wr DC_CONFIG_RANKS (bits cfg 5 4) c).wr DC_CONFIG_DENSITY
      (bits cfg 7 6) c).setb DC_CONFIG_TWO_DIMMS (bit cfg 8) c
    let s := (s.setb DC_CONFIG_DRFM (bit cfg 9) c).setb DC_CONFIG_RFM_REQUIRED (bit cfg 10) c
    let s := s.wr DC_CAPACITY_BYTES (rankCount s c * rankBytes s c) c
    let rate := s.rd DC_CONFIG_RATE c
    let saved := (s.records.find? (·.1 == c)).map (·.2)
    let restored := outcome == 0 && (saved.any fun r => imageMatches rate (topologyOf s c) e.spd r.image)
    let repairs := (saved.map (·.repairs)).getD []
    let s := updDdr_ c (fun u => { u with sppr := repairs, spd := e.spd })
      ((s.wr DC_STATUS_TRAIN_SOURCE (if restored then 2 else 1) c).wr DC_REPAIR_SPPR_ACTIVE repairs.length c)
    let s := match saved, restored with
      | some r, true => setDelays c r.image.deskew r.image.dqs s
      | _, _ =>
        let (v, s) := s.draw
        let image : TrainImage :=
          { rate := rate, topology := topologyOf s c, spd := e.spd, deskew := e.deskew, dqs := e.dqs }
        (setDelays c e.deskew e.dqs s).updRecords fun m =>
          (c, ⟨valBytes (leBytes v 4096), repairs, image⟩) :: m.filter (·.1 != c)
    let t := s.cycle
    updDdr_ c (fun u =>
      { u with
        scrubSince := t, scrubPass := t, openAtTick := true, missed := [], fellBack := [],
        refreshed := if t = 0 then [] else (List.range 32).map fun k => (k, t) }) (s.wr DC_STATUS_STATE 2 c)

/-- A slot blob of the boot directory is provisioned (R434); one that is not sound is refused and logged. -/
def provision (slot : Nat) (s : State) : State :=
  let off := dirWord s (0x40 + 4 * slot) 4
  if off = 0 then s
  else match blobCheck s slot (byteVals (memBytes s.flash off 64)) with
    | .ok (key, a) => installSlot slot key a s
    | .error r =>
      let (v, s) := s.draw
      refuse (v % 256) 0 0 0 r s

/-- The ports of the hard blocks other than DDR (R478). -/
def hardPorts : List Nat :=
  (List.range 480).filter fun q => attached q && (regionOf q).isNone && !(List.range 8).any fun c => portDdr c == q

/-- Which VALID slot the boot stage runs: the preferred, otherwise the other (R480). -/
def chooseSlot (s : State) : Option Nat :=
  let b := bit (dirWord s 0x0C 1) 3
  let va := s.flag FW_STATUS_VALID_A
  let vb := s.flag FW_STATUS_VALID_B
  if b && vb then some 1 else if va then some 0 else if vb then some 1 else none

end Sys2Proof.Machine
end

