-- ==== Sys2Proof/Machine/Boot.lean ====
section
/-! DEFINITION. The commands of power-up, reset and boot (R475 to R485), and of the Hearth image (R210, R211, R346). -/

namespace Sys2Proof.Machine

open F

/-- POR_ASSERT (R73, R419, R476): the device is Off; burnt says how far the oldest limited change had been programmed. -/
def execPorAssert (burnt : Fin 3) (s : State) : Out :=
  .next (updBt (fun b => { b with por := true }) (porReset 0 (powerLoss burnt s)))

/-- POR_END (R476, R477): the fuses are sensed, the BOOTSEL balls sampled, and a DEVICE reset follows. -/
def execPorEnd (bootsel : Fin 4) (s : State) : Out := .next (if s.boot.por then porReset bootsel s else s)

/-- DEVRST_N (R477): the ball has been low for at least 1 µs. -/
def execDevrstN (s : State) : Out := .next (if s.boot.por then s else deviceReset 2 s)

/-- DEVICE_RESET (R477): v is written to RS_CTRL; without KEY A5h the write is discarded. -/
def execDeviceReset (v : Nat) (s : State) : Out :=
  .next (if bits v 15 8 = 0xA5 && bit v 0 && !s.boot.por then deviceReset 3 s else s)

/-- PERST_N_RISE (R481): the ball goes high. -/
def execPerstNRise (s : State) : Out := .next (updBt (fun b => { b with perst := true }) s)

/-- BOOT_CLOCK (R395, R478): the kindling oscillator is trimmed with this code, REFCLK0 judged stable and the CPLL at full
rate with D = 1 and M = 60; the hard-block ports other than DDR open at the first tick. A REFCLK0 not judged stable leaves the device here. -/
def execBootClock (refclk : Bool) (code : Fin 1024) (s : State) : Out :=
  if !inStage 1 s || !refclk then .next s
  else
    let s := ((s.wr CK_KINDLING_TRIM_CODE code).wr CK_KINDLING_TRIMMED 1).wr CK_SEL_WORD0 (60 * 2 ^ 16)
    let t := s.cycle
    let s := updBt (fun b => { b with clocked := t }) s
    let s := [0, 22, 23].foldl (fun t m => (t.wr MON_STATUS_STABLE 1 0 m).wr MON_STATUS_RUN (max 1 (t.rd MON_CFG_K 0 m)) 0 m) s
    let s := s.updClk fun c => { c with search := 0, confirm := 4 }
    .next (setBoot 2 (updNet (fun n => { n with opens := hardPorts }) s))

/-- BOOT_DIRECTORY (R193, R480): the copy at 0, or the one at 1_0000h, is taken; readable says that the flash answers. -/
def execBootDirectory (readable : Bool) (s : State) : Out :=
  if !inStage 2 s then .next s
  else
    let none_ (s : State) : State := s.wr BOOT_STATUS_NO_DIRECTORY 1
    let s := if !readable then none_ s
      else match directoryAt s.flash 0 with
        | some d => takeDirectory 0 d s
        | none => match directoryAt s.flash 0x10000 with
          | some d => takeDirectory 1 d s
          | none => none_ s
    .next (setBoot 3 s)

/-- BOOT_IMAGE (R385, R430, R436, R480, R482, R485): good says which slots carry Phintipo's signature, and ver holds their
versions, where a directory was found; a slot that FW_WRITE left VALID stays so. regions are the CORE and MDMA memory regions that the image sets: number, base and limit block, and bits. -/
def execBootImage (goodA goodB : Bool) (verA verB : Fin 256) (regions : List (Nat × Nat × Nat × Nat)) (s : State) : Out :=
  if !inStage 3 s then .next s
  else
    let s := commitLog s
    let min_ := s.rd LIMIT_STATUS_ANTI_ROLLBACK
    let found := !s.flag BOOT_STATUS_NO_DIRECTORY
    let image (valid version : Fld) (good : Bool) (v : Fin 256) (s : State) : State :=
      if s.flag valid || !found then s else (s.setb valid (good && decide (min_ ≤ v.val))).wr version v
    let s := image FW_STATUS_VALID_B FW_STATUS_VERSION_B goodB verB (image FW_STATUS_VALID_A FW_STATUS_VERSION_A goodA verA s)
    let slot := chooseSlot s
    let s := recovery slot.isSome s
    let s := s.setb DB_STATUS_DEBUG_PERMITTED (debugPermitted s)
    match slot with
    | none => .next (setBoot 8 s)
    | some n =>
      let s := (regions.filter fun r => decide (r.1 < 64)).foldl (fun t r =>
        let t := (t.wr SP_RGN_BASE_BLOCK r.2.1 0 r.1).wr SP_RGN_LIMIT_BLOCK r.2.2.1 0 r.1
        [SP_RGN_PERM_R, SP_RGN_PERM_W, SP_RGN_PERM_X, SP_RGN_PERM_ENABLE].foldl (fun u f =>
          u.wr f (bits r.2.2.2 f.hi f.lo) 0 r.1) t) s
      .next (setBoot 4 (s.wr FW_STATUS_ACTIVE_SLOT n))

/-- BOOT_MEMORY (R244, R261, R262, R264, R478, R481). When the stage begins, the groups of the host link take their role and
the channels that chans names, the populated ones, enter training; given again, it ends the training of all of them, with the
rate that the DRAM declares in their populations. TRAIN_TEST fails the lowest in Developer. The port of every channel opens at the next
tick: one without DRAM, or that has failed, answers OUT_OF_RANGE (R245). -/
def execBootMemory (chans : List ChannelBoot) (s : State) : Out :=
  if !inStage 4 s then .next s
  else
    let test := bit (dirWord s 0x0C 1) 2 && lifecycle s == 1
    let mine := (List.range 8).filterMap fun c => chans.find? (·.chan == c)
    if !s.boot.memory then
      .next (mine.foldl (fun t e => t.wr DC_STATUS_STATE 1 e.chan)
        (updBt (fun b => { b with memory := true }) (setPcie (pcieLanes s) s)))
    else if (List.range 8).any fun c => chanState s c == 1 && !mine.any (·.chan == c) then .next s
    else
    let mine := mine.filter fun e => chanState s e.chan == 1
    let low := (mine.head?.map (·.chan)).getD 8
    let s := mine.foldl (fun t e =>
      if test && e.chan == low then trainChannel e 3 true t else trainChannel e e.outcome false t) s
    .next (setBoot 5 ((List.range 8).foldl (fun t c => updDdr_ c (fun u => { u with openAtTick := true }) t) s))

/-- BOOT_KEYS (R434, R478, R479): the slot blobs are provisioned and READY set; not while a wipe runs. -/
def execBootKeys (s : State) : Out :=
  if !inStage 5 s || s.flag SP_STATUS_WIPING then .next s
  else
    let s := (List.range 16).foldl (fun t k => provision k t) s
    .next (setBoot 6 (s.wr HI_STATUS_READY 1))

/-- A boot configuration stream starts from the flash, as R483 gives. -/
def startBootStream (a : Nat) (s : State) : State :=
  updBt (fun b => { b with tries := b.tries + 1 }) (cfgStart 2 2 (dirWord s a 4) (dirWord s (a + 4) 4) none [] s)

/-- BOOT_FABRIC (R483): with BOOTSEL 00b the stream of the directory is started, and once its load has ended the stage ends,
or tries the alternate stream once. -/
def execBootFabric (s : State) : Out :=
  if !inStage 6 s || cfgState s != 0 then .next s
  else
    let failed := s.rd CFG_RESULT_CODE != 0
    match s.boot.tries with
    | 0 =>
      if s.rd RS_STATUS_BOOTSEL != 0 || dirWord s 0x34 4 == 0 then .next (setBoot 7 s) else .next (startBootStream 0x30 s)
    | 1 =>
      if !failed then .next (setBoot 7 s)
      else if dirWord s 0x3C 4 = 0 then .next (setBoot 7 (s.wr BOOT_STATUS_CFG_FAILED 1))
      else .next (startBootStream 0x38 (s.wr BOOT_STATUS_CFG_ALT_USED 1))
    | _ => .next (setBoot 7 (if failed then s.wr BOOT_STATUS_CFG_FAILED 1 else s))

/-- BOOT_SERVICE (R366, R381, R387, R478): workers 0 to 3 are registered with CLASS 0001h and this timeout, the watchdog
period is set, the ember region enters SERVICE or CLOSED, and BOOT_DONE is set. -/
def execBootService (exp timeout : Fin 21) (s : State) : Out :=
  if !inStage 7 s then .next s
  else
    let s := (List.range 4).foldl (fun t w =>
      let t := ((t.wr WK_CFG_STATE 1 0 w).wr WK_CFG_CLASS 1 0 w).wr WK_CFG_DEPTH_M1 0 0 w
      let q := portAt 5 0 w
      ((t.wr WK_CFG_ROUTER (q / 4) 0 w).wr WK_CFG_PORT (q % 4) 0 w).wr WK_STATUS_TIMEOUT_EXP timeout 0 w) s
    let s := s.wr WD_CFG_WD_PERIOD_EXP (max 4 exp.val)
    let l := lifecycle s
    let shut := closesEmber (s.rd DB_STATUS_INSTRUCTION)
    let serves := l == 1 || l == 2
    let s := updDb (fun d => { d with emberShut := serves && shut }) (s.wr SP_STATUS_EMBER_MODE (if serves && !shut then 1 else 2))
    .next ((s.wr HM_STATUS_BOOT_DONE 1).wr BOOT_TIME_CYCLES (s.cycle - s.boot.clocked))

/-- BOOT_WAIT_IMAGE (R482): with no runnable image the link comes up and READY is set. -/
def execBootWaitImage (s : State) : Out :=
  if inStage 8 s then .next ((setPcie 2 s).wr HI_STATUS_READY 1) else .next s

/-- BOOT_WATCHDOG (R479): a stage other than WAIT_IMAGE has exceeded its bound. -/
def execBootWatchdog (s : State) : Out :=
  if s.boot.por || s.flag HM_STATUS_BOOT_DONE || bootStage s == 8 then .next s else .next (deviceReset 4 s)

/-! The Hearth image (R210, R211, R346, R436). -/

/-- FW_WRITE (R346, R379, R429, R436, R480, R482), served by Hearth, or by the boot stage in WAIT_IMAGE: the image is
programmed where the directory places its slot. good says that its signature is right. The spec gives no code for the
running slot. -/
def execFwWrite (ring : Fin 64) (good : Bool) (version : Fin 256) (s : State) : Out :=
  let waiting := bootStage s == 8
  match if waiting then takeOp s ring 0x70 else hearthTake s ring 0x70 with
  | none => .next s
  | some o =>
    let slot := bits (o.word 1) 0 0
    if lifecycle s = 4 then .next (decideOp ring o.idx Code.LIFECYCLE 0 0 s)
    else if !waiting && slot == s.rd FW_STATUS_ACTIVE_SLOT then
      let (c, s) := s.draw
      .next (decideOp ring o.idx (Code.free c) 0 0 s)
    else
      let s := programSlot o (bits (o.word 3) 31 0) (runOp ring o.idx s)
      let newer := decide (s.rd LIMIT_STATUS_ANTI_ROLLBACK ≤ version.val)
      let ok := good && newer
      let s := if slot = 0 then (s.setb FW_STATUS_VALID_A ok).wr FW_STATUS_VERSION_A version
        else (s.setb FW_STATUS_VALID_B ok).wr FW_STATUS_VERSION_B version
      let s := decideOp ring o.idx (if newer then Code.OK else Code.LIMIT_REACHED) 0 (version.val + (if ok then 256 else 0)) s
      .next (if waiting && ok then setBoot 3 s else s)

/-- FW_CORE_RESTART (R211): at the first tick after the job it holds, core c restarts from the image being switched to. The last
restart begins the self-check, or ends the return to the old image. -/
def execFwCoreRestart (c : Fin 4) (s : State) : Out :=
  if fwState s != 1 || !s.boot.fwLeft.contains c.val || !(heldBy s c).isEmpty || s.offset != 0 then .next s
  else
    let left := s.boot.fwLeft.filter (· != c.val)
    let s := updBt (fun b => { b with fwLeft := left }) (setCore c 2 s)
    if !left.isEmpty then .next s
    else if s.boot.fwBack then .next (updBt (fun b => { b with fwBack := false }) (s.wr FW_STATUS_STATE 0))
    else .next (s.wr FW_STATUS_STATE 2)

/-- Hearth stages the version commit, or waits for the staging area (R72, R211). The set's identifier is its own. The set
is fixed at the first permitted tick after its proof. -/
def commitVersion (s : State) : State :=
  if stageState s ≠ 0 then s.wr FW_STATUS_COMMIT_PENDING 1
  else
    let v := s.rd (if s.flag FW_STATUS_ACTIVE_SLOT then FW_STATUS_VERSION_B else FW_STATUS_VERSION_A)
    let item : Item := { type := 0x0B, inst := 0, index := 0, payload := valBytes (leBytes (2 + 0x80 * 2 ^ 8 + v * 2 ^ 16) 8) }
    let (id, s) := s.draw
    let s := ((stageLoading true s).wr PF_STATE_STATE 2).wr PF_SET_ID_SET_ID id
    (s.wr FW_STATUS_COMMIT_PENDING 0).updStage fun g => { g with items := [item], check := some (hearth, 0, s.cycle), autoFix := true }

/-- FW_SELF_CHECK (R211): the new image's self-check passes or fails, once no core is restarting. -/
def execFwSelfCheck (pass : Bool) (s : State) : Out :=
  if fwState s != 2 || (List.range 4).any fun c => coreState s c == 2 then .next s
  else if !pass then .next (fwRevert false s)
  else
    let n := s.boot.fwSlot
    let s := ((s.wr FW_STATUS_STATE 0).wr FW_STATUS_ACTIVE_SLOT n).incSat FW_COUNTS_SWITCHES
    let s := raise E.FW_SWITCHED 0 n (keepPrefer s)
    .next (if s.boot.fwCommit then commitVersion s else s)

/-- FW_COMMIT_RETRY (R211, R379): Hearth tries again to stage the version commit, as a job of flow 1,023 at PRIO 2: the command
enqueues the job, and makes the attempt once a core holds it. -/
def execFwCommitRetry (s : State) : Out :=
  .next (if !s.flag FW_STATUS_COMMIT_PENDING then s
    else match s.disp.jobs.find? fun j => j.op == some commitJob && j.place != .done with
      | some j => if j.place == .held j.worker then commitVersion s else s
      | none => if hearthRoom s then addJob 2 (some hearthFlow) 1 0 0 [] 0 0 (some commitJob) s else s)

end Sys2Proof.Machine
end

