-- ==== Sys2Proof/Machine/Clock.lean ====
section
/-! DEFINITION. The commands of the clocks (chapter 18). -/

namespace Sys2Proof.Machine

open F

/-- A window of monitor m ends with a count (R401, R402, R411, R468). Under INJ_LOSS it has seen no edge. -/
def endWindow (m comp count : Nat) (disagree : Bool) (s : State) : State :=
  if s.offset = 0 ∧ s.clk.changed.contains m then
    (s.wr MON_STATUS_RUN 0 0 m).updClk fun c => { c with changed := c.changed.filter (· != m) }
  else
    let (injD, s) := takeInj FI_CHECK_INJECT_INJ_MONITOR 0 (s.rd FI_CHECK_INJECT_SEL == m) s
    if disagree || injD then
      let s := updMon m (fun u => { u with agree := 0 }) (s.setmbit FI_MON_FAULT_MONITORS m true)
      raiseInj E.MONITOR_FAULT m 0 injD s
    else if s.mbit FI_MON_FAULT_MONITORS m then
      let n := (monU s m).agree + 1
      if n < 8 then updMon m (fun u => { u with agree := n }) s
      else updMon m (fun u => { u with agree := 0 }) (s.setmbit FI_MON_FAULT_MONITORS m false)
    else
      let mine := s.rd CK_INJECT_MON == m
      let (injL, s) := takeInj CK_INJECT_INJ_LOSS 0 mine s
      let (injB, s) := takeInj CK_INJECT_INJ_BAND 0 (mine && !injL) s
      let count := if injL then 0 else count
      let s := if injL && !s.flag MON_STATUS_LOST 0 m then loseClock m true s else s
      let s := (s.wr MON_STATUS_ERR (windowErr s m comp count) 0 m).setb MON_STATUS_LOST (count == 0) 0 m
      judgeClock m (inBand s m comp count && !injB) (injL || injB) s

/-- MONITOR_WINDOW (R401, R402, R468): a window of monitor m ends with a count, and the next begins; disagree says that
its two counters differ by more than 1. -/
def execMonitorWindow (m : Fin 54) (count : Nat) (disagree : Bool) (s : State) : Out :=
  match comparison s m with
  | none => .next s
  | some comp => .next (startWindow m (endWindow m comp count disagree s))

/-- MONITOR_EDGE_LOSS (R402, R468): no edge for 64 kindling cycles; a monitor in MON_FAULT does not detect it. -/
def execMonitorEdgeLoss (m : Fin 54) (s : State) : Out :=
  if s.mbit FI_MON_FAULT_MONITORS m || s.flag MON_STATUS_LOST 0 m then .next s
  else .next (loseClock m false s)

/-- PLL_LOCK_LOSS (R402): the lock detector of PLL d has reported loss of lock for more than 1 µs; a PLL that coasts or
is held has no lock to lose. -/
def execPllLockLoss (d : Fin 34) (s : State) : Out := .next (if pllLocked s d then smoulder d false s else s)

/-- PLL_RELOCK (R405, R409): the reference is judged stable and the PLL relocks. -/
def execPllRelock (d : Fin 34) (s : State) : Out :=
  if !stable s (refMonitor s d) then .next s
  else match (s.pll d).phase with
    | .coast => .next (relock d .judge s)
    | .held => .next (relock d .judge s)
    | .kindRelock => .next (relock d .kindJudge s)
    | _ => .next s

/-- RAMP_STEP (R405): a step of the ramp has lasted RAMP_STEP source cycles. -/
def execRampStep (d : Fin 13) (s : State) : Out := .next (rampStep d s)

/-- RAMP_END (R405, R409): the last step of an up-ramp ends, and the domains run. -/
def execRampEnd (d : Fin 13) (s : State) : Out :=
  let u := s.pll d
  .next (match u.phase with
    | .up => if u.step = 16 then pllDone d s else s
    | _ => s)

/-- TRIM_WINDOW (R400): a trim window ends with a count. -/
def execTrimWindow (count : Nat) (s : State) : Out := .next (trimWindow count s)

/-- CK_CLEAR_COUNTS (R412). -/
def execCkClearCounts (s : State) : Out :=
  .next (s.clrAll [CK_COUNTS_SMOULDERS, CK_COUNTS_SWITCHES, CK_DOM_COUNTS_SMOULDERS, CK_DOM_COUNTS_SWITCHES,
    MON_COUNTS_OUT_OF_BAND, MON_COUNTS_LOSSES])

/-- DDR_SELF_REFRESH_ENTERED (R259, R408): a channel's entry completes. One for the core clock or the TAP keeps
the port, the queue and its contents; one for a power state has drained the port, every REVOKE answered by RELEASE (R237), and emptied the write-back queue, and issues
the refresh-management commands. -/
def execDdrSelfRefreshEntered (c : Fin 8) (s : State) : Out :=
  let u := ddr_ s c
  let forced := u.parked &&& 3 != 0
  let drained := portState s (portDdr c) != 0 && u.wb.isEmpty && (s.noc.xacts.all fun x => x.dst != portDdr c) &&
    !s.noc.revokes.any fun r => r.1 == portDdr c
  if s.rd DC_STATUS_STATE c == 2 && u.parked != 0 && (forced || drained) then
    let s := updDdr_ c (fun u => { u with scrubTime := u.scrubTime + (s.cycle - u.scrubSince) }) s
    let s := s.wr DC_STATUS_STATE 3 c
    if forced then .next (pinsGo (powerGo s))
    else
      let n := u.rfm.length
      let s := (s.incWrap DC_RFM_COUNTS_RFM_ISSUED c 0 n).wr DC_STATUS_RFM_LEVEL 0 c
      let s := updDdr_ c (fun u => { u with rfm := [] }) s
      .next (pinsGo (powerGo (setPort (portDdr c) 2 s)))
  else .next s

/-- SELF_REFRESH_EXIT_DONE (R260, R408): the channel is READY again, its ages start from zero, and its port
opens at the next tick; the channel serves the requests that waited. -/
def execSelfRefreshExitDone (c : Fin 8) (s : State) : Out :=
  let u := ddr_ s c
  if s.rd DC_STATUS_STATE c == 3 && u.parked == 0 && !s.flag CK_STATUS_DEGRADED then
    let t := s.cycle
    let keys := (List.range 32).map fun k => (k, t)
    .next (serveDdr (powerGo (updDdr_ c (fun u =>
      { u with
        scrubSince := t, openAtTick := true, missed := [], refreshed := if t = 0 then [] else keys })
      (s.wr DC_STATUS_STATE 2 c))))
  else .next s

end Sys2Proof.Machine
end

