-- ==== Sys2Proof/Machine/Debug.lean ====
section
/-! DEFINITION. The commands of the debug port and of run control (chapter 21), but for DBG_REG. A TAP command loads its
instruction, captures its data register, and updates it with what was shifted in. -/

namespace Sys2Proof.Machine

open F

/-- TAP_RESET (R444, R448): the instruction is IDCODE, and the pins return. -/
def execTapReset (s : State) : Out := .next (selectIr 0x02 s)

/-- A boundary-scan instruction: the cells are captured and the boundary register updated, unless the instruction was
loaded as BYPASS (R447, R448). -/
def scanBoundary (op cells update : Nat) (s : State) : State :=
  let s := loadIr op s
  if s.rd DB_STATUS_INSTRUCTION = op then captureDr cells (updDb (fun d => { d with boundary := update }) s)
  else captureDr 0 s

/-- EXTEST (R447, R448). -/
def execExtest (cells update : Nat) (s : State) : Out := .next (scanBoundary 0x00 cells update s)

/-- SAMPLE_PRELOAD (R447, R448): it takes no pin. -/
def execSamplePreload (cells update : Nat) (s : State) : Out := .next (scanBoundary 0x01 cells update s)

/-- EXTEST_PULSE (R447, R448). -/
def execExtestPulse (cells update : Nat) (s : State) : Out := .next (scanBoundary 0x03 cells update s)

/-- EXTEST_TRAIN (R447, R448). -/
def execExtestTrain (cells update : Nat) (s : State) : Out := .next (scanBoundary 0x04 cells update s)

/-- CLAMP (R446, R448): the pins hold the boundary values; the bypass register is selected. -/
def execClamp (s : State) : Out := .next (captureDr 0 (loadIr 0x05 s))

/-- HIGHZ (R446, R448). -/
def execHighz (s : State) : Out := .next (captureDr 0 (loadIr 0x06 s))

/-- IDCODE (R445). -/
def execIdcode (s : State) : Out :=
  let s := loadIr 0x02 s
  .next (captureDr (s.rd GL_IDCODE_IDCODE) s)

/-- The opcodes of R446 other than BYPASS. -/
def tapOpcodes : List Nat := [0x00, 0x01, 0x02, 0x03, 0x04, 0x05, 0x06, 0x10, 0x11, 0x20, 0x21, 0x22]

/-- BYPASS (R446): FFh, or any opcode that the table does not list. -/
def execBypass (op : Fin 256) (s : State) : Out :=
  if tapOpcodes.contains op.val then .next s else .next (captureDr 0 (loadIr op s))

/-- CFG_IN (R194, R195): loading the instruction asks for a JTAG load, which is refused while another runs; the bytes
shifted in go to the load that runs. -/
def execCfgIn (start : Bool) (bytes : List (Fin 256)) (s : State) : Out :=
  let s :=
    if !start then s
    else
      let s := loadIr 0x10 s
      if cfgBusy s then updDb (fun d => { d with jtagRefused := true }) s
      else cfgStart 3 3 0 0 none [] (updDb (fun d => { d with jtagRefused := false }) s)
  if s.rd DB_STATUS_INSTRUCTION = 0x10 ∧ cfgState s ≠ 0 ∧ s.cfg.src = 3 then
    let jtag := s.cfg.jtag ++ bytes.map fun b => BitVec.ofNat 8 b.val
    .next (upC (fun c => { c with jtag := jtag }) (s.wr CFG_BYTES_BYTES jtag.length))
  else .next s

/-- CFG_STATUS (R446). -/
def execCfgStatus (s : State) : Out :=
  let s := loadIr 0x11 s
  .next (captureDr (cfgState s + (if s.dbg.jtagRefused then 8 else 0) + s.rd CFG_RESULT_CODE * 65536) s)

/-- What DBG_REG, DBG_MEM and DBG_ATTACH capture where they perform nothing (R446). -/
def captureLifecycle (s : State) : State := captureDr Code.LIFECYCLE s

/-- DBG_MEM (R455, R456): 0 WRITE, 2:1 SPACE, 39:3 ADDR, 103:40 write data. -/
def execDbgMem (dr : Nat) (s : State) : Out :=
  let s := loadIr 0x21 s
  if !debugPermitted s then .next (captureLifecycle s)
  else
    let m := s.dbg.mem
    let busy := m.flight.isSome
    let s := captureDr (m.captureCode + (if busy then 65536 else 0) + m.data % 2 ^ 64 * 2 ^ 40) s
    if busy then .next (updDb (fun d => { d with mem := { d.mem with missed := true } }) s)
    else
      let s := updDb (fun d => { d with mem := { d.mem with missed := false } }) s
      .next (landMem (bit dr 0) (bits dr 2 1) (bits dr 39 3) (bits dr 103 40) s)

/-- DBG_ATTACH (R458): 31:0 a command word of the layout of DA_CMD, issued by its GO bit (R461), 95:32 its data. -/
def execDbgAttach (dr : Nat) (s : State) : Out :=
  let s := loadIr 0x22 s
  if !debugPermitted s then .next (captureLifecycle s)
  else
    let s := captureDr (s.dbg.tapCode + (if s.dbg.da.isSome then 65536 else 0) + s.dbg.tapData % 2 ^ 64 * 2 ^ 32) s
    if !bit dr 31 then .next s else
    .next (daCommand true (bits dr 5 0) (bits dr 14 8) (bits dr 19 16) (bits dr 27 20) (bits dr 95 32) s)

/-- DEBUG_ACCESS_DONE (R454, R456): the access of DBG_MEM, or of DBG_REG, completes; a frame to be fetched comes into
the buffer first, and one that waits for its DRAM channel is made first. -/
def execDebugAccessDone (mem : Bool) (s : State) : Out :=
  let t := s.cycle
  if mem then
    let s := match s.dbg.mem.parked with
      | some (w, a, v) => landDram w a v s
      | none => fetchFrame s
    if s.dbg.mem.parked.isSome then .next s
    else .next (updDb (fun d => { d with mem := d.mem.done t }) s)
  else .next (updDb (fun d => { d with reg := d.reg.done t }) s)

/-- DB_HALT (R451): waits for the next tick. -/
def execDbHalt (s : State) : Out := .next (runRequest (fun d => { d with halt := some (d.halt.getD s.now) }) s)

/-- DB_RESUME (R451): waits for the next tick. -/
def execDbResume (s : State) : Out := .next (runRequest (fun d => { d with resume := some (d.resume.getD s.now) }) s)

/-- DB_STEP (R451): waits for the next tick. -/
def execDbStep (s : State) : Out := .next (runRequest (fun d => { d with step := some (d.step.getD s.now) }) s)

/-- RUN_CONTROL_LATCH (R451, R453, R460): the requests that arrived in an earlier frame are latched; one that the
state has no exit for is ignored, and a STEP waits for a tick that is credited otherwise. -/
def execRunControlLatch (s : State) : Out :=
  let due := fun (r : Option Nat) => match r with
    | some t => decide (t < s.now)
    | none => false
  let d := s.dbg
  let frozen := s.rd ALIGN_STATUS_STATE == 4
  let st := s.rd DB_STATUS_RC_STATE
  let step := due d.step && !(frozen && st == 2)
  let s := updDb (fun d =>
    { d with
      halt := if due d.halt then none else d.halt, resume := if due d.resume then none else d.resume,
      step := if step then none else d.step }) s
  .next (match st with
    | 0 => if due d.halt then latchHalt s else s
    | 1 => if due d.resume then s.wr DB_STATUS_RC_STATE 0 else s
    | 2 => if due d.resume then leaveHalted 0 s else if step then leaveHalted 3 s else s
    | _ => s)

/-- HALTED_ENTRY (R451): at a tick after the latch, with every reel IDLE or HOLDING and no catch block comparing, and
none draining unless HALT_WAIT frames have passed. -/
def execHaltedEntry (s : State) : Out :=
  if s.offset == 0 && haltDue s then
    .next (enterHalted (if anyDraining s then s.wr DB_STATUS_DRAIN_INCOMPLETE 1 else s))
  else .next s

/-- SEQ_ARM (R450): DB_CTRL.SEQ_ARM is written. -/
def execSeqArm (on : Bool) (s : State) : Out := .next (armSequencer on s)

/-- DB_CLEAR_COUNTS (R461). -/
def execDbClearCounts (s : State) : Out := .next (clearDebugCounts s)

/-- DA_ATTACH (R457). -/
def execDaAttach (k : Fin 64) (t : Fin 128) (s : State) : Out := .next (daWrite k t 0 0 s)

/-- DA_DETACH (R457). -/
def execDaDetach (k : Fin 64) (t : Fin 128) (s : State) : Out := .next (daWrite k t 1 0 s)

/-- DA_HALT (R457). -/
def execDaHalt (k : Fin 64) (t : Fin 128) (s : State) : Out := .next (daWrite k t 2 0 s)

/-- DA_STEP (R457). -/
def execDaStep (k : Fin 64) (t : Fin 128) (s : State) : Out := .next (daWrite k t 3 0 s)

/-- DA_RELEASE (R457). -/
def execDaRelease (k : Fin 64) (t : Fin 128) (s : State) : Out := .next (daWrite k t 4 0 s)

/-- DA_READ (R457). -/
def execDaRead (k : Fin 64) (t : Fin 128) (a : Fin 256) (s : State) : Out := .next (daWrite k t 5 a s)

/-- DA_WRITE (R457): DA_DATA is written at ADDR. -/
def execDaWrite (k : Fin 64) (t : Fin 128) (a : Fin 256) (s : State) : Out := .next (daWrite k t 6 a s)

/-- DA_ACK (R459): the fabric ends the soft-core command. -/
def execDaAck (code : Fin 65536) (data : Nat) (s : State) : Out := .next (daFinish code data s)

/-- DA_TIMEOUT (R459): 2^16 core cycles have passed without DA_ACK. -/
def execDaTimeout (s : State) : Out :=
  match s.dbg.da with
  | some r => if r.since + 65536 ≤ s.cycle then .next (daFinish Code.ABORTED 0 s) else .next s
  | none => .next s

end Sys2Proof.Machine
end

