-- ==== Sys2Proof/Machine/Disp.lean ====
section
/-! DEFINITION. The dispatcher's commands (chapter 16). -/

namespace Sys2Proof.Machine

open F

/-- DISPATCH_ADVANCE_WINDOW (R41, R364): the window of the frame's entry k opens on its delay list; one entry
moves in each core cycle, up to MAX_EXP. -/
def execDispatchAdvanceWindow (k : Nat) (s : State) : Out :=
  match opening s 0x50 k with
  | none => .next s
  | some e =>
    let s := noteStall (windowStart e s)
    let max_ := bits e.param 15 0
    let s := noteJobs (advanceList e.unit 0 s.now (min max_ e.length) s)
    let complete := decide (max_ ≤ e.length) || (nextExpired s e.unit 0 s.now).isNone
    .next (openWin k e complete s)

/-- DISPATCH_ENQUEUE (R361, R363): the jobs read from host memory enter in order until one fails its check;
while entries are not free for all of them the descriptor waits. -/
def execDispatchEnqueue (ring : Fin 64) (s : State) : Out :=
  match takeOp s ring 0x50 with
  | none => .next s
  | some o =>
    let jobs := enqueueArray s o
    if !roomFor jobs s then .next (noteStall s)
    else
      let s := runOp ring o.idx s
      let (code, n, s) := enqueueJobs false jobs 0 s
      .next (decideOp ring o.idx code (if code = Code.OK then 0 else 8) n s)

/-- The dispatch record of a job (R368). -/
def dispatchRecord (s : State) (j : Job) (pass : Nat) : List Nat :=
  let flow := match j.flow with
    | some (f, _) => f
    | none => 0
  let w0 := j.slot + j.gen * 2 ^ 16 + j.prio * 2 ^ 24 + flow * 2 ^ 27 + (if j.flow.isSome then 2 ^ 37 else 0) +
    pass * 2 ^ 63
  [w0, j.tag + j.enqTick % 2 ^ 32 * 2 ^ 32] ++ (List.range 5).map (fun i => j.payload.getD i 0) ++ [s.now]

/-- The dispatch record goes to a fabric worker's mailbox (R368). -/
def sendDispatch (j : Job) (w slot : Nat) (rec_ : List Nat) (s : State) : State :=
  let tag := (dispTag s).getD 0
  submit
    { src := dispPort, tag := tag, kind := 3, dst := workerPort s w, addr := s.rd WK_MAILBOX_ADDR 0 w + slot * 64,
      bytes := 64, data := wordBytes rec_, prio := j.prio / 2, epoch := s.rd WK_STATUS_EPOCH 0 w,
      sched := false, sid := streamOf dispPort, owner := .dispatch w j.slot, phase := .waiting } s

/-- JOB_DISPATCH (R368, R376): the eligible job of the highest priority goes to the worker least recently
dispatched to. -/
def execJobDispatch (s : State) : Out :=
  match chooseJob s with
  | none => .next s
  | some (j, w) =>
    let wait := s.cycle - j.readyAt
    let order := s.disp.order + 1
    let depth := s.rd WK_CFG_DEPTH_M1 0 w + 1
    let sent := (sget {} s.disp.workers w).sent
    let job := { j with place := .held w, wait := wait, order := order, dispTick := s.now, worker := w }
    let s := s.incSat WAIT_HIST_COUNT 0 (j.prio * 16 + min 15 (wait / 2 ^ min 20 (s.rd DP_CTRL_HIST_SHIFT)))
    let s := updJobs (fun d =>
      { d with order := order, jobs := d.jobs.map fun k => if k.slot == j.slot then job else k }) s
    let s := updWorker w (fun u => { u with sent := u.sent + 1, last := order }) s
    let s := match j.flow with
      | some (f, _) => noteFlow f s
      | none => s
    let s := noteJobs (noteWorker w s)
    let mine := decide (s.rd DP_INJECT_WORKER = w)
    let (lost, s) := takeInj DP_INJECT_INJ_LOST 0 mine s
    if lost then .next (workerLost w true s)
    else
      let rec_ := dispatchRecord s job (sent / depth % 2)
      let s := if w < 4 then updWorker w (fun u => { u with mailbox := sput [] u.mailbox (sent % depth) rec_ }) s
        else sendDispatch job w (sent % depth) rec_ s
      let (out, s) := takeInj DP_INJECT_INJ_TIMEOUT 0 mine s
      if out then .next (timeoutJob job true s) else .next s

/-- DONE_MESSAGE (R239, R369): a message from the port of stream ID sid; one that lands with a parity error is not
executed. -/
def execDoneMessage (sid : MessageFrom) (entry gen status result : Nat) (s : State) : Out :=
  let (bad, s) := countMessage sid 0x10000 16 s
  .next (if bad then s else doneMessage sid.sid entry gen (status % 65536) (result % 2 ^ 32) s)

/-- DISPATCH_JOB_TIMEOUT (R369): a held job has not been done within 2^TIMEOUT_EXP frames of its dispatch. -/
def execDispatchJobTimeout (slot : Nat) (s : State) : Out :=
  match s.disp.jobs.find? fun j => j.slot == slot && j.place == .held j.worker with
  | none => .next s
  | some j =>
    let e := s.rd WK_STATUS_TIMEOUT_EXP 0 j.worker
    if e ≠ 0 ∧ j.dispTick + 2 ^ min 20 e ≤ s.now then .next (timeoutJob j false s) else .next s

/-- May a done job be released (R370)? -/
def releasable (s : State) (j : Job) : Bool :=
  match j.flow with
  | none => true
  | some (f, p) => (jobsOf s f).all fun k => match k.flow with
    | some (_, q) => decide (p ≤ q)
    | none => true

/-- The completion record of a job (R371). -/
def completionRecord (s : State) (j : Job) : List Nat :=
  let flow := match j.flow with
    | some (f, _) => f
    | none => 0
  [j.tag + j.status * 2 ^ 32 + j.worker * 2 ^ 48, j.result + flow * 2 ^ 32, s.now,
    min j.wait 0xFFFFFFFF + min j.lateness 0xFFFFFFFF * 2 ^ 32]

/-- JOB_RELEASE (R370, R371, R375): a done job whose flow predecessors are released is released; its entry
is free and its completion record is written at PRIO ⌊job PRIO ÷ 2⌋; one whose channel takes no command now waits (R39,
R255, R408). A write that its target refuses counts; one that is lost, to a parity error or at its timeout, is not refused. -/
def execJobRelease (slot : ReleasedJob) (s : State) : Out :=
  let upset := slot.upset
  let slot := slot.slot
  match s.disp.jobs.find? fun j => j.slot == slot && j.place == .done with
  | none => .next s
  | some j =>
    if !releasable s j || (j.doneAddr != 0 && accessHeld s j.doneAddr 32) then .next s
    else
      let s := noteStall s
      let s := updJobs (fun d =>
        { d with
          jobs := d.jobs.filter (·.slot != slot),
          gens := sput 0 d.gens slot (sget 0 d.gens slot + 1) }) s
      let s := match j.flow with
        | some (f, _) => noteFlow f s
        | none => s
      let s := serveDispatch 64 (noteJobs s)
      if j.doneAddr = 0 then .next s
      else
        let (code, s) := blockWrite (streamOf dispPort) j.doneAddr (wordBytes (completionRecord s j)) s (j.prio / 2) upset
        if code = Code.OK ∨ 0x40 ≤ code then .next s
        else .next (raise E.DISPATCH_DONE_REFUSED j.worker j.tag (s.incSat DP_COUNTS_B_DONE_REFUSED))

/-- WORKER_REGISTRATION (R366): a registration record of four words for worker w from stream ID sid. -/
def execWorkerRegistration (sid : MessageFrom) (w : Fin 128) (w0 w1 w2 w3 : Nat) (s : State) : Out :=
  let (bad, s) := countMessage sid (0x20000 + 32 * w.val) 32 s
  .next (if bad then s
    else (registerWorker sid.sid w [w0 % 2 ^ 64, w1 % 2 ^ 64, w2 % 2 ^ 64, w3 % 2 ^ 64] s).2)

/-- DP_CLEAR_COUNTS (R377). -/
def execDpClearCounts (s : State) : Out :=
  .next (s.clrAll [DP_COUNTS_ENQ_STALL_FRAMES, DP_COUNTS_JOB_TIMEOUTS, DP_COUNTS_B_LATE_DONE,
    DP_COUNTS_B_WORKERS_LOST, DP_COUNTS_B_DONE_REFUSED, DP_COUNTS_B_UNSCHEDULED_ADVANCE, DELAY_LATE_LATE_JOBS,
    DELAY_LATE_MAX_LATE, WAIT_HIST_COUNT, WK_JOBS_JOBS, WK_COUNTS_TIMEOUTS, WK_COUNTS_RETURNED])

end Sys2Proof.Machine
end

