-- ==== Sys2Proof/Machine/Inject.lean ====
section
/-! DEFINITION. The commands of tamper detection, of the checker tests and of injection (R438, R468 to R472). The
value written is the whole register: its selectors take it too. -/

namespace Sys2Proof.Machine

open F

/-- TAMPER_SENSOR_FIRE (R437, R438): the sensors of a mask fire; everything they guard is wiped. -/
def execTamperSensorFire (sensors : Fin 16) (s : State) : Out :=
  .next (if s.boot.por then s else fireSensors sensors false s)

/-- CHECKER_TEST (R468): in core cycles N - 16 to N - 1 of a credited frame the checkers of block n are tested;
the operands say which of them fail by themselves. -/
def execCheckerTest (n : Fin 16) (cmpFails dlyFails : Bool) (s : State) : Out :=
  if credited s && decide (s.period ≤ s.offset + 16) then
    let sel := s.rd FI_CHECK_INJECT_BLOCK == n.val
    let (injC, s) := takeInj FI_CHECK_INJECT_INJ_CMP_CHECK 0 sel s
    let s := checkerResult FI_CHECK_STATUS_CMP_LOST 1 n cmpFails injC s
    let (injD, s) := takeInj FI_CHECK_INJECT_INJ_DLY_CHECK 0 sel s
    .next (checkerResult FI_CHECK_STATUS_DLY_LOST 2 n dlyFails injD s)
  else .next s

/-- EA_CLEAR_COUNTS (R474): CLEAR_COUNTS clears the event counters and the first-fault latch. -/
def execEaClearCounts (s : State) : Out :=
  .next (s.clrAll [EA_COUNT_COUNT, EA_CLASS_NOTE, EA_CLASS_HANDLED, EA_CLASS_MARKED, EA_CLASS_FAULT,
    EA_INJECTED_COUNT, EA_FIRST_FAULT_EVENT_ID, EA_FIRST_FAULT_INSTANCE, EA_FIRST_FAULT_VALID, EA_FIRST_TICK_TICK])

/-- INJ_DISAGREE (R469, R470): arms CB_INJECT.INJ_DISAGREE: the next compared word of LANE has bit 0 of copy B's
fail mask inverted. -/
def execInjDisagree (n : Fin 16) (v : Nat) (s : State) : Out :=
  .next (injCommand CB_INJECT_INJ_DISAGREE n v s)

/-- INJ_DELAY (R469, R470): arms CB_INJECT.INJ_DELAY: bit 0 of LANE's working delay copy is inverted. -/
def execInjDelay (n : Fin 16) (v : Nat) (s : State) : Out :=
  .next (injCommand CB_INJECT_INJ_DELAY n v s)

/-- INJ_TEMP (R469, R470): arms RG_INJECT.INJ_TEMP: 32 degrees C are added to the region's next sensor reading. -/
def execInjTemp (n : Fin 64) (v : Nat) (s : State) : Out :=
  .next (injCommand RG_INJECT_INJ_TEMP n v s)

/-- INJ_BIAS (R469, R470): arms RG_INJECT.INJ_BIAS: the bias monitor is offset by 40 mV for 12 microseconds. -/
def execInjBias (n : Fin 64) (v : Nat) (s : State) : Out :=
  .next (injCommand RG_INJECT_INJ_BIAS n v s)

/-- INJ_BCLK (R469, R470): arms RG_INJECT.INJ_BCLK: the named RELATED group fails at the next check. -/
def execInjBclk (n : Fin 64) (v : Nat) (s : State) : Out :=
  .next (injCommand RG_INJECT_INJ_BCLK n v s)

/-- INJ_OPMEM (R469, R470): arms SL_INJECT.INJ_OPMEM: the parity of the next operand read of the slice is inverted.
-/
def execInjOpmem (k : Fin 64) (t : Fin 96) (v : Nat) (s : State) : Out :=
  .next (injCommand SL_INJECT_INJ_OPMEM (k * 96 + t) v s)

/-- INJ_PROG (R469, R470): arms SL_INJECT.INJ_PROG: the parity of the next instruction fetch of the slice is
inverted. -/
def execInjProg (k : Fin 64) (t : Fin 96) (v : Nat) (s : State) : Out :=
  .next (injCommand SL_INJECT_INJ_PROG (k * 96 + t) v s)

/-- INJ_AUTH (R469, R470): arms CFG_INJECT.INJ_AUTH: the next segment tag or CRC comparison fails. -/
def execInjAuth (v : Nat) (s : State) : Out :=
  .next (injCommand CFG_INJECT_INJ_AUTH 0 v s)

/-- INJ_CHECK (R469, R470): arms CFG_INJECT.INJ_CHECK: the next CHECK comparison fails. -/
def execInjCheck (v : Nat) (s : State) : Out :=
  .next (injCommand CFG_INJECT_INJ_CHECK 0 v s)

/-- INJ_SINGLE (R469, R470): arms SCRUB_INJECT.INJ_SINGLE: one bit of the next checked frame is inverted as read.
-/
def execInjSingle (v : Nat) (s : State) : Out :=
  .next (injCommand SCRUB_INJECT_INJ_SINGLE 0 v s)

/-- INJ_DOUBLE (R469, R470): arms SCRUB_INJECT.INJ_DOUBLE: two bits of the next checked frame are inverted as read.
-/
def execInjDouble (v : Nat) (s : State) : Out :=
  .next (injCommand SCRUB_INJECT_INJ_DOUBLE 0 v s)

/-- INJ_PARITY (R469, R470): arms NR_INJECT.INJ_PARITY: the parity of the next flit sent on a mesh port is
inverted. -/
def execInjParity (n : Fin 120) (v : Nat) (s : State) : Out :=
  .next (injCommand NR_INJECT_INJ_PARITY n v s)

/-- NR_INJ_TIMEOUT (R469, R470): arms NR_INJECT.INJ_TIMEOUT: the next request of a local port times out at
injection. -/
def execNrInjTimeout (n : Fin 120) (v : Nat) (s : State) : Out :=
  .next (injCommand NR_INJECT_INJ_TIMEOUT n v s)

/-- INJ_CE (R469, R470): arms DC_INJECT.INJ_CE: one device's contribution of the next line read is inverted. -/
def execInjCe (n : Fin 8) (v : Nat) (s : State) : Out :=
  .next (injCommand DC_INJECT_INJ_CE n v s)

/-- INJ_UE (R469, R470): arms DC_INJECT.INJ_UE: two devices' contributions of the next line read are inverted. -/
def execInjUe (n : Fin 8) (v : Nat) (s : State) : Out :=
  .next (injCommand DC_INJECT_INJ_UE n v s)

/-- INJ_REFMISS (R469, R470): arms DC_INJECT.INJ_REFMISS: the next DDR_REFRESH window issues no REFsb. -/
def execInjRefmiss (n : Fin 8) (v : Nat) (s : State) : Out :=
  .next (injCommand DC_INJECT_INJ_REFMISS n v s)

/-- INJ_TAG (R469, R470): arms EN_INJECT.INJ_TAG: the next protected line read fails its check. -/
def execInjTag (v : Nat) (s : State) : Out :=
  .next (injCommand EN_INJECT_INJ_TAG 0 v s)

/-- INJ_REFUSE (R469, R470): arms EN_INJECT.INJ_REFUSE: the next key operation is refused. -/
def execInjRefuse (v : Nat) (s : State) : Out :=
  .next (injCommand EN_INJECT_INJ_REFUSE 0 v s)

/-- INJ_BIP (R469, R470): arms LG_INJECT.INJ_BIP: the next marker of LANE fails its BIP check in one bit. -/
def execInjBip (n : Fin 18) (v : Nat) (s : State) : Out :=
  .next (injCommand LG_INJECT_INJ_BIP n v s)

/-- INJ_LOCK (R469, R470): arms LG_INJECT.INJ_LOCK: LANE loses and reacquires block lock. -/
def execInjLock (n : Fin 18) (v : Nat) (s : State) : Out :=
  .next (injCommand LG_INJECT_INJ_LOCK n v s)

/-- INJ_SLIP (R469, R470): arms LG_INJECT.INJ_SLIP: LANE's elastic buffer slips once. -/
def execInjSlip (n : Fin 18) (v : Nat) (s : State) : Out :=
  .next (injCommand LG_INJECT_INJ_SLIP n v s)

/-- INJ_CRC (R469, R470): arms MS_INJECT.INJ_CRC: the next PACKET frame sent on LINK carries a wrong CRC-32. -/
def execInjCrc (v : Nat) (s : State) : Out :=
  .next (injCommand MS_INJECT_INJ_CRC 0 v s)

/-- INJ_ACK_DROP (R469, R470): arms MS_INJECT.INJ_ACK_DROP: the next ACK block received on LINK is discarded. -/
def execInjAckDrop (v : Nat) (s : State) : Out :=
  .next (injCommand MS_INJECT_INJ_ACK_DROP 0 v s)

/-- INJ_TIME_MISS (R469, R470): arms MS_INJECT.INJ_TIME_MISS: the next TIME frame received on LINK is discarded. -/
def execInjTimeMiss (v : Nat) (s : State) : Out :=
  .next (injCommand MS_INJECT_INJ_TIME_MISS 0 v s)

/-- INJ_FETCH (R469, R470): arms HI_INJECT.INJ_FETCH: the next descriptor read of RING fails. -/
def execInjFetch (v : Nat) (s : State) : Out :=
  .next (injCommand HI_INJECT_INJ_FETCH 0 v s)

/-- INJ_DOORBELL (R469, R470): arms HI_INJECT.INJ_DOORBELL: the next command doorbell of RING fails its check. -/
def execInjDoorbell (v : Nat) (s : State) : Out :=
  .next (injCommand HI_INJECT_INJ_DOORBELL 0 v s)

/-- DP_INJ_TIMEOUT (R469, R470): arms DP_INJECT.INJ_TIMEOUT: the next job dispatched to WORKER times out at once.
-/
def execDpInjTimeout (v : Nat) (s : State) : Out :=
  .next (injCommand DP_INJECT_INJ_TIMEOUT 0 v s)

/-- INJ_LOST (R469, R470): arms DP_INJECT.INJ_LOST: the next dispatch write to WORKER is treated as returned
ROLE_MOVED. -/
def execInjLost (v : Nat) (s : State) : Out :=
  .next (injCommand DP_INJECT_INJ_LOST 0 v s)

/-- INJ_ECC1 (R469, R470): arms SP_INJECT.INJ_ECC1: the next scratchpad read returns one lane with one bit
inverted. -/
def execInjEcc1 (v : Nat) (s : State) : Out :=
  .next (injCommand SP_INJECT_INJ_ECC1 0 v s)

/-- INJ_ECC2 (R469, R470): arms SP_INJECT.INJ_ECC2: the next scratchpad read returns one lane with two bits
inverted. -/
def execInjEcc2 (v : Nat) (s : State) : Out :=
  .next (injCommand SP_INJECT_INJ_ECC2 0 v s)

/-- INJ_MARCH (R469, R470): arms SP_INJECT.INJ_MARCH: the next test step records a March C- failure. -/
def execInjMarch (v : Nat) (s : State) : Out :=
  .next (injCommand SP_INJECT_INJ_MARCH 0 v s)

/-- INJ_LOSS (R469, R470): arms CK_INJECT.INJ_LOSS: monitor MON sees no edge for one window. -/
def execInjLoss (v : Nat) (s : State) : Out :=
  .next (injCommand CK_INJECT_INJ_LOSS 0 v s)

/-- INJ_BAND (R469, R470): arms CK_INJECT.INJ_BAND: monitor MON's next window is out of band. -/
def execInjBand (v : Nat) (s : State) : Out :=
  .next (injCommand CK_INJECT_INJ_BAND 0 v s)

/-- INJ_DRAIN (R469, R470): arms PW_INJECT.INJ_DRAIN: the next power entry's drain is treated as incomplete. -/
def execInjDrain (v : Nat) (s : State) : Out :=
  .next (injCommand PW_INJECT_INJ_DRAIN 0 v s)

/-- TP_INJ_SENSOR (R469, R470): arms TP_INJECT.INJ_SENSOR: the named tamper sensors fire once. -/
def execTpInjSensor (v : Nat) (s : State) : Out :=
  .next (injCommand TP_INJECT_INJ_SENSOR 0 v s)

/-- INJ_OVERRUN (R469, R470): arms FI_TICK_INJECT.INJ_OVERRUN: the next window to close reports incomplete. -/
def execInjOverrun (v : Nat) (s : State) : Out :=
  .next (injCommand FI_TICK_INJECT_INJ_OVERRUN 0 v s)

/-- INJ_SYNC_MISS (R469, R470): arms FI_TICK_INJECT.INJ_SYNC_MISS: the next expected mark is treated as missing. -/
def execInjSyncMiss (v : Nat) (s : State) : Out :=
  .next (injCommand FI_TICK_INJECT_INJ_SYNC_MISS 0 v s)

/-- INJ_UNDERRUN (R469, R470): arms FI_REEL_INJECT.INJ_UNDERRUN: ENGINE latches an underrun at its next word time.
-/
def execInjUnderrun (v : Nat) (s : State) : Out :=
  .next (injCommand FI_REEL_INJECT_INJ_UNDERRUN 0 v s)

/-- INJ_FORMAT (R469, R470): arms FI_REEL_INJECT.INJ_FORMAT: the next operation header decodes as an invalid
opcode. -/
def execInjFormat (v : Nat) (s : State) : Out :=
  .next (injCommand FI_REEL_INJECT_INJ_FORMAT 0 v s)

/-- INJ_SPLICE (R469, R470): arms FI_REEL_INJECT.INJ_SPLICE: the next splice vector needed is treated as absent. -/
def execInjSplice (v : Nat) (s : State) : Out :=
  .next (injCommand FI_REEL_INJECT_INJ_SPLICE 0 v s)

/-- INJ_CMP_CHECK (R469, R470): arms FI_CHECK_INJECT.INJ_CMP_CHECK: BLOCK's next compare-checker test fails. -/
def execInjCmpCheck (v : Nat) (s : State) : Out :=
  .next (injCommand FI_CHECK_INJECT_INJ_CMP_CHECK 0 v s)

/-- INJ_DLY_CHECK (R469, R470): arms FI_CHECK_INJECT.INJ_DLY_CHECK: BLOCK's next delay-checker test fails. -/
def execInjDlyCheck (v : Nat) (s : State) : Out :=
  .next (injCommand FI_CHECK_INJECT_INJ_DLY_CHECK 0 v s)

/-- INJ_MONITOR (R469, R470): arms FI_CHECK_INJECT.INJ_MONITOR: monitor SEL's next window ends in disagreement. -/
def execInjMonitor (v : Nat) (s : State) : Out :=
  .next (injCommand FI_CHECK_INJECT_INJ_MONITOR 0 v s)

/-- FI_INJ_SENSOR (R469, R470): arms FI_CHECK_INJECT.INJ_SENSOR: sensor SEL is judged stuck at its next reading. -/
def execFiInjSensor (v : Nat) (s : State) : Out :=
  .next (injCommand FI_CHECK_INJECT_INJ_SENSOR 0 v s)

/-- INJ_WATCHDOG (R469, R470): arms FI_CORE_INJECT.INJ_WATCHDOG: CORE's watchdog expires at the next credited tick.
-/
def execInjWatchdog (v : Nat) (s : State) : Out :=
  .next (injCommand FI_CORE_INJECT_INJ_WATCHDOG 0 v s)

/-- INJ_SCH_CONFLICT (R469, R470): arms FI_MISC_INJECT.INJ_SCH_CONFLICT: the next SCH flit at router UNIT is
delayed one cycle. -/
def execInjSchConflict (v : Nat) (s : State) : Out :=
  .next (injCommand FI_MISC_INJECT_INJ_SCH_CONFLICT 0 v s)

/-- INJ_MR4 (R469, R470): arms FI_MISC_INJECT.INJ_MR4: channel UNIT's next MR4 read reports a doubled rate. -/
def execInjMr4 (v : Nat) (s : State) : Out :=
  .next (injCommand FI_MISC_INJECT_INJ_MR4 0 v s)

/-- INJ_RFM_FULL (R469, R470): arms FI_MISC_INJECT.INJ_RFM_FULL: channel UNIT's next draw finds the queue full. -/
def execInjRfmFull (v : Nat) (s : State) : Out :=
  .next (injCommand FI_MISC_INJECT_INJ_RFM_FULL 0 v s)

/-- INJ_DESKEW (R469, R470): arms FI_MISC_INJECT.INJ_DESKEW: group UNIT's next deskew fails on its highest lane. -/
def execInjDeskew (v : Nat) (s : State) : Out :=
  .next (injCommand FI_MISC_INJECT_INJ_DESKEW 0 v s)

/-- INJ_TRAIN_TIMEOUT (R469, R470): arms FI_MISC_INJECT.INJ_TRAIN_TIMEOUT: group UNIT's next TRAINING raises
LANE_TRAIN_TIMEOUT. -/
def execInjTrainTimeout (v : Nat) (s : State) : Out :=
  .next (injCommand FI_MISC_INJECT_INJ_TRAIN_TIMEOUT 0 v s)

/-- INJ_SLOW (R469, R470): arms FI_MISC_INJECT.INJ_SLOW: link UNIT's next measured round trip is 1.3 microseconds
longer. -/
def execInjSlow (v : Nat) (s : State) : Out :=
  .next (injCommand FI_MISC_INJECT_INJ_SLOW 0 v s)

end Sys2Proof.Machine
end

