-- ==== Sys2Proof/Machine/Io.lean ====
section
/-! DEFINITION. The commands of the I/O banks (chapter 24). -/

namespace Sys2Proof.Machine

open F

/-- Is a pin's source asserted now (R114, R491)? -/
def sourceOn (s : State) (b p : Nat) : Bool :=
  let q := s.rd PIN_STATUS_SOURCE b p
  if q % 2 = 0 then (catch_ s (q / 2)).strobeA else (catch_ s (q / 2)).strobeB

/-- IO_DIAG_WINDOW (R41, R43, R497): the window of the frame's entry k opens; a diagnostic pulse leaves when the pin may
have one, and otherwise the action is incomplete. -/
def execIoDiagWindow (k : Nat) (s : State) : Out :=
  match opening s 0x60 k with
  | none => .next s
  | some e =>
    let s := windowStart e s
    let b := e.unit
    let p := bits e.param 5 0
    if !s.flag PIN_STATUS_STROBE b p || !s.flag PIN_STATUS_DIAG_OK b p then .next (openWin k e true s)
    else
      let s := if pinClass s b p = 2 then diagAtTick b p 4 s else s
      let s := updPins (fun u => { u with pulses := u.pulses.filter (· != 48 * b + p), missed := u.missed.filter (· != 48 * b + p) }) s
      if !s.flag PIN_STATUS_SHUT b p && !s.flag BK_STATUS_VCCO_MISMATCH b && !sourceOn s b p && decide (60 ≤ e.length) then
        .next (openWin k e true (updPins (fun u => { u with pulses := (48 * b + p) :: u.pulses }) s))
      else
        let s := updPins (fun u => { u with missed := (48 * b + p) :: u.missed }) s
        .next (openWin k e false (diagAtTick b p 4 (s.incSat DIAG_COUNTS_DIAG_MISSED b)))

/-- VCCO_MEASURE (R488): the VCCO of bank b is measured, in mV. -/
def execVccoMeasure (b : Fin 8) (mv : Fin 4096) (s : State) : Out := .next (measureVcco b mv s)

/-- CONTENTION_DETECT (R492, R498): a pin that drives has sensed the opposite level for 5 ns. -/
def execContentionDetect (b : Fin 8) (p : Fin 48) (sensed : Bool) (s : State) : Out :=
  .next (if pinDrives s b p then shutPin b p (s.setb PIN_STATUS_SENSED sensed b p) else s)

/-- PIN_RETRY (R493): it waits for the next tick. -/
def execPinRetry (b : Fin 8) (p : Fin 48) (s : State) : Out :=
  .next (updPins (fun u => { u with retries := u.retries ++ [48 * b.val + p.val] }) s)

/-- SENSE_TEST (R494): the detector's own test on a pin; flagged says whether the detector flagged it. -/
def execSenseTest (b : Fin 8) (pin : Fin 64) (flagged : Bool) (s : State) : Out :=
  .next (((s.wr IO_TEST_PIN pin b).wr IO_TEST_SENSE_TEST 0 b).wr IO_TEST_RESULT (if flagged then 1 else 2) b)

/-- STROBE_OPEN_CHECK (R495 to R497): the load current of a pulse of at least 20 ns is measured. A short-pulse pin is
checked by its diagnostic pulse only, and a long-pulse pin whose last window sent none shows no result (R43). -/
def execStrobeOpenCheck (b : Fin 8) (p : Fin 4) (connected : Bool) (s : State) : Out :=
  if !s.flag PIN_STATUS_STROBE b p || !pinDrives s b p then .next s
  else
    let diag := s.io.pulses.contains (48 * b.val + p.val)
    if !diag && sget 0 s.io.classes (48 * b.val + p.val) != 1 then .next s
    else
    let s := if connected then s else s.incSat DIAG_COUNTS_OPENS b
    let s := updPins (fun u => { u with pulses := u.pulses.filter (· != 48 * b.val + p.val) }) s
    .next (if diag || !s.io.missed.contains (48 * b.val + p.val) then
      diagAtTick b p (if connected then 2 else 3) s else s)

/-- BK_CLEAR_COUNTS (R508). -/
def execBkClearCounts (b : Fin 8) (s : State) : Out :=
  .next (s.clrAllInst [BK_COUNTS_SHUTS, BK_COUNTS_RETRIES, DIAG_COUNTS_OPENS, DIAG_COUNTS_DIAG_MISSED,
    PIN_STATUS_CONTENTIONS] b)

end Sys2Proof.Machine
end

