-- ==== Sys2Proof/Machine/Lane.lean ====
section
/-! DEFINITION. The commands of the serial lanes (chapter 13). -/

namespace Sys2Proof.Machine

open F

/-- LANE_TRAINED (R300): lock and adaptation are complete, with no marker missed (R296). -/
def execLaneTrained (g : Fin 18) (i : Fin 8) (s : State) : Out :=
  if laneState s g i == 1 && s.rd LG_STATUS_PLL_STATE g != 3 && s.dbg.pins != 2 then
    let s := updLane g i (fun u => { u with missed := 0 }) ((goActive g i s).wr LG_STATUS_PLL_STATE 2 g)
    let s := ((s.wr LN_STATUS_BLOCK_LOCK 1 g i).wr LN_STATUS_MARKER_LOCK 1 g i).wr LN_STATUS_ELASTIC 32 g i
    .next (powerGo (refreshReady g s))
  else .next s

/-- LANE_TRAIN_TIMEOUT (R300): 3 ms of TRAINING have passed; raised once in a training. -/
def execLaneTrainTimeout (g : Fin 18) (s : State) : Out :=
  let u := sget {} s.groups g
  match u.trainFrom with
  | none => .next s
  | some t =>
    .next (if !u.timedOut && decide (t + 4500000 ≤ s.cycle) &&
        (List.range 8).any (fun i => laneState s g i == 1) then trainTimeout g false s else s)

/-- A lane fails to deskew (R297). -/
def deskewFail (g i : Nat) (injected : Bool) (s : State) : State :=
  let s := refreshReady g (updLane g i (fun u => { u with deskewed := false }) s)
  raiseInj E.LANE_DESKEW_FAIL g (8 * g + i) injected (s.incSat LG_COUNTS_DESKEW_FAILS g)

/-- The deskew of a lane against the reference lane of its set (R297): its offset in 1/16 ns, none where no
marker of the reference lane matches within the span. The reference lane, the lowest of the set, has offset 0. -/
def deskew (g i : Nat) (skew : Option Int) (s : State) : State :=
  match (bondedSets (s.rd LG_ROLE_WORD0 g)).find? (·.contains i) with
  | none => s
  | some set =>
    if !s.flag LN_STATUS_MARKER_LOCK g i then s
    else
      let skew := if set.head? == some i then some 0 else skew
      let s := match skew with
        | some v => s.wr LN_SKEW_SKEW (v % 8192).toNat g i
        | none => s
      let top := (bondedSets (s.rd LG_ROLE_WORD0 g)).foldl (fun a l => l.foldl max a) 0
      let (inj, s) := takeInj FI_MISC_INJECT_INJ_DESKEW 0 (s.rd FI_MISC_INJECT_UNIT == g && i == top) s
      match skew with
      | none => deskewFail g i inj s
      | some v =>
        if inj || decide (1536 < v.natAbs) then deskewFail g i inj s
        else refreshReady g (updLane g i (fun u => { u with deskewed := true }) s)

/-- Can lane i receive blocks (R292, R300, R306, R448): in a role with blocks, TRAINING or ACTIVE, with its PLL not
smouldering and its pins its own? -/
def receives (s : State) (g i : Nat) : Bool := transmits s g i && blockRole s g

/-- The control blocks that have arrived on a lane since its last marker slot (R293, R298): those of an unknown type are
counted, and in the roles MESH and DIAG the IDLE blocks bring the elastic buffer back from the fill that the rates of the two
ends would leave. -/
def takeBlocks (g i : Nat) (types : List Nat) (fill : Option Nat) (s : State) : State :=
  let s := s.incSat LN_LOCK_BAD_TYPE g i (badTypes (groupRole s g) types)
  let fill := fill.getD (s.rd LN_STATUS_ELASTIC g i)
  s.wr LN_STATUS_ELASTIC (if groupRole s g = 1 then fill else idleFill fill (types.count 0x1E)) g i

/-- ALIGN_MARKER_RECEIVED (R293, R295 to R298): a marker arrives on a lane; whether 16,385 slots after the last,
the BIP bits that differ, the types of the control blocks since the last marker slot, the fill that the rates leave, and
the lane's offset from its reference lane in 1/16 ns. -/
def execAlignMarkerReceived (g : Fin 18) (i : Fin 8) (spaced : Bool) (bip : Fin 256) (badTypes : List (Fin 256))
    (fill : Fin 65) (skew : Option Int) (s : State) : Out :=
  if !receives s g i || !s.flag LN_STATUS_BLOCK_LOCK g i then .next s
  else
    let s := updLane g i (fun u => { u with missed := 0 }) s
    let s := if spaced then s.wr LN_STATUS_MARKER_LOCK 1 g i else s
    let s := takeBlocks g i (badTypes.map (·.val)) (some fill) s
    let (inj, s) := takeInj LG_INJECT_INJ_BIP g (s.rd LG_INJECT_LANE g == i.val) s
    let s := s.incSat LN_MARKER_BIP_ERRORS g i (popcount (if inj then bip.val ||| 1 else bip.val))
    .next (deskew g i skew s)

/-- ALIGN_MARKER_MISSED (R293, R296): an expected slot held no valid marker. -/
def execAlignMarkerMissed (g : Fin 18) (i : LaneSlot) (s : State) : Out :=
  let k := i.lane
  if !s.flag LN_STATUS_MARKER_LOCK g k then .next s
  else
    let s := takeBlocks g k (i.types.map (·.val)) none (s.incSat LN_MARKER_MARKERS_MISSED g k)
    let n := (laneU s g k).missed + 1
    if 4 ≤ n then .next (loseMarkers g k false s)
    else .next (updLane g k (fun u => { u with missed := n }) s)

/-- LANE_LOCK_LOST (R296): 16 invalid sync headers within 64. -/
def execLaneLockLost (g : Fin 18) (i : Fin 8) (s : State) : Out := .next (loseLock g i false s)

/-- BLOCK_LOCK_ACQUIRED (R296, R308): 64 consecutive valid sync headers. An injection that waits for the lane's lock is
performed. -/
def execBlockLockAcquired (g : Fin 18) (i : Fin 8) (s : State) : Out :=
  .next (if receives s g i then performLock g (s.wr LN_STATUS_BLOCK_LOCK 1 g i) else s)

/-- LANE_ELASTIC_SLIP (R298): the receive elastic buffer overflows or underruns by one block. -/
def execLaneElasticSlip (g : Fin 18) (i : Fin 8) (overflow : Bool) (s : State) : Out :=
  .next (if slips s g i then elasticSlip g i overflow false s else s)

/-- PRBS_TX_EN (R303): a write of TX_EN, with PATTERN; on a lane with role traffic it is not performed. -/
def execPrbsTxEn (g : Fin 18) (i : Fin 8) (on : Bool) (pattern : Fin 4) (s : State) : Out :=
  if on && !prbsLane (s.rd LG_ROLE_WORD0 g) i then .next (s.wr LN_PRBS_CTRL_IGNORED 1 g i)
  else .next (noteLaneLine g ((s.wr LN_PRBS_CTRL_PATTERN pattern g i).setb LN_PRBS_CTRL_TX_EN on g i) i)

/-- PRBS_RX_EN (R303, R308): a write of RX_EN, with PATTERN; a change from 0 to 1 clears the counts, and the checker
synchronises anew. -/
def execPrbsRxEn (g : Fin 18) (i : Fin 8) (on : Bool) (pattern : Fin 4) (s : State) : Out :=
  if on && !prbsLane (s.rd LG_ROLE_WORD0 g) i then .next (s.wr LN_PRBS_CTRL_IGNORED 1 g i)
  else
    let was := s.flag LN_PRBS_CTRL_RX_EN g i
    let s := noteLaneLine g ((s.wr LN_PRBS_CTRL_PATTERN pattern g i).setb LN_PRBS_CTRL_RX_EN on g i) i
    if on && !was then
      .next (((s.wr LN_PRBS_ERR_ERRORS 0 g i).wr LN_PRBS_BITS_BITS 0 g i).wr LN_PRBS_CTRL_RX_LOCK 0 g i)
    else if !on then .next (s.wr LN_PRBS_CTRL_RX_LOCK 0 g i)
    else .next s

/-- PRBS_CHECKER_SYNC (R303): n holds the bits that the lane has received since the last of these commands, in order. A
checker that is not synchronised fills with them, and one that is compares each with the bit that follows in its pattern. It
is synchronised by as many bits as its pattern's register holds (DESIGN CHOICE, log entry 56). -/
def execPrbsCheckerSync (g : Fin 18) (i : Fin 8) (n : List Bool) (_e : Unit) (s : State) : Out :=
  let st := laneState s g i
  let p := s.rd LN_PRBS_CTRL_PATTERN g i
  let len := (prbsTaps p).2
  if !(s.flag LN_PRBS_CTRL_RX_EN g i && (st == 3 || st == 1)) then .next s
  else
    let locked := s.flag LN_PRBS_CTRL_RX_LOCK g i
    let fill := if locked then [] else n.take len
    let start := if locked then (laneU s g i).checker else prbsFill p 0 fill
    if !locked && decide (fill.length < len) then .next s
    else
      let (wrong, st) := prbsCompare p start (n.drop fill.length)
      let s := updLane g i (fun u => { u with checker := st }) (s.wr LN_PRBS_CTRL_RX_LOCK 1 g i)
      .next ((s.incWrap LN_PRBS_BITS_BITS g i (n.length - fill.length)).incWrap LN_PRBS_ERR_ERRORS g i wrong)

/-- EYE_SCAN_START (R304): word v is written to LN_EYE_CTRL with START. -/
def execEyeScanStart (g : Fin 18) (i : Fin 8) (v : Nat) (s : State) : Out :=
  let st := laneState s g i
  if !bit v 20 then .next s
  else if s.flag LN_EYE_CTRL_BUSY g i then
    .next ([LN_EYE_CTRL_PHASE, LN_EYE_CTRL_VOLT, LN_EYE_CTRL_EYE, LN_EYE_CTRL_DWELL].foldl
      (fun t f => writeField t f g i v) (s.wr LN_PRBS_CTRL_IGNORED 1 g i))
  else
    let s := [LN_EYE_CTRL_PHASE, LN_EYE_CTRL_VOLT, LN_EYE_CTRL_EYE, LN_EYE_CTRL_DWELL].foldl
      (fun t f => writeField t f g i v) s
    if st == 1 || st == 3 || groupRole s g == 3 then .next (s.wr LN_EYE_CTRL_BUSY 1 g i)
    else .next (s.wr LN_PRBS_CTRL_IGNORED 1 g i)

/-- EYE_SCAN_DONE (R304): the dwell is complete with so many disagreements. -/
def execEyeScanDone (g : Fin 18) (i : Fin 8) (errors : Nat) (s : State) : Out :=
  if s.flag LN_EYE_CTRL_BUSY g i then
    .next ((s.wr LN_EYE_CTRL_BUSY 0 g i).wr LN_EYE_RESULT_ERRORS
      (min errors (2 ^ (min 30 (s.rd LN_EYE_CTRL_DWELL g i) + 10))) g i)
  else .next s

/-- LG_CLEAR_COUNTS (R308): LG_COUNTS and the lane counters. -/
def execLgClearCounts (g : Fin 18) (s : State) : Out :=
  .next (s.clrAllInst [LG_COUNTS_SLIPS, LG_COUNTS_DESKEW_FAILS, LN_LOCK_LOCK_LOSSES, LN_LOCK_BAD_TYPE,
    LN_MARKER_BIP_ERRORS, LN_MARKER_MARKERS_MISSED] g)

end Sys2Proof.Machine
end

