-- ==== Sys2Proof/Machine/Load.lean ====
section
/-! DEFINITION. The commands of the configuration block, of region swaps and of the scrubber (R176 to R219). -/

namespace Sys2Proof.Machine

open F

/-- CONFIG_LOAD (R192, R195): a host-sourced load starts, or BUSY. -/
def execConfigLoad (ring : Fin 64) (s : State) : Out :=
  match takeOp s ring 0x10 with
  | none => .next s
  | some o =>
    if cfgBusy s then .next (decideOp ring o.idx Code.BUSY 0 0 s)
    else
      let s := cfgStart 0 1 (o.word 1) (bits (o.word 2) 31 0) (some (ring.val, o.idx)) [] (runOp ring o.idx s)
      .next (powerWatch s)

/-- The reads of the next part of a stream meet this parity error, or none (R239). -/
def meetUpset (u : Option Upset) (s : State) : State := if u = s.cfg.upset then s else upC (fun c => { c with upset := u }) s

/-- CONFIG_HEADER (R191, R196, R198): the header is checked, and on acceptance the named regions are held and
their frames cleared. fail: what its source does; one that fails ends the load (cause SOURCE). A refused key is answered 2,048 core cycles after
the header arrived (R283), and a header of which an alarm is on the way is not judged (R276). -/
def execConfigHeader (fail : Delivery) (s : State) : Out :=
  if cfgState s != 1 || streamAlarmed s then .next s
  else match s.cfg.refusedAt, fail with
  | some (t, o), _ => .next (answerKey t o s)
  | none, .fails => .next (cfgFail Code.ABORTED 0x10 0 0 s)
  | none, .bodies _ => .next s
  | none, .whole upset => .next (if streamRests s then s else takeCfgHeader (meetUpset upset s))

/-- CONFIG_CLEAR_DONE (R178, R196): the load enters LOADING; the clear of a CLEAR swap is done (R206). -/
def execConfigClearDone (s : State) : Out :=
  if cfgState s != 2 then .next s
  else if s.cfg.clearOnly then .next (handOver s.cfg.swap (cfgIdle s))
  else .next (s.wr CFG_STATUS_STATE 3)

/-- CONFIG_SEGMENT (R182, R185, R186, R189, R190): the next segment, or run of an F1 stream, is taken in; the block holds
two segments, so the frames of the last but one are written before. fail: what its source does; a run's bodies may come in
pieces, and a source that fails ends the load (cause SOURCE). -/
def execConfigSegment (fail : Delivery) (s : State) : Out :=
  if cfgState s != 3 || s.cfg.decoding || decide (s.rd CFG_FRAMES_FRAMES < s.cfg.prevEnd) || streamAlarmed s then .next s
  else match fail with
  | .fails => .next (cfgFail Code.ABORTED 0x10 0 s.cfg.pos s)
  | .bodies n =>
    if streamRests s || !s.flag CFG_STATUS_FORMAT then .next s else .next (takeRun n s)
  | .whole upset =>
    if streamRests s then .next s
    else if s.flag CFG_STATUS_FORMAT then .next (takeRun frameCount s)
    else .next (takeSegment (meetUpset upset s))

/-- The next configuration command, when it has opcode opc, does f. -/
def cfgCommand (opc : Nat) (s : State) (f : Nat → State → State) : Out :=
  match nextCommand opc s with
  | none => .next s
  | some (.inl t) => .next t
  | some (.inr w) => .next (f w s)

/-- CFG_NOP (R187). -/
def execCfgNop (s : State) : Out :=
  cfgCommand 0 s fun w s => if bits w 23 0 ≠ 0 then cfgBreach s else consume 1 s

/-- REGION_SELECT (R187, R188). -/
def execRegionSelect (s : State) : Out :=
  cfgCommand 1 s fun w s =>
    if bits w 23 7 ≠ 0 ∨ 0x40 < bits w 6 0 then cfgBreach s
    else consume 1 (upC (fun c => { c with block := some (bits w 6 0) }) s)

/-- WRITE_FRAME (R183, R187, R188): COUNT bodies wait for consecutive frames of the selected block. -/
def execWriteFrame (s : State) : Out :=
  cfgCommand 2 s fun w s =>
    let first := bits w 13 0
    let count := bits w 21 15 + 1
    match s.cfg.block with
    | none => cfgBreach s
    | some b =>
      if bits w 23 22 ≠ 0 ∨ !holdsWords s (1 + 96 * count) ∨ s.cfg.bodies < count ∨ !mayWrite s b first ∨
          !mayWrite s b (first + count - 1) then cfgBreach s
      else
        let p := s.cfg.payload
        let new := (List.range count).map fun j =>
          { frame := frameIdx b (first + j), dyn := bit w 14, body := leAt p (4 + 384 * j) 384 : CfgWrite }
        consume (1 + 96 * count)
          (upC (fun c => { c with queue := c.queue ++ new, bodies := c.bodies - count }) s)

/-- REPEAT_FRAME (R183, R187, R188): one body waits for each frame of the list, in list order. -/
def execRepeatFrame (s : State) : Out :=
  cfgCommand 3 s fun w s =>
    let n := bits w 9 0 + 1
    if bits w 13 10 ≠ 0 ∨ bits w 23 15 ≠ 0 ∨ !holdsWords s (97 + n) ∨ s.cfg.bodies < 1 then cfgBreach s
    else
      let p := s.cfg.payload
      let addrs := (List.range n).map fun j => leAt p (388 + 4 * j) 4
      if addrs.all fun a => bits a 15 14 == 0 && bits a 31 23 == 0 && mayWrite s (bits a 22 16) (bits a 13 0) then
        let new := addrs.map fun a =>
          { frame := frameIdx (bits a 22 16) (bits a 13 0), dyn := bit w 14, body := leAt p 4 384 : CfgWrite }
        consume (97 + n) (upC (fun c => { c with queue := c.queue ++ new, bodies := c.bodies - 1 }) s)
      else cfgBreach s

/-- CHECK (R188, R198): once every frame before it is committed, its word is compared with the checksum of the
readbacks since the previous CHECK. -/
def execCheck (s : State) : Out :=
  cfgCommand 4 s fun w s =>
    if bits w 23 0 ≠ 0 ∨ !holdsWords s 2 then cfgBreach s
    else if !s.cfg.queue.isEmpty then s
    else
      let (inj, s) := takeInj CFG_INJECT_INJ_CHECK 0 true s
      if inj || leAt s.cfg.payload 4 4 != s.cfg.crc ^^^ 0xFFFFFFFF then
        let s := raiseInj E.CONFIG_CHECK_FAIL 0 s.cfg.seg inj s
        cfgFail Code.INTERNAL 0x0D 0 s.cfg.payPos s
      else consume 2 (upC (fun c => { c with crc := 0xFFFFFFFF }) s)

/-- FIX_AT_TICK (R179, R187, R188): the release tick, ignored with FIX_IGNORED in a swap load. -/
def execFixAtTick (s : State) : Out :=
  cfgCommand 5 s fun w s =>
    if bits w 23 0 ≠ 0 ∨ !holdsWords s 3 ∨ s.cfg.fixTick.isSome then cfgBreach s
    else
      let t := leAt s.cfg.payload 4 8
      let s := if s.cfg.swap.isEmpty then s else s.wr CFG_STATUS_FIX_IGNORED 1
      consume 3 (upC (fun c => { c with fixTick := some t }) s)

/-- KEY_ROLL (R183, R184): the last command of a segment that is not the last; the next key is derived. -/
def execKeyRoll (s : State) : Out :=
  cfgCommand 6 s fun w s =>
    let c := s.cfg
    if bits w 23 0 ≠ 0 ∨ c.last ∨ c.bodies ≠ 0 ∨ c.payload.length ≠ 4 then cfgBreach s
    else
      let key := if s.flag CFG_STATUS_ENCRYPTED then kdf c.parent
          ([0x4C, 0x58, 0x39, 0x43, 0x46, 0x47, 0x4B, 0x52, 0] ++ c.nonce ++ beBytes (c.seg + 1) 4) else []
      upC (fun c =>
        { c with
          seg := c.seg + 1, decoding := false, payload := [], key := key, parent := [],
          prevEnd := c.segEnd, segEnd := s.rd CFG_FRAMES_FRAMES + c.queue.length }) s

/-- END (R183, R188): once every frame is committed, the frames written are counted against FRAME_WRITES. -/
def execCfgEnd (s : State) : Out :=
  cfgCommand 7 s fun w s =>
    let c := s.cfg
    if bits w 23 0 ≠ 0 ∨ !c.last ∨ c.bodies ≠ 0 ∨ c.payload.length ≠ 4 then cfgBreach s
    else if !c.queue.isEmpty then s
    else if s.rd CFG_FRAMES_FRAMES ≠ c.writes then cfgFail Code.BAD_FIELD 0x12 11 c.payPos s
    else cfgDone (upC (fun c => { c with decoding := false, payload := [] }) s)

/-- FRAME_COMMIT (R175, R176, R276): one frame is committed, unless a late alarm on its way concerns the load. -/
def execFrameCommit (s : State) : Out :=
  .next (if cfgState s == 3 && !streamAlarmed s then commitFrame s else s)

/-- CONFIG_RELEASE (R179, R487, R490): at the release tick the loaded regions run; a FULL load gives the pins what its
global frames hold. -/
def execConfigRelease (_lines : Unit) (words : List (Nat × Nat × Nat)) (_mismatch : Unit) (pins : List (Nat × Nat × Nat)) (banks : List (Nat × Nat))
    (s : State) : Out :=
  if s.offset == 0 && releaseStands s then
    let full := s.cfg.full
    let s := releaseLoad words s
    .next (if full then pinRelease pins banks s else s)
  else .next s

/-- CONFIG_ABORT (R196, R201): CFG_CTRL.ABORT waits to be latched at the next tick; ignored in IDLE. -/
def execConfigAbort (s : State) : Out :=
  .next (if cfgState s == 0 then s else upC (fun c => { c with abort := some (c.abort.getD s.now) }) s)

/-- CONFIG_ABORT_LATCH (R194, R196, R200): an abort that arrived before this tick ends the load ABORTED, unless the
release has come; one of a header's checks in progress waits for them, but a JTAG load that stalls in its header ends. -/
def execConfigAbortLatch (s : State) : Out :=
  match s.cfg.abort with
  | none => .next s
  | some t =>
    let st := cfgState s
    if s.now ≤ t ∨ (st = 1 ∧ s.cfg.src ≠ 3) then .next s
    else if st = 0 ∨ releaseStands s then .next (upC (fun c => { c with abort := none }) s)
    else .next (cfgAbort s)

/-- CFG_CLEAR_COUNTS (R201). -/
def execCfgClearCounts (s : State) : Out :=
  .next (s.clrAll [CFG_COUNTS_LOADS_OK, CFG_COUNTS_LOADS_FAILED])

/-- SWAP_DRAINED (R204, R205): no reservation made before the swap's tick remains at either port. -/
def execSwapDrained (k : Fin 64) (s : State) : Out :=
  .next (if s.rd SWAP_STATUS_STATE 0 k == 1 && portDrained s (portRegion k 0) && portDrained s (portRegion k 1) then
    drainEnds k s else s)

/-- SWAP_DRAIN_FORCED (R205): DRAIN_LIMIT frames have passed without completion. -/
def execSwapDrainForced (k : Fin 64) (s : State) : Out :=
  match (s.region_ k).swap with
  | none => .next s
  | some r =>
    let drained := portDrained s (portRegion k 0) && portDrained s (portRegion k 1)
    if s.rd SWAP_STATUS_STATE 0 k == 1 && s.offset == 0 && decide (r.start + max 1 r.drain ≤ s.now) && !drained then
      let (b0, g0, s) := forceDrain (portRegion k 0) r.epoch s
      let (b1, g1, s) := forceDrain (portRegion k 1) r.epoch s
      let s := ((s.wr SWAP_DISCARDED_RESPONSES (g0 + g1) 0 k).wr SWAP_DISCARDED_RETURNED (b0 + b1) 0 k).wr
        SWAP_STATUS_FORCED 1 0 k
      let s := raise E.SWAP_DRAIN_FORCED k ((b0 + b1) % 2 ^ 16 + (g0 + g1) % 2 ^ 16 * 2 ^ 16) s
      .next (drainEnds k s)
    else .next s

/-- SWAP_LOAD_START (R206): the group of region k has drained and the block is IDLE: its load or clear starts. -/
def execSwapLoadStart (k : Fin 64) (s : State) : Out :=
  match (s.region_ k).swap with
  | none => .next s
  | some r =>
    if !groupReady s k then .next s
    else
      let group := groupOf s r
      let s := group.foldl (fun t j => t.wr SWAP_STATUS_STATE 3 0 j) s
      if r.mode = 2 then
        let s := clearFrames group (group.foldl (fun t j => loadRegion j t) s)
        .next (upC (fun c => { c with swap := group, clearOnly := true })
          (s.wr CFG_STATUS_STATE 2))
      else .next (cfgStart (if r.dram then 1 else 0) (if r.dram then 0 else 1) r.addr r.len none group s)

/-- SWAP_OPEN (R207, R209): at the open tick, a credited one where OPEN_TICK names it, the region takes its epoch and owner, starts if it was
reloaded, and its ports open; a cleared region is left Dark. -/
def execSwapOpen (k : Fin 64) (_lines : Unit) (words : List (Nat × Nat × Nat)) (_mismatch : Unit) (s : State) : Out :=
  match (s.region_ k).swap with
  | none => .next s
  | some r =>
    if s.rd SWAP_STATUS_STATE 0 k == 4 && s.offset == 0 && (credited s || (s.region_ k).openFrom != r.openTick) &&
        decide ((s.region_ k).openFrom ≤ s.now) then
      let s := (s.wr RG_EPOCH_EPOCH r.epoch k).wr RG_OWNER_OWNER r.owner k
      let s := if r.openTick ≠ 0 ∧ r.openTick < s.now then s.wr SWAP_STATUS_LATE 1 0 k else s
      let s := ((s.wr SWAP_STATUS_STATE 0 0 k).wr SWAP_STATUS_CODE Code.OK 0 k).wr SWAP_TICK_TICK s.now 0 k
      let s := dropAttach k (s.wr RG_STATUS_SWAP 0 k)
      let s := refreshReloads s
      let s := if r.mode = 1 then s else setUncorrectable k false s
      let s := match r.mode with
        | 0 => boundaryCheck (openRegion k (startRegion words k s))
        | 1 => refreshLines k (openRegion k (updRegion k (fun u => { u with held := false }) s))
        | _ => setPstate k 3 (updRegion k (fun u => { u with held := false }) (setConfigured k false s))
      .next (raise E.SWAP_DONE k (r.epoch + r.mode * 2 ^ 16 + (if r.auto then 2 ^ 18 else 0)) s)
    else .next s

/-! The scrubber (R212 to R218). -/

/-- The linear index of a frame address (R174). -/
def addrIdx (a : Nat) : Nat := frameIdx (bits a 22 16) (bits a 13 0)

/-- Is the frame of a block excluded from scrubbing (R212)? -/
def scrubExcludes (s : State) (b : Nat) : Bool :=
  let loading := cfgState s != 0
  if b = 0x40 then loading && s.cfg.full
  else s.rd RG_STATUS_PSTATE b == 3 || s.flag RG_STATUS_SWAP b || (loading && s.cfg.mask.testBit b)

/-- An uncorrectable frame (R215, R216). -/
def frameLost (l : Nat) (injected : Bool) (s : State) : State :=
  let b := frameBlock l
  let a := frameAddr l
  let s := (s.wr SCRUB_LAST_UNC_ADDR a).incWrap SCRUB_UNCORR_COUNT
  if b = 0x40 then raiseInj E.FRAME_UNCORRECTABLE 64 a injected (s.wr SCRUB_STATUS_GLOBAL_UNCORRECTABLE 1)
  else
    let flagged := s.flag RG_STATUS_FRAME_UNCORRECTABLE b
    let s := raiseInj E.FRAME_UNCORRECTABLE b a injected (setUncorrectable b true s)
    if !flagged && s.mbit SCRUB_POLICY_RELOAD b && s.rd RELOAD_LEN_BYTES 0 b != 0 && !s.cfg.noAuto.contains b then
      upC (fun c => { c with reloads := c.reloads ++ [(b, s.now + 2)] }) s
    else s

/-- One frame is checked or skipped (R212, R214). -/
def scrubFrame (l : Nat) (s : State) : State :=
  if scrubExcludes s (frameBlock l) then upC (fun c => { c with skipExc := c.skipExc + 1 }) s
  else if sget 0 s.frameDyn l != 0 then upC (fun c => { c with skipDyn := c.skipDyn + 1 }) s
  else
    let (one, s) := takeInj SCRUB_INJECT_INJ_SINGLE 0 true s
    let (two, s) := takeInj SCRUB_INJECT_INJ_DOUBLE 0 true s
    let errs := sget 0 s.frameBad l + (if one then 1 else 0) + (if two then 2 else 0)
    if errs = 0 then s
    else if errs = 1 then (s.updFrameBad fun m => sput 0 m l 0).incWrap SCRUB_CORRECTED_COUNT
    else frameLost l (one || two) s

/-- Debug readback takes one step (R213): a frame that DEBUG_READ has read is paid for. -/
def borrowStep (s : State) : State :=
  let s := upC (fun c => { c with steps := 0, owed := c.owed - 1 }) s
  s.setb SCRUB_STATUS_BORROWED (s.cfg.owed != 0)

/-- SCRUB_STEP (R212, R213, R218): one step of 512 core cycles, unless debug readback borrows it (one in 16). -/
def execScrubStep (s : State) : Out :=
  if !s.flag SCRUB_CTRL_ENABLE && !s.flag SCRUB_STATUS_RUNNING then .next s
  else
    let s := s.setb SCRUB_STATUS_RUNNING (s.flag SCRUB_CTRL_ENABLE)
    if s.flag SCRUB_STATUS_BORROWED && s.cfg.steps ≥ 15 then .next (borrowStep s)
    else
      let l := addrIdx (s.rd SCRUB_POS_ADDR)
      let s := scrubFrame l (upC (fun c => { c with steps := min 15 (c.steps + 1) }) s)
      if l + 1 < frameCount then .next (s.wr SCRUB_POS_ADDR (frameAddr (l + 1)))
      else
        let c := s.cfg
        let s := ((s.wr SCRUB_POS_ADDR (frameAddr 0)).incWrap SCRUB_PASSES_PASSES).wr
          SCRUB_PASS_TIME_CYCLES (s.cycle - c.passStart)
        let s := s.updTickWrites (· ++ [⟨SCRUB_SKIPS_DYNAMIC, 0, 0, c.skipDyn⟩, ⟨SCRUB_SKIPS_EXCLUDED, 0, 0, c.skipExc⟩])
        .next (upC (fun c => { c with passStart := s.cycle, skipDyn := 0, skipExc := 0 }) s)

/-- AUTO_RELOAD_START (R216, R218): at a permitted tick the automatic reload of region k starts, one at a time
and in region order; a swap under way, or a RELOAD_LEN of 0, leaves it not started. -/
def execAutoReloadStart (k : Fin 64) (s : State) : Out :=
  match s.cfg.reloads.find? (·.1 == k.val) with
  | none => .next s
  | some (_, due) =>
    if s.offset ≠ 0 ∨ s.now < due ∨ !credited s ∨ !hasApply s s.now then .next s
    else
      let drop := fun (s : State) => upC (fun c => { c with reloads := c.reloads.filter (·.1 != k.val) }) s
      if s.flag RG_STATUS_SWAP k || s.rd RELOAD_LEN_BYTES 0 k == 0 then .next (drop s)
      else
        let another := (List.range 64).any fun j =>
          s.flag SWAP_STATUS_AUTO 0 j && s.flag RG_STATUS_SWAP j && decide (s.rd SWAP_STATUS_STATE 0 j < 4)
        let earlier := s.cfg.reloads.any fun r =>
          decide (r.1 < k.val ∧ r.2 ≤ s.now) && s.rd RG_STATUS_PSTATE r.1 != 2 && !s.flag RG_STATUS_SWAP r.1
        if s.rd RG_STATUS_PSTATE k == 2 || another || earlier then .next s
        else
          let r : SwapReq :=
            { owner := s.rd RG_OWNER_OWNER k, mode := 0, dram := true, epoch := (s.rd RG_EPOCH_EPOCH k + 1) % 65536,
              drain := max 1 (s.rd SCRUB_CTRL_AUTO_DRAIN), addr := s.rd RELOAD_ADDR_ADDR 0 k,
              len := s.rd RELOAD_LEN_BYTES 0 k, openTick := 0, set := s.cycle, group := k.val + 65536,
              start := s.now, auto := true }
          let s := (drop s).incWrap RELOAD_COUNT_COUNT 0 k
          .next (powerWatch (startSwap k r (s.wr SCRUB_STATUS_RELOAD_ACTIVE 1)))

/-- SCRUB_CLEAR_COUNTS (R219). -/
def execScrubClearCounts (s : State) : Out :=
  .next (s.clrAll [SCRUB_PASSES_PASSES, SCRUB_CORRECTED_COUNT, SCRUB_UNCORR_COUNT, RELOAD_COUNT_COUNT,
    FW_COUNTS_SWITCHES, FW_COUNTS_REVERTS])

end Sys2Proof.Machine
end

