-- ==== Sys2Proof/Machine/MeshTime.lean ====
section
/-! DEFINITION. Mesh time (R327, R328): the words of a TIME frame, and what a usable one does. -/

namespace Sys2Proof.Machine

open F

/-- A time of a tick and an offset in 1/64 core cycle, in 1/64 core cycle. -/
def time64 (s : State) (tick off : Nat) : Int := (tick * s.period * 64 + off : Nat)

/-- The phase is set from a time message (R328): this core cycle stands at off/64 core cycles in its frame, and the fraction
joins the phase as an error of a mark does. Within a frame whose number stays, the offset only moves on (DESIGN CHOICE, log
entry 74). -/
def setPhase (off : Nat) (s : State) : State :=
  let c := off / 64
  let s := updTck (fun t => { t with phase := t.phase - (off % 64 : Nat) * 1000000 }) s
  if c ≤ s.offset then s else updTck (fun t => { t with base := s.cycle - c }) (s.wr FRAME_OFFSET_OFFSET c)

/-- The first usable TIME frame in ACQUIRING plays the part of the epoch mark (R328), at off/64 core cycles in frame tick. The
tick number never decreases (R29): one that lies behind is refused as R49 refuses an ALIGN_TICK that does (DEDUCED, log entry
74). -/
def takeRootTick (tick off : Nat) (s : State) : State :=
  if tick < s.now then
    setAlign 0 false (raise E.TICK_MISMATCH 0 s.now (s.wr ALIGN_STATUS_EPOCH_MISMATCH 1))
  else
    let s := updTck (fun t => { t with phaseSet := true }) ((s.wr ALIGN_CTRL_ARM 0).wr ALIGN_STATUS_EPOCH_DONE 1)
    setPhase off (if tick = s.now then s else jumpTick tick s)

/-- A usable TIME frame has come in this frame, or missing ones have been counted in it (R328). -/
def noteTimeFrom (s : State) : State := updTck (fun t => { t with timeFrom := s.now }) s

/-- A usable TIME frame of the time link in MESH mode (R328): its transmit time, the delay and the phase error, in
1/64 core cycle. -/
def takeTime (tx : Int) (delay err : Int) (s : State) : State :=
  let frame : Int := 64 * (max 1 s.period : Nat)
  let tick := ((tx + delay) / frame).toNat
  let off := ((tx + delay) % frame).toNat
  let s := noteTimeFrom s
  if alignState s = 4 then s
  else if s.tick.awaitTick then noteTimeFrom (setPhase off (resumeTick tick s))
  else if alignState s = 1 && s.tick.acqFrom == .arm && !s.tick.phaseSet then
    noteTimeFrom (takeRootTick tick off s)
  else if err.natAbs ≤ 512 then
    let (inj, s) := takeInj FI_TICK_INJECT_INJ_SYNC_MISS 0 true s
    if inj then missMark true s
    else if s.flag ALIGN_CTRL_ARM && (alignState s == 2 || alignState s == 3 || s.tick.acqFrom == .degraded) then
      let s := s.wr ALIGN_CTRL_ARM 0
      if tick = s.now ∨ (err < 0 ∧ tick = s.now + 1) then
        markInWindow false err (s.wr ALIGN_STATUS_EPOCH_DONE 1)
      else
        let s := raise E.TICK_MISMATCH 0 s.now (s.wr ALIGN_STATUS_EPOCH_MISMATCH 1)
        if alignState s = 2 then setAlign 0 false s else s
    else markInWindow false err s
  else s

/-- Does this device hold the root's time (R322, R327)? -/
def isRoot (s : State) : Bool := upLink s == 0xFE

/-- The words of the TIME frame that leaves on link l, frac/64 of a core cycle into this one (R327). -/
def timeWords (l frac : Nat) (s : State) : List Nat :=
  let off := s.offset * 64 + frac
  let ok := isRoot s || alignState s == 2
  match (linkU s l).time with
  | none => [s.now, off + s.rd MS_STATUS_STRATUM * 2 ^ 32 + (if ok then 2 ^ 40 else 0), 0, 0]
  | some (tick, o, rt, ro) =>
    let dwell := (time64 s s.now off - time64 s rt ro).toNat % 2 ^ 32
    [s.now, off + s.rd MS_STATUS_STRATUM * 2 ^ 32 + (if ok then 2 ^ 40 else 0) + 2 ^ 41, tick, o + dwell * 2 ^ 32]

end Sys2Proof.Machine
end

