-- ==== Sys2Proof/Machine/Mesh.lean ====
section
/-! DEFINITION. The commands of the Wavar mesh (chapter 14): frames and blocks that arrive, frames that are sent, timers,
packets delivered here, and the link registers. A command of a link that is not one in the MESH role changes
nothing. -/

namespace Sys2Proof.Machine

open F

/-- A frame of a KIND arrives on link l (R312 to R314): one that its receiver discards is counted; otherwise its ACK is taken
and the rest follows. Frames pass in INIT and UP only (R318). -/
def takeFrame (l kind : Nat) (intact : Wire) (ack : Nat) (s : State) (f : State → State) : Out :=
  if linkState s l = 0 ∨ linkState s l = 3 then .next s
  else
    let (ok, s) := arrives l kind intact s
    .next (if ok then afterAck l (f (takeAck l ack s)) else s)

/-- What a HOST packet carries, from its words (R354): 0 a descriptor, 1 a completion, 2 a read, 3 a write, otherwise
the data of a read. -/
def hostLoad (w : List Nat) (payload : List Byte) : HostLoad :=
  match w.headD 4 with
  | 0 => .descriptor (w.getD 1 0 % 64) (w.getD 2 0 % 2 ^ 32) (w.drop 3)
  | 1 => .completion (w.getD 1 0 % 64) (w.getD 2 0 % 2 ^ 32) (w.drop 3)
  | 2 => .read (w.getD 1 0 % 64) (w.getD 2 0 % 2 ^ 32) (w.getD 3 0) (w.getD 4 0)
  | 3 => .write (w.getD 1 0) payload
  | _ => .data (w.getD 1 0 % 64) (w.getD 2 0 % 2 ^ 32) (w.getD 3 0) payload

/-- The packet of a frame (R321): its header words, source route and payload. -/
def packetOf (vc : Bool) (h0 h1 : Nat) (route payload host : List Nat) : Pkt :=
  let bytes := (payload.take (min 1024 (bits h1 10 0))).map fun b => BitVec.ofNat 8 b
  let cls := bits h0 25 24
  { dst := bits h0 11 0, src := bits h0 23 12, cls := cls, vc := if vc then 1 else 0, srcRouted := bit h0 27,
    hops := bits h0 33 28, routePos := bits h0 45 40, tag := bits h0 61 46, status := bits h1 31 16,
    offset := bits h1 57 32, resp := bit h1 58, route := (route.take (bits h0 39 34)).map (· % 256),
    payload := bytes, host := if cls = 0 then some (hostLoad host bytes) else none }

/-- MESH_PACKET_FRAME (R315, R321, R323): a PACKET frame on link l, with its SEQ, ACK and VC, the header words of its
packet, its route and payload bytes, and what a HOST packet carries. -/
def execMeshPacketFrame (l : Fin 144) (intact : Wire) (seq ack : Fin 65536) (vc : Bool) (h0 h1 : Nat)
    (route payload host : List Nat) (s : State) : Out :=
  takeFrame l 0 intact ack s fun s =>
    let v := if vc then 1 else 0
    let e := (linkU s l).expect
    if linkState s l ≠ 2 then s
    else if seq.val = e ∧ 0 < freeOn s l v then
      let s := (updLink l (fun u => { u with expect := (u.expect + 1) % 65536 }) s).incWrap LK_FRAMES_RX_FRAMES 0 l
      sendAck l (receivePkt (packetOf vc h0 h1 route payload host) l v s)
    else if seq.val ≠ e ∧ (e + 65536 - seq.val) % 65536 ≤ 32768 then sendAck l (s.incSat LK_ERRORS_DUPLICATES 0 l)
    else s.incSat LK_ERRORS_OUT_OF_ORDER 0 l

/-- ACK_BLOCK (R312, R314, R330): an ACK block on link l; an older one changes nothing. -/
def execAckBlock (l : Fin 144) (intact : Wire) (ack : Fin 65536) (free0 free1 : Fin 256) (s : State) : Out :=
  if linkState s l ≠ 2 then .next s
  else
    let (ok, s) := arrives l 4 intact s
    let (inj, s) := takeInj MS_INJECT_INJ_ACK_DROP 0 (ok && s.rd MS_INJECT_LINK == l.val) s
    if inj then .next (s.incSat LK_ERRORS_ACK_ERRORS 0 l)
    else if !ok then .next s
    else if s.rd LK_SEQ_ACK_RX 0 l = ack.val ∨ ((linkU s l).replay.any fun f => f.seq == ack.val) then
      let s := takeAck l ack s
      let left := (linkU s l).replay
      .next (afterAck l (updLink l (fun u =>
        { u with
          named := ack, free0 := free0, free1 := free1,
          since0 := left.countP fun f => f.pkt.vc == 0, since1 := left.countP fun f => f.pkt.vc != 0 }) s))
    else .next s

/-- HELLO_FRAME (R318, R319): a HELLO on link l and its four words. -/
def execHelloFrame (l : Fin 144) (intact : Wire) (ack : Fin 65536) (w0 w1 w2 _w3 : Nat) (s : State) : Out :=
  takeFrame l 1 intact ack s fun s =>
    let st := linkState s l
    let addr := bits w1 43 32
    let valid := bit w1 44
    let link := bits w1 55 48
    let other := s.rd LK_PEER_SERIAL 0 l != w0 % 2 ^ 64 || s.rd LK_STATUS_PEER_LINK 0 l != link
    let moved := s.rd LK_STATUS_PEER_ADDR 0 l != addr || s.flag LK_STATUS_PEER_ADDR_VALID 0 l != valid
    let s := (s.wr LK_PEER_SERIAL w0 0 l).wr LK_STATUS_PEER_ADDR addr 0 l
    let s := (s.wr LK_STATUS_PEER_LINK link 0 l).setb LK_STATUS_PEER_ADDR_VALID valid 0 l
    let s := updLink l (fun u => { u with helloAt := s.cycle }) s
    let s := if other || moved then updMsh (fun m => { m with reportDue := true }) s else s
    if st = 1 then (if w2 % 2 ^ 64 = s.rd MS_SERIAL_SERIAL then linkUp l s else s)
    else if other then linkDown l s
    else if moved then raise E.MESH_TOPOLOGY_CHANGE l addr s
    else s

/-- HELLO_SEND (R311, R313, R318, R319): a HELLO leaves on link l, while its set is ready. -/
def execHelloSend (l : Fin 144) (s : State) : Out :=
  let st := linkState s l
  if (st ≠ 1 ∧ st ≠ 2) ∨ !linkReady s l then .next s
  else
    let w1 := s.rd GL_IDCODE_IDCODE + s.rd MS_STATUS_ADDR * 2 ^ 32 + s.rd MS_STATUS_ADDR_VALID * 2 ^ 44 +
      s.rd MS_STATUS_ADDR_LOCKED * 2 ^ 45 + s.rd MS_STATUS_GATEWAY * 2 ^ 46 + l.val * 2 ^ 48
    let words := [s.rd MS_SERIAL_SERIAL, w1, s.rd LK_PEER_SERIAL 0 l, s.rd MS_ROUTES_ROUTES_ID]
    .next (sendControl l 1 words s)

/-- HELLO_TIMEOUT (R318): no HELLO for 300 us, that is 450,000 core cycles, takes an UP link DOWN. -/
def execHelloTimeout (l : Fin 144) (s : State) : Out :=
  .next (if linkState s l = 2 ∧ 450000 ≤ s.cycle - (linkU s l).helloAt then linkDown l s else s)

/-- SET_NOT_READY_TIMEOUT (R318): a set not ready for 100 us, that is 150,000 core cycles, takes an UP link DOWN. -/
def execSetNotReadyTimeout (l : Fin 144) (s : State) : Out :=
  .next (match (linkU s l).notReady with
    | some c => if linkState s l = 2 ∧ 150000 ≤ s.cycle - c then linkDown l s else s
    | none => s)

/-- REPLAY_TIMEOUT (R311, R316): 2 us, that is 3,000 core cycles, after the END of the oldest unacknowledged frame, every
unacknowledged frame is sent again, once the set is ready; the eighth expiry in a row takes the link DOWN. -/
def execReplayTimeout (l : Fin 144) (s : State) : Out :=
  match (linkU s l).replay.head? with
  | none => .next s
  | some f =>
    if linkState s l ≠ 2 ∨ !linkReady s l ∨ s.cycle < f.endAt + 3000 then .next s
    else
      let n := (linkU s l).replay.length
      let s := (s.incSat LK_REPLAY_TIMEOUTS 0 l).incSat LK_REPLAY_REPLAYS 0 l n
      let s := s.incWrap LK_FRAMES_TX_FRAMES 0 l n
      let s := (linkU s l).replay.foldl (fun t f => putFrame l f t) s
      let s := updLink l (fun u =>
        { u with replay := u.replay.map fun f => { f with endAt := s.cycle }, expiries := u.expiries + 1 }) s
      .next (if 8 ≤ (linkU s l).expiries then linkDown l s else s)

/-- QUIET_FRAME (R320): a QUIET frame on link l. -/
def execQuietFrame (l : Fin 144) (intact : Wire) (ack : Fin 65536) (s : State) : Out :=
  takeFrame l 3 intact ack s fun s =>
    if linkState s l = 2 then updLink l (fun u => { u with quietRecv := true }) s else s

/-- The ticks from one TIME frame to the next (R331): 2^TIME_DIV, where 7 acts as 6. -/
def timeDivision (s : State) : Nat := 2 ^ min 6 (s.rd MS_CTRL_TIME_DIV)

/-- TIME_FRAME_SEND (R313, R327): a TIME frame leaves on a link, at a tick that is a multiple of 2^TIME_DIV. -/
def execTimeFrameSend (l : TimeStart) (s : State) : Out :=
  .next (if linkState s l.link = 2 ∧ linkReady s l.link ∧ s.now % timeDivision s = 0 then
      sendControl l.link 2 (timeWords l.link l.frac s) s
    else s)

/-- The round trip of a TIME frame is kept, and judged against 1.2 us, that is 115,200/64 core cycles (R317, R327); an
injection increases it by 1.3 us. -/
def noteRoundTrip (l : Nat) (rt : Int) (s : State) : Int × State :=
  let (inj, s) := takeInj FI_MISC_INJECT_INJ_SLOW 0 (s.rd FI_MISC_INJECT_UNIT == l) s
  let rt := if inj then rt + 124800 else rt
  let s := s.wr LK_DELAY_ROUND_TRIP rt.toNat 0 l
  if 115200 < rt ∧ !s.flag LK_STATUS_SLOW 0 l then
    (rt, raiseInj E.MESH_LINK_SLOW l rt.toNat inj (s.wr LK_STATUS_SLOW 1 0 l))
  else (rt, s)

/-- TIME_FRAME (R327, R328): a TIME frame on link l, its four words, and the fraction, in 1/64 core cycle, of the core cycle
in which its START block arrived. -/
def execTimeFrame (l : Fin 144) (intact : Wire) (ack : Fin 65536) (w0 w1 w2 w3 : Nat) (frac : Fin 64)
    (s : State) : Out :=
  takeFrame l 2 intact ack s fun s =>
    let (inj, s) := takeInj MS_INJECT_INJ_TIME_MISS 0 (s.rd MS_INJECT_LINK == l.val) s
    if linkState s l ≠ 2 ∨ inj then s
    else
      let off := s.offset * 64 + frac.val
      let rx := time64 s s.now off
      let tx := time64 s (w0 % 2 ^ 64) (bits w1 22 0)
      let onTime := timeLink s == l.val && !isRoot s
      let stratum := bits w1 39 32
      let s := if onTime then s.wr MS_STATUS_STRATUM (min 0xFF (stratum + 1)) else s
      let s := updLink l (fun u => { u with time := some (w0 % 2 ^ 64, bits w1 22 0, s.now, off) }) s
      if !bit w1 41 then s
      else
        let (rt, s) := noteRoundTrip l (rx - time64 s (w2 % 2 ^ 64) (bits w3 22 0) - (bits w3 63 32 : Nat)) s
        let delay := rt / 2
        if alignMode s = 2 ∧ onTime ∧ bit w1 40 then takeTime tx delay (rx - (tx + delay)) s else s

/-- TIME_FRAME_MISSED (R328): 2^TIME_DIV ticks since the last usable TIME frame, or since the last ones that stood for a
missing mark, stand for one missing mark. -/
def execTimeFrameMissed (s : State) : Out :=
  let expected := alignMode s == 2 && !frozen s &&
    (alignState s == 2 || alignState s == 3 || (alignState s == 1 && s.tick.phaseSet)) &&
    decide (s.tick.timeFrom + timeDivision s ≤ s.now)
  .next (if expected then missMark false (noteTimeFrom s) else s)

/-- MESH_REPORT_SEND (R325, R326): a device with a link in the MESH role floods its report, when one is due. -/
def execMeshReportSend (s : State) : Out := .next (if (allLinks s).isEmpty || !reportNow s then s else floodReport s)

/-- MESH_REPORT_PACKET (R310, R325, R326): the oldest REPORT packet that has arrived is taken in. -/
def execMeshReportPacket (s : State) : Out :=
  .next (match takeLocal (·.cls == 2) s with
    | some (p, l, s) => takeReport p l s
    | none => s)

/-- MESH_DATA_REQUEST (R324): the oldest DATA request delivered here is written and answered. -/
def execMeshDataRequest (s : State) : Out :=
  .next (match takeLocal (fun p => p.cls == 1 && !p.resp) s with
    | some (p, _, t) =>
      if accessHeld s (s.rd MS_INBOX_BASE_ADDR + p.offset) p.payload.length then s
      else
        let (code, t) := writeInbox p t
        sendResponse false (responseTo t p code) t
    | none => s)

/-- MESH_DATA_RESPONSE (R324): the oldest DATA response delivered here ends its request. -/
def execMeshDataResponse (s : State) : Out :=
  .next (match takeLocal (fun p => p.cls == 1 && p.resp) s with
    | some (p, _, s) => takeResponse p s
    | none => s)

/-- A descriptor of a gateway is executed as if consumed from ring r (R354): step 3 of R345 onwards is checked
here. -/
def runProxied (p : Pkt) (r k : Nat) (words : List Nat) (s : State) : State :=
  let idx := k + (p.src + 1) * 2 ^ 32
  acceptDescriptor r idx words (updHst (fun h => { h with serving := h.serving ++ [(r, idx, p)] }) s)

/-- A completion returns to the gateway (R354): it is written to ring r, or discarded and counted where its descriptor
no longer waits. -/
def takeCompletion (r k : Nat) (w : List Nat) (s : State) : State :=
  match s.host.proxied.find? fun e => e.1 == r && e.2.1 % 2 ^ 32 == k with
  | none => s.incSat HI_COUNTS_LOST_COMPLETIONS
  | some (_, idx, _) =>
    let s := updHst (fun h => { h with proxied := h.proxied.filter fun e => !(e.1 == r && e.2.1 == idx) }) s
    let w0 := w.getD 0 0
    let w2 := w.getD 2 0
    let w3 := w.getD 3 0
    let s := s.updOp r idx fun o =>
      { o with
        phase := .latched, code := bits w0 15 0, fidx := bits w0 31 24, tick := w.getD 1 0, off := bits w2 16 0,
        dev := bits w2 28 17, seq := bits w2 44 29, result := bits w3 61 0,
        reelForm := if bit w3 62 then some (w.getD 1 0, w2) else none }
    s.updReady (· ++ [(r, idx)])

/-- MESH_HOST_PACKET (R354): the oldest HOST packet delivered here. A gateway performs reads and writes of host
memory. -/
def execMeshHostPacket (s : State) : Out :=
  .next (match takeLocal (·.cls == 0) s with
    | some (p, _, s) =>
      match p.host with
      | some (.descriptor r k words) => runProxied p r k words s
      | some (.completion r k words) => takeCompletion r k words s
      | some (.read r k a n) =>
        if s.flag MS_STATUS_GATEWAY then
          let data := memBytes s.hostMem a (min n 1024)
          emitPkt { responseTo s p 0 with
                    cls := 0, resp := false, srcRouted := p.srcRouted, routePos := 0,
                    route := if p.srcRouted then proxyRoute s r else [], payload := data,
                    host := some (.data r k a data) } s
        else s
      | some (.data r k a data) => takeFetched r (k + (p.src + 1) * 2 ^ 32) a data s
      | some (.write a data) =>
        if s.flag MS_STATUS_GATEWAY then s.updHostMem fun m => memWrBytes m a data else s
      | _ => s
    | none => s)

/-- Is l the index of a link in the MESH role (R331)? -/
def isLink (s : State) (l : Nat) : Bool := (linkSet s l).isSome

/-- LK_QUIET (R320): LK_CTRL.QUIET is written. A request on the time uplink or backup uplink is not performed and sets
IGNORED. -/
def execLkQuiet (l : Fin 144) (on : Bool) (s : State) : Out :=
  if !isLink s l then .next s
  else if on then
    if upLink s = l.val ∨ backupLink s = l.val then .next (s.wr LK_CTRL_IGNORED 1 0 l)
    else .next (quietStep l (s.wr LK_CTRL_QUIET 1 0 l))
  else
    let s := s.wr LK_CTRL_QUIET 0 0 l
    .next (if linkState s l = 3 then wakeLink l s
      else pump l 512 (updLink l (fun u => { u with quietSent := false }) s))

/-- LK_RESET (R318): LK_CTRL.RESET takes link l DOWN. -/
def execLkReset (l : Fin 144) (s : State) : Out := .next (if isLink s l then linkDown l s else s)

/-- MS_REPORT_RD_WRITE (R326): the host's read index; one beyond WR, or less than WR - LINES, changes nothing. -/
def execMsReportRdWrite (v : Nat) (s : State) : Out :=
  let wr := s.rd MS_REPORT_WR_INDEX
  .next (if wr < v ∨ v + s.rd MS_REPORT_LINES_LINES < wr then s else s.wr MS_REPORT_RD_INDEX v)

/-- MS_CLEAR_COUNTS (R331): MS_COUNTS and the link counters clear. -/
def execMsClearCounts (s : State) : Out :=
  .next (s.clrAll [MS_COUNTS_UNROUTABLE, MS_COUNTS_REPORTS_DROPPED, LK_ERRORS_CRC_ERRORS, LK_ERRORS_ACK_ERRORS,
    LK_ERRORS_DUPLICATES, LK_ERRORS_OUT_OF_ORDER, LK_REPLAY_REPLAYS, LK_REPLAY_TIMEOUTS, LK_REPLAY_DOWNS,
    LK_FRAMES_TX_FRAMES, LK_FRAMES_RX_FRAMES])

/-- LINK_SIGNAL_DETECTED (R320): the peer of a QUIET link transmits; the lanes leave QUIET and the link is UP. -/
def execLinkSignalDetected (l : Fin 144) (s : State) : Out :=
  .next (if linkState s l = 3 then pump l 512 (wakeLink l s) else s)

end Sys2Proof.Machine
end

