-- ==== Sys2Proof/Machine/Mgmt.lean ====
section
/-! DEFINITION. The commands of the scratchpad and the management cores (chapter 17). -/

namespace Sys2Proof.Machine

open F

/-- WATCHDOG_KICK (R381): the frames since the kick and the restarts in succession start again. -/
def execWatchdogKick (c : Fin 4) (s : State) : Out :=
  if coreState s c = 3 then .next s
  else .next (updPad (fun p =>
    { p with frames := sput 0 p.frames c (if s.offset = 0 then 1 else 0), restarts := sput 0 p.restarts c 0 }) s)

/-- WATCHDOG_EXPIRY (R381): at core cycle 0 of the first credited tick after the period a core that has not kicked is
restarted. A core in DEBUG_HALT is not counted, and a HELD one stays held. -/
def execWatchdogExpiry (c : Fin 4) (s : State) : Out :=
  if s.offset != 0 || !credited s || coreState s c == 4 || coreState s c == 3 then .next s
  else
    let (inj, s) := takeInj FI_CORE_INJECT_INJ_WATCHDOG 0 (decide (s.rd FI_CORE_INJECT_CORE = c.val)) s
    if inj || decide (2 ^ s.rd WD_CFG_WD_PERIOD_EXP + 1 ≤ sget 0 s.sp.frames c) then .next (restartCore c inj s)
    else .next s

/-- CORE_RESTART_DONE (R378, R381, R453): the core is RUNNING again, in Standby WAITING; while HALT_CORES holds the cores it
enters DEBUG_HALT at once. -/
def execCoreRestartDone (c : Fin 4) (s : State) : Out :=
  let st := if s.rd PW_STATUS_DEVICE_STATE = 2 then 1 else 0
  .next (if coreState s c ≠ 2 then s
    else if s.flag DB_STATUS_CORES_HALTED then (setCore c 4 s).updDbg fun d => { d with cores := d.cores ++ [(c.val, st)] }
    else setCore c st s)

/-- SCRATCHPAD_ACCESS (R383 to R389): one access of a class: n bytes at an address of the three windows, a
read, a write or an instruction fetch (kind 0, 1, 2);
core0 says that core 0 makes it while it runs the boot stage. It waits while the port is taken. -/
def execScratchpadAccess (cls : Fin 4) (sid addr n : Nat) (kind : Fin 3) (core0 : Bool) (data : List Byte)
    (s : State) : Out :=
  let k := match kind with
    | 0 => SpKind.read
    | 1 => SpKind.write
    | _ => SpKind.fetch
  let s := if cls = 3 then headLands (portAt 4 0 0) (if kind = 1 then 3 else 2) addr sid s else s
  .next (padArrive { cls := cls, sid := sid, addr := addr, bytes := n, kind := k, core0 := core0, data := data } s)

/-- A step of the background test is due: 2^TEST_STEP_EXP frames have passed since the last one was (R390, R393). -/
def stepDue (s : State) : Bool := s.sp.stepAt.all fun t => decide (t + 2 ^ min 16 (s.rd SP_CTRL_TEST_STEP_EXP) ≤ s.now)

/-- The block of the next step: the first from SP_TEST_POS on, in address order, that the test does not skip (R391). -/
def testBlock (s : State) : Option Nat :=
  ((List.range 2048).map fun k => (s.rd SP_TEST_POS_BLOCK + k) % 2048).find? fun b => !s.sp.skip.contains b

/-- TEST_STEP (R389 to R391): a step that is due starts on the next block that the test does not skip, and reads it; fails
says that March C- fails on it. One that is due while another runs is late, and starts when that one has ended. -/
def execTestStep (fails : Bool) (s : State) : Out :=
  let due := stepDue s
  if !s.flag SP_CTRL_TEST_ENABLE then .next s
  else if s.sp.test.isSome then
    .next (if due then
      updPad (fun p => { p with stepAt := some s.now, stepLate := true }) (s.incSat SP_TEST_COUNTS_TEST_LATE) else s)
  else if !due && !s.sp.stepLate then .next s
  else
    match testBlock s with
    | none => .next s
    | some b =>
      let s := if b < s.rd SP_TEST_POS_BLOCK then s.incSat SP_TEST_COUNTS_PASSES else s
      let s := s.wr SP_TEST_POS_BLOCK b
      let n := s.now
      let s := updPad (fun p => { p with stepAt := if due then some n else p.stepAt, stepLate := false }) s
      let (inj, s) := takeInj SP_INJECT_INJ_MARCH 0 true s
      let (_, s) := padLanes ((List.range 512).map (· + b * 512)) s
      let s := updPad (fun p => { p with test := some (b, fails || inj) }) s
      let s := s.wr SP_STATUS_TESTING 1
      if fails || inj then
        .next (raiseInj E.SCRATCH_TEST_FAIL 0 b inj (s.incSat SP_TEST_COUNTS_TEST_FAILS))
      else .next s

/-- The repair blocks that hold a remap (R391): those with their bit 15 set in SP_REPAIR, of 16 bits each. -/
def remaps (s : State) : Nat := (List.range 4).countP fun r => (s.rd SP_REPAIR_ENTRIES).testBit (16 * r + 15)

/-- TEST_STEP_END (R390, R391): the spare is written back, to a repair block where March C- failed and one is
free; the next block follows. -/
def execTestStepEnd (s : State) : Out :=
  match s.sp.test with
  | none => .next s
  | some (b, failed) =>
    let used := remaps s
    let s :=
      if !failed then s
      else if used < 4 then
        (s.wr SP_STATUS_REPAIRS_USED (used + 1)).wr SP_REPAIR_ENTRIES
          (s.rd SP_REPAIR_ENTRIES + (b + 0x8000) * 65536 ^ used)
      else updPad (fun p => { p with skip := b :: p.skip }) (s.wr SP_STATUS_UNREPAIRED 1)
    let s := if b = 2047 then s.incSat SP_TEST_COUNTS_PASSES else s
    .next (updPad (fun p => { p with test := none })
      ((s.wr SP_STATUS_TESTING 0).wr SP_TEST_POS_BLOCK (b + 1)))

/-- EMBER_WIPE_DONE (R388): the wipe is complete. -/
def execEmberWipeDone (s : State) : Out := .next (s.wr SP_STATUS_WIPING 0)

/-- SP_CLEAR_COUNTS (R393): SP_ECC, SP_TEST_COUNTS and SP_DENY_COUNT. -/
def execSpClearCounts (s : State) : Out :=
  .next (s.clrAll [SP_ECC_CORRECTED, SP_ECC_UNCORR, SP_TEST_COUNTS_PASSES, SP_TEST_COUNTS_TEST_FAILS,
    SP_TEST_COUNTS_TEST_LATE, SP_DENY_COUNT_DENIALS])

end Sys2Proof.Machine
end

