-- ==== Sys2Proof/Machine/Power.lean ====
section
/-! DEFINITION. The power controller's commands (chapter 19). -/

namespace Sys2Proof.Machine

open F

/-- The field checks of a POWER_REQUEST (R421), in index order: REGION_MASK 8, CHANNEL_MASK 10, GROUP_MASK 11. A mask
that the target uses is not 0, one that it does not use is. -/
def powerFields (q : PwReq) : Option (Nat × Nat) :=
  let uses (ts : List Nat) (m fld : Nat) : Option (Nat × Nat) := validField ((m != 0) == ts.contains q.target) fld
  firstFail [uses [0, 1, 2, 3] q.regions 8, uses [6, 7] q.chans 10, uses [8, 9] q.groups 11]

/-- The other conditions of R421, each failing INCONSISTENT: no named group in PCIE or UNUSED, the regions' owner, and the
device in Run. -/
def powerConditions (s : State) (q : PwReq) : Bool :=
  (groupsOf q.groups).all (fun g => groupRole s g != 0 && groupRole s g != 3) &&
  (isHearth q.ring || (regionsOf q.regions).all fun k => s.rd RG_OWNER_OWNER k == q.ring || s.rd RG_OWNER_OWNER k == 0x40) &&
  (q.target == 5 || deviceState s == 0)

/-- POWER_REQUEST (R421, R422): the request is checked, and waits for the power controller. -/
def execPowerRequest (ring : Fin 65) (s : State) : Out :=
  match takeOp s ring 0x60 with
  | none => .next s
  | some o =>
    let q : PwReq :=
      { ring := ring, idx := o.idx, target := bits (o.word 2) 3 0, regions := o.word 1 % 2 ^ 64,
        chans := bits (o.word 3) 7 0, groups := bits (o.word 3) 25 8 }
    match powerFields q with
    | some (code, fld) => .next (decideOp ring o.idx code fld 0 s)
    | none =>
      if !powerConditions s q then .next (decideOp ring o.idx Code.INCONSISTENT 0 0 s)
      else
        let first := s.pw.queue.isEmpty && s.pw.active.isNone
        .next (notePower (updPower (fun p =>
          { p with queue := p.queue ++ [q], headAt := if first then s.now else p.headAt }) (runOp ring o.idx s)))

/-- May region k go from its state to the target (R417)? -/
def pathOpen (s : State) (target k : Nat) : Bool :=
  let st := pstate s k
  match target with
  | 0 => st == 1 || st == 2
  | 1 => st == 0 || st == 2
  | 2 => decide (st ≤ 1)
  | 3 => decide (st ≤ 2) && !s.flag RG_STATUS_CONFIGURED k
  | _ => true

/-- The regions, channels and groups that a request has to change. -/
def regionsToChange (s : State) (q : PwReq) : List Nat :=
  match q.target with
  | 4 => runningRegions s
  | 5 => (regionsOf s.pw.standby.1).filter fun k => pstate s k == 2
  | _ => (regionsOf q.regions).filter fun k => pstate s k != q.target
def chansToChange (s : State) (q : PwReq) : List Nat :=
  match q.target with
  | 4 => readyChans s
  | 5 => chansOf s.pw.standby.2.1
  | 6 => (chansOf q.chans).filter fun c => s.rd DC_STATUS_STATE c == 1 || s.rd DC_STATUS_STATE c == 2
  | 7 => (chansOf q.chans).filter fun c => (ddr_ s c).parked &&& 4 != 0
  | _ => []
def groupsToChange (s : State) (q : PwReq) : List Nat :=
  match q.target with
  | 4 => (bankableGroups s).filter fun g => !isBanked s g
  | 5 => (groupsOf s.pw.standby.2.2).filter fun g => isBanked s g
  | 8 => (groupsOf q.groups).filter fun g => !isBanked s g
  | 9 => (groupsOf q.groups).filter fun g => isBanked s g
  | _ => []

/-- The first step of an accepted request (R418, R420). -/
def startRequest (q : PwReq) (s : State) : State :=
  match q.target with
  | 2 => powerGo (setStep .drain s)
  | 3 => powerGo (setStep .drain s)
  | 4 => powerGo (setStep .drain (s.wr PW_STATUS_DEVICE_STATE 1))
  | 5 => powerGo (startBatch (setStep .regions (s.wr PW_STATUS_DEVICE_STATE 3)))
  | 6 => powerGo (setStep .chans (restChans (chansOf s.pw.myChans) s))
  | 7 => powerGo (setStep .back (wakeChans (chansOf s.pw.myChans) s))
  | 8 => endRequest Code.OK 0 (bankGroups (groupsOf s.pw.myGroups) s)
  | 9 => powerGo (setStep .back (wakeGroups (groupsOf s.pw.myGroups) s))
  | _ => powerGo (startBatch (setStep .regions s))

/-- POWER_CHECK (R417, R422, R423): the checking tick of the request at the head of the queue. The state of the device is
judged again, since an earlier request may have changed it (R421, R425). -/
def execPowerCheck (s : State) : Out :=
  match s.pw.queue, s.pw.active with
  | q :: rest, none =>
    if s.now ≤ s.pw.headAt then .next s
    else
      let regions := regionsToChange s q
      let chans := chansToChange s q
      let groups := groupsToChange s q
      let boost := maskOf ((List.range 64).filter fun k => pstate s k == 1)
      let standby := s.pw.standby
      let s := notePower (updPower (fun _ =>
        { queue := rest, standby := standby, active := some q, checkTick := s.now, mine := maskOf regions, boost := boost,
          myChans := maskOf chans, myGroups := maskOf groups }) s)
      if (q.target ≤ 3 && !regions.all (pathOpen s q.target)) || (q.target != 5 && deviceState s != 0) then
        .next (endRequest Code.INCONSISTENT 0 s)
      else
        let named := if q.target = 4 then runningRegions s else regionsOf q.regions
        let named' := if q.target = 4 then readyChans s else chansOf q.chans
        match if q.isEntry then (refusers s q named named').head? else none with
        | some c => .next (endRequest Code.REFUSED c (recordPower c q.target false s))
        | none =>
          if regions.isEmpty && chans.isEmpty && groups.isEmpty && q.target != 4 && (q.target != 5 || deviceState s == 0) then
            .next (endRequest Code.ALREADY_DONE 0 s)
          else
            let s := if q.target = 4 then s.wr PW_RESTORE_REGIONS boost else s
            let s := if q.target = 2 ∨ q.target = 3 ∨ q.target = 4 then
                regions.foldl (fun t k =>
                  let t := if q.target = 4 then t else beginChange k t
                  closePort (portRegion k 1) (closePort (portRegion k 0) t)) s
              else s
            .next (startRequest q s)
  | _, _ => .next s

/-- BIAS_SETTLED (R418, R420, R423): the bias and memory assist of region k reach their new levels. -/
def execBiasSettled (k : Fin 64) (s : State) : Out := .next (biasSettled k s)

/-- POWER_DRAIN_TIMEOUT (R423): a drain not complete DRAIN_FRAMES frames after the checking tick aborts the entry; one
that an injection keeps incomplete as well. -/
def execPowerDrainTimeout (s : State) : Out :=
  let limit := max 1 (s.rd PW_CTRL_DRAIN_FRAMES)
  if s.pw.active.isNone ∨ s.pw.aborted.isSome ∨ s.now < s.pw.checkTick + limit then .next s
  else
    let chansLeft := (chansOf s.pw.myChans).any fun c =>
      s.rd DC_STATUS_STATE c == 2 && s.noc.xacts.any fun x => x.dst == portDdr c
    let waits := match s.pw.step with
      | .drain => true
      | .chans => chansLeft
      | _ => false
    if !waits then .next s
    else
      let (inj, s) := takeInj PW_INJECT_INJ_DRAIN 0 true s
      .next (powerAbort 2 inj s)

/-- PW_CLEAR_COUNTS (R426). -/
def execPwClearCounts (s : State) : Out := .next (s.clrAll [PW_COUNT_REFUSALS, PW_COUNT_ABORTS])

end Sys2Proof.Machine
end

