-- ==== Sys2Proof/Machine/Proof.lean ====
section
/-! DEFINITION. The requests of the staging area (chapter 03): loading, checking, fixing, cancelling and
discarding a proof set. The checks themselves and the fix are in Machine/Fix.lean. -/

namespace Sys2Proof.Machine

open F

/-- The request of a ring, or of Hearth (64): the index of its operation and its descriptor. -/
def request (s : State) (ring opcode arg : Nat) : Option (Nat × List Nat) :=
  if ring == hearth then some (0, [opcode, arg])
  else (takeOp s ring opcode).map fun o => (o.idx, o.desc)

/-- PROOF_LOAD (R56 to R61): the image is read and validated; its items join the set up to the first
fault. Hearth builds its image in the scratchpad at arg. PF_SET_ID takes the SET_ID of every load, of one with a bad
header or one that joins a set too, and keeps it while the area is EMPTY (DESIGN CHOICE, log entry 76). -/
def execProofLoad (ring : Fin 65) (arg : Nat) (s : State) : Out :=
  if s.stage.load.isSome then .next s else
  match request s ring 0x20 arg with
  | none => .next s
  | some (k, d) =>
    let mine := isHearth ring
    if !ownsStage s mine || stageLocked s then .next (decideOp ring k Code.BUSY 0 0 s)
    else
      let s := runOp ring k s
      let m := if mine then s.scratch else match opAt s ring k with
        | some o => hostImage s o
        | none => s.hostMem
      let addr := d.getD 1 0
      let len := if mine then memRd m (addr + 8) 4 else bits (d.getD 2 0) 22 0
      let r := loadImage ring s m addr len
      let (fld, s) := if r.fault.isSome then s.draw else (0, s)
      let out := match r.fault with
        | none => (Code.OK, 0, 0)
        | some f => (f.code, f.item, fld % 65536)
      let s := (stageLoading mine s).wr PF_SET_ID_SET_ID (memRd m addr 4)
      .next (s.updStage fun g =>
        { g with
          before := (g.items.length, g.rwf), items := r.items, rwf := r.rwf, load := some (ring, k, out.1, out.2.1, out.2.2) })

/-- PROOF_LOAD_DONE (R61): the outcome of the load is decided, with item and field index. -/
def execProofLoadDone (s : State) : Out :=
  match s.stage.load with
  | none => .next s
  | some (r, k, code, item, fld) =>
    let s := s.updStage fun g => { g with load := none }
    let s := if code = Code.OK then s else (s.wr PF_ITEM_ITEM item).wr PF_ITEM_FIELD fld
    .next (decideOp r k code 0 (if code = Code.OK then 0 else item + fld * 65536) s)

/-- PROOF_CHECK (R56, R57, R62): the staging area passes to PROOFING. A check of an EMPTY or already
PROOFED area is admitted by no row of R56 and answered by no rule: which code of R356 answers it is a free value. -/
def execProofCheck (ring : Fin 65) (s : State) : Out :=
  if s.stage.load.isSome then .next s else
  match request s ring 0x21 0 with
  | none => .next s
  | some (k, _) =>
    if !ownsStage s (isHearth ring) || stageLocked s then .next (decideOp ring k Code.BUSY 0 0 s)
    else if stageState s = 1 then
      .next (((runOp ring k s).wr PF_STATE_STATE 2).updStage fun g =>
        { g with check := some (ring, k, s.cycle) })
    else
      let (c, s) := s.draw
      .next (decideOp ring k (Code.free c) 0 0 s)

/-- FIX (R57, R65): a PROOFED set becomes FIX_PENDING for tick T, or the request is turned away. -/
def execFix (ring : Fin 65) (arg : Nat) (s : State) : Out :=
  if s.stage.load.isSome then .next s else
  match request s ring 0x22 arg with
  | none => .next s
  | some (k, d) =>
    let t := d.getD 1 0
    if !ownsStage s (isHearth ring) then .next (decideOp ring k Code.BUSY 0 0 s)
    else if stageState s ≠ 3 then .next (decideOp ring k Code.INCONSISTENT 0 0 s)
    else if t < s.now + 2 ∨ (!s.stage.items.any (fun x => x.type == 1) ∧ !hasApply s t) then
      .next (decideOp ring k Code.OUT_OF_RANGE 8 0 s)
    else
      .next ((((runOp ring k s).wr PF_STATE_STATE 4).wr PF_FIX_TICK_T t).updStage fun g =>
        { g with fixOp := some (ring.val, k), lastFix := some (ring.val, k), checked := false, retired := [] })

/-- FIX_CANCEL (R57, R68): the cancel waits to be latched at the next tick; one that finds no fix to
cancel completes ALREADY_DONE (log entry 12), after the completion of the last fix has been written. -/
def execFixCancel (ring : Fin 65) (s : State) : Out :=
  match request s ring 0x23 0 with
  | none => .next s
  | some (k, _) =>
    if !ownsStage s (isHearth ring) then .next (decideOp ring k Code.BUSY 0 0 s)
    else if s.stage.fixOp.isNone then .next (awaitFix ring k (runOp ring k s))
    else .next ((runOp ring k s).updStage fun g => { g with cancels := g.cancels ++ [(ring.val, k, s.now)] })

/-- FIX_CANCEL_LATCH (R68): the cancels that arrived in an earlier frame are latched; without one to latch, the fix
whose tick T - 1 has been reached is APPLYING (R56). -/
def execFixCancelLatch (s : State) : Out := .next (reachApply (latchCancels s))

/-- PROOF_DISCARD (R56, R57): a LOADING or PROOFED set is dropped. A discard of an EMPTY area is
answered by no rule: which code of R356 answers it is a free value. -/
def execProofDiscard (ring : Fin 65) (s : State) : Out :=
  if s.stage.load.isSome then .next s else
  match request s ring 0x24 0 with
  | none => .next s
  | some (k, _) =>
    if !ownsStage s (isHearth ring) || stageLocked s then .next (decideOp ring k Code.BUSY 0 0 s)
    else if stageState s = 0 then
      let (c, s) := s.draw
      .next (decideOp ring k (Code.free c) 0 0 s)
    else .next (decideOp ring k Code.OK 0 0 (stageEmpty s))

/-- FUSE_PROGRAM_DONE (R73, R74): the oldest limited change has its log entry burnt, COMMIT last. -/
def execFuseProgramDone (s : State) : Out :=
  match s.stage.fuses with
  | [] => .next s
  | f :: t =>
    let s := (s.wr CHANGE_LOG_ENTRY (f.word0 + (f.word1 + 2 ^ 62 + 2 ^ 63) * 2 ^ 64) 0 f.entry).incSat
      LIMIT_STATUS_LOG_USED
    .next (s.updStage fun g => { g with fuses := t })

end Sys2Proof.Machine
end

