-- ==== Sys2Proof/Machine/Reel.lean ====
section
/-! DEFINITION. The reel engines' commands (chapter 04). -/

namespace Sys2Proof.Machine

open F

/-- Has every lane of group n that carries a word been ACTIVE since core cycle t (R89, R300)? A lane whose PLL smoulders is
silent (R306). -/
def lanesActive (s : State) (n t : Nat) : Bool :=
  (List.range 8).all fun i => !carriesWord s n i ||
    (s.rd LN_STATUS_STATE n i == 3 && s.rd LG_STATUS_PLL_STATE n != 3 && decide ((sget {} s.lanes (8 * n + i)).activeAt ≤ t))

/-- Is everything that R89 lists completed by 20 core cycles before this tick? -/
def startReady (s : State) (n : Nat) : Bool :=
  let u := reel s n
  let tick := s.tick.base
  u.hdrOk && decide (u.hdrAt + 20 ≤ tick) && decide (9 + u.dictLines ≤ u.fetched) &&
    (u.dictLines == 0 || decide (u.dictAt + 20 ≤ tick)) && u.initStop && decide (u.stopAt + 20 ≤ tick) &&
    decide (20 ≤ tick) && lanesActive s n (tick - 20)

/-- The taint cause of a fetched line that failed before the start, if one did (R97). -/
def earlyCause (s : State) (n : Nat) : Option Cause :=
  let first := s.rd RE_STATUS_END_CAUSE n
  if first = causeAlarm ∨ first = causePoison then some first
  else if s.mbit RE_STATUS_CAUSE_SEEN causeAlarm n then some causeAlarm
  else if s.mbit RE_STATUS_CAUSE_SEEN causePoison n then some causePoison
  else none

/-- Does a REEL_FETCH entry of engine n in the schedule in force name channel c (R87)? -/
def namesChannel (s : State) (n c : Nat) : Bool :=
  (List.range (s.rd SCHED_POS_CYCLE_LEN)).any fun f =>
    (frameSlots s.sched f).any fun e => e.type == 0x10 && e.unit == n && bits e.param 2 0 == c

/-- The conditions of R87 after ENGINE, and of R451, in their order: code and descriptor field. -/
def reelStartCheck (s : State) (n addr tick p : Nat) : Option (Nat × Nat) :=
  let st := reelState s n
  if addr % 64 ≠ 0 then some (Code.BAD_ALIGN, 9)
  else if p < 1 ∨ 16 < p then some (Code.OUT_OF_RANGE, 11)
  else if tick < s.now + p + 1 then some (Code.OUT_OF_RANGE, 10)
  else if st ≠ 0 ∧ st ≠ 6 then some (Code.BUSY, 8)
  else if !isReelGroup s n then some (Code.INCONSISTENT, 8)
  else if !namesChannel s n (addr / 2 ^ 37) then some (Code.INCONSISTENT, 9)
  else if s.rd DB_STATUS_RC_STATE ≠ 0 then some (Code.INCONSISTENT, 1)
  else none

/-- REEL_START (R78, R87, R90, R451): checked field by field; an accepted descriptor puts the engine in ARMED, its burst
to begin at vector cycle 0,
and aborts a power-state entry in progress (R423, R425). -/
def execReelStart (ring : Fin 64) (s : State) : Out :=
  match takeOp s ring 0x40 with
  | none => .next s
  | some o =>
    let n := bits (o.word 1) 3 0
    let p := bits (o.word 4) 4 0
    match reelStartCheck s n (o.word 2) (o.word 3) p with
    | some (code, fld) => .next (decideOp ring o.idx code fld 0 s)
    | none =>
      let s := ((runOp ring o.idx s).wr RE_STATUS_STATE 1 n).wr START_TICK_S (o.word 3) n
      let s := ((s.wr RE_STATUS_END_CAUSE 0 n).wr RE_STATUS_CAUSE_SEEN 0 n).wr VCYCLE_VC 0 n
      let s := updReel n (fun u =>
        { dict := u.dict, dictLoaded := u.dictLoaded, minLevel := u.minLevel, laneHold := u.laneHold, owed := u.owed,
          aborts := u.aborts, lateAborts := u.lateAborts, flushes := u.flushes,
          op := some (ring.val, o.idx), addr := o.word 2, prefetch := p }) s
      .next (powerWatch (setLevel n 0 s))

/-- REEL_ABORT (R96): waits to be latched at the next tick. -/
def execReelAbort (ring : Fin 64) (s : State) : Out :=
  match takeOp s ring 0x41 with
  | none => .next s
  | some o =>
    let n := bits (o.word 1) 3 0
    .next (updReel n (fun u => { u with aborts := u.aborts ++ [(ring.val, o.idx, s.now, o.word 2)] })
      (runOp ring o.idx s))

/-- One latched REEL_ABORT (R90, R95, R96, R460). -/
def latchAbort (n : Nat) (s : State) (a : Nat × Nat × Nat × Nat) : State :=
  let (r, k, _, tick) := a
  let st := reelState s n
  if (st == 0) || s.rd START_TICK_S n != tick || (reel s n).op.isNone then
    decideOp r k Code.ALREADY_DONE 0 0 s
  else if st == 1 || st == 2 then decideOp r k Code.OK 0 0 (stopReel n causeAbort s)
  else if st == 6 && decide (1 < s.rd RE_STATUS_END_CAUSE n) then decideOp r k Code.ALREADY_DONE 0 0 s
  else if naturalStands s n || st == 6 then
    let reel_ := (reel s n).op.getD (0, 0)
    updReel n (fun u => { u with lateAborts := u.lateAborts ++ [(r, k, reel_.1, reel_.2)] }) s
  else if st == 3 then decideOp r k Code.OK 0 0 (stopReel n causeAbort s)
  else
    let sameTick := decide ((reel s n).causeTick = s.now) && s.rd RE_STATUS_END_CAUSE n == causeDebug
    let s := if sameTick then (s.wr RE_STATUS_END_CAUSE causeAbort n).setmbit RE_STATUS_CAUSE_SEEN causeAbort true n
      else s
    decideOp r k Code.OK 0 0 s

/-- REEL_ABORT_LATCH (R96): the aborts that arrived in an earlier frame are latched. -/
def execReelAbortLatch (n : Fin 16) (s : State) : Out :=
  let due := (reel s n).aborts.filter fun a => decide (a.2.2.1 < s.now)
  let s := updReel n (fun u => { u with aborts := u.aborts.filter fun a => !decide (a.2.2.1 < s.now) }) s
  .next (due.foldl (latchAbort n) s)

/-- REEL_PREFETCH_START (R52, R90): at the first credited tick from S - P on, an ARMED engine enters
PREFETCH. -/
def execReelPrefetchStart (n : Fin 16) (s : State) : Out :=
  if reelState s n == 1 && credited s && decide (s.rd START_TICK_S n - (reel s n).prefetch ≤ s.now) then
    .next (s.wr RE_STATUS_STATE 2 n)
  else .next s

/-- REEL_START_TICK (R89, R90, R97): at tick S the reel starts when everything was completed at least 20 core cycles
before; w0 is the transmit word time of vector cycle 0. A taint cause latched while prefetching is handled at once
(R95). -/
def execReelStartTick (n : Fin 16) (_inTime : Unit) (w0 : Nat) (s : State) : Out :=
  if reelState s n == 2 && credited s && s.rd START_TICK_S n == s.now then
    if startReady s n then
      let s := updCatch n (fun c => { c with w0 := some w0 }) (updReel n (fun u => { u with started := some s.tick.base }) s)
      if tainted s n then
        let stop := nextStopAt s n
        .next (updReel n (fun u => { u with endVc := some (u.endVc.getD stop) }) (s.wr RE_STATUS_STATE 5 n))
      else .next (s.wr RE_STATUS_STATE 3 n)
    else
      match earlyCause s n with
      | some c => .next (endUnstarted n Code.TAINTED c 0 s)
      | none => .next (endUnstarted n Code.ABORTED causeShort 0 s)
  else .next s

/-- REEL_NATURAL_COMPLETION (R96, R97): latched at the tick after the frame in which the lanes reached the
final stop point. -/
def execReelNaturalCompletion (n : Fin 16) (s : State) : Out :=
  if naturalStands s n then .next (latchCause n causeFinal s) else .next s

/-- PAD (R79): SKIP operation words are skipped. -/
def execPad (n : Fin 16) (s : State) : Out :=
  .next (decodeOp n 0 (fun w s => noteLevel n (updReel n (fun u =>
    let dst := u.pos + opLength w
    advance (decodeTo dst u) dst) s)) s)

/-- LITERAL (R79): the payload vectors in order, as their words are fetched; k of those left (0: all there are). -/
def execLiteral (n : Fin 16) (k : Nat) (s : State) : Out :=
  .next (decodeOp n 1 (emitOp n k false 8 fun u c x => opWordsAt u (c.pos + 1 + 8 * x) 8) s)

/-- REPEAT_VECTOR (R79): the payload vector; k of the positions left (0: all). -/
def execRepeatVector (n : Fin 16) (k : Nat) (s : State) : Out :=
  .next (decodeOp n 2 (emitOp n k true 0 fun _ c _ => c.payload) s)

/-- REPEAT_BLOCK (R79, R80, R86): the next BLOCK_WORDS operation words become a block, which the block buffer takes as they
are decoded; blocks nest to two levels, within 2,048 words. -/
def execRepeatBlock (n : Fin 16) (s : State) : Out :=
  .next (decodeOp n 3 (fun w s =>
    let u := reel s n
    let b : BlockLvl := { start := u.pos + 1, words := bits w 27 16, left := bits w 15 0 }
    let fits := match u.blocks with
      | [] => decide (b.start + b.words ≤ u.opWords)
      | [c] => decide (b.start + b.words ≤ c.start + c.words)
      | _ => false
    if fits then
      noteLevel n (updReel n (fun u =>
        { decodeTo b.start u with
          pos := b.start, blocks := b :: u.blocks,
          blockBuf := if u.blocks.isEmpty then [] else (decodeTo b.start u).blockBuf }) s)
    else formatBreach n false s) s)

/-- DICT (R79): dictionary vectors INDEX on; k of those left (0: all). -/
def execDict (n : Fin 16) (k : Nat) (s : State) : Out :=
  .next (decodeOp n 4 (fun w => emitOp n k false 0
    (fun u _ x => memRd u.dict (64 * (bits w 25 16 + x)) 64) w) s)

/-- One merged vector of a SPLICE operation (R79). -/
def mergeVector (w d v : Nat) : Nat :=
  (List.range 8).foldl (fun acc i =>
    let dw := bits d (64 * i + 63) (64 * i)
    let sw := bits v (64 * i + 63) (64 * i)
    let x := if !bit w (40 + i) then dw else if bits w 56 55 = 0 then sw else sw ^^^ dw
    acc + x * 2 ^ (64 * i)) 0

/-- A splice fault (R85): counted as the event, handled as a substitution. -/
def spliceFault (n : Nat) (injected : Bool) (s : State) : State :=
  substitute n causeSplice (s.rd VCYCLE_VC n) (raiseInj E.SPLICE_FAULT n (s.rd VCYCLE_VC n) injected s)

/-- SPLICE (R79, R84, R85): k merged vectors of those left (0: all), each consuming one splice-port vector; an
empty splice FIFO is a splice fault. -/
def execSplice (n : Fin 16) (k : Nat) (s : State) : Out :=
  .next (decodeOp n 5 (fun w s =>
    let new := (reel s n).cur.isNone
    let c := opNow (reel s n) w
    let s := if new then updReel n (askSplice (s.rd VCYCLE_VC n) (opCount w)) s else s
    let want := opStep s n k 0 c
    let (inj, s) := takeInj FI_REEL_INJECT_INJ_SPLICE 0
      (decide (s.rd FI_REEL_INJECT_ENGINE = n.val) && decide (0 < want)) s
    let u := reel s n
    let have_ := if inj then 0 else min want u.splice.length
    let d := memRd u.dict (64 * bits w 25 16) 64
    let vs := (u.splice.take have_).map (mergeVector w d)
    let s := if have_ = 0 then updReel n (fun u => { decodeTo (c.pos + 1) u with cur := some c }) s else
      let s := s.incWrap SPLICED_VECTORS_VECTORS n 0 have_
      let s := emitOp n have_ false 0 (fun _ _ x => vs.getD (x - c.done) 0) w s
      updReel n (fun u => { u with splice := u.splice.drop have_ }) s
    if have_ < want then spliceFault n inj s else s) s)

/-- The effect of a well-formed STOP (R79, R93, R95): its hold words are held; a run-down, or a FINAL stop
point, ends the burst here. -/
def passStop (n w : Nat) (s : State) : State :=
  let u := reel s n
  let vc := s.rd VCYCLE_VC n
  let hold := (List.range 8).map fun i => opWord u (u.pos + 1 + i)
  let now := s.cycle
  let s := (s.wr STOP_NOW_STOP_ID (bits w 47 32) n).wr NEXT_STOP_VC_VC (vc + bits w 31 0) n
  let ends := bit w 56 || reelState s n == 4
  noteLevel n (updReel n (fun u =>
    let u := { u with stopAt := if u.initStop then u.stopAt else now }
    let u := advance (decodeTo (u.pos + 9) u) (u.pos + 9)
    { u with
      initStop := true, stopHold := hold, stopVc := vc, final := bit w 56,
      stopped := ends, endVc := if ends then some vc else none }) s)

/-- STOP (R79, R80, R95): a stop point with its hold words; one that breaks the rules ends the burst
there. -/
def execStop (n : Fin 16) (s : State) : Out :=
  .next (decodeOp n 6 (fun w s =>
    let u := reel s n
    let vc := s.rd VCYCLE_VC n
    let last := decide (u.opWords ≤ u.pos + 9)
    let good :=
      if !u.initStop then firstOpOk u
      else u.blocks.isEmpty && vc == s.rd NEXT_STOP_VC_VC n &&
        (if bit w 56 then bits w 31 0 == 0 && vc == u.vectors && u.pos + 9 == u.opWords
         else decide (1 ≤ bits w 31 0) && decide (bits w 31 0 ≤ u.rundown) && !last)
    if good then passStop n w s else formatEnd n vc s) s)

/-- SPLICE_WRITE (R83, R84): the fabric writes one or two splice vectors. Of two that find room for one the first is kept,
the second is discarded, and OVERFLOW counts the write once (DESIGN CHOICE, log entry 26: R84 speaks of a write that finds
the FIFO full). A region whose clocks are stopped writes nothing
(R85, R209). -/
def execSpliceWrite (n : Fin 16) (valid : Fin 4) (v0 v1 : Nat) (s : State) : Out :=
  let vs := match valid.val with
    | 1 => [v0 % 2 ^ 512]
    | 3 => [v0 % 2 ^ 512, v1 % 2 ^ 512]
    | _ => []
  if !regionRuns s n then .next s
  else if valid.val = 2 then .next (s.incSat SPLICE_ERR_BAD_VALID n)
  else if !splActive s n then .next (s.incWrap SPLICE_LEFTOVER_VECTORS n 0 vs.length)
  else
    let room := 128 - (reel s n).splice.length
    let s := updReel n (fun u =>
      (vs.take room).foldl (fun u v => { supplySplice u with splice := u.splice ++ [v] }) u) s
    if vs.length ≤ room then .next s
    else .next (spliceFault n false (s.incSat SPLICE_ERR_OVERFLOW n))

/-- REEL_UNDERRUN (R95, R99, R101): a transmit FIFO is empty at a word time while RUNNING or RUNDOWN; while
the core PLL smoulders the cause is CLOCK. -/
def execReelUnderrun (n : Fin 16) (s : State) : Out :=
  let st := reelState s n
  if (st == 3 || st == 4) && (reel s n).endVc.isNone then
    let (inj, s) := takeInj FI_REEL_INJECT_INJ_UNDERRUN 0 (decide (s.rd FI_REEL_INJECT_ENGINE = n.val)) s
    let vc := s.rd VCYCLE_VC n
    if !inj && !fifoEmpty s n then .next s
    else if s.rd ALIGN_STATUS_STATE = 4 && !inj then .next (substitute n causeClock vc s)
    else
      .next (substitute n causeUnderrun vc
        (raiseInj E.REEL_UNDERRUN n vc inj (s.incWrap UNDERRUN_COUNT_COUNT n)))
  else .next s

/-- SUBSTITUTION_START (R98): the transmit FIFOs are empty: INVALID, then the held hold word at each
position up to the stop point; none where the stop point is reached at that very position. -/
def execSubstitutionStart (n : Fin 16) (s : State) : Out :=
  let u := reel s n
  match u.endVc with
  | none => .next s
  | some stop =>
    if reelState s n == 5 && !u.subst && fifoEmpty s n then
      let vc := s.rd VCYCLE_VC n
      let seg : TxSeg :=
        { vc := vc, count := stop - vc, mask := 0, invalid := true,
          vecs := [(List.range 8).foldl (fun v i => v + u.stopHold.getD i 0 * 2 ^ (64 * i)) 0] }
      .next (updReel n (fun u =>
        { u with subst := true, tx := if vc < stop then u.tx ++ [seg] else u.tx }) s)
    else .next s

/-- The word times that a burst has taken when its lanes come to the position e at which it ends: one for each vector, and
one for each INVALID block (R92, R98, R294). -/
def endTimes (u : ReelU) (e : Nat) : Nat :=
  match u.tx.find? (·.invalid) with
  | some g => e + (g.count + 1023) / 1024
  | none => e

/-- HOLD_REACHED (R92, R93, R97, R98): the lanes reach the position at which the burst ends and hold: HOLD names the stop
point whose hold words they send, its cause (FINAL where the burst ends by itself; log entry 77) and the position. -/
def execHoldReached (n : Fin 16) (s : State) : Out :=
  let u := reel s n
  let st := reelState s n
  match u.endVc with
  | none => .next s
  | some e =>
    if u.heldAt.isNone && (st == 3 || st == 4 || (st == 5 && u.subst)) &&
        (wordsLoose s n || decide (endTimes u e ≤ laneTimes s n)) then
      let cause := s.rd RE_STATUS_END_CAUSE n
      let hold : LaneHold :=
        { words := u.stopHold, stopId := s.rd STOP_NOW_STOP_ID n, cause := if cause = 0 then causeFinal else cause,
          vc := e }
      .next (updReel n (fun u => { u with heldAt := some s.now, laneHold := some hold }) (s.wr END_TICK_TICK s.now n))
    else .next s

/-- The code of a started reel's completion (R97). -/
def reelCode (s : State) (n : Nat) : Nat :=
  if tainted s n then Code.TAINTED
  else if s.rd RE_STATUS_END_CAUSE n = causeAbort ∨ s.rd RE_STATUS_END_CAUSE n = causeDebug then Code.ABORTED
  else Code.OK

/-- REEL_HOLDING (R84, R97, R99, R101, R102): every late-alarm window has closed: the engine holds, its
splice FIFO is flushed, and its outcome is decided; its entry waits for the burst's records (R21). The
TAINT notice, if any, goes to the catch block, or waits for the core PLL. -/
def execReelHolding (n : Fin 16) (s : State) : Out :=
  let u := reel s n
  let st := reelState s n
  if u.heldAt.isSome && (st == 3 || st == 4 || st == 5) && u.lines.all (fun l => windowShut s l.2.2) then
    let s := if s.rd RE_STATUS_END_CAUSE n = 0 then latchCause n causeFinal s else s
    let s := flushSplice n (s.wr RE_STATUS_STATE 6 n)
    let s := dropBuffer n (updReel n (fun u => { u with fetched := 9 + u.dictLines }) s)
    let code := reelCode s n
    let word2 := u.endVc.getD 0 % 2 ^ 48 + s.rd STOP_NOW_STOP_ID n * 2 ^ 48
    let s := decideReel n code 0 (s.rd END_TICK_TICK n) word2 s
    let s := match u.op with
      | some (r, k) => holdOp r k s
      | none => s
    let s := lineKeep n s
    .next (if tainted s n then taintNotice n s else noTaint n s)
  else .next s

/-- RE_CLEAR_COUNTS (R103): the counters at 0048h to 0074h. -/
def execReClearCounts (n : Fin 16) (s : State) : Out :=
  .next (s.clrAllInst [LINES_FETCHED_LINES, VECTORS_EMITTED_VECTORS, SPLICED_VECTORS_VECTORS,
    UNDERRUN_COUNT_COUNT, TAINT_COUNT_COUNT, ABORT_COUNT_COUNT, FORMAT_COUNT_COUNT, SPLICE_ERR_BAD_VALID,
    SPLICE_ERR_OVERFLOW, SPLICE_LEFTOVER_VECTORS] n)

/-- FLUSH_DICT (R103): clears DICT_VALID while the engine is IDLE. -/
def execFlushDict (n : Fin 16) (s : State) : Out :=
  if reelState s n == 0 then .next (s.wr RE_STATUS_DICT_VALID 0 n) else .next s

/-- REEL_FETCH_WINDOW (R41, R86): the window of the frame's entry k opens on its engine; the channel
delivers up to so many lines in it. Lines that their answer delivers INTERNAL fail the fetch as a
POISONED line does (DESIGN CHOICE, log entry 80). -/
def execReelFetchWindow (k : Nat) (lines : WindowLines) (s : State) : Out :=
  match opening s 0x10 k with
  | none => .next s
  | some e =>
    let s := windowStart e s
    let n := e.unit
    let quota := bits e.param 23 8
    let mine := (reel s n).op.isSome && decide (bits e.param 2 0 = (reel s n).addr / 2 ^ 37)
    let before := (reel s n).fetched
    let asked := reel s n
    let count := s.rd LINES_FETCHED_LINES n
    let s := if mine then noteLevel n (fetchLines n e.param (min quota lines.lines) s) else s
    let (bad, s) := fetchTraffic (portReel n) (portDdr (bits e.param 2 0))
      ((s.rd LINES_FETCHED_LINES n + 2 ^ 64 - count) % 2 ^ 64)
      (fun i => fetchAddr { asked with fetched := before + i }) lines.perr lines.other s
    let s := if bad && (reel s n).op.isSome then lineFailed n before 0 causePoison s else s
    let s := meetsAt lines.meets s
    let complete := !mine || fetchDone s n || decide (quota ≤ (reel s n).fetched - before)
    .next (openWin k e complete s)

end Sys2Proof.Machine
end

