-- ==== Sys2Proof/Machine/Region.lean ====
section
/-! DEFINITION. The commands of the fabric regions (R148, R149, R153, R468). -/

namespace Sys2Proof.Machine

open F

/-- FABRIC_RESET (R153, R209): a REGION reset where PSTATE is Run or Boost, which then lasts 16 cycles of every line that
runs; but it sets IGNORED while the region waits for its load or is loaded, or its swap has FAILED. -/
def execFabricReset (k : Fin 64) (s : State) : Out :=
  let st := s.rd SWAP_STATUS_STATE 0 k
  .next (if s.rd RG_STATUS_PSTATE k < 2 && !(st == 2 || st == 3 || st == 5) then
      updRegion k (fun u => { u with resetting := some [] }) (regionReset k s)
    else s.wr RG_CTRL_IGNORED 1 k)

/-- The sensor's bit of R468: region k, or 64 for the central sensor. -/
def sensorBad (s : State) (k : Nat) : Bool :=
  if k = 64 then s.flag FI_CHECK_STATUS_CENTRAL_FAULT else s.mbit FI_SENSOR_FAULT_REGIONS k

/-- Sets or clears it. -/
def setSensorBad (k : Nat) (b : Bool) (s : State) : State :=
  if k = 64 then s.setb FI_CHECK_STATUS_CENTRAL_FAULT b else s.setmbit FI_SENSOR_FAULT_REGIONS k b

/-- The sensors that a sensor is checked against (R468): its edge neighbours; for the central one, every
region's. -/
def sensorPeers (k : Nat) : List Nat := if k = 64 then List.range 64 else neighboursOf k

/-- The self-check of one sensor at its reading (R468). -/
def checkSensor (codes : Nat → Nat) (k : Nat) (s : State) : State :=
  let peers := sensorPeers k
  let around := (peers.map fun p => tempOf (codes p)).sum
  let was := (s.region_ k).last
  let s := if sensorBad s k && was != codes k then setSensorBad k false s else s
  let s := takeReading k (codes k) around s
  let (inj, s) := takeInj FI_CHECK_INJECT_INJ_SENSOR 0 (s.rd FI_CHECK_INJECT_SEL == k) s
  if !sensorBad s k && (inj || stuck (s.region_ k) around peers.length) then
    raiseInj E.SENSOR_FAULT k (codes k) inj (setSensorBad k true s)
  else s

/-- The comparison across edge e of region k, its north or east edge (R148): 100 quarters set the condition,
less than 88 clear it. -/
def compareEdge (codes : Nat → Nat) (injected : List Nat) (k e : Nat) (s : State) : State :=
  match across k e with
  | none => s
  | some n =>
    if sensorBad s k || sensorBad s n then s
    else
      let gap := tempGap (codes k) (codes n)
      let hot := (s.region_ k).hot.testBit e
      let back := (e + 2) % 4
      let mark := fun (b : Bool) (s : State) =>
        let put := fun (v bit : Nat) => if b then v ||| 2 ^ bit else v - (if v.testBit bit then 2 ^ bit else 0)
        updRegion n (fun u => { u with hot := put u.hot back }) (updRegion k (fun u => { u with hot := put u.hot e }) s)
      if !hot && decide (gap > 100) then
        let s := ((mark true s).incSat RG_FAULT_COUNT_TEMP_SKEW k).incSat RG_FAULT_COUNT_TEMP_SKEW n
        let s := refreshSuspect n (refreshSuspect k s)
        raiseInj E.EDGE_TEMP_SKEW k n (injected.contains k || injected.contains n) s
      else if hot && decide (gap < 88) then refreshSuspect n (refreshSuspect k (mark false s))
      else s

/-- The TEMP tamper sensor after a reading (R437, R438): it fires where a sensor, a stuck one included (R468), reads below
−50 °C or above 130 °C, once while that lasts and again only after 1 ms without it, which is 20 readings. -/
def tempTamper (codes : Nat → Nat) (s : State) : State :=
  if (List.range 65).any fun k => decide (tempOf (codes k) < -200) || decide (520 < tempOf (codes k)) then
    let s' := updEngine (fun e => { e with tempQuiet := 0 }) s
    if s.enc.tempQuiet < 20 || s.boot.por then s' else fireSensors 2 false s'
  else updEngine (fun e => { e with tempQuiet := min 20 (e.tempQuiet + 1) }) s

/-- TEMP_READING (R148, R437, R468): the 64 region sensors and, last, the central one take the readings given, in
quarter degrees; INJ_TEMP adds 32 °C to its region's (R153). -/
def execTempReading (readings : List Nat) (s : State) : Out :=
  let armed := (List.range 64).filter fun k => s.flag RG_INJECT_INJ_TEMP k
  let codes := fun k =>
    (readings.getD k (s.region_ k).last + (if armed.contains k then 128 else 0)) % 4096
  let s := armed.foldl (fun t k => t.wr RG_INJECT_INJ_TEMP 0 k) s
  let s := (List.range 64).foldl (fun t k =>
    let first := (s.region_ k).same == 0
    let t := t.wr RG_TEMP_TEMP (codes k) k
    if first || tempOf (t.rd RG_TEMP_MAX_TEMP k) < tempOf (codes k) then t.wr RG_TEMP_MAX_TEMP (codes k) k
    else t) s
  let s := (List.range 65).foldl (fun t k => checkSensor codes k t) s
  .next (tempTamper codes ((List.range 64).foldl (fun t k =>
    compareEdge codes armed k 1 (compareEdge codes armed k 0 t)) s))

/-- A measured bias as a signed number of millivolts. -/
def biasOf (v : Nat) : Int := if v % 1024 < 512 then (v % 1024 : Nat) else (v % 1024 : Nat) - 1024

/-- The bias condition changes: EDGE_SUSPECT of the region's edges and its neighbours' follows (R149). -/
def biasFlag (k : Nat) (b : Bool) (s : State) : State :=
  (k :: neighboursOf k).foldl (fun t r => refreshSuspect r t) (s.setb RG_STATUS_BIAS_FAULT b k)

/-- BIAS_FAULT (R149): the measured bias has stayed more than 25 mV from its target for 10 µs; INJ_BIAS offsets
the monitor by 40 mV (R153). -/
def execBiasFault (k : Fin 64) (measured : Fin 1024) (s : State) : Out :=
  let (inj, s) := takeInj RG_INJECT_INJ_BIAS k true s
  let m := (measured.val + (if inj then 40 else 0)) % 1024
  if (biasOf m - biasOf (s.rd RG_BIAS_TARGET k)).natAbs > 25 then
    let s := s.wr RG_BIAS_MEASURED m k
    if s.flag RG_STATUS_BIAS_FAULT k then .next s
    else
      let s := (biasFlag k true s).incSat RG_FAULT_COUNT_BIAS_FAULTS k
      .next (raiseInj E.BIAS_FAULT k m inj s)
  else .next s

/-- BIAS_FAULT_CLEARED (R149): the measured bias has stayed within 25 mV of its target for 10 µs. -/
def execBiasFaultCleared (k : Fin 64) (measured : Fin 1024) (s : State) : Out :=
  if (biasOf measured - biasOf (s.rd RG_BIAS_TARGET k)).natAbs ≤ 25 then
    .next (biasFlag k false (s.wr RG_BIAS_MEASURED measured k))
  else .next s

end Sys2Proof.Machine
end

