-- ==== Sys2Proof/Machine/Slice.lean ====
section
/-! DEFINITION. The commands of the arithmetic slices (R165 to R172). Slice t of region k. States of
SL_STATUS: 0 IDLE, 1 RUNNING, 2 STOPPED, 3 DONE, 4 FAULT, 5 DEBUG_HALT. -/

namespace Sys2Proof.Machine

open F

/-- The device-wide index of slice t of region k (R154). -/
def sliceIdx (k : Fin 64) (t : Fin 96) : Nat := k.val * 96 + t.val

/-- A command from the fabric reaches its slice while both its clocks run (R154, R155); a word at its FIFOs, while SL_PCLK
does. -/
def whenRuns (k : Fin 64) (t : Fin 96) (s : State) (f : State → State) : Out :=
  .next (if sliceRuns s (sliceIdx k t) && slicePort s (sliceIdx k t) then f s else s)
def whenPort (k : Fin 64) (t : Fin 96) (s : State) (f : State → State) : Out :=
  .next (if slicePort s (sliceIdx k t) then f s else s)

/-- SLICE_START (R168, R169): accumulators, overflow bits and pointers clear, and the slice runs from
SL_ENTRY; ignored in RUNNING and DEBUG_HALT. -/
def execSliceStart (k : Fin 64) (t : Fin 96) (entry : Fin 64) (s : State) : Out :=
  whenRuns k t s fun s =>
    let i := sliceIdx k t
    let st := s.rd SL_STATUS_STATE i
    if st == 1 || st == 5 then ignoreCmd i s
    else
      let s := ((s.wr SL_STATUS_OVF0 0 i).wr SL_STATUS_OVF1 0 i).wr SL_STATUS_STORE_SAT 0 i
      let s := (((s.wr SL_PTR_P_X 0 i).wr SL_PTR_P_Y 0 i).wr SL_PTR_P_W 0 i).wr SL_PTR_PC entry.val i
      let s := s.updSlice i fun u =>
        { u with acc0 := 0, acc1 := 0, loops := [], past := false, sinceMac := 3 }
      s.wr SL_STATUS_STATE 1 i

/-- SLICE_STOP (R168, R169): a running slice stops at an instruction boundary and is STOPPED once its
pipeline has drained, 4 slice cycles later. -/
def execSliceStop (k : Fin 64) (t : Fin 96) (s : State) : Out :=
  whenRuns k t s fun s =>
    let i := sliceIdx k t
    if s.rd SL_STATUS_STATE i == 1 then (sliceCycles i 4 s).wr SL_STATUS_STATE 2 i else ignoreCmd i s

/-- SLICE_CONTINUE (R168, R169): a STOPPED slice runs on with its next instruction. -/
def execSliceContinue (k : Fin 64) (t : Fin 96) (s : State) : Out :=
  whenRuns k t s fun s =>
    let i := sliceIdx k t
    if s.rd SL_STATUS_STATE i == 2 then s.wr SL_STATUS_STATE 1 i else ignoreCmd i s

/-- The next instruction, when it has opcode opc, does f. -/
def issue (i opc : Nat) (s : State) (f : Nat → State → State) : Out :=
  match fetchIns i opc s with
  | none => .next s
  | some (none, t) => .next t
  | some (some ins, t) => .next (f ins t)

/-- SLICE_NOP (R165). -/
def execSliceNop (k : Fin 64) (t : Fin 96) (s : State) : Out :=
  issue (sliceIdx k t) 0 s fun _ s => retire (sliceIdx k t) (sliceCycles (sliceIdx k t) 1 s)

/-- MAC (R157, R158, R167): the operands load, the sums form, the accumulators take them; or an input stall
takes one slice cycle. -/
def execMac (k : Fin 64) (t : Fin 96) (s : State) : Out :=
  issue (sliceIdx k t) 1 s (runMac (sliceIdx k t))

/-- REPEAT (R166). -/
def execRepeat (k : Fin 64) (t : Fin 96) (s : State) : Out :=
  issue (sliceIdx k t) 2 s (runRepeat (sliceIdx k t))

/-- STORE (R159, R167). -/
def execStore (k : Fin 64) (t : Fin 96) (s : State) : Out :=
  issue (sliceIdx k t) 3 s (runStore (sliceIdx k t))

/-- SETP (R165): GEN 0 X, 1 Y, 2 W. -/
def execSetp (k : Fin 64) (t : Fin 96) (s : State) : Out :=
  issue (sliceIdx k t) 4 s (runSetp (sliceIdx k t))

/-- HALT (R168): the slice is DONE and SL_DONE pulses. -/
def execHalt (k : Fin 64) (t : Fin 96) (s : State) : Out :=
  issue (sliceIdx k t) 15 s fun _ => runHalt (sliceIdx k t)

/-- SLICE_MEM_ACCESS (R160, R161, R163, R170): the fabric port reads or writes a word of the operand memory
(space false) or of the program space (space true, 69 words). A write beyond word 68 is not performed and answers
SL_MEM_ERR, and a read there gives a free value (DESIGN CHOICE, log entry 38: R163 gives 69 words and no more). -/
def execSliceMemAccess (k : Fin 64) (t : Fin 96) (space write : Bool) (addr : Fin 256) (data : Nat)
    (s : State) : Out :=
  whenRuns k t s fun s =>
    let i := sliceIdx k t
    let u := s.slice_ i
    let a := addr.val
    let st := s.rd SL_STATUS_STATE i
    if !space then
      if write then
        s.updSlice i fun u =>
          { u with
            opmem := sput 0 u.opmem a (data % 2 ^ 128), opBad := sput 0 u.opBad a 0, ack := some (0, false) }
      else
        let bad := sget 0 u.opBad a != 0
        let s := s.updSlice i fun u => { u with ack := some (sget 0 u.opmem a, bad) }
        if bad then raise E.SLICE_FAULT i (4 + s.rd SL_PTR_PC i * 16) (s.incSat SL_FAULT_INFO_PARITY_ERRS i)
        else s
    else if write then
      if a < 69 && (st == 0 || st == 2 || st == 3 || st == 4) then
        s.updSlice i fun u =>
          { u with
            prog := sput 0 u.prog a (data % 2 ^ 64), progBad := sput 0 u.progBad a 0, ack := some (0, false) }
      else s.updSlice i fun u => { u with ack := some (0, true) }
    else if a < 69 then
      let bad := sget 0 u.progBad a != 0
      let s := s.updSlice i fun u => { u with ack := some (sget 0 u.prog a, bad) }
      if bad then raise E.SLICE_FAULT i (5 + s.rd SL_PTR_PC i * 16) (s.incSat SL_FAULT_INFO_PARITY_ERRS i)
      else s
    else
      let (v, s) := s.draw
      s.updSlice i fun u => { u with ack := some (v % 2 ^ 128, false) }

/-- SLICE_INPUT_WORD (R170): a word is written while VALID and READY are high. -/
def execSliceInputWord (k : Fin 64) (t : Fin 96) (word : Nat) (s : State) : Out :=
  whenPort k t s fun s =>
    let i := sliceIdx k t
    if (s.slice_ i).inFifo.length < 16 then
      s.updSlice i fun u => { u with inFifo := u.inFifo ++ [word % 2 ^ 128] }
    else s

/-- SLICE_OUTPUT_TAKE (R170): a word is taken while VALID and READY are high. -/
def execSliceOutputTake (k : Fin 64) (t : Fin 96) (s : State) : Out :=
  whenPort k t s fun s =>
    let i := sliceIdx k t
    match (s.slice_ i).outFifo with
    | [] => s
    | w :: rest => s.updSlice i fun u => { u with outFifo := rest, taken := some w }

/-- SL_CLEAR_COUNTS (R172). -/
def execSlClearCounts (k : Fin 64) (t : Fin 96) (s : State) : Out :=
  .next (s.clrAllInst [SL_CYCLES_CYCLES, SL_MACS_MACS, SL_STALL_STALL_IN, SL_STALL_STALL_OUT,
    SL_STEAL_STOLEN] (sliceIdx k t))

end Sys2Proof.Machine
end

