-- ==== Sys2Proof/Machine/Tick.lean ====
section
/-! DEFINITION. The tick engine's commands (chapter 02). -/

namespace Sys2Proof.Machine

open F

/-- TICK (R27, R33, R39, R44, R49): the next tick occurs, and requests that waited for a window are served. No tick is counted while the offset stands still (R51). -/
def execTick (s : State) : Out := .next (if frozen s then s else serveDdr (nextTick s))

/-- FRAME_LOG_READ (R44): entry k has been read; a read by the debug master leaves it unread. -/
def execFrameLogRead (k : Fin 256) (debug : Bool) (s : State) : Out :=
  .next (if debug then s else updTck (fun t => { t with unread := t.unread.filter (· != k.val) }) s)

/-- SYNC_MARK (R47, R49, R51): a pulse on the SYNC pair, its width in nanoseconds, and the position of its
rising edge against the expected tick in 1/64 core cycle. -/
def execSyncMark (width : Nat) (pos : Int) (s : State) : Out :=
  .next (if 4 ≤ width ∧ width ≤ 12 then syncMark false pos s
    else if 24 ≤ width ∧ width ≤ 40 then syncMark true pos s
    else s.incWrap SYNC_MISS_COUNT_MISSES)

/-- SYNC_MARK_MISSED (R49): an expected mark has not arrived in window. Marks are expected in SYNC mode once the
phase is set. -/
def execSyncMarkMissed (s : State) : Out :=
  let expected := alignMode s == 1 && !frozen s &&
    (alignState s == 2 || alignState s == 3 || (alignState s == 1 && s.tick.phaseSet))
  .next (if !expected then s
    else
      let (inj, s) := takeInj FI_TICK_INJECT_INJ_SYNC_MISS 0 true s
      missMark inj s)

/-- ALIGN_ARM (R49, R54): word v is written to ALIGN_CTRL with ARM set. ARM is judged now, or at the tick when
the same write changes MODE. -/
def execAlignArm (v : Nat) (s : State) : Out :=
  if !bit v 16 then .next s
  else
    let mode := bits v 1 0
    let changes := mode ≠ 3 ∧ mode ≠ alignMode s
    let s := [ALIGN_CTRL_MODE, ALIGN_CTRL_MARK_DIV, ALIGN_CTRL_HOLDOVER].foldl (fun t f => writeField t f 0 0 v) s
    .next (if changes then updTck (fun t => { t with armAtTick := true }) (s.wr ALIGN_CTRL_ARM 1) else judgeArm s)

/-- ALIGN_MODE_CHANGE (R49): the MODE written takes effect at the tick. Where the device was aligning or aligned
it goes FREE, and ARM clears; an ARM of the same write is judged then. -/
def execAlignModeChange (s : State) : Out :=
  match s.tick.modeDue with
  | none => .next s
  | some m =>
    if s.tick.awaitTick then .next s
    else
      let changes := m ≠ alignMode s
      let arm := s.tick.armAtTick
      let s := updTck (fun t => { t with modeDue := none, armAtTick := false }) (s.wr ALIGN_CTRL_MODE m)
      let st := alignState s
      let s := if changes ∧ 1 ≤ st ∧ st ≤ 3 then setAlign 0 false s else noteUnaligned false s
      .next (if arm then judgeArm s else s)

end Sys2Proof.Machine
end

