-- ==== Sys2Proof/Machine/BusOps.lean ====
section
/-! DEFINITION. Accesses to the registers (R9 to R12, R57, R335, R336, R510, R511): what a write of a register does,
field by field and action by action; writes of words and pairs; reads of words and pairs with their latches. -/

namespace Sys2Proof.Machine

open F

/-- The state after a command that always answers a next state. -/
def after (o : Out) (s : State) : State :=
  match o with
  | .next t => t
  | _ => s

/-- Who accesses the registers: 0 the host, 1 a management core, 2 the debug master (R57, R511). -/
abbrev Accessor := Nat

/-- The fields of a register take a write, those of the list excepted (R9, R12). -/
def plainWrite (skip : List Fld) (r : RegRow) (i j v : Nat) (s : State) : State :=
  r.fields.foldl (fun t f => if skip.any (fun g => g.id == f.id) then t else writeField t f i j v) s

/-- A CLEAR_COUNTS in bit b performs its row. -/
def clearing (b v : Nat) (f : State → Out) (s : State) : State := if bit v b then after (f s) s else s

/-- ALIGN_CTRL (R49, R54): ARM set is the row ALIGN_ARM. -/
def writeAlignCtrl (r : RegRow) (v : Nat) (s : State) : State :=
  if bit v 16 then after (execAlignArm v s) s else plainWrite [] r 0 0 v s

/-- TR_CTRL and the other training registers (R261): outside TRAINING a write is ignored. START's pass is the row
TRAINING_PASS. -/
def writeTraining (r : RegRow) (c j v : Nat) (s : State) : State :=
  if s.rd DC_STATUS_STATE c = 1 then
    let s := plainWrite [] r c j v s
    if r.off = 0x801000 ∧ bit v 0 then s.wr TR_STATUS_BUSY 1 c else s
  else s.wr DC_STATUS_TR_IGNORED 1 c

/-- LN_PRBS_CTRL (R303, R308): the pattern and both enables; a write that sets an enable on a lane with role traffic is
not performed. -/
def writePrbs (r : RegRow) (g i v : Nat) (s : State) : State :=
  if (bit v 2 || bit v 3) && !prbsLane (s.rd LG_ROLE_WORD0 g) i then s.wr LN_PRBS_CTRL_IGNORED 1 g i else
  let s := plainWrite [LN_PRBS_CTRL_PATTERN, LN_PRBS_CTRL_TX_EN, LN_PRBS_CTRL_RX_EN] r g i v s
  let p := Fin.ofNat 4 (bits v 1 0)
  let s := after (execPrbsTxEn (Fin.ofNat 18 g) (Fin.ofNat 8 i) (bit v 2) p s) s
  after (execPrbsRxEn (Fin.ofNat 18 g) (Fin.ofNat 8 i) (bit v 3) p s) s

/-- LN_EYE_CTRL (R304, R308): START is the row EYE_SCAN_START. -/
def writeEye (r : RegRow) (g i v : Nat) (s : State) : State :=
  if bit v 20 then after (execEyeScanStart (Fin.ofNat 18 g) (Fin.ofNat 8 i) v s) s else plainWrite [] r g i v s

/-- LK_CTRL of link l (R320, R331): QUIET where it changes, RESET. -/
def writeLink (r : RegRow) (l v : Nat) (s : State) : State :=
  let s := plainWrite [LK_CTRL_QUIET] r 0 l v s
  let s := if bit v 0 != s.flag LK_CTRL_QUIET 0 l then after (execLkQuiet (Fin.ofNat 144 l) (bit v 0) s) s else s
  if bit v 1 then after (execLkReset (Fin.ofNat 144 l) s) s else s

/-- CR_BASE and CQ_BASE (R337): they change only while the ring is DISABLED. -/
def writeRingBase (r : RegRow) (j v : Nat) (s : State) : State :=
  if ringState s j = 0 then plainWrite [] r 0 j v s else s.wr CR_STATUS_CFG_ERR 1 0 j

/-- DB_CTRL (R450 to R453, R461): bits 0 to 4 are ignored in Recovery and Retired. -/
def writeDbCtrl (r : RegRow) (v : Nat) (s : State) : State :=
  let s :=
    if debugPermitted s then
      let s := if bit v 0 then after (execDbHalt s) s else s
      let s := if bit v 1 then after (execDbResume s) s else s
      let s := if bit v 2 then after (execDbStep s) s else s
      writeField (armSequencer (bit v 3) s) DB_CTRL_HALT_CORES 0 0 v
    else s
  clearing 5 v execDbClearCounts (plainWrite [DB_CTRL_SEQ_ARM, DB_CTRL_HALT_CORES] r 0 0 v s)

/-- DA_CMD (R457, R461). -/
def writeDaCmd (r : RegRow) (v : Nat) (s : State) : State :=
  if !debugPermitted s then s
  else if bit v 31 then daWrite (bits v 5 0) (bits v 14 8) (bits v 19 16) (bits v 27 20) s
  else plainWrite [] r 0 0 v s

/-- STAT_CTRL of port p of router r (R241): SNAP and CLEAR wait for the tick. -/
def writeStatCtrl (r p : Nat) (snap clear : Bool) (s : State) : State :=
  if snap || clear then updNet (fun n => { n with snaps := n.snaps ++ [(4 * r + p, snap, clear)] }) s else s

/-- NR_CTRL.CLEAR_COUNTS of router r (R242). -/
def clearRouter (r : Nat) (s : State) : State :=
  s.clrAllInst [LINK_FLITS_FLITS, LINK_SUSPEND_CYCLES, LINK_PARITY_PARITY, NR_COUNTS_A_AGED, NR_COUNTS_A_SCH_CONFLICTS,
    NR_COUNTS_B_RETURNS, NR_COUNTS_B_CLOSED_REFUSALS, NR_COUNTS_C_RETRIES, NR_COUNTS_C_TIMEOUTS, NR_COUNTS_C_LATE_RESP] r

/-- The registers whose write does more than its fields' access codes say, each found by one of its fields, and what a
write of value v to instance i, index j does. -/
def actionTable : List (Fld × (RegRow → Nat → Nat → Nat → State → State)) :=
  [(ALIGN_CTRL_MODE, fun r _ _ v s => writeAlignCtrl r v s),
   (RE_CTRL_CLEAR_COUNTS, fun _ i _ v s =>
     let s := clearing 0 v (execReClearCounts (Fin.ofNat 16 i)) s
     clearing 1 v (execFlushDict (Fin.ofNat 16 i)) s),
   (CB_CTRL_CLEAR_COUNTS, fun _ i _ v s => clearing 0 v (execCbClearCounts (Fin.ofNat 16 i)) s),
   (CM_RD_INDEX, fun _ i _ v s => after (execCmRdWrite (Fin.ofNat 16 i) v s) s),
   (RG_CTRL_FABRIC_RESET, fun r i j v s => clearing 0 v (execFabricReset (Fin.ofNat 64 i)) (plainWrite [] r i j v s)),
   (SL_CTRL_CLEAR_COUNTS, fun _ i _ v s =>
     clearing 0 v (execSlClearCounts (Fin.ofNat 64 (i / 96)) (Fin.ofNat 96 (i % 96))) s),
   (CFG_CTRL_ABORT, fun _ _ _ v s => clearing 1 v execCfgClearCounts (clearing 0 v execConfigAbort s)),
   (SCRUB_CTRL_ENABLE, fun r i j v s => clearing 1 v execScrubClearCounts (plainWrite [] r i j v s)),
   (NR_CTRL_CLEAR_COUNTS, fun r i j v s => (if bit v 0 then clearRouter i else id) (plainWrite [] r i j v s)),
   (STAT_CTRL_SNAP, fun _ i j v s => writeStatCtrl i j (bit v 0) (bit v 1) s),
   (DC_CTRL_CLEAR_COUNTS, fun _ i _ v s =>
     clearing 1 v (execDcClearLogs (Fin.ofNat 8 i)) (clearing 0 v (execDcClearCounts (Fin.ofNat 8 i)) s)),
   (TR_CTRL_START, fun r i j v s => writeTraining r i j v s),
   (TR_SEED_PATTERN, fun r i j v s => writeTraining r i j v s),
   (TR_DESKEW_READ, fun r i j v s => writeTraining r i j v s),
   (TR_DQS_READ_DQS, fun r i j v s => writeTraining r i j v s),
   (EN_CTRL_CLEAR_COUNTS, fun _ _ _ v s => clearing 0 v execEnClearCounts s),
   (LG_CTRL_CLEAR_COUNTS, fun _ i _ v s => clearing 0 v (execLgClearCounts (Fin.ofNat 18 i)) s),
   (LN_PRBS_CTRL_PATTERN, fun r i j v s => writePrbs r i j v s),
   (LN_EYE_CTRL_PHASE, fun r i j v s => writeEye r i j v s),
   (MS_CTRL_CLEAR_COUNTS, fun r i j v s => clearing 0 v execMsClearCounts (plainWrite [] r i j v s)),
   (MS_REPORT_RD_INDEX, fun _ _ _ v s => after (execMsReportRdWrite v s) s),
   (LK_CTRL_QUIET, fun r _ j v s => writeLink r j v s),
   (HI_CTRL_CLEAR_COUNTS, fun _ _ _ v s => clearing 0 v execHiClearCounts s),
   (EV_BASE_ADDR, fun r i j v s =>
     if s.flag EV_STATUS_RUNNING then s.wr EV_STATUS_CFG_ERR 1 else plainWrite [] r i j v s),
   (EV_CFG_SIZE_LOG2, fun _ _ _ v s => writeEventCfg v s),
   (CR_BASE_ADDR, fun r _ j v s => writeRingBase r j v s),
   (CQ_BASE_ADDR, fun r _ j v s => writeRingBase r j v s),
   (CR_CFG_SIZE_LOG2, fun _ _ j v s => writeRingCfg j v s),
   (DP_CTRL_CLEAR_COUNTS, fun r i j v s => clearing 0 v execDpClearCounts (plainWrite [] r i j v s)),
   (SP_CTRL_CLEAR_COUNTS, fun r i j v s => clearing 0 v execSpClearCounts (plainWrite [] r i j v s)),
   (CK_CTRL_CLEAR_COUNTS, fun _ _ _ v s => clearing 0 v execCkClearCounts s),
   (MON_NOMINAL_KHZ, fun r i j v s => if 4 ≤ j then s else plainWrite [] r i j v s),
   (PW_CTRL_CLEAR_COUNTS, fun r i j v s => clearing 0 v execPwClearCounts (plainWrite [] r i j v s)),
   (DB_CTRL_SEQ_ARM, fun r _ _ v s => writeDbCtrl r v s),
   (DA_CMD_REGION, fun r _ _ v s => writeDaCmd r v s),
   (EA_CTRL_CLEAR_COUNTS, fun _ _ _ v s => clearing 0 v execEaClearCounts s),
   (RS_CTRL_DEVICE_RESET, fun _ _ _ v s => after (execDeviceReset v s) s),
   (BK_CTRL_CLEAR_COUNTS, fun _ i _ v s => clearing 0 v (execBkClearCounts (Fin.ofNat 8 i)) s),
   (PIN_CTRL_RETRY, fun _ i j v s => clearing 0 v (execPinRetry (Fin.ofNat 8 i) (Fin.ofNat 48 j)) s)]

/-- Instance i, index j of a register takes a write of value v, its RWF fields apart (R9 to R12, R469, R510). -/
def regWrite (r : RegRow) (i j v : Nat) (s : State) : State :=
  if !servesReg s r j then s
  else if r.isInject then injWrite r i v s
  else match actionTable.find? (fun e => r.fields.any fun f => f.id == e.1.id) with
    | some e => e.2 r i j v s
    | none => plainWrite [] r i j v s

/-- Has a register a field, RWF or not, that a write changes? -/
def RegRow.writable (r : RegRow) : Bool := r.fields.any fun f => f.acc != .ro && f.acc != .fuse

/-- RWF values join the staged set, or are discarded (R57). Management cores count as Hearth. -/
def stageRwf (who : Accessor) (off : Nat) (ws : List FieldWrite) (s : State) : State :=
  if ws.isEmpty then s
  else if stageLocked s || !ownsStage s (who == 1) then raise E.STAGE_LOCKED 0 off s
  else stageLoading (who == 1) (s.updStage fun g => { g with rwf := ws.foldl (fun l w => stageWrite w l) g.rwf })

/-- A discarded write is logged (R335): BAR, offset, byte enables and KIND (0 width or alignment, 1 no register). -/
def logAccess (bar2 : Bool) (off be kind : Nat) (s : State) : State :=
  let s := (((s.wr HI_ACCESS_LOG_OFFSET off).setb HI_ACCESS_LOG_BAR bar2).wr HI_ACCESS_LOG_BYTE_EN be).wr
    HI_ACCESS_LOG_KIND kind
  let s := s.incSat HI_COUNTS_WIDTH_ERRS
  raiseOnce E.ACCESS_DISCARDED 0
    (off % 2 ^ 26 + (if bar2 then 2 ^ 26 else 0) + be % 16 * 2 ^ 27 + kind % 2 * 2 ^ 31) false s

/-- The low half held for a 64-bit register, by its offset; it is kept one higher, so that none is 0 (R336). -/
def heldLow (s : State) (off : Nat) : Option Nat :=
  match sget 0 s.lowHalves off with
  | 0 => none
  | n + 1 => some n

/-- The low half of a register is held, or no longer (R336). -/
def holdLow (off : Nat) (v : Option Nat) (s : State) : State :=
  s.updLowHalves fun l => sput 0 l off (match v with
    | none => 0
    | some x => x % 2 ^ 32 + 1)

/-- A whole register takes a write (R57, R336): its RWF fields, then the others. -/
def writeWhole (who : Accessor) (off : Nat) (r : RegRow) (i j v : Nat) (s : State) : State :=
  let mine := who == 1
  let ws := (List.range (r.width / 32)).flatMap fun k =>
    rwfWrites mine s s.stage.rwf r i j (4 * k) (bits v (32 * k + 31) (32 * k))
  let ws := if r.width = 64 then
      r.fields.filterMap fun f => if rwfFor mine f i j then some ⟨f, i, j, bits v f.hi f.lo⟩ else none
    else ws
  let s := if servesReg s r j then stageRwf who off ws s else s
  regWrite r i j v s

/-- The high half of a 64-bit register is written with v (R336): with the low half held, or with the low half in
force, which for an RWF field is its staged or active one. STAGE_LOCKED of a discarded write names the offset of the register,
that of its low half (DESIGN CHOICE, log entry 16: R57 says the register offset). -/
def writeHigh (who : Accessor) (off : Nat) (r : RegRow) (i j v : Nat) (s : State) : State :=
  let base := off - 4
  let low := (heldLow s base).getD (bits (regValue s r i j) 31 0)
  let rwf := match heldLow s base with
    | some lo => r.fields.filterMap fun f =>
        if rwfFor (who == 1) f i j then some ⟨f, i, j, bits (v % 2 ^ 32 * 2 ^ 32 + lo) f.hi f.lo⟩ else none
    | none => rwfWrites (who == 1) s s.stage.rwf r i j 4 v
  let s := holdLow base none s
  let s := if servesReg s r j then stageRwf who base rwf s else s
  regWrite r i j (v % 2 ^ 32 * 2 ^ 32 + low) s

/-- An aligned 32-bit word is written at a BAR0 offset; none where it holds no register (R335, R336). -/
def writeWord (who : Accessor) (off v : Nat) (s : State) : Option State :=
  match regAt off with
  | none => none
  | some (r, i, j, b) =>
    if r.width = 32 then some (writeWhole who off r i j (v % 2 ^ 32) s)
    else if r.width = 64 && r.writable then
      some (if b = 0 then holdLow off (some v) s else writeHigh who off r i j v s)
    else some s

/-- An aligned 64-bit pair is written (R335, R336): a whole 64-bit register, or two words in ascending order. None
where neither or only one of the words holds a register; that one takes its write. -/
def writePair (who : Accessor) (off v : Nat) (s : State) : Bool × State :=
  match regAt off with
  | some (r, i, j, 0) =>
    if r.width = 64 then (true, writeWhole who off r i j (v % 2 ^ 64) (holdLow off none s))
    else
      let s := (writeWord who off (v % 2 ^ 32) s).getD s
      match writeWord who (off + 4) (v / 2 ^ 32) s with
      | some t => (true, t)
      | none => (false, s)
  | some _ => (true, s)
  | none =>
    match writeWord who (off + 4) (v / 2 ^ 32) s with
    | some t => (false, t)
    | none => (false, s)

/-- A write of the registers that is aligned and whole (R335, R511): its code, and the state after it. -/
def busWrite (who : Accessor) (off n v : Nat) (s : State) : Nat × State :=
  let before := s.rd FI_STATUS_DISCARDED
  let (ok, t) := if n = 8 then writePair who off v s else match writeWord who off v s with
    | some t => (true, t)
    | none => (false, s)
  if !ok then (Code.OUT_OF_RANGE, logAccess false off (2 ^ n - 1) 1 t)
  else if who = 2 ∧ t.rd FI_STATUS_DISCARDED ≠ before then (Code.LIFECYCLE, t)
  else (Code.OK, t)

/-- Is an access of n bytes at an offset a whole aligned word or pair (R335)? -/
def wholeAccess (off n : Nat) : Bool := (n == 4 && off % 4 == 0) || (n == 8 && off % 8 == 0)

/-- The bits of a register above its first 32, or above its first 64 where an entry is read by a wide access, as the
read of its lowest word latches them; kept one higher, so that none is 0 (R336). -/
def latchHigh (off v : Nat) (s : State) : State := s.updLatches fun l => sput 0 l off (v + 1)

/-- The latched value of a register whose lowest byte is at an offset; none where no low word has been read (R336). -/
def latched (s : State) (off : Nat) : Option Nat :=
  match sget 0 s.latches off with
  | 0 => none
  | n + 1 => some n

/-- The latch of a 64-bit register has been read (R336). -/
def unlatch (off : Nat) (s : State) : State := s.updLatches fun l => sput 0 l off 0

/-- A read of n bytes, 4 or 8, at an aligned offset by an initiator other than the debug master (R335, R336): the data,
and the state after it. A read of a frame-log entry marks it read (R44). -/
def busRead (off n : Nat) (s : State) : Nat × State :=
  match regAt off with
  | none =>
    if n = 8 then (match regAt (off + 4) with
      | some (r, i, j, b) => bits (regReads s r i j) (8 * b + 31) (8 * b) * 2 ^ 32
      | none => 0, s)
    else (0, s)
  | some (r, i, j, b) =>
    let v := regReads s r i j
    let s := if r.fields.any (fun f => f.id == FRAME_LOG_ENTRY.id) then after (execFrameLogRead (Fin.ofNat 256 j) false s) s
      else s
    if r.width = 32 then
      if n = 8 then
        let hi := match regAt (off + 4) with
          | some (q, i, j, b) => bits (regReads s q i j) (8 * b + 31) (8 * b)
          | none => 0
        (v + hi * 2 ^ 32, s)
      else (v, s)
    else if b = 0 then
      if r.width = 64 then (if n = 8 then (v, s) else (bits v 31 0, latchHigh off v s))
      else (bits v (8 * n - 1) 0, latchHigh off v s)
    else
      let w := (latched s (off - b)).getD v
      (bits w (8 * b + 8 * n - 1) (8 * b), if r.width = 64 then unlatch (off - b) s else s)

end Sys2Proof.Machine
end

