-- ==== Sys2Proof/Machine/Endpoint.lean ====
section
/-! DEFINITION. The endpoint of the host link (R332 to R334): its configuration space, the MSI-X table, and what BAR2 reads
as. -/

namespace Sys2Proof.Machine

open F

/-- Every pending vector that is no longer masked sends its message (R342). -/
def releaseMsix (s : State) : State :=
  s.host.pendingBits.foldl (fun t v =>
    let e : Msix := sget {} t.host.msix v
    if e.masked || t.host.pcie.functionMask || !t.host.pcie.msixEnable then t
    else sendMsix v (updHst (fun h => { h with pendingBits := h.pendingBits.filter (· != v) }) t)) s

/-- The steps and the direction of a margining point in a value: bits 6:0 the steps, bit 7 right or down. The receiver
reaches 32 steps of time and 64 of voltage each way (R332, R304). -/
def marginOk (voltage : Bool) (v : Nat) : Bool := decide (bits v 6 0 ≤ if voltage then 64 else 32)

/-- The key of a margining point. -/
def marginKey (lane : Nat) (voltage : Bool) : Nat := 2 * lane + if voltage then 1 else 0

/-- A field of the configuration space is written (R332). The identity is read only; a payload or read-request size beyond
those supported, and a margining point out of reach, change nothing (log entry 85). -/
def configWrite (f : PcieField) (v : Nat) (s : State) : State :=
  let set (g : PcieCfg → PcieCfg) : State := updHst (fun h => { h with pcie := g h.pcie }) s
  match f with
  | .msixEnable => releaseMsix (set fun p => { p with msixEnable := bit v 0 })
  | .functionMask => releaseMsix (set fun p => { p with functionMask := bit v 0 })
  | .maxPayload => if bits v 2 0 ≤ 2 then set fun p => { p with maxPayload := bits v 2 0 } else s
  | .maxReadRequest => if bits v 2 0 ≤ 5 then set fun p => { p with maxReadRequest := bits v 2 0 } else s
  | .ecrcGenerate => set fun p => { p with ecrcGenerate := bit v 0 }
  | .ecrcCheck => set fun p => { p with ecrcCheck := bit v 0 }
  | .aerMask => set fun p => { p with aerMask := bits v 31 0 }
  | .margin lane voltage =>
    if marginOk voltage v then set fun p => { p with margins := sput 0 p.margins (marginKey lane voltage) (bits v 7 0) } else s
  | .vendorId | .deviceId | .classCode | .subsystemVendor | .subsystemId => s

/-- A field of the configuration space as it reads (R332). -/
def configRead (f : PcieField) (s : State) : Nat :=
  let p := s.host.pcie
  match f with
  | .vendorId => Config.vendorId
  | .deviceId => 0x5376
  | .classCode => 0xFF0000
  | .subsystemVendor => dirWord s 0x08 2
  | .subsystemId => dirWord s 0x0A 2
  | .msixEnable => if p.msixEnable then 1 else 0
  | .functionMask => if p.functionMask then 1 else 0
  | .maxPayload => p.maxPayload
  | .maxReadRequest => p.maxReadRequest
  | .ecrcGenerate => if p.ecrcGenerate then 1 else 0
  | .ecrcCheck => if p.ecrcCheck then 1 else 0
  | .aerMask => p.aerMask
  | .margin lane voltage => sget 0 p.margins (marginKey lane voltage)

/-- MSI-X table entry v takes a word (R334): 0 and 1 the address, 2 the data, 3 the mask bit. Unmasking sends a message
that pends. -/
def writeMsix (v word x : Nat) (s : State) : State :=
  let e : Msix := sget {} s.host.msix v
  let e := match word with
    | 0 => { e with addr := e.addr / 2 ^ 32 * 2 ^ 32 + x % 2 ^ 32 }
    | 1 => { e with addr := e.addr % 2 ^ 32 + x % 2 ^ 32 * 2 ^ 32 }
    | 2 => { e with data := x % 2 ^ 32 }
    | _ => { e with masked := bit x 0 }
  releaseMsix (updHst (fun h => { h with msix := sput {} h.msix v e }) s)

/-- The aligned 32-bit word of BAR2 at an offset (R334): the index last accepted by a doorbell, the pending bits, the MSI-X
table, and 0 elsewhere. -/
def bar2Word (off : Nat) (s : State) : Nat :=
  if off < 0x400 then (if off % 16 = 0 then s.rd CR_PROD_INDEX 0 (off / 16) else 0)
  else if off < 0x800 then (if off % 16 = 0 then s.rd CQ_RD_INDEX 0 ((off - 0x400) / 16) else 0)
  else if off = 0x800 then s.rd EV_RD_INDEX
  else if 0x7000 ≤ off ∧ off < 0x7100 then
    ((List.range 32).filter fun b => s.host.pendingBits.contains ((off - 0x7000) * 8 + b)).foldl (fun n b => n + 2 ^ b) 0
  else if 0x8000 ≤ off ∧ off < 0x10000 then
    let e : Msix := sget {} s.host.msix ((off - 0x8000) / 16)
    match off / 4 % 4 with
    | 0 => e.addr % 2 ^ 32
    | 1 => e.addr / 2 ^ 32
    | 2 => e.data
    | _ => if e.masked then 1 else 0
  else 0

end Sys2Proof.Machine
end

