-- ==== Sys2Proof/Machine/Bus.lean ====
section
/-! DEFINITION. The commands that access the registers from the host (R334 to R336, R484), or as a management core or the
debug master does through the register target (R511). -/

namespace Sys2Proof.Machine

open F

/-- A host write to BAR0 (R335, R484). -/
def hostBar0 (off be v : Nat) (s : State) : State :=
  let n := if be = 0xFF then 8 else 4
  if !((be = 0x0F || be = 0xFF) && wholeAccess off n) then logAccess false off be 0 s
  else if !s.flag HI_STATUS_READY then
    let (k, s) := s.draw
    logAccess false off be (k % 2) s
  else (busWrite 0 off n v s).2

/-- A host write to BAR2 (R334, R335): doorbells take 32-bit words only; the pending bits take no write. -/
def hostBar2 (off be v : Nat) (s : State) : State :=
  let wide := be == 0xFF
  if !((be = 0x0F || be = 0xFF) && wholeAccess off (if wide then 8 else 4)) then logAccess true off be 0 s
  else if 0x8000 ≤ off ∧ off < 0x10000 then
    let e := (off - 0x8000) / 16
    let s := writeMsix e (off / 4 % 4) v s
    if wide then writeMsix e (off / 4 % 4 + 1) (v / 2 ^ 32) s else s
  else if 0x7000 ≤ off ∧ off < 0x7100 then s
  else if off < 0x800 ∧ off % 16 = 0 then
    if wide then logAccess true off be 0 s
    else if off < 0x400 then after (execCommandDoorbell (Fin.ofNat 64 (off / 16)) v s) s
    else after (execCompletionDoorbell (Fin.ofNat 64 (off / 16)) v s) s
  else if off = 0x800 then (if wide then logAccess true off be 0 s else after (execEventDoorbell v s) s)
  else logAccess true off be 1 s

/-- A host write to BAR0, BAR2 or the configuration space (R332 to R335). -/
def hostWrite (space : BusSpace) (off be v : Nat) (s : State) : State :=
  match space with
  | .registers => hostBar0 off be v s
  | .doorbells => hostBar2 off be v s
  | .config f => configWrite f v s

/-- The bytes of a value that byte enables name. -/
def enabledBytes (be v : Nat) : Nat :=
  (List.range 8).foldl (fun n b => n + if be.testBit b then bits v (8 * b + 7) (8 * b) * 2 ^ (8 * b) else 0) 0

/-- A host read of BAR0 or BAR2 from the aligned word at or below an offset, with its byte enables (R334 to R336): one of a whole
word or pair with its latches and read actions, and one with fewer byte enables, or unaligned, the enabled bytes
alone. -/
def hostRead (bar2 : Bool) (off be : Nat) (s : State) : Nat × State :=
  let n := if be = 0xFF then 8 else 4
  if bar2 then (enabledBytes be (bar2Word off s + bar2Word (off + 4) s * 2 ^ 32), s)
  else if (be = 0x0F || be = 0xFF) && wholeAccess off n then busRead off n s
  else (enabledBytes be (debugWord s off + debugWord s (off + 4) * 2 ^ 32), s)

/-- REGISTER_WRITE (R335, R484, R511): a write of v with these byte enables, from byte off of BAR0 or BAR2, or to the
configuration space, by the host (who 0), or of BAR0 by a management core (1) or the debug master (2). -/
def execRegisterWrite (bar2 : BusSpace) (off : Nat) (be : Fin 256) (v : Nat) (who : Fin 3) (s : State) : Out :=
  if who.val = 0 then .next (hostWrite bar2 off be v s)
  else if bar2 ≠ .registers then .next s
  else
    let n := if be.val = 0xFF then 8 else 4
    .next (if (be.val = 0x0F || be.val = 0xFF) && wholeAccess off n then (busWrite who off n v s).2 else s)

/-- PAIR_LOW_READ (R336, R348): the lowest word of a wide register is read, or its lowest pair (wide). The debug master
latches nothing. -/
def execPairLowRead (off : Nat) (wide debug : Bool) (s : State) : Out :=
  match regAt off with
  | some (r, _, _, 0) =>
    if debug || r.width = 32 then .next s else .next (hostRead false off (if wide then 0xFF else 0x0F) s).2
  | _ => .next s

/-- RWF_WRITE (R57, R336, R484, R511): a word is written where the register has an RWF field in it, by the host (who 0), a
management core (1) or the debug master (2). -/
def execRwfWrite (off v : Nat) (who : Fin 3) (s : State) : Out :=
  match regAt off with
  | some (r, i, j, _) =>
    if off % 4 = 0 ∧ r.fields.any (fun f => rwfFor (who.val == 1) f i j) then
      .next (if who.val = 0 then hostBar0 off 0x0F v s else (busWrite who off 4 v s).2)
    else .next s
  | none => .next s

end Sys2Proof.Machine
end

