-- ==== Sys2Proof/Machine/DebugBus.lean ====
section
/-! DEFINITION. DBG_REG (R446, R454): the registers through the debug master. -/

namespace Sys2Proof.Machine

open F

/-- DBG_REG (R454): dr holds bit 0 WRITE, 24:1 the word offset, 56:25 the write data. The access takes effect as it lands,
and completes by DEBUG_ACCESS_DONE. -/
def execDbgReg (dr : Nat) (s : State) : Out :=
  let s := loadIr 0x20 s
  if !debugPermitted s then .next (captureLifecycle s)
  else
    let m := s.dbg.reg
    let busy := m.flight.isSome
    let s := captureDr (m.captureCode + m.data % 2 ^ 32 * 2 ^ 25 + (if busy then 2 ^ 57 else 0)) s
    if busy then .next (updDb (fun d => { d with reg := { d.reg with missed := true } }) s)
    else
      let off := bits dr 24 1 * 4
      let s := headLands (portAt 2 0 1) (if bit dr 0 then 3 else 2) off 0xF020 s
      let (code, v, s) :=
        if bit dr 0 then
          let (code, s) := busWrite 2 off 4 (bits dr 56 25) s
          (code, 0, s)
        else (Code.OK, debugWord s off, s)
      let t := s.cycle
      .next (updDb (fun d => { d with reg := { d.reg with missed := false, flight := some (code, v, t) } }) s)

end Sys2Proof.Machine
end

