-- ==== Sys2Proof/Machine/FixChecks.lean ====
section
/-! DEFINITION. The consistency checks of a proof set (R37, R62, R63, R66): each is judged on the state as the fix
would leave it. -/

namespace Sys2Proof.Machine

open F

/-- The items of a type, with their places in the set. -/
def itemsOf (s : State) (type : Nat) : List Item := s.stage.items.filter fun x => x.type == type

/-- The item of a type and instance. -/
def itemAt (s : State) (type inst : Nat) : Option Item :=
  s.stage.items.find? fun x => x.type == type && x.inst == inst

/-- The index of the first item of the types named, in the order named; 0 where there is none. -/
def itemIndex (s : State) (types : List Nat) : Nat :=
  ((types.findSome? fun t => (itemsOf s t).head?).map (·.index)).getD 0

/-- A payload as a memory. -/
def payMem (p : List Byte) : Mem := memWrBytes [] 0 p

/-- The standing reservations of a NOC_RESERVATION payload (R232). -/
def standingTable (router : Nat) (p : List Byte) : List Standing :=
  (List.range (p.length / 8)).map fun k =>
    let w := payWord p k
    { target := 4 * router + bits w 1 0, holder := 4 * bits w 14 8 + bits w 17 16, sched := bit w 24,
      landing := bits w 43 32, response := bits w 59 48 }

/-- The table of a router is replaced. -/
def setStanding (x : Item) (s : State) : State :=
  updNet (fun n => { n with
    standing := n.standing.filter (fun e => e.target / 4 != x.inst) ++ standingTable x.inst x.payload }) s

/-- A flow takes its capacity and kind (R359). -/
def setFlow (x : Item) (s : State) : State :=
  let w := payWord x.payload 0
  ((s.wr FLOW_CFG_RESERVED (bits w 15 0) 0 x.inst).wr FLOW_CFG_KIND (bits w 17 16) 0 x.inst).wr FLOW_CFG_CATCH
    (bits w 21 18) 0 x.inst

/-- The new address of a DEVICE_ADDRESS item (R60), or of a LIMITED item of KIND 3h (R72). -/
def setAddress (a : Nat) (s : State) : State := (s.wr MS_STATUS_ADDR (a % 4096)).wr MS_STATUS_ADDR_VALID 1

/-- Every staged value of an RWF field becomes active (R67). -/
def takeRwf (s : State) : State := s.stage.rwf.foldl (fun t w => t.wr w.fld w.v w.i w.j) s

/-- What one item changes of the settings that the checks read together. -/
def viewItem (s : State) (x : Item) : State :=
  match x.type with
  | 0x01 => (s.updSched fun _ => payMem x.payload).wr SCHED_POS_CYCLE_LEN (payNat x.payload 8 4 % 8192)
  | 0x02 => (s.wr LG_ROLE_WORD0 (payWord x.payload 0) x.inst).wr LG_PLL_WORD1 (payWord x.payload 1) x.inst
  | 0x03 => setStanding x s
  | 0x04 => setFlow x s
  | 0x09 => setAddress (payWord x.payload 0) s
  | 0x0B =>
    let w := payWord x.payload 0
    if bits w 3 0 = 3 then setAddress (bits w 31 16) s else s
  | _ => s

/-- The staged set combined with the active settings that it does not replace (R62). -/
def proofView (s : State) : State := s.stage.items.foldl viewItem (takeRwf s)

/-- A failed check (R62): code, CHECK_ID, detail, and the index of the item concerned. -/
structure SetFlaw where
  code : Nat
  check : Nat
  detail : Nat
  item : Nat
  deriving DecidableEq, Repr

/-- A check that found a unit in breach: INCONSISTENT with the lowest one as its detail. -/
def flawOf (check item : Nat) (units : List Nat) : Option SetFlaw :=
  match units with
  | [] => none
  | u :: t => some ⟨Code.INCONSISTENT, check, t.foldl min u, item⟩

/-! Check 01h: the conditions of R37. -/

/-- ENTRY_TOTAL and CYCLE_LEN, PERIOD and DDR_GRADE of a schedule header (R31). -/
def bankTotal (m : Mem) : Nat := memRd m 0x0A 2
def bankCycle (m : Mem) : Nat := bits (memRd m 8 2) 12 0
def bankPeriod (m : Mem) : Nat := bits (memRd m 4 4) 16 0
def bankGrade (m : Mem) : Nat := bits (memRd m 0x0C 4) 1 0

/-- The slot entries that a bank uses. -/
def bankSlots (m : Mem) : List Slot := (List.range (bankTotal m)).map (slotAt m)

/-- The frames of a bank's cycle. -/
def bankFrames (m : Mem) : List (List Slot) := (List.range (max 1 (bankCycle m))).map (frameSlots m)

/-- The CRC of a bank (R31). -/
def bankCrc (m : Mem) : Nat :=
  crc32 (memBytes m 0 0x3C ++ memBytes m 0x1000 (8 * bankCycle m) ++ memBytes m 0x10000 (16 * bankTotal m))

/-- The bits of PARAM that R36 gives a meaning, by type; an APPLY has none. -/
def paramMask (type : Nat) : Nat :=
  let data := 0x7F + 0xFFFF00 + 0xFFFFFFFF00000000
  match type with
  | 0x10 => data
  | 0x20 => data
  | 0x42 => data
  | 0x40 => 0x333
  | 0x41 => 0xFF
  | 0x30 => 0xFFFFFFF
  | 0x50 => 0xFFFF
  | 0x60 => 0x3F
  | _ => 0

/-- The slot types (R35): how many units each has. -/
def slotUnits : Nat → Option Nat
  | 0x01 => some 1
  | 0x10 => some 16
  | 0x20 => some 16
  | 0x30 => some 120
  | 0x40 => some 8
  | 0x41 => some 8
  | 0x42 => some 8
  | 0x50 => some 4
  | 0x60 => some 8
  | _ => none

/-- Do two windows share a core cycle? -/
def Slot.meets (a b : Slot) : Bool := decide (a.start < b.start + b.length) && decide (b.start < a.start + a.length)

/-- Condition 1 of R37: the CRC, the reserved fields and the ranges of the header. -/
def condition1 (m : Mem) : Bool :=
  bits (memRd m 4 4) 31 17 == 0 && bits (memRd m 8 2) 15 13 == 0 && bits (memRd m 0x0C 4) 31 2 == 0 &&
    memRd m 0x10 44 == 0 &&
    (m.all fun c => !(decide (0x40 ≤ c.1) && decide (c.1 < 0x1000)) &&
      !(decide (0x1000 + 8 * bankCycle m ≤ c.1) && decide (c.1 < 0x10000))) &&
    ((List.range (bankCycle m)).all fun f => bits (memRd m (0x1000 + f * 8) 8) 63 27 == 0) &&
    ((bankSlots m).all fun e => e.rsv == 0 && ((slotUnits e.type).isNone || e.param &&& paramMask e.type == e.param)) &&
    decide (384 ≤ bankPeriod m ∧ bankPeriod m ≤ 98304) && decide (1 ≤ bankCycle m ∧ bankCycle m ≤ 4096) &&
    decide (1 ≤ bankTotal m ∧ bankTotal m ≤ 61440) && (bankGrade m == 1 || bankGrade m == 2) &&
    bankCrc m == memRd m 0x3C 4

/-- The DDR channel that a window names. -/
def Slot.channel (e : Slot) : Option Nat :=
  if isDataWindow e then some (bits e.param 2 0)
  else if e.type = 0x40 ∨ e.type = 0x41 then some e.unit
  else none

/-- Condition 2: DDR_GRADE against the speed grade and against each channel named (R4, R37). -/
def condition2 (s : State) (m : Mem) : Bool :=
  let g := bankGrade m
  !(g == 2 && s.rd GL_GRADE_SPEED == 2) &&
    (bankSlots m).all fun e => match e.channel with
      | some c => decide (8 ≤ c) || decide ((if g = 2 then 7 else 5) ≤ s.rd DC_CONFIG_RATE c)
      | none => true

/-- Condition 3: the directory, and the order of a frame's entries. -/
def condition3 (m : Mem) : Bool :=
  (List.range (bankCycle m)).all fun f =>
    let (first, count) := frameAt m f
    decide (first + count ≤ bankTotal m) && decide (count ≤ 1024) &&
      (List.range (count - 1)).all fun k => decide ((slotAt m (first + k)).start ≤ (slotAt m (first + k + 1)).start)

/-- Does PARAM meet what R36 requires of its type? -/
def paramOk (s : State) (e : Slot) : Bool :=
  let p := e.param
  match e.type with
  | 0x40 => bits p 9 8 != 0
  | 0x41 => bits p 7 0 != 0
  | 0x30 => decide (bits p 3 0 < 12) && decide (bits p 7 4 < 10) && decide (bits p 11 8 < 4) && bits p 27 12 != 0 &&
      attached (4 * e.unit + bits p 11 8)
  | 0x50 => bits p 15 0 != 0
  | 0x60 => decide (bits p 5 0 < 48) && s.flag PIN_STATUS_STROBE e.unit (bits p 5 0)
  | 0x01 => e.start == 0 && e.length == 32
  | _ => bits p 6 3 != 0 && bits p 23 8 != 0 && (e.type != 0x42 || bits p 2 0 == e.unit)

/-- Condition 4: a valid TYPE, UNIT and PARAM, inside the frame. -/
def condition4 (s : State) (m : Mem) : Bool :=
  (bankSlots m).all fun e => match slotUnits e.type with
    | none => false
    | some n => decide (e.unit < n) && decide (1 ≤ e.length) && decide (e.start + e.length ≤ bankPeriod m) && paramOk s e

/-- Every two windows of a frame, each pair once. -/
def pairsOf : List Slot → List (Slot × Slot)
  | [] => []
  | a :: t => t.map (fun b => (a, b)) ++ pairsOf t

/-- Condition 7's quota limit: LENGTH × channel rate (R37). -/
def quotaFits (grade : Nat) (e : Slot) : Bool :=
  let q := bits e.param 23 8
  if grade = 2 then decide (3 * q ≤ 2 * e.length) else decide (15 * q ≤ 8 * e.length)

/-- Condition 8: may the two windows of a frame overlap, a refresh and a data window? -/
def refreshClear (r d : Slot) : Bool :=
  !(r.type == 0x40 && isDataWindow d && bits d.param 2 0 == r.unit && r.meets d &&
    (bits d.param 6 3).testBit (bits r.param 5 4) &&
    (List.range 8).any fun g => (bits d.param 63 32).testBit (4 * g + bits r.param 1 0))

/-- Check 01h: the lowest failing condition of conditions 1 to 8, 10 and 12 of R37. -/
def check01 (s v : State) : Option SetFlaw :=
  if (itemsOf s 1).isEmpty then none
  else
    let m := v.sched
    let frames := bankFrames m
    let conds : List (Nat × (Unit → Bool)) :=
      [(1, fun _ => condition1 m), (2, fun _ => condition2 s m), (3, fun _ => condition3 m),
        (4, fun _ => condition4 s m), (5, fun _ => (frameSlots m 0).any (·.type == 1)),
        (6, fun _ => frames.all fun f => (pairsOf f).all fun p =>
          !(p.1.type == p.2.type && p.1.unit == p.2.unit && p.1.meets p.2)),
        (7, fun _ => frames.all fun f => (f.all fun e => !isDataWindow e || quotaFits (bankGrade m) e) &&
          (pairsOf f).all fun p => !(isDataWindow p.1 && isDataWindow p.2 && p.1.channel == p.2.channel && p.1.meets p.2)),
        (8, fun _ => frames.all fun f => (pairsOf f).all fun p => refreshClear p.1 p.2 && refreshClear p.2 p.1),
        (10, fun _ => (bankSlots m).all fun e => e.type != 0x30 || decide (bits e.param 27 12 ≤ e.length)),
        (12, fun _ => frames.all fun f => !(f.any (·.type == 1)) || f.all fun e => e.type == 1 || decide (32 ≤ e.start))]
    (conds.find? fun c => !c.2 ()).map fun c => ⟨Code.INCONSISTENT, 1, c.1, itemIndex s [1]⟩

/-! Check 02h: the links and the standing reservations (R37, R222, R233). -/

/-- The links that a window loads, router and mesh port, with the flits per core cycle as a fraction (R37). -/
def windowLoad (e : Slot) : List (Nat × Nat) × Nat × Nat :=
  let q := bits e.param 23 8
  let c := portDdr (bits e.param 2 0)
  match e.type with
  | 0x10 => (routeOf c (portReel e.unit), q, max 1 e.length)
  | 0x20 => (routeOf (portCatch e.unit) c, q, max 1 e.length)
  | 0x30 => (routeOf (4 * e.unit) (portAt (bits e.param 3 0) (bits e.param 7 4) 0), 1, 1)
  | _ => ([], 0, 1)

/-- The routers with a link that carries more than one flit per core cycle in a frame (condition 9 of R37): a sum
can only rise where a window starts. -/
def overloaded (frame : List Slot) : List Nat :=
  let loads := (frame.map fun e => (e, windowLoad e)).filter fun x => !x.2.1.isEmpty
  let links := ((loads.map fun x => x.2.1).flatten).eraseDups
  (links.filter fun l =>
    let on := loads.filter fun x => x.2.1.contains l
    on.any fun a =>
      let at_ := on.filter fun b => decide (b.1.start ≤ a.1.start) && decide (a.1.start < b.1.start + b.1.length)
      decide (1 < (at_.foldl (fun sum b => sum + (b.2.2.1 : Rat) / (b.2.2.2 : Rat)) (0 : Rat)))).map (·.1)

/-- The routers at which the standing reservations, built-in ones included, or a NOC_SLOT of these frames breach R233. -/
def standingFaults (v : State) (frames : List (List Slot)) : List Nat :=
  let table := (v.noc.standing.filter fun e =>
    !attached e.target || !attached e.holder ||
      decide (landingBuffer e.target < standingLanding v e.target + 64) ||
      decide (224 < standingResponse v e.holder)).map (·.target / 4)
  let slots := (frames.flatten.filter fun e => e.type == 0x30).filterMap fun e =>
    let r := bits e.param 7 4 * 12 + bits e.param 3 0
    if v.noc.standing.any fun t => t.target / 4 == r && t.sched && t.holder == 4 * e.unit + bits e.param 11 8 then none
    else some r
  table ++ slots

/-- The routers whose staged stream IDs lie in the fixed range or are another port's (R222). -/
def streamFaults (s v : State) : List Nat :=
  (s.stage.rwf.filter fun w => w.fld.id == PORT_CFG_STREAM_ID.id &&
    (decide (0xF000 ≤ w.v) || (List.range 128).any fun i =>
      let q := portRegion (i / 2) (i % 2)
      q != 4 * w.i + w.j && v.rd PORT_CFG_STREAM_ID (q / 4) (q % 4) == w.v)).map (·.i)

/-- Check 02h. The item concerned is that of the fault of the lowest router: the schedule of a link or slot, the router's
own table, or the register writes. -/
def check02 (s v : State) : Option SetFlaw :=
  let frames := (List.range (Nat.max 1 (v.rd SCHED_POS_CYCLE_LEN))).map (frameSlots v.sched)
  let links := (frames.map overloaded).flatten
  let tables := standingFaults v []
  let slots := standingFaults v frames
  let all := links ++ slots ++ streamFaults s v
  let r := all.foldl min 120
  let item := if links.contains r then itemIndex s [1, 3]
    else if tables.contains r then ((itemAt s 3 r).map (·.index)).getD (itemIndex s [3, 1])
    else if slots.contains r then itemIndex s [1, 3]
    else itemIndex s [0x0F]
  flawOf 2 item all

/-! Checks 03h and 04h: the budgets (R62, R119, R359). -/

/-- The lowest sum, over the frame indices of the schedule, of the QUOTAs of a unit's windows of a type. -/
def leastQuota (v : State) (type unit : Nat) : Nat :=
  let sum (f : Nat) := ((frameSlots v.sched f).filter fun e => e.type == type && e.unit == unit).foldl
    (fun a e => a + bits e.param 23 8) 0
  (List.range (Nat.max 1 (v.rd SCHED_POS_CYCLE_LEN) - 1)).foldl (fun a f => min a (sum (f + 1))) (sum 0)

/-- Does the set stage a value of a field of an instance? -/
def stages (s : State) (f : Fld) (i : Nat) : Bool := s.stage.rwf.any fun w => w.fld.id == f.id && w.i == i

/-- Check 03h: every engine's fetch budget against its windows. The item concerned is the register writes where the set
stages the budget, and otherwise the schedule. -/
def check03 (s v : State) : Option SetFlaw :=
  let bad := (List.range 16).filter fun n => decide (leastQuota v 0x10 n < v.rd RE_BUDGET_FETCH_BUDGET n)
  flawOf 3 (itemIndex s (if stages s RE_BUDGET_FETCH_BUDGET (bad.headD 16) then [0x0F, 1] else [1])) bad

/-- Does the combined schedule hold an entry of a type for a unit? -/
def holdsEntry (v : State) (type unit : Nat) : Bool :=
  (List.range (Nat.max 1 (v.rd SCHED_POS_CYCLE_LEN))).any fun f =>
    (frameSlots v.sched f).any fun e => e.type == type && e.unit == unit

/-- A catch block in use: its group is in the reel and catch role, or it holds a CATCH_FLUSH entry. The check is
read to concern these blocks only (DEDUCED, log entry 23). -/
def catchUsed (v : State) (n : Nat) : Bool := groupRole v n == 1 || holdsEntry v 0x20 n

/-- Check 04h: each catch block's budget, flow and flush windows; detail FFh for the sum of all reservations.
The item concerned is the flow's own, the schedule of its windows, or the register writes that stage its budget or flow. -/
def check04 (s v : State) : Option SetFlaw :=
  let used := (List.range 16).filter (catchUsed v)
  let flowBad (n : Nat) : Bool :=
    let f := catchFlow v n
    decide (v.rd FLOW_CFG_RESERVED 0 f < catchBudget v n + 1) || v.rd FLOW_CFG_KIND 0 f != 1 || v.rd FLOW_CFG_CATCH 0 f != n
  let quotaBad (n : Nat) : Bool := decide (leastQuota v 0x20 n < (catchBudget v n + 2) / 2)
  let bad := used.filter fun n =>
    flowBad n || quotaBad n || used.any fun o => o != n && catchFlow v o == catchFlow v n
  if bad.isEmpty && decide (57344 < reservedAll v) then
    some ⟨Code.INCONSISTENT, 4, 0xFF, itemIndex s [4]⟩
  else
    let n := bad.headD 16
    let item := if flowBad n then ((itemAt s 4 (catchFlow v n)).map (·.index)).getD (itemIndex s [0x0F, 4])
      else if quotaBad n then itemIndex s (if stages s CB_BUDGET_BUDGET n then [0x0F, 1] else [1, 0x0F])
      else itemIndex s [0x0F]
    flawOf 4 item bad

/-! Check 05h: regions (R62, R203). -/

/-- Is this REGION_ROLE item in breach of check 05h? -/
def regionFault (s : State) (x : Item) : Bool :=
  let w := payWord x.payload 0
  let owner := s.rd RG_OWNER_OWNER x.inst
  bits w 31 16 != (s.rd RG_EPOCH_EPOCH x.inst + 1) % 65536 || (decide (owner < 0x40) && owner != x.ring) ||
    (bits w 9 8 == 1 && s.rd SWAP_STATUS_STATE 0 x.inst == 5)

/-- The live condition of R66: the region is under a swap, or named in a load in progress. -/
def regionTaken (s : State) (k : Nat) : Bool :=
  s.flag RG_STATUS_SWAP k || (decide (2 ≤ cfgState s) && s.cfg.mask.testBit k)

/-- Check 05h; live says that it is the final check. -/
def check05 (s : State) (live : Bool) : Option SetFlaw :=
  let bad := (itemsOf s 5).filter fun x => regionFault s x || (live && regionTaken s x.inst)
  let k := (bad.map (·.inst)).foldl min 64
  flawOf 5 (((itemAt s 5 k).map (·.index)).getD 0) (bad.map (·.inst))

/-! Check 06h: lane roles (R37, R289 to R291, R302). -/

/-- Does a LANE_ROLE item breach R291? w0 and w1 are its words, old the role in force, pcie16 says that group 16 is
in PCIE in the combined settings. -/
def laneFault (g w0 w1 old : Nat) (pcie16 : Bool) : Bool :=
  let role := bits w0 2 0
  let reel := role == 1
  let idle := role == 0 || role == 3
  let vco := bits w1 18 0 * bits w1 34 24
  let p := bits w1 37 35
  let pam := bit w0 10
  let rate := vco * 2 * (if pam then 2 else 1) / (4 * 2 ^ p * 1000)
  decide (4 < role) || (reel && decide (16 ≤ g)) || (role == 3 && !(g == 16 || (g == 17 && pcie16))) ||
    bits w0 15 11 != 0 || bits w0 63 33 != 0 || bits w1 23 19 != 0 || bits w1 63 38 != 0 ||
    (idle && (w0 != role || w1 != 0)) || ((role == 3) != (old == 3)) ||
    (!reel && (bit w0 3 || bit w0 4)) || (bit w0 4 && !bit w0 3) ||
    (if bit w0 4 then bits w0 7 5 == 7 else bits w0 7 5 != 0) ||
    (!idle && (!decide (100000 ≤ bits w1 18 0 ∧ bits w1 18 0 ≤ 400000) || decide (5 < p) ||
      !decide (14000000 * 4 ≤ vco ∧ vco ≤ 28000000 * 4) || bits w0 32 16 != rate ||
      !(if pam then decide (53125 ≤ rate ∧ rate ≤ 112000) else decide (1250 ≤ rate ∧ rate ≤ 56000))))

/-- Is LPLLg, where it runs, judged unstable: its VCO or its reference (R307, R402)? -/
def lpllUnstable (s : State) (g : Nat) : Bool :=
  s.rd LG_STATUS_PLL_STATE g != 0 && !(stable s (vcoMonitor (16 + g)) && stable s (refMonitor s (16 + g)))

/-- Check 06h, with condition 11 of R37; in the final check also the reels that run on groups whose role or spare
selection changes (R66), and the lane PLLs of the groups named that are judged unstable (R307; the CHECK_ID is a DESIGN CHOICE, log
entry 76). Every engine that is not IDLE counts as a running reel here, one that is ARMED, in PREFETCH or
HOLDING too (DESIGN CHOICE, log entry 76); ARM counts only those with a burst on the pins (log entry 46). -/
def check06 (s v : State) (live : Bool) : Option SetFlaw :=
  let bad := (List.range 18).filter fun g =>
    (match itemAt s 2 g with
      | none => false
      | some x =>
        let w0 := payWord x.payload 0
        laneFault g w0 (payWord x.payload 1) (groupRole s g) (groupRole v 16 == 3) ||
          (live && (lpllUnstable s g ||
            (decide (g < 16) && reelState s g != 0 && bits w0 7 0 != bits (s.rd LG_ROLE_WORD0 g) 7 0)))) ||
      (groupRole v g != 1 && (holdsEntry v 0x10 g || holdsEntry v 0x20 g))
  let g := bad.headD 18
  flawOf 6 (((itemAt s 2 g).map (·.index)).getD (itemIndex s [1])) bad

/-! Check 07h: key slots (R269). -/

/-- A range descriptor of a KEY_SLOT payload (R268). -/
structure RangeDesc where
  range : Nat
  base : Nat
  limit : Nat
  lsn : Nat
  entries : List Nat
  deriving DecidableEq, Repr

/-- The range descriptors of an item. -/
def rangeDescs (x : Item) : List RangeDesc :=
  (List.range (x.payload.length / 96)).map fun k =>
    let w (e : Nat) := payWord x.payload (12 * k + e)
    { range := bits (w 0) 3 0, base := bits (w 0) 35 8, limit := bits (w 1) 27 0, lsn := bits (w 2) 39 0,
      entries := (List.range 8).map fun e => bits (w (4 + e)) 33 0 }

/-- Is range j bound, or SEALED, under a key ID that no item of the set names? Its binding then stays; a SEALED range that
an item of another key ID binds is unsealed by it (R285). -/
def keepsRange (s : State) (j : Nat) : Bool :=
  let st := s.rd RANGE_STATUS_STATE 0 j
  (itemAt s 6 (s.rd RANGE_STATUS_KEY_ID 0 j)).isNone &&
    (st == 1 || (st == 2 && !(itemsOf s 6).any fun x => (rangeDescs x).any fun d => d.range == j))

/-- The first and last sectors of the ranges that the fix leaves bound: by the items, and by the bindings kept. -/
def boundAfter (s : State) : List (Nat × Nat × Nat) :=
  ((itemsOf s 6).map fun x => (rangeDescs x).map fun d => (d.range, d.base, d.limit)).flatten ++
    ((List.range 16).filter (keepsRange s)).map fun j =>
      (j, s.rd RANGE_BASE_SECTOR 0 j, s.rd RANGE_LIMIT_SECTOR 0 j)

/-- Is a key ID RETIRING, or its retirement accepted and not yet completed (R280, R281, R286)? -/
def retiringId (s : State) (k : Nat) : Bool :=
  s.rd KEY_STATE_STATE 0 k == 3 || s.enc.jobs.any fun j => j.kind == 3 && j.kid == k && j.code == Code.OK

/-- Why a key-slot item fails check 07h, if it does, as the range concerned and the reason of R284; live says that it
is the final check, which finds a RETIRING ID under a reason of its own (R66). -/
def keyFault (s : State) (live : Bool) (x : Item) : Option (Nat × Nat) :=
  let k := x.inst
  let st := s.rd KEY_STATE_STATE 0 k
  let after := boundAfter s
  if k = 0 then some (0, 0x01)
  else if live ∧ (retiringId s k ∨ s.stage.retired.contains k) then some (0, 0x11)
  else if st = 0 ∨ st = 3 then some (0, 0x07)
  else (rangeDescs x).findSome? fun d =>
    let j := d.range
    let bound := s.rd RANGE_STATUS_STATE 0 j == 1
    let owner := s.rd RANGE_STATUS_KEY_ID 0 j
    if d.limit < d.base ∨ 2 ^ 40 - 1 < d.lsn + (d.limit - d.base) then some (j, 0x09)
    else if after.any (fun e => e.1 != j && decide (e.2.1 ≤ d.limit) && decide (d.base ≤ e.2.2)) ∨
        1 < after.countP (fun e => e.1 == j) then some (j, 0x08)
    else if bound && owner == k && (s.rd RANGE_BASE_SECTOR 0 j != d.base || s.rd RANGE_LIMIT_SECTOR 0 j != d.limit ||
        s.rd RANGE_LSN_LSN_BASE 0 j != d.lsn) then some (j, 0x09)
    else none

/-- The first key-slot item that fails: key ID, range and reason. -/
def check07 (s : State) (live : Bool) : Option (Nat × Nat × Nat) :=
  (itemsOf s 6).findSome? fun x => (keyFault s live x).map fun e => (x.inst, e.1, e.2)

/-! Check 08h: addresses and routes (R309, R322). -/

/-- The routing table's word at a place of its payload: header words, and entry d. -/
def routeWord (p : List Byte) (off : Nat) : Nat := payNat p off 4

/-- Is link l in the MESH role in the combined settings, and UP at the proof? -/
def linkUsable (s v : State) (l : Nat) : Bool := (linkSet v l).isSome && linkState s l == 2

/-- Is the header of a routing table in breach? own is the device's address after the set. -/
def routeHeadFault (s v : State) (p : List Byte) (own : Nat) : Bool :=
  let root := routeWord p 4
  let links := routeWord p 8
  let up := bits links 7 0
  let back := bits links 15 8
  bits root 31 12 != 0 || bits links 31 16 != 0 || bits (routeWord p 0x0C) 31 12 != 0 || payNat p 0x10 48 != 0 ||
    ((up == 0xFE) != (bits root 11 0 == own)) || (up != 0xFE && !linkUsable s v up) ||
    (back != 0xFF && !linkUsable s v back) || up == back || !v.flag MS_STATUS_ADDR_VALID

/-- Is entry d of a routing table in breach? -/
def routeFault (s v : State) (p : List Byte) (own d : Nat) : Bool :=
  let w := routeWord p (0x40 + 4 * d)
  let l := bits w 7 0
  bits w 31 9 != 0 || ((l == 0xFE) != (d == own)) || (l != 0xFE && l != 0xFF && !linkUsable s v l)

/-- Check 08h: a locked address, the header of the routing table, its entries. -/
def check08 (s v : State) : Option SetFlaw :=
  let own := v.rd MS_STATUS_ADDR
  let locked := (itemAt s 9 0).bind fun x =>
    let a := bits (payWord x.payload 0) 11 0
    if s.flag LIMIT_STATUS_ADDR_LOCKED && a != s.rd MS_STATUS_ADDR then
      some ⟨Code.INCONSISTENT, 8, a, x.index⟩
    else none
  match locked with
  | some f => some f
  | none => (itemAt s 7 0).bind fun x =>
    if routeHeadFault s v x.payload own then some ⟨Code.INCONSISTENT, 8, own, x.index⟩
    else ((List.range 4096).find? (routeFault s v x.payload own)).map fun d => ⟨Code.INCONSISTENT, 8, d, x.index⟩

/-! Check 09h: clock selections (R396, R397, R403, R404). -/

/-- ALIGN_CTRL.MODE in the settings that will be in force: a write that waits for the tick counts (R404). -/
def modeToBe (s : State) : Nat :=
  match (s.tickWrites.filter fun w => w.fld.id == ALIGN_CTRL_MODE.id && w.v != 3).getLast? with
  | some w => w.v
  | none => s.tick.modeDue.getD (alignMode s)

/-- The frequency of a reference in kHz (R396, R397): MON_NOMINAL of a REFCLK, the core clock ÷ 8. -/
def referenceKhz (s : State) (sel : Nat) : Nat := if sel = 4 then 187500 else s.rd MON_NOMINAL_KHZ 0 sel

/-- Is the source named by a selection judged stable (condition 3 of R404)? -/
def sourceJudged (s : State) (sel : Nat) : Bool :=
  if sel < 4 then stable s sel
  else if sel = 4 then coreStable s
  else modeToBe s == 1

/-- Does a CLOCK_SELECT item fail R404? core says that the set holds a CORE item. -/
def clockFault (s : State) (core live : Bool) (x : Item) : Bool :=
  let w0 := payWord x.payload 0
  let w1 := payWord x.payload 1
  let d := x.inst
  let sel := bits w0 2 0
  let div := bits w0 8 4 + 1
  let mult := bits w0 25 16
  let f := referenceKhz s sel
  let vco := f * mult
  let bad0 := bit w0 3 || bits w0 15 9 != 0 || bits w0 31 26 != 0 || bits w1 63 16 != 0
  if d = 13 then bad0 || w0 != sel || !(decide (sel < 4) || sel == 5) || !sourceJudged s sel
  else
    let ranges := decide (f < 10000 * div) || decide (400000 * div < f) || decide (mult < 8)
    let own := if d = 0 then
        decide (4 ≤ sel) || bits w0 63 32 != 0 || vco != 6000000 * div ||
          (live && (((List.range 16).any fun n => reelState s n != 0) ||
            (List.range 16).any fun n => s.flag CB_STATUS_COMPARING n || s.flag CB_STATUS_DRAINING n))
      else
        decide (5 ≤ sel) || decide (vco < 3000000 * div) || decide (8000000 * div < vco) ||
          ((List.range 4).any fun j =>
            let o := bits w0 (39 + 8 * j) (32 + 8 * j)
            o != 0 && decide (900000 * div * o < vco)) || (sel == 4 && core)
    bad0 || ranges || own || !sourceJudged s sel

/-- Does the source named by an item smoulder (R66)? -/
def sourceSmoulders (s : State) (x : Item) : Bool :=
  let sel := bits (payWord x.payload 0) 2 0
  (sel == 4 && s.rd CK_DOM_STATE 0 0 == 2) || (decide (sel < 4) && (monU s sel).failed)

/-- Check 09h; in the final check also a source that smoulders. -/
def check09 (s : State) (live : Bool) : Option SetFlaw :=
  let core := (itemAt s 8 0).isSome
  let bad := ((itemsOf s 8).filter fun x => clockFault s core live x || (live && sourceSmoulders s x)).map (·.inst)
  flawOf 9 (((itemAt s 8 (bad.foldl min 14)).map (·.index)).getD 0) bad

/-! Checks 0Ah to 0Dh: limited changes, the fuse rail, power (R66, R70, R71, R210, R428, R429, R436). -/

/-- The version of the image in a slot. -/
def slotVersion (s : State) (slot : Nat) : Nat := s.rd (if slot = 0 then FW_STATUS_VERSION_A else FW_STATUS_VERSION_B)

/-- Does a LIMITED item exceed its limit (R70, R71, R436)? -/
def limitReached (s : State) (w : Nat) : Bool :=
  let v := bits w 31 16
  decide (64 ≤ s.rd LIMIT_STATUS_LOG_USED + s.stage.fuses.length) ||
    match bits w 3 0 with
    | 2 => decide (v ≤ s.rd LIMIT_STATUS_ANTI_ROLLBACK) || decide (255 < v) ||
        decide (slotVersion s (s.rd FW_STATUS_ACTIVE_SLOT) < v)
    | 3 => s.flag LIMIT_STATUS_ADDR_LOCKED && decide (15 ≤ s.rd LIMIT_STATUS_ADDR_REWRITES)
    | 4 => v &&& s.rd LIMIT_STATUS_REVOKED != 0
    | _ => false

/-- Check 0Ah: detail the kind. -/
def check0A (s : State) : Option SetFlaw :=
  let limited := (itemAt s 0x0B 0).bind fun x =>
    let w := payWord x.payload 0
    if limitReached s w then some ⟨Code.LIMIT_REACHED, 0x0A, bits w 3 0, x.index⟩ else none
  match limited with
  | some f => some f
  | none => (itemAt s 0x0A 0).bind fun x =>
    if slotVersion s (bits (payWord x.payload 0) 0 0) < s.rd LIMIT_STATUS_ANTI_ROLLBACK then
      some ⟨Code.LIMIT_REACHED, 0x0A, 2, x.index⟩
    else none

/-- May the lifecycle move so (R428)? -/
def moveAllowed (src dst : Nat) : Bool :=
  match src with
  | 0 => dst == 1 || dst == 2 || dst == 4
  | 1 => dst == 2 || dst == 4
  | 2 => dst == 4
  | _ => false

/-- Is a kind of limited change permitted in a lifecycle state (R428, R429)? -/
def kindAllowed (l w : Nat) : Bool :=
  match bits w 3 0 with
  | 1 => moveAllowed l (bits w 31 16)
  | 2 => l == 1 || l == 2
  | 3 => decide (l ≤ 3)
  | _ => decide (1 ≤ l ∧ l ≤ 3)

/-- Check 0Bh: detail the kind. -/
def check0B (s : State) : Option SetFlaw :=
  (itemAt s 0x0B 0).bind fun x =>
    let w := payWord x.payload 0
    if kindAllowed (s.rd LC_STATUS_STATE) w then none else some ⟨Code.LIFECYCLE, 0x0B, bits w 3 0, x.index⟩

/-- Check 0Ch: VCCFUSE, as the rail stands, where the set holds a LIMITED item. -/
def check0C (s : State) (vccOk : Bool) : Option SetFlaw :=
  (itemAt s 0x0B 0).bind fun x => if vccOk then none else some ⟨Code.INCONSISTENT, 0x0C, 0, x.index⟩

/-- The regions, channels and lane groups that the set touches. -/
def touchedRegions (s : State) : List Nat :=
  (itemsOf s 5).map (·.inst) ++ (s.stage.rwf.filter fun w => w.fld.id == RG_BB_TRIM_TRIM.id).map (·.i) ++
    (s.stage.rwf.filter fun w => w.fld.id == PORT_CFG_STREAM_ID.id).filterMap fun w => regionOf (4 * w.i + w.j)
def touchedChans (s v : State) : List Nat :=
  (if (itemsOf s 1).isEmpty then [] else (bankSlots v.sched).filterMap Slot.channel) ++
    (s.stage.rwf.filter fun w => w.fld.id == DC_POLICY_RFM_PROB.id || w.fld.id == DC_POLICY_SCRUB_HOURS.id).map (·.i) ++
    ((itemsOf s 6).map fun x => (rangeDescs x).map fun d => chanOf (d.base * 4096)).flatten
def touchedGroups (s : State) : List Nat := (itemsOf s 2).map (·.inst)

/-- The live condition 0Dh of R66: a power-state entry in progress in a domain the set touches. -/
def check0D (s v : State) : Option SetFlaw :=
  match s.pw.active with
  | none => none
  | some q =>
    if !q.isEntry then none
    else if q.target = 4 then some ⟨Code.INCONSISTENT, 0x0D, 0xFF, 0⟩
    else
      flawOf 0x0D 0
        ((touchedRegions s).filter (fun k => s.pw.mine.testBit k) ++
          ((touchedChans s v).filter fun c => s.pw.myChans.testBit c).map (0x40 + ·) ++
          ((touchedGroups s).filter fun g => s.pw.myGroups.testBit g).map (0x48 + ·))

/-! The two runs of the checks. -/

/-- What PROOF_CHECK finds beside check 07h: the first failure in CHECK_ID order (R62). -/
def proofFlaw (s : State) (vccOk : Bool) : Option SetFlaw :=
  let v := proofView s
  [fun _ => check01 s v, fun _ => check02 s v, fun _ => check03 s v, fun _ => check04 s v, fun _ => check05 s false,
    fun _ => check06 s v false, fun _ => check08 s v, fun _ => check09 s false, fun _ => check0A s, fun _ => check0B s,
    fun _ => check0C s vccOk].findSome? fun f : Unit → Option SetFlaw => f ()

/-- What the final check finds beside check 07h (R66). -/
def finalFlaw (s : State) : Option SetFlaw :=
  let v := proofView s
  [fun _ => check05 s true, fun _ => check06 s v true, fun _ => check09 s true, fun _ => check0A s, fun _ => check0B s,
    fun _ => check0D s v].findSome? fun f : Unit → Option SetFlaw => f ()

/-- A failure of check 07h is counted and its reason logged (R63, R283, R284): operation 04h at the proof, 05h at the
final check. -/
def keySlotRefusal (s : State) (live : Bool) : Option State :=
  (check07 s live).map fun e => refuse (if live then 5 else 4) e.1 e.2.1 0 e.2.2 s

/-- A failed proof or final check leaves its report (R62, R63, R66): none says that check 07h has failed, of which the
report tells nothing but REFUSED, and which moves no counter but REFUSALS (R283). -/
def reportFlaw (f : Option SetFlaw) (s : State) : State :=
  match f with
  | none => (((s.wr PF_RESULT_CODE Code.REFUSED).wr PF_RESULT_CHECK_ID 0).wr PF_RESULT_DETAIL 0).wr PF_ITEM_ITEM 0
  | some f =>
    (((s.wr PF_RESULT_CODE f.code).wr PF_RESULT_CHECK_ID f.check).wr PF_RESULT_DETAIL f.detail).wr PF_ITEM_ITEM f.item
      |>.incWrap INCONSISTENT_COUNT_FAILS

/-- The result word of a failure: CHECK_ID, detail, item index. -/
def SetFlaw.result (f : SetFlaw) : Nat := f.check + f.detail % 256 * 2 ^ 8 + f.item * 2 ^ 16

end Sys2Proof.Machine
end

