-- ==== Sys2Proof/Machine/Fix.lean ====
section
/-! DEFINITION. The proof, the final check and the fix (R62 to R67, R73), and the close of a window (R42). -/

namespace Sys2Proof.Machine

open F

/-- The first tick that a fix of the present set may name (R65). -/
def firstPermitted (s : State) : Nat :=
  (((List.range (s.rd SCHED_POS_CYCLE_LEN)).map (s.now + 2 + ·)).find? (hasApply s)).getD (s.now + 2)

/-- Hearth fixes its proofed set at the first permitted tick (R65, R211). -/
def hearthFix (s : State) : State :=
  ((s.wr PF_STATE_STATE 4).wr PF_FIX_TICK_T (firstPermitted s)).updStage fun g =>
    { g with fixOp := some (hearth, 0), lastFix := some (hearth, 0), checked := false, retired := [],
             autoFix := false }

/-- The frame and offset of a core cycle that has passed, at the frame length in force. -/
def stampAt (s : State) (c : Nat) : Nat × Nat :=
  let p := max 1 s.period
  let back := (s.tick.base - c + p - 1) / p
  (s.now - back, c + back * p - s.tick.base)

/-- A proof that check 07h refuses (R283): it ends exactly 2,048 core cycles after its acceptance, whenever the command
comes. -/
def refuseProof (r k since : Nat) (s t : State) : Out :=
  if s.cycle < since + 2048 then .next s
  else
    let at_ := stampAt s (since + 2048)
    let t := ((t.updStage fun g => { g with check := none }).wr PROOF_TIME_CYCLES 2048).wr PF_STATE_STATE 1
    let t := decideOp r k Code.REFUSED 0 0 (reportFlaw none t)
    .next (t.updOp r k fun o => { o with tick := at_.1, off := at_.2 })

/-- PROOF_CHECK_DONE (R62 to R64): the checks have run. vccOk says that VCCFUSE stands within its recommended
range. -/
def execProofCheckDone (vccOk : Bool) (s : State) : Out :=
  match s.stage.check with
  | none => .next s
  | some (r, k, since) =>
    match keySlotRefusal s false with
    | some t => refuseProof r k since s t
    | none =>
      let s := (s.updStage fun g => { g with check := none }).wr PROOF_TIME_CYCLES (s.cycle - since)
      match proofFlaw s vccOk with
      | some f => .next (decideOp r k f.code 0 f.result (reportFlaw (some f) (s.wr PF_STATE_STATE 1)))
      | none =>
        let s := ((s.wr PF_STATE_STATE 3).wr PF_RESULT_CODE Code.OK).wr PF_RESULT_CHECK_ID 0
        let s := decideOp r k Code.OK 0 0 (s.wr PF_RESULT_DETAIL 0)
        .next (if s.stage.autoFix then hearthFix s else s)

/-- The pending fix ends with a failed final check (R66): the set goes back to LOADING. -/
def failFix (code result : Nat) (s : State) : State :=
  match s.stage.fixOp with
  | none => s
  | some (r, k) =>
    let s := ((s.wr PF_STATE_STATE 1).wr PF_FIX_TICK_T 0).updStage fun g => { g with fixOp := none, checked := false }
    decideOp r k code 0 result s

/-- FINAL_CHECK (R52, R66, R68): in frame T − 1 a pending fix is checked against the live state, once the cancels due
have been latched; where the tick number has jumped over T − 1, at tick T itself, before the swap (DEDUCED, log entry
69). -/
def execFinalCheck (s : State) : Out :=
  let s := reachApply (latchCancels s)
  let t := s.rd PF_FIX_TICK_T
  if stageState s ≠ 5 ∨ s.stage.checked ∨ (s.now + 1 ≠ t ∧ (s.now ≠ t ∨ s.offset ≠ 0)) then .next s
  else match keySlotRefusal s true with
    | some t => .next (failFix Code.REFUSED 0 (reportFlaw none t))
    | none =>
      match finalFlaw s with
      | some f => .next (failFix f.code f.result (reportFlaw (some f) s))
      | none => .next (s.updStage fun g => { g with checked := true })

/-! The fix itself (R67). -/

/-- The lanes whose DELAY a fix changes, as a mask, and those whose DELAY it writes (R110, R111). -/
def delayChanges (s : State) (n : Nat) : Nat × Nat :=
  let mine := s.stage.rwf.filter fun w => w.fld.id == DELAY_WORDS.id && w.i == n
  (maskOf ((mine.filter fun w => w.v != s.rd DELAY_WORDS n w.j).map (·.j)), maskOf (mine.map (·.j)))

/-- The vector cycle of a burst that lane i compares first under the delay now in force, at its next receive word time
(R106, R111): 0 where vector cycle 0 is still to come. -/
def firstCompared (s : State) (n i : Nat) (b : LineBurst) : Nat :=
  let r := sget 0 (catch_ s n).rxNext i
  let d := s.rd DELAY_WORDS n i
  if r < d + b.w0 then 0
  else match burstEntry b (r - d - b.w0) i with
    | some e => e.vc
    | none => r - d - b.w0

/-- The lowest vector cycle that block n compares under the new delays of the changed lanes (R111). -/
def delayVc (s : State) (n changed : Nat) : Nat :=
  match (catch_ s n).bursts.find? fun b => !b.ended with
  | none => 0
  | some c =>
    match (lineBursts s n).find? fun b => b.op == c.op with
    | none => 0
    | some b =>
      let vcs := ((List.range 8).filter fun i => changed.testBit i).map fun i => firstCompared s n i b
      vcs.foldl min (vcs.headD 0)

/-- Catch block n after a fix that writes delays (R110, R111): register, shadow and working copies are loaded, and a
DELAY_SET record tells a burst being compared of the lanes that changed and the lowest vector cycle compared under the new
values. -/
def delayFix (changed written n : Nat) (s : State) : State :=
  if written = 0 then s
  else
    let s := updCatch n (fun u =>
      { u with
        workDiff := u.workDiff.filter (fun e => !written.testBit e.1),
        ptrDiff := u.ptrDiff.filter (fun e => !written.testBit (e.1 / 2)),
        shadowDiff := u.shadowDiff.filter (fun e => !written.testBit e.1),
        parityBad := u.parityBad - (u.parityBad &&& written),
        injDelay := u.injDelay - (u.injDelay &&& written), broken := u.broken - (u.broken &&& written) }) s
    let s := s.setb CB_STATUS_DELAY_BROKEN ((catch_ s n).broken != 0) n
    if changed ≠ 0 && s.flag CB_STATUS_COMPARING n then
      let (r, s) := mkRec 4 (delayVc s n changed) changed 3 0 0 s
      createRec n { r with bp := (((catch_ s n).bursts.find? fun b => !b.ended).map (·.bp)).getD (burstParity s n) } s
    else s

/-- The ring of catch block n after a fix that changes it (R124). -/
def catchRingFix (base lines n : Nat) (s : State) : State :=
  if s.rd CM_BASE_ADDR n = base ∧ s.rd CM_LINES_LINES n = lines then s
  else
    let s := ((s.wr CM_WR_INDEX 0 n).wr CM_RD_INDEX 0 n).wr CB_STATUS_RING_FULL 0 n
    updCatch n (fun u => { u with fullRaised := false }) (s.setb CB_STATUS_CONFIG_BAD (ringBad s n) n)

/-- The report ring after a fix that changes it, by the rule of R124 (R326). -/
def reportRingFix (base lines : Nat) (s : State) : State :=
  if s.rd MS_REPORT_BASE_ADDR = base ∧ s.rd MS_REPORT_LINES_LINES = lines then s
  else (s.wr MS_REPORT_WR_INDEX 0).wr MS_REPORT_RD_INDEX 0

/-- Staged RWF values become active, with what follows from them. -/
def applyRwf (s : State) : State :=
  let old := s
  let s := takeRwf s
  let s := (List.range 16).foldl (fun t n =>
    let c := delayChanges old n
    catchRingFix (old.rd CM_BASE_ADDR n) (old.rd CM_LINES_LINES n) n
      (delayFix c.1 c.2 n t)) s
  let s := reportRingFix (old.rd MS_REPORT_BASE_ADDR) (old.rd MS_REPORT_LINES_LINES) s
  let s := (old.stage.rwf.filter fun w => w.fld.id == RG_BB_TRIM_TRIM.id).foldl (fun t w =>
    t.wr RG_BIAS_TARGET (biasTarget t w.i (if pstate t w.i < 4 then pstate t w.i else goalOf t w.i)) w.i) s
  let flows := (old.stage.rwf.filter fun w => w.fld.id == CB_FLOW_FLOW.id).map fun w => (old.rd CB_FLOW_FLOW w.i, w.v)
  if flows.isEmpty then s else noteJobs (flows.foldl (fun t f => noteFlow f.2 (noteFlow f.1 t)) s)

/-- A SCHEDULE item: the banks swap, and SCHED_BASE becomes T (R33, R67). -/
def fixSchedule (p : List Byte) (s : State) : State :=
  let m := payMem p
  let s := ((s.updSched fun _ => m).wr PERIOD_NOW_N (bankPeriod m)).wr SCHED_ID_NOW_SCHED_ID (memRd m 0 4)
  ((s.wr SCHED_POS_CYCLE_LEN (bankCycle m)).wr SCHED_POS_INDEX 0).wr SCHED_BASE_BASE s.now

/-- A LANE_ROLE item (R290, R291, R318): the links of a group that is banked go DOWN first, and word times count from
the entry into the reel and catch role (R106). -/
def fixLanes (g w0 w1 : Nat) (s : State) : State :=
  let old := s.rd LG_ROLE_WORD0 g
  let banks := bits old 2 0 ≠ bits w0 2 0 ∨ bit old 10 ≠ bit w0 10 ∨ bits old 32 16 ≠ bits w0 32 16 ∨
    s.rd LG_PLL_WORD1 g ≠ w1 ∨ bits old 9 8 ≠ bits w0 9 8
  let s := if banks then (groupLinks g old).foldl (fun t e => linkDown e.2 t) s else s
  let s := if g < 16 ∧ bits w0 2 0 = 1 ∧ bits old 2 0 ≠ 1 then
      updReel g (fun u => { u with laneHold := none }) (updCatch g (fun u => { u with prev := [], w0 := none }) s) else s
  applyLaneRole g w0 w1 s

/-- A NOC_RESERVATION item (R232): the free space of every port concerned follows. -/
def fixStanding (x : Item) (s : State) : State :=
  let before := s.noc.standing.filter fun e => e.target / 4 == x.inst
  let s := setStanding x s
  let ports := ((before ++ standingTable x.inst x.payload).map fun e => [e.target, e.holder]).flatten.eraseDups
  ports.foldl (fun t q => notePort q t) s

/-- A REGION_ROLE item starts its region's swap (R203, R204); group is the place of the first item of its group. -/
def fixRegion (group : Nat) (x : Item) (s : State) : State :=
  let w := payWord x.payload
  startSwap x.inst
    { owner := bits (w 0) 7 0, mode := bits (w 0) 9 8, dram := bit (w 0) 10, epoch := bits (w 0) 31 16,
      drain := bits (w 0) 47 32, addr := w 1, len := bits (w 2) 31 0, openTick := w 3, set := s.now, group := group,
      start := s.now, auto := false } s

/-- The place in the set of the first item of a REGION_ROLE item's group (R203). -/
def swapGroup (items : List Item) (x : Item) : Nat :=
  let mode (y : Item) := bits (payWord y.payload 0) 9 8
  items.findIdx fun y => y.type == 5 &&
    (y.inst == x.inst || (mode x == 0 && mode y == 0 && payWord y.payload 1 == payWord x.payload 1))

/-- Can an item bind and unbind ranges of its key ID: is that LOADED or ACTIVE at the fix tick (R279, R285)? Where it
was erased, retired or wiped since the final check, its ranges stay as they stand (DESIGN CHOICE, log entry 83). -/
def bindable (s : State) (k : Nat) : Bool := keyState s k == 1 || keyState s k == 2

/-- The ranges that the KEY_SLOT items leave out are unbound (R269). -/
def unbindRanges (x : Item) (s : State) : State :=
  let named := (rangeDescs x).map (·.range)
  if !bindable s x.inst then s
  else (List.range 16).foldl (fun t j =>
    if t.rd RANGE_STATUS_STATE 0 j ≠ 0 ∧ t.rd RANGE_STATUS_KEY_ID 0 j = x.inst ∧ !named.contains j then
      (t.wr RANGE_STATUS_STATE 0 0 j).wr RANGE_STATUS_KEY_ID 0 0 j
    else t) s

/-- The ranges of a KEY_SLOT item are bound to its key ID (R268, R279). -/
def bindRanges (x : Item) (s : State) : State :=
  let ds := rangeDescs x
  if !bindable s x.inst then s
  else
  let s := ds.foldl (fun t d =>
    let j := d.range
    let t := ((t.wr RANGE_BASE_SECTOR d.base 0 j).wr RANGE_LIMIT_SECTOR d.limit 0 j).wr RANGE_LSN_LSN_BASE d.lsn 0 j
    let t := (t.wr RANGE_STATUS_STATE 1 0 j).wr RANGE_STATUS_KEY_ID x.inst 0 j
    d.entries.zipIdx.foldl (fun u e => u.wr RANGE_ENTRY_ENTRY e.1 0 (8 * j + e.2)) t) s
  (s.wr KEY_STATE_RANGES (maskOf (ds.map (·.range))) 0 x.inst).wr KEY_STATE_STATE (if ds.isEmpty then 1 else 2) 0 x.inst

/-- A MESH_ROUTES item (R322, R328). -/
def fixRoutes (p : List Byte) (s : State) : State :=
  let links := routeWord p 8
  let s := (List.range 4096).foldl (fun t d =>
    let w := routeWord p (0x40 + 4 * d)
    (t.wr ROUTE_LINK (bits w 7 0) 0 d).wr ROUTE_SET_VC1 (bits w 8 8) 0 d) s
  let moved := s.rd MS_TIME_CFG_UPLINK ≠ bits links 7 0
  let s := ((s.wr MS_ROUTES_ROUTES_ID (routeWord p 0)).wr MS_TIME_CFG_ROOT (bits (routeWord p 4) 11 0)).wr
    MS_TIME_CFG_UPLINK (bits links 7 0)
  let s := (s.wr MS_TIME_CFG_BACKUP (bits links 15 8)).wr MS_STATUS_TIME_SOURCE 0
  let s := updMsh (fun m => { m with hostGw := bits (routeWord p 0x0C) 11 0 }) s
  let s := if bits links 7 0 = 0xFE then s.wr MS_STATUS_STRATUM 0
    else if moved then s.wr MS_STATUS_STRATUM 0xFF else s
  refreshTimeSource s

/-- A CLOCK_SELECT item (R403): its switch starts when the APPLY window closes (R405). -/
def fixClock (d w0 w1 : Nat) (s : State) : State :=
  let s := (s.wr CK_SEL_WORD0 w0 0 d).updStage fun g => { g with switches := g.switches ++ [d] }
  if d = 13 then s.wr CK_KINDLING_TRIM_REF (bits w0 2 0)
  else
    let vco := referenceKhz s (bits w0 2 0) * bits w0 25 16 / (bits w0 8 4 + 1)
    (s.wr CK_DOM_RAMP_STEP (bits w1 15 0) 0 d).wr MON_NOMINAL_KHZ (vco / 64) 0 (23 + d)

/-- A FIRMWARE_SWITCH item (R211): the cores take no new job and restart one by one. -/
def fixFirmware (w : Nat) (s : State) : State :=
  let left := switchCores s
  updBt (fun b => { b with fwSlot := bits w 0 0, fwCommit := bit w 1, fwLeft := left, fwBack := false })
    (s.wr FW_STATUS_STATE (if left.isEmpty then 2 else 1))

/-- A lifecycle move (R428): the wipe, both logs (R440), INJ_PERMIT and TP_MASK. -/
def fixLifecycle (new : Nat) (s : State) : State :=
  let s := (s.wr LC_STATUS_FUSED_STATE new).wr LC_STATUS_STATE new
  let s := s.setb DB_STATUS_DEBUG_PERMITTED (decide (new < 3))
  emberWipe 2 (clearLogs (s.clrAll [INJ_PERMIT_PERMIT, TP_MASK_MASK]))

/-- Revocation bits burn (R435): every VALID slot that names one is zeroed. -/
def fixRevoke (bitsBurnt : Nat) (s : State) : State :=
  (List.range 16).foldl (fun t k =>
    if t.rd SLOT_STATE_STATE 0 k = 1 ∧ bitsBurnt.testBit (t.rd SLOT_STATE_REVOKE_BIT 0 k) then
      updEngine (fun e => { e with slotKeys := sput [] e.slotKeys k [] }) (t.wr SLOT_STATE_STATE 2 0 k)
    else t) (s.wr LIMIT_STATUS_REVOKED (s.rd LIMIT_STATUS_REVOKED ||| bitsBurnt))

/-- A LIMITED item (R70, R72, R73, R74): the fuse shadow registers change, and the fuses are to be programmed. Of NEW_VALUE
of a KIND 3h item only the address in bits 11:0 is taken; bits 15:12 are ignored (DESIGN CHOICE, log entry 76). -/
def fixLimited (w : Nat) (s : State) : State :=
  let kind := bits w 3 0
  let v := bits w 31 16
  let old := match kind with
    | 1 => s.rd LC_STATUS_FUSED_STATE
    | 2 => s.rd LIMIT_STATUS_ANTI_ROLLBACK
    | 3 => s.rd MS_STATUS_ADDR
    | _ => s.rd LIMIT_STATUS_REVOKED
  let new := match kind with
    | 3 => v % 4096
    | 4 => old ||| v
    | _ => v
  let entry := s.rd LIMIT_STATUS_LOG_USED + s.stage.fuses.length
  let tick := s.now
  let s := s.updStage fun g => { g with
    fuses := g.fuses ++ [{ entry := entry, word0 := tick,
                           word1 := kind + bits w 15 8 * 2 ^ 8 + new * 2 ^ 16 + old * 2 ^ 32 }] }
  match kind with
  | 1 => fixLifecycle v s
  | 2 => s.wr LIMIT_STATUS_ANTI_ROLLBACK v
  | 3 =>
    let s := if s.flag LIMIT_STATUS_ADDR_LOCKED then s.incSat LIMIT_STATUS_ADDR_REWRITES
      else s.wr LIMIT_STATUS_ADDR_LOCKED 1
    setAddress v (s.wr MS_STATUS_ADDR_LOCKED 1)
  | _ => fixRevoke v s

/-- One item of the set takes effect; the ranges that KEY_SLOT items leave out have been unbound already. -/
def fixItem (items : List Item) (s : State) (x : Item) : State :=
  let w := payWord x.payload
  match x.type with
  | 0x01 => fixSchedule x.payload s
  | 0x02 => fixLanes x.inst (w 0) (w 1) s
  | 0x03 => fixStanding x s
  | 0x04 => noteJobs (noteFlow x.inst (setFlow x s))
  | 0x05 => fixRegion (swapGroup items x) x s
  | 0x06 => bindRanges x s
  | 0x07 => fixRoutes x.payload s
  | 0x08 => fixClock x.inst (w 0) (w 1) s
  | 0x09 => setAddress (w 0) s
  | 0x0A => fixFirmware (w 0) s
  | 0x0B => fixLimited (w 0) s
  | _ => s

/-- Does an item change where packets go: a routing table, or this device's address (R321, R330)? -/
def movesRoutes (x : Item) : Bool := x.type == 7 || x.type == 9 || (x.type == 0x0B && bits (payWord x.payload 0) 3 0 == 3)

/-- FRAME_WORDS of every engine (R94): ⌊N × R × 16,384 ÷ (99 × 10⁹ × 16,385)⌋ for the exact lane rate R of its group,
and 0 outside the reel and catch role. -/
def recomputeFrameWords (s : State) : State :=
  (List.range 16).foldl (fun t n =>
    t.wr FRAME_WORDS_WORDS (wordsIn t n t.period) n) s

/-- Every staged copy becomes active in core cycle 0 of tick T (R67). -/
def applySet (s : State) : State :=
  let items := s.stage.items
  let s := applyRwf s
  let s := (items.filter fun x => x.type == 6).foldl (fun t x => unbindRanges x t) s
  let s := items.foldl (fixItem items) s
  let s := if items.any movesRoutes then rerouteAll s else s
  let s := s.setb EN_STATUS_SEALED_ANY ((List.range 16).any fun j => s.rd RANGE_STATUS_STATE 0 j == 2)
  disarm (recomputeFrameWords s)

/-- The APPLY window of the fix tick opens. -/
def openApply (s : State) : State :=
  match (frameSlots s.sched (frameIndex s s.now)).findIdx? fun e => e.type == 1 with
  | none => s
  | some k => match currentSlot s k with
    | none => s
    | some e => openWin k e true s

/-- FIX_APPLY (R52, R67): at core cycle 0 of tick T the set takes effect; on an uncredited tick the fix is aborted.
Every RELATED group is checked (R145). -/
def execFixApply (_vcs _mismatch : Unit) (s : State) : Out :=
  let s := latchCancels s
  if stageState s ≠ 5 ∨ s.now ≠ s.rd PF_FIX_TICK_T ∨ s.offset ≠ 0 then .next s
  else if !credited s then .next (abortFix s)
  else if !s.stage.checked then .next s
  else
    match s.stage.fixOp with
    | none => .next s
    | some (r, k) =>
      let s := applySet s
      let switches := s.stage.switches
      let set := s.rd PF_SET_ID_SET_ID
      let s := (stageEmpty s).updStage fun g => { g with applied := some (r, k), appliedSet := set, switches := switches }
      let s := ((s.wr PF_RESULT_CODE Code.OK).wr PF_RESULT_CHECK_ID 0).wr PF_RESULT_DETAIL 0
      let s := openApply (holdOp r k (decideOp r k Code.OK 0 0 s))
      .next (boundaryCheck (powerWatch s))

/-- WINDOW_CLOSE (R42, R67, R405): the window of the frame's entry k closes and its unit reports. settled says, of the
APPLY window of a fix, that every block has settled in it (R43). -/
def execWindowClose (k : Nat) (settled : Bool) (s : State) : Out :=
  match s.tick.wins.find? fun w => w.idx == k with
  | none => .next s
  | some w =>
    let apply := w.type == 1
    let s := windowEnd w s
    let (w, s) := endAction w s
    let s := judgeWindow (if apply then { w with complete := settled } else w) s
    .next (serveDdr (if apply then closeApply s else s))

end Sys2Proof.Machine
end

