-- ==== Sys2Proof/Machine/Noc.lean ====
section
/-! DEFINITION. The commands of the on-chip network (chapter 10): a fabric request, its reservation, its landing at
each kind of target, its answer, the closing of a port, timeouts, aging and statistics; and the late alarm (R275). -/

namespace Sys2Proof.Machine

open F

/-- Is a port the initiator of a NOC_SLOT entry of the schedule in force (R229)? -/
def slotInitiator (s : State) (q : Nat) : Bool :=
  (List.range (s.rd SCHED_POS_CYCLE_LEN)).any fun f =>
    (frameSlots s.sched f).any fun e => e.type == 0x30 && 4 * e.unit + bits e.param 11 8 == q

/-- The first rule of R229 that a request breaks. -/
def requestFlaw (s : State) (x : Xact) (kind dst dstPort : Nat) : Option Nat :=
  if kind ≠ 2 ∧ kind ≠ 3 then some Code.BAD_FIELD
  else if 120 ≤ dst ∨ !attached (4 * dst + dstPort) then some Code.OUT_OF_RANGE
  else if 1024 < x.addr % 1024 + x.bytes then some Code.BAD_ALIGN
  else if x.sched && !slotInitiator s x.src then some Code.INCONSISTENT
  else none

/-- FABRIC_REQUEST (R226 to R231, R237): the fabric of region k hands a request to its port p: KIND, DST, DST_PORT,
ADDR, BYTES, data, PRIO, EXP_EPOCH, SCHED and TAG. A tag in use names the request that has it: the command changes
nothing. So it does where the fabric side of the port has no running clock (R142), or the port is back-pressured (R43). A
port that is not OPEN makes no reservation. -/
def execFabricRequest (k : Fin 64) (p : Fin 2) (kind : Fin 16) (dst : Fin 128) (dstPort : Fin 4) (addr : Nat)
    (bytes : Fin 1024) (data : List Byte) (prio : Fin 4) (epoch : Fin 65536) (sched : Bool) (tag : Fin 256)
    (s : State) : Out :=
  let q := portRegion k p
  let n := bytes.val + 1
  let x : Xact :=
    { src := q, tag := tag, kind := kind, dst := 4 * dst.val + dstPort.val, addr := addr % 2 ^ 38, bytes := n,
      data := if kind.val = 3 then (data ++ List.replicate n 0).take n else [], prio := prio, epoch := epoch,
      sched := sched, sid := streamAt s q, owner := .fabric, phase := .waiting }
  if (xactAt s q tag).isSome || !regionPort s k p || portPressed s q then .next s
  else match requestFlaw s x kind dst dstPort with
    | some c => .next (completeXact x c s)
    | none => if portState s q ≠ 0 then .next (completeXact x Code.DOMAIN_CLOSED s) else .next (submit x s)

/-- NOC_SLOT_WINDOW (R41, R234, R235): the window of the frame's entry k opens, and sends what waits for it, then and until
it closes; meets names the routers on whose outputs
SCH flits have met. -/
def execNocSlotWindow (k : Nat) (meets : List (Fin 120)) (s : State) : Out :=
  match opening s 0x30 k with
  | none => .next s
  | some e =>
    let s := windowStart e s
    let q := 4 * e.unit + bits e.param 11 8
    let dst := bits e.param 7 4 * 12 + bits e.param 3 0
    let before := slotFlits s q dst
    let s := openWin k e true s
    let s := serveSlot k (updNet (fun n => { n with slotWins := n.slotWins ++ [(k, q, dst, bits e.param 27 12)] }) s)
    let (inj, s) := takeInj FI_MISC_INJECT_INJ_SCH_CONFLICT 0
      (decide (s.rd FI_MISC_INJECT_UNIT = e.unit) && before != 0) s
    let s := if inj then slotConflict true e.unit s else s
    .next (meetsAt meets s)

/-- May a RESERVE be granted at once (R231, R324, R363)? -/
def grantable (s : State) (x : Xact) : Bool :=
  decide (x.flits ≤ landingFree s x.dst) && engineRoom s x.dst && (!x.enqueues || enqueueFits x s)

/-- RESERVE (R231, R237, R239): the RESERVE of port q's request lands; perr is the hop, if any, at which a parity error
is found. -/
def execReserve (q : Fin 480) (tag : Fin 256) (perr : Option Nat) (s : State) : Out :=
  match xactAt s q tag with
  | none => .next s
  | some x =>
    if x.phase ≠ .reserve ∨ !inOrder s x then .next s
    else
      let (bad, s) := travel x.src x.dst 1 perr s
      if portState s x.dst ≠ 0 ∨ portState s x.src ≠ 0 then .next (answerReserve x Code.DOMAIN_CLOSED s)
      else if bad then .next (answerReserve x Code.BUSY s)
      else if grantable s x then .next (answerReserve x Code.OK s)
      else if 64 ≤ s.noc.xacts.countP (fun y => y.dst == x.dst && y.phase == .queued) then
        .next (answerReserve x Code.BUSY s)
      else .next (moveXact x (fun y => { y with phase := .queued }) s)

/-- The cycles a request has waited for its reservation count (R231, R241). -/
def countWait (x : Xact) (s : State) : State :=
  let w := s.cycle + 1 - x.t0
  updStat x.src (fun p => { p with wait := p.wait + w }) s

/-- GRANT (R231, R239): the GRANT of a request arrives at port q. A BUSY answer, or one with a parity error, frees
what it had been granted. -/
def execGrant (q : Fin 480) (tag : Fin 256) (perr : Option Nat) (s : State) : Out :=
  match xactAt s q tag with
  | none => .next s
  | some x =>
    if !inOrder s x then .next s
    else match x.phase with
    | .grant st =>
      let (bad, s) := travel x.dst x.src 1 perr s
      if bad || st == Code.BUSY then

        .next (landingFreed x.dst (sendPacket x s.cycle (fun y => { y with phase := .retry }) s))
      else if st = Code.OK then .next (sendReserves x.src 8 (inject x (s.cycle + 1) (countWait x s)))
      else .next (failXact x st (countWait x s))
    | _ => .next s

/-- RESERVE_RETRY (R231): a BUSY initiator sends its RESERVE again, 64 core cycles after the GRANT. -/
def execReserveRetry (q : Fin 480) (tag : Fin 256) (s : State) : Out :=
  match xactAt s q tag with
  | none => .next s
  | some x =>
    if x.phase ≠ .retry ∨ s.cycle < x.since + 64 then .next s
    else .next (sendReserves x.src 8 (updXact x (fun y => { y with phase := .waiting }) s))

/-- A request lands at the scratchpad, in class NOC (R382 to R386). -/
def landPad (x : Xact) (s : State) : State :=
  padArrive
    { cls := 3, sid := x.sid, addr := x.addr, bytes := x.bytes, kind := if x.kind = 2 then .read else .write, core0 := false,
      data := x.data, xact := some (x.src, x.tag) } (updXact x (fun y => { y with phase := .landed }) s)

/-- Who writes the registers with this stream ID (R511); none may not. -/
def registerWriter (sid : Nat) : Option Accessor :=
  if (List.range 4).any fun c => coreStream c == sid then some 1 else if sid = 0xF020 then some 2 else none

/-- A request lands at the register target (R511). -/
def landRegister (x : Xact) (s : State) : State :=
  if !wholeAccess x.addr x.bytes then answerNow x Code.ACCESS_WIDTH [] 0 s
  else if x.kind = 2 then
    let (v, s) := busRead x.addr x.bytes s
    answerNow x Code.OK (valBytes (leBytes v x.bytes)) 0 s
  else match registerWriter x.sid with
    | none => answerNow x Code.REFUSED [] 0 s
    | some who =>
      let (code, s) := busWrite who x.addr x.bytes (leNat (byteVals x.data)) s
      answerNow x code [] 0 s

/-- A request lands at the dispatcher (R361, R362, R366, R369). A write that is not whole jobs, done messages or one
registration record falls in no window. -/
def landDispatcher (x : Xact) (s : State) : State :=
  let w (k : Nat) := payWord x.data k
  if x.kind = 2 then answerNow x Code.OUT_OF_RANGE [] 0 s
  else if x.addr < 0x400 ∧ x.addr % 64 = 0 ∧ x.bytes % 64 = 0 then
    serveDispatch 64 (updXact x (fun y => { y with phase := .landed }) s)
  else if 0x10000 ≤ x.addr ∧ x.addr < 0x10400 ∧ x.addr % 16 = 0 ∧ x.bytes % 16 = 0 then
    let s := (List.range (x.bytes / 16)).foldl (fun t k =>
      doneMessage x.sid (bits (w (2 * k)) 15 0) (bits (w (2 * k)) 23 16) (bits (w (2 * k)) 47 32)
        (bits (w (2 * k + 1)) 31 0) t) s
    answerNow x Code.OK [] 0 s
  else if 0x20000 ≤ x.addr ∧ x.addr < 0x21000 ∧ x.addr % 32 = 0 ∧ x.bytes = 32 then
    let (code, s) := registerWorker x.sid ((x.addr - 0x20000) / 32) ((List.range 4).map w) s
    answerNow x code [] 0 s
  else answerNow x Code.OUT_OF_RANGE [] 0 s

/-- A request lands at region k's port (R205, R236): it is consumed, or comes back; one that a forced drain did not wait
for comes back from the closed port with the new epoch, and counts. -/
def landRegion (k : Nat) (x : Xact) (s : State) : State :=
  let e := s.rd RG_EPOCH_EPOCH k
  if portState s x.dst = 2 then
    let new := ((s.region_ k).swap.map (·.epoch)).getD e
    let s := if s.flag SWAP_STATUS_FORCED 0 k then s.incSat SWAP_DISCARDED_RETURNED 0 k else s
    landingFreed x.dst (sendBack x new (s.incWrap RG_ROLE_MOVED_COUNT k))
  else if x.epoch ≠ e then landingFreed x.dst (sendBack x e (s.incWrap RG_ROLE_MOVED_COUNT k))
  else landingFreed x.dst (updXact x (fun y => { y with phase := .atTarget }) s)

/-- A request lands without a parity error (R228). -/
def landTarget (x : Xact) (s : State) : State :=
  match regionOf x.dst with
  | some k => landRegion k x s
  | none =>
    match (List.range 8).find? fun c => portDdr c == x.dst with
    | some c => landDdr c x s
    | none =>
      if x.dst = portAt 4 0 0 then landPad x s
      else if x.dst = portAt 2 0 1 then landRegister x s
      else if x.dst = dispPort then landDispatcher x s
      else if x.dst = portAt 9 0 0 then
        if x.kind = 2 then answerNow x Code.OUT_OF_RANGE [] 0 s else landingFreed x.dst (engineSend x s)
      else answerNow x Code.OUT_OF_RANGE [] 0 s

/-- A request of this kind lands at its target (R225, R228, R234, R239, R449). -/
def landRequest (kind q tag : Nat) (perr : Option Nat) (susp : List (Nat × Nat)) (s : State) : State :=
  match xactAt s q tag with
  | none => s
  | some x =>
    if x.kind ≠ kind ∨ x.phase ≠ .sent ∨ !inOrder s x then s
    else
      let (bad, s) := travel x.src x.dst x.flits perr s
      let s := if x.sched then s else suspend x.src x.dst susp s
      let x := { x with landedAt := s.cycle }
      let s := headLands x.dst x.kind x.addr x.sid (updXact x (fun y => { y with landedAt := x.landedAt }) s)
      serveSlots (if bad then answerNow x Code.INTERNAL [] 0 s else landTarget x s)

/-- READ_REQ (R228): port q's read lands. -/
def execReadReq (q : Fin 480) (tag : Fin 256) (perr : Option Nat) (s : State) : Out :=
  .next (landRequest 2 q tag perr [] s)

/-- WRITE_REQ (R228): port q's write lands. -/
def execWriteReq (q : Fin 480) (tag : Fin 256) (perr : Option Nat) (susp : List (Nat × Nat)) (s : State) : Out :=
  .next (landRequest 3 q tag perr susp s)

/-- What the arrival of an answer brings the initiator (R373). -/
def answerOwner (x : Xact) (s : State) : State :=
  match x.owner with
  | .dispatch w _ => if x.returned && workerState s w != 0 then workerLost w false s else s
  | .fabric => s

/-- An answer arrives at its initiator (R205, R234, R238, R239, R241): late ones are discarded, and those to a region whose
drain was forced. -/
def takeAnswer (x : Xact) (perr : Option Nat) (susp : List (Nat × Nat)) (s : State) : State :=
  let (bad, s) := travel x.dst x.src x.answerFlits perr s
  let s := suspend x.dst x.src susp s
  let x := if bad then { x with status := Code.INTERNAL } else x
  serveSlots (if x.late then endXact x (s.incSat NR_COUNTS_C_LATE_RESP (x.src / 4))
    else if x.discard then endXact x s
    else answerOwner x (endXact x (completeXact x x.status (countAnswer x s))))

/-- The answer to a request of this kind (R228): one that a region has consumed is answered by its fabric with code and
data while the fabric side of the port runs (R142), any other by its target. -/
def respond (kind q tag : Nat) (code : Nat) (data : List Byte) (perr : Option Nat) (susp : List (Nat × Nat))
    (s : State) : State :=
  match xactAt s q tag with
  | none => s
  | some x =>
    if x.kind ≠ kind ∨ x.returned then s
    else match x.phase with
      | .answer => if inOrder s x then takeAnswer x perr susp s else s
      | .atTarget =>
        if ((regionOf x.dst).any fun k => regionPort s k (x.dst % 4)) && (packetsOf s x 5).isEmpty then
          takeAnswer { x with
                   status := code,
                   answer := if kind = 2 then (data ++ List.replicate x.bytes 0).take x.bytes else [] } perr susp s
        else s
      | _ => s

/-- READ_RESP (R228): the answer to port q's read arrives. -/
def execReadResp (q : Fin 480) (tag : Fin 256) (code : Fin 65536) (data : List Byte) (perr : Option Nat)
    (susp : List (Nat × Nat)) (s : State) : Out := .next (respond 2 q tag code data perr susp s)

/-- WRITE_RESP (R228): the answer to port q's write arrives. -/
def execWriteResp (q : Fin 480) (tag : Fin 256) (code : Fin 65536) (perr : Option Nat) (s : State) : Out :=
  .next (respond 3 q tag code [] perr [] s)

/-- RETURN (R236, R373): a request that its target did not consume comes back to port q. -/
def execReturn (q : Fin 480) (tag : Fin 256) (perr : Option Nat) (susp : List (Nat × Nat)) (s : State) : Out :=
  match xactAt s q tag with
  | none => .next s
  | some x => if x.phase = .answer ∧ x.returned ∧ inOrder s x then .next (takeAnswer x perr susp s) else .next s

/-- REVOKE (R237, R239): the REVOKE of port q reaches a holder. -/
def execRevoke (q : Fin 480) (holder : Holder) (s : State) : Out :=
  if !s.noc.revokes.contains (q.val, holder.port.val, false) then .next s
  else
    let s := (travel q holder.port 1 holder.perr s).2
    .next (updNet (fun n =>
      { n with revokes := n.revokes.map fun r => if r.1 == q.val && r.2.1 == holder.port.val then (r.1, r.2.1, true) else r }) s)

/-- RELEASE (R237, R239): a holder that has the REVOKE, and no packet under the reservation on its way, releases it. -/
def execRelease (q : Fin 480) (holder : Holder) (s : State) : Out :=
  if !s.noc.revokes.contains (q.val, holder.port.val, true) ||
      s.noc.xacts.any fun x => x.standing && x.src == holder.port.val && x.dst == q.val &&
        (x.phase == .sent || x.phase == .slot || x.phase == .ready) then
    .next s
  else
    let s := (travel holder.port q 1 holder.perr s).2
    .next (updNet (fun n => { n with revokes := n.revokes.filter (· != (q.val, holder.port.val, true)) }) s)

/-- Has the RETURN or the answer of a forced drain been made in this core cycle (R240)? It stands against a timeout. -/
def Xact.movedNow (x : Xact) (t : Nat) : Bool :=
  x.phase == .answer && x.status == Code.ROLE_MOVED && x.since == t

/-- NOC_TIMEOUT (R238, R240): of a request whose answer is awaited. -/
def execNocTimeout (q : Fin 480) (tag : Fin 256) (s : State) : Out :=
  match xactAt s q tag with
  | none => .next s
  | some x =>
    if x.inFlight && !x.late && !x.discard && !x.movedNow s.cycle &&
        decide (x.sentAt + 2 ^ (s.rd PORT_CFG_TIMEOUT_EXP (q.val / 4) (q.val % 4) + 8) ≤ s.cycle)
    then .next (timeOut x false s)
    else .next s

/-- The ports between which the packet of a request that is on its way travels. -/
def Xact.way (x : Xact) : Nat × Nat := if x.pktClass = 2 ∨ x.pktClass = 5 then (x.dst, x.src) else (x.src, x.dst)

/-- The earliest core cycle at which the packet of a request that is on its way can wait at the output of hop j of its route
(R224): it cannot leave the output of its last rise before that rise. -/
def Xact.reaches (x : Xact) (j : Nat) : Nat :=
  if x.aged = 0 then x.since + 2 * (j + 1) else if j = x.agedHop then x.agedAt else x.agedAt + 2 * (j - x.agedHop)

/-- PRIORITY_AGING (R234): an unscheduled packet that has waited AGE_LIMIT × 64 core cycles at one output of router r rises
one level. -/
def execPriorityAging (r : Fin 120) (q : Fin 480) (tag : Fin 256) (s : State) : Out :=
  match xactAt s q tag with
  | none => .next s
  | some x =>
    let limit := s.rd NR_CTRL_AGE_LIMIT r
    match (routeOf x.way.1 x.way.2).findIdx? (·.1 == r.val) with
    | none => .next s
    | some j =>
      if x.pktClass ≠ 0 ∧ x.pktClass ≠ 4 ∧ limit ≠ 0 ∧ x.prio + x.aged < 3 ∧ x.agedHop ≤ j ∧
          x.reaches j + limit * 64 ≤ s.cycle then
        let t := s.cycle
        .next ((updXact x (fun y => { y with aged := y.aged + 1, agedAt := t, agedHop := j }) s).incSat NR_COUNTS_A_AGED r)
      else .next s

/-- PORT_DRAINED (R237): a CLOSING port has drained. -/
def execPortDrained (q : Fin 480) (s : State) : Out :=
  .next (if portState s q = 1 && portDrained s q then powerGo (setPort q 2 s) else s)

/-- STAT_SNAP (R241): SNAP, and CLEAR with it or not, is written to STAT_CTRL of port q; it waits for the tick. -/
def execStatSnap (q : Fin 480) (clear : Bool) (s : State) : Out :=
  .next (writeStatCtrl (q.val / 4) (q.val % 4) true clear s)

/-- STAT_CLEAR (R241): CLEAR is written to STAT_CTRL of port q. -/
def execStatClear (q : Fin 480) (s : State) : Out := .next (writeStatCtrl (q.val / 4) (q.val % 4) false true s)

/-- NR_CLEAR_COUNTS (R242). -/
def execNrClearCounts (r : Fin 120) (s : State) : Out := .next (clearRouter r s)

/-- A burst is tainted while its engine is HOLDING (R97, R102): its completion, which still waits for the burst's
records, becomes TAINTED, and its one TAINT notice follows, unless BURST_END has been created. -/
def taintHolding (n : Nat) (s : State) : State :=
  let u := catch_ s n
  match (reel s n).op with
  | none => s
  | some (r, k) =>
    let held := s.ops.any fun o => o.is r k && o.held
    if !held || (u.fifo ++ u.flow).any (fun x => x.op == some (r, k)) then s
    else
      let s := s.updOp r k fun o => { o with code := Code.TAINTED, result := reelResult s n 0 }
      taintNotice n s

/-- A late alarm reaches a reel engine (R95, R97, R100, R102, R275). -/
def alarmReel (n tag : Nat) (s : State) : State :=
  match (reel s n).lines.find? fun l => l.1 == tag with
  | none => s
  | some (_, line, _) =>
    let before := tainted s n
    let s := lineFailed n line tag causeAlarm s
    if reelState s n == 6 && !before && tainted s n then taintHolding n s else s

/-- LATE_ALARM (R275, R276): the oldest alarm on the bus reaches the attachments. A region's fabric sees it; the DMA
class reads no protected line (R270). -/
def execLateAlarm (s : State) : Out :=
  match s.enc.alarms with
  | [] => .next s
  | a :: rest =>
    let s := updEngine (fun e => { e with alarms := rest }) s
    match (List.range 16).find? fun n => streamReel n == a.sid with
    | some n => .next (alarmReel n a.tag s)
    | none =>
      if a.sid = streamCfg ∧ cfgState s ≠ 0 ∧ s.cfg.src = 1 then .next (cfgFail Code.ABORTED 0x10 0 s.cfg.pos s)
      else match (portOfStream s a.sid).bind regionOf with
        | some k => .next (updRegion k (fun u => { u with alarm := some (a.chan, a.tag) }) s)
        | none => .next s

/-- REFUSAL_ANSWER (R270, R283, R386): a refused access is answered 2,048 core cycles after its landing: the oldest
request on the network, or the oldest access of another class to the ember region. -/
def execRefusalAnswer (noc : Bool) (s : State) : Out :=
  if noc then
    match s.noc.xacts.find? fun x => x.phase == .refused with
    | some x => if x.t0 + 2048 ≤ s.cycle then .next (answerNow x Code.REFUSED [] 0 s) else .next s
    | none => .next s
  else
    match s.sp.refused with
    | (cls, t, n) :: rest =>
      if t + 2048 ≤ s.cycle then
        .next (updPad (fun p =>
          { p with refused := rest, answers := (cls, Code.REFUSED, List.replicate n 0) :: p.answers.filter (·.1 != cls) }) s)
      else .next s
    | [] => .next s

end Sys2Proof.Machine
end

