-- ==== Sys2Proof/Machine/Dispatch.lean ====
section
/-! DEFINITION. The meaning of each command: one arm per constructor, each one direct call. -/

namespace Sys2Proof.Machine

/-- The effect of a command on everything but the queue. -/
def exec (i : Instr) (s : State) : Host.Outcome State Fault Refusal :=
  match i with
  | .registerWrite bar2 off be v who => Sys2Proof.Machine.execRegisterWrite bar2 off be v who s
  | .pairLowRead off wide debug => Sys2Proof.Machine.execPairLowRead off wide debug s
  | .rwfWrite off v who => Sys2Proof.Machine.execRwfWrite off v who s
  | .tick => Sys2Proof.Machine.execTick s
  | .frameLogRead k debug => Sys2Proof.Machine.execFrameLogRead k debug s
  | .reelFetchWindow k lines => Sys2Proof.Machine.execReelFetchWindow k lines s
  | .catchFlushWindow k lines => Sys2Proof.Machine.execCatchFlushWindow k lines s
  | .nocSlotWindow k meets => Sys2Proof.Machine.execNocSlotWindow k meets s
  | .ddrRefreshWindow k waits delays => Sys2Proof.Machine.execDdrRefreshWindow k waits delays s
  | .ddrRfmSpareWindow k => Sys2Proof.Machine.execDdrRfmSpareWindow k s
  | .ddrScrubWindow k lines => Sys2Proof.Machine.execDdrScrubWindow k lines s
  | .dispatchAdvanceWindow k => Sys2Proof.Machine.execDispatchAdvanceWindow k s
  | .ioDiagWindow k => Sys2Proof.Machine.execIoDiagWindow k s
  | .windowClose k settled => Sys2Proof.Machine.execWindowClose k settled s
  | .syncMark width pos => Sys2Proof.Machine.execSyncMark width pos s
  | .syncMarkMissed => Sys2Proof.Machine.execSyncMarkMissed s
  | .alignArm v => Sys2Proof.Machine.execAlignArm v s
  | .alignModeChange => Sys2Proof.Machine.execAlignModeChange s
  | .proofLoad ring arg => Sys2Proof.Machine.execProofLoad ring arg s
  | .proofLoadDone => Sys2Proof.Machine.execProofLoadDone s
  | .proofCheck ring => Sys2Proof.Machine.execProofCheck ring s
  | .proofCheckDone vccOk => Sys2Proof.Machine.execProofCheckDone vccOk s
  | .fix ring arg => Sys2Proof.Machine.execFix ring arg s
  | .fixCancel ring => Sys2Proof.Machine.execFixCancel ring s
  | .fixCancelLatch => Sys2Proof.Machine.execFixCancelLatch s
  | .proofDiscard ring => Sys2Proof.Machine.execProofDiscard ring s
  | .finalCheck => Sys2Proof.Machine.execFinalCheck s
  | .fixApply vcs mismatch => Sys2Proof.Machine.execFixApply vcs mismatch s
  | .fuseProgramDone => Sys2Proof.Machine.execFuseProgramDone s
  | .reelStart ring => Sys2Proof.Machine.execReelStart ring s
  | .reelAbort ring => Sys2Proof.Machine.execReelAbort ring s
  | .reelAbortLatch n => Sys2Proof.Machine.execReelAbortLatch n s
  | .reelPrefetchStart n => Sys2Proof.Machine.execReelPrefetchStart n s
  | .reelStartTick n inTime w0 => Sys2Proof.Machine.execReelStartTick n inTime w0 s
  | .reelNaturalCompletion n => Sys2Proof.Machine.execReelNaturalCompletion n s
  | .pad n => Sys2Proof.Machine.execPad n s
  | .literal n k => Sys2Proof.Machine.execLiteral n k s
  | .repeatVector n k => Sys2Proof.Machine.execRepeatVector n k s
  | .repeatBlock n => Sys2Proof.Machine.execRepeatBlock n s
  | .dict n k => Sys2Proof.Machine.execDict n k s
  | .splice n k => Sys2Proof.Machine.execSplice n k s
  | .stop n => Sys2Proof.Machine.execStop n s
  | .spliceWrite n valid v0 v1 => Sys2Proof.Machine.execSpliceWrite n valid v0 v1 s
  | .reelUnderrun n => Sys2Proof.Machine.execReelUnderrun n s
  | .substitutionStart n => Sys2Proof.Machine.execSubstitutionStart n s
  | .holdReached n => Sys2Proof.Machine.execHoldReached n s
  | .reelHolding n => Sys2Proof.Machine.execReelHolding n s
  | .reClearCounts n => Sys2Proof.Machine.execReClearCounts n s
  | .flushDict n => Sys2Proof.Machine.execFlushDict n s
  | .responseWord n idx r word flip => Sys2Proof.Machine.execResponseWord n idx r word flip s
  | .missingResponse n idx r control => Sys2Proof.Machine.execMissingResponse n idx r control s
  | .delayShadowCheck n upset bad => Sys2Proof.Machine.execDelayShadowCheck n upset bad s
  | .recordToFlow n => Sys2Proof.Machine.execRecordToFlow n s
  | .pendingSummaryRelease n => Sys2Proof.Machine.execPendingSummaryRelease n s
  | .burstEnd n => Sys2Proof.Machine.execBurstEnd n s
  | .cmRdWrite n v => Sys2Proof.Machine.execCmRdWrite n v s
  | .strobeRelease n j => Sys2Proof.Machine.execStrobeRelease n j s
  | .cbClearCounts n => Sys2Proof.Machine.execCbClearCounts n s
  | .fabricReset k => Sys2Proof.Machine.execFabricReset k s
  | .tempReading readings => Sys2Proof.Machine.execTempReading readings s
  | .biasFault k measured => Sys2Proof.Machine.execBiasFault k measured s
  | .sliceStart k t entry => Sys2Proof.Machine.execSliceStart k t entry s
  | .sliceStop k t => Sys2Proof.Machine.execSliceStop k t s
  | .sliceContinue k t => Sys2Proof.Machine.execSliceContinue k t s
  | .sliceNop k t => Sys2Proof.Machine.execSliceNop k t s
  | .mac k t => Sys2Proof.Machine.execMac k t s
  | .repeat_ k t => Sys2Proof.Machine.execRepeat k t s
  | .store k t => Sys2Proof.Machine.execStore k t s
  | .setp k t => Sys2Proof.Machine.execSetp k t s
  | .halt k t => Sys2Proof.Machine.execHalt k t s
  | .sliceMemAccess k t space write addr data => Sys2Proof.Machine.execSliceMemAccess k t space write addr data s
  | .sliceInputWord k t word => Sys2Proof.Machine.execSliceInputWord k t word s
  | .sliceOutputTake k t => Sys2Proof.Machine.execSliceOutputTake k t s
  | .slClearCounts k t => Sys2Proof.Machine.execSlClearCounts k t s
  | .configLoad ring => Sys2Proof.Machine.execConfigLoad ring s
  | .configHeader fail => Sys2Proof.Machine.execConfigHeader fail s
  | .configClearDone => Sys2Proof.Machine.execConfigClearDone s
  | .configSegment fail => Sys2Proof.Machine.execConfigSegment fail s
  | .cfgNop => Sys2Proof.Machine.execCfgNop s
  | .regionSelect => Sys2Proof.Machine.execRegionSelect s
  | .writeFrame => Sys2Proof.Machine.execWriteFrame s
  | .repeatFrame => Sys2Proof.Machine.execRepeatFrame s
  | .check => Sys2Proof.Machine.execCheck s
  | .fixAtTick => Sys2Proof.Machine.execFixAtTick s
  | .keyRoll => Sys2Proof.Machine.execKeyRoll s
  | .cfgEnd => Sys2Proof.Machine.execCfgEnd s
  | .frameCommit => Sys2Proof.Machine.execFrameCommit s
  | .configRelease lines words mismatch pins banks => Sys2Proof.Machine.execConfigRelease lines words mismatch pins banks s
  | .configAbort => Sys2Proof.Machine.execConfigAbort s
  | .configAbortLatch => Sys2Proof.Machine.execConfigAbortLatch s
  | .cfgClearCounts => Sys2Proof.Machine.execCfgClearCounts s
  | .swapDrained k => Sys2Proof.Machine.execSwapDrained k s
  | .swapDrainForced k => Sys2Proof.Machine.execSwapDrainForced k s
  | .swapLoadStart k => Sys2Proof.Machine.execSwapLoadStart k s
  | .swapOpen k lines words mismatch => Sys2Proof.Machine.execSwapOpen k lines words mismatch s
  | .scrubStep => Sys2Proof.Machine.execScrubStep s
  | .autoReloadStart k => Sys2Proof.Machine.execAutoReloadStart k s
  | .scrubClearCounts => Sys2Proof.Machine.execScrubClearCounts s
  | .fwWrite ring good version => Sys2Proof.Machine.execFwWrite ring good version s
  | .fwCoreRestart c => Sys2Proof.Machine.execFwCoreRestart c s
  | .fwSelfCheck pass => Sys2Proof.Machine.execFwSelfCheck pass s
  | .fwCommitRetry => Sys2Proof.Machine.execFwCommitRetry s
  | .fabricRequest k p kind dst dstPort addr bytes data prio epoch sched tag => Sys2Proof.Machine.execFabricRequest k p kind dst dstPort addr bytes data prio epoch sched tag s
  | .reserve q tag perr => Sys2Proof.Machine.execReserve q tag perr s
  | .grant q tag perr => Sys2Proof.Machine.execGrant q tag perr s
  | .reserveRetry q tag => Sys2Proof.Machine.execReserveRetry q tag s
  | .readReq q tag perr => Sys2Proof.Machine.execReadReq q tag perr s
  | .writeReq q tag perr susp => Sys2Proof.Machine.execWriteReq q tag perr susp s
  | .readResp q tag code data perr susp => Sys2Proof.Machine.execReadResp q tag code data perr susp s
  | .writeResp q tag code perr => Sys2Proof.Machine.execWriteResp q tag code perr s
  | .return_ q tag perr susp => Sys2Proof.Machine.execReturn q tag perr susp s
  | .revoke q holder => Sys2Proof.Machine.execRevoke q holder s
  | .release q holder => Sys2Proof.Machine.execRelease q holder s
  | .nocTimeout q tag => Sys2Proof.Machine.execNocTimeout q tag s
  | .priorityAging r q tag => Sys2Proof.Machine.execPriorityAging r q tag s
  | .portDrained q => Sys2Proof.Machine.execPortDrained q s
  | .statSnap q clear => Sys2Proof.Machine.execStatSnap q clear s
  | .statClear q => Sys2Proof.Machine.execStatClear q s
  | .nrClearCounts r => Sys2Proof.Machine.execNrClearCounts r s
  | .fallbackRefresh c rank sub => Sys2Proof.Machine.execFallbackRefresh c rank sub s
  | .mr4Read c doubled => Sys2Proof.Machine.execMr4Read c doubled s
  | .writeBack c => Sys2Proof.Machine.execWriteBack c s
  | .trainingPass c errs => Sys2Proof.Machine.execTrainingPass c errs s
  | .selfRefreshExitDone c => Sys2Proof.Machine.execSelfRefreshExitDone c s
  | .trainRecord ring matched refusal applied repairs => Sys2Proof.Machine.execTrainRecord ring matched refusal applied repairs s
  | .ddrRepair ring noResource held => Sys2Proof.Machine.execDdrRepair ring noResource held s
  | .ddrRepairDone c => Sys2Proof.Machine.execDdrRepairDone c s
  | .dcClearCounts c => Sys2Proof.Machine.execDcClearCounts c s
  | .dcClearLogs c => Sys2Proof.Machine.execDcClearLogs c s
  | .lateAlarm => Sys2Proof.Machine.execLateAlarm s
  | .keyLoad ring => Sys2Proof.Machine.execKeyLoad ring s
  | .keyErase ring => Sys2Proof.Machine.execKeyErase ring s
  | .keyRetire ring => Sys2Proof.Machine.execKeyRetire ring s
  | .keyOpComplete => Sys2Proof.Machine.execKeyOpComplete s
  | .refusalAnswer noc => Sys2Proof.Machine.execRefusalAnswer noc s
  | .rekeyWalkStart => Sys2Proof.Machine.execRekeyWalkStart s
  | .rekeyLine => Sys2Proof.Machine.execRekeyLine s
  | .keyRetired => Sys2Proof.Machine.execKeyRetired s
  | .enClearCounts => Sys2Proof.Machine.execEnClearCounts s
  | .laneTrained g idx => Sys2Proof.Machine.execLaneTrained g idx s
  | .laneTrainTimeout g => Sys2Proof.Machine.execLaneTrainTimeout g s
  | .alignMarkerReceived g idx spaced bip badTypes fill skew => Sys2Proof.Machine.execAlignMarkerReceived g idx spaced bip badTypes fill skew s
  | .alignMarkerMissed g idx => Sys2Proof.Machine.execAlignMarkerMissed g idx s
  | .laneLockLost g idx => Sys2Proof.Machine.execLaneLockLost g idx s
  | .laneElasticSlip g idx overflow => Sys2Proof.Machine.execLaneElasticSlip g idx overflow s
  | .prbsTxEn g idx on pattern => Sys2Proof.Machine.execPrbsTxEn g idx on pattern s
  | .prbsRxEn g idx on pattern => Sys2Proof.Machine.execPrbsRxEn g idx on pattern s
  | .eyeScanStart g idx v => Sys2Proof.Machine.execEyeScanStart g idx v s
  | .eyeScanDone g idx errors => Sys2Proof.Machine.execEyeScanDone g idx errors s
  | .lgClearCounts g => Sys2Proof.Machine.execLgClearCounts g s
  | .meshPacketFrame l intact seq ack vc h0 h1 route payload host => Sys2Proof.Machine.execMeshPacketFrame l intact seq ack vc h0 h1 route payload host s
  | .ackBlock l intact ack free0 free1 => Sys2Proof.Machine.execAckBlock l intact ack free0 free1 s
  | .helloFrame l intact ack w0 w1 w2 w3 => Sys2Proof.Machine.execHelloFrame l intact ack w0 w1 w2 w3 s
  | .helloSend l => Sys2Proof.Machine.execHelloSend l s
  | .helloTimeout l => Sys2Proof.Machine.execHelloTimeout l s
  | .setNotReadyTimeout l => Sys2Proof.Machine.execSetNotReadyTimeout l s
  | .replayTimeout l => Sys2Proof.Machine.execReplayTimeout l s
  | .quietFrame l intact ack => Sys2Proof.Machine.execQuietFrame l intact ack s
  | .timeFrameSend l => Sys2Proof.Machine.execTimeFrameSend l s
  | .timeFrame l intact ack w0 w1 w2 w3 frac => Sys2Proof.Machine.execTimeFrame l intact ack w0 w1 w2 w3 frac s
  | .timeFrameMissed => Sys2Proof.Machine.execTimeFrameMissed s
  | .meshReportSend => Sys2Proof.Machine.execMeshReportSend s
  | .meshReportPacket => Sys2Proof.Machine.execMeshReportPacket s
  | .meshDataRequest => Sys2Proof.Machine.execMeshDataRequest s
  | .meshDataResponse => Sys2Proof.Machine.execMeshDataResponse s
  | .meshHostPacket => Sys2Proof.Machine.execMeshHostPacket s
  | .lkQuiet l on => Sys2Proof.Machine.execLkQuiet l on s
  | .lkReset l => Sys2Proof.Machine.execLkReset l s
  | .msReportRdWrite v => Sys2Proof.Machine.execMsReportRdWrite v s
  | .msClearCounts => Sys2Proof.Machine.execMsClearCounts s
  | .commandDoorbell r p => Sys2Proof.Machine.execCommandDoorbell r p s
  | .completionDoorbell r v => Sys2Proof.Machine.execCompletionDoorbell r v s
  | .eventDoorbell v => Sys2Proof.Machine.execEventDoorbell v s
  | .descriptorConsume r fails => Sys2Proof.Machine.execDescriptorConsume r fails s
  | .outcomeLatch r idx => Sys2Proof.Machine.execOutcomeLatch r idx s
  | .completionWrite r fails => Sys2Proof.Machine.execCompletionWrite r fails s
  | .msixTimer r => Sys2Proof.Machine.execMsixTimer r s
  | .eventRecordWrite => Sys2Proof.Machine.execEventRecordWrite s
  | .ringEnable r v => Sys2Proof.Machine.execRingEnable r v s
  | .ringDisable r v => Sys2Proof.Machine.execRingDisable r v s
  | .ringResume r v => Sys2Proof.Machine.execRingResume r v s
  | .eventRingEnable v => Sys2Proof.Machine.execEventRingEnable v s
  | .hiClearCounts => Sys2Proof.Machine.execHiClearCounts s
  | .linkResetCmd kind => Sys2Proof.Machine.execLinkReset kind s
  | .d3hotEntry => Sys2Proof.Machine.execD3hotEntry s
  | .proxyTimeout r idx => Sys2Proof.Machine.execProxyTimeout r idx s
  | .nop r => Sys2Proof.Machine.execNop r s
  | .dmaMove r => Sys2Proof.Machine.execDmaMove r s
  | .dmaMoveDone r idx failedAt => Sys2Proof.Machine.execDmaMoveDone r idx failedAt s
  | .debugRead r failedAt => Sys2Proof.Machine.execDebugRead r failedAt s
  | .abortOp r => Sys2Proof.Machine.execAbort r s
  | .hostAbortLatch moved => Sys2Proof.Machine.execHostAbortLatch moved s
  | .dispatchEnqueue ring => Sys2Proof.Machine.execDispatchEnqueue ring s
  | .jobDispatch => Sys2Proof.Machine.execJobDispatch s
  | .doneMessage sid entry gen status result => Sys2Proof.Machine.execDoneMessage sid entry gen status result s
  | .dispatchJobTimeout slot => Sys2Proof.Machine.execDispatchJobTimeout slot s
  | .jobRelease slot => Sys2Proof.Machine.execJobRelease slot s
  | .workerRegistration sid w w0 w1 w2 w3 => Sys2Proof.Machine.execWorkerRegistration sid w w0 w1 w2 w3 s
  | .dpClearCounts => Sys2Proof.Machine.execDpClearCounts s
  | .slotProvision ring => Sys2Proof.Machine.execSlotProvision ring s
  | .watchdogKick c => Sys2Proof.Machine.execWatchdogKick c s
  | .watchdogExpiry c => Sys2Proof.Machine.execWatchdogExpiry c s
  | .coreRestartDone c => Sys2Proof.Machine.execCoreRestartDone c s
  | .scratchpadAccess cls sid addr n kind core0 data => Sys2Proof.Machine.execScratchpadAccess cls sid addr n kind core0 data s
  | .testStep fails => Sys2Proof.Machine.execTestStep fails s
  | .testStepEnd => Sys2Proof.Machine.execTestStepEnd s
  | .emberWipeDone => Sys2Proof.Machine.execEmberWipeDone s
  | .spClearCounts => Sys2Proof.Machine.execSpClearCounts s
  | .monitorWindow m count disagree => Sys2Proof.Machine.execMonitorWindow m count disagree s
  | .monitorEdgeLoss m => Sys2Proof.Machine.execMonitorEdgeLoss m s
  | .pllLockLoss d => Sys2Proof.Machine.execPllLockLoss d s
  | .pllRelock d => Sys2Proof.Machine.execPllRelock d s
  | .rampStep d => Sys2Proof.Machine.execRampStep d s
  | .rampEnd d => Sys2Proof.Machine.execRampEnd d s
  | .trimWindow count => Sys2Proof.Machine.execTrimWindow count s
  | .ckClearCounts => Sys2Proof.Machine.execCkClearCounts s
  | .powerRequest ring => Sys2Proof.Machine.execPowerRequest ring s
  | .powerCheck => Sys2Proof.Machine.execPowerCheck s
  | .biasSettledCmd k => Sys2Proof.Machine.execBiasSettled k s
  | .powerDrainTimeout => Sys2Proof.Machine.execPowerDrainTimeout s
  | .pwClearCounts => Sys2Proof.Machine.execPwClearCounts s
  | .tamperSensorFire sensors => Sys2Proof.Machine.execTamperSensorFire sensors s
  | .tapReset => Sys2Proof.Machine.execTapReset s
  | .extest cells update => Sys2Proof.Machine.execExtest cells update s
  | .samplePreload cells update => Sys2Proof.Machine.execSamplePreload cells update s
  | .extestPulse cells update => Sys2Proof.Machine.execExtestPulse cells update s
  | .extestTrain cells update => Sys2Proof.Machine.execExtestTrain cells update s
  | .clamp => Sys2Proof.Machine.execClamp s
  | .highz => Sys2Proof.Machine.execHighz s
  | .idcode => Sys2Proof.Machine.execIdcode s
  | .bypass op => Sys2Proof.Machine.execBypass op s
  | .cfgIn start bytes => Sys2Proof.Machine.execCfgIn start bytes s
  | .cfgStatus => Sys2Proof.Machine.execCfgStatus s
  | .dbgReg dr => Sys2Proof.Machine.execDbgReg dr s
  | .dbgMem dr => Sys2Proof.Machine.execDbgMem dr s
  | .dbgAttach dr => Sys2Proof.Machine.execDbgAttach dr s
  | .debugAccessDone mem => Sys2Proof.Machine.execDebugAccessDone mem s
  | .dbHalt => Sys2Proof.Machine.execDbHalt s
  | .dbResume => Sys2Proof.Machine.execDbResume s
  | .dbStep => Sys2Proof.Machine.execDbStep s
  | .runControlLatch => Sys2Proof.Machine.execRunControlLatch s
  | .haltedEntry => Sys2Proof.Machine.execHaltedEntry s
  | .seqArm on => Sys2Proof.Machine.execSeqArm on s
  | .dbClearCounts => Sys2Proof.Machine.execDbClearCounts s
  | .daAttach k t => Sys2Proof.Machine.execDaAttach k t s
  | .daDetach k t => Sys2Proof.Machine.execDaDetach k t s
  | .daHalt k t => Sys2Proof.Machine.execDaHalt k t s
  | .daStep k t => Sys2Proof.Machine.execDaStep k t s
  | .daRelease k t => Sys2Proof.Machine.execDaRelease k t s
  | .daRead k t a => Sys2Proof.Machine.execDaRead k t a s
  | .daWrite k t a => Sys2Proof.Machine.execDaWrite k t a s
  | .daAck code data => Sys2Proof.Machine.execDaAck code data s
  | .daTimeout => Sys2Proof.Machine.execDaTimeout s
  | .checkerTest n cmpFails dlyFails => Sys2Proof.Machine.execCheckerTest n cmpFails dlyFails s
  | .eaClearCounts => Sys2Proof.Machine.execEaClearCounts s
  | .injDisagree n v => Sys2Proof.Machine.execInjDisagree n v s
  | .injDelay n v => Sys2Proof.Machine.execInjDelay n v s
  | .injTemp n v => Sys2Proof.Machine.execInjTemp n v s
  | .injBias n v => Sys2Proof.Machine.execInjBias n v s
  | .injBclk n v => Sys2Proof.Machine.execInjBclk n v s
  | .injOpmem k t v => Sys2Proof.Machine.execInjOpmem k t v s
  | .injProg k t v => Sys2Proof.Machine.execInjProg k t v s
  | .injAuth v => Sys2Proof.Machine.execInjAuth v s
  | .injCheck v => Sys2Proof.Machine.execInjCheck v s
  | .injSingle v => Sys2Proof.Machine.execInjSingle v s
  | .injDouble v => Sys2Proof.Machine.execInjDouble v s
  | .injParity n v => Sys2Proof.Machine.execInjParity n v s
  | .nrInjTimeout n v => Sys2Proof.Machine.execNrInjTimeout n v s
  | .injCe n v => Sys2Proof.Machine.execInjCe n v s
  | .injUe n v => Sys2Proof.Machine.execInjUe n v s
  | .injRefmiss n v => Sys2Proof.Machine.execInjRefmiss n v s
  | .injTag v => Sys2Proof.Machine.execInjTag v s
  | .injRefuse v => Sys2Proof.Machine.execInjRefuse v s
  | .injBip n v => Sys2Proof.Machine.execInjBip n v s
  | .injLock n v => Sys2Proof.Machine.execInjLock n v s
  | .injSlip n v => Sys2Proof.Machine.execInjSlip n v s
  | .injCrc v => Sys2Proof.Machine.execInjCrc v s
  | .injAckDrop v => Sys2Proof.Machine.execInjAckDrop v s
  | .injTimeMiss v => Sys2Proof.Machine.execInjTimeMiss v s
  | .injFetch v => Sys2Proof.Machine.execInjFetch v s
  | .injDoorbell v => Sys2Proof.Machine.execInjDoorbell v s
  | .dpInjTimeout v => Sys2Proof.Machine.execDpInjTimeout v s
  | .injLost v => Sys2Proof.Machine.execInjLost v s
  | .injEcc1 v => Sys2Proof.Machine.execInjEcc1 v s
  | .injEcc2 v => Sys2Proof.Machine.execInjEcc2 v s
  | .injMarch v => Sys2Proof.Machine.execInjMarch v s
  | .injLoss v => Sys2Proof.Machine.execInjLoss v s
  | .injBand v => Sys2Proof.Machine.execInjBand v s
  | .injDrain v => Sys2Proof.Machine.execInjDrain v s
  | .tpInjSensor v => Sys2Proof.Machine.execTpInjSensor v s
  | .injOverrun v => Sys2Proof.Machine.execInjOverrun v s
  | .injSyncMiss v => Sys2Proof.Machine.execInjSyncMiss v s
  | .injUnderrun v => Sys2Proof.Machine.execInjUnderrun v s
  | .injFormat v => Sys2Proof.Machine.execInjFormat v s
  | .injSplice v => Sys2Proof.Machine.execInjSplice v s
  | .injCmpCheck v => Sys2Proof.Machine.execInjCmpCheck v s
  | .injDlyCheck v => Sys2Proof.Machine.execInjDlyCheck v s
  | .injMonitor v => Sys2Proof.Machine.execInjMonitor v s
  | .fiInjSensor v => Sys2Proof.Machine.execFiInjSensor v s
  | .injWatchdog v => Sys2Proof.Machine.execInjWatchdog v s
  | .injSchConflict v => Sys2Proof.Machine.execInjSchConflict v s
  | .injMr4 v => Sys2Proof.Machine.execInjMr4 v s
  | .injRfmFull v => Sys2Proof.Machine.execInjRfmFull v s
  | .injDeskew v => Sys2Proof.Machine.execInjDeskew v s
  | .injTrainTimeout v => Sys2Proof.Machine.execInjTrainTimeout v s
  | .injSlow v => Sys2Proof.Machine.execInjSlow v s
  | .porAssert burnt => Sys2Proof.Machine.execPorAssert burnt s
  | .porEnd bootsel => Sys2Proof.Machine.execPorEnd bootsel s
  | .devrstN => Sys2Proof.Machine.execDevrstN s
  | .deviceResetCmd v => Sys2Proof.Machine.execDeviceReset v s
  | .perstNRise => Sys2Proof.Machine.execPerstNRise s
  | .bootClock refclk code => Sys2Proof.Machine.execBootClock refclk code s
  | .bootDirectory readable => Sys2Proof.Machine.execBootDirectory readable s
  | .bootImage goodA goodB verA verB regions => Sys2Proof.Machine.execBootImage goodA goodB verA verB regions s
  | .bootMemory chans => Sys2Proof.Machine.execBootMemory chans s
  | .bootKeys => Sys2Proof.Machine.execBootKeys s
  | .bootFabric => Sys2Proof.Machine.execBootFabric s
  | .bootService exp timeout => Sys2Proof.Machine.execBootService exp timeout s
  | .bootWaitImage => Sys2Proof.Machine.execBootWaitImage s
  | .bootWatchdog => Sys2Proof.Machine.execBootWatchdog s
  | .vccoMeasure b mv => Sys2Proof.Machine.execVccoMeasure b mv s
  | .contentionDetect b p sensed => Sys2Proof.Machine.execContentionDetect b p sensed s
  | .pinRetry b p => Sys2Proof.Machine.execPinRetry b p s
  | .senseTest b pin flagged => Sys2Proof.Machine.execSenseTest b pin flagged s
  | .strobeOpenCheck b p connected => Sys2Proof.Machine.execStrobeOpenCheck b p connected s
  | .bkClearCounts b => Sys2Proof.Machine.execBkClearCounts b s
  | .blockLockAcquired g idx => Sys2Proof.Machine.execBlockLockAcquired g idx s
  | .prbsCheckerSync g idx n e => Sys2Proof.Machine.execPrbsCheckerSync g idx n e s
  | .pcieLinkUp width speed => Sys2Proof.Machine.execPcieLinkUp width speed s
  | .ddrSelfRefreshEntered c => Sys2Proof.Machine.execDdrSelfRefreshEntered c s
  | .failPortSnapshot n => Sys2Proof.Machine.execFailPortSnapshot n s
  | .biasFaultCleared k measured => Sys2Proof.Machine.execBiasFaultCleared k measured s
  | .linkSignalDetected l => Sys2Proof.Machine.execLinkSignalDetected l s

end Sys2Proof.Machine
end

