-- ==== Sys2Proof/Machine/Idle.lean ====
section
/-! DEFINITION. What a core cycle without a command brings (log entry 2). -/

namespace Sys2Proof.Machine

/-- One core cycle passes without a command: the fabric captures (chapter 06), the offset advances (R51), and a DDR channel
serves what no window or guard interval keeps waiting (R39, R255); a fetch-buffer line is freed when its late-alarm window
closes (R86). At the last core cycle of a frame no core cycle passes, because the tick is a command of its own; while the
tick engine is frozen they go on passing for the fabric. -/
def idleCycle (s : State) : State :=
  let s := if frozen s || decide (s.offset + 1 < s.period) then fabricCycle s else s
  noteLevels (padTick (serveDdr (passCycle s)))

end Sys2Proof.Machine
end

