-- ==== Sys2Proof/WellFormed.lean ====
section
/-! DEFINITION. Which commands are well formed: each operand lies in the range that the spec gives the value it
stands for (register values of 32 and 64 bits, R335; BAR0 offsets of 26 bits, R509; slot entries of 11 bits, R32; TAP
data registers, R446; NoC requests, R226 to R228). Operands of type Fin are bounded by their type. -/

namespace Sys2Proof

/-- A value of w bits. -/
def fits (w v : Nat) : Bool := decide (v < 2 ^ w)

/-- The payloads of the blocks in which a frame arrives: 64 bits each (R292). -/
def wireFits : Machine.Wire → Bool
  | .whole => true
  | .blocks l => l.all fun b => fits 64 b.payload

/-- A hop of a dimension-ordered route: at most 20 (R220, R223). -/
def hopOk : Option Nat → Bool
  | none => true
  | some h => decide (h < 20)

/-- The hop of a parity error (R239). -/
def upsetOk (u : Option Machine.Upset) : Bool := hopOk (u.map (·.hop))

/-- What a configuration stream delivers: a parity error lies on a hop of the route. -/
def deliveryOk : Machine.Delivery → Bool
  | .whole u => upsetOk u
  | .bodies _ => true
  | .fails => true

/-- Hops of a route, with the core cycles of a suspension on each. -/
def suspOk (l : List (Nat × Nat)) : Bool := l.all fun e => decide (e.1 < 20) && fits 32 e.2

/-- A number of lines of a move: at most 2^22 (R346). -/
def countOk : Option Nat → Bool
  | none => true
  | some n => decide (n ≤ 2 ^ 22)

/-- Only the host reaches BAR2, of 64 KiB, and the configuration space (R332, R333). -/
def spaceOk (space : Machine.BusSpace) (off : Nat) (who : Fin 3) : Bool :=
  match space with
  | .registers => true
  | .doorbells => fits 16 off && who.val == 0
  | .config _ => who.val == 0

/-- Is a command well formed? -/
def Instr.wf : Instr → Bool
  | .registerWrite bar2 off be v who => fits 26 off && (if be.val = 0xFF then fits 64 v else fits 32 v) && spaceOk bar2 off who
  | .pairLowRead off _ _ => fits 26 off && off % 4 == 0
  | .rwfWrite off v _ => fits 26 off && off % 4 == 0 && fits 32 v
  | .reelFetchWindow k w => fits 11 k && fits 16 w.lines && hopOk w.perr && hopOk w.other
  | .catchFlushWindow k w => fits 11 k && fits 16 w.lines && hopOk w.perr && hopOk w.other
  | .nocSlotWindow k _ => fits 11 k
  | .ddrRefreshWindow k _ delays => fits 11 k && delays.all fun d => fits 16 d.1 && fits 16 d.2
  | .ddrRfmSpareWindow w => fits 11 w.idx && fits 8 w.fit
  | .ddrScrubWindow k lines => fits 11 k && fits 16 lines
  | .dispatchAdvanceWindow k => fits 11 k
  | .ioDiagWindow k => fits 11 k
  | .windowClose k _ => fits 11 k
  | .syncMark width pos => fits 32 width && decide (-96000000 ≤ pos) && decide (pos ≤ 96000000)
  | .alignArm v => fits 32 v
  | .proofLoad _ arg => fits 64 arg
  | .fix _ arg => fits 64 arg
  | .reelStartTick _ _ w0 => fits 64 w0
  | .literal _ k => fits 32 k
  | .repeatVector _ k => fits 32 k
  | .dict _ k => fits 32 k
  | .splice _ k => fits 32 k
  | .spliceWrite _ _ v0 v1 => fits 512 v0 && fits 512 v1
  | .responseWord _ _ r word flip => fits 64 r && fits 64 word && fits 64 flip
  | .missingResponse _ _ r w => fits 64 r && fits 64 w.flip
  | .cmRdWrite _ v => fits 64 v
  | .tempReading readings => readings.length == 65 && readings.all (fits 12)
  | .sliceMemAccess _ _ _ _ _ data => fits 128 data
  | .sliceInputWord _ _ word => fits 128 word
  | .configRelease _ _ _ pins banks => (pins.all fun p => decide (p.1 < 384)) && banks.all fun b => decide (b.1 < 8)
  | .fabricRequest _ _ kind _ _ addr bytes data _ _ _ _ => fits 38 addr && (kind.val != 3 || data.length == bytes.val + 1)
  | .reserve _ _ perr => hopOk perr
  | .grant _ _ perr => hopOk perr
  | .readReq _ _ perr => hopOk perr
  | .writeReq _ _ perr susp => hopOk perr && suspOk susp
  | .readResp _ _ _ data perr susp => hopOk perr && decide (data.length ≤ 1024) && suspOk susp
  | .writeResp _ _ _ perr => hopOk perr
  | .return_ _ _ perr susp => hopOk perr && suspOk susp
  | .revoke _ h => hopOk h.perr
  | .release _ h => hopOk h.perr
  | .trainingPass _ errs => errs.all fun e => decide (e.1 < 80) && fits 16 e.2
  | .trainRecord _ _ refusal _ _ => fits 16 refusal
  | .eyeScanStart _ _ v => fits 32 v
  | .eyeScanDone _ _ errors => fits 64 errors
  | .meshPacketFrame _ intact _ _ _ h0 h1 route payload host => wireFits intact && fits 64 h0 && fits 64 h1 && decide (route.length ≤ 32) && route.all (fits 8) && decide (payload.length ≤ 1024) && payload.all (fits 8) && host.all (fits 64)
  | .helloFrame _ intact _ w0 w1 w2 w3 => wireFits intact && fits 64 w0 && fits 64 w1 && fits 64 w2 && fits 64 w3
  | .timeFrame _ intact _ w0 w1 w2 w3 _ => wireFits intact && fits 64 w0 && fits 64 w1 && fits 64 w2 && fits 64 w3
  | .msReportRdWrite v => fits 64 v
  | .commandDoorbell _ p => fits 32 p
  | .completionDoorbell _ v => fits 32 v
  | .eventDoorbell v => fits 32 v
  | .ringEnable _ v => fits 32 v
  | .ringDisable _ v => fits 32 v
  | .ringResume _ v => fits 32 v
  | .eventRingEnable v => fits 32 v
  | .dmaMoveDone _ _ failedAt => countOk failedAt.failedAt && upsetOk failedAt.upset
  | .debugRead _ failedAt => countOk failedAt.failedAt && upsetOk failedAt.upset
  | .hostAbortLatch moved => fits 23 moved
  | .doneMessage sid entry gen status result => fits 16 sid.sid && upsetOk sid.upset && fits 16 entry && fits 8 gen && fits 16 status && fits 32 result
  | .dispatchJobTimeout slot => fits 16 slot
  | .jobRelease slot => fits 16 slot.slot && upsetOk slot.upset
  | .workerRegistration sid _ w0 w1 w2 w3 => fits 16 sid.sid && upsetOk sid.upset && fits 64 w0 && fits 64 w1 && fits 64 w2 && fits 64 w3
  | .scratchpadAccess _ sid addr n kind _ data => fits 16 sid && fits 38 addr && decide (1 ≤ n ∧ n ≤ 1024) && (kind.val != 1 || data.length == n)
  | .monitorWindow _ count _ => fits 32 count
  | .trimWindow count => fits 32 count
  | .dbgReg dr => fits 60 dr
  | .dbgMem dr => fits 112 dr
  | .dbgAttach dr => fits 96 dr
  | .daAck _ data => fits 64 data
  | .injDisagree _ v => fits 32 v
  | .injDelay _ v => fits 32 v
  | .injTemp _ v => fits 32 v
  | .injBias _ v => fits 32 v
  | .injBclk _ v => fits 32 v
  | .injOpmem _ _ v => fits 32 v
  | .injProg _ _ v => fits 32 v
  | .injAuth v => fits 32 v
  | .injCheck v => fits 32 v
  | .injSingle v => fits 32 v
  | .injDouble v => fits 32 v
  | .injParity _ v => fits 32 v
  | .nrInjTimeout _ v => fits 32 v
  | .injCe _ v => fits 32 v
  | .injUe _ v => fits 32 v
  | .injRefmiss _ v => fits 32 v
  | .injTag v => fits 32 v
  | .injRefuse v => fits 32 v
  | .injBip _ v => fits 32 v
  | .injLock _ v => fits 32 v
  | .injSlip _ v => fits 32 v
  | .injCrc v => fits 32 v
  | .injAckDrop v => fits 32 v
  | .injTimeMiss v => fits 32 v
  | .injFetch v => fits 32 v
  | .injDoorbell v => fits 32 v
  | .dpInjTimeout v => fits 32 v
  | .injLost v => fits 32 v
  | .injEcc1 v => fits 32 v
  | .injEcc2 v => fits 32 v
  | .injMarch v => fits 32 v
  | .injLoss v => fits 32 v
  | .injBand v => fits 32 v
  | .injDrain v => fits 32 v
  | .tpInjSensor v => fits 32 v
  | .injOverrun v => fits 32 v
  | .injSyncMiss v => fits 32 v
  | .injUnderrun v => fits 32 v
  | .injFormat v => fits 32 v
  | .injSplice v => fits 32 v
  | .injCmpCheck v => fits 32 v
  | .injDlyCheck v => fits 32 v
  | .injMonitor v => fits 32 v
  | .fiInjSensor v => fits 32 v
  | .injWatchdog v => fits 32 v
  | .injSchConflict v => fits 32 v
  | .injMr4 v => fits 32 v
  | .injRfmFull v => fits 32 v
  | .injDeskew v => fits 32 v
  | .injTrainTimeout v => fits 32 v
  | .injSlow v => fits 32 v
  | .deviceResetCmd v => fits 32 v
  | .bootImage _ _ _ _ regions => regions.all fun r => decide (r.1 < 128)
  | .bootMemory chans => chans.all fun c => decide (c.chan < 8) && decide (c.outcome < 5)
  | .configHeader fail => deliveryOk fail
  | .configSegment fail => deliveryOk fail
  | .ackBlock _ intact _ _ _ => wireFits intact
  | .quietFrame _ intact _ => wireFits intact
  | .tick
  | .frameLogRead _ _
  | .syncMarkMissed
  | .alignModeChange
  | .proofLoadDone
  | .proofCheck _
  | .proofCheckDone _
  | .fixCancel _
  | .fixCancelLatch
  | .proofDiscard _
  | .finalCheck
  | .fuseProgramDone
  | .reelStart _
  | .reelAbort _
  | .reelAbortLatch _
  | .reelPrefetchStart _
  | .reelNaturalCompletion _
  | .pad _
  | .repeatBlock _
  | .stop _
  | .reelUnderrun _
  | .substitutionStart _
  | .holdReached _
  | .reelHolding _
  | .reClearCounts _
  | .flushDict _
  | .delayShadowCheck _ _ _
  | .recordToFlow _
  | .pendingSummaryRelease _
  | .burstEnd _
  | .strobeRelease _ _
  | .cbClearCounts _
  | .fabricReset _
  | .biasFault _ _
  | .sliceStart _ _ _
  | .sliceStop _ _
  | .sliceContinue _ _
  | .sliceNop _ _
  | .mac _ _
  | .repeat_ _ _
  | .store _ _
  | .setp _ _
  | .halt _ _
  | .sliceOutputTake _ _
  | .slClearCounts _ _
  | .configLoad _
  | .configClearDone
  | .cfgNop
  | .regionSelect
  | .writeFrame
  | .repeatFrame
  | .check
  | .fixAtTick
  | .keyRoll
  | .cfgEnd
  | .frameCommit
  | .configAbort
  | .configAbortLatch
  | .cfgClearCounts
  | .swapDrained _
  | .swapDrainForced _
  | .swapLoadStart _
  | .scrubStep
  | .autoReloadStart _
  | .scrubClearCounts
  | .fwWrite _ _ _
  | .fwCoreRestart _
  | .fwSelfCheck _
  | .fwCommitRetry
  | .reserveRetry _ _
  | .nocTimeout _ _
  | .priorityAging _ _ _
  | .portDrained _
  | .statSnap _ _
  | .statClear _
  | .nrClearCounts _
  | .fallbackRefresh _ _ _
  | .mr4Read _ _
  | .writeBack _
  | .selfRefreshExitDone _
  | .ddrRepair _ _ _
  | .ddrRepairDone _
  | .dcClearCounts _
  | .dcClearLogs _
  | .lateAlarm
  | .keyLoad _
  | .keyErase _
  | .keyRetire _
  | .keyOpComplete
  | .refusalAnswer _
  | .rekeyWalkStart
  | .rekeyLine
  | .keyRetired
  | .enClearCounts
  | .laneTrained _ _
  | .laneTrainTimeout _
  | .alignMarkerMissed _ _
  | .laneLockLost _ _
  | .laneElasticSlip _ _ _
  | .prbsTxEn _ _ _ _
  | .prbsRxEn _ _ _ _
  | .lgClearCounts _
  | .alignMarkerReceived _ _ _ _ _ _ _
  | .prbsCheckerSync _ _ _ _
  | .helloSend _
  | .helloTimeout _
  | .setNotReadyTimeout _
  | .replayTimeout _
  | .timeFrameSend _
  | .timeFrameMissed
  | .meshReportSend
  | .meshReportPacket
  | .meshDataRequest
  | .meshDataResponse
  | .meshHostPacket
  | .lkQuiet _ _
  | .lkReset _
  | .msClearCounts
  | .descriptorConsume _ _
  | .outcomeLatch _ _
  | .completionWrite _ _
  | .msixTimer _
  | .eventRecordWrite
  | .hiClearCounts
  | .linkResetCmd _
  | .d3hotEntry
  | .proxyTimeout _ _
  | .nop _
  | .dmaMove _
  | .abortOp _
  | .dispatchEnqueue _
  | .jobDispatch
  | .dpClearCounts
  | .slotProvision _
  | .watchdogKick _
  | .watchdogExpiry _
  | .coreRestartDone _
  | .testStep _
  | .testStepEnd
  | .emberWipeDone
  | .spClearCounts
  | .monitorEdgeLoss _
  | .pllLockLoss _
  | .pllRelock _
  | .rampStep _
  | .rampEnd _
  | .ckClearCounts
  | .powerRequest _
  | .powerCheck
  | .biasSettledCmd _
  | .powerDrainTimeout
  | .pwClearCounts
  | .tamperSensorFire _
  | .tapReset
  | .extest _ _
  | .samplePreload _ _
  | .extestPulse _ _
  | .extestTrain _ _
  | .clamp
  | .highz
  | .idcode
  | .bypass _
  | .cfgIn _ _
  | .cfgStatus
  | .debugAccessDone _
  | .dbHalt
  | .dbResume
  | .dbStep
  | .runControlLatch
  | .haltedEntry
  | .seqArm _
  | .dbClearCounts
  | .daAttach _ _
  | .daDetach _ _
  | .daHalt _ _
  | .daStep _ _
  | .daRelease _ _
  | .daRead _ _ _
  | .daWrite _ _ _
  | .daTimeout
  | .checkerTest _ _ _
  | .eaClearCounts
  | .porAssert _
  | .porEnd _
  | .devrstN
  | .perstNRise
  | .bootClock _ _
  | .bootDirectory _
  | .bootKeys
  | .bootFabric
  | .bootService _ _
  | .bootWaitImage
  | .bootWatchdog
  | .vccoMeasure _ _
  | .contentionDetect _ _ _
  | .pinRetry _ _
  | .senseTest _ _ _
  | .strobeOpenCheck _ _ _
  | .bkClearCounts _
  | .blockLockAcquired _ _
  | .pcieLinkUp _ _
  | .ddrSelfRefreshEntered _
  | .failPortSnapshot _
  | .biasFaultCleared _ _
  | .linkSignalDetected _ => true
  | .fixApply _ _ => true
  | .swapOpen _ _ _ _ => true

end Sys2Proof
end

