-- ==== Sys2Proof/Safety.lean ====
section
/-! DEFINITION. What counts as a safe state and a safe run: a step that answers a next state, memories in their
canonical form, and a queue of well-formed commands. -/

namespace Sys2Proof

open Machine Machine.F

/-- One step takes s to t. -/
def Advances (s t : State) : Prop := step s = .next t

/-- Every byte memory is in its canonical form. -/
def memoriesOk (s : State) : Bool :=
  Memory.wf s.hostMem && Memory.wf s.scratch && Memory.wf s.dram && Memory.wf s.flash && Memory.wf s.sched

/-- Every command that waits is well formed. -/
def queueOk (s : State) : Bool := s.pending.all Instr.wf

/-- The command c completes in state s: it answers a next state, of which P holds. -/
def Runs (c : Instr) (s : State) (P : State → Prop) : Prop := ∃ t, exec c s = .next t ∧ P t

/-- o is the oldest operation of a ring that waits for the command of this opcode, under a name of its own. -/
abbrev Waits (s : State) (ring opcode : Nat) (o : Op) : Prop :=
  takeOp s ring opcode = some o ∧ opAt s ring o.idx = some o

/-- The outcome of operation idx of a ring is decided, with this code and field (R349, R351). -/
def Decided (t : State) (ring idx code fidx : Nat) : Prop :=
  ∃ o, opAt t ring idx = some o ∧ o.phase = .decided ∧ o.code = code ∧ o.fidx = fidx

/-- Operation idx of a ring runs. -/
def Running (t : State) (ring idx : Nat) : Prop := ∃ o, opAt t ring idx = some o ∧ o.phase = .running

/-- Does a field take its writes at the tick (R12)? -/
def tickField (f : Fld) : Bool := regTable.any fun r => r.fields.any fun g => g == f && g.eff == .tick

/-- The writes that wait for the tick are of fields that take effect there. -/
def tickWritesOk (s : State) : Bool := s.tickWrites.all fun w => tickField w.fld

/-- Slice i runs, and its next instruction is ins, valid and read without a parity error (R165, R168). -/
def issues (s : State) (i ins : Nat) : Bool :=
  s.rd SL_STATUS_STATE i == 1 && sliceRuns s i && !(s.slice_ i).past && s.rd SL_INJECT_INJ_PROG i == 0 &&
    sget 0 (s.slice_ i).progBad (s.rd SL_PTR_PC i) == 0 && sget 0 (s.slice_ i).prog (s.rd SL_PTR_PC i) == ins &&
    !badIns ins

/-- The two accumulators after a MAC of slice i that reads both operands from its memory, each with its overflow
(R156 to R158). -/
def macOf (s : State) (i ins : Nat) : (Int × Bool) × (Int × Bool) :=
  let u := s.slice_ i
  let sums := macSums (bits ins 59 58) (operandLane (sget 0 u.opmem (s.rd SL_PTR_P_X i)) 27 (bit ins 53))
    (operandLane (sget 0 u.opmem (s.rd SL_PTR_P_Y i)) 18 (bit ins 52))
  (accOp (bits ins 51 49) (bit ins 45) u.acc0 sums.1, accOp (bits ins 48 46) (bit ins 45) u.acc1 sums.2)

/-- The pieces of the state beside the register fields. -/
inductive Part where
  | pending | tickWrites | latches | lowHalves | drawn | sched | ev | tick | ops | ready | hostMem
  | stage | dbg | scratch | reels | dram | catches | ddr | records | dramTags | dramBad | dramPoison
  | dramWhole | enc | noc | disp | sp | regions | slices | frames | frameDyn | frameCode | frameBad | cfg | flash
  | lanes | groups | clk | mesh | host | pw | io | boot
  deriving DecidableEq, Repr

/-- A piece of the state is the same in s and t. -/
def Part.same (s t : State) : Part → Prop
  | .pending => t.pending = s.pending
  | .tickWrites => t.tickWrites = s.tickWrites
  | .latches => t.latches = s.latches
  | .lowHalves => t.lowHalves = s.lowHalves
  | .drawn => t.drawn = s.drawn
  | .sched => t.sched = s.sched
  | .ev => t.ev = s.ev
  | .tick => t.tick = s.tick
  | .ops => t.ops = s.ops
  | .ready => t.ready = s.ready
  | .hostMem => t.hostMem = s.hostMem
  | .stage => t.stage = s.stage
  | .dbg => t.dbg = s.dbg
  | .scratch => t.scratch = s.scratch
  | .reels => t.reels = s.reels
  | .dram => t.dram = s.dram
  | .catches => t.catches = s.catches
  | .ddr => t.ddr = s.ddr
  | .records => t.records = s.records
  | .dramTags => t.dramTags = s.dramTags
  | .dramBad => t.dramBad = s.dramBad
  | .dramPoison => t.dramPoison = s.dramPoison
  | .dramWhole => t.dramWhole = s.dramWhole
  | .enc => t.enc = s.enc
  | .noc => t.noc = s.noc
  | .disp => t.disp = s.disp
  | .sp => t.sp = s.sp
  | .regions => t.regions = s.regions
  | .slices => t.slices = s.slices
  | .frames => t.frames = s.frames
  | .frameDyn => t.frameDyn = s.frameDyn
  | .frameCode => t.frameCode = s.frameCode
  | .frameBad => t.frameBad = s.frameBad
  | .cfg => t.cfg = s.cfg
  | .flash => t.flash = s.flash
  | .lanes => t.lanes = s.lanes
  | .groups => t.groups = s.groups
  | .clk => t.clk = s.clk
  | .mesh => t.mesh = s.mesh
  | .host => t.host = s.host
  | .pw => t.pw = s.pw
  | .io => t.io = s.io
  | .boot => t.boot = s.boot

/-- From s to t no register field outside fs has changed, and no piece of the state outside ps. -/
def Framed (fs : List Fld) (ps : List Part) (s t : State) : Prop :=
  (∀ g i j, (∀ f ∈ fs, g.id ≠ f.id) → t.rd g i j = s.rd g i j) ∧ ∀ p, p ∉ ps → p.same s t

/-- The fields that raising an event may change (R449, R450, R457, R464, R465, R513). -/
def eventFields : List Fld :=
  [EA_COUNT_COUNT, EA_CLASS_NOTE, EA_CLASS_HANDLED, EA_CLASS_MARKED, EA_CLASS_FAULT, EA_INJECTED_COUNT,
    EA_FIRST_FAULT_EVENT_ID, EA_FIRST_FAULT_INSTANCE, EA_FIRST_FAULT_VALID, EA_FIRST_TICK_TICK,
    GL_ATTENTION_FAULT_SEEN, GL_ATTENTION_GROUP_SEEN, EV_LOST_COUNT, EV_STATUS_OVERFLOW, NC_HITS_COUNT, TC_HITS_COUNT,
    EC_HITS_COUNT, SQ_COUNT_HITS, DB_HIT_COMPARATOR, DB_HIT_STATE, DB_STATUS_SEQ_STATE, SL_STATUS_STATE]

/-- The pieces of the state that raising an event may change. -/
def eventParts : List Part := [.ev, .dbg, .slices]

/-! What the commands that clear counts clear. -/

/-- The fields that the command reClearCounts clears. -/
def reClearCountsFields : List Fld :=
  [LINES_FETCHED_LINES, VECTORS_EMITTED_VECTORS, SPLICED_VECTORS_VECTORS, UNDERRUN_COUNT_COUNT, TAINT_COUNT_COUNT,
   ABORT_COUNT_COUNT, FORMAT_COUNT_COUNT, SPLICE_ERR_BAD_VALID, SPLICE_ERR_OVERFLOW, SPLICE_LEFTOVER_VECTORS]

/-- The fields that the command cbClearCounts clears. -/
def cbClearCountsFields : List Fld :=
  [RECORDS_MADE_RECORDS, SUMMARY_COUNT_COUNT, DISAGREE_COUNT_COUNT, DELAY_FAULT_COUNT_COUNT,
   WRITE_ERR_REFUSED_WRITES, WRITE_ERR_WRONG_CHANNEL, BURST_COUNT_BURSTS, FAIL_WORDS_COUNT, FAIL_BITS_COUNT,
   COMPARED_COUNT, MISSING_COUNT, UNCOMPARED_COUNT]

/-- The fields that the command slClearCounts clears. -/
def slClearCountsFields : List Fld :=
  [SL_CYCLES_CYCLES, SL_MACS_MACS, SL_STALL_STALL_IN, SL_STALL_STALL_OUT, SL_STEAL_STOLEN]

/-- The fields that the command cfgClearCounts clears. -/
def cfgClearCountsFields : List Fld :=
  [CFG_COUNTS_LOADS_OK, CFG_COUNTS_LOADS_FAILED]

/-- The fields that the command scrubClearCounts clears. -/
def scrubClearCountsFields : List Fld :=
  [SCRUB_PASSES_PASSES, SCRUB_CORRECTED_COUNT, SCRUB_UNCORR_COUNT, RELOAD_COUNT_COUNT, FW_COUNTS_SWITCHES,
   FW_COUNTS_REVERTS]

/-- The fields that the command nrClearCounts clears. -/
def nrClearCountsFields : List Fld :=
  [LINK_FLITS_FLITS, LINK_SUSPEND_CYCLES, LINK_PARITY_PARITY, NR_COUNTS_A_AGED, NR_COUNTS_A_SCH_CONFLICTS,
   NR_COUNTS_B_RETURNS, NR_COUNTS_B_CLOSED_REFUSALS, NR_COUNTS_C_RETRIES, NR_COUNTS_C_TIMEOUTS, NR_COUNTS_C_LATE_RESP]

/-- The fields that the command dcClearCounts clears. -/
def dcClearCountsFields : List Fld :=
  [DC_SCRUB_PASSES_PASSES, DC_SCRUB_PASSES_LATE_PASSES, DC_REFRESH_COUNTS_FALLBACK_MISSED,
   DC_REFRESH_COUNTS_FALLBACK_AGE, DC_REFRESH_MORE_UNSCHEDULED_REFRESH, DC_REFRESH_MORE_PARKED_REFRESH,
   DC_RFM_COUNTS_RFM_ISSUED, DC_RFM_COUNTS_RFM_CARRIED, DC_RFM_COUNTS_RFM_OVERFLOW, DC_CORRECTED_CORRECTED,
   DC_UE_COUNTS_UNCORR, DC_UE_COUNTS_POISON_READS, DC_UE_COUNTS_WB_SKIPPED]

/-- The fields that the command enClearCounts clears. -/
def enClearCountsFields : List Fld :=
  [INTEGRITY_FAILS_COUNT, EN_COUNTS_REFUSALS, EN_COUNTS_REKEY_POISONED]

/-- The fields that the command lgClearCounts clears. -/
def lgClearCountsFields : List Fld :=
  [LG_COUNTS_SLIPS, LG_COUNTS_DESKEW_FAILS, LN_LOCK_LOCK_LOSSES, LN_LOCK_BAD_TYPE, LN_MARKER_BIP_ERRORS,
   LN_MARKER_MARKERS_MISSED]

/-- The fields that the command msClearCounts clears. -/
def msClearCountsFields : List Fld :=
  [MS_COUNTS_UNROUTABLE, MS_COUNTS_REPORTS_DROPPED, LK_ERRORS_CRC_ERRORS, LK_ERRORS_ACK_ERRORS, LK_ERRORS_DUPLICATES,
   LK_ERRORS_OUT_OF_ORDER, LK_REPLAY_REPLAYS, LK_REPLAY_TIMEOUTS, LK_REPLAY_DOWNS, LK_FRAMES_TX_FRAMES,
   LK_FRAMES_RX_FRAMES]

/-- The fields that the command hiClearCounts clears. -/
def hiClearCountsFields : List Fld :=
  [HI_COUNTS_WIDTH_ERRS, HI_COUNTS_EARLY_DOORBELLS, HI_COUNTS_LOST_COMPLETIONS, EV_LOST_COUNT, CR_COUNTS_REJECTED,
   CR_COUNTS_STALL_FRAMES]

/-- The fields that the command dpClearCounts clears. -/
def dpClearCountsFields : List Fld :=
  [DP_COUNTS_ENQ_STALL_FRAMES, DP_COUNTS_JOB_TIMEOUTS, DP_COUNTS_B_LATE_DONE, DP_COUNTS_B_WORKERS_LOST,
   DP_COUNTS_B_DONE_REFUSED, DP_COUNTS_B_UNSCHEDULED_ADVANCE, DELAY_LATE_LATE_JOBS, DELAY_LATE_MAX_LATE,
   WAIT_HIST_COUNT, WK_JOBS_JOBS, WK_COUNTS_TIMEOUTS, WK_COUNTS_RETURNED]

/-- The fields that the command spClearCounts clears. -/
def spClearCountsFields : List Fld :=
  [SP_ECC_CORRECTED, SP_ECC_UNCORR, SP_TEST_COUNTS_PASSES, SP_TEST_COUNTS_TEST_FAILS, SP_TEST_COUNTS_TEST_LATE,
   SP_DENY_COUNT_DENIALS]

/-- The fields that the command ckClearCounts clears. -/
def ckClearCountsFields : List Fld :=
  [CK_COUNTS_SMOULDERS, CK_COUNTS_SWITCHES, CK_DOM_COUNTS_SMOULDERS, CK_DOM_COUNTS_SWITCHES, MON_COUNTS_OUT_OF_BAND,
   MON_COUNTS_LOSSES]

/-- The fields that the command pwClearCounts clears. -/
def pwClearCountsFields : List Fld :=
  [PW_COUNT_REFUSALS, PW_COUNT_ABORTS]

/-- The fields that the command dbClearCounts clears. -/
def dbClearCountsFields : List Fld :=
  [NC_HITS_COUNT, TC_HITS_COUNT, EC_HITS_COUNT, SQ_COUNT_HITS]

/-- The fields that the command eaClearCounts clears. -/
def eaClearCountsFields : List Fld :=
  [EA_COUNT_COUNT, EA_CLASS_NOTE, EA_CLASS_HANDLED, EA_CLASS_MARKED, EA_CLASS_FAULT, EA_INJECTED_COUNT,
   EA_FIRST_FAULT_EVENT_ID, EA_FIRST_FAULT_INSTANCE, EA_FIRST_FAULT_VALID, EA_FIRST_TICK_TICK]

/-- The fields that the command bkClearCounts clears. -/
def bkClearCountsFields : List Fld :=
  [BK_COUNTS_SHUTS, BK_COUNTS_RETRIES, DIAG_COUNTS_OPENS, DIAG_COUNTS_DIAG_MISSED, PIN_STATUS_CONTENTIONS]

/-- The fields that the command dcClearLogs clears. -/
def dcClearLogsFields : List Fld :=
  [UE_LOG_ADDR, UE_LOG_SOURCE, UE_LOG_VALID, UE_LOG_TICK, CE_LOG_ADDR, CE_LOG_DEVICE, CE_LOG_VALID, CE_LOG_TICK]

end Sys2Proof
end

