-- ==== Sys2Proof/Footprint.lean ====
section
/-! DEFINITION. The footprint of each command: the register fields and the pieces of the state that it may change. What
is not in it stays as it is. The footprint of a command takes in what it sets off: an event may count, be recorded, trip
a comparator or a sequencer and halt a slice (eventFields); a pin, a port or a link that closes ends what needs it. -/

namespace Sys2Proof

open Machine Machine.F

/-- An instruction that ends moves on: the fields that it may change. -/
def arriveFields : List Fld :=
  [SL_ITER_ITER, SL_PTR_PC, SL_PTR_P_W, SL_PTR_P_X, SL_PTR_P_Y]

/-- Slices that become idle: the fields that it may change. -/
def idleSlicesFields : List Fld :=
  [SL_ITER_ITER, SL_PTR_PC, SL_PTR_P_W, SL_PTR_P_X, SL_PTR_P_Y, SL_STATUS_STATE]

/-- The dispatcher's counts of jobs: the fields that it may change. -/
def noteJobsFields : List Fld :=
  [DELAY_DEPTH_DEPTH, DELAY_NEXT_TICK, DP_POOL_FREE, DP_POOL_SHARED_FREE, DP_STATUS_BUSY, READY_DEPTH_DEPTH]

/-- Recording a power operation: the fields that it may change. -/
def recordPowerFields : List Fld :=
  [PW_COUNT_ABORTS, PW_COUNT_REFUSALS, PW_LAST_KIND, PW_LAST_REFUSER, PW_LAST_TARGET, PW_LAST_TICK_TICK]

/-- A fix that is cancelled or fails: the fields that it may change. -/
def abortFixFields : List Fld :=
  [CR_COUNTS_REJECTED, CR_STATUS_OUTSTANDING, PF_FIX_TICK_T, PF_RESULT_CHECK_ID, PF_RESULT_CODE, PF_RESULT_DETAIL,
   PF_STATE_STATE]

/-- The result of a load: the fields that it may change. -/
def cfgResultFields : List Fld :=
  [CFG_COUNTS_LOADS_FAILED, CFG_COUNTS_LOADS_OK, CFG_RESULT_CAUSE, CFG_RESULT_CODE, CFG_RESULT_FIELD,
   CR_COUNTS_REJECTED, CR_STATUS_OUTSTANDING]

/-- A region's power state: the fields that it may change. -/
def setPstateFields : List Fld :=
  [PW_BOOST_REGIONS, PW_DAMPED_REGIONS, PW_DARK_REGIONS, RG_BIAS_MEASURED, RG_BIAS_TARGET, RG_STATUS_EDGE_STALE,
   RG_STATUS_PSTATE]

/-- A load that starts: the fields that it may change. -/
def cfgStartFields : List Fld :=
  [CFG_BYTES_BYTES, CFG_FRAMES_FRAMES, CFG_SEGMENT_SEG, CFG_STATUS_ENCRYPTED, CFG_STATUS_FORMAT, CFG_STATUS_ID_RESULT,
   CFG_STATUS_SOURCE, CFG_STATUS_STATE]

/-- A reel that ends before its start: the fields that it may change. -/
def endUnstartedFields : List Fld :=
  [ABORT_COUNT_COUNT, BUFFER_LEVEL_LEVEL, CR_COUNTS_REJECTED, CR_STATUS_OUTSTANDING, RE_STATUS_CAUSE_SEEN,
   RE_STATUS_END_CAUSE, RE_STATUS_STATE, SPLICE_LEFTOVER_VECTORS]

/-- A refused access: the fields that it may change. -/
def refuseFields : List Fld :=
  [DETAIL_LOG_KEY_ID, DETAIL_LOG_OPERATION, DETAIL_LOG_RANGE, DETAIL_LOG_REASON, DETAIL_LOG_STREAM_ID,
   DETAIL_LOG_TICK, DETAIL_LOG_VALID, EN_COUNTS_REFUSALS]

/-- A record that enters a flow: the fields that it may change. -/
def recToFlowFields : List Fld :=
  noteJobsFields ++
   [FLOW_DEPTH_HELD, FLOW_DEPTH_WINDOW, RECORDS_MADE_RECORDS]

/-- The statistics of a port: the fields that it may change. -/
def showStatsFields : List Fld :=
  [STAT_BYTES_BYTES, STAT_CREDIT_WAIT_CYCLES, STAT_HIST_COUNT, STAT_LAT_MAX_CYCLES, STAT_LAT_MIN_CYCLES,
   STAT_LAT_SUM_CYCLES, STAT_MEAN_CYCLES, STAT_PACKETS_PACKETS, STAT_SNAP_TICK_TICK]

/-- The dispatcher's landing buffer served: the fields that it may change. -/
def serveDispatchFields : List Fld :=
  [DELAY_DEPTH_DEPTH, DELAY_NEXT_TICK, DP_POOL_FREE, DP_POOL_SHARED_FREE, DP_STATUS_BUSY, FLOW_DEPTH_HELD,
   FLOW_DEPTH_WINDOW, PORT_FREE_LANDING_FREE, PORT_FREE_RESP_FREE, READY_DEPTH_DEPTH]

/-- The jobs of a lost worker: the fields that it may change. -/
def returnJobsFields : List Fld :=
  noteJobsFields ++
   [FLOW_DEPTH_HELD, FLOW_DEPTH_WINDOW, WK_CFG_STATE, WK_COUNTS_RETURNED, WK_STATUS_IN_FLIGHT]

/-- A reel's operation decoded: the fields that it may change. -/
def decodeOpFields : List Fld :=
  eventFields ++
   [FI_REEL_INJECT_INJ_FORMAT, FORMAT_COUNT_COUNT, RE_STATUS_CAUSE_SEEN, RE_STATUS_END_CAUSE, RE_STATUS_STATE]

/-- An instruction fetched: the fields that it may change. -/
def fetchInsFields : List Fld :=
  eventFields ++
   [SL_FAULT_INFO_FAULTS, SL_FAULT_INFO_FAULT_CODE, SL_FAULT_INFO_FAULT_PC, SL_FAULT_INFO_PARITY_ERRS,
   SL_INJECT_INJ_PROG]

/-- A lane that loses its lock: the fields that it may change. -/
def loseLockFields : List Fld :=
  eventFields ++
   [LG_STATUS_READY, LK_STATUS_STATE, LN_LOCK_LOCK_LOSSES, LN_STATUS_BLOCK_LOCK, LN_STATUS_MARKER_LOCK]

/-- The reservation of a hard block's access: the fields that it may change. -/
def reserveTrafficFields : List Fld :=
  eventFields ++
   [LINK_FLITS_FLITS, LINK_PARITY_PARITY, NR_COUNTS_B_CLOSED_REFUSALS, NR_COUNTS_C_RETRIES, NR_INJECT_INJ_PARITY]

/-- A link that leaves QUIET: the fields that it may change. -/
def wakeLinkFields : List Fld :=
  eventFields ++
   [LG_STATUS_READY, LK_CTRL_QUIET, LK_STATUS_STATE, LN_STATUS_STATE, MS_STATUS_TIME_SOURCE]

/-- A lock lost by injection: the fields that it may change. -/
def performLockFields : List Fld :=
  loseLockFields ++
   [LG_INJECT_INJ_LOCK]

/-- A link's quiet: the fields that it may change. -/
def quietStepFields : List Fld :=
  wakeLinkFields ++
   [LK_FRAMES_TX_FRAMES]

/-- A region's reset: the fields that it may change. -/
def regionResetFields : List Fld :=
  idleSlicesFields ++
   [RG_CTRL_IGNORED, RG_INJECT_EDGE, RG_INJECT_GROUP, RG_INJECT_INJ_BCLK, RG_INJECT_INJ_BIAS, RG_INJECT_INJ_TEMP,
   RG_ROLE_MOVED_COUNT, SL_CYCLES_CYCLES, SL_FAULT_INFO_FAULTS, SL_FAULT_INFO_FAULT_CODE, SL_FAULT_INFO_FAULT_PC,
   SL_FAULT_INFO_PARITY_ERRS, SL_INJECT_INJ_OPMEM, SL_INJECT_INJ_PROG, SL_MACS_MACS, SL_STALL_STALL_IN,
   SL_STALL_STALL_OUT, SL_STATUS_CMD_IGNORED, SL_STATUS_OVF0, SL_STATUS_OVF1, SL_STATUS_STORE_SAT, SL_STEAL_STOLEN]

/-- A vector emitted: the fields that it may change. -/
def emitOpFields : List Fld :=
  eventFields ++
   [BUFFER_LEVEL_LEVEL, FORMAT_COUNT_COUNT, RE_STATUS_CAUSE_SEEN, RE_STATUS_END_CAUSE, RE_STATUS_STATE, VCYCLE_VC,
   VECTORS_EMITTED_VECTORS]

/-- An acknowledgement taken: the fields that it may change. -/
def afterAckFields : List Fld :=
  quietStepFields ++
   [LK_SEQ_NEXT_SEQ, MS_INJECT_INJ_CRC]

/-- A packet that enters a link: the fields that it may change. -/
def enqueuePktFields : List Fld :=
  wakeLinkFields ++
   [LK_FRAMES_TX_FRAMES, LK_SEQ_NEXT_SEQ, MS_INJECT_INJ_CRC]

/-- A region held: the fields that it may change. -/
def holdRegionFields : List Fld :=
  regionResetFields ++
   [RG_CLK_STATUS_RUNNING, RG_STATUS_EDGE_STALE]

/-- A response sent into the mesh: the fields that it may change. -/
def sendResponseFields : List Fld :=
  enqueuePktFields ++
   [MS_COUNTS_UNROUTABLE]

/-- A hard block's access that ends: the fields that it may change. -/
def endAccessFields : List Fld :=
  eventFields ++ showStatsFields ++
   [NR_COUNTS_C_LATE_RESP, NR_COUNTS_C_TIMEOUTS]

/-- Waiting scratchpad accesses: the fields that it may change. -/
def servePadFields : List Fld :=
  eventFields ++
   [PORT_FREE_LANDING_FREE, PORT_FREE_RESP_FREE, SP_DENY_COUNT_DENIALS, SP_DENY_LOG_CLASS, SP_DENY_LOG_KIND,
   SP_DENY_LOG_OFFSET, SP_DENY_LOG_STREAM_ID, SP_DENY_LOG_VALID, SP_ECC_CORRECTED, SP_ECC_UNCORR,
   SP_INJECT_INJ_ECC1, SP_INJECT_INJ_ECC2]

/-- A frame of a link taken: the fields that it may change. -/
def takeFrameFields : List Fld :=
  afterAckFields ++
   [LK_ERRORS_ACK_ERRORS, LK_ERRORS_CRC_ERRORS, LK_SEQ_ACK_RX, LN_LOCK_BAD_TYPE]

/-- A packet without a route: the fields that it may change. -/
def unroutableFields : List Fld :=
  sendResponseFields ++
   [CR_COUNTS_REJECTED, CR_STATUS_OUTSTANDING, MS_COUNTS_REPORTS_DROPPED]

/-- A worker lost: the fields that it may change. -/
def workerLostFields : List Fld :=
  eventFields ++ returnJobsFields ++
   [DP_COUNTS_B_WORKERS_LOST]

/-- A line written: the fields that it may change. -/
def writeLineFields : List Fld :=
  eventFields ++ refuseFields ++
   [DC_RFM_COUNTS_RFM_OVERFLOW, DC_STATUS_RFM_LEVEL, DC_STATUS_WB_LEVEL, FI_MISC_INJECT_INJ_RFM_FULL]

/-- A link that goes down: the fields that it may change. -/
def linkDownFields : List Fld :=
  unroutableFields ++
   [LK_ERRORS_CRC_ERRORS, LK_REPLAY_DOWNS]

/-- A word time without a response: the fields that it may change. -/
def missingWordFields : List Fld :=
  eventFields ++
   [BURST_COUNT_BURSTS, BURST_FAILS_COUNT, CB_INJECT_INJ_DISAGREE, CB_STATUS_BP, CB_STATUS_COMPARING,
   CB_STATUS_DELAY_BROKEN, CB_STATUS_DRAINING, CB_STATUS_SEEN, CB_STATUS_SUMMARY, COMPARED_COUNT,
   DELAY_FAULT_COUNT_COUNT, DISAGREE_COUNT_COUNT, FAIL_BITS_COUNT, FAIL_WORDS_COUNT, FIFO_LEVEL_LEVEL, MISSING_COUNT]

/-- A line read and decoded: the fields that it may change. -/
def decodeLineFields : List Fld :=
  eventFields ++
   [CE_LOG_ADDR, CE_LOG_DEVICE, CE_LOG_TICK, CE_LOG_VALID, DC_CORRECTED_CORRECTED, DC_INJECT_INJ_CE, DC_INJECT_INJ_UE,
   DC_RFM_COUNTS_RFM_OVERFLOW, DC_STATUS_RFM_LEVEL, DC_STATUS_WB_LEVEL, DC_UE_COUNTS_POISON_READS,
   DC_UE_COUNTS_UNCORR, DC_UE_COUNTS_WB_SKIPPED, FI_MISC_INJECT_INJ_RFM_FULL, UE_LOG_ADDR, UE_LOG_SOURCE,
   UE_LOG_TICK, UE_LOG_VALID]

/-- A slip of an elastic buffer: the fields that it may change. -/
def elasticSlipFields : List Fld :=
  missingWordFields ++
   [LG_COUNTS_SLIPS, LN_STATUS_ELASTIC]

/-- A load that fails: the fields that it may change. -/
def cfgFailFields : List Fld :=
  eventFields ++ cfgResultFields ++
   [CFG_ERR_POS_OFFSET, CFG_LOADED_REGIONS, CFG_RELEASE_TICK_TICK, CFG_STATUS_STATE, CFG_TIME_CYCLES,
   RG_STATUS_CONFIGURED, RG_STATUS_EDGE_STALE, RG_STATUS_SWAP, SCRUB_STATUS_RELOAD_ACTIVE, SWAP_STATUS_CAUSE,
   SWAP_STATUS_CODE, SWAP_STATUS_STATE, SWAP_TICK_TICK]

/-- The wipe of the ember region: the fields that it may change. -/
def emberWipeFields : List Fld :=
  eventFields ++
   [EN_STATUS_REKEY_ACTIVE, EN_STATUS_REKEY_ID, EN_STATUS_RETIRE_QUEUE, EN_STATUS_SEALED_ANY, KEY_STATE_MODE,
   KEY_STATE_RANGES, KEY_STATE_STATE, KEY_STATE_TARGET, RANGE_STATUS_STATE, SLOT_STATE_CONFIG, SLOT_STATE_MEMORY,
   SLOT_STATE_REVOKE_BIT, SLOT_STATE_STATE, SP_STATUS_TESTING, SP_STATUS_WIPING, SP_TEST_COUNTS_PASSES,
   SP_TEST_POS_BLOCK, SP_WIPE_LAST_CAUSE, SP_WIPE_TICK_TICK, SP_WIPE_WIPES]

/-- A load aborted: the fields that it may change. -/
def cfgAbortFields : List Fld :=
  cfgFailFields ++
   [CFG_FRAMES_FRAMES]

/-- Tamper sensors that fire: the fields that it may change. -/
def fireSensorsFields : List Fld :=
  emberWipeFields ++
   [TP_COUNTS_COUNTS, TP_LAST_SENSORS, TP_LAST_TICK_TICK]

/-- The lines of a flush window: the fields that it may change. -/
def flushOpenFields : List Fld :=
  endAccessFields ++
   [CB_STATUS_DRAINING, CB_STATUS_RING_FULL, CM_WR_INDEX, DC_RFM_COUNTS_RFM_OVERFLOW, DC_STATUS_RFM_LEVEL,
   DC_STATUS_WB_LEVEL, DELAY_DEPTH_DEPTH, DELAY_NEXT_TICK, DETAIL_LOG_KEY_ID, DETAIL_LOG_OPERATION,
   DETAIL_LOG_RANGE, DETAIL_LOG_REASON, DETAIL_LOG_STREAM_ID, DETAIL_LOG_TICK, DETAIL_LOG_VALID, DP_POOL_FREE,
   DP_POOL_SHARED_FREE, DP_STATUS_BUSY, EN_COUNTS_REFUSALS, FIFO_LEVEL_LEVEL, FI_MISC_INJECT_INJ_RFM_FULL,
   FLOW_DEPTH_HELD, FLOW_DEPTH_WINDOW, LINK_FLITS_FLITS, LINK_PARITY_PARITY, NR_INJECT_INJ_PARITY,
   NR_INJECT_INJ_TIMEOUT, READY_DEPTH_DEPTH, WRITE_ERR_REFUSED_WRITES]

/-- A power operation that goes on: the fields that it may change. -/
def powerAdvanceFields : List Fld :=
  eventFields ++
   [CR_COUNTS_REJECTED, CR_STATUS_OUTSTANDING, FI_MISC_INJECT_INJ_TRAIN_TIMEOUT, HM_STATUS_CORE_STATE,
   LG_STATUS_PLL_STATE, LG_STATUS_READY, LK_CTRL_QUIET, LK_ERRORS_CRC_ERRORS, LK_FRAMES_TX_FRAMES, LK_REPLAY_DOWNS,
   LK_SEQ_NEXT_SEQ, LK_STATUS_STATE, LN_EYE_CTRL_BUSY, LN_EYE_RESULT_ERRORS, LN_PRBS_CTRL_RX_LOCK, LN_SKEW_SKEW,
   LN_STATUS_BLOCK_LOCK, LN_STATUS_ELASTIC, LN_STATUS_MARKER_LOCK, LN_STATUS_STATE, MS_COUNTS_REPORTS_DROPPED,
   MS_COUNTS_UNROUTABLE, MS_INJECT_INJ_CRC, MS_STATUS_TIME_SOURCE, NR_COUNTS_B_CLOSED_REFUSALS, NR_COUNTS_C_RETRIES,
   NR_STATUS_PORT_STATE, PORT_FREE_LANDING_FREE, PORT_FREE_RESP_FREE, PW_BOOST_REGIONS, PW_DAMPED_REGIONS,
   PW_DARK_REGIONS, PW_STATUS_BUSY, PW_STATUS_DEVICE_STATE, PW_STATUS_QUEUED, RG_BIAS_MEASURED, RG_BIAS_TARGET,
   RG_CLK_STATUS_RUNNING, RG_STATUS_EDGE_STALE, RG_STATUS_PSTATE]

/-- The requests that a DDR channel serves: the fields that it may change. -/
def serveAboveFields : List Fld :=
  eventFields ++
   [CE_LOG_ADDR, CE_LOG_DEVICE, CE_LOG_TICK, CE_LOG_VALID, DC_CORRECTED_CORRECTED, DC_INJECT_INJ_CE, DC_INJECT_INJ_UE,
   DC_REFRESH_COUNTS_FALLBACK_AGE, DC_REFRESH_COUNTS_FALLBACK_MISSED, DC_REFRESH_MORE_PARKED_REFRESH,
   DC_REFRESH_MORE_UNSCHEDULED_REFRESH, DC_RFM_COUNTS_RFM_OVERFLOW, DC_STATUS_RFM_LEVEL, DC_STATUS_WB_LEVEL,
   DC_UE_COUNTS_POISON_READS, DC_UE_COUNTS_UNCORR, DC_UE_COUNTS_WB_SKIPPED, DETAIL_LOG_KEY_ID, DETAIL_LOG_OPERATION,
   DETAIL_LOG_RANGE, DETAIL_LOG_REASON, DETAIL_LOG_STREAM_ID, DETAIL_LOG_TICK, DETAIL_LOG_VALID, EN_COUNTS_REFUSALS,
   EN_INJECT_INJ_TAG, FAIL_LOG_ADDR, FAIL_LOG_CHANNEL, FAIL_LOG_KEY_ID, FAIL_LOG_SEQ_TAG, FAIL_LOG_STREAM_ID,
   FAIL_LOG_TICK, FAIL_LOG_VALID, FI_MISC_INJECT_INJ_RFM_FULL, INTEGRITY_FAILS_COUNT, PORT_FREE_LANDING_FREE,
   PORT_FREE_RESP_FREE, UE_LOG_ADDR, UE_LOG_SOURCE, UE_LOG_TICK, UE_LOG_VALID]

/-- A power operation aborted: the fields that it may change. -/
def powerAbortFields : List Fld :=
  powerAdvanceFields ++ recordPowerFields

/-- A clock that degrades: the fields that it may change. -/
def degradeClockFields : List Fld :=
  flushOpenFields ++
   [ALIGN_CTRL_ARM, ALIGN_STATUS_STATE, CK_STATUS_CAUSE, CK_STATUS_CORE_ON_CPLL, CK_STATUS_DEGRADED,
   FI_TICK_INJECT_INJ_OVERRUN, OVERRUN_COUNT_OVERRUNS, RG_CLK_STATUS_RUNNING]

/-- A window closed: the fields that it may change. -/
def closeApplyFields : List Fld :=
  degradeClockFields ++
   [CK_DOM_STATE, FIX_COUNT_FIXES, LAST_FIX_TICK_TICK]

/-- A hard block's write: the fields that it may change. -/
def blockWriteFields : List Fld :=
  endAccessFields ++ reserveTrafficFields ++ serveAboveFields ++
   [NR_INJECT_INJ_TIMEOUT]

/-- endChange: the fields that it may change. -/
def endChangeFields : List Fld :=
  powerAdvanceFields ++ regionResetFields ++
   [CFG_LOADED_REGIONS, RG_STATUS_CONFIGURED]

/-- Core cycles that pass: the fields that it may change. -/
def passToFields : List Fld :=
  endChangeFields ++ servePadFields ++
   [FRAME_OFFSET_OFFSET]

/-- A DEBUG_READ that ends: the fields that it may change. -/
def endDebugFields : List Fld :=
  eventFields ++
   [CE_LOG_ADDR, CE_LOG_DEVICE, CE_LOG_TICK, CE_LOG_VALID, CR_COUNTS_REJECTED, CR_STATUS_OUTSTANDING,
   DC_CORRECTED_CORRECTED, DC_INJECT_INJ_CE, DC_INJECT_INJ_UE, DC_REFRESH_COUNTS_FALLBACK_AGE,
   DC_REFRESH_COUNTS_FALLBACK_MISSED, DC_REFRESH_MORE_PARKED_REFRESH, DC_REFRESH_MORE_UNSCHEDULED_REFRESH,
   DC_RFM_COUNTS_RFM_OVERFLOW, DC_STATUS_RFM_LEVEL, DC_STATUS_WB_LEVEL, DC_UE_COUNTS_POISON_READS,
   DC_UE_COUNTS_UNCORR, DC_UE_COUNTS_WB_SKIPPED, DETAIL_LOG_KEY_ID, DETAIL_LOG_OPERATION, DETAIL_LOG_RANGE,
   DETAIL_LOG_REASON, DETAIL_LOG_STREAM_ID, DETAIL_LOG_TICK, DETAIL_LOG_VALID, EN_COUNTS_REFUSALS,
   EN_INJECT_INJ_TAG, FAIL_LOG_ADDR, FAIL_LOG_CHANNEL, FAIL_LOG_KEY_ID, FAIL_LOG_SEQ_TAG, FAIL_LOG_STREAM_ID,
   FAIL_LOG_TICK, FAIL_LOG_VALID, FI_MISC_INJECT_INJ_RFM_FULL, INTEGRITY_FAILS_COUNT, LG_STATUS_READY,
   LINK_FLITS_FLITS, LINK_PARITY_PARITY, LK_CTRL_QUIET, LK_FRAMES_TX_FRAMES, LK_SEQ_NEXT_SEQ, LK_STATUS_STATE,
   LN_STATUS_STATE, MS_COUNTS_REPORTS_DROPPED, MS_COUNTS_UNROUTABLE, MS_INJECT_INJ_CRC, MS_STATUS_TIME_SOURCE,
   NR_COUNTS_B_CLOSED_REFUSALS, NR_COUNTS_C_LATE_RESP, NR_COUNTS_C_RETRIES, NR_COUNTS_C_TIMEOUTS,
   NR_INJECT_INJ_PARITY, NR_INJECT_INJ_TIMEOUT, PORT_FREE_LANDING_FREE, PORT_FREE_RESP_FREE, SCRUB_STATUS_BORROWED,
   SP_DENY_COUNT_DENIALS, SP_DENY_LOG_CLASS, SP_DENY_LOG_KIND, SP_DENY_LOG_OFFSET, SP_DENY_LOG_STREAM_ID,
   SP_DENY_LOG_VALID, SP_ECC_CORRECTED, SP_ECC_UNCORR, SP_INJECT_INJ_ECC1, SP_INJECT_INJ_ECC2, STAT_BYTES_BYTES,
   STAT_CREDIT_WAIT_CYCLES, STAT_HIST_COUNT, STAT_LAT_MAX_CYCLES, STAT_LAT_MIN_CYCLES, STAT_LAT_SUM_CYCLES,
   STAT_MEAN_CYCLES, STAT_PACKETS_PACKETS, STAT_SNAP_TICK_TICK, UE_LOG_ADDR, UE_LOG_SOURCE, UE_LOG_TICK,
   UE_LOG_VALID]

/-- An operation stopped: the fields that it may change. -/
def stopOpFields : List Fld :=
  cfgAbortFields ++ endDebugFields ++
   [FW_STATUS_VALID_A, FW_STATUS_VALID_B]

/-- A reset of the host's link: the fields that it may change. -/
def linkResetFields : List Fld :=
  stopOpFields ++
   [CQ_BASE_ADDR, CQ_RD_INDEX, CQ_WR_INDEX, CR_BASE_ADDR, CR_CFG_ENABLE, CR_CFG_PROXY, CR_CFG_SIZE_LOG2, CR_CFG_VECTOR,
   CR_CONS_INDEX, CR_COUNTS_STALL_FRAMES, CR_IRQ_COUNT, CR_IRQ_TIME, CR_PROD_INDEX, CR_STATUS_CFG_ERR,
   CR_STATUS_DB_ERR, CR_STATUS_HALT_WRITE, CR_STATUS_RD_ERR, CR_STATUS_STATE, EV_BASE_ADDR, EV_CFG_ENABLE,
   EV_CFG_SIZE_LOG2, EV_CFG_VECTOR, EV_RD_INDEX, EV_STATUS_CFG_ERR, EV_STATUS_RD_ERR, EV_STATUS_RUNNING,
   EV_WR_INDEX, HI_ACCESS_LOG_BAR, HI_ACCESS_LOG_BYTE_EN, HI_ACCESS_LOG_KIND, HI_ACCESS_LOG_OFFSET,
   HI_COUNTS_EARLY_DOORBELLS, HI_COUNTS_LOST_COMPLETIONS, HI_COUNTS_WIDTH_ERRS, HI_INJECT_INJ_DOORBELL,
   HI_INJECT_INJ_FETCH, HI_INJECT_RING, HI_STATUS_READY, HI_STATUS_SPEED, HI_STATUS_WIDTH, PX_BACK_ROUTE,
   PX_CFG_BACK_LEN, PX_CFG_DST, PX_CFG_OUT_LEN, PX_CFG_SRC_ROUTED, PX_CFG_TIMEOUT_EXP, PX_OUT_ROUTE]

/-- Pins that change hands: the fields that it may change. -/
def pinsGoFields : List Fld :=
  linkDownFields ++ linkResetFields ++ loseLockFields ++
   [HI_STATUS_LINK_UP, MS_STATUS_GATEWAY]

/-- An instruction of the TAP selected: the fields that it may change. -/
def selectIrFields : List Fld :=
  pinsGoFields ++
   [DB_STATUS_INSTRUCTION, FI_MISC_INJECT_INJ_TRAIN_TIMEOUT, SP_STATUS_EMBER_MODE]

/-- An instruction of the TAP loaded: the fields that it may change. -/
def loadIrFields : List Fld :=
  selectIrFields ++
   [DB_STATUS_PIN_REFUSED]

/-- Every field of the register map. -/
def mapFields : List Fld := regTable.flatMap fun r => r.fields

/-- Every piece of the state but the queue. -/
def allParts : List Part :=
  [.tickWrites, .latches, .lowHalves, .drawn, .sched, .ev, .tick, .ops, .ready, .hostMem, .stage, .dbg, .scratch,
   .reels, .dram, .catches, .ddr, .records, .dramTags, .dramBad, .dramPoison, .dramWhole, .enc, .noc, .disp,
   .sp, .regions, .slices, .frames, .frameDyn, .frameCode, .frameBad, .cfg, .flash, .lanes, .groups, .clk,
   .mesh, .host, .pw, .io, .boot]

/-- What a command does to the rest of the device, as the statements group the commands: windows and staging, the tick
boundary, reels and catch blocks, slices and regions, loads, memory and the on-chip network, links, the host and the
dispatcher, management, power, boot and pins, debug, injection, accesses to any register, resets. -/
inductive Family where
  | staging | boundary | streams | slices | loading | memory | links | host | management | debug | injection | access
  | reset
  deriving DecidableEq, Repr

/-- The family of a command. -/
def Instr.family : Instr → Family
  | .registerWrite .. => .access
  | .pairLowRead .. => .staging
  | .rwfWrite .. => .access
  | .tick => .boundary
  | .frameLogRead .. => .staging
  | .reelFetchWindow .. => .staging
  | .catchFlushWindow .. => .staging
  | .nocSlotWindow .. => .staging
  | .ddrRefreshWindow .. => .staging
  | .ddrRfmSpareWindow .. => .staging
  | .ddrScrubWindow .. => .staging
  | .dispatchAdvanceWindow .. => .staging
  | .ioDiagWindow .. => .staging
  | .windowClose .. => .staging
  | .syncMark .. => .boundary
  | .syncMarkMissed => .staging
  | .alignArm .. => .staging
  | .alignModeChange => .staging
  | .proofLoad .. => .staging
  | .proofLoadDone => .staging
  | .proofCheck .. => .staging
  | .proofCheckDone .. => .staging
  | .fix .. => .staging
  | .fixCancel .. => .staging
  | .fixCancelLatch => .staging
  | .proofDiscard .. => .staging
  | .finalCheck => .staging
  | .fixApply .. => .boundary
  | .fuseProgramDone => .staging
  | .reelStart .. => .streams
  | .reelAbort .. => .streams
  | .reelAbortLatch .. => .streams
  | .reelPrefetchStart .. => .streams
  | .reelStartTick .. => .streams
  | .reelNaturalCompletion .. => .streams
  | .pad .. => .streams
  | .literal .. => .streams
  | .repeatVector .. => .streams
  | .repeatBlock .. => .streams
  | .dict .. => .streams
  | .splice .. => .streams
  | .stop .. => .streams
  | .spliceWrite .. => .streams
  | .reelUnderrun .. => .streams
  | .substitutionStart .. => .streams
  | .holdReached .. => .streams
  | .reelHolding .. => .streams
  | .reClearCounts .. => .streams
  | .flushDict .. => .streams
  | .responseWord .. => .streams
  | .missingResponse .. => .streams
  | .delayShadowCheck .. => .streams
  | .recordToFlow .. => .streams
  | .pendingSummaryRelease .. => .streams
  | .burstEnd .. => .streams
  | .cmRdWrite .. => .streams
  | .strobeRelease .. => .streams
  | .cbClearCounts .. => .streams
  | .fabricReset .. => .slices
  | .tempReading .. => .slices
  | .biasFault .. => .slices
  | .sliceStart .. => .slices
  | .sliceStop .. => .slices
  | .sliceContinue .. => .slices
  | .sliceNop .. => .slices
  | .mac .. => .slices
  | .repeat_ .. => .slices
  | .store .. => .slices
  | .setp .. => .slices
  | .halt .. => .slices
  | .sliceMemAccess .. => .slices
  | .sliceInputWord .. => .slices
  | .sliceOutputTake .. => .slices
  | .slClearCounts .. => .slices
  | .configLoad .. => .loading
  | .configHeader .. => .loading
  | .configClearDone => .loading
  | .configSegment .. => .loading
  | .cfgNop => .loading
  | .regionSelect => .loading
  | .writeFrame => .loading
  | .repeatFrame => .loading
  | .check => .loading
  | .fixAtTick => .loading
  | .keyRoll => .loading
  | .cfgEnd => .loading
  | .frameCommit => .loading
  | .configRelease .. => .loading
  | .configAbort => .loading
  | .configAbortLatch => .loading
  | .cfgClearCounts => .loading
  | .swapDrained .. => .loading
  | .swapDrainForced .. => .loading
  | .swapLoadStart .. => .loading
  | .swapOpen .. => .loading
  | .scrubStep => .loading
  | .autoReloadStart .. => .loading
  | .scrubClearCounts => .loading
  | .fwWrite .. => .loading
  | .fwCoreRestart .. => .loading
  | .fwSelfCheck .. => .loading
  | .fwCommitRetry => .loading
  | .fabricRequest .. => .memory
  | .reserve .. => .memory
  | .grant .. => .memory
  | .reserveRetry .. => .memory
  | .readReq .. => .memory
  | .writeReq .. => .access
  | .readResp .. => .memory
  | .writeResp .. => .memory
  | .return_ .. => .memory
  | .revoke .. => .memory
  | .release .. => .memory
  | .nocTimeout .. => .memory
  | .priorityAging .. => .memory
  | .portDrained .. => .memory
  | .statSnap .. => .memory
  | .statClear .. => .memory
  | .nrClearCounts .. => .memory
  | .fallbackRefresh .. => .memory
  | .mr4Read .. => .memory
  | .writeBack .. => .memory
  | .trainingPass .. => .memory
  | .selfRefreshExitDone .. => .memory
  | .trainRecord .. => .memory
  | .ddrRepair .. => .memory
  | .ddrRepairDone .. => .memory
  | .dcClearCounts .. => .memory
  | .dcClearLogs .. => .memory
  | .lateAlarm => .memory
  | .keyLoad .. => .memory
  | .keyErase .. => .memory
  | .keyRetire .. => .memory
  | .keyOpComplete => .memory
  | .refusalAnswer .. => .memory
  | .rekeyWalkStart => .memory
  | .rekeyLine => .memory
  | .keyRetired => .memory
  | .enClearCounts => .memory
  | .laneTrained .. => .links
  | .laneTrainTimeout .. => .links
  | .alignMarkerReceived .. => .links
  | .alignMarkerMissed .. => .links
  | .laneLockLost .. => .links
  | .laneElasticSlip .. => .links
  | .prbsTxEn .. => .links
  | .prbsRxEn .. => .links
  | .eyeScanStart .. => .links
  | .eyeScanDone .. => .links
  | .lgClearCounts .. => .links
  | .meshPacketFrame .. => .links
  | .ackBlock .. => .links
  | .helloFrame .. => .links
  | .helloSend .. => .links
  | .helloTimeout .. => .links
  | .setNotReadyTimeout .. => .links
  | .replayTimeout .. => .links
  | .quietFrame .. => .links
  | .timeFrameSend .. => .links
  | .timeFrame .. => .boundary
  | .timeFrameMissed => .links
  | .meshReportSend => .links
  | .meshReportPacket => .links
  | .meshDataRequest => .links
  | .meshDataResponse => .links
  | .meshHostPacket => .links
  | .lkQuiet .. => .links
  | .lkReset .. => .links
  | .msReportRdWrite .. => .links
  | .msClearCounts => .links
  | .commandDoorbell .. => .host
  | .completionDoorbell .. => .host
  | .eventDoorbell .. => .host
  | .descriptorConsume .. => .host
  | .outcomeLatch .. => .host
  | .completionWrite .. => .host
  | .msixTimer .. => .host
  | .eventRecordWrite => .host
  | .ringEnable .. => .host
  | .ringDisable .. => .host
  | .ringResume .. => .host
  | .eventRingEnable .. => .host
  | .hiClearCounts => .host
  | .linkResetCmd .. => .host
  | .d3hotEntry => .host
  | .proxyTimeout .. => .host
  | .nop .. => .host
  | .dmaMove .. => .host
  | .dmaMoveDone .. => .host
  | .debugRead .. => .host
  | .abortOp .. => .host
  | .hostAbortLatch .. => .host
  | .dispatchEnqueue .. => .host
  | .jobDispatch => .host
  | .doneMessage .. => .host
  | .dispatchJobTimeout .. => .host
  | .jobRelease .. => .host
  | .workerRegistration .. => .host
  | .dpClearCounts => .host
  | .slotProvision .. => .management
  | .watchdogKick .. => .management
  | .watchdogExpiry .. => .management
  | .coreRestartDone .. => .management
  | .scratchpadAccess .. => .management
  | .testStep .. => .management
  | .testStepEnd => .management
  | .emberWipeDone => .management
  | .spClearCounts => .management
  | .monitorWindow .. => .management
  | .monitorEdgeLoss .. => .management
  | .pllLockLoss .. => .management
  | .pllRelock .. => .management
  | .rampStep .. => .management
  | .rampEnd .. => .management
  | .trimWindow .. => .management
  | .ckClearCounts => .management
  | .powerRequest .. => .management
  | .powerCheck => .management
  | .biasSettledCmd .. => .management
  | .powerDrainTimeout => .management
  | .pwClearCounts => .management
  | .tamperSensorFire .. => .management
  | .tapReset => .debug
  | .extest .. => .debug
  | .samplePreload .. => .debug
  | .extestPulse .. => .debug
  | .extestTrain .. => .debug
  | .clamp => .debug
  | .highz => .debug
  | .idcode => .debug
  | .bypass .. => .debug
  | .cfgIn .. => .debug
  | .cfgStatus => .debug
  | .dbgReg .. => .access
  | .dbgMem .. => .debug
  | .dbgAttach .. => .debug
  | .debugAccessDone .. => .debug
  | .dbHalt => .debug
  | .dbResume => .debug
  | .dbStep => .debug
  | .runControlLatch => .debug
  | .haltedEntry => .debug
  | .seqArm .. => .debug
  | .dbClearCounts => .debug
  | .daAttach .. => .debug
  | .daDetach .. => .debug
  | .daHalt .. => .debug
  | .daStep .. => .debug
  | .daRelease .. => .debug
  | .daRead .. => .debug
  | .daWrite .. => .debug
  | .daAck .. => .debug
  | .daTimeout => .debug
  | .checkerTest .. => .injection
  | .eaClearCounts => .injection
  | .injDisagree .. => .injection
  | .injDelay .. => .injection
  | .injTemp .. => .injection
  | .injBias .. => .injection
  | .injBclk .. => .injection
  | .injOpmem .. => .injection
  | .injProg .. => .injection
  | .injAuth .. => .injection
  | .injCheck .. => .injection
  | .injSingle .. => .injection
  | .injDouble .. => .injection
  | .injParity .. => .injection
  | .nrInjTimeout .. => .injection
  | .injCe .. => .injection
  | .injUe .. => .injection
  | .injRefmiss .. => .injection
  | .injTag .. => .injection
  | .injRefuse .. => .injection
  | .injBip .. => .injection
  | .injLock .. => .injection
  | .injSlip .. => .injection
  | .injCrc .. => .injection
  | .injAckDrop .. => .injection
  | .injTimeMiss .. => .injection
  | .injFetch .. => .injection
  | .injDoorbell .. => .injection
  | .dpInjTimeout .. => .injection
  | .injLost .. => .injection
  | .injEcc1 .. => .injection
  | .injEcc2 .. => .injection
  | .injMarch .. => .injection
  | .injLoss .. => .injection
  | .injBand .. => .injection
  | .injDrain .. => .injection
  | .tpInjSensor .. => .injection
  | .injOverrun .. => .injection
  | .injSyncMiss .. => .injection
  | .injUnderrun .. => .injection
  | .injFormat .. => .injection
  | .injSplice .. => .injection
  | .injCmpCheck .. => .injection
  | .injDlyCheck .. => .injection
  | .injMonitor .. => .injection
  | .fiInjSensor .. => .injection
  | .injWatchdog .. => .injection
  | .injSchConflict .. => .injection
  | .injMr4 .. => .injection
  | .injRfmFull .. => .injection
  | .injDeskew .. => .injection
  | .injTrainTimeout .. => .injection
  | .injSlow .. => .injection
  | .porAssert .. => .reset
  | .porEnd .. => .reset
  | .devrstN => .reset
  | .deviceResetCmd .. => .reset
  | .perstNRise => .management
  | .bootClock .. => .management
  | .bootDirectory .. => .management
  | .bootImage .. => .management
  | .bootMemory .. => .management
  | .bootKeys => .management
  | .bootFabric => .management
  | .bootService .. => .management
  | .bootWaitImage => .management
  | .bootWatchdog => .reset
  | .vccoMeasure .. => .management
  | .contentionDetect .. => .management
  | .pinRetry .. => .management
  | .senseTest .. => .management
  | .strobeOpenCheck .. => .management
  | .bkClearCounts .. => .management
  | .blockLockAcquired .. => .links
  | .prbsCheckerSync .. => .links
  | .pcieLinkUp .. => .host
  | .ddrSelfRefreshEntered .. => .management
  | .failPortSnapshot .. => .streams
  | .biasFaultCleared .. => .slices
  | .linkSignalDetected .. => .links

/-- The register fields that a command may change. A TICK, SYNC_MARK, TIME_FRAME or FIX_APPLY may change also those
of the writes that waited for it; an access to the registers, those of the register that it names. A reset may change any. -/
def Instr.writes : Instr → List Fld
  | .registerWrite .. => eventFields ++
    [HI_ACCESS_LOG_BAR, HI_ACCESS_LOG_BYTE_EN, HI_ACCESS_LOG_KIND, HI_ACCESS_LOG_OFFSET, HI_COUNTS_WIDTH_ERRS,
     PF_STATE_OWNER, PF_STATE_STATE]
  | .pairLowRead .. => []
  | .rwfWrite .. => eventFields ++
    [HI_ACCESS_LOG_BAR, HI_ACCESS_LOG_BYTE_EN, HI_ACCESS_LOG_KIND, HI_ACCESS_LOG_OFFSET, HI_COUNTS_WIDTH_ERRS,
     PF_STATE_OWNER, PF_STATE_STATE]
  | .tick => abortFixFields ++ closeApplyFields ++ endUnstartedFields ++ passToFields ++ powerAbortFields ++ recToFlowFields ++ serveAboveFields ++ serveDispatchFields ++
    [BK_COUNTS_RETRIES, BK_SHUT_PINS, BUFFER_LEVEL_MIN_LEVEL, CB_STATUS_SUMMARY, CB_STATUS_SUMMARY_PENDING,
     CHANGE_LOG_ENTRY, CR_COUNTS_STALL_FRAMES, DB_HALT_TICK_TICK, DB_STATUS_CORES_HALTED, DB_STATUS_RC_STATE,
     DELAY_LATE_LATE_JOBS, DELAY_LATE_MAX_LATE, DP_COUNTS_B_UNSCHEDULED_ADVANCE, DP_COUNTS_ENQ_STALL_FRAMES,
     FIFO_LEVEL_MAX_LEVEL, FRAME_LOG_ENTRY, FRAME_RECORDS_CAUSES, FRAME_RECORDS_OPENED, HI_STATUS_READY,
     LOG_STATUS_LOG_LOST, LOG_STATUS_WR_INDEX, PIN_STATUS_DIAG, PIN_STATUS_SHUT, SCHED_POS_INDEX,
     SUMMARY_COUNT_COUNT, TICK_NOW_TICK, WK_BUSY_F1, WK_BUSY_F16, WK_BUSY_F256]
  | .frameLogRead .. => []
  | .reelFetchWindow .. => endAccessFields ++ endUnstartedFields ++ passToFields ++
    [CE_LOG_ADDR, CE_LOG_DEVICE, CE_LOG_TICK, CE_LOG_VALID, DC_CORRECTED_CORRECTED, DC_INJECT_INJ_CE,
     DC_INJECT_INJ_UE, DC_RFM_COUNTS_RFM_OVERFLOW, DC_STATUS_RFM_LEVEL, DC_STATUS_WB_LEVEL,
     DC_UE_COUNTS_POISON_READS, DC_UE_COUNTS_UNCORR, DC_UE_COUNTS_WB_SKIPPED, DETAIL_LOG_KEY_ID,
     DETAIL_LOG_OPERATION, DETAIL_LOG_RANGE, DETAIL_LOG_REASON, DETAIL_LOG_STREAM_ID, DETAIL_LOG_TICK,
     DETAIL_LOG_VALID, DICT_ID_LOADED_DICT_ID, EN_COUNTS_REFUSALS, EN_INJECT_INJ_TAG, FAIL_LOG_ADDR,
     FAIL_LOG_CHANNEL, FAIL_LOG_KEY_ID, FAIL_LOG_SEQ_TAG, FAIL_LOG_STREAM_ID, FAIL_LOG_TICK, FAIL_LOG_VALID,
     FI_MISC_INJECT_INJ_RFM_FULL, INTEGRITY_FAILS_COUNT, LINES_FETCHED_LINES, LINK_FLITS_FLITS, LINK_PARITY_PARITY,
     MASK_TABLE_MASK, NR_COUNTS_A_SCH_CONFLICTS, NR_INJECT_INJ_PARITY, NR_INJECT_INJ_TIMEOUT, REEL_ID_NOW_REEL_ID,
     RE_STATUS_DICT_VALID, UE_LOG_ADDR, UE_LOG_SOURCE, UE_LOG_TICK, UE_LOG_VALID]
  | .catchFlushWindow .. => flushOpenFields ++ passToFields ++
    [CB_STATUS_CONFIG_BAD, NR_COUNTS_A_SCH_CONFLICTS, WRITE_ERR_WRONG_CHANNEL]
  | .nocSlotWindow .. => passToFields ++
    [FI_MISC_INJECT_INJ_SCH_CONFLICT, NR_COUNTS_A_SCH_CONFLICTS, NR_COUNTS_C_TIMEOUTS, NR_INJECT_INJ_TIMEOUT]
  | .ddrRefreshWindow .. => passToFields ++
    [DC_INJECT_INJ_REFMISS, DC_REFRESH_COUNTS_FALLBACK_AGE, DC_REFRESH_COUNTS_FALLBACK_MISSED,
     DC_REFRESH_MORE_PARKED_REFRESH, DC_REFRESH_MORE_UNSCHEDULED_REFRESH, TR_DQS_READ_DQS]
  | .ddrRfmSpareWindow .. => passToFields ++
    [DC_RFM_COUNTS_RFM_CARRIED, DC_RFM_COUNTS_RFM_ISSUED, DC_STATUS_RFM_LEVEL]
  | .ddrScrubWindow .. => passToFields ++
    [CE_LOG_ADDR, CE_LOG_DEVICE, CE_LOG_TICK, CE_LOG_VALID, DC_CORRECTED_CORRECTED, DC_INJECT_INJ_CE,
     DC_INJECT_INJ_UE, DC_RFM_COUNTS_RFM_OVERFLOW, DC_SCRUB_PASSES_LATE_PASSES, DC_SCRUB_PASSES_PASSES,
     DC_SCRUB_POS_OFFSET, DC_STATUS_RFM_LEVEL, DC_STATUS_WB_LEVEL, DC_UE_COUNTS_POISON_READS, DC_UE_COUNTS_UNCORR,
     DC_UE_COUNTS_WB_SKIPPED, FI_MISC_INJECT_INJ_RFM_FULL, UE_LOG_ADDR, UE_LOG_SOURCE, UE_LOG_TICK, UE_LOG_VALID]
  | .dispatchAdvanceWindow .. => noteJobsFields ++ passToFields ++ [DELAY_LATE_LATE_JOBS, DELAY_LATE_MAX_LATE]
  | .ioDiagWindow .. => passToFields ++ [DIAG_COUNTS_DIAG_MISSED, PIN_STATUS_DIAG]
  | .windowClose .. => closeApplyFields ++ passToFields ++ serveAboveFields
  | .syncMark .. => abortFixFields ++ closeApplyFields ++ endChangeFields ++ endUnstartedFields ++ powerAbortFields ++ recToFlowFields ++ serveDispatchFields ++ servePadFields ++
    [ALIGN_STATUS_EPOCH_DONE, ALIGN_STATUS_EPOCH_MISMATCH, ALIGN_STATUS_IN_WINDOW, ALIGN_STATUS_PHASE_ERR,
     BK_COUNTS_RETRIES, BK_SHUT_PINS, BUFFER_LEVEL_MIN_LEVEL, CB_STATUS_SUMMARY, CB_STATUS_SUMMARY_PENDING,
     CHANGE_LOG_ENTRY, CR_COUNTS_STALL_FRAMES, DB_HALT_TICK_TICK, DB_STATUS_CORES_HALTED, DB_STATUS_RC_STATE,
     DELAY_LATE_LATE_JOBS, DELAY_LATE_MAX_LATE, DP_COUNTS_B_UNSCHEDULED_ADVANCE, DP_COUNTS_ENQ_STALL_FRAMES,
     FIFO_LEVEL_MAX_LEVEL, FI_TICK_INJECT_INJ_SYNC_MISS, FRAME_LOG_ENTRY, FRAME_OFFSET_OFFSET, FRAME_RECORDS_CAUSES,
     FRAME_RECORDS_OPENED, HI_STATUS_READY, LOG_STATUS_LOG_LOST, LOG_STATUS_WR_INDEX, PIN_STATUS_DIAG,
     PIN_STATUS_SHUT, SCHED_POS_INDEX, SUMMARY_COUNT_COUNT, SYNC_MISS_COUNT_MISSES, TICK_NOW_TICK,
     UNCREDITED_COUNT_GAP_TOTAL, WK_BUSY_F1, WK_BUSY_F16, WK_BUSY_F256]
  | .syncMarkMissed => eventFields ++
    [ALIGN_CTRL_ARM, ALIGN_STATUS_IN_WINDOW, ALIGN_STATUS_STATE, FI_TICK_INJECT_INJ_SYNC_MISS,
     SYNC_MISS_COUNT_MISSES]
  | .alignArm .. => eventFields ++
    [ALIGN_CTRL_ARM, ALIGN_CTRL_HOLDOVER, ALIGN_CTRL_MARK_DIV, ALIGN_CTRL_MODE, ALIGN_STATUS_ARM_REFUSED,
     ALIGN_STATUS_STATE]
  | .alignModeChange => eventFields ++ [ALIGN_CTRL_ARM, ALIGN_CTRL_MODE, ALIGN_STATUS_ARM_REFUSED, ALIGN_STATUS_STATE]
  | .proofLoad .. => [CR_COUNTS_REJECTED, CR_STATUS_OUTSTANDING, PF_SET_ID_SET_ID, PF_STATE_OWNER, PF_STATE_STATE]
  | .proofLoadDone => [CR_COUNTS_REJECTED, CR_STATUS_OUTSTANDING, PF_ITEM_FIELD, PF_ITEM_ITEM]
  | .proofCheck .. => [CR_COUNTS_REJECTED, CR_STATUS_OUTSTANDING, PF_STATE_STATE]
  | .proofCheckDone .. => refuseFields ++
    [CB_BUDGET_BUDGET, CR_COUNTS_REJECTED, CR_STATUS_OUTSTANDING, FLOW_CFG_CATCH, FLOW_CFG_KIND, FLOW_CFG_RESERVED,
     INCONSISTENT_COUNT_FAILS, LG_PLL_WORD1, LG_ROLE_WORD0, MS_STATUS_ADDR, MS_STATUS_ADDR_VALID, PF_FIX_TICK_T,
     PF_ITEM_ITEM, PF_RESULT_CHECK_ID, PF_RESULT_CODE, PF_RESULT_DETAIL, PF_STATE_STATE, PROOF_TIME_CYCLES,
     RE_BUDGET_FETCH_BUDGET, SCHED_POS_CYCLE_LEN]
  | .fix .. => [CR_COUNTS_REJECTED, CR_STATUS_OUTSTANDING, PF_FIX_TICK_T, PF_STATE_STATE]
  | .fixCancel .. => [CR_COUNTS_REJECTED, CR_STATUS_OUTSTANDING]
  | .fixCancelLatch => abortFixFields
  | .proofDiscard .. => [CR_COUNTS_REJECTED, CR_STATUS_OUTSTANDING, PF_FIX_TICK_T, PF_STATE_OWNER, PF_STATE_STATE]
  | .finalCheck => abortFixFields ++ refuseFields ++
    [FLOW_CFG_CATCH, FLOW_CFG_KIND, FLOW_CFG_RESERVED, INCONSISTENT_COUNT_FAILS, LG_PLL_WORD1, LG_ROLE_WORD0,
     MS_STATUS_ADDR, MS_STATUS_ADDR_VALID, PF_ITEM_ITEM, SCHED_POS_CYCLE_LEN]
  | .fixApply .. => abortFixFields ++ emberWipeFields ++ noteJobsFields ++ powerAbortFields ++
    [CB_INJECT_INJ_DELAY, CB_INJECT_INJ_DISAGREE, CB_STATUS_CONFIG_BAD, CB_STATUS_DELAY_BROKEN, CB_STATUS_RING_FULL,
     CFG_INJECT_INJ_AUTH, CFG_INJECT_INJ_CHECK, CK_DOM_RAMP_STEP, CK_INJECT_INJ_BAND, CK_INJECT_INJ_LOSS,
     CK_KINDLING_TRIM_REF, CK_SEL_WORD0, CM_RD_INDEX, CM_WR_INDEX, DB_STATUS_DEBUG_PERMITTED, DC_INJECT_INJ_CE,
     DC_INJECT_INJ_REFMISS, DC_INJECT_INJ_UE, DETAIL_LOG_KEY_ID, DETAIL_LOG_OPERATION, DETAIL_LOG_RANGE,
     DETAIL_LOG_REASON, DETAIL_LOG_STREAM_ID, DETAIL_LOG_TICK, DETAIL_LOG_VALID, DP_INJECT_INJ_LOST,
     DP_INJECT_INJ_TIMEOUT, EN_INJECT_INJ_REFUSE, EN_INJECT_INJ_TAG, FIFO_LEVEL_LEVEL,
     FI_CHECK_INJECT_INJ_CMP_CHECK, FI_CHECK_INJECT_INJ_DLY_CHECK, FI_CHECK_INJECT_INJ_MONITOR,
     FI_CHECK_INJECT_INJ_SENSOR, FI_CORE_INJECT_INJ_WATCHDOG, FI_MISC_INJECT_INJ_DESKEW, FI_MISC_INJECT_INJ_MR4,
     FI_MISC_INJECT_INJ_RFM_FULL, FI_MISC_INJECT_INJ_SCH_CONFLICT, FI_MISC_INJECT_INJ_SLOW,
     FI_REEL_INJECT_INJ_FORMAT, FI_REEL_INJECT_INJ_SPLICE, FI_REEL_INJECT_INJ_UNDERRUN, FI_STATUS_DISARMED,
     FI_TICK_INJECT_INJ_OVERRUN, FI_TICK_INJECT_INJ_SYNC_MISS, FLOW_CFG_CATCH, FLOW_CFG_KIND, FLOW_CFG_RESERVED,
     FLOW_DEPTH_HELD, FLOW_DEPTH_WINDOW, FRAME_WORDS_WORDS, FW_STATUS_STATE, HI_INJECT_INJ_DOORBELL,
     HI_INJECT_INJ_FETCH, INJ_PERMIT_PERMIT, LC_STATUS_FUSED_STATE, LC_STATUS_STATE, LG_INJECT_INJ_BIP,
     LG_INJECT_INJ_LOCK, LG_INJECT_INJ_SLIP, LG_PLL_WORD1, LG_ROLE_WORD0, LIMIT_STATUS_ADDR_LOCKED,
     LIMIT_STATUS_ADDR_REWRITES, LIMIT_STATUS_ANTI_ROLLBACK, LIMIT_STATUS_REVOKED, LK_CTRL_IGNORED,
     LK_DELAY_ROUND_TRIP, LK_ERRORS_ACK_ERRORS, LK_ERRORS_DUPLICATES, LK_ERRORS_OUT_OF_ORDER, LK_FRAMES_RX_FRAMES,
     LK_PEER_SERIAL, LK_REPLAY_REPLAYS, LK_REPLAY_TIMEOUTS, LK_SEQ_ACK_RX, LK_STATUS_PEER_ADDR,
     LK_STATUS_PEER_ADDR_VALID, LK_STATUS_PEER_LINK, LK_STATUS_SLOW, LK_STATUS_WIDTH, LN_PRBS_CTRL_RX_EN,
     LN_PRBS_CTRL_TX_EN, LN_STATUS_SPARE, LN_STATUS_WORD, MON_NOMINAL_KHZ, MS_INJECT_INJ_ACK_DROP,
     MS_INJECT_INJ_TIME_MISS, MS_REPORT_RD_INDEX, MS_REPORT_WR_INDEX, MS_ROUTES_ROUTES_ID, MS_STATUS_ADDR,
     MS_STATUS_ADDR_LOCKED, MS_STATUS_ADDR_VALID, MS_STATUS_STRATUM, MS_TIME_CFG_BACKUP, MS_TIME_CFG_ROOT,
     MS_TIME_CFG_UPLINK, NR_INJECT_INJ_PARITY, NR_INJECT_INJ_TIMEOUT, PERIOD_NOW_N, PF_STATE_OWNER,
     PW_INJECT_INJ_DRAIN, RANGE_BASE_SECTOR, RANGE_ENTRY_ENTRY, RANGE_LIMIT_SECTOR, RANGE_LSN_LSN_BASE,
     RANGE_STATUS_KEY_ID, RG_FAULT_COUNT_BCLK_MISMATCH, RG_INJECT_INJ_BCLK, RG_INJECT_INJ_BIAS, RG_INJECT_INJ_TEMP,
     RG_MISMATCH_EDGE, RG_MISMATCH_GROUP, RG_STATUS_SWAP, ROUTE_LINK, ROUTE_SET_VC1, SCHED_BASE_BASE,
     SCHED_ID_NOW_SCHED_ID, SCHED_POS_CYCLE_LEN, SCHED_POS_INDEX, SCRUB_INJECT_INJ_DOUBLE, SCRUB_INJECT_INJ_SINGLE,
     SL_INJECT_INJ_OPMEM, SL_INJECT_INJ_PROG, SP_DENY_LOG_CLASS, SP_DENY_LOG_KIND, SP_DENY_LOG_OFFSET,
     SP_DENY_LOG_STREAM_ID, SP_DENY_LOG_VALID, SP_INJECT_INJ_ECC1, SP_INJECT_INJ_ECC2, SP_INJECT_INJ_MARCH,
     SWAP_STATUS_AUTO, SWAP_STATUS_CAUSE, SWAP_STATUS_FORCED, SWAP_STATUS_LATE, SWAP_STATUS_MODE, SWAP_STATUS_STATE,
     TP_INJECT_INJ_SENSOR, TP_MASK_MASK]
  | .fuseProgramDone => [CHANGE_LOG_ENTRY, LIMIT_STATUS_LOG_USED]
  | .reelStart .. => powerAbortFields ++
    [BUFFER_LEVEL_LEVEL, RE_STATUS_CAUSE_SEEN, RE_STATUS_END_CAUSE, RE_STATUS_STATE, START_TICK_S, VCYCLE_VC]
  | .reelAbort .. => []
  | .reelAbortLatch .. => endUnstartedFields
  | .reelPrefetchStart .. => [RE_STATUS_STATE]
  | .reelStartTick .. => endUnstartedFields
  | .reelNaturalCompletion .. => [RE_STATUS_CAUSE_SEEN, RE_STATUS_END_CAUSE]
  | .pad .. => decodeOpFields ++ [BUFFER_LEVEL_LEVEL]
  | .literal .. => decodeOpFields ++ emitOpFields
  | .repeatVector .. => decodeOpFields ++ emitOpFields
  | .repeatBlock .. => decodeOpFields ++ [BUFFER_LEVEL_LEVEL]
  | .dict .. => decodeOpFields ++ emitOpFields
  | .splice .. => decodeOpFields ++ emitOpFields ++ [FI_REEL_INJECT_INJ_SPLICE, SPLICED_VECTORS_VECTORS]
  | .stop .. => decodeOpFields ++ [BUFFER_LEVEL_LEVEL, NEXT_STOP_VC_VC, STOP_NOW_STOP_ID]
  | .spliceWrite .. => eventFields ++
    [RE_STATUS_CAUSE_SEEN, RE_STATUS_END_CAUSE, RE_STATUS_STATE, SPLICE_ERR_BAD_VALID, SPLICE_ERR_OVERFLOW,
     SPLICE_LEFTOVER_VECTORS]
  | .reelUnderrun .. => eventFields ++
    [FI_REEL_INJECT_INJ_UNDERRUN, RE_STATUS_CAUSE_SEEN, RE_STATUS_END_CAUSE, RE_STATUS_STATE, UNDERRUN_COUNT_COUNT]
  | .substitutionStart .. => []
  | .holdReached .. => [END_TICK_TICK]
  | .reelHolding .. => eventFields ++
    [ABORT_COUNT_COUNT, BUFFER_LEVEL_LEVEL, CR_COUNTS_REJECTED, CR_STATUS_OUTSTANDING, FIFO_LEVEL_LEVEL,
     FIRST_TAINT_VC_VC, RE_STATUS_CAUSE_SEEN, RE_STATUS_END_CAUSE, RE_STATUS_STATE, SPLICE_LEFTOVER_VECTORS,
     TAINT_COUNT_COUNT]
  | .reClearCounts .. =>
    [ABORT_COUNT_COUNT, FORMAT_COUNT_COUNT, LINES_FETCHED_LINES, SPLICED_VECTORS_VECTORS, SPLICE_ERR_BAD_VALID,
     SPLICE_ERR_OVERFLOW, SPLICE_LEFTOVER_VECTORS, TAINT_COUNT_COUNT, UNDERRUN_COUNT_COUNT, VECTORS_EMITTED_VECTORS]
  | .flushDict .. => [RE_STATUS_DICT_VALID]
  | .responseWord .. => missingWordFields ++ [UNCOMPARED_COUNT]
  | .missingResponse .. => missingWordFields
  | .delayShadowCheck .. => passToFields ++ [CB_STATUS_DELAY_BROKEN, CB_STATUS_SEEN, DELAY_FAULT_COUNT_COUNT]
  | .recordToFlow .. => flushOpenFields ++ recToFlowFields
  | .pendingSummaryRelease .. => flushOpenFields ++ recToFlowFields ++ [CB_STATUS_SUMMARY_PENDING]
  | .burstEnd .. => [FIFO_LEVEL_LEVEL]
  | .cmRdWrite .. => [CB_STATUS_RD_ERR, CB_STATUS_RING_FULL, CM_RD_INDEX]
  | .strobeRelease .. => []
  | .cbClearCounts .. =>
    [BURST_COUNT_BURSTS, COMPARED_COUNT, DELAY_FAULT_COUNT_COUNT, DISAGREE_COUNT_COUNT, FAIL_BITS_COUNT,
     FAIL_WORDS_COUNT, MISSING_COUNT, RECORDS_MADE_RECORDS, SUMMARY_COUNT_COUNT, UNCOMPARED_COUNT,
     WRITE_ERR_REFUSED_WRITES, WRITE_ERR_WRONG_CHANNEL]
  | .fabricReset .. => regionResetFields
  | .tempReading .. => fireSensorsFields ++
    [FI_CHECK_INJECT_INJ_SENSOR, FI_CHECK_STATUS_CENTRAL_FAULT, FI_SENSOR_FAULT_REGIONS, RG_FAULT_COUNT_TEMP_SKEW,
     RG_INJECT_INJ_TEMP, RG_STATUS_EDGE_SUSPECT, RG_TEMP_MAX_TEMP, RG_TEMP_TEMP]
  | .biasFault .. => eventFields ++
    [RG_BIAS_MEASURED, RG_FAULT_COUNT_BIAS_FAULTS, RG_INJECT_INJ_BIAS, RG_STATUS_BIAS_FAULT, RG_STATUS_EDGE_SUSPECT]
  | .sliceStart .. =>
    [SL_PTR_PC, SL_PTR_P_W, SL_PTR_P_X, SL_PTR_P_Y, SL_STATUS_CMD_IGNORED, SL_STATUS_OVF0, SL_STATUS_OVF1,
     SL_STATUS_STATE, SL_STATUS_STORE_SAT]
  | .sliceStop .. => [SL_CYCLES_CYCLES, SL_STATUS_CMD_IGNORED, SL_STATUS_STATE]
  | .sliceContinue .. => [SL_STATUS_CMD_IGNORED, SL_STATUS_STATE]
  | .sliceNop .. => arriveFields ++ fetchInsFields ++ [SL_CYCLES_CYCLES]
  | .mac .. => arriveFields ++ fetchInsFields ++
    [SL_CYCLES_CYCLES, SL_INJECT_INJ_OPMEM, SL_MACS_MACS, SL_STALL_STALL_IN, SL_STATUS_OVF0, SL_STATUS_OVF1]
  | .repeat_ .. => fetchInsFields ++ [SL_ITER_ITER, SL_PTR_PC]
  | .store .. => arriveFields ++ fetchInsFields ++ [SL_CYCLES_CYCLES, SL_STALL_STALL_OUT, SL_STATUS_STORE_SAT]
  | .setp .. => arriveFields ++ fetchInsFields ++ [SL_CYCLES_CYCLES]
  | .halt .. => fetchInsFields ++ [SL_CYCLES_CYCLES]
  | .sliceMemAccess .. => eventFields ++ [SL_FAULT_INFO_PARITY_ERRS]
  | .sliceInputWord .. => []
  | .sliceOutputTake .. => []
  | .slClearCounts .. => [SL_CYCLES_CYCLES, SL_MACS_MACS, SL_STALL_STALL_IN, SL_STALL_STALL_OUT, SL_STEAL_STOLEN]
  | .configLoad .. => cfgStartFields ++ powerAbortFields
  | .configHeader .. => cfgFailFields ++ holdRegionFields ++ refuseFields ++ setPstateFields ++
    [CE_LOG_ADDR, CE_LOG_DEVICE, CE_LOG_TICK, CE_LOG_VALID, CFG_BYTES_BYTES, CFG_DESIGN_ID_DESIGN_ID,
     CFG_STATUS_ENCRYPTED, CFG_STATUS_FORMAT, CFG_STATUS_ID_RESULT, DC_CORRECTED_CORRECTED, DC_INJECT_INJ_CE,
     DC_INJECT_INJ_UE, DC_REFRESH_COUNTS_FALLBACK_AGE, DC_REFRESH_COUNTS_FALLBACK_MISSED,
     DC_REFRESH_MORE_PARKED_REFRESH, DC_REFRESH_MORE_UNSCHEDULED_REFRESH, DC_RFM_COUNTS_RFM_OVERFLOW,
     DC_STATUS_RFM_LEVEL, DC_STATUS_WB_LEVEL, DC_UE_COUNTS_POISON_READS, DC_UE_COUNTS_UNCORR,
     DC_UE_COUNTS_WB_SKIPPED, EN_INJECT_INJ_TAG, FAIL_LOG_ADDR, FAIL_LOG_CHANNEL, FAIL_LOG_KEY_ID, FAIL_LOG_SEQ_TAG,
     FAIL_LOG_STREAM_ID, FAIL_LOG_TICK, FAIL_LOG_VALID, FI_MISC_INJECT_INJ_RFM_FULL, INTEGRITY_FAILS_COUNT,
     LINK_FLITS_FLITS, LINK_PARITY_PARITY, NR_COUNTS_B_CLOSED_REFUSALS, NR_COUNTS_C_LATE_RESP, NR_COUNTS_C_RETRIES,
     NR_COUNTS_C_TIMEOUTS, NR_INJECT_INJ_PARITY, NR_INJECT_INJ_TIMEOUT, PORT_FREE_LANDING_FREE, PORT_FREE_RESP_FREE,
     STAT_BYTES_BYTES, STAT_CREDIT_WAIT_CYCLES, STAT_HIST_COUNT, STAT_LAT_MAX_CYCLES, STAT_LAT_MIN_CYCLES,
     STAT_LAT_SUM_CYCLES, STAT_MEAN_CYCLES, STAT_PACKETS_PACKETS, STAT_SNAP_TICK_TICK, UE_LOG_ADDR, UE_LOG_SOURCE,
     UE_LOG_TICK, UE_LOG_VALID]
  | .configClearDone => [CFG_RELEASE_TICK_TICK, CFG_STATUS_STATE, CFG_TIME_CYCLES, SWAP_STATUS_STATE]
  | .configSegment .. => cfgFailFields ++
    [CE_LOG_ADDR, CE_LOG_DEVICE, CE_LOG_TICK, CE_LOG_VALID, CFG_BYTES_BYTES, CFG_INJECT_INJ_AUTH, CFG_SEGMENT_SEG,
     DC_CORRECTED_CORRECTED, DC_INJECT_INJ_CE, DC_INJECT_INJ_UE, DC_REFRESH_COUNTS_FALLBACK_AGE,
     DC_REFRESH_COUNTS_FALLBACK_MISSED, DC_REFRESH_MORE_PARKED_REFRESH, DC_REFRESH_MORE_UNSCHEDULED_REFRESH,
     DC_RFM_COUNTS_RFM_OVERFLOW, DC_STATUS_RFM_LEVEL, DC_STATUS_WB_LEVEL, DC_UE_COUNTS_POISON_READS,
     DC_UE_COUNTS_UNCORR, DC_UE_COUNTS_WB_SKIPPED, DETAIL_LOG_KEY_ID, DETAIL_LOG_OPERATION, DETAIL_LOG_RANGE,
     DETAIL_LOG_REASON, DETAIL_LOG_STREAM_ID, DETAIL_LOG_TICK, DETAIL_LOG_VALID, EN_COUNTS_REFUSALS,
     EN_INJECT_INJ_TAG, FAIL_LOG_ADDR, FAIL_LOG_CHANNEL, FAIL_LOG_KEY_ID, FAIL_LOG_SEQ_TAG, FAIL_LOG_STREAM_ID,
     FAIL_LOG_TICK, FAIL_LOG_VALID, FI_MISC_INJECT_INJ_RFM_FULL, INTEGRITY_FAILS_COUNT, LINK_FLITS_FLITS,
     LINK_PARITY_PARITY, NR_COUNTS_B_CLOSED_REFUSALS, NR_COUNTS_C_LATE_RESP, NR_COUNTS_C_RETRIES,
     NR_COUNTS_C_TIMEOUTS, NR_INJECT_INJ_PARITY, NR_INJECT_INJ_TIMEOUT, PORT_FREE_LANDING_FREE, PORT_FREE_RESP_FREE,
     STAT_BYTES_BYTES, STAT_CREDIT_WAIT_CYCLES, STAT_HIST_COUNT, STAT_LAT_MAX_CYCLES, STAT_LAT_MIN_CYCLES,
     STAT_LAT_SUM_CYCLES, STAT_MEAN_CYCLES, STAT_PACKETS_PACKETS, STAT_SNAP_TICK_TICK, UE_LOG_ADDR, UE_LOG_SOURCE,
     UE_LOG_TICK, UE_LOG_VALID]
  | .cfgNop => cfgFailFields
  | .regionSelect => cfgFailFields
  | .writeFrame => cfgFailFields
  | .repeatFrame => cfgFailFields
  | .check => cfgFailFields ++ [CFG_INJECT_INJ_CHECK]
  | .fixAtTick => cfgFailFields ++ [CFG_STATUS_FIX_IGNORED]
  | .keyRoll => cfgFailFields
  | .cfgEnd => cfgFailFields
  | .frameCommit => [CFG_FRAMES_FRAMES]
  | .configRelease .. => eventFields ++ cfgResultFields ++ idleSlicesFields ++
    [BK_STATUS_VCCO_CLASS, CFG_LOADED_REGIONS, CFG_RELEASE_TICK_TICK, CFG_STATUS_GLOBAL_LOADED,
     CFG_STATUS_RELEASE_LATE, CFG_STATUS_STATE, CFG_TIME_CYCLES, NR_STATUS_PORT_STATE, PIN_STATUS_DIAG_OK,
     PIN_STATUS_DIR, PIN_STATUS_SOURCE, PIN_STATUS_STANDARD, PIN_STATUS_STROBE, PORT_FREE_LANDING_FREE,
     PORT_FREE_RESP_FREE, RG_CLK_STATUS_RUNNING, RG_FAULT_COUNT_BCLK_MISMATCH, RG_INJECT_INJ_BCLK, RG_MISMATCH_EDGE,
     RG_MISMATCH_GROUP, RG_OWNER_OWNER, RG_STATUS_CONFIGURED, RG_STATUS_EDGE_STALE]
  | .configAbort => []
  | .configAbortLatch => cfgAbortFields
  | .cfgClearCounts => [CFG_COUNTS_LOADS_FAILED, CFG_COUNTS_LOADS_OK]
  | .swapDrained .. => holdRegionFields ++ returnJobsFields ++ [NR_STATUS_PORT_STATE, SWAP_STATUS_STATE]
  | .swapDrainForced .. => eventFields ++ holdRegionFields ++ returnJobsFields ++
    [NR_COUNTS_B_RETURNS, NR_STATUS_PORT_STATE, PORT_FREE_LANDING_FREE, PORT_FREE_RESP_FREE,
     SWAP_DISCARDED_RESPONSES, SWAP_DISCARDED_RETURNED, SWAP_STATUS_FORCED, SWAP_STATUS_STATE]
  | .swapLoadStart .. => cfgStartFields ++ holdRegionFields ++ setPstateFields ++
    [CFG_LOADED_REGIONS, RG_STATUS_CONFIGURED, SWAP_STATUS_STATE]
  | .swapOpen .. => eventFields ++ idleSlicesFields ++ setPstateFields ++
    [CFG_LOADED_REGIONS, DA_ATTACHED_REGIONS, NR_STATUS_PORT_STATE, PORT_FREE_LANDING_FREE, PORT_FREE_RESP_FREE,
     RG_CLK_STATUS_RUNNING, RG_EPOCH_EPOCH, RG_FAULT_COUNT_BCLK_MISMATCH, RG_INJECT_INJ_BCLK, RG_MISMATCH_EDGE,
     RG_MISMATCH_GROUP, RG_OWNER_OWNER, RG_STATUS_CONFIGURED, RG_STATUS_FRAME_UNCORRECTABLE, RG_STATUS_SWAP,
     SCRUB_STATUS_RELOAD_ACTIVE, SCRUB_UNC_REGIONS_REGIONS, SWAP_STATUS_CODE, SWAP_STATUS_LATE, SWAP_STATUS_STATE,
     SWAP_TICK_TICK]
  | .scrubStep => eventFields ++
    [RG_STATUS_FRAME_UNCORRECTABLE, SCRUB_CORRECTED_COUNT, SCRUB_INJECT_INJ_DOUBLE, SCRUB_INJECT_INJ_SINGLE,
     SCRUB_LAST_UNC_ADDR, SCRUB_PASSES_PASSES, SCRUB_PASS_TIME_CYCLES, SCRUB_POS_ADDR, SCRUB_SKIPS_DYNAMIC,
     SCRUB_SKIPS_EXCLUDED, SCRUB_STATUS_BORROWED, SCRUB_STATUS_GLOBAL_UNCORRECTABLE, SCRUB_STATUS_RUNNING,
     SCRUB_UNCORR_COUNT, SCRUB_UNC_REGIONS_REGIONS]
  | .autoReloadStart .. => powerAbortFields ++
    [RELOAD_COUNT_COUNT, RG_STATUS_SWAP, SCRUB_STATUS_RELOAD_ACTIVE, SWAP_STATUS_AUTO, SWAP_STATUS_CAUSE,
     SWAP_STATUS_FORCED, SWAP_STATUS_LATE, SWAP_STATUS_MODE, SWAP_STATUS_STATE]
  | .scrubClearCounts =>
    [FW_COUNTS_REVERTS, FW_COUNTS_SWITCHES, RELOAD_COUNT_COUNT, SCRUB_CORRECTED_COUNT, SCRUB_PASSES_PASSES,
     SCRUB_UNCORR_COUNT]
  | .fwWrite .. =>
    [BOOT_STATUS_STAGE, CR_COUNTS_REJECTED, CR_STATUS_OUTSTANDING, FW_STATUS_VALID_A, FW_STATUS_VALID_B,
     FW_STATUS_VERSION_A, FW_STATUS_VERSION_B]
  | .fwCoreRestart .. => [FW_STATUS_STATE, HM_STATUS_CORE_STATE]
  | .fwSelfCheck .. => eventFields ++
    [FW_COUNTS_REVERTS, FW_COUNTS_SWITCHES, FW_STATUS_ACTIVE_SLOT, FW_STATUS_COMMIT_PENDING, FW_STATUS_STATE,
     FW_STATUS_VALID_A, FW_STATUS_VALID_B, PF_SET_ID_SET_ID, PF_STATE_OWNER, PF_STATE_STATE]
  | .fwCommitRetry => noteJobsFields ++
    [FLOW_DEPTH_HELD, FLOW_DEPTH_WINDOW, FW_STATUS_COMMIT_PENDING, PF_SET_ID_SET_ID, PF_STATE_OWNER, PF_STATE_STATE]
  | .fabricRequest .. => eventFields ++
    [NR_COUNTS_C_TIMEOUTS, NR_INJECT_INJ_TIMEOUT, PORT_FREE_LANDING_FREE, PORT_FREE_RESP_FREE]
  | .reserve .. => eventFields ++
    [LINK_FLITS_FLITS, LINK_PARITY_PARITY, NR_COUNTS_B_CLOSED_REFUSALS, NR_COUNTS_C_RETRIES, NR_INJECT_INJ_PARITY,
     PORT_FREE_LANDING_FREE, PORT_FREE_RESP_FREE]
  | .grant .. => eventFields ++
    [LINK_FLITS_FLITS, LINK_PARITY_PARITY, NR_COUNTS_C_TIMEOUTS, NR_INJECT_INJ_PARITY, NR_INJECT_INJ_TIMEOUT,
     PORT_FREE_LANDING_FREE, PORT_FREE_RESP_FREE]
  | .reserveRetry .. => []
  | .readReq .. => eventFields ++ decodeLineFields ++ writeLineFields ++
    [DC_REFRESH_COUNTS_FALLBACK_AGE, DC_REFRESH_COUNTS_FALLBACK_MISSED, DC_REFRESH_MORE_PARKED_REFRESH,
     DC_REFRESH_MORE_UNSCHEDULED_REFRESH, EN_INJECT_INJ_TAG, FAIL_LOG_ADDR, FAIL_LOG_CHANNEL, FAIL_LOG_KEY_ID,
     FAIL_LOG_SEQ_TAG, FAIL_LOG_STREAM_ID, FAIL_LOG_TICK, FAIL_LOG_VALID, INTEGRITY_FAILS_COUNT, LINK_FLITS_FLITS,
     LINK_PARITY_PARITY, LINK_SUSPEND_CYCLES, NR_COUNTS_B_RETURNS, NR_COUNTS_C_TIMEOUTS, NR_INJECT_INJ_PARITY,
     NR_INJECT_INJ_TIMEOUT, PORT_FREE_LANDING_FREE, PORT_FREE_RESP_FREE, RG_ROLE_MOVED_COUNT, SP_DENY_COUNT_DENIALS,
     SP_DENY_LOG_CLASS, SP_DENY_LOG_KIND, SP_DENY_LOG_OFFSET, SP_DENY_LOG_STREAM_ID, SP_DENY_LOG_VALID,
     SP_ECC_CORRECTED, SP_ECC_UNCORR, SP_INJECT_INJ_ECC1, SP_INJECT_INJ_ECC2, SWAP_DISCARDED_RETURNED]
  | .writeReq .. => eventFields ++ decodeLineFields ++ noteJobsFields ++ sendResponseFields ++ writeLineFields ++
    [CR_COUNTS_REJECTED, CR_STATUS_OUTSTANDING, DC_REFRESH_COUNTS_FALLBACK_AGE, DC_REFRESH_COUNTS_FALLBACK_MISSED,
     DC_REFRESH_MORE_PARKED_REFRESH, DC_REFRESH_MORE_UNSCHEDULED_REFRESH, DP_COUNTS_B_LATE_DONE, EN_INJECT_INJ_TAG,
     FAIL_LOG_ADDR, FAIL_LOG_CHANNEL, FAIL_LOG_KEY_ID, FAIL_LOG_SEQ_TAG, FAIL_LOG_STREAM_ID, FAIL_LOG_TICK,
     FAIL_LOG_VALID, FLOW_DEPTH_HELD, FLOW_DEPTH_WINDOW, INTEGRITY_FAILS_COUNT, LINK_FLITS_FLITS,
     LINK_PARITY_PARITY, LINK_SUSPEND_CYCLES, MS_COUNTS_REPORTS_DROPPED, NR_COUNTS_B_RETURNS, NR_COUNTS_C_TIMEOUTS,
     NR_INJECT_INJ_PARITY, NR_INJECT_INJ_TIMEOUT, PORT_FREE_LANDING_FREE, PORT_FREE_RESP_FREE, RG_ROLE_MOVED_COUNT,
     SP_DENY_COUNT_DENIALS, SP_DENY_LOG_CLASS, SP_DENY_LOG_KIND, SP_DENY_LOG_OFFSET, SP_DENY_LOG_STREAM_ID,
     SP_DENY_LOG_VALID, SP_ECC_CORRECTED, SP_ECC_UNCORR, SP_INJECT_INJ_ECC1, SP_INJECT_INJ_ECC2,
     SWAP_DISCARDED_RETURNED, WK_CFG_CLASS, WK_CFG_DEPTH_M1, WK_CFG_PORT, WK_CFG_ROUTER, WK_CFG_STATE, WK_JOBS_JOBS,
     WK_MAILBOX_ADDR, WK_STATUS_EPOCH, WK_STATUS_IN_FLIGHT, WK_STATUS_TIMEOUT_EXP]
  | .readResp .. => showStatsFields ++ workerLostFields ++
    [LINK_FLITS_FLITS, LINK_PARITY_PARITY, LINK_SUSPEND_CYCLES, NR_COUNTS_C_LATE_RESP, NR_COUNTS_C_TIMEOUTS,
     NR_INJECT_INJ_PARITY, NR_INJECT_INJ_TIMEOUT, PORT_FREE_LANDING_FREE, PORT_FREE_RESP_FREE]
  | .writeResp .. => showStatsFields ++ workerLostFields ++
    [LINK_FLITS_FLITS, LINK_PARITY_PARITY, LINK_SUSPEND_CYCLES, NR_COUNTS_C_LATE_RESP, NR_COUNTS_C_TIMEOUTS,
     NR_INJECT_INJ_PARITY, NR_INJECT_INJ_TIMEOUT, PORT_FREE_LANDING_FREE, PORT_FREE_RESP_FREE]
  | .return_ .. => showStatsFields ++ workerLostFields ++
    [LINK_FLITS_FLITS, LINK_PARITY_PARITY, LINK_SUSPEND_CYCLES, NR_COUNTS_C_LATE_RESP, NR_COUNTS_C_TIMEOUTS,
     NR_INJECT_INJ_PARITY, NR_INJECT_INJ_TIMEOUT, PORT_FREE_LANDING_FREE, PORT_FREE_RESP_FREE]
  | .revoke .. => eventFields ++ [LINK_FLITS_FLITS, LINK_PARITY_PARITY, NR_INJECT_INJ_PARITY]
  | .release .. => eventFields ++ [LINK_FLITS_FLITS, LINK_PARITY_PARITY, NR_INJECT_INJ_PARITY]
  | .nocTimeout .. => eventFields ++ [NR_COUNTS_C_TIMEOUTS]
  | .priorityAging .. => [NR_COUNTS_A_AGED]
  | .portDrained .. => powerAdvanceFields
  | .statSnap .. => []
  | .statClear .. => []
  | .nrClearCounts .. =>
    [LINK_FLITS_FLITS, LINK_PARITY_PARITY, LINK_SUSPEND_CYCLES, NR_COUNTS_A_AGED, NR_COUNTS_A_SCH_CONFLICTS,
     NR_COUNTS_B_CLOSED_REFUSALS, NR_COUNTS_B_RETURNS, NR_COUNTS_C_LATE_RESP, NR_COUNTS_C_RETRIES,
     NR_COUNTS_C_TIMEOUTS]
  | .fallbackRefresh .. => serveAboveFields
  | .mr4Read .. => eventFields ++ [DC_STATUS_RATE_2X, FI_MISC_INJECT_INJ_MR4]
  | .writeBack .. => eventFields ++
    [DC_REFRESH_COUNTS_FALLBACK_AGE, DC_REFRESH_COUNTS_FALLBACK_MISSED, DC_REFRESH_MORE_PARKED_REFRESH,
     DC_REFRESH_MORE_UNSCHEDULED_REFRESH, DC_STATUS_WB_LEVEL]
  | .trainingPass .. => [DC_STATUS_TR_IGNORED, TR_ERR_ERRORS, TR_STATUS_BUSY]
  | .selfRefreshExitDone .. => powerAdvanceFields ++ serveAboveFields ++ [DC_STATUS_STATE]
  | .trainRecord .. => decodeLineFields ++ unroutableFields ++ [DC_REPAIR_SPPR_ACTIVE]
  | .ddrRepair .. => [CR_COUNTS_REJECTED, CR_STATUS_OUTSTANDING, DC_STATUS_PARKED]
  | .ddrRepairDone .. => decodeLineFields ++
    [CR_COUNTS_REJECTED, CR_STATUS_OUTSTANDING, DC_REPAIR_HPPR_DONE, DC_REPAIR_SPPR_ACTIVE, DC_STATUS_PARKED]
  | .dcClearCounts .. =>
    [DC_CORRECTED_CORRECTED, DC_REFRESH_COUNTS_FALLBACK_AGE, DC_REFRESH_COUNTS_FALLBACK_MISSED,
     DC_REFRESH_MORE_PARKED_REFRESH, DC_REFRESH_MORE_UNSCHEDULED_REFRESH, DC_RFM_COUNTS_RFM_CARRIED,
     DC_RFM_COUNTS_RFM_ISSUED, DC_RFM_COUNTS_RFM_OVERFLOW, DC_SCRUB_PASSES_LATE_PASSES, DC_SCRUB_PASSES_PASSES,
     DC_UE_COUNTS_POISON_READS, DC_UE_COUNTS_UNCORR, DC_UE_COUNTS_WB_SKIPPED]
  | .dcClearLogs .. =>
    [CE_LOG_ADDR, CE_LOG_DEVICE, CE_LOG_TICK, CE_LOG_VALID, UE_LOG_ADDR, UE_LOG_SOURCE, UE_LOG_TICK, UE_LOG_VALID]
  | .lateAlarm => cfgFailFields ++ endUnstartedFields ++
    [FIFO_LEVEL_LEVEL, FIRST_TAINT_VC_VC, RE_STATUS_DICT_VALID, TAINT_COUNT_COUNT]
  | .keyLoad .. => refuseFields ++ [EN_INJECT_INJ_REFUSE, KEY_STATE_STATE]
  | .keyErase .. => refuseFields ++ [EN_INJECT_INJ_REFUSE, KEY_STATE_STATE]
  | .keyRetire .. => powerAbortFields ++ refuseFields ++ [EN_INJECT_INJ_REFUSE, KEY_STATE_STATE]
  | .keyOpComplete =>
    [CR_COUNTS_REJECTED, CR_STATUS_OUTSTANDING, EN_STATUS_RETIRE_QUEUE, KEY_STATE_MODE, KEY_STATE_STATE,
     KEY_STATE_TARGET]
  | .refusalAnswer .. => [PORT_FREE_LANDING_FREE, PORT_FREE_RESP_FREE]
  | .rekeyWalkStart => [EN_STATUS_REKEY_ACTIVE, EN_STATUS_REKEY_ID, EN_STATUS_RETIRE_QUEUE, RK_POS_ADDR]
  | .rekeyLine => serveAboveFields ++ [EN_COUNTS_REKEY_POISONED, RK_POS_ADDR]
  | .keyRetired => eventFields ++
    [EN_STATUS_REKEY_ACTIVE, EN_STATUS_REKEY_ID, EN_STATUS_RETIRE_QUEUE, KEY_STATE_MODE, KEY_STATE_RANGES,
     KEY_STATE_STATE, KEY_STATE_TARGET, RANGE_STATUS_KEY_ID, RANGE_STATUS_STATE]
  | .enClearCounts => [EN_COUNTS_REFUSALS, EN_COUNTS_REKEY_POISONED, INTEGRITY_FAILS_COUNT]
  | .laneTrained .. => powerAdvanceFields
  | .laneTrainTimeout .. => eventFields
  | .alignMarkerReceived .. => eventFields ++
    [FI_MISC_INJECT_INJ_DESKEW, LG_COUNTS_DESKEW_FAILS, LG_INJECT_INJ_BIP, LG_STATUS_READY, LK_STATUS_STATE,
     LN_LOCK_BAD_TYPE, LN_MARKER_BIP_ERRORS, LN_SKEW_SKEW, LN_STATUS_ELASTIC, LN_STATUS_MARKER_LOCK]
  | .alignMarkerMissed .. => eventFields ++
    [LG_STATUS_READY, LK_STATUS_STATE, LN_LOCK_BAD_TYPE, LN_MARKER_MARKERS_MISSED, LN_STATUS_ELASTIC,
     LN_STATUS_MARKER_LOCK]
  | .laneLockLost .. => loseLockFields
  | .laneElasticSlip .. => elasticSlipFields
  | .prbsTxEn .. => [LN_PRBS_CTRL_IGNORED, LN_PRBS_CTRL_PATTERN, LN_PRBS_CTRL_TX_EN]
  | .prbsRxEn .. =>
    [LN_PRBS_BITS_BITS, LN_PRBS_CTRL_IGNORED, LN_PRBS_CTRL_PATTERN, LN_PRBS_CTRL_RX_EN, LN_PRBS_CTRL_RX_LOCK,
     LN_PRBS_ERR_ERRORS]
  | .eyeScanStart .. =>
    [LN_EYE_CTRL_BUSY, LN_EYE_CTRL_DWELL, LN_EYE_CTRL_EYE, LN_EYE_CTRL_PHASE, LN_EYE_CTRL_VOLT, LN_PRBS_CTRL_IGNORED]
  | .eyeScanDone .. => [LN_EYE_CTRL_BUSY, LN_EYE_RESULT_ERRORS]
  | .lgClearCounts .. =>
    [LG_COUNTS_DESKEW_FAILS, LG_COUNTS_SLIPS, LN_LOCK_BAD_TYPE, LN_LOCK_LOCK_LOSSES, LN_MARKER_BIP_ERRORS,
     LN_MARKER_MARKERS_MISSED]
  | .meshPacketFrame .. => takeFrameFields ++ unroutableFields ++
    [LK_ERRORS_DUPLICATES, LK_ERRORS_OUT_OF_ORDER, LK_FRAMES_RX_FRAMES]
  | .ackBlock .. => afterAckFields ++
    [LK_ERRORS_ACK_ERRORS, LK_ERRORS_CRC_ERRORS, LK_SEQ_ACK_RX, LN_LOCK_BAD_TYPE, MS_INJECT_INJ_ACK_DROP]
  | .helloFrame .. => linkDownFields ++ takeFrameFields ++
    [LK_PEER_SERIAL, LK_STATUS_PEER_ADDR, LK_STATUS_PEER_ADDR_VALID, LK_STATUS_PEER_LINK]
  | .helloSend .. => [LK_FRAMES_TX_FRAMES]
  | .helloTimeout .. => linkDownFields
  | .setNotReadyTimeout .. => linkDownFields
  | .replayTimeout .. => linkDownFields ++ [LK_REPLAY_REPLAYS, LK_REPLAY_TIMEOUTS]
  | .quietFrame .. => takeFrameFields
  | .timeFrameSend .. => [LK_FRAMES_TX_FRAMES]
  | .timeFrame .. => abortFixFields ++ closeApplyFields ++ endChangeFields ++ endUnstartedFields ++ powerAbortFields ++ recToFlowFields ++ serveDispatchFields ++ servePadFields ++ takeFrameFields ++
    [ALIGN_STATUS_EPOCH_DONE, ALIGN_STATUS_EPOCH_MISMATCH, ALIGN_STATUS_IN_WINDOW, ALIGN_STATUS_PHASE_ERR,
     BK_COUNTS_RETRIES, BK_SHUT_PINS, BUFFER_LEVEL_MIN_LEVEL, CB_STATUS_SUMMARY, CB_STATUS_SUMMARY_PENDING,
     CHANGE_LOG_ENTRY, CR_COUNTS_STALL_FRAMES, DB_HALT_TICK_TICK, DB_STATUS_CORES_HALTED, DB_STATUS_RC_STATE,
     DELAY_LATE_LATE_JOBS, DELAY_LATE_MAX_LATE, DP_COUNTS_B_UNSCHEDULED_ADVANCE, DP_COUNTS_ENQ_STALL_FRAMES,
     FIFO_LEVEL_MAX_LEVEL, FI_MISC_INJECT_INJ_SLOW, FI_TICK_INJECT_INJ_SYNC_MISS, FRAME_LOG_ENTRY,
     FRAME_OFFSET_OFFSET, FRAME_RECORDS_CAUSES, FRAME_RECORDS_OPENED, HI_STATUS_READY, LK_DELAY_ROUND_TRIP,
     LK_STATUS_SLOW, LOG_STATUS_LOG_LOST, LOG_STATUS_WR_INDEX, MS_INJECT_INJ_TIME_MISS, MS_STATUS_STRATUM,
     PIN_STATUS_DIAG, PIN_STATUS_SHUT, SCHED_POS_INDEX, SUMMARY_COUNT_COUNT, SYNC_MISS_COUNT_MISSES, TICK_NOW_TICK,
     UNCREDITED_COUNT_GAP_TOTAL, WK_BUSY_F1, WK_BUSY_F16, WK_BUSY_F256]
  | .timeFrameMissed => eventFields ++
    [ALIGN_CTRL_ARM, ALIGN_STATUS_IN_WINDOW, ALIGN_STATUS_STATE, SYNC_MISS_COUNT_MISSES]
  | .meshReportSend => enqueuePktFields ++ writeLineFields ++ [MS_COUNTS_REPORTS_DROPPED, MS_REPORT_WR_INDEX]
  | .meshReportPacket => enqueuePktFields ++ writeLineFields ++
    [MS_COUNTS_REPORTS_DROPPED, MS_COUNTS_UNROUTABLE, MS_REPORT_WR_INDEX, MS_STATUS_ADDR_CONFLICT]
  | .meshDataRequest => blockWriteFields ++ sendResponseFields
  | .meshDataResponse => [PORT_FREE_LANDING_FREE, PORT_FREE_RESP_FREE]
  | .meshHostPacket => noteJobsFields ++ unroutableFields ++
    [FLOW_DEPTH_HELD, FLOW_DEPTH_WINDOW, HI_COUNTS_LOST_COMPLETIONS]
  | .lkQuiet .. => quietStepFields ++ [LK_CTRL_IGNORED, LK_SEQ_NEXT_SEQ, MS_INJECT_INJ_CRC]
  | .lkReset .. => linkDownFields
  | .msReportRdWrite .. => [MS_REPORT_RD_INDEX]
  | .msClearCounts =>
    [LK_ERRORS_ACK_ERRORS, LK_ERRORS_CRC_ERRORS, LK_ERRORS_DUPLICATES, LK_ERRORS_OUT_OF_ORDER, LK_FRAMES_RX_FRAMES,
     LK_FRAMES_TX_FRAMES, LK_REPLAY_DOWNS, LK_REPLAY_REPLAYS, LK_REPLAY_TIMEOUTS, MS_COUNTS_REPORTS_DROPPED,
     MS_COUNTS_UNROUTABLE]
  | .commandDoorbell .. => eventFields ++
    [CR_PROD_INDEX, CR_STATUS_DB_ERR, HI_COUNTS_EARLY_DOORBELLS, HI_INJECT_INJ_DOORBELL]
  | .completionDoorbell .. => [CQ_RD_INDEX, CR_STATUS_RD_ERR, HI_COUNTS_EARLY_DOORBELLS]
  | .eventDoorbell .. => [EV_RD_INDEX, EV_STATUS_RD_ERR, HI_COUNTS_EARLY_DOORBELLS]
  | .descriptorConsume .. => noteJobsFields ++ unroutableFields ++
    [CR_CONS_INDEX, CR_STATUS_HALT_WRITE, CR_STATUS_STATE, FLOW_DEPTH_HELD, FLOW_DEPTH_WINDOW, HI_INJECT_INJ_FETCH]
  | .outcomeLatch .. => []
  | .completionWrite .. => unroutableFields ++
    [CQ_WR_INDEX, CR_STATUS_HALT_WRITE, CR_STATUS_STATE, HI_COUNTS_LOST_COMPLETIONS, RE_STATUS_STATE]
  | .msixTimer .. => []
  | .eventRecordWrite => eventFields ++ [EV_WR_INDEX]
  | .ringEnable .. =>
    [CQ_RD_INDEX, CQ_WR_INDEX, CR_CFG_ENABLE, CR_CFG_PROXY, CR_CFG_SIZE_LOG2, CR_CFG_VECTOR, CR_CONS_INDEX,
     CR_PROD_INDEX, CR_STATUS_CFG_ERR, CR_STATUS_HALT_WRITE, CR_STATUS_STATE]
  | .ringDisable .. =>
    [CQ_RD_INDEX, CQ_WR_INDEX, CR_CFG_ENABLE, CR_CFG_PROXY, CR_CFG_SIZE_LOG2, CR_CFG_VECTOR, CR_CONS_INDEX,
     CR_PROD_INDEX, CR_STATUS_CFG_ERR, CR_STATUS_HALT_WRITE, CR_STATUS_STATE]
  | .ringResume .. =>
    [CQ_RD_INDEX, CQ_WR_INDEX, CR_CFG_ENABLE, CR_CFG_PROXY, CR_CFG_SIZE_LOG2, CR_CFG_VECTOR, CR_CONS_INDEX,
     CR_PROD_INDEX, CR_STATUS_CFG_ERR, CR_STATUS_HALT_WRITE, CR_STATUS_STATE]
  | .eventRingEnable .. =>
    [EV_CFG_ENABLE, EV_CFG_SIZE_LOG2, EV_CFG_VECTOR, EV_RD_INDEX, EV_STATUS_CFG_ERR, EV_STATUS_RUNNING, EV_WR_INDEX]
  | .hiClearCounts =>
    [CR_COUNTS_REJECTED, CR_COUNTS_STALL_FRAMES, EV_LOST_COUNT, HI_COUNTS_EARLY_DOORBELLS,
     HI_COUNTS_LOST_COMPLETIONS, HI_COUNTS_WIDTH_ERRS]
  | .linkResetCmd .. => linkResetFields ++ [HI_STATUS_LINK_UP, MS_STATUS_GATEWAY]
  | .d3hotEntry => stopOpFields ++
    [CR_CFG_ENABLE, CR_STATUS_HALT_WRITE, CR_STATUS_STATE, EV_CFG_ENABLE, EV_STATUS_RUNNING]
  | .proxyTimeout .. => [CR_COUNTS_REJECTED, CR_STATUS_OUTSTANDING]
  | .nop .. => [CR_COUNTS_REJECTED, CR_STATUS_OUTSTANDING]
  | .dmaMove .. => [CR_COUNTS_REJECTED, CR_STATUS_OUTSTANDING]
  | .dmaMoveDone .. => eventFields ++
    [CE_LOG_ADDR, CE_LOG_DEVICE, CE_LOG_TICK, CE_LOG_VALID, CR_COUNTS_REJECTED, CR_STATUS_OUTSTANDING,
     DC_CORRECTED_CORRECTED, DC_INJECT_INJ_CE, DC_INJECT_INJ_UE, DC_REFRESH_COUNTS_FALLBACK_AGE,
     DC_REFRESH_COUNTS_FALLBACK_MISSED, DC_REFRESH_MORE_PARKED_REFRESH, DC_REFRESH_MORE_UNSCHEDULED_REFRESH,
     DC_RFM_COUNTS_RFM_OVERFLOW, DC_STATUS_RFM_LEVEL, DC_STATUS_WB_LEVEL, DC_UE_COUNTS_POISON_READS,
     DC_UE_COUNTS_UNCORR, DC_UE_COUNTS_WB_SKIPPED, DETAIL_LOG_KEY_ID, DETAIL_LOG_OPERATION, DETAIL_LOG_RANGE,
     DETAIL_LOG_REASON, DETAIL_LOG_STREAM_ID, DETAIL_LOG_TICK, DETAIL_LOG_VALID, EN_COUNTS_REFUSALS,
     EN_INJECT_INJ_TAG, FAIL_LOG_ADDR, FAIL_LOG_CHANNEL, FAIL_LOG_KEY_ID, FAIL_LOG_SEQ_TAG, FAIL_LOG_STREAM_ID,
     FAIL_LOG_TICK, FAIL_LOG_VALID, FI_MISC_INJECT_INJ_RFM_FULL, INTEGRITY_FAILS_COUNT, LG_STATUS_READY,
     LINK_FLITS_FLITS, LINK_PARITY_PARITY, LK_CTRL_QUIET, LK_FRAMES_TX_FRAMES, LK_SEQ_NEXT_SEQ, LK_STATUS_STATE,
     LN_STATUS_STATE, MS_COUNTS_REPORTS_DROPPED, MS_COUNTS_UNROUTABLE, MS_INJECT_INJ_CRC, MS_STATUS_TIME_SOURCE,
     NR_COUNTS_B_CLOSED_REFUSALS, NR_COUNTS_C_LATE_RESP, NR_COUNTS_C_RETRIES, NR_COUNTS_C_TIMEOUTS,
     NR_INJECT_INJ_PARITY, NR_INJECT_INJ_TIMEOUT, PORT_FREE_LANDING_FREE, PORT_FREE_RESP_FREE, STAT_BYTES_BYTES,
     STAT_CREDIT_WAIT_CYCLES, STAT_HIST_COUNT, STAT_LAT_MAX_CYCLES, STAT_LAT_MIN_CYCLES, STAT_LAT_SUM_CYCLES,
     STAT_MEAN_CYCLES, STAT_PACKETS_PACKETS, STAT_SNAP_TICK_TICK, UE_LOG_ADDR, UE_LOG_SOURCE, UE_LOG_TICK,
     UE_LOG_VALID]
  | .debugRead .. => endDebugFields
  | .abortOp .. => []
  | .hostAbortLatch .. => stopOpFields
  | .dispatchEnqueue .. =>
    [CR_COUNTS_REJECTED, CR_STATUS_OUTSTANDING, DELAY_DEPTH_DEPTH, DELAY_NEXT_TICK, DP_POOL_FREE,
     DP_POOL_SHARED_FREE, DP_STATUS_BUSY, FLOW_DEPTH_HELD, FLOW_DEPTH_WINDOW, READY_DEPTH_DEPTH]
  | .jobDispatch => workerLostFields ++
    [CR_COUNTS_REJECTED, CR_STATUS_OUTSTANDING, DP_COUNTS_JOB_TIMEOUTS, DP_INJECT_INJ_LOST, DP_INJECT_INJ_TIMEOUT,
     NR_COUNTS_C_TIMEOUTS, NR_INJECT_INJ_TIMEOUT, PORT_FREE_LANDING_FREE, PORT_FREE_RESP_FREE, WAIT_HIST_COUNT,
     WK_COUNTS_TIMEOUTS, WK_JOBS_JOBS]
  | .doneMessage .. => endAccessFields ++ noteJobsFields ++ reserveTrafficFields ++
    [DP_COUNTS_B_LATE_DONE, NR_INJECT_INJ_TIMEOUT, WK_CFG_STATE, WK_JOBS_JOBS, WK_STATUS_IN_FLIGHT]
  | .dispatchJobTimeout .. => eventFields ++ noteJobsFields ++
    [CR_COUNTS_REJECTED, CR_STATUS_OUTSTANDING, DP_COUNTS_JOB_TIMEOUTS, WK_CFG_STATE, WK_COUNTS_TIMEOUTS,
     WK_JOBS_JOBS, WK_STATUS_IN_FLIGHT]
  | .jobRelease .. => blockWriteFields ++ serveDispatchFields ++ [DP_COUNTS_B_DONE_REFUSED]
  | .workerRegistration .. => endAccessFields ++ reserveTrafficFields ++
    [NR_INJECT_INJ_TIMEOUT, WK_CFG_CLASS, WK_CFG_DEPTH_M1, WK_CFG_PORT, WK_CFG_ROUTER, WK_CFG_STATE,
     WK_MAILBOX_ADDR, WK_STATUS_EPOCH, WK_STATUS_IN_FLIGHT, WK_STATUS_TIMEOUT_EXP]
  | .dpClearCounts =>
    [DELAY_LATE_LATE_JOBS, DELAY_LATE_MAX_LATE, DP_COUNTS_B_DONE_REFUSED, DP_COUNTS_B_LATE_DONE,
     DP_COUNTS_B_UNSCHEDULED_ADVANCE, DP_COUNTS_B_WORKERS_LOST, DP_COUNTS_ENQ_STALL_FRAMES, DP_COUNTS_JOB_TIMEOUTS,
     WAIT_HIST_COUNT, WK_COUNTS_RETURNED, WK_COUNTS_TIMEOUTS, WK_JOBS_JOBS]
  | .slotProvision .. => refuseFields ++
    [SLOT_STATE_CONFIG, SLOT_STATE_MEMORY, SLOT_STATE_REVOKE_BIT, SLOT_STATE_STATE]
  | .watchdogKick .. => []
  | .watchdogExpiry .. => eventFields ++ returnJobsFields ++
    [FI_CORE_INJECT_INJ_WATCHDOG, FW_COUNTS_REVERTS, FW_STATUS_STATE, FW_STATUS_VALID_A, FW_STATUS_VALID_B,
     HM_STATUS_CORE_STATE, WD_COUNTS_RESTARTS]
  | .coreRestartDone .. => [HM_STATUS_CORE_STATE]
  | .scratchpadAccess .. => servePadFields
  | .testStep .. => eventFields ++
    [SP_ECC_CORRECTED, SP_ECC_UNCORR, SP_INJECT_INJ_ECC1, SP_INJECT_INJ_ECC2, SP_INJECT_INJ_MARCH,
     SP_STATUS_TESTING, SP_TEST_COUNTS_PASSES, SP_TEST_COUNTS_TEST_FAILS, SP_TEST_COUNTS_TEST_LATE,
     SP_TEST_POS_BLOCK]
  | .testStepEnd =>
    [SP_REPAIR_ENTRIES, SP_STATUS_REPAIRS_USED, SP_STATUS_TESTING, SP_STATUS_UNREPAIRED, SP_TEST_COUNTS_PASSES,
     SP_TEST_POS_BLOCK]
  | .emberWipeDone => [SP_STATUS_WIPING]
  | .spClearCounts =>
    [SP_DENY_COUNT_DENIALS, SP_ECC_CORRECTED, SP_ECC_UNCORR, SP_TEST_COUNTS_PASSES, SP_TEST_COUNTS_TEST_FAILS,
     SP_TEST_COUNTS_TEST_LATE]
  | .monitorWindow .. => degradeClockFields ++ loseLockFields ++
    [CK_COUNTS_SMOULDERS, CK_COUNTS_SWITCHES, CK_DOM_COUNTS_SMOULDERS, CK_DOM_COUNTS_SWITCHES, CK_DOM_STATE,
     CK_INJECT_INJ_BAND, CK_INJECT_INJ_LOSS, CK_KINDLING_TRIM_HOLD, FIRST_TAINT_VC_VC, FI_CHECK_INJECT_INJ_MONITOR,
     FI_MISC_INJECT_INJ_TRAIN_TIMEOUT, FI_MON_FAULT_MONITORS, LG_STATUS_PLL_STATE, LN_STATUS_STATE,
     MON_COUNTS_LOSSES, MON_COUNTS_OUT_OF_BAND, MON_STATUS_ERR, MON_STATUS_LOST, MON_STATUS_RUN, MON_STATUS_STABLE,
     RE_STATUS_CAUSE_SEEN, RE_STATUS_END_CAUSE, RE_STATUS_STATE, TAINT_COUNT_COUNT]
  | .monitorEdgeLoss .. => degradeClockFields ++ loseLockFields ++
    [CK_COUNTS_SMOULDERS, CK_DOM_COUNTS_SMOULDERS, CK_DOM_STATE, CK_KINDLING_TRIM_HOLD, LG_STATUS_PLL_STATE,
     MON_COUNTS_LOSSES, MON_STATUS_LOST, MON_STATUS_RUN, MON_STATUS_STABLE, RE_STATUS_CAUSE_SEEN,
     RE_STATUS_END_CAUSE, RE_STATUS_STATE]
  | .pllLockLoss .. => degradeClockFields ++ loseLockFields ++
    [CK_COUNTS_SMOULDERS, CK_DOM_COUNTS_SMOULDERS, CK_DOM_STATE, LG_STATUS_PLL_STATE, RE_STATUS_CAUSE_SEEN,
     RE_STATUS_END_CAUSE, RE_STATUS_STATE]
  | .pllRelock .. => [MON_STATUS_RUN, MON_STATUS_STABLE]
  | .rampStep .. => [CK_DOM_STATE, CK_STATUS_CORE_ON_CPLL, RG_CLK_STATUS_RUNNING]
  | .rampEnd .. => eventFields ++
    [ALIGN_CTRL_ARM, ALIGN_STATUS_STATE, CK_COUNTS_SWITCHES, CK_DOM_COUNTS_SWITCHES, CK_DOM_STATE, CK_STATUS_CAUSE,
     CK_STATUS_CORE_ON_CPLL, CK_STATUS_DEGRADED, FIFO_LEVEL_LEVEL, FIRST_TAINT_VC_VC,
     FI_MISC_INJECT_INJ_TRAIN_TIMEOUT, LG_STATUS_PLL_STATE, LG_STATUS_READY, LK_STATUS_STATE, LN_STATUS_STATE,
     RG_CLK_STATUS_RUNNING, TAINT_COUNT_COUNT]
  | .trimWindow .. => eventFields ++ [CK_KINDLING_TRIMMED, CK_KINDLING_TRIM_CODE, CK_KINDLING_TRIM_HOLD]
  | .ckClearCounts =>
    [CK_COUNTS_SMOULDERS, CK_COUNTS_SWITCHES, CK_DOM_COUNTS_SMOULDERS, CK_DOM_COUNTS_SWITCHES, MON_COUNTS_LOSSES,
     MON_COUNTS_OUT_OF_BAND]
  | .powerRequest .. => [CR_COUNTS_REJECTED, CR_STATUS_OUTSTANDING, PW_STATUS_BUSY, PW_STATUS_QUEUED]
  | .powerCheck => powerAdvanceFields ++ recordPowerFields ++ [PW_RESTORE_REGIONS]
  | .biasSettledCmd .. => endChangeFields
  | .powerDrainTimeout => powerAbortFields ++ [PW_INJECT_INJ_DRAIN]
  | .pwClearCounts => [PW_COUNT_ABORTS, PW_COUNT_REFUSALS]
  | .tamperSensorFire .. => fireSensorsFields
  | .tapReset => selectIrFields
  | .extest .. => loadIrFields
  | .samplePreload .. => loadIrFields
  | .extestPulse .. => loadIrFields
  | .extestTrain .. => loadIrFields
  | .clamp => loadIrFields
  | .highz => loadIrFields
  | .idcode => loadIrFields
  | .bypass .. => loadIrFields
  | .cfgIn .. => cfgStartFields ++ loadIrFields
  | .cfgStatus => loadIrFields
  | .dbgReg .. => eventFields ++ loadIrFields
  | .dbgMem .. => loadIrFields ++ [SL_CYCLES_CYCLES, SL_FAULT_INFO_PARITY_ERRS, SL_STEAL_STOLEN]
  | .dbgAttach .. => arriveFields ++ fetchInsFields ++ loadIrFields ++ powerAbortFields ++
    [DA_ATTACHED_REGIONS, DA_DATA_DATA, DA_STATUS_BUSY, DA_STATUS_CODE, SL_CYCLES_CYCLES, SL_INJECT_INJ_OPMEM,
     SL_MACS_MACS, SL_STALL_STALL_IN, SL_STALL_STALL_OUT, SL_STATUS_OVF0, SL_STATUS_OVF1, SL_STATUS_STORE_SAT]
  | .debugAccessDone .. => blockWriteFields
  | .dbHalt => []
  | .dbResume => []
  | .dbStep => []
  | .runControlLatch => endUnstartedFields ++ serveDispatchFields ++
    [DB_STATUS_CORES_HALTED, DB_STATUS_RC_STATE, DELAY_LATE_LATE_JOBS, DELAY_LATE_MAX_LATE, FRAME_LOG_ENTRY,
     HM_STATUS_CORE_STATE, LOG_STATUS_LOG_LOST, LOG_STATUS_WR_INDEX, UNCREDITED_COUNT_GAP_TOTAL]
  | .haltedEntry => eventFields ++
    [DB_HALT_TICK_TICK, DB_STATUS_CORES_HALTED, DB_STATUS_DRAIN_INCOMPLETE, DB_STATUS_RC_STATE, HM_STATUS_CORE_STATE]
  | .seqArm .. => [DB_CTRL_SEQ_ARM, DB_STATUS_SEQ_STATE, SQ_COUNT_HITS]
  | .dbClearCounts => [EC_HITS_COUNT, NC_HITS_COUNT, SQ_COUNT_HITS, TC_HITS_COUNT]
  | .daAttach .. => powerAbortFields ++
    [DA_ATTACHED_REGIONS, DA_CMD_ADDR, DA_CMD_OP, DA_CMD_REGION, DA_CMD_TARGET, DA_DATA_DATA, DA_STATUS_BUSY,
     DA_STATUS_CODE]
  | .daDetach .. =>
    [DA_ATTACHED_REGIONS, DA_CMD_ADDR, DA_CMD_OP, DA_CMD_REGION, DA_CMD_TARGET, DA_DATA_DATA, DA_STATUS_BUSY,
     DA_STATUS_CODE, SL_STATUS_STATE]
  | .daHalt .. =>
    [DA_CMD_ADDR, DA_CMD_OP, DA_CMD_REGION, DA_CMD_TARGET, DA_DATA_DATA, DA_STATUS_BUSY, DA_STATUS_CODE,
     SL_STATUS_STATE]
  | .daStep .. => eventFields ++ fetchInsFields ++ arriveFields ++
    [DA_CMD_ADDR, DA_CMD_OP, DA_CMD_REGION, DA_CMD_TARGET, DA_DATA_DATA, DA_STATUS_BUSY, DA_STATUS_CODE,
     SL_CYCLES_CYCLES, SL_INJECT_INJ_OPMEM, SL_MACS_MACS, SL_STALL_STALL_IN, SL_STALL_STALL_OUT, SL_STATUS_OVF0,
     SL_STATUS_OVF1, SL_STATUS_STORE_SAT]
  | .daRelease .. =>
    [DA_CMD_ADDR, DA_CMD_OP, DA_CMD_REGION, DA_CMD_TARGET, DA_DATA_DATA, DA_STATUS_BUSY, DA_STATUS_CODE,
     SL_STATUS_STATE]
  | .daRead .. => [DA_CMD_ADDR, DA_CMD_OP, DA_CMD_REGION, DA_CMD_TARGET, DA_DATA_DATA, DA_STATUS_BUSY, DA_STATUS_CODE]
  | .daWrite .. =>
    [DA_CMD_ADDR, DA_CMD_OP, DA_CMD_REGION, DA_CMD_TARGET, DA_DATA_DATA, DA_STATUS_BUSY, DA_STATUS_CODE,
     SL_ITER_ITER, SL_PTR_PC, SL_PTR_P_W, SL_PTR_P_X, SL_PTR_P_Y]
  | .daAck .. => [DA_DATA_DATA, DA_STATUS_BUSY, DA_STATUS_CODE]
  | .daTimeout => [DA_DATA_DATA, DA_STATUS_BUSY, DA_STATUS_CODE]
  | .checkerTest .. => eventFields ++
    [FI_CHECK_INJECT_INJ_CMP_CHECK, FI_CHECK_INJECT_INJ_DLY_CHECK, FI_CHECK_STATUS_CMP_LOST,
     FI_CHECK_STATUS_DLY_LOST]
  | .eaClearCounts =>
    [EA_CLASS_FAULT, EA_CLASS_HANDLED, EA_CLASS_MARKED, EA_CLASS_NOTE, EA_COUNT_COUNT, EA_FIRST_FAULT_EVENT_ID,
     EA_FIRST_FAULT_INSTANCE, EA_FIRST_FAULT_VALID, EA_FIRST_TICK_TICK, EA_INJECTED_COUNT]
  | .injDisagree .. => eventFields ++
    [CB_INJECT_INJ_DELAY, CB_INJECT_INJ_DISAGREE, CB_INJECT_LANE, FI_LAST_DISCARD_OFFSET, FI_STATUS_DISCARDED]
  | .injDelay .. => eventFields ++
    [CB_INJECT_INJ_DELAY, CB_INJECT_INJ_DISAGREE, CB_INJECT_LANE, FI_LAST_DISCARD_OFFSET, FI_STATUS_DISCARDED]
  | .injTemp .. => eventFields ++
    [FI_LAST_DISCARD_OFFSET, FI_STATUS_DISCARDED, RG_INJECT_EDGE, RG_INJECT_GROUP, RG_INJECT_INJ_BCLK,
     RG_INJECT_INJ_BIAS, RG_INJECT_INJ_TEMP]
  | .injBias .. => eventFields ++
    [FI_LAST_DISCARD_OFFSET, FI_STATUS_DISCARDED, RG_INJECT_EDGE, RG_INJECT_GROUP, RG_INJECT_INJ_BCLK,
     RG_INJECT_INJ_BIAS, RG_INJECT_INJ_TEMP]
  | .injBclk .. => eventFields ++
    [FI_LAST_DISCARD_OFFSET, FI_STATUS_DISCARDED, RG_INJECT_EDGE, RG_INJECT_GROUP, RG_INJECT_INJ_BCLK,
     RG_INJECT_INJ_BIAS, RG_INJECT_INJ_TEMP]
  | .injOpmem .. => eventFields ++
    [FI_LAST_DISCARD_OFFSET, FI_STATUS_DISCARDED, SL_INJECT_INJ_OPMEM, SL_INJECT_INJ_PROG]
  | .injProg .. => eventFields ++
    [FI_LAST_DISCARD_OFFSET, FI_STATUS_DISCARDED, SL_INJECT_INJ_OPMEM, SL_INJECT_INJ_PROG]
  | .injAuth .. => eventFields ++
    [CFG_INJECT_INJ_AUTH, CFG_INJECT_INJ_CHECK, FI_LAST_DISCARD_OFFSET, FI_STATUS_DISCARDED]
  | .injCheck .. => eventFields ++
    [CFG_INJECT_INJ_AUTH, CFG_INJECT_INJ_CHECK, FI_LAST_DISCARD_OFFSET, FI_STATUS_DISCARDED]
  | .injSingle .. => eventFields ++
    [FI_LAST_DISCARD_OFFSET, FI_STATUS_DISCARDED, SCRUB_INJECT_INJ_DOUBLE, SCRUB_INJECT_INJ_SINGLE]
  | .injDouble .. => eventFields ++
    [FI_LAST_DISCARD_OFFSET, FI_STATUS_DISCARDED, SCRUB_INJECT_INJ_DOUBLE, SCRUB_INJECT_INJ_SINGLE]
  | .injParity .. => eventFields ++
    [FI_LAST_DISCARD_OFFSET, FI_STATUS_DISCARDED, NR_INJECT_DIR, NR_INJECT_INJ_PARITY, NR_INJECT_INJ_TIMEOUT,
     NR_INJECT_PORT]
  | .nrInjTimeout .. => eventFields ++
    [FI_LAST_DISCARD_OFFSET, FI_STATUS_DISCARDED, NR_INJECT_DIR, NR_INJECT_INJ_PARITY, NR_INJECT_INJ_TIMEOUT,
     NR_INJECT_PORT]
  | .injCe .. => eventFields ++
    [DC_INJECT_INJ_CE, DC_INJECT_INJ_REFMISS, DC_INJECT_INJ_UE, FI_LAST_DISCARD_OFFSET, FI_STATUS_DISCARDED]
  | .injUe .. => eventFields ++
    [DC_INJECT_INJ_CE, DC_INJECT_INJ_REFMISS, DC_INJECT_INJ_UE, FI_LAST_DISCARD_OFFSET, FI_STATUS_DISCARDED]
  | .injRefmiss .. => eventFields ++
    [DC_INJECT_INJ_CE, DC_INJECT_INJ_REFMISS, DC_INJECT_INJ_UE, FI_LAST_DISCARD_OFFSET, FI_STATUS_DISCARDED]
  | .injTag .. => eventFields ++
    [EN_INJECT_INJ_REFUSE, EN_INJECT_INJ_TAG, FI_LAST_DISCARD_OFFSET, FI_STATUS_DISCARDED]
  | .injRefuse .. => eventFields ++
    [EN_INJECT_INJ_REFUSE, EN_INJECT_INJ_TAG, FI_LAST_DISCARD_OFFSET, FI_STATUS_DISCARDED]
  | .injBip .. => eventFields ++
    [BURST_COUNT_BURSTS, BURST_FAILS_COUNT, CB_INJECT_INJ_DISAGREE, CB_STATUS_BP, CB_STATUS_COMPARING,
     CB_STATUS_DELAY_BROKEN, CB_STATUS_DRAINING, CB_STATUS_SEEN, CB_STATUS_SUMMARY, COMPARED_COUNT,
     DELAY_FAULT_COUNT_COUNT, DISAGREE_COUNT_COUNT, FAIL_BITS_COUNT, FAIL_WORDS_COUNT, FIFO_LEVEL_LEVEL,
     FI_LAST_DISCARD_OFFSET, FI_STATUS_DISCARDED, LG_COUNTS_SLIPS, LG_INJECT_INJ_BIP, LG_INJECT_INJ_LOCK,
     LG_INJECT_INJ_SLIP, LG_INJECT_LANE, LG_STATUS_READY, LK_STATUS_STATE, LN_LOCK_LOCK_LOSSES,
     LN_STATUS_BLOCK_LOCK, LN_STATUS_ELASTIC, LN_STATUS_MARKER_LOCK, MISSING_COUNT]
  | .injLock .. => eventFields ++
    [BURST_COUNT_BURSTS, BURST_FAILS_COUNT, CB_INJECT_INJ_DISAGREE, CB_STATUS_BP, CB_STATUS_COMPARING,
     CB_STATUS_DELAY_BROKEN, CB_STATUS_DRAINING, CB_STATUS_SEEN, CB_STATUS_SUMMARY, COMPARED_COUNT,
     DELAY_FAULT_COUNT_COUNT, DISAGREE_COUNT_COUNT, FAIL_BITS_COUNT, FAIL_WORDS_COUNT, FIFO_LEVEL_LEVEL,
     FI_LAST_DISCARD_OFFSET, FI_STATUS_DISCARDED, LG_COUNTS_SLIPS, LG_INJECT_INJ_BIP, LG_INJECT_INJ_LOCK,
     LG_INJECT_INJ_SLIP, LG_INJECT_LANE, LG_STATUS_READY, LK_STATUS_STATE, LN_LOCK_LOCK_LOSSES,
     LN_STATUS_BLOCK_LOCK, LN_STATUS_ELASTIC, LN_STATUS_MARKER_LOCK, MISSING_COUNT]
  | .injSlip .. => eventFields ++
    [BURST_COUNT_BURSTS, BURST_FAILS_COUNT, CB_INJECT_INJ_DISAGREE, CB_STATUS_BP, CB_STATUS_COMPARING,
     CB_STATUS_DELAY_BROKEN, CB_STATUS_DRAINING, CB_STATUS_SEEN, CB_STATUS_SUMMARY, COMPARED_COUNT,
     DELAY_FAULT_COUNT_COUNT, DISAGREE_COUNT_COUNT, FAIL_BITS_COUNT, FAIL_WORDS_COUNT, FIFO_LEVEL_LEVEL,
     FI_LAST_DISCARD_OFFSET, FI_STATUS_DISCARDED, LG_COUNTS_SLIPS, LG_INJECT_INJ_BIP, LG_INJECT_INJ_LOCK,
     LG_INJECT_INJ_SLIP, LG_INJECT_LANE, LG_STATUS_READY, LK_STATUS_STATE, LN_LOCK_LOCK_LOSSES,
     LN_STATUS_BLOCK_LOCK, LN_STATUS_ELASTIC, LN_STATUS_MARKER_LOCK, MISSING_COUNT]
  | .injCrc .. => eventFields ++
    [FI_LAST_DISCARD_OFFSET, FI_STATUS_DISCARDED, MS_INJECT_INJ_ACK_DROP, MS_INJECT_INJ_CRC,
     MS_INJECT_INJ_TIME_MISS, MS_INJECT_LINK]
  | .injAckDrop .. => eventFields ++
    [FI_LAST_DISCARD_OFFSET, FI_STATUS_DISCARDED, MS_INJECT_INJ_ACK_DROP, MS_INJECT_INJ_CRC,
     MS_INJECT_INJ_TIME_MISS, MS_INJECT_LINK]
  | .injTimeMiss .. => eventFields ++
    [FI_LAST_DISCARD_OFFSET, FI_STATUS_DISCARDED, MS_INJECT_INJ_ACK_DROP, MS_INJECT_INJ_CRC,
     MS_INJECT_INJ_TIME_MISS, MS_INJECT_LINK]
  | .injFetch .. => eventFields ++
    [FI_LAST_DISCARD_OFFSET, FI_STATUS_DISCARDED, HI_INJECT_INJ_DOORBELL, HI_INJECT_INJ_FETCH, HI_INJECT_RING]
  | .injDoorbell .. => eventFields ++
    [FI_LAST_DISCARD_OFFSET, FI_STATUS_DISCARDED, HI_INJECT_INJ_DOORBELL, HI_INJECT_INJ_FETCH, HI_INJECT_RING]
  | .dpInjTimeout .. => eventFields ++
    [DP_INJECT_INJ_LOST, DP_INJECT_INJ_TIMEOUT, DP_INJECT_WORKER, FI_LAST_DISCARD_OFFSET, FI_STATUS_DISCARDED]
  | .injLost .. => eventFields ++
    [DP_INJECT_INJ_LOST, DP_INJECT_INJ_TIMEOUT, DP_INJECT_WORKER, FI_LAST_DISCARD_OFFSET, FI_STATUS_DISCARDED]
  | .injEcc1 .. => eventFields ++
    [FI_LAST_DISCARD_OFFSET, FI_STATUS_DISCARDED, SP_INJECT_INJ_ECC1, SP_INJECT_INJ_ECC2, SP_INJECT_INJ_MARCH]
  | .injEcc2 .. => eventFields ++
    [FI_LAST_DISCARD_OFFSET, FI_STATUS_DISCARDED, SP_INJECT_INJ_ECC1, SP_INJECT_INJ_ECC2, SP_INJECT_INJ_MARCH]
  | .injMarch .. => eventFields ++
    [FI_LAST_DISCARD_OFFSET, FI_STATUS_DISCARDED, SP_INJECT_INJ_ECC1, SP_INJECT_INJ_ECC2, SP_INJECT_INJ_MARCH]
  | .injLoss .. => eventFields ++
    [CK_INJECT_INJ_BAND, CK_INJECT_INJ_LOSS, CK_INJECT_MON, FI_LAST_DISCARD_OFFSET, FI_STATUS_DISCARDED]
  | .injBand .. => eventFields ++
    [CK_INJECT_INJ_BAND, CK_INJECT_INJ_LOSS, CK_INJECT_MON, FI_LAST_DISCARD_OFFSET, FI_STATUS_DISCARDED]
  | .injDrain .. => eventFields ++ [FI_LAST_DISCARD_OFFSET, FI_STATUS_DISCARDED, PW_INJECT_INJ_DRAIN]
  | .tpInjSensor .. => eventFields ++ fireSensorsFields ++
    [FI_LAST_DISCARD_OFFSET, FI_STATUS_DISCARDED, TP_INJECT_INJ_SENSOR]
  | .injOverrun .. => eventFields ++
    [FI_LAST_DISCARD_OFFSET, FI_STATUS_DISCARDED, FI_TICK_INJECT_INJ_OVERRUN, FI_TICK_INJECT_INJ_SYNC_MISS]
  | .injSyncMiss .. => eventFields ++
    [FI_LAST_DISCARD_OFFSET, FI_STATUS_DISCARDED, FI_TICK_INJECT_INJ_OVERRUN, FI_TICK_INJECT_INJ_SYNC_MISS]
  | .injUnderrun .. => eventFields ++
    [FI_LAST_DISCARD_OFFSET, FI_REEL_INJECT_ENGINE, FI_REEL_INJECT_INJ_FORMAT, FI_REEL_INJECT_INJ_SPLICE,
     FI_REEL_INJECT_INJ_UNDERRUN, FI_STATUS_DISCARDED]
  | .injFormat .. => eventFields ++
    [FI_LAST_DISCARD_OFFSET, FI_REEL_INJECT_ENGINE, FI_REEL_INJECT_INJ_FORMAT, FI_REEL_INJECT_INJ_SPLICE,
     FI_REEL_INJECT_INJ_UNDERRUN, FI_STATUS_DISCARDED]
  | .injSplice .. => eventFields ++
    [FI_LAST_DISCARD_OFFSET, FI_REEL_INJECT_ENGINE, FI_REEL_INJECT_INJ_FORMAT, FI_REEL_INJECT_INJ_SPLICE,
     FI_REEL_INJECT_INJ_UNDERRUN, FI_STATUS_DISCARDED]
  | .injCmpCheck .. => eventFields ++
    [FI_CHECK_INJECT_BLOCK, FI_CHECK_INJECT_INJ_CMP_CHECK, FI_CHECK_INJECT_INJ_DLY_CHECK,
     FI_CHECK_INJECT_INJ_MONITOR, FI_CHECK_INJECT_INJ_SENSOR, FI_CHECK_INJECT_SEL, FI_LAST_DISCARD_OFFSET,
     FI_STATUS_DISCARDED]
  | .injDlyCheck .. => eventFields ++
    [FI_CHECK_INJECT_BLOCK, FI_CHECK_INJECT_INJ_CMP_CHECK, FI_CHECK_INJECT_INJ_DLY_CHECK,
     FI_CHECK_INJECT_INJ_MONITOR, FI_CHECK_INJECT_INJ_SENSOR, FI_CHECK_INJECT_SEL, FI_LAST_DISCARD_OFFSET,
     FI_STATUS_DISCARDED]
  | .injMonitor .. => eventFields ++
    [FI_CHECK_INJECT_BLOCK, FI_CHECK_INJECT_INJ_CMP_CHECK, FI_CHECK_INJECT_INJ_DLY_CHECK,
     FI_CHECK_INJECT_INJ_MONITOR, FI_CHECK_INJECT_INJ_SENSOR, FI_CHECK_INJECT_SEL, FI_LAST_DISCARD_OFFSET,
     FI_STATUS_DISCARDED]
  | .fiInjSensor .. => eventFields ++
    [FI_CHECK_INJECT_BLOCK, FI_CHECK_INJECT_INJ_CMP_CHECK, FI_CHECK_INJECT_INJ_DLY_CHECK,
     FI_CHECK_INJECT_INJ_MONITOR, FI_CHECK_INJECT_INJ_SENSOR, FI_CHECK_INJECT_SEL, FI_LAST_DISCARD_OFFSET,
     FI_STATUS_DISCARDED]
  | .injWatchdog .. => eventFields ++
    [FI_CORE_INJECT_CORE, FI_CORE_INJECT_INJ_WATCHDOG, FI_LAST_DISCARD_OFFSET, FI_STATUS_DISCARDED]
  | .injSchConflict .. => eventFields ++
    [FI_LAST_DISCARD_OFFSET, FI_MISC_INJECT_INJ_DESKEW, FI_MISC_INJECT_INJ_MR4, FI_MISC_INJECT_INJ_RFM_FULL,
     FI_MISC_INJECT_INJ_SCH_CONFLICT, FI_MISC_INJECT_INJ_SLOW, FI_MISC_INJECT_INJ_TRAIN_TIMEOUT,
     FI_MISC_INJECT_UNIT, FI_STATUS_DISCARDED]
  | .injMr4 .. => eventFields ++
    [FI_LAST_DISCARD_OFFSET, FI_MISC_INJECT_INJ_DESKEW, FI_MISC_INJECT_INJ_MR4, FI_MISC_INJECT_INJ_RFM_FULL,
     FI_MISC_INJECT_INJ_SCH_CONFLICT, FI_MISC_INJECT_INJ_SLOW, FI_MISC_INJECT_INJ_TRAIN_TIMEOUT,
     FI_MISC_INJECT_UNIT, FI_STATUS_DISCARDED]
  | .injRfmFull .. => eventFields ++
    [FI_LAST_DISCARD_OFFSET, FI_MISC_INJECT_INJ_DESKEW, FI_MISC_INJECT_INJ_MR4, FI_MISC_INJECT_INJ_RFM_FULL,
     FI_MISC_INJECT_INJ_SCH_CONFLICT, FI_MISC_INJECT_INJ_SLOW, FI_MISC_INJECT_INJ_TRAIN_TIMEOUT,
     FI_MISC_INJECT_UNIT, FI_STATUS_DISCARDED]
  | .injDeskew .. => eventFields ++
    [FI_LAST_DISCARD_OFFSET, FI_MISC_INJECT_INJ_DESKEW, FI_MISC_INJECT_INJ_MR4, FI_MISC_INJECT_INJ_RFM_FULL,
     FI_MISC_INJECT_INJ_SCH_CONFLICT, FI_MISC_INJECT_INJ_SLOW, FI_MISC_INJECT_INJ_TRAIN_TIMEOUT,
     FI_MISC_INJECT_UNIT, FI_STATUS_DISCARDED]
  | .injTrainTimeout .. => eventFields ++
    [FI_LAST_DISCARD_OFFSET, FI_MISC_INJECT_INJ_DESKEW, FI_MISC_INJECT_INJ_MR4, FI_MISC_INJECT_INJ_RFM_FULL,
     FI_MISC_INJECT_INJ_SCH_CONFLICT, FI_MISC_INJECT_INJ_SLOW, FI_MISC_INJECT_INJ_TRAIN_TIMEOUT,
     FI_MISC_INJECT_UNIT, FI_STATUS_DISCARDED]
  | .injSlow .. => eventFields ++
    [FI_LAST_DISCARD_OFFSET, FI_MISC_INJECT_INJ_DESKEW, FI_MISC_INJECT_INJ_MR4, FI_MISC_INJECT_INJ_RFM_FULL,
     FI_MISC_INJECT_INJ_SCH_CONFLICT, FI_MISC_INJECT_INJ_SLOW, FI_MISC_INJECT_INJ_TRAIN_TIMEOUT,
     FI_MISC_INJECT_UNIT, FI_STATUS_DISCARDED]
  | .porAssert .. => mapFields
  | .porEnd .. => mapFields
  | .devrstN => mapFields
  | .deviceResetCmd .. => mapFields
  | .perstNRise => []
  | .bootClock .. =>
    [BOOT_STATUS_STAGE, CK_KINDLING_TRIMMED, CK_KINDLING_TRIM_CODE, CK_SEL_WORD0, MON_STATUS_RUN, MON_STATUS_STABLE]
  | .bootDirectory .. => [BOOT_STATUS_DIR_COPY, BOOT_STATUS_NO_DIRECTORY, BOOT_STATUS_STAGE, MON_NOMINAL_KHZ]
  | .bootImage .. => emberWipeFields ++
    [BOOT_STATUS_STAGE, CB_INJECT_INJ_DELAY, CB_INJECT_INJ_DISAGREE, CFG_INJECT_INJ_AUTH, CFG_INJECT_INJ_CHECK,
     CHANGE_LOG_ENTRY, CK_INJECT_INJ_BAND, CK_INJECT_INJ_LOSS, DB_STATUS_DEBUG_PERMITTED, DC_INJECT_INJ_CE,
     DC_INJECT_INJ_REFMISS, DC_INJECT_INJ_UE, DETAIL_LOG_KEY_ID, DETAIL_LOG_OPERATION, DETAIL_LOG_RANGE,
     DETAIL_LOG_REASON, DETAIL_LOG_STREAM_ID, DETAIL_LOG_TICK, DETAIL_LOG_VALID, DP_INJECT_INJ_LOST,
     DP_INJECT_INJ_TIMEOUT, EN_INJECT_INJ_REFUSE, EN_INJECT_INJ_TAG, FI_CHECK_INJECT_INJ_CMP_CHECK,
     FI_CHECK_INJECT_INJ_DLY_CHECK, FI_CHECK_INJECT_INJ_MONITOR, FI_CHECK_INJECT_INJ_SENSOR,
     FI_CORE_INJECT_INJ_WATCHDOG, FI_MISC_INJECT_INJ_DESKEW, FI_MISC_INJECT_INJ_MR4, FI_MISC_INJECT_INJ_RFM_FULL,
     FI_MISC_INJECT_INJ_SCH_CONFLICT, FI_MISC_INJECT_INJ_SLOW, FI_MISC_INJECT_INJ_TRAIN_TIMEOUT,
     FI_REEL_INJECT_INJ_FORMAT, FI_REEL_INJECT_INJ_SPLICE, FI_REEL_INJECT_INJ_UNDERRUN, FI_STATUS_DISARMED,
     FI_TICK_INJECT_INJ_OVERRUN, FI_TICK_INJECT_INJ_SYNC_MISS, FW_STATUS_ACTIVE_SLOT, FW_STATUS_VALID_A,
     FW_STATUS_VALID_B, FW_STATUS_VERSION_A, FW_STATUS_VERSION_B, HI_INJECT_INJ_DOORBELL, HI_INJECT_INJ_FETCH,
     LC_STATUS_RECOVERY_DENIED, LC_STATUS_RECOVERY_REQ, LC_STATUS_STATE, LG_INJECT_INJ_BIP, LG_INJECT_INJ_LOCK,
     LG_INJECT_INJ_SLIP, LIMIT_STATUS_LOG_USED, LIMIT_STATUS_RECOVERY_USED, MS_INJECT_INJ_ACK_DROP,
     MS_INJECT_INJ_CRC, MS_INJECT_INJ_TIME_MISS, NR_INJECT_INJ_PARITY, NR_INJECT_INJ_TIMEOUT, PW_INJECT_INJ_DRAIN,
     RG_INJECT_INJ_BCLK, RG_INJECT_INJ_BIAS, RG_INJECT_INJ_TEMP, SCRUB_INJECT_INJ_DOUBLE, SCRUB_INJECT_INJ_SINGLE,
     SL_INJECT_INJ_OPMEM, SL_INJECT_INJ_PROG, SP_DENY_LOG_CLASS, SP_DENY_LOG_KIND, SP_DENY_LOG_OFFSET,
     SP_DENY_LOG_STREAM_ID, SP_DENY_LOG_VALID, SP_INJECT_INJ_ECC1, SP_INJECT_INJ_ECC2, SP_INJECT_INJ_MARCH,
     SP_RGN_BASE_BLOCK, SP_RGN_LIMIT_BLOCK, SP_RGN_PERM_ENABLE, SP_RGN_PERM_R, SP_RGN_PERM_W, SP_RGN_PERM_X,
     TP_INJECT_INJ_SENSOR]
  | .bootMemory .. => eventFields ++
    [BOOT_STATUS_STAGE, DC_CAPACITY_BYTES, DC_CONFIG_DENSITY, DC_CONFIG_DRFM, DC_CONFIG_RANKS, DC_CONFIG_RATE,
     DC_CONFIG_RFM_REQUIRED, DC_CONFIG_TWO_DIMMS, DC_REPAIR_SPPR_ACTIVE, DC_STATUS_FAIL_CAUSE, DC_STATUS_STATE,
     DC_STATUS_TRAIN_SOURCE, LG_PLL_WORD1, LG_ROLE_WORD0, LG_STATUS_PLL_STATE, MON_NOMINAL_KHZ, MS_STATUS_GATEWAY,
     TR_DESKEW_READ, TR_DESKEW_WRITE, TR_DQS_READ_DQS, TR_DQS_WRITE_DQS]
  | .bootKeys => refuseFields ++
    [BOOT_STATUS_STAGE, HI_STATUS_READY, SLOT_STATE_CONFIG, SLOT_STATE_MEMORY, SLOT_STATE_REVOKE_BIT,
     SLOT_STATE_STATE]
  | .bootFabric => cfgStartFields ++ [BOOT_STATUS_CFG_ALT_USED, BOOT_STATUS_CFG_FAILED, BOOT_STATUS_STAGE]
  | .bootService .. =>
    [BOOT_TIME_CYCLES, HM_STATUS_BOOT_DONE, SP_STATUS_EMBER_MODE, WD_CFG_WD_PERIOD_EXP, WK_CFG_CLASS,
     WK_CFG_DEPTH_M1, WK_CFG_PORT, WK_CFG_ROUTER, WK_CFG_STATE, WK_STATUS_TIMEOUT_EXP]
  | .bootWaitImage =>
    [HI_STATUS_READY, LG_PLL_WORD1, LG_ROLE_WORD0, LG_STATUS_PLL_STATE, MON_NOMINAL_KHZ, MS_STATUS_GATEWAY]
  | .bootWatchdog => mapFields
  | .vccoMeasure .. => [BK_STATUS_VCCO_MISMATCH, BK_STATUS_VCCO_MV]
  | .contentionDetect .. =>
    [BK_COUNTS_SHUTS, BK_SHUT_PINS, PIN_STATUS_CONTENTIONS, PIN_STATUS_SENSED, PIN_STATUS_SHUT]
  | .pinRetry .. => []
  | .senseTest .. => [IO_TEST_PIN, IO_TEST_RESULT, IO_TEST_SENSE_TEST]
  | .strobeOpenCheck .. => [DIAG_COUNTS_OPENS, PIN_STATUS_DIAG]
  | .bkClearCounts .. =>
    [BK_COUNTS_RETRIES, BK_COUNTS_SHUTS, DIAG_COUNTS_DIAG_MISSED, DIAG_COUNTS_OPENS, PIN_STATUS_CONTENTIONS]
  | .blockLockAcquired .. => performLockFields
  | .prbsCheckerSync .. => [LN_PRBS_BITS_BITS, LN_PRBS_CTRL_RX_LOCK, LN_PRBS_ERR_ERRORS]
  | .pcieLinkUp .. => [HI_STATUS_LINK_UP, HI_STATUS_SPEED, HI_STATUS_WIDTH, MS_STATUS_GATEWAY]
  | .ddrSelfRefreshEntered .. => pinsGoFields ++ powerAdvanceFields ++ [DC_RFM_COUNTS_RFM_ISSUED, DC_STATUS_STATE]
  | .failPortSnapshot .. => []
  | .biasFaultCleared .. => [RG_BIAS_MEASURED, RG_STATUS_BIAS_FAULT, RG_STATUS_EDGE_SUSPECT]
  | .linkSignalDetected .. => wakeLinkFields ++ [LK_FRAMES_TX_FRAMES, LK_SEQ_NEXT_SEQ, MS_INJECT_INJ_CRC]

/-- The pieces of the state that a command may change, beside the register fields. -/
def Instr.changes : Instr → List Part
  | .registerWrite .. => [.tickWrites, .lowHalves, .drawn, .ev, .stage, .dbg, .slices]
  | .pairLowRead .. => [.latches, .tick]
  | .rwfWrite .. => [.tickWrites, .lowHalves, .drawn, .ev, .stage, .dbg, .slices]
  | .tick =>
    [.tickWrites, .drawn, .ev, .tick, .ops, .ready, .stage, .dbg, .scratch, .reels, .dram, .catches, .ddr,
     .dramTags, .dramBad, .dramPoison, .enc, .noc, .disp, .sp, .regions, .slices, .frames, .frameDyn, .frameCode,
     .frameBad, .lanes, .groups, .clk, .mesh, .host, .pw, .io]
  | .frameLogRead .. => [.tick]
  | .reelFetchWindow .. =>
    [.drawn, .ev, .tick, .ops, .dbg, .scratch, .reels, .ddr, .enc, .noc, .sp, .regions, .slices, .frames, .frameDyn,
     .frameCode, .frameBad, .lanes, .groups, .clk, .mesh, .host, .pw]
  | .catchFlushWindow .. =>
    [.drawn, .ev, .tick, .ops, .ready, .dbg, .scratch, .dram, .catches, .ddr, .dramTags, .dramBad, .dramPoison,
     .enc, .noc, .sp, .regions, .slices, .frames, .frameDyn, .frameCode, .frameBad, .lanes, .groups, .clk, .mesh,
     .host, .pw]
  | .nocSlotWindow .. =>
    [.drawn, .ev, .tick, .ops, .dbg, .scratch, .ddr, .noc, .sp, .regions, .slices, .frames, .frameDyn, .frameCode,
     .frameBad, .lanes, .groups, .clk, .mesh, .host, .pw]
  | .ddrRefreshWindow .. =>
    [.drawn, .ev, .tick, .ops, .dbg, .scratch, .ddr, .noc, .sp, .regions, .slices, .frames, .frameDyn, .frameCode,
     .frameBad, .lanes, .groups, .clk, .mesh, .host, .pw]
  | .ddrRfmSpareWindow .. =>
    [.drawn, .ev, .tick, .ops, .dbg, .scratch, .ddr, .noc, .sp, .regions, .slices, .frames, .frameDyn, .frameCode,
     .frameBad, .lanes, .groups, .clk, .mesh, .host, .pw]
  | .ddrScrubWindow .. =>
    [.drawn, .ev, .tick, .ops, .dbg, .scratch, .dram, .ddr, .dramTags, .dramBad, .dramPoison, .noc, .sp, .regions,
     .slices, .frames, .frameDyn, .frameCode, .frameBad, .lanes, .groups, .clk, .mesh, .host, .pw]
  | .dispatchAdvanceWindow .. =>
    [.drawn, .ev, .tick, .ops, .dbg, .scratch, .ddr, .noc, .disp, .sp, .regions, .slices, .frames, .frameDyn,
     .frameCode, .frameBad, .lanes, .groups, .clk, .mesh, .host, .pw]
  | .ioDiagWindow .. =>
    [.tickWrites, .drawn, .ev, .tick, .ops, .dbg, .scratch, .ddr, .noc, .sp, .regions, .slices, .frames, .frameDyn,
     .frameCode, .frameBad, .lanes, .groups, .clk, .mesh, .host, .pw, .io]
  | .windowClose .. =>
    [.drawn, .ev, .tick, .ops, .ready, .stage, .dbg, .scratch, .dram, .catches, .ddr, .dramTags, .dramBad,
     .dramPoison, .enc, .noc, .sp, .regions, .slices, .frames, .frameDyn, .frameCode, .frameBad, .lanes, .groups,
     .clk, .mesh, .host, .pw]
  | .syncMark .. =>
    [.tickWrites, .drawn, .ev, .tick, .ops, .ready, .stage, .dbg, .scratch, .reels, .dram, .catches, .ddr,
     .dramTags, .dramBad, .dramPoison, .enc, .noc, .disp, .sp, .regions, .slices, .frames, .frameDyn, .frameCode,
     .frameBad, .lanes, .groups, .clk, .mesh, .host, .pw, .io]
  | .syncMarkMissed => [.ev, .tick, .dbg, .slices]
  | .alignArm .. => [.tickWrites, .ev, .tick, .dbg, .slices]
  | .alignModeChange => [.ev, .tick, .dbg, .slices]
  | .proofLoad .. => [.drawn, .ev, .ops, .stage]
  | .proofLoadDone => [.ev, .ops, .stage]
  | .proofCheck .. => [.drawn, .ev, .ops, .stage]
  | .proofCheckDone .. => [.sched, .ev, .ops, .stage, .enc, .noc]
  | .fix .. => [.ev, .ops, .stage]
  | .fixCancel .. => [.ev, .ops, .stage]
  | .fixCancelLatch => [.ev, .ops, .stage]
  | .proofDiscard .. => [.drawn, .ev, .ops, .stage]
  | .finalCheck => [.sched, .ev, .ops, .stage, .enc, .noc]
  | .fixApply .. =>
    [.drawn, .sched, .ev, .tick, .ops, .stage, .dbg, .scratch, .reels, .catches, .ddr, .enc, .noc, .sp, .regions,
     .slices, .cfg, .lanes, .groups, .clk, .mesh, .host, .pw, .boot]
  | .fuseProgramDone => [.stage]
  | .reelStart .. =>
    [.drawn, .ev, .ops, .dbg, .reels, .ddr, .noc, .regions, .slices, .lanes, .groups, .clk, .mesh, .host, .pw]
  | .reelAbort .. => [.ops, .reels]
  | .reelAbortLatch .. => [.ev, .ops, .reels]
  | .reelPrefetchStart .. => []
  | .reelStartTick .. => [.ev, .ops, .reels, .catches]
  | .reelNaturalCompletion .. => [.reels]
  | .pad .. => [.ev, .dbg, .reels, .slices]
  | .literal .. => [.ev, .dbg, .reels, .slices]
  | .repeatVector .. => [.ev, .dbg, .reels, .slices]
  | .repeatBlock .. => [.ev, .dbg, .reels, .slices]
  | .dict .. => [.ev, .dbg, .reels, .slices]
  | .splice .. => [.ev, .dbg, .reels, .slices]
  | .stop .. => [.ev, .dbg, .reels, .slices]
  | .spliceWrite .. => [.ev, .dbg, .reels, .slices]
  | .reelUnderrun .. => [.ev, .dbg, .reels, .slices]
  | .substitutionStart .. => [.reels]
  | .holdReached .. => [.reels]
  | .reelHolding .. => [.ev, .tick, .ops, .dbg, .reels, .catches, .slices]
  | .reClearCounts .. => []
  | .flushDict .. => []
  | .responseWord .. => [.ev, .tick, .dbg, .catches, .slices]
  | .missingResponse .. => [.ev, .tick, .dbg, .catches, .slices]
  | .delayShadowCheck .. =>
    [.drawn, .ev, .tick, .ops, .dbg, .scratch, .catches, .ddr, .noc, .sp, .regions, .slices, .frames, .frameDyn,
     .frameCode, .frameBad, .lanes, .groups, .clk, .mesh, .host, .pw]
  | .recordToFlow .. =>
    [.drawn, .ev, .tick, .ops, .ready, .dbg, .dram, .catches, .ddr, .dramTags, .dramBad, .dramPoison, .enc, .noc,
     .slices]
  | .pendingSummaryRelease .. =>
    [.drawn, .ev, .tick, .ops, .ready, .dbg, .dram, .catches, .ddr, .dramTags, .dramBad, .dramPoison, .enc, .noc,
     .slices]
  | .burstEnd .. => [.ev, .catches]
  | .cmRdWrite .. => [.catches]
  | .strobeRelease .. => [.catches]
  | .cbClearCounts .. => []
  | .fabricReset .. => [.regions, .slices]
  | .tempReading .. => [.ev, .dbg, .scratch, .enc, .sp, .regions, .slices]
  | .biasFault .. => [.ev, .dbg, .slices]
  | .sliceStart .. => [.slices]
  | .sliceStop .. => [.slices]
  | .sliceContinue .. => []
  | .sliceNop .. => [.drawn, .ev, .dbg, .slices]
  | .mac .. => [.drawn, .ev, .dbg, .slices]
  | .repeat_ .. => [.drawn, .ev, .dbg, .slices]
  | .store .. => [.drawn, .ev, .dbg, .slices]
  | .setp .. => [.drawn, .ev, .dbg, .slices]
  | .halt .. => [.drawn, .ev, .dbg, .slices]
  | .sliceMemAccess .. => [.drawn, .ev, .dbg, .slices]
  | .sliceInputWord .. => [.slices]
  | .sliceOutputTake .. => [.slices]
  | .slClearCounts .. => []
  | .configLoad .. =>
    [.drawn, .ev, .ops, .dbg, .ddr, .noc, .regions, .slices, .cfg, .lanes, .groups, .clk, .mesh, .host, .pw]
  | .configHeader .. =>
    [.drawn, .ev, .ops, .dbg, .dram, .ddr, .dramTags, .dramBad, .dramPoison, .enc, .noc, .regions, .slices, .frames,
     .frameDyn, .frameCode, .frameBad, .cfg]
  | .configClearDone => [.enc, .regions, .cfg]
  | .configSegment .. =>
    [.drawn, .ev, .ops, .dbg, .dram, .ddr, .dramTags, .dramBad, .dramPoison, .enc, .noc, .regions, .slices, .cfg]
  | .cfgNop => [.ev, .ops, .dbg, .enc, .regions, .slices, .cfg]
  | .regionSelect => [.ev, .ops, .dbg, .enc, .regions, .slices, .cfg]
  | .writeFrame => [.ev, .ops, .dbg, .enc, .regions, .slices, .cfg]
  | .repeatFrame => [.ev, .ops, .dbg, .enc, .regions, .slices, .cfg]
  | .check => [.ev, .ops, .dbg, .enc, .regions, .slices, .cfg]
  | .fixAtTick => [.ev, .ops, .dbg, .enc, .regions, .slices, .cfg]
  | .keyRoll => [.ev, .ops, .dbg, .enc, .regions, .slices, .cfg]
  | .cfgEnd => [.ev, .ops, .dbg, .enc, .regions, .slices, .cfg]
  | .frameCommit => [.frames, .frameDyn, .frameCode, .frameBad, .cfg]
  | .configRelease .. => [.ev, .ops, .dbg, .enc, .regions, .slices, .cfg, .io]
  | .configAbort => [.cfg]
  | .configAbortLatch => [.ev, .ops, .dbg, .enc, .regions, .slices, .frames, .frameDyn, .frameCode, .frameBad, .cfg]
  | .cfgClearCounts => []
  | .swapDrained .. => [.disp, .regions, .slices]
  | .swapDrainForced .. => [.ev, .dbg, .noc, .disp, .regions, .slices]
  | .swapLoadStart .. => [.regions, .slices, .frames, .frameDyn, .frameCode, .frameBad, .cfg]
  | .swapOpen .. => [.ev, .dbg, .regions, .slices]
  | .scrubStep => [.tickWrites, .ev, .dbg, .slices, .frameBad, .cfg]
  | .autoReloadStart .. =>
    [.drawn, .ev, .ops, .dbg, .ddr, .noc, .regions, .slices, .cfg, .lanes, .groups, .clk, .mesh, .host, .pw]
  | .scrubClearCounts => []
  | .fwWrite .. => [.drawn, .ev, .ops, .flash]
  | .fwCoreRestart .. => [.boot]
  | .fwSelfCheck .. => [.drawn, .ev, .stage, .dbg, .slices, .flash, .boot]
  | .fwCommitRetry => [.drawn, .stage, .disp]
  | .fabricRequest .. => [.ev, .tick, .dbg, .noc, .slices]
  | .reserve .. => [.ev, .dbg, .noc, .slices]
  | .grant .. => [.ev, .dbg, .noc, .slices]
  | .reserveRetry .. => [.noc]
  | .readReq .. =>
    [.latches, .drawn, .ev, .tick, .dbg, .scratch, .dram, .ddr, .dramTags, .dramBad, .dramPoison, .enc, .noc, .sp,
     .slices]
  | .writeReq .. =>
    [.drawn, .ev, .tick, .ops, .dbg, .scratch, .dram, .ddr, .dramTags, .dramBad, .dramPoison, .enc, .noc, .disp,
     .sp, .slices, .lanes, .mesh, .host]
  | .readResp .. => [.ev, .tick, .dbg, .noc, .disp, .slices]
  | .writeResp .. => [.ev, .tick, .dbg, .noc, .disp, .slices]
  | .return_ .. => [.ev, .tick, .dbg, .noc, .disp, .slices]
  | .revoke .. => [.ev, .dbg, .noc, .slices]
  | .release .. => [.ev, .dbg, .noc, .slices]
  | .nocTimeout .. => [.ev, .dbg, .noc, .slices]
  | .priorityAging .. => [.noc]
  | .portDrained .. =>
    [.drawn, .ev, .ops, .dbg, .ddr, .noc, .regions, .slices, .lanes, .groups, .clk, .mesh, .host, .pw]
  | .statSnap .. => [.noc]
  | .statClear .. => [.noc]
  | .nrClearCounts .. => []
  | .fallbackRefresh .. => [.drawn, .ev, .dbg, .dram, .ddr, .dramTags, .dramBad, .dramPoison, .enc, .noc, .slices]
  | .mr4Read .. => [.ev, .dbg, .slices]
  | .writeBack .. => [.ev, .dbg, .dram, .ddr, .dramTags, .dramBad, .dramPoison, .slices]
  | .trainingPass .. => []
  | .selfRefreshExitDone .. =>
    [.drawn, .ev, .ops, .dbg, .dram, .ddr, .dramTags, .dramBad, .dramPoison, .enc, .noc, .regions, .slices, .lanes,
     .groups, .clk, .mesh, .host, .pw]
  | .trainRecord .. =>
    [.drawn, .ev, .ops, .hostMem, .dbg, .dram, .ddr, .records, .dramTags, .dramBad, .dramPoison, .slices, .lanes,
     .mesh, .host]
  | .ddrRepair .. => [.ev, .ops, .ddr]
  | .ddrRepairDone .. =>
    [.drawn, .ev, .ops, .dbg, .dram, .ddr, .records, .dramTags, .dramBad, .dramPoison, .dramWhole, .slices]
  | .dcClearCounts .. => []
  | .dcClearLogs .. => [.ddr]
  | .lateAlarm => [.ev, .tick, .ops, .dbg, .reels, .catches, .enc, .regions, .slices, .cfg]
  | .keyLoad .. => [.drawn, .ops, .enc]
  | .keyErase .. => [.drawn, .ops, .enc]
  | .keyRetire .. =>
    [.drawn, .ev, .ops, .stage, .dbg, .ddr, .enc, .noc, .regions, .slices, .lanes, .groups, .clk, .mesh, .host, .pw]
  | .keyOpComplete => [.ev, .ops, .enc]
  | .refusalAnswer .. => [.noc, .sp]
  | .rekeyWalkStart => [.enc]
  | .rekeyLine => [.drawn, .ev, .dbg, .dram, .ddr, .dramTags, .dramBad, .dramPoison, .enc, .noc, .slices]
  | .keyRetired => [.ev, .dbg, .enc, .slices]
  | .enClearCounts => []
  | .laneTrained .. =>
    [.drawn, .ev, .ops, .dbg, .ddr, .noc, .regions, .slices, .lanes, .groups, .clk, .mesh, .host, .pw]
  | .laneTrainTimeout .. => [.ev, .dbg, .slices, .groups]
  | .alignMarkerReceived .. => [.ev, .dbg, .slices, .lanes, .mesh]
  | .alignMarkerMissed .. => [.ev, .dbg, .slices, .lanes, .mesh]
  | .laneLockLost .. => [.ev, .dbg, .slices, .lanes, .mesh]
  | .laneElasticSlip .. => [.ev, .tick, .dbg, .catches, .slices]
  | .prbsTxEn .. => [.lanes]
  | .prbsRxEn .. => [.lanes]
  | .eyeScanStart .. => [.tickWrites]
  | .eyeScanDone .. => []
  | .lgClearCounts .. => []
  | .meshPacketFrame .. => [.drawn, .ev, .ops, .dbg, .slices, .lanes, .mesh, .host]
  | .ackBlock .. => [.ev, .dbg, .slices, .lanes, .mesh]
  | .helloFrame .. => [.drawn, .ev, .ops, .dbg, .slices, .lanes, .mesh, .host]
  | .helloSend .. => [.mesh]
  | .helloTimeout .. => [.drawn, .ev, .ops, .dbg, .slices, .lanes, .mesh, .host]
  | .setNotReadyTimeout .. => [.drawn, .ev, .ops, .dbg, .slices, .lanes, .mesh, .host]
  | .replayTimeout .. => [.drawn, .ev, .ops, .dbg, .slices, .lanes, .mesh, .host]
  | .quietFrame .. => [.ev, .dbg, .slices, .lanes, .mesh]
  | .timeFrameSend .. => [.mesh]
  | .timeFrame .. =>
    [.tickWrites, .drawn, .ev, .tick, .ops, .ready, .stage, .dbg, .scratch, .reels, .dram, .catches, .ddr,
     .dramTags, .dramBad, .dramPoison, .enc, .noc, .disp, .sp, .regions, .slices, .frames, .frameDyn, .frameCode,
     .frameBad, .lanes, .groups, .clk, .mesh, .host, .pw, .io]
  | .timeFrameMissed => [.ev, .tick, .dbg, .slices]
  | .meshReportSend =>
    [.drawn, .ev, .dbg, .dram, .ddr, .dramTags, .dramBad, .dramPoison, .enc, .slices, .lanes, .mesh]
  | .meshReportPacket =>
    [.drawn, .ev, .dbg, .dram, .ddr, .dramTags, .dramBad, .dramPoison, .enc, .slices, .lanes, .mesh]
  | .meshDataRequest =>
    [.drawn, .ev, .dbg, .dram, .ddr, .dramTags, .dramBad, .dramPoison, .enc, .noc, .slices, .lanes, .mesh]
  | .meshDataResponse => [.noc, .mesh]
  | .meshHostPacket => [.drawn, .ev, .ops, .ready, .hostMem, .dbg, .disp, .slices, .lanes, .mesh, .host]
  | .lkQuiet .. => [.ev, .dbg, .slices, .lanes, .mesh]
  | .lkReset .. => [.drawn, .ev, .ops, .dbg, .slices, .lanes, .mesh, .host]
  | .msReportRdWrite .. => []
  | .msClearCounts => []
  | .commandDoorbell .. => [.ev, .dbg, .slices]
  | .completionDoorbell .. => []
  | .eventDoorbell .. => []
  | .descriptorConsume .. => [.drawn, .ev, .ops, .dbg, .disp, .slices, .lanes, .mesh, .host]
  | .outcomeLatch .. => [.ops, .ready]
  | .completionWrite .. => [.drawn, .ev, .ops, .ready, .hostMem, .stage, .dbg, .reels, .slices, .lanes, .mesh, .host]
  | .msixTimer .. => [.hostMem, .host]
  | .eventRecordWrite => [.ev, .hostMem, .dbg, .slices, .host]
  | .ringEnable .. => [.host]
  | .ringDisable .. => [.disp, .host]
  | .ringResume .. => [.host]
  | .eventRingEnable .. => []
  | .hiClearCounts => []
  | .linkResetCmd .. =>
    [.drawn, .ev, .ops, .hostMem, .stage, .dbg, .scratch, .dram, .ddr, .dramTags, .dramBad, .dramPoison, .enc, .noc,
     .disp, .sp, .regions, .slices, .frames, .frameDyn, .frameCode, .frameBad, .cfg, .flash, .lanes, .mesh, .host,
     .boot]
  | .d3hotEntry =>
    [.drawn, .ev, .ops, .hostMem, .stage, .dbg, .scratch, .dram, .ddr, .dramTags, .dramBad, .dramPoison, .enc, .noc,
     .disp, .sp, .regions, .slices, .frames, .frameDyn, .frameCode, .frameBad, .cfg, .flash, .lanes, .mesh, .host]
  | .proxyTimeout .. => [.ev, .ops, .host]
  | .nop .. => [.ev, .ops]
  | .dmaMove .. => [.ev, .ops]
  | .dmaMoveDone .. =>
    [.drawn, .ev, .ops, .hostMem, .dbg, .dram, .ddr, .dramTags, .dramBad, .dramPoison, .enc, .noc, .slices, .lanes,
     .mesh, .host]
  | .debugRead .. =>
    [.drawn, .ev, .ops, .hostMem, .dbg, .scratch, .dram, .ddr, .dramTags, .dramBad, .dramPoison, .enc, .noc, .sp,
     .slices, .cfg, .lanes, .mesh, .host]
  | .abortOp .. => [.ops, .host]
  | .hostAbortLatch .. =>
    [.drawn, .ev, .ops, .hostMem, .stage, .dbg, .scratch, .dram, .ddr, .dramTags, .dramBad, .dramPoison, .enc, .noc,
     .sp, .regions, .slices, .frames, .frameDyn, .frameCode, .frameBad, .cfg, .flash, .lanes, .mesh, .host]
  | .dispatchEnqueue .. => [.ev, .ops, .disp]
  | .jobDispatch => [.ev, .tick, .ops, .dbg, .noc, .disp, .slices]
  | .doneMessage .. => [.drawn, .ev, .dbg, .noc, .disp, .slices]
  | .dispatchJobTimeout .. => [.ev, .ops, .dbg, .disp, .slices]
  | .jobRelease .. => [.drawn, .ev, .dbg, .dram, .ddr, .dramTags, .dramBad, .dramPoison, .enc, .noc, .disp, .slices]
  | .workerRegistration .. => [.drawn, .ev, .dbg, .noc, .disp, .slices]
  | .dpClearCounts => []
  | .slotProvision .. => [.drawn, .ops, .enc]
  | .watchdogKick .. => [.sp]
  | .watchdogExpiry .. => [.ev, .dbg, .disp, .sp, .slices, .flash, .boot]
  | .coreRestartDone .. => [.dbg]
  | .scratchpadAccess .. => [.ev, .dbg, .scratch, .noc, .sp, .slices]
  | .testStep .. => [.ev, .dbg, .sp, .slices]
  | .testStepEnd => [.sp]
  | .emberWipeDone => []
  | .spClearCounts => []
  | .monitorWindow .. =>
    [.drawn, .ev, .tick, .ops, .ready, .dbg, .reels, .dram, .catches, .ddr, .dramTags, .dramBad, .dramPoison, .enc,
     .noc, .slices, .lanes, .groups, .clk, .mesh]
  | .monitorEdgeLoss .. =>
    [.drawn, .ev, .tick, .ops, .ready, .dbg, .reels, .dram, .catches, .ddr, .dramTags, .dramBad, .dramPoison, .enc,
     .noc, .slices, .lanes, .clk, .mesh]
  | .pllLockLoss .. =>
    [.drawn, .ev, .tick, .ops, .ready, .dbg, .reels, .dram, .catches, .ddr, .dramTags, .dramBad, .dramPoison, .enc,
     .noc, .slices, .lanes, .clk, .mesh]
  | .pllRelock .. => [.clk]
  | .rampStep .. => [.clk]
  | .rampEnd .. => [.ev, .tick, .dbg, .reels, .catches, .ddr, .slices, .lanes, .groups, .clk, .mesh]
  | .trimWindow .. => [.ev, .dbg, .slices, .clk]
  | .ckClearCounts => []
  | .powerRequest .. => [.ev, .ops, .pw]
  | .powerCheck => [.drawn, .ev, .ops, .dbg, .ddr, .noc, .regions, .slices, .lanes, .groups, .clk, .mesh, .host, .pw]
  | .biasSettledCmd .. =>
    [.drawn, .ev, .ops, .dbg, .ddr, .noc, .regions, .slices, .frames, .frameDyn, .frameCode, .frameBad, .lanes,
     .groups, .clk, .mesh, .host, .pw]
  | .powerDrainTimeout =>
    [.drawn, .ev, .ops, .dbg, .ddr, .noc, .regions, .slices, .lanes, .groups, .clk, .mesh, .host, .pw]
  | .pwClearCounts => []
  | .tamperSensorFire .. => [.ev, .dbg, .scratch, .enc, .sp, .slices]
  | .tapReset =>
    [.drawn, .ev, .ops, .hostMem, .stage, .dbg, .scratch, .dram, .ddr, .dramTags, .dramBad, .dramPoison, .enc, .noc,
     .sp, .regions, .slices, .frames, .frameDyn, .frameCode, .frameBad, .cfg, .flash, .lanes, .groups, .mesh, .host]
  | .extest .. =>
    [.drawn, .ev, .ops, .hostMem, .stage, .dbg, .scratch, .dram, .ddr, .dramTags, .dramBad, .dramPoison, .enc, .noc,
     .sp, .regions, .slices, .frames, .frameDyn, .frameCode, .frameBad, .cfg, .flash, .lanes, .groups, .mesh, .host]
  | .samplePreload .. =>
    [.drawn, .ev, .ops, .hostMem, .stage, .dbg, .scratch, .dram, .ddr, .dramTags, .dramBad, .dramPoison, .enc, .noc,
     .sp, .regions, .slices, .frames, .frameDyn, .frameCode, .frameBad, .cfg, .flash, .lanes, .groups, .mesh, .host]
  | .extestPulse .. =>
    [.drawn, .ev, .ops, .hostMem, .stage, .dbg, .scratch, .dram, .ddr, .dramTags, .dramBad, .dramPoison, .enc, .noc,
     .sp, .regions, .slices, .frames, .frameDyn, .frameCode, .frameBad, .cfg, .flash, .lanes, .groups, .mesh, .host]
  | .extestTrain .. =>
    [.drawn, .ev, .ops, .hostMem, .stage, .dbg, .scratch, .dram, .ddr, .dramTags, .dramBad, .dramPoison, .enc, .noc,
     .sp, .regions, .slices, .frames, .frameDyn, .frameCode, .frameBad, .cfg, .flash, .lanes, .groups, .mesh, .host]
  | .clamp =>
    [.drawn, .ev, .ops, .hostMem, .stage, .dbg, .scratch, .dram, .ddr, .dramTags, .dramBad, .dramPoison, .enc, .noc,
     .sp, .regions, .slices, .frames, .frameDyn, .frameCode, .frameBad, .cfg, .flash, .lanes, .groups, .mesh, .host]
  | .highz =>
    [.drawn, .ev, .ops, .hostMem, .stage, .dbg, .scratch, .dram, .ddr, .dramTags, .dramBad, .dramPoison, .enc, .noc,
     .sp, .regions, .slices, .frames, .frameDyn, .frameCode, .frameBad, .cfg, .flash, .lanes, .groups, .mesh, .host]
  | .idcode =>
    [.drawn, .ev, .ops, .hostMem, .stage, .dbg, .scratch, .dram, .ddr, .dramTags, .dramBad, .dramPoison, .enc, .noc,
     .sp, .regions, .slices, .frames, .frameDyn, .frameCode, .frameBad, .cfg, .flash, .lanes, .groups, .mesh, .host]
  | .bypass .. =>
    [.drawn, .ev, .ops, .hostMem, .stage, .dbg, .scratch, .dram, .ddr, .dramTags, .dramBad, .dramPoison, .enc, .noc,
     .sp, .regions, .slices, .frames, .frameDyn, .frameCode, .frameBad, .cfg, .flash, .lanes, .groups, .mesh, .host]
  | .cfgIn .. =>
    [.drawn, .ev, .ops, .hostMem, .stage, .dbg, .scratch, .dram, .ddr, .dramTags, .dramBad, .dramPoison, .enc, .noc,
     .sp, .regions, .slices, .frames, .frameDyn, .frameCode, .frameBad, .cfg, .flash, .lanes, .groups, .mesh, .host]
  | .cfgStatus =>
    [.drawn, .ev, .ops, .hostMem, .stage, .dbg, .scratch, .dram, .ddr, .dramTags, .dramBad, .dramPoison, .enc, .noc,
     .sp, .regions, .slices, .frames, .frameDyn, .frameCode, .frameBad, .cfg, .flash, .lanes, .groups, .mesh, .host]
  | .dbgReg .. =>
    [.drawn, .ev, .ops, .hostMem, .stage, .dbg, .scratch, .dram, .ddr, .dramTags, .dramBad, .dramPoison, .enc, .noc,
     .sp, .regions, .slices, .frames, .frameDyn, .frameCode, .frameBad, .cfg, .flash, .lanes, .groups, .mesh, .host]
  | .dbgMem .. =>
    [.drawn, .ev, .ops, .hostMem, .stage, .dbg, .scratch, .dram, .ddr, .dramTags, .dramBad, .dramPoison, .enc, .noc,
     .sp, .regions, .slices, .frames, .frameDyn, .frameCode, .frameBad, .cfg, .flash, .lanes, .groups, .mesh, .host]
  | .dbgAttach .. =>
    [.drawn, .ev, .ops, .hostMem, .stage, .dbg, .scratch, .dram, .ddr, .dramTags, .dramBad, .dramPoison, .enc, .noc,
     .sp, .regions, .slices, .frames, .frameDyn, .frameCode, .frameBad, .cfg, .flash, .lanes, .groups, .clk, .mesh,
     .host, .pw]
  | .debugAccessDone .. => [.drawn, .ev, .dbg, .dram, .ddr, .dramTags, .dramBad, .dramPoison, .enc, .noc, .slices]
  | .dbHalt => [.dbg]
  | .dbResume => [.dbg]
  | .dbStep => [.dbg]
  | .runControlLatch => [.ev, .tick, .ops, .dbg, .reels, .noc, .disp]
  | .haltedEntry => [.ev, .dbg, .slices]
  | .seqArm .. => []
  | .dbClearCounts => []
  | .daAttach .. => [.drawn, .ev, .ops, .dbg, .ddr, .noc, .regions, .slices, .lanes, .groups, .clk, .mesh, .host, .pw]
  | .daDetach .. => [.dbg]
  | .daHalt .. => [.dbg]
  | .daStep .. => [.drawn, .ev, .dbg, .slices]
  | .daRelease .. => [.dbg]
  | .daRead .. => [.dbg]
  | .daWrite .. => [.dbg, .slices]
  | .daAck .. => [.dbg]
  | .daTimeout => [.dbg]
  | .checkerTest .. => [.ev, .dbg, .slices]
  | .eaClearCounts => []
  | .injDisagree .. => [.ev, .dbg, .catches, .slices]
  | .injDelay .. => [.ev, .dbg, .catches, .slices]
  | .injTemp .. => [.ev, .dbg, .slices]
  | .injBias .. => [.ev, .dbg, .slices]
  | .injBclk .. => [.ev, .dbg, .slices]
  | .injOpmem .. => [.ev, .dbg, .slices]
  | .injProg .. => [.ev, .dbg, .slices]
  | .injAuth .. => [.ev, .dbg, .slices]
  | .injCheck .. => [.ev, .dbg, .slices]
  | .injSingle .. => [.ev, .dbg, .slices]
  | .injDouble .. => [.ev, .dbg, .slices]
  | .injParity .. => [.ev, .dbg, .slices]
  | .nrInjTimeout .. => [.ev, .dbg, .slices]
  | .injCe .. => [.ev, .dbg, .slices]
  | .injUe .. => [.ev, .dbg, .slices]
  | .injRefmiss .. => [.ev, .dbg, .slices]
  | .injTag .. => [.ev, .dbg, .slices]
  | .injRefuse .. => [.ev, .dbg, .slices]
  | .injBip .. => [.drawn, .ev, .tick, .dbg, .catches, .slices, .lanes, .mesh]
  | .injLock .. => [.drawn, .ev, .tick, .dbg, .catches, .slices, .lanes, .mesh]
  | .injSlip .. => [.drawn, .ev, .tick, .dbg, .catches, .slices, .lanes, .mesh]
  | .injCrc .. => [.ev, .dbg, .slices]
  | .injAckDrop .. => [.ev, .dbg, .slices]
  | .injTimeMiss .. => [.ev, .dbg, .slices]
  | .injFetch .. => [.ev, .dbg, .slices]
  | .injDoorbell .. => [.ev, .dbg, .slices]
  | .dpInjTimeout .. => [.ev, .dbg, .slices]
  | .injLost .. => [.ev, .dbg, .slices]
  | .injEcc1 .. => [.ev, .dbg, .slices]
  | .injEcc2 .. => [.ev, .dbg, .slices]
  | .injMarch .. => [.ev, .dbg, .slices]
  | .injLoss .. => [.ev, .dbg, .slices]
  | .injBand .. => [.ev, .dbg, .slices]
  | .injDrain .. => [.ev, .dbg, .slices]
  | .tpInjSensor .. => [.ev, .dbg, .scratch, .enc, .sp, .slices]
  | .injOverrun .. => [.ev, .dbg, .slices]
  | .injSyncMiss .. => [.ev, .dbg, .slices]
  | .injUnderrun .. => [.ev, .dbg, .slices]
  | .injFormat .. => [.ev, .dbg, .slices]
  | .injSplice .. => [.ev, .dbg, .slices]
  | .injCmpCheck .. => [.ev, .dbg, .slices]
  | .injDlyCheck .. => [.ev, .dbg, .slices]
  | .injMonitor .. => [.ev, .dbg, .slices]
  | .fiInjSensor .. => [.ev, .dbg, .slices]
  | .injWatchdog .. => [.ev, .dbg, .slices]
  | .injSchConflict .. => [.ev, .dbg, .slices]
  | .injMr4 .. => [.ev, .dbg, .slices]
  | .injRfmFull .. => [.ev, .dbg, .slices]
  | .injDeskew .. => [.ev, .dbg, .slices]
  | .injTrainTimeout .. => [.ev, .dbg, .slices]
  | .injSlow .. => [.ev, .dbg, .slices]
  | .porAssert .. => allParts
  | .porEnd .. => allParts
  | .devrstN => allParts
  | .deviceResetCmd .. => allParts
  | .perstNRise => [.boot]
  | .bootClock .. => [.noc, .clk, .boot]
  | .bootDirectory .. => [.boot]
  | .bootImage .. => [.ev, .dbg, .scratch, .enc, .sp, .slices]
  | .bootMemory .. => [.drawn, .ev, .dbg, .ddr, .records, .slices, .clk, .boot]
  | .bootKeys => [.drawn, .enc]
  | .bootFabric => [.cfg, .boot]
  | .bootService .. => [.dbg]
  | .bootWaitImage => [.clk]
  | .bootWatchdog => allParts
  | .vccoMeasure .. => [.io]
  | .contentionDetect .. => [.io]
  | .pinRetry .. => [.io]
  | .senseTest .. => []
  | .strobeOpenCheck .. => [.tickWrites, .io]
  | .bkClearCounts .. => []
  | .blockLockAcquired .. => [.ev, .dbg, .slices, .lanes, .mesh]
  | .prbsCheckerSync .. => [.lanes]
  | .pcieLinkUp .. => []
  | .ddrSelfRefreshEntered .. =>
    [.drawn, .ev, .ops, .hostMem, .stage, .dbg, .scratch, .dram, .ddr, .dramTags, .dramBad, .dramPoison, .enc, .noc,
     .sp, .regions, .slices, .frames, .frameDyn, .frameCode, .frameBad, .cfg, .flash, .lanes, .groups, .clk, .mesh,
     .host, .pw]
  | .failPortSnapshot .. => [.catches]
  | .biasFaultCleared .. => []
  | .linkSignalDetected .. => [.ev, .dbg, .slices, .lanes, .mesh]

/-- The block of registers, and its instance, that a command of one unit acts on: a reel engine, a catch block, a slice,
a DDR channel, a lane group, a bank of pins. -/
def Instr.own (c : Instr) : Option (List RegRow × Nat) :=
  match c with
  | .reelAbortLatch n => some (regs_Reel_engine_n, n)
  | .reelPrefetchStart n => some (regs_Reel_engine_n, n)
  | .reelStartTick n _ _ => some (regs_Reel_engine_n, n)
  | .reelNaturalCompletion n => some (regs_Reel_engine_n, n)
  | .pad n => some (regs_Reel_engine_n, n)
  | .literal n _ => some (regs_Reel_engine_n, n)
  | .repeatVector n _ => some (regs_Reel_engine_n, n)
  | .repeatBlock n => some (regs_Reel_engine_n, n)
  | .dict n _ => some (regs_Reel_engine_n, n)
  | .splice n _ => some (regs_Reel_engine_n, n)
  | .stop n => some (regs_Reel_engine_n, n)
  | .spliceWrite n _ _ _ => some (regs_Reel_engine_n, n)
  | .reelUnderrun n => some (regs_Reel_engine_n, n)
  | .substitutionStart n => some (regs_Reel_engine_n, n)
  | .holdReached n => some (regs_Reel_engine_n, n)
  | .reelHolding n => some (regs_Reel_engine_n, n)
  | .reClearCounts n => some (regs_Reel_engine_n, n)
  | .flushDict n => some (regs_Reel_engine_n, n)
  | .responseWord n _ _ _ _ => some (regs_Catch_block_n, n)
  | .missingResponse n _ _ _ => some (regs_Catch_block_n, n)
  | .delayShadowCheck n _ _ => some (regs_Catch_block_n, n)
  | .recordToFlow n => some (regs_Catch_block_n, n)
  | .pendingSummaryRelease n => some (regs_Catch_block_n, n)
  | .burstEnd n => some (regs_Catch_block_n, n)
  | .cmRdWrite n _ => some (regs_Catch_block_n, n)
  | .strobeRelease n _ => some (regs_Catch_block_n, n)
  | .cbClearCounts n => some (regs_Catch_block_n, n)
  | .failPortSnapshot n => some (regs_Catch_block_n, n)
  | .sliceStart k t _ => some (regs_Arithmetic_slice_s_of_region_k, sliceIdx k t)
  | .sliceStop k t => some (regs_Arithmetic_slice_s_of_region_k, sliceIdx k t)
  | .sliceContinue k t => some (regs_Arithmetic_slice_s_of_region_k, sliceIdx k t)
  | .sliceNop k t => some (regs_Arithmetic_slice_s_of_region_k, sliceIdx k t)
  | .mac k t => some (regs_Arithmetic_slice_s_of_region_k, sliceIdx k t)
  | .repeat_ k t => some (regs_Arithmetic_slice_s_of_region_k, sliceIdx k t)
  | .store k t => some (regs_Arithmetic_slice_s_of_region_k, sliceIdx k t)
  | .setp k t => some (regs_Arithmetic_slice_s_of_region_k, sliceIdx k t)
  | .halt k t => some (regs_Arithmetic_slice_s_of_region_k, sliceIdx k t)
  | .sliceMemAccess k t _ _ _ _ => some (regs_Arithmetic_slice_s_of_region_k, sliceIdx k t)
  | .sliceInputWord k t _ => some (regs_Arithmetic_slice_s_of_region_k, sliceIdx k t)
  | .sliceOutputTake k t => some (regs_Arithmetic_slice_s_of_region_k, sliceIdx k t)
  | .slClearCounts k t => some (regs_Arithmetic_slice_s_of_region_k, sliceIdx k t)
  | .fallbackRefresh c _ _ => some (regs_DDR_channel_c, c)
  | .mr4Read c _ => some (regs_DDR_channel_c, c)
  | .writeBack c => some (regs_DDR_channel_c, c)
  | .trainingPass c _ => some (regs_DDR_channel_c, c)
  | .dcClearCounts c => some (regs_DDR_channel_c, c)
  | .dcClearLogs c => some (regs_DDR_channel_c, c)
  | .alignMarkerReceived g _ _ _ _ _ _ => some (regs_Lane_group_g, g)
  | .alignMarkerMissed g _ => some (regs_Lane_group_g, g)
  | .laneLockLost g _ => some (regs_Lane_group_g, g)
  | .laneElasticSlip g _ _ => some (regs_Lane_group_g, g)
  | .prbsTxEn g _ _ _ => some (regs_Lane_group_g, g)
  | .prbsRxEn g _ _ _ => some (regs_Lane_group_g, g)
  | .eyeScanStart g _ _ => some (regs_Lane_group_g, g)
  | .eyeScanDone g _ _ => some (regs_Lane_group_g, g)
  | .lgClearCounts g => some (regs_Lane_group_g, g)
  | .blockLockAcquired g _ => some (regs_Lane_group_g, g)
  | .prbsCheckerSync g _ _ _ => some (regs_Lane_group_g, g)
  | .vccoMeasure b _ => some (regs_I_O_bank_b, b)
  | .contentionDetect b _ _ => some (regs_I_O_bank_b, b)
  | .pinRetry b _ => some (regs_I_O_bank_b, b)
  | .senseTest b _ _ => some (regs_I_O_bank_b, b)
  | .strobeOpenCheck b _ _ => some (regs_I_O_bank_b, b)
  | .bkClearCounts b => some (regs_I_O_bank_b, b)
  | _ => none

/-! The bytes that a command stores to. A range is an address and a length. -/

/-- Every byte of a memory outside some ranges reads as before. -/
def Untouched (ranges : List (Nat × Nat)) (m m' : Mem) : Prop :=
  ∀ a, (∀ e ∈ ranges, a < e.1 ∨ e.1 + e.2 ≤ a) → memRd m' a 1 = memRd m a 1

/-- The whole lines that hold n bytes from an address. -/
def lineRange (a n : Nat) : Nat × Nat := (a / 64 * 64, (a % 64 + n + 63) / 64 * 64)

/-- Entry k of a ring of a size (R340). -/
def entryRange (base size k : Nat) : Nat × Nat := (base + k % size * 32, 32)

/-- Where the message of a vector is written (R342). -/
def msixRange (s : State) (v : Nat) : Nat × Nat := ((sget ({} : Msix) s.host.msix v).addr, 4)

/-- Where a move writes host memory (R347). -/
def moveRange (o : Op) : List (Nat × Nat) := if bits (o.word 3) 33 32 = 1 then [(o.word 2, bits (o.word 3) 31 0)] else []

/-- Where the moves and the debug reads that run write host memory (R347, R348). -/
def moveRanges (s : State) : List (Nat × Nat) :=
  (s.ops.filter (·.phase == .running)).flatMap fun o =>
    if o.opcode = 0x01 then moveRange o else if o.opcode = 0x02 then [(o.word 3, bits (o.word 4) 31 0)] else []

/-- The lines that the channels serve before a request (R256): those of the requests that wait in a landing buffer, and
those of the write-back queues. -/
def waitingLines (s : State) : List (Nat × Nat) :=
  (List.range 8).flatMap fun c =>
    ((s.noc.xacts.filter fun x => x.dst == portDdr c && x.phase == .landed).map fun x =>
      lineRange (c * 2 ^ 37 + x.addr) (max x.bytes x.data.length)) ++
    (ddr_ s c).wb.map fun e => lineRange e.1 1

/-- Where the images of the operations FW_WRITE go (R346, R480). -/
def imageRanges (s : State) : List (Nat × Nat) :=
  (s.ops.filter (·.opcode == 0x70)).map fun o => (dirWord s (0x20 + 8 * bits (o.word 1) 0 0) 4, bits (o.word 3) 31 0)

/-- Does a command only read the debug scan, or take the pins from their users: the commands of the TAP (R441 to R448)? -/
def Instr.tap (c : Instr) : Bool :=
  match c with
  | .tapReset | .extest .. | .samplePreload .. | .extestPulse .. | .extestTrain .. | .clamp | .highz | .idcode
  | .bypass .. | .cfgIn .. | .cfgStatus | .dbgMem .. | .dbgAttach .. => true
  | _ => false

end Sys2Proof
end

