-- ==== Sys2Proof/Certificates/Slice0/Obligations.lean ====
section
/-! DEFINITION. The statements about the model. Each docstring says what its statement claims; OBLIGATIONS.json names the
rules of the spec that it rests on. -/

open Sys2Proof Sys2Proof.Machine Sys2Proof.Machine.F

/-- A step of a state whose queue has c at its front is exec of c on the state with the queue's rest; on an empty
queue the device idles for one core cycle, which moves the offset in the frame by one (the model's choice, log
entry 2). -/
def Obligations.StepRunsFront : Prop :=
  (∀ (c : Instr) (rest : List Instr) (s : State),
    step { s with pending := c :: rest } = exec c { s with pending := rest }) ∧
  (∀ (s : State), s.pending = [] → step s = .next (idleCycle s)) ∧
  (∀ (s : State), s.pending = [] → frozen s = false → s.offset + 1 < s.period → ∃ t, step s = .next t ∧ t.offset = (s.offset + 1) % 2 ^ 17 ∧ t.now = s.now)

/-- The effect of a command is on everything but the queue: a next state holds the queue as it was. -/
def Obligations.CommandsKeepQueue : Prop :=
  ∀ (c : Instr) (s t : State), exec c s = .next t → t.pending = s.pending

/-- After reset every memory is in its canonical form, and no write waits for the tick. -/
def Obligations.ResetWellFormed : Prop :=
  memoriesOk State.reset = true ∧ tickWritesOk State.reset = true ∧ State.reset.pending = []

/-- From every state whose memories are canonical a step gives one whose memories are. -/
def Obligations.StepKeepsMemories : Prop :=
  ∀ (s t : State), memoriesOk s = true → step s = .next t → memoriesOk t = true

/-- From every state in which only writes to fields that take effect at the next tick wait for it, a step gives one
in which that holds. -/
def Obligations.StepKeepsTickWrites : Prop :=
  ∀ (s t : State), tickWritesOk s = true → step s = .next t → tickWritesOk t = true

/-- TICK advances the tick number by 1, sets the offset to 0 and counts the N core cycles of the frame; it changes
nothing while the tick engine is frozen. FRAME_LOG_READ marks an entry read, but not for the debug master. A
SYNC mark of wrong width is a miss; a plain mark within 8 core cycles counts IN_WINDOW in ALIGNED. A missed mark
takes ALIGNED to HOLDOVER, or to FREE where HOLDOVER is at most 1. ARM in ALIGNED is set; ARM in FREE begins
ACQUIRING. A MODE change in ALIGNED goes FREE. A window command lets the core cycles up to the window's START
pass first. -/
def Obligations.TickResults : Prop :=
  (∀ s, tickWritesOk s = true → frozen s = false →
    Runs .tick s fun t => t.now = (s.now + 1) % 2 ^ 64 ∧ t.offset = 0 ∧ t.tick.base = s.tick.base + s.period) ∧
  (∀ s, frozen s = true → exec .tick s = .next s) ∧
  (∀ k s, Runs (.frameLogRead k false) s fun t => k.val ∉ t.tick.unread ∧ ∀ j, j ≠ k.val → (j ∈ t.tick.unread ↔ j ∈ s.tick.unread)) ∧
  (∀ k s, exec (.frameLogRead k true) s = .next s) ∧
  (∀ width pos s, width < 4 ∨ (12 < width ∧ width < 24) ∨ 40 < width →
    Runs (.syncMark width pos) s fun t =>
      t.rd SYNC_MISS_COUNT_MISSES = (s.rd SYNC_MISS_COUNT_MISSES + 1) % 2 ^ 32) ∧
  (∀ (width : Nat) (pos : Int) s, 4 ≤ width → width ≤ 12 → alignMode s = 1 → alignState s = 2 → s.tick.awaitTick = false →
    (markError s pos).natAbs ≤ 512 → s.rd FI_TICK_INJECT_INJ_SYNC_MISS = 0 →
    Runs (.syncMark width pos) s fun t =>
      t.rd ALIGN_STATUS_IN_WINDOW = min (s.rd ALIGN_STATUS_IN_WINDOW + 1) 255 ∧
        t.rd ALIGN_STATUS_PHASE_ERR = phaseErr (markError s pos) ∧ alignState t = 2) ∧
  (∀ s, alignMode s = 1 → alignState s = 2 → s.tick.awaitTick = false →
    Runs .syncMarkMissed s fun t =>
      t.rd SYNC_MISS_COUNT_MISSES = (s.rd SYNC_MISS_COUNT_MISSES + 1) % 2 ^ 32 ∧ t.rd ALIGN_STATUS_IN_WINDOW = 0 ∧
        alignState t = if s.rd ALIGN_CTRL_HOLDOVER ≤ 1 then 0 else 3) ∧
  (∀ v s, bit v 16 = true → bits v 1 0 = 3 ∨ bits v 1 0 = alignMode s → alignState s = 2 →
    Runs (.alignArm v) s fun t => t.rd ALIGN_CTRL_ARM = 1 ∧ alignState t = 2) ∧
  (∀ v s, bit v 16 = true → bits v 1 0 = 3 ∨ bits v 1 0 = alignMode s → alignState s = 0 → alignMode s ≠ 0 →
    (∀ n : Fin 16, s.rd RE_STATUS_STATE n < 3 ∨ 5 < s.rd RE_STATUS_STATE n) → fixPending s = false →
    s.now < s.rd ALIGN_TICK_EPOCH →
    Runs (.alignArm v) s fun t => t.rd ALIGN_CTRL_ARM = 1 ∧ alignState t = 1) ∧
  (∀ m s, s.tick.modeDue = some m → s.tick.awaitTick = false → s.tick.armAtTick = false →
    Runs .alignModeChange s fun t =>
      alignMode t = m % 4 ∧ t.tick.modeDue = none ∧
        (m ≠ alignMode s → 1 ≤ alignState s → alignState s ≤ 3 → alignState t = 0)) ∧
  (∀ k n e s,
    (opening s 0x10 k = some e → exec (.reelFetchWindow k ⟨n, none, none, []⟩) s = exec (.reelFetchWindow k ⟨n, none, none, []⟩) (windowStart e s) ∧ (windowStart e s).offset = e.start) ∧
    (opening s 0x20 k = some e → exec (.catchFlushWindow k ⟨n, none, none, []⟩) s = exec (.catchFlushWindow k ⟨n, none, none, []⟩) (windowStart e s) ∧ (windowStart e s).offset = e.start) ∧
    (opening s 0x30 k = some e → exec (.nocSlotWindow k []) s = exec (.nocSlotWindow k []) (windowStart e s) ∧ (windowStart e s).offset = e.start) ∧
    (opening s 0x40 k = some e → exec (.ddrRefreshWindow k false []) s = exec (.ddrRefreshWindow k false []) (windowStart e s) ∧ (windowStart e s).offset = e.start) ∧
    (opening s 0x41 k = some e → exec (.ddrRfmSpareWindow ⟨k, n⟩) s = exec (.ddrRfmSpareWindow ⟨k, n⟩) (windowStart e s) ∧ (windowStart e s).offset = e.start) ∧
    (opening s 0x42 k = some e → exec (.ddrScrubWindow k n) s = exec (.ddrScrubWindow k n) (windowStart e s) ∧ (windowStart e s).offset = e.start) ∧
    (opening s 0x50 k = some e → exec (.dispatchAdvanceWindow k) s = exec (.dispatchAdvanceWindow k) (windowStart e s) ∧ (windowStart e s).offset = e.start) ∧
    (opening s 0x60 k = some e → exec (.ioDiagWindow k) s = exec (.ioDiagWindow k) (windowStart e s) ∧ (windowStart e s).offset = e.start))

/-- A PROOF_LOAD that may act makes the area LOADING with its set identifier, and one that may not completes BUSY;
its end decides it. PROOF_CHECK passes to PROOFING. FIX of a PROOFED set at a permitted tick is FIX_PENDING.
FIX_CANCEL waits, and latched in time it aborts the fix and completes OK. PROOF_DISCARD empties the area. -/
def Obligations.StagingResults : Prop :=
  (∀ (r : Fin 65) arg o s, r.val < 64 → s.stage.load = none → Waits s r 0x20 o → ownsStage s false = true →
    stageLocked s = false →
    Runs (.proofLoad r arg) s fun t =>
      stageState t = 1 ∧ t.flag PF_STATE_OWNER = false ∧ t.rd PF_SET_ID_SET_ID = memRd (hostImage s o) (o.word 1) 4 % 2 ^ 32 ∧
        ∃ x, t.stage.load = some (r.val, o.idx, x)) ∧
  (∀ (r : Fin 65) arg o s, r.val < 64 → s.stage.load = none → Waits s r 0x20 o →
    (ownsStage s false = false ∨ stageLocked s = true) →
    Runs (.proofLoad r arg) s fun t => Decided t r o.idx Code.BUSY 0 ∧ stageState t = stageState s) ∧
  (∀ r k code item fld o s, s.stage.load = some (r, k, code, item, fld) → r < 64 → opAt s r k = some o → o.isOpen = true →
    Runs .proofLoadDone s fun t => Decided t r k code 0 ∧ t.stage.load = none) ∧
  (∀ (r : Fin 65) o s, r.val < 64 → s.stage.load = none → Waits s r 0x21 o → ownsStage s false = true → stageState s = 1 →
    Runs (.proofCheck r) s fun t => stageState t = 2 ∧ t.stage.check = some (r.val, o.idx, s.cycle)) ∧
  (∀ (r : Fin 65) arg o s, r.val < 64 → s.stage.load = none → Waits s r 0x22 o → ownsStage s false = true →
    stageState s = 3 → s.now + 2 ≤ o.word 1 →
    ((s.stage.items.any fun x => x.type == 1) = true ∨ hasApply s (o.word 1) = true) →
    Runs (.fix r arg) s fun t =>
      stageState t = 4 ∧ t.rd PF_FIX_TICK_T = o.word 1 % 2 ^ 64 ∧ t.stage.fixOp = some (r.val, o.idx)) ∧
  (∀ (r : Fin 65) o s, r.val < 64 → Waits s r 0x23 o → ownsStage s false = true → s.stage.fixOp.isSome = true →
    Runs (.fixCancel r) s fun t => t.stage.cancels = s.stage.cancels ++ [(r.val, o.idx, s.now)] ∧ Running t r o.idx) ∧
  (∀ r k arrived fr fk o p s, s.stage.cancels = [(r, k, arrived)] → arrived < s.now → s.stage.fixOp = some (fr, fk) →
    arrived + 1 ≤ s.rd PF_FIX_TICK_T - 1 → opAt s r k = some o → o.isOpen = true → opAt s fr fk = some p →
    p.isOpen = true → (r, k) ≠ (fr, fk) → r < 64 → fr < 64 →
    Runs .fixCancelLatch s fun t =>
      stageState t = 3 ∧ t.stage.fixOp = none ∧ t.rd PF_FIX_TICK_T = 0 ∧ Decided t fr fk Code.ABORTED 0 ∧
        Decided t r k Code.OK 0) ∧
  (∀ (r : Fin 65) o s, r.val < 64 → s.stage.load = none → Waits s r 0x24 o → ownsStage s false = true →
    stageLocked s = false → stageState s ≠ 0 →
    Runs (.proofDiscard r) s fun t =>
      stageState t = 0 ∧ t.stage.items = [] ∧ t.stage.rwf = [] ∧ Decided t r o.idx Code.OK 0)

/-- A proof that finds no flaw leaves the set PROOFED, and one that finds one leaves it LOADING with its report. The
final check of a set that is APPLYING passes or ends the fix. At core cycle 0 of tick T a fix of INJ_PERMIT
makes the staged value active and empties the area. A window that closes incomplete counts an overrun; the close
of a fix's APPLY window counts the fix. A burnt change enters the change log. -/
def Obligations.FixResults : Prop :=
  (∀ vccOk r k since o s (u : State), s.stage.check = some (r, k, since) → r < 64 → opAt s r k = some o → o.isOpen = true →
    u = (s.updStage fun g => { g with check := none }).wr PROOF_TIME_CYCLES (s.cycle - since) →
    s.stage.autoFix = false → keySlotRefusal s false = none → proofFlaw u vccOk = none →
    Runs (.proofCheckDone vccOk) s fun t => stageState t = 3 ∧ t.rd PF_RESULT_CODE = Code.OK ∧ Decided t r k Code.OK 0) ∧
  (∀ vccOk r k since (f : SetFlaw) o s (u : State), s.stage.check = some (r, k, since) → r < 64 → opAt s r k = some o → o.isOpen = true →
    u = (s.updStage fun g => { g with check := none }).wr PROOF_TIME_CYCLES (s.cycle - since) →
    keySlotRefusal s false = none → proofFlaw u vccOk = some f →
    Runs (.proofCheckDone vccOk) s fun t => stageState t = 1 ∧ t.rd PF_RESULT_CHECK_ID = f.check % 2 ^ PF_RESULT_CHECK_ID.width ∧
          t.rd PF_ITEM_ITEM = f.item % 2 ^ PF_ITEM_ITEM.width ∧ Decided t r k f.code 0) ∧
  (∀ s, stageState s = 5 → s.stage.checked = false → s.stage.cancels = [] → s.now + 1 = s.rd PF_FIX_TICK_T → keySlotRefusal s true = none → finalFlaw s = none →
    Runs .finalCheck s fun t => stageState t = 5 ∧ t.stage.checked = true) ∧
  (∀ (f : SetFlaw) r k o s, stageState s = 5 → s.stage.checked = false → s.stage.cancels = [] → s.now + 1 = s.rd PF_FIX_TICK_T → keySlotRefusal s true = none → finalFlaw s = some f →
    s.stage.fixOp = some (r, k) → r < 64 → opAt s r k = some o → o.isOpen = true →
    Runs .finalCheck s fun t => stageState t = 1 ∧ t.stage.fixOp = none ∧ Decided t r k f.code 0) ∧
  (∀ v r k s, stageState s = 5 → s.stage.checked = true → s.stage.cancels = [] → s.now = s.rd PF_FIX_TICK_T → s.offset = 0 → credited s = true →
    s.stage.fixOp = some (r, k) → s.stage.items = [] → s.stage.rwf = [⟨INJ_PERMIT_PERMIT, 0, 0, v⟩] →
    Runs (.fixApply () ()) s fun t =>
      t.rd INJ_PERMIT_PERMIT = v % 2 ^ 32 ∧ stageState t = 0 ∧ t.rd PF_RESULT_CODE = Code.OK ∧
        t.stage.applied = some (r, k)) ∧
  (∀ k settled (w x : OpenWin) s (u : State), (s.tick.wins.find? fun w => w.idx == k) = some w → w.type ≠ 1 →
    endAction w (windowEnd w s) = (x, u) →
    u.rd FI_TICK_INJECT_INJ_OVERRUN = 0 → (u.noc.xacts.any fun x => x.phase == .landed) = false →
    Runs (.windowClose k settled) s fun t =>
      (∀ y ∈ t.tick.wins, y.idx ≠ k) ∧
        t.rd OVERRUN_COUNT_OVERRUNS = if x.complete then u.rd OVERRUN_COUNT_OVERRUNS else (u.rd OVERRUN_COUNT_OVERRUNS + 1) % 2 ^ 32) ∧
  (∀ k (w : OpenWin) r x s (u : State), (s.tick.wins.find? fun w => w.idx == k) = some w → w.type = 1 → s.stage.applied = some (r, x) →
    u = windowEnd w s → (u.noc.xacts.any fun x => x.phase == .landed) = false →
    Runs (.windowClose k true) s fun t =>
      t.stage.applied = none ∧ t.rd FIX_COUNT_FIXES = (u.rd FIX_COUNT_FIXES + 1) % 2 ^ 32 ∧
        t.rd LAST_FIX_TICK_TICK = u.now % 2 ^ 64 ∧ (s.offset ≤ w.last → u.offset = w.last)) ∧
  (∀ (f : FuseJob) (rest : List FuseJob) s, s.stage.fuses = f :: rest →
    Runs .fuseProgramDone s fun t =>
      t.stage.fuses = rest ∧
        t.rd CHANGE_LOG_ENTRY 0 f.entry = (f.word0 + (f.word1 + 2 ^ 62 + 2 ^ 63) * 2 ^ 64) % 2 ^ 128 ∧
        t.rd LIMIT_STATUS_LOG_USED = min (s.rd LIMIT_STATUS_LOG_USED + 1) LIMIT_STATUS_LOG_USED.max)

/-- A REEL_START that passes its checks arms its engine; one that fails one completes with that check's code and
field. REEL_ABORT waits; latched, it ends an armed reel, starts a run-down of a running one, and completes
ALREADY_DONE where no such reel runs. PREFETCH begins at S - P, the reel starts at S where everything was ready
in time, and otherwise ends without starting. Natural completion latches FINAL; HOLDING decides the outcome. A
fetch window fetches a line. -/
def Obligations.ReelLifeResults : Prop :=
  (∀ (r : Fin 64) o s, Waits s r 0x40 o → o.word 2 % 64 = 0 → 1 ≤ bits (o.word 4) 4 0 → bits (o.word 4) 4 0 ≤ 16 →
    s.now + bits (o.word 4) 4 0 + 1 ≤ o.word 3 →
    (reelState s (bits (o.word 1) 3 0) = 0 ∨ reelState s (bits (o.word 1) 3 0) = 6) →
    isReelGroup s (bits (o.word 1) 3 0) = true → namesChannel s (bits (o.word 1) 3 0) (o.word 2 / 2 ^ 37) = true →
    s.rd DB_STATUS_RC_STATE = 0 →
    Runs (.reelStart r) s fun t =>
      reelState t (bits (o.word 1) 3 0) = 1 ∧ t.rd START_TICK_S (bits (o.word 1) 3 0) = o.word 3 % 2 ^ 64 ∧
        t.rd VCYCLE_VC (bits (o.word 1) 3 0) = 0 ∧
        (reel t (bits (o.word 1) 3 0)).op = some (r.val, o.idx) ∧ (reel t (bits (o.word 1) 3 0)).addr = o.word 2 ∧
        (reel t (bits (o.word 1) 3 0)).prefetch = bits (o.word 4) 4 0) ∧
  (∀ (r : Fin 64) o s code f, Waits s r 0x40 o →
    reelStartCheck s (bits (o.word 1) 3 0) (o.word 2) (o.word 3) (bits (o.word 4) 4 0) = some (code, f) →
    Runs (.reelStart r) s fun t =>
      Decided t r o.idx code f ∧ reelState t (bits (o.word 1) 3 0) = reelState s (bits (o.word 1) 3 0)) ∧
  (∀ (r : Fin 64) o s, Waits s r 0x41 o →
    Runs (.reelAbort r) s fun t =>
      (reel t (bits (o.word 1) 3 0)).aborts =
          (reel s (bits (o.word 1) 3 0)).aborts ++ [(r.val, o.idx, s.now, o.word 2)] ∧ Running t r o.idx) ∧
  (∀ (n : Fin 16) r k a o s, (reel s n).aborts = [(r, k, a, s.rd START_TICK_S n)] → a < s.now → reelState s n = 3 →
    (reel s n).op.isSome = true → naturalStands s n = false → opAt s r k = some o → o.isOpen = true → r < 64 →
    Runs (.reelAbortLatch n) s fun t =>
      reelState t n = 4 ∧ t.mbit RE_STATUS_CAUSE_SEEN causeAbort n = true ∧
        (s.rd RE_STATUS_END_CAUSE n = 0 → t.rd RE_STATUS_END_CAUSE n = causeAbort) ∧ Decided t r k Code.OK 0 ∧
        (reel t n).aborts = []) ∧
  (∀ (n : Fin 16) r k a x rr kk o p s, (reel s n).aborts = [(r, k, a, x)] → a < s.now → x = s.rd START_TICK_S n →
    (reelState s n = 1 ∨ reelState s n = 2) → (reel s n).op = some (rr, kk) → opAt s rr kk = some p →
    p.isOpen = true → opAt s r k = some o → o.isOpen = true → r < 64 → rr < 64 → (r, k) ≠ (rr, kk) →
    Runs (.reelAbortLatch n) s fun t =>
      reelState t n = 0 ∧ t.rd RE_STATUS_END_CAUSE n = causeAbort ∧ Decided t r k Code.OK 0 ∧
        Decided t rr kk Code.ABORTED 0) ∧
  (∀ (n : Fin 16) r k a x o s, (reel s n).aborts = [(r, k, a, x)] → a < s.now →
    (reelState s n = 0 ∨ x ≠ s.rd START_TICK_S n) → opAt s r k = some o → o.isOpen = true → r < 64 →
    Runs (.reelAbortLatch n) s fun t => Decided t r k Code.ALREADY_DONE 0 ∧ reelState t n = reelState s n) ∧
  (∀ (n : Fin 16) s, reelState s n = 1 → credited s = true → s.rd START_TICK_S n - (reel s n).prefetch ≤ s.now →
    Runs (.reelPrefetchStart n) s fun t => reelState t n = 2) ∧
  (∀ (n : Fin 16) w0 s, reelState s n = 2 → credited s = true → s.rd START_TICK_S n = s.now → (reel s n).hdrOk = true →
    (reel s n).hdrAt + 20 ≤ s.tick.base → 9 + (reel s n).dictLines ≤ (reel s n).fetched →
    (reel s n).dictAt + 20 ≤ s.tick.base → (reel s n).initStop = true → (reel s n).stopAt + 20 ≤ s.tick.base →
    lanesActive s n (s.tick.base - 20) = true →
    Runs (.reelStartTick n () w0) s fun t =>
      reelState t n = (if tainted s n then 5 else 3) ∧ (catch_ t n).w0 = some w0 ∧
        (reel t n).started = some s.tick.base) ∧
  (∀ (n : Fin 16) w0 s, reelState s n = 2 → credited s = true → s.rd START_TICK_S n = s.now →
    ((reel s n).hdrOk = false ∨ (reel s n).initStop = false ∨ (reel s n).fetched < 9 + (reel s n).dictLines ∨
      s.tick.base < (reel s n).hdrAt + 20 ∨ s.tick.base < (reel s n).stopAt + 20 ∨
      ((reel s n).dictLines ≠ 0 ∧ s.tick.base < (reel s n).dictAt + 20) ∨
      lanesActive s n (s.tick.base - 20) = false) →
    Runs (.reelStartTick n () w0) s fun t =>
      reelState t n = 0 ∧ t.rd RE_STATUS_END_CAUSE n = (earlyCause s n).getD causeShort ∧ (reel t n).op = none) ∧
  (∀ (n : Fin 16) s, naturalStands s n = true →
    Runs (.reelNaturalCompletion n) s fun t =>
      t.mbit RE_STATUS_CAUSE_SEEN causeFinal n = true ∧
        (s.rd RE_STATUS_END_CAUSE n = 0 → t.rd RE_STATUS_END_CAUSE n = causeFinal)) ∧
  (∀ (n : Fin 16) r k o s, (reel s n).heldAt.isSome = true → reelState s n = 3 → s.rd RE_STATUS_END_CAUSE n ≤ 1 →
    tainted s n = false → (reel s n).op = some (r, k) → opAt s r k = some o → o.isOpen = true → r < 64 →
    (reel s n).lines.all (fun l => windowShut s l.2.2) = true →
    Runs (.reelHolding n) s fun t =>
      reelState t n = 6 ∧ Decided t r k Code.OK 0 ∧ (reel t n).splice = [] ∧ t.rd BUFFER_LEVEL_LEVEL n = 0 ∧
        t.rd RE_STATUS_END_CAUSE n = causeFinal) ∧
  (∀ (n : Fin 16) s, reelState s n = 0 →
    Runs (.flushDict n) s fun t => t.rd RE_STATUS_DICT_VALID n = 0) ∧
  (∀ (n : Fin 16) s, reelState s n ≠ 0 → exec (.flushDict n) s = .next s) ∧
  (∀ k e meets s, opening s 0x10 k = some e → s.offset = e.start → (reel s e.unit).op.isSome = true → reelState s e.unit = 3 →
    bits e.param 2 0 = (reel s e.unit).addr / 2 ^ 37 → 1 ≤ bits e.param 23 8 →
    (reel s e.unit).fetched < reelLines (reel s e.unit) → bufferLevel (reel s e.unit) < 2048 →
    (reel s e.unit).stopped = false → inMasks s (fetchAddr (reel s e.unit)) e.param = true →
    bankBlocked s (fetchAddr (reel s e.unit)) = false →
    (∀ r < 120, s.rd NR_INJECT_INJ_PARITY r = 0 ∧ s.rd NR_INJECT_INJ_TIMEOUT r = 0) →
    Runs (.reelFetchWindow k ⟨1, none, none, meets⟩) s fun t =>
      t.rd LINES_FETCHED_LINES e.unit = (s.rd LINES_FETCHED_LINES e.unit + 1) % 2 ^ 64 ∧
        (t.tick.wins.any fun w => w.idx == k) = true)

/-- An operation in turn has the effect of its opcode: PAD skips, LITERAL, REPEAT_VECTOR and DICT emit their
vectors, REPEAT_BLOCK opens a block, SPLICE merges what the splice FIFO holds, STOP passes its stop point, and
one that breaks the rules of its fields ends the burst where it stands, in SUBSTITUTING, with cause FORMAT. An
operation that is not in turn leaves the state alone. SPLICE_WRITE fills the FIFO. An underrun substitutes;
substitution sends INVALID to the stop point; HOLD_REACHED stamps END_TICK. -/
def Obligations.ReelVectorResults : Prop :=
  (∀ (n : Fin 16) w s, nextOp s n 0 = some (w, false) → s.rd FI_REEL_INJECT_INJ_FORMAT = 0 → (reel s n).initStop = true →
    (reel s n).blocks = [] → s.rd VCYCLE_VC n ≠ s.rd NEXT_STOP_VC_VC n →
    Runs (.pad n) s fun t => (reel t n).pos = (reel s n).pos + 1 + bits w 31 0) ∧
  (∀ (n : Fin 16) w k s, nextOp s n 1 = some (w, false) → s.rd FI_REEL_INJECT_INJ_FORMAT = 0 →
    (reel s n).initStop = true → (reel s n).cur = none → 1 ≤ k → k ≤ bits w 15 0 →
    (reel s n).pos + 1 + 8 * k ≤ max (reel s n).seen (fetchedWords (reel s n)) → k ≤ fifoRoom s n →
    s.rd VCYCLE_VC n + k ≤ s.rd NEXT_STOP_VC_VC n →
    Runs (.literal n k) s fun t =>
      t.rd VCYCLE_VC n = (s.rd VCYCLE_VC n + k) % 2 ^ 64 ∧
        (reel t n).tx = (reel s n).tx ++ [⟨s.rd VCYCLE_VC n, k, maskVector s n (bits w 59 57), false,
          (List.range k).map fun x => opWordsAt (reel s n) ((reel s n).pos + 1 + 8 * x) 8⟩]) ∧
  (∀ (n : Fin 16) w k s, nextOp s n 2 = some (w, false) → s.rd FI_REEL_INJECT_INJ_FORMAT = 0 →
    (reel s n).initStop = true → (reel s n).cur = none → 1 ≤ k → k ≤ bits w 31 0 →
    k ≤ fifoRoom s n → s.rd VCYCLE_VC n + k ≤ s.rd NEXT_STOP_VC_VC n →
    Runs (.repeatVector n k) s fun t =>
      t.rd VCYCLE_VC n = (s.rd VCYCLE_VC n + k) % 2 ^ 64 ∧
        (reel t n).tx = (reel s n).tx ++ [⟨s.rd VCYCLE_VC n, k, maskVector s n (bits w 59 57), false,
          [opWordsAt (reel s n) ((reel s n).pos + 1) 8]⟩]) ∧
  (∀ (n : Fin 16) w s, nextOp s n 3 = some (w, false) → s.rd FI_REEL_INJECT_INJ_FORMAT = 0 →
    (reel s n).initStop = true → (reel s n).blocks = [] → s.rd VCYCLE_VC n ≠ s.rd NEXT_STOP_VC_VC n →
    Runs (.repeatBlock n) s fun t =>
      (reel t n).pos = (reel s n).pos + 1 ∧
        (reel t n).blocks = [{ start := (reel s n).pos + 1, words := bits w 27 16, left := bits w 15 0 }]) ∧
  (∀ (n : Fin 16) w k s, nextOp s n 4 = some (w, false) → s.rd FI_REEL_INJECT_INJ_FORMAT = 0 →
    (reel s n).initStop = true → (reel s n).cur = none → 1 ≤ k → k ≤ bits w 10 0 →
    k ≤ fifoRoom s n → s.rd VCYCLE_VC n + k ≤ s.rd NEXT_STOP_VC_VC n →
    Runs (.dict n k) s fun t =>
      t.rd VCYCLE_VC n = (s.rd VCYCLE_VC n + k) % 2 ^ 64 ∧
        (reel t n).tx = (reel s n).tx ++ [⟨s.rd VCYCLE_VC n, k, maskVector s n (bits w 59 57), false,
          (List.range k).map fun x => memRd (reel s n).dict (64 * (bits w 25 16 + x)) 64⟩]) ∧
  (∀ (n : Fin 16) w k s, nextOp s n 5 = some (w, false) → s.rd FI_REEL_INJECT_INJ_FORMAT = 0 →
    s.rd FI_REEL_INJECT_INJ_SPLICE = 0 → (reel s n).initStop = true → (reel s n).cur = none → 1 ≤ k →
    k ≤ bits w 15 0 → k ≤ (reel s n).splice.length → k ≤ fifoRoom s n → s.rd VCYCLE_VC n + k ≤ s.rd NEXT_STOP_VC_VC n →
    Runs (.splice n k) s fun t =>
      t.rd VCYCLE_VC n = (s.rd VCYCLE_VC n + k) % 2 ^ 64 ∧ (reel t n).splice = (reel s n).splice.drop k ∧
        t.rd SPLICED_VECTORS_VECTORS n = (s.rd SPLICED_VECTORS_VECTORS n + k) % 2 ^ 64 ∧
        (reel t n).tx = (reel s n).tx ++ [⟨s.rd VCYCLE_VC n, k, maskVector s n (bits w 59 57), false,
          ((reel s n).splice.take k).map (mergeVector w (memRd (reel s n).dict (64 * bits w 25 16) 64))⟩]) ∧
  (∀ (n : Fin 16) w s, nextOp s n 6 = some (w, false) → s.rd FI_REEL_INJECT_INJ_FORMAT = 0 →
    (reel s n).initStop = true → (reel s n).blocks = [] → s.rd VCYCLE_VC n = s.rd NEXT_STOP_VC_VC n → bit w 56 = false →
    1 ≤ bits w 31 0 → bits w 31 0 ≤ (reel s n).rundown → (reel s n).pos + 9 < (reel s n).opWords →
    reelState s n = 3 →
    Runs (.stop n) s fun t =>
      t.rd STOP_NOW_STOP_ID n = bits w 47 32 ∧ t.rd NEXT_STOP_VC_VC n = (s.rd VCYCLE_VC n + bits w 31 0) % 2 ^ 64 ∧
        (reel t n).stopVc = s.rd VCYCLE_VC n ∧ (reel t n).pos = (reel s n).pos + 9 ∧
        (reel t n).stopHold = (List.range 8).map (fun i => opWord (reel s n) ((reel s n).pos + 1 + i)) ∧
        (reel t n).endVc = none) ∧
  (∀ (n : Fin 16) w s, nextOp s n 6 = some (w, true) → bits w 63 60 = 6 → s.rd FI_REEL_INJECT_INJ_FORMAT = 0 →
    (reelState s n = 3 ∨ reelState s n = 4) →
    Runs (.stop n) s fun t =>
      reelState t n = 5 ∧ (reel t n).endVc = some (s.rd VCYCLE_VC n) ∧ (reel t n).stopped = true ∧
        t.mbit RE_STATUS_CAUSE_SEEN causeFormat n = true ∧
        t.rd FORMAT_COUNT_COUNT n = (s.rd FORMAT_COUNT_COUNT n + 1) % 2 ^ 32) ∧
  (∀ (n : Fin 16) k s, (nextOp s n 0 = none → exec (.pad n) s = .next s) ∧
    (nextOp s n 1 = none → exec (.literal n k) s = .next s) ∧ (nextOp s n 2 = none → exec (.repeatVector n k) s = .next s) ∧
    (nextOp s n 3 = none → exec (.repeatBlock n) s = .next s) ∧ (nextOp s n 4 = none → exec (.dict n k) s = .next s) ∧
    (nextOp s n 5 = none → exec (.splice n k) s = .next s) ∧ (nextOp s n 6 = none → exec (.stop n) s = .next s)) ∧
  (∀ (n : Fin 16) v0 v1 s, regionRuns s n = true → 2 ≤ reelState s n → reelState s n ≤ 5 → (reel s n).splice.length + 2 ≤ 128 →
    (Runs (.spliceWrite n 1 v0 v1) s fun t => (reel t n).splice = (reel s n).splice ++ [v0 % 2 ^ 512]) ∧
    Runs (.spliceWrite n 3 v0 v1) s fun t =>
      (reel t n).splice = (reel s n).splice ++ [v0 % 2 ^ 512, v1 % 2 ^ 512]) ∧
  (∀ (n : Fin 16) v0 v1 s, regionRuns s n = true →
    exec (.spliceWrite n 2 v0 v1) s = .next (s.incSat SPLICE_ERR_BAD_VALID n)) ∧
  (∀ (n : Fin 16) v0 v1 s, regionRuns s n = true → reelState s n < 2 ∨ 5 < reelState s n →
    exec (.spliceWrite n 1 v0 v1) s = .next (s.incWrap SPLICE_LEFTOVER_VECTORS n)) ∧
  (∀ (n : Fin 16) v v0 v1 s, regionRuns s n = false → exec (.spliceWrite n v v0 v1) s = .next s) ∧
  (∀ (n : Fin 16) s, (reelState s n = 3 ∨ reelState s n = 4) → (reel s n).endVc = none →
    s.rd FI_REEL_INJECT_INJ_UNDERRUN = 0 → s.rd ALIGN_STATUS_STATE ≠ 4 → fifoEmpty s n = true →
    Runs (.reelUnderrun n) s fun t =>
      reelState t n = 5 ∧ t.mbit RE_STATUS_CAUSE_SEEN causeUnderrun n = true ∧ (reel t n).stopped = true ∧
        (reel t n).endVc = some (nextStopAt s n) ∧
        t.rd UNDERRUN_COUNT_COUNT n = (s.rd UNDERRUN_COUNT_COUNT n + 1) % 2 ^ 32) ∧
  (∀ (n : Fin 16) s, (reelState s n = 3 ∨ reelState s n = 4) → s.rd FI_REEL_INJECT_INJ_UNDERRUN = 0 → fifoEmpty s n = false →
    exec (.reelUnderrun n) s = .next s) ∧
  (∀ (n : Fin 16) stop s, (reel s n).endVc = some stop → reelState s n = 5 → (reel s n).subst = false →
    fifoEmpty s n = true → s.rd VCYCLE_VC n < stop →
    Runs (.substitutionStart n) s fun t =>
      (reel t n).subst = true ∧ ∃ x, (reel t n).tx = (reel s n).tx ++
        [⟨s.rd VCYCLE_VC n, stop - s.rd VCYCLE_VC n, 0, true, [x]⟩]) ∧
  (∀ (n : Fin 16) (e : Nat) s, (reel s n).endVc = some e → (reel s n).heldAt = none →
    (reelState s n = 3 ∨ reelState s n = 4 ∨ (reelState s n = 5 ∧ (reel s n).subst = true)) →
    endTimes (reel s n) e ≤ laneTimes s n →
    Runs (.holdReached n) s fun t => (reel t n).heldAt = some s.now ∧ t.rd END_TICK_TICK n = s.now ∧
      ∃ c : Nat, (reel t n).laneHold = some ⟨(reel s n).stopHold, s.rd STOP_NOW_STOP_ID n, c, e⟩)

/-- A response word whose due entry has a mask is compared once: COMPARED rises by 1, and where a masked bit differs
in either copy the failing word and its failing bits are counted and the fail port takes them. A disagreement of
the copies is counted. A word whose entry has no mask is not compared, and while the core PLL smoulders it is
only counted. A missing word, as every word of a set that is not ready, fails with its whole mask. A lane whose
delay disagrees is reported and its working copy reloaded where register and shadow are good. -/
def Obligations.CompareResults : Prop :=
  (∀ (n : Fin 16) (i : Fin 8) r word (d : Due) s, s.mbit LG_STATUS_READY 0 n = true → dueEntry s n i r = some d → s.rd ALIGN_STATUS_STATE ≠ 4 → ptrDiff s n i 0 = ptrDiff s n i 1 → d.mask ≠ 0 →
    s.rd CB_INJECT_INJ_DISAGREE n = 0 → ((word % 2 ^ 64) ^^^ d.word) &&& d.mask = 0 →
    Runs (.responseWord n i r word 0) s fun t =>
      t.rd COMPARED_COUNT n i = (s.rd COMPARED_COUNT n i + 1) % 2 ^ 64 ∧
        t.rd FAIL_WORDS_COUNT n i = s.rd FAIL_WORDS_COUNT n i ∧ t.rd FAIL_BITS_COUNT n i = s.rd FAIL_BITS_COUNT n i ∧
        (catch_ t n).cfFail = (catch_ s n).cfFail) ∧
  (∀ (n : Fin 16) (i : Fin 8) r word (d : Due) s, s.mbit LG_STATUS_READY 0 n = true → dueEntry s n i r = some d → s.rd ALIGN_STATUS_STATE ≠ 4 → ptrDiff s n i 0 = ptrDiff s n i 1 → d.mask ≠ 0 →
    s.rd CB_INJECT_INJ_DISAGREE n = 0 → ((word % 2 ^ 64) ^^^ d.word) &&& d.mask ≠ 0 →
    Runs (.responseWord n i r word 0) s fun t =>
      t.rd COMPARED_COUNT n i = (s.rd COMPARED_COUNT n i + 1) % 2 ^ 64 ∧
        t.rd FAIL_WORDS_COUNT n i = (s.rd FAIL_WORDS_COUNT n i + 1) % 2 ^ 64 ∧
        t.rd FAIL_BITS_COUNT n i =
          (s.rd FAIL_BITS_COUNT n i + popcount (((word % 2 ^ 64) ^^^ d.word) &&& d.mask)) % 2 ^ 64 ∧
        (catch_ t n).cfFail = (catch_ s n).cfFail ||| 2 ^ i.val ∧
        (catch_ t n).cfBits = (catch_ s n).cfBits ||| (((word % 2 ^ 64) ^^^ d.word) &&& d.mask)) ∧
  (∀ (n : Fin 16) (i : Fin 8) r word flip (d : Due) s, s.mbit LG_STATUS_READY 0 n = true → dueEntry s n i r = some d → s.rd ALIGN_STATUS_STATE ≠ 4 → ptrDiff s n i 0 = ptrDiff s n i 1 → d.mask ≠ 0 →
    s.rd CB_INJECT_INJ_DISAGREE n = 0 → flip % 2 ^ 64 ≠ 0 →
    Runs (.responseWord n i r word flip) s fun t =>
      t.rd DISAGREE_COUNT_COUNT n = (s.rd DISAGREE_COUNT_COUNT n + 1) % 2 ^ 32 ∧
        t.mbit CB_STATUS_SEEN 0 n = true) ∧
  (∀ (n : Fin 16) (i : Fin 8) r word flip (d : Due) s, s.mbit LG_STATUS_READY 0 n = true → dueEntry s n i r = some d → s.rd ALIGN_STATUS_STATE ≠ 4 → ptrDiff s n i 0 = ptrDiff s n i 1 → d.mask = 0 →
    Runs (.responseWord n i r word flip) s fun t =>
      t.rd COMPARED_COUNT n i = s.rd COMPARED_COUNT n i ∧ t.rd FAIL_WORDS_COUNT n i = s.rd FAIL_WORDS_COUNT n i) ∧
  (∀ (n : Fin 16) (i : Fin 8) r word flip (d : Due) s, s.mbit LG_STATUS_READY 0 n = true → dueEntry s n i r = some d → s.rd ALIGN_STATUS_STATE = 4 →
    Runs (.responseWord n i r word flip) s fun t =>
      t.rd UNCOMPARED_COUNT n i = (s.rd UNCOMPARED_COUNT n i + 1) % 2 ^ 32 ∧
        t.rd COMPARED_COUNT n i = s.rd COMPARED_COUNT n i) ∧
  (∀ (n : Fin 16) (i : Fin 8) r word flip control s, isReelGroup s n = false →
    exec (.responseWord n i r word flip) s = .next s ∧ exec (.missingResponse n i r ⟨control, flip⟩) s = .next s) ∧
  (∀ (n : Fin 16) (i : Fin 8) r word flip control s, isReelGroup s n = true → s.mbit LG_STATUS_READY 0 n = true → dueEntry s n i r = none →
    delayParityBad s n i = false → s.rd ALIGN_STATUS_STATE ≠ 4 →
    exec (.responseWord n i r word flip) s = .next (noteWordTime n i r s) ∧
      exec (.missingResponse n i r ⟨control, flip⟩) s = .next (noteWordTime n i r s)) ∧
  (∀ (n : Fin 16) (i : Fin 8) r word flip s, isReelGroup s n = true → s.mbit LG_STATUS_READY 0 n = true → s.rd ALIGN_STATUS_STATE = 4 →
    Runs (.responseWord n i r word flip) s fun t =>
      t.rd UNCOMPARED_COUNT n i = (s.rd UNCOMPARED_COUNT n i + 1) % 2 ^ 32) ∧
  (∀ (n : Fin 16) (i : Fin 8) r word flip (d : Due) s, isReelGroup s n = true → s.mbit LG_STATUS_READY 0 n = false →
    dueEntry s n i r = some d → s.rd ALIGN_STATUS_STATE ≠ 4 → ptrDiff s n i 0 = ptrDiff s n i 1 → d.mask ≠ 0 → s.rd CB_INJECT_INJ_DISAGREE n = 0 →
    flip % 2 ^ 64 &&& d.mask = flip % 2 ^ 64 →
    Runs (.responseWord n i r word flip) s fun t =>
      t.rd MISSING_COUNT n i = (s.rd MISSING_COUNT n i + 1) % 2 ^ 32 ∧
        t.rd FAIL_BITS_COUNT n i = (s.rd FAIL_BITS_COUNT n i + popcount d.mask) % 2 ^ 64) ∧
  (∀ (n : Fin 16) (i : Fin 8) r control flip (d : Due) s, dueEntry s n i r = some d → s.rd ALIGN_STATUS_STATE ≠ 4 → ptrDiff s n i 0 = ptrDiff s n i 1 → d.mask ≠ 0 →
    s.rd CB_INJECT_INJ_DISAGREE n = 0 → flip % 2 ^ 64 &&& d.mask = flip % 2 ^ 64 →
    Runs (.missingResponse n i r ⟨control, flip⟩) s fun t =>
      t.rd MISSING_COUNT n i = (s.rd MISSING_COUNT n i + 1) % 2 ^ 32 ∧
        t.rd COMPARED_COUNT n i = (s.rd COMPARED_COUNT n i + 1) % 2 ^ 64 ∧
        t.rd FAIL_BITS_COUNT n i = (s.rd FAIL_BITS_COUNT n i + popcount d.mask) % 2 ^ 64 ∧
        t.mbit CB_STATUS_SEEN 3 n = true) ∧
  (∀ (n : Fin 16) (i : Fin 8) (m : Fin 8192) (c : Fin 2) (u : Fin 256) s, s.rd ALIGN_STATUS_STATE ≠ 4 → m ≠ 0 → u.val = 2 ^ i.val →
    (∀ j : Fin 8, sget 0 (catch_ s n).workDiff j = 0 ∧ ptrDiff s n j 0 = 0 ∧ ptrDiff s n j 1 = 0) →
    (∀ j : Fin 8, delayGood s n j = true) →
    (Runs (.delayShadowCheck n { copy := [(i, m)] } ⟨0, 0⟩) s fun t =>
      t.rd DELAY_FAULT_COUNT_COUNT n = (s.rd DELAY_FAULT_COUNT_COUNT n + 1) % 2 ^ 32 ∧
        t.mbit CB_STATUS_SEEN 1 n = true ∧ t.rd CB_STATUS_DELAY_BROKEN n = s.rd CB_STATUS_DELAY_BROKEN n ∧
        workDelay t n i = workDelay s n i) ∧
    (Runs (.delayShadowCheck n { pointer := [(i, c, m)] } ⟨0, 0⟩) s fun t =>
      t.rd DELAY_FAULT_COUNT_COUNT n = (s.rd DELAY_FAULT_COUNT_COUNT n + 1) % 2 ^ 32 ∧
        t.mbit CB_STATUS_SEEN 1 n = true ∧ t.rd CB_STATUS_DELAY_BROKEN n = s.rd CB_STATUS_DELAY_BROKEN n ∧
        ptrDiff t n i c = 0) ∧
    (Runs (.delayShadowCheck n {} ⟨u, 0⟩) s fun t =>
      t.rd DELAY_FAULT_COUNT_COUNT n = (s.rd DELAY_FAULT_COUNT_COUNT n + 1) % 2 ^ 32 ∧
        t.mbit CB_STATUS_SEEN 1 n = true ∧ t.flag CB_STATUS_DELAY_BROKEN n = true ∧ delayGood t n i = false) ∧
    Runs (.delayShadowCheck n {} ⟨0, u⟩) s fun t =>
      t.rd DELAY_FAULT_COUNT_COUNT n = (s.rd DELAY_FAULT_COUNT_COUNT n + 1) % 2 ^ 32 ∧
        t.mbit CB_STATUS_SEEN 1 n = true ∧ t.flag CB_STATUS_DELAY_BROKEN n = true ∧ delayGood t n i = false) ∧
  (∀ (n : Fin 16) s, s.rd ALIGN_STATUS_STATE = 4 ∨ ((∀ j : Fin 8, sget 0 (catch_ s n).workDiff j = 0 ∧ ptrDiff s n j 0 = 0 ∧ ptrDiff s n j 1 = 0) ∧ ∀ j : Fin 8, delayGood s n j = true) →
    Runs (.delayShadowCheck n {} ⟨0, 0⟩) s fun t =>
      t.rd DELAY_FAULT_COUNT_COUNT n = s.rd DELAY_FAULT_COUNT_COUNT n ∧ ∀ j : Fin 8, workDelay t n j = workDelay s n j)

/-- The oldest record of the FIFO passes into the flow. The pending summary leaves once there is space or it covers
65,535 frames. BURST_END is made of the burst that has ended. CM_RD takes an index in range, and one out of
range sets RD_ERR. A strobe is released; a snapshot takes the fail port. A flush window writes two records to
the ring in catch memory, stops at a full ring, and only counts a wrong channel. -/
def Obligations.CatchRecordResults : Prop :=
  (∀ (n : Fin 16) (r : Rec) (rest : List Rec) s, (catch_ s n).fifo = r :: rest → (catch_ s n).window = none → recordRoom s (catchFlow s n) = true →
    Runs (.recordToFlow n) s fun t =>
      (catch_ t n).fifo = rest ∧ (catch_ t n).flow = (catch_ s n).flow ++ [{ r with inFlow := some (catchFlow s n) }] ∧
        t.rd RECORDS_MADE_RECORDS n = (s.rd RECORDS_MADE_RECORDS n + 1) % 2 ^ 64) ∧
  (∀ (n : Fin 16) (p : Rec) f s, (catch_ s n).pendingSum = some (p, f) →
    (recordsHeld s n < catchCapacity s n ∨ bits p.body 47 32 = 65535) → recordRoom s (catchFlow s n) = true → (catch_ s n).window = none →
    Runs (.pendingSummaryRelease n) s fun t =>
      (catch_ t n).pendingSum = none ∧ t.rd CB_STATUS_SUMMARY_PENDING n = 0 ∧
        (catch_ t n).flow = (catch_ s n).flow ++ [{ p with inFlow := some (catchFlow s n) }]) ∧
  (∀ (n : Fin 16) (r : Rec) (rest : List Rec) s, (catch_ s n).fifo = r :: rest → recordRoom s (catchFlow s n) = false →
    exec (.recordToFlow n) s = .next s) ∧
  (∀ (n : Fin 16) (p : Rec) f s, (catch_ s n).pendingSum = some (p, f) → catchCapacity s n ≤ recordsHeld s n →
    bits p.body 47 32 ≠ 65535 → exec (.pendingSummaryRelease n) s = .next s) ∧
  (∀ (n : Fin 16) (b : CatchBurst) s, (catch_ s n).bursts.find? (fun b => b.ended && b.notice) = some b →
    (catch_ s n).sumFirst = none → (catch_ s n).pendingSum = none → (catch_ s n).deferred = [] → mayCreate s n = true →
    Runs (.burstEnd n) s fun t =>
      catchBurst t n b.op = none ∧ ∃ r, (catch_ t n).fifo = (catch_ s n).fifo ++ [r] ∧ r.type = 4 ∧ r.flags = 2 ∧
        r.vc = b.endVc ∧ r.body = b.fails ∧ r.op = some b.op ∧ r.bp = b.bp) ∧
  (∀ (n : Fin 16) v s, v < 2 ^ 64 → v ≤ s.rd CM_WR_INDEX n → s.rd CM_WR_INDEX n ≤ v + 2 * s.rd CM_LINES_LINES n →
    Runs (.cmRdWrite n v) s fun t => t.rd CM_RD_INDEX n = v ∧
      (s.rd CM_WR_INDEX n < v + 2 * s.rd CM_LINES_LINES n → t.rd CB_STATUS_RING_FULL n = 0) ∧
      (s.rd CM_LINES_LINES n ≠ 0 → s.rd CM_WR_INDEX n = v + 2 * s.rd CM_LINES_LINES n → t.rd CB_STATUS_RING_FULL n = 1)) ∧
  (∀ (n : Fin 16) v s, v < 2 ^ 64 → (s.rd CM_WR_INDEX n < v ∨ v + 2 * s.rd CM_LINES_LINES n < s.rd CM_WR_INDEX n) →
    exec (.cmRdWrite n v) s = .next (s.wr CB_STATUS_RD_ERR 1 n)) ∧
  (∀ (n : Fin 16) s, (Runs (.strobeRelease n 0) s fun t => (catch_ t n).strobeA = false ∧ (catch_ t n).strobeB = (catch_ s n).strobeB) ∧
    Runs (.strobeRelease n 1) s fun t => (catch_ t n).strobeB = false ∧ (catch_ t n).strobeA = (catch_ s n).strobeA) ∧
  (∀ (n : Fin 16) s, presentsHeld s n = false →
    Runs (.failPortSnapshot n) s fun t =>
      (catch_ t n).snapFail = (catch_ s n).cfFail ∧ (catch_ t n).snapBits = (catch_ s n).cfBits ∧
        (catch_ t n).snapFirst = (catch_ s n).cfFirst ∧ (catch_ t n).cfFail = 0 ∧ (catch_ t n).cfBits = 0) ∧
  (∀ (n : Fin 16) s, presentsHeld s n = true → exec (.failPortSnapshot n) s = .next s) ∧
  (∀ k e (a b : Rec) (rest : List Rec) meets s, opening s 0x20 k = some e → s.offset = e.start → ringBad s e.unit = false →
    bits e.param 2 0 = s.rd CM_BASE_ADDR e.unit / 2 ^ 37 → 1 ≤ bits e.param 23 8 →
    (catch_ s e.unit).flow = a :: b :: rest → (catch_ s e.unit).deferred = [] → (catch_ s e.unit).window = none → 1 ≤ e.length →
    s.rd CM_WR_INDEX e.unit + 2 ≤ s.rd CM_RD_INDEX e.unit + 2 * s.rd CM_LINES_LINES e.unit →
    inMasks s (s.rd CM_BASE_ADDR e.unit + s.rd CM_WR_INDEX e.unit % (2 * s.rd CM_LINES_LINES e.unit) * 32) e.param = true →
    lineReach s (s.rd CM_BASE_ADDR e.unit + s.rd CM_WR_INDEX e.unit % (2 * s.rd CM_LINES_LINES e.unit) * 32) = Code.OK →
    rangeOf s (s.rd CM_BASE_ADDR e.unit + s.rd CM_WR_INDEX e.unit % (2 * s.rd CM_LINES_LINES e.unit) * 32) = none →
    (∀ r < 120, s.rd NR_INJECT_INJ_PARITY r = 0) →
    Runs (.catchFlushWindow k ⟨1, none, none, meets⟩) s fun t =>
      t.rd CM_WR_INDEX e.unit = (s.rd CM_WR_INDEX e.unit + 2) % 2 ^ 64 ∧ (catch_ t e.unit).flow = rest ∧
        (t.tick.wins.any fun w => w.idx == k) = true) ∧
  (∀ k e (a : Rec) (rest : List Rec) lines perr other meets s, opening s 0x20 k = some e → s.offset = e.start → ringBad s e.unit = false →
    bits e.param 2 0 = s.rd CM_BASE_ADDR e.unit / 2 ^ 37 → 1 ≤ bits e.param 23 8 →
    (catch_ s e.unit).flow = a :: rest → (catch_ s e.unit).window = none → 1 ≤ e.length → (catch_ s e.unit).fullRaised = false → s.rd CM_RD_INDEX e.unit + 2 * s.rd CM_LINES_LINES e.unit < s.rd CM_WR_INDEX e.unit + 2 →
    Runs (.catchFlushWindow k ⟨lines + 1, perr, other, meets⟩) s fun t =>
      t.rd CM_WR_INDEX e.unit = s.rd CM_WR_INDEX e.unit ∧ (catch_ t e.unit).fullRaised = true ∧
        (catch_ t e.unit).flow = (catch_ s e.unit).flow) ∧
  (∀ k e lines perr other meets s, opening s 0x20 k = some e → s.offset = e.start → ringBad s e.unit = false →
    bits e.param 2 0 ≠ s.rd CM_BASE_ADDR e.unit / 2 ^ 37 →
    exec (.catchFlushWindow k ⟨lines, perr, other, meets⟩) s = .next (openWin k e true (s.incSat WRITE_ERR_WRONG_CHANNEL e.unit)))

/-- An instruction that issues in a running slice, with no loop open, has the effect its opcode gives: NOP, MAC,
REPEAT, STORE to operand memory or to the output FIFO, SETP, HALT; and execution goes on with the next entry. In
a loop's last entry an iteration is counted and execution returns to its start. A slice whose next instruction
has another opcode is left alone; an invalid one faults. START, STOP and CONTINUE change the state where they
may, and else set CMD_IGNORED; a slice of which a clock line does not run takes none. The memory port and the
FIFOs pass words. -/
def Obligations.SliceResults : Prop :=
  (∀ (k : Fin 64) (t : Fin 96) (e : Fin 64) s, sliceRuns s (sliceIdx k t) = true → slicePort s (sliceIdx k t) = true → s.rd SL_STATUS_STATE (sliceIdx k t) ≠ 1 →
    s.rd SL_STATUS_STATE (sliceIdx k t) ≠ 5 →
    Runs (.sliceStart k t e) s fun u =>
      u.rd SL_STATUS_STATE (sliceIdx k t) = 1 ∧ u.rd SL_PTR_PC (sliceIdx k t) = e ∧
        (u.slice_ (sliceIdx k t)).acc0 = 0 ∧ (u.slice_ (sliceIdx k t)).acc1 = 0 ∧
        u.rd SL_PTR_P_X (sliceIdx k t) = 0 ∧ u.rd SL_STATUS_OVF0 (sliceIdx k t) = 0) ∧
  (∀ (k : Fin 64) (t : Fin 96) s, sliceRuns s (sliceIdx k t) = true → slicePort s (sliceIdx k t) = true → s.rd SL_STATUS_STATE (sliceIdx k t) = 1 →
    Runs (.sliceStop k t) s fun u =>
      u.rd SL_STATUS_STATE (sliceIdx k t) = 2 ∧
        u.rd SL_CYCLES_CYCLES (sliceIdx k t) = (s.rd SL_CYCLES_CYCLES (sliceIdx k t) + 4) % 2 ^ 64) ∧
  (∀ (k : Fin 64) (t : Fin 96) s, sliceRuns s (sliceIdx k t) = true → slicePort s (sliceIdx k t) = true → s.rd SL_STATUS_STATE (sliceIdx k t) = 2 →
    exec (.sliceContinue k t) s = .next (s.wr SL_STATUS_STATE 1 (sliceIdx k t))) ∧
  (∀ (k : Fin 64) (t : Fin 96) (e : Fin 64) s, sliceRuns s (sliceIdx k t) = true → slicePort s (sliceIdx k t) = true →
    ((s.rd SL_STATUS_STATE (sliceIdx k t) = 1 ∨ s.rd SL_STATUS_STATE (sliceIdx k t) = 5) →
      exec (.sliceStart k t e) s = .next (ignoreCmd (sliceIdx k t) s)) ∧
    (s.rd SL_STATUS_STATE (sliceIdx k t) ≠ 1 → exec (.sliceStop k t) s = .next (ignoreCmd (sliceIdx k t) s)) ∧
    (s.rd SL_STATUS_STATE (sliceIdx k t) ≠ 2 → exec (.sliceContinue k t) s = .next (ignoreCmd (sliceIdx k t) s))) ∧
  (∀ (k : Fin 64) (t : Fin 96) (e : Fin 64) s, (sliceRuns s (sliceIdx k t) && slicePort s (sliceIdx k t)) = false →
    exec (.sliceStart k t e) s = .next s ∧ exec (.sliceStop k t) s = .next s ∧ exec (.sliceContinue k t) s = .next s) ∧
  (∀ (k : Fin 64) (t : Fin 96) ins s, issues s (sliceIdx k t) ins = true → bits ins 63 60 = 0 →
    (s.slice_ (sliceIdx k t)).loops = [] →
    Runs (.sliceNop k t) s fun u =>
      u.rd SL_PTR_PC (sliceIdx k t) = (s.rd SL_PTR_PC (sliceIdx k t) + 1) % 64 ∧
        u.rd SL_CYCLES_CYCLES (sliceIdx k t) = (s.rd SL_CYCLES_CYCLES (sliceIdx k t) + 1) % 2 ^ 64) ∧
  (∀ (k : Fin 64) (t : Fin 96) ins (l : Loop) (rest : List Loop) s, issues s (sliceIdx k t) ins = true → bits ins 63 60 = 0 →
    (s.slice_ (sliceIdx k t)).loops = l :: rest → s.rd SL_PTR_PC (sliceIdx k t) + 1 = l.start + l.body → 0 < l.left →
    Runs (.sliceNop k t) s fun u =>
      u.rd SL_PTR_PC (sliceIdx k t) = l.start % 64 ∧
        (u.slice_ (sliceIdx k t)).loops = { l with left := l.left - 1 } :: rest) ∧
  (∀ (k : Fin 64) (t : Fin 96) ins s, issues s (sliceIdx k t) ins = true → bits ins 63 60 = 1 →
    bits ins 57 56 = 1 → bits ins 55 54 = 1 → s.rd SL_INJECT_INJ_OPMEM (sliceIdx k t) = 0 →
    sget 0 (s.slice_ (sliceIdx k t)).opBad (s.rd SL_PTR_P_X (sliceIdx k t)) = 0 →
    sget 0 (s.slice_ (sliceIdx k t)).opBad (s.rd SL_PTR_P_Y (sliceIdx k t)) = 0 →
    (s.slice_ (sliceIdx k t)).loops = [] →
    Runs (.mac k t) s fun u =>
      (u.slice_ (sliceIdx k t)).acc0 = (macOf s (sliceIdx k t) ins).1.1 ∧
        (u.slice_ (sliceIdx k t)).acc1 = (macOf s (sliceIdx k t) ins).2.1 ∧
        u.rd SL_MACS_MACS (sliceIdx k t) = (s.rd SL_MACS_MACS (sliceIdx k t) + 1) % 2 ^ 64 ∧
        u.rd SL_PTR_PC (sliceIdx k t) = (s.rd SL_PTR_PC (sliceIdx k t) + 1) % 64 ∧
        u.rd SL_STATUS_OVF0 (sliceIdx k t) =
          (if (macOf s (sliceIdx k t) ins).1.2 then 1 else s.rd SL_STATUS_OVF0 (sliceIdx k t)) ∧
        u.rd SL_STATUS_OVF1 (sliceIdx k t) =
          (if (macOf s (sliceIdx k t) ins).2.2 then 1 else s.rd SL_STATUS_OVF1 (sliceIdx k t))) ∧
  (∀ (k : Fin 64) (t : Fin 96) ins s, issues s (sliceIdx k t) ins = true → bits ins 63 60 = 1 →
    (bits ins 57 56 = 2 ∨ bits ins 55 54 = 2) → (s.slice_ (sliceIdx k t)).inFifo = [] →
    Runs (.mac k t) s fun u =>
      u.rd SL_PTR_PC (sliceIdx k t) = s.rd SL_PTR_PC (sliceIdx k t) ∧
        (u.slice_ (sliceIdx k t)).acc0 = (s.slice_ (sliceIdx k t)).acc0 ∧
        u.rd SL_CYCLES_CYCLES (sliceIdx k t) = (s.rd SL_CYCLES_CYCLES (sliceIdx k t) + 1) % 2 ^ 64) ∧
  (∀ (k : Fin 64) (t : Fin 96) ins s, issues s (sliceIdx k t) ins = true → bits ins 63 60 = 2 →
    badNest (s.slice_ (sliceIdx k t)) (s.rd SL_PTR_PC (sliceIdx k t)) ins = false →
    sget 0 (s.slice_ (sliceIdx k t)).progBad (64 + bits ins 59 58) = 0 →
    sget 0 (s.slice_ (sliceIdx k t)).progBad 68 = 0 →
    Runs (.repeat_ k t) s fun u =>
      (u.slice_ (sliceIdx k t)).loops = ⟨s.rd SL_PTR_PC (sliceIdx k t) + 1, bits ins 5 0, bits ins 59 58,
        bits ins 47 32 - 1⟩ :: (s.slice_ (sliceIdx k t)).loops ∧
      u.rd SL_PTR_PC (sliceIdx k t) = (s.rd SL_PTR_PC (sliceIdx k t) + 1) % 64) ∧
  (∀ (k : Fin 64) (t : Fin 96) ins s, issues s (sliceIdx k t) ins = true → bits ins 63 60 = 3 →
    (s.slice_ (sliceIdx k t)).loops = [] → bit ins 59 = false →
    Runs (.store k t) s fun u =>
      sget 0 (u.slice_ (sliceIdx k t)).opmem (s.rd SL_PTR_P_W (sliceIdx k t)) =
          (storeWord ins (s.slice_ (sliceIdx k t)).acc0 (s.slice_ (sliceIdx k t)).acc1).1 ∧
        (u.slice_ (sliceIdx k t)).acc0 = (if bit ins 47 then 0 else (s.slice_ (sliceIdx k t)).acc0)) ∧
  (∀ (k : Fin 64) (t : Fin 96) ins s, issues s (sliceIdx k t) ins = true → bits ins 63 60 = 3 →
    (s.slice_ (sliceIdx k t)).loops = [] → bit ins 59 = true → (s.slice_ (sliceIdx k t)).outFifo.length < 8 →
    Runs (.store k t) s fun u =>
      (u.slice_ (sliceIdx k t)).outFifo = (s.slice_ (sliceIdx k t)).outFifo ++
        [(storeWord ins (s.slice_ (sliceIdx k t)).acc0 (s.slice_ (sliceIdx k t)).acc1).1]) ∧
  (∀ (k : Fin 64) (t : Fin 96) ins s, issues s (sliceIdx k t) ins = true → bits ins 63 60 = 4 →
    (s.slice_ (sliceIdx k t)).loops = [] →
    Runs (.setp k t) s fun u => u.rd (ptrField (bits ins 59 58)) (sliceIdx k t) = bits ins 7 0) ∧
  (∀ (k : Fin 64) (t : Fin 96) ins s, issues s (sliceIdx k t) ins = true → bits ins 63 60 = 15 →
    Runs (.halt k t) s fun u => u.rd SL_STATUS_STATE (sliceIdx k t) = 3 ∧ slDone u (sliceIdx k t) = true) ∧
  (∀ (k : Fin 64) (t : Fin 96) s, s.rd SL_STATUS_STATE (sliceIdx k t) = 1 → sliceRuns s (sliceIdx k t) = true →
    (s.slice_ (sliceIdx k t)).past = false → s.rd SL_INJECT_INJ_PROG (sliceIdx k t) = 0 →
    sget 0 (s.slice_ (sliceIdx k t)).progBad (s.rd SL_PTR_PC (sliceIdx k t)) = 0 →
    badIns (sget 0 (s.slice_ (sliceIdx k t)).prog (s.rd SL_PTR_PC (sliceIdx k t))) = true →
    Runs (.mac k t) s fun u =>
      u.rd SL_FAULT_INFO_FAULT_CODE (sliceIdx k t) = 1 ∧
        u.rd SL_FAULT_INFO_FAULT_PC (sliceIdx k t) = s.rd SL_PTR_PC (sliceIdx k t) % 64) ∧
  (∀ (k : Fin 64) (t : Fin 96) s,
    (fetchIns (sliceIdx k t) 0 s = none → exec (.sliceNop k t) s = .next s) ∧
    (fetchIns (sliceIdx k t) 1 s = none → exec (.mac k t) s = .next s) ∧
    (fetchIns (sliceIdx k t) 2 s = none → exec (.repeat_ k t) s = .next s) ∧
    (fetchIns (sliceIdx k t) 3 s = none → exec (.store k t) s = .next s) ∧
    (fetchIns (sliceIdx k t) 4 s = none → exec (.setp k t) s = .next s) ∧
    (fetchIns (sliceIdx k t) 15 s = none → exec (.halt k t) s = .next s)) ∧
  (∀ (k : Fin 64) (t : Fin 96) (a : Fin 256) v s, sliceRuns s (sliceIdx k t) = true → slicePort s (sliceIdx k t) = true →
    (Runs (.sliceMemAccess k t false true a v) s fun u =>
      sget 0 (u.slice_ (sliceIdx k t)).opmem a = v % 2 ^ 128 ∧
        sget 0 (u.slice_ (sliceIdx k t)).opBad a = 0 ∧ (u.slice_ (sliceIdx k t)).ack = some (0, false)) ∧
    Runs (.sliceMemAccess k t false false a v) s fun u =>
      (u.slice_ (sliceIdx k t)).ack = some (sget 0 (s.slice_ (sliceIdx k t)).opmem a,
        sget 0 (s.slice_ (sliceIdx k t)).opBad a != 0)) ∧
  (∀ (k : Fin 64) (t : Fin 96) (a : Fin 256) v s, sliceRuns s (sliceIdx k t) = true → slicePort s (sliceIdx k t) = true → s.rd SL_STATUS_STATE (sliceIdx k t) = 0 →
    (if a.val < 69 then
      Runs (.sliceMemAccess k t true true a v) s fun u =>
        sget 0 (u.slice_ (sliceIdx k t)).prog a = v % 2 ^ 64 ∧ (u.slice_ (sliceIdx k t)).ack = some (0, false)
    else Runs (.sliceMemAccess k t true true a v) s fun u =>
      (u.slice_ (sliceIdx k t)).prog = (s.slice_ (sliceIdx k t)).prog ∧
        (u.slice_ (sliceIdx k t)).ack = some (0, true))) ∧
  (∀ (k : Fin 64) (t : Fin 96) w s, slicePort s (sliceIdx k t) = true → (s.slice_ (sliceIdx k t)).inFifo.length < 16 →
    Runs (.sliceInputWord k t w) s fun u =>
      (u.slice_ (sliceIdx k t)).inFifo = (s.slice_ (sliceIdx k t)).inFifo ++ [w % 2 ^ 128]) ∧
  (∀ (k : Fin 64) (t : Fin 96) w (rest : List Nat) s, slicePort s (sliceIdx k t) = true → (s.slice_ (sliceIdx k t)).outFifo = w :: rest →
    Runs (.sliceOutputTake k t) s fun u =>
      (u.slice_ (sliceIdx k t)).outFifo = rest ∧ (u.slice_ (sliceIdx k t)).taken = some w)

/-- FABRIC_RESET clears the region's flip-flops and makes its slices IDLE with empty accumulators, their memories
kept, where PSTATE is Run or Boost, unless a swap of the region waits for its load, loads or has failed; else it
sets IGNORED. TEMP_READING enters each sensor's reading. A bias too far off its target sets BIAS_FAULT and
counts it; one within 25 mV clears the condition. -/
def Obligations.RegionResults : Prop :=
  (∀ (k : Fin 64) s, s.rd RG_STATUS_PSTATE k < 2 → s.rd SWAP_STATUS_STATE 0 k ≠ 2 → s.rd SWAP_STATUS_STATE 0 k ≠ 3 →
    s.rd SWAP_STATUS_STATE 0 k ≠ 5 →
    Runs (.fabricReset k) s fun t =>
      (t.region_ k).flops = [] ∧ (t.region_ k).edges = [] ∧ (t.region_ k).resetting = some [] ∧ t.rd RG_ROLE_MOVED_COUNT k = 0 ∧
        ∀ j : Fin 96, t.rd SL_STATUS_STATE (sliceIdx k j) = 0 ∧ (t.slice_ (sliceIdx k j)).acc0 = 0 ∧
          (t.slice_ (sliceIdx k j)).opmem = (s.slice_ (sliceIdx k j)).opmem) ∧
  (∀ (k : Fin 64) s, 2 ≤ s.rd RG_STATUS_PSTATE k ∨ s.rd SWAP_STATUS_STATE 0 k = 2 ∨ s.rd SWAP_STATUS_STATE 0 k = 3 ∨
      s.rd SWAP_STATUS_STATE 0 k = 5 →
    exec (.fabricReset k) s = .next (s.wr RG_CTRL_IGNORED 1 k)) ∧
  (∀ (k : Fin 64) (l : List Nat) s, l.length = 65 → s.rd RG_INJECT_INJ_TEMP k = 0 →
    Runs (.tempReading l) s fun t => t.rd RG_TEMP_TEMP k = l.getD k 0 % 2 ^ 12) ∧
  (∀ (k : Fin 64) (m : Fin 1024) s, s.rd RG_INJECT_INJ_BIAS k = 0 → s.flag RG_STATUS_BIAS_FAULT k = false →
    (biasOf m - biasOf (s.rd RG_BIAS_TARGET k)).natAbs > 25 →
    Runs (.biasFault k m) s fun t =>
      t.rd RG_BIAS_MEASURED k = m ∧ t.flag RG_STATUS_BIAS_FAULT k = true ∧
        t.rd RG_FAULT_COUNT_BIAS_FAULTS k = min (s.rd RG_FAULT_COUNT_BIAS_FAULTS k + 1) 255) ∧
  (∀ (k : Fin 64) (m : Fin 1024) s, (biasOf m - biasOf (s.rd RG_BIAS_TARGET k)).natAbs ≤ 25 →
    Runs (.biasFaultCleared k m) s fun t =>
      t.rd RG_BIAS_MEASURED k = m ∧ t.flag RG_STATUS_BIAS_FAULT k = false) ∧
  (∀ (k : Fin 64) (m : Fin 1024) s, 25 < (biasOf m - biasOf (s.rd RG_BIAS_TARGET k)).natAbs →
    exec (.biasFaultCleared k m) s = .next s)

/-- CONFIG_LOAD starts a load of the host's stream, or completes BUSY. A header that passes its checks has its
regions held and their frames cleared; a source that fails ends the load ABORTED with cause SOURCE. The clear
done, the load is LOADING. A plaintext segment with a good header and tag is decoded; a run of an F1 stream
queues its frames. At the release tick the named regions are configured and the block is IDLE. An abort in time
ends the load ABORTED; one while IDLE changes nothing. -/
def Obligations.ConfigLoadResults : Prop :=
  (∀ (r : Fin 64) o s, Waits s r 0x10 o → cfgBusy s = false →
    Runs (.configLoad r) s fun t =>
      cfgState t = 1 ∧ t.cfg.src = 0 ∧ t.cfg.addr = o.word 1 ∧ t.cfg.len = bits (o.word 2) 31 0 ∧
        t.cfg.op = some (r.val, o.idx)) ∧
  (∀ (r : Fin 64) o s, Waits s r 0x10 o → cfgBusy s = true →
    Runs (.configLoad r) s fun t => Decided t r o.idx Code.BUSY 0 ∧ t.cfg = s.cfg) ∧
  (∀ h s, cfgState s = 1 → s.cfg.src = 0 → 64 ≤ s.cfg.len → h = memBytes (streamMem s) s.cfg.addr 64 →
    leAt (memBytes (streamMem s) s.cfg.addr 4) 0 4 = 0x4643584C → flawF2 s h = none → s.cfg.refusedAt = none →
    Runs (.configHeader (.whole none)) s fun t =>
      cfgState t = 2 ∧ t.cfg.mask = leAt h 0x10 8 ∧ t.cfg.segments = leAt h 0x20 4 ∧ t.cfg.writes = leAt h 0x24 4 ∧
        ∀ k, k < 64 → (leAt h 0x10 8).testBit k = true →
          (t.region_ k).held = true ∧ t.flag RG_STATUS_CONFIGURED k = false ∧
            ∀ f, f < 10240 → sget 0 t.frames (frameIdx k f) = 0) ∧
  (∀ s, cfgState s = 1 → streamAlarmed s = false → s.cfg.refusedAt = none →
    Runs (.configHeader .fails) s fun t =>
      cfgState t = 0 ∧ t.rd CFG_RESULT_CODE = Code.ABORTED ∧ t.rd CFG_RESULT_CAUSE = 0x10) ∧
  (∀ s, cfgState s = 2 → s.cfg.clearOnly = false → exec .configClearDone s = .next (s.wr CFG_STATUS_STATE 3)) ∧
  (∀ k s, cfgState s = 2 → s.cfg.clearOnly = true → k ∈ s.cfg.swap →
    Runs .configClearDone s fun t => cfgState t = 0 ∧ t.rd SWAP_STATUS_STATE 0 k = 4) ∧
  (∀ h b n s, cfgState s = 3 → s.cfg.decoding = false → s.cfg.prevEnd ≤ s.rd CFG_FRAMES_FRAMES → s.flag CFG_STATUS_FORMAT = false →
    s.flag CFG_STATUS_ENCRYPTED = false → s.rd CFG_INJECT_INJ_AUTH = 0 → s.cfg.src = 0 →
    h = memBytes (streamMem s) (s.cfg.addr + s.cfg.pos) 16 → n = leAt h 4 4 →
    b = memBytes (streamMem s) (s.cfg.addr + (s.cfg.pos + 16)) (n + 16) → s.cfg.pos + 32 + n ≤ s.cfg.len →
    leAt h 0 4 = s.cfg.seg → n % 4 = 0 → 4 ≤ n → n ≤ 524288 → leAt h 8 4 ≤ 1024 →
    leAt h 12 4 = (if s.cfg.seg + 1 = s.cfg.segments then 1 else 0) →
    leNat ((byteVals (b.drop n)).take 4) = crc32 (h ++ b.take n) → ((byteVals (b.drop n)).drop 4).all (· == 0) = true →
    Runs (.configSegment .whole) s fun t =>
      cfgState t = 3 ∧ t.cfg.decoding = true ∧ t.cfg.payload = b.take n ∧ t.cfg.bodies = leAt h 8 4 ∧
        t.cfg.pos = s.cfg.pos + 32 + n ∧ t.cfg.payPos = s.cfg.pos + 16) ∧
  (∀ h b s, cfgState s = 3 → s.cfg.decoding = false → s.cfg.prevEnd ≤ s.rd CFG_FRAMES_FRAMES → s.flag CFG_STATUS_FORMAT = true → s.cfg.src = 0 →
    s.cfg.run = none → h = memBytes (streamMem s) (s.cfg.addr + s.cfg.pos) 8 → leAt h 4 4 ≠ 0 →
    b = memBytes (streamMem s) (s.cfg.addr + (s.cfg.pos + 8)) (leAt h 4 4 * 384) → bits (leAt h 0 4) 30 20 = 0 →
    bits (leAt h 0 4) 19 0 + leAt h 4 4 ≤ frameCount → s.cfg.pos + 8 + leAt h 4 4 * 384 ≤ s.cfg.len →
    Runs (.configSegment .whole) s fun t =>
      t.cfg.run = none ∧ t.cfg.pos = s.cfg.pos + 8 + leAt h 4 4 * 384 ∧
        t.cfg.queue = s.cfg.queue ++ (List.range (leAt h 4 4)).map fun j =>
          ⟨bits (leAt h 0 4) 19 0 + j, bit (leAt h 0 4) 31, leAt b (j * 384) 384⟩) ∧
  (∀ s, cfgState s = 3 → s.cfg.decoding = false → s.cfg.prevEnd ≤ s.rd CFG_FRAMES_FRAMES → streamAlarmed s = false →
    Runs (.configSegment .fails) s fun t =>
      cfgState t = 0 ∧ t.rd CFG_RESULT_CODE = Code.ABORTED ∧ t.rd CFG_RESULT_CAUSE = 0x10) ∧
  (∀ words pins banks s, cfgState s = 4 → s.offset = 0 → (s.cfg.fixTick = none ∨ credited s = true) →
    s.rd CFG_RELEASE_TICK_TICK ≤ s.now →
    Runs (.configRelease () words () pins banks) s fun t =>
      cfgState t = 0 ∧ t.rd CFG_RESULT_CODE = Code.OK ∧ (s.cfg.full = true → t.flag CFG_STATUS_GLOBAL_LOADED = true) ∧
        ∀ k, k < 64 → s.cfg.mask.testBit k = true → t.flag RG_STATUS_CONFIGURED k = true) ∧
  (∀ s, cfgState s ≠ 0 → Runs .configAbort s fun t => t.cfg.abort = some (s.cfg.abort.getD s.now)) ∧
  (∀ s, cfgState s = 0 → exec .configAbort s = .next s) ∧
  (∀ x s, s.cfg.abort = some x → x < s.now → cfgState s ≠ 0 → cfgState s ≠ 1 → releaseStands s = false →
    Runs .configAbortLatch s fun t =>
      cfgState t = 0 ∧ t.rd CFG_RESULT_CODE = Code.ABORTED ∧ t.rd CFG_RESULT_CAUSE = 0x11 ∧ t.cfg.abort = none) ∧
  (∀ x s, s.cfg.abort = some x → x < s.now → releaseStands s = true →
    Runs .configAbortLatch s fun t => t.cfg.abort = none ∧ cfgState t = 4)

/-- The next command of the segment being decoded has the effect of its opcode: NOP is passed over, REGION_SELECT
selects the block, WRITE_FRAME and REPEAT_FRAME queue frames, CHECK compares the checksum, FIX_AT_TICK names the
release tick, KEY_ROLL passes to the next segment, END ends the stream. FRAME_COMMIT commits the oldest queued
frame. A command of another opcode than the one due changes nothing; an invalid opcode ends the load BAD_OPCODE. -/
def Obligations.ConfigCommandResults : Prop :=
  (∀ w s, nextCommand 0 s = some (.inr w) → bits w 23 0 = 0 → 4 < s.cfg.payload.length →
    Runs .cfgNop s fun t => t.cfg.payload = s.cfg.payload.drop 4 ∧ t.cfg.payPos = s.cfg.payPos + 4) ∧
  (∀ w s, nextCommand 0 s = some (.inr w) → bits w 23 0 ≠ 0 →
    Runs .cfgNop s fun t =>
      cfgState t = 0 ∧ t.rd CFG_RESULT_CODE = Code.BAD_FIELD ∧ t.rd CFG_RESULT_CAUSE = 0x0C) ∧
  (∀ w s, nextCommand 1 s = some (.inr w) → bits w 23 7 = 0 → bits w 6 0 ≤ 0x40 → 4 < s.cfg.payload.length →
    Runs .regionSelect s fun t => t.cfg.block = some (bits w 6 0)) ∧
  (∀ w b s, nextCommand 2 s = some (.inr w) → s.cfg.block = some b → bits w 23 22 = 0 →
    4 * (1 + 96 * (bits w 21 15 + 1)) < s.cfg.payload.length → bits w 21 15 + 1 ≤ s.cfg.bodies →
    mayWrite s b (bits w 13 0) = true → mayWrite s b (bits w 13 0 + bits w 21 15) = true →
    Runs .writeFrame s fun t =>
      t.cfg.bodies = s.cfg.bodies - (bits w 21 15 + 1) ∧
        t.cfg.queue = s.cfg.queue ++ (List.range (bits w 21 15 + 1)).map fun j =>
          ⟨frameIdx b (bits w 13 0 + j), bit w 14, leAt s.cfg.payload (4 + 384 * j) 384⟩) ∧
  (∀ w s, nextCommand 3 s = some (.inr w) → bits w 13 10 = 0 → bits w 23 15 = 0 →
    4 * (97 + (bits w 9 0 + 1)) < s.cfg.payload.length → 1 ≤ s.cfg.bodies →
    (∀ j, j ≤ bits w 9 0 → leAt s.cfg.payload (388 + 4 * j) 4 < 2 ^ 23 ∧
      bits (leAt s.cfg.payload (388 + 4 * j) 4) 15 14 = 0 ∧
      mayWrite s (bits (leAt s.cfg.payload (388 + 4 * j) 4) 22 16) (bits (leAt s.cfg.payload (388 + 4 * j) 4) 13 0) = true) →
    Runs .repeatFrame s fun t =>
      t.cfg.bodies = s.cfg.bodies - 1 ∧
        t.cfg.queue = s.cfg.queue ++ (List.range (bits w 9 0 + 1)).map fun j =>
          ⟨frameIdx (bits (leAt s.cfg.payload (388 + 4 * j) 4) 22 16) (bits (leAt s.cfg.payload (388 + 4 * j) 4) 13 0),
            bit w 14, leAt s.cfg.payload 4 384⟩) ∧
  (∀ w s, nextCommand 4 s = some (.inr w) → bits w 23 0 = 0 → 8 < s.cfg.payload.length → s.cfg.queue = [] →
    s.rd CFG_INJECT_INJ_CHECK = 0 → leAt s.cfg.payload 4 4 = s.cfg.crc ^^^ 0xFFFFFFFF →
    Runs .check s fun t => t.cfg.crc = 0xFFFFFFFF ∧ t.cfg.payload = s.cfg.payload.drop 8) ∧
  (∀ w s, nextCommand 4 s = some (.inr w) → bits w 23 0 = 0 → 8 ≤ s.cfg.payload.length → s.cfg.queue = [] →
    s.rd CFG_INJECT_INJ_CHECK = 0 → leAt s.cfg.payload 4 4 ≠ s.cfg.crc ^^^ 0xFFFFFFFF →
    Runs .check s fun t =>
      cfgState t = 0 ∧ t.rd CFG_RESULT_CODE = Code.INTERNAL ∧ t.rd CFG_RESULT_CAUSE = 0x0D) ∧
  (∀ w s, nextCommand 5 s = some (.inr w) → bits w 23 0 = 0 → 12 < s.cfg.payload.length → s.cfg.fixTick = none →
    Runs .fixAtTick s fun t =>
      t.cfg.fixTick = some (leAt s.cfg.payload 4 8) ∧
        (s.cfg.swap ≠ [] → t.rd CFG_STATUS_FIX_IGNORED = 1)) ∧
  (∀ w s, nextCommand 6 s = some (.inr w) → bits w 23 0 = 0 → s.cfg.last = false → s.cfg.bodies = 0 →
    s.cfg.payload.length = 4 →
    Runs .keyRoll s fun t => t.cfg.seg = s.cfg.seg + 1 ∧ t.cfg.decoding = false ∧ t.cfg.payload = []) ∧
  (∀ w s, nextCommand 7 s = some (.inr w) → bits w 23 0 = 0 → s.cfg.last = true → s.cfg.bodies = 0 →
    s.cfg.payload.length = 4 → s.cfg.queue = [] → s.rd CFG_FRAMES_FRAMES = s.cfg.writes → s.cfg.swap = [] →
    Runs .cfgEnd s fun t =>
      cfgState t = 4 ∧ t.cfg.decoding = false ∧ t.rd CFG_RELEASE_TICK_TICK =
        (match s.cfg.fixTick with
          | some x => if s.now < x then x else s.now + 1
          | none => s.now + 1) % 2 ^ 64) ∧
  (∀ w s, nextCommand 7 s = some (.inr w) → bits w 23 0 = 0 → s.cfg.last = true → s.cfg.bodies = 0 →
    s.cfg.payload.length = 4 → s.cfg.queue = [] → s.rd CFG_FRAMES_FRAMES ≠ s.cfg.writes →
    Runs .cfgEnd s fun t =>
      cfgState t = 0 ∧ t.rd CFG_RESULT_CODE = Code.BAD_FIELD ∧ t.rd CFG_RESULT_CAUSE = 0x12) ∧
  (∀ (w : CfgWrite) rest s, cfgState s = 3 → streamAlarmed s = false → s.cfg.queue = w :: rest →
    Runs .frameCommit s fun t =>
      sget 0 t.frames w.frame = w.body ∧ sget 0 t.frameDyn w.frame = (if w.dyn then 1 else 0) ∧
        sget 0 t.frameCode w.frame = secdedCode 3072 12 w.body ∧ t.cfg.queue = rest ∧
        t.rd CFG_FRAMES_FRAMES = (s.rd CFG_FRAMES_FRAMES + 1) % 2 ^ 32 ∧
        ∀ f, f ≠ w.frame → sget 0 t.frames f = sget 0 s.frames f) ∧
  (∀ w s, cfgState s = 3 → s.cfg.decoding = true → w = leAt s.cfg.payload 0 4 → 7 < bits w 31 24 →
    Runs .cfgNop s fun t =>
      cfgState t = 0 ∧ t.rd CFG_RESULT_CODE = Code.BAD_OPCODE ∧ t.rd CFG_RESULT_CAUSE = 0x0B) ∧
  (∀ s, (nextCommand 0 s = none → exec .cfgNop s = .next s) ∧ (nextCommand 1 s = none → exec .regionSelect s = .next s) ∧
    (nextCommand 2 s = none → exec .writeFrame s = .next s) ∧ (nextCommand 3 s = none → exec .repeatFrame s = .next s) ∧
    (nextCommand 4 s = none → exec .check s = .next s) ∧ (nextCommand 5 s = none → exec .fixAtTick s = .next s) ∧
    (nextCommand 6 s = none → exec .keyRoll s = .next s) ∧ (nextCommand 7 s = none → exec .cfgEnd s = .next s))

/-- A swap whose ports have drained waits for its load, or for its open tick where it only changes owner; one that
overstays is forced. Its load starts when the block is IDLE; at the open tick the region takes its epoch and
owner. A scrub step goes to the next frame and corrects a single error. An automatic reload starts a swap, but
none where RELOAD_LEN is 0. -/
def Obligations.SwapScrubResults : Prop :=
  (∀ (k : Fin 64) q s, (s.region_ k).swap = some q → s.rd SWAP_STATUS_STATE 0 k = 1 →
    portDrained s (portRegion k 0) = true → portDrained s (portRegion k 1) = true →
    Runs (.swapDrained k) s fun t =>
      t.rd SWAP_STATUS_STATE 0 k = (if q.mode = 1 then 4 else 2) ∧ (q.mode ≠ 1 → (t.region_ k).held = true)) ∧
  (∀ (k : Fin 64) s, (s.rd SWAP_STATUS_STATE 0 k ≠ 1 ∨ portDrained s (portRegion k 0) = false) →
    exec (.swapDrained k) s = .next s) ∧
  (∀ (k : Fin 64) q s, (s.region_ k).swap = some q → s.rd SWAP_STATUS_STATE 0 k = 1 → s.offset = 0 →
    q.start + max 1 q.drain ≤ s.now → portDrained s (portRegion k 0) = false →
    Runs (.swapDrainForced k) s fun t =>
      t.rd SWAP_STATUS_FORCED 0 k = 1 ∧ t.rd SWAP_STATUS_STATE 0 k = (if q.mode = 1 then 4 else 2)) ∧
  (∀ (k : Fin 64) q s, (s.region_ k).swap = some q → groupReady s k = true → q.mode ≠ 2 →
    Runs (.swapLoadStart k) s fun t =>
      cfgState t = 1 ∧ t.cfg.swap = groupOf s q ∧ t.cfg.addr = q.addr ∧ t.cfg.len = q.len ∧
        ∀ j ∈ groupOf s q, t.rd SWAP_STATUS_STATE 0 j = 3) ∧
  (∀ (k : Fin 64) q s, (s.region_ k).swap = some q → groupReady s k = true → q.mode = 2 →
    Runs (.swapLoadStart k) s fun t =>
      cfgState t = 2 ∧ t.cfg.clearOnly = true ∧ ∀ j ∈ groupOf s q, ∀ f, f < 10240 → sget 0 t.frames (frameIdx j f) = 0) ∧
  (∀ (k : Fin 64) words q s, (s.region_ k).swap = some q → s.rd SWAP_STATUS_STATE 0 k = 4 → s.offset = 0 →
    credited s = true → (s.region_ k).openFrom ≤ s.now →
    Runs (.swapOpen k () words ()) s fun t =>
      t.rd RG_EPOCH_EPOCH k = q.epoch % 2 ^ 16 ∧ t.rd RG_OWNER_OWNER k = q.owner % 2 ^ 8 ∧
        t.rd SWAP_STATUS_STATE 0 k = 0 ∧ t.rd RG_STATUS_SWAP k = 0) ∧
  (∀ s, s.flag SCRUB_CTRL_ENABLE = true → s.flag SCRUB_STATUS_BORROWED = false →
    addrIdx (s.rd SCRUB_POS_ADDR) + 1 < frameCount →
    Runs .scrubStep s fun t =>
      t.rd SCRUB_POS_ADDR = frameAddr (addrIdx (s.rd SCRUB_POS_ADDR) + 1) ∧ t.flag SCRUB_STATUS_RUNNING = true) ∧
  (∀ l s, s.flag SCRUB_CTRL_ENABLE = true → s.flag SCRUB_STATUS_BORROWED = false →
    l = addrIdx (s.rd SCRUB_POS_ADDR) → scrubExcludes s (frameBlock l) = false → sget 0 s.frameDyn l = 0 →
    sget 0 s.frameBad l = 1 → s.rd SCRUB_INJECT_INJ_SINGLE = 0 → s.rd SCRUB_INJECT_INJ_DOUBLE = 0 →
    Runs .scrubStep s fun t =>
      sget 0 t.frameBad l = 0 ∧ t.rd SCRUB_CORRECTED_COUNT = (s.rd SCRUB_CORRECTED_COUNT + 1) % 2 ^ 64) ∧
  (∀ s, s.flag SCRUB_CTRL_ENABLE = false → s.flag SCRUB_STATUS_RUNNING = false → exec .scrubStep s = .next s) ∧
  (∀ (k : Fin 64) due s, s.cfg.reloads = [(k.val, due)] → s.offset = 0 → due ≤ s.now → credited s = true →
    hasApply s s.now = true → s.flag RG_STATUS_SWAP k = false → s.rd RG_STATUS_PSTATE k ≠ 2 →
    (∀ j : Fin 64, s.flag RG_STATUS_SWAP j = false) → s.rd RELOAD_LEN_BYTES 0 k ≠ 0 →
    Runs (.autoReloadStart k) s fun t =>
      t.flag SWAP_STATUS_AUTO 0 k = true ∧ t.rd RG_STATUS_SWAP k = 1 ∧ t.cfg.reloads = [] ∧
        t.rd RELOAD_COUNT_COUNT 0 k = (s.rd RELOAD_COUNT_COUNT 0 k + 1) % 2 ^ 32 ∧
        t.rd SWAP_STATUS_STATE 0 k = (if s.rd SWAP_STATUS_STATE 0 k = 5 then 2 else 1)) ∧
  (∀ (k : Fin 64) due s, s.cfg.reloads = [(k.val, due)] → s.offset = 0 → due ≤ s.now → credited s = true →
    hasApply s s.now = true → s.rd RELOAD_LEN_BYTES 0 k = 0 →
    Runs (.autoReloadStart k) s fun t =>
      t.cfg.reloads = [] ∧ t.rd RG_STATUS_SWAP k = s.rd RG_STATUS_SWAP k ∧
        t.rd RELOAD_COUNT_COUNT 0 k = s.rd RELOAD_COUNT_COUNT 0 k) ∧
  (∀ (k : Fin 64) s, (s.cfg.reloads.any fun x => x.1 == k.val) = false → exec (.autoReloadStart k) s = .next s)

/-- A fabric request that breaks no rule of R229 enters the network, and one that breaks one completes with its
code; a tag in use changes nothing, nor does a request at a port whose clock stands or that is back-pressured. A
RESERVE with room is granted, one without is queued, and one at a closed port is refused DOMAIN_CLOSED. A GRANT
lets the request be sent, or is BUSY and retried, or ends it. A request landing at a region of its epoch is
consumed, and of another epoch comes back; one landing at the scratchpad is performed. A slot window sends what
waits for it. -/
def Obligations.NocRequestResults : Prop :=
  (∀ (k : Fin 64) (p : Fin 2) (kind : Fin 16) (dst : Fin 128) (dp : Fin 4) (addr : Nat) (bytes : Fin 1024) data (prio : Fin 4)
    (epoch : Fin 65536) (tag : Fin 256) s, xactAt s (portRegion k p) tag = none → (kind = 2 ∨ kind = 3) → dst.val < 120 →
    attached (4 * dst + dp) = true → addr < 2 ^ 38 → addr % 1024 + bytes + 1 ≤ 1024 →
    portState s (portRegion k p) = 0 → regionPort s k p = true → portPressed s (portRegion k p) = false →
    Runs (.fabricRequest k p kind dst dp addr bytes data prio epoch false tag) s fun t =>
      ∃ x, xactAt t (portRegion k p) tag = some x ∧ x.kind = kind ∧ x.dst = 4 * dst + dp ∧ x.addr = addr ∧
        x.bytes = bytes + 1 ∧ x.prio = prio ∧ x.epoch = epoch) ∧
  (∀ (k : Fin 64) (p : Fin 2) (kind : Fin 16) (dst : Fin 128) (dp : Fin 4) (addr : Nat) (bytes : Fin 1024) data (prio : Fin 4)
    (epoch : Fin 65536) (sched : Bool) (tag : Fin 256) s, xactAt s (portRegion k p) tag = none → kind ≠ 2 → kind ≠ 3 →
    regionPort s k p = true → portPressed s (portRegion k p) = false →
    Runs (.fabricRequest k p kind dst dp addr bytes data prio epoch sched tag) s fun t =>
      (t.noc.dones.find? fun d => d.1 == portRegion k p).map (fun d => (d.2.tag, d.2.code)) = some (tag.val, Code.BAD_FIELD) ∧
        t.noc.xacts = s.noc.xacts) ∧
  (∀ (k : Fin 64) (p : Fin 2) (kind : Fin 16) (dst : Fin 128) (dp : Fin 4) (addr : Nat) (bytes : Fin 1024) data (prio : Fin 4)
    (epoch : Fin 65536) (sched : Bool) (tag : Fin 256) s,
    ((xactAt s (portRegion k p) tag).isSome = true ∨ regionPort s k p = false ∨ portPressed s (portRegion k p) = true) →
    exec (.fabricRequest k p kind dst dp addr bytes data prio epoch sched tag) s = .next s) ∧
  (∀ (q : Fin 480) (tag : Fin 256) x s, xactAt s q tag = some x → x.phase = .reserve → inOrder s x = true → portState s x.dst = 0 →
    portState s x.src = 0 → (travel x.src x.dst 1 none s).1 = false → grantable s x = true →
    Runs (.reserve q tag none) s fun t => (xactAt t q tag).map (·.phase) = some (.grant Code.OK)) ∧
  (∀ (q : Fin 480) (tag : Fin 256) x s, xactAt s q tag = some x → x.phase = .reserve → inOrder s x = true → portState s x.dst = 0 →
    portState s x.src = 0 → (travel x.src x.dst 1 none s).1 = false → grantable s x = false →
    s.noc.xacts.countP (fun y => y.dst == x.dst && y.phase == .queued) < 64 →
    Runs (.reserve q tag none) s fun t => (xactAt t q tag).map (·.phase) = some .queued) ∧
  (∀ (q : Fin 480) (tag : Fin 256) (perr : Option Nat) x s, xactAt s q tag = some x → x.phase = .reserve → inOrder s x = true →
    (portState s x.dst ≠ 0 ∨ portState s x.src ≠ 0) →
    Runs (.reserve q tag perr) s fun t => (xactAt t q tag).map (·.phase) = some (.grant Code.DOMAIN_CLOSED)) ∧
  (∀ (q : Fin 480) (tag : Fin 256) x s, xactAt s q tag = some x → x.phase = .grant Code.OK → inOrder s x = true →
    (travel x.dst x.src 1 none s).1 = false → x.respSpace ≤ responseFree s x.src →
    Runs (.grant q tag none) s fun t => (xactAt t q tag).map (·.phase) = some .sent) ∧
  (∀ (q : Fin 480) (tag : Fin 256) x s, xactAt s q tag = some x → x.phase = .grant Code.BUSY → inOrder s x = true →
    Runs (.grant q tag none) s fun t => (xactAt t q tag).map (·.phase) = some .retry) ∧
  (∀ (q : Fin 480) (tag : Fin 256) x s, xactAt s q tag = some x → x.phase = .grant Code.DOMAIN_CLOSED → inOrder s x = true →
    (travel x.dst x.src 1 none s).1 = false →
    Runs (.grant q tag none) s fun t =>
      xactAt t q tag = none ∧ (t.noc.dones.find? fun d => d.1 == q.val).map (fun d => (d.2.tag, d.2.code)) =
        some (tag.val, Code.DOMAIN_CLOSED)) ∧
  (∀ (q : Fin 480) (tag : Fin 256) x s, xactAt s q tag = some x → x.phase = .retry → x.since + 64 ≤ s.cycle → reservesOut s q < 8 →
    (s.noc.xacts.any fun y => y.src == q.val && y.phase == .waiting) = false →
    Runs (.reserveRetry q tag) s fun t => (xactAt t q tag).map (·.phase) = some .reserve) ∧
  (∀ (q : Fin 480) (tag : Fin 256) x k s, xactAt s q tag = some x → x.phase = .sent → inOrder s x = true →
    (travel x.src x.dst x.flits none s).1 = false → regionOf x.dst = some k → portState s x.dst ≠ 2 → x.epoch = s.rd RG_EPOCH_EPOCH k →
    (x.kind = 2 → Runs (.readReq q tag none) s fun t => (xactAt t q tag).map (·.phase) = some .atTarget) ∧
    (x.kind = 3 → Runs (.writeReq q tag none []) s fun t => (xactAt t q tag).map (·.phase) = some .atTarget)) ∧
  (∀ (q : Fin 480) (tag : Fin 256) x k s, xactAt s q tag = some x → x.phase = .sent → inOrder s x = true →
    (travel x.src x.dst x.flits none s).1 = false → regionOf x.dst = some k → portState s x.dst ≠ 2 → x.epoch ≠ s.rd RG_EPOCH_EPOCH k →
    x.kind = 2 →
    Runs (.readReq q tag none) s fun t =>
      (xactAt t q tag).map (fun y => (y.phase, y.returned, y.status, y.epochNow)) =
          some (.answer, true, Code.ROLE_MOVED, s.rd RG_EPOCH_EPOCH k) ∧
        t.rd RG_ROLE_MOVED_COUNT k = (s.rd RG_ROLE_MOVED_COUNT k + 1) % 2 ^ 32) ∧
  (∀ (q : Fin 480) (tag : Fin 256) x s, xactAt s q tag = some x → x.phase = .sent → inOrder s x = true →
    (travel x.src x.dst x.flits none s).1 = false → x.dst = portAt 4 0 0 → x.addr + x.bytes ≤ 0x780000 →
    x.addr % 8 = 0 → x.bytes % 8 = 0 → 0 < x.bytes → regionAdmits s 3 x.addr x.bytes SP_RGN_PERM_W = true →
    s.sp.queue = [] → s.sp.portTo ≤ s.cycle → x.kind = 3 →
    Runs (.writeReq q tag none []) s fun t =>
      t.scratch = memWrBytes s.scratch x.addr (x.data.take x.bytes) ∧
        (xactAt t q tag).map (fun y => (y.phase, y.status)) = some (.answer, Code.OK)) ∧
  (∀ (q : Fin 480) (tag : Fin 256) (perr : Option Nat) susp s, xactAt s q tag = none →
    exec (.reserve q tag perr) s = .next s ∧ exec (.grant q tag perr) s = .next s ∧
      exec (.reserveRetry q tag) s = .next s ∧ exec (.readReq q tag perr) s = .next s ∧
      exec (.writeReq q tag perr susp) s = .next s) ∧
  (∀ k e x s, opening s 0x30 k = some e → s.offset = e.start →
    (s.noc.xacts.find? fun x => x.src == 4 * e.unit + bits e.param 11 8 && x.phase == .slot &&
      x.dst / 4 == bits e.param 7 4 * 12 + bits e.param 3 0) = some x →
    (s.noc.slotWins.any fun w => w.1 == k) = false → x.flits ≤ bits e.param 27 12 → x.sentPart = 0 → coveredBy s x = true →
    (responseRoom s { x with standing := true }).isSome = true →
    Runs (.nocSlotWindow k []) s fun t =>
      (xactAt t x.src x.tag).map (·.phase) = some .sent ∧ (t.tick.wins.any fun w => w.idx == k) = true)

/-- An answer in time completes its request to its source with code and data, and the request is gone; a RETURN
brings ROLE_MOVED. A REVOKE is marked received and a RELEASE takes it away. An unanswered request times out
ABORTED. A packet that has waited AGE_LIMIT × 64 core cycles at an output on its route ages. A drained port is
CLOSED. SNAP and CLEAR wait for the tick. A late alarm leaves the bus, substitutes in the reel whose line it
names, and ends a load from DRAM. A refusal is answered 2,048 cycles after its landing. -/
def Obligations.NocAnswerResults : Prop :=
  (∀ (q : Fin 480) (tag : Fin 256) (code : Fin 65536) (data : List Byte) (x : Xact) s, xactAt s q tag = some x → x.phase = .answer →
    inOrder s x = true → x.discard = false → x.returned = false → x.late = false → (travel x.dst x.src x.answerFlits none s).1 = false →
    s.rd NR_INJECT_INJ_TIMEOUT (q / 4) = 0 →
    (x.kind = 2 → Runs (.readResp q tag code data none []) s fun t =>
      xactAt t q tag = none ∧ (t.noc.dones.find? fun d => d.1 == q.val).map (fun d => (d.2.tag, d.2.code, d.2.data)) =
        some (tag.val, x.status, x.answer)) ∧
    (x.kind = 3 → Runs (.writeResp q tag code none) s fun t =>
      xactAt t q tag = none ∧ (t.noc.dones.find? fun d => d.1 == q.val).map (fun d => (d.2.tag, d.2.code)) =
        some (tag.val, x.status))) ∧
  (∀ (q : Fin 480) (tag : Fin 256) (code : Fin 65536) (data : List Byte) (x : Xact) s, xactAt s q tag = some x → x.phase = .atTarget →
    ((regionOf x.dst).any fun k => regionPort s k (x.dst % 4)) = true → packetsOf s x 5 = [] → x.discard = false → x.returned = false → x.late = false → x.kind = 2 → data.length = x.bytes →
    (travel x.dst x.src x.answerFlits none s).1 = false → s.rd NR_INJECT_INJ_TIMEOUT (q / 4) = 0 →
    Runs (.readResp q tag code data none []) s fun t =>
      xactAt t q tag = none ∧ (t.noc.dones.find? fun d => d.1 == q.val).map (fun d => (d.2.tag, d.2.code, d.2.data)) =
        some (tag.val, code.val, data)) ∧
  (∀ (q : Fin 480) (tag : Fin 256) x s, xactAt s q tag = some x → x.phase = .answer → x.returned = true →
    inOrder s x = true → x.discard = false → x.late = false → x.owner = .fabric → (travel x.dst x.src x.answerFlits none s).1 = false →
    s.rd NR_INJECT_INJ_TIMEOUT (q / 4) = 0 →
    Runs (.return_ q tag none []) s fun t =>
      xactAt t q tag = none ∧ (t.noc.dones.find? fun d => d.1 == q.val).map (fun d => (d.2.tag, d.2.code, d.2.epoch)) =
        some (tag.val, x.status, x.epochNow)) ∧
  (∀ (q h : Fin 480) (perr : Option Nat) s, (q.val, h.val, false) ∈ s.noc.revokes →
    Runs (.revoke q ⟨h, perr⟩) s fun t => (q.val, h.val, true) ∈ t.noc.revokes ∧ (q.val, h.val, false) ∉ t.noc.revokes) ∧
  (∀ (q h : Fin 480) (perr : Option Nat) s, (s.noc.xacts.any fun x => x.standing && x.src == h.val && x.dst == q.val && (x.phase == .sent || x.phase == .slot || x.phase == .ready)) = false →
    Runs (.release q ⟨h, perr⟩) s fun t => (q.val, h.val, true) ∉ t.noc.revokes) ∧
  (∀ (q h : Fin 480) (perr : Option Nat) s, (s.noc.xacts.any fun x => x.standing && x.src == h.val && x.dst == q.val && (x.phase == .sent || x.phase == .slot || x.phase == .ready)) = true →
    exec (.release q ⟨h, perr⟩) s = .next s) ∧
  (∀ (q : Fin 480) (tag : Fin 256) x s, xactAt s q tag = some x → x.inFlight = true → x.late = false → x.discard = false →
    x.movedNow s.cycle = false →
    x.sentAt + 2 ^ (s.rd PORT_CFG_TIMEOUT_EXP (q / 4) (q % 4) + 8) ≤ s.cycle →
    Runs (.nocTimeout q tag) s fun t =>
      (xactAt t q tag).map (·.late) = some true ∧
        (t.noc.dones.find? fun d => d.1 == q.val).map (fun d => (d.2.tag, d.2.code)) = some (tag.val, Code.ABORTED)) ∧
  (∀ (r : Fin 120) (q : Fin 480) (tag : Fin 256) x (j : Nat) s, xactAt s q tag = some x → x.phase = .sent → x.sched = false →
    s.rd NR_CTRL_AGE_LIMIT r ≠ 0 → x.prio + x.aged < 3 → ((routeOf x.src x.dst).findIdx? (·.1 == r.val)) = some j →
    x.agedHop ≤ j → x.reaches j + s.rd NR_CTRL_AGE_LIMIT r * 64 ≤ s.cycle →
    Runs (.priorityAging r q tag) s fun t => (xactAt t q tag).map (·.aged) = some (x.aged + 1)) ∧
  (∀ (q : Fin 480) s, portState s q = 1 → portDrained s q = true → s.pw.active = none →
    Runs (.portDrained q) s fun t => portState t q = 2) ∧
  (∀ (q : Fin 480) s, (portState s q ≠ 1 ∨ portDrained s q = false) → exec (.portDrained q) s = .next s) ∧
  (∀ (q : Fin 480) clear s,
    Runs (.statSnap q clear) s fun t => t.noc.snaps = s.noc.snaps ++ [(q.val, true, clear)]) ∧
  (∀ (q : Fin 480) s, Runs (.statClear q) s fun t => t.noc.snaps = s.noc.snaps ++ [(q.val, false, true)]) ∧
  (∀ (a : Alarm) rest (n : Fin 16) (line : Nat) (at_ : Nat) s, s.enc.alarms = a :: rest →
    ((List.range 16).find? fun n => streamReel n == a.sid) = some n.val →
    ((reel s n).lines.find? fun l => l.1 == a.tag) = some (a.tag, line, at_) → 9 + (reel s n).dictLines ≤ line →
    reelState s n = 3 →
    Runs .lateAlarm s fun t =>
      t.enc.alarms = rest ∧ reelState t n = 5 ∧ t.mbit RE_STATUS_CAUSE_SEEN causeAlarm n = true ∧
        (reel t n).stopped = true) ∧
  (∀ (a : Alarm) rest s, s.enc.alarms = a :: rest → ((List.range 16).find? fun n => streamReel n == a.sid) = none →
    a.sid = streamCfg → cfgState s ≠ 0 → s.cfg.src = 1 →
    Runs .lateAlarm s fun t =>
      t.enc.alarms = rest ∧ cfgState t = 0 ∧ t.rd CFG_RESULT_CODE = Code.ABORTED ∧ t.rd CFG_RESULT_CAUSE = 0x10) ∧
  (∀ s, s.enc.alarms = [] → exec .lateAlarm s = .next s) ∧
  (∀ x s, (s.noc.xacts.find? fun x => x.phase == .refused) = some x → x.t0 + 2048 ≤ s.cycle →
    Runs (.refusalAnswer true) s fun t =>
      (xactAt t x.src x.tag).map (fun y => (y.phase, y.status)) = some (.answer, Code.REFUSED)) ∧
  (∀ cls (x n : Nat) rest s, s.sp.refused = (cls, x, n) :: rest → x + 2048 ≤ s.cycle →
    Runs (.refusalAnswer false) s fun t =>
      t.sp.refused = rest ∧ t.sp.answers.head? = some (cls, Code.REFUSED, List.replicate n 0))

/-- A refresh window refreshes the named bank address of its subchannels, or is missed where a rank is busy; a spare
window issues up to OPPS queued commands; a scrub window moves past a clean line. A missed refresh is made up.
MR4 sets the doubled ranks. A queued line is written back, corrected or poisoned. A training pass counts the
errors; outside TRAINING it sets TR_IGNORED. A training record is written to host memory or adopted. A repair
parks its rank, and its end unparks it. -/
def Obligations.DdrResults : Prop :=
  (∀ k e (delays : List (Nat × Nat)) s, opening s 0x40 k = some e → s.offset = e.start → chanState s e.unit = 2 → bits e.param 5 4 < rankCount s e.unit →
    s.rd DC_INJECT_INJ_REFMISS e.unit = 0 →
    Runs (.ddrRefreshWindow k false delays) s fun t =>
      (t.tick.wins.any fun w => w.idx == k && w.complete) = true ∧
        ∀ u, u < 2 → (bits e.param 9 8).testBit u = true →
          sget 0 (ddr_ t e.unit).refreshed (8 * bits e.param 5 4 + 4 * u + bits e.param 1 0) = s.cycle) ∧
  (∀ k e (delays : List (Nat × Nat)) s, opening s 0x40 k = some e → s.offset = e.start → chanState s e.unit = 2 → bits e.param 5 4 < rankCount s e.unit →
    s.rd DC_INJECT_INJ_REFMISS e.unit = 0 → rankFallback e.unit (bits e.param 5 4) s = s → fallbackBusy s e.unit (bits e.param 5 4) = true →
    Runs (.ddrRefreshWindow k true delays) s fun t =>
      (t.tick.wins.any fun w => w.idx == k && !w.complete) = true ∧
        (ddr_ t e.unit).refreshed = (ddr_ s e.unit).refreshed ∧
        ∀ u, u < 2 → (bits e.param 9 8).testBit u = true → (bits e.param 5 4, u, false) ∈ (ddr_ t e.unit).missed) ∧
  (∀ k fit e s, opening s 0x41 k = some e → s.offset = e.start → chanState s e.unit = 2 → s.flag DC_CONFIG_RFM_REQUIRED e.unit = false →
    Runs (.ddrRfmSpareWindow ⟨k, fit⟩) s fun t =>
      (ddr_ t e.unit).rfm = (ddr_ s e.unit).rfm.drop (min (ddr_ s e.unit).rfm.length (min fit (bits e.param 7 0))) ∧
        t.rd DC_RFM_COUNTS_RFM_ISSUED e.unit = (s.rd DC_RFM_COUNTS_RFM_ISSUED e.unit +
          min (ddr_ s e.unit).rfm.length (min fit (bits e.param 7 0))) % 2 ^ 16 ∧
        (fit < min (ddr_ s e.unit).rfm.length (bits e.param 7 0) →
          (t.tick.wins.any fun w => w.idx == k && !w.complete) = true)) ∧
  (∀ k e s, opening s 0x42 k = some e → s.offset = e.start → chanState s e.unit = 2 → (ddr_ s e.unit).scrubSaved = none → 1 ≤ bits e.param 23 8 → scrubAhead s e.unit = false →
    s.rd DC_SCRUB_POS_OFFSET e.unit + 64 < s.dramCapacity e.unit → s.rd DC_SCRUB_POS_OFFSET e.unit < 2 ^ 37 →
    inMasks s (e.unit * 2 ^ 37 + s.rd DC_SCRUB_POS_OFFSET e.unit) e.param = true →
    bankBlocked s (e.unit * 2 ^ 37 + s.rd DC_SCRUB_POS_OFFSET e.unit) = false →
    (s.rd DC_STATUS_PARKED e.unit).testBit (placeOf s (e.unit * 2 ^ 37 + s.rd DC_SCRUB_POS_OFFSET e.unit)).rank = false →
    poisoned s (e.unit * 2 ^ 37 + s.rd DC_SCRUB_POS_OFFSET e.unit) = false → (ddr_ s e.unit).wb = [] →
    s.rd DC_INJECT_INJ_UE e.unit = 0 → s.rd DC_INJECT_INJ_CE e.unit = 0 →
    sget 0 s.dramBad ((e.unit * 2 ^ 37 + s.rd DC_SCRUB_POS_OFFSET e.unit) / 64) = 0 →
    Runs (.ddrScrubWindow k 1) s fun t =>
      t.rd DC_SCRUB_POS_OFFSET e.unit = (s.rd DC_SCRUB_POS_OFFSET e.unit + 64) % 2 ^ 64 ∧
        (ddr_ t e.unit).scrubRead = (ddr_ s e.unit).scrubRead + 1 ∧ (t.tick.wins.any fun w => w.idx == k) = true) ∧
  (∀ k fit e s, chanState s e.unit ≠ 2 →
    (opening s 0x40 k = some e → s.offset = e.start → exec (.ddrRefreshWindow k false []) s = .next (openWin k e true s)) ∧
    (opening s 0x41 k = some e → s.offset = e.start → exec (.ddrRfmSpareWindow ⟨k, fit⟩) s = .next (openWin k e true s)) ∧
    (opening s 0x42 k = some e → s.offset = e.start → exec (.ddrScrubWindow k 1) s = .next (openWin k e true s))) ∧
  (∀ (c : Fin 8) (r : Fin 4) (b : Fin 2) inj s, chanState s c = 2 → r.val < rankCount s c →
    (s.rd DC_STATUS_PARKED c).testBit r = false → (ddr_ s c).missed = [(r.val, b.val, inj)] → inDataWindow s c = false →
    (s.noc.xacts.any fun x => x.phase == .landed) = false →
    Runs (.fallbackRefresh c r b) s fun t =>
      (ddr_ t c).missed = [] ∧
        t.rd DC_REFRESH_COUNTS_FALLBACK_MISSED c = min (s.rd DC_REFRESH_COUNTS_FALLBACK_MISSED c + 1) 65535 ∧
        ∀ x, x < 4 → sget 0 (ddr_ t c).refreshed (8 * r.val + 4 * b.val + x) = s.cycle) ∧
  (∀ (c : Fin 8) (m : Fin 16) s, chanState s c = 2 → s.rd FI_MISC_INJECT_INJ_MR4 = 0 →
    Runs (.mr4Read c m) s fun t => t.rd DC_STATUS_RATE_2X c = m % 2 ^ rankCount s c) ∧
  (∀ (c : Fin 8) addr rest s, (ddr_ s c).wb = (addr, false) :: rest → chanState s c = 2 → chanFallback c s = s → lineHeld s addr = false →
    Runs (.writeBack c) s fun t => (ddr_ t c).wb = rest ∧ sget 0 t.dramBad (addr / 64) = 0 ∧ t.dram = s.dram) ∧
  (∀ (c : Fin 8) addr rest s, (ddr_ s c).wb = (addr, true) :: rest → chanState s c = 2 → chanFallback c s = s → lineHeld s addr = false →
    Runs (.writeBack c) s fun t => (ddr_ t c).wb = rest ∧ poisoned t addr = true) ∧
  (∀ (c : Fin 8) errs s, chanState s c = 1 →
    Runs (.trainingPass c errs) s fun t => ∀ b, b < 80 → t.rd TR_ERR_ERRORS c b = min 65535 (sget 0 errs b)) ∧
  (∀ (c : Fin 8) errs s, chanState s c ≠ 1 → exec (.trainingPass c errs) s = .next (s.wr DC_STATUS_TR_IGNORED 1 c)) ∧
  (∀ (r : Fin 64) image refusal repairs o s, hearthTake s r 0x71 = some o → opAt s r o.idx = some o →
    bit (o.word 1) 8 = true →
    if imageMatches (s.rd DC_CONFIG_RATE (bits (o.word 1) 2 0)) (topologyOf s (bits (o.word 1) 2 0)) (ddr_ s (bits (o.word 1) 2 0)).spd image then
      ((∀ x ∈ repairs, x ∈ (ddr_ s (bits (o.word 1) 2 0)).sppr) → Runs (.trainRecord r image refusal () repairs) s fun t =>
        Decided t r o.idx Code.OK 0 ∧
          t.records.head? = some (bits (o.word 1) 2 0, ⟨memBytes (hostImage s o) (o.word 2) 4096, repairs, image⟩)) ∧
      (∀ x, x ∉ (ddr_ s (bits (o.word 1) 2 0)).sppr → rankScheduled s (bits (o.word 1) 2 0) x.1 = true →
        Runs (.trainRecord r image refusal () [x]) s fun t =>
          Decided t r o.idx Code.INCONSISTENT 0 ∧ (ddr_ t (bits (o.word 1) 2 0)).sppr = (ddr_ s (bits (o.word 1) 2 0)).sppr ∧
            t.records.head? = some (bits (o.word 1) 2 0, ⟨memBytes (hostImage s o) (o.word 2) 4096, [x], image⟩))
    else Runs (.trainRecord r image refusal () repairs) s fun t =>
      Decided t r o.idx Code.INCONSISTENT 0 ∧ t.records = s.records) ∧
  (∀ (r : Fin 64) matched refusal repairs o x s, hearthTake s r 0x71 = some o → opAt s r o.idx = some o →
    bit (o.word 1) 8 = false → o.origin = 0 → (s.records.find? fun y => y.1 == bits (o.word 1) 2 0) = some x →
    Runs (.trainRecord r matched refusal () repairs) s fun t =>
      Decided t r o.idx Code.OK 0 ∧ t.hostMem = memWrBytes s.hostMem (o.word 2) x.2.bytes) ∧
  (∀ (r : Fin 64) held o s, hearthTake s r 0x72 = some o → opAt s r o.idx = some o →
    rankScheduled s (bits (o.word 1) 2 0) (bits (o.word 1) 5 4) = false → chanState s (bits (o.word 1) 2 0) = 2 →
    (∀ d : Fin 8, (ddr_ s d).repair = none) → (bit (o.word 1) 56 = false ∨ (held = false ∧ s.noc.xacts = [])) →
    Runs (.ddrRepair r false held) s fun t =>
      t.mbit DC_STATUS_PARKED (bits (o.word 1) 5 4) (bits (o.word 1) 2 0) = true ∧
        ((ddr_ t (bits (o.word 1) 2 0)).repair.map fun q => (q.ring, q.idx, q.rank, q.bank, q.row)) =
          some (r.val, o.idx, bits (o.word 1) 5 4, bits (o.word 1) 20 16, bits (o.word 1) 48 32)) ∧
  (∀ (r : Fin 64) noRes held o s, hearthTake s r 0x72 = some o → opAt s r o.idx = some o →
    (rankScheduled s (bits (o.word 1) 2 0) (bits (o.word 1) 5 4) = true ∨ noRes = true) →
    Runs (.ddrRepair r noRes held) s fun t =>
      Decided t r o.idx (if rankScheduled s (bits (o.word 1) 2 0) (bits (o.word 1) 5 4) then Code.INCONSISTENT
        else Code.LIMIT_REACHED) 0) ∧
  (∀ (c : Fin 8) (q : Repair) o s, (ddr_ s c).repair = some q → q.ring < 64 → opAt s q.ring q.idx = some o → o.isOpen = true →
    Runs (.ddrRepairDone c) s fun t =>
      (ddr_ t c).repair = none ∧ t.mbit DC_STATUS_PARKED q.rank c = false ∧ Decided t q.ring q.idx Code.OK 0)

/-- KEY_LOAD loads an EMPTY key ID with the key that its blob unwraps to, or is refused with the reason logged;
KEY_ERASE and KEY_RETIRE act on the states that the spec lists and are else refused; each waits for its
completion. The completion decides it, and makes an ACTIVE ID RETIRING. A walk starts, moves its watermark line
by line, and at its end the ranges pass to the target and the ID is EMPTY. SLOT_PROVISION installs a sound blob. -/
def Obligations.KeyResults : Prop :=
  (∀ (r : Fin 64) o s, Waits s r 0x30 o → s.rd EN_INJECT_INJ_REFUSE = 0 → badWord o = false → o.word 2 % 64 = 0 →
    Runs (.keyLoad r) s fun t => match loadKeyCheck s o with
      | .ok key => keyState t (bits (o.word 1) 5 0) = 1 ∧ sget [] t.enc.keys (bits (o.word 1) 5 0) = key ∧
          (t.enc.jobs.getLast?.map fun j => (j.ring, j.idx, j.kind, j.code)) = some (r.val, o.idx, 1, Code.OK)
      | .error reason => keyState t (bits (o.word 1) 5 0) = keyState s (bits (o.word 1) 5 0) ∧
          t.rd DETAIL_LOG_REASON 0 s.enc.detailNext = reason % 2 ^ DETAIL_LOG_REASON.width ∧
          t.rd EN_COUNTS_REFUSALS = min (s.rd EN_COUNTS_REFUSALS + 1) 65535 ∧
          (t.enc.jobs.getLast?.map fun j => (j.ring, j.idx, j.kind, j.code)) = some (r.val, o.idx, 1, Code.REFUSED)) ∧
  (∀ (r : Fin 64) o s, Waits s r 0x31 o → s.rd EN_INJECT_INJ_REFUSE = 0 → badWord o = false →
    Runs (.keyErase r) s fun t =>
      if bits (o.word 1) 5 0 ≠ 0 ∧ keyState s (bits (o.word 1) 5 0) = 1 then
        keyState t (bits (o.word 1) 5 0) = 0 ∧ sget [] t.enc.keys (bits (o.word 1) 5 0) = [] ∧
          (t.enc.jobs.getLast?.map fun j => (j.ring, j.idx, j.kind, j.code)) = some (r.val, o.idx, 2, Code.OK)
      else keyState t (bits (o.word 1) 5 0) = keyState s (bits (o.word 1) 5 0) ∧
        (t.enc.jobs.getLast?.map fun j => (j.ring, j.idx, j.kind, j.code)) = some (r.val, o.idx, 2, Code.REFUSED)) ∧
  (∀ (r : Fin 64) o s, Waits s r 0x32 o → s.rd EN_INJECT_INJ_REFUSE = 0 → badWord o = false →
    bits (o.word 1) 5 0 ≠ 0 → bits (o.word 1) 8 8 = 1 →
    (keyState s (bits (o.word 1) 5 0) = 1 ∨ keyState s (bits (o.word 1) 5 0) = 2) →
    Runs (.keyRetire r) s fun t =>
      keyState t (bits (o.word 1) 5 0) = (if keyState s (bits (o.word 1) 5 0) = 1 then 0 else 2) ∧
        (t.enc.jobs.getLast?.map fun j => (j.ring, j.idx, j.kind, j.kid, j.code, j.mode)) =
          some (r.val, o.idx, 3, bits (o.word 1) 5 0, Code.OK, 1)) ∧
  (∀ (r : Fin 64) o s, Waits s r 0x32 o → s.rd EN_INJECT_INJ_REFUSE = 0 → badWord o = false →
    bits (o.word 1) 5 0 ≠ 0 → (keyState s (bits (o.word 1) 5 0) = 0 ∨ keyState s (bits (o.word 1) 5 0) = 3) →
    Runs (.keyRetire r) s fun t =>
      keyState t (bits (o.word 1) 5 0) = keyState s (bits (o.word 1) 5 0) ∧
        (t.enc.jobs.getLast?.map fun j => (j.ring, j.idx, j.kind, j.code)) = some (r.val, o.idx, 3, Code.REFUSED)) ∧
  (∀ (j : KeyJob) (rest : List KeyJob) o s, s.enc.jobs = j :: rest → j.ring < 64 → opAt s j.ring j.idx = some o → o.isOpen = true →
    Runs .keyOpComplete s fun t =>
      t.enc.jobs = rest ∧ Decided t j.ring j.idx j.code 0 ∧
        (j.walks = true → keyState s j.kid = 2 →
          keyState t j.kid = 3 ∧ t.enc.retiring = s.enc.retiring ++ [j.kid])) ∧
  (∀ k (rest : List Nat) s, s.offset = 0 → s.enc.walk = none → s.enc.retiring = k :: rest →
    Runs .rekeyWalkStart s fun t =>
      t.enc.walk = some ⟨k, boundRanges s k⟩ ∧ t.rd EN_STATUS_REKEY_ACTIVE = 1 ∧ t.rd EN_STATUS_REKEY_ID = k % 64) ∧
  (∀ (w : Walk) j (rest : List Nat) s, s.enc.walk = some w → w.ranges = j :: rest → s.enc.paced < max 1 (s.rd RK_CTRL_PACE) →
    lineHeld s (s.rd RK_POS_ADDR) = false → lineReach s (s.rd RK_POS_ADDR) ≠ Code.DOMAIN_CLOSED →
    s.rd RK_POS_ADDR + 64 < rangeEnd s j →
    Runs .rekeyLine s fun t =>
      t.rd RK_POS_ADDR = (s.rd RK_POS_ADDR + 64) % 2 ^ 40 ∧ t.enc.paced = s.enc.paced + 1 ∧ t.enc.walk = some w) ∧
  (∀ (w : Walk) s, s.enc.walk = some w → w.ranges = [] → s.rd KEY_STATE_TARGET 0 w.kid ≠ w.kid →
    Runs .keyRetired s fun t =>
      keyState t w.kid = 0 ∧ t.enc.walk = none ∧ sget [] t.enc.keys w.kid = [] ∧ t.rd EN_STATUS_REKEY_ACTIVE = 0 ∧
        w.kid ∉ t.enc.retiring ∧
        ∀ j, j < 16 → j ∈ boundRanges s w.kid →
          if s.flag KEY_STATE_MODE 0 w.kid then t.rd RANGE_STATUS_STATE 0 j = 0
          else t.rd RANGE_STATUS_KEY_ID 0 j = s.rd KEY_STATE_TARGET 0 w.kid % 2 ^ RANGE_STATUS_KEY_ID.width) ∧
  (∀ s, (s.enc.jobs = [] → exec .keyOpComplete s = .next s) ∧ (s.enc.walk = none → exec .rekeyLine s = .next s) ∧
    (s.enc.walk = none → exec .keyRetired s = .next s) ∧ (s.enc.retiring = [] ∨ s.offset ≠ 0 → exec .rekeyWalkStart s = .next s)) ∧
  (∀ (r : Fin 64) o s, hearthTake s r 0x33 = some o → badWord o = false → o.word 2 % 64 = 0 →
    Runs (.slotProvision r) s fun t =>
      match blobCheck s (bits (o.word 1) 3 0) (byteVals (memBytes (hostImage s o) (o.word 2) 64)) with
      | .ok (key, a) => t.rd SLOT_STATE_STATE 0 (bits (o.word 1) 3 0) = 1 ∧
          sget [] t.enc.slotKeys (bits (o.word 1) 3 0) = key ∧
          t.rd SLOT_STATE_REVOKE_BIT 0 (bits (o.word 1) 3 0) = bits a 11 8 ∧
          (t.enc.jobs.getLast?.map fun j => (j.ring, j.idx, j.kind, j.code)) = some (r.val, o.idx, 4, Code.OK)
      | .error _ => t.rd SLOT_STATE_STATE 0 (bits (o.word 1) 3 0) = s.rd SLOT_STATE_STATE 0 (bits (o.word 1) 3 0) ∧
          (t.enc.jobs.getLast?.map fun j => (j.ring, j.idx, j.kind, j.code)) = some (r.val, o.idx, 4, Code.REFUSED))

/-- A block that a lane puts on its line, scrambled unless it is a marker, reads as that block at a receiver with
the same last bits. A trained lane is ACTIVE with its locks. A training beyond 3 ms raises its event once. A
marker counts its BIP errors and sets marker lock; a skew within the span deskews the lane, one beyond it fails.
A fourth missed marker in a row loses marker lock. A lane loses block lock and marker lock, or acquires block
lock; its elastic buffer slips. PRBS runs only on a lane without role traffic and counts what it compares. An
eye scan starts on an active lane and ends with its errors. -/
def Obligations.LaneResults : Prop :=
  (∀ (st : Nat) (b : LaneBlock), st < 2 ^ 58 → b.payload < 2 ^ 64 →
    readBlock b.marker st (blockBits st b).1 = some ({ b with control := b.control || b.marker }, (blockBits st b).2)) ∧
  (∀ (g : Fin 18) (i : Fin 8) s, laneState s g i = 1 → s.rd LG_STATUS_PLL_STATE g ≠ 3 → s.dbg.pins ≠ 2 → s.pw.active = none →
    Runs (.laneTrained g i) s fun t =>
      laneState t g i = 3 ∧ t.rd LN_STATUS_BLOCK_LOCK g i = 1 ∧ t.rd LN_STATUS_MARKER_LOCK g i = 1 ∧
        t.rd LN_STATUS_ELASTIC g i = 32 ∧ t.rd LG_STATUS_PLL_STATE g = 2) ∧
  (∀ (g : Fin 18) x s, (sget {} s.groups g.val).trainFrom = some x → (sget {} s.groups g.val).timedOut = false →
    x + 4500000 ≤ s.cycle → (∃ i : Fin 8, laneState s g i = 1) →
    Runs (.laneTrainTimeout g) s fun t =>
      (sget {} t.groups g.val).timedOut = true ∧
        t.rd EA_COUNT_COUNT 0 (eventIndex E.LANE_TRAIN_TIMEOUT.id) = min (s.rd EA_COUNT_COUNT 0 (eventIndex E.LANE_TRAIN_TIMEOUT.id) + 1) EA_COUNT_COUNT.max) ∧
  (∀ (g : Fin 18) (i : Fin 8) spaced (bip : Fin 256) bad (fill : Fin 65) s, groupRole s g = 4 →
    receives s g i = true → s.flag LN_STATUS_BLOCK_LOCK g i = true → s.rd LG_INJECT_INJ_BIP g = 0 →
    Runs (.alignMarkerReceived g i spaced bip bad fill none) s fun t =>
      t.rd LN_MARKER_BIP_ERRORS g i = min (s.rd LN_MARKER_BIP_ERRORS g i + popcount bip.val) LN_MARKER_BIP_ERRORS.max ∧
        t.rd LN_LOCK_BAD_TYPE g i = min (s.rd LN_LOCK_BAD_TYPE g i + badTypes 4 (bad.map (·.val))) LN_LOCK_BAD_TYPE.max ∧
        t.rd LN_STATUS_ELASTIC g i = idleFill fill ((bad.map (·.val)).count 0x1E) % 128 ∧ (laneU t g i).missed = 0 ∧
        t.rd LN_STATUS_MARKER_LOCK g i = if spaced then 1 else s.rd LN_STATUS_MARKER_LOCK g i) ∧
  (∀ (g : Fin 18) (i : Fin 8) (v : Int) s, groupRole s g = 1 → receives s g i = true →
    s.flag LN_STATUS_BLOCK_LOCK g i = true → ((bondedSets (s.rd LG_ROLE_WORD0 g)).any fun l => l.contains i.val) = true →
    s.rd LG_INJECT_INJ_BIP g = 0 → s.rd FI_MISC_INJECT_INJ_DESKEW = 0 →
    Runs (.alignMarkerReceived g i true 0 [] 32 (some v)) s fun t =>
      let first := (bondedSets (s.rd LG_ROLE_WORD0 g)).any fun l => l.head? == some i.val
      t.rd LN_SKEW_SKEW g i = (if first then 0 else (v % 8192).toNat) ∧
        if v.natAbs ≤ 1536 ∨ first then (laneU t g i).deskewed = true
        else (laneU t g i).deskewed = false ∧
          t.rd LG_COUNTS_DESKEW_FAILS g = min (s.rd LG_COUNTS_DESKEW_FAILS g + 1) LG_COUNTS_DESKEW_FAILS.max) ∧
  (∀ (g : Fin 18) (i : Fin 8) types s, s.flag LN_STATUS_MARKER_LOCK g i = true →
    Runs (.alignMarkerMissed g ⟨i, types⟩) s fun t =>
      t.rd LN_LOCK_BAD_TYPE g i = min (s.rd LN_LOCK_BAD_TYPE g i + badTypes (groupRole s g) (types.map (·.val))) LN_LOCK_BAD_TYPE.max ∧
      t.rd LN_MARKER_MARKERS_MISSED g i = min (s.rd LN_MARKER_MARKERS_MISSED g i + 1) LN_MARKER_MARKERS_MISSED.max ∧
        if (laneU s g i).missed < 3 then
          (laneU t g i).missed = (laneU s g i).missed + 1 ∧ t.flag LN_STATUS_MARKER_LOCK g i = true
        else t.rd LN_STATUS_MARKER_LOCK g i = 0 ∧ (laneU t g i).deskewed = false) ∧
  (∀ (g : Fin 18) (i : Fin 8) s, s.flag LN_STATUS_BLOCK_LOCK g i = true →
    Runs (.laneLockLost g i) s fun t =>
      t.rd LN_STATUS_BLOCK_LOCK g i = 0 ∧ t.flag LN_STATUS_MARKER_LOCK g i = false ∧
        t.rd LN_LOCK_LOCK_LOSSES g i = min (s.rd LN_LOCK_LOCK_LOSSES g i + 1) LN_LOCK_LOCK_LOSSES.max) ∧
  (∀ (g : Fin 18) (i : Fin 8) s, receives s g i = true → s.rd LG_INJECT_INJ_LOCK g = 0 →
    Runs (.blockLockAcquired g i) s fun t => t.rd LN_STATUS_BLOCK_LOCK g i = 1) ∧
  (∀ (g : Fin 18) (i : Fin 8) over_ s, slips s g i = true →
    Runs (.laneElasticSlip g i over_) s fun t =>
      t.rd LN_STATUS_ELASTIC g i = (if over_ then 64 else 0) ∧
        t.rd LG_COUNTS_SLIPS g = min (s.rd LG_COUNTS_SLIPS g + 1) LG_COUNTS_SLIPS.max) ∧
  (∀ (g : Fin 18) (i : Fin 8) on (p : Fin 4) s, (on = false ∨ prbsLane (s.rd LG_ROLE_WORD0 g) i = true) →
    (Runs (.prbsTxEn g i on p) s fun t =>
      t.rd LN_PRBS_CTRL_PATTERN g i = p ∧ t.flag LN_PRBS_CTRL_TX_EN g i = on) ∧
    Runs (.prbsRxEn g i on p) s fun t =>
      t.rd LN_PRBS_CTRL_PATTERN g i = p ∧ t.flag LN_PRBS_CTRL_RX_EN g i = on ∧
        (on = true → s.flag LN_PRBS_CTRL_RX_EN g i = false →
          t.rd LN_PRBS_ERR_ERRORS g i = 0 ∧ t.rd LN_PRBS_BITS_BITS g i = 0 ∧ t.rd LN_PRBS_CTRL_RX_LOCK g i = 0)) ∧
  (∀ (g : Fin 18) (i : Fin 8) (p : Fin 4) s, prbsLane (s.rd LG_ROLE_WORD0 g) i = false →
    exec (.prbsTxEn g i true p) s = .next (s.wr LN_PRBS_CTRL_IGNORED 1 g i) ∧
      exec (.prbsRxEn g i true p) s = .next (s.wr LN_PRBS_CTRL_IGNORED 1 g i)) ∧
  (∀ (g : Fin 18) (i : Fin 8) n s, s.flag LN_PRBS_CTRL_RX_EN g i = true → (laneState s g i = 3 ∨ laneState s g i = 1) →
    let p := s.rd LN_PRBS_CTRL_PATTERN g i
    let len := (prbsTaps p).2
    if s.flag LN_PRBS_CTRL_RX_LOCK g i then
      Runs (.prbsCheckerSync g i n ()) s fun t =>
        t.flag LN_PRBS_CTRL_RX_LOCK g i = true ∧
          t.rd LN_PRBS_BITS_BITS g i = (s.rd LN_PRBS_BITS_BITS g i + n.length) % 2 ^ LN_PRBS_BITS_BITS.width ∧
          t.rd LN_PRBS_ERR_ERRORS g i = (s.rd LN_PRBS_ERR_ERRORS g i + (prbsCompare p (laneU s g i).checker n).1) % 2 ^ LN_PRBS_ERR_ERRORS.width
    else if n.length < len then exec (.prbsCheckerSync g i n ()) s = .next s
    else
      Runs (.prbsCheckerSync g i n ()) s fun t =>
        t.flag LN_PRBS_CTRL_RX_LOCK g i = true ∧
          t.rd LN_PRBS_BITS_BITS g i = (s.rd LN_PRBS_BITS_BITS g i + (n.length - len)) % 2 ^ LN_PRBS_BITS_BITS.width ∧
          t.rd LN_PRBS_ERR_ERRORS g i = (s.rd LN_PRBS_ERR_ERRORS g i +
            (prbsCompare p (prbsFill p 0 (n.take len)) (n.drop len)).1) % 2 ^ LN_PRBS_ERR_ERRORS.width) ∧
  (∀ (g : Fin 18) (i : Fin 8) v s, bit v 20 = true → s.flag LN_EYE_CTRL_BUSY g i = false →
    Runs (.eyeScanStart g i v) s fun t =>
      if laneState s g i = 1 ∨ laneState s g i = 3 ∨ groupRole s g = 3 then t.rd LN_EYE_CTRL_BUSY g i = 1
      else t.rd LN_PRBS_CTRL_IGNORED g i = 1 ∧ t.flag LN_EYE_CTRL_BUSY g i = false) ∧
  (∀ (g : Fin 18) (i : Fin 8) n s, s.flag LN_EYE_CTRL_BUSY g i = true →
    Runs (.eyeScanDone g i n) s fun t =>
      t.rd LN_EYE_CTRL_BUSY g i = 0 ∧
        t.rd LN_EYE_RESULT_ERRORS g i = min n (2 ^ (min 30 (s.rd LN_EYE_CTRL_DWELL g i) + 10)) % 2 ^ LN_EYE_RESULT_ERRORS.width)

/-- A frame that leaves as its blocks reads as that frame at the far end, and so does an ACK block, its free counts
at most 255. A frame with a bad CRC is only counted, and one on a DOWN or QUIET link changes nothing. A PACKET
frame with the expected SEQ is accepted, another is a duplicate or out of order. An ACK frees the frames it
covers and gives the free counts. A HELLO of INIT that echoes this device's serial number takes the link UP, and
one of a changed peer takes it DOWN, as do the time-outs, a reset and the eighth replay. A replay sends again.
The quiet handshake takes the link QUIET, and a signal or a write ends it. -/
def Obligations.MeshLinkResults : Prop :=
  (∀ (f : MeshFrame), f.seq < 2 ^ 16 → f.ack < 2 ^ 16 → f.kind < 4 → f.vc < 2 → f.data.length ≤ 134 → (∀ w ∈ f.data, w < 2 ^ 64) →
    linkBlocks none (frameBlocks f) = ([.frame f], none)) ∧
  (∀ (p : Partial) ack f0 f1, ack < 2 ^ 16 → linkBlock p (ackBlockOf ack f0 f1) = (.ack ack (min 255 f0) (min 255 f1), p)) ∧
  (∀ (l : Fin 144) (a b : Fin 65536) (f : Fin 64) vc h0 h1 (x y z : List Nat) w0 w1 w2 w3 bl half s, (linkState s l = 1 ∨ linkState s l = 2) →
    linkBlocks (linkU s l).partial_ bl = ([LinkEvent.crcError], half) →
    let t := (updLink l (fun u => { u with partial_ := half }) s).incSat LK_ERRORS_CRC_ERRORS 0 l
    exec (.meshPacketFrame l (.blocks bl) a b vc h0 h1 x y z) s = .next t ∧
      exec (.helloFrame l (.blocks bl) b w0 w1 w2 w3) s = .next t ∧
      exec (.quietFrame l (.blocks bl) b) s = .next t ∧
      exec (.timeFrame l (.blocks bl) b w0 w1 w2 w3 f) s = .next t) ∧
  (∀ (l : Fin 144) (a b : Fin 65536) (f : Fin 64) ok vc h0 h1 (x y z : List Nat) w0 w1 w2 w3 s, (linkState s l = 0 ∨ linkState s l = 3) →
    exec (.meshPacketFrame l ok a b vc h0 h1 x y z) s = .next s ∧ exec (.helloFrame l ok b w0 w1 w2 w3) s = .next s ∧
      exec (.quietFrame l ok b) s = .next s ∧ exec (.timeFrame l ok b w0 w1 w2 w3 f) s = .next s) ∧
  (∀ (l : Fin 144) ack w0 w1 w2 w3 h s, linkState s l = 1 → (linkU s l).partial_ = some h → w2 % 2 ^ 64 ≠ s.rd MS_SERIAL_SERIAL →
    Runs (.helloFrame l .whole ack w0 w1 w2 w3) s fun t =>
      (linkU t l).partial_ = none ∧ t.rd LK_PEER_SERIAL 0 l = w0 % 2 ^ 64 ∧
        t.rd LK_ERRORS_CRC_ERRORS 0 l = min (s.rd LK_ERRORS_CRC_ERRORS 0 l + 1) LK_ERRORS_CRC_ERRORS.max) ∧
  (∀ (l : Fin 144) (a b : Fin 65536) vc h0 h1 (x y z : List Nat) s, linkState s l = 2 → (linkU s l).replay = [] → (linkU s l).partial_ = none →
    a.val ≠ (linkU s l).expect →
    Runs (.meshPacketFrame l .whole a b vc h0 h1 x y z) s fun t =>
      (linkU t l).expect = (linkU s l).expect ∧ t.mesh.local_ = s.mesh.local_ ∧
        if ((linkU s l).expect + 65536 - a.val) % 65536 ≤ 32768 then
          t.rd LK_ERRORS_DUPLICATES 0 l = min (s.rd LK_ERRORS_DUPLICATES 0 l + 1) LK_ERRORS_DUPLICATES.max
        else t.rd LK_ERRORS_OUT_OF_ORDER 0 l = min (s.rd LK_ERRORS_OUT_OF_ORDER 0 l + 1) LK_ERRORS_OUT_OF_ORDER.max) ∧
  (∀ (l : Fin 144) ack (f0 f1 : Fin 256) bl half s, linkState s l = 2 → linkBlocks (linkU s l).partial_ bl = ([LinkEvent.ackError], half) →
    exec (.ackBlock l (.blocks bl) ack f0 f1) s =
      .next ((updLink l (fun u => { u with partial_ := half }) s).incSat LK_ERRORS_ACK_ERRORS 0 l)) ∧
  (∀ (l : Fin 144) (ack : Fin 65536) (f0 f1 : Fin 256) (x : Sent) (rest : List Sent) s, linkState s l = 2 →
    s.rd MS_INJECT_INJ_ACK_DROP = 0 → (linkU s l).queue = [] → (linkU s l).replay = x :: rest → x.seq = ack.val →
    Runs (.ackBlock l .whole ack f0 f1) s fun t =>
      (linkU t l).replay = rest ∧ (linkU t l).free0 = f0.val ∧ (linkU t l).free1 = f1.val ∧ (linkU t l).expiries = 0 ∧
        t.rd LK_SEQ_ACK_RX 0 l = ack.val) ∧
  (∀ (l : Fin 144) (ack : Fin 65536) (f0 f1 : Fin 256) s, linkState s l = 2 → s.rd MS_INJECT_INJ_ACK_DROP = 0 →
    s.rd LK_SEQ_ACK_RX 0 l ≠ ack.val → (∀ x ∈ (linkU s l).replay, x.seq ≠ ack.val) →
    exec (.ackBlock l .whole ack f0 f1) s = .next s) ∧
  (∀ (l : Fin 144) ack w0 w1 w2 w3 s, linkState s l = 1 → (linkU s l).partial_ = none → w2 % 2 ^ 64 = s.rd MS_SERIAL_SERIAL →
    Runs (.helloFrame l .whole ack w0 w1 w2 w3) s fun t =>
      linkState t l = 2 ∧ t.rd LK_SEQ_ACK_RX 0 l = 0xFFFF ∧ t.rd LK_PEER_SERIAL 0 l = w0 % 2 ^ 64 ∧
        t.rd LK_STATUS_PEER_ADDR 0 l = bits w1 43 32 ∧ t.rd LK_STATUS_PEER_LINK 0 l = bits w1 55 48) ∧
  (∀ (l : Fin 144) ack w0 w1 w2 w3 s, linkState s l = 1 → (linkU s l).partial_ = none → w2 % 2 ^ 64 ≠ s.rd MS_SERIAL_SERIAL →
    Runs (.helloFrame l .whole ack w0 w1 w2 w3) s fun t => linkState t l = 1 ∧ t.rd LK_PEER_SERIAL 0 l = w0 % 2 ^ 64) ∧
  (∀ (l : Fin 144) ack w0 w1 w2 w3 s, linkState s l = 2 → (linkU s l).partial_ = none → s.rd LK_PEER_SERIAL 0 l ≠ w0 % 2 ^ 64 →
    Runs (.helloFrame l .whole ack w0 w1 w2 w3) s fun t =>
      linkState t l ≤ 1 ∧ t.rd LK_REPLAY_DOWNS 0 l = min (s.rd LK_REPLAY_DOWNS 0 l + 1) LK_REPLAY_DOWNS.max) ∧
  (∀ (l : Fin 144) s, (linkState s l = 1 ∨ linkState s l = 2) → linkReady s l = true →
    Runs (.helloSend l) s fun t =>
      (linkU t l).sent.head? = some (s.rd MS_SERIAL_SERIAL) ∧ (linkU t l).sent.length = 4 ∧
        t.rd LK_FRAMES_TX_FRAMES 0 l = (s.rd LK_FRAMES_TX_FRAMES 0 l + 1) % 2 ^ LK_FRAMES_TX_FRAMES.width) ∧
  (∀ (l : Fin 144) s, linkReady s l = false → exec (.helloSend l) s = .next s ∧ exec (.replayTimeout l) s = .next s) ∧
  (∀ (l : Fin 144) s, linkState s l = 2 → 450000 ≤ s.cycle - (linkU s l).helloAt →
    Runs (.helloTimeout l) s fun t =>
      linkState t l ≤ 1 ∧ t.rd LK_REPLAY_DOWNS 0 l = min (s.rd LK_REPLAY_DOWNS 0 l + 1) LK_REPLAY_DOWNS.max) ∧
  (∀ (l : Fin 144) s, s.cycle - (linkU s l).helloAt < 450000 → exec (.helloTimeout l) s = .next s) ∧
  (∀ (l : Fin 144) c s, linkState s l = 2 → (linkU s l).notReady = some c → 150000 ≤ s.cycle - c →
    Runs (.setNotReadyTimeout l) s fun t =>
      linkState t l ≤ 1 ∧ t.rd LK_REPLAY_DOWNS 0 l = min (s.rd LK_REPLAY_DOWNS 0 l + 1) LK_REPLAY_DOWNS.max) ∧
  (∀ (l : Fin 144) s, (linkU s l).notReady = none → exec (.setNotReadyTimeout l) s = .next s) ∧
  (∀ (l : Fin 144) (x : Sent) (rest : List Sent) s, linkState s l = 2 → linkReady s l = true → (linkU s l).replay = x :: rest → x.endAt + 3000 ≤ s.cycle →
    Runs (.replayTimeout l) s fun t =>
      t.rd LK_REPLAY_TIMEOUTS 0 l = min (s.rd LK_REPLAY_TIMEOUTS 0 l + 1) LK_REPLAY_TIMEOUTS.max ∧
        t.rd LK_REPLAY_REPLAYS 0 l = min (s.rd LK_REPLAY_REPLAYS 0 l + (rest.length + 1)) LK_REPLAY_REPLAYS.max ∧
        if (linkU s l).expiries < 7 then
          (linkU t l).replay = (x :: rest).map (fun f => { f with endAt := s.cycle }) ∧
            (linkU t l).expiries = (linkU s l).expiries + 1
        else linkState t l ≤ 1) ∧
  (∀ (l : Fin 144) s, linkState s l = 2 → s.cycle < ((linkU s l).replay.map fun f => f.endAt + 3000).headD 0 →
    exec (.replayTimeout l) s = .next s) ∧
  (∀ (l : Fin 144) ack s, linkState s l = 2 → linkReady s l = true → (linkU s l).partial_ = none → (linkU s l).replay = [] → (linkU s l).queue = [] →
    Runs (.quietFrame l .whole ack) s fun t => linkState t l = 3) ∧
  (∀ (l : Fin 144) s, isLink s l = true → upLink s ≠ l.val → backupLink s ≠ l.val → linkState s l = 2 →
    linkReady s l = true → (linkU s l).replay = [] → (linkU s l).quietRecv = false →
    Runs (.lkQuiet l true) s fun t =>
      t.rd LK_CTRL_QUIET 0 l = 1 ∧ (linkU t l).quietSent = true ∧ linkState t l = 2) ∧
  (∀ (l : Fin 144) s, isLink s l = true → (upLink s = l.val ∨ backupLink s = l.val) →
    exec (.lkQuiet l true) s = .next (s.wr LK_CTRL_IGNORED 1 0 l)) ∧
  (∀ (l : Fin 144) s, isLink s l = true → (linkState s l = 2 ∨ linkState s l = 3) →
    Runs (.lkQuiet l false) s fun t =>
      t.rd LK_CTRL_QUIET 0 l = 0 ∧ (linkU t l).quietSent = false ∧ linkState t l = 2) ∧
  (∀ (l : Fin 144) s, isLink s l = true → Runs (.lkReset l) s fun t => linkState t l ≤ 1) ∧
  (∀ (l : Fin 144) s, isLink s l = false →
    exec (.lkReset l) s = .next s ∧ exec (.lkQuiet l true) s = .next s ∧ exec (.lkQuiet l false) s = .next s) ∧
  (∀ (l : Fin 144) s, linkState s l = 3 →
    Runs (.linkSignalDetected l) s fun t => linkState t l = 2 ∧ t.rd LK_CTRL_QUIET 0 l = 0) ∧
  (∀ (l : Fin 144) s, linkState s l ≠ 3 → exec (.linkSignalDetected l) s = .next s)

/-- An accepted packet for this device waits for the command of its class, and another goes on with one hop fewer. A
TIME frame leaves at its ticks; one received is kept, and gives the stratum on the time link; a missed one
counts a missing mark. A report takes a new REPORT_SEQ, and the newest REPORT_SEQ of a serial number is kept. A
DATA request is answered, and a response ends its request. A HOST packet's descriptor is served, its completion
returns to the ring or is counted lost, and a gateway writes host memory. The host's read index moves within the
ring. -/
def Obligations.MeshPacketResults : Prop :=
  (∀ (l : Fin 144) (ack : Fin 65536) (a : Fin 65536) vc h0 h1 (x y z : List Nat) s, linkState s l = 2 → (linkU s l).partial_ = none → a.val = (linkU s l).expect →
    0 < freeOn s l (if vc then 1 else 0) → (linkU s l).replay = [] →
    (packetOf vc h0 h1 x y z).cls < 3 → isLocal s (packetOf vc h0 h1 x y z) = true →
    Runs (.meshPacketFrame l .whole a ack vc h0 h1 x y z) s fun t =>
      t.mesh.local_ = s.mesh.local_ ++ [(packetOf vc h0 h1 x y z, l.val, if vc then 1 else 0)] ∧
        (linkU t l).expect = (a.val + 1) % 65536 ∧
        t.rd LK_FRAMES_RX_FRAMES 0 l = (s.rd LK_FRAMES_RX_FRAMES 0 l + 1) % 2 ^ LK_FRAMES_RX_FRAMES.width) ∧
  (∀ (l m : Fin 144) (ack : Fin 65536) (a : Fin 65536) h0 h1 (x y z : List Nat) q s, linkState s l = 2 → (linkU s l).partial_ = none → a.val = (linkU s l).expect →
    0 < freeOn s l 0 → (linkU s l).replay = [] → (packetOf false h0 h1 x y z).cls < 3 → isLocal s (packetOf false h0 h1 x y z) = false →
    routePkt s true (packetOf false h0 h1 x y z) = .inr (m.val, q) → m ≠ l → linkState s m = 2 → (linkU s m).queue = [] →
    Runs (.meshPacketFrame l .whole a ack false h0 h1 x y z) s fun t =>
      q.hops = (packetOf false h0 h1 x y z).hops - 1 ∧
        if maySend s m q.vc then ((linkU t m).replay.getLast?.map fun f => f.pkt) = some q
        else (linkU t m).queue = [⟨q, some (l.val, 0), some (packetOf false h0 h1 x y z)⟩]) ∧
  (∀ (l : Fin 144) (f : Fin 64) s, linkState s l = 2 → linkReady s l = true → s.now % timeDivision s = 0 →
    Runs (.timeFrameSend ⟨l, f⟩) s fun t =>
      (linkU t l).sent = timeWords l f s ∧
        t.rd LK_FRAMES_TX_FRAMES 0 l = (s.rd LK_FRAMES_TX_FRAMES 0 l + 1) % 2 ^ LK_FRAMES_TX_FRAMES.width) ∧
  (∀ (l : Fin 144) f s, (linkState s l ≠ 2 ∨ linkReady s l = false ∨ s.now % timeDivision s ≠ 0) → exec (.timeFrameSend ⟨l, f⟩) s = .next s) ∧
  (∀ (l : Fin 144) ack w0 w1 w2 w3 (f : Fin 64) s, linkState s l = 2 → (linkU s l).partial_ = none → s.rd MS_INJECT_INJ_TIME_MISS = 0 → bit w1 41 = false →
    Runs (.timeFrame l .whole ack w0 w1 w2 w3 f) s fun t =>
      (linkU t l).time = some (w0 % 2 ^ 64, bits w1 22 0, s.now, s.offset * 64 + f.val) ∧
        t.rd MS_STATUS_STRATUM = (if timeLink s = l.val ∧ isRoot s = false then min 255 (bits w1 39 32 + 1) else s.rd MS_STATUS_STRATUM)) ∧
  (∀ s, alignMode s = 2 → frozen s = false → (alignState s = 2 ∨ alignState s = 3) →
    s.tick.timeFrom + timeDivision s ≤ s.now →
    Runs .timeFrameMissed s fun t =>
      t.rd SYNC_MISS_COUNT_MISSES = (s.rd SYNC_MISS_COUNT_MISSES + 1) % 2 ^ 32 ∧ t.rd ALIGN_STATUS_IN_WINDOW = 0) ∧
  (∀ s, (alignMode s ≠ 2 ∨ s.now < s.tick.timeFrom + timeDivision s) → exec .timeFrameMissed s = .next s) ∧
  (∀ s, (allLinks s = [] ∨ reportNow s = false) → exec .meshReportSend s = .next s) ∧
  (∀ s, allLinks s ≠ [] → reportNow s = true → ((allLinks s).filter fun l => linkState s l != 0).length ≤ 16 →
    Runs .meshReportSend s fun t =>
      t.mesh.reportDue = false ∧ t.mesh.reportAt = s.cycle ∧ t.mesh.reportSeq = (s.mesh.reportSeq + 1) % 65536) ∧
  (∀ (p : Pkt) (l v : Nat) (e : List Byte) s, s.mesh.local_ = [(p, l, v)] → p.cls = 2 → (entriesOf 16 p.payload).head? = some e →
    wordAt e 8 ≠ s.rd MS_SERIAL_SERIAL → s.mesh.seen = [] →
    Runs .meshReportPacket s fun t =>
      t.mesh.local_ = [] ∧ sget 65536 t.mesh.seen (wordAt e 8) = bits (wordAt e 0) 31 16) ∧
  (∀ (p : Pkt) (v : Nat) s (u : State), s.mesh.local_ = [(p, 255, v)] → p.cls = 1 → p.resp = false → isLocal s (responseTo s p 0) = true →
    accessHeld s (s.rd MS_INBOX_BASE_ADDR + p.offset) p.payload.length = false → u = s.updMesh (fun m => { m with local_ := [] }) →
    Runs .meshDataRequest s fun t =>
      t.mesh.local_ = [(responseTo s p (writeInbox p u).1, 255, 0)] ∧ t.dram = (writeInbox p u).2.dram) ∧
  (∀ (p : Pkt) s, s.rd MS_INBOX_SIZE_BYTES < p.offset + p.payload.length →
    writeInbox p s = (Code.OUT_OF_RANGE, s)) ∧
  (∀ (p : Pkt) (l v : Nat) q x s, s.mesh.local_ = [(p, l, v)] → p.cls = 1 → p.resp = true → s.mesh.out = [(p.tag, q, x)] →
    Runs .meshDataResponse s fun t => t.mesh.local_ = [] ∧ t.mesh.out = []) ∧
  (∀ (p : Pkt) (l v r k : Nat) w s, s.mesh.local_ = [(p, l, v)] → p.cls = 0 → p.host = some (.descriptor r k w) →
    Runs .meshHostPacket s fun t => (r, k + (p.src + 1) * 2 ^ 32, p) ∈ t.host.serving) ∧
  (∀ (p : Pkt) (l v r k due : Nat) w o s, s.mesh.local_ = [(p, l, v)] → p.cls = 0 → p.host = some (.completion r k w) →
    s.host.proxied = [(r, k, due)] → k < 2 ^ 32 → opAt s r k = some o →
    Runs .meshHostPacket s fun t =>
      t.host.proxied = [] ∧ (r, k) ∈ t.ready ∧
        ((opAt t r k).map fun o => (o.phase, o.code)) = some (.latched, bits (w.getD 0 0) 15 0)) ∧
  (∀ (p : Pkt) (l v r k : Nat) w s, s.mesh.local_ = [(p, l, v)] → p.cls = 0 → p.host = some (.completion r k w) → s.host.proxied = [] →
    Runs .meshHostPacket s fun t =>
      t.rd HI_COUNTS_LOST_COMPLETIONS = min (s.rd HI_COUNTS_LOST_COMPLETIONS + 1) HI_COUNTS_LOST_COMPLETIONS.max) ∧
  (∀ (p : Pkt) (l v a : Nat) d s, s.mesh.local_ = [(p, l, v)] → p.cls = 0 → p.host = some (.write a d) →
    Runs .meshHostPacket s fun t =>
      t.mesh.local_ = [] ∧ t.hostMem = if s.flag MS_STATUS_GATEWAY then memWrBytes s.hostMem a d else s.hostMem) ∧
  (∀ v s, Runs (.msReportRdWrite v) s fun t =>
      if v ≤ s.rd MS_REPORT_WR_INDEX ∧ s.rd MS_REPORT_WR_INDEX ≤ v + s.rd MS_REPORT_LINES_LINES then
        t.rd MS_REPORT_RD_INDEX = v % 2 ^ MS_REPORT_RD_INDEX.width
      else t = s)

/-- While READY is 1 a command doorbell within the ring advances the producer index, and one out of range sets
DB_ERR and leaves it; the completion and event doorbells set the read index, or RD_ERR. While READY is 0 a
doorbell is only counted. RING_ENABLE starts a disabled ring whose size and bases are valid; RING_DISABLE drains
a running one; RING_RESUME lets a halted one run; EVENT_RING_ENABLE starts the event ring. A LINK reset disables
every ring and clears READY, and D3hot disables every ring. PCIE_LINK_UP shows the link with its width and
speed. -/
def Obligations.HostDoorbellsAndRings : Prop :=
  (∀ (r : Fin 64) (p : Nat) s, s.flag HI_STATUS_READY = true → s.rd HI_INJECT_INJ_DOORBELL = 0 →
    idxDiff (p % 2 ^ 32) (s.rd CR_CONS_INDEX 0 r) ≤ ringSize s r →
    idxDiff (p % 2 ^ 32) (s.rd CR_PROD_INDEX 0 r) < 2 ^ 31 →
    Runs (.commandDoorbell r p) s fun t => t.rd CR_PROD_INDEX 0 r = p % 2 ^ 32) ∧
  (∀ (r : Fin 64) (p : Nat) s, s.flag HI_STATUS_READY = true →
    ringSize s r < idxDiff (p % 2 ^ 32) (s.rd CR_CONS_INDEX 0 r) →
    Runs (.commandDoorbell r p) s fun t =>
      t.rd CR_STATUS_DB_ERR 0 r = 1 ∧ t.rd CR_PROD_INDEX 0 r = s.rd CR_PROD_INDEX 0 r) ∧
  (∀ (r : Fin 64) v s, s.flag HI_STATUS_READY = true →
    Runs (.completionDoorbell r v) s fun t =>
      if idxDiff (s.rd CQ_WR_INDEX 0 r) (v % 2 ^ 32) ≤ ringSize s r then t.rd CQ_RD_INDEX 0 r = v % 2 ^ 32
      else t.rd CR_STATUS_RD_ERR 0 r = 1 ∧ t.rd CQ_RD_INDEX 0 r = s.rd CQ_RD_INDEX 0 r) ∧
  (∀ v s, s.flag HI_STATUS_READY = true →
    Runs (.eventDoorbell v) s fun t =>
      if idxDiff (s.rd EV_WR_INDEX) (v % 2 ^ 32) ≤ eventSize s then t.rd EV_RD_INDEX = v % 2 ^ 32
      else t.rd EV_STATUS_RD_ERR = 1 ∧ t.rd EV_RD_INDEX = s.rd EV_RD_INDEX) ∧
  (∀ (r : Fin 64) (p : Nat) s, s.flag HI_STATUS_READY = false →
    exec (.commandDoorbell r p) s = .next (s.incSat HI_COUNTS_EARLY_DOORBELLS) ∧
      exec (.completionDoorbell r p) s = .next (s.incSat HI_COUNTS_EARLY_DOORBELLS) ∧
      exec (.eventDoorbell p) s = .next (s.incSat HI_COUNTS_EARLY_DOORBELLS)) ∧
  (∀ (r : Fin 64) v s, bit v 5 = true → ringState s r = 0 → s.flag HI_STATUS_READY = true → 4 ≤ bits v 4 0 →
    bits v 4 0 ≤ 16 → s.rd CR_BASE_ADDR 0 r % 4096 = 0 → s.rd CQ_BASE_ADDR 0 r % 4096 = 0 →
    Runs (.ringEnable r v) s fun t =>
      ringState t r = 1 ∧ t.rd CR_CONS_INDEX 0 r = 0 ∧ t.rd CR_PROD_INDEX 0 r = 0 ∧ t.rd CQ_WR_INDEX 0 r = 0 ∧
        t.rd CQ_RD_INDEX 0 r = 0) ∧
  (∀ (r : Fin 64) v s, bit v 5 = false → ringState s r = 1 →
    Runs (.ringDisable r v) s fun t =>
      ringState t r = if s.ops.any fun o => o.ring == r.val && o.own && !o.lost then 2 else 0) ∧
  (∀ (r : Fin 64) v s, bit v 7 = true → bit v 5 = true → ringState s r = 3 →
    Runs (.ringResume r v) s fun t => ringState t r = 1 ∧ t.rd CR_STATUS_HALT_WRITE 0 r = 0) ∧
  (∀ v s, bit v 5 = true → s.flag EV_STATUS_RUNNING = false → s.flag HI_STATUS_READY = true → 6 ≤ bits v 4 0 →
    bits v 4 0 ≤ 16 → s.rd EV_BASE_ADDR % 4096 = 0 →
    Runs (.eventRingEnable v) s fun t =>
      t.rd EV_STATUS_RUNNING = 1 ∧ t.rd EV_WR_INDEX = 0 ∧ t.rd EV_RD_INDEX = 0) ∧
  (∀ kind s, Runs (.linkResetCmd kind) s fun t =>
      t.rd HI_STATUS_READY = 0 ∧ t.rd EV_STATUS_RUNNING = 0 ∧ (∀ r, ringState t r = 0) ∧
        (kind.val < 2 → t.rd HI_STATUS_LINK_UP = 0)) ∧
  (∀ s, Runs .d3hotEntry s fun t => t.rd EV_STATUS_RUNNING = 0 ∧ ∀ r, ringState t r = 0) ∧
  (∀ (width : Fin 3) (speed : Fin 6) s, s.dbg.pins ≠ 2 → mayTrainLink s = true → linkFits s width speed = true →
    Runs (.pcieLinkUp width speed) s fun t =>
      t.rd HI_STATUS_LINK_UP = 1 ∧ t.rd HI_STATUS_WIDTH = width ∧ t.rd HI_STATUS_SPEED = speed)

/-- DESCRIPTOR_CONSUME advances C and enters the operation, or halts the ring where the link fails the read.
OUTCOME_LATCH latches a decided outcome and makes it writable. COMPLETION_WRITE advances the write index, and
the operation leaves. MSIX_TIMER writes the message to host memory. EVENT_RECORD_WRITE takes the oldest record
from the FIFO. -/
def Obligations.HostQueues : Prop :=
  (∀ (r : Fin 64) s, mayConsume s r (nextDescriptor s r) = true → s.rd HI_INJECT_INJ_FETCH = 0 →
    opAt s r (ownIdx s r (s.rd CR_CONS_INDEX 0 r)) = none →
    Runs (.descriptorConsume r false) s fun t =>
      t.rd CR_CONS_INDEX 0 r = (s.rd CR_CONS_INDEX 0 r + 1) % 2 ^ 32 ∧
        (opAt t r (ownIdx s r (s.rd CR_CONS_INDEX 0 r))).isSome = true) ∧
  (∀ (r : Fin 64) s, mayConsume s r (nextDescriptor s r) = true →
    Runs (.descriptorConsume r true) s fun t =>
      ringState t r = 3 ∧ t.rd CR_CONS_INDEX 0 r = s.rd CR_CONS_INDEX 0 r) ∧
  (∀ (r : Fin 64) idx o s, opAt s r idx = some o → o.phase = .decided → o.latchTick ≤ s.now →
    Runs (.outcomeLatch r idx) s fun t =>
      (∃ p, opAt t r idx = some p ∧ p.phase = .latched) ∧ (o.held = false → (r.val, idx) ∈ t.ready)) ∧
  (∀ (r : Fin 64) o s, nextReady s r = some o → o.own = true → o.lost = false → ringState s r ≠ 3 →
    Runs (.completionWrite r false) s fun t =>
      t.rd CQ_WR_INDEX 0 r = (s.rd CQ_WR_INDEX 0 r + 1) % 2 ^ 32 ∧ opAt t r o.idx = none) ∧
  (∀ (r : Fin 64) o s, nextReady s r = some o → o.own = true → o.lost = false →
    (ringState s r = 1 → Runs (.completionWrite r true) s fun t => ringState t r = 3 ∧ t.flag CR_STATUS_HALT_WRITE 0 r = true ∧
      t.rd CQ_WR_INDEX 0 r = s.rd CQ_WR_INDEX 0 r) ∧
    (ringState s r ≠ 1 → exec (.completionWrite r true) s = .next s)) ∧
  (∀ (r : Fin 64) s, (sget (0, 0) s.host.uncovered r.val).1 ≠ 0 → s.rd CR_IRQ_TIME 0 r ≠ 0 →
    (sget (0, 0) s.host.uncovered r.val).2 + s.rd CR_IRQ_TIME 0 r ≤ s.now →
    (sget ({} : Msix) s.host.msix (s.rd CR_CFG_VECTOR 0 r)).masked = false →
    s.host.pcie.msixEnable = true → s.host.pcie.functionMask = false →
    Runs (.msixTimer r) s fun t =>
      t.hostMem = memWr s.hostMem (sget ({} : Msix) s.host.msix (s.rd CR_CFG_VECTOR 0 r)).addr
        (sget ({} : Msix) s.host.msix (s.rd CR_CFG_VECTOR 0 r)).data 4 ∧
      sget (0, 0) t.host.uncovered r.val = (0, 0)) ∧
  (∀ (e : EvRec) rest s, s.flag EV_STATUS_RUNNING = true → idxDiff (s.rd EV_WR_INDEX) (s.rd EV_RD_INDEX) < eventSize s →
    s.ev.lostRun = 0 → s.ev.fifo = e :: rest →
    Runs .eventRecordWrite s fun t => t.ev.fifo = rest ∧ t.rd EV_WR_INDEX = (s.rd EV_WR_INDEX + 1) % 2 ^ 32)

/-- NOP completes OK. DMA_MOVE runs, or is rejected with its field; its end decides it, ABORTED where the link
failed. DEBUG_READ is decided. ABORT waits, and when it is latched the waiting operation it names is ABORTED and
the ABORT completes OK. A proxied descriptor that times out is ABORTED. -/
def Obligations.HostOperations : Prop :=
  (∀ (r : Fin 64) o s, Waits s r 0x00 o → Runs (.nop r) s fun t => Decided t r o.idx Code.OK 0) ∧
  (∀ (r : Fin 64) o s, Waits s r 0x01 o → moveCheck s o.desc = none →
    Runs (.dmaMove r) s fun t => Running t r o.idx) ∧
  (∀ (r : Fin 64) code fld o s, Waits s r 0x01 o → moveCheck s o.desc = some (code, fld) →
    Runs (.dmaMove r) s fun t => Decided t r o.idx code fld) ∧
  (∀ (r : Fin 64) idx o n (fin : TransferEnd) s, opAt s r idx = some o → o.opcode = 0x01 → o.phase = .running → fin.failedAt = some n →
    Runs (.dmaMoveDone r idx fin) s fun t => Decided t r idx Code.ABORTED 0) ∧
  (∀ (r : Fin 64) idx o s, opAt s r idx = some o → o.opcode = 0x01 → o.phase = .running → moveRests s o = false →
    Runs (.dmaMoveDone r idx {}) s fun t => ∃ code, Decided t r idx code 0) ∧
  (∀ (r : Fin 64) o s, Waits s r 0x02 o → debugCheck s (bits (o.word 1) 3 0) (o.word 2) (bits (o.word 4) 31 0) = none →
    (debugRests s o = false → Runs (.debugRead r {}) s fun t => ∃ code, Decided t r o.idx code 0) ∧
      (debugRests s o = true → Runs (.debugRead r {}) s fun t => Running t r o.idx) ∧
      (∀ u, Runs (.debugRead r { upset := u, begins := true }) s fun t => Running t r o.idx) ∧
      ∀ n u, Runs (.debugRead r { failedAt := some n, upset := u }) s fun t => Decided t r o.idx Code.ABORTED 0) ∧
  (∀ (r : Fin 64) o s, Waits s r 0xF0 o →
    Runs (.abortOp r) s fun t => Running t r o.idx ∧ ∃ a ∈ t.host.aborts, a.ring = r.val ∧ a.idx = o.idx ∧ a.frame = s.now) ∧
  (∀ moved a o b s, s.host.aborts = [a] → a.frame < s.now → opAt s a.onRing a.onIdx = some o → o.phase = .accepted →
    abortable o.opcode = true → a.named = true → isProxied s a.onRing a.onIdx = false → s.cfg.op = none → opAt s a.ring a.idx = some b →
    b.isOpen = true → (a.onRing, a.onIdx) ≠ (a.ring, a.idx) → a.onRing < 64 → a.ring < 64 →
    Runs (.hostAbortLatch moved) s fun t =>
      Decided t a.onRing a.onIdx Code.ABORTED 0 ∧ Decided t a.ring a.idx Code.OK 0 ∧ t.host.aborts = []) ∧
  (∀ (r : Fin 64) idx due o s, (r.val, idx, due) ∈ s.host.proxied → due ≤ s.cycle → opAt s r idx = some o →
    o.isOpen = true → Runs (.proxyTimeout r idx) s fun t => Decided t r idx Code.ABORTED 0)

/-- A window moves an expired job from its delay list to its ready list. An enqueued job takes an entry, one that
fails its check completes the descriptor with its code and FIELD_INDEX 8, and one without room waits. A
dispatched job is held by its worker, and a fabric worker's mailbox is written. A done message makes its job
done with its status and result, or counts LATE_DONE; a job past its time is ABORTED; a done job of no flow is
released. A registration binds a FREE worker, updates an ACTIVE one, drains it, or is refused. -/
def Obligations.DispatchResults : Prop :=
  (∀ k (e : Slot) (j : Job) x s, opening s 0x50 k = some e → s.offset = e.start → s.disp.jobs = [j] → j.place = .delayed x → j.dlist = e.unit → x ≤ s.now →
    1 ≤ bits e.param 15 0 → 1 ≤ e.length →
    Runs (.dispatchAdvanceWindow k) s fun t =>
      t.disp.jobs = [{ j with place := .ready, lateness := s.now - x, readyAt := s.cycle }] ∧
        (t.tick.wins.any fun w => w.idx == k && w.complete) = true) ∧
  (∀ (r : Fin 64) o w s, Waits s r 0x50 o → roomFor (enqueueArray s o) s = true → enqueueArray s o = [w] →
    jobCheck s w false = none →
    Runs (.dispatchEnqueue r) s fun t =>
      Decided t r o.idx Code.OK 0 ∧ ∃ j, t.disp.jobs = s.disp.jobs ++ [j] ∧ j.prio = bits (w.getD 0 0) 2 0 ∧
        j.tag = bits (w.getD 2 0) 31 0 ∧ j.classMask = bits (w.getD 0 0) 63 48 ∧ j.doneAddr = w.getD 1 0 ∧
        j.payload = w.drop 3 ∧ (bits (w.getD 0 0) 40 16 = 0 → j.place = .ready)) ∧
  (∀ (r : Fin 64) o w c s, Waits s r 0x50 o → roomFor (enqueueArray s o) s = true → enqueueArray s o = [w] →
    jobCheck s w false = some c →
    Runs (.dispatchEnqueue r) s fun t => Decided t r o.idx c 8 ∧ t.disp = s.disp) ∧
  (∀ (r : Fin 64) o s, takeOp s r 0x50 = some o → roomFor (enqueueArray s o) s = false →
    exec (.dispatchEnqueue r) s = .next (noteStall s)) ∧
  (∀ (j : Job) w s, chooseJob s = some (j, w) → s.rd DP_INJECT_INJ_LOST = 0 → s.rd DP_INJECT_INJ_TIMEOUT = 0 →
    Runs .jobDispatch s fun t =>
      (∃ x ∈ t.disp.jobs, x.slot = j.slot ∧ x.place = .held w ∧ x.worker = w ∧ x.dispTick = s.now) ∧
        (w < 4 → ∃ x ∈ t.disp.jobs, x.slot = j.slot ∧
          sget [] (sget {} t.disp.workers w).mailbox ((sget {} s.disp.workers w).sent % (s.rd WK_CFG_DEPTH_M1 0 w + 1)) =
            dispatchRecord s x ((sget {} s.disp.workers w).sent / (s.rd WK_CFG_DEPTH_M1 0 w + 1) % 2)) ∧
        (4 ≤ w → s.noc.standing = [] → ∃ x ∈ t.noc.xacts, x.owner = .dispatch w j.slot ∧ x.dst = workerPort s w ∧
          x.addr = s.rd WK_MAILBOX_ADDR 0 w + (sget {} s.disp.workers w).sent % (s.rd WK_CFG_DEPTH_M1 0 w + 1) * 64 ∧
          x.bytes = 64 ∧ x.prio = j.prio / 2 ∧ x.epoch = s.rd WK_STATUS_EPOCH 0 w)) ∧
  (∀ (sid : MessageFrom) status result (j : Job) q s, s.disp.jobs = [j] → j.place = .held j.worker → portOfStream s sid.sid = some q →
    (countMessage sid 0x10000 16 s).1 = false →
    q = workerPort s j.worker →
    Runs (.doneMessage sid j.slot j.gen status result) s fun t =>
      t.disp.jobs = [{ j with place := .done, status := status % 2 ^ 16, result := result % 2 ^ 32 }] ∧
        t.rd WK_JOBS_JOBS 0 j.worker = (s.rd WK_JOBS_JOBS 0 j.worker + 1) % 2 ^ WK_JOBS_JOBS.width) ∧
  (∀ (sid : MessageFrom) entry gen status result s, (∀ j ∈ s.disp.jobs, j.slot ≠ entry ∨ j.gen ≠ gen ∨ j.place ≠ .held j.worker) →
    exec (.doneMessage sid entry gen status result) s =
      .next (if (countMessage sid 0x10000 16 s).1 then (countMessage sid 0x10000 16 s).2
        else (countMessage sid 0x10000 16 s).2.incSat DP_COUNTS_B_LATE_DONE)) ∧
  (∀ (j : Job) s, s.disp.jobs = [j] → j.place = .held j.worker → j.op = none → s.rd WK_STATUS_TIMEOUT_EXP 0 j.worker ≠ 0 →
    j.dispTick + 2 ^ min 20 (s.rd WK_STATUS_TIMEOUT_EXP 0 j.worker) ≤ s.now →
    Runs (.dispatchJobTimeout j.slot) s fun t =>
      t.disp.jobs = [{ j with place := .done, status := Code.ABORTED, result := 0 }] ∧
        t.rd DP_COUNTS_JOB_TIMEOUTS = min (s.rd DP_COUNTS_JOB_TIMEOUTS + 1) DP_COUNTS_JOB_TIMEOUTS.max ∧
        t.rd WK_COUNTS_TIMEOUTS 0 j.worker = min (s.rd WK_COUNTS_TIMEOUTS 0 j.worker + 1) WK_COUNTS_TIMEOUTS.max) ∧
  (∀ (j : Job) upset s, s.disp.jobs = [j] → j.place = .done → j.flow = none → j.doneAddr = 0 → s.noc.xacts = [] → waitingHearth s = none →
    Runs (.jobRelease ⟨j.slot, upset⟩) s fun t => t.disp.jobs = [] ∧ sget 0 t.disp.gens j.slot = sget 0 s.disp.gens j.slot + 1) ∧
  (∀ (sid : MessageFrom) (w : Fin 128) (w0 w1 w2 w3 : Nat) q s, 4 ≤ w.val → sid.sid < 0xF000 → portOfStream s sid.sid = some q → (countMessage sid (0x20000 + 32 * w.val) 32 s).1 = false → workerState s w = 0 →
    bit w0 0 = true → bits w0 3 1 = 0 → bits w0 63 40 = 0 → bit w0 8 = false → bits w1 63 38 = 0 → w1 % 1024 = 0 →
    w0 < 2 ^ 64 → w1 < 2 ^ 64 → w2 < 256 → w3 = 0 →
    Runs (.workerRegistration sid w w0 w1 w2 w3) s fun t =>
      t.rd WK_CFG_STATE 0 w = 1 ∧ t.rd WK_CFG_DEPTH_M1 0 w = bits w0 7 4 ∧ t.rd WK_CFG_CLASS 0 w = bits w0 23 8 ∧
        t.rd WK_STATUS_EPOCH 0 w = bits w0 39 24 ∧ t.rd WK_STATUS_TIMEOUT_EXP 0 w = w2 ∧
        t.rd WK_MAILBOX_ADDR 0 w = w1 % 2 ^ WK_MAILBOX_ADDR.width) ∧
  (∀ (sid : MessageFrom) (w : Fin 128) (w0 w1 w2 w3 : Nat) q s, 4 ≤ w.val → sid.sid < 0xF000 → portOfStream s sid.sid = some q → (countMessage sid (0x20000 + 32 * w.val) 32 s).1 = false → workerState s w = 1 →
    q = workerPort s w → bit w0 0 = true → bits w0 3 1 = 0 → bits w0 63 40 = 0 → bit w0 8 = false → bits w1 63 38 = 0 →
    w0 < 2 ^ 64 → w1 < 2 ^ 64 → w2 < 256 → w3 = 0 →
    Runs (.workerRegistration sid w w0 w1 w2 w3) s fun t =>
      t.rd WK_CFG_STATE 0 w = 1 ∧ t.rd WK_CFG_DEPTH_M1 0 w = s.rd WK_CFG_DEPTH_M1 0 w ∧
        t.rd WK_CFG_CLASS 0 w = bits w0 23 8 ∧ t.rd WK_STATUS_EPOCH 0 w = bits w0 39 24 ∧
        t.rd WK_STATUS_TIMEOUT_EXP 0 w = w2 ∧ t.rd WK_MAILBOX_ADDR 0 w = s.rd WK_MAILBOX_ADDR 0 w) ∧
  (∀ (sid : MessageFrom) (w : Fin 128) (w0 w1 w2 w3 : Nat) q s, 4 ≤ w.val → sid.sid < 0xF000 → portOfStream s sid.sid = some q → (countMessage sid (0x20000 + 32 * w.val) 32 s).1 = false → workerState s w = 1 →
    q = workerPort s w → bit w0 0 = false → bits w0 3 1 = 0 → bits w0 63 40 = 0 → bit w0 8 = false → bits w1 63 38 = 0 →
    w0 < 2 ^ 64 → w1 < 2 ^ 64 → w2 < 256 → w3 = 0 →
    Runs (.workerRegistration sid w w0 w1 w2 w3) s fun t =>
      t.rd WK_CFG_STATE 0 w = if heldBy s w = [] then 0 else 2) ∧
  (∀ (sid : MessageFrom) (w : Fin 128) w0 w1 w2 w3 s,
    (bits (w0 % 2 ^ 64) 3 1 ≠ 0 ∨ bits (w0 % 2 ^ 64) 63 40 ≠ 0 ∨ w3 % 2 ^ 64 ≠ 0 ∨ (4 ≤ w.val ∧ 0xF000 ≤ sid.sid) ∨
      (w.val < 4 ∧ sid.sid < 0xF000)) →
    exec (.workerRegistration sid w w0 w1 w2 w3) s = .next (countMessage sid (0x20000 + 32 * w.val) 32 s).2)

/-- A kick begins a core's period again; an expiry restarts a core that has not kicked, and leaves one that has; a
restarted core runs again, waits in Standby, or halts while the cores are held. An admitted scratchpad access
reads or writes its bytes, through an alias it sets or clears bits; one that no region admits completes REFUSED
and is counted and logged; one outside the windows completes OUT_OF_RANGE. A test step takes its block when it
is due, is late while another runs, and its end passes to the next block with a repair where it failed. A wipe
ends. -/
def Obligations.ManagementResults : Prop :=
  (∀ (c : Fin 4) s, coreState s c ≠ 3 →
    Runs (.watchdogKick c) s fun t =>
      sget 0 t.sp.frames c = (if s.offset = 0 then 1 else 0) ∧ sget 0 t.sp.restarts c = 0) ∧
  (∀ (c : Fin 4) s, s.offset = 0 → credited s = true → coreState s c = 0 → s.rd FI_CORE_INJECT_INJ_WATCHDOG = 0 → sget 0 s.sp.restarts c < 15 →
    2 ^ s.rd WD_CFG_WD_PERIOD_EXP + 1 ≤ sget 0 s.sp.frames c → fwState s = 0 → s.disp.jobs = [] →
    Runs (.watchdogExpiry c) s fun t =>
      coreState t c = 2 ∧ sget 0 t.sp.frames c = 0 ∧ sget 0 t.sp.restarts c = sget 0 s.sp.restarts c + 1) ∧
  (∀ (c : Fin 4) s, (s.offset ≠ 0 ∨ (s.rd FI_CORE_INJECT_INJ_WATCHDOG = 0 ∧ sget 0 s.sp.frames c ≤ 2 ^ s.rd WD_CFG_WD_PERIOD_EXP)) →
    exec (.watchdogExpiry c) s = .next s) ∧
  (∀ (c : Fin 4) s, coreState s c = 2 → Runs (.coreRestartDone c) s fun t =>
      coreState t c = if s.flag DB_STATUS_CORES_HALTED then 4 else if s.rd PW_STATUS_DEVICE_STATE = 2 then 1 else 0) ∧
  (∀ sid (addr n : Nat) core0 data s, padFree s = true → addr + n ≤ 0x780000 → regionAdmits s 3 addr n SP_RGN_PERM_R = true → s.sp.bad = [] →
    s.rd SP_INJECT_INJ_ECC1 = 0 → s.rd SP_INJECT_INJ_ECC2 = 0 →
    Runs (.scratchpadAccess 3 sid addr n 0 core0 data) s fun t =>
      t.sp.answers.head? = some (3, Code.OK, memBytes s.scratch addr n) ∧ t.scratch = s.scratch) ∧
  (∀ sid (addr n : Nat) core0 (data : List Byte) s, padFree s = true → addr + n ≤ 0x780000 → regionAdmits s 3 addr n SP_RGN_PERM_W = true → s.sp.bad = [] →
    s.rd SP_INJECT_INJ_ECC1 = 0 → s.rd SP_INJECT_INJ_ECC2 = 0 →
    (Runs (.scratchpadAccess 3 sid addr n 1 core0 data) s fun t =>
      t.sp.answers.head? = some (3, Code.OK, []) ∧ t.scratch = memWrBytes s.scratch addr (data.take n)) ∧
    (Runs (.scratchpadAccess 3 sid (0x800000 + addr) n 1 core0 data) s fun t =>
      t.scratch = memWrBytes s.scratch addr (List.zipWith (· ||| ·) (memBytes s.scratch addr n) (data.take n))) ∧
    Runs (.scratchpadAccess 3 sid (0x1000000 + addr) n 1 core0 data) s fun t =>
      t.scratch = memWrBytes s.scratch addr (List.zipWith (fun a b => a &&& ~~~b) (memBytes s.scratch addr n) (data.take n))) ∧
  (∀ sid (addr n : Nat) core0 data s, padFree s = true → addr + n ≤ 0x780000 → regionAdmits s 3 addr n SP_RGN_PERM_R = false →
    Runs (.scratchpadAccess 3 sid addr n 0 core0 data) s fun t =>
      t.sp.answers.head? = some (3, Code.REFUSED, List.replicate n 0) ∧
        t.rd SP_DENY_COUNT_DENIALS = (s.rd SP_DENY_COUNT_DENIALS + 1) % 2 ^ SP_DENY_COUNT_DENIALS.width ∧
        t.rd SP_DENY_LOG_OFFSET = addr % 2 ^ SP_DENY_LOG_OFFSET.width ∧ t.rd SP_DENY_LOG_CLASS = 3 ∧
        t.rd SP_DENY_LOG_STREAM_ID = sid % 2 ^ 16 ∧ t.rd SP_DENY_LOG_VALID = 1 ∧ t.scratch = s.scratch) ∧
  (∀ sid (addr n : Nat) core0 data s, padFree s = true → 0x780000 ≤ addr → 0 < n → addr + n ≤ 0x800000 → lifecycle s ≠ 1 →
    Runs (.scratchpadAccess 3 sid addr n 0 core0 data) s fun t =>
      t.sp.refused = s.sp.refused ++ [(3, s.cycle, n)] ∧ t.scratch = s.scratch ∧
        t.rd SP_DENY_COUNT_DENIALS = s.rd SP_DENY_COUNT_DENIALS) ∧
  (∀ (cls : Fin 4) sid (addr n : Nat) kind core0 data s, padFree s = true → (0x1800000 ≤ addr ∨ 0x800000 < addr % 0x800000 + n) →
    Runs (.scratchpadAccess cls sid addr n kind core0 data) s fun t =>
      t.sp.answers.head? = some (cls.val, Code.OUT_OF_RANGE, List.replicate n 0) ∧ t.scratch = s.scratch) ∧
  (∀ (cls : Fin 4) sid (addr n : Nat) core0 (data : List Byte) s, s.sp.queue = [] → s.cycle < s.sp.portTo →
    Runs (.scratchpadAccess cls sid addr n 1 core0 data) s fun t =>
      t.sp.queue = [{ cls := cls, sid := sid, addr := addr, bytes := n, kind := .write, core0 := core0, data := data }] ∧
        t.sp.answers = s.sp.answers ∧ t.scratch = s.scratch) ∧
  (∀ fails s, s.flag SP_CTRL_TEST_ENABLE = true → s.sp.test = none → stepDue s = true ∨ s.sp.stepLate = true → s.sp.skip = [] →
    s.sp.bad = [] → s.rd SP_INJECT_INJ_MARCH = 0 →
    s.rd SP_INJECT_INJ_ECC1 = 0 → s.rd SP_INJECT_INJ_ECC2 = 0 →
    Runs (.testStep fails) s fun t =>
      t.sp.test = some (s.rd SP_TEST_POS_BLOCK, fails) ∧ t.rd SP_STATUS_TESTING = 1 ∧ t.scratch = s.scratch ∧
        (stepDue s = true → t.sp.stepAt = some s.now) ∧ t.sp.stepLate = false ∧
        (fails = true → t.rd SP_TEST_COUNTS_TEST_FAILS = min (s.rd SP_TEST_COUNTS_TEST_FAILS + 1) SP_TEST_COUNTS_TEST_FAILS.max)) ∧
  (∀ fails s, s.sp.stepLate = false → stepDue s = false → exec (.testStep fails) s = .next s) ∧
  (∀ fails s, s.flag SP_CTRL_TEST_ENABLE = true → s.sp.test.isSome = true → stepDue s = true →
    Runs (.testStep fails) s fun t =>
      t.rd SP_TEST_COUNTS_TEST_LATE = min (s.rd SP_TEST_COUNTS_TEST_LATE + 1) SP_TEST_COUNTS_TEST_LATE.max ∧
        t.sp = { s.sp with stepAt := some s.now, stepLate := true }) ∧
  (∀ b s, s.sp.test = some (b, false) →
    Runs .testStepEnd s fun t =>
      t.sp.test = none ∧ t.rd SP_STATUS_TESTING = 0 ∧ t.rd SP_TEST_POS_BLOCK = (b + 1) % 2 ^ SP_TEST_POS_BLOCK.width ∧
        (b = 2047 → t.rd SP_TEST_COUNTS_PASSES = min (s.rd SP_TEST_COUNTS_PASSES + 1) SP_TEST_COUNTS_PASSES.max)) ∧
  (∀ b s, s.sp.test = some (b, true) → s.rd SP_REPAIR_ENTRIES = 0 →
    Runs .testStepEnd s fun t =>
      t.sp.test = none ∧ t.rd SP_STATUS_REPAIRS_USED = 1 ∧
        t.rd SP_REPAIR_ENTRIES = (b + 0x8000) % 2 ^ SP_REPAIR_ENTRIES.width) ∧
  (∀ b s, s.sp.test = some (b, true) → 4 ≤ remaps s →
    Runs .testStepEnd s fun t => t.sp.test = none ∧ t.rd SP_STATUS_UNREPAIRED = 1 ∧ t.sp.skip = b :: s.sp.skip) ∧
  (∀ s, exec .emberWipeDone s = .next (s.wr SP_STATUS_WIPING 0))

/-- A window of a monitor in band lengthens its run and, when the run is long enough, judges the clock stable; one
out of band counts and ends the judgement; a disagreement puts the monitor in MON_FAULT; without a comparison
clock nothing is counted. An edge loss is a loss. A PLL that loses lock smoulders and coasts, and relocks when
its reference is stable. Ramps step and end. A trim window decides a bit of the search or confirms the code. A
channel enters self-refresh and returns to READY. -/
def Obligations.ClockResults : Prop :=
  (∀ (m : Fin 54) count bad s, comparison s m = none → exec (.monitorWindow m count bad) s = .next s) ∧
  (∀ (m : Fin 54) count comp s, comparison s m = some comp → (s.offset ≠ 0 ∨ s.clk.changed = []) →
    s.rd FI_CHECK_INJECT_INJ_MONITOR = 0 → s.mbit FI_MON_FAULT_MONITORS m = false →
    Runs (.monitorWindow m count true) s fun t => t.mbit FI_MON_FAULT_MONITORS m = true) ∧
  (∀ (m : Fin 54) count comp s, comparison s m = some comp → (s.offset ≠ 0 ∨ s.clk.changed = []) →
    s.rd FI_CHECK_INJECT_INJ_MONITOR = 0 → s.mbit FI_MON_FAULT_MONITORS m = false → s.rd CK_INJECT_INJ_LOSS = 0 →
    s.rd CK_INJECT_INJ_BAND = 0 → inBand s m comp count = true → m.val < 23 →
    Runs (.monitorWindow m count false) s fun t =>
      t.rd MON_STATUS_RUN 0 m = min (s.rd MON_STATUS_RUN 0 m + 1) MON_STATUS_RUN.max ∧
        t.rd MON_STATUS_ERR 0 m = windowErr s m comp count ∧ t.flag MON_STATUS_LOST 0 m = (count == 0) ∧
        (stable t m = true ↔ (stable s m = true ∨ max 1 (s.rd MON_CFG_K 0 m) ≤ t.rd MON_STATUS_RUN 0 m))) ∧
  (∀ (m : Fin 54) count comp s, comparison s m = some comp → (s.offset ≠ 0 ∨ s.clk.changed = []) →
    s.rd FI_CHECK_INJECT_INJ_MONITOR = 0 → s.mbit FI_MON_FAULT_MONITORS m = false → s.rd CK_INJECT_INJ_LOSS = 0 →
    inBand s m comp count = false →
    Runs (.monitorWindow m count false) s fun t =>
      t.rd MON_COUNTS_OUT_OF_BAND 0 m = min (s.rd MON_COUNTS_OUT_OF_BAND 0 m + 1) MON_COUNTS_OUT_OF_BAND.max ∧
        t.rd MON_STATUS_RUN 0 m = 0 ∧ stable t m = false) ∧
  (∀ (m : Fin 54) s, s.mbit FI_MON_FAULT_MONITORS m = false → s.flag MON_STATUS_LOST 0 m = false →
    Runs (.monitorEdgeLoss m) s fun t =>
      t.rd MON_STATUS_LOST 0 m = 1 ∧ stable t m = false ∧
        t.rd MON_COUNTS_LOSSES 0 m = min (s.rd MON_COUNTS_LOSSES 0 m + 1) MON_COUNTS_LOSSES.max) ∧
  (∀ (m : Fin 54) s, (s.mbit FI_MON_FAULT_MONITORS m = true ∨ s.flag MON_STATUS_LOST 0 m = true) →
    exec (.monitorEdgeLoss m) s = .next s) ∧
  (∀ (d : Fin 34) s, pllLocked s d = true →
    Runs (.pllLockLoss d) s fun t =>
      (t.pll d).phase = (if d.val = 0 ∧ (s.pll d).switching = true then .kindRelock else .coast) ∧
        (t.pll d).smoulder = true ∧ t.rd CK_COUNTS_SMOULDERS = min (s.rd CK_COUNTS_SMOULDERS + 1) CK_COUNTS_SMOULDERS.max ∧
        (d.val < 16 → t.rd CK_DOM_STATE 0 d = 2) ∧ (d.val = 0 → t.rd CK_STATUS_DEGRADED ≠ 0)) ∧
  (∀ (d : Fin 34) s, pllLocked s d = false → exec (.pllLockLoss d) s = .next s) ∧
  (∀ (d : Fin 34) s, stable s (refMonitor s d) = true → ((s.pll d).phase = .coast ∨ (s.pll d).phase = .held) →
    Runs (.pllRelock d) s fun t =>
      (t.pll d).phase = .judge ∧ t.rd MON_STATUS_STABLE 0 (vcoMonitor d) = 0 ∧ t.rd MON_STATUS_RUN 0 (vcoMonitor d) = 0) ∧
  (∀ (d : Fin 34) s, stable s (refMonitor s d) = false → exec (.pllRelock d) s = .next s) ∧
  (∀ (d : Fin 13) s, ((s.pll d).phase = .up ∧ (s.pll d).step < 16) ∨ ((s.pll d).phase = .kindUp ∧ (s.pll d).step < 16) →
    Runs (.rampStep d) s fun t => (t.pll d).step = (s.pll d).step + 1 ∧ (t.pll d).phase = (s.pll d).phase) ∧
  (∀ (d : Fin 13) s, ((s.pll d).phase = .down ∨ (s.pll d).phase = .kindDown) ∧ 1 < (s.pll d).step →
    Runs (.rampStep d) s fun t => (t.pll d).step = (s.pll d).step - 1 ∧ (t.pll d).phase = (s.pll d).phase) ∧
  (∀ (d : Fin 13) s, (s.pll d).phase = .down → (s.pll d).step ≤ 1 → d.val ≠ 0 →
    Runs (.rampStep d) s fun t => (t.pll d).phase = .held ∧ t.rd CK_DOM_STATE 0 d = 3) ∧
  (∀ (d : Fin 13) s, (s.pll d).phase = .up → (s.pll d).step = 16 →
    Runs (.rampEnd d) s fun t =>
      (t.pll d).phase = .run ∧ (t.pll d).switching = false ∧ t.rd CK_DOM_STATE 0 d = 0 ∧
        ((s.pll d).switching = true → t.rd CK_COUNTS_SWITCHES = min (s.rd CK_COUNTS_SWITCHES + 1) CK_COUNTS_SWITCHES.max) ∧
        (d.val = 0 → t.rd CK_STATUS_CORE_ON_CPLL = 1 ∧ t.rd CK_STATUS_DEGRADED = 0)) ∧
  (∀ count k s, trimUsable s = true → s.flag CK_KINDLING_TRIM_HOLD = false → s.clk.search = k + 1 →
    Runs (.trimWindow count) s fun t => t.clk.search = k ∧ t.clk.confirm = 0) ∧
  (∀ count s, trimUsable s = true → s.flag CK_KINDLING_TRIM_HOLD = false → s.clk.search = 0 → 3 ≤ s.clk.confirm →
    ((count * 30 : Nat) - (trimNominal s : Int)).natAbs * 1000 ≤ trimNominal s →
    Runs (.trimWindow count) s fun t => t.rd CK_KINDLING_TRIMMED = 1 ∧ t.rd CK_KINDLING_TRIM_CODE = s.rd CK_KINDLING_TRIM_CODE) ∧
  (∀ count s, trimUsable s = false → s.flag CK_KINDLING_TRIM_HOLD = false →
    Runs (.trimWindow count) s fun t => t.rd CK_KINDLING_TRIM_HOLD = 1) ∧
  (∀ (c : Fin 8) s, chanState s c = 2 → (ddr_ s c).parked &&& 3 ≠ 0 →
    Runs (.ddrSelfRefreshEntered c) s fun t => chanState t c = 3) ∧
  (∀ (c : Fin 8) s, chanState s c = 2 → (ddr_ s c).parked = 4 → portState s (portDdr c) ≠ 0 → (ddr_ s c).wb = [] →
    (∀ x ∈ s.noc.xacts, x.dst ≠ portDdr c) → (∀ r ∈ s.noc.revokes, r.1 ≠ portDdr c) →
    Runs (.ddrSelfRefreshEntered c) s fun t => chanState t c = 3 ∧ (ddr_ t c).rfm = []) ∧
  (∀ (c : Fin 8) s, chanState s c = 3 → (ddr_ s c).parked = 0 → s.flag CK_STATUS_DEGRADED = false →
    Runs (.selfRefreshExitDone c) s fun t => chanState t c = 2 ∧ (ddr_ t c).openAtTick = true ∧ (ddr_ t c).missed = []) ∧
  (∀ (c : Fin 8) s, (ddr_ s c).parked ≠ 0 ∨ s.flag CK_STATUS_DEGRADED = true → exec (.selfRefreshExitDone c) s = .next s)

/-- A request that fails its checks completes with its code, and one that passes waits. The check of the request at
the head completes ALREADY_DONE where nothing is to change, REFUSED under the first refuser of an entry,
INCONSISTENT where the device is not in Run (the model's reading, log entry 55), and else begins to change its
regions. A region whose bias has settled is in the state that the request names, or, where it leaves Damped and
has lines that run, ramps its clocks up. A drain not complete in time aborts the entry. -/
def Obligations.PowerResults : Prop :=
  (∀ (r : Fin 65) o (q : PwReq) s, Waits s r 0x60 o →
    q = ⟨r.val, o.idx, bits (o.word 2) 3 0, o.word 1 % 2 ^ 64, bits (o.word 3) 7 0, bits (o.word 3) 25 8⟩ →
    powerFields q = none → powerConditions s q = true →
    Runs (.powerRequest r) s fun t => Running t r o.idx ∧ t.pw.queue = s.pw.queue ++ [q]) ∧
  (∀ (r : Fin 65) o (q : PwReq) code fld s, r.val < 64 → Waits s r 0x60 o →
    q = ⟨r.val, o.idx, bits (o.word 2) 3 0, o.word 1 % 2 ^ 64, bits (o.word 3) 7 0, bits (o.word 3) 25 8⟩ →
    (powerFields q = some (code, fld) ∨ (powerFields q = none ∧ powerConditions s q = false ∧ code = Code.INCONSISTENT ∧ fld = 0)) →
    Runs (.powerRequest r) s fun t => Decided t r o.idx code fld ∧ t.pw = s.pw) ∧
  (∀ (q : PwReq) (rest : List PwReq) o s, s.pw.queue = q :: rest → s.pw.active = none → s.pw.headAt < s.now → regionsToChange s q = [] →
    chansToChange s q = [] → groupsToChange s q = [] → q.target ≠ 4 → deviceState s = 0 →
    (q.isEntry = true → refusers s q (regionsOf q.regions) (chansOf q.chans) = []) →
    q.ring < 64 → opAt s q.ring q.idx = some o → o.isOpen = true →
    Runs .powerCheck s fun t =>
      Decided t q.ring q.idx Code.ALREADY_DONE 0 ∧ t.pw.active = none ∧ t.pw.queue = rest) ∧
  (∀ (q : PwReq) (rest : List PwReq) c o s, s.pw.queue = q :: rest → s.pw.active = none → s.pw.headAt < s.now → q.isEntry = true → q.target ≠ 4 → deviceState s = 0 →
    (q.target ≤ 3 → ∀ k ∈ regionsToChange s q, pathOpen s q.target k = true) →
    (refusers s q (regionsOf q.regions) (chansOf q.chans)).head? = some c →
    q.ring < 64 → opAt s q.ring q.idx = some o → o.isOpen = true →
    Runs .powerCheck s fun t =>
      Decided t q.ring q.idx Code.REFUSED 0 ∧ t.pw.active = none ∧
        t.rd PW_COUNT_REFUSALS 0 c = min (s.rd PW_COUNT_REFUSALS 0 c + 1) PW_COUNT_REFUSALS.max ∧
        t.rd PW_LAST_REFUSER = c % 2 ^ PW_LAST_REFUSER.width ∧ t.rd PW_LAST_KIND = 0 ∧
        t.rd PW_LAST_TICK_TICK = s.now % 2 ^ 64) ∧
  (∀ (q : PwReq) (rest : List PwReq) o s, s.pw.queue = q :: rest → s.pw.active = none → s.pw.headAt < s.now → q.target ≠ 5 →
    deviceState s ≠ 0 → q.ring < 64 → opAt s q.ring q.idx = some o → o.isOpen = true →
    Runs .powerCheck s fun t =>
      Decided t q.ring q.idx Code.INCONSISTENT 0 ∧ t.pw.active = none ∧ t.pw.queue = rest) ∧
  (∀ (q : PwReq) (rest : List PwReq) s, s.pw.queue = q :: rest → s.pw.active = none → s.pw.headAt < s.now → q.target ≤ 3 → deviceState s = 0 →
    regionsToChange s q ≠ [] → (∀ k ∈ regionsToChange s q, pathOpen s q.target k = true) →
    (q.isEntry = true → refusers s q (regionsOf q.regions) (chansOf q.chans) = []) →
    Runs .powerCheck s fun t =>
      t.pw.active = some q ∧ t.pw.queue = rest ∧ t.pw.checkTick = s.now ∧ t.rd PW_STATUS_BUSY = 1 ∧
        ∀ k ∈ regionsToChange s q, pstate t k = 4) ∧
  (∀ (k : Fin 64) (q : PwReq) s, s.pw.active = some q → q.target ≤ 3 → s.pw.aborted = none → s.pw.step = .regions →
    k.val ∈ batchOf s → pstate s k = 4 → (s.region_ k).ramp = none →
    Runs (.biasSettledCmd k) s fun t =>
      if q.target < 2 ∧ (s.region_ k).stopped = true ∧ rampOver s k ⟨true, []⟩ = false then
        pstate t k = 4 ∧ (t.region_ k).stopped = false ∧ (t.region_ k).ramp = some ⟨true, []⟩
      else pstate t k = q.target ∧ (t.region_ k).ramp = none ∧ (q.target < 2 → (t.region_ k).stopped = false)) ∧
  (∀ (k : Fin 64) s, (s.region_ k).ramp.isSome = true → exec (.biasSettledCmd k) s = .next s) ∧
  (∀ (q : PwReq) s, s.pw.active = some q → q.isEntry = true → s.pw.aborted = none → s.pw.step = .drain →
    s.pw.checkTick + max 1 (s.rd PW_CTRL_DRAIN_FRAMES) ≤ s.now →
    Runs .powerDrainTimeout s fun t =>
      t.rd PW_COUNT_ABORTS 0 2 = min (s.rd PW_COUNT_ABORTS 0 2 + 1) PW_COUNT_ABORTS.max ∧ t.rd PW_LAST_REFUSER = 2 ∧
        t.rd PW_LAST_KIND = 1 ∧ t.rd PW_LAST_TARGET = q.target % 2 ^ PW_LAST_TARGET.width)

/-- A boundary instruction captures its cells and updates the boundary register, and one that takes the pins is
loaded as BYPASS while a reel engine is not IDLE. IDCODE, BYPASS and CFG_STATUS capture what the spec says; a
TAP reset selects IDCODE and returns the pins. CFG_IN starts a load and shifts into it. DBG_MEM and DBG_REG
perform their access, which completes later, and DBG_ATTACH its command; none acts where debug access is not
permitted. -/
def Obligations.TapResults : Prop :=
  (∀ s, Runs .tapReset s fun t => t.rd DB_STATUS_INSTRUCTION = 2 ∧ t.dbg.pins = 0) ∧
  (∀ (cells update : Nat) s, (∀ n : Fin 16, reelState s n = 0) →
    (Runs (.extest cells update) s fun t =>
      t.rd DB_STATUS_INSTRUCTION = 0 ∧ t.dbg.capture = cells ∧ t.dbg.boundary = update ∧ t.dbg.pins ≠ 0 ∧
        t.dbg.irCapture = irBits s) ∧
    (Runs (.extestPulse cells update) s fun t =>
      t.rd DB_STATUS_INSTRUCTION = 3 ∧ t.dbg.capture = cells ∧ t.dbg.boundary = update ∧ t.dbg.pins ≠ 0) ∧
    Runs (.extestTrain cells update) s fun t =>
      t.rd DB_STATUS_INSTRUCTION = 4 ∧ t.dbg.capture = cells ∧ t.dbg.boundary = update ∧ t.dbg.pins ≠ 0) ∧
  (∀ (cells update : Nat) s, (∃ n : Fin 16, reelState s n ≠ 0) →
    (Runs (.extest cells update) s fun t =>
      t.rd DB_STATUS_INSTRUCTION = 255 ∧ t.rd DB_STATUS_PIN_REFUSED = 1 ∧ t.dbg.boundary = s.dbg.boundary ∧ t.dbg.pins = 0) ∧
    (Runs (.extestPulse cells update) s fun t =>
      t.rd DB_STATUS_INSTRUCTION = 255 ∧ t.rd DB_STATUS_PIN_REFUSED = 1 ∧ t.dbg.boundary = s.dbg.boundary ∧ t.dbg.pins = 0) ∧
    (Runs (.extestTrain cells update) s fun t =>
      t.rd DB_STATUS_INSTRUCTION = 255 ∧ t.rd DB_STATUS_PIN_REFUSED = 1 ∧ t.dbg.boundary = s.dbg.boundary ∧ t.dbg.pins = 0) ∧
    (Runs .clamp s fun t => t.rd DB_STATUS_INSTRUCTION = 255 ∧ t.rd DB_STATUS_PIN_REFUSED = 1 ∧ t.dbg.pins = 0) ∧
    Runs .highz s fun t => t.rd DB_STATUS_INSTRUCTION = 255 ∧ t.rd DB_STATUS_PIN_REFUSED = 1 ∧ t.dbg.pins = 0) ∧
  (∀ (cells update : Nat) s,
    Runs (.samplePreload cells update) s fun t =>
      t.rd DB_STATUS_INSTRUCTION = 1 ∧ t.dbg.capture = cells ∧ t.dbg.boundary = update ∧ t.dbg.pins = 0) ∧
  (∀ s, (∀ n : Fin 16, reelState s n = 0) →
    (Runs .clamp s fun t => t.rd DB_STATUS_INSTRUCTION = 5 ∧ t.dbg.capture = 0 ∧ t.dbg.pins ≠ 0) ∧
    Runs .highz s fun t => t.rd DB_STATUS_INSTRUCTION = 6 ∧ t.dbg.capture = 0 ∧ t.dbg.pins ≠ 0) ∧
  (∀ s, Runs .idcode s fun t =>
      t.rd DB_STATUS_INSTRUCTION = 2 ∧ t.dbg.capture = s.rd GL_IDCODE_IDCODE ∧ t.dbg.pins = 0) ∧
  (∀ (op : Fin 256) s, op.val ∉ tapOpcodes →
    Runs (.bypass op) s fun t => t.rd DB_STATUS_INSTRUCTION = op ∧ t.dbg.capture = 0) ∧
  (∀ (b : List (Fin 256)) s, cfgBusy s = true →
    Runs (.cfgIn true b) s fun t =>
      t.rd DB_STATUS_INSTRUCTION = 0x10 ∧ t.dbg.jtagRefused = true ∧ t.rd CFG_STATUS_STATE = s.rd CFG_STATUS_STATE) ∧
  (∀ (b : List (Fin 256)) s, cfgBusy s = false →
    Runs (.cfgIn true b) s fun t =>
      t.rd DB_STATUS_INSTRUCTION = 0x10 ∧ t.dbg.jtagRefused = false ∧ cfgState t = 1 ∧ t.cfg.src = 3) ∧
  (∀ (b : List (Fin 256)) s, s.rd DB_STATUS_INSTRUCTION = 0x10 → cfgState s ≠ 0 → s.cfg.src = 3 →
    Runs (.cfgIn false b) s fun t => t.cfg.jtag = s.cfg.jtag ++ b.map fun x => BitVec.ofNat 8 x.val) ∧
  (∀ s, Runs .cfgStatus s fun t =>
      t.rd DB_STATUS_INSTRUCTION = 0x11 ∧
        t.dbg.capture = cfgState s + (if s.dbg.jtagRefused then 8 else 0) + s.rd CFG_RESULT_CODE * 65536) ∧
  (∀ dr s, debugPermitted s = false →
    (Runs (.dbgMem dr) s fun t => t.dbg.capture = Code.LIFECYCLE ∧ t.dbg.mem = s.dbg.mem) ∧
    (Runs (.dbgReg dr) s fun t => t.dbg.capture = Code.LIFECYCLE ∧ t.dbg.reg = s.dbg.reg) ∧
    Runs (.dbgAttach dr) s fun t => t.dbg.capture = Code.LIFECYCLE ∧ t.dbg.tapCode = s.dbg.tapCode) ∧
  (∀ dr s, debugPermitted s = true → s.dbg.mem.flight = none → bit dr 0 = false → bits dr 2 1 = 1 →
    bits dr 39 3 * 8 + 8 ≤ 0x780000 → regionAdmits s 2 (8 * bits dr 39 3) 8 SP_RGN_PERM_R = true → s.sp.bad = [] →
    s.rd SP_INJECT_INJ_ECC1 = 0 → s.rd SP_INJECT_INJ_ECC2 = 0 →
    Runs (.dbgMem dr) s fun t =>
      t.dbg.mem.flight = some (Code.OK, leNat (byteVals (memBytes s.scratch (8 * bits dr 39 3) 8)), s.cycle)) ∧
  (∀ dr s, debugPermitted s = true → s.dbg.mem.flight.isSome = true →
    Runs (.dbgMem dr) s fun t => t.dbg.mem.missed = true ∧ t.dbg.mem.flight = s.dbg.mem.flight) ∧
  (∀ c v due (mem : Bool) s, due ≤ s.cycle → s.dbg.mem.fetch = none → s.dbg.mem.parked = none →
    (if mem then s.dbg.mem.flight else s.dbg.reg.flight) = some (c, v, due) →
    Runs (.debugAccessDone mem) s fun t =>
      if mem then t.dbg.mem.flight = none ∧ t.dbg.mem.code = c ∧ t.dbg.mem.data = v
      else t.dbg.reg.flight = none ∧ t.dbg.reg.code = c ∧ t.dbg.reg.data = v) ∧
  (∀ dr s (u : State), debugPermitted s = true → s.dbg.reg.flight = none → u = captureDr (s.dbg.reg.captureCode + s.dbg.reg.data % 2 ^ 32 * 2 ^ 25) (loadIr 0x20 s) →
    Runs (.dbgReg dr) s fun t =>
      t.dbg.reg.flight = some (if bit dr 0 then ((busWrite 2 (bits dr 24 1 * 4) 4 (bits dr 56 25) u).1, 0, s.cycle)
        else (Code.OK, debugWord u (bits dr 24 1 * 4), s.cycle))) ∧
  (∀ dr s, debugPermitted s = true → s.dbg.da = none → bit dr 31 = true → bits dr 5 0 < 64 → bits dr 19 16 = 5 →
    bits dr 14 8 < 96 → bits dr 27 20 = 7 → daClosed s (bits dr 5 0) = false →
    Runs (.dbgAttach dr) s fun t =>
      t.dbg.tapCode = Code.OK ∧ t.dbg.tapData = s.rd SL_ITER_ITER (bits dr 5 0 * 96 + bits dr 14 8)) ∧
  (∀ dr s, debugPermitted s = true → bit dr 31 = false →
    Runs (.dbgAttach dr) s fun t => t.dbg.tapCode = s.dbg.tapCode ∧ t.rd DB_STATUS_INSTRUCTION = 0x22)

/-- A request of run control waits for its latch, and none is taken where debug access is not permitted. HALT is
latched in RUN, RESUME leads back to RUN, and HALTED is entered at a tick with every reel at rest. Setting
SEQ_ARM starts the sequencer at state 0 with its counts cleared. The commands on a slice attach, detach, halt,
step, release, read and write it; a command for a soft core runs until the fabric ends it or 65,536 core cycles
pass. -/
def Obligations.RunControlResults : Prop :=
  (∀ s, debugPermitted s = true →
    (Runs .dbHalt s fun t => t.dbg.halt = some (s.dbg.halt.getD s.now)) ∧
    (Runs .dbResume s fun t => t.dbg.resume = some (s.dbg.resume.getD s.now)) ∧
    Runs .dbStep s fun t => t.dbg.step = some (s.dbg.step.getD s.now)) ∧
  (∀ s, debugPermitted s = false → exec .dbHalt s = .next s ∧ exec .dbResume s = .next s ∧ exec .dbStep s = .next s) ∧
  (∀ x s, s.rd DB_STATUS_RC_STATE = 0 → s.dbg.halt = some x → x < s.now →
    Runs .runControlLatch s fun t => t.rd DB_STATUS_RC_STATE = 1 ∧ t.dbg.halt = none ∧ t.dbg.latched = s.now) ∧
  (∀ x s, (s.rd DB_STATUS_RC_STATE = 1 ∨ s.rd DB_STATUS_RC_STATE = 2) → s.dbg.resume = some x → x < s.now →
    Runs .runControlLatch s fun t => t.rd DB_STATUS_RC_STATE = 0 ∧ t.dbg.resume = none) ∧
  (∀ x s, s.rd DB_STATUS_RC_STATE = 2 → s.rd ALIGN_STATUS_STATE ≠ 4 → s.dbg.resume = none → s.dbg.step = some x → x < s.now →
    Runs .runControlLatch s fun t => t.rd DB_STATUS_RC_STATE = 3 ∧ t.dbg.step = none) ∧
  (∀ s, s.rd DB_STATUS_RC_STATE = 1 → s.offset = 0 → s.dbg.latched < s.now → reelsDown s = true →
    (anyDraining s = false ∨ s.dbg.latched + max 1 (s.rd DB_CTRL_HALT_WAIT) ≤ s.now) →
    Runs .haltedEntry s fun t =>
      t.rd DB_STATUS_RC_STATE = 2 ∧ t.rd DB_HALT_TICK_TICK = s.now % 2 ^ 64 ∧
        t.rd DB_STATUS_DRAIN_INCOMPLETE = if anyDraining s then 1 else s.rd DB_STATUS_DRAIN_INCOMPLETE) ∧
  (∀ on s, debugPermitted s = true →
    Runs (.seqArm on) s fun t =>
      t.flag DB_CTRL_SEQ_ARM = on ∧
        (on = true → s.flag DB_CTRL_SEQ_ARM = false → t.rd DB_STATUS_SEQ_STATE = 0 ∧ ∀ j : Fin 4, t.rd SQ_COUNT_HITS 0 j = 0)) ∧
  (∀ (k : Fin 64) (g : Fin 128) s, debugPermitted s = true → s.dbg.da = none → g.val < 96 → daClosed s k = false →
    (Runs (.daAttach k g) s fun t =>
      t.mbit DA_ATTACHED_REGIONS k = true ∧ (k.val, g.val) ∈ t.dbg.attached ∧ t.rd DA_STATUS_CODE = Code.OK ∧
        t.rd DA_STATUS_BUSY = 0) ∧
    (Runs (.daDetach k g) s fun t =>
      (k.val, g.val) ∉ t.dbg.attached ∧ t.rd DA_STATUS_CODE = Code.OK ∧ t.rd SL_STATUS_STATE (k * 96 + g) ≠ 5 ∧
        t.mbit DA_ATTACHED_REGIONS k = t.dbg.attached.any (·.1 == k.val)) ∧
    (Runs (.daHalt k g) s fun t =>
      t.rd DA_STATUS_CODE = Code.OK ∧
        t.rd SL_STATUS_STATE (k * 96 + g) = if s.rd SL_STATUS_STATE (k * 96 + g) = 1 then 5 else s.rd SL_STATUS_STATE (k * 96 + g)) ∧
    (Runs (.daRelease k g) s fun t =>
      t.rd DA_STATUS_CODE = Code.OK ∧
        t.rd SL_STATUS_STATE (k * 96 + g) = if s.rd SL_STATUS_STATE (k * 96 + g) = 5 then 1 else s.rd SL_STATUS_STATE (k * 96 + g)) ∧
    (Runs (.daStep k g) s fun t =>
      t.rd DA_STATUS_CODE = Code.OK ∧ (s.rd SL_STATUS_STATE (k * 96 + g) = 5 → t.rd SL_STATUS_STATE (k * 96 + g) ≠ 1)) ∧
    (Runs (.daRead k g 7) s fun t =>
      t.rd DA_STATUS_CODE = Code.OK ∧ t.rd DA_DATA_DATA = s.rd SL_ITER_ITER (k * 96 + g) % 2 ^ 64) ∧
    (Runs (.daRead k g 8) s fun t => t.rd DA_STATUS_CODE = Code.OUT_OF_RANGE ∧ t.rd DA_DATA_DATA = s.rd DA_DATA_DATA) ∧
    Runs (.daWrite k g 0) s fun t =>
      if s.rd SL_STATUS_STATE (k * 96 + g) = 5 then
        (t.slice_ (k * 96 + g)).acc0 = toSigned 48 (s.rd DA_DATA_DATA) ∧ t.rd DA_STATUS_CODE = Code.OK
      else t.rd DA_STATUS_CODE = Code.BUSY) ∧
  (∀ (k : Fin 64) (g : Fin 128) s, debugPermitted s = true → s.dbg.da = none → 103 < g.val →
    Runs (.daHalt k g) s fun t => t.rd DA_STATUS_CODE = Code.OUT_OF_RANGE ∧ t.rd DA_STATUS_BUSY = 0) ∧
  (∀ (k : Fin 64) (g : Fin 128) s, debugPermitted s = true → s.dbg.da = none → g.val < 104 → daClosed s k = true →
    Runs (.daHalt k g) s fun t => t.rd DA_STATUS_CODE = Code.DOMAIN_CLOSED ∧ t.rd DA_STATUS_BUSY = 0) ∧
  (∀ (k : Fin 64) (g : Fin 128) s, debugPermitted s = true → s.dbg.da = none → 96 ≤ g.val → g.val ≤ 103 → daClosed s k = false →
    Runs (.daHalt k g) s fun t =>
      t.dbg.da = some ⟨k.val, g.val, 2, 0, s.rd DA_DATA_DATA, false, s.cycle⟩ ∧ t.rd DA_STATUS_BUSY = 1 ∧ (k.val, g.val) ∈ t.dbg.coreHalt) ∧
  (∀ (code : Fin 65536) data (r : DaRun) s, s.dbg.da = some r →
    Runs (.daAck code data) s fun t =>
      t.dbg.da = none ∧
        if r.tap then t.dbg.tapCode = code.val ∧ (r.op = 5 → t.dbg.tapData = data)
        else t.rd DA_STATUS_CODE = code ∧ t.rd DA_STATUS_BUSY = 0 ∧ (r.op = 5 → t.rd DA_DATA_DATA = data % 2 ^ 64)) ∧
  (∀ (r : DaRun) s, s.dbg.da = some r → r.tap = false → r.since + 65536 ≤ s.cycle →
    Runs .daTimeout s fun t => t.dbg.da = none ∧ t.rd DA_STATUS_CODE = Code.ABORTED ∧ t.rd DA_STATUS_BUSY = 0) ∧
  (∀ s, s.dbg.da = none → exec .daTimeout s = .next s ∧ ∀ code data, exec (.daAck code data) s = .next s)

/-- A write of 1 to an injection bit that INJ_PERMIT and the lifecycle state permit arms it: the bit reads 1, for
every action but the two that are performed as they are armed (INJ_DELAY and the tamper sensors). INJ_LOCK and
INJ_SLIP are performed at once on a lane that holds block lock, or that can slip. -/
def Obligations.InjectionArms : Prop :=
  (∀ (n : Fin 16) v s, permitted s 0 = true → bits v 8 8 ≠ 0 →
    Runs (.injDisagree n v) s fun t => t.rd CB_INJECT_INJ_DISAGREE n = (s.rd CB_INJECT_INJ_DISAGREE n ||| bits v 8 8) % 2 ^ 1) ∧
  (∀ (n : Fin 64) v s, permitted s 1 = true → bits v 8 8 ≠ 0 →
    Runs (.injTemp n v) s fun t => t.rd RG_INJECT_INJ_TEMP n = (s.rd RG_INJECT_INJ_TEMP n ||| bits v 8 8) % 2 ^ 1) ∧
  (∀ (n : Fin 64) v s, permitted s 1 = true → bits v 9 9 ≠ 0 →
    Runs (.injBias n v) s fun t => t.rd RG_INJECT_INJ_BIAS n = (s.rd RG_INJECT_INJ_BIAS n ||| bits v 9 9) % 2 ^ 1) ∧
  (∀ (n : Fin 64) v s, permitted s 1 = true → bits v 10 10 ≠ 0 →
    Runs (.injBclk n v) s fun t => t.rd RG_INJECT_INJ_BCLK n = (s.rd RG_INJECT_INJ_BCLK n ||| bits v 10 10) % 2 ^ 1) ∧
  (∀ (k : Fin 64) (g : Fin 96) v s, permitted s 2 = true → bits v 0 0 ≠ 0 →
    Runs (.injOpmem k g v) s fun t => t.rd SL_INJECT_INJ_OPMEM (k * 96 + g) = (s.rd SL_INJECT_INJ_OPMEM (k * 96 + g) ||| bits v 0 0) % 2 ^ 1) ∧
  (∀ (k : Fin 64) (g : Fin 96) v s, permitted s 2 = true → bits v 1 1 ≠ 0 →
    Runs (.injProg k g v) s fun t => t.rd SL_INJECT_INJ_PROG (k * 96 + g) = (s.rd SL_INJECT_INJ_PROG (k * 96 + g) ||| bits v 1 1) % 2 ^ 1) ∧
  (∀ v s, permitted s 3 = true → bits v 0 0 ≠ 0 →
    Runs (.injAuth v) s fun t => t.rd CFG_INJECT_INJ_AUTH = (s.rd CFG_INJECT_INJ_AUTH ||| bits v 0 0) % 2 ^ 1) ∧
  (∀ v s, permitted s 3 = true → bits v 1 1 ≠ 0 →
    Runs (.injCheck v) s fun t => t.rd CFG_INJECT_INJ_CHECK = (s.rd CFG_INJECT_INJ_CHECK ||| bits v 1 1) % 2 ^ 1) ∧
  (∀ v s, permitted s 4 = true → bits v 0 0 ≠ 0 →
    Runs (.injSingle v) s fun t => t.rd SCRUB_INJECT_INJ_SINGLE = (s.rd SCRUB_INJECT_INJ_SINGLE ||| bits v 0 0) % 2 ^ 1) ∧
  (∀ v s, permitted s 4 = true → bits v 1 1 ≠ 0 →
    Runs (.injDouble v) s fun t => t.rd SCRUB_INJECT_INJ_DOUBLE = (s.rd SCRUB_INJECT_INJ_DOUBLE ||| bits v 1 1) % 2 ^ 1) ∧
  (∀ (n : Fin 120) v s, permitted s 5 = true → bits v 4 4 ≠ 0 →
    Runs (.injParity n v) s fun t => t.rd NR_INJECT_INJ_PARITY n = (s.rd NR_INJECT_INJ_PARITY n ||| bits v 4 4) % 2 ^ 1) ∧
  (∀ (n : Fin 120) v s, permitted s 5 = true → bits v 5 5 ≠ 0 →
    Runs (.nrInjTimeout n v) s fun t => t.rd NR_INJECT_INJ_TIMEOUT n = (s.rd NR_INJECT_INJ_TIMEOUT n ||| bits v 5 5) % 2 ^ 1) ∧
  (∀ (n : Fin 8) v s, permitted s 6 = true → bits v 0 0 ≠ 0 →
    Runs (.injCe n v) s fun t => t.rd DC_INJECT_INJ_CE n = (s.rd DC_INJECT_INJ_CE n ||| bits v 0 0) % 2 ^ 1) ∧
  (∀ (n : Fin 8) v s, permitted s 6 = true → bits v 1 1 ≠ 0 →
    Runs (.injUe n v) s fun t => t.rd DC_INJECT_INJ_UE n = (s.rd DC_INJECT_INJ_UE n ||| bits v 1 1) % 2 ^ 1) ∧
  (∀ (n : Fin 8) v s, permitted s 6 = true → bits v 2 2 ≠ 0 →
    Runs (.injRefmiss n v) s fun t => t.rd DC_INJECT_INJ_REFMISS n = (s.rd DC_INJECT_INJ_REFMISS n ||| bits v 2 2) % 2 ^ 1) ∧
  (∀ v s, permitted s 7 = true → bits v 0 0 ≠ 0 →
    Runs (.injTag v) s fun t => t.rd EN_INJECT_INJ_TAG = (s.rd EN_INJECT_INJ_TAG ||| bits v 0 0) % 2 ^ 1) ∧
  (∀ v s, permitted s 7 = true → bits v 1 1 ≠ 0 →
    Runs (.injRefuse v) s fun t => t.rd EN_INJECT_INJ_REFUSE = (s.rd EN_INJECT_INJ_REFUSE ||| bits v 1 1) % 2 ^ 1) ∧
  (∀ (n : Fin 18) v s, permitted s 8 = true → bits v 3 3 ≠ 0 →
    Runs (.injBip n v) s fun t => t.rd LG_INJECT_INJ_BIP n = (s.rd LG_INJECT_INJ_BIP n ||| bits v 3 3) % 2 ^ 1) ∧
  (∀ (n : Fin 18) v s, permitted s 8 = true → bits v 4 4 ≠ 0 →
    Runs (.injLock n v) s fun t =>
      if s.flag LN_STATUS_BLOCK_LOCK n (bits v 2 0) then t.rd LG_INJECT_INJ_LOCK n = 0 ∧ t.rd LN_STATUS_BLOCK_LOCK n (bits v 2 0) = 0
      else t.rd LG_INJECT_INJ_LOCK n = (s.rd LG_INJECT_INJ_LOCK n ||| bits v 4 4) % 2 ^ 1) ∧
  (∀ (n : Fin 18) v s, permitted s 8 = true → bits v 5 5 ≠ 0 →
    Runs (.injSlip n v) s fun t =>
      if slips s n (bits v 2 0) then
        t.rd LG_INJECT_INJ_SLIP n = 0 ∧ t.rd LG_COUNTS_SLIPS n = min (s.rd LG_COUNTS_SLIPS n + 1) LG_COUNTS_SLIPS.max
      else t.rd LG_INJECT_INJ_SLIP n = (s.rd LG_INJECT_INJ_SLIP n ||| bits v 5 5) % 2 ^ 1) ∧
  (∀ v s, permitted s 9 = true → bits v 8 8 ≠ 0 →
    Runs (.injCrc v) s fun t => t.rd MS_INJECT_INJ_CRC = (s.rd MS_INJECT_INJ_CRC ||| bits v 8 8) % 2 ^ 1) ∧
  (∀ v s, permitted s 9 = true → bits v 9 9 ≠ 0 →
    Runs (.injAckDrop v) s fun t => t.rd MS_INJECT_INJ_ACK_DROP = (s.rd MS_INJECT_INJ_ACK_DROP ||| bits v 9 9) % 2 ^ 1) ∧
  (∀ v s, permitted s 9 = true → bits v 10 10 ≠ 0 →
    Runs (.injTimeMiss v) s fun t => t.rd MS_INJECT_INJ_TIME_MISS = (s.rd MS_INJECT_INJ_TIME_MISS ||| bits v 10 10) % 2 ^ 1) ∧
  (∀ v s, permitted s 10 = true → bits v 8 8 ≠ 0 →
    Runs (.injFetch v) s fun t => t.rd HI_INJECT_INJ_FETCH = (s.rd HI_INJECT_INJ_FETCH ||| bits v 8 8) % 2 ^ 1) ∧
  (∀ v s, permitted s 10 = true → bits v 9 9 ≠ 0 →
    Runs (.injDoorbell v) s fun t => t.rd HI_INJECT_INJ_DOORBELL = (s.rd HI_INJECT_INJ_DOORBELL ||| bits v 9 9) % 2 ^ 1) ∧
  (∀ v s, permitted s 11 = true → bits v 7 7 ≠ 0 →
    Runs (.dpInjTimeout v) s fun t => t.rd DP_INJECT_INJ_TIMEOUT = (s.rd DP_INJECT_INJ_TIMEOUT ||| bits v 7 7) % 2 ^ 1) ∧
  (∀ v s, permitted s 11 = true → bits v 8 8 ≠ 0 →
    Runs (.injLost v) s fun t => t.rd DP_INJECT_INJ_LOST = (s.rd DP_INJECT_INJ_LOST ||| bits v 8 8) % 2 ^ 1) ∧
  (∀ v s, permitted s 12 = true → bits v 0 0 ≠ 0 →
    Runs (.injEcc1 v) s fun t => t.rd SP_INJECT_INJ_ECC1 = (s.rd SP_INJECT_INJ_ECC1 ||| bits v 0 0) % 2 ^ 1) ∧
  (∀ v s, permitted s 12 = true → bits v 1 1 ≠ 0 →
    Runs (.injEcc2 v) s fun t => t.rd SP_INJECT_INJ_ECC2 = (s.rd SP_INJECT_INJ_ECC2 ||| bits v 1 1) % 2 ^ 1) ∧
  (∀ v s, permitted s 12 = true → bits v 2 2 ≠ 0 →
    Runs (.injMarch v) s fun t => t.rd SP_INJECT_INJ_MARCH = (s.rd SP_INJECT_INJ_MARCH ||| bits v 2 2) % 2 ^ 1) ∧
  (∀ v s, permitted s 13 = true → bits v 6 6 ≠ 0 →
    Runs (.injLoss v) s fun t => t.rd CK_INJECT_INJ_LOSS = (s.rd CK_INJECT_INJ_LOSS ||| bits v 6 6) % 2 ^ 1) ∧
  (∀ v s, permitted s 13 = true → bits v 7 7 ≠ 0 →
    Runs (.injBand v) s fun t => t.rd CK_INJECT_INJ_BAND = (s.rd CK_INJECT_INJ_BAND ||| bits v 7 7) % 2 ^ 1) ∧
  (∀ v s, permitted s 14 = true → bits v 0 0 ≠ 0 →
    Runs (.injDrain v) s fun t => t.rd PW_INJECT_INJ_DRAIN = (s.rd PW_INJECT_INJ_DRAIN ||| bits v 0 0) % 2 ^ 1) ∧
  (∀ v s, permitted s 16 = true → bits v 0 0 ≠ 0 →
    Runs (.injOverrun v) s fun t => t.rd FI_TICK_INJECT_INJ_OVERRUN = (s.rd FI_TICK_INJECT_INJ_OVERRUN ||| bits v 0 0) % 2 ^ 1) ∧
  (∀ v s, permitted s 16 = true → bits v 1 1 ≠ 0 →
    Runs (.injSyncMiss v) s fun t => t.rd FI_TICK_INJECT_INJ_SYNC_MISS = (s.rd FI_TICK_INJECT_INJ_SYNC_MISS ||| bits v 1 1) % 2 ^ 1) ∧
  (∀ v s, permitted s 17 = true → bits v 4 4 ≠ 0 →
    Runs (.injUnderrun v) s fun t => t.rd FI_REEL_INJECT_INJ_UNDERRUN = (s.rd FI_REEL_INJECT_INJ_UNDERRUN ||| bits v 4 4) % 2 ^ 1) ∧
  (∀ v s, permitted s 17 = true → bits v 5 5 ≠ 0 →
    Runs (.injFormat v) s fun t => t.rd FI_REEL_INJECT_INJ_FORMAT = (s.rd FI_REEL_INJECT_INJ_FORMAT ||| bits v 5 5) % 2 ^ 1) ∧
  (∀ v s, permitted s 17 = true → bits v 6 6 ≠ 0 →
    Runs (.injSplice v) s fun t => t.rd FI_REEL_INJECT_INJ_SPLICE = (s.rd FI_REEL_INJECT_INJ_SPLICE ||| bits v 6 6) % 2 ^ 1) ∧
  (∀ v s, permitted s 18 = true → bits v 11 11 ≠ 0 →
    Runs (.injCmpCheck v) s fun t => t.rd FI_CHECK_INJECT_INJ_CMP_CHECK = (s.rd FI_CHECK_INJECT_INJ_CMP_CHECK ||| bits v 11 11) % 2 ^ 1) ∧
  (∀ v s, permitted s 18 = true → bits v 12 12 ≠ 0 →
    Runs (.injDlyCheck v) s fun t => t.rd FI_CHECK_INJECT_INJ_DLY_CHECK = (s.rd FI_CHECK_INJECT_INJ_DLY_CHECK ||| bits v 12 12) % 2 ^ 1) ∧
  (∀ v s, permitted s 18 = true → bits v 13 13 ≠ 0 →
    Runs (.injMonitor v) s fun t => t.rd FI_CHECK_INJECT_INJ_MONITOR = (s.rd FI_CHECK_INJECT_INJ_MONITOR ||| bits v 13 13) % 2 ^ 1) ∧
  (∀ v s, permitted s 18 = true → bits v 14 14 ≠ 0 →
    Runs (.fiInjSensor v) s fun t => t.rd FI_CHECK_INJECT_INJ_SENSOR = (s.rd FI_CHECK_INJECT_INJ_SENSOR ||| bits v 14 14) % 2 ^ 1) ∧
  (∀ v s, permitted s 19 = true → bits v 2 2 ≠ 0 →
    Runs (.injWatchdog v) s fun t => t.rd FI_CORE_INJECT_INJ_WATCHDOG = (s.rd FI_CORE_INJECT_INJ_WATCHDOG ||| bits v 2 2) % 2 ^ 1) ∧
  (∀ v s, permitted s 20 = true → bits v 8 8 ≠ 0 →
    Runs (.injSchConflict v) s fun t => t.rd FI_MISC_INJECT_INJ_SCH_CONFLICT = (s.rd FI_MISC_INJECT_INJ_SCH_CONFLICT ||| bits v 8 8) % 2 ^ 1) ∧
  (∀ v s, permitted s 20 = true → bits v 9 9 ≠ 0 →
    Runs (.injMr4 v) s fun t => t.rd FI_MISC_INJECT_INJ_MR4 = (s.rd FI_MISC_INJECT_INJ_MR4 ||| bits v 9 9) % 2 ^ 1) ∧
  (∀ v s, permitted s 20 = true → bits v 10 10 ≠ 0 →
    Runs (.injRfmFull v) s fun t => t.rd FI_MISC_INJECT_INJ_RFM_FULL = (s.rd FI_MISC_INJECT_INJ_RFM_FULL ||| bits v 10 10) % 2 ^ 1) ∧
  (∀ v s, permitted s 20 = true → bits v 11 11 ≠ 0 →
    Runs (.injDeskew v) s fun t => t.rd FI_MISC_INJECT_INJ_DESKEW = (s.rd FI_MISC_INJECT_INJ_DESKEW ||| bits v 11 11) % 2 ^ 1) ∧
  (∀ v s, permitted s 20 = true → bits v 12 12 ≠ 0 →
    Runs (.injTrainTimeout v) s fun t => t.rd FI_MISC_INJECT_INJ_TRAIN_TIMEOUT = (s.rd FI_MISC_INJECT_INJ_TRAIN_TIMEOUT ||| bits v 12 12) % 2 ^ 1) ∧
  (∀ v s, permitted s 20 = true → bits v 13 13 ≠ 0 →
    Runs (.injSlow v) s fun t => t.rd FI_MISC_INJECT_INJ_SLOW = (s.rd FI_MISC_INJECT_INJ_SLOW ||| bits v 13 13) % 2 ^ 1)

/-- A write of 1 to an injection bit that is not permitted leaves the bit, counts DISCARDED and records the
register's offset, for every action. -/
def Obligations.InjectionDiscards : Prop :=
  (∀ (n : Fin 16) v s, permitted s 0 = false → bits v 8 8 ≠ 0 → s.rd FI_STATUS_DISCARDED < 65535 →
    Runs (.injDisagree n v) s fun t =>
      t.rd CB_INJECT_INJ_DISAGREE n = s.rd CB_INJECT_INJ_DISAGREE n ∧ s.rd FI_STATUS_DISCARDED < t.rd FI_STATUS_DISCARDED ∧
        t.rd FI_LAST_DISCARD_OFFSET = ((rowOf CB_INJECT_INJ_DISAGREE).elim 0 fun r => r.offsetOf n 0) % 2 ^ FI_LAST_DISCARD_OFFSET.width) ∧
  (∀ (n : Fin 16) v s, permitted s 0 = false → bits v 9 9 ≠ 0 → s.rd FI_STATUS_DISCARDED < 65535 →
    Runs (.injDelay n v) s fun t =>
      t.rd CB_INJECT_INJ_DELAY n = s.rd CB_INJECT_INJ_DELAY n ∧ s.rd FI_STATUS_DISCARDED < t.rd FI_STATUS_DISCARDED ∧
        t.rd FI_LAST_DISCARD_OFFSET = ((rowOf CB_INJECT_INJ_DELAY).elim 0 fun r => r.offsetOf n 0) % 2 ^ FI_LAST_DISCARD_OFFSET.width) ∧
  (∀ (n : Fin 64) v s, permitted s 1 = false → bits v 8 8 ≠ 0 → s.rd FI_STATUS_DISCARDED < 65535 →
    Runs (.injTemp n v) s fun t =>
      t.rd RG_INJECT_INJ_TEMP n = s.rd RG_INJECT_INJ_TEMP n ∧ s.rd FI_STATUS_DISCARDED < t.rd FI_STATUS_DISCARDED ∧
        t.rd FI_LAST_DISCARD_OFFSET = ((rowOf RG_INJECT_INJ_TEMP).elim 0 fun r => r.offsetOf n 0) % 2 ^ FI_LAST_DISCARD_OFFSET.width) ∧
  (∀ (n : Fin 64) v s, permitted s 1 = false → bits v 9 9 ≠ 0 → s.rd FI_STATUS_DISCARDED < 65535 →
    Runs (.injBias n v) s fun t =>
      t.rd RG_INJECT_INJ_BIAS n = s.rd RG_INJECT_INJ_BIAS n ∧ s.rd FI_STATUS_DISCARDED < t.rd FI_STATUS_DISCARDED ∧
        t.rd FI_LAST_DISCARD_OFFSET = ((rowOf RG_INJECT_INJ_BIAS).elim 0 fun r => r.offsetOf n 0) % 2 ^ FI_LAST_DISCARD_OFFSET.width) ∧
  (∀ (n : Fin 64) v s, permitted s 1 = false → bits v 10 10 ≠ 0 → s.rd FI_STATUS_DISCARDED < 65535 →
    Runs (.injBclk n v) s fun t =>
      t.rd RG_INJECT_INJ_BCLK n = s.rd RG_INJECT_INJ_BCLK n ∧ s.rd FI_STATUS_DISCARDED < t.rd FI_STATUS_DISCARDED ∧
        t.rd FI_LAST_DISCARD_OFFSET = ((rowOf RG_INJECT_INJ_BCLK).elim 0 fun r => r.offsetOf n 0) % 2 ^ FI_LAST_DISCARD_OFFSET.width) ∧
  (∀ (k : Fin 64) (g : Fin 96) v s, permitted s 2 = false → bits v 0 0 ≠ 0 → s.rd FI_STATUS_DISCARDED < 65535 →
    Runs (.injOpmem k g v) s fun t =>
      t.rd SL_INJECT_INJ_OPMEM (k * 96 + g) = s.rd SL_INJECT_INJ_OPMEM (k * 96 + g) ∧ s.rd FI_STATUS_DISCARDED < t.rd FI_STATUS_DISCARDED ∧
        t.rd FI_LAST_DISCARD_OFFSET = ((rowOf SL_INJECT_INJ_OPMEM).elim 0 fun r => r.offsetOf (k * 96 + g) 0) % 2 ^ FI_LAST_DISCARD_OFFSET.width) ∧
  (∀ (k : Fin 64) (g : Fin 96) v s, permitted s 2 = false → bits v 1 1 ≠ 0 → s.rd FI_STATUS_DISCARDED < 65535 →
    Runs (.injProg k g v) s fun t =>
      t.rd SL_INJECT_INJ_PROG (k * 96 + g) = s.rd SL_INJECT_INJ_PROG (k * 96 + g) ∧ s.rd FI_STATUS_DISCARDED < t.rd FI_STATUS_DISCARDED ∧
        t.rd FI_LAST_DISCARD_OFFSET = ((rowOf SL_INJECT_INJ_PROG).elim 0 fun r => r.offsetOf (k * 96 + g) 0) % 2 ^ FI_LAST_DISCARD_OFFSET.width) ∧
  (∀ v s, permitted s 3 = false → bits v 0 0 ≠ 0 → s.rd FI_STATUS_DISCARDED < 65535 →
    Runs (.injAuth v) s fun t =>
      t.rd CFG_INJECT_INJ_AUTH = s.rd CFG_INJECT_INJ_AUTH ∧ s.rd FI_STATUS_DISCARDED < t.rd FI_STATUS_DISCARDED ∧
        t.rd FI_LAST_DISCARD_OFFSET = ((rowOf CFG_INJECT_INJ_AUTH).elim 0 fun r => r.offsetOf 0 0) % 2 ^ FI_LAST_DISCARD_OFFSET.width) ∧
  (∀ v s, permitted s 3 = false → bits v 1 1 ≠ 0 → s.rd FI_STATUS_DISCARDED < 65535 →
    Runs (.injCheck v) s fun t =>
      t.rd CFG_INJECT_INJ_CHECK = s.rd CFG_INJECT_INJ_CHECK ∧ s.rd FI_STATUS_DISCARDED < t.rd FI_STATUS_DISCARDED ∧
        t.rd FI_LAST_DISCARD_OFFSET = ((rowOf CFG_INJECT_INJ_CHECK).elim 0 fun r => r.offsetOf 0 0) % 2 ^ FI_LAST_DISCARD_OFFSET.width) ∧
  (∀ v s, permitted s 4 = false → bits v 0 0 ≠ 0 → s.rd FI_STATUS_DISCARDED < 65535 →
    Runs (.injSingle v) s fun t =>
      t.rd SCRUB_INJECT_INJ_SINGLE = s.rd SCRUB_INJECT_INJ_SINGLE ∧ s.rd FI_STATUS_DISCARDED < t.rd FI_STATUS_DISCARDED ∧
        t.rd FI_LAST_DISCARD_OFFSET = ((rowOf SCRUB_INJECT_INJ_SINGLE).elim 0 fun r => r.offsetOf 0 0) % 2 ^ FI_LAST_DISCARD_OFFSET.width) ∧
  (∀ v s, permitted s 4 = false → bits v 1 1 ≠ 0 → s.rd FI_STATUS_DISCARDED < 65535 →
    Runs (.injDouble v) s fun t =>
      t.rd SCRUB_INJECT_INJ_DOUBLE = s.rd SCRUB_INJECT_INJ_DOUBLE ∧ s.rd FI_STATUS_DISCARDED < t.rd FI_STATUS_DISCARDED ∧
        t.rd FI_LAST_DISCARD_OFFSET = ((rowOf SCRUB_INJECT_INJ_DOUBLE).elim 0 fun r => r.offsetOf 0 0) % 2 ^ FI_LAST_DISCARD_OFFSET.width) ∧
  (∀ (n : Fin 120) v s, permitted s 5 = false → bits v 4 4 ≠ 0 → s.rd FI_STATUS_DISCARDED < 65535 →
    Runs (.injParity n v) s fun t =>
      t.rd NR_INJECT_INJ_PARITY n = s.rd NR_INJECT_INJ_PARITY n ∧ s.rd FI_STATUS_DISCARDED < t.rd FI_STATUS_DISCARDED ∧
        t.rd FI_LAST_DISCARD_OFFSET = ((rowOf NR_INJECT_INJ_PARITY).elim 0 fun r => r.offsetOf n 0) % 2 ^ FI_LAST_DISCARD_OFFSET.width) ∧
  (∀ (n : Fin 120) v s, permitted s 5 = false → bits v 5 5 ≠ 0 → s.rd FI_STATUS_DISCARDED < 65535 →
    Runs (.nrInjTimeout n v) s fun t =>
      t.rd NR_INJECT_INJ_TIMEOUT n = s.rd NR_INJECT_INJ_TIMEOUT n ∧ s.rd FI_STATUS_DISCARDED < t.rd FI_STATUS_DISCARDED ∧
        t.rd FI_LAST_DISCARD_OFFSET = ((rowOf NR_INJECT_INJ_TIMEOUT).elim 0 fun r => r.offsetOf n 0) % 2 ^ FI_LAST_DISCARD_OFFSET.width) ∧
  (∀ (n : Fin 8) v s, permitted s 6 = false → bits v 0 0 ≠ 0 → s.rd FI_STATUS_DISCARDED < 65535 →
    Runs (.injCe n v) s fun t =>
      t.rd DC_INJECT_INJ_CE n = s.rd DC_INJECT_INJ_CE n ∧ s.rd FI_STATUS_DISCARDED < t.rd FI_STATUS_DISCARDED ∧
        t.rd FI_LAST_DISCARD_OFFSET = ((rowOf DC_INJECT_INJ_CE).elim 0 fun r => r.offsetOf n 0) % 2 ^ FI_LAST_DISCARD_OFFSET.width) ∧
  (∀ (n : Fin 8) v s, permitted s 6 = false → bits v 1 1 ≠ 0 → s.rd FI_STATUS_DISCARDED < 65535 →
    Runs (.injUe n v) s fun t =>
      t.rd DC_INJECT_INJ_UE n = s.rd DC_INJECT_INJ_UE n ∧ s.rd FI_STATUS_DISCARDED < t.rd FI_STATUS_DISCARDED ∧
        t.rd FI_LAST_DISCARD_OFFSET = ((rowOf DC_INJECT_INJ_UE).elim 0 fun r => r.offsetOf n 0) % 2 ^ FI_LAST_DISCARD_OFFSET.width) ∧
  (∀ (n : Fin 8) v s, permitted s 6 = false → bits v 2 2 ≠ 0 → s.rd FI_STATUS_DISCARDED < 65535 →
    Runs (.injRefmiss n v) s fun t =>
      t.rd DC_INJECT_INJ_REFMISS n = s.rd DC_INJECT_INJ_REFMISS n ∧ s.rd FI_STATUS_DISCARDED < t.rd FI_STATUS_DISCARDED ∧
        t.rd FI_LAST_DISCARD_OFFSET = ((rowOf DC_INJECT_INJ_REFMISS).elim 0 fun r => r.offsetOf n 0) % 2 ^ FI_LAST_DISCARD_OFFSET.width) ∧
  (∀ v s, permitted s 7 = false → bits v 0 0 ≠ 0 → s.rd FI_STATUS_DISCARDED < 65535 →
    Runs (.injTag v) s fun t =>
      t.rd EN_INJECT_INJ_TAG = s.rd EN_INJECT_INJ_TAG ∧ s.rd FI_STATUS_DISCARDED < t.rd FI_STATUS_DISCARDED ∧
        t.rd FI_LAST_DISCARD_OFFSET = ((rowOf EN_INJECT_INJ_TAG).elim 0 fun r => r.offsetOf 0 0) % 2 ^ FI_LAST_DISCARD_OFFSET.width) ∧
  (∀ v s, permitted s 7 = false → bits v 1 1 ≠ 0 → s.rd FI_STATUS_DISCARDED < 65535 →
    Runs (.injRefuse v) s fun t =>
      t.rd EN_INJECT_INJ_REFUSE = s.rd EN_INJECT_INJ_REFUSE ∧ s.rd FI_STATUS_DISCARDED < t.rd FI_STATUS_DISCARDED ∧
        t.rd FI_LAST_DISCARD_OFFSET = ((rowOf EN_INJECT_INJ_REFUSE).elim 0 fun r => r.offsetOf 0 0) % 2 ^ FI_LAST_DISCARD_OFFSET.width) ∧
  (∀ (n : Fin 18) v s, permitted s 8 = false → bits v 3 3 ≠ 0 → s.rd FI_STATUS_DISCARDED < 65535 →
    Runs (.injBip n v) s fun t =>
      t.rd LG_INJECT_INJ_BIP n = s.rd LG_INJECT_INJ_BIP n ∧ s.rd FI_STATUS_DISCARDED < t.rd FI_STATUS_DISCARDED ∧
        t.rd FI_LAST_DISCARD_OFFSET = ((rowOf LG_INJECT_INJ_BIP).elim 0 fun r => r.offsetOf n 0) % 2 ^ FI_LAST_DISCARD_OFFSET.width) ∧
  (∀ (n : Fin 18) v s, permitted s 8 = false → bits v 4 4 ≠ 0 → s.rd FI_STATUS_DISCARDED < 65535 →
    Runs (.injLock n v) s fun t =>
      t.rd LG_INJECT_INJ_LOCK n = s.rd LG_INJECT_INJ_LOCK n ∧ s.rd FI_STATUS_DISCARDED < t.rd FI_STATUS_DISCARDED ∧
        t.rd FI_LAST_DISCARD_OFFSET = ((rowOf LG_INJECT_INJ_LOCK).elim 0 fun r => r.offsetOf n 0) % 2 ^ FI_LAST_DISCARD_OFFSET.width) ∧
  (∀ (n : Fin 18) v s, permitted s 8 = false → bits v 5 5 ≠ 0 → s.rd FI_STATUS_DISCARDED < 65535 →
    Runs (.injSlip n v) s fun t =>
      t.rd LG_INJECT_INJ_SLIP n = s.rd LG_INJECT_INJ_SLIP n ∧ s.rd FI_STATUS_DISCARDED < t.rd FI_STATUS_DISCARDED ∧
        t.rd FI_LAST_DISCARD_OFFSET = ((rowOf LG_INJECT_INJ_SLIP).elim 0 fun r => r.offsetOf n 0) % 2 ^ FI_LAST_DISCARD_OFFSET.width) ∧
  (∀ v s, permitted s 9 = false → bits v 8 8 ≠ 0 → s.rd FI_STATUS_DISCARDED < 65535 →
    Runs (.injCrc v) s fun t =>
      t.rd MS_INJECT_INJ_CRC = s.rd MS_INJECT_INJ_CRC ∧ s.rd FI_STATUS_DISCARDED < t.rd FI_STATUS_DISCARDED ∧
        t.rd FI_LAST_DISCARD_OFFSET = ((rowOf MS_INJECT_INJ_CRC).elim 0 fun r => r.offsetOf 0 0) % 2 ^ FI_LAST_DISCARD_OFFSET.width) ∧
  (∀ v s, permitted s 9 = false → bits v 9 9 ≠ 0 → s.rd FI_STATUS_DISCARDED < 65535 →
    Runs (.injAckDrop v) s fun t =>
      t.rd MS_INJECT_INJ_ACK_DROP = s.rd MS_INJECT_INJ_ACK_DROP ∧ s.rd FI_STATUS_DISCARDED < t.rd FI_STATUS_DISCARDED ∧
        t.rd FI_LAST_DISCARD_OFFSET = ((rowOf MS_INJECT_INJ_ACK_DROP).elim 0 fun r => r.offsetOf 0 0) % 2 ^ FI_LAST_DISCARD_OFFSET.width) ∧
  (∀ v s, permitted s 9 = false → bits v 10 10 ≠ 0 → s.rd FI_STATUS_DISCARDED < 65535 →
    Runs (.injTimeMiss v) s fun t =>
      t.rd MS_INJECT_INJ_TIME_MISS = s.rd MS_INJECT_INJ_TIME_MISS ∧ s.rd FI_STATUS_DISCARDED < t.rd FI_STATUS_DISCARDED ∧
        t.rd FI_LAST_DISCARD_OFFSET = ((rowOf MS_INJECT_INJ_TIME_MISS).elim 0 fun r => r.offsetOf 0 0) % 2 ^ FI_LAST_DISCARD_OFFSET.width) ∧
  (∀ v s, permitted s 10 = false → bits v 8 8 ≠ 0 → s.rd FI_STATUS_DISCARDED < 65535 →
    Runs (.injFetch v) s fun t =>
      t.rd HI_INJECT_INJ_FETCH = s.rd HI_INJECT_INJ_FETCH ∧ s.rd FI_STATUS_DISCARDED < t.rd FI_STATUS_DISCARDED ∧
        t.rd FI_LAST_DISCARD_OFFSET = ((rowOf HI_INJECT_INJ_FETCH).elim 0 fun r => r.offsetOf 0 0) % 2 ^ FI_LAST_DISCARD_OFFSET.width) ∧
  (∀ v s, permitted s 10 = false → bits v 9 9 ≠ 0 → s.rd FI_STATUS_DISCARDED < 65535 →
    Runs (.injDoorbell v) s fun t =>
      t.rd HI_INJECT_INJ_DOORBELL = s.rd HI_INJECT_INJ_DOORBELL ∧ s.rd FI_STATUS_DISCARDED < t.rd FI_STATUS_DISCARDED ∧
        t.rd FI_LAST_DISCARD_OFFSET = ((rowOf HI_INJECT_INJ_DOORBELL).elim 0 fun r => r.offsetOf 0 0) % 2 ^ FI_LAST_DISCARD_OFFSET.width) ∧
  (∀ v s, permitted s 11 = false → bits v 7 7 ≠ 0 → s.rd FI_STATUS_DISCARDED < 65535 →
    Runs (.dpInjTimeout v) s fun t =>
      t.rd DP_INJECT_INJ_TIMEOUT = s.rd DP_INJECT_INJ_TIMEOUT ∧ s.rd FI_STATUS_DISCARDED < t.rd FI_STATUS_DISCARDED ∧
        t.rd FI_LAST_DISCARD_OFFSET = ((rowOf DP_INJECT_INJ_TIMEOUT).elim 0 fun r => r.offsetOf 0 0) % 2 ^ FI_LAST_DISCARD_OFFSET.width) ∧
  (∀ v s, permitted s 11 = false → bits v 8 8 ≠ 0 → s.rd FI_STATUS_DISCARDED < 65535 →
    Runs (.injLost v) s fun t =>
      t.rd DP_INJECT_INJ_LOST = s.rd DP_INJECT_INJ_LOST ∧ s.rd FI_STATUS_DISCARDED < t.rd FI_STATUS_DISCARDED ∧
        t.rd FI_LAST_DISCARD_OFFSET = ((rowOf DP_INJECT_INJ_LOST).elim 0 fun r => r.offsetOf 0 0) % 2 ^ FI_LAST_DISCARD_OFFSET.width) ∧
  (∀ v s, permitted s 12 = false → bits v 0 0 ≠ 0 → s.rd FI_STATUS_DISCARDED < 65535 →
    Runs (.injEcc1 v) s fun t =>
      t.rd SP_INJECT_INJ_ECC1 = s.rd SP_INJECT_INJ_ECC1 ∧ s.rd FI_STATUS_DISCARDED < t.rd FI_STATUS_DISCARDED ∧
        t.rd FI_LAST_DISCARD_OFFSET = ((rowOf SP_INJECT_INJ_ECC1).elim 0 fun r => r.offsetOf 0 0) % 2 ^ FI_LAST_DISCARD_OFFSET.width) ∧
  (∀ v s, permitted s 12 = false → bits v 1 1 ≠ 0 → s.rd FI_STATUS_DISCARDED < 65535 →
    Runs (.injEcc2 v) s fun t =>
      t.rd SP_INJECT_INJ_ECC2 = s.rd SP_INJECT_INJ_ECC2 ∧ s.rd FI_STATUS_DISCARDED < t.rd FI_STATUS_DISCARDED ∧
        t.rd FI_LAST_DISCARD_OFFSET = ((rowOf SP_INJECT_INJ_ECC2).elim 0 fun r => r.offsetOf 0 0) % 2 ^ FI_LAST_DISCARD_OFFSET.width) ∧
  (∀ v s, permitted s 12 = false → bits v 2 2 ≠ 0 → s.rd FI_STATUS_DISCARDED < 65535 →
    Runs (.injMarch v) s fun t =>
      t.rd SP_INJECT_INJ_MARCH = s.rd SP_INJECT_INJ_MARCH ∧ s.rd FI_STATUS_DISCARDED < t.rd FI_STATUS_DISCARDED ∧
        t.rd FI_LAST_DISCARD_OFFSET = ((rowOf SP_INJECT_INJ_MARCH).elim 0 fun r => r.offsetOf 0 0) % 2 ^ FI_LAST_DISCARD_OFFSET.width) ∧
  (∀ v s, permitted s 13 = false → bits v 6 6 ≠ 0 → s.rd FI_STATUS_DISCARDED < 65535 →
    Runs (.injLoss v) s fun t =>
      t.rd CK_INJECT_INJ_LOSS = s.rd CK_INJECT_INJ_LOSS ∧ s.rd FI_STATUS_DISCARDED < t.rd FI_STATUS_DISCARDED ∧
        t.rd FI_LAST_DISCARD_OFFSET = ((rowOf CK_INJECT_INJ_LOSS).elim 0 fun r => r.offsetOf 0 0) % 2 ^ FI_LAST_DISCARD_OFFSET.width) ∧
  (∀ v s, permitted s 13 = false → bits v 7 7 ≠ 0 → s.rd FI_STATUS_DISCARDED < 65535 →
    Runs (.injBand v) s fun t =>
      t.rd CK_INJECT_INJ_BAND = s.rd CK_INJECT_INJ_BAND ∧ s.rd FI_STATUS_DISCARDED < t.rd FI_STATUS_DISCARDED ∧
        t.rd FI_LAST_DISCARD_OFFSET = ((rowOf CK_INJECT_INJ_BAND).elim 0 fun r => r.offsetOf 0 0) % 2 ^ FI_LAST_DISCARD_OFFSET.width) ∧
  (∀ v s, permitted s 14 = false → bits v 0 0 ≠ 0 → s.rd FI_STATUS_DISCARDED < 65535 →
    Runs (.injDrain v) s fun t =>
      t.rd PW_INJECT_INJ_DRAIN = s.rd PW_INJECT_INJ_DRAIN ∧ s.rd FI_STATUS_DISCARDED < t.rd FI_STATUS_DISCARDED ∧
        t.rd FI_LAST_DISCARD_OFFSET = ((rowOf PW_INJECT_INJ_DRAIN).elim 0 fun r => r.offsetOf 0 0) % 2 ^ FI_LAST_DISCARD_OFFSET.width) ∧
  (∀ v s, permitted s 15 = false → bits v 3 0 ≠ 0 → s.rd FI_STATUS_DISCARDED < 65535 →
    Runs (.tpInjSensor v) s fun t =>
      t.rd TP_INJECT_INJ_SENSOR = s.rd TP_INJECT_INJ_SENSOR ∧ s.rd FI_STATUS_DISCARDED < t.rd FI_STATUS_DISCARDED ∧
        t.rd FI_LAST_DISCARD_OFFSET = ((rowOf TP_INJECT_INJ_SENSOR).elim 0 fun r => r.offsetOf 0 0) % 2 ^ FI_LAST_DISCARD_OFFSET.width) ∧
  (∀ v s, permitted s 16 = false → bits v 0 0 ≠ 0 → s.rd FI_STATUS_DISCARDED < 65535 →
    Runs (.injOverrun v) s fun t =>
      t.rd FI_TICK_INJECT_INJ_OVERRUN = s.rd FI_TICK_INJECT_INJ_OVERRUN ∧ s.rd FI_STATUS_DISCARDED < t.rd FI_STATUS_DISCARDED ∧
        t.rd FI_LAST_DISCARD_OFFSET = ((rowOf FI_TICK_INJECT_INJ_OVERRUN).elim 0 fun r => r.offsetOf 0 0) % 2 ^ FI_LAST_DISCARD_OFFSET.width) ∧
  (∀ v s, permitted s 16 = false → bits v 1 1 ≠ 0 → s.rd FI_STATUS_DISCARDED < 65535 →
    Runs (.injSyncMiss v) s fun t =>
      t.rd FI_TICK_INJECT_INJ_SYNC_MISS = s.rd FI_TICK_INJECT_INJ_SYNC_MISS ∧ s.rd FI_STATUS_DISCARDED < t.rd FI_STATUS_DISCARDED ∧
        t.rd FI_LAST_DISCARD_OFFSET = ((rowOf FI_TICK_INJECT_INJ_SYNC_MISS).elim 0 fun r => r.offsetOf 0 0) % 2 ^ FI_LAST_DISCARD_OFFSET.width) ∧
  (∀ v s, permitted s 17 = false → bits v 4 4 ≠ 0 → s.rd FI_STATUS_DISCARDED < 65535 →
    Runs (.injUnderrun v) s fun t =>
      t.rd FI_REEL_INJECT_INJ_UNDERRUN = s.rd FI_REEL_INJECT_INJ_UNDERRUN ∧ s.rd FI_STATUS_DISCARDED < t.rd FI_STATUS_DISCARDED ∧
        t.rd FI_LAST_DISCARD_OFFSET = ((rowOf FI_REEL_INJECT_INJ_UNDERRUN).elim 0 fun r => r.offsetOf 0 0) % 2 ^ FI_LAST_DISCARD_OFFSET.width) ∧
  (∀ v s, permitted s 17 = false → bits v 5 5 ≠ 0 → s.rd FI_STATUS_DISCARDED < 65535 →
    Runs (.injFormat v) s fun t =>
      t.rd FI_REEL_INJECT_INJ_FORMAT = s.rd FI_REEL_INJECT_INJ_FORMAT ∧ s.rd FI_STATUS_DISCARDED < t.rd FI_STATUS_DISCARDED ∧
        t.rd FI_LAST_DISCARD_OFFSET = ((rowOf FI_REEL_INJECT_INJ_FORMAT).elim 0 fun r => r.offsetOf 0 0) % 2 ^ FI_LAST_DISCARD_OFFSET.width) ∧
  (∀ v s, permitted s 17 = false → bits v 6 6 ≠ 0 → s.rd FI_STATUS_DISCARDED < 65535 →
    Runs (.injSplice v) s fun t =>
      t.rd FI_REEL_INJECT_INJ_SPLICE = s.rd FI_REEL_INJECT_INJ_SPLICE ∧ s.rd FI_STATUS_DISCARDED < t.rd FI_STATUS_DISCARDED ∧
        t.rd FI_LAST_DISCARD_OFFSET = ((rowOf FI_REEL_INJECT_INJ_SPLICE).elim 0 fun r => r.offsetOf 0 0) % 2 ^ FI_LAST_DISCARD_OFFSET.width) ∧
  (∀ v s, permitted s 18 = false → bits v 11 11 ≠ 0 → s.rd FI_STATUS_DISCARDED < 65535 →
    Runs (.injCmpCheck v) s fun t =>
      t.rd FI_CHECK_INJECT_INJ_CMP_CHECK = s.rd FI_CHECK_INJECT_INJ_CMP_CHECK ∧ s.rd FI_STATUS_DISCARDED < t.rd FI_STATUS_DISCARDED ∧
        t.rd FI_LAST_DISCARD_OFFSET = ((rowOf FI_CHECK_INJECT_INJ_CMP_CHECK).elim 0 fun r => r.offsetOf 0 0) % 2 ^ FI_LAST_DISCARD_OFFSET.width) ∧
  (∀ v s, permitted s 18 = false → bits v 12 12 ≠ 0 → s.rd FI_STATUS_DISCARDED < 65535 →
    Runs (.injDlyCheck v) s fun t =>
      t.rd FI_CHECK_INJECT_INJ_DLY_CHECK = s.rd FI_CHECK_INJECT_INJ_DLY_CHECK ∧ s.rd FI_STATUS_DISCARDED < t.rd FI_STATUS_DISCARDED ∧
        t.rd FI_LAST_DISCARD_OFFSET = ((rowOf FI_CHECK_INJECT_INJ_DLY_CHECK).elim 0 fun r => r.offsetOf 0 0) % 2 ^ FI_LAST_DISCARD_OFFSET.width) ∧
  (∀ v s, permitted s 18 = false → bits v 13 13 ≠ 0 → s.rd FI_STATUS_DISCARDED < 65535 →
    Runs (.injMonitor v) s fun t =>
      t.rd FI_CHECK_INJECT_INJ_MONITOR = s.rd FI_CHECK_INJECT_INJ_MONITOR ∧ s.rd FI_STATUS_DISCARDED < t.rd FI_STATUS_DISCARDED ∧
        t.rd FI_LAST_DISCARD_OFFSET = ((rowOf FI_CHECK_INJECT_INJ_MONITOR).elim 0 fun r => r.offsetOf 0 0) % 2 ^ FI_LAST_DISCARD_OFFSET.width) ∧
  (∀ v s, permitted s 18 = false → bits v 14 14 ≠ 0 → s.rd FI_STATUS_DISCARDED < 65535 →
    Runs (.fiInjSensor v) s fun t =>
      t.rd FI_CHECK_INJECT_INJ_SENSOR = s.rd FI_CHECK_INJECT_INJ_SENSOR ∧ s.rd FI_STATUS_DISCARDED < t.rd FI_STATUS_DISCARDED ∧
        t.rd FI_LAST_DISCARD_OFFSET = ((rowOf FI_CHECK_INJECT_INJ_SENSOR).elim 0 fun r => r.offsetOf 0 0) % 2 ^ FI_LAST_DISCARD_OFFSET.width) ∧
  (∀ v s, permitted s 19 = false → bits v 2 2 ≠ 0 → s.rd FI_STATUS_DISCARDED < 65535 →
    Runs (.injWatchdog v) s fun t =>
      t.rd FI_CORE_INJECT_INJ_WATCHDOG = s.rd FI_CORE_INJECT_INJ_WATCHDOG ∧ s.rd FI_STATUS_DISCARDED < t.rd FI_STATUS_DISCARDED ∧
        t.rd FI_LAST_DISCARD_OFFSET = ((rowOf FI_CORE_INJECT_INJ_WATCHDOG).elim 0 fun r => r.offsetOf 0 0) % 2 ^ FI_LAST_DISCARD_OFFSET.width) ∧
  (∀ v s, permitted s 20 = false → bits v 8 8 ≠ 0 → s.rd FI_STATUS_DISCARDED < 65535 →
    Runs (.injSchConflict v) s fun t =>
      t.rd FI_MISC_INJECT_INJ_SCH_CONFLICT = s.rd FI_MISC_INJECT_INJ_SCH_CONFLICT ∧ s.rd FI_STATUS_DISCARDED < t.rd FI_STATUS_DISCARDED ∧
        t.rd FI_LAST_DISCARD_OFFSET = ((rowOf FI_MISC_INJECT_INJ_SCH_CONFLICT).elim 0 fun r => r.offsetOf 0 0) % 2 ^ FI_LAST_DISCARD_OFFSET.width) ∧
  (∀ v s, permitted s 20 = false → bits v 9 9 ≠ 0 → s.rd FI_STATUS_DISCARDED < 65535 →
    Runs (.injMr4 v) s fun t =>
      t.rd FI_MISC_INJECT_INJ_MR4 = s.rd FI_MISC_INJECT_INJ_MR4 ∧ s.rd FI_STATUS_DISCARDED < t.rd FI_STATUS_DISCARDED ∧
        t.rd FI_LAST_DISCARD_OFFSET = ((rowOf FI_MISC_INJECT_INJ_MR4).elim 0 fun r => r.offsetOf 0 0) % 2 ^ FI_LAST_DISCARD_OFFSET.width) ∧
  (∀ v s, permitted s 20 = false → bits v 10 10 ≠ 0 → s.rd FI_STATUS_DISCARDED < 65535 →
    Runs (.injRfmFull v) s fun t =>
      t.rd FI_MISC_INJECT_INJ_RFM_FULL = s.rd FI_MISC_INJECT_INJ_RFM_FULL ∧ s.rd FI_STATUS_DISCARDED < t.rd FI_STATUS_DISCARDED ∧
        t.rd FI_LAST_DISCARD_OFFSET = ((rowOf FI_MISC_INJECT_INJ_RFM_FULL).elim 0 fun r => r.offsetOf 0 0) % 2 ^ FI_LAST_DISCARD_OFFSET.width) ∧
  (∀ v s, permitted s 20 = false → bits v 11 11 ≠ 0 → s.rd FI_STATUS_DISCARDED < 65535 →
    Runs (.injDeskew v) s fun t =>
      t.rd FI_MISC_INJECT_INJ_DESKEW = s.rd FI_MISC_INJECT_INJ_DESKEW ∧ s.rd FI_STATUS_DISCARDED < t.rd FI_STATUS_DISCARDED ∧
        t.rd FI_LAST_DISCARD_OFFSET = ((rowOf FI_MISC_INJECT_INJ_DESKEW).elim 0 fun r => r.offsetOf 0 0) % 2 ^ FI_LAST_DISCARD_OFFSET.width) ∧
  (∀ v s, permitted s 20 = false → bits v 12 12 ≠ 0 → s.rd FI_STATUS_DISCARDED < 65535 →
    Runs (.injTrainTimeout v) s fun t =>
      t.rd FI_MISC_INJECT_INJ_TRAIN_TIMEOUT = s.rd FI_MISC_INJECT_INJ_TRAIN_TIMEOUT ∧ s.rd FI_STATUS_DISCARDED < t.rd FI_STATUS_DISCARDED ∧
        t.rd FI_LAST_DISCARD_OFFSET = ((rowOf FI_MISC_INJECT_INJ_TRAIN_TIMEOUT).elim 0 fun r => r.offsetOf 0 0) % 2 ^ FI_LAST_DISCARD_OFFSET.width) ∧
  (∀ v s, permitted s 20 = false → bits v 13 13 ≠ 0 → s.rd FI_STATUS_DISCARDED < 65535 →
    Runs (.injSlow v) s fun t =>
      t.rd FI_MISC_INJECT_INJ_SLOW = s.rd FI_MISC_INJECT_INJ_SLOW ∧ s.rd FI_STATUS_DISCARDED < t.rd FI_STATUS_DISCARDED ∧
        t.rd FI_LAST_DISCARD_OFFSET = ((rowOf FI_MISC_INJECT_INJ_SLOW).elim 0 fun r => r.offsetOf 0 0) % 2 ^ FI_LAST_DISCARD_OFFSET.width)

/-- INJ_DELAY inverts bit 0 of the lane's working delay. A tamper sensor that fires, by itself or by injection, is
recorded, and the ember region is wiped; TP_MASK masks it in Developer only. A checker test in the last 16 core
cycles of a credited frame sets a failing checker's bit and clears a passing one's. -/
def Obligations.FaultResults : Prop :=
  (∀ (n : Fin 16) v s, permitted s 0 = true → bit v 9 = true → s.rd CB_INJECT_INJ_DELAY n = 0 →
    Runs (.injDelay n v) s fun t =>
      t.rd CB_INJECT_INJ_DELAY n = 0 ∧ (sget 0 (catch_ t n).workDiff (bits v CB_INJECT_LANE.hi CB_INJECT_LANE.lo)) =
        (sget 0 (catch_ s n).workDiff (bits v CB_INJECT_LANE.hi CB_INJECT_LANE.lo)) ^^^ 1) ∧
  (∀ v s, permitted s 15 = true → lifecycle s ≠ 1 → bits v 3 0 ≠ 0 → s.rd TP_INJECT_INJ_SENSOR = 0 →
    Runs (.tpInjSensor v) s fun t =>
      t.rd TP_INJECT_INJ_SENSOR = 0 ∧ t.rd TP_LAST_SENSORS = bits v 3 0 ∧ t.rd TP_LAST_TICK_TICK = s.now % 2 ^ 64 ∧
        t.rd SP_STATUS_WIPING ≠ 0) ∧
  (∀ (m : Fin 16) s, m ≠ 0 → lifecycle s ≠ 1 → s.boot.por = false →
    Runs (.tamperSensorFire m) s fun t =>
      t.rd TP_LAST_SENSORS = m ∧ t.rd TP_LAST_TICK_TICK = s.now % 2 ^ 64 ∧ t.rd SP_STATUS_WIPING ≠ 0 ∧
        (s.flag SP_STATUS_WIPING = false → memRd t.scratch 0x780000 8 = 0 ∧ ∀ k : Fin 64, keyState t k = 0)) ∧
  (∀ (m : Fin 16) s, s.boot.por = true ∨ (lifecycle s = 1 ∧ m.val - (m.val &&& s.rd TP_MASK_MASK) = 0) → exec (.tamperSensorFire m) s = .next s) ∧
  (∀ (n : Fin 16) cmp dly s, credited s = true → s.period ≤ s.offset + 16 → s.rd FI_CHECK_INJECT_INJ_CMP_CHECK = 0 →
    s.rd FI_CHECK_INJECT_INJ_DLY_CHECK = 0 →
    Runs (.checkerTest n cmp dly) s fun t =>
      t.mbit FI_CHECK_STATUS_CMP_LOST n = cmp ∧ t.mbit FI_CHECK_STATUS_DLY_LOST n = dly) ∧
  (∀ (n : Fin 16) cmp dly s, s.offset + 16 < s.period → exec (.checkerTest n cmp dly) s = .next s)

/-- DEVRST_N and a write of RS_CTRL with its key reset every register of the DEVICE, LINK and REGION domains and
start the boot stage at CLOCK; the POR domain, the fuses and host memory are kept. A write without the key
changes nothing. POR holds the device, its end samples BOOTSEL, and the STAT balls follow. PERST_N rises. (What
a DEVICE reset does to DRAM, which lies outside the device, is no clause.) -/
def Obligations.ResetResults : Prop :=
  (∀ s, s.boot.por = false →
    Runs .devrstN s fun t =>
      t.rd RS_STATUS_LAST_CAUSE = 2 ∧ t.rd RS_STATUS_DEVICE_RESETS = min 65535 (s.rd RS_STATUS_DEVICE_RESETS + 1) ∧
        bootStage t = 1 ∧ lifecycle t = s.rd LC_STATUS_FUSED_STATE % 2 ^ LC_STATUS_STATE.width ∧ t.hostMem = s.hostMem ∧ t.flash = s.flash ∧
        t.scratch = State.reset.scratch ∧ t.ops = [] ∧ t.boot.perst = s.boot.perst) ∧
  (∀ r f i j s, s.boot.por = false → r ∈ regTable → f ∈ r.fields → f.dom ≠ .por → f.acc ≠ .fuse →
    f.id ∉ [LC_STATUS_STATE.id, DB_STATUS_DEBUG_PERMITTED.id, DB_STATUS_INSTRUCTION.id, MS_STATUS_ADDR.id, MS_STATUS_ADDR_VALID.id,
      MS_STATUS_ADDR_LOCKED.id, RS_STATUS_LAST_CAUSE.id, RS_STATUS_DEVICE_RESETS.id] →
    Runs .devrstN s fun t => t.rd f i j = State.reset.rd f i j) ∧
  (∀ r f i j s, s.boot.por = false → r ∈ regTable → f ∈ r.fields → (f.dom = .por ∨ f.acc = .fuse) →
    f.id ∉ [LC_STATUS_STATE.id, DB_STATUS_DEBUG_PERMITTED.id, MS_STATUS_ADDR.id, MS_STATUS_ADDR_VALID.id,
      RS_STATUS_LAST_CAUSE.id, RS_STATUS_DEVICE_RESETS.id] →
    Runs .devrstN s fun t => t.rd f i j = s.rd f i j) ∧
  (∀ v s, s.boot.por = false → bits v 15 8 = 0xA5 → bit v 0 = true →
    Runs (.deviceResetCmd v) s fun t =>
      t.rd RS_STATUS_LAST_CAUSE = 3 ∧ t.rd RS_STATUS_DEVICE_RESETS = min 65535 (s.rd RS_STATUS_DEVICE_RESETS + 1) ∧
        bootStage t = 1 ∧ t.hostMem = s.hostMem) ∧
  (∀ v s, bits v 15 8 ≠ 0xA5 ∨ bit v 0 = false → exec (.deviceResetCmd v) s = .next s) ∧
  (∀ (b : Fin 3) s, Runs (.porAssert b) s fun t =>
      t.boot.por = true ∧ statBalls t = 0 ∧ t.dram = [] ∧ t.scratch = [] ∧ t.records = [] ∧ t.stage.fuses = [] ∧ t.hostMem = s.hostMem ∧ t.flash = s.flash) ∧
  (∀ (b : Fin 4) s, s.boot.por = true →
    Runs (.porEnd b) s fun t =>
      t.boot.por = false ∧ t.rd RS_STATUS_BOOTSEL = b ∧ t.rd RS_STATUS_LAST_CAUSE = 1 ∧ t.rd RS_STATUS_DEVICE_RESETS = 0 ∧
        bootStage t = 1 ∧ statBalls t = 1 ∧ t.hostMem = s.hostMem) ∧
  (∀ (b : Fin 4) s, s.boot.por = false → exec (.porEnd b) s = .next s) ∧
  (∀ s, exec .perstNRise s = .next (s.updBoot fun b => { b with perst := true }))

/-- Each stage, in its turn, does what the spec gives it and passes to the next: CLOCK trims the kindling
oscillator; DIRECTORY takes the boot directory or notes that there is none; IMAGE takes a runnable image or
waits for one; MEMORY ends the training of the channels; KEYS sets READY; FABRIC starts its stream and the
alternate; SERVICE registers the management cores and ends the boot. A stage beyond its bound resets the device. -/
def Obligations.BootResults : Prop :=
  (∀ (code : Fin 1024) s, inStage 1 s = true →
    (Runs (.bootClock true code) s fun t =>
      bootStage t = 2 ∧ t.rd CK_KINDLING_TRIM_CODE = code ∧ t.rd CK_KINDLING_TRIMMED = 1 ∧ stable t 0 = true ∧ stable t 22 = true ∧
        t.noc.opens = hardPorts) ∧
    exec (.bootClock false code) s = .next s) ∧
  (∀ s, inStage 2 s = true →
    Runs (.bootDirectory false) s fun t => bootStage t = 3 ∧ t.rd BOOT_STATUS_NO_DIRECTORY = 1 ∧ t.boot.dir = s.boot.dir) ∧
  (∀ d s, inStage 2 s = true → directoryAt s.flash 0 = some d →
    Runs (.bootDirectory true) s fun t => bootStage t = 3 ∧ t.rd BOOT_STATUS_DIR_COPY = 0 ∧ t.boot.dir = d) ∧
  (∀ d s, inStage 2 s = true → directoryAt s.flash 0 = none → directoryAt s.flash 0x10000 = some d →
    Runs (.bootDirectory true) s fun t => bootStage t = 3 ∧ t.rd BOOT_STATUS_DIR_COPY = 1 ∧ t.boot.dir = d) ∧
  (∀ (va vb : Fin 256) s, inStage 3 s = true → s.flag BOOT_STATUS_NO_DIRECTORY = false → s.flag FW_STATUS_VALID_A = false →
    s.flag FW_STATUS_VALID_B = false → s.rd LIMIT_STATUS_ANTI_ROLLBACK ≤ va.val →
    Runs (.bootImage true false va vb []) s fun t =>
      bootStage t = 4 ∧ t.rd FW_STATUS_VALID_A = 1 ∧ t.rd FW_STATUS_VERSION_A = va ∧ t.rd FW_STATUS_ACTIVE_SLOT = 0) ∧
  (∀ (va vb : Fin 256) s, inStage 3 s = true → s.flag BOOT_STATUS_NO_DIRECTORY = false → s.flag FW_STATUS_VALID_A = false →
    s.flag FW_STATUS_VALID_B = false → va.val < s.rd LIMIT_STATUS_ANTI_ROLLBACK →
    Runs (.bootImage true false va vb []) s fun t => bootStage t = 8 ∧ t.rd FW_STATUS_VALID_A = 0) ∧
  (∀ (c : Fin 8) (chan : ChannelBoot) s, inStage 4 s = true → s.boot.memory = false → chan.chan = c.val →
    Runs (.bootMemory [chan]) s fun t =>
      bootStage t = 4 ∧ chanState t c = 1 ∧ t.boot.memory = true ∧ ∀ d : Fin 8, d ≠ c → chanState t d = chanState s d) ∧
  (∀ (c : Fin 8) (chan : ChannelBoot) s, inStage 4 s = true → s.boot.memory = true → (∀ d : Fin 8, chanState s d = 1 ↔ d = c) →
    lifecycle s ≠ 1 → ddrFits chan.cfg = true → chan.chan = c.val → chan.outcome = 1 →
    Runs (.bootMemory [chan]) s fun t =>
      bootStage t = 5 ∧ chanState t c = 2 ∧ t.rd DC_CONFIG_RATE c = ddrRate s chan.cfg % 2 ^ DC_CONFIG_RATE.width ∧
        t.rd DC_CONFIG_RANKS c = bits chan.cfg 5 4 ∧ t.rd DC_STATUS_TRAIN_SOURCE c = 1 ∧
        ∀ d < 8, (ddr_ t d).openAtTick = true) ∧
  (∀ (c : Fin 8) (chan : ChannelBoot) s, inStage 4 s = true → s.boot.memory = true → (∀ d : Fin 8, chanState s d = 1 ↔ d = c) →
    lifecycle s ≠ 1 → chan.chan = c.val → chan.outcome = 3 →
    Runs (.bootMemory [chan]) s fun t =>
      bootStage t = 5 ∧ chanState t c = 4 ∧ t.rd DC_STATUS_FAIL_CAUSE c = 2) ∧
  (∀ s, inStage 5 s = true → s.flag SP_STATUS_WIPING = false →
    Runs .bootKeys s fun t => bootStage t = 6 ∧ t.rd HI_STATUS_READY = 1) ∧
  (∀ s, s.flag SP_STATUS_WIPING = true → exec .bootKeys s = .next s) ∧
  (∀ s, inStage 6 s = true → cfgState s = 0 → s.boot.tries = 0 →
    Runs .bootFabric s fun t =>
      if s.rd RS_STATUS_BOOTSEL ≠ 0 ∨ dirWord s 0x34 4 = 0 then bootStage t = 7
      else bootStage t = 6 ∧ t.boot.tries = 1 ∧ cfgState t = 1 ∧ t.cfg.addr = dirWord s 0x30 4 ∧ t.cfg.len = dirWord s 0x34 4) ∧
  (∀ s, inStage 6 s = true → cfgState s = 0 → s.boot.tries = 1 →
    Runs .bootFabric s fun t =>
      if s.rd CFG_RESULT_CODE = 0 then bootStage t = 7
      else if dirWord s 0x3C 4 = 0 then bootStage t = 7 ∧ t.rd BOOT_STATUS_CFG_FAILED = 1
      else t.rd BOOT_STATUS_CFG_ALT_USED = 1 ∧ t.boot.tries = 2 ∧ cfgState t = 1 ∧ t.cfg.addr = dirWord s 0x38 4) ∧
  (∀ s, inStage 6 s = true → cfgState s = 0 → 2 ≤ s.boot.tries →
    Runs .bootFabric s fun t => bootStage t = 7 ∧ (s.rd CFG_RESULT_CODE ≠ 0 → t.rd BOOT_STATUS_CFG_FAILED = 1)) ∧
  (∀ (exp timeout : Fin 21) s, inStage 7 s = true →
    Runs (.bootService exp timeout) s fun t =>
      t.rd HM_STATUS_BOOT_DONE = 1 ∧ t.rd WD_CFG_WD_PERIOD_EXP = max 4 exp.val ∧
        (∀ w : Fin 4, workerState t w = 1 ∧ t.rd WK_CFG_CLASS 0 w = 1 ∧ t.rd WK_STATUS_TIMEOUT_EXP 0 w = timeout) ∧
        t.rd SP_STATUS_EMBER_MODE = (if (lifecycle s = 1 ∨ lifecycle s = 2) ∧ closesEmber (s.rd DB_STATUS_INSTRUCTION) = false then 1 else 2)) ∧
  (∀ s, inStage 8 s = true → Runs .bootWaitImage s fun t => t.rd HI_STATUS_READY = 1 ∧ groupRole t 16 = 3 ∧ groupRole t 17 = 3) ∧
  (∀ s, s.boot.por = false → s.flag HM_STATUS_BOOT_DONE = false → bootStage s ≠ 8 →
    Runs .bootWatchdog s fun t => t.rd RS_STATUS_LAST_CAUSE = 4 ∧ bootStage t = 1) ∧
  (∀ s, s.flag HM_STATUS_BOOT_DONE = true → exec .bootWatchdog s = .next s)

/-- FW_WRITE programs a slot and completes OK with its version, or LIMIT_REACHED below the anti-rollback version;
one for the running slot is decided, its code left open by the spec. Each core restarts once its job is done,
and the last restart begins the self-check or ends the return. A self-check that passes makes the new slot
active, one that fails returns to the old one. A pending version commit becomes a job of PRIO 2, and the attempt
is made once a core holds it and the staging area is empty. -/
def Obligations.FirmwareResults : Prop :=
  (∀ (r : Fin 64) (v : Fin 256) o s, bootStage s ≠ 8 → hearthTake s r 0x70 = some o → opAt s r o.idx = some o → lifecycle s ≠ 4 →
    bits (o.word 1) 0 0 ≠ s.rd FW_STATUS_ACTIVE_SLOT →
    Runs (.fwWrite r true v) s fun t =>
      let ok := decide (s.rd LIMIT_STATUS_ANTI_ROLLBACK ≤ v.val)
      Decided t r o.idx (if ok then Code.OK else Code.LIMIT_REACHED) 0 ∧
        if bits (o.word 1) 0 0 = 0 then t.flag FW_STATUS_VALID_A = ok ∧ t.rd FW_STATUS_VERSION_A = v
        else t.flag FW_STATUS_VALID_B = ok ∧ t.rd FW_STATUS_VERSION_B = v) ∧
  (∀ (r : Fin 64) (v : Fin 256) o s, bootStage s = 8 → Waits s r 0x70 o → lifecycle s ≠ 4 → bits (o.word 1) 0 0 = 0 →
    s.rd LIMIT_STATUS_ANTI_ROLLBACK ≤ v.val →
    Runs (.fwWrite r true v) s fun t => Decided t r o.idx Code.OK 0 ∧ t.rd FW_STATUS_VALID_A = 1 ∧ bootStage t = 3) ∧
  (∀ (r : Fin 64) good (v : Fin 256) o s, bootStage s ≠ 8 → hearthTake s r 0x70 = some o → opAt s r o.idx = some o → lifecycle s ≠ 4 →
    bits (o.word 1) 0 0 = s.rd FW_STATUS_ACTIVE_SLOT →
    Runs (.fwWrite r good v) s fun t => (∃ code, Decided t r o.idx code 0) ∧ t.flash = s.flash) ∧
  (∀ (c : Fin 4) s, fwState s = 1 → s.boot.fwLeft = [c.val] → heldBy s c = [] → s.offset = 0 →
    Runs (.fwCoreRestart c) s fun t =>
      t.boot.fwLeft = [] ∧ coreState t c = 2 ∧ fwState t = (if s.boot.fwBack then 0 else 2) ∧ t.boot.fwBack = false) ∧
  (∀ (c : Fin 4) s, (fwState s ≠ 1 ∨ heldBy s c ≠ [] ∨ s.offset ≠ 0 ∨ c.val ∉ s.boot.fwLeft) → exec (.fwCoreRestart c) s = .next s) ∧
  (∀ s, fwState s = 2 → (∀ c : Fin 4, coreState s c ≠ 2) → s.boot.fwCommit = false →
    Runs (.fwSelfCheck true) s fun t =>
      fwState t = 0 ∧ t.rd FW_STATUS_ACTIVE_SLOT = s.boot.fwSlot % 2 ∧
        t.rd FW_COUNTS_SWITCHES = min (s.rd FW_COUNTS_SWITCHES + 1) FW_COUNTS_SWITCHES.max) ∧
  (∀ s, fwState s = 2 → (∀ c : Fin 4, coreState s c ≠ 2) →
    Runs (.fwSelfCheck false) s fun t =>
      fwState t = 1 ∧ t.boot.fwBack = true ∧ t.rd FW_COUNTS_REVERTS = min (s.rd FW_COUNTS_REVERTS + 1) FW_COUNTS_REVERTS.max ∧
        (if s.boot.fwSlot = 0 then t.rd FW_STATUS_VALID_A else t.rd FW_STATUS_VALID_B) = 0) ∧
  (∀ (j : Job) s, s.flag FW_STATUS_COMMIT_PENDING = true → stageState s = 0 →
    (s.disp.jobs.find? fun j => j.op == some commitJob && j.place != .done) = some j → j.place = .held j.worker →
    Runs .fwCommitRetry s fun t =>
      t.rd FW_STATUS_COMMIT_PENDING = 0 ∧ stageState t = 2 ∧ t.flag PF_STATE_OWNER = true ∧ (t.stage.items.map (·.type)) = [0x0B]) ∧
  (∀ (j : Job) s, s.flag FW_STATUS_COMMIT_PENDING = true →
    (s.disp.jobs.find? fun j => j.op == some commitJob && j.place != .done) = some j → j.place ≠ .held j.worker →
    exec .fwCommitRetry s = .next s) ∧
  (∀ s, s.flag FW_STATUS_COMMIT_PENDING = true → (s.disp.jobs.find? fun j => j.op == some commitJob && j.place != .done) = none →
    hearthRoom s = true →
    Runs .fwCommitRetry s fun t => t.flag FW_STATUS_COMMIT_PENDING = true ∧
      ∃ j, t.disp.jobs = s.disp.jobs ++ [j] ∧ j.op = some commitJob ∧ j.prio = 2 ∧ j.flow.map (·.1) = some hearthFlow ∧ j.place = .ready) ∧
  (∀ s, (s.disp.jobs.find? fun j => j.op == some commitJob && j.place != .done) = none → hearthRoom s = false →
    exec .fwCommitRetry s = .next s) ∧
  (∀ s, s.flag FW_STATUS_COMMIT_PENDING = false → exec .fwCommitRetry s = .next s)

/-- An aligned write of a whole register, of 32 or 64 bits, or of the high half of a 64-bit register after its low
half, of a register that has no action of its own gives every RW field its bits, at once or at the next tick as
the map says, clears the bits of a W1C field that are written 1 and leaves a read-only field. A host access of
another width, one while READY is 0, and a write at no register, is discarded and logged; one by another
initiator of another width changes nothing. A pair of two registers is written word by word, lower word first; a
write with an action does that action. A low half written alone is held. The words of BAR2 are the doorbells and
the MSI-X table; those of the configuration space are written where they are not read only. The low half of a
64-bit register read alone latches the whole. An RWF field's value joins the staged set, and while the area is
locked it is discarded. -/
def Obligations.RegisterAccessResults : Prop :=
  (∀ (off i j v : Nat) (who : Fin 3) (r : RegRow) f s, (who = 0 → s.flag HI_STATUS_READY = true) → off % 4 = 0 →
    regAt off = some (r, i, j, 0) → r.width = 32 → servesReg s r j = true → r.isInject = false →
    (actionTable.find? fun e => r.fields.any fun f => f.id == e.1.id) = none →
    (r.fields.all fun f => f.acc != .rwf) = true → (r.fields.map (·.id)).Nodup → f ∈ r.fields →
    Runs (.registerWrite .registers off 0x0F v who) s fun t =>
      (f.acc = .rw → f.eff ≠ .tick → t.rd f i j = bits (v % 2 ^ 32) f.hi f.lo % 2 ^ f.width) ∧
      (f.acc = .rw → f.eff = .tick → ⟨f, i, j, bits (v % 2 ^ 32) f.hi f.lo⟩ ∈ t.tickWrites) ∧
      (f.acc = .w1c → f.eff ≠ .tick →
        t.rd f i j = (s.rd f i j &&& (f.max - bits (v % 2 ^ 32) f.hi f.lo)) % 2 ^ f.width) ∧
      (f.acc = .ro ∨ f.acc = .fuse → t.rd f i j = s.rd f i j)) ∧
  (∀ (off i j v : Nat) (who : Fin 3) (r : RegRow) f s, (who = 0 → s.flag HI_STATUS_READY = true) → off % 8 = 0 →
    regAt off = some (r, i, j, 0) → r.width = 64 → servesReg s r j = true → r.isInject = false →
    (actionTable.find? fun e => r.fields.any fun f => f.id == e.1.id) = none →
    (r.fields.all fun f => f.acc != .rwf) = true → (r.fields.map (·.id)).Nodup → f ∈ r.fields →
    Runs (.registerWrite .registers off 0xFF v who) s fun t =>
      (f.acc = .rw → f.eff ≠ .tick → t.rd f i j = bits (v % 2 ^ 64) f.hi f.lo % 2 ^ f.width) ∧
      (f.acc = .rw → f.eff = .tick → ⟨f, i, j, bits (v % 2 ^ 64) f.hi f.lo⟩ ∈ t.tickWrites) ∧
      (f.acc = .w1c → f.eff ≠ .tick →
        t.rd f i j = (s.rd f i j &&& (f.max - bits (v % 2 ^ 64) f.hi f.lo)) % 2 ^ f.width) ∧
      (f.acc = .ro ∨ f.acc = .fuse → t.rd f i j = s.rd f i j)) ∧
  (∀ (off i j v : Nat) (who : Fin 3) (r : RegRow) s, (who = 0 → s.flag HI_STATUS_READY = true) → off % 4 = 0 →
    regAt off = some (r, i, j, 0) → r.width = 64 → r.writable = true →
    Runs (.registerWrite .registers off 0x0F v who) s fun t => heldLow t off = some (v % 2 ^ 32) ∧ t.regs = s.regs) ∧
  (∀ (off i j v low : Nat) (who : Fin 3) (r : RegRow) f s, (who = 0 → s.flag HI_STATUS_READY = true) → off % 4 = 0 →
    regAt (off + 4) = some (r, i, j, 4) → r.width = 64 → servesReg s r j = true → r.isInject = false →
    heldLow s off = some low →
    (actionTable.find? fun e => r.fields.any fun f => f.id == e.1.id) = none →
    (r.fields.all fun f => f.acc != .rwf) = true → (r.fields.map (·.id)).Nodup → f ∈ r.fields →
    Runs (.registerWrite .registers (off + 4) 0x0F v who) s fun t => heldLow t off = none ∧
      (f.acc = .rw → f.eff ≠ .tick → t.rd f i j = bits (v % 2 ^ 32 * 2 ^ 32 + low) f.hi f.lo % 2 ^ f.width) ∧
      (f.acc = .rw → f.eff = .tick → ⟨f, i, j, bits (v % 2 ^ 32 * 2 ^ 32 + low) f.hi f.lo⟩ ∈ t.tickWrites) ∧
      (f.acc = .w1c → f.eff ≠ .tick →
        t.rd f i j = (s.rd f i j &&& (f.max - bits (v % 2 ^ 32 * 2 ^ 32 + low) f.hi f.lo)) % 2 ^ f.width) ∧
      (f.acc = .ro ∨ f.acc = .fuse → t.rd f i j = s.rd f i j)) ∧
  (∀ (off v : Nat) (be : Fin 256) s, (be ≠ 0x0F ∧ be ≠ 0xFF) ∨ off % 4 ≠ 0 ∨ (be = 0xFF ∧ off % 8 ≠ 0) →
    Runs (.registerWrite .registers off be v 0) s fun t =>
      t.rd HI_ACCESS_LOG_OFFSET = off % 2 ^ HI_ACCESS_LOG_OFFSET.width ∧ t.rd HI_ACCESS_LOG_BYTE_EN = be % 2 ^ HI_ACCESS_LOG_BYTE_EN.width ∧
        t.rd HI_ACCESS_LOG_BAR = 0 ∧ t.rd HI_ACCESS_LOG_KIND = 0 ∧
        t.rd HI_COUNTS_WIDTH_ERRS = min (s.rd HI_COUNTS_WIDTH_ERRS + 1) HI_COUNTS_WIDTH_ERRS.max) ∧
  (∀ (off v : Nat) (be : Fin 256) s, be = 0x0F ∨ be = 0xFF → s.flag HI_STATUS_READY = false →
    Runs (.registerWrite .registers off be v 0) s fun t =>
      t.rd HI_ACCESS_LOG_OFFSET = off % 2 ^ HI_ACCESS_LOG_OFFSET.width ∧ t.rd HI_ACCESS_LOG_BYTE_EN = be % 2 ^ HI_ACCESS_LOG_BYTE_EN.width ∧
        t.rd HI_COUNTS_WIDTH_ERRS = min (s.rd HI_COUNTS_WIDTH_ERRS + 1) HI_COUNTS_WIDTH_ERRS.max) ∧
  (∀ (space : BusSpace) (off v : Nat) (be : Fin 256) (who : Fin 3) s, who ≠ 0 →
    space ≠ .registers ∨ (be ≠ 0x0F ∧ be ≠ 0xFF) ∨ off % 4 ≠ 0 ∨ (be = 0xFF ∧ off % 8 ≠ 0) →
    exec (.registerWrite space off be v who) s = .next s) ∧
  (∀ (off v : Nat) (be : Fin 256) (who : Fin 3) s, (who = 0 → s.flag HI_STATUS_READY = true) → regAt off = none →
    (be = 0x0F ∧ off % 4 = 0) ∨ (be = 0xFF ∧ off % 8 = 0 ∧ regAt (off + 4) = none) →
    Runs (.registerWrite .registers off be v who) s fun t =>
      t.rd HI_ACCESS_LOG_OFFSET = off % 2 ^ HI_ACCESS_LOG_OFFSET.width ∧ t.rd HI_ACCESS_LOG_KIND = 1 ∧
        t.rd HI_COUNTS_WIDTH_ERRS = min (s.rd HI_COUNTS_WIDTH_ERRS + 1) HI_COUNTS_WIDTH_ERRS.max) ∧
  (∀ (off i j b v : Nat) (be : Fin 256) (who : Fin 3) (r : RegRow) s, (who = 0 → s.flag HI_STATUS_READY = true) →
    regAt off = some (r, i, j, b) → servesReg s r j = false →
    (be = 0x0F ∧ off % 4 = 0 ∧ r.width = 32) ∨ (be = 0xFF ∧ off % 8 = 0 ∧ r.width = 64 ∧ b = 0) →
    Runs (.registerWrite .registers off be v who) s fun t => t.regs = s.regs ∧ t.stage = s.stage) ∧
  (∀ (off i j v : Nat) (be : Fin 256) (who : Fin 3) (r : RegRow) s, (who = 0 → s.flag HI_STATUS_READY = true) →
    (be = 0x0F ∧ off % 4 = 0 ∧ r.width = 32) ∨ (be = 0xFF ∧ off % 8 = 0 ∧ r.width = 64) →
    regAt off = some (r, i, j, 0) → (r.fields.all fun f => f.acc != .rwf) = true →
    Runs (.registerWrite .registers off be v who) s fun t =>
      t.regs = (regWrite r i j (v % 2 ^ r.width) s).regs ∧ t.stage = (regWrite r i j (v % 2 ^ r.width) s).stage) ∧
  (∀ (n : Fin 16) (c : Fin 8) (g : Fin 18) (who : Fin 3) s, (who = 0 → s.flag HI_STATUS_READY = true) →
    exec (.registerWrite .registers (0x1000000 + 0x10000 * n.val) 0x0F 1 who) s = exec (.reClearCounts n) s ∧
    exec (.registerWrite .registers (0x1000000 + 0x10000 * n.val) 0x0F 2 who) s = exec (.flushDict n) s ∧
    exec (.registerWrite .registers (0x1100000 + 0x10000 * n.val) 0x0F 1 who) s = exec (.cbClearCounts n) s ∧
    exec (.registerWrite .registers (0x1700000 + 0x1000 * c.val) 0x0F 1 who) s = exec (.bkClearCounts c) s ∧
    exec (.registerWrite .registers (0x800000 + 0x20000 * c.val) 0x0F 1 who) s = exec (.dcClearCounts c) s ∧
    exec (.registerWrite .registers (0x1200000 + 0x10000 * g.val) 0x0F 1 who) s = exec (.lgClearCounts g) s ∧
    exec (.registerWrite .registers 0x400000 0x0F 1 who) s = exec .configAbort s ∧
    exec (.registerWrite .registers 0x600000 0x0F 1 who) s = exec .enClearCounts s ∧
    exec (.registerWrite .registers 0x1500000 0x0F 1 who) s = exec .hiClearCounts s ∧
    exec (.registerWrite .registers 0x180000 0x0F 1 who) s = exec .ckClearCounts s ∧
    exec (.registerWrite .registers 0x600 0x0F 1 who) s = exec .eaClearCounts s) ∧
  (∀ (off i j b v : Nat) (who : Fin 3) (r : RegRow) s, (who = 0 → s.flag HI_STATUS_READY = true) → off % 4 = 0 →
    regAt off = some (r, i, j, b) → r.width ≠ 32 → r.width ≠ 64 ∨ r.writable = false →
    exec (.registerWrite .registers off 0x0F v who) s = .next s) ∧
  (∀ (off i j v : Nat) (who : Fin 3) (r : RegRow) f s, (who = 0 → s.flag HI_STATUS_READY = true) → off % 4 = 0 →
    regAt (off + 4) = some (r, i, j, 4) → r.width = 64 → servesReg s r j = true → r.isInject = false →
    heldLow s off = none →
    (actionTable.find? fun e => r.fields.any fun f => f.id == e.1.id) = none →
    (r.fields.all fun f => f.acc != .rwf) = true → (r.fields.map (·.id)).Nodup → f ∈ r.fields → f.acc = .rw → f.eff ≠ .tick →
    Runs (.registerWrite .registers (off + 4) 0x0F v who) s fun t =>
      t.rd f i j = bits (v % 2 ^ 32 * 2 ^ 32 + bits (regValue s r i j) 31 0) f.hi f.lo % 2 ^ f.width) ∧
  (∀ (off i j v : Nat) (who : Fin 3) (r : RegRow) q s, (who = 0 → s.flag HI_STATUS_READY = true) →
    off % 8 = 0 → regAt off = some (r, i, j, 0) → r.width ≠ 64 → regAt (off + 4) = some q →
    ∃ u, exec (.registerWrite .registers off 0x0F (v % 2 ^ 32) who) s = .next u ∧
      ((who = 0 → u.flag HI_STATUS_READY = true) →
        exec (.registerWrite .registers off 0xFF v who) s = exec (.registerWrite .registers (off + 4) 0x0F (v / 2 ^ 32) who) u)) ∧
  (∀ (r : Fin 64) v s,
    exec (.registerWrite .doorbells (16 * r.val) 0x0F v 0) s = exec (.commandDoorbell r v) s ∧
    exec (.registerWrite .doorbells (0x400 + 16 * r.val) 0x0F v 0) s = exec (.completionDoorbell r v) s ∧
    exec (.registerWrite .doorbells 0x800 0x0F v 0) s = exec (.eventDoorbell v) s) ∧
  (∀ (off v : Nat) (be : Fin 256) s,
    (be ≠ 0x0F ∧ be ≠ 0xFF) ∨ off % 4 ≠ 0 ∨ (be = 0xFF ∧ (off % 8 ≠ 0 ∨ off ≤ 0x800 ∧ off % 16 = 0)) →
    Runs (.registerWrite .doorbells off be v 0) s fun t =>
      t.rd HI_ACCESS_LOG_OFFSET = off % 2 ^ HI_ACCESS_LOG_OFFSET.width ∧ t.rd HI_ACCESS_LOG_BAR = 1 ∧
        t.rd HI_ACCESS_LOG_KIND = 0 ∧ t.rd HI_COUNTS_WIDTH_ERRS = min (s.rd HI_COUNTS_WIDTH_ERRS + 1) HI_COUNTS_WIDTH_ERRS.max) ∧
  (∀ (off v : Nat) s, off % 4 = 0 → 0x8000 ≤ off → off < 0x10000 →
    Runs (.registerWrite .doorbells off 0x0F v 0) s fun t =>
      bar2Word off t = if off / 4 % 4 = 3 then bits v 0 0 else v % 2 ^ 32) ∧
  (∀ (off v : Nat) (be : Fin 256) s, (be = 0x0F ∧ off % 4 = 0) ∨ (be = 0xFF ∧ off % 8 = 0) → 0x7000 ≤ off → off < 0x7100 →
    exec (.registerWrite .doorbells off be v 0) s = .next s) ∧
  (∀ (off v : Nat) (be : Fin 256) s, (be = 0x0F ∧ off % 4 = 0) ∨ (be = 0xFF ∧ off % 8 = 0) →
    (off < 0x800 ∧ off % 16 ≠ 0) ∨ (0x800 < off ∧ off < 0x7000) ∨ (0x7100 ≤ off ∧ off < 0x8000) ∨ 0x10000 ≤ off →
    Runs (.registerWrite .doorbells off be v 0) s fun t =>
      t.rd HI_ACCESS_LOG_OFFSET = off % 2 ^ HI_ACCESS_LOG_OFFSET.width ∧ t.rd HI_ACCESS_LOG_BAR = 1 ∧ t.rd HI_ACCESS_LOG_KIND = 1) ∧
  (∀ (field : PcieField) (off v : Nat) (be : Fin 256) s, Runs (.registerWrite (.config field) off be v 0) s fun t =>
      configRead field t = match field with
        | .vendorId | .deviceId | .classCode | .subsystemVendor | .subsystemId => configRead field s
        | .msixEnable | .functionMask | .ecrcGenerate | .ecrcCheck => bits v 0 0
        | .maxPayload => if bits v 2 0 ≤ 2 then bits v 2 0 else configRead field s
        | .maxReadRequest => if bits v 2 0 ≤ 5 then bits v 2 0 else configRead field s
        | .aerMask => bits v 31 0
        | .margin _ voltage => if bits v 6 0 ≤ (if voltage then 64 else 32) then bits v 7 0 else configRead field s) ∧
  (∀ (off i j : Nat) (r : RegRow) s, off % 4 = 0 → regAt off = some (r, i, j, 0) → r.width ≠ 32 →
    (Runs (.pairLowRead off false false) s fun t => sget 0 t.latches off = regReads s r i j + 1 ∧ t.regs = s.regs ∧
      t.tick.unread = if r.fields.any (fun f => f.id == FRAME_LOG_ENTRY.id) then s.tick.unread.filter (· != j % 256) else s.tick.unread) ∧
    (off % 8 = 0 → r.width ≠ 64 → Runs (.pairLowRead off true false) s fun t => sget 0 t.latches off = regReads s r i j + 1)) ∧
  (∀ (off i j : Nat) (r : RegRow) s, off % 8 = 0 → regAt off = some (r, i, j, 0) → r.width = 64 →
    (r.fields.any fun f => f.id == FRAME_LOG_ENTRY.id) = false → exec (.pairLowRead off true false) s = .next s) ∧
  (∀ (off : Nat) wide debug s,
    debug = true ∨ off % 4 ≠ 0 ∨ (wide = true ∧ off % 8 ≠ 0) ∨ ((regAt off).all fun x => x.2.2.2 != 0 || x.1.width == 32) = true →
    exec (.pairLowRead off wide debug) s = .next s) ∧
  (∀ (off v : Nat) (who : Fin 3) s,
    off % 4 ≠ 0 ∨ ((regAt off).all fun x => !x.1.fields.any fun f => rwfFor (who.val == 1) f x.2.1 x.2.2.1) = true →
    exec (.rwfWrite off v who) s = .next s) ∧
  (∀ (off i j b v : Nat) (who : Fin 3) (r : RegRow) s, off % 4 = 0 → regAt off = some (r, i, j, b) →
    (r.fields.any fun f => rwfFor (who.val == 1) f i j) = true →
    exec (.rwfWrite off v who) s = exec (.registerWrite .registers off 0x0F v who) s) ∧
  (∀ (off i j v : Nat) (who : Fin 3) (r : RegRow) f s, (who = 0 → s.flag HI_STATUS_READY = true) → off % 4 = 0 →
    regAt off = some (r, i, j, 0) → r.width = 32 → f.lo ≤ f.hi → f.hi < 32 →
    (r.fields.map (·.id)).Nodup → f ∈ r.fields → servesReg s r j = true → rwfFor (who.val == 1) f i j = true →
    r.isInject = false → stageLocked s = false → ownsStage s (who.val == 1) = true →
    Runs (.rwfWrite off v who) s fun t =>
      stageState t = 1 ∧ t.flag PF_STATE_OWNER = (who.val == 1) ∧
        (t.stage.rwf.find? fun w => w.fld.id == f.id && w.i == i && w.j == j).map (·.v) =
          some (bits (v % 2 ^ 32) f.hi f.lo)) ∧
  (∀ (off i j v : Nat) (who : Fin 3) (r : RegRow) f s, (who = 0 → s.flag HI_STATUS_READY = true) → off % 4 = 0 →
    regAt off = some (r, i, j, 0) → r.width = 64 → f ∈ r.fields → rwfFor (who.val == 1) f i j = true →
    Runs (.rwfWrite off v who) s fun t => heldLow t off = some (v % 2 ^ 32) ∧ t.stage = s.stage ∧ t.regs = s.regs) ∧
  (∀ (off i j v low : Nat) (who : Fin 3) (r : RegRow) f s, (who = 0 → s.flag HI_STATUS_READY = true) → off % 4 = 0 →
    regAt (off + 4) = some (r, i, j, 4) → r.width = 64 → heldLow s off = some low →
    (r.fields.map (·.id)).Nodup → f ∈ r.fields → servesReg s r j = true → rwfFor (who.val == 1) f i j = true →
    r.isInject = false → stageLocked s = false → ownsStage s (who.val == 1) = true →
    Runs (.rwfWrite (off + 4) v who) s fun t => heldLow t off = none ∧
      stageState t = 1 ∧ t.flag PF_STATE_OWNER = (who.val == 1) ∧
        (t.stage.rwf.find? fun w => w.fld.id == f.id && w.i == i && w.j == j).map (·.v) =
          some (bits (v % 2 ^ 32 * 2 ^ 32 + low) f.hi f.lo)) ∧
  (∀ (off i j v : Nat) (who : Fin 3) (r : RegRow) f s, (who = 0 → s.flag HI_STATUS_READY = true) → off % 4 = 0 →
    regAt off = some (r, i, j, 0) → r.width = 32 →
    (r.fields.map (·.id)).Nodup → f ∈ r.fields → servesReg s r j = true → rwfFor (who.val == 1) f i j = true →
    r.isInject = false → 
    (stageLocked s = true ∨ ownsStage s (who.val == 1) = false) →
    Runs (.rwfWrite off v who) s fun t => t.stage = s.stage ∧ t.rd f i j = s.rd f i j)

/-- A diagnostic window lets a pulse of a free STROBE pin leave, or counts it missed. A measurement sets the bank's
mismatch beyond its upper bound, clears it within its lower one, and keeps it between. Contention shuts a pin
that drives. A retry waits for the tick. The detector's test shows its result. A load check shows CONNECTED or
OPEN from the next tick. -/
def Obligations.IoResults : Prop :=
  (∀ k (e : Slot) s, opening s 0x60 k = some e → s.offset = e.start → s.flag PIN_STATUS_STROBE e.unit (bits e.param 5 0) = true →
    s.flag PIN_STATUS_DIAG_OK e.unit (bits e.param 5 0) = true → pinClass s e.unit (bits e.param 5 0) = 1 →
    Runs (.ioDiagWindow k) s fun t =>
      if s.flag PIN_STATUS_SHUT e.unit (bits e.param 5 0) = false ∧ s.flag BK_STATUS_VCCO_MISMATCH e.unit = false ∧
          sourceOn s e.unit (bits e.param 5 0) = false ∧ 60 ≤ e.length then
        48 * e.unit + bits e.param 5 0 ∈ t.io.pulses ∧ (t.tick.wins.any fun w => w.idx == k && w.complete) = true
      else t.rd DIAG_COUNTS_DIAG_MISSED e.unit = min (s.rd DIAG_COUNTS_DIAG_MISSED e.unit + 1) DIAG_COUNTS_DIAG_MISSED.max ∧
        48 * e.unit + bits e.param 5 0 ∈ t.io.missed ∧ t.tickWrites.getLast? = some ⟨PIN_STATUS_DIAG, e.unit, bits e.param 5 0, 4⟩ ∧ (t.tick.wins.any fun w => w.idx == k && !w.complete) = true) ∧
  (∀ k (e : Slot) s, opening s 0x60 k = some e → s.offset = e.start →
    (s.flag PIN_STATUS_STROBE e.unit (bits e.param 5 0) = false ∨ s.flag PIN_STATUS_DIAG_OK e.unit (bits e.param 5 0) = false) →
    exec (.ioDiagWindow k) s = .next (openWin k e true s)) ∧
  (∀ (b : Fin 8) (mv : Fin 4096) s,
    Runs (.vccoMeasure b mv) s fun t =>
      t.rd BK_STATUS_VCCO_MV b = mv ∧
        if s.rd BK_STATUS_VCCO_CLASS b = 0 then t.rd BK_STATUS_VCCO_MISMATCH b = 0
        else if classMv (s.rd BK_STATUS_VCCO_CLASS b) < 10 * max (mv.val - classMv (s.rd BK_STATUS_VCCO_CLASS b)) (classMv (s.rd BK_STATUS_VCCO_CLASS b) - mv.val) then
          t.rd BK_STATUS_VCCO_MISMATCH b = 1
        else if 100 * max (mv.val - classMv (s.rd BK_STATUS_VCCO_CLASS b)) (classMv (s.rd BK_STATUS_VCCO_CLASS b) - mv.val) ≤ 7 * classMv (s.rd BK_STATUS_VCCO_CLASS b) then
          t.rd BK_STATUS_VCCO_MISMATCH b = 0
        else t.rd BK_STATUS_VCCO_MISMATCH b = s.rd BK_STATUS_VCCO_MISMATCH b) ∧
  (∀ (b : Fin 8) (p : Fin 48) sensed s, pinDrives s b p = true →
    Runs (.contentionDetect b p sensed) s fun t =>
      t.rd PIN_STATUS_SHUT b p = 1 ∧ t.flag PIN_STATUS_SENSED b p = sensed ∧ t.mbit BK_SHUT_PINS p b = true ∧
        t.rd BK_COUNTS_SHUTS b = min (s.rd BK_COUNTS_SHUTS b + 1) BK_COUNTS_SHUTS.max ∧
        t.rd PIN_STATUS_CONTENTIONS b p = min (s.rd PIN_STATUS_CONTENTIONS b p + 1) PIN_STATUS_CONTENTIONS.max ∧
        pinDrives t b p = false) ∧
  (∀ (b : Fin 8) (p : Fin 48) sensed s, pinDrives s b p = false → exec (.contentionDetect b p sensed) s = .next s) ∧
  (∀ (b : Fin 8) (p : Fin 48) s, Runs (.pinRetry b p) s fun t => t.io.retries = s.io.retries ++ [48 * b.val + p.val]) ∧
  (∀ (b : Fin 8) (p : Fin 64) flagged s,
    Runs (.senseTest b p flagged) s fun t =>
      t.rd IO_TEST_PIN b = p ∧ t.rd IO_TEST_SENSE_TEST b = 0 ∧ t.rd IO_TEST_RESULT b = if flagged then 1 else 2) ∧
  (∀ (b : Fin 8) (p : Fin 4) connected s, s.flag PIN_STATUS_STROBE b p = true → pinDrives s b p = true →
    (48 * b.val + p.val ∈ s.io.pulses ∨ (sget 0 s.io.classes (48 * b.val + p.val) = 1 ∧ 48 * b.val + p.val ∉ s.io.missed)) →
    Runs (.strobeOpenCheck b p connected) s fun t =>
      t.tickWrites.getLast? = some ⟨PIN_STATUS_DIAG, b, p, if connected then 2 else 3⟩ ∧ 48 * b.val + p.val ∉ t.io.pulses ∧
        t.rd DIAG_COUNTS_OPENS b = if connected then s.rd DIAG_COUNTS_OPENS b else min (s.rd DIAG_COUNTS_OPENS b + 1) DIAG_COUNTS_OPENS.max) ∧
  (∀ (b : Fin 8) (p : Fin 4) connected s, s.flag PIN_STATUS_STROBE b p = true → pinDrives s b p = true →
    48 * b.val + p.val ∉ s.io.pulses → sget 0 s.io.classes (48 * b.val + p.val) = 1 → 48 * b.val + p.val ∈ s.io.missed →
    Runs (.strobeOpenCheck b p connected) s fun t =>
      t.tickWrites = s.tickWrites ∧
        t.rd DIAG_COUNTS_OPENS b = if connected then s.rd DIAG_COUNTS_OPENS b else min (s.rd DIAG_COUNTS_OPENS b + 1) DIAG_COUNTS_OPENS.max) ∧
  (∀ (b : Fin 8) (p : Fin 4) connected s, (s.flag PIN_STATUS_STROBE b p = false ∨ pinDrives s b p = false ∨
      (48 * b.val + p.val ∉ s.io.pulses ∧ sget 0 s.io.classes (48 * b.val + p.val) ≠ 1)) →
    exec (.strobeOpenCheck b p connected) s = .next s)

/-- A CLEAR_COUNTS or CLEAR_LOGS command of a reel engine, catch block, slice, router, DDR channel, lane group or
I/O bank leaves the counters of that one at 0, and one of a unit of the device leaves all its counters at 0;
neither changes any other register field or anything else of the state (a channel's CLEAR_LOGS also begins its
error log anew). -/
def Obligations.ClearingOfCounts : Prop :=
  (∀ (n : Fin 16) s, Runs (.reClearCounts n) s fun t =>
      (∀ f ∈ reClearCountsFields, ∀ j : Nat, t.rd f n j = 0 ∧ ∀ i : Nat, i ≠ n → t.rd f i j = s.rd f i j) ∧
        Framed reClearCountsFields [] s t) ∧
  (∀ (n : Fin 16) s, Runs (.cbClearCounts n) s fun t =>
      (∀ f ∈ cbClearCountsFields, ∀ j : Nat, t.rd f n j = 0 ∧ ∀ i : Nat, i ≠ n → t.rd f i j = s.rd f i j) ∧
        Framed cbClearCountsFields [] s t) ∧
  (∀ (k : Fin 64) (g : Fin 96) s, Runs (.slClearCounts k g) s fun t =>
      (∀ f ∈ slClearCountsFields, ∀ j : Nat, t.rd f (k * 96 + g) j = 0 ∧ ∀ i : Nat, i ≠ (k * 96 + g) → t.rd f i j = s.rd f i j) ∧
        Framed slClearCountsFields [] s t) ∧
  (∀ (r : Fin 120) s, Runs (.nrClearCounts r) s fun t =>
      (∀ f ∈ nrClearCountsFields, ∀ j : Nat, t.rd f r j = 0 ∧ ∀ i : Nat, i ≠ r → t.rd f i j = s.rd f i j) ∧
        Framed nrClearCountsFields [] s t) ∧
  (∀ (c : Fin 8) s, Runs (.dcClearCounts c) s fun t =>
      (∀ f ∈ dcClearCountsFields, ∀ j : Nat, t.rd f c j = 0 ∧ ∀ i : Nat, i ≠ c → t.rd f i j = s.rd f i j) ∧
        Framed dcClearCountsFields [] s t) ∧
  (∀ (g : Fin 18) s, Runs (.lgClearCounts g) s fun t =>
      (∀ f ∈ lgClearCountsFields, ∀ j : Nat, t.rd f g j = 0 ∧ ∀ i : Nat, i ≠ g → t.rd f i j = s.rd f i j) ∧
        Framed lgClearCountsFields [] s t) ∧
  (∀ (b : Fin 8) s, Runs (.bkClearCounts b) s fun t =>
      (∀ f ∈ bkClearCountsFields, ∀ j : Nat, t.rd f b j = 0 ∧ ∀ i : Nat, i ≠ b → t.rd f i j = s.rd f i j) ∧
        Framed bkClearCountsFields [] s t) ∧
  (∀ (c : Fin 8) s, Runs (.dcClearLogs c) s fun t =>
      (∀ f ∈ dcClearLogsFields, ∀ j : Nat, t.rd f c j = 0 ∧ ∀ i : Nat, i ≠ c → t.rd f i j = s.rd f i j) ∧
        Framed dcClearLogsFields [.ddr] s t) ∧
  (∀ s, Runs .cfgClearCounts s fun t =>
      (∀ f ∈ cfgClearCountsFields, ∀ i j : Nat, t.rd f i j = 0) ∧ Framed cfgClearCountsFields [] s t) ∧
  (∀ s, Runs .scrubClearCounts s fun t =>
      (∀ f ∈ scrubClearCountsFields, ∀ i j : Nat, t.rd f i j = 0) ∧ Framed scrubClearCountsFields [] s t) ∧
  (∀ s, Runs .enClearCounts s fun t =>
      (∀ f ∈ enClearCountsFields, ∀ i j : Nat, t.rd f i j = 0) ∧ Framed enClearCountsFields [] s t) ∧
  (∀ s, Runs .msClearCounts s fun t =>
      (∀ f ∈ msClearCountsFields, ∀ i j : Nat, t.rd f i j = 0) ∧ Framed msClearCountsFields [] s t) ∧
  (∀ s, Runs .hiClearCounts s fun t =>
      (∀ f ∈ hiClearCountsFields, ∀ i j : Nat, t.rd f i j = 0) ∧ Framed hiClearCountsFields [] s t) ∧
  (∀ s, Runs .dpClearCounts s fun t =>
      (∀ f ∈ dpClearCountsFields, ∀ i j : Nat, t.rd f i j = 0) ∧ Framed dpClearCountsFields [] s t) ∧
  (∀ s, Runs .spClearCounts s fun t =>
      (∀ f ∈ spClearCountsFields, ∀ i j : Nat, t.rd f i j = 0) ∧ Framed spClearCountsFields [] s t) ∧
  (∀ s, Runs .ckClearCounts s fun t =>
      (∀ f ∈ ckClearCountsFields, ∀ i j : Nat, t.rd f i j = 0) ∧ Framed ckClearCountsFields [] s t) ∧
  (∀ s, Runs .pwClearCounts s fun t =>
      (∀ f ∈ pwClearCountsFields, ∀ i j : Nat, t.rd f i j = 0) ∧ Framed pwClearCountsFields [] s t) ∧
  (∀ s, Runs .dbClearCounts s fun t =>
      (∀ f ∈ dbClearCountsFields, ∀ i j : Nat, t.rd f i j = 0) ∧ Framed dbClearCountsFields [] s t) ∧
  (∀ s, Runs .eaClearCounts s fun t =>
      (∀ f ∈ eaClearCountsFields, ∀ i j : Nat, t.rd f i j = 0) ∧ Framed eaClearCountsFields [] s t)

/-- A command of the family staging (windows, marks, reads and staging) that answers a next state has changed no
register field outside its footprint (Instr.writes: its own fields and those of what it sets off) and no piece
of the state outside Instr.changes: every other register, memory, queue and unit is as before. -/
def Obligations.StagingFrames : Prop :=
  ∀ (c : Instr) (s t : State), c.family = .staging → exec c s = .next t → Framed c.writes c.changes s t

/-- A command of the family streams (reel engines and catch blocks) that answers a next state has changed no
register field outside its footprint (Instr.writes: its own fields and those of what it sets off) and no piece
of the state outside Instr.changes: every other register, memory, queue and unit is as before. -/
def Obligations.StreamFrames : Prop :=
  ∀ (c : Instr) (s t : State), c.family = .streams → exec c s = .next t → Framed c.writes c.changes s t

/-- A command of the family slices (slices and regions) that answers a next state has changed no register field
outside its footprint (Instr.writes: its own fields and those of what it sets off) and no piece of the state
outside Instr.changes: every other register, memory, queue and unit is as before. -/
def Obligations.SliceFrames : Prop :=
  ∀ (c : Instr) (s t : State), c.family = .slices → exec c s = .next t → Framed c.writes c.changes s t

/-- A command of the family loading (loads, the scrubber, swaps and images) that answers a next state has changed no
register field outside its footprint (Instr.writes: its own fields and those of what it sets off) and no piece
of the state outside Instr.changes: every other register, memory, queue and unit is as before. -/
def Obligations.LoadingFrames : Prop :=
  ∀ (c : Instr) (s t : State), c.family = .loading → exec c s = .next t → Framed c.writes c.changes s t

/-- A command of the family memory (the on-chip network, DDR and encryption) that answers a next state has changed
no register field outside its footprint (Instr.writes: its own fields and those of what it sets off) and no
piece of the state outside Instr.changes: every other register, memory, queue and unit is as before. -/
def Obligations.MemoryFrames : Prop :=
  ∀ (c : Instr) (s t : State), c.family = .memory → exec c s = .next t → Framed c.writes c.changes s t

/-- A command of the family links (lanes and mesh links) that answers a next state has changed no register field
outside its footprint (Instr.writes: its own fields and those of what it sets off) and no piece of the state
outside Instr.changes: every other register, memory, queue and unit is as before. -/
def Obligations.LinkFrames : Prop :=
  ∀ (c : Instr) (s t : State), c.family = .links → exec c s = .next t → Framed c.writes c.changes s t

/-- A command of the family host (the host interface and the dispatcher) that answers a next state has changed no
register field outside its footprint (Instr.writes: its own fields and those of what it sets off) and no piece
of the state outside Instr.changes: every other register, memory, queue and unit is as before. -/
def Obligations.HostFrames : Prop :=
  ∀ (c : Instr) (s t : State), c.family = .host → exec c s = .next t → Framed c.writes c.changes s t

/-- A command of the family management (management, clocks, power, boot and pins) that answers a next state has
changed no register field outside its footprint (Instr.writes: its own fields and those of what it sets off) and
no piece of the state outside Instr.changes: every other register, memory, queue and unit is as before. -/
def Obligations.ManagementFrames : Prop :=
  ∀ (c : Instr) (s t : State), c.family = .management → exec c s = .next t → Framed c.writes c.changes s t

/-- A command of the family debug (debug) that answers a next state has changed no register field outside its
footprint (Instr.writes: its own fields and those of what it sets off) and no piece of the state outside
Instr.changes: every other register, memory, queue and unit is as before. -/
def Obligations.DebugFrames : Prop :=
  ∀ (c : Instr) (s t : State), c.family = .debug → exec c s = .next t → Framed c.writes c.changes s t

/-- A command of the family injection (checker tests, cleared counts and injections) that answers a next state has
changed no register field outside its footprint (Instr.writes: its own fields and those of what it sets off) and
no piece of the state outside Instr.changes: every other register, memory, queue and unit is as before. -/
def Obligations.InjectionFrames : Prop :=
  ∀ (c : Instr) (s t : State), c.family = .injection → exec c s = .next t → Framed c.writes c.changes s t

/-- TICK, SYNC_MARK, TIME_FRAME and FIX_APPLY change no register field but those of their footprint, those whose
writes waited for the tick and those of the staged set, and no piece of the state outside Instr.changes. -/
def Obligations.BoundaryFrames : Prop :=
  ∀ (c : Instr) (s t : State), c.family = .boundary → exec c s = .next t →
    Framed (c.writes ++ s.tickWrites.map (·.fld) ++ s.stage.rwf.map (·.fld)) c.changes s t

/-- A write of a word of a register that has no action of its own changes that register's fields, of the instance
and index that the offset names, and beside them only the access log, the staged set's state and what an event
sets off; a doorbell or MSI-X write changes the doorbells' registers; one of the configuration space changes no
register; a read by DBG_REG, and a write on the on-chip network that lands elsewhere than at the registers, keep
to their footprints. -/
def Obligations.AccessFrames : Prop :=
  (∀ (off i j b v : Nat) (who : Fin 3) (r : RegRow) s t, regAt off = some (r, i, j, b) → r.isInject = false →
    (actionTable.find? fun e => r.fields.any fun f => f.id == e.1.id) = none →
    exec (.registerWrite .registers off 0x0F v who) s = .next t ∨ exec (.rwfWrite off v who) s = .next t →
      Framed ((Instr.registerWrite .registers off 0x0F v who).writes ++ r.fields) (Instr.registerWrite .registers off 0x0F v who).changes s t ∧
      ∀ f ∈ r.fields, (∀ g ∈ (Instr.registerWrite .registers off 0x0F v who).writes, f.id ≠ g.id) →
        ∀ i' j', (i', j') ≠ (i, j) → t.rd f i' j' = s.rd f i' j') ∧
  (∀ (off v : Nat) (be : Fin 256) s t, regAt off = none → be = 0x0F ∨ (be ≠ 0x0F ∧ be ≠ 0xFF) →
    exec (.registerWrite .registers off be v 0) s = .next t →
      Framed (Instr.registerWrite .registers off be v 0).writes (Instr.registerWrite .registers off be v 0).changes s t) ∧
  (∀ (off v : Nat) (be : Fin 256) s t, exec (.registerWrite .doorbells off be v 0) s = .next t →
    Framed (eventFields ++ [CQ_RD_INDEX, CR_PROD_INDEX, CR_STATUS_DB_ERR, CR_STATUS_RD_ERR, EV_RD_INDEX, EV_STATUS_RD_ERR,
      HI_ACCESS_LOG_BAR, HI_ACCESS_LOG_BYTE_EN, HI_ACCESS_LOG_KIND, HI_ACCESS_LOG_OFFSET, HI_COUNTS_EARLY_DOORBELLS,
      HI_COUNTS_WIDTH_ERRS, HI_INJECT_INJ_DOORBELL]) [.ev, .dbg, .host, .hostMem] s t) ∧
  (∀ (field : PcieField) (off v : Nat) (be : Fin 256) (who : Fin 3) s t,
    exec (.registerWrite (.config field) off be v who) s = .next t → Framed [] [.host, .hostMem] s t) ∧
  (∀ (dr : Nat) s t, bit dr 0 = false → exec (.dbgReg dr) s = .next t →
    Framed (Instr.dbgReg dr).writes (Instr.dbgReg dr).changes s t) ∧
  (∀ (q : Fin 480) (tag : Fin 256) perr susp s t, (∀ x, xactAt s q tag = some x → x.dst ≠ portAt 2 0 1) →
    exec (.writeReq q tag perr susp) s = .next t →
    Framed (Instr.writeReq q tag perr susp).writes (Instr.writeReq q tag perr susp).changes s t)

/-- A command that acts on one reel engine, catch block, slice, DDR channel, lane group or bank of pins (Instr.own)
leaves every register of every other unit of that kind as it was; only a slice's state may follow an event (a
sequencer that halts). -/
def Obligations.OtherUnitsKept : Prop :=
  ∀ (c : Instr) rows i s t, c.own = some (rows, i) → exec c s = .next t →
    ∀ r ∈ rows, ∀ f ∈ r.fields, f.id ≠ SL_STATUS_STATE.id → ∀ j k, j ≠ i → t.rd f j k = s.rd f j k

/-- No reset changes host memory, the flash or the queue; a DEVICE reset keeps also the saved training records, the
fuses that are still to be programmed, the scan registers of the TAP, and every fuse and register of the POR
domain but the cause, the count and what follows the fuses. (That DRAM and the scratchpad outside the ember
region are kept by a DEVICE reset is the model's choice, log entry 61; it is no clause.) -/
def Obligations.ResetsKeep : Prop :=
  (∀ (c : Instr) (s t : State), c.family = .reset → exec c s = .next t →
    t.hostMem = s.hostMem ∧ t.flash = s.flash ∧ t.pending = s.pending ∧ t.boot.perst = s.boot.perst) ∧
  (∀ (c : Instr) (s t : State), c.family = .reset → (∀ b, c ≠ .porAssert b) → (∀ b, c ≠ .porEnd b) → exec c s = .next t →
    t.records = s.records ∧ t.stage.fuses = s.stage.fuses ∧ t.dbg.boundary = s.dbg.boundary ∧ t.dbg.capture = s.dbg.capture ∧
    ∀ r ∈ regTable, ∀ f ∈ r.fields, f.dom = .por ∨ f.acc = .fuse →
      f.id ∉ [LC_STATUS_STATE.id, DB_STATUS_DEBUG_PERMITTED.id, MS_STATUS_ADDR.id, MS_STATUS_ADDR_VALID.id,
        RS_STATUS_LAST_CAUSE.id, RS_STATUS_DEVICE_RESETS.id] → ∀ i j, t.rd f i j = s.rd f i j)

/-- An event record and a completion entry are stored in their ring's entry, and a message at its vector's address;
a move and a DEBUG_READ store within their destination, also where an abort, a link reset, D3hot or the TAP ends
it; FW_WRITE, and its abort, programs its slot; a HOST packet stores its bytes. In DRAM, beside the lines of the
requests and write-backs that the channel serves first, a move stores within the lines of its destination, a
flush window within its block's ring, a report within the report ring, a DATA request within the inbox, a
released job in its completion record's lines, a write-back and the rekey walk in the line at the queue's head
and at the watermark. Every other byte reads as before. -/
def Obligations.MemoryKept : Prop :=
  (∀ s t, exec .eventRecordWrite s = .next t →
    Untouched [entryRange (s.rd EV_BASE_ADDR) (eventSize s) (s.rd EV_WR_INDEX), msixRange s (s.rd EV_CFG_VECTOR)]
      s.hostMem t.hostMem) ∧
  (∀ (r : Fin 64) (fails : Bool) s t, exec (.completionWrite r fails) s = .next t →
    Untouched [entryRange (s.rd CQ_BASE_ADDR 0 r) (ringSize s r) (s.rd CQ_WR_INDEX 0 r), msixRange s (s.rd CR_CFG_VECTOR 0 r)]
      s.hostMem t.hostMem) ∧
  (∀ (r : Fin 64) s t, exec (.msixTimer r) s = .next t → Untouched [msixRange s (s.rd CR_CFG_VECTOR 0 r)] s.hostMem t.hostMem) ∧
  (∀ (r : Fin 64) idx failed (o : Op) s t, opAt s r idx = some o → exec (.dmaMoveDone r idx failed) s = .next t →
    Untouched (moveRange o) s.hostMem t.hostMem) ∧
  (∀ (r : Fin 64) failed (o : Op) s t, takeOp s r 0x02 = some o → bits (o.word 1) 3 0 ≤ 4 →
    exec (.debugRead r failed) s = .next t → Untouched [(o.word 3, bits (o.word 4) 31 0)] s.hostMem t.hostMem) ∧
  (∀ (c : Instr) s t, ((∃ n, c = .hostAbortLatch n) ∨ (∃ k, c = .linkResetCmd k) ∨ c = .d3hotEntry ∨
      (∃ k, c = .ddrSelfRefreshEntered k) ∨ c.tap = true) →
    exec c s = .next t → Untouched (moveRanges s) s.hostMem t.hostMem) ∧
  (∀ (r : Fin 64) (good : Bool) (v : Fin 256) (o : Op) s t,
    (if bootStage s == 8 then takeOp s r 0x70 else hearthTake s r 0x70) = some o → exec (.fwWrite r good v) s = .next t →
    Untouched [(dirWord s (0x20 + 8 * bits (o.word 1) 0 0) 4, bits (o.word 3) 31 0)] s.flash t.flash) ∧
  (∀ (r : Fin 64) idx failed (o : Op) s t, opAt s r idx = some o → exec (.dmaMoveDone r idx failed) s = .next t →
    Untouched (waitingLines s ++ (if bits (o.word 3) 33 32 = 0 then [] else [lineRange (o.word 1) (bits (o.word 3) 31 0)]) ++
      (if bits (o.word 3) 33 32 = 1 then [] else [lineRange (o.word 2) (bits (o.word 3) 31 0)])) s.dram t.dram) ∧
  (∀ (r : Fin 64) failed (o : Op) s t, takeOp s r 0x02 = some o → bits (o.word 1) 3 0 ≤ 4 → exec (.debugRead r failed) s = .next t →
    Untouched (waitingLines s ++ [lineRange (o.word 2) (bits (o.word 4) 31 0)]) s.dram t.dram) ∧
  (∀ (k lines : Nat) (e : Slot) perr other meets s t, opening s 0x20 k = some e → s.offset = e.start → exec (.catchFlushWindow k ⟨lines, perr, other, meets⟩) s = .next t →
    Untouched [lineRange (s.rd CM_BASE_ADDR e.unit) (64 * s.rd CM_LINES_LINES e.unit)] s.dram t.dram) ∧
  (∀ (c : Instr) s t, c = .meshReportSend ∨ c = .meshReportPacket → exec c s = .next t →
    Untouched [lineRange (s.rd MS_REPORT_BASE_ADDR) (64 * s.rd MS_REPORT_LINES_LINES)] s.dram t.dram) ∧
  (∀ s t, exec .meshDataRequest s = .next t →
    Untouched (lineRange (s.rd MS_INBOX_BASE_ADDR) (s.rd MS_INBOX_SIZE_BYTES) :: waitingLines s) s.dram t.dram) ∧
  (∀ (slot : Nat) (upset : Option Upset) (j : Job) s t, s.disp.jobs.find? (fun j => j.slot == slot && j.place == .done) = some j →
    exec (.jobRelease ⟨slot, upset⟩) s = .next t → Untouched (lineRange j.doneAddr 32 :: waitingLines s) s.dram t.dram) ∧
  (∀ (c : Fin 8) (addr : Nat) (poison : Bool) (rest : List (Nat × Bool)) s t, (ddr_ s c).wb = (addr, poison) :: rest →
    exec (.writeBack c) s = .next t → Untouched [lineRange addr 1] s.dram t.dram) ∧
  (∀ s t, exec .rekeyLine s = .next t → 
    Untouched (lineRange (s.rd RK_POS_ADDR) 1 :: waitingLines s) s.dram t.dram) ∧
  (∀ (c : Instr) s t, (∃ n, c = .hostAbortLatch n) ∨ (∃ k, c = .linkResetCmd k) ∨ c = .d3hotEntry → exec c s = .next t →
    Untouched (imageRanges s) s.flash t.flash) ∧
  (∀ s t, exec .meshHostPacket s = .next t →
    Untouched (s.mesh.local_.filterMap fun e => match e.1.host with
      | some (.write a data) => some (a, data.length)
      | _ => none) s.hostMem t.hostMem)

/-- The schedule in force, of cycle length L and fixed at tick B, assigns frame index (t - B) mod L to the frame at
tick t: TICK leaves that index in SCHED_POS, and the entries of a frame are those that the directory gives for
it. A fix of a schedule makes the fix tick its B and gives that tick's frame index 0. -/
def Obligations.FrameIndexOfEveryTick : Prop :=
  (∀ s, tickWritesOk s = true → frozen s = false → s.now + 1 < 2 ^ 64 → 1 ≤ s.rd SCHED_POS_CYCLE_LEN →
    s.rd SCHED_POS_CYCLE_LEN ≤ 4096 →
    Runs .tick s fun t =>
      t.now = s.now + 1 ∧ t.sched = s.sched ∧ t.rd SCHED_BASE_BASE = s.rd SCHED_BASE_BASE ∧
        t.rd SCHED_POS_CYCLE_LEN = s.rd SCHED_POS_CYCLE_LEN ∧
        t.rd SCHED_POS_INDEX = (t.now - t.rd SCHED_BASE_BASE) % t.rd SCHED_POS_CYCLE_LEN) ∧
  (∀ (k : Nat) s, 1 ≤ s.rd SCHED_POS_CYCLE_LEN →
    currentSlot s k = (frameSlots s.sched ((s.now - s.rd SCHED_BASE_BASE) % s.rd SCHED_POS_CYCLE_LEN))[k]?) ∧
  (∀ (p : List Byte) s, s.now < 2 ^ 64 →
    (fixSchedule p s).sched = payMem p ∧ (fixSchedule p s).rd SCHED_BASE_BASE = s.now ∧
      (fixSchedule p s).rd SCHED_POS_CYCLE_LEN = bankCycle (payMem p) ∧ (fixSchedule p s).rd SCHED_POS_INDEX = 0 ∧
      frameIndex (fixSchedule p s) s.now = 0)

/-- A RETRY of a SHUT pin, in a bank without VCCO_MISMATCH, clears SHUT and counts RETRIES at core cycle 0 of the
next tick, and the driver runs again; a disagreement that persists shuts it again. A RETRY of a pin that is not
SHUT, or in a bank with VCCO_MISMATCH, changes nothing and is not counted. -/
def Obligations.RetryOfAPin : Prop :=
  (∀ (b : Fin 8) (p : Fin 48) s u t, tickWritesOk s = true → frozen s = false → s.io.retries = [] →
    exec (.pinRetry b p) s = .next u → exec .tick u = .next t →
    u.rd PIN_STATUS_SHUT b p = s.rd PIN_STATUS_SHUT b p ∧ t.offset = 0 ∧
    (s.flag PIN_STATUS_SHUT b p = true → s.flag BK_STATUS_VCCO_MISMATCH b = false →
      t.flag PIN_STATUS_SHUT b p = false ∧ t.mbit BK_SHUT_PINS p b = false ∧
        t.rd BK_COUNTS_RETRIES b = min (s.rd BK_COUNTS_RETRIES b + 1) BK_COUNTS_RETRIES.max ∧
        pinDrives t b p = (t.flag CFG_STATUS_GLOBAL_LOADED && decide (2 ≤ t.rd PIN_STATUS_DIR b p) && t.dbg.pins != 2 &&
          driverRuns t (48 * b + p)) ∧
        ∀ sensed, pinDrives t b p = true → Runs (.contentionDetect b p sensed) t fun v => v.rd PIN_STATUS_SHUT b p = 1) ∧
    (s.flag PIN_STATUS_SHUT b p = false ∨ s.flag BK_STATUS_VCCO_MISMATCH b = true →
      t.rd PIN_STATUS_SHUT b p = s.rd PIN_STATUS_SHUT b p ∧ t.mbit BK_SHUT_PINS p b = s.mbit BK_SHUT_PINS p b ∧
        t.rd BK_COUNTS_RETRIES b = s.rd BK_COUNTS_RETRIES b))

/-- A write through the bit-set alias leaves each byte it covers at its old value OR the data, one through the
bit-clear alias at its old value AND NOT the data, and every other byte unchanged, in one step; a read at an
alias address does what the read at its offset does, and changes no byte; an instruction fetch at an alias
address is refused; and an access through an alias is admitted as one to its offset is: one that is not is
answered REFUSED and stores nothing. -/
def Obligations.AliasesOfScratchpad : Prop :=
  (∀ (cls : Fin 4) sid (addr n : Nat) core0 (data : List Byte) s, addr < 0x800000 → addr + n ≤ 0x800000 → data.length = n → padFree s = true →
    padAdmits s cls .write false core0 addr n = true → s.sp.bad = [] → s.rd SP_INJECT_INJ_ECC1 = 0 →
    s.rd SP_INJECT_INJ_ECC2 = 0 →
    (Runs (.scratchpadAccess cls sid (0x800000 + addr) n 1 core0 data) s fun t =>
      t.sp.answers.head? = some (cls.val, Code.OK, []) ∧
        ∀ a : Nat, sget 0 t.scratch a =
          if addr ≤ a ∧ a < addr + n then sget 0 s.scratch a ||| data.getD (a - addr) 0 else sget 0 s.scratch a) ∧
    Runs (.scratchpadAccess cls sid (0x1000000 + addr) n 1 core0 data) s fun t =>
      t.sp.answers.head? = some (cls.val, Code.OK, []) ∧
        ∀ a : Nat, sget 0 t.scratch a =
          if addr ≤ a ∧ a < addr + n then sget 0 s.scratch a &&& ~~~(data.getD (a - addr) 0) else sget 0 s.scratch a) ∧
  (∀ (cls : Fin 4) sid (w addr n : Nat) core0 (data : List Byte) s, 1 ≤ w → w ≤ 2 → addr < 0x800000 → addr + n ≤ 0x800000 → padFree s = true →
    exec (.scratchpadAccess cls sid (w * 0x800000 + addr) n 0 core0 data) s =
        exec (.scratchpadAccess cls sid addr n 0 core0 data) s ∧
      Runs (.scratchpadAccess cls sid (w * 0x800000 + addr) n 0 core0 data) s fun t => t.scratch = s.scratch) ∧
  (∀ (cls : Fin 4) sid (w addr n : Nat) core0 (data : List Byte) s, 1 ≤ w → w ≤ 2 → addr < 0x800000 → addr + n ≤ 0x800000 → padFree s = true →
    Runs (.scratchpadAccess cls sid (w * 0x800000 + addr) n 2 core0 data) s fun t =>
      t.scratch = s.scratch ∧
        if inEmber addr n then t.sp.refused = s.sp.refused ++ [(cls.val, s.cycle, n)]
        else t.sp.answers.head? = some (cls.val, Code.REFUSED, List.replicate n 0)) ∧
  (∀ (cls : Fin 4) sid (w addr n : Nat) core0 (data : List Byte) s, 1 ≤ w → w ≤ 2 → addr < 0x800000 → addr + n ≤ 0x800000 → padFree s = true →
    padAdmits s cls .write false core0 addr n = false →
    Runs (.scratchpadAccess cls sid (w * 0x800000 + addr) n 1 core0 data) s fun t =>
      t.scratch = s.scratch ∧
        if inEmber addr n then t.sp.refused = s.sp.refused ++ [(cls.val, s.cycle, 0)]
        else t.sp.answers.head? = some (cls.val, Code.REFUSED, List.replicate n 0))
end

