-- ==== Sys2Proof/Laws/Sparse.lean ====
section
/-! SUPPORT. The laws of sparse tables: a read after a write, and the canonical form, which every write keeps. -/

namespace Sys2Proof.Machine

variable {α : Type}

@[simp] theorem sget_nil (d : α) (k : Nat) : sget d [] k = d := rfl

theorem srise_mono {b c : Nat} (h : b ≤ c) : ∀ m : List (Nat × α), srise c m = true → srise b m = true
  | [], _ => rfl
  | (a, _) :: t, hm => by
    simp only [srise, Bool.and_eq_true, decide_eq_true_eq] at hm ⊢
    exact ⟨by omega, hm.2⟩

theorem sget_of_srise (d : α) {k : Nat} : ∀ m : List (Nat × α), srise k m = true → sget d m k = d
  | [], _ => rfl
  | (a, w) :: t, hm => by
    simp only [srise, Bool.and_eq_true, decide_eq_true_eq] at hm
    have : a ≠ k := by omega
    simp only [sget, this, if_false]
    exact sget_of_srise d t (srise_mono (by omega) t hm.2)

/-- A write is read back. -/
theorem sget_sins_same (d v : α) (k : Nat) : ∀ m : List (Nat × α), sget d (sins m k v) k = v
  | [] => by simp [sins, sget]
  | (a, w) :: t => by
    unfold sins
    split
    · simp [sget]
    · split
      · simp [sget]
      · rename_i h1 h2
        have : a ≠ k := fun e => h2 e.symm
        simp only [sget, this, if_false]
        exact sget_sins_same d v k t

theorem sget_sins_ne (d v : α) {k j : Nat} (h : j ≠ k) : ∀ m : List (Nat × α), sget d (sins m k v) j = sget d m j
  | [] => by simp [sins, sget, h.symm]
  | (a, w) :: t => by
    unfold sins
    split
    · simp [sget, h.symm]
    · split
      · rename_i _ h2
        subst h2
        simp [sget, h.symm]
      · simp only [sget]
        rw [sget_sins_ne d v h t]

theorem sget_serase_same (d : α) (k : Nat) : ∀ m : List (Nat × α), sget d (serase m k) k = d
  | [] => rfl
  | (a, w) :: t => by
    unfold serase
    split
    · exact sget_serase_same d k t
    · rename_i h
      simp only [sget, h, if_false]
      exact sget_serase_same d k t

theorem sget_serase_ne (d : α) {k j : Nat} (h : j ≠ k) : ∀ m : List (Nat × α), sget d (serase m k) j = sget d m j
  | [] => rfl
  | (a, w) :: t => by
    unfold serase
    split
    · rename_i ha
      subst ha
      simp only [sget, h.symm, if_false]
      exact sget_serase_ne d h t
    · simp only [sget]
      rw [sget_serase_ne d h t]

variable [DecidableEq α]

@[simp] theorem sget_sput_same (d v : α) (m : List (Nat × α)) (k : Nat) : sget d (sput d m k v) k = v := by
  unfold sput
  split
  · rename_i h
    rw [sget_serase_same, h]
  · exact sget_sins_same d v k m

/-- A write leaves every other key. -/
theorem sget_sput_ne (d v : α) (m : List (Nat × α)) {k j : Nat} (h : j ≠ k) : sget d (sput d m k v) j = sget d m j := by
  unfold sput
  split
  · exact sget_serase_ne d h m
  · exact sget_sins_ne d v h m

theorem sget_sput (d v : α) (m : List (Nat × α)) (k j : Nat) :
    sget d (sput d m k v) j = if j = k then v else sget d m j := by
  split
  · rename_i h
    rw [h, sget_sput_same]
  · rename_i h
    exact sget_sput_ne d v m h

omit [DecidableEq α] in
theorem srise_serase {b k : Nat} : ∀ m : List (Nat × α), srise b m = true → srise b (serase m k) = true
  | [], _ => rfl
  | (a, w) :: t, hm => by
    simp only [srise, Bool.and_eq_true, decide_eq_true_eq] at hm
    unfold serase
    split
    · exact srise_serase t (srise_mono (by omega) t hm.2)
    · simp only [srise, Bool.and_eq_true, decide_eq_true_eq]
      exact ⟨hm.1, srise_serase t hm.2⟩

omit [DecidableEq α] in
theorem srise_sins {b k : Nat} (v : α) (hb : b < k) : ∀ m : List (Nat × α), srise b m = true → srise b (sins m k v) = true
  | [], _ => by simp [sins, srise, hb]
  | (a, w) :: t, hm => by
    simp only [srise, Bool.and_eq_true, decide_eq_true_eq] at hm
    unfold sins
    split
    · rename_i h
      simp only [srise, Bool.and_eq_true, decide_eq_true_eq]
      exact ⟨hb, h, hm.2⟩
    · split
      · rename_i h
        subst h
        simp only [srise, Bool.and_eq_true, decide_eq_true_eq]
        exact ⟨hb, hm.2⟩
      · rename_i h1 h2
        simp only [srise, Bool.and_eq_true, decide_eq_true_eq]
        exact ⟨hm.1, srise_sins v (by omega) t hm.2⟩

theorem swf_serase (d : α) (k : Nat) : ∀ m : List (Nat × α), swf d m = true → swf d (serase m k) = true
  | [], _ => rfl
  | (a, w) :: t, hm => by
    simp only [swf, Bool.and_eq_true, decide_eq_true_eq] at hm
    unfold serase
    split
    · exact swf_serase d k t hm.2
    · simp only [swf, Bool.and_eq_true, decide_eq_true_eq]
      exact ⟨⟨hm.1.1, srise_serase t hm.1.2⟩, swf_serase d k t hm.2⟩

theorem swf_sins (d : α) (k : Nat) {v : α} (hv : v ≠ d) : ∀ m : List (Nat × α), swf d m = true → swf d (sins m k v) = true
  | [], _ => by simp [sins, swf, srise, hv]
  | (a, w) :: t, hm => by
    simp only [swf, Bool.and_eq_true, decide_eq_true_eq] at hm
    unfold sins
    split
    · rename_i h
      simp only [swf, srise, Bool.and_eq_true, decide_eq_true_eq]
      exact ⟨⟨hv, h, hm.1.2⟩, hm.1, hm.2⟩
    · split
      · rename_i h
        subst h
        simp only [swf, Bool.and_eq_true, decide_eq_true_eq]
        exact ⟨⟨hv, hm.1.2⟩, hm.2⟩
      · rename_i h1 h2
        simp only [swf, Bool.and_eq_true, decide_eq_true_eq]
        exact ⟨⟨hm.1.1, srise_sins v (by omega) t hm.1.2⟩, swf_sins d k hv t hm.2⟩

/-- Every write keeps the canonical form. -/
theorem swf_sput (d v : α) (m : List (Nat × α)) (k : Nat) (h : swf d m = true) : swf d (sput d m k v) = true := by
  unfold sput
  split
  · exact swf_serase d k m h
  · rename_i hv
    exact swf_sins d k hv m h

omit [DecidableEq α] in
/-- Keeping some of the entries keeps the rise of the keys. -/
theorem srise_filter {b : Nat} (p : Nat × α → Bool) : ∀ m : List (Nat × α), srise b m = true → srise b (m.filter p) = true
  | [], _ => rfl
  | (a, w) :: t, hm => by
    simp only [srise, Bool.and_eq_true, decide_eq_true_eq] at hm
    rw [List.filter_cons]
    split
    · simp only [srise, Bool.and_eq_true, decide_eq_true_eq]
      exact ⟨hm.1, srise_filter p t hm.2⟩
    · exact srise_filter p t (srise_mono (by omega) t hm.2)

theorem swf_filter (d : α) (p : Nat × α → Bool) : ∀ m : List (Nat × α), swf d m = true → swf d (m.filter p) = true
  | [], _ => rfl
  | (a, w) :: t, hm => by
    simp only [swf, Bool.and_eq_true, decide_eq_true_eq] at hm
    rw [List.filter_cons]
    split
    · simp only [swf, Bool.and_eq_true, decide_eq_true_eq]
      exact ⟨⟨hm.1.1, srise_filter p t hm.1.2⟩, swf_filter d p t hm.2⟩
    · exact swf_filter d p t hm.2

end Sys2Proof.Machine
end

