-- ==== Sys2Proof/Laws/State.lean ====
section
/-! SUPPORT. What each update operation leaves of each piece of the state: one lemma per field and update. -/

namespace Sys2Proof.Machine

variable (s : State)

@[simp] theorem updPending_pending (f : List Instr → List Instr) : (s.updPending f).pending = f s.pending := rfl
@[simp] theorem updPending_regs (f : List Instr → List Instr) : (s.updPending f).regs = s.regs := rfl
@[simp] theorem updPending_tickWrites (f : List Instr → List Instr) : (s.updPending f).tickWrites = s.tickWrites := rfl
@[simp] theorem updPending_latches (f : List Instr → List Instr) : (s.updPending f).latches = s.latches := rfl
@[simp] theorem updPending_lowHalves (f : List Instr → List Instr) : (s.updPending f).lowHalves = s.lowHalves := rfl
@[simp] theorem updPending_drawn (f : List Instr → List Instr) : (s.updPending f).drawn = s.drawn := rfl
@[simp] theorem updPending_sched (f : List Instr → List Instr) : (s.updPending f).sched = s.sched := rfl
@[simp] theorem updPending_ev (f : List Instr → List Instr) : (s.updPending f).ev = s.ev := rfl
@[simp] theorem updPending_tick (f : List Instr → List Instr) : (s.updPending f).tick = s.tick := rfl
@[simp] theorem updPending_ops (f : List Instr → List Instr) : (s.updPending f).ops = s.ops := rfl
@[simp] theorem updPending_ready (f : List Instr → List Instr) : (s.updPending f).ready = s.ready := rfl
@[simp] theorem updPending_hostMem (f : List Instr → List Instr) : (s.updPending f).hostMem = s.hostMem := rfl
@[simp] theorem updPending_stage (f : List Instr → List Instr) : (s.updPending f).stage = s.stage := rfl
@[simp] theorem updPending_dbg (f : List Instr → List Instr) : (s.updPending f).dbg = s.dbg := rfl
@[simp] theorem updPending_scratch (f : List Instr → List Instr) : (s.updPending f).scratch = s.scratch := rfl
@[simp] theorem updPending_reels (f : List Instr → List Instr) : (s.updPending f).reels = s.reels := rfl
@[simp] theorem updPending_dram (f : List Instr → List Instr) : (s.updPending f).dram = s.dram := rfl
@[simp] theorem updPending_catches (f : List Instr → List Instr) : (s.updPending f).catches = s.catches := rfl
@[simp] theorem updPending_ddr (f : List Instr → List Instr) : (s.updPending f).ddr = s.ddr := rfl
@[simp] theorem updPending_records (f : List Instr → List Instr) : (s.updPending f).records = s.records := rfl
@[simp] theorem updPending_dramTags (f : List Instr → List Instr) : (s.updPending f).dramTags = s.dramTags := rfl
@[simp] theorem updPending_dramBad (f : List Instr → List Instr) : (s.updPending f).dramBad = s.dramBad := rfl
@[simp] theorem updPending_dramPoison (f : List Instr → List Instr) : (s.updPending f).dramPoison = s.dramPoison := rfl
@[simp] theorem updPending_dramWhole (f : List Instr → List Instr) : (s.updPending f).dramWhole = s.dramWhole := rfl
@[simp] theorem updPending_enc (f : List Instr → List Instr) : (s.updPending f).enc = s.enc := rfl
@[simp] theorem updPending_noc (f : List Instr → List Instr) : (s.updPending f).noc = s.noc := rfl
@[simp] theorem updPending_disp (f : List Instr → List Instr) : (s.updPending f).disp = s.disp := rfl
@[simp] theorem updPending_sp (f : List Instr → List Instr) : (s.updPending f).sp = s.sp := rfl
@[simp] theorem updPending_regions (f : List Instr → List Instr) : (s.updPending f).regions = s.regions := rfl
@[simp] theorem updPending_slices (f : List Instr → List Instr) : (s.updPending f).slices = s.slices := rfl
@[simp] theorem updPending_frames (f : List Instr → List Instr) : (s.updPending f).frames = s.frames := rfl
@[simp] theorem updPending_frameDyn (f : List Instr → List Instr) : (s.updPending f).frameDyn = s.frameDyn := rfl
@[simp] theorem updPending_frameCode (f : List Instr → List Instr) : (s.updPending f).frameCode = s.frameCode := rfl
@[simp] theorem updPending_frameBad (f : List Instr → List Instr) : (s.updPending f).frameBad = s.frameBad := rfl
@[simp] theorem updPending_cfg (f : List Instr → List Instr) : (s.updPending f).cfg = s.cfg := rfl
@[simp] theorem updPending_flash (f : List Instr → List Instr) : (s.updPending f).flash = s.flash := rfl
@[simp] theorem updPending_lanes (f : List Instr → List Instr) : (s.updPending f).lanes = s.lanes := rfl
@[simp] theorem updPending_groups (f : List Instr → List Instr) : (s.updPending f).groups = s.groups := rfl
@[simp] theorem updPending_clk (f : List Instr → List Instr) : (s.updPending f).clk = s.clk := rfl
@[simp] theorem updPending_mesh (f : List Instr → List Instr) : (s.updPending f).mesh = s.mesh := rfl
@[simp] theorem updPending_host (f : List Instr → List Instr) : (s.updPending f).host = s.host := rfl
@[simp] theorem updPending_pw (f : List Instr → List Instr) : (s.updPending f).pw = s.pw := rfl
@[simp] theorem updPending_io (f : List Instr → List Instr) : (s.updPending f).io = s.io := rfl
@[simp] theorem updPending_boot (f : List Instr → List Instr) : (s.updPending f).boot = s.boot := rfl
@[simp] theorem updRegs_pending (f : List (Nat × List (Nat × List (Nat × Nat))) → List (Nat × List (Nat × List (Nat × Nat)))) : (s.updRegs f).pending = s.pending := rfl
@[simp] theorem updRegs_regs (f : List (Nat × List (Nat × List (Nat × Nat))) → List (Nat × List (Nat × List (Nat × Nat)))) : (s.updRegs f).regs = f s.regs := rfl
@[simp] theorem updRegs_tickWrites (f : List (Nat × List (Nat × List (Nat × Nat))) → List (Nat × List (Nat × List (Nat × Nat)))) : (s.updRegs f).tickWrites = s.tickWrites := rfl
@[simp] theorem updRegs_latches (f : List (Nat × List (Nat × List (Nat × Nat))) → List (Nat × List (Nat × List (Nat × Nat)))) : (s.updRegs f).latches = s.latches := rfl
@[simp] theorem updRegs_lowHalves (f : List (Nat × List (Nat × List (Nat × Nat))) → List (Nat × List (Nat × List (Nat × Nat)))) : (s.updRegs f).lowHalves = s.lowHalves := rfl
@[simp] theorem updRegs_drawn (f : List (Nat × List (Nat × List (Nat × Nat))) → List (Nat × List (Nat × List (Nat × Nat)))) : (s.updRegs f).drawn = s.drawn := rfl
@[simp] theorem updRegs_sched (f : List (Nat × List (Nat × List (Nat × Nat))) → List (Nat × List (Nat × List (Nat × Nat)))) : (s.updRegs f).sched = s.sched := rfl
@[simp] theorem updRegs_ev (f : List (Nat × List (Nat × List (Nat × Nat))) → List (Nat × List (Nat × List (Nat × Nat)))) : (s.updRegs f).ev = s.ev := rfl
@[simp] theorem updRegs_tick (f : List (Nat × List (Nat × List (Nat × Nat))) → List (Nat × List (Nat × List (Nat × Nat)))) : (s.updRegs f).tick = s.tick := rfl
@[simp] theorem updRegs_ops (f : List (Nat × List (Nat × List (Nat × Nat))) → List (Nat × List (Nat × List (Nat × Nat)))) : (s.updRegs f).ops = s.ops := rfl
@[simp] theorem updRegs_ready (f : List (Nat × List (Nat × List (Nat × Nat))) → List (Nat × List (Nat × List (Nat × Nat)))) : (s.updRegs f).ready = s.ready := rfl
@[simp] theorem updRegs_hostMem (f : List (Nat × List (Nat × List (Nat × Nat))) → List (Nat × List (Nat × List (Nat × Nat)))) : (s.updRegs f).hostMem = s.hostMem := rfl
@[simp] theorem updRegs_stage (f : List (Nat × List (Nat × List (Nat × Nat))) → List (Nat × List (Nat × List (Nat × Nat)))) : (s.updRegs f).stage = s.stage := rfl
@[simp] theorem updRegs_dbg (f : List (Nat × List (Nat × List (Nat × Nat))) → List (Nat × List (Nat × List (Nat × Nat)))) : (s.updRegs f).dbg = s.dbg := rfl
@[simp] theorem updRegs_scratch (f : List (Nat × List (Nat × List (Nat × Nat))) → List (Nat × List (Nat × List (Nat × Nat)))) : (s.updRegs f).scratch = s.scratch := rfl
@[simp] theorem updRegs_reels (f : List (Nat × List (Nat × List (Nat × Nat))) → List (Nat × List (Nat × List (Nat × Nat)))) : (s.updRegs f).reels = s.reels := rfl
@[simp] theorem updRegs_dram (f : List (Nat × List (Nat × List (Nat × Nat))) → List (Nat × List (Nat × List (Nat × Nat)))) : (s.updRegs f).dram = s.dram := rfl
@[simp] theorem updRegs_catches (f : List (Nat × List (Nat × List (Nat × Nat))) → List (Nat × List (Nat × List (Nat × Nat)))) : (s.updRegs f).catches = s.catches := rfl
@[simp] theorem updRegs_ddr (f : List (Nat × List (Nat × List (Nat × Nat))) → List (Nat × List (Nat × List (Nat × Nat)))) : (s.updRegs f).ddr = s.ddr := rfl
@[simp] theorem updRegs_records (f : List (Nat × List (Nat × List (Nat × Nat))) → List (Nat × List (Nat × List (Nat × Nat)))) : (s.updRegs f).records = s.records := rfl
@[simp] theorem updRegs_dramTags (f : List (Nat × List (Nat × List (Nat × Nat))) → List (Nat × List (Nat × List (Nat × Nat)))) : (s.updRegs f).dramTags = s.dramTags := rfl
@[simp] theorem updRegs_dramBad (f : List (Nat × List (Nat × List (Nat × Nat))) → List (Nat × List (Nat × List (Nat × Nat)))) : (s.updRegs f).dramBad = s.dramBad := rfl
@[simp] theorem updRegs_dramPoison (f : List (Nat × List (Nat × List (Nat × Nat))) → List (Nat × List (Nat × List (Nat × Nat)))) : (s.updRegs f).dramPoison = s.dramPoison := rfl
@[simp] theorem updRegs_dramWhole (f : List (Nat × List (Nat × List (Nat × Nat))) → List (Nat × List (Nat × List (Nat × Nat)))) : (s.updRegs f).dramWhole = s.dramWhole := rfl
@[simp] theorem updRegs_enc (f : List (Nat × List (Nat × List (Nat × Nat))) → List (Nat × List (Nat × List (Nat × Nat)))) : (s.updRegs f).enc = s.enc := rfl
@[simp] theorem updRegs_noc (f : List (Nat × List (Nat × List (Nat × Nat))) → List (Nat × List (Nat × List (Nat × Nat)))) : (s.updRegs f).noc = s.noc := rfl
@[simp] theorem updRegs_disp (f : List (Nat × List (Nat × List (Nat × Nat))) → List (Nat × List (Nat × List (Nat × Nat)))) : (s.updRegs f).disp = s.disp := rfl
@[simp] theorem updRegs_sp (f : List (Nat × List (Nat × List (Nat × Nat))) → List (Nat × List (Nat × List (Nat × Nat)))) : (s.updRegs f).sp = s.sp := rfl
@[simp] theorem updRegs_regions (f : List (Nat × List (Nat × List (Nat × Nat))) → List (Nat × List (Nat × List (Nat × Nat)))) : (s.updRegs f).regions = s.regions := rfl
@[simp] theorem updRegs_slices (f : List (Nat × List (Nat × List (Nat × Nat))) → List (Nat × List (Nat × List (Nat × Nat)))) : (s.updRegs f).slices = s.slices := rfl
@[simp] theorem updRegs_frames (f : List (Nat × List (Nat × List (Nat × Nat))) → List (Nat × List (Nat × List (Nat × Nat)))) : (s.updRegs f).frames = s.frames := rfl
@[simp] theorem updRegs_frameDyn (f : List (Nat × List (Nat × List (Nat × Nat))) → List (Nat × List (Nat × List (Nat × Nat)))) : (s.updRegs f).frameDyn = s.frameDyn := rfl
@[simp] theorem updRegs_frameCode (f : List (Nat × List (Nat × List (Nat × Nat))) → List (Nat × List (Nat × List (Nat × Nat)))) : (s.updRegs f).frameCode = s.frameCode := rfl
@[simp] theorem updRegs_frameBad (f : List (Nat × List (Nat × List (Nat × Nat))) → List (Nat × List (Nat × List (Nat × Nat)))) : (s.updRegs f).frameBad = s.frameBad := rfl
@[simp] theorem updRegs_cfg (f : List (Nat × List (Nat × List (Nat × Nat))) → List (Nat × List (Nat × List (Nat × Nat)))) : (s.updRegs f).cfg = s.cfg := rfl
@[simp] theorem updRegs_flash (f : List (Nat × List (Nat × List (Nat × Nat))) → List (Nat × List (Nat × List (Nat × Nat)))) : (s.updRegs f).flash = s.flash := rfl
@[simp] theorem updRegs_lanes (f : List (Nat × List (Nat × List (Nat × Nat))) → List (Nat × List (Nat × List (Nat × Nat)))) : (s.updRegs f).lanes = s.lanes := rfl
@[simp] theorem updRegs_groups (f : List (Nat × List (Nat × List (Nat × Nat))) → List (Nat × List (Nat × List (Nat × Nat)))) : (s.updRegs f).groups = s.groups := rfl
@[simp] theorem updRegs_clk (f : List (Nat × List (Nat × List (Nat × Nat))) → List (Nat × List (Nat × List (Nat × Nat)))) : (s.updRegs f).clk = s.clk := rfl
@[simp] theorem updRegs_mesh (f : List (Nat × List (Nat × List (Nat × Nat))) → List (Nat × List (Nat × List (Nat × Nat)))) : (s.updRegs f).mesh = s.mesh := rfl
@[simp] theorem updRegs_host (f : List (Nat × List (Nat × List (Nat × Nat))) → List (Nat × List (Nat × List (Nat × Nat)))) : (s.updRegs f).host = s.host := rfl
@[simp] theorem updRegs_pw (f : List (Nat × List (Nat × List (Nat × Nat))) → List (Nat × List (Nat × List (Nat × Nat)))) : (s.updRegs f).pw = s.pw := rfl
@[simp] theorem updRegs_io (f : List (Nat × List (Nat × List (Nat × Nat))) → List (Nat × List (Nat × List (Nat × Nat)))) : (s.updRegs f).io = s.io := rfl
@[simp] theorem updRegs_boot (f : List (Nat × List (Nat × List (Nat × Nat))) → List (Nat × List (Nat × List (Nat × Nat)))) : (s.updRegs f).boot = s.boot := rfl
@[simp] theorem updTickWrites_pending (f : List FieldWrite → List FieldWrite) : (s.updTickWrites f).pending = s.pending := rfl
@[simp] theorem updTickWrites_regs (f : List FieldWrite → List FieldWrite) : (s.updTickWrites f).regs = s.regs := rfl
@[simp] theorem updTickWrites_tickWrites (f : List FieldWrite → List FieldWrite) : (s.updTickWrites f).tickWrites = f s.tickWrites := rfl
@[simp] theorem updTickWrites_latches (f : List FieldWrite → List FieldWrite) : (s.updTickWrites f).latches = s.latches := rfl
@[simp] theorem updTickWrites_lowHalves (f : List FieldWrite → List FieldWrite) : (s.updTickWrites f).lowHalves = s.lowHalves := rfl
@[simp] theorem updTickWrites_drawn (f : List FieldWrite → List FieldWrite) : (s.updTickWrites f).drawn = s.drawn := rfl
@[simp] theorem updTickWrites_sched (f : List FieldWrite → List FieldWrite) : (s.updTickWrites f).sched = s.sched := rfl
@[simp] theorem updTickWrites_ev (f : List FieldWrite → List FieldWrite) : (s.updTickWrites f).ev = s.ev := rfl
@[simp] theorem updTickWrites_tick (f : List FieldWrite → List FieldWrite) : (s.updTickWrites f).tick = s.tick := rfl
@[simp] theorem updTickWrites_ops (f : List FieldWrite → List FieldWrite) : (s.updTickWrites f).ops = s.ops := rfl
@[simp] theorem updTickWrites_ready (f : List FieldWrite → List FieldWrite) : (s.updTickWrites f).ready = s.ready := rfl
@[simp] theorem updTickWrites_hostMem (f : List FieldWrite → List FieldWrite) : (s.updTickWrites f).hostMem = s.hostMem := rfl
@[simp] theorem updTickWrites_stage (f : List FieldWrite → List FieldWrite) : (s.updTickWrites f).stage = s.stage := rfl
@[simp] theorem updTickWrites_dbg (f : List FieldWrite → List FieldWrite) : (s.updTickWrites f).dbg = s.dbg := rfl
@[simp] theorem updTickWrites_scratch (f : List FieldWrite → List FieldWrite) : (s.updTickWrites f).scratch = s.scratch := rfl
@[simp] theorem updTickWrites_reels (f : List FieldWrite → List FieldWrite) : (s.updTickWrites f).reels = s.reels := rfl
@[simp] theorem updTickWrites_dram (f : List FieldWrite → List FieldWrite) : (s.updTickWrites f).dram = s.dram := rfl
@[simp] theorem updTickWrites_catches (f : List FieldWrite → List FieldWrite) : (s.updTickWrites f).catches = s.catches := rfl
@[simp] theorem updTickWrites_ddr (f : List FieldWrite → List FieldWrite) : (s.updTickWrites f).ddr = s.ddr := rfl
@[simp] theorem updTickWrites_records (f : List FieldWrite → List FieldWrite) : (s.updTickWrites f).records = s.records := rfl
@[simp] theorem updTickWrites_dramTags (f : List FieldWrite → List FieldWrite) : (s.updTickWrites f).dramTags = s.dramTags := rfl
@[simp] theorem updTickWrites_dramBad (f : List FieldWrite → List FieldWrite) : (s.updTickWrites f).dramBad = s.dramBad := rfl
@[simp] theorem updTickWrites_dramPoison (f : List FieldWrite → List FieldWrite) : (s.updTickWrites f).dramPoison = s.dramPoison := rfl
@[simp] theorem updTickWrites_dramWhole (f : List FieldWrite → List FieldWrite) : (s.updTickWrites f).dramWhole = s.dramWhole := rfl
@[simp] theorem updTickWrites_enc (f : List FieldWrite → List FieldWrite) : (s.updTickWrites f).enc = s.enc := rfl
@[simp] theorem updTickWrites_noc (f : List FieldWrite → List FieldWrite) : (s.updTickWrites f).noc = s.noc := rfl
@[simp] theorem updTickWrites_disp (f : List FieldWrite → List FieldWrite) : (s.updTickWrites f).disp = s.disp := rfl
@[simp] theorem updTickWrites_sp (f : List FieldWrite → List FieldWrite) : (s.updTickWrites f).sp = s.sp := rfl
@[simp] theorem updTickWrites_regions (f : List FieldWrite → List FieldWrite) : (s.updTickWrites f).regions = s.regions := rfl
@[simp] theorem updTickWrites_slices (f : List FieldWrite → List FieldWrite) : (s.updTickWrites f).slices = s.slices := rfl
@[simp] theorem updTickWrites_frames (f : List FieldWrite → List FieldWrite) : (s.updTickWrites f).frames = s.frames := rfl
@[simp] theorem updTickWrites_frameDyn (f : List FieldWrite → List FieldWrite) : (s.updTickWrites f).frameDyn = s.frameDyn := rfl
@[simp] theorem updTickWrites_frameCode (f : List FieldWrite → List FieldWrite) : (s.updTickWrites f).frameCode = s.frameCode := rfl
@[simp] theorem updTickWrites_frameBad (f : List FieldWrite → List FieldWrite) : (s.updTickWrites f).frameBad = s.frameBad := rfl
@[simp] theorem updTickWrites_cfg (f : List FieldWrite → List FieldWrite) : (s.updTickWrites f).cfg = s.cfg := rfl
@[simp] theorem updTickWrites_flash (f : List FieldWrite → List FieldWrite) : (s.updTickWrites f).flash = s.flash := rfl
@[simp] theorem updTickWrites_lanes (f : List FieldWrite → List FieldWrite) : (s.updTickWrites f).lanes = s.lanes := rfl
@[simp] theorem updTickWrites_groups (f : List FieldWrite → List FieldWrite) : (s.updTickWrites f).groups = s.groups := rfl
@[simp] theorem updTickWrites_clk (f : List FieldWrite → List FieldWrite) : (s.updTickWrites f).clk = s.clk := rfl
@[simp] theorem updTickWrites_mesh (f : List FieldWrite → List FieldWrite) : (s.updTickWrites f).mesh = s.mesh := rfl
@[simp] theorem updTickWrites_host (f : List FieldWrite → List FieldWrite) : (s.updTickWrites f).host = s.host := rfl
@[simp] theorem updTickWrites_pw (f : List FieldWrite → List FieldWrite) : (s.updTickWrites f).pw = s.pw := rfl
@[simp] theorem updTickWrites_io (f : List FieldWrite → List FieldWrite) : (s.updTickWrites f).io = s.io := rfl
@[simp] theorem updTickWrites_boot (f : List FieldWrite → List FieldWrite) : (s.updTickWrites f).boot = s.boot := rfl
@[simp] theorem updLatches_pending (f : List (Nat × Nat) → List (Nat × Nat)) : (s.updLatches f).pending = s.pending := rfl
@[simp] theorem updLatches_regs (f : List (Nat × Nat) → List (Nat × Nat)) : (s.updLatches f).regs = s.regs := rfl
@[simp] theorem updLatches_tickWrites (f : List (Nat × Nat) → List (Nat × Nat)) : (s.updLatches f).tickWrites = s.tickWrites := rfl
@[simp] theorem updLatches_latches (f : List (Nat × Nat) → List (Nat × Nat)) : (s.updLatches f).latches = f s.latches := rfl
@[simp] theorem updLatches_lowHalves (f : List (Nat × Nat) → List (Nat × Nat)) : (s.updLatches f).lowHalves = s.lowHalves := rfl
@[simp] theorem updLatches_drawn (f : List (Nat × Nat) → List (Nat × Nat)) : (s.updLatches f).drawn = s.drawn := rfl
@[simp] theorem updLatches_sched (f : List (Nat × Nat) → List (Nat × Nat)) : (s.updLatches f).sched = s.sched := rfl
@[simp] theorem updLatches_ev (f : List (Nat × Nat) → List (Nat × Nat)) : (s.updLatches f).ev = s.ev := rfl
@[simp] theorem updLatches_tick (f : List (Nat × Nat) → List (Nat × Nat)) : (s.updLatches f).tick = s.tick := rfl
@[simp] theorem updLatches_ops (f : List (Nat × Nat) → List (Nat × Nat)) : (s.updLatches f).ops = s.ops := rfl
@[simp] theorem updLatches_ready (f : List (Nat × Nat) → List (Nat × Nat)) : (s.updLatches f).ready = s.ready := rfl
@[simp] theorem updLatches_hostMem (f : List (Nat × Nat) → List (Nat × Nat)) : (s.updLatches f).hostMem = s.hostMem := rfl
@[simp] theorem updLatches_stage (f : List (Nat × Nat) → List (Nat × Nat)) : (s.updLatches f).stage = s.stage := rfl
@[simp] theorem updLatches_dbg (f : List (Nat × Nat) → List (Nat × Nat)) : (s.updLatches f).dbg = s.dbg := rfl
@[simp] theorem updLatches_scratch (f : List (Nat × Nat) → List (Nat × Nat)) : (s.updLatches f).scratch = s.scratch := rfl
@[simp] theorem updLatches_reels (f : List (Nat × Nat) → List (Nat × Nat)) : (s.updLatches f).reels = s.reels := rfl
@[simp] theorem updLatches_dram (f : List (Nat × Nat) → List (Nat × Nat)) : (s.updLatches f).dram = s.dram := rfl
@[simp] theorem updLatches_catches (f : List (Nat × Nat) → List (Nat × Nat)) : (s.updLatches f).catches = s.catches := rfl
@[simp] theorem updLatches_ddr (f : List (Nat × Nat) → List (Nat × Nat)) : (s.updLatches f).ddr = s.ddr := rfl
@[simp] theorem updLatches_records (f : List (Nat × Nat) → List (Nat × Nat)) : (s.updLatches f).records = s.records := rfl
@[simp] theorem updLatches_dramTags (f : List (Nat × Nat) → List (Nat × Nat)) : (s.updLatches f).dramTags = s.dramTags := rfl
@[simp] theorem updLatches_dramBad (f : List (Nat × Nat) → List (Nat × Nat)) : (s.updLatches f).dramBad = s.dramBad := rfl
@[simp] theorem updLatches_dramPoison (f : List (Nat × Nat) → List (Nat × Nat)) : (s.updLatches f).dramPoison = s.dramPoison := rfl
@[simp] theorem updLatches_dramWhole (f : List (Nat × Nat) → List (Nat × Nat)) : (s.updLatches f).dramWhole = s.dramWhole := rfl
@[simp] theorem updLatches_enc (f : List (Nat × Nat) → List (Nat × Nat)) : (s.updLatches f).enc = s.enc := rfl
@[simp] theorem updLatches_noc (f : List (Nat × Nat) → List (Nat × Nat)) : (s.updLatches f).noc = s.noc := rfl
@[simp] theorem updLatches_disp (f : List (Nat × Nat) → List (Nat × Nat)) : (s.updLatches f).disp = s.disp := rfl
@[simp] theorem updLatches_sp (f : List (Nat × Nat) → List (Nat × Nat)) : (s.updLatches f).sp = s.sp := rfl
@[simp] theorem updLatches_regions (f : List (Nat × Nat) → List (Nat × Nat)) : (s.updLatches f).regions = s.regions := rfl
@[simp] theorem updLatches_slices (f : List (Nat × Nat) → List (Nat × Nat)) : (s.updLatches f).slices = s.slices := rfl
@[simp] theorem updLatches_frames (f : List (Nat × Nat) → List (Nat × Nat)) : (s.updLatches f).frames = s.frames := rfl
@[simp] theorem updLatches_frameDyn (f : List (Nat × Nat) → List (Nat × Nat)) : (s.updLatches f).frameDyn = s.frameDyn := rfl
@[simp] theorem updLatches_frameCode (f : List (Nat × Nat) → List (Nat × Nat)) : (s.updLatches f).frameCode = s.frameCode := rfl
@[simp] theorem updLatches_frameBad (f : List (Nat × Nat) → List (Nat × Nat)) : (s.updLatches f).frameBad = s.frameBad := rfl
@[simp] theorem updLatches_cfg (f : List (Nat × Nat) → List (Nat × Nat)) : (s.updLatches f).cfg = s.cfg := rfl
@[simp] theorem updLatches_flash (f : List (Nat × Nat) → List (Nat × Nat)) : (s.updLatches f).flash = s.flash := rfl
@[simp] theorem updLatches_lanes (f : List (Nat × Nat) → List (Nat × Nat)) : (s.updLatches f).lanes = s.lanes := rfl
@[simp] theorem updLatches_groups (f : List (Nat × Nat) → List (Nat × Nat)) : (s.updLatches f).groups = s.groups := rfl
@[simp] theorem updLatches_clk (f : List (Nat × Nat) → List (Nat × Nat)) : (s.updLatches f).clk = s.clk := rfl
@[simp] theorem updLatches_mesh (f : List (Nat × Nat) → List (Nat × Nat)) : (s.updLatches f).mesh = s.mesh := rfl
@[simp] theorem updLatches_host (f : List (Nat × Nat) → List (Nat × Nat)) : (s.updLatches f).host = s.host := rfl
@[simp] theorem updLatches_pw (f : List (Nat × Nat) → List (Nat × Nat)) : (s.updLatches f).pw = s.pw := rfl
@[simp] theorem updLatches_io (f : List (Nat × Nat) → List (Nat × Nat)) : (s.updLatches f).io = s.io := rfl
@[simp] theorem updLatches_boot (f : List (Nat × Nat) → List (Nat × Nat)) : (s.updLatches f).boot = s.boot := rfl
@[simp] theorem updLowHalves_pending (f : List (Nat × Nat) → List (Nat × Nat)) : (s.updLowHalves f).pending = s.pending := rfl
@[simp] theorem updLowHalves_regs (f : List (Nat × Nat) → List (Nat × Nat)) : (s.updLowHalves f).regs = s.regs := rfl
@[simp] theorem updLowHalves_tickWrites (f : List (Nat × Nat) → List (Nat × Nat)) : (s.updLowHalves f).tickWrites = s.tickWrites := rfl
@[simp] theorem updLowHalves_latches (f : List (Nat × Nat) → List (Nat × Nat)) : (s.updLowHalves f).latches = s.latches := rfl
@[simp] theorem updLowHalves_lowHalves (f : List (Nat × Nat) → List (Nat × Nat)) : (s.updLowHalves f).lowHalves = f s.lowHalves := rfl
@[simp] theorem updLowHalves_drawn (f : List (Nat × Nat) → List (Nat × Nat)) : (s.updLowHalves f).drawn = s.drawn := rfl
@[simp] theorem updLowHalves_sched (f : List (Nat × Nat) → List (Nat × Nat)) : (s.updLowHalves f).sched = s.sched := rfl
@[simp] theorem updLowHalves_ev (f : List (Nat × Nat) → List (Nat × Nat)) : (s.updLowHalves f).ev = s.ev := rfl
@[simp] theorem updLowHalves_tick (f : List (Nat × Nat) → List (Nat × Nat)) : (s.updLowHalves f).tick = s.tick := rfl
@[simp] theorem updLowHalves_ops (f : List (Nat × Nat) → List (Nat × Nat)) : (s.updLowHalves f).ops = s.ops := rfl
@[simp] theorem updLowHalves_ready (f : List (Nat × Nat) → List (Nat × Nat)) : (s.updLowHalves f).ready = s.ready := rfl
@[simp] theorem updLowHalves_hostMem (f : List (Nat × Nat) → List (Nat × Nat)) : (s.updLowHalves f).hostMem = s.hostMem := rfl
@[simp] theorem updLowHalves_stage (f : List (Nat × Nat) → List (Nat × Nat)) : (s.updLowHalves f).stage = s.stage := rfl
@[simp] theorem updLowHalves_dbg (f : List (Nat × Nat) → List (Nat × Nat)) : (s.updLowHalves f).dbg = s.dbg := rfl
@[simp] theorem updLowHalves_scratch (f : List (Nat × Nat) → List (Nat × Nat)) : (s.updLowHalves f).scratch = s.scratch := rfl
@[simp] theorem updLowHalves_reels (f : List (Nat × Nat) → List (Nat × Nat)) : (s.updLowHalves f).reels = s.reels := rfl
@[simp] theorem updLowHalves_dram (f : List (Nat × Nat) → List (Nat × Nat)) : (s.updLowHalves f).dram = s.dram := rfl
@[simp] theorem updLowHalves_catches (f : List (Nat × Nat) → List (Nat × Nat)) : (s.updLowHalves f).catches = s.catches := rfl
@[simp] theorem updLowHalves_ddr (f : List (Nat × Nat) → List (Nat × Nat)) : (s.updLowHalves f).ddr = s.ddr := rfl
@[simp] theorem updLowHalves_records (f : List (Nat × Nat) → List (Nat × Nat)) : (s.updLowHalves f).records = s.records := rfl
@[simp] theorem updLowHalves_dramTags (f : List (Nat × Nat) → List (Nat × Nat)) : (s.updLowHalves f).dramTags = s.dramTags := rfl
@[simp] theorem updLowHalves_dramBad (f : List (Nat × Nat) → List (Nat × Nat)) : (s.updLowHalves f).dramBad = s.dramBad := rfl
@[simp] theorem updLowHalves_dramPoison (f : List (Nat × Nat) → List (Nat × Nat)) : (s.updLowHalves f).dramPoison = s.dramPoison := rfl
@[simp] theorem updLowHalves_dramWhole (f : List (Nat × Nat) → List (Nat × Nat)) : (s.updLowHalves f).dramWhole = s.dramWhole := rfl
@[simp] theorem updLowHalves_enc (f : List (Nat × Nat) → List (Nat × Nat)) : (s.updLowHalves f).enc = s.enc := rfl
@[simp] theorem updLowHalves_noc (f : List (Nat × Nat) → List (Nat × Nat)) : (s.updLowHalves f).noc = s.noc := rfl
@[simp] theorem updLowHalves_disp (f : List (Nat × Nat) → List (Nat × Nat)) : (s.updLowHalves f).disp = s.disp := rfl
@[simp] theorem updLowHalves_sp (f : List (Nat × Nat) → List (Nat × Nat)) : (s.updLowHalves f).sp = s.sp := rfl
@[simp] theorem updLowHalves_regions (f : List (Nat × Nat) → List (Nat × Nat)) : (s.updLowHalves f).regions = s.regions := rfl
@[simp] theorem updLowHalves_slices (f : List (Nat × Nat) → List (Nat × Nat)) : (s.updLowHalves f).slices = s.slices := rfl
@[simp] theorem updLowHalves_frames (f : List (Nat × Nat) → List (Nat × Nat)) : (s.updLowHalves f).frames = s.frames := rfl
@[simp] theorem updLowHalves_frameDyn (f : List (Nat × Nat) → List (Nat × Nat)) : (s.updLowHalves f).frameDyn = s.frameDyn := rfl
@[simp] theorem updLowHalves_frameCode (f : List (Nat × Nat) → List (Nat × Nat)) : (s.updLowHalves f).frameCode = s.frameCode := rfl
@[simp] theorem updLowHalves_frameBad (f : List (Nat × Nat) → List (Nat × Nat)) : (s.updLowHalves f).frameBad = s.frameBad := rfl
@[simp] theorem updLowHalves_cfg (f : List (Nat × Nat) → List (Nat × Nat)) : (s.updLowHalves f).cfg = s.cfg := rfl
@[simp] theorem updLowHalves_flash (f : List (Nat × Nat) → List (Nat × Nat)) : (s.updLowHalves f).flash = s.flash := rfl
@[simp] theorem updLowHalves_lanes (f : List (Nat × Nat) → List (Nat × Nat)) : (s.updLowHalves f).lanes = s.lanes := rfl
@[simp] theorem updLowHalves_groups (f : List (Nat × Nat) → List (Nat × Nat)) : (s.updLowHalves f).groups = s.groups := rfl
@[simp] theorem updLowHalves_clk (f : List (Nat × Nat) → List (Nat × Nat)) : (s.updLowHalves f).clk = s.clk := rfl
@[simp] theorem updLowHalves_mesh (f : List (Nat × Nat) → List (Nat × Nat)) : (s.updLowHalves f).mesh = s.mesh := rfl
@[simp] theorem updLowHalves_host (f : List (Nat × Nat) → List (Nat × Nat)) : (s.updLowHalves f).host = s.host := rfl
@[simp] theorem updLowHalves_pw (f : List (Nat × Nat) → List (Nat × Nat)) : (s.updLowHalves f).pw = s.pw := rfl
@[simp] theorem updLowHalves_io (f : List (Nat × Nat) → List (Nat × Nat)) : (s.updLowHalves f).io = s.io := rfl
@[simp] theorem updLowHalves_boot (f : List (Nat × Nat) → List (Nat × Nat)) : (s.updLowHalves f).boot = s.boot := rfl
@[simp] theorem updDrawn_pending (f : Nat → Nat) : (s.updDrawn f).pending = s.pending := rfl
@[simp] theorem updDrawn_regs (f : Nat → Nat) : (s.updDrawn f).regs = s.regs := rfl
@[simp] theorem updDrawn_tickWrites (f : Nat → Nat) : (s.updDrawn f).tickWrites = s.tickWrites := rfl
@[simp] theorem updDrawn_latches (f : Nat → Nat) : (s.updDrawn f).latches = s.latches := rfl
@[simp] theorem updDrawn_lowHalves (f : Nat → Nat) : (s.updDrawn f).lowHalves = s.lowHalves := rfl
@[simp] theorem updDrawn_drawn (f : Nat → Nat) : (s.updDrawn f).drawn = f s.drawn := rfl
@[simp] theorem updDrawn_sched (f : Nat → Nat) : (s.updDrawn f).sched = s.sched := rfl
@[simp] theorem updDrawn_ev (f : Nat → Nat) : (s.updDrawn f).ev = s.ev := rfl
@[simp] theorem updDrawn_tick (f : Nat → Nat) : (s.updDrawn f).tick = s.tick := rfl
@[simp] theorem updDrawn_ops (f : Nat → Nat) : (s.updDrawn f).ops = s.ops := rfl
@[simp] theorem updDrawn_ready (f : Nat → Nat) : (s.updDrawn f).ready = s.ready := rfl
@[simp] theorem updDrawn_hostMem (f : Nat → Nat) : (s.updDrawn f).hostMem = s.hostMem := rfl
@[simp] theorem updDrawn_stage (f : Nat → Nat) : (s.updDrawn f).stage = s.stage := rfl
@[simp] theorem updDrawn_dbg (f : Nat → Nat) : (s.updDrawn f).dbg = s.dbg := rfl
@[simp] theorem updDrawn_scratch (f : Nat → Nat) : (s.updDrawn f).scratch = s.scratch := rfl
@[simp] theorem updDrawn_reels (f : Nat → Nat) : (s.updDrawn f).reels = s.reels := rfl
@[simp] theorem updDrawn_dram (f : Nat → Nat) : (s.updDrawn f).dram = s.dram := rfl
@[simp] theorem updDrawn_catches (f : Nat → Nat) : (s.updDrawn f).catches = s.catches := rfl
@[simp] theorem updDrawn_ddr (f : Nat → Nat) : (s.updDrawn f).ddr = s.ddr := rfl
@[simp] theorem updDrawn_records (f : Nat → Nat) : (s.updDrawn f).records = s.records := rfl
@[simp] theorem updDrawn_dramTags (f : Nat → Nat) : (s.updDrawn f).dramTags = s.dramTags := rfl
@[simp] theorem updDrawn_dramBad (f : Nat → Nat) : (s.updDrawn f).dramBad = s.dramBad := rfl
@[simp] theorem updDrawn_dramPoison (f : Nat → Nat) : (s.updDrawn f).dramPoison = s.dramPoison := rfl
@[simp] theorem updDrawn_dramWhole (f : Nat → Nat) : (s.updDrawn f).dramWhole = s.dramWhole := rfl
@[simp] theorem updDrawn_enc (f : Nat → Nat) : (s.updDrawn f).enc = s.enc := rfl
@[simp] theorem updDrawn_noc (f : Nat → Nat) : (s.updDrawn f).noc = s.noc := rfl
@[simp] theorem updDrawn_disp (f : Nat → Nat) : (s.updDrawn f).disp = s.disp := rfl
@[simp] theorem updDrawn_sp (f : Nat → Nat) : (s.updDrawn f).sp = s.sp := rfl
@[simp] theorem updDrawn_regions (f : Nat → Nat) : (s.updDrawn f).regions = s.regions := rfl
@[simp] theorem updDrawn_slices (f : Nat → Nat) : (s.updDrawn f).slices = s.slices := rfl
@[simp] theorem updDrawn_frames (f : Nat → Nat) : (s.updDrawn f).frames = s.frames := rfl
@[simp] theorem updDrawn_frameDyn (f : Nat → Nat) : (s.updDrawn f).frameDyn = s.frameDyn := rfl
@[simp] theorem updDrawn_frameCode (f : Nat → Nat) : (s.updDrawn f).frameCode = s.frameCode := rfl
@[simp] theorem updDrawn_frameBad (f : Nat → Nat) : (s.updDrawn f).frameBad = s.frameBad := rfl
@[simp] theorem updDrawn_cfg (f : Nat → Nat) : (s.updDrawn f).cfg = s.cfg := rfl
@[simp] theorem updDrawn_flash (f : Nat → Nat) : (s.updDrawn f).flash = s.flash := rfl
@[simp] theorem updDrawn_lanes (f : Nat → Nat) : (s.updDrawn f).lanes = s.lanes := rfl
@[simp] theorem updDrawn_groups (f : Nat → Nat) : (s.updDrawn f).groups = s.groups := rfl
@[simp] theorem updDrawn_clk (f : Nat → Nat) : (s.updDrawn f).clk = s.clk := rfl
@[simp] theorem updDrawn_mesh (f : Nat → Nat) : (s.updDrawn f).mesh = s.mesh := rfl
@[simp] theorem updDrawn_host (f : Nat → Nat) : (s.updDrawn f).host = s.host := rfl
@[simp] theorem updDrawn_pw (f : Nat → Nat) : (s.updDrawn f).pw = s.pw := rfl
@[simp] theorem updDrawn_io (f : Nat → Nat) : (s.updDrawn f).io = s.io := rfl
@[simp] theorem updDrawn_boot (f : Nat → Nat) : (s.updDrawn f).boot = s.boot := rfl
@[simp] theorem updSched_pending (f : Mem → Mem) : (s.updSched f).pending = s.pending := rfl
@[simp] theorem updSched_regs (f : Mem → Mem) : (s.updSched f).regs = s.regs := rfl
@[simp] theorem updSched_tickWrites (f : Mem → Mem) : (s.updSched f).tickWrites = s.tickWrites := rfl
@[simp] theorem updSched_latches (f : Mem → Mem) : (s.updSched f).latches = s.latches := rfl
@[simp] theorem updSched_lowHalves (f : Mem → Mem) : (s.updSched f).lowHalves = s.lowHalves := rfl
@[simp] theorem updSched_drawn (f : Mem → Mem) : (s.updSched f).drawn = s.drawn := rfl
@[simp] theorem updSched_sched (f : Mem → Mem) : (s.updSched f).sched = f s.sched := rfl
@[simp] theorem updSched_ev (f : Mem → Mem) : (s.updSched f).ev = s.ev := rfl
@[simp] theorem updSched_tick (f : Mem → Mem) : (s.updSched f).tick = s.tick := rfl
@[simp] theorem updSched_ops (f : Mem → Mem) : (s.updSched f).ops = s.ops := rfl
@[simp] theorem updSched_ready (f : Mem → Mem) : (s.updSched f).ready = s.ready := rfl
@[simp] theorem updSched_hostMem (f : Mem → Mem) : (s.updSched f).hostMem = s.hostMem := rfl
@[simp] theorem updSched_stage (f : Mem → Mem) : (s.updSched f).stage = s.stage := rfl
@[simp] theorem updSched_dbg (f : Mem → Mem) : (s.updSched f).dbg = s.dbg := rfl
@[simp] theorem updSched_scratch (f : Mem → Mem) : (s.updSched f).scratch = s.scratch := rfl
@[simp] theorem updSched_reels (f : Mem → Mem) : (s.updSched f).reels = s.reels := rfl
@[simp] theorem updSched_dram (f : Mem → Mem) : (s.updSched f).dram = s.dram := rfl
@[simp] theorem updSched_catches (f : Mem → Mem) : (s.updSched f).catches = s.catches := rfl
@[simp] theorem updSched_ddr (f : Mem → Mem) : (s.updSched f).ddr = s.ddr := rfl
@[simp] theorem updSched_records (f : Mem → Mem) : (s.updSched f).records = s.records := rfl
@[simp] theorem updSched_dramTags (f : Mem → Mem) : (s.updSched f).dramTags = s.dramTags := rfl
@[simp] theorem updSched_dramBad (f : Mem → Mem) : (s.updSched f).dramBad = s.dramBad := rfl
@[simp] theorem updSched_dramPoison (f : Mem → Mem) : (s.updSched f).dramPoison = s.dramPoison := rfl
@[simp] theorem updSched_dramWhole (f : Mem → Mem) : (s.updSched f).dramWhole = s.dramWhole := rfl
@[simp] theorem updSched_enc (f : Mem → Mem) : (s.updSched f).enc = s.enc := rfl
@[simp] theorem updSched_noc (f : Mem → Mem) : (s.updSched f).noc = s.noc := rfl
@[simp] theorem updSched_disp (f : Mem → Mem) : (s.updSched f).disp = s.disp := rfl
@[simp] theorem updSched_sp (f : Mem → Mem) : (s.updSched f).sp = s.sp := rfl
@[simp] theorem updSched_regions (f : Mem → Mem) : (s.updSched f).regions = s.regions := rfl
@[simp] theorem updSched_slices (f : Mem → Mem) : (s.updSched f).slices = s.slices := rfl
@[simp] theorem updSched_frames (f : Mem → Mem) : (s.updSched f).frames = s.frames := rfl
@[simp] theorem updSched_frameDyn (f : Mem → Mem) : (s.updSched f).frameDyn = s.frameDyn := rfl
@[simp] theorem updSched_frameCode (f : Mem → Mem) : (s.updSched f).frameCode = s.frameCode := rfl
@[simp] theorem updSched_frameBad (f : Mem → Mem) : (s.updSched f).frameBad = s.frameBad := rfl
@[simp] theorem updSched_cfg (f : Mem → Mem) : (s.updSched f).cfg = s.cfg := rfl
@[simp] theorem updSched_flash (f : Mem → Mem) : (s.updSched f).flash = s.flash := rfl
@[simp] theorem updSched_lanes (f : Mem → Mem) : (s.updSched f).lanes = s.lanes := rfl
@[simp] theorem updSched_groups (f : Mem → Mem) : (s.updSched f).groups = s.groups := rfl
@[simp] theorem updSched_clk (f : Mem → Mem) : (s.updSched f).clk = s.clk := rfl
@[simp] theorem updSched_mesh (f : Mem → Mem) : (s.updSched f).mesh = s.mesh := rfl
@[simp] theorem updSched_host (f : Mem → Mem) : (s.updSched f).host = s.host := rfl
@[simp] theorem updSched_pw (f : Mem → Mem) : (s.updSched f).pw = s.pw := rfl
@[simp] theorem updSched_io (f : Mem → Mem) : (s.updSched f).io = s.io := rfl
@[simp] theorem updSched_boot (f : Mem → Mem) : (s.updSched f).boot = s.boot := rfl
@[simp] theorem updEv_pending (f : EvSt → EvSt) : (s.updEv f).pending = s.pending := rfl
@[simp] theorem updEv_regs (f : EvSt → EvSt) : (s.updEv f).regs = s.regs := rfl
@[simp] theorem updEv_tickWrites (f : EvSt → EvSt) : (s.updEv f).tickWrites = s.tickWrites := rfl
@[simp] theorem updEv_latches (f : EvSt → EvSt) : (s.updEv f).latches = s.latches := rfl
@[simp] theorem updEv_lowHalves (f : EvSt → EvSt) : (s.updEv f).lowHalves = s.lowHalves := rfl
@[simp] theorem updEv_drawn (f : EvSt → EvSt) : (s.updEv f).drawn = s.drawn := rfl
@[simp] theorem updEv_sched (f : EvSt → EvSt) : (s.updEv f).sched = s.sched := rfl
@[simp] theorem updEv_ev (f : EvSt → EvSt) : (s.updEv f).ev = f s.ev := rfl
@[simp] theorem updEv_tick (f : EvSt → EvSt) : (s.updEv f).tick = s.tick := rfl
@[simp] theorem updEv_ops (f : EvSt → EvSt) : (s.updEv f).ops = s.ops := rfl
@[simp] theorem updEv_ready (f : EvSt → EvSt) : (s.updEv f).ready = s.ready := rfl
@[simp] theorem updEv_hostMem (f : EvSt → EvSt) : (s.updEv f).hostMem = s.hostMem := rfl
@[simp] theorem updEv_stage (f : EvSt → EvSt) : (s.updEv f).stage = s.stage := rfl
@[simp] theorem updEv_dbg (f : EvSt → EvSt) : (s.updEv f).dbg = s.dbg := rfl
@[simp] theorem updEv_scratch (f : EvSt → EvSt) : (s.updEv f).scratch = s.scratch := rfl
@[simp] theorem updEv_reels (f : EvSt → EvSt) : (s.updEv f).reels = s.reels := rfl
@[simp] theorem updEv_dram (f : EvSt → EvSt) : (s.updEv f).dram = s.dram := rfl
@[simp] theorem updEv_catches (f : EvSt → EvSt) : (s.updEv f).catches = s.catches := rfl
@[simp] theorem updEv_ddr (f : EvSt → EvSt) : (s.updEv f).ddr = s.ddr := rfl
@[simp] theorem updEv_records (f : EvSt → EvSt) : (s.updEv f).records = s.records := rfl
@[simp] theorem updEv_dramTags (f : EvSt → EvSt) : (s.updEv f).dramTags = s.dramTags := rfl
@[simp] theorem updEv_dramBad (f : EvSt → EvSt) : (s.updEv f).dramBad = s.dramBad := rfl
@[simp] theorem updEv_dramPoison (f : EvSt → EvSt) : (s.updEv f).dramPoison = s.dramPoison := rfl
@[simp] theorem updEv_dramWhole (f : EvSt → EvSt) : (s.updEv f).dramWhole = s.dramWhole := rfl
@[simp] theorem updEv_enc (f : EvSt → EvSt) : (s.updEv f).enc = s.enc := rfl
@[simp] theorem updEv_noc (f : EvSt → EvSt) : (s.updEv f).noc = s.noc := rfl
@[simp] theorem updEv_disp (f : EvSt → EvSt) : (s.updEv f).disp = s.disp := rfl
@[simp] theorem updEv_sp (f : EvSt → EvSt) : (s.updEv f).sp = s.sp := rfl
@[simp] theorem updEv_regions (f : EvSt → EvSt) : (s.updEv f).regions = s.regions := rfl
@[simp] theorem updEv_slices (f : EvSt → EvSt) : (s.updEv f).slices = s.slices := rfl
@[simp] theorem updEv_frames (f : EvSt → EvSt) : (s.updEv f).frames = s.frames := rfl
@[simp] theorem updEv_frameDyn (f : EvSt → EvSt) : (s.updEv f).frameDyn = s.frameDyn := rfl
@[simp] theorem updEv_frameCode (f : EvSt → EvSt) : (s.updEv f).frameCode = s.frameCode := rfl
@[simp] theorem updEv_frameBad (f : EvSt → EvSt) : (s.updEv f).frameBad = s.frameBad := rfl
@[simp] theorem updEv_cfg (f : EvSt → EvSt) : (s.updEv f).cfg = s.cfg := rfl
@[simp] theorem updEv_flash (f : EvSt → EvSt) : (s.updEv f).flash = s.flash := rfl
@[simp] theorem updEv_lanes (f : EvSt → EvSt) : (s.updEv f).lanes = s.lanes := rfl
@[simp] theorem updEv_groups (f : EvSt → EvSt) : (s.updEv f).groups = s.groups := rfl
@[simp] theorem updEv_clk (f : EvSt → EvSt) : (s.updEv f).clk = s.clk := rfl
@[simp] theorem updEv_mesh (f : EvSt → EvSt) : (s.updEv f).mesh = s.mesh := rfl
@[simp] theorem updEv_host (f : EvSt → EvSt) : (s.updEv f).host = s.host := rfl
@[simp] theorem updEv_pw (f : EvSt → EvSt) : (s.updEv f).pw = s.pw := rfl
@[simp] theorem updEv_io (f : EvSt → EvSt) : (s.updEv f).io = s.io := rfl
@[simp] theorem updEv_boot (f : EvSt → EvSt) : (s.updEv f).boot = s.boot := rfl
@[simp] theorem updTick_pending (f : TickSt → TickSt) : (s.updTick f).pending = s.pending := rfl
@[simp] theorem updTick_regs (f : TickSt → TickSt) : (s.updTick f).regs = s.regs := rfl
@[simp] theorem updTick_tickWrites (f : TickSt → TickSt) : (s.updTick f).tickWrites = s.tickWrites := rfl
@[simp] theorem updTick_latches (f : TickSt → TickSt) : (s.updTick f).latches = s.latches := rfl
@[simp] theorem updTick_lowHalves (f : TickSt → TickSt) : (s.updTick f).lowHalves = s.lowHalves := rfl
@[simp] theorem updTick_drawn (f : TickSt → TickSt) : (s.updTick f).drawn = s.drawn := rfl
@[simp] theorem updTick_sched (f : TickSt → TickSt) : (s.updTick f).sched = s.sched := rfl
@[simp] theorem updTick_ev (f : TickSt → TickSt) : (s.updTick f).ev = s.ev := rfl
@[simp] theorem updTick_tick (f : TickSt → TickSt) : (s.updTick f).tick = f s.tick := rfl
@[simp] theorem updTick_ops (f : TickSt → TickSt) : (s.updTick f).ops = s.ops := rfl
@[simp] theorem updTick_ready (f : TickSt → TickSt) : (s.updTick f).ready = s.ready := rfl
@[simp] theorem updTick_hostMem (f : TickSt → TickSt) : (s.updTick f).hostMem = s.hostMem := rfl
@[simp] theorem updTick_stage (f : TickSt → TickSt) : (s.updTick f).stage = s.stage := rfl
@[simp] theorem updTick_dbg (f : TickSt → TickSt) : (s.updTick f).dbg = s.dbg := rfl
@[simp] theorem updTick_scratch (f : TickSt → TickSt) : (s.updTick f).scratch = s.scratch := rfl
@[simp] theorem updTick_reels (f : TickSt → TickSt) : (s.updTick f).reels = s.reels := rfl
@[simp] theorem updTick_dram (f : TickSt → TickSt) : (s.updTick f).dram = s.dram := rfl
@[simp] theorem updTick_catches (f : TickSt → TickSt) : (s.updTick f).catches = s.catches := rfl
@[simp] theorem updTick_ddr (f : TickSt → TickSt) : (s.updTick f).ddr = s.ddr := rfl
@[simp] theorem updTick_records (f : TickSt → TickSt) : (s.updTick f).records = s.records := rfl
@[simp] theorem updTick_dramTags (f : TickSt → TickSt) : (s.updTick f).dramTags = s.dramTags := rfl
@[simp] theorem updTick_dramBad (f : TickSt → TickSt) : (s.updTick f).dramBad = s.dramBad := rfl
@[simp] theorem updTick_dramPoison (f : TickSt → TickSt) : (s.updTick f).dramPoison = s.dramPoison := rfl
@[simp] theorem updTick_dramWhole (f : TickSt → TickSt) : (s.updTick f).dramWhole = s.dramWhole := rfl
@[simp] theorem updTick_enc (f : TickSt → TickSt) : (s.updTick f).enc = s.enc := rfl
@[simp] theorem updTick_noc (f : TickSt → TickSt) : (s.updTick f).noc = s.noc := rfl
@[simp] theorem updTick_disp (f : TickSt → TickSt) : (s.updTick f).disp = s.disp := rfl
@[simp] theorem updTick_sp (f : TickSt → TickSt) : (s.updTick f).sp = s.sp := rfl
@[simp] theorem updTick_regions (f : TickSt → TickSt) : (s.updTick f).regions = s.regions := rfl
@[simp] theorem updTick_slices (f : TickSt → TickSt) : (s.updTick f).slices = s.slices := rfl
@[simp] theorem updTick_frames (f : TickSt → TickSt) : (s.updTick f).frames = s.frames := rfl
@[simp] theorem updTick_frameDyn (f : TickSt → TickSt) : (s.updTick f).frameDyn = s.frameDyn := rfl
@[simp] theorem updTick_frameCode (f : TickSt → TickSt) : (s.updTick f).frameCode = s.frameCode := rfl
@[simp] theorem updTick_frameBad (f : TickSt → TickSt) : (s.updTick f).frameBad = s.frameBad := rfl
@[simp] theorem updTick_cfg (f : TickSt → TickSt) : (s.updTick f).cfg = s.cfg := rfl
@[simp] theorem updTick_flash (f : TickSt → TickSt) : (s.updTick f).flash = s.flash := rfl
@[simp] theorem updTick_lanes (f : TickSt → TickSt) : (s.updTick f).lanes = s.lanes := rfl
@[simp] theorem updTick_groups (f : TickSt → TickSt) : (s.updTick f).groups = s.groups := rfl
@[simp] theorem updTick_clk (f : TickSt → TickSt) : (s.updTick f).clk = s.clk := rfl
@[simp] theorem updTick_mesh (f : TickSt → TickSt) : (s.updTick f).mesh = s.mesh := rfl
@[simp] theorem updTick_host (f : TickSt → TickSt) : (s.updTick f).host = s.host := rfl
@[simp] theorem updTick_pw (f : TickSt → TickSt) : (s.updTick f).pw = s.pw := rfl
@[simp] theorem updTick_io (f : TickSt → TickSt) : (s.updTick f).io = s.io := rfl
@[simp] theorem updTick_boot (f : TickSt → TickSt) : (s.updTick f).boot = s.boot := rfl
@[simp] theorem updOps_pending (f : List Op → List Op) : (s.updOps f).pending = s.pending := rfl
@[simp] theorem updOps_regs (f : List Op → List Op) : (s.updOps f).regs = s.regs := rfl
@[simp] theorem updOps_tickWrites (f : List Op → List Op) : (s.updOps f).tickWrites = s.tickWrites := rfl
@[simp] theorem updOps_latches (f : List Op → List Op) : (s.updOps f).latches = s.latches := rfl
@[simp] theorem updOps_lowHalves (f : List Op → List Op) : (s.updOps f).lowHalves = s.lowHalves := rfl
@[simp] theorem updOps_drawn (f : List Op → List Op) : (s.updOps f).drawn = s.drawn := rfl
@[simp] theorem updOps_sched (f : List Op → List Op) : (s.updOps f).sched = s.sched := rfl
@[simp] theorem updOps_ev (f : List Op → List Op) : (s.updOps f).ev = s.ev := rfl
@[simp] theorem updOps_tick (f : List Op → List Op) : (s.updOps f).tick = s.tick := rfl
@[simp] theorem updOps_ops (f : List Op → List Op) : (s.updOps f).ops = f s.ops := rfl
@[simp] theorem updOps_ready (f : List Op → List Op) : (s.updOps f).ready = s.ready := rfl
@[simp] theorem updOps_hostMem (f : List Op → List Op) : (s.updOps f).hostMem = s.hostMem := rfl
@[simp] theorem updOps_stage (f : List Op → List Op) : (s.updOps f).stage = s.stage := rfl
@[simp] theorem updOps_dbg (f : List Op → List Op) : (s.updOps f).dbg = s.dbg := rfl
@[simp] theorem updOps_scratch (f : List Op → List Op) : (s.updOps f).scratch = s.scratch := rfl
@[simp] theorem updOps_reels (f : List Op → List Op) : (s.updOps f).reels = s.reels := rfl
@[simp] theorem updOps_dram (f : List Op → List Op) : (s.updOps f).dram = s.dram := rfl
@[simp] theorem updOps_catches (f : List Op → List Op) : (s.updOps f).catches = s.catches := rfl
@[simp] theorem updOps_ddr (f : List Op → List Op) : (s.updOps f).ddr = s.ddr := rfl
@[simp] theorem updOps_records (f : List Op → List Op) : (s.updOps f).records = s.records := rfl
@[simp] theorem updOps_dramTags (f : List Op → List Op) : (s.updOps f).dramTags = s.dramTags := rfl
@[simp] theorem updOps_dramBad (f : List Op → List Op) : (s.updOps f).dramBad = s.dramBad := rfl
@[simp] theorem updOps_dramPoison (f : List Op → List Op) : (s.updOps f).dramPoison = s.dramPoison := rfl
@[simp] theorem updOps_dramWhole (f : List Op → List Op) : (s.updOps f).dramWhole = s.dramWhole := rfl
@[simp] theorem updOps_enc (f : List Op → List Op) : (s.updOps f).enc = s.enc := rfl
@[simp] theorem updOps_noc (f : List Op → List Op) : (s.updOps f).noc = s.noc := rfl
@[simp] theorem updOps_disp (f : List Op → List Op) : (s.updOps f).disp = s.disp := rfl
@[simp] theorem updOps_sp (f : List Op → List Op) : (s.updOps f).sp = s.sp := rfl
@[simp] theorem updOps_regions (f : List Op → List Op) : (s.updOps f).regions = s.regions := rfl
@[simp] theorem updOps_slices (f : List Op → List Op) : (s.updOps f).slices = s.slices := rfl
@[simp] theorem updOps_frames (f : List Op → List Op) : (s.updOps f).frames = s.frames := rfl
@[simp] theorem updOps_frameDyn (f : List Op → List Op) : (s.updOps f).frameDyn = s.frameDyn := rfl
@[simp] theorem updOps_frameCode (f : List Op → List Op) : (s.updOps f).frameCode = s.frameCode := rfl
@[simp] theorem updOps_frameBad (f : List Op → List Op) : (s.updOps f).frameBad = s.frameBad := rfl
@[simp] theorem updOps_cfg (f : List Op → List Op) : (s.updOps f).cfg = s.cfg := rfl
@[simp] theorem updOps_flash (f : List Op → List Op) : (s.updOps f).flash = s.flash := rfl
@[simp] theorem updOps_lanes (f : List Op → List Op) : (s.updOps f).lanes = s.lanes := rfl
@[simp] theorem updOps_groups (f : List Op → List Op) : (s.updOps f).groups = s.groups := rfl
@[simp] theorem updOps_clk (f : List Op → List Op) : (s.updOps f).clk = s.clk := rfl
@[simp] theorem updOps_mesh (f : List Op → List Op) : (s.updOps f).mesh = s.mesh := rfl
@[simp] theorem updOps_host (f : List Op → List Op) : (s.updOps f).host = s.host := rfl
@[simp] theorem updOps_pw (f : List Op → List Op) : (s.updOps f).pw = s.pw := rfl
@[simp] theorem updOps_io (f : List Op → List Op) : (s.updOps f).io = s.io := rfl
@[simp] theorem updOps_boot (f : List Op → List Op) : (s.updOps f).boot = s.boot := rfl
@[simp] theorem updReady_pending (f : List (Nat × Nat) → List (Nat × Nat)) : (s.updReady f).pending = s.pending := rfl
@[simp] theorem updReady_regs (f : List (Nat × Nat) → List (Nat × Nat)) : (s.updReady f).regs = s.regs := rfl
@[simp] theorem updReady_tickWrites (f : List (Nat × Nat) → List (Nat × Nat)) : (s.updReady f).tickWrites = s.tickWrites := rfl
@[simp] theorem updReady_latches (f : List (Nat × Nat) → List (Nat × Nat)) : (s.updReady f).latches = s.latches := rfl
@[simp] theorem updReady_lowHalves (f : List (Nat × Nat) → List (Nat × Nat)) : (s.updReady f).lowHalves = s.lowHalves := rfl
@[simp] theorem updReady_drawn (f : List (Nat × Nat) → List (Nat × Nat)) : (s.updReady f).drawn = s.drawn := rfl
@[simp] theorem updReady_sched (f : List (Nat × Nat) → List (Nat × Nat)) : (s.updReady f).sched = s.sched := rfl
@[simp] theorem updReady_ev (f : List (Nat × Nat) → List (Nat × Nat)) : (s.updReady f).ev = s.ev := rfl
@[simp] theorem updReady_tick (f : List (Nat × Nat) → List (Nat × Nat)) : (s.updReady f).tick = s.tick := rfl
@[simp] theorem updReady_ops (f : List (Nat × Nat) → List (Nat × Nat)) : (s.updReady f).ops = s.ops := rfl
@[simp] theorem updReady_ready (f : List (Nat × Nat) → List (Nat × Nat)) : (s.updReady f).ready = f s.ready := rfl
@[simp] theorem updReady_hostMem (f : List (Nat × Nat) → List (Nat × Nat)) : (s.updReady f).hostMem = s.hostMem := rfl
@[simp] theorem updReady_stage (f : List (Nat × Nat) → List (Nat × Nat)) : (s.updReady f).stage = s.stage := rfl
@[simp] theorem updReady_dbg (f : List (Nat × Nat) → List (Nat × Nat)) : (s.updReady f).dbg = s.dbg := rfl
@[simp] theorem updReady_scratch (f : List (Nat × Nat) → List (Nat × Nat)) : (s.updReady f).scratch = s.scratch := rfl
@[simp] theorem updReady_reels (f : List (Nat × Nat) → List (Nat × Nat)) : (s.updReady f).reels = s.reels := rfl
@[simp] theorem updReady_dram (f : List (Nat × Nat) → List (Nat × Nat)) : (s.updReady f).dram = s.dram := rfl
@[simp] theorem updReady_catches (f : List (Nat × Nat) → List (Nat × Nat)) : (s.updReady f).catches = s.catches := rfl
@[simp] theorem updReady_ddr (f : List (Nat × Nat) → List (Nat × Nat)) : (s.updReady f).ddr = s.ddr := rfl
@[simp] theorem updReady_records (f : List (Nat × Nat) → List (Nat × Nat)) : (s.updReady f).records = s.records := rfl
@[simp] theorem updReady_dramTags (f : List (Nat × Nat) → List (Nat × Nat)) : (s.updReady f).dramTags = s.dramTags := rfl
@[simp] theorem updReady_dramBad (f : List (Nat × Nat) → List (Nat × Nat)) : (s.updReady f).dramBad = s.dramBad := rfl
@[simp] theorem updReady_dramPoison (f : List (Nat × Nat) → List (Nat × Nat)) : (s.updReady f).dramPoison = s.dramPoison := rfl
@[simp] theorem updReady_dramWhole (f : List (Nat × Nat) → List (Nat × Nat)) : (s.updReady f).dramWhole = s.dramWhole := rfl
@[simp] theorem updReady_enc (f : List (Nat × Nat) → List (Nat × Nat)) : (s.updReady f).enc = s.enc := rfl
@[simp] theorem updReady_noc (f : List (Nat × Nat) → List (Nat × Nat)) : (s.updReady f).noc = s.noc := rfl
@[simp] theorem updReady_disp (f : List (Nat × Nat) → List (Nat × Nat)) : (s.updReady f).disp = s.disp := rfl
@[simp] theorem updReady_sp (f : List (Nat × Nat) → List (Nat × Nat)) : (s.updReady f).sp = s.sp := rfl
@[simp] theorem updReady_regions (f : List (Nat × Nat) → List (Nat × Nat)) : (s.updReady f).regions = s.regions := rfl
@[simp] theorem updReady_slices (f : List (Nat × Nat) → List (Nat × Nat)) : (s.updReady f).slices = s.slices := rfl
@[simp] theorem updReady_frames (f : List (Nat × Nat) → List (Nat × Nat)) : (s.updReady f).frames = s.frames := rfl
@[simp] theorem updReady_frameDyn (f : List (Nat × Nat) → List (Nat × Nat)) : (s.updReady f).frameDyn = s.frameDyn := rfl
@[simp] theorem updReady_frameCode (f : List (Nat × Nat) → List (Nat × Nat)) : (s.updReady f).frameCode = s.frameCode := rfl
@[simp] theorem updReady_frameBad (f : List (Nat × Nat) → List (Nat × Nat)) : (s.updReady f).frameBad = s.frameBad := rfl
@[simp] theorem updReady_cfg (f : List (Nat × Nat) → List (Nat × Nat)) : (s.updReady f).cfg = s.cfg := rfl
@[simp] theorem updReady_flash (f : List (Nat × Nat) → List (Nat × Nat)) : (s.updReady f).flash = s.flash := rfl
@[simp] theorem updReady_lanes (f : List (Nat × Nat) → List (Nat × Nat)) : (s.updReady f).lanes = s.lanes := rfl
@[simp] theorem updReady_groups (f : List (Nat × Nat) → List (Nat × Nat)) : (s.updReady f).groups = s.groups := rfl
@[simp] theorem updReady_clk (f : List (Nat × Nat) → List (Nat × Nat)) : (s.updReady f).clk = s.clk := rfl
@[simp] theorem updReady_mesh (f : List (Nat × Nat) → List (Nat × Nat)) : (s.updReady f).mesh = s.mesh := rfl
@[simp] theorem updReady_host (f : List (Nat × Nat) → List (Nat × Nat)) : (s.updReady f).host = s.host := rfl
@[simp] theorem updReady_pw (f : List (Nat × Nat) → List (Nat × Nat)) : (s.updReady f).pw = s.pw := rfl
@[simp] theorem updReady_io (f : List (Nat × Nat) → List (Nat × Nat)) : (s.updReady f).io = s.io := rfl
@[simp] theorem updReady_boot (f : List (Nat × Nat) → List (Nat × Nat)) : (s.updReady f).boot = s.boot := rfl
@[simp] theorem updHostMem_pending (f : Mem → Mem) : (s.updHostMem f).pending = s.pending := rfl
@[simp] theorem updHostMem_regs (f : Mem → Mem) : (s.updHostMem f).regs = s.regs := rfl
@[simp] theorem updHostMem_tickWrites (f : Mem → Mem) : (s.updHostMem f).tickWrites = s.tickWrites := rfl
@[simp] theorem updHostMem_latches (f : Mem → Mem) : (s.updHostMem f).latches = s.latches := rfl
@[simp] theorem updHostMem_lowHalves (f : Mem → Mem) : (s.updHostMem f).lowHalves = s.lowHalves := rfl
@[simp] theorem updHostMem_drawn (f : Mem → Mem) : (s.updHostMem f).drawn = s.drawn := rfl
@[simp] theorem updHostMem_sched (f : Mem → Mem) : (s.updHostMem f).sched = s.sched := rfl
@[simp] theorem updHostMem_ev (f : Mem → Mem) : (s.updHostMem f).ev = s.ev := rfl
@[simp] theorem updHostMem_tick (f : Mem → Mem) : (s.updHostMem f).tick = s.tick := rfl
@[simp] theorem updHostMem_ops (f : Mem → Mem) : (s.updHostMem f).ops = s.ops := rfl
@[simp] theorem updHostMem_ready (f : Mem → Mem) : (s.updHostMem f).ready = s.ready := rfl
@[simp] theorem updHostMem_hostMem (f : Mem → Mem) : (s.updHostMem f).hostMem = f s.hostMem := rfl
@[simp] theorem updHostMem_stage (f : Mem → Mem) : (s.updHostMem f).stage = s.stage := rfl
@[simp] theorem updHostMem_dbg (f : Mem → Mem) : (s.updHostMem f).dbg = s.dbg := rfl
@[simp] theorem updHostMem_scratch (f : Mem → Mem) : (s.updHostMem f).scratch = s.scratch := rfl
@[simp] theorem updHostMem_reels (f : Mem → Mem) : (s.updHostMem f).reels = s.reels := rfl
@[simp] theorem updHostMem_dram (f : Mem → Mem) : (s.updHostMem f).dram = s.dram := rfl
@[simp] theorem updHostMem_catches (f : Mem → Mem) : (s.updHostMem f).catches = s.catches := rfl
@[simp] theorem updHostMem_ddr (f : Mem → Mem) : (s.updHostMem f).ddr = s.ddr := rfl
@[simp] theorem updHostMem_records (f : Mem → Mem) : (s.updHostMem f).records = s.records := rfl
@[simp] theorem updHostMem_dramTags (f : Mem → Mem) : (s.updHostMem f).dramTags = s.dramTags := rfl
@[simp] theorem updHostMem_dramBad (f : Mem → Mem) : (s.updHostMem f).dramBad = s.dramBad := rfl
@[simp] theorem updHostMem_dramPoison (f : Mem → Mem) : (s.updHostMem f).dramPoison = s.dramPoison := rfl
@[simp] theorem updHostMem_dramWhole (f : Mem → Mem) : (s.updHostMem f).dramWhole = s.dramWhole := rfl
@[simp] theorem updHostMem_enc (f : Mem → Mem) : (s.updHostMem f).enc = s.enc := rfl
@[simp] theorem updHostMem_noc (f : Mem → Mem) : (s.updHostMem f).noc = s.noc := rfl
@[simp] theorem updHostMem_disp (f : Mem → Mem) : (s.updHostMem f).disp = s.disp := rfl
@[simp] theorem updHostMem_sp (f : Mem → Mem) : (s.updHostMem f).sp = s.sp := rfl
@[simp] theorem updHostMem_regions (f : Mem → Mem) : (s.updHostMem f).regions = s.regions := rfl
@[simp] theorem updHostMem_slices (f : Mem → Mem) : (s.updHostMem f).slices = s.slices := rfl
@[simp] theorem updHostMem_frames (f : Mem → Mem) : (s.updHostMem f).frames = s.frames := rfl
@[simp] theorem updHostMem_frameDyn (f : Mem → Mem) : (s.updHostMem f).frameDyn = s.frameDyn := rfl
@[simp] theorem updHostMem_frameCode (f : Mem → Mem) : (s.updHostMem f).frameCode = s.frameCode := rfl
@[simp] theorem updHostMem_frameBad (f : Mem → Mem) : (s.updHostMem f).frameBad = s.frameBad := rfl
@[simp] theorem updHostMem_cfg (f : Mem → Mem) : (s.updHostMem f).cfg = s.cfg := rfl
@[simp] theorem updHostMem_flash (f : Mem → Mem) : (s.updHostMem f).flash = s.flash := rfl
@[simp] theorem updHostMem_lanes (f : Mem → Mem) : (s.updHostMem f).lanes = s.lanes := rfl
@[simp] theorem updHostMem_groups (f : Mem → Mem) : (s.updHostMem f).groups = s.groups := rfl
@[simp] theorem updHostMem_clk (f : Mem → Mem) : (s.updHostMem f).clk = s.clk := rfl
@[simp] theorem updHostMem_mesh (f : Mem → Mem) : (s.updHostMem f).mesh = s.mesh := rfl
@[simp] theorem updHostMem_host (f : Mem → Mem) : (s.updHostMem f).host = s.host := rfl
@[simp] theorem updHostMem_pw (f : Mem → Mem) : (s.updHostMem f).pw = s.pw := rfl
@[simp] theorem updHostMem_io (f : Mem → Mem) : (s.updHostMem f).io = s.io := rfl
@[simp] theorem updHostMem_boot (f : Mem → Mem) : (s.updHostMem f).boot = s.boot := rfl
@[simp] theorem updStage_pending (f : StageSt → StageSt) : (s.updStage f).pending = s.pending := rfl
@[simp] theorem updStage_regs (f : StageSt → StageSt) : (s.updStage f).regs = s.regs := rfl
@[simp] theorem updStage_tickWrites (f : StageSt → StageSt) : (s.updStage f).tickWrites = s.tickWrites := rfl
@[simp] theorem updStage_latches (f : StageSt → StageSt) : (s.updStage f).latches = s.latches := rfl
@[simp] theorem updStage_lowHalves (f : StageSt → StageSt) : (s.updStage f).lowHalves = s.lowHalves := rfl
@[simp] theorem updStage_drawn (f : StageSt → StageSt) : (s.updStage f).drawn = s.drawn := rfl
@[simp] theorem updStage_sched (f : StageSt → StageSt) : (s.updStage f).sched = s.sched := rfl
@[simp] theorem updStage_ev (f : StageSt → StageSt) : (s.updStage f).ev = s.ev := rfl
@[simp] theorem updStage_tick (f : StageSt → StageSt) : (s.updStage f).tick = s.tick := rfl
@[simp] theorem updStage_ops (f : StageSt → StageSt) : (s.updStage f).ops = s.ops := rfl
@[simp] theorem updStage_ready (f : StageSt → StageSt) : (s.updStage f).ready = s.ready := rfl
@[simp] theorem updStage_hostMem (f : StageSt → StageSt) : (s.updStage f).hostMem = s.hostMem := rfl
@[simp] theorem updStage_stage (f : StageSt → StageSt) : (s.updStage f).stage = f s.stage := rfl
@[simp] theorem updStage_dbg (f : StageSt → StageSt) : (s.updStage f).dbg = s.dbg := rfl
@[simp] theorem updStage_scratch (f : StageSt → StageSt) : (s.updStage f).scratch = s.scratch := rfl
@[simp] theorem updStage_reels (f : StageSt → StageSt) : (s.updStage f).reels = s.reels := rfl
@[simp] theorem updStage_dram (f : StageSt → StageSt) : (s.updStage f).dram = s.dram := rfl
@[simp] theorem updStage_catches (f : StageSt → StageSt) : (s.updStage f).catches = s.catches := rfl
@[simp] theorem updStage_ddr (f : StageSt → StageSt) : (s.updStage f).ddr = s.ddr := rfl
@[simp] theorem updStage_records (f : StageSt → StageSt) : (s.updStage f).records = s.records := rfl
@[simp] theorem updStage_dramTags (f : StageSt → StageSt) : (s.updStage f).dramTags = s.dramTags := rfl
@[simp] theorem updStage_dramBad (f : StageSt → StageSt) : (s.updStage f).dramBad = s.dramBad := rfl
@[simp] theorem updStage_dramPoison (f : StageSt → StageSt) : (s.updStage f).dramPoison = s.dramPoison := rfl
@[simp] theorem updStage_dramWhole (f : StageSt → StageSt) : (s.updStage f).dramWhole = s.dramWhole := rfl
@[simp] theorem updStage_enc (f : StageSt → StageSt) : (s.updStage f).enc = s.enc := rfl
@[simp] theorem updStage_noc (f : StageSt → StageSt) : (s.updStage f).noc = s.noc := rfl
@[simp] theorem updStage_disp (f : StageSt → StageSt) : (s.updStage f).disp = s.disp := rfl
@[simp] theorem updStage_sp (f : StageSt → StageSt) : (s.updStage f).sp = s.sp := rfl
@[simp] theorem updStage_regions (f : StageSt → StageSt) : (s.updStage f).regions = s.regions := rfl
@[simp] theorem updStage_slices (f : StageSt → StageSt) : (s.updStage f).slices = s.slices := rfl
@[simp] theorem updStage_frames (f : StageSt → StageSt) : (s.updStage f).frames = s.frames := rfl
@[simp] theorem updStage_frameDyn (f : StageSt → StageSt) : (s.updStage f).frameDyn = s.frameDyn := rfl
@[simp] theorem updStage_frameCode (f : StageSt → StageSt) : (s.updStage f).frameCode = s.frameCode := rfl
@[simp] theorem updStage_frameBad (f : StageSt → StageSt) : (s.updStage f).frameBad = s.frameBad := rfl
@[simp] theorem updStage_cfg (f : StageSt → StageSt) : (s.updStage f).cfg = s.cfg := rfl
@[simp] theorem updStage_flash (f : StageSt → StageSt) : (s.updStage f).flash = s.flash := rfl
@[simp] theorem updStage_lanes (f : StageSt → StageSt) : (s.updStage f).lanes = s.lanes := rfl
@[simp] theorem updStage_groups (f : StageSt → StageSt) : (s.updStage f).groups = s.groups := rfl
@[simp] theorem updStage_clk (f : StageSt → StageSt) : (s.updStage f).clk = s.clk := rfl
@[simp] theorem updStage_mesh (f : StageSt → StageSt) : (s.updStage f).mesh = s.mesh := rfl
@[simp] theorem updStage_host (f : StageSt → StageSt) : (s.updStage f).host = s.host := rfl
@[simp] theorem updStage_pw (f : StageSt → StageSt) : (s.updStage f).pw = s.pw := rfl
@[simp] theorem updStage_io (f : StageSt → StageSt) : (s.updStage f).io = s.io := rfl
@[simp] theorem updStage_boot (f : StageSt → StageSt) : (s.updStage f).boot = s.boot := rfl
@[simp] theorem updDbg_pending (f : DbgSt → DbgSt) : (s.updDbg f).pending = s.pending := rfl
@[simp] theorem updDbg_regs (f : DbgSt → DbgSt) : (s.updDbg f).regs = s.regs := rfl
@[simp] theorem updDbg_tickWrites (f : DbgSt → DbgSt) : (s.updDbg f).tickWrites = s.tickWrites := rfl
@[simp] theorem updDbg_latches (f : DbgSt → DbgSt) : (s.updDbg f).latches = s.latches := rfl
@[simp] theorem updDbg_lowHalves (f : DbgSt → DbgSt) : (s.updDbg f).lowHalves = s.lowHalves := rfl
@[simp] theorem updDbg_drawn (f : DbgSt → DbgSt) : (s.updDbg f).drawn = s.drawn := rfl
@[simp] theorem updDbg_sched (f : DbgSt → DbgSt) : (s.updDbg f).sched = s.sched := rfl
@[simp] theorem updDbg_ev (f : DbgSt → DbgSt) : (s.updDbg f).ev = s.ev := rfl
@[simp] theorem updDbg_tick (f : DbgSt → DbgSt) : (s.updDbg f).tick = s.tick := rfl
@[simp] theorem updDbg_ops (f : DbgSt → DbgSt) : (s.updDbg f).ops = s.ops := rfl
@[simp] theorem updDbg_ready (f : DbgSt → DbgSt) : (s.updDbg f).ready = s.ready := rfl
@[simp] theorem updDbg_hostMem (f : DbgSt → DbgSt) : (s.updDbg f).hostMem = s.hostMem := rfl
@[simp] theorem updDbg_stage (f : DbgSt → DbgSt) : (s.updDbg f).stage = s.stage := rfl
@[simp] theorem updDbg_dbg (f : DbgSt → DbgSt) : (s.updDbg f).dbg = f s.dbg := rfl
@[simp] theorem updDbg_scratch (f : DbgSt → DbgSt) : (s.updDbg f).scratch = s.scratch := rfl
@[simp] theorem updDbg_reels (f : DbgSt → DbgSt) : (s.updDbg f).reels = s.reels := rfl
@[simp] theorem updDbg_dram (f : DbgSt → DbgSt) : (s.updDbg f).dram = s.dram := rfl
@[simp] theorem updDbg_catches (f : DbgSt → DbgSt) : (s.updDbg f).catches = s.catches := rfl
@[simp] theorem updDbg_ddr (f : DbgSt → DbgSt) : (s.updDbg f).ddr = s.ddr := rfl
@[simp] theorem updDbg_records (f : DbgSt → DbgSt) : (s.updDbg f).records = s.records := rfl
@[simp] theorem updDbg_dramTags (f : DbgSt → DbgSt) : (s.updDbg f).dramTags = s.dramTags := rfl
@[simp] theorem updDbg_dramBad (f : DbgSt → DbgSt) : (s.updDbg f).dramBad = s.dramBad := rfl
@[simp] theorem updDbg_dramPoison (f : DbgSt → DbgSt) : (s.updDbg f).dramPoison = s.dramPoison := rfl
@[simp] theorem updDbg_dramWhole (f : DbgSt → DbgSt) : (s.updDbg f).dramWhole = s.dramWhole := rfl
@[simp] theorem updDbg_enc (f : DbgSt → DbgSt) : (s.updDbg f).enc = s.enc := rfl
@[simp] theorem updDbg_noc (f : DbgSt → DbgSt) : (s.updDbg f).noc = s.noc := rfl
@[simp] theorem updDbg_disp (f : DbgSt → DbgSt) : (s.updDbg f).disp = s.disp := rfl
@[simp] theorem updDbg_sp (f : DbgSt → DbgSt) : (s.updDbg f).sp = s.sp := rfl
@[simp] theorem updDbg_regions (f : DbgSt → DbgSt) : (s.updDbg f).regions = s.regions := rfl
@[simp] theorem updDbg_slices (f : DbgSt → DbgSt) : (s.updDbg f).slices = s.slices := rfl
@[simp] theorem updDbg_frames (f : DbgSt → DbgSt) : (s.updDbg f).frames = s.frames := rfl
@[simp] theorem updDbg_frameDyn (f : DbgSt → DbgSt) : (s.updDbg f).frameDyn = s.frameDyn := rfl
@[simp] theorem updDbg_frameCode (f : DbgSt → DbgSt) : (s.updDbg f).frameCode = s.frameCode := rfl
@[simp] theorem updDbg_frameBad (f : DbgSt → DbgSt) : (s.updDbg f).frameBad = s.frameBad := rfl
@[simp] theorem updDbg_cfg (f : DbgSt → DbgSt) : (s.updDbg f).cfg = s.cfg := rfl
@[simp] theorem updDbg_flash (f : DbgSt → DbgSt) : (s.updDbg f).flash = s.flash := rfl
@[simp] theorem updDbg_lanes (f : DbgSt → DbgSt) : (s.updDbg f).lanes = s.lanes := rfl
@[simp] theorem updDbg_groups (f : DbgSt → DbgSt) : (s.updDbg f).groups = s.groups := rfl
@[simp] theorem updDbg_clk (f : DbgSt → DbgSt) : (s.updDbg f).clk = s.clk := rfl
@[simp] theorem updDbg_mesh (f : DbgSt → DbgSt) : (s.updDbg f).mesh = s.mesh := rfl
@[simp] theorem updDbg_host (f : DbgSt → DbgSt) : (s.updDbg f).host = s.host := rfl
@[simp] theorem updDbg_pw (f : DbgSt → DbgSt) : (s.updDbg f).pw = s.pw := rfl
@[simp] theorem updDbg_io (f : DbgSt → DbgSt) : (s.updDbg f).io = s.io := rfl
@[simp] theorem updDbg_boot (f : DbgSt → DbgSt) : (s.updDbg f).boot = s.boot := rfl
@[simp] theorem updScratch_pending (f : Mem → Mem) : (s.updScratch f).pending = s.pending := rfl
@[simp] theorem updScratch_regs (f : Mem → Mem) : (s.updScratch f).regs = s.regs := rfl
@[simp] theorem updScratch_tickWrites (f : Mem → Mem) : (s.updScratch f).tickWrites = s.tickWrites := rfl
@[simp] theorem updScratch_latches (f : Mem → Mem) : (s.updScratch f).latches = s.latches := rfl
@[simp] theorem updScratch_lowHalves (f : Mem → Mem) : (s.updScratch f).lowHalves = s.lowHalves := rfl
@[simp] theorem updScratch_drawn (f : Mem → Mem) : (s.updScratch f).drawn = s.drawn := rfl
@[simp] theorem updScratch_sched (f : Mem → Mem) : (s.updScratch f).sched = s.sched := rfl
@[simp] theorem updScratch_ev (f : Mem → Mem) : (s.updScratch f).ev = s.ev := rfl
@[simp] theorem updScratch_tick (f : Mem → Mem) : (s.updScratch f).tick = s.tick := rfl
@[simp] theorem updScratch_ops (f : Mem → Mem) : (s.updScratch f).ops = s.ops := rfl
@[simp] theorem updScratch_ready (f : Mem → Mem) : (s.updScratch f).ready = s.ready := rfl
@[simp] theorem updScratch_hostMem (f : Mem → Mem) : (s.updScratch f).hostMem = s.hostMem := rfl
@[simp] theorem updScratch_stage (f : Mem → Mem) : (s.updScratch f).stage = s.stage := rfl
@[simp] theorem updScratch_dbg (f : Mem → Mem) : (s.updScratch f).dbg = s.dbg := rfl
@[simp] theorem updScratch_scratch (f : Mem → Mem) : (s.updScratch f).scratch = f s.scratch := rfl
@[simp] theorem updScratch_reels (f : Mem → Mem) : (s.updScratch f).reels = s.reels := rfl
@[simp] theorem updScratch_dram (f : Mem → Mem) : (s.updScratch f).dram = s.dram := rfl
@[simp] theorem updScratch_catches (f : Mem → Mem) : (s.updScratch f).catches = s.catches := rfl
@[simp] theorem updScratch_ddr (f : Mem → Mem) : (s.updScratch f).ddr = s.ddr := rfl
@[simp] theorem updScratch_records (f : Mem → Mem) : (s.updScratch f).records = s.records := rfl
@[simp] theorem updScratch_dramTags (f : Mem → Mem) : (s.updScratch f).dramTags = s.dramTags := rfl
@[simp] theorem updScratch_dramBad (f : Mem → Mem) : (s.updScratch f).dramBad = s.dramBad := rfl
@[simp] theorem updScratch_dramPoison (f : Mem → Mem) : (s.updScratch f).dramPoison = s.dramPoison := rfl
@[simp] theorem updScratch_dramWhole (f : Mem → Mem) : (s.updScratch f).dramWhole = s.dramWhole := rfl
@[simp] theorem updScratch_enc (f : Mem → Mem) : (s.updScratch f).enc = s.enc := rfl
@[simp] theorem updScratch_noc (f : Mem → Mem) : (s.updScratch f).noc = s.noc := rfl
@[simp] theorem updScratch_disp (f : Mem → Mem) : (s.updScratch f).disp = s.disp := rfl
@[simp] theorem updScratch_sp (f : Mem → Mem) : (s.updScratch f).sp = s.sp := rfl
@[simp] theorem updScratch_regions (f : Mem → Mem) : (s.updScratch f).regions = s.regions := rfl
@[simp] theorem updScratch_slices (f : Mem → Mem) : (s.updScratch f).slices = s.slices := rfl
@[simp] theorem updScratch_frames (f : Mem → Mem) : (s.updScratch f).frames = s.frames := rfl
@[simp] theorem updScratch_frameDyn (f : Mem → Mem) : (s.updScratch f).frameDyn = s.frameDyn := rfl
@[simp] theorem updScratch_frameCode (f : Mem → Mem) : (s.updScratch f).frameCode = s.frameCode := rfl
@[simp] theorem updScratch_frameBad (f : Mem → Mem) : (s.updScratch f).frameBad = s.frameBad := rfl
@[simp] theorem updScratch_cfg (f : Mem → Mem) : (s.updScratch f).cfg = s.cfg := rfl
@[simp] theorem updScratch_flash (f : Mem → Mem) : (s.updScratch f).flash = s.flash := rfl
@[simp] theorem updScratch_lanes (f : Mem → Mem) : (s.updScratch f).lanes = s.lanes := rfl
@[simp] theorem updScratch_groups (f : Mem → Mem) : (s.updScratch f).groups = s.groups := rfl
@[simp] theorem updScratch_clk (f : Mem → Mem) : (s.updScratch f).clk = s.clk := rfl
@[simp] theorem updScratch_mesh (f : Mem → Mem) : (s.updScratch f).mesh = s.mesh := rfl
@[simp] theorem updScratch_host (f : Mem → Mem) : (s.updScratch f).host = s.host := rfl
@[simp] theorem updScratch_pw (f : Mem → Mem) : (s.updScratch f).pw = s.pw := rfl
@[simp] theorem updScratch_io (f : Mem → Mem) : (s.updScratch f).io = s.io := rfl
@[simp] theorem updScratch_boot (f : Mem → Mem) : (s.updScratch f).boot = s.boot := rfl
@[simp] theorem updReels_pending (f : List (Nat × ReelU) → List (Nat × ReelU)) : (s.updReels f).pending = s.pending := rfl
@[simp] theorem updReels_regs (f : List (Nat × ReelU) → List (Nat × ReelU)) : (s.updReels f).regs = s.regs := rfl
@[simp] theorem updReels_tickWrites (f : List (Nat × ReelU) → List (Nat × ReelU)) : (s.updReels f).tickWrites = s.tickWrites := rfl
@[simp] theorem updReels_latches (f : List (Nat × ReelU) → List (Nat × ReelU)) : (s.updReels f).latches = s.latches := rfl
@[simp] theorem updReels_lowHalves (f : List (Nat × ReelU) → List (Nat × ReelU)) : (s.updReels f).lowHalves = s.lowHalves := rfl
@[simp] theorem updReels_drawn (f : List (Nat × ReelU) → List (Nat × ReelU)) : (s.updReels f).drawn = s.drawn := rfl
@[simp] theorem updReels_sched (f : List (Nat × ReelU) → List (Nat × ReelU)) : (s.updReels f).sched = s.sched := rfl
@[simp] theorem updReels_ev (f : List (Nat × ReelU) → List (Nat × ReelU)) : (s.updReels f).ev = s.ev := rfl
@[simp] theorem updReels_tick (f : List (Nat × ReelU) → List (Nat × ReelU)) : (s.updReels f).tick = s.tick := rfl
@[simp] theorem updReels_ops (f : List (Nat × ReelU) → List (Nat × ReelU)) : (s.updReels f).ops = s.ops := rfl
@[simp] theorem updReels_ready (f : List (Nat × ReelU) → List (Nat × ReelU)) : (s.updReels f).ready = s.ready := rfl
@[simp] theorem updReels_hostMem (f : List (Nat × ReelU) → List (Nat × ReelU)) : (s.updReels f).hostMem = s.hostMem := rfl
@[simp] theorem updReels_stage (f : List (Nat × ReelU) → List (Nat × ReelU)) : (s.updReels f).stage = s.stage := rfl
@[simp] theorem updReels_dbg (f : List (Nat × ReelU) → List (Nat × ReelU)) : (s.updReels f).dbg = s.dbg := rfl
@[simp] theorem updReels_scratch (f : List (Nat × ReelU) → List (Nat × ReelU)) : (s.updReels f).scratch = s.scratch := rfl
@[simp] theorem updReels_reels (f : List (Nat × ReelU) → List (Nat × ReelU)) : (s.updReels f).reels = f s.reels := rfl
@[simp] theorem updReels_dram (f : List (Nat × ReelU) → List (Nat × ReelU)) : (s.updReels f).dram = s.dram := rfl
@[simp] theorem updReels_catches (f : List (Nat × ReelU) → List (Nat × ReelU)) : (s.updReels f).catches = s.catches := rfl
@[simp] theorem updReels_ddr (f : List (Nat × ReelU) → List (Nat × ReelU)) : (s.updReels f).ddr = s.ddr := rfl
@[simp] theorem updReels_records (f : List (Nat × ReelU) → List (Nat × ReelU)) : (s.updReels f).records = s.records := rfl
@[simp] theorem updReels_dramTags (f : List (Nat × ReelU) → List (Nat × ReelU)) : (s.updReels f).dramTags = s.dramTags := rfl
@[simp] theorem updReels_dramBad (f : List (Nat × ReelU) → List (Nat × ReelU)) : (s.updReels f).dramBad = s.dramBad := rfl
@[simp] theorem updReels_dramPoison (f : List (Nat × ReelU) → List (Nat × ReelU)) : (s.updReels f).dramPoison = s.dramPoison := rfl
@[simp] theorem updReels_dramWhole (f : List (Nat × ReelU) → List (Nat × ReelU)) : (s.updReels f).dramWhole = s.dramWhole := rfl
@[simp] theorem updReels_enc (f : List (Nat × ReelU) → List (Nat × ReelU)) : (s.updReels f).enc = s.enc := rfl
@[simp] theorem updReels_noc (f : List (Nat × ReelU) → List (Nat × ReelU)) : (s.updReels f).noc = s.noc := rfl
@[simp] theorem updReels_disp (f : List (Nat × ReelU) → List (Nat × ReelU)) : (s.updReels f).disp = s.disp := rfl
@[simp] theorem updReels_sp (f : List (Nat × ReelU) → List (Nat × ReelU)) : (s.updReels f).sp = s.sp := rfl
@[simp] theorem updReels_regions (f : List (Nat × ReelU) → List (Nat × ReelU)) : (s.updReels f).regions = s.regions := rfl
@[simp] theorem updReels_slices (f : List (Nat × ReelU) → List (Nat × ReelU)) : (s.updReels f).slices = s.slices := rfl
@[simp] theorem updReels_frames (f : List (Nat × ReelU) → List (Nat × ReelU)) : (s.updReels f).frames = s.frames := rfl
@[simp] theorem updReels_frameDyn (f : List (Nat × ReelU) → List (Nat × ReelU)) : (s.updReels f).frameDyn = s.frameDyn := rfl
@[simp] theorem updReels_frameCode (f : List (Nat × ReelU) → List (Nat × ReelU)) : (s.updReels f).frameCode = s.frameCode := rfl
@[simp] theorem updReels_frameBad (f : List (Nat × ReelU) → List (Nat × ReelU)) : (s.updReels f).frameBad = s.frameBad := rfl
@[simp] theorem updReels_cfg (f : List (Nat × ReelU) → List (Nat × ReelU)) : (s.updReels f).cfg = s.cfg := rfl
@[simp] theorem updReels_flash (f : List (Nat × ReelU) → List (Nat × ReelU)) : (s.updReels f).flash = s.flash := rfl
@[simp] theorem updReels_lanes (f : List (Nat × ReelU) → List (Nat × ReelU)) : (s.updReels f).lanes = s.lanes := rfl
@[simp] theorem updReels_groups (f : List (Nat × ReelU) → List (Nat × ReelU)) : (s.updReels f).groups = s.groups := rfl
@[simp] theorem updReels_clk (f : List (Nat × ReelU) → List (Nat × ReelU)) : (s.updReels f).clk = s.clk := rfl
@[simp] theorem updReels_mesh (f : List (Nat × ReelU) → List (Nat × ReelU)) : (s.updReels f).mesh = s.mesh := rfl
@[simp] theorem updReels_host (f : List (Nat × ReelU) → List (Nat × ReelU)) : (s.updReels f).host = s.host := rfl
@[simp] theorem updReels_pw (f : List (Nat × ReelU) → List (Nat × ReelU)) : (s.updReels f).pw = s.pw := rfl
@[simp] theorem updReels_io (f : List (Nat × ReelU) → List (Nat × ReelU)) : (s.updReels f).io = s.io := rfl
@[simp] theorem updReels_boot (f : List (Nat × ReelU) → List (Nat × ReelU)) : (s.updReels f).boot = s.boot := rfl
@[simp] theorem updDram_pending (f : Mem → Mem) : (s.updDram f).pending = s.pending := rfl
@[simp] theorem updDram_regs (f : Mem → Mem) : (s.updDram f).regs = s.regs := rfl
@[simp] theorem updDram_tickWrites (f : Mem → Mem) : (s.updDram f).tickWrites = s.tickWrites := rfl
@[simp] theorem updDram_latches (f : Mem → Mem) : (s.updDram f).latches = s.latches := rfl
@[simp] theorem updDram_lowHalves (f : Mem → Mem) : (s.updDram f).lowHalves = s.lowHalves := rfl
@[simp] theorem updDram_drawn (f : Mem → Mem) : (s.updDram f).drawn = s.drawn := rfl
@[simp] theorem updDram_sched (f : Mem → Mem) : (s.updDram f).sched = s.sched := rfl
@[simp] theorem updDram_ev (f : Mem → Mem) : (s.updDram f).ev = s.ev := rfl
@[simp] theorem updDram_tick (f : Mem → Mem) : (s.updDram f).tick = s.tick := rfl
@[simp] theorem updDram_ops (f : Mem → Mem) : (s.updDram f).ops = s.ops := rfl
@[simp] theorem updDram_ready (f : Mem → Mem) : (s.updDram f).ready = s.ready := rfl
@[simp] theorem updDram_hostMem (f : Mem → Mem) : (s.updDram f).hostMem = s.hostMem := rfl
@[simp] theorem updDram_stage (f : Mem → Mem) : (s.updDram f).stage = s.stage := rfl
@[simp] theorem updDram_dbg (f : Mem → Mem) : (s.updDram f).dbg = s.dbg := rfl
@[simp] theorem updDram_scratch (f : Mem → Mem) : (s.updDram f).scratch = s.scratch := rfl
@[simp] theorem updDram_reels (f : Mem → Mem) : (s.updDram f).reels = s.reels := rfl
@[simp] theorem updDram_dram (f : Mem → Mem) : (s.updDram f).dram = f s.dram := rfl
@[simp] theorem updDram_catches (f : Mem → Mem) : (s.updDram f).catches = s.catches := rfl
@[simp] theorem updDram_ddr (f : Mem → Mem) : (s.updDram f).ddr = s.ddr := rfl
@[simp] theorem updDram_records (f : Mem → Mem) : (s.updDram f).records = s.records := rfl
@[simp] theorem updDram_dramTags (f : Mem → Mem) : (s.updDram f).dramTags = s.dramTags := rfl
@[simp] theorem updDram_dramBad (f : Mem → Mem) : (s.updDram f).dramBad = s.dramBad := rfl
@[simp] theorem updDram_dramPoison (f : Mem → Mem) : (s.updDram f).dramPoison = s.dramPoison := rfl
@[simp] theorem updDram_dramWhole (f : Mem → Mem) : (s.updDram f).dramWhole = s.dramWhole := rfl
@[simp] theorem updDram_enc (f : Mem → Mem) : (s.updDram f).enc = s.enc := rfl
@[simp] theorem updDram_noc (f : Mem → Mem) : (s.updDram f).noc = s.noc := rfl
@[simp] theorem updDram_disp (f : Mem → Mem) : (s.updDram f).disp = s.disp := rfl
@[simp] theorem updDram_sp (f : Mem → Mem) : (s.updDram f).sp = s.sp := rfl
@[simp] theorem updDram_regions (f : Mem → Mem) : (s.updDram f).regions = s.regions := rfl
@[simp] theorem updDram_slices (f : Mem → Mem) : (s.updDram f).slices = s.slices := rfl
@[simp] theorem updDram_frames (f : Mem → Mem) : (s.updDram f).frames = s.frames := rfl
@[simp] theorem updDram_frameDyn (f : Mem → Mem) : (s.updDram f).frameDyn = s.frameDyn := rfl
@[simp] theorem updDram_frameCode (f : Mem → Mem) : (s.updDram f).frameCode = s.frameCode := rfl
@[simp] theorem updDram_frameBad (f : Mem → Mem) : (s.updDram f).frameBad = s.frameBad := rfl
@[simp] theorem updDram_cfg (f : Mem → Mem) : (s.updDram f).cfg = s.cfg := rfl
@[simp] theorem updDram_flash (f : Mem → Mem) : (s.updDram f).flash = s.flash := rfl
@[simp] theorem updDram_lanes (f : Mem → Mem) : (s.updDram f).lanes = s.lanes := rfl
@[simp] theorem updDram_groups (f : Mem → Mem) : (s.updDram f).groups = s.groups := rfl
@[simp] theorem updDram_clk (f : Mem → Mem) : (s.updDram f).clk = s.clk := rfl
@[simp] theorem updDram_mesh (f : Mem → Mem) : (s.updDram f).mesh = s.mesh := rfl
@[simp] theorem updDram_host (f : Mem → Mem) : (s.updDram f).host = s.host := rfl
@[simp] theorem updDram_pw (f : Mem → Mem) : (s.updDram f).pw = s.pw := rfl
@[simp] theorem updDram_io (f : Mem → Mem) : (s.updDram f).io = s.io := rfl
@[simp] theorem updDram_boot (f : Mem → Mem) : (s.updDram f).boot = s.boot := rfl
@[simp] theorem updCatches_pending (f : List (Nat × CatchU) → List (Nat × CatchU)) : (s.updCatches f).pending = s.pending := rfl
@[simp] theorem updCatches_regs (f : List (Nat × CatchU) → List (Nat × CatchU)) : (s.updCatches f).regs = s.regs := rfl
@[simp] theorem updCatches_tickWrites (f : List (Nat × CatchU) → List (Nat × CatchU)) : (s.updCatches f).tickWrites = s.tickWrites := rfl
@[simp] theorem updCatches_latches (f : List (Nat × CatchU) → List (Nat × CatchU)) : (s.updCatches f).latches = s.latches := rfl
@[simp] theorem updCatches_lowHalves (f : List (Nat × CatchU) → List (Nat × CatchU)) : (s.updCatches f).lowHalves = s.lowHalves := rfl
@[simp] theorem updCatches_drawn (f : List (Nat × CatchU) → List (Nat × CatchU)) : (s.updCatches f).drawn = s.drawn := rfl
@[simp] theorem updCatches_sched (f : List (Nat × CatchU) → List (Nat × CatchU)) : (s.updCatches f).sched = s.sched := rfl
@[simp] theorem updCatches_ev (f : List (Nat × CatchU) → List (Nat × CatchU)) : (s.updCatches f).ev = s.ev := rfl
@[simp] theorem updCatches_tick (f : List (Nat × CatchU) → List (Nat × CatchU)) : (s.updCatches f).tick = s.tick := rfl
@[simp] theorem updCatches_ops (f : List (Nat × CatchU) → List (Nat × CatchU)) : (s.updCatches f).ops = s.ops := rfl
@[simp] theorem updCatches_ready (f : List (Nat × CatchU) → List (Nat × CatchU)) : (s.updCatches f).ready = s.ready := rfl
@[simp] theorem updCatches_hostMem (f : List (Nat × CatchU) → List (Nat × CatchU)) : (s.updCatches f).hostMem = s.hostMem := rfl
@[simp] theorem updCatches_stage (f : List (Nat × CatchU) → List (Nat × CatchU)) : (s.updCatches f).stage = s.stage := rfl
@[simp] theorem updCatches_dbg (f : List (Nat × CatchU) → List (Nat × CatchU)) : (s.updCatches f).dbg = s.dbg := rfl
@[simp] theorem updCatches_scratch (f : List (Nat × CatchU) → List (Nat × CatchU)) : (s.updCatches f).scratch = s.scratch := rfl
@[simp] theorem updCatches_reels (f : List (Nat × CatchU) → List (Nat × CatchU)) : (s.updCatches f).reels = s.reels := rfl
@[simp] theorem updCatches_dram (f : List (Nat × CatchU) → List (Nat × CatchU)) : (s.updCatches f).dram = s.dram := rfl
@[simp] theorem updCatches_catches (f : List (Nat × CatchU) → List (Nat × CatchU)) : (s.updCatches f).catches = f s.catches := rfl
@[simp] theorem updCatches_ddr (f : List (Nat × CatchU) → List (Nat × CatchU)) : (s.updCatches f).ddr = s.ddr := rfl
@[simp] theorem updCatches_records (f : List (Nat × CatchU) → List (Nat × CatchU)) : (s.updCatches f).records = s.records := rfl
@[simp] theorem updCatches_dramTags (f : List (Nat × CatchU) → List (Nat × CatchU)) : (s.updCatches f).dramTags = s.dramTags := rfl
@[simp] theorem updCatches_dramBad (f : List (Nat × CatchU) → List (Nat × CatchU)) : (s.updCatches f).dramBad = s.dramBad := rfl
@[simp] theorem updCatches_dramPoison (f : List (Nat × CatchU) → List (Nat × CatchU)) : (s.updCatches f).dramPoison = s.dramPoison := rfl
@[simp] theorem updCatches_dramWhole (f : List (Nat × CatchU) → List (Nat × CatchU)) : (s.updCatches f).dramWhole = s.dramWhole := rfl
@[simp] theorem updCatches_enc (f : List (Nat × CatchU) → List (Nat × CatchU)) : (s.updCatches f).enc = s.enc := rfl
@[simp] theorem updCatches_noc (f : List (Nat × CatchU) → List (Nat × CatchU)) : (s.updCatches f).noc = s.noc := rfl
@[simp] theorem updCatches_disp (f : List (Nat × CatchU) → List (Nat × CatchU)) : (s.updCatches f).disp = s.disp := rfl
@[simp] theorem updCatches_sp (f : List (Nat × CatchU) → List (Nat × CatchU)) : (s.updCatches f).sp = s.sp := rfl
@[simp] theorem updCatches_regions (f : List (Nat × CatchU) → List (Nat × CatchU)) : (s.updCatches f).regions = s.regions := rfl
@[simp] theorem updCatches_slices (f : List (Nat × CatchU) → List (Nat × CatchU)) : (s.updCatches f).slices = s.slices := rfl
@[simp] theorem updCatches_frames (f : List (Nat × CatchU) → List (Nat × CatchU)) : (s.updCatches f).frames = s.frames := rfl
@[simp] theorem updCatches_frameDyn (f : List (Nat × CatchU) → List (Nat × CatchU)) : (s.updCatches f).frameDyn = s.frameDyn := rfl
@[simp] theorem updCatches_frameCode (f : List (Nat × CatchU) → List (Nat × CatchU)) : (s.updCatches f).frameCode = s.frameCode := rfl
@[simp] theorem updCatches_frameBad (f : List (Nat × CatchU) → List (Nat × CatchU)) : (s.updCatches f).frameBad = s.frameBad := rfl
@[simp] theorem updCatches_cfg (f : List (Nat × CatchU) → List (Nat × CatchU)) : (s.updCatches f).cfg = s.cfg := rfl
@[simp] theorem updCatches_flash (f : List (Nat × CatchU) → List (Nat × CatchU)) : (s.updCatches f).flash = s.flash := rfl
@[simp] theorem updCatches_lanes (f : List (Nat × CatchU) → List (Nat × CatchU)) : (s.updCatches f).lanes = s.lanes := rfl
@[simp] theorem updCatches_groups (f : List (Nat × CatchU) → List (Nat × CatchU)) : (s.updCatches f).groups = s.groups := rfl
@[simp] theorem updCatches_clk (f : List (Nat × CatchU) → List (Nat × CatchU)) : (s.updCatches f).clk = s.clk := rfl
@[simp] theorem updCatches_mesh (f : List (Nat × CatchU) → List (Nat × CatchU)) : (s.updCatches f).mesh = s.mesh := rfl
@[simp] theorem updCatches_host (f : List (Nat × CatchU) → List (Nat × CatchU)) : (s.updCatches f).host = s.host := rfl
@[simp] theorem updCatches_pw (f : List (Nat × CatchU) → List (Nat × CatchU)) : (s.updCatches f).pw = s.pw := rfl
@[simp] theorem updCatches_io (f : List (Nat × CatchU) → List (Nat × CatchU)) : (s.updCatches f).io = s.io := rfl
@[simp] theorem updCatches_boot (f : List (Nat × CatchU) → List (Nat × CatchU)) : (s.updCatches f).boot = s.boot := rfl
@[simp] theorem updDdr_pending (f : List (Nat × DdrU) → List (Nat × DdrU)) : (s.updDdr f).pending = s.pending := rfl
@[simp] theorem updDdr_regs (f : List (Nat × DdrU) → List (Nat × DdrU)) : (s.updDdr f).regs = s.regs := rfl
@[simp] theorem updDdr_tickWrites (f : List (Nat × DdrU) → List (Nat × DdrU)) : (s.updDdr f).tickWrites = s.tickWrites := rfl
@[simp] theorem updDdr_latches (f : List (Nat × DdrU) → List (Nat × DdrU)) : (s.updDdr f).latches = s.latches := rfl
@[simp] theorem updDdr_lowHalves (f : List (Nat × DdrU) → List (Nat × DdrU)) : (s.updDdr f).lowHalves = s.lowHalves := rfl
@[simp] theorem updDdr_drawn (f : List (Nat × DdrU) → List (Nat × DdrU)) : (s.updDdr f).drawn = s.drawn := rfl
@[simp] theorem updDdr_sched (f : List (Nat × DdrU) → List (Nat × DdrU)) : (s.updDdr f).sched = s.sched := rfl
@[simp] theorem updDdr_ev (f : List (Nat × DdrU) → List (Nat × DdrU)) : (s.updDdr f).ev = s.ev := rfl
@[simp] theorem updDdr_tick (f : List (Nat × DdrU) → List (Nat × DdrU)) : (s.updDdr f).tick = s.tick := rfl
@[simp] theorem updDdr_ops (f : List (Nat × DdrU) → List (Nat × DdrU)) : (s.updDdr f).ops = s.ops := rfl
@[simp] theorem updDdr_ready (f : List (Nat × DdrU) → List (Nat × DdrU)) : (s.updDdr f).ready = s.ready := rfl
@[simp] theorem updDdr_hostMem (f : List (Nat × DdrU) → List (Nat × DdrU)) : (s.updDdr f).hostMem = s.hostMem := rfl
@[simp] theorem updDdr_stage (f : List (Nat × DdrU) → List (Nat × DdrU)) : (s.updDdr f).stage = s.stage := rfl
@[simp] theorem updDdr_dbg (f : List (Nat × DdrU) → List (Nat × DdrU)) : (s.updDdr f).dbg = s.dbg := rfl
@[simp] theorem updDdr_scratch (f : List (Nat × DdrU) → List (Nat × DdrU)) : (s.updDdr f).scratch = s.scratch := rfl
@[simp] theorem updDdr_reels (f : List (Nat × DdrU) → List (Nat × DdrU)) : (s.updDdr f).reels = s.reels := rfl
@[simp] theorem updDdr_dram (f : List (Nat × DdrU) → List (Nat × DdrU)) : (s.updDdr f).dram = s.dram := rfl
@[simp] theorem updDdr_catches (f : List (Nat × DdrU) → List (Nat × DdrU)) : (s.updDdr f).catches = s.catches := rfl
@[simp] theorem updDdr_ddr (f : List (Nat × DdrU) → List (Nat × DdrU)) : (s.updDdr f).ddr = f s.ddr := rfl
@[simp] theorem updDdr_records (f : List (Nat × DdrU) → List (Nat × DdrU)) : (s.updDdr f).records = s.records := rfl
@[simp] theorem updDdr_dramTags (f : List (Nat × DdrU) → List (Nat × DdrU)) : (s.updDdr f).dramTags = s.dramTags := rfl
@[simp] theorem updDdr_dramBad (f : List (Nat × DdrU) → List (Nat × DdrU)) : (s.updDdr f).dramBad = s.dramBad := rfl
@[simp] theorem updDdr_dramPoison (f : List (Nat × DdrU) → List (Nat × DdrU)) : (s.updDdr f).dramPoison = s.dramPoison := rfl
@[simp] theorem updDdr_dramWhole (f : List (Nat × DdrU) → List (Nat × DdrU)) : (s.updDdr f).dramWhole = s.dramWhole := rfl
@[simp] theorem updDdr_enc (f : List (Nat × DdrU) → List (Nat × DdrU)) : (s.updDdr f).enc = s.enc := rfl
@[simp] theorem updDdr_noc (f : List (Nat × DdrU) → List (Nat × DdrU)) : (s.updDdr f).noc = s.noc := rfl
@[simp] theorem updDdr_disp (f : List (Nat × DdrU) → List (Nat × DdrU)) : (s.updDdr f).disp = s.disp := rfl
@[simp] theorem updDdr_sp (f : List (Nat × DdrU) → List (Nat × DdrU)) : (s.updDdr f).sp = s.sp := rfl
@[simp] theorem updDdr_regions (f : List (Nat × DdrU) → List (Nat × DdrU)) : (s.updDdr f).regions = s.regions := rfl
@[simp] theorem updDdr_slices (f : List (Nat × DdrU) → List (Nat × DdrU)) : (s.updDdr f).slices = s.slices := rfl
@[simp] theorem updDdr_frames (f : List (Nat × DdrU) → List (Nat × DdrU)) : (s.updDdr f).frames = s.frames := rfl
@[simp] theorem updDdr_frameDyn (f : List (Nat × DdrU) → List (Nat × DdrU)) : (s.updDdr f).frameDyn = s.frameDyn := rfl
@[simp] theorem updDdr_frameCode (f : List (Nat × DdrU) → List (Nat × DdrU)) : (s.updDdr f).frameCode = s.frameCode := rfl
@[simp] theorem updDdr_frameBad (f : List (Nat × DdrU) → List (Nat × DdrU)) : (s.updDdr f).frameBad = s.frameBad := rfl
@[simp] theorem updDdr_cfg (f : List (Nat × DdrU) → List (Nat × DdrU)) : (s.updDdr f).cfg = s.cfg := rfl
@[simp] theorem updDdr_flash (f : List (Nat × DdrU) → List (Nat × DdrU)) : (s.updDdr f).flash = s.flash := rfl
@[simp] theorem updDdr_lanes (f : List (Nat × DdrU) → List (Nat × DdrU)) : (s.updDdr f).lanes = s.lanes := rfl
@[simp] theorem updDdr_groups (f : List (Nat × DdrU) → List (Nat × DdrU)) : (s.updDdr f).groups = s.groups := rfl
@[simp] theorem updDdr_clk (f : List (Nat × DdrU) → List (Nat × DdrU)) : (s.updDdr f).clk = s.clk := rfl
@[simp] theorem updDdr_mesh (f : List (Nat × DdrU) → List (Nat × DdrU)) : (s.updDdr f).mesh = s.mesh := rfl
@[simp] theorem updDdr_host (f : List (Nat × DdrU) → List (Nat × DdrU)) : (s.updDdr f).host = s.host := rfl
@[simp] theorem updDdr_pw (f : List (Nat × DdrU) → List (Nat × DdrU)) : (s.updDdr f).pw = s.pw := rfl
@[simp] theorem updDdr_io (f : List (Nat × DdrU) → List (Nat × DdrU)) : (s.updDdr f).io = s.io := rfl
@[simp] theorem updDdr_boot (f : List (Nat × DdrU) → List (Nat × DdrU)) : (s.updDdr f).boot = s.boot := rfl
@[simp] theorem updRecords_pending (f : List (Nat × TrainRec) → List (Nat × TrainRec)) : (s.updRecords f).pending = s.pending := rfl
@[simp] theorem updRecords_regs (f : List (Nat × TrainRec) → List (Nat × TrainRec)) : (s.updRecords f).regs = s.regs := rfl
@[simp] theorem updRecords_tickWrites (f : List (Nat × TrainRec) → List (Nat × TrainRec)) : (s.updRecords f).tickWrites = s.tickWrites := rfl
@[simp] theorem updRecords_latches (f : List (Nat × TrainRec) → List (Nat × TrainRec)) : (s.updRecords f).latches = s.latches := rfl
@[simp] theorem updRecords_lowHalves (f : List (Nat × TrainRec) → List (Nat × TrainRec)) : (s.updRecords f).lowHalves = s.lowHalves := rfl
@[simp] theorem updRecords_drawn (f : List (Nat × TrainRec) → List (Nat × TrainRec)) : (s.updRecords f).drawn = s.drawn := rfl
@[simp] theorem updRecords_sched (f : List (Nat × TrainRec) → List (Nat × TrainRec)) : (s.updRecords f).sched = s.sched := rfl
@[simp] theorem updRecords_ev (f : List (Nat × TrainRec) → List (Nat × TrainRec)) : (s.updRecords f).ev = s.ev := rfl
@[simp] theorem updRecords_tick (f : List (Nat × TrainRec) → List (Nat × TrainRec)) : (s.updRecords f).tick = s.tick := rfl
@[simp] theorem updRecords_ops (f : List (Nat × TrainRec) → List (Nat × TrainRec)) : (s.updRecords f).ops = s.ops := rfl
@[simp] theorem updRecords_ready (f : List (Nat × TrainRec) → List (Nat × TrainRec)) : (s.updRecords f).ready = s.ready := rfl
@[simp] theorem updRecords_hostMem (f : List (Nat × TrainRec) → List (Nat × TrainRec)) : (s.updRecords f).hostMem = s.hostMem := rfl
@[simp] theorem updRecords_stage (f : List (Nat × TrainRec) → List (Nat × TrainRec)) : (s.updRecords f).stage = s.stage := rfl
@[simp] theorem updRecords_dbg (f : List (Nat × TrainRec) → List (Nat × TrainRec)) : (s.updRecords f).dbg = s.dbg := rfl
@[simp] theorem updRecords_scratch (f : List (Nat × TrainRec) → List (Nat × TrainRec)) : (s.updRecords f).scratch = s.scratch := rfl
@[simp] theorem updRecords_reels (f : List (Nat × TrainRec) → List (Nat × TrainRec)) : (s.updRecords f).reels = s.reels := rfl
@[simp] theorem updRecords_dram (f : List (Nat × TrainRec) → List (Nat × TrainRec)) : (s.updRecords f).dram = s.dram := rfl
@[simp] theorem updRecords_catches (f : List (Nat × TrainRec) → List (Nat × TrainRec)) : (s.updRecords f).catches = s.catches := rfl
@[simp] theorem updRecords_ddr (f : List (Nat × TrainRec) → List (Nat × TrainRec)) : (s.updRecords f).ddr = s.ddr := rfl
@[simp] theorem updRecords_records (f : List (Nat × TrainRec) → List (Nat × TrainRec)) : (s.updRecords f).records = f s.records := rfl
@[simp] theorem updRecords_dramTags (f : List (Nat × TrainRec) → List (Nat × TrainRec)) : (s.updRecords f).dramTags = s.dramTags := rfl
@[simp] theorem updRecords_dramBad (f : List (Nat × TrainRec) → List (Nat × TrainRec)) : (s.updRecords f).dramBad = s.dramBad := rfl
@[simp] theorem updRecords_dramPoison (f : List (Nat × TrainRec) → List (Nat × TrainRec)) : (s.updRecords f).dramPoison = s.dramPoison := rfl
@[simp] theorem updRecords_dramWhole (f : List (Nat × TrainRec) → List (Nat × TrainRec)) : (s.updRecords f).dramWhole = s.dramWhole := rfl
@[simp] theorem updRecords_enc (f : List (Nat × TrainRec) → List (Nat × TrainRec)) : (s.updRecords f).enc = s.enc := rfl
@[simp] theorem updRecords_noc (f : List (Nat × TrainRec) → List (Nat × TrainRec)) : (s.updRecords f).noc = s.noc := rfl
@[simp] theorem updRecords_disp (f : List (Nat × TrainRec) → List (Nat × TrainRec)) : (s.updRecords f).disp = s.disp := rfl
@[simp] theorem updRecords_sp (f : List (Nat × TrainRec) → List (Nat × TrainRec)) : (s.updRecords f).sp = s.sp := rfl
@[simp] theorem updRecords_regions (f : List (Nat × TrainRec) → List (Nat × TrainRec)) : (s.updRecords f).regions = s.regions := rfl
@[simp] theorem updRecords_slices (f : List (Nat × TrainRec) → List (Nat × TrainRec)) : (s.updRecords f).slices = s.slices := rfl
@[simp] theorem updRecords_frames (f : List (Nat × TrainRec) → List (Nat × TrainRec)) : (s.updRecords f).frames = s.frames := rfl
@[simp] theorem updRecords_frameDyn (f : List (Nat × TrainRec) → List (Nat × TrainRec)) : (s.updRecords f).frameDyn = s.frameDyn := rfl
@[simp] theorem updRecords_frameCode (f : List (Nat × TrainRec) → List (Nat × TrainRec)) : (s.updRecords f).frameCode = s.frameCode := rfl
@[simp] theorem updRecords_frameBad (f : List (Nat × TrainRec) → List (Nat × TrainRec)) : (s.updRecords f).frameBad = s.frameBad := rfl
@[simp] theorem updRecords_cfg (f : List (Nat × TrainRec) → List (Nat × TrainRec)) : (s.updRecords f).cfg = s.cfg := rfl
@[simp] theorem updRecords_flash (f : List (Nat × TrainRec) → List (Nat × TrainRec)) : (s.updRecords f).flash = s.flash := rfl
@[simp] theorem updRecords_lanes (f : List (Nat × TrainRec) → List (Nat × TrainRec)) : (s.updRecords f).lanes = s.lanes := rfl
@[simp] theorem updRecords_groups (f : List (Nat × TrainRec) → List (Nat × TrainRec)) : (s.updRecords f).groups = s.groups := rfl
@[simp] theorem updRecords_clk (f : List (Nat × TrainRec) → List (Nat × TrainRec)) : (s.updRecords f).clk = s.clk := rfl
@[simp] theorem updRecords_mesh (f : List (Nat × TrainRec) → List (Nat × TrainRec)) : (s.updRecords f).mesh = s.mesh := rfl
@[simp] theorem updRecords_host (f : List (Nat × TrainRec) → List (Nat × TrainRec)) : (s.updRecords f).host = s.host := rfl
@[simp] theorem updRecords_pw (f : List (Nat × TrainRec) → List (Nat × TrainRec)) : (s.updRecords f).pw = s.pw := rfl
@[simp] theorem updRecords_io (f : List (Nat × TrainRec) → List (Nat × TrainRec)) : (s.updRecords f).io = s.io := rfl
@[simp] theorem updRecords_boot (f : List (Nat × TrainRec) → List (Nat × TrainRec)) : (s.updRecords f).boot = s.boot := rfl
@[simp] theorem updDramTags_pending (f : List (Nat × Nat) → List (Nat × Nat)) : (s.updDramTags f).pending = s.pending := rfl
@[simp] theorem updDramTags_regs (f : List (Nat × Nat) → List (Nat × Nat)) : (s.updDramTags f).regs = s.regs := rfl
@[simp] theorem updDramTags_tickWrites (f : List (Nat × Nat) → List (Nat × Nat)) : (s.updDramTags f).tickWrites = s.tickWrites := rfl
@[simp] theorem updDramTags_latches (f : List (Nat × Nat) → List (Nat × Nat)) : (s.updDramTags f).latches = s.latches := rfl
@[simp] theorem updDramTags_lowHalves (f : List (Nat × Nat) → List (Nat × Nat)) : (s.updDramTags f).lowHalves = s.lowHalves := rfl
@[simp] theorem updDramTags_drawn (f : List (Nat × Nat) → List (Nat × Nat)) : (s.updDramTags f).drawn = s.drawn := rfl
@[simp] theorem updDramTags_sched (f : List (Nat × Nat) → List (Nat × Nat)) : (s.updDramTags f).sched = s.sched := rfl
@[simp] theorem updDramTags_ev (f : List (Nat × Nat) → List (Nat × Nat)) : (s.updDramTags f).ev = s.ev := rfl
@[simp] theorem updDramTags_tick (f : List (Nat × Nat) → List (Nat × Nat)) : (s.updDramTags f).tick = s.tick := rfl
@[simp] theorem updDramTags_ops (f : List (Nat × Nat) → List (Nat × Nat)) : (s.updDramTags f).ops = s.ops := rfl
@[simp] theorem updDramTags_ready (f : List (Nat × Nat) → List (Nat × Nat)) : (s.updDramTags f).ready = s.ready := rfl
@[simp] theorem updDramTags_hostMem (f : List (Nat × Nat) → List (Nat × Nat)) : (s.updDramTags f).hostMem = s.hostMem := rfl
@[simp] theorem updDramTags_stage (f : List (Nat × Nat) → List (Nat × Nat)) : (s.updDramTags f).stage = s.stage := rfl
@[simp] theorem updDramTags_dbg (f : List (Nat × Nat) → List (Nat × Nat)) : (s.updDramTags f).dbg = s.dbg := rfl
@[simp] theorem updDramTags_scratch (f : List (Nat × Nat) → List (Nat × Nat)) : (s.updDramTags f).scratch = s.scratch := rfl
@[simp] theorem updDramTags_reels (f : List (Nat × Nat) → List (Nat × Nat)) : (s.updDramTags f).reels = s.reels := rfl
@[simp] theorem updDramTags_dram (f : List (Nat × Nat) → List (Nat × Nat)) : (s.updDramTags f).dram = s.dram := rfl
@[simp] theorem updDramTags_catches (f : List (Nat × Nat) → List (Nat × Nat)) : (s.updDramTags f).catches = s.catches := rfl
@[simp] theorem updDramTags_ddr (f : List (Nat × Nat) → List (Nat × Nat)) : (s.updDramTags f).ddr = s.ddr := rfl
@[simp] theorem updDramTags_records (f : List (Nat × Nat) → List (Nat × Nat)) : (s.updDramTags f).records = s.records := rfl
@[simp] theorem updDramTags_dramTags (f : List (Nat × Nat) → List (Nat × Nat)) : (s.updDramTags f).dramTags = f s.dramTags := rfl
@[simp] theorem updDramTags_dramBad (f : List (Nat × Nat) → List (Nat × Nat)) : (s.updDramTags f).dramBad = s.dramBad := rfl
@[simp] theorem updDramTags_dramPoison (f : List (Nat × Nat) → List (Nat × Nat)) : (s.updDramTags f).dramPoison = s.dramPoison := rfl
@[simp] theorem updDramTags_dramWhole (f : List (Nat × Nat) → List (Nat × Nat)) : (s.updDramTags f).dramWhole = s.dramWhole := rfl
@[simp] theorem updDramTags_enc (f : List (Nat × Nat) → List (Nat × Nat)) : (s.updDramTags f).enc = s.enc := rfl
@[simp] theorem updDramTags_noc (f : List (Nat × Nat) → List (Nat × Nat)) : (s.updDramTags f).noc = s.noc := rfl
@[simp] theorem updDramTags_disp (f : List (Nat × Nat) → List (Nat × Nat)) : (s.updDramTags f).disp = s.disp := rfl
@[simp] theorem updDramTags_sp (f : List (Nat × Nat) → List (Nat × Nat)) : (s.updDramTags f).sp = s.sp := rfl
@[simp] theorem updDramTags_regions (f : List (Nat × Nat) → List (Nat × Nat)) : (s.updDramTags f).regions = s.regions := rfl
@[simp] theorem updDramTags_slices (f : List (Nat × Nat) → List (Nat × Nat)) : (s.updDramTags f).slices = s.slices := rfl
@[simp] theorem updDramTags_frames (f : List (Nat × Nat) → List (Nat × Nat)) : (s.updDramTags f).frames = s.frames := rfl
@[simp] theorem updDramTags_frameDyn (f : List (Nat × Nat) → List (Nat × Nat)) : (s.updDramTags f).frameDyn = s.frameDyn := rfl
@[simp] theorem updDramTags_frameCode (f : List (Nat × Nat) → List (Nat × Nat)) : (s.updDramTags f).frameCode = s.frameCode := rfl
@[simp] theorem updDramTags_frameBad (f : List (Nat × Nat) → List (Nat × Nat)) : (s.updDramTags f).frameBad = s.frameBad := rfl
@[simp] theorem updDramTags_cfg (f : List (Nat × Nat) → List (Nat × Nat)) : (s.updDramTags f).cfg = s.cfg := rfl
@[simp] theorem updDramTags_flash (f : List (Nat × Nat) → List (Nat × Nat)) : (s.updDramTags f).flash = s.flash := rfl
@[simp] theorem updDramTags_lanes (f : List (Nat × Nat) → List (Nat × Nat)) : (s.updDramTags f).lanes = s.lanes := rfl
@[simp] theorem updDramTags_groups (f : List (Nat × Nat) → List (Nat × Nat)) : (s.updDramTags f).groups = s.groups := rfl
@[simp] theorem updDramTags_clk (f : List (Nat × Nat) → List (Nat × Nat)) : (s.updDramTags f).clk = s.clk := rfl
@[simp] theorem updDramTags_mesh (f : List (Nat × Nat) → List (Nat × Nat)) : (s.updDramTags f).mesh = s.mesh := rfl
@[simp] theorem updDramTags_host (f : List (Nat × Nat) → List (Nat × Nat)) : (s.updDramTags f).host = s.host := rfl
@[simp] theorem updDramTags_pw (f : List (Nat × Nat) → List (Nat × Nat)) : (s.updDramTags f).pw = s.pw := rfl
@[simp] theorem updDramTags_io (f : List (Nat × Nat) → List (Nat × Nat)) : (s.updDramTags f).io = s.io := rfl
@[simp] theorem updDramTags_boot (f : List (Nat × Nat) → List (Nat × Nat)) : (s.updDramTags f).boot = s.boot := rfl
@[simp] theorem updDramBad_pending (f : List (Nat × Nat) → List (Nat × Nat)) : (s.updDramBad f).pending = s.pending := rfl
@[simp] theorem updDramBad_regs (f : List (Nat × Nat) → List (Nat × Nat)) : (s.updDramBad f).regs = s.regs := rfl
@[simp] theorem updDramBad_tickWrites (f : List (Nat × Nat) → List (Nat × Nat)) : (s.updDramBad f).tickWrites = s.tickWrites := rfl
@[simp] theorem updDramBad_latches (f : List (Nat × Nat) → List (Nat × Nat)) : (s.updDramBad f).latches = s.latches := rfl
@[simp] theorem updDramBad_lowHalves (f : List (Nat × Nat) → List (Nat × Nat)) : (s.updDramBad f).lowHalves = s.lowHalves := rfl
@[simp] theorem updDramBad_drawn (f : List (Nat × Nat) → List (Nat × Nat)) : (s.updDramBad f).drawn = s.drawn := rfl
@[simp] theorem updDramBad_sched (f : List (Nat × Nat) → List (Nat × Nat)) : (s.updDramBad f).sched = s.sched := rfl
@[simp] theorem updDramBad_ev (f : List (Nat × Nat) → List (Nat × Nat)) : (s.updDramBad f).ev = s.ev := rfl
@[simp] theorem updDramBad_tick (f : List (Nat × Nat) → List (Nat × Nat)) : (s.updDramBad f).tick = s.tick := rfl
@[simp] theorem updDramBad_ops (f : List (Nat × Nat) → List (Nat × Nat)) : (s.updDramBad f).ops = s.ops := rfl
@[simp] theorem updDramBad_ready (f : List (Nat × Nat) → List (Nat × Nat)) : (s.updDramBad f).ready = s.ready := rfl
@[simp] theorem updDramBad_hostMem (f : List (Nat × Nat) → List (Nat × Nat)) : (s.updDramBad f).hostMem = s.hostMem := rfl
@[simp] theorem updDramBad_stage (f : List (Nat × Nat) → List (Nat × Nat)) : (s.updDramBad f).stage = s.stage := rfl
@[simp] theorem updDramBad_dbg (f : List (Nat × Nat) → List (Nat × Nat)) : (s.updDramBad f).dbg = s.dbg := rfl
@[simp] theorem updDramBad_scratch (f : List (Nat × Nat) → List (Nat × Nat)) : (s.updDramBad f).scratch = s.scratch := rfl
@[simp] theorem updDramBad_reels (f : List (Nat × Nat) → List (Nat × Nat)) : (s.updDramBad f).reels = s.reels := rfl
@[simp] theorem updDramBad_dram (f : List (Nat × Nat) → List (Nat × Nat)) : (s.updDramBad f).dram = s.dram := rfl
@[simp] theorem updDramBad_catches (f : List (Nat × Nat) → List (Nat × Nat)) : (s.updDramBad f).catches = s.catches := rfl
@[simp] theorem updDramBad_ddr (f : List (Nat × Nat) → List (Nat × Nat)) : (s.updDramBad f).ddr = s.ddr := rfl
@[simp] theorem updDramBad_records (f : List (Nat × Nat) → List (Nat × Nat)) : (s.updDramBad f).records = s.records := rfl
@[simp] theorem updDramBad_dramTags (f : List (Nat × Nat) → List (Nat × Nat)) : (s.updDramBad f).dramTags = s.dramTags := rfl
@[simp] theorem updDramBad_dramBad (f : List (Nat × Nat) → List (Nat × Nat)) : (s.updDramBad f).dramBad = f s.dramBad := rfl
@[simp] theorem updDramBad_dramPoison (f : List (Nat × Nat) → List (Nat × Nat)) : (s.updDramBad f).dramPoison = s.dramPoison := rfl
@[simp] theorem updDramBad_dramWhole (f : List (Nat × Nat) → List (Nat × Nat)) : (s.updDramBad f).dramWhole = s.dramWhole := rfl
@[simp] theorem updDramBad_enc (f : List (Nat × Nat) → List (Nat × Nat)) : (s.updDramBad f).enc = s.enc := rfl
@[simp] theorem updDramBad_noc (f : List (Nat × Nat) → List (Nat × Nat)) : (s.updDramBad f).noc = s.noc := rfl
@[simp] theorem updDramBad_disp (f : List (Nat × Nat) → List (Nat × Nat)) : (s.updDramBad f).disp = s.disp := rfl
@[simp] theorem updDramBad_sp (f : List (Nat × Nat) → List (Nat × Nat)) : (s.updDramBad f).sp = s.sp := rfl
@[simp] theorem updDramBad_regions (f : List (Nat × Nat) → List (Nat × Nat)) : (s.updDramBad f).regions = s.regions := rfl
@[simp] theorem updDramBad_slices (f : List (Nat × Nat) → List (Nat × Nat)) : (s.updDramBad f).slices = s.slices := rfl
@[simp] theorem updDramBad_frames (f : List (Nat × Nat) → List (Nat × Nat)) : (s.updDramBad f).frames = s.frames := rfl
@[simp] theorem updDramBad_frameDyn (f : List (Nat × Nat) → List (Nat × Nat)) : (s.updDramBad f).frameDyn = s.frameDyn := rfl
@[simp] theorem updDramBad_frameCode (f : List (Nat × Nat) → List (Nat × Nat)) : (s.updDramBad f).frameCode = s.frameCode := rfl
@[simp] theorem updDramBad_frameBad (f : List (Nat × Nat) → List (Nat × Nat)) : (s.updDramBad f).frameBad = s.frameBad := rfl
@[simp] theorem updDramBad_cfg (f : List (Nat × Nat) → List (Nat × Nat)) : (s.updDramBad f).cfg = s.cfg := rfl
@[simp] theorem updDramBad_flash (f : List (Nat × Nat) → List (Nat × Nat)) : (s.updDramBad f).flash = s.flash := rfl
@[simp] theorem updDramBad_lanes (f : List (Nat × Nat) → List (Nat × Nat)) : (s.updDramBad f).lanes = s.lanes := rfl
@[simp] theorem updDramBad_groups (f : List (Nat × Nat) → List (Nat × Nat)) : (s.updDramBad f).groups = s.groups := rfl
@[simp] theorem updDramBad_clk (f : List (Nat × Nat) → List (Nat × Nat)) : (s.updDramBad f).clk = s.clk := rfl
@[simp] theorem updDramBad_mesh (f : List (Nat × Nat) → List (Nat × Nat)) : (s.updDramBad f).mesh = s.mesh := rfl
@[simp] theorem updDramBad_host (f : List (Nat × Nat) → List (Nat × Nat)) : (s.updDramBad f).host = s.host := rfl
@[simp] theorem updDramBad_pw (f : List (Nat × Nat) → List (Nat × Nat)) : (s.updDramBad f).pw = s.pw := rfl
@[simp] theorem updDramBad_io (f : List (Nat × Nat) → List (Nat × Nat)) : (s.updDramBad f).io = s.io := rfl
@[simp] theorem updDramBad_boot (f : List (Nat × Nat) → List (Nat × Nat)) : (s.updDramBad f).boot = s.boot := rfl
@[simp] theorem updDramPoison_pending (f : List (Nat × Nat) → List (Nat × Nat)) : (s.updDramPoison f).pending = s.pending := rfl
@[simp] theorem updDramPoison_regs (f : List (Nat × Nat) → List (Nat × Nat)) : (s.updDramPoison f).regs = s.regs := rfl
@[simp] theorem updDramPoison_tickWrites (f : List (Nat × Nat) → List (Nat × Nat)) : (s.updDramPoison f).tickWrites = s.tickWrites := rfl
@[simp] theorem updDramPoison_latches (f : List (Nat × Nat) → List (Nat × Nat)) : (s.updDramPoison f).latches = s.latches := rfl
@[simp] theorem updDramPoison_lowHalves (f : List (Nat × Nat) → List (Nat × Nat)) : (s.updDramPoison f).lowHalves = s.lowHalves := rfl
@[simp] theorem updDramPoison_drawn (f : List (Nat × Nat) → List (Nat × Nat)) : (s.updDramPoison f).drawn = s.drawn := rfl
@[simp] theorem updDramPoison_sched (f : List (Nat × Nat) → List (Nat × Nat)) : (s.updDramPoison f).sched = s.sched := rfl
@[simp] theorem updDramPoison_ev (f : List (Nat × Nat) → List (Nat × Nat)) : (s.updDramPoison f).ev = s.ev := rfl
@[simp] theorem updDramPoison_tick (f : List (Nat × Nat) → List (Nat × Nat)) : (s.updDramPoison f).tick = s.tick := rfl
@[simp] theorem updDramPoison_ops (f : List (Nat × Nat) → List (Nat × Nat)) : (s.updDramPoison f).ops = s.ops := rfl
@[simp] theorem updDramPoison_ready (f : List (Nat × Nat) → List (Nat × Nat)) : (s.updDramPoison f).ready = s.ready := rfl
@[simp] theorem updDramPoison_hostMem (f : List (Nat × Nat) → List (Nat × Nat)) : (s.updDramPoison f).hostMem = s.hostMem := rfl
@[simp] theorem updDramPoison_stage (f : List (Nat × Nat) → List (Nat × Nat)) : (s.updDramPoison f).stage = s.stage := rfl
@[simp] theorem updDramPoison_dbg (f : List (Nat × Nat) → List (Nat × Nat)) : (s.updDramPoison f).dbg = s.dbg := rfl
@[simp] theorem updDramPoison_scratch (f : List (Nat × Nat) → List (Nat × Nat)) : (s.updDramPoison f).scratch = s.scratch := rfl
@[simp] theorem updDramPoison_reels (f : List (Nat × Nat) → List (Nat × Nat)) : (s.updDramPoison f).reels = s.reels := rfl
@[simp] theorem updDramPoison_dram (f : List (Nat × Nat) → List (Nat × Nat)) : (s.updDramPoison f).dram = s.dram := rfl
@[simp] theorem updDramPoison_catches (f : List (Nat × Nat) → List (Nat × Nat)) : (s.updDramPoison f).catches = s.catches := rfl
@[simp] theorem updDramPoison_ddr (f : List (Nat × Nat) → List (Nat × Nat)) : (s.updDramPoison f).ddr = s.ddr := rfl
@[simp] theorem updDramPoison_records (f : List (Nat × Nat) → List (Nat × Nat)) : (s.updDramPoison f).records = s.records := rfl
@[simp] theorem updDramPoison_dramTags (f : List (Nat × Nat) → List (Nat × Nat)) : (s.updDramPoison f).dramTags = s.dramTags := rfl
@[simp] theorem updDramPoison_dramBad (f : List (Nat × Nat) → List (Nat × Nat)) : (s.updDramPoison f).dramBad = s.dramBad := rfl
@[simp] theorem updDramPoison_dramPoison (f : List (Nat × Nat) → List (Nat × Nat)) : (s.updDramPoison f).dramPoison = f s.dramPoison := rfl
@[simp] theorem updDramPoison_dramWhole (f : List (Nat × Nat) → List (Nat × Nat)) : (s.updDramPoison f).dramWhole = s.dramWhole := rfl
@[simp] theorem updDramPoison_enc (f : List (Nat × Nat) → List (Nat × Nat)) : (s.updDramPoison f).enc = s.enc := rfl
@[simp] theorem updDramPoison_noc (f : List (Nat × Nat) → List (Nat × Nat)) : (s.updDramPoison f).noc = s.noc := rfl
@[simp] theorem updDramPoison_disp (f : List (Nat × Nat) → List (Nat × Nat)) : (s.updDramPoison f).disp = s.disp := rfl
@[simp] theorem updDramPoison_sp (f : List (Nat × Nat) → List (Nat × Nat)) : (s.updDramPoison f).sp = s.sp := rfl
@[simp] theorem updDramPoison_regions (f : List (Nat × Nat) → List (Nat × Nat)) : (s.updDramPoison f).regions = s.regions := rfl
@[simp] theorem updDramPoison_slices (f : List (Nat × Nat) → List (Nat × Nat)) : (s.updDramPoison f).slices = s.slices := rfl
@[simp] theorem updDramPoison_frames (f : List (Nat × Nat) → List (Nat × Nat)) : (s.updDramPoison f).frames = s.frames := rfl
@[simp] theorem updDramPoison_frameDyn (f : List (Nat × Nat) → List (Nat × Nat)) : (s.updDramPoison f).frameDyn = s.frameDyn := rfl
@[simp] theorem updDramPoison_frameCode (f : List (Nat × Nat) → List (Nat × Nat)) : (s.updDramPoison f).frameCode = s.frameCode := rfl
@[simp] theorem updDramPoison_frameBad (f : List (Nat × Nat) → List (Nat × Nat)) : (s.updDramPoison f).frameBad = s.frameBad := rfl
@[simp] theorem updDramPoison_cfg (f : List (Nat × Nat) → List (Nat × Nat)) : (s.updDramPoison f).cfg = s.cfg := rfl
@[simp] theorem updDramPoison_flash (f : List (Nat × Nat) → List (Nat × Nat)) : (s.updDramPoison f).flash = s.flash := rfl
@[simp] theorem updDramPoison_lanes (f : List (Nat × Nat) → List (Nat × Nat)) : (s.updDramPoison f).lanes = s.lanes := rfl
@[simp] theorem updDramPoison_groups (f : List (Nat × Nat) → List (Nat × Nat)) : (s.updDramPoison f).groups = s.groups := rfl
@[simp] theorem updDramPoison_clk (f : List (Nat × Nat) → List (Nat × Nat)) : (s.updDramPoison f).clk = s.clk := rfl
@[simp] theorem updDramPoison_mesh (f : List (Nat × Nat) → List (Nat × Nat)) : (s.updDramPoison f).mesh = s.mesh := rfl
@[simp] theorem updDramPoison_host (f : List (Nat × Nat) → List (Nat × Nat)) : (s.updDramPoison f).host = s.host := rfl
@[simp] theorem updDramPoison_pw (f : List (Nat × Nat) → List (Nat × Nat)) : (s.updDramPoison f).pw = s.pw := rfl
@[simp] theorem updDramPoison_io (f : List (Nat × Nat) → List (Nat × Nat)) : (s.updDramPoison f).io = s.io := rfl
@[simp] theorem updDramPoison_boot (f : List (Nat × Nat) → List (Nat × Nat)) : (s.updDramPoison f).boot = s.boot := rfl
@[simp] theorem updDramWhole_pending (f : List (Nat × Nat) → List (Nat × Nat)) : (s.updDramWhole f).pending = s.pending := rfl
@[simp] theorem updDramWhole_regs (f : List (Nat × Nat) → List (Nat × Nat)) : (s.updDramWhole f).regs = s.regs := rfl
@[simp] theorem updDramWhole_tickWrites (f : List (Nat × Nat) → List (Nat × Nat)) : (s.updDramWhole f).tickWrites = s.tickWrites := rfl
@[simp] theorem updDramWhole_latches (f : List (Nat × Nat) → List (Nat × Nat)) : (s.updDramWhole f).latches = s.latches := rfl
@[simp] theorem updDramWhole_lowHalves (f : List (Nat × Nat) → List (Nat × Nat)) : (s.updDramWhole f).lowHalves = s.lowHalves := rfl
@[simp] theorem updDramWhole_drawn (f : List (Nat × Nat) → List (Nat × Nat)) : (s.updDramWhole f).drawn = s.drawn := rfl
@[simp] theorem updDramWhole_sched (f : List (Nat × Nat) → List (Nat × Nat)) : (s.updDramWhole f).sched = s.sched := rfl
@[simp] theorem updDramWhole_ev (f : List (Nat × Nat) → List (Nat × Nat)) : (s.updDramWhole f).ev = s.ev := rfl
@[simp] theorem updDramWhole_tick (f : List (Nat × Nat) → List (Nat × Nat)) : (s.updDramWhole f).tick = s.tick := rfl
@[simp] theorem updDramWhole_ops (f : List (Nat × Nat) → List (Nat × Nat)) : (s.updDramWhole f).ops = s.ops := rfl
@[simp] theorem updDramWhole_ready (f : List (Nat × Nat) → List (Nat × Nat)) : (s.updDramWhole f).ready = s.ready := rfl
@[simp] theorem updDramWhole_hostMem (f : List (Nat × Nat) → List (Nat × Nat)) : (s.updDramWhole f).hostMem = s.hostMem := rfl
@[simp] theorem updDramWhole_stage (f : List (Nat × Nat) → List (Nat × Nat)) : (s.updDramWhole f).stage = s.stage := rfl
@[simp] theorem updDramWhole_dbg (f : List (Nat × Nat) → List (Nat × Nat)) : (s.updDramWhole f).dbg = s.dbg := rfl
@[simp] theorem updDramWhole_scratch (f : List (Nat × Nat) → List (Nat × Nat)) : (s.updDramWhole f).scratch = s.scratch := rfl
@[simp] theorem updDramWhole_reels (f : List (Nat × Nat) → List (Nat × Nat)) : (s.updDramWhole f).reels = s.reels := rfl
@[simp] theorem updDramWhole_dram (f : List (Nat × Nat) → List (Nat × Nat)) : (s.updDramWhole f).dram = s.dram := rfl
@[simp] theorem updDramWhole_catches (f : List (Nat × Nat) → List (Nat × Nat)) : (s.updDramWhole f).catches = s.catches := rfl
@[simp] theorem updDramWhole_ddr (f : List (Nat × Nat) → List (Nat × Nat)) : (s.updDramWhole f).ddr = s.ddr := rfl
@[simp] theorem updDramWhole_records (f : List (Nat × Nat) → List (Nat × Nat)) : (s.updDramWhole f).records = s.records := rfl
@[simp] theorem updDramWhole_dramTags (f : List (Nat × Nat) → List (Nat × Nat)) : (s.updDramWhole f).dramTags = s.dramTags := rfl
@[simp] theorem updDramWhole_dramBad (f : List (Nat × Nat) → List (Nat × Nat)) : (s.updDramWhole f).dramBad = s.dramBad := rfl
@[simp] theorem updDramWhole_dramPoison (f : List (Nat × Nat) → List (Nat × Nat)) : (s.updDramWhole f).dramPoison = s.dramPoison := rfl
@[simp] theorem updDramWhole_dramWhole (f : List (Nat × Nat) → List (Nat × Nat)) : (s.updDramWhole f).dramWhole = f s.dramWhole := rfl
@[simp] theorem updDramWhole_enc (f : List (Nat × Nat) → List (Nat × Nat)) : (s.updDramWhole f).enc = s.enc := rfl
@[simp] theorem updDramWhole_noc (f : List (Nat × Nat) → List (Nat × Nat)) : (s.updDramWhole f).noc = s.noc := rfl
@[simp] theorem updDramWhole_disp (f : List (Nat × Nat) → List (Nat × Nat)) : (s.updDramWhole f).disp = s.disp := rfl
@[simp] theorem updDramWhole_sp (f : List (Nat × Nat) → List (Nat × Nat)) : (s.updDramWhole f).sp = s.sp := rfl
@[simp] theorem updDramWhole_regions (f : List (Nat × Nat) → List (Nat × Nat)) : (s.updDramWhole f).regions = s.regions := rfl
@[simp] theorem updDramWhole_slices (f : List (Nat × Nat) → List (Nat × Nat)) : (s.updDramWhole f).slices = s.slices := rfl
@[simp] theorem updDramWhole_frames (f : List (Nat × Nat) → List (Nat × Nat)) : (s.updDramWhole f).frames = s.frames := rfl
@[simp] theorem updDramWhole_frameDyn (f : List (Nat × Nat) → List (Nat × Nat)) : (s.updDramWhole f).frameDyn = s.frameDyn := rfl
@[simp] theorem updDramWhole_frameCode (f : List (Nat × Nat) → List (Nat × Nat)) : (s.updDramWhole f).frameCode = s.frameCode := rfl
@[simp] theorem updDramWhole_frameBad (f : List (Nat × Nat) → List (Nat × Nat)) : (s.updDramWhole f).frameBad = s.frameBad := rfl
@[simp] theorem updDramWhole_cfg (f : List (Nat × Nat) → List (Nat × Nat)) : (s.updDramWhole f).cfg = s.cfg := rfl
@[simp] theorem updDramWhole_flash (f : List (Nat × Nat) → List (Nat × Nat)) : (s.updDramWhole f).flash = s.flash := rfl
@[simp] theorem updDramWhole_lanes (f : List (Nat × Nat) → List (Nat × Nat)) : (s.updDramWhole f).lanes = s.lanes := rfl
@[simp] theorem updDramWhole_groups (f : List (Nat × Nat) → List (Nat × Nat)) : (s.updDramWhole f).groups = s.groups := rfl
@[simp] theorem updDramWhole_clk (f : List (Nat × Nat) → List (Nat × Nat)) : (s.updDramWhole f).clk = s.clk := rfl
@[simp] theorem updDramWhole_mesh (f : List (Nat × Nat) → List (Nat × Nat)) : (s.updDramWhole f).mesh = s.mesh := rfl
@[simp] theorem updDramWhole_host (f : List (Nat × Nat) → List (Nat × Nat)) : (s.updDramWhole f).host = s.host := rfl
@[simp] theorem updDramWhole_pw (f : List (Nat × Nat) → List (Nat × Nat)) : (s.updDramWhole f).pw = s.pw := rfl
@[simp] theorem updDramWhole_io (f : List (Nat × Nat) → List (Nat × Nat)) : (s.updDramWhole f).io = s.io := rfl
@[simp] theorem updDramWhole_boot (f : List (Nat × Nat) → List (Nat × Nat)) : (s.updDramWhole f).boot = s.boot := rfl
@[simp] theorem updEnc_pending (f : EncSt → EncSt) : (s.updEnc f).pending = s.pending := rfl
@[simp] theorem updEnc_regs (f : EncSt → EncSt) : (s.updEnc f).regs = s.regs := rfl
@[simp] theorem updEnc_tickWrites (f : EncSt → EncSt) : (s.updEnc f).tickWrites = s.tickWrites := rfl
@[simp] theorem updEnc_latches (f : EncSt → EncSt) : (s.updEnc f).latches = s.latches := rfl
@[simp] theorem updEnc_lowHalves (f : EncSt → EncSt) : (s.updEnc f).lowHalves = s.lowHalves := rfl
@[simp] theorem updEnc_drawn (f : EncSt → EncSt) : (s.updEnc f).drawn = s.drawn := rfl
@[simp] theorem updEnc_sched (f : EncSt → EncSt) : (s.updEnc f).sched = s.sched := rfl
@[simp] theorem updEnc_ev (f : EncSt → EncSt) : (s.updEnc f).ev = s.ev := rfl
@[simp] theorem updEnc_tick (f : EncSt → EncSt) : (s.updEnc f).tick = s.tick := rfl
@[simp] theorem updEnc_ops (f : EncSt → EncSt) : (s.updEnc f).ops = s.ops := rfl
@[simp] theorem updEnc_ready (f : EncSt → EncSt) : (s.updEnc f).ready = s.ready := rfl
@[simp] theorem updEnc_hostMem (f : EncSt → EncSt) : (s.updEnc f).hostMem = s.hostMem := rfl
@[simp] theorem updEnc_stage (f : EncSt → EncSt) : (s.updEnc f).stage = s.stage := rfl
@[simp] theorem updEnc_dbg (f : EncSt → EncSt) : (s.updEnc f).dbg = s.dbg := rfl
@[simp] theorem updEnc_scratch (f : EncSt → EncSt) : (s.updEnc f).scratch = s.scratch := rfl
@[simp] theorem updEnc_reels (f : EncSt → EncSt) : (s.updEnc f).reels = s.reels := rfl
@[simp] theorem updEnc_dram (f : EncSt → EncSt) : (s.updEnc f).dram = s.dram := rfl
@[simp] theorem updEnc_catches (f : EncSt → EncSt) : (s.updEnc f).catches = s.catches := rfl
@[simp] theorem updEnc_ddr (f : EncSt → EncSt) : (s.updEnc f).ddr = s.ddr := rfl
@[simp] theorem updEnc_records (f : EncSt → EncSt) : (s.updEnc f).records = s.records := rfl
@[simp] theorem updEnc_dramTags (f : EncSt → EncSt) : (s.updEnc f).dramTags = s.dramTags := rfl
@[simp] theorem updEnc_dramBad (f : EncSt → EncSt) : (s.updEnc f).dramBad = s.dramBad := rfl
@[simp] theorem updEnc_dramPoison (f : EncSt → EncSt) : (s.updEnc f).dramPoison = s.dramPoison := rfl
@[simp] theorem updEnc_dramWhole (f : EncSt → EncSt) : (s.updEnc f).dramWhole = s.dramWhole := rfl
@[simp] theorem updEnc_enc (f : EncSt → EncSt) : (s.updEnc f).enc = f s.enc := rfl
@[simp] theorem updEnc_noc (f : EncSt → EncSt) : (s.updEnc f).noc = s.noc := rfl
@[simp] theorem updEnc_disp (f : EncSt → EncSt) : (s.updEnc f).disp = s.disp := rfl
@[simp] theorem updEnc_sp (f : EncSt → EncSt) : (s.updEnc f).sp = s.sp := rfl
@[simp] theorem updEnc_regions (f : EncSt → EncSt) : (s.updEnc f).regions = s.regions := rfl
@[simp] theorem updEnc_slices (f : EncSt → EncSt) : (s.updEnc f).slices = s.slices := rfl
@[simp] theorem updEnc_frames (f : EncSt → EncSt) : (s.updEnc f).frames = s.frames := rfl
@[simp] theorem updEnc_frameDyn (f : EncSt → EncSt) : (s.updEnc f).frameDyn = s.frameDyn := rfl
@[simp] theorem updEnc_frameCode (f : EncSt → EncSt) : (s.updEnc f).frameCode = s.frameCode := rfl
@[simp] theorem updEnc_frameBad (f : EncSt → EncSt) : (s.updEnc f).frameBad = s.frameBad := rfl
@[simp] theorem updEnc_cfg (f : EncSt → EncSt) : (s.updEnc f).cfg = s.cfg := rfl
@[simp] theorem updEnc_flash (f : EncSt → EncSt) : (s.updEnc f).flash = s.flash := rfl
@[simp] theorem updEnc_lanes (f : EncSt → EncSt) : (s.updEnc f).lanes = s.lanes := rfl
@[simp] theorem updEnc_groups (f : EncSt → EncSt) : (s.updEnc f).groups = s.groups := rfl
@[simp] theorem updEnc_clk (f : EncSt → EncSt) : (s.updEnc f).clk = s.clk := rfl
@[simp] theorem updEnc_mesh (f : EncSt → EncSt) : (s.updEnc f).mesh = s.mesh := rfl
@[simp] theorem updEnc_host (f : EncSt → EncSt) : (s.updEnc f).host = s.host := rfl
@[simp] theorem updEnc_pw (f : EncSt → EncSt) : (s.updEnc f).pw = s.pw := rfl
@[simp] theorem updEnc_io (f : EncSt → EncSt) : (s.updEnc f).io = s.io := rfl
@[simp] theorem updEnc_boot (f : EncSt → EncSt) : (s.updEnc f).boot = s.boot := rfl
@[simp] theorem updNoc_pending (f : NocSt → NocSt) : (s.updNoc f).pending = s.pending := rfl
@[simp] theorem updNoc_regs (f : NocSt → NocSt) : (s.updNoc f).regs = s.regs := rfl
@[simp] theorem updNoc_tickWrites (f : NocSt → NocSt) : (s.updNoc f).tickWrites = s.tickWrites := rfl
@[simp] theorem updNoc_latches (f : NocSt → NocSt) : (s.updNoc f).latches = s.latches := rfl
@[simp] theorem updNoc_lowHalves (f : NocSt → NocSt) : (s.updNoc f).lowHalves = s.lowHalves := rfl
@[simp] theorem updNoc_drawn (f : NocSt → NocSt) : (s.updNoc f).drawn = s.drawn := rfl
@[simp] theorem updNoc_sched (f : NocSt → NocSt) : (s.updNoc f).sched = s.sched := rfl
@[simp] theorem updNoc_ev (f : NocSt → NocSt) : (s.updNoc f).ev = s.ev := rfl
@[simp] theorem updNoc_tick (f : NocSt → NocSt) : (s.updNoc f).tick = s.tick := rfl
@[simp] theorem updNoc_ops (f : NocSt → NocSt) : (s.updNoc f).ops = s.ops := rfl
@[simp] theorem updNoc_ready (f : NocSt → NocSt) : (s.updNoc f).ready = s.ready := rfl
@[simp] theorem updNoc_hostMem (f : NocSt → NocSt) : (s.updNoc f).hostMem = s.hostMem := rfl
@[simp] theorem updNoc_stage (f : NocSt → NocSt) : (s.updNoc f).stage = s.stage := rfl
@[simp] theorem updNoc_dbg (f : NocSt → NocSt) : (s.updNoc f).dbg = s.dbg := rfl
@[simp] theorem updNoc_scratch (f : NocSt → NocSt) : (s.updNoc f).scratch = s.scratch := rfl
@[simp] theorem updNoc_reels (f : NocSt → NocSt) : (s.updNoc f).reels = s.reels := rfl
@[simp] theorem updNoc_dram (f : NocSt → NocSt) : (s.updNoc f).dram = s.dram := rfl
@[simp] theorem updNoc_catches (f : NocSt → NocSt) : (s.updNoc f).catches = s.catches := rfl
@[simp] theorem updNoc_ddr (f : NocSt → NocSt) : (s.updNoc f).ddr = s.ddr := rfl
@[simp] theorem updNoc_records (f : NocSt → NocSt) : (s.updNoc f).records = s.records := rfl
@[simp] theorem updNoc_dramTags (f : NocSt → NocSt) : (s.updNoc f).dramTags = s.dramTags := rfl
@[simp] theorem updNoc_dramBad (f : NocSt → NocSt) : (s.updNoc f).dramBad = s.dramBad := rfl
@[simp] theorem updNoc_dramPoison (f : NocSt → NocSt) : (s.updNoc f).dramPoison = s.dramPoison := rfl
@[simp] theorem updNoc_dramWhole (f : NocSt → NocSt) : (s.updNoc f).dramWhole = s.dramWhole := rfl
@[simp] theorem updNoc_enc (f : NocSt → NocSt) : (s.updNoc f).enc = s.enc := rfl
@[simp] theorem updNoc_noc (f : NocSt → NocSt) : (s.updNoc f).noc = f s.noc := rfl
@[simp] theorem updNoc_disp (f : NocSt → NocSt) : (s.updNoc f).disp = s.disp := rfl
@[simp] theorem updNoc_sp (f : NocSt → NocSt) : (s.updNoc f).sp = s.sp := rfl
@[simp] theorem updNoc_regions (f : NocSt → NocSt) : (s.updNoc f).regions = s.regions := rfl
@[simp] theorem updNoc_slices (f : NocSt → NocSt) : (s.updNoc f).slices = s.slices := rfl
@[simp] theorem updNoc_frames (f : NocSt → NocSt) : (s.updNoc f).frames = s.frames := rfl
@[simp] theorem updNoc_frameDyn (f : NocSt → NocSt) : (s.updNoc f).frameDyn = s.frameDyn := rfl
@[simp] theorem updNoc_frameCode (f : NocSt → NocSt) : (s.updNoc f).frameCode = s.frameCode := rfl
@[simp] theorem updNoc_frameBad (f : NocSt → NocSt) : (s.updNoc f).frameBad = s.frameBad := rfl
@[simp] theorem updNoc_cfg (f : NocSt → NocSt) : (s.updNoc f).cfg = s.cfg := rfl
@[simp] theorem updNoc_flash (f : NocSt → NocSt) : (s.updNoc f).flash = s.flash := rfl
@[simp] theorem updNoc_lanes (f : NocSt → NocSt) : (s.updNoc f).lanes = s.lanes := rfl
@[simp] theorem updNoc_groups (f : NocSt → NocSt) : (s.updNoc f).groups = s.groups := rfl
@[simp] theorem updNoc_clk (f : NocSt → NocSt) : (s.updNoc f).clk = s.clk := rfl
@[simp] theorem updNoc_mesh (f : NocSt → NocSt) : (s.updNoc f).mesh = s.mesh := rfl
@[simp] theorem updNoc_host (f : NocSt → NocSt) : (s.updNoc f).host = s.host := rfl
@[simp] theorem updNoc_pw (f : NocSt → NocSt) : (s.updNoc f).pw = s.pw := rfl
@[simp] theorem updNoc_io (f : NocSt → NocSt) : (s.updNoc f).io = s.io := rfl
@[simp] theorem updNoc_boot (f : NocSt → NocSt) : (s.updNoc f).boot = s.boot := rfl
@[simp] theorem updDisp_pending (f : DispSt → DispSt) : (s.updDisp f).pending = s.pending := rfl
@[simp] theorem updDisp_regs (f : DispSt → DispSt) : (s.updDisp f).regs = s.regs := rfl
@[simp] theorem updDisp_tickWrites (f : DispSt → DispSt) : (s.updDisp f).tickWrites = s.tickWrites := rfl
@[simp] theorem updDisp_latches (f : DispSt → DispSt) : (s.updDisp f).latches = s.latches := rfl
@[simp] theorem updDisp_lowHalves (f : DispSt → DispSt) : (s.updDisp f).lowHalves = s.lowHalves := rfl
@[simp] theorem updDisp_drawn (f : DispSt → DispSt) : (s.updDisp f).drawn = s.drawn := rfl
@[simp] theorem updDisp_sched (f : DispSt → DispSt) : (s.updDisp f).sched = s.sched := rfl
@[simp] theorem updDisp_ev (f : DispSt → DispSt) : (s.updDisp f).ev = s.ev := rfl
@[simp] theorem updDisp_tick (f : DispSt → DispSt) : (s.updDisp f).tick = s.tick := rfl
@[simp] theorem updDisp_ops (f : DispSt → DispSt) : (s.updDisp f).ops = s.ops := rfl
@[simp] theorem updDisp_ready (f : DispSt → DispSt) : (s.updDisp f).ready = s.ready := rfl
@[simp] theorem updDisp_hostMem (f : DispSt → DispSt) : (s.updDisp f).hostMem = s.hostMem := rfl
@[simp] theorem updDisp_stage (f : DispSt → DispSt) : (s.updDisp f).stage = s.stage := rfl
@[simp] theorem updDisp_dbg (f : DispSt → DispSt) : (s.updDisp f).dbg = s.dbg := rfl
@[simp] theorem updDisp_scratch (f : DispSt → DispSt) : (s.updDisp f).scratch = s.scratch := rfl
@[simp] theorem updDisp_reels (f : DispSt → DispSt) : (s.updDisp f).reels = s.reels := rfl
@[simp] theorem updDisp_dram (f : DispSt → DispSt) : (s.updDisp f).dram = s.dram := rfl
@[simp] theorem updDisp_catches (f : DispSt → DispSt) : (s.updDisp f).catches = s.catches := rfl
@[simp] theorem updDisp_ddr (f : DispSt → DispSt) : (s.updDisp f).ddr = s.ddr := rfl
@[simp] theorem updDisp_records (f : DispSt → DispSt) : (s.updDisp f).records = s.records := rfl
@[simp] theorem updDisp_dramTags (f : DispSt → DispSt) : (s.updDisp f).dramTags = s.dramTags := rfl
@[simp] theorem updDisp_dramBad (f : DispSt → DispSt) : (s.updDisp f).dramBad = s.dramBad := rfl
@[simp] theorem updDisp_dramPoison (f : DispSt → DispSt) : (s.updDisp f).dramPoison = s.dramPoison := rfl
@[simp] theorem updDisp_dramWhole (f : DispSt → DispSt) : (s.updDisp f).dramWhole = s.dramWhole := rfl
@[simp] theorem updDisp_enc (f : DispSt → DispSt) : (s.updDisp f).enc = s.enc := rfl
@[simp] theorem updDisp_noc (f : DispSt → DispSt) : (s.updDisp f).noc = s.noc := rfl
@[simp] theorem updDisp_disp (f : DispSt → DispSt) : (s.updDisp f).disp = f s.disp := rfl
@[simp] theorem updDisp_sp (f : DispSt → DispSt) : (s.updDisp f).sp = s.sp := rfl
@[simp] theorem updDisp_regions (f : DispSt → DispSt) : (s.updDisp f).regions = s.regions := rfl
@[simp] theorem updDisp_slices (f : DispSt → DispSt) : (s.updDisp f).slices = s.slices := rfl
@[simp] theorem updDisp_frames (f : DispSt → DispSt) : (s.updDisp f).frames = s.frames := rfl
@[simp] theorem updDisp_frameDyn (f : DispSt → DispSt) : (s.updDisp f).frameDyn = s.frameDyn := rfl
@[simp] theorem updDisp_frameCode (f : DispSt → DispSt) : (s.updDisp f).frameCode = s.frameCode := rfl
@[simp] theorem updDisp_frameBad (f : DispSt → DispSt) : (s.updDisp f).frameBad = s.frameBad := rfl
@[simp] theorem updDisp_cfg (f : DispSt → DispSt) : (s.updDisp f).cfg = s.cfg := rfl
@[simp] theorem updDisp_flash (f : DispSt → DispSt) : (s.updDisp f).flash = s.flash := rfl
@[simp] theorem updDisp_lanes (f : DispSt → DispSt) : (s.updDisp f).lanes = s.lanes := rfl
@[simp] theorem updDisp_groups (f : DispSt → DispSt) : (s.updDisp f).groups = s.groups := rfl
@[simp] theorem updDisp_clk (f : DispSt → DispSt) : (s.updDisp f).clk = s.clk := rfl
@[simp] theorem updDisp_mesh (f : DispSt → DispSt) : (s.updDisp f).mesh = s.mesh := rfl
@[simp] theorem updDisp_host (f : DispSt → DispSt) : (s.updDisp f).host = s.host := rfl
@[simp] theorem updDisp_pw (f : DispSt → DispSt) : (s.updDisp f).pw = s.pw := rfl
@[simp] theorem updDisp_io (f : DispSt → DispSt) : (s.updDisp f).io = s.io := rfl
@[simp] theorem updDisp_boot (f : DispSt → DispSt) : (s.updDisp f).boot = s.boot := rfl
@[simp] theorem updSp_pending (f : SpSt → SpSt) : (s.updSp f).pending = s.pending := rfl
@[simp] theorem updSp_regs (f : SpSt → SpSt) : (s.updSp f).regs = s.regs := rfl
@[simp] theorem updSp_tickWrites (f : SpSt → SpSt) : (s.updSp f).tickWrites = s.tickWrites := rfl
@[simp] theorem updSp_latches (f : SpSt → SpSt) : (s.updSp f).latches = s.latches := rfl
@[simp] theorem updSp_lowHalves (f : SpSt → SpSt) : (s.updSp f).lowHalves = s.lowHalves := rfl
@[simp] theorem updSp_drawn (f : SpSt → SpSt) : (s.updSp f).drawn = s.drawn := rfl
@[simp] theorem updSp_sched (f : SpSt → SpSt) : (s.updSp f).sched = s.sched := rfl
@[simp] theorem updSp_ev (f : SpSt → SpSt) : (s.updSp f).ev = s.ev := rfl
@[simp] theorem updSp_tick (f : SpSt → SpSt) : (s.updSp f).tick = s.tick := rfl
@[simp] theorem updSp_ops (f : SpSt → SpSt) : (s.updSp f).ops = s.ops := rfl
@[simp] theorem updSp_ready (f : SpSt → SpSt) : (s.updSp f).ready = s.ready := rfl
@[simp] theorem updSp_hostMem (f : SpSt → SpSt) : (s.updSp f).hostMem = s.hostMem := rfl
@[simp] theorem updSp_stage (f : SpSt → SpSt) : (s.updSp f).stage = s.stage := rfl
@[simp] theorem updSp_dbg (f : SpSt → SpSt) : (s.updSp f).dbg = s.dbg := rfl
@[simp] theorem updSp_scratch (f : SpSt → SpSt) : (s.updSp f).scratch = s.scratch := rfl
@[simp] theorem updSp_reels (f : SpSt → SpSt) : (s.updSp f).reels = s.reels := rfl
@[simp] theorem updSp_dram (f : SpSt → SpSt) : (s.updSp f).dram = s.dram := rfl
@[simp] theorem updSp_catches (f : SpSt → SpSt) : (s.updSp f).catches = s.catches := rfl
@[simp] theorem updSp_ddr (f : SpSt → SpSt) : (s.updSp f).ddr = s.ddr := rfl
@[simp] theorem updSp_records (f : SpSt → SpSt) : (s.updSp f).records = s.records := rfl
@[simp] theorem updSp_dramTags (f : SpSt → SpSt) : (s.updSp f).dramTags = s.dramTags := rfl
@[simp] theorem updSp_dramBad (f : SpSt → SpSt) : (s.updSp f).dramBad = s.dramBad := rfl
@[simp] theorem updSp_dramPoison (f : SpSt → SpSt) : (s.updSp f).dramPoison = s.dramPoison := rfl
@[simp] theorem updSp_dramWhole (f : SpSt → SpSt) : (s.updSp f).dramWhole = s.dramWhole := rfl
@[simp] theorem updSp_enc (f : SpSt → SpSt) : (s.updSp f).enc = s.enc := rfl
@[simp] theorem updSp_noc (f : SpSt → SpSt) : (s.updSp f).noc = s.noc := rfl
@[simp] theorem updSp_disp (f : SpSt → SpSt) : (s.updSp f).disp = s.disp := rfl
@[simp] theorem updSp_sp (f : SpSt → SpSt) : (s.updSp f).sp = f s.sp := rfl
@[simp] theorem updSp_regions (f : SpSt → SpSt) : (s.updSp f).regions = s.regions := rfl
@[simp] theorem updSp_slices (f : SpSt → SpSt) : (s.updSp f).slices = s.slices := rfl
@[simp] theorem updSp_frames (f : SpSt → SpSt) : (s.updSp f).frames = s.frames := rfl
@[simp] theorem updSp_frameDyn (f : SpSt → SpSt) : (s.updSp f).frameDyn = s.frameDyn := rfl
@[simp] theorem updSp_frameCode (f : SpSt → SpSt) : (s.updSp f).frameCode = s.frameCode := rfl
@[simp] theorem updSp_frameBad (f : SpSt → SpSt) : (s.updSp f).frameBad = s.frameBad := rfl
@[simp] theorem updSp_cfg (f : SpSt → SpSt) : (s.updSp f).cfg = s.cfg := rfl
@[simp] theorem updSp_flash (f : SpSt → SpSt) : (s.updSp f).flash = s.flash := rfl
@[simp] theorem updSp_lanes (f : SpSt → SpSt) : (s.updSp f).lanes = s.lanes := rfl
@[simp] theorem updSp_groups (f : SpSt → SpSt) : (s.updSp f).groups = s.groups := rfl
@[simp] theorem updSp_clk (f : SpSt → SpSt) : (s.updSp f).clk = s.clk := rfl
@[simp] theorem updSp_mesh (f : SpSt → SpSt) : (s.updSp f).mesh = s.mesh := rfl
@[simp] theorem updSp_host (f : SpSt → SpSt) : (s.updSp f).host = s.host := rfl
@[simp] theorem updSp_pw (f : SpSt → SpSt) : (s.updSp f).pw = s.pw := rfl
@[simp] theorem updSp_io (f : SpSt → SpSt) : (s.updSp f).io = s.io := rfl
@[simp] theorem updSp_boot (f : SpSt → SpSt) : (s.updSp f).boot = s.boot := rfl
@[simp] theorem updRegions_pending (f : List (Nat × RegionU) → List (Nat × RegionU)) : (s.updRegions f).pending = s.pending := rfl
@[simp] theorem updRegions_regs (f : List (Nat × RegionU) → List (Nat × RegionU)) : (s.updRegions f).regs = s.regs := rfl
@[simp] theorem updRegions_tickWrites (f : List (Nat × RegionU) → List (Nat × RegionU)) : (s.updRegions f).tickWrites = s.tickWrites := rfl
@[simp] theorem updRegions_latches (f : List (Nat × RegionU) → List (Nat × RegionU)) : (s.updRegions f).latches = s.latches := rfl
@[simp] theorem updRegions_lowHalves (f : List (Nat × RegionU) → List (Nat × RegionU)) : (s.updRegions f).lowHalves = s.lowHalves := rfl
@[simp] theorem updRegions_drawn (f : List (Nat × RegionU) → List (Nat × RegionU)) : (s.updRegions f).drawn = s.drawn := rfl
@[simp] theorem updRegions_sched (f : List (Nat × RegionU) → List (Nat × RegionU)) : (s.updRegions f).sched = s.sched := rfl
@[simp] theorem updRegions_ev (f : List (Nat × RegionU) → List (Nat × RegionU)) : (s.updRegions f).ev = s.ev := rfl
@[simp] theorem updRegions_tick (f : List (Nat × RegionU) → List (Nat × RegionU)) : (s.updRegions f).tick = s.tick := rfl
@[simp] theorem updRegions_ops (f : List (Nat × RegionU) → List (Nat × RegionU)) : (s.updRegions f).ops = s.ops := rfl
@[simp] theorem updRegions_ready (f : List (Nat × RegionU) → List (Nat × RegionU)) : (s.updRegions f).ready = s.ready := rfl
@[simp] theorem updRegions_hostMem (f : List (Nat × RegionU) → List (Nat × RegionU)) : (s.updRegions f).hostMem = s.hostMem := rfl
@[simp] theorem updRegions_stage (f : List (Nat × RegionU) → List (Nat × RegionU)) : (s.updRegions f).stage = s.stage := rfl
@[simp] theorem updRegions_dbg (f : List (Nat × RegionU) → List (Nat × RegionU)) : (s.updRegions f).dbg = s.dbg := rfl
@[simp] theorem updRegions_scratch (f : List (Nat × RegionU) → List (Nat × RegionU)) : (s.updRegions f).scratch = s.scratch := rfl
@[simp] theorem updRegions_reels (f : List (Nat × RegionU) → List (Nat × RegionU)) : (s.updRegions f).reels = s.reels := rfl
@[simp] theorem updRegions_dram (f : List (Nat × RegionU) → List (Nat × RegionU)) : (s.updRegions f).dram = s.dram := rfl
@[simp] theorem updRegions_catches (f : List (Nat × RegionU) → List (Nat × RegionU)) : (s.updRegions f).catches = s.catches := rfl
@[simp] theorem updRegions_ddr (f : List (Nat × RegionU) → List (Nat × RegionU)) : (s.updRegions f).ddr = s.ddr := rfl
@[simp] theorem updRegions_records (f : List (Nat × RegionU) → List (Nat × RegionU)) : (s.updRegions f).records = s.records := rfl
@[simp] theorem updRegions_dramTags (f : List (Nat × RegionU) → List (Nat × RegionU)) : (s.updRegions f).dramTags = s.dramTags := rfl
@[simp] theorem updRegions_dramBad (f : List (Nat × RegionU) → List (Nat × RegionU)) : (s.updRegions f).dramBad = s.dramBad := rfl
@[simp] theorem updRegions_dramPoison (f : List (Nat × RegionU) → List (Nat × RegionU)) : (s.updRegions f).dramPoison = s.dramPoison := rfl
@[simp] theorem updRegions_dramWhole (f : List (Nat × RegionU) → List (Nat × RegionU)) : (s.updRegions f).dramWhole = s.dramWhole := rfl
@[simp] theorem updRegions_enc (f : List (Nat × RegionU) → List (Nat × RegionU)) : (s.updRegions f).enc = s.enc := rfl
@[simp] theorem updRegions_noc (f : List (Nat × RegionU) → List (Nat × RegionU)) : (s.updRegions f).noc = s.noc := rfl
@[simp] theorem updRegions_disp (f : List (Nat × RegionU) → List (Nat × RegionU)) : (s.updRegions f).disp = s.disp := rfl
@[simp] theorem updRegions_sp (f : List (Nat × RegionU) → List (Nat × RegionU)) : (s.updRegions f).sp = s.sp := rfl
@[simp] theorem updRegions_regions (f : List (Nat × RegionU) → List (Nat × RegionU)) : (s.updRegions f).regions = f s.regions := rfl
@[simp] theorem updRegions_slices (f : List (Nat × RegionU) → List (Nat × RegionU)) : (s.updRegions f).slices = s.slices := rfl
@[simp] theorem updRegions_frames (f : List (Nat × RegionU) → List (Nat × RegionU)) : (s.updRegions f).frames = s.frames := rfl
@[simp] theorem updRegions_frameDyn (f : List (Nat × RegionU) → List (Nat × RegionU)) : (s.updRegions f).frameDyn = s.frameDyn := rfl
@[simp] theorem updRegions_frameCode (f : List (Nat × RegionU) → List (Nat × RegionU)) : (s.updRegions f).frameCode = s.frameCode := rfl
@[simp] theorem updRegions_frameBad (f : List (Nat × RegionU) → List (Nat × RegionU)) : (s.updRegions f).frameBad = s.frameBad := rfl
@[simp] theorem updRegions_cfg (f : List (Nat × RegionU) → List (Nat × RegionU)) : (s.updRegions f).cfg = s.cfg := rfl
@[simp] theorem updRegions_flash (f : List (Nat × RegionU) → List (Nat × RegionU)) : (s.updRegions f).flash = s.flash := rfl
@[simp] theorem updRegions_lanes (f : List (Nat × RegionU) → List (Nat × RegionU)) : (s.updRegions f).lanes = s.lanes := rfl
@[simp] theorem updRegions_groups (f : List (Nat × RegionU) → List (Nat × RegionU)) : (s.updRegions f).groups = s.groups := rfl
@[simp] theorem updRegions_clk (f : List (Nat × RegionU) → List (Nat × RegionU)) : (s.updRegions f).clk = s.clk := rfl
@[simp] theorem updRegions_mesh (f : List (Nat × RegionU) → List (Nat × RegionU)) : (s.updRegions f).mesh = s.mesh := rfl
@[simp] theorem updRegions_host (f : List (Nat × RegionU) → List (Nat × RegionU)) : (s.updRegions f).host = s.host := rfl
@[simp] theorem updRegions_pw (f : List (Nat × RegionU) → List (Nat × RegionU)) : (s.updRegions f).pw = s.pw := rfl
@[simp] theorem updRegions_io (f : List (Nat × RegionU) → List (Nat × RegionU)) : (s.updRegions f).io = s.io := rfl
@[simp] theorem updRegions_boot (f : List (Nat × RegionU) → List (Nat × RegionU)) : (s.updRegions f).boot = s.boot := rfl
@[simp] theorem updSlices_pending (f : List (Nat × SliceU) → List (Nat × SliceU)) : (s.updSlices f).pending = s.pending := rfl
@[simp] theorem updSlices_regs (f : List (Nat × SliceU) → List (Nat × SliceU)) : (s.updSlices f).regs = s.regs := rfl
@[simp] theorem updSlices_tickWrites (f : List (Nat × SliceU) → List (Nat × SliceU)) : (s.updSlices f).tickWrites = s.tickWrites := rfl
@[simp] theorem updSlices_latches (f : List (Nat × SliceU) → List (Nat × SliceU)) : (s.updSlices f).latches = s.latches := rfl
@[simp] theorem updSlices_lowHalves (f : List (Nat × SliceU) → List (Nat × SliceU)) : (s.updSlices f).lowHalves = s.lowHalves := rfl
@[simp] theorem updSlices_drawn (f : List (Nat × SliceU) → List (Nat × SliceU)) : (s.updSlices f).drawn = s.drawn := rfl
@[simp] theorem updSlices_sched (f : List (Nat × SliceU) → List (Nat × SliceU)) : (s.updSlices f).sched = s.sched := rfl
@[simp] theorem updSlices_ev (f : List (Nat × SliceU) → List (Nat × SliceU)) : (s.updSlices f).ev = s.ev := rfl
@[simp] theorem updSlices_tick (f : List (Nat × SliceU) → List (Nat × SliceU)) : (s.updSlices f).tick = s.tick := rfl
@[simp] theorem updSlices_ops (f : List (Nat × SliceU) → List (Nat × SliceU)) : (s.updSlices f).ops = s.ops := rfl
@[simp] theorem updSlices_ready (f : List (Nat × SliceU) → List (Nat × SliceU)) : (s.updSlices f).ready = s.ready := rfl
@[simp] theorem updSlices_hostMem (f : List (Nat × SliceU) → List (Nat × SliceU)) : (s.updSlices f).hostMem = s.hostMem := rfl
@[simp] theorem updSlices_stage (f : List (Nat × SliceU) → List (Nat × SliceU)) : (s.updSlices f).stage = s.stage := rfl
@[simp] theorem updSlices_dbg (f : List (Nat × SliceU) → List (Nat × SliceU)) : (s.updSlices f).dbg = s.dbg := rfl
@[simp] theorem updSlices_scratch (f : List (Nat × SliceU) → List (Nat × SliceU)) : (s.updSlices f).scratch = s.scratch := rfl
@[simp] theorem updSlices_reels (f : List (Nat × SliceU) → List (Nat × SliceU)) : (s.updSlices f).reels = s.reels := rfl
@[simp] theorem updSlices_dram (f : List (Nat × SliceU) → List (Nat × SliceU)) : (s.updSlices f).dram = s.dram := rfl
@[simp] theorem updSlices_catches (f : List (Nat × SliceU) → List (Nat × SliceU)) : (s.updSlices f).catches = s.catches := rfl
@[simp] theorem updSlices_ddr (f : List (Nat × SliceU) → List (Nat × SliceU)) : (s.updSlices f).ddr = s.ddr := rfl
@[simp] theorem updSlices_records (f : List (Nat × SliceU) → List (Nat × SliceU)) : (s.updSlices f).records = s.records := rfl
@[simp] theorem updSlices_dramTags (f : List (Nat × SliceU) → List (Nat × SliceU)) : (s.updSlices f).dramTags = s.dramTags := rfl
@[simp] theorem updSlices_dramBad (f : List (Nat × SliceU) → List (Nat × SliceU)) : (s.updSlices f).dramBad = s.dramBad := rfl
@[simp] theorem updSlices_dramPoison (f : List (Nat × SliceU) → List (Nat × SliceU)) : (s.updSlices f).dramPoison = s.dramPoison := rfl
@[simp] theorem updSlices_dramWhole (f : List (Nat × SliceU) → List (Nat × SliceU)) : (s.updSlices f).dramWhole = s.dramWhole := rfl
@[simp] theorem updSlices_enc (f : List (Nat × SliceU) → List (Nat × SliceU)) : (s.updSlices f).enc = s.enc := rfl
@[simp] theorem updSlices_noc (f : List (Nat × SliceU) → List (Nat × SliceU)) : (s.updSlices f).noc = s.noc := rfl
@[simp] theorem updSlices_disp (f : List (Nat × SliceU) → List (Nat × SliceU)) : (s.updSlices f).disp = s.disp := rfl
@[simp] theorem updSlices_sp (f : List (Nat × SliceU) → List (Nat × SliceU)) : (s.updSlices f).sp = s.sp := rfl
@[simp] theorem updSlices_regions (f : List (Nat × SliceU) → List (Nat × SliceU)) : (s.updSlices f).regions = s.regions := rfl
@[simp] theorem updSlices_slices (f : List (Nat × SliceU) → List (Nat × SliceU)) : (s.updSlices f).slices = f s.slices := rfl
@[simp] theorem updSlices_frames (f : List (Nat × SliceU) → List (Nat × SliceU)) : (s.updSlices f).frames = s.frames := rfl
@[simp] theorem updSlices_frameDyn (f : List (Nat × SliceU) → List (Nat × SliceU)) : (s.updSlices f).frameDyn = s.frameDyn := rfl
@[simp] theorem updSlices_frameCode (f : List (Nat × SliceU) → List (Nat × SliceU)) : (s.updSlices f).frameCode = s.frameCode := rfl
@[simp] theorem updSlices_frameBad (f : List (Nat × SliceU) → List (Nat × SliceU)) : (s.updSlices f).frameBad = s.frameBad := rfl
@[simp] theorem updSlices_cfg (f : List (Nat × SliceU) → List (Nat × SliceU)) : (s.updSlices f).cfg = s.cfg := rfl
@[simp] theorem updSlices_flash (f : List (Nat × SliceU) → List (Nat × SliceU)) : (s.updSlices f).flash = s.flash := rfl
@[simp] theorem updSlices_lanes (f : List (Nat × SliceU) → List (Nat × SliceU)) : (s.updSlices f).lanes = s.lanes := rfl
@[simp] theorem updSlices_groups (f : List (Nat × SliceU) → List (Nat × SliceU)) : (s.updSlices f).groups = s.groups := rfl
@[simp] theorem updSlices_clk (f : List (Nat × SliceU) → List (Nat × SliceU)) : (s.updSlices f).clk = s.clk := rfl
@[simp] theorem updSlices_mesh (f : List (Nat × SliceU) → List (Nat × SliceU)) : (s.updSlices f).mesh = s.mesh := rfl
@[simp] theorem updSlices_host (f : List (Nat × SliceU) → List (Nat × SliceU)) : (s.updSlices f).host = s.host := rfl
@[simp] theorem updSlices_pw (f : List (Nat × SliceU) → List (Nat × SliceU)) : (s.updSlices f).pw = s.pw := rfl
@[simp] theorem updSlices_io (f : List (Nat × SliceU) → List (Nat × SliceU)) : (s.updSlices f).io = s.io := rfl
@[simp] theorem updSlices_boot (f : List (Nat × SliceU) → List (Nat × SliceU)) : (s.updSlices f).boot = s.boot := rfl
@[simp] theorem updFrames_pending (f : List (Nat × Nat) → List (Nat × Nat)) : (s.updFrames f).pending = s.pending := rfl
@[simp] theorem updFrames_regs (f : List (Nat × Nat) → List (Nat × Nat)) : (s.updFrames f).regs = s.regs := rfl
@[simp] theorem updFrames_tickWrites (f : List (Nat × Nat) → List (Nat × Nat)) : (s.updFrames f).tickWrites = s.tickWrites := rfl
@[simp] theorem updFrames_latches (f : List (Nat × Nat) → List (Nat × Nat)) : (s.updFrames f).latches = s.latches := rfl
@[simp] theorem updFrames_lowHalves (f : List (Nat × Nat) → List (Nat × Nat)) : (s.updFrames f).lowHalves = s.lowHalves := rfl
@[simp] theorem updFrames_drawn (f : List (Nat × Nat) → List (Nat × Nat)) : (s.updFrames f).drawn = s.drawn := rfl
@[simp] theorem updFrames_sched (f : List (Nat × Nat) → List (Nat × Nat)) : (s.updFrames f).sched = s.sched := rfl
@[simp] theorem updFrames_ev (f : List (Nat × Nat) → List (Nat × Nat)) : (s.updFrames f).ev = s.ev := rfl
@[simp] theorem updFrames_tick (f : List (Nat × Nat) → List (Nat × Nat)) : (s.updFrames f).tick = s.tick := rfl
@[simp] theorem updFrames_ops (f : List (Nat × Nat) → List (Nat × Nat)) : (s.updFrames f).ops = s.ops := rfl
@[simp] theorem updFrames_ready (f : List (Nat × Nat) → List (Nat × Nat)) : (s.updFrames f).ready = s.ready := rfl
@[simp] theorem updFrames_hostMem (f : List (Nat × Nat) → List (Nat × Nat)) : (s.updFrames f).hostMem = s.hostMem := rfl
@[simp] theorem updFrames_stage (f : List (Nat × Nat) → List (Nat × Nat)) : (s.updFrames f).stage = s.stage := rfl
@[simp] theorem updFrames_dbg (f : List (Nat × Nat) → List (Nat × Nat)) : (s.updFrames f).dbg = s.dbg := rfl
@[simp] theorem updFrames_scratch (f : List (Nat × Nat) → List (Nat × Nat)) : (s.updFrames f).scratch = s.scratch := rfl
@[simp] theorem updFrames_reels (f : List (Nat × Nat) → List (Nat × Nat)) : (s.updFrames f).reels = s.reels := rfl
@[simp] theorem updFrames_dram (f : List (Nat × Nat) → List (Nat × Nat)) : (s.updFrames f).dram = s.dram := rfl
@[simp] theorem updFrames_catches (f : List (Nat × Nat) → List (Nat × Nat)) : (s.updFrames f).catches = s.catches := rfl
@[simp] theorem updFrames_ddr (f : List (Nat × Nat) → List (Nat × Nat)) : (s.updFrames f).ddr = s.ddr := rfl
@[simp] theorem updFrames_records (f : List (Nat × Nat) → List (Nat × Nat)) : (s.updFrames f).records = s.records := rfl
@[simp] theorem updFrames_dramTags (f : List (Nat × Nat) → List (Nat × Nat)) : (s.updFrames f).dramTags = s.dramTags := rfl
@[simp] theorem updFrames_dramBad (f : List (Nat × Nat) → List (Nat × Nat)) : (s.updFrames f).dramBad = s.dramBad := rfl
@[simp] theorem updFrames_dramPoison (f : List (Nat × Nat) → List (Nat × Nat)) : (s.updFrames f).dramPoison = s.dramPoison := rfl
@[simp] theorem updFrames_dramWhole (f : List (Nat × Nat) → List (Nat × Nat)) : (s.updFrames f).dramWhole = s.dramWhole := rfl
@[simp] theorem updFrames_enc (f : List (Nat × Nat) → List (Nat × Nat)) : (s.updFrames f).enc = s.enc := rfl
@[simp] theorem updFrames_noc (f : List (Nat × Nat) → List (Nat × Nat)) : (s.updFrames f).noc = s.noc := rfl
@[simp] theorem updFrames_disp (f : List (Nat × Nat) → List (Nat × Nat)) : (s.updFrames f).disp = s.disp := rfl
@[simp] theorem updFrames_sp (f : List (Nat × Nat) → List (Nat × Nat)) : (s.updFrames f).sp = s.sp := rfl
@[simp] theorem updFrames_regions (f : List (Nat × Nat) → List (Nat × Nat)) : (s.updFrames f).regions = s.regions := rfl
@[simp] theorem updFrames_slices (f : List (Nat × Nat) → List (Nat × Nat)) : (s.updFrames f).slices = s.slices := rfl
@[simp] theorem updFrames_frames (f : List (Nat × Nat) → List (Nat × Nat)) : (s.updFrames f).frames = f s.frames := rfl
@[simp] theorem updFrames_frameDyn (f : List (Nat × Nat) → List (Nat × Nat)) : (s.updFrames f).frameDyn = s.frameDyn := rfl
@[simp] theorem updFrames_frameCode (f : List (Nat × Nat) → List (Nat × Nat)) : (s.updFrames f).frameCode = s.frameCode := rfl
@[simp] theorem updFrames_frameBad (f : List (Nat × Nat) → List (Nat × Nat)) : (s.updFrames f).frameBad = s.frameBad := rfl
@[simp] theorem updFrames_cfg (f : List (Nat × Nat) → List (Nat × Nat)) : (s.updFrames f).cfg = s.cfg := rfl
@[simp] theorem updFrames_flash (f : List (Nat × Nat) → List (Nat × Nat)) : (s.updFrames f).flash = s.flash := rfl
@[simp] theorem updFrames_lanes (f : List (Nat × Nat) → List (Nat × Nat)) : (s.updFrames f).lanes = s.lanes := rfl
@[simp] theorem updFrames_groups (f : List (Nat × Nat) → List (Nat × Nat)) : (s.updFrames f).groups = s.groups := rfl
@[simp] theorem updFrames_clk (f : List (Nat × Nat) → List (Nat × Nat)) : (s.updFrames f).clk = s.clk := rfl
@[simp] theorem updFrames_mesh (f : List (Nat × Nat) → List (Nat × Nat)) : (s.updFrames f).mesh = s.mesh := rfl
@[simp] theorem updFrames_host (f : List (Nat × Nat) → List (Nat × Nat)) : (s.updFrames f).host = s.host := rfl
@[simp] theorem updFrames_pw (f : List (Nat × Nat) → List (Nat × Nat)) : (s.updFrames f).pw = s.pw := rfl
@[simp] theorem updFrames_io (f : List (Nat × Nat) → List (Nat × Nat)) : (s.updFrames f).io = s.io := rfl
@[simp] theorem updFrames_boot (f : List (Nat × Nat) → List (Nat × Nat)) : (s.updFrames f).boot = s.boot := rfl
@[simp] theorem updFrameDyn_pending (f : List (Nat × Nat) → List (Nat × Nat)) : (s.updFrameDyn f).pending = s.pending := rfl
@[simp] theorem updFrameDyn_regs (f : List (Nat × Nat) → List (Nat × Nat)) : (s.updFrameDyn f).regs = s.regs := rfl
@[simp] theorem updFrameDyn_tickWrites (f : List (Nat × Nat) → List (Nat × Nat)) : (s.updFrameDyn f).tickWrites = s.tickWrites := rfl
@[simp] theorem updFrameDyn_latches (f : List (Nat × Nat) → List (Nat × Nat)) : (s.updFrameDyn f).latches = s.latches := rfl
@[simp] theorem updFrameDyn_lowHalves (f : List (Nat × Nat) → List (Nat × Nat)) : (s.updFrameDyn f).lowHalves = s.lowHalves := rfl
@[simp] theorem updFrameDyn_drawn (f : List (Nat × Nat) → List (Nat × Nat)) : (s.updFrameDyn f).drawn = s.drawn := rfl
@[simp] theorem updFrameDyn_sched (f : List (Nat × Nat) → List (Nat × Nat)) : (s.updFrameDyn f).sched = s.sched := rfl
@[simp] theorem updFrameDyn_ev (f : List (Nat × Nat) → List (Nat × Nat)) : (s.updFrameDyn f).ev = s.ev := rfl
@[simp] theorem updFrameDyn_tick (f : List (Nat × Nat) → List (Nat × Nat)) : (s.updFrameDyn f).tick = s.tick := rfl
@[simp] theorem updFrameDyn_ops (f : List (Nat × Nat) → List (Nat × Nat)) : (s.updFrameDyn f).ops = s.ops := rfl
@[simp] theorem updFrameDyn_ready (f : List (Nat × Nat) → List (Nat × Nat)) : (s.updFrameDyn f).ready = s.ready := rfl
@[simp] theorem updFrameDyn_hostMem (f : List (Nat × Nat) → List (Nat × Nat)) : (s.updFrameDyn f).hostMem = s.hostMem := rfl
@[simp] theorem updFrameDyn_stage (f : List (Nat × Nat) → List (Nat × Nat)) : (s.updFrameDyn f).stage = s.stage := rfl
@[simp] theorem updFrameDyn_dbg (f : List (Nat × Nat) → List (Nat × Nat)) : (s.updFrameDyn f).dbg = s.dbg := rfl
@[simp] theorem updFrameDyn_scratch (f : List (Nat × Nat) → List (Nat × Nat)) : (s.updFrameDyn f).scratch = s.scratch := rfl
@[simp] theorem updFrameDyn_reels (f : List (Nat × Nat) → List (Nat × Nat)) : (s.updFrameDyn f).reels = s.reels := rfl
@[simp] theorem updFrameDyn_dram (f : List (Nat × Nat) → List (Nat × Nat)) : (s.updFrameDyn f).dram = s.dram := rfl
@[simp] theorem updFrameDyn_catches (f : List (Nat × Nat) → List (Nat × Nat)) : (s.updFrameDyn f).catches = s.catches := rfl
@[simp] theorem updFrameDyn_ddr (f : List (Nat × Nat) → List (Nat × Nat)) : (s.updFrameDyn f).ddr = s.ddr := rfl
@[simp] theorem updFrameDyn_records (f : List (Nat × Nat) → List (Nat × Nat)) : (s.updFrameDyn f).records = s.records := rfl
@[simp] theorem updFrameDyn_dramTags (f : List (Nat × Nat) → List (Nat × Nat)) : (s.updFrameDyn f).dramTags = s.dramTags := rfl
@[simp] theorem updFrameDyn_dramBad (f : List (Nat × Nat) → List (Nat × Nat)) : (s.updFrameDyn f).dramBad = s.dramBad := rfl
@[simp] theorem updFrameDyn_dramPoison (f : List (Nat × Nat) → List (Nat × Nat)) : (s.updFrameDyn f).dramPoison = s.dramPoison := rfl
@[simp] theorem updFrameDyn_dramWhole (f : List (Nat × Nat) → List (Nat × Nat)) : (s.updFrameDyn f).dramWhole = s.dramWhole := rfl
@[simp] theorem updFrameDyn_enc (f : List (Nat × Nat) → List (Nat × Nat)) : (s.updFrameDyn f).enc = s.enc := rfl
@[simp] theorem updFrameDyn_noc (f : List (Nat × Nat) → List (Nat × Nat)) : (s.updFrameDyn f).noc = s.noc := rfl
@[simp] theorem updFrameDyn_disp (f : List (Nat × Nat) → List (Nat × Nat)) : (s.updFrameDyn f).disp = s.disp := rfl
@[simp] theorem updFrameDyn_sp (f : List (Nat × Nat) → List (Nat × Nat)) : (s.updFrameDyn f).sp = s.sp := rfl
@[simp] theorem updFrameDyn_regions (f : List (Nat × Nat) → List (Nat × Nat)) : (s.updFrameDyn f).regions = s.regions := rfl
@[simp] theorem updFrameDyn_slices (f : List (Nat × Nat) → List (Nat × Nat)) : (s.updFrameDyn f).slices = s.slices := rfl
@[simp] theorem updFrameDyn_frames (f : List (Nat × Nat) → List (Nat × Nat)) : (s.updFrameDyn f).frames = s.frames := rfl
@[simp] theorem updFrameDyn_frameDyn (f : List (Nat × Nat) → List (Nat × Nat)) : (s.updFrameDyn f).frameDyn = f s.frameDyn := rfl
@[simp] theorem updFrameDyn_frameCode (f : List (Nat × Nat) → List (Nat × Nat)) : (s.updFrameDyn f).frameCode = s.frameCode := rfl
@[simp] theorem updFrameDyn_frameBad (f : List (Nat × Nat) → List (Nat × Nat)) : (s.updFrameDyn f).frameBad = s.frameBad := rfl
@[simp] theorem updFrameDyn_cfg (f : List (Nat × Nat) → List (Nat × Nat)) : (s.updFrameDyn f).cfg = s.cfg := rfl
@[simp] theorem updFrameDyn_flash (f : List (Nat × Nat) → List (Nat × Nat)) : (s.updFrameDyn f).flash = s.flash := rfl
@[simp] theorem updFrameDyn_lanes (f : List (Nat × Nat) → List (Nat × Nat)) : (s.updFrameDyn f).lanes = s.lanes := rfl
@[simp] theorem updFrameDyn_groups (f : List (Nat × Nat) → List (Nat × Nat)) : (s.updFrameDyn f).groups = s.groups := rfl
@[simp] theorem updFrameDyn_clk (f : List (Nat × Nat) → List (Nat × Nat)) : (s.updFrameDyn f).clk = s.clk := rfl
@[simp] theorem updFrameDyn_mesh (f : List (Nat × Nat) → List (Nat × Nat)) : (s.updFrameDyn f).mesh = s.mesh := rfl
@[simp] theorem updFrameDyn_host (f : List (Nat × Nat) → List (Nat × Nat)) : (s.updFrameDyn f).host = s.host := rfl
@[simp] theorem updFrameDyn_pw (f : List (Nat × Nat) → List (Nat × Nat)) : (s.updFrameDyn f).pw = s.pw := rfl
@[simp] theorem updFrameDyn_io (f : List (Nat × Nat) → List (Nat × Nat)) : (s.updFrameDyn f).io = s.io := rfl
@[simp] theorem updFrameDyn_boot (f : List (Nat × Nat) → List (Nat × Nat)) : (s.updFrameDyn f).boot = s.boot := rfl
@[simp] theorem updFrameCode_pending (f : List (Nat × Nat) → List (Nat × Nat)) : (s.updFrameCode f).pending = s.pending := rfl
@[simp] theorem updFrameCode_regs (f : List (Nat × Nat) → List (Nat × Nat)) : (s.updFrameCode f).regs = s.regs := rfl
@[simp] theorem updFrameCode_tickWrites (f : List (Nat × Nat) → List (Nat × Nat)) : (s.updFrameCode f).tickWrites = s.tickWrites := rfl
@[simp] theorem updFrameCode_latches (f : List (Nat × Nat) → List (Nat × Nat)) : (s.updFrameCode f).latches = s.latches := rfl
@[simp] theorem updFrameCode_lowHalves (f : List (Nat × Nat) → List (Nat × Nat)) : (s.updFrameCode f).lowHalves = s.lowHalves := rfl
@[simp] theorem updFrameCode_drawn (f : List (Nat × Nat) → List (Nat × Nat)) : (s.updFrameCode f).drawn = s.drawn := rfl
@[simp] theorem updFrameCode_sched (f : List (Nat × Nat) → List (Nat × Nat)) : (s.updFrameCode f).sched = s.sched := rfl
@[simp] theorem updFrameCode_ev (f : List (Nat × Nat) → List (Nat × Nat)) : (s.updFrameCode f).ev = s.ev := rfl
@[simp] theorem updFrameCode_tick (f : List (Nat × Nat) → List (Nat × Nat)) : (s.updFrameCode f).tick = s.tick := rfl
@[simp] theorem updFrameCode_ops (f : List (Nat × Nat) → List (Nat × Nat)) : (s.updFrameCode f).ops = s.ops := rfl
@[simp] theorem updFrameCode_ready (f : List (Nat × Nat) → List (Nat × Nat)) : (s.updFrameCode f).ready = s.ready := rfl
@[simp] theorem updFrameCode_hostMem (f : List (Nat × Nat) → List (Nat × Nat)) : (s.updFrameCode f).hostMem = s.hostMem := rfl
@[simp] theorem updFrameCode_stage (f : List (Nat × Nat) → List (Nat × Nat)) : (s.updFrameCode f).stage = s.stage := rfl
@[simp] theorem updFrameCode_dbg (f : List (Nat × Nat) → List (Nat × Nat)) : (s.updFrameCode f).dbg = s.dbg := rfl
@[simp] theorem updFrameCode_scratch (f : List (Nat × Nat) → List (Nat × Nat)) : (s.updFrameCode f).scratch = s.scratch := rfl
@[simp] theorem updFrameCode_reels (f : List (Nat × Nat) → List (Nat × Nat)) : (s.updFrameCode f).reels = s.reels := rfl
@[simp] theorem updFrameCode_dram (f : List (Nat × Nat) → List (Nat × Nat)) : (s.updFrameCode f).dram = s.dram := rfl
@[simp] theorem updFrameCode_catches (f : List (Nat × Nat) → List (Nat × Nat)) : (s.updFrameCode f).catches = s.catches := rfl
@[simp] theorem updFrameCode_ddr (f : List (Nat × Nat) → List (Nat × Nat)) : (s.updFrameCode f).ddr = s.ddr := rfl
@[simp] theorem updFrameCode_records (f : List (Nat × Nat) → List (Nat × Nat)) : (s.updFrameCode f).records = s.records := rfl
@[simp] theorem updFrameCode_dramTags (f : List (Nat × Nat) → List (Nat × Nat)) : (s.updFrameCode f).dramTags = s.dramTags := rfl
@[simp] theorem updFrameCode_dramBad (f : List (Nat × Nat) → List (Nat × Nat)) : (s.updFrameCode f).dramBad = s.dramBad := rfl
@[simp] theorem updFrameCode_dramPoison (f : List (Nat × Nat) → List (Nat × Nat)) : (s.updFrameCode f).dramPoison = s.dramPoison := rfl
@[simp] theorem updFrameCode_dramWhole (f : List (Nat × Nat) → List (Nat × Nat)) : (s.updFrameCode f).dramWhole = s.dramWhole := rfl
@[simp] theorem updFrameCode_enc (f : List (Nat × Nat) → List (Nat × Nat)) : (s.updFrameCode f).enc = s.enc := rfl
@[simp] theorem updFrameCode_noc (f : List (Nat × Nat) → List (Nat × Nat)) : (s.updFrameCode f).noc = s.noc := rfl
@[simp] theorem updFrameCode_disp (f : List (Nat × Nat) → List (Nat × Nat)) : (s.updFrameCode f).disp = s.disp := rfl
@[simp] theorem updFrameCode_sp (f : List (Nat × Nat) → List (Nat × Nat)) : (s.updFrameCode f).sp = s.sp := rfl
@[simp] theorem updFrameCode_regions (f : List (Nat × Nat) → List (Nat × Nat)) : (s.updFrameCode f).regions = s.regions := rfl
@[simp] theorem updFrameCode_slices (f : List (Nat × Nat) → List (Nat × Nat)) : (s.updFrameCode f).slices = s.slices := rfl
@[simp] theorem updFrameCode_frames (f : List (Nat × Nat) → List (Nat × Nat)) : (s.updFrameCode f).frames = s.frames := rfl
@[simp] theorem updFrameCode_frameDyn (f : List (Nat × Nat) → List (Nat × Nat)) : (s.updFrameCode f).frameDyn = s.frameDyn := rfl
@[simp] theorem updFrameCode_frameCode (f : List (Nat × Nat) → List (Nat × Nat)) : (s.updFrameCode f).frameCode = f s.frameCode := rfl
@[simp] theorem updFrameCode_frameBad (f : List (Nat × Nat) → List (Nat × Nat)) : (s.updFrameCode f).frameBad = s.frameBad := rfl
@[simp] theorem updFrameCode_cfg (f : List (Nat × Nat) → List (Nat × Nat)) : (s.updFrameCode f).cfg = s.cfg := rfl
@[simp] theorem updFrameCode_flash (f : List (Nat × Nat) → List (Nat × Nat)) : (s.updFrameCode f).flash = s.flash := rfl
@[simp] theorem updFrameCode_lanes (f : List (Nat × Nat) → List (Nat × Nat)) : (s.updFrameCode f).lanes = s.lanes := rfl
@[simp] theorem updFrameCode_groups (f : List (Nat × Nat) → List (Nat × Nat)) : (s.updFrameCode f).groups = s.groups := rfl
@[simp] theorem updFrameCode_clk (f : List (Nat × Nat) → List (Nat × Nat)) : (s.updFrameCode f).clk = s.clk := rfl
@[simp] theorem updFrameCode_mesh (f : List (Nat × Nat) → List (Nat × Nat)) : (s.updFrameCode f).mesh = s.mesh := rfl
@[simp] theorem updFrameCode_host (f : List (Nat × Nat) → List (Nat × Nat)) : (s.updFrameCode f).host = s.host := rfl
@[simp] theorem updFrameCode_pw (f : List (Nat × Nat) → List (Nat × Nat)) : (s.updFrameCode f).pw = s.pw := rfl
@[simp] theorem updFrameCode_io (f : List (Nat × Nat) → List (Nat × Nat)) : (s.updFrameCode f).io = s.io := rfl
@[simp] theorem updFrameCode_boot (f : List (Nat × Nat) → List (Nat × Nat)) : (s.updFrameCode f).boot = s.boot := rfl
@[simp] theorem updFrameBad_pending (f : List (Nat × Nat) → List (Nat × Nat)) : (s.updFrameBad f).pending = s.pending := rfl
@[simp] theorem updFrameBad_regs (f : List (Nat × Nat) → List (Nat × Nat)) : (s.updFrameBad f).regs = s.regs := rfl
@[simp] theorem updFrameBad_tickWrites (f : List (Nat × Nat) → List (Nat × Nat)) : (s.updFrameBad f).tickWrites = s.tickWrites := rfl
@[simp] theorem updFrameBad_latches (f : List (Nat × Nat) → List (Nat × Nat)) : (s.updFrameBad f).latches = s.latches := rfl
@[simp] theorem updFrameBad_lowHalves (f : List (Nat × Nat) → List (Nat × Nat)) : (s.updFrameBad f).lowHalves = s.lowHalves := rfl
@[simp] theorem updFrameBad_drawn (f : List (Nat × Nat) → List (Nat × Nat)) : (s.updFrameBad f).drawn = s.drawn := rfl
@[simp] theorem updFrameBad_sched (f : List (Nat × Nat) → List (Nat × Nat)) : (s.updFrameBad f).sched = s.sched := rfl
@[simp] theorem updFrameBad_ev (f : List (Nat × Nat) → List (Nat × Nat)) : (s.updFrameBad f).ev = s.ev := rfl
@[simp] theorem updFrameBad_tick (f : List (Nat × Nat) → List (Nat × Nat)) : (s.updFrameBad f).tick = s.tick := rfl
@[simp] theorem updFrameBad_ops (f : List (Nat × Nat) → List (Nat × Nat)) : (s.updFrameBad f).ops = s.ops := rfl
@[simp] theorem updFrameBad_ready (f : List (Nat × Nat) → List (Nat × Nat)) : (s.updFrameBad f).ready = s.ready := rfl
@[simp] theorem updFrameBad_hostMem (f : List (Nat × Nat) → List (Nat × Nat)) : (s.updFrameBad f).hostMem = s.hostMem := rfl
@[simp] theorem updFrameBad_stage (f : List (Nat × Nat) → List (Nat × Nat)) : (s.updFrameBad f).stage = s.stage := rfl
@[simp] theorem updFrameBad_dbg (f : List (Nat × Nat) → List (Nat × Nat)) : (s.updFrameBad f).dbg = s.dbg := rfl
@[simp] theorem updFrameBad_scratch (f : List (Nat × Nat) → List (Nat × Nat)) : (s.updFrameBad f).scratch = s.scratch := rfl
@[simp] theorem updFrameBad_reels (f : List (Nat × Nat) → List (Nat × Nat)) : (s.updFrameBad f).reels = s.reels := rfl
@[simp] theorem updFrameBad_dram (f : List (Nat × Nat) → List (Nat × Nat)) : (s.updFrameBad f).dram = s.dram := rfl
@[simp] theorem updFrameBad_catches (f : List (Nat × Nat) → List (Nat × Nat)) : (s.updFrameBad f).catches = s.catches := rfl
@[simp] theorem updFrameBad_ddr (f : List (Nat × Nat) → List (Nat × Nat)) : (s.updFrameBad f).ddr = s.ddr := rfl
@[simp] theorem updFrameBad_records (f : List (Nat × Nat) → List (Nat × Nat)) : (s.updFrameBad f).records = s.records := rfl
@[simp] theorem updFrameBad_dramTags (f : List (Nat × Nat) → List (Nat × Nat)) : (s.updFrameBad f).dramTags = s.dramTags := rfl
@[simp] theorem updFrameBad_dramBad (f : List (Nat × Nat) → List (Nat × Nat)) : (s.updFrameBad f).dramBad = s.dramBad := rfl
@[simp] theorem updFrameBad_dramPoison (f : List (Nat × Nat) → List (Nat × Nat)) : (s.updFrameBad f).dramPoison = s.dramPoison := rfl
@[simp] theorem updFrameBad_dramWhole (f : List (Nat × Nat) → List (Nat × Nat)) : (s.updFrameBad f).dramWhole = s.dramWhole := rfl
@[simp] theorem updFrameBad_enc (f : List (Nat × Nat) → List (Nat × Nat)) : (s.updFrameBad f).enc = s.enc := rfl
@[simp] theorem updFrameBad_noc (f : List (Nat × Nat) → List (Nat × Nat)) : (s.updFrameBad f).noc = s.noc := rfl
@[simp] theorem updFrameBad_disp (f : List (Nat × Nat) → List (Nat × Nat)) : (s.updFrameBad f).disp = s.disp := rfl
@[simp] theorem updFrameBad_sp (f : List (Nat × Nat) → List (Nat × Nat)) : (s.updFrameBad f).sp = s.sp := rfl
@[simp] theorem updFrameBad_regions (f : List (Nat × Nat) → List (Nat × Nat)) : (s.updFrameBad f).regions = s.regions := rfl
@[simp] theorem updFrameBad_slices (f : List (Nat × Nat) → List (Nat × Nat)) : (s.updFrameBad f).slices = s.slices := rfl
@[simp] theorem updFrameBad_frames (f : List (Nat × Nat) → List (Nat × Nat)) : (s.updFrameBad f).frames = s.frames := rfl
@[simp] theorem updFrameBad_frameDyn (f : List (Nat × Nat) → List (Nat × Nat)) : (s.updFrameBad f).frameDyn = s.frameDyn := rfl
@[simp] theorem updFrameBad_frameCode (f : List (Nat × Nat) → List (Nat × Nat)) : (s.updFrameBad f).frameCode = s.frameCode := rfl
@[simp] theorem updFrameBad_frameBad (f : List (Nat × Nat) → List (Nat × Nat)) : (s.updFrameBad f).frameBad = f s.frameBad := rfl
@[simp] theorem updFrameBad_cfg (f : List (Nat × Nat) → List (Nat × Nat)) : (s.updFrameBad f).cfg = s.cfg := rfl
@[simp] theorem updFrameBad_flash (f : List (Nat × Nat) → List (Nat × Nat)) : (s.updFrameBad f).flash = s.flash := rfl
@[simp] theorem updFrameBad_lanes (f : List (Nat × Nat) → List (Nat × Nat)) : (s.updFrameBad f).lanes = s.lanes := rfl
@[simp] theorem updFrameBad_groups (f : List (Nat × Nat) → List (Nat × Nat)) : (s.updFrameBad f).groups = s.groups := rfl
@[simp] theorem updFrameBad_clk (f : List (Nat × Nat) → List (Nat × Nat)) : (s.updFrameBad f).clk = s.clk := rfl
@[simp] theorem updFrameBad_mesh (f : List (Nat × Nat) → List (Nat × Nat)) : (s.updFrameBad f).mesh = s.mesh := rfl
@[simp] theorem updFrameBad_host (f : List (Nat × Nat) → List (Nat × Nat)) : (s.updFrameBad f).host = s.host := rfl
@[simp] theorem updFrameBad_pw (f : List (Nat × Nat) → List (Nat × Nat)) : (s.updFrameBad f).pw = s.pw := rfl
@[simp] theorem updFrameBad_io (f : List (Nat × Nat) → List (Nat × Nat)) : (s.updFrameBad f).io = s.io := rfl
@[simp] theorem updFrameBad_boot (f : List (Nat × Nat) → List (Nat × Nat)) : (s.updFrameBad f).boot = s.boot := rfl
@[simp] theorem updCfg_pending (f : CfgSt → CfgSt) : (s.updCfg f).pending = s.pending := rfl
@[simp] theorem updCfg_regs (f : CfgSt → CfgSt) : (s.updCfg f).regs = s.regs := rfl
@[simp] theorem updCfg_tickWrites (f : CfgSt → CfgSt) : (s.updCfg f).tickWrites = s.tickWrites := rfl
@[simp] theorem updCfg_latches (f : CfgSt → CfgSt) : (s.updCfg f).latches = s.latches := rfl
@[simp] theorem updCfg_lowHalves (f : CfgSt → CfgSt) : (s.updCfg f).lowHalves = s.lowHalves := rfl
@[simp] theorem updCfg_drawn (f : CfgSt → CfgSt) : (s.updCfg f).drawn = s.drawn := rfl
@[simp] theorem updCfg_sched (f : CfgSt → CfgSt) : (s.updCfg f).sched = s.sched := rfl
@[simp] theorem updCfg_ev (f : CfgSt → CfgSt) : (s.updCfg f).ev = s.ev := rfl
@[simp] theorem updCfg_tick (f : CfgSt → CfgSt) : (s.updCfg f).tick = s.tick := rfl
@[simp] theorem updCfg_ops (f : CfgSt → CfgSt) : (s.updCfg f).ops = s.ops := rfl
@[simp] theorem updCfg_ready (f : CfgSt → CfgSt) : (s.updCfg f).ready = s.ready := rfl
@[simp] theorem updCfg_hostMem (f : CfgSt → CfgSt) : (s.updCfg f).hostMem = s.hostMem := rfl
@[simp] theorem updCfg_stage (f : CfgSt → CfgSt) : (s.updCfg f).stage = s.stage := rfl
@[simp] theorem updCfg_dbg (f : CfgSt → CfgSt) : (s.updCfg f).dbg = s.dbg := rfl
@[simp] theorem updCfg_scratch (f : CfgSt → CfgSt) : (s.updCfg f).scratch = s.scratch := rfl
@[simp] theorem updCfg_reels (f : CfgSt → CfgSt) : (s.updCfg f).reels = s.reels := rfl
@[simp] theorem updCfg_dram (f : CfgSt → CfgSt) : (s.updCfg f).dram = s.dram := rfl
@[simp] theorem updCfg_catches (f : CfgSt → CfgSt) : (s.updCfg f).catches = s.catches := rfl
@[simp] theorem updCfg_ddr (f : CfgSt → CfgSt) : (s.updCfg f).ddr = s.ddr := rfl
@[simp] theorem updCfg_records (f : CfgSt → CfgSt) : (s.updCfg f).records = s.records := rfl
@[simp] theorem updCfg_dramTags (f : CfgSt → CfgSt) : (s.updCfg f).dramTags = s.dramTags := rfl
@[simp] theorem updCfg_dramBad (f : CfgSt → CfgSt) : (s.updCfg f).dramBad = s.dramBad := rfl
@[simp] theorem updCfg_dramPoison (f : CfgSt → CfgSt) : (s.updCfg f).dramPoison = s.dramPoison := rfl
@[simp] theorem updCfg_dramWhole (f : CfgSt → CfgSt) : (s.updCfg f).dramWhole = s.dramWhole := rfl
@[simp] theorem updCfg_enc (f : CfgSt → CfgSt) : (s.updCfg f).enc = s.enc := rfl
@[simp] theorem updCfg_noc (f : CfgSt → CfgSt) : (s.updCfg f).noc = s.noc := rfl
@[simp] theorem updCfg_disp (f : CfgSt → CfgSt) : (s.updCfg f).disp = s.disp := rfl
@[simp] theorem updCfg_sp (f : CfgSt → CfgSt) : (s.updCfg f).sp = s.sp := rfl
@[simp] theorem updCfg_regions (f : CfgSt → CfgSt) : (s.updCfg f).regions = s.regions := rfl
@[simp] theorem updCfg_slices (f : CfgSt → CfgSt) : (s.updCfg f).slices = s.slices := rfl
@[simp] theorem updCfg_frames (f : CfgSt → CfgSt) : (s.updCfg f).frames = s.frames := rfl
@[simp] theorem updCfg_frameDyn (f : CfgSt → CfgSt) : (s.updCfg f).frameDyn = s.frameDyn := rfl
@[simp] theorem updCfg_frameCode (f : CfgSt → CfgSt) : (s.updCfg f).frameCode = s.frameCode := rfl
@[simp] theorem updCfg_frameBad (f : CfgSt → CfgSt) : (s.updCfg f).frameBad = s.frameBad := rfl
@[simp] theorem updCfg_cfg (f : CfgSt → CfgSt) : (s.updCfg f).cfg = f s.cfg := rfl
@[simp] theorem updCfg_flash (f : CfgSt → CfgSt) : (s.updCfg f).flash = s.flash := rfl
@[simp] theorem updCfg_lanes (f : CfgSt → CfgSt) : (s.updCfg f).lanes = s.lanes := rfl
@[simp] theorem updCfg_groups (f : CfgSt → CfgSt) : (s.updCfg f).groups = s.groups := rfl
@[simp] theorem updCfg_clk (f : CfgSt → CfgSt) : (s.updCfg f).clk = s.clk := rfl
@[simp] theorem updCfg_mesh (f : CfgSt → CfgSt) : (s.updCfg f).mesh = s.mesh := rfl
@[simp] theorem updCfg_host (f : CfgSt → CfgSt) : (s.updCfg f).host = s.host := rfl
@[simp] theorem updCfg_pw (f : CfgSt → CfgSt) : (s.updCfg f).pw = s.pw := rfl
@[simp] theorem updCfg_io (f : CfgSt → CfgSt) : (s.updCfg f).io = s.io := rfl
@[simp] theorem updCfg_boot (f : CfgSt → CfgSt) : (s.updCfg f).boot = s.boot := rfl
@[simp] theorem updFlash_pending (f : Mem → Mem) : (s.updFlash f).pending = s.pending := rfl
@[simp] theorem updFlash_regs (f : Mem → Mem) : (s.updFlash f).regs = s.regs := rfl
@[simp] theorem updFlash_tickWrites (f : Mem → Mem) : (s.updFlash f).tickWrites = s.tickWrites := rfl
@[simp] theorem updFlash_latches (f : Mem → Mem) : (s.updFlash f).latches = s.latches := rfl
@[simp] theorem updFlash_lowHalves (f : Mem → Mem) : (s.updFlash f).lowHalves = s.lowHalves := rfl
@[simp] theorem updFlash_drawn (f : Mem → Mem) : (s.updFlash f).drawn = s.drawn := rfl
@[simp] theorem updFlash_sched (f : Mem → Mem) : (s.updFlash f).sched = s.sched := rfl
@[simp] theorem updFlash_ev (f : Mem → Mem) : (s.updFlash f).ev = s.ev := rfl
@[simp] theorem updFlash_tick (f : Mem → Mem) : (s.updFlash f).tick = s.tick := rfl
@[simp] theorem updFlash_ops (f : Mem → Mem) : (s.updFlash f).ops = s.ops := rfl
@[simp] theorem updFlash_ready (f : Mem → Mem) : (s.updFlash f).ready = s.ready := rfl
@[simp] theorem updFlash_hostMem (f : Mem → Mem) : (s.updFlash f).hostMem = s.hostMem := rfl
@[simp] theorem updFlash_stage (f : Mem → Mem) : (s.updFlash f).stage = s.stage := rfl
@[simp] theorem updFlash_dbg (f : Mem → Mem) : (s.updFlash f).dbg = s.dbg := rfl
@[simp] theorem updFlash_scratch (f : Mem → Mem) : (s.updFlash f).scratch = s.scratch := rfl
@[simp] theorem updFlash_reels (f : Mem → Mem) : (s.updFlash f).reels = s.reels := rfl
@[simp] theorem updFlash_dram (f : Mem → Mem) : (s.updFlash f).dram = s.dram := rfl
@[simp] theorem updFlash_catches (f : Mem → Mem) : (s.updFlash f).catches = s.catches := rfl
@[simp] theorem updFlash_ddr (f : Mem → Mem) : (s.updFlash f).ddr = s.ddr := rfl
@[simp] theorem updFlash_records (f : Mem → Mem) : (s.updFlash f).records = s.records := rfl
@[simp] theorem updFlash_dramTags (f : Mem → Mem) : (s.updFlash f).dramTags = s.dramTags := rfl
@[simp] theorem updFlash_dramBad (f : Mem → Mem) : (s.updFlash f).dramBad = s.dramBad := rfl
@[simp] theorem updFlash_dramPoison (f : Mem → Mem) : (s.updFlash f).dramPoison = s.dramPoison := rfl
@[simp] theorem updFlash_dramWhole (f : Mem → Mem) : (s.updFlash f).dramWhole = s.dramWhole := rfl
@[simp] theorem updFlash_enc (f : Mem → Mem) : (s.updFlash f).enc = s.enc := rfl
@[simp] theorem updFlash_noc (f : Mem → Mem) : (s.updFlash f).noc = s.noc := rfl
@[simp] theorem updFlash_disp (f : Mem → Mem) : (s.updFlash f).disp = s.disp := rfl
@[simp] theorem updFlash_sp (f : Mem → Mem) : (s.updFlash f).sp = s.sp := rfl
@[simp] theorem updFlash_regions (f : Mem → Mem) : (s.updFlash f).regions = s.regions := rfl
@[simp] theorem updFlash_slices (f : Mem → Mem) : (s.updFlash f).slices = s.slices := rfl
@[simp] theorem updFlash_frames (f : Mem → Mem) : (s.updFlash f).frames = s.frames := rfl
@[simp] theorem updFlash_frameDyn (f : Mem → Mem) : (s.updFlash f).frameDyn = s.frameDyn := rfl
@[simp] theorem updFlash_frameCode (f : Mem → Mem) : (s.updFlash f).frameCode = s.frameCode := rfl
@[simp] theorem updFlash_frameBad (f : Mem → Mem) : (s.updFlash f).frameBad = s.frameBad := rfl
@[simp] theorem updFlash_cfg (f : Mem → Mem) : (s.updFlash f).cfg = s.cfg := rfl
@[simp] theorem updFlash_flash (f : Mem → Mem) : (s.updFlash f).flash = f s.flash := rfl
@[simp] theorem updFlash_lanes (f : Mem → Mem) : (s.updFlash f).lanes = s.lanes := rfl
@[simp] theorem updFlash_groups (f : Mem → Mem) : (s.updFlash f).groups = s.groups := rfl
@[simp] theorem updFlash_clk (f : Mem → Mem) : (s.updFlash f).clk = s.clk := rfl
@[simp] theorem updFlash_mesh (f : Mem → Mem) : (s.updFlash f).mesh = s.mesh := rfl
@[simp] theorem updFlash_host (f : Mem → Mem) : (s.updFlash f).host = s.host := rfl
@[simp] theorem updFlash_pw (f : Mem → Mem) : (s.updFlash f).pw = s.pw := rfl
@[simp] theorem updFlash_io (f : Mem → Mem) : (s.updFlash f).io = s.io := rfl
@[simp] theorem updFlash_boot (f : Mem → Mem) : (s.updFlash f).boot = s.boot := rfl
@[simp] theorem updLanes_pending (f : List (Nat × LaneU) → List (Nat × LaneU)) : (s.updLanes f).pending = s.pending := rfl
@[simp] theorem updLanes_regs (f : List (Nat × LaneU) → List (Nat × LaneU)) : (s.updLanes f).regs = s.regs := rfl
@[simp] theorem updLanes_tickWrites (f : List (Nat × LaneU) → List (Nat × LaneU)) : (s.updLanes f).tickWrites = s.tickWrites := rfl
@[simp] theorem updLanes_latches (f : List (Nat × LaneU) → List (Nat × LaneU)) : (s.updLanes f).latches = s.latches := rfl
@[simp] theorem updLanes_lowHalves (f : List (Nat × LaneU) → List (Nat × LaneU)) : (s.updLanes f).lowHalves = s.lowHalves := rfl
@[simp] theorem updLanes_drawn (f : List (Nat × LaneU) → List (Nat × LaneU)) : (s.updLanes f).drawn = s.drawn := rfl
@[simp] theorem updLanes_sched (f : List (Nat × LaneU) → List (Nat × LaneU)) : (s.updLanes f).sched = s.sched := rfl
@[simp] theorem updLanes_ev (f : List (Nat × LaneU) → List (Nat × LaneU)) : (s.updLanes f).ev = s.ev := rfl
@[simp] theorem updLanes_tick (f : List (Nat × LaneU) → List (Nat × LaneU)) : (s.updLanes f).tick = s.tick := rfl
@[simp] theorem updLanes_ops (f : List (Nat × LaneU) → List (Nat × LaneU)) : (s.updLanes f).ops = s.ops := rfl
@[simp] theorem updLanes_ready (f : List (Nat × LaneU) → List (Nat × LaneU)) : (s.updLanes f).ready = s.ready := rfl
@[simp] theorem updLanes_hostMem (f : List (Nat × LaneU) → List (Nat × LaneU)) : (s.updLanes f).hostMem = s.hostMem := rfl
@[simp] theorem updLanes_stage (f : List (Nat × LaneU) → List (Nat × LaneU)) : (s.updLanes f).stage = s.stage := rfl
@[simp] theorem updLanes_dbg (f : List (Nat × LaneU) → List (Nat × LaneU)) : (s.updLanes f).dbg = s.dbg := rfl
@[simp] theorem updLanes_scratch (f : List (Nat × LaneU) → List (Nat × LaneU)) : (s.updLanes f).scratch = s.scratch := rfl
@[simp] theorem updLanes_reels (f : List (Nat × LaneU) → List (Nat × LaneU)) : (s.updLanes f).reels = s.reels := rfl
@[simp] theorem updLanes_dram (f : List (Nat × LaneU) → List (Nat × LaneU)) : (s.updLanes f).dram = s.dram := rfl
@[simp] theorem updLanes_catches (f : List (Nat × LaneU) → List (Nat × LaneU)) : (s.updLanes f).catches = s.catches := rfl
@[simp] theorem updLanes_ddr (f : List (Nat × LaneU) → List (Nat × LaneU)) : (s.updLanes f).ddr = s.ddr := rfl
@[simp] theorem updLanes_records (f : List (Nat × LaneU) → List (Nat × LaneU)) : (s.updLanes f).records = s.records := rfl
@[simp] theorem updLanes_dramTags (f : List (Nat × LaneU) → List (Nat × LaneU)) : (s.updLanes f).dramTags = s.dramTags := rfl
@[simp] theorem updLanes_dramBad (f : List (Nat × LaneU) → List (Nat × LaneU)) : (s.updLanes f).dramBad = s.dramBad := rfl
@[simp] theorem updLanes_dramPoison (f : List (Nat × LaneU) → List (Nat × LaneU)) : (s.updLanes f).dramPoison = s.dramPoison := rfl
@[simp] theorem updLanes_dramWhole (f : List (Nat × LaneU) → List (Nat × LaneU)) : (s.updLanes f).dramWhole = s.dramWhole := rfl
@[simp] theorem updLanes_enc (f : List (Nat × LaneU) → List (Nat × LaneU)) : (s.updLanes f).enc = s.enc := rfl
@[simp] theorem updLanes_noc (f : List (Nat × LaneU) → List (Nat × LaneU)) : (s.updLanes f).noc = s.noc := rfl
@[simp] theorem updLanes_disp (f : List (Nat × LaneU) → List (Nat × LaneU)) : (s.updLanes f).disp = s.disp := rfl
@[simp] theorem updLanes_sp (f : List (Nat × LaneU) → List (Nat × LaneU)) : (s.updLanes f).sp = s.sp := rfl
@[simp] theorem updLanes_regions (f : List (Nat × LaneU) → List (Nat × LaneU)) : (s.updLanes f).regions = s.regions := rfl
@[simp] theorem updLanes_slices (f : List (Nat × LaneU) → List (Nat × LaneU)) : (s.updLanes f).slices = s.slices := rfl
@[simp] theorem updLanes_frames (f : List (Nat × LaneU) → List (Nat × LaneU)) : (s.updLanes f).frames = s.frames := rfl
@[simp] theorem updLanes_frameDyn (f : List (Nat × LaneU) → List (Nat × LaneU)) : (s.updLanes f).frameDyn = s.frameDyn := rfl
@[simp] theorem updLanes_frameCode (f : List (Nat × LaneU) → List (Nat × LaneU)) : (s.updLanes f).frameCode = s.frameCode := rfl
@[simp] theorem updLanes_frameBad (f : List (Nat × LaneU) → List (Nat × LaneU)) : (s.updLanes f).frameBad = s.frameBad := rfl
@[simp] theorem updLanes_cfg (f : List (Nat × LaneU) → List (Nat × LaneU)) : (s.updLanes f).cfg = s.cfg := rfl
@[simp] theorem updLanes_flash (f : List (Nat × LaneU) → List (Nat × LaneU)) : (s.updLanes f).flash = s.flash := rfl
@[simp] theorem updLanes_lanes (f : List (Nat × LaneU) → List (Nat × LaneU)) : (s.updLanes f).lanes = f s.lanes := rfl
@[simp] theorem updLanes_groups (f : List (Nat × LaneU) → List (Nat × LaneU)) : (s.updLanes f).groups = s.groups := rfl
@[simp] theorem updLanes_clk (f : List (Nat × LaneU) → List (Nat × LaneU)) : (s.updLanes f).clk = s.clk := rfl
@[simp] theorem updLanes_mesh (f : List (Nat × LaneU) → List (Nat × LaneU)) : (s.updLanes f).mesh = s.mesh := rfl
@[simp] theorem updLanes_host (f : List (Nat × LaneU) → List (Nat × LaneU)) : (s.updLanes f).host = s.host := rfl
@[simp] theorem updLanes_pw (f : List (Nat × LaneU) → List (Nat × LaneU)) : (s.updLanes f).pw = s.pw := rfl
@[simp] theorem updLanes_io (f : List (Nat × LaneU) → List (Nat × LaneU)) : (s.updLanes f).io = s.io := rfl
@[simp] theorem updLanes_boot (f : List (Nat × LaneU) → List (Nat × LaneU)) : (s.updLanes f).boot = s.boot := rfl
@[simp] theorem updGroups_pending (f : List (Nat × GroupU) → List (Nat × GroupU)) : (s.updGroups f).pending = s.pending := rfl
@[simp] theorem updGroups_regs (f : List (Nat × GroupU) → List (Nat × GroupU)) : (s.updGroups f).regs = s.regs := rfl
@[simp] theorem updGroups_tickWrites (f : List (Nat × GroupU) → List (Nat × GroupU)) : (s.updGroups f).tickWrites = s.tickWrites := rfl
@[simp] theorem updGroups_latches (f : List (Nat × GroupU) → List (Nat × GroupU)) : (s.updGroups f).latches = s.latches := rfl
@[simp] theorem updGroups_lowHalves (f : List (Nat × GroupU) → List (Nat × GroupU)) : (s.updGroups f).lowHalves = s.lowHalves := rfl
@[simp] theorem updGroups_drawn (f : List (Nat × GroupU) → List (Nat × GroupU)) : (s.updGroups f).drawn = s.drawn := rfl
@[simp] theorem updGroups_sched (f : List (Nat × GroupU) → List (Nat × GroupU)) : (s.updGroups f).sched = s.sched := rfl
@[simp] theorem updGroups_ev (f : List (Nat × GroupU) → List (Nat × GroupU)) : (s.updGroups f).ev = s.ev := rfl
@[simp] theorem updGroups_tick (f : List (Nat × GroupU) → List (Nat × GroupU)) : (s.updGroups f).tick = s.tick := rfl
@[simp] theorem updGroups_ops (f : List (Nat × GroupU) → List (Nat × GroupU)) : (s.updGroups f).ops = s.ops := rfl
@[simp] theorem updGroups_ready (f : List (Nat × GroupU) → List (Nat × GroupU)) : (s.updGroups f).ready = s.ready := rfl
@[simp] theorem updGroups_hostMem (f : List (Nat × GroupU) → List (Nat × GroupU)) : (s.updGroups f).hostMem = s.hostMem := rfl
@[simp] theorem updGroups_stage (f : List (Nat × GroupU) → List (Nat × GroupU)) : (s.updGroups f).stage = s.stage := rfl
@[simp] theorem updGroups_dbg (f : List (Nat × GroupU) → List (Nat × GroupU)) : (s.updGroups f).dbg = s.dbg := rfl
@[simp] theorem updGroups_scratch (f : List (Nat × GroupU) → List (Nat × GroupU)) : (s.updGroups f).scratch = s.scratch := rfl
@[simp] theorem updGroups_reels (f : List (Nat × GroupU) → List (Nat × GroupU)) : (s.updGroups f).reels = s.reels := rfl
@[simp] theorem updGroups_dram (f : List (Nat × GroupU) → List (Nat × GroupU)) : (s.updGroups f).dram = s.dram := rfl
@[simp] theorem updGroups_catches (f : List (Nat × GroupU) → List (Nat × GroupU)) : (s.updGroups f).catches = s.catches := rfl
@[simp] theorem updGroups_ddr (f : List (Nat × GroupU) → List (Nat × GroupU)) : (s.updGroups f).ddr = s.ddr := rfl
@[simp] theorem updGroups_records (f : List (Nat × GroupU) → List (Nat × GroupU)) : (s.updGroups f).records = s.records := rfl
@[simp] theorem updGroups_dramTags (f : List (Nat × GroupU) → List (Nat × GroupU)) : (s.updGroups f).dramTags = s.dramTags := rfl
@[simp] theorem updGroups_dramBad (f : List (Nat × GroupU) → List (Nat × GroupU)) : (s.updGroups f).dramBad = s.dramBad := rfl
@[simp] theorem updGroups_dramPoison (f : List (Nat × GroupU) → List (Nat × GroupU)) : (s.updGroups f).dramPoison = s.dramPoison := rfl
@[simp] theorem updGroups_dramWhole (f : List (Nat × GroupU) → List (Nat × GroupU)) : (s.updGroups f).dramWhole = s.dramWhole := rfl
@[simp] theorem updGroups_enc (f : List (Nat × GroupU) → List (Nat × GroupU)) : (s.updGroups f).enc = s.enc := rfl
@[simp] theorem updGroups_noc (f : List (Nat × GroupU) → List (Nat × GroupU)) : (s.updGroups f).noc = s.noc := rfl
@[simp] theorem updGroups_disp (f : List (Nat × GroupU) → List (Nat × GroupU)) : (s.updGroups f).disp = s.disp := rfl
@[simp] theorem updGroups_sp (f : List (Nat × GroupU) → List (Nat × GroupU)) : (s.updGroups f).sp = s.sp := rfl
@[simp] theorem updGroups_regions (f : List (Nat × GroupU) → List (Nat × GroupU)) : (s.updGroups f).regions = s.regions := rfl
@[simp] theorem updGroups_slices (f : List (Nat × GroupU) → List (Nat × GroupU)) : (s.updGroups f).slices = s.slices := rfl
@[simp] theorem updGroups_frames (f : List (Nat × GroupU) → List (Nat × GroupU)) : (s.updGroups f).frames = s.frames := rfl
@[simp] theorem updGroups_frameDyn (f : List (Nat × GroupU) → List (Nat × GroupU)) : (s.updGroups f).frameDyn = s.frameDyn := rfl
@[simp] theorem updGroups_frameCode (f : List (Nat × GroupU) → List (Nat × GroupU)) : (s.updGroups f).frameCode = s.frameCode := rfl
@[simp] theorem updGroups_frameBad (f : List (Nat × GroupU) → List (Nat × GroupU)) : (s.updGroups f).frameBad = s.frameBad := rfl
@[simp] theorem updGroups_cfg (f : List (Nat × GroupU) → List (Nat × GroupU)) : (s.updGroups f).cfg = s.cfg := rfl
@[simp] theorem updGroups_flash (f : List (Nat × GroupU) → List (Nat × GroupU)) : (s.updGroups f).flash = s.flash := rfl
@[simp] theorem updGroups_lanes (f : List (Nat × GroupU) → List (Nat × GroupU)) : (s.updGroups f).lanes = s.lanes := rfl
@[simp] theorem updGroups_groups (f : List (Nat × GroupU) → List (Nat × GroupU)) : (s.updGroups f).groups = f s.groups := rfl
@[simp] theorem updGroups_clk (f : List (Nat × GroupU) → List (Nat × GroupU)) : (s.updGroups f).clk = s.clk := rfl
@[simp] theorem updGroups_mesh (f : List (Nat × GroupU) → List (Nat × GroupU)) : (s.updGroups f).mesh = s.mesh := rfl
@[simp] theorem updGroups_host (f : List (Nat × GroupU) → List (Nat × GroupU)) : (s.updGroups f).host = s.host := rfl
@[simp] theorem updGroups_pw (f : List (Nat × GroupU) → List (Nat × GroupU)) : (s.updGroups f).pw = s.pw := rfl
@[simp] theorem updGroups_io (f : List (Nat × GroupU) → List (Nat × GroupU)) : (s.updGroups f).io = s.io := rfl
@[simp] theorem updGroups_boot (f : List (Nat × GroupU) → List (Nat × GroupU)) : (s.updGroups f).boot = s.boot := rfl
@[simp] theorem updClk_pending (f : ClkSt → ClkSt) : (s.updClk f).pending = s.pending := rfl
@[simp] theorem updClk_regs (f : ClkSt → ClkSt) : (s.updClk f).regs = s.regs := rfl
@[simp] theorem updClk_tickWrites (f : ClkSt → ClkSt) : (s.updClk f).tickWrites = s.tickWrites := rfl
@[simp] theorem updClk_latches (f : ClkSt → ClkSt) : (s.updClk f).latches = s.latches := rfl
@[simp] theorem updClk_lowHalves (f : ClkSt → ClkSt) : (s.updClk f).lowHalves = s.lowHalves := rfl
@[simp] theorem updClk_drawn (f : ClkSt → ClkSt) : (s.updClk f).drawn = s.drawn := rfl
@[simp] theorem updClk_sched (f : ClkSt → ClkSt) : (s.updClk f).sched = s.sched := rfl
@[simp] theorem updClk_ev (f : ClkSt → ClkSt) : (s.updClk f).ev = s.ev := rfl
@[simp] theorem updClk_tick (f : ClkSt → ClkSt) : (s.updClk f).tick = s.tick := rfl
@[simp] theorem updClk_ops (f : ClkSt → ClkSt) : (s.updClk f).ops = s.ops := rfl
@[simp] theorem updClk_ready (f : ClkSt → ClkSt) : (s.updClk f).ready = s.ready := rfl
@[simp] theorem updClk_hostMem (f : ClkSt → ClkSt) : (s.updClk f).hostMem = s.hostMem := rfl
@[simp] theorem updClk_stage (f : ClkSt → ClkSt) : (s.updClk f).stage = s.stage := rfl
@[simp] theorem updClk_dbg (f : ClkSt → ClkSt) : (s.updClk f).dbg = s.dbg := rfl
@[simp] theorem updClk_scratch (f : ClkSt → ClkSt) : (s.updClk f).scratch = s.scratch := rfl
@[simp] theorem updClk_reels (f : ClkSt → ClkSt) : (s.updClk f).reels = s.reels := rfl
@[simp] theorem updClk_dram (f : ClkSt → ClkSt) : (s.updClk f).dram = s.dram := rfl
@[simp] theorem updClk_catches (f : ClkSt → ClkSt) : (s.updClk f).catches = s.catches := rfl
@[simp] theorem updClk_ddr (f : ClkSt → ClkSt) : (s.updClk f).ddr = s.ddr := rfl
@[simp] theorem updClk_records (f : ClkSt → ClkSt) : (s.updClk f).records = s.records := rfl
@[simp] theorem updClk_dramTags (f : ClkSt → ClkSt) : (s.updClk f).dramTags = s.dramTags := rfl
@[simp] theorem updClk_dramBad (f : ClkSt → ClkSt) : (s.updClk f).dramBad = s.dramBad := rfl
@[simp] theorem updClk_dramPoison (f : ClkSt → ClkSt) : (s.updClk f).dramPoison = s.dramPoison := rfl
@[simp] theorem updClk_dramWhole (f : ClkSt → ClkSt) : (s.updClk f).dramWhole = s.dramWhole := rfl
@[simp] theorem updClk_enc (f : ClkSt → ClkSt) : (s.updClk f).enc = s.enc := rfl
@[simp] theorem updClk_noc (f : ClkSt → ClkSt) : (s.updClk f).noc = s.noc := rfl
@[simp] theorem updClk_disp (f : ClkSt → ClkSt) : (s.updClk f).disp = s.disp := rfl
@[simp] theorem updClk_sp (f : ClkSt → ClkSt) : (s.updClk f).sp = s.sp := rfl
@[simp] theorem updClk_regions (f : ClkSt → ClkSt) : (s.updClk f).regions = s.regions := rfl
@[simp] theorem updClk_slices (f : ClkSt → ClkSt) : (s.updClk f).slices = s.slices := rfl
@[simp] theorem updClk_frames (f : ClkSt → ClkSt) : (s.updClk f).frames = s.frames := rfl
@[simp] theorem updClk_frameDyn (f : ClkSt → ClkSt) : (s.updClk f).frameDyn = s.frameDyn := rfl
@[simp] theorem updClk_frameCode (f : ClkSt → ClkSt) : (s.updClk f).frameCode = s.frameCode := rfl
@[simp] theorem updClk_frameBad (f : ClkSt → ClkSt) : (s.updClk f).frameBad = s.frameBad := rfl
@[simp] theorem updClk_cfg (f : ClkSt → ClkSt) : (s.updClk f).cfg = s.cfg := rfl
@[simp] theorem updClk_flash (f : ClkSt → ClkSt) : (s.updClk f).flash = s.flash := rfl
@[simp] theorem updClk_lanes (f : ClkSt → ClkSt) : (s.updClk f).lanes = s.lanes := rfl
@[simp] theorem updClk_groups (f : ClkSt → ClkSt) : (s.updClk f).groups = s.groups := rfl
@[simp] theorem updClk_clk (f : ClkSt → ClkSt) : (s.updClk f).clk = f s.clk := rfl
@[simp] theorem updClk_mesh (f : ClkSt → ClkSt) : (s.updClk f).mesh = s.mesh := rfl
@[simp] theorem updClk_host (f : ClkSt → ClkSt) : (s.updClk f).host = s.host := rfl
@[simp] theorem updClk_pw (f : ClkSt → ClkSt) : (s.updClk f).pw = s.pw := rfl
@[simp] theorem updClk_io (f : ClkSt → ClkSt) : (s.updClk f).io = s.io := rfl
@[simp] theorem updClk_boot (f : ClkSt → ClkSt) : (s.updClk f).boot = s.boot := rfl
@[simp] theorem updMesh_pending (f : MeshSt → MeshSt) : (s.updMesh f).pending = s.pending := rfl
@[simp] theorem updMesh_regs (f : MeshSt → MeshSt) : (s.updMesh f).regs = s.regs := rfl
@[simp] theorem updMesh_tickWrites (f : MeshSt → MeshSt) : (s.updMesh f).tickWrites = s.tickWrites := rfl
@[simp] theorem updMesh_latches (f : MeshSt → MeshSt) : (s.updMesh f).latches = s.latches := rfl
@[simp] theorem updMesh_lowHalves (f : MeshSt → MeshSt) : (s.updMesh f).lowHalves = s.lowHalves := rfl
@[simp] theorem updMesh_drawn (f : MeshSt → MeshSt) : (s.updMesh f).drawn = s.drawn := rfl
@[simp] theorem updMesh_sched (f : MeshSt → MeshSt) : (s.updMesh f).sched = s.sched := rfl
@[simp] theorem updMesh_ev (f : MeshSt → MeshSt) : (s.updMesh f).ev = s.ev := rfl
@[simp] theorem updMesh_tick (f : MeshSt → MeshSt) : (s.updMesh f).tick = s.tick := rfl
@[simp] theorem updMesh_ops (f : MeshSt → MeshSt) : (s.updMesh f).ops = s.ops := rfl
@[simp] theorem updMesh_ready (f : MeshSt → MeshSt) : (s.updMesh f).ready = s.ready := rfl
@[simp] theorem updMesh_hostMem (f : MeshSt → MeshSt) : (s.updMesh f).hostMem = s.hostMem := rfl
@[simp] theorem updMesh_stage (f : MeshSt → MeshSt) : (s.updMesh f).stage = s.stage := rfl
@[simp] theorem updMesh_dbg (f : MeshSt → MeshSt) : (s.updMesh f).dbg = s.dbg := rfl
@[simp] theorem updMesh_scratch (f : MeshSt → MeshSt) : (s.updMesh f).scratch = s.scratch := rfl
@[simp] theorem updMesh_reels (f : MeshSt → MeshSt) : (s.updMesh f).reels = s.reels := rfl
@[simp] theorem updMesh_dram (f : MeshSt → MeshSt) : (s.updMesh f).dram = s.dram := rfl
@[simp] theorem updMesh_catches (f : MeshSt → MeshSt) : (s.updMesh f).catches = s.catches := rfl
@[simp] theorem updMesh_ddr (f : MeshSt → MeshSt) : (s.updMesh f).ddr = s.ddr := rfl
@[simp] theorem updMesh_records (f : MeshSt → MeshSt) : (s.updMesh f).records = s.records := rfl
@[simp] theorem updMesh_dramTags (f : MeshSt → MeshSt) : (s.updMesh f).dramTags = s.dramTags := rfl
@[simp] theorem updMesh_dramBad (f : MeshSt → MeshSt) : (s.updMesh f).dramBad = s.dramBad := rfl
@[simp] theorem updMesh_dramPoison (f : MeshSt → MeshSt) : (s.updMesh f).dramPoison = s.dramPoison := rfl
@[simp] theorem updMesh_dramWhole (f : MeshSt → MeshSt) : (s.updMesh f).dramWhole = s.dramWhole := rfl
@[simp] theorem updMesh_enc (f : MeshSt → MeshSt) : (s.updMesh f).enc = s.enc := rfl
@[simp] theorem updMesh_noc (f : MeshSt → MeshSt) : (s.updMesh f).noc = s.noc := rfl
@[simp] theorem updMesh_disp (f : MeshSt → MeshSt) : (s.updMesh f).disp = s.disp := rfl
@[simp] theorem updMesh_sp (f : MeshSt → MeshSt) : (s.updMesh f).sp = s.sp := rfl
@[simp] theorem updMesh_regions (f : MeshSt → MeshSt) : (s.updMesh f).regions = s.regions := rfl
@[simp] theorem updMesh_slices (f : MeshSt → MeshSt) : (s.updMesh f).slices = s.slices := rfl
@[simp] theorem updMesh_frames (f : MeshSt → MeshSt) : (s.updMesh f).frames = s.frames := rfl
@[simp] theorem updMesh_frameDyn (f : MeshSt → MeshSt) : (s.updMesh f).frameDyn = s.frameDyn := rfl
@[simp] theorem updMesh_frameCode (f : MeshSt → MeshSt) : (s.updMesh f).frameCode = s.frameCode := rfl
@[simp] theorem updMesh_frameBad (f : MeshSt → MeshSt) : (s.updMesh f).frameBad = s.frameBad := rfl
@[simp] theorem updMesh_cfg (f : MeshSt → MeshSt) : (s.updMesh f).cfg = s.cfg := rfl
@[simp] theorem updMesh_flash (f : MeshSt → MeshSt) : (s.updMesh f).flash = s.flash := rfl
@[simp] theorem updMesh_lanes (f : MeshSt → MeshSt) : (s.updMesh f).lanes = s.lanes := rfl
@[simp] theorem updMesh_groups (f : MeshSt → MeshSt) : (s.updMesh f).groups = s.groups := rfl
@[simp] theorem updMesh_clk (f : MeshSt → MeshSt) : (s.updMesh f).clk = s.clk := rfl
@[simp] theorem updMesh_mesh (f : MeshSt → MeshSt) : (s.updMesh f).mesh = f s.mesh := rfl
@[simp] theorem updMesh_host (f : MeshSt → MeshSt) : (s.updMesh f).host = s.host := rfl
@[simp] theorem updMesh_pw (f : MeshSt → MeshSt) : (s.updMesh f).pw = s.pw := rfl
@[simp] theorem updMesh_io (f : MeshSt → MeshSt) : (s.updMesh f).io = s.io := rfl
@[simp] theorem updMesh_boot (f : MeshSt → MeshSt) : (s.updMesh f).boot = s.boot := rfl
@[simp] theorem updHost_pending (f : HostSt → HostSt) : (s.updHost f).pending = s.pending := rfl
@[simp] theorem updHost_regs (f : HostSt → HostSt) : (s.updHost f).regs = s.regs := rfl
@[simp] theorem updHost_tickWrites (f : HostSt → HostSt) : (s.updHost f).tickWrites = s.tickWrites := rfl
@[simp] theorem updHost_latches (f : HostSt → HostSt) : (s.updHost f).latches = s.latches := rfl
@[simp] theorem updHost_lowHalves (f : HostSt → HostSt) : (s.updHost f).lowHalves = s.lowHalves := rfl
@[simp] theorem updHost_drawn (f : HostSt → HostSt) : (s.updHost f).drawn = s.drawn := rfl
@[simp] theorem updHost_sched (f : HostSt → HostSt) : (s.updHost f).sched = s.sched := rfl
@[simp] theorem updHost_ev (f : HostSt → HostSt) : (s.updHost f).ev = s.ev := rfl
@[simp] theorem updHost_tick (f : HostSt → HostSt) : (s.updHost f).tick = s.tick := rfl
@[simp] theorem updHost_ops (f : HostSt → HostSt) : (s.updHost f).ops = s.ops := rfl
@[simp] theorem updHost_ready (f : HostSt → HostSt) : (s.updHost f).ready = s.ready := rfl
@[simp] theorem updHost_hostMem (f : HostSt → HostSt) : (s.updHost f).hostMem = s.hostMem := rfl
@[simp] theorem updHost_stage (f : HostSt → HostSt) : (s.updHost f).stage = s.stage := rfl
@[simp] theorem updHost_dbg (f : HostSt → HostSt) : (s.updHost f).dbg = s.dbg := rfl
@[simp] theorem updHost_scratch (f : HostSt → HostSt) : (s.updHost f).scratch = s.scratch := rfl
@[simp] theorem updHost_reels (f : HostSt → HostSt) : (s.updHost f).reels = s.reels := rfl
@[simp] theorem updHost_dram (f : HostSt → HostSt) : (s.updHost f).dram = s.dram := rfl
@[simp] theorem updHost_catches (f : HostSt → HostSt) : (s.updHost f).catches = s.catches := rfl
@[simp] theorem updHost_ddr (f : HostSt → HostSt) : (s.updHost f).ddr = s.ddr := rfl
@[simp] theorem updHost_records (f : HostSt → HostSt) : (s.updHost f).records = s.records := rfl
@[simp] theorem updHost_dramTags (f : HostSt → HostSt) : (s.updHost f).dramTags = s.dramTags := rfl
@[simp] theorem updHost_dramBad (f : HostSt → HostSt) : (s.updHost f).dramBad = s.dramBad := rfl
@[simp] theorem updHost_dramPoison (f : HostSt → HostSt) : (s.updHost f).dramPoison = s.dramPoison := rfl
@[simp] theorem updHost_dramWhole (f : HostSt → HostSt) : (s.updHost f).dramWhole = s.dramWhole := rfl
@[simp] theorem updHost_enc (f : HostSt → HostSt) : (s.updHost f).enc = s.enc := rfl
@[simp] theorem updHost_noc (f : HostSt → HostSt) : (s.updHost f).noc = s.noc := rfl
@[simp] theorem updHost_disp (f : HostSt → HostSt) : (s.updHost f).disp = s.disp := rfl
@[simp] theorem updHost_sp (f : HostSt → HostSt) : (s.updHost f).sp = s.sp := rfl
@[simp] theorem updHost_regions (f : HostSt → HostSt) : (s.updHost f).regions = s.regions := rfl
@[simp] theorem updHost_slices (f : HostSt → HostSt) : (s.updHost f).slices = s.slices := rfl
@[simp] theorem updHost_frames (f : HostSt → HostSt) : (s.updHost f).frames = s.frames := rfl
@[simp] theorem updHost_frameDyn (f : HostSt → HostSt) : (s.updHost f).frameDyn = s.frameDyn := rfl
@[simp] theorem updHost_frameCode (f : HostSt → HostSt) : (s.updHost f).frameCode = s.frameCode := rfl
@[simp] theorem updHost_frameBad (f : HostSt → HostSt) : (s.updHost f).frameBad = s.frameBad := rfl
@[simp] theorem updHost_cfg (f : HostSt → HostSt) : (s.updHost f).cfg = s.cfg := rfl
@[simp] theorem updHost_flash (f : HostSt → HostSt) : (s.updHost f).flash = s.flash := rfl
@[simp] theorem updHost_lanes (f : HostSt → HostSt) : (s.updHost f).lanes = s.lanes := rfl
@[simp] theorem updHost_groups (f : HostSt → HostSt) : (s.updHost f).groups = s.groups := rfl
@[simp] theorem updHost_clk (f : HostSt → HostSt) : (s.updHost f).clk = s.clk := rfl
@[simp] theorem updHost_mesh (f : HostSt → HostSt) : (s.updHost f).mesh = s.mesh := rfl
@[simp] theorem updHost_host (f : HostSt → HostSt) : (s.updHost f).host = f s.host := rfl
@[simp] theorem updHost_pw (f : HostSt → HostSt) : (s.updHost f).pw = s.pw := rfl
@[simp] theorem updHost_io (f : HostSt → HostSt) : (s.updHost f).io = s.io := rfl
@[simp] theorem updHost_boot (f : HostSt → HostSt) : (s.updHost f).boot = s.boot := rfl
@[simp] theorem updPw_pending (f : PwSt → PwSt) : (s.updPw f).pending = s.pending := rfl
@[simp] theorem updPw_regs (f : PwSt → PwSt) : (s.updPw f).regs = s.regs := rfl
@[simp] theorem updPw_tickWrites (f : PwSt → PwSt) : (s.updPw f).tickWrites = s.tickWrites := rfl
@[simp] theorem updPw_latches (f : PwSt → PwSt) : (s.updPw f).latches = s.latches := rfl
@[simp] theorem updPw_lowHalves (f : PwSt → PwSt) : (s.updPw f).lowHalves = s.lowHalves := rfl
@[simp] theorem updPw_drawn (f : PwSt → PwSt) : (s.updPw f).drawn = s.drawn := rfl
@[simp] theorem updPw_sched (f : PwSt → PwSt) : (s.updPw f).sched = s.sched := rfl
@[simp] theorem updPw_ev (f : PwSt → PwSt) : (s.updPw f).ev = s.ev := rfl
@[simp] theorem updPw_tick (f : PwSt → PwSt) : (s.updPw f).tick = s.tick := rfl
@[simp] theorem updPw_ops (f : PwSt → PwSt) : (s.updPw f).ops = s.ops := rfl
@[simp] theorem updPw_ready (f : PwSt → PwSt) : (s.updPw f).ready = s.ready := rfl
@[simp] theorem updPw_hostMem (f : PwSt → PwSt) : (s.updPw f).hostMem = s.hostMem := rfl
@[simp] theorem updPw_stage (f : PwSt → PwSt) : (s.updPw f).stage = s.stage := rfl
@[simp] theorem updPw_dbg (f : PwSt → PwSt) : (s.updPw f).dbg = s.dbg := rfl
@[simp] theorem updPw_scratch (f : PwSt → PwSt) : (s.updPw f).scratch = s.scratch := rfl
@[simp] theorem updPw_reels (f : PwSt → PwSt) : (s.updPw f).reels = s.reels := rfl
@[simp] theorem updPw_dram (f : PwSt → PwSt) : (s.updPw f).dram = s.dram := rfl
@[simp] theorem updPw_catches (f : PwSt → PwSt) : (s.updPw f).catches = s.catches := rfl
@[simp] theorem updPw_ddr (f : PwSt → PwSt) : (s.updPw f).ddr = s.ddr := rfl
@[simp] theorem updPw_records (f : PwSt → PwSt) : (s.updPw f).records = s.records := rfl
@[simp] theorem updPw_dramTags (f : PwSt → PwSt) : (s.updPw f).dramTags = s.dramTags := rfl
@[simp] theorem updPw_dramBad (f : PwSt → PwSt) : (s.updPw f).dramBad = s.dramBad := rfl
@[simp] theorem updPw_dramPoison (f : PwSt → PwSt) : (s.updPw f).dramPoison = s.dramPoison := rfl
@[simp] theorem updPw_dramWhole (f : PwSt → PwSt) : (s.updPw f).dramWhole = s.dramWhole := rfl
@[simp] theorem updPw_enc (f : PwSt → PwSt) : (s.updPw f).enc = s.enc := rfl
@[simp] theorem updPw_noc (f : PwSt → PwSt) : (s.updPw f).noc = s.noc := rfl
@[simp] theorem updPw_disp (f : PwSt → PwSt) : (s.updPw f).disp = s.disp := rfl
@[simp] theorem updPw_sp (f : PwSt → PwSt) : (s.updPw f).sp = s.sp := rfl
@[simp] theorem updPw_regions (f : PwSt → PwSt) : (s.updPw f).regions = s.regions := rfl
@[simp] theorem updPw_slices (f : PwSt → PwSt) : (s.updPw f).slices = s.slices := rfl
@[simp] theorem updPw_frames (f : PwSt → PwSt) : (s.updPw f).frames = s.frames := rfl
@[simp] theorem updPw_frameDyn (f : PwSt → PwSt) : (s.updPw f).frameDyn = s.frameDyn := rfl
@[simp] theorem updPw_frameCode (f : PwSt → PwSt) : (s.updPw f).frameCode = s.frameCode := rfl
@[simp] theorem updPw_frameBad (f : PwSt → PwSt) : (s.updPw f).frameBad = s.frameBad := rfl
@[simp] theorem updPw_cfg (f : PwSt → PwSt) : (s.updPw f).cfg = s.cfg := rfl
@[simp] theorem updPw_flash (f : PwSt → PwSt) : (s.updPw f).flash = s.flash := rfl
@[simp] theorem updPw_lanes (f : PwSt → PwSt) : (s.updPw f).lanes = s.lanes := rfl
@[simp] theorem updPw_groups (f : PwSt → PwSt) : (s.updPw f).groups = s.groups := rfl
@[simp] theorem updPw_clk (f : PwSt → PwSt) : (s.updPw f).clk = s.clk := rfl
@[simp] theorem updPw_mesh (f : PwSt → PwSt) : (s.updPw f).mesh = s.mesh := rfl
@[simp] theorem updPw_host (f : PwSt → PwSt) : (s.updPw f).host = s.host := rfl
@[simp] theorem updPw_pw (f : PwSt → PwSt) : (s.updPw f).pw = f s.pw := rfl
@[simp] theorem updPw_io (f : PwSt → PwSt) : (s.updPw f).io = s.io := rfl
@[simp] theorem updPw_boot (f : PwSt → PwSt) : (s.updPw f).boot = s.boot := rfl
@[simp] theorem updIo_pending (f : IoSt → IoSt) : (s.updIo f).pending = s.pending := rfl
@[simp] theorem updIo_regs (f : IoSt → IoSt) : (s.updIo f).regs = s.regs := rfl
@[simp] theorem updIo_tickWrites (f : IoSt → IoSt) : (s.updIo f).tickWrites = s.tickWrites := rfl
@[simp] theorem updIo_latches (f : IoSt → IoSt) : (s.updIo f).latches = s.latches := rfl
@[simp] theorem updIo_lowHalves (f : IoSt → IoSt) : (s.updIo f).lowHalves = s.lowHalves := rfl
@[simp] theorem updIo_drawn (f : IoSt → IoSt) : (s.updIo f).drawn = s.drawn := rfl
@[simp] theorem updIo_sched (f : IoSt → IoSt) : (s.updIo f).sched = s.sched := rfl
@[simp] theorem updIo_ev (f : IoSt → IoSt) : (s.updIo f).ev = s.ev := rfl
@[simp] theorem updIo_tick (f : IoSt → IoSt) : (s.updIo f).tick = s.tick := rfl
@[simp] theorem updIo_ops (f : IoSt → IoSt) : (s.updIo f).ops = s.ops := rfl
@[simp] theorem updIo_ready (f : IoSt → IoSt) : (s.updIo f).ready = s.ready := rfl
@[simp] theorem updIo_hostMem (f : IoSt → IoSt) : (s.updIo f).hostMem = s.hostMem := rfl
@[simp] theorem updIo_stage (f : IoSt → IoSt) : (s.updIo f).stage = s.stage := rfl
@[simp] theorem updIo_dbg (f : IoSt → IoSt) : (s.updIo f).dbg = s.dbg := rfl
@[simp] theorem updIo_scratch (f : IoSt → IoSt) : (s.updIo f).scratch = s.scratch := rfl
@[simp] theorem updIo_reels (f : IoSt → IoSt) : (s.updIo f).reels = s.reels := rfl
@[simp] theorem updIo_dram (f : IoSt → IoSt) : (s.updIo f).dram = s.dram := rfl
@[simp] theorem updIo_catches (f : IoSt → IoSt) : (s.updIo f).catches = s.catches := rfl
@[simp] theorem updIo_ddr (f : IoSt → IoSt) : (s.updIo f).ddr = s.ddr := rfl
@[simp] theorem updIo_records (f : IoSt → IoSt) : (s.updIo f).records = s.records := rfl
@[simp] theorem updIo_dramTags (f : IoSt → IoSt) : (s.updIo f).dramTags = s.dramTags := rfl
@[simp] theorem updIo_dramBad (f : IoSt → IoSt) : (s.updIo f).dramBad = s.dramBad := rfl
@[simp] theorem updIo_dramPoison (f : IoSt → IoSt) : (s.updIo f).dramPoison = s.dramPoison := rfl
@[simp] theorem updIo_dramWhole (f : IoSt → IoSt) : (s.updIo f).dramWhole = s.dramWhole := rfl
@[simp] theorem updIo_enc (f : IoSt → IoSt) : (s.updIo f).enc = s.enc := rfl
@[simp] theorem updIo_noc (f : IoSt → IoSt) : (s.updIo f).noc = s.noc := rfl
@[simp] theorem updIo_disp (f : IoSt → IoSt) : (s.updIo f).disp = s.disp := rfl
@[simp] theorem updIo_sp (f : IoSt → IoSt) : (s.updIo f).sp = s.sp := rfl
@[simp] theorem updIo_regions (f : IoSt → IoSt) : (s.updIo f).regions = s.regions := rfl
@[simp] theorem updIo_slices (f : IoSt → IoSt) : (s.updIo f).slices = s.slices := rfl
@[simp] theorem updIo_frames (f : IoSt → IoSt) : (s.updIo f).frames = s.frames := rfl
@[simp] theorem updIo_frameDyn (f : IoSt → IoSt) : (s.updIo f).frameDyn = s.frameDyn := rfl
@[simp] theorem updIo_frameCode (f : IoSt → IoSt) : (s.updIo f).frameCode = s.frameCode := rfl
@[simp] theorem updIo_frameBad (f : IoSt → IoSt) : (s.updIo f).frameBad = s.frameBad := rfl
@[simp] theorem updIo_cfg (f : IoSt → IoSt) : (s.updIo f).cfg = s.cfg := rfl
@[simp] theorem updIo_flash (f : IoSt → IoSt) : (s.updIo f).flash = s.flash := rfl
@[simp] theorem updIo_lanes (f : IoSt → IoSt) : (s.updIo f).lanes = s.lanes := rfl
@[simp] theorem updIo_groups (f : IoSt → IoSt) : (s.updIo f).groups = s.groups := rfl
@[simp] theorem updIo_clk (f : IoSt → IoSt) : (s.updIo f).clk = s.clk := rfl
@[simp] theorem updIo_mesh (f : IoSt → IoSt) : (s.updIo f).mesh = s.mesh := rfl
@[simp] theorem updIo_host (f : IoSt → IoSt) : (s.updIo f).host = s.host := rfl
@[simp] theorem updIo_pw (f : IoSt → IoSt) : (s.updIo f).pw = s.pw := rfl
@[simp] theorem updIo_io (f : IoSt → IoSt) : (s.updIo f).io = f s.io := rfl
@[simp] theorem updIo_boot (f : IoSt → IoSt) : (s.updIo f).boot = s.boot := rfl
@[simp] theorem updBoot_pending (f : BootSt → BootSt) : (s.updBoot f).pending = s.pending := rfl
@[simp] theorem updBoot_regs (f : BootSt → BootSt) : (s.updBoot f).regs = s.regs := rfl
@[simp] theorem updBoot_tickWrites (f : BootSt → BootSt) : (s.updBoot f).tickWrites = s.tickWrites := rfl
@[simp] theorem updBoot_latches (f : BootSt → BootSt) : (s.updBoot f).latches = s.latches := rfl
@[simp] theorem updBoot_lowHalves (f : BootSt → BootSt) : (s.updBoot f).lowHalves = s.lowHalves := rfl
@[simp] theorem updBoot_drawn (f : BootSt → BootSt) : (s.updBoot f).drawn = s.drawn := rfl
@[simp] theorem updBoot_sched (f : BootSt → BootSt) : (s.updBoot f).sched = s.sched := rfl
@[simp] theorem updBoot_ev (f : BootSt → BootSt) : (s.updBoot f).ev = s.ev := rfl
@[simp] theorem updBoot_tick (f : BootSt → BootSt) : (s.updBoot f).tick = s.tick := rfl
@[simp] theorem updBoot_ops (f : BootSt → BootSt) : (s.updBoot f).ops = s.ops := rfl
@[simp] theorem updBoot_ready (f : BootSt → BootSt) : (s.updBoot f).ready = s.ready := rfl
@[simp] theorem updBoot_hostMem (f : BootSt → BootSt) : (s.updBoot f).hostMem = s.hostMem := rfl
@[simp] theorem updBoot_stage (f : BootSt → BootSt) : (s.updBoot f).stage = s.stage := rfl
@[simp] theorem updBoot_dbg (f : BootSt → BootSt) : (s.updBoot f).dbg = s.dbg := rfl
@[simp] theorem updBoot_scratch (f : BootSt → BootSt) : (s.updBoot f).scratch = s.scratch := rfl
@[simp] theorem updBoot_reels (f : BootSt → BootSt) : (s.updBoot f).reels = s.reels := rfl
@[simp] theorem updBoot_dram (f : BootSt → BootSt) : (s.updBoot f).dram = s.dram := rfl
@[simp] theorem updBoot_catches (f : BootSt → BootSt) : (s.updBoot f).catches = s.catches := rfl
@[simp] theorem updBoot_ddr (f : BootSt → BootSt) : (s.updBoot f).ddr = s.ddr := rfl
@[simp] theorem updBoot_records (f : BootSt → BootSt) : (s.updBoot f).records = s.records := rfl
@[simp] theorem updBoot_dramTags (f : BootSt → BootSt) : (s.updBoot f).dramTags = s.dramTags := rfl
@[simp] theorem updBoot_dramBad (f : BootSt → BootSt) : (s.updBoot f).dramBad = s.dramBad := rfl
@[simp] theorem updBoot_dramPoison (f : BootSt → BootSt) : (s.updBoot f).dramPoison = s.dramPoison := rfl
@[simp] theorem updBoot_dramWhole (f : BootSt → BootSt) : (s.updBoot f).dramWhole = s.dramWhole := rfl
@[simp] theorem updBoot_enc (f : BootSt → BootSt) : (s.updBoot f).enc = s.enc := rfl
@[simp] theorem updBoot_noc (f : BootSt → BootSt) : (s.updBoot f).noc = s.noc := rfl
@[simp] theorem updBoot_disp (f : BootSt → BootSt) : (s.updBoot f).disp = s.disp := rfl
@[simp] theorem updBoot_sp (f : BootSt → BootSt) : (s.updBoot f).sp = s.sp := rfl
@[simp] theorem updBoot_regions (f : BootSt → BootSt) : (s.updBoot f).regions = s.regions := rfl
@[simp] theorem updBoot_slices (f : BootSt → BootSt) : (s.updBoot f).slices = s.slices := rfl
@[simp] theorem updBoot_frames (f : BootSt → BootSt) : (s.updBoot f).frames = s.frames := rfl
@[simp] theorem updBoot_frameDyn (f : BootSt → BootSt) : (s.updBoot f).frameDyn = s.frameDyn := rfl
@[simp] theorem updBoot_frameCode (f : BootSt → BootSt) : (s.updBoot f).frameCode = s.frameCode := rfl
@[simp] theorem updBoot_frameBad (f : BootSt → BootSt) : (s.updBoot f).frameBad = s.frameBad := rfl
@[simp] theorem updBoot_cfg (f : BootSt → BootSt) : (s.updBoot f).cfg = s.cfg := rfl
@[simp] theorem updBoot_flash (f : BootSt → BootSt) : (s.updBoot f).flash = s.flash := rfl
@[simp] theorem updBoot_lanes (f : BootSt → BootSt) : (s.updBoot f).lanes = s.lanes := rfl
@[simp] theorem updBoot_groups (f : BootSt → BootSt) : (s.updBoot f).groups = s.groups := rfl
@[simp] theorem updBoot_clk (f : BootSt → BootSt) : (s.updBoot f).clk = s.clk := rfl
@[simp] theorem updBoot_mesh (f : BootSt → BootSt) : (s.updBoot f).mesh = s.mesh := rfl
@[simp] theorem updBoot_host (f : BootSt → BootSt) : (s.updBoot f).host = s.host := rfl
@[simp] theorem updBoot_pw (f : BootSt → BootSt) : (s.updBoot f).pw = s.pw := rfl
@[simp] theorem updBoot_io (f : BootSt → BootSt) : (s.updBoot f).io = s.io := rfl
@[simp] theorem updBoot_boot (f : BootSt → BootSt) : (s.updBoot f).boot = f s.boot := rfl

end Sys2Proof.Machine
end

