-- ==== Sys2Proof/Laws/Store.lean ====
section
/-! SUPPORT. The laws of the register fields and of the byte memories: a field reads what was written to it; a write
changes no other field, instance, index or piece of state; memory reads after writes; the canonical form is kept. -/

namespace Sys2Proof.Machine

/-- A field reads what was written to it, in its width. -/
@[simp] theorem rd_wr_same (s : State) (f : Fld) (v i j : Nat) : (s.wr f v i j).rd f i j = v % 2 ^ f.width := by
  simp [State.rd, State.wr]

/-- A write of one field leaves every other field. -/
theorem rd_wr_ne (s : State) (f g : Fld) (v i j a b : Nat) (h : g.id ≠ f.id) : (s.wr f v i j).rd g a b = s.rd g a b := by
  simp [State.rd, State.wr, sget_sput_ne _ _ _ h]

/-- A write of one instance leaves the others. -/
theorem rd_wr_inst (s : State) (f : Fld) (v i j a b : Nat) (h : a ≠ i) : (s.wr f v i j).rd f a b = s.rd f a b := by
  simp [State.rd, State.wr, sget_sput_ne _ _ _ h]

/-- A write of one index leaves the others. -/
theorem rd_wr_index (s : State) (f : Fld) (v i j b : Nat) (h : b ≠ j) : (s.wr f v i j).rd f i b = s.rd f i b := by
  simp [State.rd, State.wr, sget_sput_ne _ _ _ h]

/-- Everything a write of a field does to the fields. -/
theorem rd_wr (s : State) (f g : Fld) (v i j a b : Nat) (hr : g.id = f.id → g = f) :
    (s.wr f v i j).rd g a b = if g.id = f.id ∧ a = i ∧ b = j then v % 2 ^ f.width else s.rd g a b := by
  by_cases h : g.id = f.id
  · have := hr h
    subst this
    by_cases ha : a = i
    · subst ha
      by_cases hb : b = j
      · subst hb
        simp
      · simp [hb, rd_wr_index _ _ _ _ _ _ hb]
    · simp [ha, rd_wr_inst _ _ _ _ _ _ _ ha]
  · simp [h, rd_wr_ne _ _ _ _ _ _ _ _ h]

/-- A cleared field reads its reset value. -/
@[simp] theorem rd_clr_same (s : State) (f : Fld) (i j : Nat) : (s.clr f).rd f i j = f.rst := by
  simp [State.rd, State.clr]

theorem rd_clr_ne (s : State) (f g : Fld) (a b : Nat) (h : g.id ≠ f.id) : (s.clr f).rd g a b = s.rd g a b := by
  simp [State.rd, State.clr, sget_sput_ne _ _ _ h]

@[simp] theorem rd_clrInst_same (s : State) (f : Fld) (i j : Nat) : (s.clrInst f i).rd f i j = f.rst := by
  simp [State.rd, State.clrInst]

theorem rd_clrInst_ne (s : State) (f g : Fld) (i a b : Nat) (h : g.id ≠ f.id) : (s.clrInst f i).rd g a b = s.rd g a b := by
  simp [State.rd, State.clrInst, sget_sput_ne _ _ _ h]

/-- Clearing a list of fields leaves a field that is not in it. -/
theorem rd_clrAll_ne (s : State) (fs : List Fld) (g : Fld) (a b : Nat) (h : ∀ f ∈ fs, g.id ≠ f.id) :
    (s.clrAll fs).rd g a b = s.rd g a b := by
  unfold State.clrAll
  induction fs generalizing s with
  | nil => rfl
  | cons f t ih =>
    rw [List.foldl_cons, ih _ fun x hx => h x (List.mem_cons_of_mem _ hx), rd_clr_ne _ _ _ _ _ (h f List.mem_cons_self)]

/-- Every field of a list of distinct fields that is cleared reads its reset value. -/
theorem rd_clrAll_mem (s : State) (fs : List Fld) (g : Fld) (a b : Nat) (hd : fs.Pairwise fun x y => x.id ≠ y.id)
    (h : g ∈ fs) : (s.clrAll fs).rd g a b = g.rst := by
  unfold State.clrAll
  induction fs generalizing s with
  | nil => cases h
  | cons f t ih =>
    rw [List.foldl_cons]
    rw [List.pairwise_cons] at hd
    by_cases hg : g ∈ t
    · exact ih _ hd.2 hg
    · have hgf : g = f := by simpa [hg] using h
      subst hgf
      have := rd_clrAll_ne (s.clr g) t g a b fun x hx => hd.1 x hx
      unfold State.clrAll at this
      rw [this, rd_clr_same]

theorem rd_clrAllInst_ne (s : State) (fs : List Fld) (i : Nat) (g : Fld) (a b : Nat) (h : ∀ f ∈ fs, g.id ≠ f.id) :
    (s.clrAllInst fs i).rd g a b = s.rd g a b := by
  unfold State.clrAllInst
  induction fs generalizing s with
  | nil => rfl
  | cons f t ih =>
    rw [List.foldl_cons, ih _ fun x hx => h x (List.mem_cons_of_mem _ hx),
      rd_clrInst_ne _ _ _ _ _ _ (h f List.mem_cons_self)]

theorem rd_clrAllInst_mem (s : State) (fs : List Fld) (i : Nat) (g : Fld) (b : Nat)
    (hd : fs.Pairwise fun x y => x.id ≠ y.id) (h : g ∈ fs) : (s.clrAllInst fs i).rd g i b = g.rst := by
  unfold State.clrAllInst
  induction fs generalizing s with
  | nil => cases h
  | cons f t ih =>
    rw [List.foldl_cons]
    rw [List.pairwise_cons] at hd
    by_cases hg : g ∈ t
    · exact ih _ hd.2 hg
    · have hgf : g = f := by simpa [hg] using h
      subst hgf
      have := rd_clrAllInst_ne (s.clrInst g i) t i g i b fun x hx => hd.1 x hx
      unfold State.clrAllInst at this
      rw [this, rd_clrInst_same]

/-! Byte memories. -/

/-- The bytes of a list laid at an address: what each byte of memory reads after the write. -/
theorem sget_memWrBytes (l : List Byte) : ∀ (m : Mem) (a k : Nat),
    sget (0 : Byte) (memWrBytes m a l) k = if a ≤ k ∧ k < a + l.length then l.getD (k - a) 0 else sget 0 m k := by
  induction l with
  | nil =>
    intro m a k
    have : ¬(a ≤ k ∧ k < a + ([] : List Byte).length) := by simp
    rw [if_neg this]
    rfl
  | cons b t ih =>
    intro m a k
    rw [memWrBytes, ih, sget_sput]
    by_cases h1 : a + 1 ≤ k ∧ k < a + 1 + t.length
    · have h2 : a ≤ k ∧ k < a + (b :: t).length := by simp only [List.length_cons]; omega
      obtain ⟨d, rfl⟩ : ∃ d, k = a + 1 + d := ⟨k - (a + 1), by omega⟩
      rw [if_pos h1, if_pos h2]
      have e1 : a + 1 + d - (a + 1) = d := by omega
      have e2 : a + 1 + d - a = d + 1 := by omega
      rw [e1, e2, List.getD_cons_succ]
    · rw [if_neg h1]
      by_cases h3 : k = a
      · subst h3
        simp
      · have h4 : ¬(a ≤ k ∧ k < a + (b :: t).length) := by simp only [List.length_cons]; omega
        rw [if_neg h3, if_neg h4]

/-- A write outside an address leaves its byte. -/
theorem sget_memWr_out : ∀ (n : Nat) (m : Mem) (a v k : Nat), k < a ∨ a + n ≤ k →
    sget (0 : Byte) (memWr m a v n) k = sget 0 m k
  | 0, _, _, _, _, _ => rfl
  | n + 1, m, a, v, k, h => by
    have h' : k < a + 1 ∨ a + 1 + n ≤ k := by omega
    rw [memWr, sget_memWr_out n _ _ _ _ h', sget_sput_ne]
    omega

/-- A little-endian number written is read back (R8). -/
theorem memRd_memWr_same : ∀ (n : Nat) (m : Mem) (a v : Nat), memRd (memWr m a v n) a n = v % 256 ^ n
  | 0, _, _, _ => by simp [memRd, Nat.mod_one]
  | n + 1, m, a, v => by
    rw [memWr, memRd, sget_memWr_out n _ _ _ _ (by omega), sget_sput_same]
    rw [memRd_memWr_same n]
    have : (BitVec.ofNat 8 v).toNat = v % 256 := by simp
    rw [this, Nat.pow_succ', Nat.mod_mul]

theorem swf_memWrBytes (l : List Byte) : ∀ (m : Mem) (a : Nat), swf (0 : Byte) m = true → swf (0 : Byte) (memWrBytes m a l) = true := by
  induction l with
  | nil => intro m a h; exact h
  | cons b t ih => intro m a h; exact ih _ _ (swf_sput _ _ _ _ h)

theorem swf_memWr (n : Nat) : ∀ (m : Mem) (a v : Nat), swf (0 : Byte) m = true → swf (0 : Byte) (memWr m a v n) = true := by
  induction n with
  | zero => intro m a v h; exact h
  | succ n ih => intro m a v h; exact ih _ _ _ (swf_sput _ _ _ _ h)

@[simp] theorem memBytes_length (m : Mem) : ∀ (n a : Nat), (memBytes m a n).length = n
  | 0, _ => rfl
  | n + 1, a => by simp [memBytes, memBytes_length m n]

end Sys2Proof.Machine
end

