-- ==== Sys2Proof/Laws/Frames.lean ====
section
/-! SUPPORT. What a write, an update and a raised event may change: the frames of the shared operations. -/

namespace Sys2Proof

open Machine Machine.F

variable {fs : List Fld} {ps : List Part} {r s : State}

theorem Framed.refl : Framed fs ps s s := ⟨fun _ _ _ _ => rfl, fun p _ => by cases p <;> rfl⟩

theorem Part.same_trans {p : Part} {r s t : State} (h : p.same r s) (k : p.same s t) : p.same r t := by
  cases p <;> exact Eq.trans k h

theorem Framed.trans {t : State} (h : Framed fs ps r s) (k : Framed fs ps s t) : Framed fs ps r t :=
  ⟨fun g i j hg => (k.1 g i j hg).trans (h.1 g i j hg), fun p hp => Part.same_trans (h.2 p hp) (k.2 p hp)⟩

theorem Framed.mono {gs : List Fld} {qs : List Part} (h : Framed fs ps r s) (hf : fs ⊆ gs) (hp : ps ⊆ qs) : Framed gs qs r s :=
  ⟨fun g i j hg => h.1 g i j fun f k => hg f (hf k), fun p k => h.2 p fun q => k (hp q)⟩

theorem Framed.wr {f : Fld} {v i j : Nat} (hf : f ∈ fs) (h : Framed fs ps r s) : Framed fs ps r (s.wr f v i j) :=
  h.trans ⟨fun _ _ _ hg => rd_wr_ne _ _ _ _ _ _ _ _ (hg f hf), fun p _ => by cases p <;> rfl⟩

theorem Framed.setb {f : Fld} {b : Bool} {i j : Nat} (hf : f ∈ fs) (h : Framed fs ps r s) : Framed fs ps r (s.setb f b i j) :=
  h.wr hf

theorem Framed.incSat {f : Fld} {i j n : Nat} (hf : f ∈ fs) (h : Framed fs ps r s) : Framed fs ps r (s.incSat f i j n) :=
  h.wr hf

theorem Framed.incWrap {f : Fld} {i j n : Nat} (hf : f ∈ fs) (h : Framed fs ps r s) : Framed fs ps r (s.incWrap f i j n) :=
  h.wr hf

theorem Framed.setmbit {f : Fld} {b i j : Nat} {v : Bool} (hf : f ∈ fs) (h : Framed fs ps r s) :
    Framed fs ps r (s.setmbit f b v i j) :=
  h.wr hf

theorem Framed.clr {f : Fld} (hf : f ∈ fs) (h : Framed fs ps r s) : Framed fs ps r (s.clr f) :=
  h.trans ⟨fun _ _ _ hg => rd_clr_ne _ _ _ _ _ (hg f hf), fun p _ => by cases p <;> rfl⟩

theorem Framed.clrInst {f : Fld} {i : Nat} (hf : f ∈ fs) (h : Framed fs ps r s) : Framed fs ps r (s.clrInst f i) :=
  h.trans ⟨fun _ _ _ hg => rd_clrInst_ne _ _ _ _ _ _ (hg f hf), fun p _ => by cases p <;> rfl⟩

theorem Framed.foldl {α : Type} {f : State → α → State} (l : List α)
    (hf : ∀ a t, Framed fs ps r t → Framed fs ps r (f t a)) : ∀ {s : State}, Framed fs ps r s → Framed fs ps r (l.foldl f s) := by
  induction l with
  | nil => exact fun h => h
  | cons a l ih => exact fun h => ih (hf a _ h)

theorem Framed.clrAll {gs : List Fld} (hf : gs ⊆ fs) (h : Framed fs ps r s) : Framed fs ps r (s.clrAll gs) := by
  unfold State.clrAll
  induction gs generalizing s with
  | nil => exact h
  | cons g gs ih => exact ih (fun x k => hf (List.mem_cons_of_mem _ k)) (h.clr (hf List.mem_cons_self))

theorem Framed.ite {c : Prop} [Decidable c] {t : State} (h : Framed fs ps r s) (k : Framed fs ps r t) :
    Framed fs ps r (if c then s else t) := by
  split <;> assumption

theorem Framed.updPending {f} (hp : Part.pending ∈ ps) (h : Framed fs ps r s) : Framed fs ps r (s.updPending f) :=
  h.trans ⟨fun _ _ _ _ => rfl, fun p hq => by cases p <;> first | rfl | exact absurd hp hq⟩

theorem Framed.updTickWrites {f} (hp : Part.tickWrites ∈ ps) (h : Framed fs ps r s) : Framed fs ps r (s.updTickWrites f) :=
  h.trans ⟨fun _ _ _ _ => rfl, fun p hq => by cases p <;> first | rfl | exact absurd hp hq⟩

theorem Framed.updLatches {f} (hp : Part.latches ∈ ps) (h : Framed fs ps r s) : Framed fs ps r (s.updLatches f) :=
  h.trans ⟨fun _ _ _ _ => rfl, fun p hq => by cases p <;> first | rfl | exact absurd hp hq⟩

theorem Framed.updLowHalves {f} (hp : Part.lowHalves ∈ ps) (h : Framed fs ps r s) : Framed fs ps r (s.updLowHalves f) :=
  h.trans ⟨fun _ _ _ _ => rfl, fun p hq => by cases p <;> first | rfl | exact absurd hp hq⟩

theorem Framed.updDrawn {f} (hp : Part.drawn ∈ ps) (h : Framed fs ps r s) : Framed fs ps r (s.updDrawn f) :=
  h.trans ⟨fun _ _ _ _ => rfl, fun p hq => by cases p <;> first | rfl | exact absurd hp hq⟩

theorem Framed.updSched {f} (hp : Part.sched ∈ ps) (h : Framed fs ps r s) : Framed fs ps r (s.updSched f) :=
  h.trans ⟨fun _ _ _ _ => rfl, fun p hq => by cases p <;> first | rfl | exact absurd hp hq⟩

theorem Framed.updEv {f} (hp : Part.ev ∈ ps) (h : Framed fs ps r s) : Framed fs ps r (s.updEv f) :=
  h.trans ⟨fun _ _ _ _ => rfl, fun p hq => by cases p <;> first | rfl | exact absurd hp hq⟩

theorem Framed.updTick {f} (hp : Part.tick ∈ ps) (h : Framed fs ps r s) : Framed fs ps r (s.updTick f) :=
  h.trans ⟨fun _ _ _ _ => rfl, fun p hq => by cases p <;> first | rfl | exact absurd hp hq⟩

theorem Framed.updOps {f} (hp : Part.ops ∈ ps) (h : Framed fs ps r s) : Framed fs ps r (s.updOps f) :=
  h.trans ⟨fun _ _ _ _ => rfl, fun p hq => by cases p <;> first | rfl | exact absurd hp hq⟩

theorem Framed.updReady {f} (hp : Part.ready ∈ ps) (h : Framed fs ps r s) : Framed fs ps r (s.updReady f) :=
  h.trans ⟨fun _ _ _ _ => rfl, fun p hq => by cases p <;> first | rfl | exact absurd hp hq⟩

theorem Framed.updHostMem {f} (hp : Part.hostMem ∈ ps) (h : Framed fs ps r s) : Framed fs ps r (s.updHostMem f) :=
  h.trans ⟨fun _ _ _ _ => rfl, fun p hq => by cases p <;> first | rfl | exact absurd hp hq⟩

theorem Framed.updStage {f} (hp : Part.stage ∈ ps) (h : Framed fs ps r s) : Framed fs ps r (s.updStage f) :=
  h.trans ⟨fun _ _ _ _ => rfl, fun p hq => by cases p <;> first | rfl | exact absurd hp hq⟩

theorem Framed.updDbg {f} (hp : Part.dbg ∈ ps) (h : Framed fs ps r s) : Framed fs ps r (s.updDbg f) :=
  h.trans ⟨fun _ _ _ _ => rfl, fun p hq => by cases p <;> first | rfl | exact absurd hp hq⟩

theorem Framed.updScratch {f} (hp : Part.scratch ∈ ps) (h : Framed fs ps r s) : Framed fs ps r (s.updScratch f) :=
  h.trans ⟨fun _ _ _ _ => rfl, fun p hq => by cases p <;> first | rfl | exact absurd hp hq⟩

theorem Framed.updReels {f} (hp : Part.reels ∈ ps) (h : Framed fs ps r s) : Framed fs ps r (s.updReels f) :=
  h.trans ⟨fun _ _ _ _ => rfl, fun p hq => by cases p <;> first | rfl | exact absurd hp hq⟩

theorem Framed.updDram {f} (hp : Part.dram ∈ ps) (h : Framed fs ps r s) : Framed fs ps r (s.updDram f) :=
  h.trans ⟨fun _ _ _ _ => rfl, fun p hq => by cases p <;> first | rfl | exact absurd hp hq⟩

theorem Framed.updCatches {f} (hp : Part.catches ∈ ps) (h : Framed fs ps r s) : Framed fs ps r (s.updCatches f) :=
  h.trans ⟨fun _ _ _ _ => rfl, fun p hq => by cases p <;> first | rfl | exact absurd hp hq⟩

theorem Framed.updDdr {f} (hp : Part.ddr ∈ ps) (h : Framed fs ps r s) : Framed fs ps r (s.updDdr f) :=
  h.trans ⟨fun _ _ _ _ => rfl, fun p hq => by cases p <;> first | rfl | exact absurd hp hq⟩

theorem Framed.updRecords {f} (hp : Part.records ∈ ps) (h : Framed fs ps r s) : Framed fs ps r (s.updRecords f) :=
  h.trans ⟨fun _ _ _ _ => rfl, fun p hq => by cases p <;> first | rfl | exact absurd hp hq⟩

theorem Framed.updDramTags {f} (hp : Part.dramTags ∈ ps) (h : Framed fs ps r s) : Framed fs ps r (s.updDramTags f) :=
  h.trans ⟨fun _ _ _ _ => rfl, fun p hq => by cases p <;> first | rfl | exact absurd hp hq⟩

theorem Framed.updDramBad {f} (hp : Part.dramBad ∈ ps) (h : Framed fs ps r s) : Framed fs ps r (s.updDramBad f) :=
  h.trans ⟨fun _ _ _ _ => rfl, fun p hq => by cases p <;> first | rfl | exact absurd hp hq⟩

theorem Framed.updDramPoison {f} (hp : Part.dramPoison ∈ ps) (h : Framed fs ps r s) : Framed fs ps r (s.updDramPoison f) :=
  h.trans ⟨fun _ _ _ _ => rfl, fun p hq => by cases p <;> first | rfl | exact absurd hp hq⟩

theorem Framed.updDramWhole {f} (hp : Part.dramWhole ∈ ps) (h : Framed fs ps r s) : Framed fs ps r (s.updDramWhole f) :=
  h.trans ⟨fun _ _ _ _ => rfl, fun p hq => by cases p <;> first | rfl | exact absurd hp hq⟩

theorem Framed.updEnc {f} (hp : Part.enc ∈ ps) (h : Framed fs ps r s) : Framed fs ps r (s.updEnc f) :=
  h.trans ⟨fun _ _ _ _ => rfl, fun p hq => by cases p <;> first | rfl | exact absurd hp hq⟩

theorem Framed.updNoc {f} (hp : Part.noc ∈ ps) (h : Framed fs ps r s) : Framed fs ps r (s.updNoc f) :=
  h.trans ⟨fun _ _ _ _ => rfl, fun p hq => by cases p <;> first | rfl | exact absurd hp hq⟩

theorem Framed.updDisp {f} (hp : Part.disp ∈ ps) (h : Framed fs ps r s) : Framed fs ps r (s.updDisp f) :=
  h.trans ⟨fun _ _ _ _ => rfl, fun p hq => by cases p <;> first | rfl | exact absurd hp hq⟩

theorem Framed.updSp {f} (hp : Part.sp ∈ ps) (h : Framed fs ps r s) : Framed fs ps r (s.updSp f) :=
  h.trans ⟨fun _ _ _ _ => rfl, fun p hq => by cases p <;> first | rfl | exact absurd hp hq⟩

theorem Framed.updRegions {f} (hp : Part.regions ∈ ps) (h : Framed fs ps r s) : Framed fs ps r (s.updRegions f) :=
  h.trans ⟨fun _ _ _ _ => rfl, fun p hq => by cases p <;> first | rfl | exact absurd hp hq⟩

theorem Framed.updSlices {f} (hp : Part.slices ∈ ps) (h : Framed fs ps r s) : Framed fs ps r (s.updSlices f) :=
  h.trans ⟨fun _ _ _ _ => rfl, fun p hq => by cases p <;> first | rfl | exact absurd hp hq⟩

theorem Framed.updFrames {f} (hp : Part.frames ∈ ps) (h : Framed fs ps r s) : Framed fs ps r (s.updFrames f) :=
  h.trans ⟨fun _ _ _ _ => rfl, fun p hq => by cases p <;> first | rfl | exact absurd hp hq⟩

theorem Framed.updFrameDyn {f} (hp : Part.frameDyn ∈ ps) (h : Framed fs ps r s) : Framed fs ps r (s.updFrameDyn f) :=
  h.trans ⟨fun _ _ _ _ => rfl, fun p hq => by cases p <;> first | rfl | exact absurd hp hq⟩

theorem Framed.updFrameCode {f} (hp : Part.frameCode ∈ ps) (h : Framed fs ps r s) : Framed fs ps r (s.updFrameCode f) :=
  h.trans ⟨fun _ _ _ _ => rfl, fun p hq => by cases p <;> first | rfl | exact absurd hp hq⟩

theorem Framed.updFrameBad {f} (hp : Part.frameBad ∈ ps) (h : Framed fs ps r s) : Framed fs ps r (s.updFrameBad f) :=
  h.trans ⟨fun _ _ _ _ => rfl, fun p hq => by cases p <;> first | rfl | exact absurd hp hq⟩

theorem Framed.updCfg {f} (hp : Part.cfg ∈ ps) (h : Framed fs ps r s) : Framed fs ps r (s.updCfg f) :=
  h.trans ⟨fun _ _ _ _ => rfl, fun p hq => by cases p <;> first | rfl | exact absurd hp hq⟩

theorem Framed.updFlash {f} (hp : Part.flash ∈ ps) (h : Framed fs ps r s) : Framed fs ps r (s.updFlash f) :=
  h.trans ⟨fun _ _ _ _ => rfl, fun p hq => by cases p <;> first | rfl | exact absurd hp hq⟩

theorem Framed.updLanes {f} (hp : Part.lanes ∈ ps) (h : Framed fs ps r s) : Framed fs ps r (s.updLanes f) :=
  h.trans ⟨fun _ _ _ _ => rfl, fun p hq => by cases p <;> first | rfl | exact absurd hp hq⟩

theorem Framed.updGroups {f} (hp : Part.groups ∈ ps) (h : Framed fs ps r s) : Framed fs ps r (s.updGroups f) :=
  h.trans ⟨fun _ _ _ _ => rfl, fun p hq => by cases p <;> first | rfl | exact absurd hp hq⟩

theorem Framed.updClk {f} (hp : Part.clk ∈ ps) (h : Framed fs ps r s) : Framed fs ps r (s.updClk f) :=
  h.trans ⟨fun _ _ _ _ => rfl, fun p hq => by cases p <;> first | rfl | exact absurd hp hq⟩

theorem Framed.updMesh {f} (hp : Part.mesh ∈ ps) (h : Framed fs ps r s) : Framed fs ps r (s.updMesh f) :=
  h.trans ⟨fun _ _ _ _ => rfl, fun p hq => by cases p <;> first | rfl | exact absurd hp hq⟩

theorem Framed.updHost {f} (hp : Part.host ∈ ps) (h : Framed fs ps r s) : Framed fs ps r (s.updHost f) :=
  h.trans ⟨fun _ _ _ _ => rfl, fun p hq => by cases p <;> first | rfl | exact absurd hp hq⟩

theorem Framed.updPw {f} (hp : Part.pw ∈ ps) (h : Framed fs ps r s) : Framed fs ps r (s.updPw f) :=
  h.trans ⟨fun _ _ _ _ => rfl, fun p hq => by cases p <;> first | rfl | exact absurd hp hq⟩

theorem Framed.updIo {f} (hp : Part.io ∈ ps) (h : Framed fs ps r s) : Framed fs ps r (s.updIo f) :=
  h.trans ⟨fun _ _ _ _ => rfl, fun p hq => by cases p <;> first | rfl | exact absurd hp hq⟩

theorem Framed.updBoot {f} (hp : Part.boot ∈ ps) (h : Framed fs ps r s) : Framed fs ps r (s.updBoot f) :=
  h.trans ⟨fun _ _ _ _ => rfl, fun p hq => by cases p <;> first | rfl | exact absurd hp hq⟩


/-! Raising an event. -/

theorem Framed.countEvent {e : Evt} {n : Nat} {b : Bool} (hf : eventFields ⊆ fs) (h : Framed fs ps r s) :
    Framed fs ps r (countEvent e n b s) := by
  have hc : classCounter e.cls ∈ fs := hf (by unfold classCounter; split <;> decide)
  have m {f : Fld} (k : f ∈ eventFields) : f ∈ fs := hf k
  have h1 : Framed fs ps r ((s.incSat EA_COUNT_COUNT 0 (eventIndex e.id)).incSat (classCounter e.cls)) :=
    (h.incSat (m (by decide))).incSat hc
  have h2 := Framed.ite (c := b = true) (h1.incSat (f := EA_INJECTED_COUNT) (i := 0) (j := 0) (n := 1) (m (by decide))) h1
  have h3 := Framed.ite (c := e.cls = 3) (h2.wr (f := GL_ATTENTION_FAULT_SEEN) (v := 1) (i := 0) (j := 0) (m (by decide))) h2
  have h4 := Framed.ite (c := e.id / 256 = 0) h3
    (h3.setmbit (f := GL_ATTENTION_GROUP_SEEN) (b := e.id / 256 - 1) (v := true) (i := 0) (j := 0) (m (by decide)))
  exact Framed.ite ((((h4.wr (m (by decide))).wr (m (by decide))).wr (m (by decide))).wr (m (by decide))) h4

theorem Framed.pushRecord {e : EvRec} (hf : eventFields ⊆ fs) (hp : eventParts ⊆ ps) (h : Framed fs ps r s) :
    Framed fs ps r (pushRecord e s) := by
  have m {f : Fld} (k : f ∈ eventFields) : f ∈ fs := hf k
  unfold Machine.pushRecord
  split
  · exact h.updEv (hp (by decide))
  · exact ((h.incWrap (m (by decide))).wr (m (by decide))).updEv (hp (by decide))

theorem Framed.raiseCore {e : Evt} {n a : Nat} {b w : Bool} (hf : eventFields ⊆ fs) (hp : eventParts ⊆ ps)
    (h : Framed fs ps r s) : Framed fs ps r (raiseCore e n a b w s) := by
  unfold Machine.raiseCore
  have h1 := (Framed.countEvent (e := e) (n := n) (b := b) hf h).updEv (f := fun v => { v with seq := (v.seq + 1) % 65536 }) (hp (by decide))
  dsimp only
  split
  · exact Framed.pushRecord hf hp h1
  · exact h1

theorem Framed.countHits {l : List Nat} (hf : eventFields ⊆ fs) (h : Framed fs ps r s) : Framed fs ps r (countHits l s) := by
  have m {f : Fld} (k : f ∈ eventFields) : f ∈ fs := hf k
  unfold Machine.countHits
  refine Framed.foldl l (fun a t k => ?_) h
  repeat' split
  all_goals exact k.incWrap (m (by decide))

theorem Framed.haltSlice {k g : Nat} (hf : eventFields ⊆ fs) (hp : eventParts ⊆ ps) (h : Framed fs ps r s) :
    Framed fs ps r (haltSlice k g s) := by
  unfold Machine.haltSlice
  exact Framed.ite ((h.wr (f := SL_STATUS_STATE) (hf (by decide))).updSlices (hp (by decide))) h

theorem Framed.haltAttached (hf : eventFields ⊆ fs) (hp : eventParts ⊆ ps) (h : Framed fs ps r s) :
    Framed fs ps r (haltAttached s) := by
  unfold Machine.haltAttached
  refine Framed.foldl _ (fun a t k => ?_) h
  dsimp only
  split
  · exact Framed.haltSlice hf hp k
  · exact k.updDbg (hp (by decide))

theorem Framed.sequencerStep {l : List Nat} (hf : eventFields ⊆ fs) (hp : eventParts ⊆ ps) (h : Framed fs ps r s) :
    Framed fs ps r (sequencerStep l s) := by
  have m {f : Fld} (k : f ∈ eventFields) : f ∈ fs := hf k
  have n {p : Part} (k : p ∈ eventParts) : p ∈ ps := hp k
  refine Framed.ite ?_ h
  have h1 := (h.updDbg (f := fun d => { d with seqCycle := some (s.now, s.offset) }) (n (by decide)))
  have h2 := h1.wr (f := SQ_COUNT_HITS) (v := s.rd SQ_COUNT_HITS 0 (s.rd DB_STATUS_SEQ_STATE) + 1) (i := 0)
    (j := s.rd DB_STATUS_SEQ_STATE) (m (by decide))
  refine Framed.ite ?_ h2
  refine Framed.wr (m (by decide)) (Framed.wr (m (by decide)) ?_)
  refine Framed.ite (Framed.haltAttached hf hp ?_) ?_ <;> refine Framed.ite (Framed.countHits hf (Framed.raiseCore hf hp ?_)) ?_ <;>
    refine Framed.ite (Framed.updDbg (n (by decide)) ?_) ?_ <;>
    exact Framed.wr (m (by decide)) (Framed.wr (m (by decide)) h2)

theorem Framed.comparatorHits {l : List Nat} (hf : eventFields ⊆ fs) (hp : eventParts ⊆ ps) (h : Framed fs ps r s) :
    Framed fs ps r (comparatorHits l s) := by
  unfold Machine.comparatorHits
  exact Framed.ite h (Framed.sequencerStep hf hp (Framed.countHits hf h))

theorem Framed.raiseInj {e : Evt} {n a : Nat} {b : Bool} (hf : eventFields ⊆ fs) (hp : eventParts ⊆ ps)
    (h : Framed fs ps r s) : Framed fs ps r (raiseInj e n a b s) :=
  Framed.comparatorHits hf hp (Framed.raiseCore hf hp h)

theorem Framed.raise {e : Evt} {n a : Nat} (hf : eventFields ⊆ fs) (hp : eventParts ⊆ ps)
    (h : Framed fs ps r s) : Framed fs ps r (raise e n a s) :=
  Framed.raiseInj hf hp h

theorem Framed.raiseOnce {e : Evt} {n a : Nat} {b : Bool} (hf : eventFields ⊆ fs) (hp : eventParts ⊆ ps)
    (h : Framed fs ps r s) : Framed fs ps r (raiseOnce e n a b s) := by
  unfold Machine.raiseOnce
  exact Framed.comparatorHits hf hp ((Framed.raiseCore hf hp h).updEv (hp (by decide)))

/-- An event leaves every register field that it does not count in. -/
theorem rd_raiseInj {e : Evt} {n a : Nat} {b : Bool} {g : Fld} {i j : Nat} (hg : ∀ f ∈ eventFields, g.id ≠ f.id) :
    (raiseInj e n a b s).rd g i j = s.rd g i j :=
  (Framed.raiseInj (fs := eventFields) (ps := eventParts) (fun _ h => h) (fun _ h => h) Framed.refl).1 g i j hg

theorem rd_raise {e : Evt} {n a : Nat} {g : Fld} {i j : Nat} (hg : ∀ f ∈ eventFields, g.id ≠ f.id) :
    (raise e n a s).rd g i j = s.rd g i j := rd_raiseInj hg

theorem rd_raiseOnce {e : Evt} {n a : Nat} {b : Bool} {g : Fld} {i j : Nat} (hg : ∀ f ∈ eventFields, g.id ≠ f.id) :
    (raiseOnce e n a b s).rd g i j = s.rd g i j :=
  (Framed.raiseOnce (fs := eventFields) (ps := eventParts) (fun _ h => h) (fun _ h => h) Framed.refl).1 g i j hg

@[simp] theorem raiseInj_pending {e : Evt} {n a : Nat} {b : Bool} : (raiseInj e n a b s).pending = s.pending :=
  (Framed.raiseInj (fs := eventFields) (ps := eventParts) (fun _ h => h) (fun _ h => h) Framed.refl).2 .pending (by decide)

@[simp] theorem raise_pending {e : Evt} {n a : Nat} : (raise e n a s).pending = s.pending := raiseInj_pending

@[simp] theorem raiseInj_tickWrites {e : Evt} {n a : Nat} {b : Bool} : (raiseInj e n a b s).tickWrites = s.tickWrites :=
  (Framed.raiseInj (fs := eventFields) (ps := eventParts) (fun _ h => h) (fun _ h => h) Framed.refl).2 .tickWrites (by decide)

@[simp] theorem raise_tickWrites {e : Evt} {n a : Nat} : (raise e n a s).tickWrites = s.tickWrites := raiseInj_tickWrites

@[simp] theorem raiseInj_latches {e : Evt} {n a : Nat} {b : Bool} : (raiseInj e n a b s).latches = s.latches :=
  (Framed.raiseInj (fs := eventFields) (ps := eventParts) (fun _ h => h) (fun _ h => h) Framed.refl).2 .latches (by decide)

@[simp] theorem raise_latches {e : Evt} {n a : Nat} : (raise e n a s).latches = s.latches := raiseInj_latches

@[simp] theorem raiseInj_lowHalves {e : Evt} {n a : Nat} {b : Bool} : (raiseInj e n a b s).lowHalves = s.lowHalves :=
  (Framed.raiseInj (fs := eventFields) (ps := eventParts) (fun _ h => h) (fun _ h => h) Framed.refl).2 .lowHalves (by decide)

@[simp] theorem raise_lowHalves {e : Evt} {n a : Nat} : (raise e n a s).lowHalves = s.lowHalves := raiseInj_lowHalves

@[simp] theorem raiseInj_drawn {e : Evt} {n a : Nat} {b : Bool} : (raiseInj e n a b s).drawn = s.drawn :=
  (Framed.raiseInj (fs := eventFields) (ps := eventParts) (fun _ h => h) (fun _ h => h) Framed.refl).2 .drawn (by decide)

@[simp] theorem raise_drawn {e : Evt} {n a : Nat} : (raise e n a s).drawn = s.drawn := raiseInj_drawn

@[simp] theorem raiseInj_sched {e : Evt} {n a : Nat} {b : Bool} : (raiseInj e n a b s).sched = s.sched :=
  (Framed.raiseInj (fs := eventFields) (ps := eventParts) (fun _ h => h) (fun _ h => h) Framed.refl).2 .sched (by decide)

@[simp] theorem raise_sched {e : Evt} {n a : Nat} : (raise e n a s).sched = s.sched := raiseInj_sched

@[simp] theorem raiseInj_tick {e : Evt} {n a : Nat} {b : Bool} : (raiseInj e n a b s).tick = s.tick :=
  (Framed.raiseInj (fs := eventFields) (ps := eventParts) (fun _ h => h) (fun _ h => h) Framed.refl).2 .tick (by decide)

@[simp] theorem raise_tick {e : Evt} {n a : Nat} : (raise e n a s).tick = s.tick := raiseInj_tick

@[simp] theorem raiseInj_ops {e : Evt} {n a : Nat} {b : Bool} : (raiseInj e n a b s).ops = s.ops :=
  (Framed.raiseInj (fs := eventFields) (ps := eventParts) (fun _ h => h) (fun _ h => h) Framed.refl).2 .ops (by decide)

@[simp] theorem raise_ops {e : Evt} {n a : Nat} : (raise e n a s).ops = s.ops := raiseInj_ops

@[simp] theorem raiseInj_ready {e : Evt} {n a : Nat} {b : Bool} : (raiseInj e n a b s).ready = s.ready :=
  (Framed.raiseInj (fs := eventFields) (ps := eventParts) (fun _ h => h) (fun _ h => h) Framed.refl).2 .ready (by decide)

@[simp] theorem raise_ready {e : Evt} {n a : Nat} : (raise e n a s).ready = s.ready := raiseInj_ready

@[simp] theorem raiseInj_hostMem {e : Evt} {n a : Nat} {b : Bool} : (raiseInj e n a b s).hostMem = s.hostMem :=
  (Framed.raiseInj (fs := eventFields) (ps := eventParts) (fun _ h => h) (fun _ h => h) Framed.refl).2 .hostMem (by decide)

@[simp] theorem raise_hostMem {e : Evt} {n a : Nat} : (raise e n a s).hostMem = s.hostMem := raiseInj_hostMem

@[simp] theorem raiseInj_stage {e : Evt} {n a : Nat} {b : Bool} : (raiseInj e n a b s).stage = s.stage :=
  (Framed.raiseInj (fs := eventFields) (ps := eventParts) (fun _ h => h) (fun _ h => h) Framed.refl).2 .stage (by decide)

@[simp] theorem raise_stage {e : Evt} {n a : Nat} : (raise e n a s).stage = s.stage := raiseInj_stage

@[simp] theorem raiseInj_scratch {e : Evt} {n a : Nat} {b : Bool} : (raiseInj e n a b s).scratch = s.scratch :=
  (Framed.raiseInj (fs := eventFields) (ps := eventParts) (fun _ h => h) (fun _ h => h) Framed.refl).2 .scratch (by decide)

@[simp] theorem raise_scratch {e : Evt} {n a : Nat} : (raise e n a s).scratch = s.scratch := raiseInj_scratch

@[simp] theorem raiseInj_reels {e : Evt} {n a : Nat} {b : Bool} : (raiseInj e n a b s).reels = s.reels :=
  (Framed.raiseInj (fs := eventFields) (ps := eventParts) (fun _ h => h) (fun _ h => h) Framed.refl).2 .reels (by decide)

@[simp] theorem raise_reels {e : Evt} {n a : Nat} : (raise e n a s).reels = s.reels := raiseInj_reels

@[simp] theorem raiseInj_dram {e : Evt} {n a : Nat} {b : Bool} : (raiseInj e n a b s).dram = s.dram :=
  (Framed.raiseInj (fs := eventFields) (ps := eventParts) (fun _ h => h) (fun _ h => h) Framed.refl).2 .dram (by decide)

@[simp] theorem raise_dram {e : Evt} {n a : Nat} : (raise e n a s).dram = s.dram := raiseInj_dram

@[simp] theorem raiseInj_catches {e : Evt} {n a : Nat} {b : Bool} : (raiseInj e n a b s).catches = s.catches :=
  (Framed.raiseInj (fs := eventFields) (ps := eventParts) (fun _ h => h) (fun _ h => h) Framed.refl).2 .catches (by decide)

@[simp] theorem raise_catches {e : Evt} {n a : Nat} : (raise e n a s).catches = s.catches := raiseInj_catches

@[simp] theorem raiseInj_ddr {e : Evt} {n a : Nat} {b : Bool} : (raiseInj e n a b s).ddr = s.ddr :=
  (Framed.raiseInj (fs := eventFields) (ps := eventParts) (fun _ h => h) (fun _ h => h) Framed.refl).2 .ddr (by decide)

@[simp] theorem raise_ddr {e : Evt} {n a : Nat} : (raise e n a s).ddr = s.ddr := raiseInj_ddr

@[simp] theorem raiseInj_records {e : Evt} {n a : Nat} {b : Bool} : (raiseInj e n a b s).records = s.records :=
  (Framed.raiseInj (fs := eventFields) (ps := eventParts) (fun _ h => h) (fun _ h => h) Framed.refl).2 .records (by decide)

@[simp] theorem raise_records {e : Evt} {n a : Nat} : (raise e n a s).records = s.records := raiseInj_records

@[simp] theorem raiseInj_dramTags {e : Evt} {n a : Nat} {b : Bool} : (raiseInj e n a b s).dramTags = s.dramTags :=
  (Framed.raiseInj (fs := eventFields) (ps := eventParts) (fun _ h => h) (fun _ h => h) Framed.refl).2 .dramTags (by decide)

@[simp] theorem raise_dramTags {e : Evt} {n a : Nat} : (raise e n a s).dramTags = s.dramTags := raiseInj_dramTags

@[simp] theorem raiseInj_dramBad {e : Evt} {n a : Nat} {b : Bool} : (raiseInj e n a b s).dramBad = s.dramBad :=
  (Framed.raiseInj (fs := eventFields) (ps := eventParts) (fun _ h => h) (fun _ h => h) Framed.refl).2 .dramBad (by decide)

@[simp] theorem raise_dramBad {e : Evt} {n a : Nat} : (raise e n a s).dramBad = s.dramBad := raiseInj_dramBad

@[simp] theorem raiseInj_dramPoison {e : Evt} {n a : Nat} {b : Bool} : (raiseInj e n a b s).dramPoison = s.dramPoison :=
  (Framed.raiseInj (fs := eventFields) (ps := eventParts) (fun _ h => h) (fun _ h => h) Framed.refl).2 .dramPoison (by decide)

@[simp] theorem raise_dramPoison {e : Evt} {n a : Nat} : (raise e n a s).dramPoison = s.dramPoison := raiseInj_dramPoison

@[simp] theorem raiseInj_dramWhole {e : Evt} {n a : Nat} {b : Bool} : (raiseInj e n a b s).dramWhole = s.dramWhole :=
  (Framed.raiseInj (fs := eventFields) (ps := eventParts) (fun _ h => h) (fun _ h => h) Framed.refl).2 .dramWhole (by decide)

@[simp] theorem raise_dramWhole {e : Evt} {n a : Nat} : (raise e n a s).dramWhole = s.dramWhole := raiseInj_dramWhole

@[simp] theorem raiseInj_enc {e : Evt} {n a : Nat} {b : Bool} : (raiseInj e n a b s).enc = s.enc :=
  (Framed.raiseInj (fs := eventFields) (ps := eventParts) (fun _ h => h) (fun _ h => h) Framed.refl).2 .enc (by decide)

@[simp] theorem raise_enc {e : Evt} {n a : Nat} : (raise e n a s).enc = s.enc := raiseInj_enc

@[simp] theorem raiseInj_noc {e : Evt} {n a : Nat} {b : Bool} : (raiseInj e n a b s).noc = s.noc :=
  (Framed.raiseInj (fs := eventFields) (ps := eventParts) (fun _ h => h) (fun _ h => h) Framed.refl).2 .noc (by decide)

@[simp] theorem raise_noc {e : Evt} {n a : Nat} : (raise e n a s).noc = s.noc := raiseInj_noc

@[simp] theorem raiseInj_disp {e : Evt} {n a : Nat} {b : Bool} : (raiseInj e n a b s).disp = s.disp :=
  (Framed.raiseInj (fs := eventFields) (ps := eventParts) (fun _ h => h) (fun _ h => h) Framed.refl).2 .disp (by decide)

@[simp] theorem raise_disp {e : Evt} {n a : Nat} : (raise e n a s).disp = s.disp := raiseInj_disp

@[simp] theorem raiseInj_sp {e : Evt} {n a : Nat} {b : Bool} : (raiseInj e n a b s).sp = s.sp :=
  (Framed.raiseInj (fs := eventFields) (ps := eventParts) (fun _ h => h) (fun _ h => h) Framed.refl).2 .sp (by decide)

@[simp] theorem raise_sp {e : Evt} {n a : Nat} : (raise e n a s).sp = s.sp := raiseInj_sp

@[simp] theorem raiseInj_regions {e : Evt} {n a : Nat} {b : Bool} : (raiseInj e n a b s).regions = s.regions :=
  (Framed.raiseInj (fs := eventFields) (ps := eventParts) (fun _ h => h) (fun _ h => h) Framed.refl).2 .regions (by decide)

@[simp] theorem raise_regions {e : Evt} {n a : Nat} : (raise e n a s).regions = s.regions := raiseInj_regions

@[simp] theorem raiseInj_frames {e : Evt} {n a : Nat} {b : Bool} : (raiseInj e n a b s).frames = s.frames :=
  (Framed.raiseInj (fs := eventFields) (ps := eventParts) (fun _ h => h) (fun _ h => h) Framed.refl).2 .frames (by decide)

@[simp] theorem raise_frames {e : Evt} {n a : Nat} : (raise e n a s).frames = s.frames := raiseInj_frames

@[simp] theorem raiseInj_frameDyn {e : Evt} {n a : Nat} {b : Bool} : (raiseInj e n a b s).frameDyn = s.frameDyn :=
  (Framed.raiseInj (fs := eventFields) (ps := eventParts) (fun _ h => h) (fun _ h => h) Framed.refl).2 .frameDyn (by decide)

@[simp] theorem raiseInj_frameCode {e : Evt} {n a : Nat} {b : Bool} : (raiseInj e n a b s).frameCode = s.frameCode :=
  (Framed.raiseInj (fs := eventFields) (ps := eventParts) (fun _ h => h) (fun _ h => h) Framed.refl).2 .frameCode (by decide)

@[simp] theorem raise_frameDyn {e : Evt} {n a : Nat} : (raise e n a s).frameDyn = s.frameDyn := raiseInj_frameDyn

@[simp] theorem raise_frameCode {e : Evt} {n a : Nat} : (raise e n a s).frameCode = s.frameCode := raiseInj_frameCode

@[simp] theorem raiseInj_frameBad {e : Evt} {n a : Nat} {b : Bool} : (raiseInj e n a b s).frameBad = s.frameBad :=
  (Framed.raiseInj (fs := eventFields) (ps := eventParts) (fun _ h => h) (fun _ h => h) Framed.refl).2 .frameBad (by decide)

@[simp] theorem raise_frameBad {e : Evt} {n a : Nat} : (raise e n a s).frameBad = s.frameBad := raiseInj_frameBad

@[simp] theorem raiseInj_cfg {e : Evt} {n a : Nat} {b : Bool} : (raiseInj e n a b s).cfg = s.cfg :=
  (Framed.raiseInj (fs := eventFields) (ps := eventParts) (fun _ h => h) (fun _ h => h) Framed.refl).2 .cfg (by decide)

@[simp] theorem raise_cfg {e : Evt} {n a : Nat} : (raise e n a s).cfg = s.cfg := raiseInj_cfg

@[simp] theorem raiseInj_flash {e : Evt} {n a : Nat} {b : Bool} : (raiseInj e n a b s).flash = s.flash :=
  (Framed.raiseInj (fs := eventFields) (ps := eventParts) (fun _ h => h) (fun _ h => h) Framed.refl).2 .flash (by decide)

@[simp] theorem raise_flash {e : Evt} {n a : Nat} : (raise e n a s).flash = s.flash := raiseInj_flash

@[simp] theorem raiseInj_lanes {e : Evt} {n a : Nat} {b : Bool} : (raiseInj e n a b s).lanes = s.lanes :=
  (Framed.raiseInj (fs := eventFields) (ps := eventParts) (fun _ h => h) (fun _ h => h) Framed.refl).2 .lanes (by decide)

@[simp] theorem raise_lanes {e : Evt} {n a : Nat} : (raise e n a s).lanes = s.lanes := raiseInj_lanes

@[simp] theorem raiseInj_groups {e : Evt} {n a : Nat} {b : Bool} : (raiseInj e n a b s).groups = s.groups :=
  (Framed.raiseInj (fs := eventFields) (ps := eventParts) (fun _ h => h) (fun _ h => h) Framed.refl).2 .groups (by decide)

@[simp] theorem raise_groups {e : Evt} {n a : Nat} : (raise e n a s).groups = s.groups := raiseInj_groups

@[simp] theorem raiseInj_clk {e : Evt} {n a : Nat} {b : Bool} : (raiseInj e n a b s).clk = s.clk :=
  (Framed.raiseInj (fs := eventFields) (ps := eventParts) (fun _ h => h) (fun _ h => h) Framed.refl).2 .clk (by decide)

@[simp] theorem raise_clk {e : Evt} {n a : Nat} : (raise e n a s).clk = s.clk := raiseInj_clk

@[simp] theorem raiseInj_mesh {e : Evt} {n a : Nat} {b : Bool} : (raiseInj e n a b s).mesh = s.mesh :=
  (Framed.raiseInj (fs := eventFields) (ps := eventParts) (fun _ h => h) (fun _ h => h) Framed.refl).2 .mesh (by decide)

@[simp] theorem raise_mesh {e : Evt} {n a : Nat} : (raise e n a s).mesh = s.mesh := raiseInj_mesh

@[simp] theorem raiseInj_host {e : Evt} {n a : Nat} {b : Bool} : (raiseInj e n a b s).host = s.host :=
  (Framed.raiseInj (fs := eventFields) (ps := eventParts) (fun _ h => h) (fun _ h => h) Framed.refl).2 .host (by decide)

@[simp] theorem raise_host {e : Evt} {n a : Nat} : (raise e n a s).host = s.host := raiseInj_host

@[simp] theorem raiseInj_pw {e : Evt} {n a : Nat} {b : Bool} : (raiseInj e n a b s).pw = s.pw :=
  (Framed.raiseInj (fs := eventFields) (ps := eventParts) (fun _ h => h) (fun _ h => h) Framed.refl).2 .pw (by decide)

@[simp] theorem raise_pw {e : Evt} {n a : Nat} : (raise e n a s).pw = s.pw := raiseInj_pw

@[simp] theorem raiseInj_io {e : Evt} {n a : Nat} {b : Bool} : (raiseInj e n a b s).io = s.io :=
  (Framed.raiseInj (fs := eventFields) (ps := eventParts) (fun _ h => h) (fun _ h => h) Framed.refl).2 .io (by decide)

@[simp] theorem raise_io {e : Evt} {n a : Nat} : (raise e n a s).io = s.io := raiseInj_io

@[simp] theorem raiseInj_boot {e : Evt} {n a : Nat} {b : Bool} : (raiseInj e n a b s).boot = s.boot :=
  (Framed.raiseInj (fs := eventFields) (ps := eventParts) (fun _ h => h) (fun _ h => h) Framed.refl).2 .boot (by decide)

@[simp] theorem raise_boot {e : Evt} {n a : Nat} : (raise e n a s).boot = s.boot := raiseInj_boot

@[simp] theorem rd_updPending {f} {g : Fld} {i j : Nat} : (s.updPending f).rd g i j = s.rd g i j := rfl
@[simp] theorem wr_pending {f : Fld} {v i j : Nat} : (s.wr f v i j).pending = s.pending := rfl
@[simp] theorem rd_updTickWrites {f} {g : Fld} {i j : Nat} : (s.updTickWrites f).rd g i j = s.rd g i j := rfl
@[simp] theorem wr_tickWrites {f : Fld} {v i j : Nat} : (s.wr f v i j).tickWrites = s.tickWrites := rfl
@[simp] theorem rd_updLatches {f} {g : Fld} {i j : Nat} : (s.updLatches f).rd g i j = s.rd g i j := rfl
@[simp] theorem wr_latches {f : Fld} {v i j : Nat} : (s.wr f v i j).latches = s.latches := rfl
@[simp] theorem rd_updLowHalves {f} {g : Fld} {i j : Nat} : (s.updLowHalves f).rd g i j = s.rd g i j := rfl
@[simp] theorem wr_lowHalves {f : Fld} {v i j : Nat} : (s.wr f v i j).lowHalves = s.lowHalves := rfl
@[simp] theorem rd_updDrawn {f} {g : Fld} {i j : Nat} : (s.updDrawn f).rd g i j = s.rd g i j := rfl
@[simp] theorem wr_drawn {f : Fld} {v i j : Nat} : (s.wr f v i j).drawn = s.drawn := rfl
@[simp] theorem rd_updSched {f} {g : Fld} {i j : Nat} : (s.updSched f).rd g i j = s.rd g i j := rfl
@[simp] theorem wr_sched {f : Fld} {v i j : Nat} : (s.wr f v i j).sched = s.sched := rfl
@[simp] theorem rd_updEv {f} {g : Fld} {i j : Nat} : (s.updEv f).rd g i j = s.rd g i j := rfl
@[simp] theorem wr_ev {f : Fld} {v i j : Nat} : (s.wr f v i j).ev = s.ev := rfl
@[simp] theorem rd_updTick {f} {g : Fld} {i j : Nat} : (s.updTick f).rd g i j = s.rd g i j := rfl
@[simp] theorem wr_tick {f : Fld} {v i j : Nat} : (s.wr f v i j).tick = s.tick := rfl
@[simp] theorem rd_updOps {f} {g : Fld} {i j : Nat} : (s.updOps f).rd g i j = s.rd g i j := rfl
@[simp] theorem wr_ops {f : Fld} {v i j : Nat} : (s.wr f v i j).ops = s.ops := rfl
@[simp] theorem rd_updReady {f} {g : Fld} {i j : Nat} : (s.updReady f).rd g i j = s.rd g i j := rfl
@[simp] theorem wr_ready {f : Fld} {v i j : Nat} : (s.wr f v i j).ready = s.ready := rfl
@[simp] theorem rd_updHostMem {f} {g : Fld} {i j : Nat} : (s.updHostMem f).rd g i j = s.rd g i j := rfl
@[simp] theorem wr_hostMem {f : Fld} {v i j : Nat} : (s.wr f v i j).hostMem = s.hostMem := rfl
@[simp] theorem rd_updStage {f} {g : Fld} {i j : Nat} : (s.updStage f).rd g i j = s.rd g i j := rfl
@[simp] theorem wr_stage {f : Fld} {v i j : Nat} : (s.wr f v i j).stage = s.stage := rfl
@[simp] theorem rd_updDbg {f} {g : Fld} {i j : Nat} : (s.updDbg f).rd g i j = s.rd g i j := rfl
@[simp] theorem wr_dbg {f : Fld} {v i j : Nat} : (s.wr f v i j).dbg = s.dbg := rfl
@[simp] theorem rd_updScratch {f} {g : Fld} {i j : Nat} : (s.updScratch f).rd g i j = s.rd g i j := rfl
@[simp] theorem wr_scratch {f : Fld} {v i j : Nat} : (s.wr f v i j).scratch = s.scratch := rfl
@[simp] theorem rd_updReels {f} {g : Fld} {i j : Nat} : (s.updReels f).rd g i j = s.rd g i j := rfl
@[simp] theorem wr_reels {f : Fld} {v i j : Nat} : (s.wr f v i j).reels = s.reels := rfl
@[simp] theorem rd_updDram {f} {g : Fld} {i j : Nat} : (s.updDram f).rd g i j = s.rd g i j := rfl
@[simp] theorem wr_dram {f : Fld} {v i j : Nat} : (s.wr f v i j).dram = s.dram := rfl
@[simp] theorem rd_updCatches {f} {g : Fld} {i j : Nat} : (s.updCatches f).rd g i j = s.rd g i j := rfl
@[simp] theorem wr_catches {f : Fld} {v i j : Nat} : (s.wr f v i j).catches = s.catches := rfl
@[simp] theorem rd_updDdr {f} {g : Fld} {i j : Nat} : (s.updDdr f).rd g i j = s.rd g i j := rfl
@[simp] theorem wr_ddr {f : Fld} {v i j : Nat} : (s.wr f v i j).ddr = s.ddr := rfl
@[simp] theorem rd_updRecords {f} {g : Fld} {i j : Nat} : (s.updRecords f).rd g i j = s.rd g i j := rfl
@[simp] theorem wr_records {f : Fld} {v i j : Nat} : (s.wr f v i j).records = s.records := rfl
@[simp] theorem rd_updDramTags {f} {g : Fld} {i j : Nat} : (s.updDramTags f).rd g i j = s.rd g i j := rfl
@[simp] theorem wr_dramTags {f : Fld} {v i j : Nat} : (s.wr f v i j).dramTags = s.dramTags := rfl
@[simp] theorem rd_updDramBad {f} {g : Fld} {i j : Nat} : (s.updDramBad f).rd g i j = s.rd g i j := rfl
@[simp] theorem wr_dramBad {f : Fld} {v i j : Nat} : (s.wr f v i j).dramBad = s.dramBad := rfl
@[simp] theorem rd_updDramPoison {f} {g : Fld} {i j : Nat} : (s.updDramPoison f).rd g i j = s.rd g i j := rfl
@[simp] theorem wr_dramPoison {f : Fld} {v i j : Nat} : (s.wr f v i j).dramPoison = s.dramPoison := rfl
@[simp] theorem rd_updDramWhole {f} {g : Fld} {i j : Nat} : (s.updDramWhole f).rd g i j = s.rd g i j := rfl
@[simp] theorem wr_dramWhole {f : Fld} {v i j : Nat} : (s.wr f v i j).dramWhole = s.dramWhole := rfl
@[simp] theorem rd_updEnc {f} {g : Fld} {i j : Nat} : (s.updEnc f).rd g i j = s.rd g i j := rfl
@[simp] theorem wr_enc {f : Fld} {v i j : Nat} : (s.wr f v i j).enc = s.enc := rfl
@[simp] theorem rd_updNoc {f} {g : Fld} {i j : Nat} : (s.updNoc f).rd g i j = s.rd g i j := rfl
@[simp] theorem wr_noc {f : Fld} {v i j : Nat} : (s.wr f v i j).noc = s.noc := rfl
@[simp] theorem rd_updDisp {f} {g : Fld} {i j : Nat} : (s.updDisp f).rd g i j = s.rd g i j := rfl
@[simp] theorem wr_disp {f : Fld} {v i j : Nat} : (s.wr f v i j).disp = s.disp := rfl
@[simp] theorem rd_updSp {f} {g : Fld} {i j : Nat} : (s.updSp f).rd g i j = s.rd g i j := rfl
@[simp] theorem wr_sp {f : Fld} {v i j : Nat} : (s.wr f v i j).sp = s.sp := rfl
@[simp] theorem rd_updRegions {f} {g : Fld} {i j : Nat} : (s.updRegions f).rd g i j = s.rd g i j := rfl
@[simp] theorem wr_regions {f : Fld} {v i j : Nat} : (s.wr f v i j).regions = s.regions := rfl
@[simp] theorem rd_updSlices {f} {g : Fld} {i j : Nat} : (s.updSlices f).rd g i j = s.rd g i j := rfl
@[simp] theorem wr_slices {f : Fld} {v i j : Nat} : (s.wr f v i j).slices = s.slices := rfl
@[simp] theorem rd_updFrames {f} {g : Fld} {i j : Nat} : (s.updFrames f).rd g i j = s.rd g i j := rfl
@[simp] theorem wr_frames {f : Fld} {v i j : Nat} : (s.wr f v i j).frames = s.frames := rfl
@[simp] theorem rd_updFrameDyn {f} {g : Fld} {i j : Nat} : (s.updFrameDyn f).rd g i j = s.rd g i j := rfl
@[simp] theorem rd_updFrameCode {f} {g : Fld} {i j : Nat} : (s.updFrameCode f).rd g i j = s.rd g i j := rfl
@[simp] theorem wr_frameDyn {f : Fld} {v i j : Nat} : (s.wr f v i j).frameDyn = s.frameDyn := rfl
@[simp] theorem wr_frameCode {f : Fld} {v i j : Nat} : (s.wr f v i j).frameCode = s.frameCode := rfl
@[simp] theorem rd_updFrameBad {f} {g : Fld} {i j : Nat} : (s.updFrameBad f).rd g i j = s.rd g i j := rfl
@[simp] theorem wr_frameBad {f : Fld} {v i j : Nat} : (s.wr f v i j).frameBad = s.frameBad := rfl
@[simp] theorem rd_updCfg {f} {g : Fld} {i j : Nat} : (s.updCfg f).rd g i j = s.rd g i j := rfl
@[simp] theorem wr_cfg {f : Fld} {v i j : Nat} : (s.wr f v i j).cfg = s.cfg := rfl
@[simp] theorem rd_updFlash {f} {g : Fld} {i j : Nat} : (s.updFlash f).rd g i j = s.rd g i j := rfl
@[simp] theorem wr_flash {f : Fld} {v i j : Nat} : (s.wr f v i j).flash = s.flash := rfl
@[simp] theorem rd_updLanes {f} {g : Fld} {i j : Nat} : (s.updLanes f).rd g i j = s.rd g i j := rfl
@[simp] theorem wr_lanes {f : Fld} {v i j : Nat} : (s.wr f v i j).lanes = s.lanes := rfl
@[simp] theorem rd_updGroups {f} {g : Fld} {i j : Nat} : (s.updGroups f).rd g i j = s.rd g i j := rfl
@[simp] theorem wr_groups {f : Fld} {v i j : Nat} : (s.wr f v i j).groups = s.groups := rfl
@[simp] theorem rd_updClk {f} {g : Fld} {i j : Nat} : (s.updClk f).rd g i j = s.rd g i j := rfl
@[simp] theorem wr_clk {f : Fld} {v i j : Nat} : (s.wr f v i j).clk = s.clk := rfl
@[simp] theorem rd_updMesh {f} {g : Fld} {i j : Nat} : (s.updMesh f).rd g i j = s.rd g i j := rfl
@[simp] theorem wr_mesh {f : Fld} {v i j : Nat} : (s.wr f v i j).mesh = s.mesh := rfl
@[simp] theorem rd_updHost {f} {g : Fld} {i j : Nat} : (s.updHost f).rd g i j = s.rd g i j := rfl
@[simp] theorem wr_host {f : Fld} {v i j : Nat} : (s.wr f v i j).host = s.host := rfl
@[simp] theorem rd_updPw {f} {g : Fld} {i j : Nat} : (s.updPw f).rd g i j = s.rd g i j := rfl
@[simp] theorem wr_pw {f : Fld} {v i j : Nat} : (s.wr f v i j).pw = s.pw := rfl
@[simp] theorem rd_updIo {f} {g : Fld} {i j : Nat} : (s.updIo f).rd g i j = s.rd g i j := rfl
@[simp] theorem wr_io {f : Fld} {v i j : Nat} : (s.wr f v i j).io = s.io := rfl
@[simp] theorem rd_updBoot {f} {g : Fld} {i j : Nat} : (s.updBoot f).rd g i j = s.rd g i j := rfl
@[simp] theorem wr_boot {f : Fld} {v i j : Nat} : (s.wr f v i j).boot = s.boot := rfl

end Sys2Proof
end

