-- ==== Sys2Proof/Laws/Operations.lean ====
section
/-! SUPPORT. The operations of the host's descriptors: finding one, changing one, deciding one. -/

namespace Sys2Proof

open Machine Machine.F

theorem Op.is_iff {o : Op} {a b : Nat} : o.is a b = true ↔ o.ring = a ∧ o.idx = b := by
  simp [Op.is]

theorem opAt_is {s : State} {a b : Nat} {o : Op} (h : opAt s a b = some o) : o.ring = a ∧ o.idx = b := by
  have := List.find?_some h
  exact Op.is_iff.1 this

theorem find_map_op {l : List Op} {a b c d : Nat} {f : Op → Op} (hf : ∀ o, (f o).ring = o.ring ∧ (f o).idx = o.idx) :
    (l.map fun o => if o.is a b then f o else o).find? (·.is c d) =
      (l.find? (·.is c d)).map fun o => if o.is a b then f o else o := by
  induction l with
  | nil => rfl
  | cons x l ih =>
    have e : (if x.is a b then f x else x).is c d = x.is c d := by
      split
      · simp [Op.is, hf x]
      · rfl
    rw [List.map_cons, List.find?_cons, List.find?_cons, e]
    split
    · rfl
    · exact ih

/-- Changing one operation, under its name, changes what is found under that name alone. -/
theorem opAt_updOp {s : State} {a b c d : Nat} {f : Op → Op} (hf : ∀ o, (f o).ring = o.ring ∧ (f o).idx = o.idx) :
    opAt (s.updOp a b f) c d = (opAt s c d).map fun o => if o.is a b then f o else o := find_map_op hf

theorem opAt_updOp_same {s : State} {a b : Nat} {o : Op} {f : Op → Op}
    (hf : ∀ o, (f o).ring = o.ring ∧ (f o).idx = o.idx) (h : opAt s a b = some o) :
    opAt (s.updOp a b f) a b = some (f o) := by
  rw [opAt_updOp hf, h]
  simp [Op.is, opAt_is h]

theorem opAt_updOp_ne {s : State} {a b c d : Nat} {f : Op → Op}
    (hf : ∀ o, (f o).ring = o.ring ∧ (f o).idx = o.idx) (h : (c, d) ≠ (a, b)) :
    opAt (s.updOp a b f) c d = opAt s c d := by
  rw [opAt_updOp hf]
  cases k : opAt s c d with
  | none => rfl
  | some o =>
    have := opAt_is k
    have e : o.is a b = false := by
      rw [Bool.eq_false_iff]
      intro t
      exact h (by rw [← this.1, ← this.2, (Op.is_iff.1 t).1, (Op.is_iff.1 t).2])
    simp [e]

theorem opAt_congr {s t : State} {a b : Nat} (h : t.ops = s.ops) : opAt t a b = opAt s a b := by
  simp [opAt, h]

theorem noteOutstanding_ops {r : Nat} {s : State} : (noteOutstanding r s).ops = s.ops := by
  unfold noteOutstanding
  split <;> rfl

theorem opAt_noteOutstanding {r : Nat} {s : State} {a b : Nat} : opAt (noteOutstanding r s) a b = opAt s a b :=
  opAt_congr noteOutstanding_ops

/-- The operations after a rejection: its own is marked, where the code rejects it before it has started. -/
theorem noteRejected_ops {o : Op} {code : Nat} {s : State} :
    (noteRejected o code s).ops =
      if o.phase != .accepted || !rejects code then s.ops
      else (s.updOp o.ring o.idx fun p => { p with rejected := true }).ops := by
  unfold noteRejected
  split
  · rfl
  · dsimp only
    split
    · rw [noteOutstanding_ops]
      rfl
    · rfl

/-- A rejection is marked in the operation, which stays under its name. -/
theorem opAt_noteRejected {r k code : Nat} {s : State} {o : Op} (h : opAt s r k = some o) :
    ∃ p, opAt (noteRejected o code s) r k = some p ∧ p = { o with rejected := p.rejected } := by
  obtain ⟨rfl, rfl⟩ := opAt_is h
  by_cases c : (o.phase != .accepted || !rejects code) = true
  · refine ⟨o, ?_, rfl⟩
    rw [opAt_congr (noteRejected_ops.trans (if_pos c)), h]
  · refine ⟨{ o with rejected := true }, ?_, rfl⟩
    rw [opAt_congr (noteRejected_ops.trans (if_neg c))]
    exact opAt_updOp_same (f := fun o => { o with rejected := true }) (fun _ => ⟨rfl, rfl⟩) h

theorem opAt_noteRejected_ne {r k code : Nat} {s : State} {o : Op} {a b : Nat} (ho : opAt s r k = some o)
    (h : (a, b) ≠ (r, k)) : opAt (noteRejected o code s) a b = opAt s a b := by
  obtain ⟨rfl, rfl⟩ := opAt_is ho
  by_cases c : (o.phase != .accepted || !rejects code) = true
  · exact opAt_congr (noteRejected_ops.trans (if_pos c))
  · rw [opAt_congr (noteRejected_ops.trans (if_neg c))]
    exact opAt_updOp_ne (f := fun o => { o with rejected := true }) (fun _ => ⟨rfl, rfl⟩) h

/-- Deciding an open operation of a ring gives it its code and its field. -/
theorem decided_decideOp {s : State} {r k code x res : Nat} {o : Op} (h : opAt s r k = some o) (ho : o.isOpen = true)
    (hr : r ≠ 64) : Decided (decideOp r k code x res s) r k code x := by
  have hh : (r == hearth) = false := by simpa [hearth] using hr
  obtain ⟨p, hp, -⟩ := opAt_noteRejected (code := code) h
  unfold decideOp
  simp only [h, ho, hh]
  have q := opAt_updOp_same (s := noteRejected o code s) (f := fun p => { p with phase := OpPhase.decided, code := code, fidx := x, result := res, tick := (noteRejected o code s).now, off := (noteRejected o code s).offset, dev := (noteRejected o code s).rd MS_STATUS_ADDR, seq := (noteRejected o code s).ev.seq }) (fun _ => ⟨rfl, rfl⟩) hp
  exact ⟨_, q, rfl, rfl, rfl⟩

/-- Deciding one operation leaves every other where it is. -/
theorem opAt_decideOp_ne {s : State} {r k code x res a b : Nat} (h : (a, b) ≠ (r, k)) (hr : r ≠ 64) :
    opAt (decideOp r k code x res s) a b = opAt s a b := by
  have hh : (r == hearth) = false := by simpa [hearth] using hr
  unfold decideOp
  split
  · rfl
  · rename_i o ho
    split
    · rfl
    · simp only [hh]
      refine Eq.trans (opAt_updOp_ne (s := noteRejected o code s) (f := fun p => { p with phase := OpPhase.decided, code := code, fidx := x, result := res, tick := (noteRejected o code s).now, off := (noteRejected o code s).offset, dev := (noteRejected o code s).rd MS_STATUS_ADDR, seq := (noteRejected o code s).ev.seq }) (fun _ => ⟨rfl, rfl⟩) h) (opAt_noteRejected_ne ho h)

theorem running_runOp {s : State} {r k : Nat} {o : Op} (h : opAt s r k = some o) : Running (runOp r k s) r k :=
  ⟨_, opAt_updOp_same (f := fun o => { o with phase := OpPhase.running }) (fun _ => ⟨rfl, rfl⟩) h, rfl⟩

/-- An operation found waiting is open. -/
theorem waits_open {s : State} {r c : Nat} {o : Op} (h : Waits s r c o) : o.isOpen = true := by
  have := List.find?_some h.1
  simp at this
  simp [Op.isOpen, this.1.1.2]

theorem Framed.noteOutstanding {fs : List Fld} {ps : List Part} {r s : State} {n : Nat} (hf : CR_STATUS_OUTSTANDING ∈ fs)
    (h : Framed fs ps r s) : Framed fs ps r (noteOutstanding n s) := by
  unfold Machine.noteOutstanding
  exact Framed.ite (h.wr hf) h

theorem Framed.updOp {fs : List Fld} {ps : List Part} {r s : State} {a b : Nat} {f : Op → Op} (hp : Part.ops ∈ ps)
    (h : Framed fs ps r s) : Framed fs ps r (s.updOp a b f) := h.updOps hp

/-- The fields, and the pieces of the state, that deciding an operation may change. -/
def decideFields : List Fld := [CR_STATUS_OUTSTANDING, CR_COUNTS_REJECTED]
def decideParts : List Part := [.ops, .ev]

theorem Framed.noteRejected {fs : List Fld} {ps : List Part} {r s : State} {o : Op} {code : Nat} (hf : decideFields ⊆ fs)
    (hp : decideParts ⊆ ps) (h : Framed fs ps r s) : Framed fs ps r (noteRejected o code s) := by
  have h1 : Framed fs ps r (s.updOp o.ring o.idx fun p => { p with rejected := true }) :=
    Framed.updOp (hp (by decide)) h
  exact Framed.ite h (Framed.ite (Framed.noteOutstanding (hf (by decide)) (h1.incSat (hf (by decide)))) h1)

theorem Framed.decideOp {fs : List Fld} {ps : List Part} {r s : State} {a b c d e : Nat} (hf : decideFields ⊆ fs)
    (hp : decideParts ⊆ ps) (h : Framed fs ps r s) : Framed fs ps r (decideOp a b c d e s) := by
  have n {p : Part} (k : p ∈ decideParts) : p ∈ ps := hp k
  unfold Machine.decideOp
  split
  · exact h
  · exact Framed.ite h (Framed.ite (h.updOps (n (by decide)))
      (Framed.updEv (n (by decide)) (Framed.updOp (n (by decide)) (Framed.noteRejected hf hp h))))

end Sys2Proof
end

