-- ==== Sys2Proof/Tests/Slice0.lean ====
section
/-! SUPPORT. Tests of the model: ill-formed commands are refused, values that the spec writes out, and, for each
statement with hypotheses, a state and operands that meet them (witness_<statement>). -/

namespace Sys2Proof.Tests

open Machine F

set_option Elab.async false

/-! Each check of WellFormed.lean refuses a command with an operand beyond its range. -/

theorem test_ill_formed_registers : (
  [.registerWrite .registers (2 ^ 26) 0x0F 0 0, .registerWrite .registers 0 0x0F (2 ^ 32) 0, .registerWrite .registers 0 0xFF (2 ^ 64) 0,
   .registerWrite .doorbells (2 ^ 16) 0x0F 0 0, .registerWrite .doorbells 0 0x0F 0 1, .registerWrite (.config .msixEnable) 0 0x0F 0 1, .pairLowRead (2 ^ 26) false false,
   .pairLowRead 2 false false, .rwfWrite (2 ^ 26) 0 0, .rwfWrite 2 0 0, .rwfWrite 0 (2 ^ 32) 0, .reelFetchWindow 2048 ⟨0, none, none, []⟩,
   .reelFetchWindow 0 ⟨65536, none, none, []⟩, .catchFlushWindow 2048 ⟨0, none, none, []⟩, .catchFlushWindow 0 ⟨65536, none, none, []⟩, .nocSlotWindow 2048 [],
   .ddrRefreshWindow 2048 false [], .ddrRefreshWindow 0 false [(65536, 0)], .ddrRefreshWindow 0 false [(0, 65536)],
   .ddrRfmSpareWindow ⟨2048, 0⟩, .ddrRfmSpareWindow ⟨0, 256⟩, .ddrScrubWindow 2048 0, .ddrScrubWindow 0 65536, .dispatchAdvanceWindow 2048,
   .ioDiagWindow 2048, .windowClose 2048 false, .syncMark (2 ^ 32) 0, .syncMark 8 96000001, .syncMark 8 (-96000001),
   .alignArm (2 ^ 32)] : List Instr).all (fun i => !i.wf) = true := by decide +kernel

theorem test_ill_formed_streams : (
  [.proofLoad 0 (2 ^ 64), .fix 0 (2 ^ 64), 
   .reelStartTick 0 () (2 ^ 64), .literal 0 (2 ^ 32), .repeatVector 0 (2 ^ 32), .dict 0 (2 ^ 32), .splice 0 (2 ^ 32),
   .spliceWrite 0 1 (2 ^ 512) 0, .spliceWrite 0 1 0 (2 ^ 512), .responseWord 0 0 (2 ^ 64) 0 0,
   .responseWord 0 0 0 (2 ^ 64) 0, .responseWord 0 0 0 0 (2 ^ 64), .missingResponse 0 0 (2 ^ 64) ⟨false, 0⟩, .missingResponse 0 0 0 ⟨false, 2 ^ 64⟩,
   .cmRdWrite 0 (2 ^ 64), .tempReading [], .tempReading (List.replicate 65 4096), .sliceMemAccess 0 0 false true 0 (2 ^ 128),
   .sliceInputWord 0 0 (2 ^ 128), 
   .configRelease () [] () [(384, 0, 0)] [],
   .configRelease () [] () [] [(8, 0)]]
   : List Instr).all (fun i => !i.wf) = true := by decide +kernel

theorem test_ill_formed_network : (
  [.fabricRequest 0 0 2 0 0 (2 ^ 38) 7 [] 0 0 false 0, .fabricRequest 0 0 3 0 0 0 7 [] 0 0 false 0, .reserve 0 0 (some 20),
   .grant 0 0 (some 20), .readReq 0 0 (some 20), .writeReq 0 0 (some 20) [], .writeReq 0 0 none [(20, 1)],
   .readResp 0 0 0 [] (some 20) [], .readResp 0 0 0 [] none [(0, 2 ^ 32)],
   .readResp 0 0 0 (List.replicate 1025 0) none [], .writeResp 0 0 0 (some 20), .return_ 0 0 (some 20) [], .return_ 0 0 none [(20, 0)],
   .revoke 0 ⟨0, some 20⟩, .release 0 ⟨0, some 20⟩, .reelFetchWindow 0 ⟨0, some 20, none, []⟩, .catchFlushWindow 0 ⟨0, some 20, none, []⟩, .reelFetchWindow 0 ⟨0, none, some 20, []⟩,
   .catchFlushWindow 0 ⟨0, none, some 20, []⟩, .configHeader (.whole (some ⟨0, false, 20⟩)), .configSegment (.whole (some ⟨0, false, 20⟩)),
   .trainingPass 0 [(80, 0)], .trainingPass 0 [(0, 65536)], .trainRecord 0 {} 65536 () [],
   .eyeScanStart 0 0 (2 ^ 32), .eyeScanDone 0 0 (2 ^ 64),
   .meshPacketFrame 0 .whole 0 0 false (2 ^ 64) 0 [] [] [], .meshPacketFrame 0 .whole 0 0 false 0 (2 ^ 64) [] [] [],
   .meshPacketFrame 0 .whole 0 0 false 0 0 (List.replicate 33 0) [] [], .meshPacketFrame 0 .whole 0 0 false 0 0 [256] [] [],
   .meshPacketFrame 0 .whole 0 0 false 0 0 [] (List.replicate 1025 0) [], .meshPacketFrame 0 .whole 0 0 false 0 0 [] [256] [],
   .meshPacketFrame 0 .whole 0 0 false 0 0 [] [] [2 ^ 64], .helloFrame 0 .whole 0 (2 ^ 64) 0 0 0, .helloFrame 0 .whole 0 0 (2 ^ 64) 0 0,
   .helloFrame 0 .whole 0 0 0 (2 ^ 64) 0, .helloFrame 0 .whole 0 0 0 0 (2 ^ 64), .timeFrame 0 .whole 0 (2 ^ 64) 0 0 0 0,
   .timeFrame 0 .whole 0 0 (2 ^ 64) 0 0 0, .timeFrame 0 .whole 0 0 0 (2 ^ 64) 0 0, .timeFrame 0 .whole 0 0 0 0 (2 ^ 64) 0,
   .meshPacketFrame 0 (.blocks [⟨false, false, 2 ^ 64⟩]) 0 0 false 0 0 [] [] [], .helloFrame 0 (.blocks [⟨false, false, 2 ^ 64⟩]) 0 0 0 0 0,
   .timeFrame 0 (.blocks [⟨false, false, 2 ^ 64⟩]) 0 0 0 0 0 0, .ackBlock 0 (.blocks [⟨false, false, 2 ^ 64⟩]) 0 0 0,
   .quietFrame 0 (.blocks [⟨false, false, 2 ^ 64⟩]) 0, .msReportRdWrite (2 ^ 64)] : List Instr).all (fun i => !i.wf) = true := by decide +kernel

theorem test_ill_formed_host : (
  [.commandDoorbell 0 (2 ^ 32), .completionDoorbell 0 (2 ^ 32), .eventDoorbell (2 ^ 32), .ringEnable 0 (2 ^ 32),
   .ringDisable 0 (2 ^ 32), .ringResume 0 (2 ^ 32), .eventRingEnable (2 ^ 32), .dmaMoveDone 0 0 { failedAt := some (2 ^ 22 + 1) },
   .debugRead 0 { failedAt := some (2 ^ 22 + 1) }, .hostAbortLatch (2 ^ 23), .doneMessage ⟨65536, none⟩ 0 0 0 0, .doneMessage ⟨0, none⟩ 65536 0 0 0,
   .doneMessage ⟨0, none⟩ 0 256 0 0, .doneMessage ⟨0, none⟩ 0 0 65536 0, .doneMessage ⟨0, none⟩ 0 0 0 (2 ^ 32), .dispatchJobTimeout 65536,
   .dmaMoveDone 0 0 { upset := some ⟨0, false, 20⟩ }, .debugRead 0 { upset := some ⟨0, false, 20⟩ },
   .doneMessage ⟨0, some ⟨0, false, 20⟩⟩ 0 0 0 0, .workerRegistration ⟨0, some ⟨0, false, 20⟩⟩ 0 0 0 0 0, .jobRelease ⟨0, some ⟨0, false, 20⟩⟩,
   .jobRelease ⟨65536, none⟩, .workerRegistration ⟨65536, none⟩ 0 0 0 0 0, .workerRegistration ⟨0, none⟩ 0 (2 ^ 64) 0 0 0,
   .workerRegistration ⟨0, none⟩ 0 0 (2 ^ 64) 0 0, .workerRegistration ⟨0, none⟩ 0 0 0 (2 ^ 64) 0, .workerRegistration ⟨0, none⟩ 0 0 0 0 (2 ^ 64),
   .scratchpadAccess 0 65536 0 8 0 false [], .scratchpadAccess 0 0 (2 ^ 38) 8 0 false [],
   .scratchpadAccess 0 0 0 0 0 false [], .scratchpadAccess 0 0 0 1025 0 false [], .scratchpadAccess 0 0 0 8 1 false [],
   .monitorWindow 0 (2 ^ 32) false, .trimWindow (2 ^ 32), .dbgReg (2 ^ 60), .dbgMem (2 ^ 112), .dbgAttach (2 ^ 96),
   .daAck 0 (2 ^ 64), .deviceResetCmd (2 ^ 32), .bootImage true true 0 0 [(128, 0, 0, 0)], .bootMemory [{ chan := 8, outcome := 0, cfg := 0 }],
   .bootMemory [{ chan := 0, outcome := 5, cfg := 0 }]] : List Instr).all (fun i => !i.wf) = true := by decide +kernel

theorem test_injections_take_32_bits : ((fun v =>
  [.injDisagree 0 v, .injDelay 0 v, .injTemp 0 v, .injBias 0 v, .injBclk 0 v, .injOpmem 0 0 v, .injProg 0 0 v,
   .injAuth v, .injCheck v, .injSingle v, .injDouble v, .injParity 0 v, .nrInjTimeout 0 v, .injCe 0 v, .injUe 0 v,
   .injRefmiss 0 v, .injTag v, .injRefuse v, .injBip 0 v, .injLock 0 v, .injSlip 0 v, .injCrc v, .injAckDrop v,
   .injTimeMiss v, .injFetch v, .injDoorbell v, .dpInjTimeout v, .injLost v, .injEcc1 v, .injEcc2 v, .injMarch v,
   .injLoss v, .injBand v, .injDrain v, .tpInjSensor v, .injOverrun v, .injSyncMiss v, .injUnderrun v,
   .injFormat v, .injSplice v, .injCmpCheck v, .injDlyCheck v, .injMonitor v, .fiInjSensor v, .injWatchdog v,
   .injSchConflict v, .injMr4 v, .injRfmFull v, .injDeskew v, .injTrainTimeout v, .injSlow v]) (2 ^ 32) : List Instr).all (fun i => !i.wf) = true := by decide +kernel

/-! Values that the spec or a standard that it names writes out. -/

/-- R445: IDCODE reads 1537_656Fh. -/
theorem test_idcode : State.reset.rd GL_IDCODE_IDCODE = 0x1537656F := by decide +kernel

/-- R28: the default schedule has N = 1,500, a cycle of one frame and one entry, an APPLY slot. -/
theorem test_default_schedule : State.reset.period = 1500 ∧ State.reset.rd SCHED_POS_CYCLE_LEN = 1 ∧
    (frameSlots State.reset.sched 0).map (·.type) = [1] := by decide +kernel

/-- IEEE 802.3: the check value of the CRC-32. -/
theorem test_crc32 : crc32 [0x31, 0x32, 0x33, 0x34, 0x35, 0x36, 0x37, 0x38, 0x39] = 0xCBF43926 := by decide +kernel

/-! States that the witnesses are built from. -/

/-- An operation that waits on ring r. -/
def opOf (r k opcode : Nat) (ws : List Nat) : Op := { ring := r, idx := k, desc := opcode :: ws, phase := .accepted }

/-- The reset state with these operations. -/
def withOps (l : List Op) : State := State.reset.updOps fun _ => l

/-- The state s with one slot entry in force, in frame 0 of a cycle of one frame. -/
def withSlot (type unit param : Nat) (s : State) : State :=
  (s.updSched fun _ => memWr (memWr (memWr [] 0x1000 0x10000 8) 0x10000 (type + unit * 256 + 100 * 2 ^ 33) 8) 0x10008 param 8).wr
    SCHED_POS_CYCLE_LEN 1

/-- A running machine at tick x. -/
def creditedTick (x : Nat) : State := State.reset.wr TICK_NOW_TICK x

/-- The state s with reel group n in its role. -/
def reelGroupUp (n : Nat) (s : State) : State := s.wr LG_ROLE_WORD0 1 n

/-- Reel n runs, with this header at its decode position and a stop point 100 vectors ahead. -/
def opReel (n w : Nat) : State :=
  ((State.reset.wr RE_STATUS_STATE 3 n).wr NEXT_STOP_VC_VC 100 n) |> updReel n fun u =>
    { u with hdrOk := true, initStop := true, opWords := 500, fetched := 60, opBuf := memWr [] 0 w 8 }

/-- A record of this type. -/
def aRec (type : Nat) : Rec :=
  { type := type, vc := 0, lane := 0, flags := 0, body := 0, length := 1, bp := 0, tick := 0, off := 0, dev := 0, seq := 0 }

/-- Catch block n, its set ready, compares vector cycle 5 of a burst at receive word time 30, with this mask on every lane. -/
def catching (n mask : Nat) : State :=
  ((List.range 8).foldl (fun s i => s.wr DELAY_WORDS 5 n i) ((reelGroupUp n State.reset).wr LG_STATUS_READY 1 n))
    |> updReel n (fun u =>
      { u with
        op := some (0, 0),
        tx := [⟨0, 50, (List.range 8).foldl (fun v i => v + mask * 2 ^ (64 * i)) 0, false,
          [(List.range 8).foldl (fun v i => v + 5 * 2 ^ (64 * i)) 0]⟩] })
    |> updCatch n fun u => { u with w0 := some 20 }

/-- DDR channel c is READY and 64 GiB large. -/
def chanUp (c : Nat) (s : State) : State := (s.wr DC_STATUS_STATE 2 c).wr DC_CAPACITY_BYTES (2 ^ 36) c

/-- A design that clocks every slice with line 0, the core clock divided by 2. -/
def sliceDesign : FabricDesign :=
  { lines := [(0, .core 0, .const true)], slices := (List.range 96).map fun t => (Fin.ofNat 96 t, 0, 0) }

/-- Region k is in Run. -/
def inRun (k : Nat) : State :=
  updRegion k (fun u => { u with design := sliceDesign }) (State.reset.wr RG_STATUS_PSTATE 0 k)

/-- Region k is in Run, with the core clock divided by 2 at the fabric side of its ports. -/
def portClocked (k : Nat) : State :=
  updRegion k (fun u => { u with design := { sliceDesign with ports := [(0, 0), (1, 0)] } }) (inRun k)

/-- Slice i runs, with this instruction at its entry 9. -/
def running (i ins : Nat) : State :=
  (((inRun (i / 96)).wr SL_STATUS_STATE 1 i).wr SL_PTR_PC 9 i).updSlice i fun u => { u with prog := [(9, ins)] }

/-- The configuration block decodes a segment whose payload is the n bytes of w. -/
def decoding (w n : Nat) : State :=
  (State.reset.wr CFG_STATUS_STATE 3) |> upC fun c => { c with decoding := true, payload := memBytes (memWr [] 0 w n) 0 n }

/-- A swap request. -/
def aSwap : SwapReq :=
  { owner := 3, mode := 0, dram := false, epoch := 7, drain := 2, addr := 64, len := 200, openTick := 0, set := 1,
    group := 0, start := 0, auto := false }

/-- A request of port q with tag 7. -/
def aXact (q kind dst : Nat) (phase : XPhase) : Xact :=
  { src := q, tag := 7, kind := kind, dst := dst, addr := 64, bytes := 8, data := [1, 2, 3, 4, 5, 6, 7, 8], prio := 1,
    epoch := 0, sched := false, sid := 0, owner := .fabric, phase := phase }

/-- The network holds these requests. -/
def withXacts (l : List Xact) : State := State.reset.updNoc fun n => { n with xacts := l }

/-- Ports q are open. -/
def openPorts (l : List Nat) (s : State) : State := l.foldl (fun t q => setPort q 0 t) s

/-- The register at an offset. -/
def rowAt (off : Nat) : RegRow :=
  match regAt off with
  | some (r, _, _, _) => r
  | none => ⟨0, [], [], 0, []⟩

/-- Core 0 holds the job of an operation that Hearth serves. -/
def withHearth (o : Op) : State :=
  (withOps [o]).updDisp fun d =>
    { d with
      jobs := [{ slot := 0, gen := 0, prio := 5, flow := none, classMask := 1, doneAddr := 0, tag := 0, payload := [],
                 shared := false, dlist := 0, place := .held 0, enqTick := 0, op := some (o.ring, o.idx) }] }

/-- DDR channel c is READY with two ranks. -/
def ddrUp (c : Nat) (s : State) : State := (chanUp c s).wr DC_CONFIG_RANKS 2 c


/-- The host interface is READY and ring r runs with 16 entries. -/
def hostUp (r : Nat) : State := ((State.reset.wr HI_STATUS_READY 1).wr CR_STATUS_STATE 1 0 r).wr CR_CFG_SIZE_LOG2 4 0 r

/-- An event record. -/
def aEvt : EvRec := { id := 1, cls := 0, injected := false, inst := 0, tick := 0, off := 0, dev := 0, seq := 0, arg := 0 }

/-- An ABORT of ring 5 index 4 that names index 3, arrived in frame 7. -/
def aAbort : AbortReq := { ring := 5, idx := 4, frame := 7, onRing := 5, onIdx := 3 }


/-- A dispatcher job of no descriptor. -/
def aJob (place : JobPlace) (flow : Option (Nat × Nat)) : Job :=
  { slot := 0, gen := 0, prio := 5, flow := flow, classMask := 1, doneAddr := 0, tag := 7, payload := [], shared := true,
    dlist := 2, place := place, enqTick := 0 }


/-- Scratchpad region k admits every access to its blocks 2 to 9. -/
def padOpen (k : Nat) (s : State) : State :=
  (((((s.wr SP_RGN_PERM_ENABLE 1 0 k).wr SP_RGN_PERM_R 1 0 k).wr SP_RGN_PERM_W 1 0 k).wr SP_RGN_BASE_BLOCK 2 0 k)).wr
    SP_RGN_LIMIT_BLOCK 9 0 k


/-- Link l, of a group of links of 4 lanes, is UP and its set ready. -/
def linkUpAt (l : Nat) : State :=
  ((State.reset.wr LG_ROLE_WORD0 0x202 (l / 8)).wr LG_STATUS_READY 3 (l / 8)).wr LK_STATUS_STATE 2 0 l

/-- A HOST packet to an address. -/
def aPkt (dst : Nat) : Pkt :=
  { dst := dst, src := 0, cls := 0, vc := 0, srcRouted := false, hops := 9, routePos := 0, tag := 0, status := 0,
    offset := 0, resp := false, route := [], payload := [] }

/-- The device has mesh address a, and these packets wait. -/
def ownedBy (a : Nat) (l : List (Pkt × Nat × Nat)) : State :=
  ((State.reset.wr MS_STATUS_ADDR a).wr MS_STATUS_ADDR_VALID 1).updMesh fun m => { m with local_ := l }


/-- A register of the POR domain, and its first field. -/
def porRow : RegRow := (regTable.find? fun r => r.fields.any fun f => f.dom == .por && f.acc != .fuse &&
  f.id != RS_STATUS_LAST_CAUSE.id).getD ⟨0, [], [], 0, []⟩
def porFld : Fld := (porRow.fields.find? fun f => f.dom == .por && f.acc != .fuse && f.id != RS_STATUS_LAST_CAUSE.id &&
  f.id != RS_STATUS_DEVICE_RESETS.id).getD RS_STATUS_BOOTSEL

/-- A flash with a boot directory at 0 that names nothing. -/
def goodFlash : Mem :=
  let m := memWr (memWr [] 0 0x4244584C 4) 4 1 2
  memWr m 0xFC (crc32 ((memBytes m 0 256).take 0xFC)) 4

/-- Core 2 holds the job of the version commit. -/
def commitHeld : Job :=
  { slot := 0, gen := 0, prio := 2, flow := some (hearthFlow, 0), classMask := 1, doneAddr := 0, tag := 0, payload := [],
    shared := true, dlist := 0, place := .held 2, enqTick := 0, worker := 2, op := some commitJob }

/-- The flows reserve the whole pool, and flow 1,023 nothing. -/
def noHearthRoom : State :=
  ((State.reset.wr FLOW_CFG_RESERVED 40000 0 0).wr FLOW_CFG_RESERVED 40000 0 1).wr FLOW_CFG_RESERVED 0 0 hearthFlow

/-! The witnesses, clause by clause. -/

theorem witness_StepRunsFront :
    (∃ (s : State), s.pending = []) ∧
    (∃ (s : State), s.pending = [] ∧ frozen s = false ∧ s.offset + 1 < s.period) :=
  ⟨⟨State.reset, by decide +kernel⟩,
   ⟨State.reset, by decide +kernel⟩⟩

theorem witness_TickResults :
    (∃ (s : State), tickWritesOk s = true ∧ frozen s = false) ∧
    (∃ (s : State), frozen s = true) ∧
    (∃ (width : _), (width < 4 ∨ (12 < width ∧ width < 24) ∨ 40 < width)) ∧
    (∃ (width : _), (width < 4 ∨ (12 < width ∧ width < 24) ∨ 40 < width)) ∧
    (∃ (width : _), (width < 4 ∨ (12 < width ∧ width < 24) ∨ 40 < width)) ∧
    (∃ (width : Nat) (pos : Int) (s : State), 4 ≤ width ∧ width ≤ 12 ∧ alignMode s = 1 ∧ alignState s = 2 ∧ s.tick.awaitTick = false ∧ (markError s pos).natAbs ≤ 512 ∧ s.rd FI_TICK_INJECT_INJ_SYNC_MISS = 0) ∧
    (∃ (s : State), alignMode s = 1 ∧ alignState s = 2 ∧ s.tick.awaitTick = false) ∧
    (∃ (v : _) (s : State), bit v 16 = true ∧ (bits v 1 0 = 3 ∨ bits v 1 0 = alignMode s) ∧ alignState s = 2) ∧
    (∃ (v : _) (s : State), bit v 16 = true ∧ (bits v 1 0 = 3 ∨ bits v 1 0 = alignMode s) ∧ alignState s = 2) ∧
    (∃ (v : _) (s : State), bit v 16 = true ∧ (bits v 1 0 = 3 ∨ bits v 1 0 = alignMode s) ∧ alignState s = 0 ∧ alignMode s ≠ 0 ∧ ((∀ n : Fin 16, s.rd RE_STATUS_STATE n < 3 ∨ 5 < s.rd RE_STATUS_STATE n)) ∧ fixPending s = false ∧ s.now < s.rd ALIGN_TICK_EPOCH) ∧
    (∃ (m : _) (s : State), s.tick.modeDue = some m ∧ s.tick.awaitTick = false ∧ s.tick.armAtTick = false) :=
  ⟨⟨State.reset, by decide +kernel⟩,
   ⟨State.reset.wr ALIGN_STATUS_STATE 4, by decide +kernel⟩,
   ⟨2, by decide +kernel⟩,
   ⟨41, by decide +kernel⟩,
   ⟨23, by decide +kernel⟩,
   ⟨8, 512, ((State.reset.wr ALIGN_CTRL_MODE 1).wr ALIGN_STATUS_STATE 2), by decide +kernel⟩,
   ⟨((State.reset.wr ALIGN_CTRL_MODE 1).wr ALIGN_STATUS_STATE 2), by decide +kernel⟩,
   ⟨0x10001, ((State.reset.wr ALIGN_CTRL_MODE 1).wr ALIGN_STATUS_STATE 2), by decide +kernel⟩,
   ⟨0x10003, ((State.reset.wr ALIGN_CTRL_MODE 1).wr ALIGN_STATUS_STATE 2), by decide +kernel⟩,
   ⟨0x10001, (State.reset.wr ALIGN_CTRL_MODE 1).wr ALIGN_TICK_EPOCH 900, by decide +kernel⟩,
   ⟨2, ((State.reset.wr ALIGN_CTRL_MODE 1).wr ALIGN_STATUS_STATE 2).updTick fun t => { t with modeDue := some 2 }, by decide +kernel⟩⟩

theorem witness_StagingResults :
    (∃ (r : Fin 65) (o : Op) (s : State), r.val < 64 ∧ s.stage.load = none ∧ Waits s r 0x20 o ∧ ownsStage s false = true ∧ stageLocked s = false) ∧
    (∃ (r : Fin 65) (o : Op) (s : State), r.val < 64 ∧ s.stage.load = none ∧ Waits s r 0x20 o ∧ ((ownsStage s false = false ∨ stageLocked s = true))) ∧
    (∃ (r : Fin 65) (o : Op) (s : State), r.val < 64 ∧ s.stage.load = none ∧ Waits s r 0x20 o ∧ ((ownsStage s false = false ∨ stageLocked s = true))) ∧
    (∃ (r : _) (k : _) (code : _) (item : _) (fld : _) (o : Op) (s : State), s.stage.load = some (r, k, code, item, fld) ∧ r < 64 ∧ opAt s r k = some o ∧ o.isOpen = true) ∧
    (∃ (r : Fin 65) (o : Op) (s : State), r.val < 64 ∧ s.stage.load = none ∧ Waits s r 0x21 o ∧ ownsStage s false = true ∧ stageState s = 1) ∧
    (∃ (r : Fin 65) (o : Op) (s : State), r.val < 64 ∧ s.stage.load = none ∧ Waits s r 0x22 o ∧ ownsStage s false = true ∧ stageState s = 3 ∧ s.now + 2 ≤ o.word 1 ∧ (((s.stage.items.any fun x => x.type == 1) = true ∨ hasApply s (o.word 1) = true))) ∧
    (∃ (r : Fin 65) (o : Op) (s : State), r.val < 64 ∧ Waits s r 0x23 o ∧ ownsStage s false = true ∧ s.stage.fixOp.isSome = true) ∧
    (∃ (r : _) (k : _) (arrived : _) (fr : _) (fk : _) (o : Op) (p : _) (s : State), s.stage.cancels = [(r, k, arrived)] ∧ arrived < s.now ∧ s.stage.fixOp = some (fr, fk) ∧ arrived + 1 ≤ s.rd PF_FIX_TICK_T - 1 ∧ opAt s r k = some o ∧ o.isOpen = true ∧ opAt s fr fk = some p ∧ p.isOpen = true ∧ (r, k) ≠ (fr, fk) ∧ r < 64 ∧ fr < 64) ∧
    (∃ (r : Fin 65) (o : Op) (s : State), r.val < 64 ∧ s.stage.load = none ∧ Waits s r 0x24 o ∧ ownsStage s false = true ∧ stageLocked s = false ∧ stageState s ≠ 0) :=
  ⟨⟨2, opOf 2 1 0x20 [64, 16], withOps [opOf 2 1 0x20 [64, 16]], by decide +kernel⟩,
   ⟨2, opOf 2 1 0x20 [64, 16], (withOps [opOf 2 1 0x20 [64, 16]]).wr PF_STATE_STATE 2, by decide +kernel⟩,
   ⟨2, opOf 2 1 0x20 [64, 16], ((withOps [opOf 2 1 0x20 [64, 16]]).wr PF_STATE_STATE 1).wr PF_STATE_OWNER 1, by decide +kernel⟩,
   ⟨2, 1, Code.BAD_FIELD, 3, 4, opOf 2 1 0x20 [64, 16], (withOps [opOf 2 1 0x20 [64, 16]]).updStage fun g => { g with load := some (2, 1, Code.BAD_FIELD, 3, 4) }, by decide +kernel⟩,
   ⟨2, opOf 2 1 0x21 [], (withOps [opOf 2 1 0x21 []]).wr PF_STATE_STATE 1, by decide +kernel⟩,
   ⟨2, opOf 2 1 0x22 [9], ((withOps [opOf 2 1 0x22 [9]]).wr PF_STATE_STATE 3).updStage fun g => { g with items := [⟨1, 0, 0, [], 64⟩] }, by decide +kernel⟩,
   ⟨2, opOf 2 1 0x23 [], ((withOps [opOf 2 1 0x23 []]).wr PF_STATE_STATE 4).updStage fun g => { g with fixOp := some (3, 1) }, by decide +kernel⟩,
   ⟨2, 1, 4, 3, 1, opOf 2 1 0x23 [], opOf 3 1 0x22 [], (((withOps [opOf 2 1 0x23 [], opOf 3 1 0x22 []]).wr PF_STATE_STATE 4).wr PF_FIX_TICK_T 10).wr TICK_NOW_TICK 5 |>.updStage fun g => { g with fixOp := some (3, 1), cancels := [(2, 1, 4)] }, by decide +kernel⟩,
   ⟨2, opOf 2 1 0x24 [], (withOps [opOf 2 1 0x24 []]).wr PF_STATE_STATE 3, by decide +kernel⟩⟩

theorem witness_FixResults :
    (∃ (vccOk : _) (r : _) (k : _) (since : _) (o : Op) (s : State) (u : State), s.stage.check = some (r, k, since) ∧ r < 64 ∧ opAt s r k = some o ∧ o.isOpen = true ∧ u = (s.updStage fun g => { g with check := none }).wr PROOF_TIME_CYCLES (s.cycle - since) ∧ s.stage.autoFix = false ∧ keySlotRefusal s false = none ∧ proofFlaw u vccOk = none) ∧
    (∃ (vccOk : _) (r : _) (k : _) (since : _) (f : SetFlaw) (o : Op) (s : State) (u : State), s.stage.check = some (r, k, since) ∧ r < 64 ∧ opAt s r k = some o ∧ o.isOpen = true ∧ u = (s.updStage fun g => { g with check := none }).wr PROOF_TIME_CYCLES (s.cycle - since) ∧ keySlotRefusal s false = none ∧ proofFlaw u vccOk = some f) ∧
    (∃ (s : State), stageState s = 5 ∧ s.stage.checked = false ∧ s.stage.cancels = [] ∧ s.now + 1 = s.rd PF_FIX_TICK_T ∧ keySlotRefusal s true = none ∧ finalFlaw s = none) ∧
    (∃ (f : SetFlaw) (r : _) (k : _) (o : Op) (s : State), stageState s = 5 ∧ s.stage.checked = false ∧ s.stage.cancels = [] ∧ s.now + 1 = s.rd PF_FIX_TICK_T ∧ keySlotRefusal s true = none ∧ finalFlaw s = some f ∧ s.stage.fixOp = some (r, k) ∧ r < 64 ∧ opAt s r k = some o ∧ o.isOpen = true) ∧
    (∃ (v : _) (r : _) (k : _) (s : State), stageState s = 5 ∧ s.stage.checked = true ∧ s.stage.cancels = [] ∧ s.now = s.rd PF_FIX_TICK_T ∧ s.offset = 0 ∧ credited s = true ∧ s.stage.fixOp = some (r, k) ∧ s.stage.items = [] ∧ s.stage.rwf = [⟨INJ_PERMIT_PERMIT, 0, 0, v⟩]) ∧
    (∃ (k : _) (w : OpenWin) (x : OpenWin) (s : State) (u : State), (s.tick.wins.find? fun w => w.idx == k) = some w ∧ w.type ≠ 1 ∧ endAction w (windowEnd w s) = (x, u) ∧ u.rd FI_TICK_INJECT_INJ_OVERRUN = 0 ∧ (u.noc.xacts.any fun x => x.phase == .landed) = false) ∧
    (∃ (k : _) (w : OpenWin) (r : _) (x : _) (s : State) (u : State), (s.tick.wins.find? fun w => w.idx == k) = some w ∧ w.type = 1 ∧ s.stage.applied = some (r, x) ∧ u = windowEnd w s ∧ (u.noc.xacts.any fun x => x.phase == .landed) = false) ∧
    (∃ (f : FuseJob) (rest : List FuseJob) (s : State), s.stage.fuses = f :: rest) :=
  ⟨⟨true, 2, 1, 0, opOf 2 1 0x21 [], ((State.reset.wr PF_STATE_STATE 2).updOps fun _ => [opOf 2 1 0x21 []]).updStage fun g => { g with check := some (2, 1, 0) }, ((((State.reset.wr PF_STATE_STATE 2).updOps fun _ => [opOf 2 1 0x21 []]).updStage fun g => { g with check := some (2, 1, 0) }).updStage fun g => { g with check := none }).wr PROOF_TIME_CYCLES ((((State.reset.wr PF_STATE_STATE 2).updOps fun _ => [opOf 2 1 0x21 []]).updStage fun g => { g with check := some (2, 1, 0) }).cycle - 0), by decide +kernel⟩,
   ⟨true, 2, 1, 0, ⟨Code.INCONSISTENT, 4, 0, 0⟩, opOf 2 1 0x21 [], ((State.reset.wr PF_STATE_STATE 2).updOps fun _ => [opOf 2 1 0x21 []]).updStage fun g => { g with check := some (2, 1, 0), items := [⟨2, 0, 0, (9 :: List.replicate 15 0), 64⟩] }, ((((State.reset.wr PF_STATE_STATE 2).updOps fun _ => [opOf 2 1 0x21 []]).updStage fun g => { g with check := some (2, 1, 0), items := [⟨2, 0, 0, (9 :: List.replicate 15 0), 64⟩] }).updStage fun g => { g with check := none }).wr PROOF_TIME_CYCLES ((((State.reset.wr PF_STATE_STATE 2).updOps fun _ => [opOf 2 1 0x21 []]).updStage fun g => { g with check := some (2, 1, 0), items := [⟨2, 0, 0, (9 :: List.replicate 15 0), 64⟩] }).cycle - 0), by decide +kernel⟩,
   ⟨((withOps [opOf 2 1 0x22 []]).wr PF_STATE_STATE 5).wr PF_FIX_TICK_T 10 |>.wr TICK_NOW_TICK 9, by decide +kernel⟩,
   ⟨⟨Code.INCONSISTENT, 6, 0, 0⟩, 2, 1, opOf 2 1 0x22 [], (((withOps [opOf 2 1 0x22 []]).wr PF_STATE_STATE 5).wr PF_FIX_TICK_T 10 |>.wr TICK_NOW_TICK 9).updStage fun g => { g with fixOp := some (2, 1), items := [⟨2, 0, 0, (9 :: List.replicate 15 0), 64⟩] }, by decide +kernel⟩,
   ⟨6, 2, 1, ((((withOps [opOf 2 1 0x22 []]).wr PF_STATE_STATE 4).wr PF_FIX_TICK_T 10 |>.wr TICK_NOW_TICK 9).wr PF_STATE_STATE 5).wr TICK_NOW_TICK 10 |>.updStage fun g => { g with fixOp := some (2, 1), checked := true, rwf := [⟨INJ_PERMIT_PERMIT, 0, 0, 6⟩] }, by decide +kernel⟩,
   ⟨3, ⟨3, 0x10, 0, 0, 0, false⟩, ⟨3, 0x10, 0, 0, 0, false⟩, State.reset.updTick fun t => { t with wins := [⟨3, 0x10, 0, 0, 0, false⟩] }, State.reset.updTick fun t => { t with wins := [⟨3, 0x10, 0, 0, 0, false⟩] }, by decide +kernel⟩,
   ⟨3, ⟨3, 1, 0, 0, 31, false⟩, 2, 1, (State.reset.updTick fun t => { t with wins := [⟨3, 1, 0, 0, 31, false⟩] }).updStage fun g => { g with applied := some (2, 1) }, windowEnd ⟨3, 1, 0, 0, 31, false⟩ ((State.reset.updTick fun t => { t with wins := [⟨3, 1, 0, 0, 31, false⟩] }).updStage fun g => { g with applied := some (2, 1) }), by decide +kernel⟩,
   ⟨⟨3, 4, 5, false⟩, [], State.reset.updStage fun g => { g with fuses := [⟨3, 4, 5, false⟩] }, by decide +kernel⟩⟩

theorem witness_ReelLifeResults :
    (∃ (r : Fin 64) (o : Op) (s : State), Waits s r 0x40 o ∧ o.word 2 % 64 = 0 ∧ 1 ≤ bits (o.word 4) 4 0 ∧ bits (o.word 4) 4 0 ≤ 16 ∧ s.now + bits (o.word 4) 4 0 + 1 ≤ o.word 3 ∧ ((reelState s (bits (o.word 1) 3 0) = 0 ∨ reelState s (bits (o.word 1) 3 0) = 6)) ∧ isReelGroup s (bits (o.word 1) 3 0) = true ∧ namesChannel s (bits (o.word 1) 3 0) (o.word 2 / 2 ^ 37) = true ∧ s.rd DB_STATUS_RC_STATE = 0) ∧
    (∃ (r : Fin 64) (o : Op) (s : State) (code : _) (f : _), Waits s r 0x40 o ∧ reelStartCheck s (bits (o.word 1) 3 0) (o.word 2) (o.word 3) (bits (o.word 4) 4 0) = some (code, f)) ∧
    (∃ (r : Fin 64) (o : Op) (s : State), Waits s r 0x41 o) ∧
    (∃ (n : Fin 16) (r : _) (k : _) (a : _) (o : Op) (s : State), (reel s n).aborts = [(r, k, a, s.rd START_TICK_S n)] ∧ a < s.now ∧ reelState s n = 3 ∧ (reel s n).op.isSome = true ∧ naturalStands s n = false ∧ opAt s r k = some o ∧ o.isOpen = true ∧ r < 64) ∧
    (∃ (n : Fin 16) (r : _) (k : _) (a : _) (x : _) (rr : _) (kk : _) (o : Op) (p : _) (s : State), (reel s n).aborts = [(r, k, a, x)] ∧ a < s.now ∧ x = s.rd START_TICK_S n ∧ ((reelState s n = 1 ∨ reelState s n = 2)) ∧ (reel s n).op = some (rr, kk) ∧ opAt s rr kk = some p ∧ p.isOpen = true ∧ opAt s r k = some o ∧ o.isOpen = true ∧ r < 64 ∧ rr < 64 ∧ (r, k) ≠ (rr, kk)) ∧
    (∃ (n : Fin 16) (r : _) (k : _) (a : _) (x : _) (o : Op) (s : State), (reel s n).aborts = [(r, k, a, x)] ∧ a < s.now ∧ ((reelState s n = 0 ∨ x ≠ s.rd START_TICK_S n)) ∧ opAt s r k = some o ∧ o.isOpen = true ∧ r < 64) ∧
    (∃ (n : Fin 16) (s : State), reelState s n = 1 ∧ credited s = true ∧ s.rd START_TICK_S n - (reel s n).prefetch ≤ s.now) ∧
    (∃ (n : Fin 16) (s : State), reelState s n = 2 ∧ credited s = true ∧ s.rd START_TICK_S n = s.now ∧ (reel s n).hdrOk = true ∧ (reel s n).hdrAt + 20 ≤ s.tick.base ∧ 9 + (reel s n).dictLines ≤ (reel s n).fetched ∧ (reel s n).dictAt + 20 ≤ s.tick.base ∧ (reel s n).initStop = true ∧ (reel s n).stopAt + 20 ≤ s.tick.base ∧ lanesActive s n (s.tick.base - 20) = true) ∧
    (∃ (n : Fin 16) (s : State), reelState s n = 2 ∧ credited s = true ∧ s.rd START_TICK_S n = s.now ∧ (((reel s n).hdrOk = false ∨ (reel s n).initStop = false ∨ (reel s n).fetched < 9 + (reel s n).dictLines ∨ s.tick.base < (reel s n).hdrAt + 20 ∨ s.tick.base < (reel s n).stopAt + 20 ∨ ((reel s n).dictLines ≠ 0 ∧ s.tick.base < (reel s n).dictAt + 20) ∨ lanesActive s n (s.tick.base - 20) = false))) ∧
    (∃ (n : Fin 16) (s : State), naturalStands s n = true) ∧
    (∃ (n : Fin 16) (r : _) (k : _) (o : Op) (s : State), (reel s n).heldAt.isSome = true ∧ reelState s n = 3 ∧ s.rd RE_STATUS_END_CAUSE n ≤ 1 ∧ tainted s n = false ∧ (reel s n).op = some (r, k) ∧ opAt s r k = some o ∧ o.isOpen = true ∧ r < 64 ∧ (reel s n).lines.all (fun l => windowShut s l.2.2) = true) ∧
    (∃ (n : Fin 16) (s : State), reelState s n = 0) ∧
    (∃ (n : Fin 16) (s : State), reelState s n ≠ 0) ∧
    (∃ (k : _) (e : Slot) (s : State), opening s 0x10 k = some e ∧ s.offset = e.start ∧ (reel s e.unit).op.isSome = true ∧ reelState s e.unit = 3 ∧ bits e.param 2 0 = (reel s e.unit).addr / 2 ^ 37 ∧ 1 ≤ bits e.param 23 8 ∧ (reel s e.unit).fetched < reelLines (reel s e.unit) ∧ bufferLevel (reel s e.unit) < 2048 ∧ (reel s e.unit).stopped = false ∧ inMasks s (fetchAddr (reel s e.unit)) e.param = true ∧ bankBlocked s (fetchAddr (reel s e.unit)) = false ∧ ((∀ r < 120, s.rd NR_INJECT_INJ_PARITY r = 0 ∧ s.rd NR_INJECT_INJ_TIMEOUT r = 0))) :=
  ⟨⟨0, opOf 0 0 0x40 [2, 0x1000, 9, 3], withSlot 0x10 2 0 (reelGroupUp 2 (withOps [opOf 0 0 0x40 [2, 0x1000, 9, 3]])), by decide +kernel⟩,
   ⟨0, opOf 0 0 0x40 [2, 0x1001, 9, 3], withOps [opOf 0 0 0x40 [2, 0x1001, 9, 3]], Code.BAD_ALIGN, 9, by decide +kernel⟩,
   ⟨1, opOf 1 3 0x41 [2, 9], withOps [opOf 1 3 0x41 [2, 9]], by decide +kernel⟩,
   ⟨2, 1, 3, 4, opOf 1 3 0x41 [2, 9], (((withOps [opOf 1 3 0x41 [2, 9]]).wr RE_STATUS_STATE 3 2).wr START_TICK_S 9 2).wr TICK_NOW_TICK 10 |> updReel 2 fun u => { u with op := some (0, 0), aborts := [(1, 3, 4, 9)] }, by decide +kernel⟩,
   ⟨2, 1, 3, 4, 9, 0, 0, opOf 1 3 0x41 [2, 9], opOf 0 0 0x40 [], (((withOps [opOf 1 3 0x41 [2, 9], opOf 0 0 0x40 []]).wr RE_STATUS_STATE 2 2).wr START_TICK_S 9 2).wr TICK_NOW_TICK 5 |> updReel 2 fun u => { u with op := some (0, 0), aborts := [(1, 3, 4, 9)] }, by decide +kernel⟩,
   ⟨2, 1, 3, 4, 8, opOf 1 3 0x41 [2, 9], (((withOps [opOf 1 3 0x41 [2, 9]]).wr RE_STATUS_STATE 3 2).wr START_TICK_S 9 2).wr TICK_NOW_TICK 10 |> updReel 2 fun u => { u with op := some (0, 0), aborts := [(1, 3, 4, 8)] }, by decide +kernel⟩,
   ⟨2, ((creditedTick 7).wr RE_STATUS_STATE 1 2).wr START_TICK_S 9 2 |> updReel 2 fun u => { u with prefetch := 2 }, by decide +kernel⟩,
   ⟨2, ((List.range 8).foldl (fun s i => s.wr LN_STATUS_STATE 3 2 i) (((creditedTick 9).wr RE_STATUS_STATE 2 2).wr START_TICK_S 9 2) |> updReel 2 fun u => { u with hdrOk := true, fetched := 12, initStop := true }) |> updTck fun t => { t with base := 4000 }, by decide +kernel⟩,
   ⟨2, ((creditedTick 9).wr RE_STATUS_STATE 2 2).wr START_TICK_S 9 2, by decide +kernel⟩,
   ⟨3, (State.reset.wr TICK_NOW_TICK 9) |> updReel 3 fun u => { u with final := true, heldAt := some 8 }, by decide +kernel⟩,
   ⟨3, 0, 0, opOf 0 0 0x40 [], (((withOps [opOf 0 0 0x40 []]).wr RE_STATUS_STATE 3 3).wr TICK_NOW_TICK 9) |> updReel 3 fun u => { u with op := some (0, 0), heldAt := some 8, endVc := some 40 }, by decide +kernel⟩,
   ⟨3, State.reset.setb RE_STATUS_DICT_VALID true 3, by decide +kernel⟩,
   ⟨3, State.reset.wr RE_STATUS_STATE 3 3, by decide +kernel⟩,
   ⟨0, slotAt (withSlot 0x10 2 (0xFFFFFFFF00000578) State.reset).sched 0, withSlot 0x10 2 (0xFFFFFFFF00000578) (State.reset.wr RE_STATUS_STATE 3 2) |> updReel 2 fun u => { u with op := some (0, 0) }, by decide +kernel⟩⟩

theorem witness_ReelVectorResults :
    (∃ (n : Fin 16) (w : _) (s : State), nextOp s n 0 = some (w, false) ∧ s.rd FI_REEL_INJECT_INJ_FORMAT = 0 ∧ (reel s n).initStop = true ∧ (reel s n).blocks = [] ∧ s.rd VCYCLE_VC n ≠ s.rd NEXT_STOP_VC_VC n) ∧
    (∃ (n : Fin 16) (w : _) (k : _) (s : State), nextOp s n 1 = some (w, false) ∧ s.rd FI_REEL_INJECT_INJ_FORMAT = 0 ∧ (reel s n).initStop = true ∧ (reel s n).cur = none ∧ 1 ≤ k ∧ k ≤ bits w 15 0 ∧ (reel s n).pos + 1 + 8 * k ≤ max (reel s n).seen (fetchedWords (reel s n)) ∧ k ≤ fifoRoom s n ∧ s.rd VCYCLE_VC n + k ≤ s.rd NEXT_STOP_VC_VC n) ∧
    (∃ (n : Fin 16) (w : _) (k : _) (s : State), nextOp s n 2 = some (w, false) ∧ s.rd FI_REEL_INJECT_INJ_FORMAT = 0 ∧ (reel s n).initStop = true ∧ (reel s n).cur = none ∧ 1 ≤ k ∧ k ≤ bits w 31 0 ∧ k ≤ fifoRoom s n ∧ s.rd VCYCLE_VC n + k ≤ s.rd NEXT_STOP_VC_VC n) ∧
    (∃ (n : Fin 16) (w : _) (s : State), nextOp s n 3 = some (w, false) ∧ s.rd FI_REEL_INJECT_INJ_FORMAT = 0 ∧ (reel s n).initStop = true ∧ (reel s n).blocks = [] ∧ s.rd VCYCLE_VC n ≠ s.rd NEXT_STOP_VC_VC n) ∧
    (∃ (n : Fin 16) (w : _) (k : _) (s : State), nextOp s n 4 = some (w, false) ∧ s.rd FI_REEL_INJECT_INJ_FORMAT = 0 ∧ (reel s n).initStop = true ∧ (reel s n).cur = none ∧ 1 ≤ k ∧ k ≤ bits w 10 0 ∧ k ≤ fifoRoom s n ∧ s.rd VCYCLE_VC n + k ≤ s.rd NEXT_STOP_VC_VC n) ∧
    (∃ (n : Fin 16) (w : _) (k : _) (s : State), nextOp s n 5 = some (w, false) ∧ s.rd FI_REEL_INJECT_INJ_FORMAT = 0 ∧ s.rd FI_REEL_INJECT_INJ_SPLICE = 0 ∧ (reel s n).initStop = true ∧ (reel s n).cur = none ∧ 1 ≤ k ∧ k ≤ bits w 15 0 ∧ k ≤ (reel s n).splice.length ∧ k ≤ fifoRoom s n ∧ s.rd VCYCLE_VC n + k ≤ s.rd NEXT_STOP_VC_VC n) ∧
    (∃ (n : Fin 16) (w : _) (s : State), nextOp s n 6 = some (w, false) ∧ s.rd FI_REEL_INJECT_INJ_FORMAT = 0 ∧ (reel s n).initStop = true ∧ (reel s n).blocks = [] ∧ s.rd VCYCLE_VC n = s.rd NEXT_STOP_VC_VC n ∧ bit w 56 = false ∧ 1 ≤ bits w 31 0 ∧ bits w 31 0 ≤ (reel s n).rundown ∧ (reel s n).pos + 9 < (reel s n).opWords ∧ reelState s n = 3) ∧
    (∃ (n : Fin 16) (w : _) (s : State), nextOp s n 6 = some (w, true) ∧ bits w 63 60 = 6 ∧ s.rd FI_REEL_INJECT_INJ_FORMAT = 0 ∧ ((reelState s n = 3 ∨ reelState s n = 4))) ∧
    (∃ (n : Fin 16) (s : State), regionRuns s n = true ∧ 2 ≤ reelState s n ∧ reelState s n ≤ 5 ∧ (reel s n).splice.length + 2 ≤ 128) ∧
    (∃ (n : Fin 16) (s : State), regionRuns s n = true) ∧
    (∃ (n : Fin 16) (s : State), regionRuns s n = true ∧ (reelState s n < 2 ∨ 5 < reelState s n)) ∧
    (∃ (n : Fin 16) (s : State), regionRuns s n = false) ∧
    (∃ (n : Fin 16) (s : State), ((reelState s n = 3 ∨ reelState s n = 4)) ∧ (reel s n).endVc = none ∧ s.rd FI_REEL_INJECT_INJ_UNDERRUN = 0 ∧ s.rd ALIGN_STATUS_STATE ≠ 4 ∧ fifoEmpty s n = true) ∧
    (∃ (n : Fin 16) (s : State), ((reelState s n = 3 ∨ reelState s n = 4)) ∧ s.rd FI_REEL_INJECT_INJ_UNDERRUN = 0 ∧ fifoEmpty s n = false) ∧
    (∃ (n : Fin 16) (stop : _) (s : State), (reel s n).endVc = some stop ∧ reelState s n = 5 ∧ (reel s n).subst = false ∧ fifoEmpty s n = true ∧ s.rd VCYCLE_VC n < stop) ∧
    (∃ (n : Fin 16) (e : Nat) (s : State), (reel s n).endVc = some e ∧ (reel s n).heldAt = none ∧ ((reelState s n = 3 ∨ reelState s n = 4 ∨ (reelState s n = 5 ∧ (reel s n).subst = true))) ∧ endTimes (reel s n) e ≤ laneTimes s n) :=
  ⟨⟨2, 5, opReel 2 5, by decide +kernel⟩,
   ⟨2, 2 ^ 60 + 3, 2, opReel 2 (2 ^ 60 + 3), by decide +kernel⟩,
   ⟨2, 2 * 2 ^ 60 + 7, 7, opReel 2 (2 * 2 ^ 60 + 7), by decide +kernel⟩,
   ⟨2, 3 * 2 ^ 60 + 4 * 65536 + 2, opReel 2 (3 * 2 ^ 60 + 4 * 65536 + 2), by decide +kernel⟩,
   ⟨2, 4 * 2 ^ 60 + 3, 1, opReel 2 (4 * 2 ^ 60 + 3), by decide +kernel⟩,
   ⟨2, 5 * 2 ^ 60 + 3, 1, opReel 2 (5 * 2 ^ 60 + 3) |> updReel 2 fun u => { u with splice := [7, 8], dictLoaded := 4 }, by decide +kernel⟩,
   ⟨2, 6 * 2 ^ 60 + 9 * 2 ^ 32 + 5, (opReel 2 (6 * 2 ^ 60 + 9 * 2 ^ 32 + 5)).wr VCYCLE_VC 100 2 |> updReel 2 fun u => { u with rundown := 50 }, by decide +kernel⟩,
   ⟨2, 6 * 2 ^ 60 + 2 ^ 57, (opReel 2 (6 * 2 ^ 60 + 2 ^ 57)), by decide +kernel⟩,
   ⟨2, (State.reset.wr RE_STATUS_STATE 3 2).wr RG_STATUS_PSTATE 0 2, by decide +kernel⟩,
   ⟨2, State.reset.wr RG_STATUS_PSTATE 0 2, by decide +kernel⟩,
   ⟨2, State.reset.wr RG_STATUS_PSTATE 0 2, by decide +kernel⟩,
   ⟨2, State.reset, by decide +kernel⟩,
   ⟨2, (State.reset.wr RE_STATUS_STATE 3 2).wr NEXT_STOP_VC_VC 100 2, by decide +kernel⟩,
   ⟨2, (State.reset.wr RE_STATUS_STATE 3 2).wr VCYCLE_VC 100 2, by decide +kernel⟩,
   ⟨2, 100, State.reset.wr RE_STATUS_STATE 5 2 |> updReel 2 fun u => { u with endVc := some 100 }, by decide +kernel⟩,
   ⟨2, 0, State.reset.wr RE_STATUS_STATE 3 2 |> updReel 2 fun u => { u with endVc := some 0 }, by decide +kernel⟩⟩

theorem witness_CompareResults :
    (∃ (n : Fin 16) (i : Fin 8) (r : _) (word : _) (d : Due) (s : State), s.mbit LG_STATUS_READY 0 n = true ∧ dueEntry s n i r = some d ∧ s.rd ALIGN_STATUS_STATE ≠ 4 ∧ ptrDiff s n i 0 = ptrDiff s n i 1 ∧ d.mask ≠ 0 ∧ s.rd CB_INJECT_INJ_DISAGREE n = 0 ∧ ((word % 2 ^ 64) ^^^ d.word) &&& d.mask = 0) ∧
    (∃ (n : Fin 16) (i : Fin 8) (r : _) (word : _) (d : Due) (s : State), s.mbit LG_STATUS_READY 0 n = true ∧ dueEntry s n i r = some d ∧ s.rd ALIGN_STATUS_STATE ≠ 4 ∧ ptrDiff s n i 0 = ptrDiff s n i 1 ∧ d.mask ≠ 0 ∧ s.rd CB_INJECT_INJ_DISAGREE n = 0 ∧ ((word % 2 ^ 64) ^^^ d.word) &&& d.mask ≠ 0) ∧
    (∃ (n : Fin 16) (i : Fin 8) (r : _) (flip : _) (d : Due) (s : State), s.mbit LG_STATUS_READY 0 n = true ∧ dueEntry s n i r = some d ∧ s.rd ALIGN_STATUS_STATE ≠ 4 ∧ ptrDiff s n i 0 = ptrDiff s n i 1 ∧ d.mask ≠ 0 ∧ s.rd CB_INJECT_INJ_DISAGREE n = 0 ∧ flip % 2 ^ 64 ≠ 0) ∧
    (∃ (n : Fin 16) (i : Fin 8) (r : _) (d : Due) (s : State), s.mbit LG_STATUS_READY 0 n = true ∧ dueEntry s n i r = some d ∧ s.rd ALIGN_STATUS_STATE ≠ 4 ∧ ptrDiff s n i 0 = ptrDiff s n i 1 ∧ d.mask = 0) ∧
    (∃ (n : Fin 16) (i : Fin 8) (r : _) (d : Due) (s : State), s.mbit LG_STATUS_READY 0 n = true ∧ dueEntry s n i r = some d ∧ s.rd ALIGN_STATUS_STATE = 4) ∧
    (∃ (n : Fin 16) (s : State), isReelGroup s n = false) ∧
    (∃ (n : Fin 16) (i : Fin 8) (r : _) (s : State), isReelGroup s n = true ∧ s.mbit LG_STATUS_READY 0 n = true ∧ dueEntry s n i r = none ∧ delayParityBad s n i = false ∧ s.rd ALIGN_STATUS_STATE ≠ 4) ∧
    (∃ (n : Fin 16) (s : State), isReelGroup s n = true ∧ s.mbit LG_STATUS_READY 0 n = true ∧ s.rd ALIGN_STATUS_STATE = 4) ∧
    (∃ (n : Fin 16) (i : Fin 8) (r : _) (flip : _) (d : Due) (s : State), isReelGroup s n = true ∧ s.mbit LG_STATUS_READY 0 n = false ∧ dueEntry s n i r = some d ∧ s.rd ALIGN_STATUS_STATE ≠ 4 ∧ ptrDiff s n i 0 = ptrDiff s n i 1 ∧ d.mask ≠ 0 ∧ s.rd CB_INJECT_INJ_DISAGREE n = 0 ∧ flip % 2 ^ 64 &&& d.mask = flip % 2 ^ 64) ∧
    (∃ (n : Fin 16) (i : Fin 8) (r : _) (flip : _) (d : Due) (s : State), dueEntry s n i r = some d ∧ s.rd ALIGN_STATUS_STATE ≠ 4 ∧ ptrDiff s n i 0 = ptrDiff s n i 1 ∧ d.mask ≠ 0 ∧ s.rd CB_INJECT_INJ_DISAGREE n = 0 ∧ flip % 2 ^ 64 &&& d.mask = flip % 2 ^ 64) ∧
    (∃ (n : Fin 16) (i : Fin 8) (m : Fin 8192) (u : Fin 256) (s : State), s.rd ALIGN_STATUS_STATE ≠ 4 ∧ m ≠ 0 ∧ u.val = 2 ^ i.val ∧ ((∀ j : Fin 8, sget 0 (catch_ s n).workDiff j = 0 ∧ ptrDiff s n j 0 = 0 ∧ ptrDiff s n j 1 = 0)) ∧ (∀ j : Fin 8, delayGood s n j = true)) ∧
    (∃ (n : Fin 16) (s : State), (s.rd ALIGN_STATUS_STATE = 4 ∨ ((∀ j : Fin 8, sget 0 (catch_ s n).workDiff j = 0 ∧ ptrDiff s n j 0 = 0 ∧ ptrDiff s n j 1 = 0) ∧ ∀ j : Fin 8, delayGood s n j = true))) :=
  ⟨⟨1, 2, 30, 5, { op := some (0, 0), vc := 5, word := 5, mask := 15, past := false }, catching 1 15, by decide +kernel⟩,
   ⟨1, 2, 30, 6, { op := some (0, 0), vc := 5, word := 5, mask := 15, past := false }, catching 1 15, by decide +kernel⟩,
   ⟨1, 2, 30, 4, { op := some (0, 0), vc := 5, word := 5, mask := 15, past := false }, catching 1 15, by decide +kernel⟩,
   ⟨1, 2, 30, { op := some (0, 0), vc := 5, word := 5, mask := 0, past := false }, catching 1 0, by decide +kernel⟩,
   ⟨1, 2, 30, { op := some (0, 0), vc := 5, word := 5, mask := 15, past := false }, (catching 1 15).wr ALIGN_STATUS_STATE 4, by decide +kernel⟩,
   ⟨1, State.reset, by decide +kernel⟩,
   ⟨1, 2, 3, catching 1 15, by decide +kernel⟩,
   ⟨1, (catching 1 15).wr ALIGN_STATUS_STATE 4, by decide +kernel⟩,
   ⟨1, 2, 30, 0, { op := some (0, 0), vc := 5, word := 5, mask := 15, past := false }, (catching 1 15).wr LG_STATUS_READY 0 1, by decide +kernel⟩,
   ⟨1, 2, 30, 4, { op := some (0, 0), vc := 5, word := 5, mask := 15, past := false }, catching 1 15, by decide +kernel⟩,
   ⟨1, 2, 4, 4, State.reset, by decide +kernel⟩,
   ⟨1, State.reset, by decide +kernel⟩⟩

theorem witness_CatchRecordResults :
    (∃ (n : Fin 16) (r : Rec) (rest : List Rec) (s : State), (catch_ s n).fifo = r :: rest ∧ (catch_ s n).window = none ∧ recordRoom s (catchFlow s n) = true) ∧
    (∃ (n : Fin 16) (p : Rec) (f : _) (s : State), (catch_ s n).pendingSum = some (p, f) ∧ ((recordsHeld s n < catchCapacity s n ∨ bits p.body 47 32 = 65535)) ∧ recordRoom s (catchFlow s n) = true ∧ (catch_ s n).window = none) ∧
    (∃ (n : Fin 16) (r : Rec) (rest : List Rec) (s : State), (catch_ s n).fifo = r :: rest ∧ recordRoom s (catchFlow s n) = false) ∧
    (∃ (n : Fin 16) (p : Rec) (f : _) (s : State), (catch_ s n).pendingSum = some (p, f) ∧ catchCapacity s n ≤ recordsHeld s n ∧ bits p.body 47 32 ≠ 65535) ∧
    (∃ (n : Fin 16) (b : CatchBurst) (s : State), (catch_ s n).bursts.find? (fun b => b.ended && b.notice) = some b ∧ (catch_ s n).sumFirst = none ∧ (catch_ s n).pendingSum = none ∧ (catch_ s n).deferred = [] ∧ mayCreate s n = true) ∧
    (∃ (n : Fin 16) (v : _) (s : State), v < 2 ^ 64 ∧ v ≤ s.rd CM_WR_INDEX n ∧ s.rd CM_WR_INDEX n ≤ v + 2 * s.rd CM_LINES_LINES n) ∧
    (∃ (n : Fin 16) (v : _) (s : State), v < 2 ^ 64 ∧ ((s.rd CM_WR_INDEX n < v ∨ v + 2 * s.rd CM_LINES_LINES n < s.rd CM_WR_INDEX n))) ∧
    (∃ (n : Fin 16) (s : State), presentsHeld s n = false) ∧
    (∃ (n : Fin 16) (s : State), presentsHeld s n = true) ∧
    (∃ (k : _) (e : Slot) (a : Rec) (b : Rec) (rest : List Rec) (s : State), opening s 0x20 k = some e ∧ s.offset = e.start ∧ ringBad s e.unit = false ∧ bits e.param 2 0 = s.rd CM_BASE_ADDR e.unit / 2 ^ 37 ∧ 1 ≤ bits e.param 23 8 ∧ (catch_ s e.unit).flow = a :: b :: rest ∧ (catch_ s e.unit).deferred = [] ∧ (catch_ s e.unit).window = none ∧ 1 ≤ e.length ∧ s.rd CM_WR_INDEX e.unit + 2 ≤ s.rd CM_RD_INDEX e.unit + 2 * s.rd CM_LINES_LINES e.unit ∧ inMasks s (s.rd CM_BASE_ADDR e.unit + s.rd CM_WR_INDEX e.unit % (2 * s.rd CM_LINES_LINES e.unit) * 32) e.param = true ∧ lineReach s (s.rd CM_BASE_ADDR e.unit + s.rd CM_WR_INDEX e.unit % (2 * s.rd CM_LINES_LINES e.unit) * 32) = Code.OK ∧ rangeOf s (s.rd CM_BASE_ADDR e.unit + s.rd CM_WR_INDEX e.unit % (2 * s.rd CM_LINES_LINES e.unit) * 32) = none ∧ (∀ r < 120, s.rd NR_INJECT_INJ_PARITY r = 0)) ∧
    (∃ (k : _) (e : Slot) (a : Rec) (rest : List Rec) (s : State), opening s 0x20 k = some e ∧ s.offset = e.start ∧ ringBad s e.unit = false ∧ bits e.param 2 0 = s.rd CM_BASE_ADDR e.unit / 2 ^ 37 ∧ 1 ≤ bits e.param 23 8 ∧ (catch_ s e.unit).flow = a :: rest ∧ (catch_ s e.unit).window = none ∧ 1 ≤ e.length ∧ (catch_ s e.unit).fullRaised = false ∧ s.rd CM_RD_INDEX e.unit + 2 * s.rd CM_LINES_LINES e.unit < s.rd CM_WR_INDEX e.unit + 2) ∧
    (∃ (k : _) (e : Slot) (s : State), opening s 0x20 k = some e ∧ s.offset = e.start ∧ ringBad s e.unit = false ∧ bits e.param 2 0 ≠ s.rd CM_BASE_ADDR e.unit / 2 ^ 37) :=
  ⟨⟨1, aRec 1, [], (updCatch 1 (fun u => { u with fifo := [aRec 1] }) State.reset).wr FLOW_CFG_RESERVED 5, by decide +kernel⟩,
   ⟨1, aRec 2, 4, (updCatch 1 (fun u => { u with pendingSum := some (aRec 2, 4) }) State.reset).wr FLOW_CFG_RESERVED 5, by decide +kernel⟩,
   ⟨1, aRec 1, [], (updCatch 1 (fun u => { u with fifo := [aRec 1], flow := List.replicate 5 { aRec 1 with inFlow := some 1 } }) (State.reset.wr FLOW_CFG_RESERVED 5 1)).wr CB_FLOW_FLOW 1 1, by decide +kernel⟩,
   ⟨1, aRec 2, 4, (updCatch 1 (fun u => { u with pendingSum := some (aRec 2, 4) }) State.reset).wr FLOW_CFG_RESERVED 1, by decide +kernel⟩,
   ⟨1, { op := (0, 0), bp := 0, ended := true, notice := true }, (updCatch 1 (fun u => { u with bursts := [{ op := (0, 0), bp := 0, ended := true, notice := true }] }) State.reset).wr FLOW_CFG_RESERVED 5, by decide +kernel⟩,
   ⟨1, 7, (State.reset.wr CM_WR_INDEX 20 1).wr CM_LINES_LINES 64 1, by decide +kernel⟩,
   ⟨1, 21, (State.reset.wr CM_WR_INDEX 20 1).wr CM_LINES_LINES 64 1, by decide +kernel⟩,
   ⟨1, updCatch 1 (fun u => { u with cfFail := 3, cfBits := 7 }) (State.reset.wr RG_STATUS_PSTATE 0 1), by decide +kernel⟩,
   ⟨1, State.reset, by decide +kernel⟩,
   ⟨0, slotAt (withSlot 0x20 2 0xFFFFFFFF00000578 State.reset).sched 0, aRec 1, aRec 1, [], chanUp 0 (withSlot 0x20 2 0xFFFFFFFF00000578 ((updCatch 2 (fun u => { u with flow := [aRec 1, aRec 1] }) State.reset).wr CM_LINES_LINES 64 2)), by decide +kernel⟩,
   ⟨0, slotAt (withSlot 0x20 2 0x578 State.reset).sched 0, aRec 1, [], withSlot 0x20 2 0x578 (((updCatch 2 (fun u => { u with flow := [aRec 1] }) State.reset).wr CM_LINES_LINES 64 2).wr CM_WR_INDEX 127 2), by decide +kernel⟩,
   ⟨0, slotAt (withSlot 0x20 2 0x579 State.reset).sched 0, withSlot 0x20 2 0x579 (State.reset.wr CM_LINES_LINES 64 2), by decide +kernel⟩⟩

theorem witness_SliceResults :
    (∃ (k : Fin 64) (t : Fin 96) (s : State), sliceRuns s (sliceIdx k t) = true ∧ slicePort s (sliceIdx k t) = true ∧ s.rd SL_STATUS_STATE (sliceIdx k t) ≠ 1 ∧ s.rd SL_STATUS_STATE (sliceIdx k t) ≠ 5) ∧
    (∃ (k : Fin 64) (t : Fin 96) (s : State), sliceRuns s (sliceIdx k t) = true ∧ slicePort s (sliceIdx k t) = true ∧ s.rd SL_STATUS_STATE (sliceIdx k t) = 1) ∧
    (∃ (k : Fin 64) (t : Fin 96) (s : State), sliceRuns s (sliceIdx k t) = true ∧ slicePort s (sliceIdx k t) = true ∧ s.rd SL_STATUS_STATE (sliceIdx k t) = 2) ∧
    (∃ (k : Fin 64) (t : Fin 96) (s : State), sliceRuns s (sliceIdx k t) = true ∧ slicePort s (sliceIdx k t) = true) ∧
    (∃ (k : Fin 64) (t : Fin 96) (s : State), (sliceRuns s (sliceIdx k t) && slicePort s (sliceIdx k t)) = false) ∧
    (∃ (k : Fin 64) (t : Fin 96) (ins : _) (s : State), issues s (sliceIdx k t) ins = true ∧ bits ins 63 60 = 0 ∧ (s.slice_ (sliceIdx k t)).loops = []) ∧
    (∃ (k : Fin 64) (t : Fin 96) (ins : _) (l : Loop) (rest : List Loop) (s : State), issues s (sliceIdx k t) ins = true ∧ bits ins 63 60 = 0 ∧ (s.slice_ (sliceIdx k t)).loops = l :: rest ∧ s.rd SL_PTR_PC (sliceIdx k t) + 1 = l.start + l.body ∧ 0 < l.left) ∧
    (∃ (k : Fin 64) (t : Fin 96) (ins : _) (s : State), issues s (sliceIdx k t) ins = true ∧ bits ins 63 60 = 1 ∧ bits ins 57 56 = 1 ∧ bits ins 55 54 = 1 ∧ s.rd SL_INJECT_INJ_OPMEM (sliceIdx k t) = 0 ∧ sget 0 (s.slice_ (sliceIdx k t)).opBad (s.rd SL_PTR_P_X (sliceIdx k t)) = 0 ∧ sget 0 (s.slice_ (sliceIdx k t)).opBad (s.rd SL_PTR_P_Y (sliceIdx k t)) = 0 ∧ (s.slice_ (sliceIdx k t)).loops = []) ∧
    (∃ (k : Fin 64) (t : Fin 96) (ins : _) (s : State), issues s (sliceIdx k t) ins = true ∧ bits ins 63 60 = 1 ∧ ((bits ins 57 56 = 2 ∨ bits ins 55 54 = 2)) ∧ (s.slice_ (sliceIdx k t)).inFifo = []) ∧
    (∃ (k : Fin 64) (t : Fin 96) (ins : _) (s : State), issues s (sliceIdx k t) ins = true ∧ bits ins 63 60 = 2 ∧ badNest (s.slice_ (sliceIdx k t)) (s.rd SL_PTR_PC (sliceIdx k t)) ins = false ∧ sget 0 (s.slice_ (sliceIdx k t)).progBad (64 + bits ins 59 58) = 0 ∧ sget 0 (s.slice_ (sliceIdx k t)).progBad 68 = 0) ∧
    (∃ (k : Fin 64) (t : Fin 96) (ins : _) (s : State), issues s (sliceIdx k t) ins = true ∧ bits ins 63 60 = 3 ∧ (s.slice_ (sliceIdx k t)).loops = [] ∧ bit ins 59 = false) ∧
    (∃ (k : Fin 64) (t : Fin 96) (ins : _) (s : State), issues s (sliceIdx k t) ins = true ∧ bits ins 63 60 = 3 ∧ (s.slice_ (sliceIdx k t)).loops = [] ∧ bit ins 59 = true ∧ (s.slice_ (sliceIdx k t)).outFifo.length < 8) ∧
    (∃ (k : Fin 64) (t : Fin 96) (ins : _) (s : State), issues s (sliceIdx k t) ins = true ∧ bits ins 63 60 = 4 ∧ (s.slice_ (sliceIdx k t)).loops = []) ∧
    (∃ (k : Fin 64) (t : Fin 96) (ins : _) (s : State), issues s (sliceIdx k t) ins = true ∧ bits ins 63 60 = 15) ∧
    (∃ (k : Fin 64) (t : Fin 96) (s : State), s.rd SL_STATUS_STATE (sliceIdx k t) = 1 ∧ sliceRuns s (sliceIdx k t) = true ∧ (s.slice_ (sliceIdx k t)).past = false ∧ s.rd SL_INJECT_INJ_PROG (sliceIdx k t) = 0 ∧ sget 0 (s.slice_ (sliceIdx k t)).progBad (s.rd SL_PTR_PC (sliceIdx k t)) = 0 ∧ badIns (sget 0 (s.slice_ (sliceIdx k t)).prog (s.rd SL_PTR_PC (sliceIdx k t))) = true) ∧
    (∃ (k : Fin 64) (t : Fin 96) (s : State), sliceRuns s (sliceIdx k t) = true ∧ slicePort s (sliceIdx k t) = true) ∧
    (∃ (k : Fin 64) (t : Fin 96) (s : State), sliceRuns s (sliceIdx k t) = true ∧ slicePort s (sliceIdx k t) = true ∧ s.rd SL_STATUS_STATE (sliceIdx k t) = 0) ∧
    (∃ (k : Fin 64) (t : Fin 96) (s : State), slicePort s (sliceIdx k t) = true ∧ (s.slice_ (sliceIdx k t)).inFifo.length < 16) ∧
    (∃ (k : Fin 64) (t : Fin 96) (w : _) (rest : List Nat) (s : State), slicePort s (sliceIdx k t) = true ∧ (s.slice_ (sliceIdx k t)).outFifo = w :: rest) :=
  ⟨⟨2, 3, inRun 2, by decide +kernel⟩,
   ⟨2, 3, (inRun 2).wr SL_STATUS_STATE 1 195, by decide +kernel⟩,
   ⟨2, 3, (inRun 2).wr SL_STATUS_STATE 2 195, by decide +kernel⟩,
   ⟨2, 3, (inRun 2).wr SL_STATUS_STATE 1 195, by decide +kernel⟩,
   ⟨2, 3, State.reset.wr RG_STATUS_PSTATE 3 2, by decide +kernel⟩,
   ⟨2, 3, 0, running 195 0, by decide +kernel⟩,
   ⟨2, 3, 0, ⟨5, 5, 0, 3⟩, [], (running 195 0).updSlice 195 fun u => { u with loops := [⟨5, 5, 0, 3⟩] }, by decide +kernel⟩,
   ⟨2, 3, 2 ^ 60 + 2 ^ 56 + 2 ^ 54 + 2 ^ 49 + 3 * 2 ^ 46, (running 195 (2 ^ 60 + 2 ^ 56 + 2 ^ 54 + 2 ^ 49 + 3 * 2 ^ 46)).updSlice 195 fun u => { u with opmem := [(0, 2 ^ 32 * 7 + 5)], acc0 := 3 }, by decide +kernel⟩,
   ⟨2, 3, 2 ^ 60 + 2 ^ 57, running 195 (2 ^ 60 + 2 ^ 57), by decide +kernel⟩,
   ⟨2, 3, 2 * 2 ^ 60 + 3 * 2 ^ 32 + 4, running 195 (2 * 2 ^ 60 + 3 * 2 ^ 32 + 4), by decide +kernel⟩,
   ⟨2, 3, 3 * 2 ^ 60 + 2 ^ 52 + 2 ^ 47, (running 195 (3 * 2 ^ 60 + 2 ^ 52 + 2 ^ 47)).updSlice 195 fun u => { u with acc0 := 31, acc1 := 6 }, by decide +kernel⟩,
   ⟨2, 3, 3 * 2 ^ 60 + 2 ^ 59, (running 195 (3 * 2 ^ 60 + 2 ^ 59)).updSlice 195 fun u => { u with acc0 := 31, acc1 := 6 }, by decide +kernel⟩,
   ⟨2, 3, 4 * 2 ^ 60 + 2 ^ 58 + 77, running 195 (4 * 2 ^ 60 + 2 ^ 58 + 77), by decide +kernel⟩,
   ⟨2, 3, 15 * 2 ^ 60, running 195 (15 * 2 ^ 60), by decide +kernel⟩,
   ⟨2, 3, running 195 (5 * 2 ^ 60), by decide +kernel⟩,
   ⟨2, 3, running 195 0, by decide +kernel⟩,
   ⟨2, 3, (inRun 2), by decide +kernel⟩,
   ⟨2, 3, (inRun 2), by decide +kernel⟩,
   ⟨2, 3, 12, [], (inRun 2).updSlice 195 fun u => { u with outFifo := [12] }, by decide +kernel⟩⟩

theorem witness_RegionResults :
    (∃ (k : Fin 64) (s : State), s.rd RG_STATUS_PSTATE k < 2 ∧ s.rd SWAP_STATUS_STATE 0 k ≠ 2 ∧ s.rd SWAP_STATUS_STATE 0 k ≠ 3 ∧ s.rd SWAP_STATUS_STATE 0 k ≠ 5) ∧
    (∃ (k : Fin 64) (s : State), (2 ≤ s.rd RG_STATUS_PSTATE k ∨ s.rd SWAP_STATUS_STATE 0 k = 2 ∨ s.rd SWAP_STATUS_STATE 0 k = 3 ∨ s.rd SWAP_STATUS_STATE 0 k = 5)) ∧
    (∃ (k : Fin 64) (l : List Nat) (s : State), l.length = 65 ∧ s.rd RG_INJECT_INJ_TEMP k = 0) ∧
    (∃ (k : Fin 64) (m : Fin 1024) (s : State), s.rd RG_INJECT_INJ_BIAS k = 0 ∧ s.flag RG_STATUS_BIAS_FAULT k = false ∧ (biasOf m - biasOf (s.rd RG_BIAS_TARGET k)).natAbs > 25) ∧
    (∃ (k : Fin 64) (m : Fin 1024) (s : State), (biasOf m - biasOf (s.rd RG_BIAS_TARGET k)).natAbs ≤ 25) ∧
    (∃ (k : Fin 64) (m : Fin 1024) (s : State), 25 < (biasOf m - biasOf (s.rd RG_BIAS_TARGET k)).natAbs) :=
  ⟨⟨2, (running 195 0).wr RG_ROLE_MOVED_COUNT 5 2, by decide +kernel⟩,
   ⟨2, State.reset.wr RG_STATUS_PSTATE 3 2, by decide +kernel⟩,
   ⟨2, List.replicate 65 160, State.reset, by decide +kernel⟩,
   ⟨2, 50, State.reset, by decide +kernel⟩,
   ⟨2, 20, State.reset.wr RG_STATUS_BIAS_FAULT 1 2, by decide +kernel⟩,
   ⟨2, 50, State.reset, by decide +kernel⟩⟩

theorem witness_ConfigLoadResults :
    (∃ (r : Fin 64) (o : Op) (s : State), Waits s r 0x10 o ∧ cfgBusy s = false) ∧
    (∃ (r : Fin 64) (o : Op) (s : State), Waits s r 0x10 o ∧ cfgBusy s = true) ∧
    (∃ (h : _) (s : State), cfgState s = 1 ∧ s.cfg.src = 0 ∧ 64 ≤ s.cfg.len ∧ h = memBytes (streamMem s) s.cfg.addr 64 ∧ leAt (memBytes (streamMem s) s.cfg.addr 4) 0 4 = 0x4643584C ∧ flawF2 s h = none ∧ s.cfg.refusedAt = none) ∧
    (∃ (s : State), cfgState s = 1 ∧ streamAlarmed s = false ∧ s.cfg.refusedAt = none) ∧
    (∃ (s : State), cfgState s = 2 ∧ s.cfg.clearOnly = false) ∧
    (∃ (k : _) (s : State), cfgState s = 2 ∧ s.cfg.clearOnly = true ∧ k ∈ s.cfg.swap) ∧
    (∃ (h : _) (b : _) (n : _) (s : State), cfgState s = 3 ∧ s.cfg.decoding = false ∧ s.cfg.prevEnd ≤ s.rd CFG_FRAMES_FRAMES ∧ s.flag CFG_STATUS_FORMAT = false ∧ s.flag CFG_STATUS_ENCRYPTED = false ∧ s.rd CFG_INJECT_INJ_AUTH = 0 ∧ s.cfg.src = 0 ∧ h = memBytes (streamMem s) (s.cfg.addr + s.cfg.pos) 16 ∧ n = leAt h 4 4 ∧ b = memBytes (streamMem s) (s.cfg.addr + (s.cfg.pos + 16)) (n + 16) ∧ s.cfg.pos + 32 + n ≤ s.cfg.len ∧ leAt h 0 4 = s.cfg.seg ∧ n % 4 = 0 ∧ 4 ≤ n ∧ n ≤ 524288 ∧ leAt h 8 4 ≤ 1024 ∧ leAt h 12 4 = (if s.cfg.seg + 1 = s.cfg.segments then 1 else 0) ∧ leNat ((byteVals (b.drop n)).take 4) = crc32 (h ++ b.take n) ∧ ((byteVals (b.drop n)).drop 4).all (· == 0) = true) ∧
    (∃ (h : _) (b : _) (s : State), cfgState s = 3 ∧ s.cfg.decoding = false ∧ s.cfg.prevEnd ≤ s.rd CFG_FRAMES_FRAMES ∧ s.flag CFG_STATUS_FORMAT = true ∧ s.cfg.src = 0 ∧ s.cfg.run = none ∧ h = memBytes (streamMem s) (s.cfg.addr + s.cfg.pos) 8 ∧ leAt h 4 4 ≠ 0 ∧ b = memBytes (streamMem s) (s.cfg.addr + (s.cfg.pos + 8)) (leAt h 4 4 * 384) ∧ bits (leAt h 0 4) 30 20 = 0 ∧ bits (leAt h 0 4) 19 0 + leAt h 4 4 ≤ frameCount ∧ s.cfg.pos + 8 + leAt h 4 4 * 384 ≤ s.cfg.len) ∧
    (∃ (s : State), cfgState s = 3 ∧ s.cfg.decoding = false ∧ s.cfg.prevEnd ≤ s.rd CFG_FRAMES_FRAMES ∧ streamAlarmed s = false) ∧
    (∃ (s : State), cfgState s = 4 ∧ s.offset = 0 ∧ ((s.cfg.fixTick = none ∨ credited s = true)) ∧ s.rd CFG_RELEASE_TICK_TICK ≤ s.now) ∧
    (∃ (s : State), cfgState s ≠ 0) ∧
    (∃ (s : State), cfgState s = 0) ∧
    (∃ (x : _) (s : State), s.cfg.abort = some x ∧ x < s.now ∧ cfgState s ≠ 0 ∧ cfgState s ≠ 1 ∧ releaseStands s = false) ∧
    (∃ (x : _) (s : State), s.cfg.abort = some x ∧ x < s.now ∧ releaseStands s = true) :=
  ⟨⟨3, opOf 3 0 0x10 [64, 200], withOps [opOf 3 0 0x10 [64, 200]], by decide +kernel⟩,
   ⟨3, opOf 3 0 0x10 [64, 200], (withOps [opOf 3 0 0x10 [64, 200]]).wr CFG_STATUS_STATE 3, by decide +kernel⟩,
   ⟨memBytes (memWr [] 64 0x4bf4afe9000000000000000000000000000000000000000500000001000000010000000000000007ffffffffffffffff0000000a1537656f000000024643584c 64) 64 64, (State.reset.wr CFG_STATUS_STATE 1).updHostMem (fun _ => memWr [] 64 0x4bf4afe9000000000000000000000000000000000000000500000001000000010000000000000007ffffffffffffffff0000000a1537656f000000024643584c 64) |> upC fun c => { c with addr := 64, len := 200 }, by decide +kernel⟩,
   ⟨State.reset.wr CFG_STATUS_STATE 1, by decide +kernel⟩,
   ⟨State.reset.wr CFG_STATUS_STATE 2, by decide +kernel⟩,
   ⟨5, State.reset.wr CFG_STATUS_STATE 2 |> upC fun c => { c with clearOnly := true, swap := [5] }, by decide +kernel⟩,
   ⟨memBytes (memWr [] 128 0x3bdbc55e070000000000000000000001000000000000000800000000 40) 128 16, memBytes (memWr [] 128 0x3bdbc55e070000000000000000000001000000000000000800000000 40) 144 24, 8, (State.reset.wr CFG_STATUS_STATE 3).updHostMem (fun _ => memWr [] 128 0x3bdbc55e070000000000000000000001000000000000000800000000 40) |> upC fun c => { c with addr := 64, len := 200, pos := 64, segments := 1 }, by decide +kernel⟩,
   ⟨memBytes (memWr [] 128 0x70000000100000005 392) 128 8, memBytes (memWr [] 128 0x70000000100000005 392) 136 384, ((State.reset.wr CFG_STATUS_STATE 3).wr CFG_STATUS_FORMAT 1).updHostMem (fun _ => memWr [] 128 0x70000000100000005 392) |> upC fun c => { c with addr := 64, len := 600, pos := 64 }, by decide +kernel⟩,
   ⟨State.reset.wr CFG_STATUS_STATE 3, by decide +kernel⟩,
   ⟨State.reset.wr CFG_STATUS_STATE 4 |> upC fun c => { c with mask := 5 }, by decide +kernel⟩,
   ⟨State.reset.wr CFG_STATUS_STATE 3, by decide +kernel⟩,
   ⟨State.reset, by decide +kernel⟩,
   ⟨4, (State.reset.wr CFG_STATUS_STATE 3).wr TICK_NOW_TICK 5 |> upC fun c => { c with abort := some 4 }, by decide +kernel⟩,
   ⟨4, (State.reset.wr CFG_STATUS_STATE 4).wr TICK_NOW_TICK 5 |> upC fun c => { c with abort := some 4 }, by decide +kernel⟩⟩

theorem witness_ConfigCommandResults :
    (∃ (w : _) (s : State), nextCommand 0 s = some (.inr w) ∧ bits w 23 0 = 0 ∧ 4 < s.cfg.payload.length) ∧
    (∃ (w : _) (s : State), nextCommand 0 s = some (.inr w) ∧ bits w 23 0 ≠ 0) ∧
    (∃ (w : _) (s : State), nextCommand 1 s = some (.inr w) ∧ bits w 23 7 = 0 ∧ bits w 6 0 ≤ 0x40 ∧ 4 < s.cfg.payload.length) ∧
    (∃ (w : _) (b : _) (s : State), nextCommand 2 s = some (.inr w) ∧ s.cfg.block = some b ∧ bits w 23 22 = 0 ∧ 4 * (1 + 96 * (bits w 21 15 + 1)) < s.cfg.payload.length ∧ bits w 21 15 + 1 ≤ s.cfg.bodies ∧ mayWrite s b (bits w 13 0) = true ∧ mayWrite s b (bits w 13 0 + bits w 21 15) = true) ∧
    (∃ (w : _) (s : State), nextCommand 3 s = some (.inr w) ∧ bits w 13 10 = 0 ∧ bits w 23 15 = 0 ∧ 4 * (97 + (bits w 9 0 + 1)) < s.cfg.payload.length ∧ 1 ≤ s.cfg.bodies ∧ ((∀ j, j ≤ bits w 9 0 → leAt s.cfg.payload (388 + 4 * j) 4 < 2 ^ 23 ∧ bits (leAt s.cfg.payload (388 + 4 * j) 4) 15 14 = 0 ∧ mayWrite s (bits (leAt s.cfg.payload (388 + 4 * j) 4) 22 16) (bits (leAt s.cfg.payload (388 + 4 * j) 4) 13 0) = true))) ∧
    (∃ (w : _) (s : State), nextCommand 4 s = some (.inr w) ∧ bits w 23 0 = 0 ∧ 8 < s.cfg.payload.length ∧ s.cfg.queue = [] ∧ s.rd CFG_INJECT_INJ_CHECK = 0 ∧ leAt s.cfg.payload 4 4 = s.cfg.crc ^^^ 0xFFFFFFFF) ∧
    (∃ (w : _) (s : State), nextCommand 4 s = some (.inr w) ∧ bits w 23 0 = 0 ∧ 8 ≤ s.cfg.payload.length ∧ s.cfg.queue = [] ∧ s.rd CFG_INJECT_INJ_CHECK = 0 ∧ leAt s.cfg.payload 4 4 ≠ s.cfg.crc ^^^ 0xFFFFFFFF) ∧
    (∃ (w : _) (s : State), nextCommand 5 s = some (.inr w) ∧ bits w 23 0 = 0 ∧ 12 < s.cfg.payload.length ∧ s.cfg.fixTick = none) ∧
    (∃ (w : _) (s : State), nextCommand 6 s = some (.inr w) ∧ bits w 23 0 = 0 ∧ s.cfg.last = false ∧ s.cfg.bodies = 0 ∧ s.cfg.payload.length = 4) ∧
    (∃ (w : _) (s : State), nextCommand 7 s = some (.inr w) ∧ bits w 23 0 = 0 ∧ s.cfg.last = true ∧ s.cfg.bodies = 0 ∧ s.cfg.payload.length = 4 ∧ s.cfg.queue = [] ∧ s.rd CFG_FRAMES_FRAMES = s.cfg.writes ∧ s.cfg.swap = []) ∧
    (∃ (w : _) (s : State), nextCommand 7 s = some (.inr w) ∧ bits w 23 0 = 0 ∧ s.cfg.last = true ∧ s.cfg.bodies = 0 ∧ s.cfg.payload.length = 4 ∧ s.cfg.queue = [] ∧ s.rd CFG_FRAMES_FRAMES ≠ s.cfg.writes) ∧
    (∃ (w : CfgWrite) (rest : _) (s : State), cfgState s = 3 ∧ streamAlarmed s = false ∧ s.cfg.queue = w :: rest) ∧
    (∃ (w : _) (s : State), cfgState s = 3 ∧ s.cfg.decoding = true ∧ w = leAt s.cfg.payload 0 4 ∧ 7 < bits w 31 24) :=
  ⟨⟨0, decoding 0 8, by decide +kernel⟩,
   ⟨1, decoding 1 8, by decide +kernel⟩,
   ⟨0x01000005, decoding 0x01000005 8, by decide +kernel⟩,
   ⟨0x02000007, 5, decoding 0x02000007 392 |> upC fun c => { c with block := some 5, bodies := 1, mask := 32 }, by decide +kernel⟩,
   ⟨0x03000000, decoding (0x03000000 + 0x50009 * 2 ^ (8 * 388)) 396 |> upC fun c => { c with bodies := 1, mask := 32 }, by decide +kernel⟩,
   ⟨0x04000000, decoding 0x04000000 12, by decide +kernel⟩,
   ⟨0x04000000, decoding 0x104000000 12, by decide +kernel⟩,
   ⟨0x05000000, decoding 0x705000000 16, by decide +kernel⟩,
   ⟨0x06000000, decoding 0x06000000 4, by decide +kernel⟩,
   ⟨0x07000000, decoding 0x07000000 4 |> upC fun c => { c with last := true }, by decide +kernel⟩,
   ⟨0x07000000, decoding 0x07000000 4 |> upC fun c => { c with last := true, writes := 4 }, by decide +kernel⟩,
   ⟨⟨9, true, 77⟩, [], decoding 0 4 |> upC fun c => { c with queue := [⟨9, true, 77⟩] }, by decide +kernel⟩,
   ⟨0x08000000, decoding 0x08000000 4, by decide +kernel⟩⟩

theorem witness_SwapScrubResults :
    (∃ (k : Fin 64) (q : _) (s : State), (s.region_ k).swap = some q ∧ s.rd SWAP_STATUS_STATE 0 k = 1 ∧ portDrained s (portRegion k 0) = true ∧ portDrained s (portRegion k 1) = true) ∧
    (∃ (k : Fin 64) (s : State), ((s.rd SWAP_STATUS_STATE 0 k ≠ 1 ∨ portDrained s (portRegion k 0) = false))) ∧
    (∃ (k : Fin 64) (q : _) (s : State), (s.region_ k).swap = some q ∧ s.rd SWAP_STATUS_STATE 0 k = 1 ∧ s.offset = 0 ∧ q.start + max 1 q.drain ≤ s.now ∧ portDrained s (portRegion k 0) = false) ∧
    (∃ (k : Fin 64) (q : _) (s : State), (s.region_ k).swap = some q ∧ groupReady s k = true ∧ q.mode ≠ 2) ∧
    (∃ (k : Fin 64) (q : _) (s : State), (s.region_ k).swap = some q ∧ groupReady s k = true ∧ q.mode = 2) ∧
    (∃ (k : Fin 64) (q : _) (s : State), (s.region_ k).swap = some q ∧ s.rd SWAP_STATUS_STATE 0 k = 4 ∧ s.offset = 0 ∧ credited s = true ∧ (s.region_ k).openFrom ≤ s.now) ∧
    (∃ (s : State), s.flag SCRUB_CTRL_ENABLE = true ∧ s.flag SCRUB_STATUS_BORROWED = false ∧ addrIdx (s.rd SCRUB_POS_ADDR) + 1 < frameCount) ∧
    (∃ (l : _) (s : State), s.flag SCRUB_CTRL_ENABLE = true ∧ s.flag SCRUB_STATUS_BORROWED = false ∧ l = addrIdx (s.rd SCRUB_POS_ADDR) ∧ scrubExcludes s (frameBlock l) = false ∧ sget 0 s.frameDyn l = 0 ∧ sget 0 s.frameBad l = 1 ∧ s.rd SCRUB_INJECT_INJ_SINGLE = 0 ∧ s.rd SCRUB_INJECT_INJ_DOUBLE = 0) ∧
    (∃ (s : State), s.flag SCRUB_CTRL_ENABLE = false ∧ s.flag SCRUB_STATUS_RUNNING = false) ∧
    (∃ (k : Fin 64) (due : _) (s : State), s.cfg.reloads = [(k.val, due)] ∧ s.offset = 0 ∧ due ≤ s.now ∧ credited s = true ∧ hasApply s s.now = true ∧ s.flag RG_STATUS_SWAP k = false ∧ s.rd RG_STATUS_PSTATE k ≠ 2 ∧ (∀ j : Fin 64, s.flag RG_STATUS_SWAP j = false) ∧ s.rd RELOAD_LEN_BYTES 0 k ≠ 0) ∧
    (∃ (k : Fin 64) (due : _) (s : State), s.cfg.reloads = [(k.val, due)] ∧ s.offset = 0 ∧ due ≤ s.now ∧ credited s = true ∧ hasApply s s.now = true ∧ s.rd RELOAD_LEN_BYTES 0 k = 0) ∧
    (∃ (k : Fin 64) (s : State), (s.cfg.reloads.any fun x => x.1 == k.val) = false) :=
  ⟨⟨5, aSwap, (State.reset.wr SWAP_STATUS_STATE 1 0 5) |> updRegion 5 fun u => { u with swap := some aSwap }, by decide +kernel⟩,
   ⟨5, State.reset, by decide +kernel⟩,
   ⟨5, aSwap, ((State.reset.wr SWAP_STATUS_STATE 1 0 5).wr TICK_NOW_TICK 9).updNoc (fun n => { n with revokes := [(portRegion 5 0, 3, false)] }) |> updRegion 5 fun u => { u with swap := some aSwap }, by decide +kernel⟩,
   ⟨5, aSwap, ((State.reset.wr SWAP_STATUS_STATE 2 0 5).wr RG_STATUS_SWAP 1 5) |> updRegion 5 fun u => { u with swap := some aSwap }, by decide +kernel⟩,
   ⟨5, { aSwap with mode := 2 }, ((State.reset.wr SWAP_STATUS_STATE 2 0 5).wr RG_STATUS_SWAP 1 5) |> updRegion 5 fun u => { u with swap := some { aSwap with mode := 2 } }, by decide +kernel⟩,
   ⟨5, aSwap, ((State.reset.wr SWAP_STATUS_STATE 4 0 5).wr RG_STATUS_SWAP 1 5) |> updRegion 5 fun u => { u with swap := some aSwap }, by decide +kernel⟩,
   ⟨State.reset.setb SCRUB_CTRL_ENABLE true, by decide +kernel⟩,
   ⟨7, ((State.reset.setb SCRUB_CTRL_ENABLE true).wr SCRUB_POS_ADDR 0x400007).updFrameBad fun _ => [(7, 1)], by decide +kernel⟩,
   ⟨State.reset.wr SCRUB_CTRL_ENABLE 0, by decide +kernel⟩,
   ⟨5, 0, (withSlot 1 0 0 (inRun 5)).wr RELOAD_LEN_BYTES 64 0 5 |> upC fun c => { c with reloads := [(5, 0)] }, by decide +kernel⟩,
   ⟨5, 0, withSlot 1 0 0 (inRun 5) |> upC fun c => { c with reloads := [(5, 0)] }, by decide +kernel⟩,
   ⟨5, State.reset, by decide +kernel⟩⟩

theorem witness_NocRequestResults :
    (∃ (k : Fin 64) (p : Fin 2) (kind : Fin 16) (dst : Fin 128) (dp : Fin 4) (addr : Nat) (bytes : Fin 1024) (tag : Fin 256) (s : State), xactAt s (portRegion k p) tag = none ∧ ((kind = 2 ∨ kind = 3)) ∧ dst.val < 120 ∧ attached (4 * dst + dp) = true ∧ addr < 2 ^ 38 ∧ addr % 1024 + bytes + 1 ≤ 1024 ∧ portState s (portRegion k p) = 0 ∧ regionPort s k p = true ∧ portPressed s (portRegion k p) = false) ∧
    (∃ (k : Fin 64) (p : Fin 2) (kind : Fin 16) (tag : Fin 256) (s : State), xactAt s (portRegion k p) tag = none ∧ kind ≠ 2 ∧ kind ≠ 3 ∧ regionPort s k p = true ∧ portPressed s (portRegion k p) = false) ∧
    (∃ (k : Fin 64) (p : Fin 2) (tag : Fin 256) (s : State), (((xactAt s (portRegion k p) tag).isSome = true ∨ regionPort s k p = false ∨ portPressed s (portRegion k p) = true))) ∧
    (∃ (k : Fin 64) (p : Fin 2) (tag : Fin 256) (s : State), (((xactAt s (portRegion k p) tag).isSome = true ∨ regionPort s k p = false ∨ portPressed s (portRegion k p) = true))) ∧
    (∃ (q : Fin 480) (tag : Fin 256) (x : _) (s : State), xactAt s q tag = some x ∧ x.phase = .reserve ∧ inOrder s x = true ∧ portState s x.dst = 0 ∧ portState s x.src = 0 ∧ (travel x.src x.dst 1 none s).1 = false ∧ grantable s x = true) ∧
    (∃ (q : Fin 480) (tag : Fin 256) (x : _) (s : State), xactAt s q tag = some x ∧ x.phase = .reserve ∧ inOrder s x = true ∧ portState s x.dst = 0 ∧ portState s x.src = 0 ∧ (travel x.src x.dst 1 none s).1 = false ∧ grantable s x = false ∧ s.noc.xacts.countP (fun y => y.dst == x.dst && y.phase == .queued) < 64) ∧
    (∃ (q : Fin 480) (tag : Fin 256) (x : _) (s : State), xactAt s q tag = some x ∧ x.phase = .reserve ∧ inOrder s x = true ∧ ((portState s x.dst ≠ 0 ∨ portState s x.src ≠ 0))) ∧
    (∃ (q : Fin 480) (tag : Fin 256) (x : _) (s : State), xactAt s q tag = some x ∧ x.phase = .grant Code.OK ∧ inOrder s x = true ∧ (travel x.dst x.src 1 none s).1 = false ∧ x.respSpace ≤ responseFree s x.src) ∧
    (∃ (q : Fin 480) (tag : Fin 256) (x : _) (s : State), xactAt s q tag = some x ∧ x.phase = .grant Code.BUSY ∧ inOrder s x = true) ∧
    (∃ (q : Fin 480) (tag : Fin 256) (x : _) (s : State), xactAt s q tag = some x ∧ x.phase = .grant Code.DOMAIN_CLOSED ∧ inOrder s x = true ∧ (travel x.dst x.src 1 none s).1 = false) ∧
    (∃ (q : Fin 480) (tag : Fin 256) (x : _) (s : State), xactAt s q tag = some x ∧ x.phase = .retry ∧ x.since + 64 ≤ s.cycle ∧ reservesOut s q < 8 ∧ (s.noc.xacts.any fun y => y.src == q.val && y.phase == .waiting) = false) ∧
    (∃ (q : Fin 480) (tag : Fin 256) (x : _) (k : _) (s : State), xactAt s q tag = some x ∧ x.phase = .sent ∧ inOrder s x = true ∧ (travel x.src x.dst x.flits none s).1 = false ∧ regionOf x.dst = some k ∧ portState s x.dst ≠ 2 ∧ x.epoch = s.rd RG_EPOCH_EPOCH k) ∧
    (∃ (q : Fin 480) (tag : Fin 256) (x : _) (k : _) (s : State), xactAt s q tag = some x ∧ x.phase = .sent ∧ inOrder s x = true ∧ (travel x.src x.dst x.flits none s).1 = false ∧ regionOf x.dst = some k ∧ portState s x.dst ≠ 2 ∧ x.epoch ≠ s.rd RG_EPOCH_EPOCH k ∧ x.kind = 2) ∧
    (∃ (q : Fin 480) (tag : Fin 256) (x : _) (s : State), xactAt s q tag = some x ∧ x.phase = .sent ∧ inOrder s x = true ∧ (travel x.src x.dst x.flits none s).1 = false ∧ x.dst = portAt 4 0 0 ∧ x.addr + x.bytes ≤ 0x780000 ∧ x.addr % 8 = 0 ∧ x.bytes % 8 = 0 ∧ 0 < x.bytes ∧ regionAdmits s 3 x.addr x.bytes SP_RGN_PERM_W = true ∧ s.sp.queue = [] ∧ s.sp.portTo ≤ s.cycle ∧ x.kind = 3) ∧
    (∃ (q : Fin 480) (tag : Fin 256) (s : State), xactAt s q tag = none) ∧
    (∃ (k : _) (e : Slot) (x : _) (s : State), opening s 0x30 k = some e ∧ s.offset = e.start ∧ (s.noc.xacts.find? fun x => x.src == 4 * e.unit + bits e.param 11 8 && x.phase == .slot && x.dst / 4 == bits e.param 7 4 * 12 + bits e.param 3 0) = some x ∧ (s.noc.slotWins.any fun w => w.1 == k) = false ∧ x.flits ≤ bits e.param 27 12 ∧ x.sentPart = 0 ∧ coveredBy s x = true ∧ (responseRoom s { x with standing := true }).isSome = true) :=
  ⟨⟨9, 1, 3, 27, 0, 64, 7, 7, openPorts [portRegion 9 1] (portClocked 9), by decide +kernel⟩,
   ⟨9, 1, 4, 7, portClocked 9, by decide +kernel⟩,
   ⟨9, 1, 7, withXacts [aXact (portRegion 9 1) 2 0 .reserve], by decide +kernel⟩,
   ⟨9, 1, 9, openPorts [portRegion 9 1] ((portClocked 9).updNoc fun n => { n with xacts := [{ aXact (portRegion 9 1) 2 0 .slot with pressed := true }] }), by decide +kernel⟩,
   ⟨100, 7, aXact 100 2 (portRegion 9 0) .reserve, openPorts [100, portRegion 9 0] (withXacts [aXact 100 2 (portRegion 9 0) .reserve]), by decide +kernel⟩,
   ⟨100, 7, aXact 100 2 (portRegion 9 0) .reserve, openPorts [100, portRegion 9 0] ((withXacts [aXact 100 2 (portRegion 9 0) .reserve]).updNoc fun n => { n with standing := [⟨portRegion 9 0, 5, false, 256, 0⟩] }), by decide +kernel⟩,
   ⟨100, 7, aXact 100 2 (portRegion 9 0) .reserve, setPort 100 1 (withXacts [aXact 100 2 (portRegion 9 0) .reserve]), by decide +kernel⟩,
   ⟨100, 7, aXact 100 2 (portRegion 9 0) (.grant Code.OK), withXacts [aXact 100 2 (portRegion 9 0) (.grant Code.OK)], by decide +kernel⟩,
   ⟨100, 7, aXact 100 2 (portRegion 9 0) (.grant Code.BUSY), withXacts [aXact 100 2 (portRegion 9 0) (.grant Code.BUSY)], by decide +kernel⟩,
   ⟨100, 7, aXact 100 2 (portRegion 9 0) (.grant Code.DOMAIN_CLOSED), withXacts [aXact 100 2 (portRegion 9 0) (.grant Code.DOMAIN_CLOSED)], by decide +kernel⟩,
   ⟨100, 7, aXact 100 2 (portRegion 9 0) .retry, (withXacts [aXact 100 2 (portRegion 9 0) .retry]).updTick fun t => { t with base := 64 }, by decide +kernel⟩,
   ⟨100, 7, aXact 100 2 (portRegion 9 0) .sent, 9, openPorts [portRegion 9 0] (withXacts [aXact 100 2 (portRegion 9 0) .sent]), by decide +kernel⟩,
   ⟨100, 7, aXact 100 2 (portRegion 9 0) .sent, 9, openPorts [portRegion 9 0] ((withXacts [aXact 100 2 (portRegion 9 0) .sent]).wr RG_EPOCH_EPOCH 4 9), by decide +kernel⟩,
   ⟨100, 7, aXact 100 3 16 .sent, ((((withXacts [aXact 100 3 16 .sent]).wr SP_RGN_PERM_ENABLE 1 0 96).wr SP_RGN_PERM_W 1 0 96).wr SP_RGN_LIMIT_BLOCK 5 0 96), by decide +kernel⟩,
   ⟨100, 7, State.reset, by decide +kernel⟩,
   ⟨0, slotAt (withSlot 0x30 25 0x5022 State.reset).sched 0, aXact 100 2 104 .slot, openPorts [100, 104] (withSlot 0x30 25 0x5022 ((withXacts [aXact 100 2 104 .slot]).updNoc fun n => { n with standing := [⟨104, 100, false, 8, 8⟩] })), by decide +kernel⟩⟩

theorem witness_NocAnswerResults :
    (∃ (q : Fin 480) (tag : Fin 256) (x : Xact) (s : State), xactAt s q tag = some x ∧ x.phase = .answer ∧ inOrder s x = true ∧ x.discard = false ∧ x.returned = false ∧ x.late = false ∧ (travel x.dst x.src x.answerFlits none s).1 = false ∧ s.rd NR_INJECT_INJ_TIMEOUT (q / 4) = 0) ∧
    (∃ (q : Fin 480) (tag : Fin 256) (data : List Byte) (x : Xact) (s : State), xactAt s q tag = some x ∧ x.phase = .atTarget ∧ ((regionOf x.dst).any fun k => regionPort s k (x.dst % 4)) = true ∧ packetsOf s x 5 = [] ∧ x.discard = false ∧ x.returned = false ∧ x.late = false ∧ x.kind = 2 ∧ data.length = x.bytes ∧ (travel x.dst x.src x.answerFlits none s).1 = false ∧ s.rd NR_INJECT_INJ_TIMEOUT (q / 4) = 0) ∧
    (∃ (q : Fin 480) (tag : Fin 256) (x : _) (s : State), xactAt s q tag = some x ∧ x.phase = .answer ∧ x.returned = true ∧ inOrder s x = true ∧ x.discard = false ∧ x.late = false ∧ x.owner = .fabric ∧ (travel x.dst x.src x.answerFlits none s).1 = false ∧ s.rd NR_INJECT_INJ_TIMEOUT (q / 4) = 0) ∧
    (∃ (q : Fin 480) (h : Fin 480) (s : State), (q.val, h.val, false) ∈ s.noc.revokes) ∧
    (∃ (q : Fin 480) (h : Fin 480) (s : State), (s.noc.xacts.any fun x => x.standing && x.src == h.val && x.dst == q.val && (x.phase == .sent || x.phase == .slot || x.phase == .ready)) = false) ∧
    (∃ (q : Fin 480) (h : Fin 480) (s : State), (s.noc.xacts.any fun x => x.standing && x.src == h.val && x.dst == q.val && (x.phase == .sent || x.phase == .slot || x.phase == .ready)) = true) ∧
    (∃ (q : Fin 480) (tag : Fin 256) (x : _) (s : State), xactAt s q tag = some x ∧ x.inFlight = true ∧ x.late = false ∧ x.discard = false ∧ x.movedNow s.cycle = false ∧ x.sentAt + 2 ^ (s.rd PORT_CFG_TIMEOUT_EXP (q / 4) (q % 4) + 8) ≤ s.cycle) ∧
    (∃ (r : Fin 120) (q : Fin 480) (tag : Fin 256) (x : _) (j : Nat) (s : State), xactAt s q tag = some x ∧ x.phase = .sent ∧ x.sched = false ∧ s.rd NR_CTRL_AGE_LIMIT r ≠ 0 ∧ x.prio + x.aged < 3 ∧ ((routeOf x.src x.dst).findIdx? (·.1 == r.val)) = some j ∧ x.agedHop ≤ j ∧ x.reaches j + s.rd NR_CTRL_AGE_LIMIT r * 64 ≤ s.cycle) ∧
    (∃ (q : Fin 480) (s : State), portState s q = 1 ∧ portDrained s q = true ∧ s.pw.active = none) ∧
    (∃ (q : Fin 480) (s : State), ((portState s q ≠ 1 ∨ portDrained s q = false))) ∧
    (∃ (a : Alarm) (rest : _) (n : Fin 16) (line : Nat) (at_ : Nat) (s : State), s.enc.alarms = a :: rest ∧ ((List.range 16).find? fun n => streamReel n == a.sid) = some n.val ∧ ((reel s n).lines.find? fun l => l.1 == a.tag) = some (a.tag, line, at_) ∧ 9 + (reel s n).dictLines ≤ line ∧ reelState s n = 3) ∧
    (∃ (a : Alarm) (rest : _) (s : State), s.enc.alarms = a :: rest ∧ ((List.range 16).find? fun n => streamReel n == a.sid) = none ∧ a.sid = streamCfg ∧ cfgState s ≠ 0 ∧ s.cfg.src = 1) ∧
    (∃ (s : State), s.enc.alarms = []) ∧
    (∃ (x : _) (s : State), (s.noc.xacts.find? fun x => x.phase == .refused) = some x ∧ x.t0 + 2048 ≤ s.cycle) ∧
    (∃ (cls : _) (x : Nat) (n : Nat) (rest : _) (s : State), s.sp.refused = (cls, x, n) :: rest ∧ x + 2048 ≤ s.cycle) :=
  ⟨⟨100, 7, aXact 100 2 (portRegion 9 0) .answer, withXacts [aXact 100 2 (portRegion 9 0) .answer], by decide +kernel⟩,
   ⟨100, 7, [1, 2, 3, 4, 5, 6, 7, 9], aXact 100 2 (portRegion 9 0) .atTarget, (portClocked 9).updNoc fun n => { n with xacts := [aXact 100 2 (portRegion 9 0) .atTarget] }, by decide +kernel⟩,
   ⟨100, 7, { aXact 100 2 (portRegion 9 0) .answer with returned := true, status := Code.ROLE_MOVED, epochNow := 4 }, withXacts [{ aXact 100 2 (portRegion 9 0) .answer with returned := true, status := Code.ROLE_MOVED, epochNow := 4 }], by decide +kernel⟩,
   ⟨100, 50, State.reset.updNoc fun n => { n with revokes := [(100, 50, false)] }, by decide +kernel⟩,
   ⟨100, 50, State.reset.updNoc fun n => { n with revokes := [(100, 50, true)] }, by decide +kernel⟩,
   ⟨104, 100, withXacts [{ aXact 100 2 104 .sent with standing := true }], by decide +kernel⟩,
   ⟨100, 7, aXact 100 2 (portRegion 9 0) .sent, (withXacts [aXact 100 2 (portRegion 9 0) .sent]).updTick fun t => { t with base := 2 ^ 60 }, by decide +kernel⟩,
   ⟨25, 100, 7, aXact 100 2 (portRegion 9 0) .sent, 0, ((withXacts [aXact 100 2 (portRegion 9 0) .sent]).wr NR_CTRL_AGE_LIMIT 5 25).updTick fun t => { t with base := 322 }, by decide +kernel⟩,
   ⟨100, setPort 100 1 State.reset, by decide +kernel⟩,
   ⟨100, openPorts [100] State.reset, by decide +kernel⟩,
   ⟨{ sid := streamReel 2, tag := 5, addr := 0, chan := 0 }, [], 2, 12, 0, (State.reset.wr RE_STATUS_STATE 3 2).updEnc (fun e => { e with alarms := [{ sid := streamReel 2, tag := 5, addr := 0, chan := 0 }] }) |> updReel 2 fun u => { u with lines := [(5, 12, 0)] }, by decide +kernel⟩,
   ⟨{ sid := streamCfg, tag := 5, addr := 0, chan := 0 }, [], (State.reset.wr CFG_STATUS_STATE 3).updEnc (fun e => { e with alarms := [{ sid := streamCfg, tag := 5, addr := 0, chan := 0 }] }) |> upC fun c => { c with src := 1 }, by decide +kernel⟩,
   ⟨State.reset, by decide +kernel⟩,
   ⟨aXact 100 2 16 .refused, (withXacts [aXact 100 2 16 .refused]).updTick fun t => { t with base := 2048 }, by decide +kernel⟩,
   ⟨1, 4, 8, [], (State.reset.updTick fun t => { t with base := 2052 }).updSp fun p => { p with refused := [(1, 4, 8)] }, by decide +kernel⟩⟩

theorem witness_DdrResults :
    (∃ (k : _) (e : Slot) (s : State), opening s 0x40 k = some e ∧ s.offset = e.start ∧ chanState s e.unit = 2 ∧ bits e.param 5 4 < rankCount s e.unit ∧ s.rd DC_INJECT_INJ_REFMISS e.unit = 0) ∧
    (∃ (k : _) (e : Slot) (s : State), opening s 0x40 k = some e ∧ s.offset = e.start ∧ chanState s e.unit = 2 ∧ bits e.param 5 4 < rankCount s e.unit ∧ s.rd DC_INJECT_INJ_REFMISS e.unit = 0 ∧ rankFallback e.unit (bits e.param 5 4) s = s ∧ fallbackBusy s e.unit (bits e.param 5 4) = true) ∧
    (∃ (k : _) (e : Slot) (s : State), opening s 0x41 k = some e ∧ s.offset = e.start ∧ chanState s e.unit = 2 ∧ s.flag DC_CONFIG_RFM_REQUIRED e.unit = false) ∧
    (∃ (k : _) (e : Slot) (s : State), opening s 0x42 k = some e ∧ s.offset = e.start ∧ chanState s e.unit = 2 ∧ (ddr_ s e.unit).scrubSaved = none ∧ 1 ≤ bits e.param 23 8 ∧ scrubAhead s e.unit = false ∧ s.rd DC_SCRUB_POS_OFFSET e.unit + 64 < s.dramCapacity e.unit ∧ s.rd DC_SCRUB_POS_OFFSET e.unit < 2 ^ 37 ∧ inMasks s (e.unit * 2 ^ 37 + s.rd DC_SCRUB_POS_OFFSET e.unit) e.param = true ∧ bankBlocked s (e.unit * 2 ^ 37 + s.rd DC_SCRUB_POS_OFFSET e.unit) = false ∧ (s.rd DC_STATUS_PARKED e.unit).testBit (placeOf s (e.unit * 2 ^ 37 + s.rd DC_SCRUB_POS_OFFSET e.unit)).rank = false ∧ poisoned s (e.unit * 2 ^ 37 + s.rd DC_SCRUB_POS_OFFSET e.unit) = false ∧ (ddr_ s e.unit).wb = [] ∧ s.rd DC_INJECT_INJ_UE e.unit = 0 ∧ s.rd DC_INJECT_INJ_CE e.unit = 0 ∧ sget 0 s.dramBad ((e.unit * 2 ^ 37 + s.rd DC_SCRUB_POS_OFFSET e.unit) / 64) = 0) ∧
    (∃ (e : Slot) (s : State), chanState s e.unit ≠ 2) ∧
    (∃ (c : Fin 8) (r : Fin 4) (b : Fin 2) (inj : _) (s : State), chanState s c = 2 ∧ r.val < rankCount s c ∧ (s.rd DC_STATUS_PARKED c).testBit r = false ∧ (ddr_ s c).missed = [(r.val, b.val, inj)] ∧ inDataWindow s c = false ∧ (s.noc.xacts.any fun x => x.phase == .landed) = false) ∧
    (∃ (c : Fin 8) (s : State), chanState s c = 2 ∧ s.rd FI_MISC_INJECT_INJ_MR4 = 0) ∧
    (∃ (c : Fin 8) (addr : _) (rest : _) (s : State), (ddr_ s c).wb = (addr, false) :: rest ∧ chanState s c = 2 ∧ chanFallback c s = s ∧ lineHeld s addr = false) ∧
    (∃ (c : Fin 8) (addr : _) (rest : _) (s : State), (ddr_ s c).wb = (addr, true) :: rest ∧ chanState s c = 2 ∧ chanFallback c s = s ∧ lineHeld s addr = false) ∧
    (∃ (c : Fin 8) (s : State), chanState s c = 1) ∧
    (∃ (c : Fin 8) (s : State), chanState s c ≠ 1) ∧
    (∃ (r : Fin 64) (o : Op) (s : State), hearthTake s r 0x71 = some o ∧ opAt s r o.idx = some o ∧ bit (o.word 1) 8 = true) ∧
    (∃ (r : Fin 64) (o : Op) (x : _) (s : State), hearthTake s r 0x71 = some o ∧ opAt s r o.idx = some o ∧ bit (o.word 1) 8 = false ∧ o.origin = 0 ∧ (s.records.find? fun y => y.1 == bits (o.word 1) 2 0) = some x) ∧
    (∃ (r : Fin 64) (held : _) (o : Op) (s : State), hearthTake s r 0x72 = some o ∧ opAt s r o.idx = some o ∧ rankScheduled s (bits (o.word 1) 2 0) (bits (o.word 1) 5 4) = false ∧ chanState s (bits (o.word 1) 2 0) = 2 ∧ (∀ d : Fin 8, (ddr_ s d).repair = none) ∧ ((bit (o.word 1) 56 = false ∨ (held = false ∧ s.noc.xacts = [])))) ∧
    (∃ (r : Fin 64) (noRes : _) (o : Op) (s : State), hearthTake s r 0x72 = some o ∧ opAt s r o.idx = some o ∧ ((rankScheduled s (bits (o.word 1) 2 0) (bits (o.word 1) 5 4) = true ∨ noRes = true))) ∧
    (∃ (c : Fin 8) (q : Repair) (o : Op) (s : State), (ddr_ s c).repair = some q ∧ q.ring < 64 ∧ opAt s q.ring q.idx = some o ∧ o.isOpen = true) :=
  ⟨⟨0, slotAt (withSlot 0x40 3 0x311 State.reset).sched 0, (ddrUp 3 (withSlot 0x40 3 0x311 State.reset)).updTick fun t => { t with base := 999 }, by decide +kernel⟩,
   ⟨0, slotAt (withSlot 0x40 3 0x311 State.reset).sched 0, (ddrUp 3 (withSlot 0x40 3 0x311 State.reset)) |> updDdr_ 3 fun u => { u with fellBack := [(1, 1)] }, by decide +kernel⟩,
   ⟨0, slotAt (withSlot 0x41 3 1 State.reset).sched 0, (ddrUp 3 (withSlot 0x41 3 1 State.reset)) |> updDdr_ 3 fun u => { u with rfm := [(0, 0, 1, 5), (0, 0, 2, 6)] }, by decide +kernel⟩,
   ⟨0, slotAt (withSlot 0x42 3 0xFFFFFFFF00000578 State.reset).sched 0, ((ddrUp 3 (withSlot 0x42 3 0xFFFFFFFF00000578 State.reset)).wr DC_POLICY_SCRUB_HOURS 1 3).updTick fun t => { t with base := 10 ^ 12 }, by decide +kernel⟩,
   ⟨slotAt (withSlot 0x42 3 0x378 State.reset).sched 0, withSlot 0x42 3 0x378 State.reset, by decide +kernel⟩,
   ⟨3, 1, 0, false, (ddrUp 3 State.reset) |> updDdr_ 3 fun u => { u with missed := [(1, 0, false)] }, by decide +kernel⟩,
   ⟨3, ddrUp 3 State.reset, by decide +kernel⟩,
   ⟨3, 3 * 2 ^ 37 + 64, [], ((ddrUp 3 State.reset) |> updDdr_ 3 fun u => { u with wb := [(3 * 2 ^ 37 + 64, false)] }).updDramBad fun _ => [((3 * 2 ^ 37 + 64) / 64, 1)], by decide +kernel⟩,
   ⟨3, 3 * 2 ^ 37 + 64, [], (ddrUp 3 State.reset) |> updDdr_ 3 fun u => { u with wb := [(3 * 2 ^ 37 + 64, true)] }, by decide +kernel⟩,
   ⟨3, State.reset.wr DC_STATUS_STATE 1 3, by decide +kernel⟩,
   ⟨3, State.reset, by decide +kernel⟩,
   ⟨2, opOf 2 1 0x71 [0x103, 64], withHearth (opOf 2 1 0x71 [0x103, 64]), by decide +kernel⟩,
   ⟨2, opOf 2 1 0x71 [0x003, 64], (3, (⟨[5, 6], [], {}⟩ : TrainRec)), (withHearth (opOf 2 1 0x71 [0x003, 64])).updRecords fun _ => [(3, ⟨[5, 6], [], {}⟩)], by decide +kernel⟩,
   ⟨2, false, opOf 2 1 0x72 [0x13], ddrUp 3 (withHearth (opOf 2 1 0x72 [0x13])), by decide +kernel⟩,
   ⟨2, true, opOf 2 1 0x72 [0x13], ddrUp 3 (withHearth (opOf 2 1 0x72 [0x13])), by decide +kernel⟩,
   ⟨3, ⟨2, 1, 1, 0, 0, 0, false⟩, opOf 2 1 0x72 [0x13], (withOps [opOf 2 1 0x72 [0x13]]).wr DC_STATUS_PARKED 2 3 |> updDdr_ 3 fun u => { u with repair := some ⟨2, 1, 1, 0, 0, 0, false⟩ }, by decide +kernel⟩⟩

theorem witness_KeyResults :
    (∃ (r : Fin 64) (o : Op) (s : State), Waits s r 0x30 o ∧ s.rd EN_INJECT_INJ_REFUSE = 0 ∧ badWord o = false ∧ o.word 2 % 64 = 0) ∧
    (∃ (r : Fin 64) (o : Op) (s : State), Waits s r 0x31 o ∧ s.rd EN_INJECT_INJ_REFUSE = 0 ∧ badWord o = false) ∧
    (∃ (r : Fin 64) (o : Op) (s : State), Waits s r 0x32 o ∧ s.rd EN_INJECT_INJ_REFUSE = 0 ∧ badWord o = false ∧ bits (o.word 1) 5 0 ≠ 0 ∧ bits (o.word 1) 8 8 = 1 ∧ ((keyState s (bits (o.word 1) 5 0) = 1 ∨ keyState s (bits (o.word 1) 5 0) = 2))) ∧
    (∃ (r : Fin 64) (o : Op) (s : State), Waits s r 0x32 o ∧ s.rd EN_INJECT_INJ_REFUSE = 0 ∧ badWord o = false ∧ bits (o.word 1) 5 0 ≠ 0 ∧ bits (o.word 1) 8 8 = 1 ∧ ((keyState s (bits (o.word 1) 5 0) = 1 ∨ keyState s (bits (o.word 1) 5 0) = 2))) ∧
    (∃ (r : Fin 64) (o : Op) (s : State), Waits s r 0x32 o ∧ s.rd EN_INJECT_INJ_REFUSE = 0 ∧ badWord o = false ∧ bits (o.word 1) 5 0 ≠ 0 ∧ ((keyState s (bits (o.word 1) 5 0) = 0 ∨ keyState s (bits (o.word 1) 5 0) = 3))) ∧
    (∃ (j : KeyJob) (rest : List KeyJob) (o : Op) (s : State), s.enc.jobs = j :: rest ∧ j.ring < 64 ∧ opAt s j.ring j.idx = some o ∧ o.isOpen = true) ∧
    (∃ (k : _) (rest : List Nat) (s : State), s.offset = 0 ∧ s.enc.walk = none ∧ s.enc.retiring = k :: rest) ∧
    (∃ (w : Walk) (j : _) (rest : List Nat) (s : State), s.enc.walk = some w ∧ w.ranges = j :: rest ∧ s.enc.paced < max 1 (s.rd RK_CTRL_PACE) ∧ lineHeld s (s.rd RK_POS_ADDR) = false ∧ lineReach s (s.rd RK_POS_ADDR) ≠ Code.DOMAIN_CLOSED ∧ s.rd RK_POS_ADDR + 64 < rangeEnd s j) ∧
    (∃ (w : Walk) (s : State), s.enc.walk = some w ∧ w.ranges = [] ∧ s.rd KEY_STATE_TARGET 0 w.kid ≠ w.kid) ∧
    (∃ (r : Fin 64) (o : Op) (s : State), hearthTake s r 0x33 = some o ∧ badWord o = false ∧ o.word 2 % 64 = 0) :=
  ⟨⟨2, opOf 2 1 0x30 [5, 64], withOps [opOf 2 1 0x30 [5, 64]], by decide +kernel⟩,
   ⟨2, opOf 2 1 0x31 [5], (withOps [opOf 2 1 0x31 [5]]).wr KEY_STATE_STATE 1 0 5, by decide +kernel⟩,
   ⟨2, opOf 2 1 0x32 [0x105], (withOps [opOf 2 1 0x32 [0x105]]).wr KEY_STATE_STATE 1 0 5, by decide +kernel⟩,
   ⟨2, opOf 2 1 0x32 [0x105], (withOps [opOf 2 1 0x32 [0x105]]).wr KEY_STATE_STATE 2 0 5, by decide +kernel⟩,
   ⟨2, opOf 2 1 0x32 [0x105], withOps [opOf 2 1 0x32 [0x105]], by decide +kernel⟩,
   ⟨⟨2, 1, 3, 5, 0, 1, 0, 0, 0, true⟩, [], opOf 2 1 0x32 [0x105], ((withOps [opOf 2 1 0x32 [0x105]]).wr KEY_STATE_STATE 2 0 5).updEnc fun e => { e with jobs := [⟨2, 1, 3, 5, 0, 1, 0, 0, 0, true⟩] }, by decide +kernel⟩,
   ⟨5, [], State.reset.updEnc fun e => { e with retiring := [5] }, by decide +kernel⟩,
   ⟨⟨5, [3]⟩, 3, [], (State.reset.wr RANGE_LIMIT_SECTOR 9 0 3).updEnc fun e => { e with walk := some ⟨5, [3]⟩ }, by decide +kernel⟩,
   ⟨⟨5, []⟩, (((State.reset.wr KEY_STATE_STATE 3 0 5).wr KEY_STATE_TARGET 6 0 5).wr RANGE_STATUS_STATE 1 0 3).wr RANGE_STATUS_KEY_ID 5 0 3 |>.updEnc fun e => { e with walk := some ⟨5, []⟩, retiring := [5] }, by decide +kernel⟩,
   ⟨2, opOf 2 1 0x33 [5, 64], withHearth (opOf 2 1 0x33 [5, 64]), by decide +kernel⟩⟩

theorem witness_LaneResults :
    (∃ (st : Nat) (b : LaneBlock), st < 2 ^ 58 ∧ b.payload < 2 ^ 64) ∧
    (∃ (g : Fin 18) (i : Fin 8) (s : State), laneState s g i = 1 ∧ s.rd LG_STATUS_PLL_STATE g ≠ 3 ∧ s.dbg.pins ≠ 2 ∧ s.pw.active = none) ∧
    (∃ (g : Fin 18) (x : _) (s : State), (sget {} s.groups g.val).trainFrom = some x ∧ (sget {} s.groups g.val).timedOut = false ∧ x + 4500000 ≤ s.cycle ∧ (∃ i : Fin 8, laneState s g i = 1)) ∧
    (∃ (g : Fin 18) (i : Fin 8) (s : State), groupRole s g = 4 ∧ receives s g i = true ∧ s.flag LN_STATUS_BLOCK_LOCK g i = true ∧ s.rd LG_INJECT_INJ_BIP g = 0) ∧
    (∃ (g : Fin 18) (i : Fin 8) (s : State), groupRole s g = 1 ∧ receives s g i = true ∧ s.flag LN_STATUS_BLOCK_LOCK g i = true ∧ ((bondedSets (s.rd LG_ROLE_WORD0 g)).any fun l => l.contains i.val) = true ∧ s.rd LG_INJECT_INJ_BIP g = 0 ∧ s.rd FI_MISC_INJECT_INJ_DESKEW = 0) ∧
    (∃ (g : Fin 18) (i : Fin 8) (s : State), s.flag LN_STATUS_MARKER_LOCK g i = true) ∧
    (∃ (g : Fin 18) (i : Fin 8) (s : State), s.flag LN_STATUS_BLOCK_LOCK g i = true) ∧
    (∃ (g : Fin 18) (i : Fin 8) (s : State), receives s g i = true ∧ s.rd LG_INJECT_INJ_LOCK g = 0) ∧
    (∃ (g : Fin 18) (i : Fin 8) (s : State), slips s g i = true) ∧
    (∃ (g : Fin 18) (i : Fin 8) (on : _) (s : State), ((on = false ∨ prbsLane (s.rd LG_ROLE_WORD0 g) i = true))) ∧
    (∃ (g : Fin 18) (i : Fin 8) (s : State), prbsLane (s.rd LG_ROLE_WORD0 g) i = false) ∧
    (∃ (g : Fin 18) (i : Fin 8) (s : State), s.flag LN_PRBS_CTRL_RX_EN g i = true ∧ ((laneState s g i = 3 ∨ laneState s g i = 1))) ∧
    (∃ (g : Fin 18) (i : Fin 8) (s : State), s.flag LN_PRBS_CTRL_RX_EN g i = true ∧ ((laneState s g i = 3 ∨ laneState s g i = 1))) ∧
    (∃ (g : Fin 18) (i : Fin 8) (s : State), s.flag LN_PRBS_CTRL_RX_EN g i = true ∧ ((laneState s g i = 3 ∨ laneState s g i = 1))) ∧
    (∃ (g : Fin 18) (i : Fin 8) (v : _) (s : State), bit v 20 = true ∧ s.flag LN_EYE_CTRL_BUSY g i = false) ∧
    (∃ (g : Fin 18) (i : Fin 8) (s : State), s.flag LN_EYE_CTRL_BUSY g i = true) :=
  ⟨⟨12345678901, { control := true, payload := 0x123456789ABCDEF0 }, by decide +kernel⟩,
   ⟨2, 3, State.reset.wr LN_STATUS_STATE 1 2 3, by decide +kernel⟩,
   ⟨2, 0, ((State.reset.wr LN_STATUS_STATE 1 2 3).updGroups fun _ => [(2, { trainFrom := some 0 })]).updTick fun t => { t with base := 10 ^ 7 }, by decide +kernel⟩,
   ⟨2, 3, ((State.reset.wr LN_STATUS_STATE 3 2 3).wr LN_STATUS_BLOCK_LOCK 1 2 3).wr LG_ROLE_WORD0 4 2, by decide +kernel⟩,
   ⟨2, 3, ((State.reset.wr LN_STATUS_STATE 3 2 3).wr LN_STATUS_BLOCK_LOCK 1 2 3).wr LG_ROLE_WORD0 1 2, by decide +kernel⟩,
   ⟨2, 3, State.reset.wr LN_STATUS_MARKER_LOCK 1 2 3, by decide +kernel⟩,
   ⟨2, 3, (State.reset.wr LN_STATUS_MARKER_LOCK 1 2 3).wr LN_STATUS_BLOCK_LOCK 1 2 3, by decide +kernel⟩,
   ⟨2, 3, (State.reset.wr LN_STATUS_STATE 3 2 3).wr LG_ROLE_WORD0 1 2, by decide +kernel⟩,
   ⟨2, 3, (State.reset.wr LN_STATUS_STATE 3 2 3).wr LG_ROLE_WORD0 1 2, by decide +kernel⟩,
   ⟨2, 3, true, State.reset.wr LG_ROLE_WORD0 4 2, by decide +kernel⟩,
   ⟨2, 3, State.reset.wr LG_ROLE_WORD0 1 2, by decide +kernel⟩,
   ⟨2, 3, ((State.reset.wr LN_STATUS_STATE 3 2 3).wr LN_PRBS_CTRL_RX_EN 1 2 3).wr LN_PRBS_CTRL_RX_LOCK 1 2 3, by decide +kernel⟩,
   ⟨2, 3, (State.reset.wr LN_STATUS_STATE 3 2 3).wr LN_PRBS_CTRL_RX_EN 1 2 3, by decide +kernel⟩,
   ⟨2, 3, (State.reset.wr LN_STATUS_STATE 3 2 3).wr LN_PRBS_CTRL_RX_EN 1 2 3, by decide +kernel⟩,
   ⟨2, 3, 0x100005, State.reset, by decide +kernel⟩,
   ⟨2, 3, State.reset.wr LN_EYE_CTRL_BUSY 1 2 3, by decide +kernel⟩⟩

theorem witness_MeshLinkResults :
    (∃ (f : MeshFrame), f.seq < 2 ^ 16 ∧ f.ack < 2 ^ 16 ∧ f.kind < 4 ∧ f.vc < 2 ∧ f.data.length ≤ 134 ∧ (∀ w ∈ f.data, w < 2 ^ 64)) ∧
    (∃ (ack : _), ack < 2 ^ 16) ∧
    (∃ (l : Fin 144) (bl : _) (half : _) (s : State), ((linkState s l = 1 ∨ linkState s l = 2)) ∧ linkBlocks (linkU s l).partial_ bl = ([LinkEvent.crcError], half)) ∧
    (∃ (l : Fin 144) (s : State), ((linkState s l = 0 ∨ linkState s l = 3))) ∧
    (∃ (l : Fin 144) (w2 : _) (h : _) (s : State), linkState s l = 1 ∧ (linkU s l).partial_ = some h ∧ w2 % 2 ^ 64 ≠ s.rd MS_SERIAL_SERIAL) ∧
    (∃ (l : Fin 144) (a : Fin 65536) (s : State), linkState s l = 2 ∧ (linkU s l).replay = [] ∧ (linkU s l).partial_ = none ∧ a.val ≠ (linkU s l).expect) ∧
    (∃ (l : Fin 144) (bl : _) (half : _) (s : State), linkState s l = 2 ∧ linkBlocks (linkU s l).partial_ bl = ([LinkEvent.ackError], half)) ∧
    (∃ (l : Fin 144) (ack : Fin 65536) (x : Sent) (rest : List Sent) (s : State), linkState s l = 2 ∧ s.rd MS_INJECT_INJ_ACK_DROP = 0 ∧ (linkU s l).queue = [] ∧ (linkU s l).replay = x :: rest ∧ x.seq = ack.val) ∧
    (∃ (l : Fin 144) (ack : Fin 65536) (s : State), linkState s l = 2 ∧ s.rd MS_INJECT_INJ_ACK_DROP = 0 ∧ s.rd LK_SEQ_ACK_RX 0 l ≠ ack.val ∧ (∀ x ∈ (linkU s l).replay, x.seq ≠ ack.val)) ∧
    (∃ (l : Fin 144) (w2 : _) (s : State), linkState s l = 1 ∧ (linkU s l).partial_ = none ∧ w2 % 2 ^ 64 = s.rd MS_SERIAL_SERIAL) ∧
    (∃ (l : Fin 144) (w2 : _) (s : State), linkState s l = 1 ∧ (linkU s l).partial_ = none ∧ w2 % 2 ^ 64 ≠ s.rd MS_SERIAL_SERIAL) ∧
    (∃ (l : Fin 144) (w0 : _) (s : State), linkState s l = 2 ∧ (linkU s l).partial_ = none ∧ s.rd LK_PEER_SERIAL 0 l ≠ w0 % 2 ^ 64) ∧
    (∃ (l : Fin 144) (s : State), ((linkState s l = 1 ∨ linkState s l = 2)) ∧ linkReady s l = true) ∧
    (∃ (l : Fin 144) (s : State), linkReady s l = false) ∧
    (∃ (l : Fin 144) (s : State), linkState s l = 2 ∧ 450000 ≤ s.cycle - (linkU s l).helloAt) ∧
    (∃ (l : Fin 144) (s : State), s.cycle - (linkU s l).helloAt < 450000) ∧
    (∃ (l : Fin 144) (c : _) (s : State), linkState s l = 2 ∧ (linkU s l).notReady = some c ∧ 150000 ≤ s.cycle - c) ∧
    (∃ (l : Fin 144) (s : State), (linkU s l).notReady = none) ∧
    (∃ (l : Fin 144) (x : Sent) (rest : List Sent) (s : State), linkState s l = 2 ∧ linkReady s l = true ∧ (linkU s l).replay = x :: rest ∧ x.endAt + 3000 ≤ s.cycle) ∧
    (∃ (l : Fin 144) (s : State), linkState s l = 2 ∧ s.cycle < ((linkU s l).replay.map fun f => f.endAt + 3000).headD 0) ∧
    (∃ (l : Fin 144) (s : State), linkState s l = 2 ∧ linkReady s l = true ∧ (linkU s l).partial_ = none ∧ (linkU s l).replay = [] ∧ (linkU s l).queue = []) ∧
    (∃ (l : Fin 144) (s : State), isLink s l = true ∧ upLink s ≠ l.val ∧ backupLink s ≠ l.val ∧ linkState s l = 2 ∧ linkReady s l = true ∧ (linkU s l).replay = [] ∧ (linkU s l).quietRecv = false) ∧
    (∃ (l : Fin 144) (s : State), isLink s l = true ∧ ((upLink s = l.val ∨ backupLink s = l.val))) ∧
    (∃ (l : Fin 144) (s : State), isLink s l = true ∧ ((linkState s l = 2 ∨ linkState s l = 3))) ∧
    (∃ (l : Fin 144) (s : State), isLink s l = true) ∧
    (∃ (l : Fin 144) (s : State), isLink s l = false) ∧
    (∃ (l : Fin 144) (s : State), linkState s l = 3) ∧
    (∃ (l : Fin 144) (s : State), linkState s l ≠ 3) :=
  ⟨⟨{ seq := 41, ack := 0xFFFF, kind := 0, vc := 1, data := [5, 0x87, 2 ^ 64 - 1] }, by decide +kernel⟩,
   ⟨43, by decide +kernel⟩,
   ⟨16, ([{ control := true, payload := 0x99 }] : List LaneBlock), (none : Partial), linkUpAt 16, by decide +kernel⟩,
   ⟨16, State.reset, by decide +kernel⟩,
   ⟨16, State.reset.rd MS_SERIAL_SERIAL + 1, (0x87, [1]), updLink 16 (fun u => { u with partial_ := some (0x87, [1]) }) ((linkUpAt 16).wr LK_STATUS_STATE 1 0 16), by decide +kernel⟩,
   ⟨16, 65535, linkUpAt 16, by decide +kernel⟩,
   ⟨16, ([{ control := true, payload := 0x8A }] : List LaneBlock), (none : Partial), linkUpAt 16, by decide +kernel⟩,
   ⟨16, 7, ⟨7, 0, aPkt 5⟩, [], updLink 16 (fun u => { u with replay := [⟨7, 0, aPkt 5⟩] }) (linkUpAt 16), by decide +kernel⟩,
   ⟨16, 8, updLink 16 (fun u => { u with replay := [⟨7, 0, aPkt 5⟩] }) (linkUpAt 16), by decide +kernel⟩,
   ⟨16, State.reset.rd MS_SERIAL_SERIAL, (linkUpAt 16).wr LK_STATUS_STATE 1 0 16, by decide +kernel⟩,
   ⟨16, State.reset.rd MS_SERIAL_SERIAL + 1, (linkUpAt 16).wr LK_STATUS_STATE 1 0 16, by decide +kernel⟩,
   ⟨16, 99, linkUpAt 16, by decide +kernel⟩,
   ⟨16, linkUpAt 16, by decide +kernel⟩,
   ⟨16, State.reset, by decide +kernel⟩,
   ⟨16, (linkUpAt 16).updTick fun t => { t with base := 10 ^ 7 }, by decide +kernel⟩,
   ⟨16, linkUpAt 16, by decide +kernel⟩,
   ⟨16, 5, (updLink 16 (fun u => { u with notReady := some 5 }) (linkUpAt 16)).updTick fun t => { t with base := 10 ^ 7 }, by decide +kernel⟩,
   ⟨16, linkUpAt 16, by decide +kernel⟩,
   ⟨16, ⟨7, 0, aPkt 5⟩, [], (updLink 16 (fun u => { u with replay := [⟨7, 0, aPkt 5⟩] }) (linkUpAt 16)).updTick fun t => { t with base := 10 ^ 7 }, by decide +kernel⟩,
   ⟨16, updLink 16 (fun u => { u with replay := [⟨7, 1, aPkt 5⟩] }) (linkUpAt 16), by decide +kernel⟩,
   ⟨16, linkUpAt 16, by decide +kernel⟩,
   ⟨16, linkUpAt 16, by decide +kernel⟩,
   ⟨16, (linkUpAt 16).wr MS_TIME_CFG_UPLINK 16, by decide +kernel⟩,
   ⟨16, (linkUpAt 16).wr LK_STATUS_STATE 3 0 16, by decide +kernel⟩,
   ⟨16, linkUpAt 16, by decide +kernel⟩,
   ⟨16, State.reset, by decide +kernel⟩,
   ⟨16, (linkUpAt 16).wr LK_STATUS_STATE 3 0 16, by decide +kernel⟩,
   ⟨16, linkUpAt 16, by decide +kernel⟩⟩

theorem witness_MeshPacketResults :
    (∃ (l : Fin 144) (a : Fin 65536) (vc : _) (h0 : _) (h1 : _) (x : List Nat) (y : List Nat) (z : List Nat) (s : State), linkState s l = 2 ∧ (linkU s l).partial_ = none ∧ a.val = (linkU s l).expect ∧ 0 < freeOn s l (if vc then 1 else 0) ∧ (linkU s l).replay = [] ∧ (packetOf vc h0 h1 x y z).cls < 3 ∧ isLocal s (packetOf vc h0 h1 x y z) = true) ∧
    (∃ (l : Fin 144) (m : Fin 144) (a : Fin 65536) (h0 : _) (h1 : _) (x : List Nat) (y : List Nat) (z : List Nat) (q : _) (s : State), linkState s l = 2 ∧ (linkU s l).partial_ = none ∧ a.val = (linkU s l).expect ∧ 0 < freeOn s l 0 ∧ (linkU s l).replay = [] ∧ (packetOf false h0 h1 x y z).cls < 3 ∧ isLocal s (packetOf false h0 h1 x y z) = false ∧ routePkt s true (packetOf false h0 h1 x y z) = .inr (m.val, q) ∧ m ≠ l ∧ linkState s m = 2 ∧ (linkU s m).queue = []) ∧
    (∃ (l : Fin 144) (s : State), linkState s l = 2 ∧ linkReady s l = true ∧ s.now % timeDivision s = 0) ∧
    (∃ (l : Fin 144) (s : State), ((linkState s l ≠ 2 ∨ linkReady s l = false ∨ s.now % timeDivision s ≠ 0))) ∧
    (∃ (l : Fin 144) (w1 : _) (s : State), linkState s l = 2 ∧ (linkU s l).partial_ = none ∧ s.rd MS_INJECT_INJ_TIME_MISS = 0 ∧ bit w1 41 = false) ∧
    (∃ (s : State), alignMode s = 2 ∧ frozen s = false ∧ ((alignState s = 2 ∨ alignState s = 3)) ∧ s.tick.timeFrom + timeDivision s ≤ s.now) ∧
    (∃ (s : State), ((alignMode s ≠ 2 ∨ s.now < s.tick.timeFrom + timeDivision s))) ∧
    (∃ (s : State), ((allLinks s = [] ∨ reportNow s = false))) ∧
    (∃ (s : State), allLinks s ≠ [] ∧ reportNow s = true ∧ ((allLinks s).filter fun l => linkState s l != 0).length ≤ 16) ∧
    (∃ (p : Pkt) (l : Nat) (v : Nat) (e : List Byte) (s : State), s.mesh.local_ = [(p, l, v)] ∧ p.cls = 2 ∧ (entriesOf 16 p.payload).head? = some e ∧ wordAt e 8 ≠ s.rd MS_SERIAL_SERIAL ∧ s.mesh.seen = []) ∧
    (∃ (p : Pkt) (v : Nat) (s : State) (u : State), s.mesh.local_ = [(p, 255, v)] ∧ p.cls = 1 ∧ p.resp = false ∧ isLocal s (responseTo s p 0) = true ∧ accessHeld s (s.rd MS_INBOX_BASE_ADDR + p.offset) p.payload.length = false ∧ u = s.updMesh (fun m => { m with local_ := [] })) ∧
    (∃ (p : Pkt) (s : State), s.rd MS_INBOX_SIZE_BYTES < p.offset + p.payload.length) ∧
    (∃ (p : Pkt) (l : Nat) (v : Nat) (q : _) (x : _) (s : State), s.mesh.local_ = [(p, l, v)] ∧ p.cls = 1 ∧ p.resp = true ∧ s.mesh.out = [(p.tag, q, x)]) ∧
    (∃ (p : Pkt) (l : Nat) (v : Nat) (r : Nat) (k : Nat) (w : _) (s : State), s.mesh.local_ = [(p, l, v)] ∧ p.cls = 0 ∧ p.host = some (.descriptor r k w)) ∧
    (∃ (p : Pkt) (l : Nat) (v : Nat) (r : Nat) (k : Nat) (due : Nat) (w : _) (o : Op) (s : State), s.mesh.local_ = [(p, l, v)] ∧ p.cls = 0 ∧ p.host = some (.completion r k w) ∧ s.host.proxied = [(r, k, due)] ∧ k < 2 ^ 32 ∧ opAt s r k = some o) ∧
    (∃ (p : Pkt) (l : Nat) (v : Nat) (r : Nat) (k : Nat) (w : _) (s : State), s.mesh.local_ = [(p, l, v)] ∧ p.cls = 0 ∧ p.host = some (.completion r k w) ∧ s.host.proxied = []) ∧
    (∃ (p : Pkt) (l : Nat) (v : Nat) (a : Nat) (d : _) (s : State), s.mesh.local_ = [(p, l, v)] ∧ p.cls = 0 ∧ p.host = some (.write a d)) :=
  ⟨⟨16, 0, false, 2 * 2 ^ 24, 0, [], [], [], linkUpAt 16, by decide +kernel⟩,
   ⟨16, 20, 0, 5 + 2 ^ 24 + 2 ^ 27 + 9 * 2 ^ 28 + 2 ^ 34, 0, [20], [], [], { packetOf false (5 + 2 ^ 24 + 2 ^ 27 + 9 * 2 ^ 28 + 2 ^ 34) 0 [20] [] [] with hops := 8, routePos := 1 }, (linkUpAt 16).wr LK_STATUS_STATE 2 0 20, by decide +kernel⟩,
   ⟨16, linkUpAt 16, by decide +kernel⟩,
   ⟨16, State.reset, by decide +kernel⟩,
   ⟨16, 4 * 2 ^ 32, (linkUpAt 16).wr MS_TIME_CFG_UPLINK 16, by decide +kernel⟩,
   ⟨((creditedTick 64).wr ALIGN_CTRL_MODE 2).wr ALIGN_STATUS_STATE 2, by decide +kernel⟩,
   ⟨State.reset, by decide +kernel⟩,
   ⟨State.reset, by decide +kernel⟩,
   ⟨(linkUpAt 16).updMesh fun m => { m with reportDue := true }, by decide +kernel⟩,
   ⟨{ aPkt 5 with cls := 2, payload := List.replicate 64 7 }, 16, 0, List.replicate 64 7, (linkUpAt 16).updMesh fun m => { m with local_ := [({ aPkt 5 with cls := 2, payload := List.replicate 64 7 }, 16, 0)] }, by decide +kernel⟩,
   ⟨{ aPkt 5 with cls := 1, src := 5 }, 0, ownedBy 5 [({ aPkt 5 with cls := 1, src := 5 }, 255, 0)], (ownedBy 5 []), by decide +kernel⟩,
   ⟨{ aPkt 5 with payload := [1] }, State.reset, by decide +kernel⟩,
   ⟨{ aPkt 5 with cls := 1, resp := true, tag := 4 }, 255, 0, 3, 7, State.reset.updMesh fun m => { m with local_ := [({ aPkt 5 with cls := 1, resp := true, tag := 4 }, 255, 0)], out := [(4, 3, 7)] }, by decide +kernel⟩,
   ⟨{ aPkt 5 with host := some (.descriptor 3 1 [0, 0, 0, 0, 0, 0, 0, 0]) }, 255, 0, 3, 1, [0, 0, 0, 0, 0, 0, 0, 0], State.reset.updMesh fun m => { m with local_ := [({ aPkt 5 with host := some (.descriptor 3 1 [0, 0, 0, 0, 0, 0, 0, 0]) }, 255, 0)] }, by decide +kernel⟩,
   ⟨{ aPkt 5 with host := some (.completion 3 1 [2]) }, 255, 0, 3, 1, 9, [2], opOf 3 1 0x10 [], ((withOps [opOf 3 1 0x10 []]).updMesh fun m => { m with local_ := [({ aPkt 5 with host := some (.completion 3 1 [2]) }, 255, 0)] }).updHost fun h => { h with proxied := [(3, 1, 9)] }, by decide +kernel⟩,
   ⟨{ aPkt 5 with host := some (.completion 3 1 [2]) }, 255, 0, 3, 1, [2], State.reset.updMesh fun m => { m with local_ := [({ aPkt 5 with host := some (.completion 3 1 [2]) }, 255, 0)] }, by decide +kernel⟩,
   ⟨{ aPkt 5 with host := some (.write 64 [1, 2]) }, 255, 0, 64, [1, 2], (State.reset.wr MS_STATUS_GATEWAY 1).updMesh fun m => { m with local_ := [({ aPkt 5 with host := some (.write 64 [1, 2]) }, 255, 0)] }, by decide +kernel⟩⟩

theorem witness_HostDoorbellsAndRings :
    (∃ (r : Fin 64) (p : Nat) (s : State), s.flag HI_STATUS_READY = true ∧ s.rd HI_INJECT_INJ_DOORBELL = 0 ∧ idxDiff (p % 2 ^ 32) (s.rd CR_CONS_INDEX 0 r) ≤ ringSize s r ∧ idxDiff (p % 2 ^ 32) (s.rd CR_PROD_INDEX 0 r) < 2 ^ 31) ∧
    (∃ (r : Fin 64) (p : Nat) (s : State), s.flag HI_STATUS_READY = true ∧ ringSize s r < idxDiff (p % 2 ^ 32) (s.rd CR_CONS_INDEX 0 r)) ∧
    (∃ (s : State), s.flag HI_STATUS_READY = true) ∧
    (∃ (s : State), s.flag HI_STATUS_READY = true) ∧
    (∃ (s : State), s.flag HI_STATUS_READY = false) ∧
    (∃ (r : Fin 64) (v : _) (s : State), bit v 5 = true ∧ ringState s r = 0 ∧ s.flag HI_STATUS_READY = true ∧ 4 ≤ bits v 4 0 ∧ bits v 4 0 ≤ 16 ∧ s.rd CR_BASE_ADDR 0 r % 4096 = 0 ∧ s.rd CQ_BASE_ADDR 0 r % 4096 = 0) ∧
    (∃ (r : Fin 64) (v : _) (s : State), bit v 5 = false ∧ ringState s r = 1) ∧
    (∃ (r : Fin 64) (v : _) (s : State), bit v 7 = true ∧ bit v 5 = true ∧ ringState s r = 3) ∧
    (∃ (v : _) (s : State), bit v 5 = true ∧ s.flag EV_STATUS_RUNNING = false ∧ s.flag HI_STATUS_READY = true ∧ 6 ≤ bits v 4 0 ∧ bits v 4 0 ≤ 16 ∧ s.rd EV_BASE_ADDR % 4096 = 0) ∧
    (∃ (width : Fin 3) (speed : Fin 6) (s : State), s.dbg.pins ≠ 2 ∧ mayTrainLink s = true ∧ linkFits s width speed = true) :=
  ⟨⟨5, 3, hostUp 5, by decide +kernel⟩,
   ⟨5, 17, hostUp 5, by decide +kernel⟩,
   ⟨hostUp 5, by decide +kernel⟩,
   ⟨hostUp 5, by decide +kernel⟩,
   ⟨State.reset, by decide +kernel⟩,
   ⟨5, 0x26, State.reset.wr HI_STATUS_READY 1, by decide +kernel⟩,
   ⟨5, 6, hostUp 5, by decide +kernel⟩,
   ⟨5, 0xA6, (hostUp 5).wr CR_STATUS_STATE 3 0 5, by decide +kernel⟩,
   ⟨0x26, State.reset.wr HI_STATUS_READY 1, by decide +kernel⟩,
   ⟨2, 3, (((State.reset.wr BOOT_STATUS_STAGE 5).wr LG_ROLE_WORD0 3 16).wr LG_ROLE_WORD0 3 17).updBoot fun b => { b with perst := true }, by decide +kernel⟩⟩

theorem witness_HostQueues :
    (∃ (r : Fin 64) (s : State), mayConsume s r (nextDescriptor s r) = true ∧ s.rd HI_INJECT_INJ_FETCH = 0 ∧ opAt s r (ownIdx s r (s.rd CR_CONS_INDEX 0 r)) = none) ∧
    (∃ (r : Fin 64) (s : State), mayConsume s r (nextDescriptor s r) = true) ∧
    (∃ (r : Fin 64) (idx : _) (o : Op) (s : State), opAt s r idx = some o ∧ o.phase = .decided ∧ o.latchTick ≤ s.now) ∧
    (∃ (r : Fin 64) (o : Op) (s : State), nextReady s r = some o ∧ o.own = true ∧ o.lost = false ∧ ringState s r ≠ 3) ∧
    (∃ (r : Fin 64) (o : Op) (s : State), nextReady s r = some o ∧ o.own = true ∧ o.lost = false) ∧
    (∃ (r : Fin 64) (s : State), (sget (0, 0) s.host.uncovered r.val).1 ≠ 0 ∧ s.rd CR_IRQ_TIME 0 r ≠ 0 ∧ (sget (0, 0) s.host.uncovered r.val).2 + s.rd CR_IRQ_TIME 0 r ≤ s.now ∧ (sget ({} : Msix) s.host.msix (s.rd CR_CFG_VECTOR 0 r)).masked = false ∧ s.host.pcie.msixEnable = true ∧ s.host.pcie.functionMask = false) ∧
    (∃ (e : EvRec) (rest : _) (s : State), s.flag EV_STATUS_RUNNING = true ∧ idxDiff (s.rd EV_WR_INDEX) (s.rd EV_RD_INDEX) < eventSize s ∧ s.ev.lostRun = 0 ∧ s.ev.fifo = e :: rest) :=
  ⟨⟨5, (hostUp 5).wr CR_PROD_INDEX 1 0 5, by decide +kernel⟩,
   ⟨5, (hostUp 5).wr CR_PROD_INDEX 1 0 5, by decide +kernel⟩,
   ⟨5, 4, { opOf 5 4 0 [] with phase := .decided, code := 1 }, withOps [{ opOf 5 4 0 [] with phase := .decided, code := 1 }], by decide +kernel⟩,
   ⟨5, { opOf 5 4 0 [] with phase := .latched, code := 1 }, ((hostUp 5).updOps fun _ => [{ opOf 5 4 0 [] with phase := .latched, code := 1 }]).updReady fun _ => [(5, 4)], by decide +kernel⟩,
   ⟨5, { opOf 5 4 0 [] with phase := .latched, code := 1 }, ((hostUp 5).updOps fun _ => [{ opOf 5 4 0 [] with phase := .latched, code := 1 }]).updReady fun _ => [(5, 4)], by decide +kernel⟩,
   ⟨5, ((((hostUp 5).wr CR_IRQ_TIME 2 0 5).wr TICK_NOW_TICK 10).wr CR_CFG_VECTOR 3 0 5).updHost fun h => { h with pcie := { msixEnable := true }, uncovered := [(5, (2, 8))], msix := [(3, { addr := 0x100, data := 0xABCD, masked := false })] }, by decide +kernel⟩,
   ⟨aEvt, ([] : List EvRec), ((hostUp 5).wr EV_STATUS_RUNNING 1).wr EV_CFG_SIZE_LOG2 6 |>.updEv fun e => { e with fifo := [aEvt] }, by decide +kernel⟩⟩

theorem witness_HostOperations :
    (∃ (r : Fin 64) (o : Op) (s : State), Waits s r 0x00 o) ∧
    (∃ (r : Fin 64) (o : Op) (s : State), Waits s r 0x01 o ∧ moveCheck s o.desc = none) ∧
    (∃ (r : Fin 64) (code : _) (fld : _) (o : Op) (s : State), Waits s r 0x01 o ∧ moveCheck s o.desc = some (code, fld)) ∧
    (∃ (r : Fin 64) (idx : _) (o : Op) (n : _) (fin : TransferEnd) (s : State), opAt s r idx = some o ∧ o.opcode = 0x01 ∧ o.phase = .running ∧ fin.failedAt = some n) ∧
    (∃ (r : Fin 64) (idx : _) (o : Op) (s : State), opAt s r idx = some o ∧ o.opcode = 0x01 ∧ o.phase = .running ∧ moveRests s o = false) ∧
    (∃ (r : Fin 64) (o : Op) (s : State), Waits s r 0x02 o ∧ debugCheck s (bits (o.word 1) 3 0) (o.word 2) (bits (o.word 4) 31 0) = none) ∧
    (∃ (r : Fin 64) (o : Op) (s : State), Waits s r 0xF0 o) ∧
    (∃ (a : _) (o : Op) (b : _) (s : State), s.host.aborts = [a] ∧ a.frame < s.now ∧ opAt s a.onRing a.onIdx = some o ∧ o.phase = .accepted ∧ abortable o.opcode = true ∧ a.named = true ∧ isProxied s a.onRing a.onIdx = false ∧ s.cfg.op = none ∧ opAt s a.ring a.idx = some b ∧ b.isOpen = true ∧ (a.onRing, a.onIdx) ≠ (a.ring, a.idx) ∧ a.onRing < 64 ∧ a.ring < 64) ∧
    (∃ (r : Fin 64) (idx : _) (due : _) (o : Op) (s : State), (r.val, idx, due) ∈ s.host.proxied ∧ due ≤ s.cycle ∧ opAt s r idx = some o ∧ o.isOpen = true) :=
  ⟨⟨5, opOf 5 4 0 [], withOps [opOf 5 4 0 []], by decide +kernel⟩,
   ⟨5, opOf 5 4 1 [64, 64, 2 ^ 32 + 8], chanUp 0 (withOps [opOf 5 4 1 [64, 64, 2 ^ 32 + 8]]), by decide +kernel⟩,
   ⟨5, Code.OUT_OF_RANGE, 9, opOf 5 4 1 [64, 64, 8], withOps [opOf 5 4 1 [64, 64, 8]], by decide +kernel⟩,
   ⟨5, 4, { opOf 5 4 1 [64, 64, 2 ^ 32 + 8] with phase := .running }, 8, ({ failedAt := some 8 } : TransferEnd), chanUp 0 (withOps [{ opOf 5 4 1 [64, 64, 2 ^ 32 + 8] with phase := .running }]), by decide +kernel⟩,
   ⟨5, 4, { opOf 5 4 1 [64, 64, 2 ^ 32 + 8] with phase := .running }, chanUp 0 (withOps [{ opOf 5 4 1 [64, 64, 2 ^ 32 + 8] with phase := .running }]), by decide +kernel⟩,
   ⟨5, opOf 5 4 2 [2, 64, 64, 64], withOps [opOf 5 4 2 [2, 64, 64, 64]], by decide +kernel⟩,
   ⟨5, opOf 5 4 0xF0 [0], withOps [opOf 5 4 0xF0 [0]], by decide +kernel⟩,
   ⟨aAbort, opOf 5 3 0x10 [], opOf 5 4 0xF0 [], ((withOps [opOf 5 3 0x10 [], opOf 5 4 0xF0 []]).wr TICK_NOW_TICK 9).updHost fun h => { h with aborts := [aAbort] }, by decide +kernel⟩,
   ⟨5, 4, 0, opOf 5 4 0x60 [], (withOps [opOf 5 4 0x60 []]).updHost fun h => { h with proxied := [(5, 4, 0)] }, by decide +kernel⟩⟩

theorem witness_DispatchResults :
    (∃ (k : _) (e : Slot) (j : Job) (x : _) (s : State), opening s 0x50 k = some e ∧ s.offset = e.start ∧ s.disp.jobs = [j] ∧ j.place = .delayed x ∧ j.dlist = e.unit ∧ x ≤ s.now ∧ 1 ≤ bits e.param 15 0 ∧ 1 ≤ e.length) ∧
    (∃ (r : Fin 64) (o : Op) (w : _) (s : State), Waits s r 0x50 o ∧ roomFor (enqueueArray s o) s = true ∧ enqueueArray s o = [w] ∧ jobCheck s w false = none) ∧
    (∃ (r : Fin 64) (o : Op) (w : _) (c : _) (s : State), Waits s r 0x50 o ∧ roomFor (enqueueArray s o) s = true ∧ enqueueArray s o = [w] ∧ jobCheck s w false = some c) ∧
    (∃ (r : Fin 64) (o : Op) (s : State), takeOp s r 0x50 = some o ∧ roomFor (enqueueArray s o) s = false) ∧
    (∃ (j : Job) (w : _) (s : State), chooseJob s = some (j, w) ∧ s.rd DP_INJECT_INJ_LOST = 0 ∧ s.rd DP_INJECT_INJ_TIMEOUT = 0) ∧
    (∃ (sid : MessageFrom) (j : Job) (q : _) (s : State), s.disp.jobs = [j] ∧ j.place = .held j.worker ∧ portOfStream s sid.sid = some q ∧ (countMessage sid 0x10000 16 s).1 = false ∧ q = workerPort s j.worker) ∧
    (∃ (entry : _) (gen : _) (s : State), ((∀ j ∈ s.disp.jobs, j.slot ≠ entry ∨ j.gen ≠ gen ∨ j.place ≠ .held j.worker))) ∧
    (∃ (j : Job) (s : State), s.disp.jobs = [j] ∧ j.place = .held j.worker ∧ j.op = none ∧ s.rd WK_STATUS_TIMEOUT_EXP 0 j.worker ≠ 0 ∧ j.dispTick + 2 ^ min 20 (s.rd WK_STATUS_TIMEOUT_EXP 0 j.worker) ≤ s.now) ∧
    (∃ (j : Job) (s : State), s.disp.jobs = [j] ∧ j.place = .done ∧ j.flow = none ∧ j.doneAddr = 0 ∧ s.noc.xacts = [] ∧ waitingHearth s = none) ∧
    (∃ (sid : MessageFrom) (w : Fin 128) (w0 : Nat) (w1 : Nat) (w2 : Nat) (w3 : Nat) (q : _) (s : State), 4 ≤ w.val ∧ sid.sid < 0xF000 ∧ portOfStream s sid.sid = some q ∧ (countMessage sid (0x20000 + 32 * w.val) 32 s).1 = false ∧ workerState s w = 0 ∧ bit w0 0 = true ∧ bits w0 3 1 = 0 ∧ bits w0 63 40 = 0 ∧ bit w0 8 = false ∧ bits w1 63 38 = 0 ∧ w1 % 1024 = 0 ∧ w0 < 2 ^ 64 ∧ w1 < 2 ^ 64 ∧ w2 < 256 ∧ w3 = 0) ∧
    (∃ (sid : MessageFrom) (w : Fin 128) (w0 : Nat) (w1 : Nat) (w2 : Nat) (w3 : Nat) (q : _) (s : State), 4 ≤ w.val ∧ sid.sid < 0xF000 ∧ portOfStream s sid.sid = some q ∧ (countMessage sid (0x20000 + 32 * w.val) 32 s).1 = false ∧ workerState s w = 1 ∧ q = workerPort s w ∧ bit w0 0 = true ∧ bits w0 3 1 = 0 ∧ bits w0 63 40 = 0 ∧ bit w0 8 = false ∧ bits w1 63 38 = 0 ∧ w0 < 2 ^ 64 ∧ w1 < 2 ^ 64 ∧ w2 < 256 ∧ w3 = 0) ∧
    (∃ (sid : MessageFrom) (w : Fin 128) (w0 : Nat) (w1 : Nat) (w2 : Nat) (w3 : Nat) (q : _) (s : State), 4 ≤ w.val ∧ sid.sid < 0xF000 ∧ portOfStream s sid.sid = some q ∧ (countMessage sid (0x20000 + 32 * w.val) 32 s).1 = false ∧ workerState s w = 1 ∧ q = workerPort s w ∧ bit w0 0 = false ∧ bits w0 3 1 = 0 ∧ bits w0 63 40 = 0 ∧ bit w0 8 = false ∧ bits w1 63 38 = 0 ∧ w0 < 2 ^ 64 ∧ w1 < 2 ^ 64 ∧ w2 < 256 ∧ w3 = 0) ∧
    (∃ (sid : MessageFrom) (w : Fin 128) (w0 : _) (w3 : _), ((bits (w0 % 2 ^ 64) 3 1 ≠ 0 ∨ bits (w0 % 2 ^ 64) 63 40 ≠ 0 ∨ w3 % 2 ^ 64 ≠ 0 ∨ (4 ≤ w.val ∧ 0xF000 ≤ sid.sid) ∨ (w.val < 4 ∧ sid.sid < 0xF000)))) ∧
    (∃ (sid : MessageFrom) (w : Fin 128) (w0 : _) (w3 : _), ((bits (w0 % 2 ^ 64) 3 1 ≠ 0 ∨ bits (w0 % 2 ^ 64) 63 40 ≠ 0 ∨ w3 % 2 ^ 64 ≠ 0 ∨ (4 ≤ w.val ∧ 0xF000 ≤ sid.sid) ∨ (w.val < 4 ∧ sid.sid < 0xF000)))) :=
  ⟨⟨0, slotAt (withSlot (0x50 + 2 ^ 33 * 10) 2 5 State.reset).sched 0, aJob (.delayed 3) none, 3, (withSlot (0x50 + 2 ^ 33 * 10) 2 5 State.reset).wr TICK_NOW_TICK 9 |>.updDisp fun d => { d with jobs := [aJob (.delayed 3) none] }, by decide +kernel⟩,
   ⟨2, opOf 2 1 0x50 [64, 1], [0x20000000000005, 0, 7, 0, 0, 0, 0, 0], (withOps [opOf 2 1 0x50 [64, 1]]).updHostMem fun _ => memWr (memWr [] 64 0x20000000000005 8) 80 7 8, by decide +kernel⟩,
   ⟨2, opOf 2 1 0x50 [64, 1], List.replicate 8 0, Code.BAD_FIELD, withOps [opOf 2 1 0x50 [64, 1]], by decide +kernel⟩,
   ⟨2, opOf 2 1 0x50 [64, 1], (withOps [opOf 2 1 0x50 [64, 1]]).updHostMem (fun _ => memWr [] 64 0x20000000000005 8) |>.wr FLOW_CFG_RESERVED 65535 0 9 |>.wr FLOW_CFG_RESERVED 65535 0 8, by decide +kernel⟩,
   ⟨aJob .ready none, 1, openPorts [0] (((State.reset.wr WK_CFG_STATE 1 0 1).wr WK_CFG_CLASS 1 0 1).wr HM_STATUS_CORE_STATE 0) |>.updDisp fun d => { d with jobs := [aJob .ready none] }, by decide +kernel⟩,
   ⟨(⟨0xF000 + 5, none⟩ : MessageFrom), { aJob (.held 9) none with worker := 9 }, 5, ((State.reset.wr WK_CFG_ROUTER 1 0 9).wr WK_CFG_PORT 1 0 9).updDisp fun d => { d with jobs := [{ aJob (.held 9) none with worker := 9 }] }, by decide +kernel⟩,
   ⟨3, 0, State.reset.updDisp fun d => { d with jobs := [aJob .ready none] }, by decide +kernel⟩,
   ⟨{ aJob (.held 9) none with worker := 9 }, ((State.reset.wr WK_STATUS_TIMEOUT_EXP 3 0 9).wr TICK_NOW_TICK 8).updDisp fun d => { d with jobs := [{ aJob (.held 9) none with worker := 9 }] }, by decide +kernel⟩,
   ⟨aJob .done none, State.reset.updDisp fun d => { d with jobs := [aJob .done none] }, by decide +kernel⟩,
   ⟨(⟨7, none⟩ : MessageFrom), 9, 0x500FE51, 4096, 5, 0, portRegion 3 1, State.reset.wr PORT_CFG_STREAM_ID 7 (portRegion 3 1 / 4) (portRegion 3 1 % 4), by decide +kernel⟩,
   ⟨(⟨7, none⟩ : MessageFrom), 9, 0x500FE51, 1, 5, 0, portRegion 3 1, (((State.reset.wr PORT_CFG_STREAM_ID 7 (portRegion 3 1 / 4) (portRegion 3 1 % 4)).wr WK_CFG_STATE 1 0 9).wr WK_CFG_ROUTER (portRegion 3 1 / 4) 0 9).wr WK_CFG_PORT (portRegion 3 1 % 4) 0 9, by decide +kernel⟩,
   ⟨(⟨7, none⟩ : MessageFrom), 9, 0x500FE50, 1, 5, 0, portRegion 3 1, (((State.reset.wr PORT_CFG_STREAM_ID 7 (portRegion 3 1 / 4) (portRegion 3 1 % 4)).wr WK_CFG_STATE 1 0 9).wr WK_CFG_ROUTER (portRegion 3 1 / 4) 0 9).wr WK_CFG_PORT (portRegion 3 1 % 4) 0 9, by decide +kernel⟩,
   ⟨(⟨0xF001, none⟩ : MessageFrom), 9, 1, 0, by decide +kernel⟩,
   ⟨(⟨7, none⟩ : MessageFrom), 3, 1, 0, by decide +kernel⟩⟩

theorem witness_ManagementResults :
    (∃ (c : Fin 4) (s : State), coreState s c ≠ 3) ∧
    (∃ (c : Fin 4) (s : State), s.offset = 0 ∧ credited s = true ∧ coreState s c = 0 ∧ s.rd FI_CORE_INJECT_INJ_WATCHDOG = 0 ∧ sget 0 s.sp.restarts c < 15 ∧ 2 ^ s.rd WD_CFG_WD_PERIOD_EXP + 1 ≤ sget 0 s.sp.frames c ∧ fwState s = 0 ∧ s.disp.jobs = []) ∧
    (∃ (c : Fin 4) (s : State), ((s.offset ≠ 0 ∨ (s.rd FI_CORE_INJECT_INJ_WATCHDOG = 0 ∧ sget 0 s.sp.frames c ≤ 2 ^ s.rd WD_CFG_WD_PERIOD_EXP)))) ∧
    (∃ (c : Fin 4) (s : State), coreState s c = 2) ∧
    (∃ (addr : Nat) (n : Nat) (s : State), padFree s = true ∧ addr + n ≤ 0x780000 ∧ regionAdmits s 3 addr n SP_RGN_PERM_R = true ∧ s.sp.bad = [] ∧ s.rd SP_INJECT_INJ_ECC1 = 0 ∧ s.rd SP_INJECT_INJ_ECC2 = 0) ∧
    (∃ (addr : Nat) (n : Nat) (s : State), padFree s = true ∧ addr + n ≤ 0x780000 ∧ regionAdmits s 3 addr n SP_RGN_PERM_W = true ∧ s.sp.bad = [] ∧ s.rd SP_INJECT_INJ_ECC1 = 0 ∧ s.rd SP_INJECT_INJ_ECC2 = 0) ∧
    (∃ (addr : Nat) (n : Nat) (s : State), padFree s = true ∧ addr + n ≤ 0x780000 ∧ regionAdmits s 3 addr n SP_RGN_PERM_R = false) ∧
    (∃ (addr : Nat) (n : Nat) (s : State), padFree s = true ∧ 0x780000 ≤ addr ∧ 0 < n ∧ addr + n ≤ 0x800000 ∧ lifecycle s ≠ 1) ∧
    (∃ (addr : Nat) (n : Nat) (s : State), padFree s = true ∧ ((0x1800000 ≤ addr ∨ 0x800000 < addr % 0x800000 + n))) ∧
    (∃ (addr : Nat) (n : Nat) (s : State), padFree s = true ∧ ((0x1800000 ≤ addr ∨ 0x800000 < addr % 0x800000 + n))) ∧
    (∃ (s : State), s.sp.queue = [] ∧ s.cycle < s.sp.portTo) ∧
    (∃ (s : State), s.flag SP_CTRL_TEST_ENABLE = true ∧ s.sp.test = none ∧ (stepDue s = true ∨ s.sp.stepLate = true) ∧ s.sp.skip = [] ∧ s.sp.bad = [] ∧ s.rd SP_INJECT_INJ_MARCH = 0 ∧ s.rd SP_INJECT_INJ_ECC1 = 0 ∧ s.rd SP_INJECT_INJ_ECC2 = 0) ∧
    (∃ (s : State), s.flag SP_CTRL_TEST_ENABLE = true ∧ s.sp.test = none ∧ (stepDue s = true ∨ s.sp.stepLate = true) ∧ s.sp.skip = [] ∧ s.sp.bad = [] ∧ s.rd SP_INJECT_INJ_MARCH = 0 ∧ s.rd SP_INJECT_INJ_ECC1 = 0 ∧ s.rd SP_INJECT_INJ_ECC2 = 0) ∧
    (∃ (s : State), s.sp.stepLate = false ∧ stepDue s = false) ∧
    (∃ (s : State), s.flag SP_CTRL_TEST_ENABLE = true ∧ s.sp.test.isSome = true ∧ stepDue s = true) ∧
    (∃ (b : _) (s : State), s.sp.test = some (b, false)) ∧
    (∃ (b : _) (s : State), s.sp.test = some (b, true) ∧ s.rd SP_REPAIR_ENTRIES = 0) ∧
    (∃ (b : _) (s : State), s.sp.test = some (b, true) ∧ 4 ≤ remaps s) :=
  ⟨⟨2, State.reset.wr HM_STATUS_CORE_STATE 0, by decide +kernel⟩,
   ⟨2, (State.reset.wr HM_STATUS_CORE_STATE 0).updSp fun p => { p with frames := [(2, 2 ^ 21)] }, by decide +kernel⟩,
   ⟨2, State.reset, by decide +kernel⟩,
   ⟨2, State.reset.wr HM_STATUS_CORE_STATE (2 * 64), by decide +kernel⟩,
   ⟨8192, 16, padOpen 96 (State.reset.updScratch fun _ => memWr [] 8192 99 8), by decide +kernel⟩,
   ⟨8192, 4, padOpen 96 (State.reset.updScratch fun _ => memWr [] 8192 0x010203040506 8), by decide +kernel⟩,
   ⟨8192, 4, State.reset, by decide +kernel⟩,
   ⟨0x780000, 4, State.reset, by decide +kernel⟩,
   ⟨0x1800000, 4, State.reset, by decide +kernel⟩,
   ⟨0x7FFFFF, 4, State.reset, by decide +kernel⟩,
   ⟨State.reset.updSp fun p => { p with portTo := 5 }, by decide +kernel⟩,
   ⟨State.reset.setb SP_CTRL_TEST_ENABLE true, by decide +kernel⟩,
   ⟨(State.reset.setb SP_CTRL_TEST_ENABLE true).updSp fun p => { p with stepAt := some 9, stepLate := true }, by decide +kernel⟩,
   ⟨(State.reset.setb SP_CTRL_TEST_ENABLE true).updSp fun p => { p with stepAt := some 9 }, by decide +kernel⟩,
   ⟨(State.reset.setb SP_CTRL_TEST_ENABLE true).updSp fun p => { p with test := some (1, false) }, by decide +kernel⟩,
   ⟨2047, State.reset.updSp fun p => { p with test := some (2047, false) }, by decide +kernel⟩,
   ⟨9, State.reset.updSp fun p => { p with test := some (9, true) }, by decide +kernel⟩,
   ⟨9, (State.reset.wr SP_REPAIR_ENTRIES 0x8004800380028001).updSp fun p => { p with test := some (9, true) }, by decide +kernel⟩⟩

theorem witness_ClockResults :
    (∃ (m : Fin 54) (s : State), comparison s m = none) ∧
    (∃ (m : Fin 54) (comp : _) (s : State), comparison s m = some comp ∧ ((s.offset ≠ 0 ∨ s.clk.changed = [])) ∧ s.rd FI_CHECK_INJECT_INJ_MONITOR = 0 ∧ s.mbit FI_MON_FAULT_MONITORS m = false) ∧
    (∃ (m : Fin 54) (count : _) (comp : _) (s : State), comparison s m = some comp ∧ ((s.offset ≠ 0 ∨ s.clk.changed = [])) ∧ s.rd FI_CHECK_INJECT_INJ_MONITOR = 0 ∧ s.mbit FI_MON_FAULT_MONITORS m = false ∧ s.rd CK_INJECT_INJ_LOSS = 0 ∧ s.rd CK_INJECT_INJ_BAND = 0 ∧ inBand s m comp count = true ∧ m.val < 23) ∧
    (∃ (m : Fin 54) (count : _) (comp : _) (s : State), comparison s m = some comp ∧ ((s.offset ≠ 0 ∨ s.clk.changed = [])) ∧ s.rd FI_CHECK_INJECT_INJ_MONITOR = 0 ∧ s.mbit FI_MON_FAULT_MONITORS m = false ∧ s.rd CK_INJECT_INJ_LOSS = 0 ∧ inBand s m comp count = false) ∧
    (∃ (m : Fin 54) (s : State), s.mbit FI_MON_FAULT_MONITORS m = false ∧ s.flag MON_STATUS_LOST 0 m = false) ∧
    (∃ (m : Fin 54) (s : State), ((s.mbit FI_MON_FAULT_MONITORS m = true ∨ s.flag MON_STATUS_LOST 0 m = true))) ∧
    (∃ (d : Fin 34) (s : State), pllLocked s d = true) ∧
    (∃ (d : Fin 34) (s : State), pllLocked s d = false) ∧
    (∃ (d : Fin 34) (s : State), stable s (refMonitor s d) = true ∧ (((s.pll d).phase = .coast ∨ (s.pll d).phase = .held))) ∧
    (∃ (d : Fin 34) (s : State), stable s (refMonitor s d) = false) ∧
    (∃ (d : Fin 13) (s : State), (((s.pll d).phase = .up ∧ (s.pll d).step < 16) ∨ ((s.pll d).phase = .kindUp ∧ (s.pll d).step < 16))) ∧
    (∃ (d : Fin 13) (s : State), (((s.pll d).phase = .down ∨ (s.pll d).phase = .kindDown) ∧ 1 < (s.pll d).step)) ∧
    (∃ (d : Fin 13) (s : State), (s.pll d).phase = .down ∧ (s.pll d).step ≤ 1 ∧ d.val ≠ 0) ∧
    (∃ (d : Fin 13) (s : State), (s.pll d).phase = .up ∧ (s.pll d).step = 16) ∧
    (∃ (k : _) (s : State), trimUsable s = true ∧ s.flag CK_KINDLING_TRIM_HOLD = false ∧ s.clk.search = k + 1) ∧
    (∃ (count : _) (s : State), trimUsable s = true ∧ s.flag CK_KINDLING_TRIM_HOLD = false ∧ s.clk.search = 0 ∧ 3 ≤ s.clk.confirm ∧ ((count * 30 : Nat) - (trimNominal s : Int)).natAbs * 1000 ≤ trimNominal s) ∧
    (∃ (s : State), trimUsable s = false ∧ s.flag CK_KINDLING_TRIM_HOLD = false) ∧
    (∃ (c : Fin 8) (s : State), chanState s c = 2 ∧ (ddr_ s c).parked &&& 3 ≠ 0) ∧
    (∃ (c : Fin 8) (s : State), chanState s c = 2 ∧ (ddr_ s c).parked = 4 ∧ portState s (portDdr c) ≠ 0 ∧ (ddr_ s c).wb = [] ∧ (∀ x ∈ s.noc.xacts, x.dst ≠ portDdr c) ∧ (∀ r ∈ s.noc.revokes, r.1 ≠ portDdr c)) ∧
    (∃ (c : Fin 8) (s : State), chanState s c = 3 ∧ (ddr_ s c).parked = 0 ∧ s.flag CK_STATUS_DEGRADED = false) ∧
    (∃ (c : Fin 8) (s : State), ((ddr_ s c).parked ≠ 0 ∨ s.flag CK_STATUS_DEGRADED = true)) :=
  ⟨⟨3, State.reset.wr CK_STATUS_DEGRADED 1, by decide +kernel⟩,
   ⟨3, 200000, State.reset.wr CK_KINDLING_TRIMMED 1, by decide +kernel⟩,
   ⟨3, 32768, 200000, (((State.reset.wr CK_KINDLING_TRIMMED 1).wr MON_NOMINAL_KHZ 100000 0 3).wr MON_CFG_WINDOW_EXP 16 0 3).wr MON_CFG_K 1 0 3, by decide +kernel⟩,
   ⟨3, 5, 200000, ((State.reset.wr CK_KINDLING_TRIMMED 1).wr MON_NOMINAL_KHZ 100000 0 3).wr MON_STATUS_STABLE 1 0 3, by decide +kernel⟩,
   ⟨3, State.reset.wr MON_STATUS_STABLE 1 0 3, by decide +kernel⟩,
   ⟨3, State.reset.wr MON_STATUS_LOST 1 0 3, by decide +kernel⟩,
   ⟨0, State.reset.updClk fun c => { c with plls := [(0, { phase := .run })] }, by decide +kernel⟩,
   ⟨0, State.reset.updClk fun c => { c with plls := [(0, { phase := .coast })] }, by decide +kernel⟩,
   ⟨0, (State.reset.wr MON_STATUS_STABLE 1 0 (refMonitor State.reset 0)).updClk fun c => { c with plls := [(0, { phase := .coast })] }, by decide +kernel⟩,
   ⟨0, State.reset, by decide +kernel⟩,
   ⟨2, State.reset.updClk fun c => { c with plls := [(2, { phase := .up, step := 15 })] }, by decide +kernel⟩,
   ⟨2, State.reset.updClk fun c => { c with plls := [(2, { phase := .down, step := 15 })] }, by decide +kernel⟩,
   ⟨2, State.reset.updClk fun c => { c with plls := [(2, { phase := .down, step := 1 })] }, by decide +kernel⟩,
   ⟨0, State.reset.updClk fun c => { c with plls := [(0, { phase := .up, step := 16, switching := true })] }, by decide +kernel⟩,
   ⟨9, State.reset.wr MON_STATUS_STABLE 1 0 0, by decide +kernel⟩,
   ⟨32768, ((State.reset.wr MON_STATUS_STABLE 1 0 0).wr MON_NOMINAL_KHZ 100000 0 0).updClk fun c => { c with search := 0, confirm := 3 }, by decide +kernel⟩,
   ⟨State.reset, by decide +kernel⟩,
   ⟨3, (ddrUp 3 State.reset) |> updDdr_ 3 fun u => { u with parked := 1 }, by decide +kernel⟩,
   ⟨3, setPort (portDdr 3) 1 ((ddrUp 3 State.reset) |> updDdr_ 3 fun u => { u with parked := 4, rfm := [(0, 0, 1, 5)] }), by decide +kernel⟩,
   ⟨3, State.reset.wr DC_STATUS_STATE 3 3, by decide +kernel⟩,
   ⟨3, (ddrUp 3 State.reset) |> updDdr_ 3 fun u => { u with parked := 4 }, by decide +kernel⟩⟩

theorem witness_PowerResults :
    (∃ (r : Fin 65) (o : Op) (q : PwReq) (s : State), Waits s r 0x60 o ∧ q = ⟨r.val, o.idx, bits (o.word 2) 3 0, o.word 1 % 2 ^ 64, bits (o.word 3) 7 0, bits (o.word 3) 25 8⟩ ∧ powerFields q = none ∧ powerConditions s q = true) ∧
    (∃ (r : Fin 65) (o : Op) (q : PwReq) (code : _) (fld : _) (s : State), r.val < 64 ∧ Waits s r 0x60 o ∧ q = ⟨r.val, o.idx, bits (o.word 2) 3 0, o.word 1 % 2 ^ 64, bits (o.word 3) 7 0, bits (o.word 3) 25 8⟩ ∧ ((powerFields q = some (code, fld) ∨ (powerFields q = none ∧ powerConditions s q = false ∧ code = Code.INCONSISTENT ∧ fld = 0)))) ∧
    (∃ (r : Fin 65) (o : Op) (q : PwReq) (code : _) (fld : _) (s : State), r.val < 64 ∧ Waits s r 0x60 o ∧ q = ⟨r.val, o.idx, bits (o.word 2) 3 0, o.word 1 % 2 ^ 64, bits (o.word 3) 7 0, bits (o.word 3) 25 8⟩ ∧ ((powerFields q = some (code, fld) ∨ (powerFields q = none ∧ powerConditions s q = false ∧ code = Code.INCONSISTENT ∧ fld = 0)))) ∧
    (∃ (q : PwReq) (rest : List PwReq) (o : Op) (s : State), s.pw.queue = q :: rest ∧ s.pw.active = none ∧ s.pw.headAt < s.now ∧ regionsToChange s q = [] ∧ chansToChange s q = [] ∧ groupsToChange s q = [] ∧ q.target ≠ 4 ∧ deviceState s = 0 ∧ ((q.isEntry = true → refusers s q (regionsOf q.regions) (chansOf q.chans) = [])) ∧ q.ring < 64 ∧ opAt s q.ring q.idx = some o ∧ o.isOpen = true) ∧
    (∃ (q : PwReq) (rest : List PwReq) (c : _) (o : Op) (s : State), s.pw.queue = q :: rest ∧ s.pw.active = none ∧ s.pw.headAt < s.now ∧ q.isEntry = true ∧ q.target ≠ 4 ∧ deviceState s = 0 ∧ ((q.target ≤ 3 → ∀ k ∈ regionsToChange s q, pathOpen s q.target k = true)) ∧ (refusers s q (regionsOf q.regions) (chansOf q.chans)).head? = some c ∧ q.ring < 64 ∧ opAt s q.ring q.idx = some o ∧ o.isOpen = true) ∧
    (∃ (q : PwReq) (rest : List PwReq) (o : Op) (s : State), s.pw.queue = q :: rest ∧ s.pw.active = none ∧ s.pw.headAt < s.now ∧ q.target ≠ 5 ∧ deviceState s ≠ 0 ∧ q.ring < 64 ∧ opAt s q.ring q.idx = some o ∧ o.isOpen = true) ∧
    (∃ (q : PwReq) (rest : List PwReq) (s : State), s.pw.queue = q :: rest ∧ s.pw.active = none ∧ s.pw.headAt < s.now ∧ q.target ≤ 3 ∧ deviceState s = 0 ∧ regionsToChange s q ≠ [] ∧ (∀ k ∈ regionsToChange s q, pathOpen s q.target k = true) ∧ ((q.isEntry = true → refusers s q (regionsOf q.regions) (chansOf q.chans) = []))) ∧
    (∃ (k : Fin 64) (q : PwReq) (s : State), s.pw.active = some q ∧ q.target ≤ 3 ∧ s.pw.aborted = none ∧ s.pw.step = .regions ∧ k.val ∈ batchOf s ∧ pstate s k = 4 ∧ (s.region_ k).ramp = none) ∧
    (∃ (k : Fin 64) (s : State), (s.region_ k).ramp.isSome = true) ∧
    (∃ (q : PwReq) (s : State), s.pw.active = some q ∧ q.isEntry = true ∧ s.pw.aborted = none ∧ s.pw.step = .drain ∧ s.pw.checkTick + max 1 (s.rd PW_CTRL_DRAIN_FRAMES) ≤ s.now) :=
  ⟨⟨2, opOf 2 1 0x60 [4, 1, 0], ⟨2, 1, 1, 4, 0, 0⟩, (withOps [opOf 2 1 0x60 [4, 1, 0]]).wr RG_OWNER_OWNER 2 2, by decide +kernel⟩,
   ⟨2, opOf 2 1 0x60 [0, 1, 0], ⟨2, 1, 1, 0, 0, 0⟩, Code.BAD_FIELD, 8, withOps [opOf 2 1 0x60 [0, 1, 0]], by decide +kernel⟩,
   ⟨2, opOf 2 1 0x60 [4, 1, 0], ⟨2, 1, 1, 4, 0, 0⟩, Code.INCONSISTENT, 0, (withOps [opOf 2 1 0x60 [4, 1, 0]]).wr RG_OWNER_OWNER 3 2, by decide +kernel⟩,
   ⟨⟨2, 1, 3, 4, 0, 0⟩, [], opOf 2 1 0x60 [4, 3, 0], ((withOps [opOf 2 1 0x60 [4, 3, 0]]).wr TICK_NOW_TICK 9).updPw fun p => { p with queue := [⟨2, 1, 3, 4, 0, 0⟩] }, by decide +kernel⟩,
   ⟨⟨2, 1, 2, 4, 0, 0⟩, [], 6, opOf 2 1 0x60 [4, 2, 0], (((withOps [opOf 2 1 0x60 [4, 2, 0]]).wr TICK_NOW_TICK 9).wr RG_STATUS_PSTATE 0 2).wr RE_STATUS_STATE 3 5 |>.updPw fun p => { p with queue := [⟨2, 1, 2, 4, 0, 0⟩] }, by decide +kernel⟩,
   ⟨⟨2, 1, 2, 4, 0, 0⟩, [], opOf 2 1 0x60 [4, 2, 0], (((withOps [opOf 2 1 0x60 [4, 2, 0]]).wr TICK_NOW_TICK 9).wr PW_STATUS_DEVICE_STATE 2).updPw fun p => { p with queue := [⟨2, 1, 2, 4, 0, 0⟩] }, by decide +kernel⟩,
   ⟨⟨2, 1, 2, 4, 0, 0⟩, [], ((State.reset.wr TICK_NOW_TICK 9).wr RG_STATUS_PSTATE 0 2).updPw fun p => { p with queue := [⟨2, 1, 2, 4, 0, 0⟩] }, by decide +kernel⟩,
   ⟨2, ⟨2, 1, 1, 12, 0, 0⟩, ((State.reset.wr RG_STATUS_PSTATE 4 2).wr RG_STATUS_PSTATE 4 3).updPw fun p => { p with active := some ⟨2, 1, 1, 12, 0, 0⟩, step := .regions, mine := 12 }, by decide +kernel⟩,
   ⟨2, State.reset |> updRegion 2 fun u => { u with ramp := some ⟨false, []⟩ }, by decide +kernel⟩,
   ⟨⟨2, 1, 2, 4, 0, 0⟩, ((State.reset.wr RG_STATUS_PSTATE 4 2).wr TICK_NOW_TICK 99).updPw fun p => { p with active := some ⟨2, 1, 2, 4, 0, 0⟩, mine := 4 }, by decide +kernel⟩⟩

theorem witness_TapResults :
    (∃ (s : State), (∀ n : Fin 16, reelState s n = 0)) ∧
    (∃ (s : State), (∃ n : Fin 16, reelState s n ≠ 0)) ∧
    (∃ (s : State), (∀ n : Fin 16, reelState s n = 0)) ∧
    (∃ (op : Fin 256), op.val ∉ tapOpcodes) ∧
    (∃ (s : State), cfgBusy s = true) ∧
    (∃ (s : State), cfgBusy s = false) ∧
    (∃ (s : State), s.rd DB_STATUS_INSTRUCTION = 0x10 ∧ cfgState s ≠ 0 ∧ s.cfg.src = 3) ∧
    (∃ (s : State), debugPermitted s = false) ∧
    (∃ (dr : _) (s : State), debugPermitted s = true ∧ s.dbg.mem.flight = none ∧ bit dr 0 = false ∧ bits dr 2 1 = 1 ∧ bits dr 39 3 * 8 + 8 ≤ 0x780000 ∧ regionAdmits s 2 (8 * bits dr 39 3) 8 SP_RGN_PERM_R = true ∧ s.sp.bad = [] ∧ s.rd SP_INJECT_INJ_ECC1 = 0 ∧ s.rd SP_INJECT_INJ_ECC2 = 0) ∧
    (∃ (s : State), debugPermitted s = true ∧ s.dbg.mem.flight.isSome = true) ∧
    (∃ (c : _) (v : _) (due : _) (mem : Bool) (s : State), due ≤ s.cycle ∧ s.dbg.mem.fetch = none ∧ s.dbg.mem.parked = none ∧ (if mem then s.dbg.mem.flight else s.dbg.reg.flight) = some (c, v, due)) ∧
    (∃ (s : State) (u : State), debugPermitted s = true ∧ s.dbg.reg.flight = none ∧ u = captureDr (s.dbg.reg.captureCode + s.dbg.reg.data % 2 ^ 32 * 2 ^ 25) (loadIr 0x20 s)) ∧
    (∃ (dr : _) (s : State), debugPermitted s = true ∧ s.dbg.da = none ∧ bit dr 31 = true ∧ bits dr 5 0 < 64 ∧ bits dr 19 16 = 5 ∧ bits dr 14 8 < 96 ∧ bits dr 27 20 = 7 ∧ daClosed s (bits dr 5 0) = false) ∧
    (∃ (dr : _) (s : State), debugPermitted s = true ∧ bit dr 31 = false) :=
  ⟨⟨State.reset, by decide +kernel⟩,
   ⟨State.reset.wr RE_STATUS_STATE 3 15, by decide +kernel⟩,
   ⟨State.reset, by decide +kernel⟩,
   ⟨0x55, by decide +kernel⟩,
   ⟨State.reset.wr CFG_STATUS_STATE 1, by decide +kernel⟩,
   ⟨State.reset, by decide +kernel⟩,
   ⟨((State.reset.wr DB_STATUS_INSTRUCTION 0x10).wr CFG_STATUS_STATE 1).updCfg fun c => { c with src := 3 }, by decide +kernel⟩,
   ⟨State.reset.wr LC_STATUS_STATE 3, by decide +kernel⟩,
   ⟨2 + 1024 * 8, padOpen 64 (State.reset.updScratch fun _ => memWr [] 8192 99 8), by decide +kernel⟩,
   ⟨State.reset.updDbg fun d => { d with mem := { d.mem with flight := some (0, 9, 5) } }, by decide +kernel⟩,
   ⟨0, 9, 0, true, State.reset.updDbg fun d => { d with mem := { d.mem with flight := some (0, 9, 0) } }, by decide +kernel⟩,
   ⟨State.reset, captureDr (State.reset.dbg.reg.captureCode + State.reset.dbg.reg.data % 2 ^ 32 * 2 ^ 25) (loadIr 0x20 State.reset), by decide +kernel⟩,
   ⟨0x80755F03, (inRun 3).wr SL_ITER_ITER 9 (3 * 96 + 95), by decide +kernel⟩,
   ⟨5, State.reset, by decide +kernel⟩⟩

theorem witness_RunControlResults :
    (∃ (s : State), debugPermitted s = true) ∧
    (∃ (s : State), debugPermitted s = false) ∧
    (∃ (x : _) (s : State), s.rd DB_STATUS_RC_STATE = 0 ∧ s.dbg.halt = some x ∧ x < s.now) ∧
    (∃ (x : _) (s : State), ((s.rd DB_STATUS_RC_STATE = 1 ∨ s.rd DB_STATUS_RC_STATE = 2)) ∧ s.dbg.resume = some x ∧ x < s.now) ∧
    (∃ (x : _) (s : State), s.rd DB_STATUS_RC_STATE = 2 ∧ s.rd ALIGN_STATUS_STATE ≠ 4 ∧ s.dbg.resume = none ∧ s.dbg.step = some x ∧ x < s.now) ∧
    (∃ (s : State), s.rd DB_STATUS_RC_STATE = 1 ∧ s.offset = 0 ∧ s.dbg.latched < s.now ∧ reelsDown s = true ∧ ((anyDraining s = false ∨ s.dbg.latched + max 1 (s.rd DB_CTRL_HALT_WAIT) ≤ s.now))) ∧
    (∃ (s : State), debugPermitted s = true) ∧
    (∃ (k : Fin 64) (g : Fin 128) (s : State), debugPermitted s = true ∧ s.dbg.da = none ∧ g.val < 96 ∧ daClosed s k = false) ∧
    (∃ (g : Fin 128) (s : State), debugPermitted s = true ∧ s.dbg.da = none ∧ 103 < g.val) ∧
    (∃ (k : Fin 64) (g : Fin 128) (s : State), debugPermitted s = true ∧ s.dbg.da = none ∧ g.val < 104 ∧ daClosed s k = true) ∧
    (∃ (k : Fin 64) (g : Fin 128) (s : State), debugPermitted s = true ∧ s.dbg.da = none ∧ 96 ≤ g.val ∧ g.val ≤ 103 ∧ daClosed s k = false) ∧
    (∃ (r : DaRun) (s : State), s.dbg.da = some r) ∧
    (∃ (r : DaRun) (s : State), s.dbg.da = some r ∧ r.tap = false ∧ r.since + 65536 ≤ s.cycle) ∧
    (∃ (s : State), s.dbg.da = none) :=
  ⟨⟨State.reset, by decide +kernel⟩,
   ⟨State.reset.wr LC_STATUS_STATE 3, by decide +kernel⟩,
   ⟨3, (creditedTick 5).updDbg fun d => { d with halt := some 3 }, by decide +kernel⟩,
   ⟨3, ((creditedTick 5).wr DB_STATUS_RC_STATE 2).updDbg fun d => { d with resume := some 3 }, by decide +kernel⟩,
   ⟨3, ((creditedTick 5).wr DB_STATUS_RC_STATE 2).updDbg fun d => { d with step := some 3 }, by decide +kernel⟩,
   ⟨((creditedTick 5).wr DB_STATUS_RC_STATE 1).updDbg fun d => { d with latched := 3 }, by decide +kernel⟩,
   ⟨State.reset, by decide +kernel⟩,
   ⟨3, 95, ((inRun 3).wr SL_STATUS_STATE 5 (3 * 96 + 95)).wr DA_DATA_DATA 77, by decide +kernel⟩,
   ⟨104, State.reset, by decide +kernel⟩,
   ⟨3, 0, State.reset, by decide +kernel⟩,
   ⟨3, 103, inRun 3, by decide +kernel⟩,
   ⟨⟨3, 99, 5, 0, 0, false, 0⟩, State.reset.updDbg fun d => { d with da := some ⟨3, 99, 5, 0, 0, false, 0⟩ }, by decide +kernel⟩,
   ⟨⟨3, 99, 5, 0, 0, false, 0⟩, (State.reset.updDbg fun d => { d with da := some ⟨3, 99, 5, 0, 0, false, 0⟩ }).updTick fun t => { t with base := 10 ^ 7 }, by decide +kernel⟩,
   ⟨State.reset, by decide +kernel⟩⟩

theorem witness_InjectionArms :
    (∃ (v : _) (s : State), permitted s 0 = true ∧ bits v 8 8 ≠ 0) ∧
    (∃ (v : _) (s : State), permitted s 1 = true ∧ bits v 8 8 ≠ 0) ∧
    (∃ (v : _) (s : State), permitted s 1 = true ∧ bits v 9 9 ≠ 0) ∧
    (∃ (v : _) (s : State), permitted s 1 = true ∧ bits v 10 10 ≠ 0) ∧
    (∃ (v : _) (s : State), permitted s 2 = true ∧ bits v 0 0 ≠ 0) ∧
    (∃ (v : _) (s : State), permitted s 2 = true ∧ bits v 1 1 ≠ 0) ∧
    (∃ (v : _) (s : State), permitted s 3 = true ∧ bits v 0 0 ≠ 0) ∧
    (∃ (v : _) (s : State), permitted s 3 = true ∧ bits v 1 1 ≠ 0) ∧
    (∃ (v : _) (s : State), permitted s 4 = true ∧ bits v 0 0 ≠ 0) ∧
    (∃ (v : _) (s : State), permitted s 4 = true ∧ bits v 1 1 ≠ 0) ∧
    (∃ (v : _) (s : State), permitted s 5 = true ∧ bits v 4 4 ≠ 0) ∧
    (∃ (v : _) (s : State), permitted s 5 = true ∧ bits v 5 5 ≠ 0) ∧
    (∃ (v : _) (s : State), permitted s 6 = true ∧ bits v 0 0 ≠ 0) ∧
    (∃ (v : _) (s : State), permitted s 6 = true ∧ bits v 1 1 ≠ 0) ∧
    (∃ (v : _) (s : State), permitted s 6 = true ∧ bits v 2 2 ≠ 0) ∧
    (∃ (v : _) (s : State), permitted s 7 = true ∧ bits v 0 0 ≠ 0) ∧
    (∃ (v : _) (s : State), permitted s 7 = true ∧ bits v 1 1 ≠ 0) ∧
    (∃ (v : _) (s : State), permitted s 8 = true ∧ bits v 3 3 ≠ 0) ∧
    (∃ (v : _) (s : State), permitted s 8 = true ∧ bits v 4 4 ≠ 0) ∧
    (∃ (v : _) (s : State), permitted s 8 = true ∧ bits v 5 5 ≠ 0) ∧
    (∃ (v : _) (s : State), permitted s 9 = true ∧ bits v 8 8 ≠ 0) ∧
    (∃ (v : _) (s : State), permitted s 9 = true ∧ bits v 9 9 ≠ 0) ∧
    (∃ (v : _) (s : State), permitted s 9 = true ∧ bits v 10 10 ≠ 0) ∧
    (∃ (v : _) (s : State), permitted s 10 = true ∧ bits v 8 8 ≠ 0) ∧
    (∃ (v : _) (s : State), permitted s 10 = true ∧ bits v 9 9 ≠ 0) ∧
    (∃ (v : _) (s : State), permitted s 11 = true ∧ bits v 7 7 ≠ 0) ∧
    (∃ (v : _) (s : State), permitted s 11 = true ∧ bits v 8 8 ≠ 0) ∧
    (∃ (v : _) (s : State), permitted s 12 = true ∧ bits v 0 0 ≠ 0) ∧
    (∃ (v : _) (s : State), permitted s 12 = true ∧ bits v 1 1 ≠ 0) ∧
    (∃ (v : _) (s : State), permitted s 12 = true ∧ bits v 2 2 ≠ 0) ∧
    (∃ (v : _) (s : State), permitted s 13 = true ∧ bits v 6 6 ≠ 0) ∧
    (∃ (v : _) (s : State), permitted s 13 = true ∧ bits v 7 7 ≠ 0) ∧
    (∃ (v : _) (s : State), permitted s 14 = true ∧ bits v 0 0 ≠ 0) ∧
    (∃ (v : _) (s : State), permitted s 16 = true ∧ bits v 0 0 ≠ 0) ∧
    (∃ (v : _) (s : State), permitted s 16 = true ∧ bits v 1 1 ≠ 0) ∧
    (∃ (v : _) (s : State), permitted s 17 = true ∧ bits v 4 4 ≠ 0) ∧
    (∃ (v : _) (s : State), permitted s 17 = true ∧ bits v 5 5 ≠ 0) ∧
    (∃ (v : _) (s : State), permitted s 17 = true ∧ bits v 6 6 ≠ 0) ∧
    (∃ (v : _) (s : State), permitted s 18 = true ∧ bits v 11 11 ≠ 0) ∧
    (∃ (v : _) (s : State), permitted s 18 = true ∧ bits v 12 12 ≠ 0) ∧
    (∃ (v : _) (s : State), permitted s 18 = true ∧ bits v 13 13 ≠ 0) ∧
    (∃ (v : _) (s : State), permitted s 18 = true ∧ bits v 14 14 ≠ 0) ∧
    (∃ (v : _) (s : State), permitted s 19 = true ∧ bits v 2 2 ≠ 0) ∧
    (∃ (v : _) (s : State), permitted s 20 = true ∧ bits v 8 8 ≠ 0) ∧
    (∃ (v : _) (s : State), permitted s 20 = true ∧ bits v 9 9 ≠ 0) ∧
    (∃ (v : _) (s : State), permitted s 20 = true ∧ bits v 10 10 ≠ 0) ∧
    (∃ (v : _) (s : State), permitted s 20 = true ∧ bits v 11 11 ≠ 0) ∧
    (∃ (v : _) (s : State), permitted s 20 = true ∧ bits v 12 12 ≠ 0) ∧
    (∃ (v : _) (s : State), permitted s 20 = true ∧ bits v 13 13 ≠ 0) :=
  ⟨⟨0x100, (State.reset.wr LC_STATUS_STATE 2).wr INJ_PERMIT_PERMIT 0x1, by decide +kernel⟩,
   ⟨0x100, (State.reset.wr LC_STATUS_STATE 2).wr INJ_PERMIT_PERMIT 0x2, by decide +kernel⟩,
   ⟨0x200, (State.reset.wr LC_STATUS_STATE 2).wr INJ_PERMIT_PERMIT 0x2, by decide +kernel⟩,
   ⟨0x400, (State.reset.wr LC_STATUS_STATE 2).wr INJ_PERMIT_PERMIT 0x2, by decide +kernel⟩,
   ⟨0x1, (State.reset.wr LC_STATUS_STATE 2).wr INJ_PERMIT_PERMIT 0x4, by decide +kernel⟩,
   ⟨0x2, (State.reset.wr LC_STATUS_STATE 2).wr INJ_PERMIT_PERMIT 0x4, by decide +kernel⟩,
   ⟨0x1, (State.reset.wr LC_STATUS_STATE 2).wr INJ_PERMIT_PERMIT 0x8, by decide +kernel⟩,
   ⟨0x2, (State.reset.wr LC_STATUS_STATE 2).wr INJ_PERMIT_PERMIT 0x8, by decide +kernel⟩,
   ⟨0x1, (State.reset.wr LC_STATUS_STATE 2).wr INJ_PERMIT_PERMIT 0x10, by decide +kernel⟩,
   ⟨0x2, (State.reset.wr LC_STATUS_STATE 2).wr INJ_PERMIT_PERMIT 0x10, by decide +kernel⟩,
   ⟨0x10, (State.reset.wr LC_STATUS_STATE 2).wr INJ_PERMIT_PERMIT 0x20, by decide +kernel⟩,
   ⟨0x20, (State.reset.wr LC_STATUS_STATE 2).wr INJ_PERMIT_PERMIT 0x20, by decide +kernel⟩,
   ⟨0x1, (State.reset.wr LC_STATUS_STATE 2).wr INJ_PERMIT_PERMIT 0x40, by decide +kernel⟩,
   ⟨0x2, (State.reset.wr LC_STATUS_STATE 2).wr INJ_PERMIT_PERMIT 0x40, by decide +kernel⟩,
   ⟨0x4, (State.reset.wr LC_STATUS_STATE 2).wr INJ_PERMIT_PERMIT 0x40, by decide +kernel⟩,
   ⟨0x1, (State.reset.wr LC_STATUS_STATE 2).wr INJ_PERMIT_PERMIT 0x80, by decide +kernel⟩,
   ⟨0x2, (State.reset.wr LC_STATUS_STATE 2).wr INJ_PERMIT_PERMIT 0x80, by decide +kernel⟩,
   ⟨0x8, (State.reset.wr LC_STATUS_STATE 2).wr INJ_PERMIT_PERMIT 0x100, by decide +kernel⟩,
   ⟨0x10, (State.reset.wr LC_STATUS_STATE 2).wr INJ_PERMIT_PERMIT 0x100, by decide +kernel⟩,
   ⟨0x20, (State.reset.wr LC_STATUS_STATE 2).wr INJ_PERMIT_PERMIT 0x100, by decide +kernel⟩,
   ⟨0x100, (State.reset.wr LC_STATUS_STATE 2).wr INJ_PERMIT_PERMIT 0x200, by decide +kernel⟩,
   ⟨0x200, (State.reset.wr LC_STATUS_STATE 2).wr INJ_PERMIT_PERMIT 0x200, by decide +kernel⟩,
   ⟨0x400, (State.reset.wr LC_STATUS_STATE 2).wr INJ_PERMIT_PERMIT 0x200, by decide +kernel⟩,
   ⟨0x100, (State.reset.wr LC_STATUS_STATE 2).wr INJ_PERMIT_PERMIT 0x400, by decide +kernel⟩,
   ⟨0x200, (State.reset.wr LC_STATUS_STATE 2).wr INJ_PERMIT_PERMIT 0x400, by decide +kernel⟩,
   ⟨0x80, (State.reset.wr LC_STATUS_STATE 2).wr INJ_PERMIT_PERMIT 0x800, by decide +kernel⟩,
   ⟨0x100, (State.reset.wr LC_STATUS_STATE 2).wr INJ_PERMIT_PERMIT 0x800, by decide +kernel⟩,
   ⟨0x1, (State.reset.wr LC_STATUS_STATE 2).wr INJ_PERMIT_PERMIT 0x1000, by decide +kernel⟩,
   ⟨0x2, (State.reset.wr LC_STATUS_STATE 2).wr INJ_PERMIT_PERMIT 0x1000, by decide +kernel⟩,
   ⟨0x4, (State.reset.wr LC_STATUS_STATE 2).wr INJ_PERMIT_PERMIT 0x1000, by decide +kernel⟩,
   ⟨0x40, (State.reset.wr LC_STATUS_STATE 2).wr INJ_PERMIT_PERMIT 0x2000, by decide +kernel⟩,
   ⟨0x80, (State.reset.wr LC_STATUS_STATE 2).wr INJ_PERMIT_PERMIT 0x2000, by decide +kernel⟩,
   ⟨0x1, (State.reset.wr LC_STATUS_STATE 2).wr INJ_PERMIT_PERMIT 0x4000, by decide +kernel⟩,
   ⟨0x1, (State.reset.wr LC_STATUS_STATE 2).wr INJ_PERMIT_PERMIT 0x10000, by decide +kernel⟩,
   ⟨0x2, (State.reset.wr LC_STATUS_STATE 2).wr INJ_PERMIT_PERMIT 0x10000, by decide +kernel⟩,
   ⟨0x10, (State.reset.wr LC_STATUS_STATE 2).wr INJ_PERMIT_PERMIT 0x20000, by decide +kernel⟩,
   ⟨0x20, (State.reset.wr LC_STATUS_STATE 2).wr INJ_PERMIT_PERMIT 0x20000, by decide +kernel⟩,
   ⟨0x40, (State.reset.wr LC_STATUS_STATE 2).wr INJ_PERMIT_PERMIT 0x20000, by decide +kernel⟩,
   ⟨0x800, (State.reset.wr LC_STATUS_STATE 2).wr INJ_PERMIT_PERMIT 0x40000, by decide +kernel⟩,
   ⟨0x1000, (State.reset.wr LC_STATUS_STATE 2).wr INJ_PERMIT_PERMIT 0x40000, by decide +kernel⟩,
   ⟨0x2000, (State.reset.wr LC_STATUS_STATE 2).wr INJ_PERMIT_PERMIT 0x40000, by decide +kernel⟩,
   ⟨0x4000, (State.reset.wr LC_STATUS_STATE 2).wr INJ_PERMIT_PERMIT 0x40000, by decide +kernel⟩,
   ⟨0x4, (State.reset.wr LC_STATUS_STATE 2).wr INJ_PERMIT_PERMIT 0x80000, by decide +kernel⟩,
   ⟨0x100, (State.reset.wr LC_STATUS_STATE 2).wr INJ_PERMIT_PERMIT 0x100000, by decide +kernel⟩,
   ⟨0x200, (State.reset.wr LC_STATUS_STATE 2).wr INJ_PERMIT_PERMIT 0x100000, by decide +kernel⟩,
   ⟨0x400, (State.reset.wr LC_STATUS_STATE 2).wr INJ_PERMIT_PERMIT 0x100000, by decide +kernel⟩,
   ⟨0x800, (State.reset.wr LC_STATUS_STATE 2).wr INJ_PERMIT_PERMIT 0x100000, by decide +kernel⟩,
   ⟨0x1000, (State.reset.wr LC_STATUS_STATE 2).wr INJ_PERMIT_PERMIT 0x100000, by decide +kernel⟩,
   ⟨0x2000, (State.reset.wr LC_STATUS_STATE 2).wr INJ_PERMIT_PERMIT 0x100000, by decide +kernel⟩⟩

theorem witness_InjectionDiscards :
    (∃ (v : _) (s : State), permitted s 0 = false ∧ bits v 8 8 ≠ 0 ∧ s.rd FI_STATUS_DISCARDED < 65535) ∧
    (∃ (v : _) (s : State), permitted s 0 = false ∧ bits v 9 9 ≠ 0 ∧ s.rd FI_STATUS_DISCARDED < 65535) ∧
    (∃ (v : _) (s : State), permitted s 1 = false ∧ bits v 8 8 ≠ 0 ∧ s.rd FI_STATUS_DISCARDED < 65535) ∧
    (∃ (v : _) (s : State), permitted s 1 = false ∧ bits v 9 9 ≠ 0 ∧ s.rd FI_STATUS_DISCARDED < 65535) ∧
    (∃ (v : _) (s : State), permitted s 1 = false ∧ bits v 10 10 ≠ 0 ∧ s.rd FI_STATUS_DISCARDED < 65535) ∧
    (∃ (v : _) (s : State), permitted s 2 = false ∧ bits v 0 0 ≠ 0 ∧ s.rd FI_STATUS_DISCARDED < 65535) ∧
    (∃ (v : _) (s : State), permitted s 2 = false ∧ bits v 1 1 ≠ 0 ∧ s.rd FI_STATUS_DISCARDED < 65535) ∧
    (∃ (v : _) (s : State), permitted s 3 = false ∧ bits v 0 0 ≠ 0 ∧ s.rd FI_STATUS_DISCARDED < 65535) ∧
    (∃ (v : _) (s : State), permitted s 3 = false ∧ bits v 1 1 ≠ 0 ∧ s.rd FI_STATUS_DISCARDED < 65535) ∧
    (∃ (v : _) (s : State), permitted s 4 = false ∧ bits v 0 0 ≠ 0 ∧ s.rd FI_STATUS_DISCARDED < 65535) ∧
    (∃ (v : _) (s : State), permitted s 4 = false ∧ bits v 1 1 ≠ 0 ∧ s.rd FI_STATUS_DISCARDED < 65535) ∧
    (∃ (v : _) (s : State), permitted s 5 = false ∧ bits v 4 4 ≠ 0 ∧ s.rd FI_STATUS_DISCARDED < 65535) ∧
    (∃ (v : _) (s : State), permitted s 5 = false ∧ bits v 5 5 ≠ 0 ∧ s.rd FI_STATUS_DISCARDED < 65535) ∧
    (∃ (v : _) (s : State), permitted s 6 = false ∧ bits v 0 0 ≠ 0 ∧ s.rd FI_STATUS_DISCARDED < 65535) ∧
    (∃ (v : _) (s : State), permitted s 6 = false ∧ bits v 1 1 ≠ 0 ∧ s.rd FI_STATUS_DISCARDED < 65535) ∧
    (∃ (v : _) (s : State), permitted s 6 = false ∧ bits v 2 2 ≠ 0 ∧ s.rd FI_STATUS_DISCARDED < 65535) ∧
    (∃ (v : _) (s : State), permitted s 7 = false ∧ bits v 0 0 ≠ 0 ∧ s.rd FI_STATUS_DISCARDED < 65535) ∧
    (∃ (v : _) (s : State), permitted s 7 = false ∧ bits v 1 1 ≠ 0 ∧ s.rd FI_STATUS_DISCARDED < 65535) ∧
    (∃ (v : _) (s : State), permitted s 8 = false ∧ bits v 3 3 ≠ 0 ∧ s.rd FI_STATUS_DISCARDED < 65535) ∧
    (∃ (v : _) (s : State), permitted s 8 = false ∧ bits v 4 4 ≠ 0 ∧ s.rd FI_STATUS_DISCARDED < 65535) ∧
    (∃ (v : _) (s : State), permitted s 8 = false ∧ bits v 5 5 ≠ 0 ∧ s.rd FI_STATUS_DISCARDED < 65535) ∧
    (∃ (v : _) (s : State), permitted s 9 = false ∧ bits v 8 8 ≠ 0 ∧ s.rd FI_STATUS_DISCARDED < 65535) ∧
    (∃ (v : _) (s : State), permitted s 9 = false ∧ bits v 9 9 ≠ 0 ∧ s.rd FI_STATUS_DISCARDED < 65535) ∧
    (∃ (v : _) (s : State), permitted s 9 = false ∧ bits v 10 10 ≠ 0 ∧ s.rd FI_STATUS_DISCARDED < 65535) ∧
    (∃ (v : _) (s : State), permitted s 10 = false ∧ bits v 8 8 ≠ 0 ∧ s.rd FI_STATUS_DISCARDED < 65535) ∧
    (∃ (v : _) (s : State), permitted s 10 = false ∧ bits v 9 9 ≠ 0 ∧ s.rd FI_STATUS_DISCARDED < 65535) ∧
    (∃ (v : _) (s : State), permitted s 11 = false ∧ bits v 7 7 ≠ 0 ∧ s.rd FI_STATUS_DISCARDED < 65535) ∧
    (∃ (v : _) (s : State), permitted s 11 = false ∧ bits v 8 8 ≠ 0 ∧ s.rd FI_STATUS_DISCARDED < 65535) ∧
    (∃ (v : _) (s : State), permitted s 12 = false ∧ bits v 0 0 ≠ 0 ∧ s.rd FI_STATUS_DISCARDED < 65535) ∧
    (∃ (v : _) (s : State), permitted s 12 = false ∧ bits v 1 1 ≠ 0 ∧ s.rd FI_STATUS_DISCARDED < 65535) ∧
    (∃ (v : _) (s : State), permitted s 12 = false ∧ bits v 2 2 ≠ 0 ∧ s.rd FI_STATUS_DISCARDED < 65535) ∧
    (∃ (v : _) (s : State), permitted s 13 = false ∧ bits v 6 6 ≠ 0 ∧ s.rd FI_STATUS_DISCARDED < 65535) ∧
    (∃ (v : _) (s : State), permitted s 13 = false ∧ bits v 7 7 ≠ 0 ∧ s.rd FI_STATUS_DISCARDED < 65535) ∧
    (∃ (v : _) (s : State), permitted s 14 = false ∧ bits v 0 0 ≠ 0 ∧ s.rd FI_STATUS_DISCARDED < 65535) ∧
    (∃ (v : _) (s : State), permitted s 15 = false ∧ bits v 3 0 ≠ 0 ∧ s.rd FI_STATUS_DISCARDED < 65535) ∧
    (∃ (v : _) (s : State), permitted s 16 = false ∧ bits v 0 0 ≠ 0 ∧ s.rd FI_STATUS_DISCARDED < 65535) ∧
    (∃ (v : _) (s : State), permitted s 16 = false ∧ bits v 1 1 ≠ 0 ∧ s.rd FI_STATUS_DISCARDED < 65535) ∧
    (∃ (v : _) (s : State), permitted s 17 = false ∧ bits v 4 4 ≠ 0 ∧ s.rd FI_STATUS_DISCARDED < 65535) ∧
    (∃ (v : _) (s : State), permitted s 17 = false ∧ bits v 5 5 ≠ 0 ∧ s.rd FI_STATUS_DISCARDED < 65535) ∧
    (∃ (v : _) (s : State), permitted s 17 = false ∧ bits v 6 6 ≠ 0 ∧ s.rd FI_STATUS_DISCARDED < 65535) ∧
    (∃ (v : _) (s : State), permitted s 18 = false ∧ bits v 11 11 ≠ 0 ∧ s.rd FI_STATUS_DISCARDED < 65535) ∧
    (∃ (v : _) (s : State), permitted s 18 = false ∧ bits v 12 12 ≠ 0 ∧ s.rd FI_STATUS_DISCARDED < 65535) ∧
    (∃ (v : _) (s : State), permitted s 18 = false ∧ bits v 13 13 ≠ 0 ∧ s.rd FI_STATUS_DISCARDED < 65535) ∧
    (∃ (v : _) (s : State), permitted s 18 = false ∧ bits v 14 14 ≠ 0 ∧ s.rd FI_STATUS_DISCARDED < 65535) ∧
    (∃ (v : _) (s : State), permitted s 19 = false ∧ bits v 2 2 ≠ 0 ∧ s.rd FI_STATUS_DISCARDED < 65535) ∧
    (∃ (v : _) (s : State), permitted s 20 = false ∧ bits v 8 8 ≠ 0 ∧ s.rd FI_STATUS_DISCARDED < 65535) ∧
    (∃ (v : _) (s : State), permitted s 20 = false ∧ bits v 9 9 ≠ 0 ∧ s.rd FI_STATUS_DISCARDED < 65535) ∧
    (∃ (v : _) (s : State), permitted s 20 = false ∧ bits v 10 10 ≠ 0 ∧ s.rd FI_STATUS_DISCARDED < 65535) ∧
    (∃ (v : _) (s : State), permitted s 20 = false ∧ bits v 11 11 ≠ 0 ∧ s.rd FI_STATUS_DISCARDED < 65535) ∧
    (∃ (v : _) (s : State), permitted s 20 = false ∧ bits v 12 12 ≠ 0 ∧ s.rd FI_STATUS_DISCARDED < 65535) ∧
    (∃ (v : _) (s : State), permitted s 20 = false ∧ bits v 13 13 ≠ 0 ∧ s.rd FI_STATUS_DISCARDED < 65535) :=
  ⟨⟨0x100, (State.reset.wr LC_STATUS_STATE 2).wr INJ_PERMIT_PERMIT 0xfffffffe, by decide +kernel⟩,
   ⟨0x200, (State.reset.wr LC_STATUS_STATE 2).wr INJ_PERMIT_PERMIT 0xfffffffe, by decide +kernel⟩,
   ⟨0x100, (State.reset.wr LC_STATUS_STATE 2).wr INJ_PERMIT_PERMIT 0xfffffffd, by decide +kernel⟩,
   ⟨0x200, (State.reset.wr LC_STATUS_STATE 2).wr INJ_PERMIT_PERMIT 0xfffffffd, by decide +kernel⟩,
   ⟨0x400, (State.reset.wr LC_STATUS_STATE 2).wr INJ_PERMIT_PERMIT 0xfffffffd, by decide +kernel⟩,
   ⟨0x1, (State.reset.wr LC_STATUS_STATE 2).wr INJ_PERMIT_PERMIT 0xfffffffb, by decide +kernel⟩,
   ⟨0x2, (State.reset.wr LC_STATUS_STATE 2).wr INJ_PERMIT_PERMIT 0xfffffffb, by decide +kernel⟩,
   ⟨0x1, (State.reset.wr LC_STATUS_STATE 2).wr INJ_PERMIT_PERMIT 0xfffffff7, by decide +kernel⟩,
   ⟨0x2, (State.reset.wr LC_STATUS_STATE 2).wr INJ_PERMIT_PERMIT 0xfffffff7, by decide +kernel⟩,
   ⟨0x1, (State.reset.wr LC_STATUS_STATE 2).wr INJ_PERMIT_PERMIT 0xffffffef, by decide +kernel⟩,
   ⟨0x2, (State.reset.wr LC_STATUS_STATE 2).wr INJ_PERMIT_PERMIT 0xffffffef, by decide +kernel⟩,
   ⟨0x10, (State.reset.wr LC_STATUS_STATE 2).wr INJ_PERMIT_PERMIT 0xffffffdf, by decide +kernel⟩,
   ⟨0x20, (State.reset.wr LC_STATUS_STATE 2).wr INJ_PERMIT_PERMIT 0xffffffdf, by decide +kernel⟩,
   ⟨0x1, (State.reset.wr LC_STATUS_STATE 2).wr INJ_PERMIT_PERMIT 0xffffffbf, by decide +kernel⟩,
   ⟨0x2, (State.reset.wr LC_STATUS_STATE 2).wr INJ_PERMIT_PERMIT 0xffffffbf, by decide +kernel⟩,
   ⟨0x4, (State.reset.wr LC_STATUS_STATE 2).wr INJ_PERMIT_PERMIT 0xffffffbf, by decide +kernel⟩,
   ⟨0x1, (State.reset.wr LC_STATUS_STATE 2).wr INJ_PERMIT_PERMIT 0xffffff7f, by decide +kernel⟩,
   ⟨0x2, (State.reset.wr LC_STATUS_STATE 2).wr INJ_PERMIT_PERMIT 0xffffff7f, by decide +kernel⟩,
   ⟨0x8, (State.reset.wr LC_STATUS_STATE 2).wr INJ_PERMIT_PERMIT 0xfffffeff, by decide +kernel⟩,
   ⟨0x10, (State.reset.wr LC_STATUS_STATE 2).wr INJ_PERMIT_PERMIT 0xfffffeff, by decide +kernel⟩,
   ⟨0x20, (State.reset.wr LC_STATUS_STATE 2).wr INJ_PERMIT_PERMIT 0xfffffeff, by decide +kernel⟩,
   ⟨0x100, (State.reset.wr LC_STATUS_STATE 2).wr INJ_PERMIT_PERMIT 0xfffffdff, by decide +kernel⟩,
   ⟨0x200, (State.reset.wr LC_STATUS_STATE 2).wr INJ_PERMIT_PERMIT 0xfffffdff, by decide +kernel⟩,
   ⟨0x400, (State.reset.wr LC_STATUS_STATE 2).wr INJ_PERMIT_PERMIT 0xfffffdff, by decide +kernel⟩,
   ⟨0x100, (State.reset.wr LC_STATUS_STATE 2).wr INJ_PERMIT_PERMIT 0xfffffbff, by decide +kernel⟩,
   ⟨0x200, (State.reset.wr LC_STATUS_STATE 2).wr INJ_PERMIT_PERMIT 0xfffffbff, by decide +kernel⟩,
   ⟨0x80, (State.reset.wr LC_STATUS_STATE 2).wr INJ_PERMIT_PERMIT 0xfffff7ff, by decide +kernel⟩,
   ⟨0x100, (State.reset.wr LC_STATUS_STATE 2).wr INJ_PERMIT_PERMIT 0xfffff7ff, by decide +kernel⟩,
   ⟨0x1, (State.reset.wr LC_STATUS_STATE 2).wr INJ_PERMIT_PERMIT 0xffffefff, by decide +kernel⟩,
   ⟨0x2, (State.reset.wr LC_STATUS_STATE 2).wr INJ_PERMIT_PERMIT 0xffffefff, by decide +kernel⟩,
   ⟨0x4, (State.reset.wr LC_STATUS_STATE 2).wr INJ_PERMIT_PERMIT 0xffffefff, by decide +kernel⟩,
   ⟨0x40, (State.reset.wr LC_STATUS_STATE 2).wr INJ_PERMIT_PERMIT 0xffffdfff, by decide +kernel⟩,
   ⟨0x80, (State.reset.wr LC_STATUS_STATE 2).wr INJ_PERMIT_PERMIT 0xffffdfff, by decide +kernel⟩,
   ⟨0x1, (State.reset.wr LC_STATUS_STATE 2).wr INJ_PERMIT_PERMIT 0xffffbfff, by decide +kernel⟩,
   ⟨0x1, (State.reset.wr LC_STATUS_STATE 2).wr INJ_PERMIT_PERMIT 0xffff7fff, by decide +kernel⟩,
   ⟨0x1, (State.reset.wr LC_STATUS_STATE 2).wr INJ_PERMIT_PERMIT 0xfffeffff, by decide +kernel⟩,
   ⟨0x2, (State.reset.wr LC_STATUS_STATE 2).wr INJ_PERMIT_PERMIT 0xfffeffff, by decide +kernel⟩,
   ⟨0x10, (State.reset.wr LC_STATUS_STATE 2).wr INJ_PERMIT_PERMIT 0xfffdffff, by decide +kernel⟩,
   ⟨0x20, (State.reset.wr LC_STATUS_STATE 2).wr INJ_PERMIT_PERMIT 0xfffdffff, by decide +kernel⟩,
   ⟨0x40, (State.reset.wr LC_STATUS_STATE 2).wr INJ_PERMIT_PERMIT 0xfffdffff, by decide +kernel⟩,
   ⟨0x800, (State.reset.wr LC_STATUS_STATE 2).wr INJ_PERMIT_PERMIT 0xfffbffff, by decide +kernel⟩,
   ⟨0x1000, (State.reset.wr LC_STATUS_STATE 2).wr INJ_PERMIT_PERMIT 0xfffbffff, by decide +kernel⟩,
   ⟨0x2000, (State.reset.wr LC_STATUS_STATE 2).wr INJ_PERMIT_PERMIT 0xfffbffff, by decide +kernel⟩,
   ⟨0x4000, (State.reset.wr LC_STATUS_STATE 2).wr INJ_PERMIT_PERMIT 0xfffbffff, by decide +kernel⟩,
   ⟨0x4, (State.reset.wr LC_STATUS_STATE 2).wr INJ_PERMIT_PERMIT 0xfff7ffff, by decide +kernel⟩,
   ⟨0x100, (State.reset.wr LC_STATUS_STATE 2).wr INJ_PERMIT_PERMIT 0xffefffff, by decide +kernel⟩,
   ⟨0x200, (State.reset.wr LC_STATUS_STATE 2).wr INJ_PERMIT_PERMIT 0xffefffff, by decide +kernel⟩,
   ⟨0x400, (State.reset.wr LC_STATUS_STATE 2).wr INJ_PERMIT_PERMIT 0xffefffff, by decide +kernel⟩,
   ⟨0x800, (State.reset.wr LC_STATUS_STATE 2).wr INJ_PERMIT_PERMIT 0xffefffff, by decide +kernel⟩,
   ⟨0x1000, (State.reset.wr LC_STATUS_STATE 2).wr INJ_PERMIT_PERMIT 0xffefffff, by decide +kernel⟩,
   ⟨0x2000, (State.reset.wr LC_STATUS_STATE 2).wr INJ_PERMIT_PERMIT 0xffefffff, by decide +kernel⟩⟩

theorem witness_FaultResults :
    (∃ (n : Fin 16) (v : _) (s : State), permitted s 0 = true ∧ bit v 9 = true ∧ s.rd CB_INJECT_INJ_DELAY n = 0) ∧
    (∃ (v : _) (s : State), permitted s 15 = true ∧ lifecycle s ≠ 1 ∧ bits v 3 0 ≠ 0 ∧ s.rd TP_INJECT_INJ_SENSOR = 0) ∧
    (∃ (m : Fin 16) (s : State), m ≠ 0 ∧ lifecycle s ≠ 1 ∧ s.boot.por = false) ∧
    (∃ (m : Fin 16) (s : State), (s.boot.por = true ∨ (lifecycle s = 1 ∧ m.val - (m.val &&& s.rd TP_MASK_MASK) = 0))) ∧
    (∃ (s : State), credited s = true ∧ s.period ≤ s.offset + 16 ∧ s.rd FI_CHECK_INJECT_INJ_CMP_CHECK = 0 ∧ s.rd FI_CHECK_INJECT_INJ_DLY_CHECK = 0) ∧
    (∃ (s : State), s.offset + 16 < s.period) :=
  ⟨⟨3, 0xFFFFFFFF, State.reset.wr LC_STATUS_STATE 1, by decide +kernel⟩,
   ⟨5, (State.reset.wr LC_STATUS_STATE 2).wr INJ_PERMIT_PERMIT 0x8000, by decide +kernel⟩,
   ⟨5, ((State.reset.wr LC_STATUS_STATE 2).updScratch fun _ => memWr [] 0x780000 99 8).wr KEY_STATE_STATE 1 0 5, by decide +kernel⟩,
   ⟨5, (State.reset.wr LC_STATUS_STATE 1).wr TP_MASK_MASK 7, by decide +kernel⟩,
   ⟨State.reset.wr FRAME_OFFSET_OFFSET (State.reset.period - 16), by decide +kernel⟩,
   ⟨State.reset, by decide +kernel⟩⟩

theorem witness_ResetResults :
    (∃ (s : State), s.boot.por = false) ∧
    (∃ (r : _) (f : _) (s : State), s.boot.por = false ∧ r ∈ regTable ∧ f ∈ r.fields ∧ f.dom ≠ .por ∧ f.acc ≠ .fuse ∧ f.id ∉ [LC_STATUS_STATE.id, DB_STATUS_DEBUG_PERMITTED.id, DB_STATUS_INSTRUCTION.id, MS_STATUS_ADDR.id, MS_STATUS_ADDR_VALID.id, MS_STATUS_ADDR_LOCKED.id, RS_STATUS_LAST_CAUSE.id, RS_STATUS_DEVICE_RESETS.id]) ∧
    (∃ (r : _) (f : _) (s : State), s.boot.por = false ∧ r ∈ regTable ∧ f ∈ r.fields ∧ ((f.dom = .por ∨ f.acc = .fuse)) ∧ f.id ∉ [LC_STATUS_STATE.id, DB_STATUS_DEBUG_PERMITTED.id, MS_STATUS_ADDR.id, MS_STATUS_ADDR_VALID.id, RS_STATUS_LAST_CAUSE.id, RS_STATUS_DEVICE_RESETS.id]) ∧
    (∃ (v : _) (s : State), s.boot.por = false ∧ bits v 15 8 = 0xA5 ∧ bit v 0 = true) ∧
    (∃ (v : _), (bits v 15 8 ≠ 0xA5 ∨ bit v 0 = false)) ∧
    (∃ (s : State), s.boot.por = true) ∧
    (∃ (s : State), s.boot.por = false) :=
  ⟨⟨(State.reset.wr RS_STATUS_DEVICE_RESETS 7).wr LC_STATUS_FUSED_STATE 2, by decide +kernel⟩,
   ⟨rowAt 0x1501028, (rowAt 0x1501028).fields.headD HI_STATUS_READY, (State.reset.setb HI_STATUS_READY true), by decide +kernel⟩,
   ⟨porRow, porFld, State.reset.wr porFld 1, by decide +kernel⟩,
   ⟨0xA501, State.reset.wr BOOT_STATUS_STAGE 7, by decide +kernel⟩,
   ⟨0xA401, by decide +kernel⟩,
   ⟨State.reset.updBoot fun b => { b with por := true }, by decide +kernel⟩,
   ⟨State.reset, by decide +kernel⟩⟩

theorem witness_BootResults :
    (∃ (s : State), inStage 1 s = true) ∧
    (∃ (s : State), inStage 2 s = true) ∧
    (∃ (d : _) (s : State), inStage 2 s = true ∧ directoryAt s.flash 0 = some d) ∧
    (∃ (d : _) (s : State), inStage 2 s = true ∧ directoryAt s.flash 0 = none ∧ directoryAt s.flash 0x10000 = some d) ∧
    (∃ (va : Fin 256) (s : State), inStage 3 s = true ∧ s.flag BOOT_STATUS_NO_DIRECTORY = false ∧ s.flag FW_STATUS_VALID_A = false ∧ s.flag FW_STATUS_VALID_B = false ∧ s.rd LIMIT_STATUS_ANTI_ROLLBACK ≤ va.val) ∧
    (∃ (va : Fin 256) (s : State), inStage 3 s = true ∧ s.flag BOOT_STATUS_NO_DIRECTORY = false ∧ s.flag FW_STATUS_VALID_A = false ∧ s.flag FW_STATUS_VALID_B = false ∧ va.val < s.rd LIMIT_STATUS_ANTI_ROLLBACK) ∧
    (∃ (c : Fin 8) (chan : ChannelBoot) (s : State), inStage 4 s = true ∧ s.boot.memory = false ∧ chan.chan = c.val) ∧
    (∃ (c : Fin 8) (chan : ChannelBoot) (s : State), inStage 4 s = true ∧ s.boot.memory = true ∧ (∀ d : Fin 8, chanState s d = 1 ↔ d = c) ∧ lifecycle s ≠ 1 ∧ ddrFits chan.cfg = true ∧ chan.chan = c.val ∧ chan.outcome = 1) ∧
    (∃ (c : Fin 8) (chan : ChannelBoot) (s : State), inStage 4 s = true ∧ s.boot.memory = true ∧ (∀ d : Fin 8, chanState s d = 1 ↔ d = c) ∧ lifecycle s ≠ 1 ∧ chan.chan = c.val ∧ chan.outcome = 3) ∧
    (∃ (s : State), inStage 5 s = true ∧ s.flag SP_STATUS_WIPING = false) ∧
    (∃ (s : State), s.flag SP_STATUS_WIPING = true) ∧
    (∃ (s : State), inStage 6 s = true ∧ cfgState s = 0 ∧ s.boot.tries = 0) ∧
    (∃ (s : State), inStage 6 s = true ∧ cfgState s = 0 ∧ s.boot.tries = 1) ∧
    (∃ (s : State), inStage 6 s = true ∧ cfgState s = 0 ∧ 2 ≤ s.boot.tries) ∧
    (∃ (s : State), inStage 7 s = true) ∧
    (∃ (s : State), inStage 8 s = true) ∧
    (∃ (s : State), s.boot.por = false ∧ s.flag HM_STATUS_BOOT_DONE = false ∧ bootStage s ≠ 8) ∧
    (∃ (s : State), s.flag HM_STATUS_BOOT_DONE = true) :=
  ⟨⟨State.reset, by decide +kernel⟩,
   ⟨State.reset.wr BOOT_STATUS_STAGE 2, by decide +kernel⟩,
   ⟨memBytes goodFlash 0 256, (State.reset.wr BOOT_STATUS_STAGE 2).updFlash fun _ => goodFlash, by decide +kernel⟩,
   ⟨memBytes goodFlash 0 256, (State.reset.wr BOOT_STATUS_STAGE 2).updFlash fun _ => goodFlash.map fun c => (c.1 + 0x10000, c.2), by decide +kernel⟩,
   ⟨3, State.reset.wr BOOT_STATUS_STAGE 3, by decide +kernel⟩,
   ⟨3, (State.reset.wr BOOT_STATUS_STAGE 3).wr LIMIT_STATUS_ANTI_ROLLBACK 4, by decide +kernel⟩,
   ⟨3, { chan := 3, outcome := 1, cfg := 0x12 }, State.reset.wr BOOT_STATUS_STAGE 4, by decide +kernel⟩,
   ⟨3, { chan := 3, outcome := 1, cfg := 0x12 }, (((State.reset.wr BOOT_STATUS_STAGE 4).wr LC_STATUS_STATE 2).wr DC_STATUS_STATE 1 3).updBoot fun b => { b with memory := true }, by decide +kernel⟩,
   ⟨3, { chan := 3, outcome := 3, cfg := 0x12 }, (((State.reset.wr BOOT_STATUS_STAGE 4).wr LC_STATUS_STATE 2).wr DC_STATUS_STATE 1 3).updBoot fun b => { b with memory := true }, by decide +kernel⟩,
   ⟨State.reset.wr BOOT_STATUS_STAGE 5, by decide +kernel⟩,
   ⟨(State.reset.wr BOOT_STATUS_STAGE 5).wr SP_STATUS_WIPING 1, by decide +kernel⟩,
   ⟨State.reset.wr BOOT_STATUS_STAGE 6, by decide +kernel⟩,
   ⟨(State.reset.wr BOOT_STATUS_STAGE 6).updBoot fun b => { b with tries := 1 }, by decide +kernel⟩,
   ⟨((State.reset.wr BOOT_STATUS_STAGE 6).wr CFG_RESULT_CODE 7).updBoot fun b => { b with tries := 2 }, by decide +kernel⟩,
   ⟨(State.reset.wr BOOT_STATUS_STAGE 7).wr LC_STATUS_STATE 2, by decide +kernel⟩,
   ⟨State.reset.wr BOOT_STATUS_STAGE 8, by decide +kernel⟩,
   ⟨State.reset.wr BOOT_STATUS_STAGE 5, by decide +kernel⟩,
   ⟨State.reset.wr HM_STATUS_BOOT_DONE 1, by decide +kernel⟩⟩

theorem witness_FirmwareResults :
    (∃ (r : Fin 64) (o : Op) (s : State), bootStage s ≠ 8 ∧ hearthTake s r 0x70 = some o ∧ opAt s r o.idx = some o ∧ lifecycle s ≠ 4 ∧ bits (o.word 1) 0 0 ≠ s.rd FW_STATUS_ACTIVE_SLOT) ∧
    (∃ (r : Fin 64) (v : Fin 256) (o : Op) (s : State), bootStage s = 8 ∧ Waits s r 0x70 o ∧ lifecycle s ≠ 4 ∧ bits (o.word 1) 0 0 = 0 ∧ s.rd LIMIT_STATUS_ANTI_ROLLBACK ≤ v.val) ∧
    (∃ (r : Fin 64) (o : Op) (s : State), bootStage s ≠ 8 ∧ hearthTake s r 0x70 = some o ∧ opAt s r o.idx = some o ∧ lifecycle s ≠ 4 ∧ bits (o.word 1) 0 0 = s.rd FW_STATUS_ACTIVE_SLOT) ∧
    (∃ (c : Fin 4) (s : State), fwState s = 1 ∧ s.boot.fwLeft = [c.val] ∧ heldBy s c = [] ∧ s.offset = 0) ∧
    (∃ (c : Fin 4) (s : State), ((fwState s ≠ 1 ∨ heldBy s c ≠ [] ∨ s.offset ≠ 0 ∨ c.val ∉ s.boot.fwLeft))) ∧
    (∃ (s : State), fwState s = 2 ∧ (∀ c : Fin 4, coreState s c ≠ 2) ∧ s.boot.fwCommit = false) ∧
    (∃ (s : State), fwState s = 2 ∧ (∀ c : Fin 4, coreState s c ≠ 2)) ∧
    (∃ (j : Job) (s : State), s.flag FW_STATUS_COMMIT_PENDING = true ∧ stageState s = 0 ∧ (s.disp.jobs.find? fun j => j.op == some commitJob && j.place != .done) = some j ∧ j.place = .held j.worker) ∧
    (∃ (j : Job) (s : State), s.flag FW_STATUS_COMMIT_PENDING = true ∧ (s.disp.jobs.find? fun j => j.op == some commitJob && j.place != .done) = some j ∧ j.place ≠ .held j.worker) ∧
    (∃ (s : State), s.flag FW_STATUS_COMMIT_PENDING = true ∧ (s.disp.jobs.find? fun j => j.op == some commitJob && j.place != .done) = none ∧ hearthRoom s = true) ∧
    (∃ (s : State), (s.disp.jobs.find? fun j => j.op == some commitJob && j.place != .done) = none ∧ hearthRoom s = false) ∧
    (∃ (s : State), s.flag FW_STATUS_COMMIT_PENDING = false) :=
  ⟨⟨2, opOf 2 1 0x70 [1, 64, 64], withHearth (opOf 2 1 0x70 [1, 64, 64]), by decide +kernel⟩,
   ⟨2, 5, opOf 2 1 0x70 [0, 64, 64], (withOps [opOf 2 1 0x70 [0, 64, 64]]).wr BOOT_STATUS_STAGE 8, by decide +kernel⟩,
   ⟨2, opOf 2 1 0x70 [0, 64, 64], withHearth (opOf 2 1 0x70 [0, 64, 64]), by decide +kernel⟩,
   ⟨2, (State.reset.wr FW_STATUS_STATE 1).updBoot fun b => { b with fwLeft := [2] }, by decide +kernel⟩,
   ⟨2, State.reset, by decide +kernel⟩,
   ⟨((State.reset.wr FW_STATUS_STATE 2).wr HM_STATUS_CORE_STATE 0).updBoot fun b => { b with fwSlot := 1 }, by decide +kernel⟩,
   ⟨((State.reset.wr FW_STATUS_STATE 2).wr HM_STATUS_CORE_STATE 0).updBoot fun b => { b with fwSlot := 1 }, by decide +kernel⟩,
   ⟨commitHeld, (State.reset.wr FW_STATUS_COMMIT_PENDING 1).updDisp fun d => { d with jobs := [commitHeld] }, by decide +kernel⟩,
   ⟨{ commitHeld with place := .ready }, (State.reset.wr FW_STATUS_COMMIT_PENDING 1).updDisp fun d => { d with jobs := [{ commitHeld with place := .ready }] }, by decide +kernel⟩,
   ⟨State.reset.wr FW_STATUS_COMMIT_PENDING 1, by decide +kernel⟩,
   ⟨noHearthRoom, by decide +kernel⟩,
   ⟨State.reset, by decide +kernel⟩⟩

theorem witness_RegisterAccessResults :
    (∃ (off : Nat) (i : Nat) (j : Nat) (who : Fin 3) (r : RegRow) (f : _) (s : State), ((who = 0 → s.flag HI_STATUS_READY = true)) ∧ off % 4 = 0 ∧ regAt off = some (r, i, j, 0) ∧ r.width = 32 ∧ servesReg s r j = true ∧ r.isInject = false ∧ (actionTable.find? fun e => r.fields.any fun f => f.id == e.1.id) = none ∧ (r.fields.all fun f => f.acc != .rwf) = true ∧ (r.fields.map (·.id)).Nodup ∧ f ∈ r.fields) ∧
    (∃ (off : Nat) (i : Nat) (j : Nat) (who : Fin 3) (r : RegRow) (f : _) (s : State), ((who = 0 → s.flag HI_STATUS_READY = true)) ∧ off % 8 = 0 ∧ regAt off = some (r, i, j, 0) ∧ r.width = 64 ∧ servesReg s r j = true ∧ r.isInject = false ∧ (actionTable.find? fun e => r.fields.any fun f => f.id == e.1.id) = none ∧ (r.fields.all fun f => f.acc != .rwf) = true ∧ (r.fields.map (·.id)).Nodup ∧ f ∈ r.fields) ∧
    (∃ (off : Nat) (i : Nat) (j : Nat) (who : Fin 3) (r : RegRow) (s : State), ((who = 0 → s.flag HI_STATUS_READY = true)) ∧ off % 4 = 0 ∧ regAt off = some (r, i, j, 0) ∧ r.width = 64 ∧ r.writable = true) ∧
    (∃ (off : Nat) (i : Nat) (j : Nat) (low : Nat) (who : Fin 3) (r : RegRow) (f : _) (s : State), ((who = 0 → s.flag HI_STATUS_READY = true)) ∧ off % 4 = 0 ∧ regAt (off + 4) = some (r, i, j, 4) ∧ r.width = 64 ∧ servesReg s r j = true ∧ r.isInject = false ∧ heldLow s off = some low ∧ (actionTable.find? fun e => r.fields.any fun f => f.id == e.1.id) = none ∧ (r.fields.all fun f => f.acc != .rwf) = true ∧ (r.fields.map (·.id)).Nodup ∧ f ∈ r.fields) ∧
    (∃ (off : Nat) (be : Fin 256), ((be ≠ 0x0F ∧ be ≠ 0xFF) ∨ off % 4 ≠ 0 ∨ (be = 0xFF ∧ off % 8 ≠ 0))) ∧
    (∃ (off : Nat) (be : Fin 256), ((be ≠ 0x0F ∧ be ≠ 0xFF) ∨ off % 4 ≠ 0 ∨ (be = 0xFF ∧ off % 8 ≠ 0))) ∧
    (∃ (be : Fin 256) (s : State), (be = 0x0F ∨ be = 0xFF) ∧ s.flag HI_STATUS_READY = false) ∧
    (∃ (space : BusSpace) (off : Nat) (be : Fin 256) (who : Fin 3), who ≠ 0 ∧ (space ≠ .registers ∨ (be ≠ 0x0F ∧ be ≠ 0xFF) ∨ off % 4 ≠ 0 ∨ (be = 0xFF ∧ off % 8 ≠ 0))) ∧
    (∃ (off : Nat) (be : Fin 256) (who : Fin 3) (s : State), ((who = 0 → s.flag HI_STATUS_READY = true)) ∧ regAt off = none ∧ ((be = 0x0F ∧ off % 4 = 0) ∨ (be = 0xFF ∧ off % 8 = 0 ∧ regAt (off + 4) = none))) ∧
    (∃ (off : Nat) (be : Fin 256) (who : Fin 3) (s : State), ((who = 0 → s.flag HI_STATUS_READY = true)) ∧ regAt off = none ∧ ((be = 0x0F ∧ off % 4 = 0) ∨ (be = 0xFF ∧ off % 8 = 0 ∧ regAt (off + 4) = none))) ∧
    (∃ (off : Nat) (i : Nat) (j : Nat) (b : Nat) (be : Fin 256) (who : Fin 3) (r : RegRow) (s : State), ((who = 0 → s.flag HI_STATUS_READY = true)) ∧ regAt off = some (r, i, j, b) ∧ servesReg s r j = false ∧ ((be = 0x0F ∧ off % 4 = 0 ∧ r.width = 32) ∨ (be = 0xFF ∧ off % 8 = 0 ∧ r.width = 64 ∧ b = 0))) ∧
    (∃ (off : Nat) (i : Nat) (j : Nat) (be : Fin 256) (who : Fin 3) (r : RegRow) (s : State), ((who = 0 → s.flag HI_STATUS_READY = true)) ∧ ((be = 0x0F ∧ off % 4 = 0 ∧ r.width = 32) ∨ (be = 0xFF ∧ off % 8 = 0 ∧ r.width = 64)) ∧ regAt off = some (r, i, j, 0) ∧ (r.fields.all fun f => f.acc != .rwf) = true) ∧
    (∃ (off : Nat) (i : Nat) (j : Nat) (be : Fin 256) (who : Fin 3) (r : RegRow) (s : State), ((who = 0 → s.flag HI_STATUS_READY = true)) ∧ ((be = 0x0F ∧ off % 4 = 0 ∧ r.width = 32) ∨ (be = 0xFF ∧ off % 8 = 0 ∧ r.width = 64)) ∧ regAt off = some (r, i, j, 0) ∧ (r.fields.all fun f => f.acc != .rwf) = true) ∧
    (∃ (off : Nat) (i : Nat) (j : Nat) (be : Fin 256) (who : Fin 3) (r : RegRow) (s : State), ((who = 0 → s.flag HI_STATUS_READY = true)) ∧ ((be = 0x0F ∧ off % 4 = 0 ∧ r.width = 32) ∨ (be = 0xFF ∧ off % 8 = 0 ∧ r.width = 64)) ∧ regAt off = some (r, i, j, 0) ∧ (r.fields.all fun f => f.acc != .rwf) = true) ∧
    (∃ (who : Fin 3) (s : State), ((who = 0 → s.flag HI_STATUS_READY = true))) ∧
    (∃ (off : Nat) (i : Nat) (j : Nat) (b : Nat) (who : Fin 3) (r : RegRow) (s : State), ((who = 0 → s.flag HI_STATUS_READY = true)) ∧ off % 4 = 0 ∧ regAt off = some (r, i, j, b) ∧ r.width ≠ 32 ∧ (r.width ≠ 64 ∨ r.writable = false)) ∧
    (∃ (off : Nat) (i : Nat) (j : Nat) (who : Fin 3) (r : RegRow) (f : _) (s : State), ((who = 0 → s.flag HI_STATUS_READY = true)) ∧ off % 4 = 0 ∧ regAt (off + 4) = some (r, i, j, 4) ∧ r.width = 64 ∧ servesReg s r j = true ∧ r.isInject = false ∧ heldLow s off = none ∧ (actionTable.find? fun e => r.fields.any fun f => f.id == e.1.id) = none ∧ (r.fields.all fun f => f.acc != .rwf) = true ∧ (r.fields.map (·.id)).Nodup ∧ f ∈ r.fields ∧ f.acc = .rw ∧ f.eff ≠ .tick) ∧
    (∃ (off : Nat) (i : Nat) (j : Nat) (who : Fin 3) (r : RegRow) (q : _) (s : State), ((who = 0 → s.flag HI_STATUS_READY = true)) ∧ off % 8 = 0 ∧ regAt off = some (r, i, j, 0) ∧ r.width ≠ 64 ∧ regAt (off + 4) = some q) ∧
    (∃ (off : Nat) (be : Fin 256), ((be ≠ 0x0F ∧ be ≠ 0xFF) ∨ off % 4 ≠ 0 ∨ (be = 0xFF ∧ (off % 8 ≠ 0 ∨ off ≤ 0x800 ∧ off % 16 = 0)))) ∧
    (∃ (off : Nat) (be : Fin 256), ((be ≠ 0x0F ∧ be ≠ 0xFF) ∨ off % 4 ≠ 0 ∨ (be = 0xFF ∧ (off % 8 ≠ 0 ∨ off ≤ 0x800 ∧ off % 16 = 0)))) ∧
    (∃ (off : Nat), off % 4 = 0 ∧ 0x8000 ≤ off ∧ off < 0x10000) ∧
    (∃ (off : Nat) (be : Fin 256), ((be = 0x0F ∧ off % 4 = 0) ∨ (be = 0xFF ∧ off % 8 = 0)) ∧ 0x7000 ≤ off ∧ off < 0x7100) ∧
    (∃ (off : Nat) (be : Fin 256), ((be = 0x0F ∧ off % 4 = 0) ∨ (be = 0xFF ∧ off % 8 = 0)) ∧ ((off < 0x800 ∧ off % 16 ≠ 0) ∨ (0x800 < off ∧ off < 0x7000) ∨ (0x7100 ≤ off ∧ off < 0x8000) ∨ 0x10000 ≤ off)) ∧
    (∃ (off : Nat) (be : Fin 256), ((be = 0x0F ∧ off % 4 = 0) ∨ (be = 0xFF ∧ off % 8 = 0)) ∧ ((off < 0x800 ∧ off % 16 ≠ 0) ∨ (0x800 < off ∧ off < 0x7000) ∨ (0x7100 ≤ off ∧ off < 0x8000) ∨ 0x10000 ≤ off)) ∧
    (∃ (off : Nat) (i : Nat) (j : Nat) (r : RegRow), off % 4 = 0 ∧ regAt off = some (r, i, j, 0) ∧ r.width ≠ 32) ∧
    (∃ (off : Nat) (i : Nat) (j : Nat) (r : RegRow), off % 8 = 0 ∧ regAt off = some (r, i, j, 0) ∧ r.width = 64 ∧ (r.fields.any fun f => f.id == FRAME_LOG_ENTRY.id) = false) ∧
    (∃ (off : Nat) (wide : _) (debug : _), (debug = true ∨ off % 4 ≠ 0 ∨ (wide = true ∧ off % 8 ≠ 0) ∨ ((regAt off).all fun x => x.2.2.2 != 0 || x.1.width == 32) = true)) ∧
    (∃ (off : Nat) (wide : _) (debug : _), (debug = true ∨ off % 4 ≠ 0 ∨ (wide = true ∧ off % 8 ≠ 0) ∨ ((regAt off).all fun x => x.2.2.2 != 0 || x.1.width == 32) = true)) ∧
    (∃ (off : Nat) (who : Fin 3), (off % 4 ≠ 0 ∨ ((regAt off).all fun x => !x.1.fields.any fun f => rwfFor (who.val == 1) f x.2.1 x.2.2.1) = true)) ∧
    (∃ (off : Nat) (who : Fin 3), (off % 4 ≠ 0 ∨ ((regAt off).all fun x => !x.1.fields.any fun f => rwfFor (who.val == 1) f x.2.1 x.2.2.1) = true)) ∧
    (∃ (off : Nat) (who : Fin 3), (off % 4 ≠ 0 ∨ ((regAt off).all fun x => !x.1.fields.any fun f => rwfFor (who.val == 1) f x.2.1 x.2.2.1) = true)) ∧
    (∃ (off : Nat) (i : Nat) (j : Nat) (b : Nat) (who : Fin 3) (r : RegRow), off % 4 = 0 ∧ regAt off = some (r, i, j, b) ∧ (r.fields.any fun f => rwfFor (who.val == 1) f i j) = true) ∧
    (∃ (off : Nat) (i : Nat) (j : Nat) (who : Fin 3) (r : RegRow) (f : _) (s : State), ((who = 0 → s.flag HI_STATUS_READY = true)) ∧ off % 4 = 0 ∧ regAt off = some (r, i, j, 0) ∧ r.width = 32 ∧ f.lo ≤ f.hi ∧ f.hi < 32 ∧ (r.fields.map (·.id)).Nodup ∧ f ∈ r.fields ∧ servesReg s r j = true ∧ rwfFor (who.val == 1) f i j = true ∧ r.isInject = false ∧ stageLocked s = false ∧ ownsStage s (who.val == 1) = true) ∧
    (∃ (off : Nat) (i : Nat) (j : Nat) (who : Fin 3) (r : RegRow) (f : _) (s : State), ((who = 0 → s.flag HI_STATUS_READY = true)) ∧ off % 4 = 0 ∧ regAt off = some (r, i, j, 0) ∧ r.width = 64 ∧ f ∈ r.fields ∧ rwfFor (who.val == 1) f i j = true) ∧
    (∃ (off : Nat) (i : Nat) (j : Nat) (low : Nat) (who : Fin 3) (r : RegRow) (f : _) (s : State), ((who = 0 → s.flag HI_STATUS_READY = true)) ∧ off % 4 = 0 ∧ regAt (off + 4) = some (r, i, j, 4) ∧ r.width = 64 ∧ heldLow s off = some low ∧ (r.fields.map (·.id)).Nodup ∧ f ∈ r.fields ∧ servesReg s r j = true ∧ rwfFor (who.val == 1) f i j = true ∧ r.isInject = false ∧ stageLocked s = false ∧ ownsStage s (who.val == 1) = true) ∧
    (∃ (off : Nat) (i : Nat) (j : Nat) (who : Fin 3) (r : RegRow) (f : _) (s : State), ((who = 0 → s.flag HI_STATUS_READY = true)) ∧ off % 4 = 0 ∧ regAt off = some (r, i, j, 0) ∧ r.width = 32 ∧ (r.fields.map (·.id)).Nodup ∧ f ∈ r.fields ∧ servesReg s r j = true ∧ rwfFor (who.val == 1) f i j = true ∧ r.isInject = false ∧ ((stageLocked s = true ∨ ownsStage s (who.val == 1) = false))) :=
  ⟨⟨0x1501028, 0, 0, 0, rowAt 0x1501028, (rowAt 0x1501028).fields.headD HI_STATUS_READY, State.reset.setb HI_STATUS_READY true, by decide +kernel⟩,
   ⟨0x100028, 0, 0, 0, rowAt 0x100028, (rowAt 0x100028).fields.headD HI_STATUS_READY, State.reset.setb HI_STATUS_READY true, by decide +kernel⟩,
   ⟨0x100028, 0, 0, 0, rowAt 0x100028, State.reset.setb HI_STATUS_READY true, by decide +kernel⟩,
   ⟨0x100028, 0, 0, 4096, 0, rowAt 0x100028, (rowAt 0x100028).fields.headD HI_STATUS_READY, holdLow 0x100028 (some 4096) (State.reset.setb HI_STATUS_READY true), by decide +kernel⟩,
   ⟨0x1501028, 3, by decide +kernel⟩,
   ⟨0x150102C, 255, by decide +kernel⟩,
   ⟨15, State.reset, by decide +kernel⟩,
   ⟨.registers, 0x150102A, 15, 1, by decide +kernel⟩,
   ⟨0x3000000, 15, 0, State.reset.setb HI_STATUS_READY true, by decide +kernel⟩,
   ⟨0x3000000, 255, 2, State.reset, by decide +kernel⟩,
   ⟨0x1401000, 0, 0, 0, 15, 1, rowAt 0x1401000, State.reset, by decide +kernel⟩,
   ⟨0x1000000, 0, 0, 15, 1, rowAt 0x1000000, State.reset, by decide +kernel⟩,
   ⟨0x1100028, 0, 0, 255, 2, rowAt 0x1100028, State.reset, by decide +kernel⟩,
   ⟨0x150002C, 0, 0, 15, 0, rowAt 0x150002C, State.reset.setb HI_STATUS_READY true, by decide +kernel⟩,
   ⟨0, State.reset.setb HI_STATUS_READY true, by decide +kernel⟩,
   ⟨0x1000050, 0, 0, 0, 1, rowAt 0x1000050, State.reset, by decide +kernel⟩,
   ⟨0x100028, 0, 0, 0, rowAt 0x100028, (rowAt 0x100028).fields.headD HI_STATUS_READY, State.reset.setb HI_STATUS_READY true, by decide +kernel⟩,
   ⟨0x1501020, 0, 0, 1, rowAt 0x1501020, (rowAt 0x1501024, 0, 0, 0), State.reset, by decide +kernel⟩,
   ⟨0x800, 255, by decide +kernel⟩,
   ⟨0x8004, 7, by decide +kernel⟩,
   ⟨0x8010, by decide +kernel⟩,
   ⟨0x7008, 255, by decide +kernel⟩,
   ⟨0x804, 15, by decide +kernel⟩,
   ⟨0x7FF8, 255, by decide +kernel⟩,
   ⟨0x1000050, 0, 0, rowAt 0x1000050, by decide +kernel⟩,
   ⟨0x1000050, 0, 0, rowAt 0x1000050, by decide +kernel⟩,
   ⟨0x1501028, false, false, by decide +kernel⟩,
   ⟨0x1000050, false, true, by decide +kernel⟩,
   ⟨0x1100012, 0, by decide +kernel⟩,
   ⟨0x1501028, 0, by decide +kernel⟩,
   ⟨0x3000000, 0, by decide +kernel⟩,
   ⟨0x1100018, 0, 0, 0, 0, rowAt 0x1100018, by decide +kernel⟩,
   ⟨0x1100018, 0, 0, 0, rowAt 0x1100018, CM_LINES_LINES, State.reset.setb HI_STATUS_READY true, by decide +kernel⟩,
   ⟨0x1100010, 0, 0, 0, rowAt 0x1100010, CM_BASE_ADDR, State.reset.setb HI_STATUS_READY true, by decide +kernel⟩,
   ⟨0x1100010, 0, 0, 64, 0, rowAt 0x1100010, CM_BASE_ADDR, holdLow 0x1100010 (some 64) (State.reset.setb HI_STATUS_READY true), by decide +kernel⟩,
   ⟨0x1100018, 0, 0, 0, rowAt 0x1100018, CM_LINES_LINES, (State.reset.setb HI_STATUS_READY true).wr PF_STATE_STATE 2, by decide +kernel⟩⟩

theorem witness_IoResults :
    (∃ (k : _) (e : Slot) (s : State), opening s 0x60 k = some e ∧ s.offset = e.start ∧ s.flag PIN_STATUS_STROBE e.unit (bits e.param 5 0) = true ∧ s.flag PIN_STATUS_DIAG_OK e.unit (bits e.param 5 0) = true ∧ pinClass s e.unit (bits e.param 5 0) = 1) ∧
    (∃ (k : _) (e : Slot) (s : State), opening s 0x60 k = some e ∧ s.offset = e.start ∧ ((s.flag PIN_STATUS_STROBE e.unit (bits e.param 5 0) = false ∨ s.flag PIN_STATUS_DIAG_OK e.unit (bits e.param 5 0) = false))) ∧
    (∃ (b : Fin 8) (p : Fin 48) (s : State), pinDrives s b p = true) ∧
    (∃ (b : Fin 8) (p : Fin 48) (s : State), pinDrives s b p = false) ∧
    (∃ (b : Fin 8) (p : Fin 4) (s : State), s.flag PIN_STATUS_STROBE b p = true ∧ pinDrives s b p = true ∧ ((48 * b.val + p.val ∈ s.io.pulses ∨ (sget 0 s.io.classes (48 * b.val + p.val) = 1 ∧ 48 * b.val + p.val ∉ s.io.missed)))) ∧
    (∃ (b : Fin 8) (p : Fin 4) (s : State), s.flag PIN_STATUS_STROBE b p = true ∧ pinDrives s b p = true ∧ ((48 * b.val + p.val ∈ s.io.pulses ∨ (sget 0 s.io.classes (48 * b.val + p.val) = 1 ∧ 48 * b.val + p.val ∉ s.io.missed)))) ∧
    (∃ (b : Fin 8) (p : Fin 4) (s : State), s.flag PIN_STATUS_STROBE b p = true ∧ pinDrives s b p = true ∧ 48 * b.val + p.val ∉ s.io.pulses ∧ sget 0 s.io.classes (48 * b.val + p.val) = 1 ∧ 48 * b.val + p.val ∈ s.io.missed) ∧
    (∃ (b : Fin 8) (p : Fin 4) (s : State), ((s.flag PIN_STATUS_STROBE b p = false ∨ pinDrives s b p = false ∨ (48 * b.val + p.val ∉ s.io.pulses ∧ sget 0 s.io.classes (48 * b.val + p.val) ≠ 1)))) ∧
    (∃ (b : Fin 8) (p : Fin 4) (s : State), ((s.flag PIN_STATUS_STROBE b p = false ∨ pinDrives s b p = false ∨ (48 * b.val + p.val ∉ s.io.pulses ∧ sget 0 s.io.classes (48 * b.val + p.val) ≠ 1)))) :=
  ⟨⟨0, slotAt (withSlot (0x60 + 2 ^ 33 * 60) 2 1 State.reset).sched 0, (((withSlot (0x60 + 2 ^ 33 * 60) 2 1 State.reset).wr PIN_STATUS_STROBE 1 2 1).wr PIN_STATUS_DIAG_OK 1 2 1).wr STB_CFG_STRETCH 30 0 0, by decide +kernel⟩,
   ⟨0, slotAt (withSlot 0x60 2 1 State.reset).sched 0, withSlot 0x60 2 1 State.reset, by decide +kernel⟩,
   ⟨2, 5, (State.reset.wr CFG_STATUS_GLOBAL_LOADED 1).wr PIN_STATUS_DIR 2 2 5, by decide +kernel⟩,
   ⟨2, 5, State.reset, by decide +kernel⟩,
   ⟨2, 3, (((State.reset.wr CFG_STATUS_GLOBAL_LOADED 1).wr PIN_STATUS_DIR 2 2 3).wr PIN_STATUS_STROBE 1 2 3).updIo fun u => { u with pulses := [99] }, by decide +kernel⟩,
   ⟨2, 3, (((State.reset.wr CFG_STATUS_GLOBAL_LOADED 1).wr PIN_STATUS_DIR 2 2 3).wr PIN_STATUS_STROBE 1 2 3).updIo fun u => { u with classes := [(99, 1)] }, by decide +kernel⟩,
   ⟨2, 3, (((State.reset.wr CFG_STATUS_GLOBAL_LOADED 1).wr PIN_STATUS_DIR 2 2 3).wr PIN_STATUS_STROBE 1 2 3).updIo fun u => { u with classes := [(99, 1)], missed := [99] }, by decide +kernel⟩,
   ⟨2, 3, State.reset, by decide +kernel⟩,
   ⟨2, 3, ((State.reset.wr CFG_STATUS_GLOBAL_LOADED 1).wr PIN_STATUS_DIR 2 2 3).wr PIN_STATUS_STROBE 1 2 3, by decide +kernel⟩⟩

theorem witness_FrameIndexOfEveryTick :
    (∃ (s : State), tickWritesOk s = true ∧ frozen s = false ∧ s.now + 1 < 2 ^ 64 ∧ 1 ≤ s.rd SCHED_POS_CYCLE_LEN ∧ s.rd SCHED_POS_CYCLE_LEN ≤ 4096) ∧
    (∃ (s : State), 1 ≤ s.rd SCHED_POS_CYCLE_LEN) ∧
    (∃ (s : State), s.now < 2 ^ 64) :=
  ⟨⟨State.reset, by decide +kernel⟩,
   ⟨State.reset, by decide +kernel⟩,
   ⟨State.reset.wr TICK_NOW_TICK 77, by decide +kernel⟩⟩

theorem witness_AliasesOfScratchpad :
    (∃ (cls : Fin 4) (addr : Nat) (n : Nat) (core0 : _) (data : List Byte) (s : State), addr < 0x800000 ∧ addr + n ≤ 0x800000 ∧ data.length = n ∧ padFree s = true ∧ padAdmits s cls .write false core0 addr n = true ∧ s.sp.bad = [] ∧ s.rd SP_INJECT_INJ_ECC1 = 0 ∧ s.rd SP_INJECT_INJ_ECC2 = 0) ∧
    (∃ (w : Nat) (addr : Nat) (n : Nat) (s : State), 1 ≤ w ∧ w ≤ 2 ∧ addr < 0x800000 ∧ addr + n ≤ 0x800000 ∧ padFree s = true) ∧
    (∃ (w : Nat) (addr : Nat) (n : Nat) (s : State), 1 ≤ w ∧ w ≤ 2 ∧ addr < 0x800000 ∧ addr + n ≤ 0x800000 ∧ padFree s = true) ∧
    (∃ (cls : Fin 4) (w : Nat) (addr : Nat) (n : Nat) (core0 : _) (s : State), 1 ≤ w ∧ w ≤ 2 ∧ addr < 0x800000 ∧ addr + n ≤ 0x800000 ∧ padFree s = true ∧ padAdmits s cls .write false core0 addr n = false) :=
  ⟨⟨3, 8192, 4, false, ([1, 2, 3, 4] : List Byte), padOpen 96 (State.reset.updScratch fun _ => memWr [] 8192 0x010203040506 8), by decide +kernel⟩,
   ⟨2, 8192, 4, State.reset, by decide +kernel⟩,
   ⟨1, 8192, 4, padOpen 96 State.reset, by decide +kernel⟩,
   ⟨3, 1, 8192, 4, false, State.reset, by decide +kernel⟩⟩

/-- Does a meaning answer a next state? -/
def answers : Out → Bool
  | .next _ => true
  | _ => false

theorem next_of {o : Out} (h : answers o = true) : ∃ t, o = .next t := by
  cases o with
  | next t => exact ⟨t, rfl⟩
  | fault r => cases r
  | refused r => cases h

theorem witness_CommandsKeepQueue : ∃ (c : Instr) (s t : State), exec c s = .next t ∧ s.pending = [.idcode] := by
  obtain ⟨t, h⟩ := next_of (o := exec (.spliceWrite 3 2 0 0) { State.reset with pending := [.idcode] }) (by decide +kernel)
  exact ⟨_, _, t, h, rfl⟩

theorem witness_StepKeepsMemories : ∃ (s t : State), memoriesOk s = true ∧ s.dram ≠ [] ∧ step s = .next t := by
  obtain ⟨t, h⟩ := next_of (o := step { State.reset with pending := [.meshDataRequest], dram := [(64, 5)] }) (by decide +kernel)
  exact ⟨_, t, by decide +kernel, by decide, h⟩

theorem witness_StepKeepsTickWrites : ∃ (s t : State), tickWritesOk s = true ∧ s.tickWrites ≠ [] ∧ step s = .next t := by
  obtain ⟨t, h⟩ := next_of (o := step { State.reset with pending := [.tick], tickWrites := [⟨ALIGN_CTRL_MARK_DIV, 0, 0, 1⟩] }) (by decide +kernel)
  exact ⟨_, t, by decide +kernel, by decide, h⟩

theorem witness_StagingFrames : ∃ (c : Instr) (s t : State), c.family = .staging ∧ exec c s = .next t := by
  obtain ⟨t, h⟩ := next_of (o := exec .alignModeChange (State.reset.updTick fun t => { t with modeDue := some 2 })) (by decide +kernel)
  exact ⟨_, _, t, rfl, h⟩

theorem witness_StreamFrames : ∃ (c : Instr) (s t : State), c.family = .streams ∧ exec c s = .next t := by
  obtain ⟨t, h⟩ := next_of (o := exec (.spliceWrite 3 2 0 0) State.reset) (by decide +kernel)
  exact ⟨_, _, t, rfl, h⟩

theorem witness_SliceFrames : ∃ (c : Instr) (s t : State), c.family = .slices ∧ exec c s = .next t := by
  obtain ⟨t, h⟩ := next_of (o := exec (.mac 2 3) (running 195 (2 ^ 61))) (by decide +kernel)
  exact ⟨_, _, t, rfl, h⟩

theorem witness_LoadingFrames : ∃ (c : Instr) (s t : State), c.family = .loading ∧ exec c s = .next t := by
  obtain ⟨t, h⟩ := next_of (o := exec .cfgNop (decoding 0 4)) (by decide +kernel)
  exact ⟨_, _, t, rfl, h⟩

theorem witness_MemoryFrames : ∃ (c : Instr) (s t : State), c.family = .memory ∧ exec c s = .next t := by
  obtain ⟨t, h⟩ := next_of (o := exec (.writeBack 3)
    ((chanUp 3 State.reset).updDdr fun _ => [(3, { wb := [(3 * 2 ^ 37 + 128, true)] })])) (by decide +kernel)
  exact ⟨_, _, t, rfl, h⟩

theorem witness_LinkFrames : ∃ (c : Instr) (s t : State), c.family = .links ∧ exec c s = .next t := by
  obtain ⟨t, h⟩ := next_of (o := exec (.laneElasticSlip 4 2 true) State.reset) (by decide +kernel)
  exact ⟨_, _, t, rfl, h⟩

theorem witness_HostFrames : ∃ (c : Instr) (s t : State), c.family = .host ∧ exec c s = .next t := by
  obtain ⟨t, h⟩ := next_of (o := exec (.nop 5) (withOps [opOf 5 9 0 []])) (by decide +kernel)
  exact ⟨_, _, t, rfl, h⟩

theorem witness_ManagementFrames : ∃ (c : Instr) (s t : State), c.family = .management ∧ exec c s = .next t := by
  obtain ⟨t, h⟩ := next_of (o := exec (.tamperSensorFire 3) State.reset) (by decide +kernel)
  exact ⟨_, _, t, rfl, h⟩

theorem witness_DebugFrames : ∃ (c : Instr) (s t : State), c.family = .debug ∧ exec c s = .next t := by
  obtain ⟨t, h⟩ := next_of (o := exec .highz State.reset) (by decide +kernel)
  exact ⟨_, _, t, rfl, h⟩

theorem witness_InjectionFrames : ∃ (c : Instr) (s t : State), c.family = .injection ∧ exec c s = .next t := by
  obtain ⟨t, h⟩ := next_of (o := exec (.injDelay 7 0x200) State.reset) (by decide +kernel)
  exact ⟨_, _, t, rfl, h⟩

theorem witness_BoundaryFrames : ∃ (c : Instr) (s t : State), c.family = .boundary ∧ exec c s = .next t := by
  obtain ⟨t, h⟩ := next_of (o := exec .tick State.reset) (by decide +kernel)
  exact ⟨_, _, t, rfl, h⟩

theorem witness_AccessFrames :
    (∃ (off i j b v : Nat) (who : Fin 3) (r : RegRow) (s t : State), regAt off = some (r, i, j, b) ∧ r.isInject = false ∧
      (actionTable.find? fun e => r.fields.any fun f => f.id == e.1.id) = none ∧
      exec (.registerWrite .registers off 0x0F v who) s = .next t) ∧
    (∃ (off i j b v : Nat) (who : Fin 3) (r : RegRow) (s t : State), regAt off = some (r, i, j, b) ∧ r.isInject = false ∧
      (actionTable.find? fun e => r.fields.any fun f => f.id == e.1.id) = none ∧ exec (.rwfWrite off v who) s = .next t) ∧
    (∃ (off v : Nat) (be : Fin 256) (s t : State), regAt off = none ∧ be = 0x0F ∧
      exec (.registerWrite .registers off be v 0) s = .next t) ∧
    (∃ (off v : Nat) (be : Fin 256) (s t : State), exec (.registerWrite .doorbells off be v 0) s = .next t) ∧
    (∃ (field : PcieField) (off v : Nat) (be : Fin 256) (who : Fin 3) (s t : State),
      exec (.registerWrite (.config field) off be v who) s = .next t) ∧
    (∃ (dr : Nat) (s t : State), bit dr 0 = false ∧ exec (.dbgReg dr) s = .next t) ∧
    ∃ (q : Fin 480) (tag : Fin 256) (perr : Option Nat) (susp : List (Nat × Nat)) (s t : State),
      (∀ x, xactAt s q tag = some x → x.dst ≠ portAt 2 0 1) ∧ exec (.writeReq q tag perr susp) s = .next t := by
  obtain ⟨t1, h1⟩ := next_of (o := exec (.registerWrite .registers 0x1501028 0x0F 5 0) (State.reset.setb HI_STATUS_READY true)) (by decide +kernel)
  obtain ⟨t2, h2⟩ := next_of (o := exec (.rwfWrite 0x1100018 70 0) State.reset) (by decide +kernel)
  obtain ⟨t3, h3⟩ := next_of (o := exec (.registerWrite .registers 0x3000000 0x0F 5 0) (State.reset.setb HI_STATUS_READY true)) (by decide +kernel)
  obtain ⟨t4, h4⟩ := next_of (o := exec (.registerWrite .doorbells 0x8000 0x0F 5 0) State.reset) (by decide +kernel)
  obtain ⟨t7, h7⟩ := next_of (o := exec (.registerWrite (.config .msixEnable) 0 0x0F 1 0) State.reset) (by decide +kernel)
  obtain ⟨t5, h5⟩ := next_of (o := exec (.dbgReg 0) State.reset) (by decide +kernel)
  obtain ⟨t6, h6⟩ := next_of (o := exec (.writeReq 3 7 none []) (withXacts [aXact 3 3 0 .sent])) (by decide +kernel)
  refine ⟨⟨_, 0, 0, 0, _, _, rowAt 0x1501028, _, t1, by decide +kernel, by decide +kernel, by decide +kernel, h1⟩,
    ⟨_, 0, 0, 0, _, _, rowAt 0x1100018, _, t2, by decide +kernel, by decide +kernel, by decide +kernel, h2⟩,
    ⟨_, _, _, _, t3, by decide +kernel, rfl, h3⟩, ⟨_, _, _, _, t4, h4⟩, ⟨_, _, _, _, _, _, t7, h7⟩, ⟨_, _, t5, by decide, h5⟩, _, _, _, _, _, t6, ?_, h6⟩
  intro x hx
  have e : x = aXact 3 3 0 .sent := by
    have k : xactAt (withXacts [aXact 3 3 0 .sent]) (3 : Fin 480) (7 : Fin 256) = some (aXact 3 3 0 .sent) := by decide +kernel
    exact Option.some.inj (hx.symm.trans k)
  rw [e]
  decide +kernel

theorem witness_OtherUnitsKept :
    ∃ (c : Instr) (rows : List RegRow) (i : Nat) (s t : State), c.own = some (rows, i) ∧ exec c s = .next t := by
  obtain ⟨t, h⟩ := next_of (o := exec (.spliceWrite 3 2 0 0) State.reset) (by decide +kernel)
  exact ⟨_, _, _, _, t, rfl, h⟩

theorem witness_ResetsKeep :
    ∃ (c : Instr) (s t : State), c.family = .reset ∧ (∀ b, c ≠ .porAssert b) ∧ (∀ b, c ≠ .porEnd b) ∧ exec c s = .next t := by
  obtain ⟨t, h⟩ := next_of (o := exec (.deviceResetCmd 0xA501) State.reset) (by decide +kernel)
  exact ⟨.deviceResetCmd 0xA501, _, t, rfl, fun _ => nofun, fun _ => nofun, h⟩

/-- A move of 128 bytes into host memory that runs on ring 2. -/
def aMove : Op := { opOf 2 7 1 [0x1000, 0x2000, 2 ^ 32 + 128] with phase := .running }

theorem witness_MemoryKept_host :
    (∃ (s t : State), exec .eventRecordWrite s = .next t) ∧
    (∃ (r : Fin 64) (fails : Bool) (s t : State), exec (.completionWrite r fails) s = .next t) ∧
    (∃ (r : Fin 64) (s t : State), exec (.msixTimer r) s = .next t) ∧
    (∃ (r : Fin 64) (idx : Nat) (failed : TransferEnd) (o : Op) (s t : State), opAt s r idx = some o ∧
      exec (.dmaMoveDone r idx failed) s = .next t) ∧
    (∃ (r : Fin 64) (failed : TransferEnd) (o : Op) (s t : State), takeOp s r 0x02 = some o ∧ bits (o.word 1) 3 0 ≤ 4 ∧
      exec (.debugRead r failed) s = .next t) ∧
    (∃ (s t : State), exec .d3hotEntry s = .next t) ∧
    (∃ (s t : State), s.mesh.local_ ≠ [] ∧ exec .meshHostPacket s = .next t) ∧
    ∃ (r : Fin 64) (good : Bool) (v : Fin 256) (o : Op) (s t : State),
      (if bootStage s == 8 then takeOp s r 0x70 else hearthTake s r 0x70) = some o ∧ exec (.fwWrite r good v) s = .next t := by
  obtain ⟨t1, h1⟩ := next_of (o := exec .eventRecordWrite (State.reset.setb EV_STATUS_RUNNING true)) (by decide +kernel)
  obtain ⟨t2, h2⟩ := next_of (o := exec (.completionWrite 2 false) State.reset) (by decide +kernel)
  obtain ⟨t3, h3⟩ := next_of (o := exec (.msixTimer 2) State.reset) (by decide +kernel)
  obtain ⟨t4, h4⟩ := next_of (o := exec (.dmaMoveDone 2 7 {}) (withOps [aMove])) (by decide +kernel)
  obtain ⟨t5, h5⟩ := next_of (o := exec (.debugRead 2 {}) (withOps [opOf 2 7 2 [3, 0, 0x1000, 64]])) (by decide +kernel)
  obtain ⟨t6, h6⟩ := next_of (o := exec .d3hotEntry (withOps [aMove])) (by decide +kernel)
  obtain ⟨t8, h8⟩ := next_of (o := exec .meshHostPacket (ownedBy 5 [({ aPkt 5 with host := some (.write 64 [1, 2]) }, 3, 0)])) (by decide +kernel)
  obtain ⟨t7, h7⟩ := next_of (o := exec (.fwWrite 2 true 1) (withOps [opOf 2 7 0x70 [1, 0x1000, 64]] |>.wr BOOT_STATUS_STAGE 8)) (by decide +kernel)
  exact ⟨⟨_, t1, h1⟩, ⟨_, _, _, t2, h2⟩, ⟨_, _, t3, h3⟩, ⟨_, _, _, aMove, _, t4, by decide +kernel, h4⟩,
    ⟨_, _, opOf 2 7 2 [3, 0, 0x1000, 64], _, t5, by decide +kernel, by decide +kernel, h5⟩, ⟨_, t6, h6⟩, ⟨_, t8, by decide, h8⟩,
    ⟨_, _, _, opOf 2 7 0x70 [1, 0x1000, 64], _, t7, by decide +kernel, h7⟩⟩

theorem witness_MemoryKept_dram :
    (∃ (k lines : Nat) (e : Slot) (perr other : Option Nat) (meets : List (Fin 120)) (s t : State), opening s 0x20 k = some e ∧
      s.offset = e.start ∧ exec (.catchFlushWindow k ⟨lines, perr, other, meets⟩) s = .next t) ∧
    (∃ (s t : State), exec .meshReportSend s = .next t) ∧
    (∃ (s t : State), exec .meshDataRequest s = .next t) ∧
    (∃ (slot : Nat) (upset : Option Upset) (j : Job) (s t : State), s.disp.jobs.find? (fun j => j.slot == slot && j.place == .done) = some j ∧
      exec (.jobRelease ⟨slot, upset⟩) s = .next t) ∧
    (∃ (c : Fin 8) (addr : Nat) (poison : Bool) (rest : List (Nat × Bool)) (s t : State),
      (ddr_ s c).wb = (addr, poison) :: rest ∧ exec (.writeBack c) s = .next t) ∧
    ∃ (s t : State), exec .rekeyLine s = .next t := by
  obtain ⟨t1, h1⟩ := next_of (o := exec (.catchFlushWindow 0 ⟨4, none, none, []⟩) (withSlot 0x20 2 0x578 State.reset)) (by decide +kernel)
  obtain ⟨t2, h2⟩ := next_of (o := exec .meshReportSend State.reset) (by decide +kernel)
  obtain ⟨t3, h3⟩ := next_of (o := exec .meshDataRequest State.reset) (by decide +kernel)
  obtain ⟨t4, h4⟩ := next_of (o := exec (.jobRelease ⟨0, none⟩) (State.reset.updDisp fun d => { d with jobs := [aJob .done none] })) (by decide +kernel)
  obtain ⟨t5, h5⟩ := next_of (o := exec (.writeBack 3) ((chanUp 3 State.reset).updDdr fun _ => [(3, { wb := [(3 * 2 ^ 37 + 128, true)] })])) (by decide +kernel)
  obtain ⟨t6, h6⟩ := next_of (o := exec .rekeyLine State.reset) (by decide +kernel)
  exact ⟨⟨_, _, slotAt (withSlot 0x20 2 0x578 State.reset).sched 0, _, _, _, _, t1, by decide +kernel, by decide +kernel, h1⟩, ⟨_, t2, h2⟩, ⟨_, t3, h3⟩,
    ⟨_, _, aJob .done none, _, t4, by decide +kernel, h4⟩, ⟨3, 3 * 2 ^ 37 + 128, true, [], _, t5, by decide +kernel, h5⟩, ⟨_, t6, h6⟩⟩

theorem witness_RetryOfAPin :
    ∃ (b : Fin 8) (p : Fin 48) (s u t : State), tickWritesOk s = true ∧ frozen s = false ∧ s.io.retries = [] ∧
      exec (.pinRetry b p) s = .next u ∧ exec .tick u = .next t ∧ s.flag PIN_STATUS_SHUT b p = true ∧
      s.flag BK_STATUS_VCCO_MISMATCH b = false := by
  obtain ⟨t, h⟩ := next_of (o := exec .tick ((State.reset.wr PIN_STATUS_SHUT 1 2 5).updIo fun u => { u with retries := [101] }))
    (by decide +kernel)
  exact ⟨2, 5, State.reset.wr PIN_STATUS_SHUT 1 2 5, _, t, by decide +kernel, by decide +kernel, by decide +kernel, rfl, h,
    by decide +kernel, by decide +kernel⟩

end Sys2Proof.Tests
end

/-! SUPPORT. Footprints: which register fields and which pieces of the state an operation may change, as one set of
places; and the relation Kept of a state to one that an operation within a footprint has left. Every function of the
model has its lemma: it keeps within its footprint, keeps the memories canonical, and lets no write wait for the tick
but to a field that takes effect there. -/

namespace Sys2Proof

open Machine Machine.F

set_option Elab.async false

/-- A set of places of the state, as a bit mask: the fields by their ids, the pieces, the two lists of fields that a
tick boundary writes, and all fields at once. -/
abbrev Foot := Nat

namespace Foot

/-- The place of a register field. -/
def field (id : Nat) : Foot := 1 <<< (2 * id)

/-- The place of a piece of the state. -/
def part (p : Part) : Foot := 1 <<< (2 * p.ctorIdx + 1)

/-- The fields whose writes wait for the tick (R12). -/
def waiting : Foot := 1 <<< 201

/-- The fields of the staged set (R57). -/
def staged : Foot := 1 <<< 203

/-- Every field at its reset value (R28): the place of a reset. -/
def reset : Foot := 1 <<< 205

/-- The fields of a list and the pieces of a list. -/
def of (fs : List Fld) (ps : List Part) : Foot :=
  fs.foldr (fun f m => field f.id ||| m) (ps.foldr (fun p m => part p ||| m) 0)

/-- Every place of a is one of b. -/
structure Within (a b : Foot) : Prop where
  eq : a ||| b = b

theorem Within.refl {a : Foot} : Within a a := ⟨Nat.or_self a⟩

theorem Within.mono {a b L : Foot} (h : Within b L) (k : Within a b) : Within a L := by
  constructor
  rw [← h.eq, ← Nat.or_assoc, k.eq]

theorem Within.left {a b L : Foot} (h : Within (a ||| b) L) : Within a L :=
  h.mono ⟨by rw [← Nat.or_assoc, Nat.or_self]⟩

theorem Within.right {a b L : Foot} (h : Within (a ||| b) L) : Within b L :=
  h.mono ⟨by rw [Nat.or_comm a, ← Nat.or_assoc, Nat.or_self]⟩

/-- A field of a list is one of the places of the list. -/
theorem field_within_of {f : Fld} {fs : List Fld} {ps : List Part} (hf : f ∈ fs) : (field f.id).Within (of fs ps) := by
  induction fs with
  | nil => cases hf
  | cons g gs ih =>
    have split : (field g.id ||| of gs ps).Within (of (g :: gs) ps) := ⟨Nat.or_self _⟩
    rcases List.mem_cons.1 hf with rfl | hf
    · exact split.left
    · exact split.right.mono (ih hf)

/-- A piece of a list is one of the places of the list. -/
theorem part_within_of {p : Part} {fs : List Fld} {ps : List Part} (hp : p ∈ ps) : (part p).Within (of fs ps) := by
  induction fs with
  | cons g gs ih =>
    have split : (field g.id ||| of gs ps).Within (of (g :: gs) ps) := ⟨Nat.or_self _⟩
    exact split.right.mono ih
  | nil =>
    induction ps with
    | nil => cases hp
    | cons q qs ih =>
      have split : (part q ||| of [] qs).Within (of [] (q :: qs)) := ⟨Nat.or_self _⟩
      rcases List.mem_cons.1 hp with rfl | hp
      · exact split.left
      · exact split.right.mono (ih hp)

end Foot

/-- Is a field outside a footprint: none of its places, and of none of the lists of fields in r that it holds? -/
structure Foot.Outside (L : Foot) (r : State) (g : Fld) : Prop where
  field : ¬(Foot.field g.id).Within L
  reset : ¬Foot.reset.Within L
  waiting : Foot.waiting.Within L → ∀ w ∈ r.tickWrites, g.id ≠ w.fld.id
  staged : Foot.staged.Within L → ∀ w ∈ r.stage.rwf, g.id ≠ w.fld.id

/-- What an operation within the footprint L keeps: every field and piece of the state outside L as it was; beside the
writes that waited, only writes to fields that take effect at the tick wait; and the memories stay canonical. -/
structure Kept (L : Foot) (r s : State) : Prop where
  fields : ∀ g, L.Outside r g → ∀ i j, s.rd g i j = r.rd g i j
  parts : ∀ p, ¬(Foot.part p).Within L → p.same r s
  waiting : ∀ w ∈ s.tickWrites, w ∈ r.tickWrites ∨ (tickField w.fld = true ∧ (Foot.field w.fld.id).Within L)
  memories : memoriesOk r = true → memoriesOk s = true

/-- A command whose next state, if any, keeps within the footprint. -/
def KeptOut (L : Foot) (r : State) (o : Out) : Prop := ∀ t, o = .next t → Kept L r t

theorem memoriesOk_iff {s : State} : memoriesOk s = true ↔ Memory.wf s.hostMem = true ∧ Memory.wf s.scratch = true ∧
    Memory.wf s.dram = true ∧ Memory.wf s.flash = true ∧ Memory.wf s.sched = true := by
  simp [memoriesOk, and_assoc]

theorem KeptOut.next {L : Foot} {r s : State} (h : Kept L r s) : KeptOut L r (.next s) := by
  rintro t ⟨⟩
  exact h

theorem KeptOut.ite {L : Foot} {r : State} {c : Prop} {_ : Decidable c} {o o' : Out} (h : KeptOut L r o) (k : KeptOut L r o') :
    KeptOut L r (if c then o else o') := by
  split <;> assumption

namespace Kept

variable {L : Foot} {r s t : State}

theorem refl : Kept L s s := ⟨fun _ _ _ _ => rfl, fun p _ => by cases p <;> rfl, fun _ h => .inl h, id⟩

/-! How a proof is put together. -/

theorem andThen {P : Prop} (h : Kept L r s) (k : Kept L r s → P) : P := k h

theorem ite {c : Prop} {_ : Decidable c} (h : Kept L r s) (k : Kept L r t) : Kept L r (if c then s else t) := by
  split <;> assumption

theorem ite_snd {α : Type} {c : Prop} {_ : Decidable c} {p q : α × State} (h : Kept L r p.2) (k : Kept L r q.2) :
    Kept L r (if c then p else q).2 := by
  split <;> assumption

theorem pair {α : Type} {a : α} (h : Kept L r s) : Kept L r (a, s).2 := h

theorem triple {α β : Type} {a : α} {b : β} (h : Kept L r s) : Kept L r (a, b, s).2.2 := h

theorem ite_snd₂ {α β : Type} {c : Prop} {_ : Decidable c} {p q : α × β × State} (h : Kept L r p.2.2) (k : Kept L r q.2.2) :
    Kept L r (if c then p else q).2.2 := by
  split <;> assumption

theorem snd {α : Type} {p : α × State} {a : α} (h : Kept L r p.2) (e : p = (a, t)) : Kept L r t := by
  rwa [e] at h

theorem snd₂ {α β : Type} {p : α × β × State} {a : α} {b : β} (h : Kept L r p.2.2) (e : p = (a, b, t)) : Kept L r t := by
  rwa [e] at h

theorem foldl_mem {α : Type} {f : State → α → State} {l : List α} (h : Kept L r s)
    (hf : ∀ a ∈ l, ∀ t, Kept L r t → Kept L r (f t a)) : Kept L r (l.foldl f s) := by
  induction l generalizing s with
  | nil => exact h
  | cons a l ih => exact ih (hf a List.mem_cons_self _ h) fun b k => hf b (List.mem_cons_of_mem _ k)

theorem foldl {α : Type} {f : State → α → State} {l : List α} (h : Kept L r s)
    (hf : ∀ a t, Kept L r t → Kept L r (f t a)) : Kept L r (l.foldl f s) :=
  h.foldl_mem fun a _ => hf a

theorem foldl_snd {α β : Type} {f : β × State → α → β × State} {l : List α} {p : β × State} (h : Kept L r p.2)
    (hf : ∀ a (q : β × State), Kept L r q.2 → Kept L r (f q a).2) : Kept L r (l.foldl f p).2 := by
  induction l generalizing p with
  | nil => exact h
  | cons a l ih => exact ih (hf a _ h)

theorem after {o : Out} (h : Kept L r s) (k : KeptOut L r o) : Kept L r (Machine.after o s) := by
  cases o with
  | next t => exact k t rfl
  | _ => exact h

/-! Writes of register fields. -/

theorem updRegs {u} (h : Kept L r s) (hg : ∀ g, L.Outside r g → ∀ i j, (s.updRegs u).rd g i j = s.rd g i j) :
    Kept L r (s.updRegs u) where
  fields g k i j := (hg g k i j).trans (h.fields g k i j)
  parts p k := Part.same_trans (h.parts p k) (by cases p <;> rfl)
  waiting := h.waiting
  memories := h.memories

/-- A write of a field that no field outside the footprint shares its id with. -/
theorem wrWhere {f : Fld} {v i j : Nat} (h : Kept L r s) (hf : ∀ g, L.Outside r g → g.id ≠ f.id) : Kept L r (s.wr f v i j) :=
  h.updRegs fun g k _ _ => rd_wr_ne _ _ _ _ _ _ _ _ (hf g k)

theorem wr {f : Fld} {v i j : Nat} (h : Kept L r s)
    (hf : (Foot.field f.id).Within L := by exact .mono ‹_› ⟨by decide +kernel⟩) : Kept L r (s.wr f v i j) :=
  h.wrWhere fun _ k e => k.field (e ▸ hf)

theorem setb {f : Fld} {b : Bool} {i j : Nat} (h : Kept L r s)
    (hf : (Foot.field f.id).Within L := by exact .mono ‹_› ⟨by decide +kernel⟩) : Kept L r (s.setb f b i j) := h.wr hf

theorem incSat {f : Fld} {i j n : Nat} (h : Kept L r s)
    (hf : (Foot.field f.id).Within L := by exact .mono ‹_› ⟨by decide +kernel⟩) : Kept L r (s.incSat f i j n) := h.wr hf

theorem incWrap {f : Fld} {i j n : Nat} (h : Kept L r s)
    (hf : (Foot.field f.id).Within L := by exact .mono ‹_› ⟨by decide +kernel⟩) : Kept L r (s.incWrap f i j n) := h.wr hf

theorem setmbit {f : Fld} {b i j : Nat} {v : Bool} (h : Kept L r s)
    (hf : (Foot.field f.id).Within L := by exact .mono ‹_› ⟨by decide +kernel⟩) : Kept L r (s.setmbit f b v i j) := h.wr hf

theorem clr {f : Fld} (h : Kept L r s)
    (hf : (Foot.field f.id).Within L := by exact .mono ‹_› ⟨by decide +kernel⟩) : Kept L r (s.clr f) :=
  h.updRegs fun _ k _ _ => rd_clr_ne _ _ _ _ _ fun e => k.field (e ▸ hf)

theorem clrInst {f : Fld} {i : Nat} (h : Kept L r s)
    (hf : (Foot.field f.id).Within L := by exact .mono ‹_› ⟨by decide +kernel⟩) : Kept L r (s.clrInst f i) :=
  h.updRegs fun _ k _ _ => rd_clrInst_ne _ _ _ _ _ _ fun e => k.field (e ▸ hf)

/-- A walk over a list of fields that changes at each only that field. -/
theorem foldFields {g : State → Fld → State} {fs : List Fld} (h : Kept L r s)
    (hg : ∀ f t, (Foot.field f.id).Within L → Kept L r t → Kept L r (g t f))
    (hl : (Foot.of fs []).Within L := by exact .mono ‹_› ⟨by decide +kernel⟩) : Kept L r (fs.foldl g s) :=
  h.foldl_mem fun f k t => hg f t (hl.mono (Foot.field_within_of k))

theorem clrAll {fs : List Fld} (h : Kept L r s)
    (hl : (Foot.of fs []).Within L := by exact .mono ‹_› ⟨by decide +kernel⟩) : Kept L r (s.clrAll fs) :=
  h.foldFields (fun _ _ hf k => k.clr hf) hl

theorem clrAllInst {fs : List Fld} {i : Nat} (h : Kept L r s)
    (hl : (Foot.of fs []).Within L := by exact .mono ‹_› ⟨by decide +kernel⟩) : Kept L r (s.clrAllInst fs i) :=
  h.foldFields (fun _ _ hf k => k.clrInst hf) hl

/-! Updates of a piece of the state. -/

/-- A change of one piece of the state alone. -/
theorem ofPart {p : Part} (h : Kept L r s) (hp : (Foot.part p).Within L) (k : Framed [] [p] s t)
    (htw : t.tickWrites = s.tickWrites := by rfl) (hmem : memoriesOk s = true → memoriesOk t = true := by exact id) :
    Kept L r t where
  fields g hg i j := (k.1 g i j fun _ hf => absurd hf List.not_mem_nil).trans (h.fields g hg i j)
  parts q hq := Part.same_trans (h.parts q hq) (k.2 q fun e => hq (List.mem_singleton.1 e ▸ hp))
  waiting w hw := h.waiting w (htw ▸ hw)
  memories hm := hmem (h.memories hm)

theorem updLatches {f} (h : Kept L r s) (hp : (Foot.part .latches).Within L := by exact .mono ‹_› ⟨by decide +kernel⟩)
    : Kept L r (s.updLatches f) :=
  h.ofPart hp (.updLatches (.head _) .refl)

theorem updLowHalves {f} (h : Kept L r s) (hp : (Foot.part .lowHalves).Within L := by exact .mono ‹_› ⟨by decide +kernel⟩)
    : Kept L r (s.updLowHalves f) :=
  h.ofPart hp (.updLowHalves (.head _) .refl)

theorem updDrawn {f} (h : Kept L r s) (hp : (Foot.part .drawn).Within L := by exact .mono ‹_› ⟨by decide +kernel⟩)
    : Kept L r (s.updDrawn f) :=
  h.ofPart hp (.updDrawn (.head _) .refl)

theorem updEv {f} (h : Kept L r s) (hp : (Foot.part .ev).Within L := by exact .mono ‹_› ⟨by decide +kernel⟩)
    : Kept L r (s.updEv f) :=
  h.ofPart hp (.updEv (.head _) .refl)

theorem updTick {f} (h : Kept L r s) (hp : (Foot.part .tick).Within L := by exact .mono ‹_› ⟨by decide +kernel⟩)
    : Kept L r (s.updTick f) :=
  h.ofPart hp (.updTick (.head _) .refl)

theorem updOps {f} (h : Kept L r s) (hp : (Foot.part .ops).Within L := by exact .mono ‹_› ⟨by decide +kernel⟩)
    : Kept L r (s.updOps f) :=
  h.ofPart hp (.updOps (.head _) .refl)

theorem updReady {f} (h : Kept L r s) (hp : (Foot.part .ready).Within L := by exact .mono ‹_› ⟨by decide +kernel⟩)
    : Kept L r (s.updReady f) :=
  h.ofPart hp (.updReady (.head _) .refl)

theorem updStage {f} (h : Kept L r s) (hp : (Foot.part .stage).Within L := by exact .mono ‹_› ⟨by decide +kernel⟩)
    : Kept L r (s.updStage f) :=
  h.ofPart hp (.updStage (.head _) .refl)

theorem updDbg {f} (h : Kept L r s) (hp : (Foot.part .dbg).Within L := by exact .mono ‹_› ⟨by decide +kernel⟩)
    : Kept L r (s.updDbg f) :=
  h.ofPart hp (.updDbg (.head _) .refl)

theorem updReels {f} (h : Kept L r s) (hp : (Foot.part .reels).Within L := by exact .mono ‹_› ⟨by decide +kernel⟩)
    : Kept L r (s.updReels f) :=
  h.ofPart hp (.updReels (.head _) .refl)

theorem updCatches {f} (h : Kept L r s) (hp : (Foot.part .catches).Within L := by exact .mono ‹_› ⟨by decide +kernel⟩)
    : Kept L r (s.updCatches f) :=
  h.ofPart hp (.updCatches (.head _) .refl)

theorem updDdr {f} (h : Kept L r s) (hp : (Foot.part .ddr).Within L := by exact .mono ‹_› ⟨by decide +kernel⟩)
    : Kept L r (s.updDdr f) :=
  h.ofPart hp (.updDdr (.head _) .refl)

theorem updRecords {f} (h : Kept L r s) (hp : (Foot.part .records).Within L := by exact .mono ‹_› ⟨by decide +kernel⟩)
    : Kept L r (s.updRecords f) :=
  h.ofPart hp (.updRecords (.head _) .refl)

theorem updDramTags {f} (h : Kept L r s) (hp : (Foot.part .dramTags).Within L := by exact .mono ‹_› ⟨by decide +kernel⟩)
    : Kept L r (s.updDramTags f) :=
  h.ofPart hp (.updDramTags (.head _) .refl)

theorem updDramBad {f} (h : Kept L r s) (hp : (Foot.part .dramBad).Within L := by exact .mono ‹_› ⟨by decide +kernel⟩)
    : Kept L r (s.updDramBad f) :=
  h.ofPart hp (.updDramBad (.head _) .refl)

theorem updDramPoison {f} (h : Kept L r s) (hp : (Foot.part .dramPoison).Within L := by exact .mono ‹_› ⟨by decide +kernel⟩)
    : Kept L r (s.updDramPoison f) :=
  h.ofPart hp (.updDramPoison (.head _) .refl)

theorem updDramWhole {f} (h : Kept L r s) (hp : (Foot.part .dramWhole).Within L := by exact .mono ‹_› ⟨by decide +kernel⟩)
    : Kept L r (s.updDramWhole f) :=
  h.ofPart hp (.updDramWhole (.head _) .refl)

theorem updEnc {f} (h : Kept L r s) (hp : (Foot.part .enc).Within L := by exact .mono ‹_› ⟨by decide +kernel⟩)
    : Kept L r (s.updEnc f) :=
  h.ofPart hp (.updEnc (.head _) .refl)

theorem updNoc {f} (h : Kept L r s) (hp : (Foot.part .noc).Within L := by exact .mono ‹_› ⟨by decide +kernel⟩)
    : Kept L r (s.updNoc f) :=
  h.ofPart hp (.updNoc (.head _) .refl)

theorem updDisp {f} (h : Kept L r s) (hp : (Foot.part .disp).Within L := by exact .mono ‹_› ⟨by decide +kernel⟩)
    : Kept L r (s.updDisp f) :=
  h.ofPart hp (.updDisp (.head _) .refl)

theorem updSp {f} (h : Kept L r s) (hp : (Foot.part .sp).Within L := by exact .mono ‹_› ⟨by decide +kernel⟩)
    : Kept L r (s.updSp f) :=
  h.ofPart hp (.updSp (.head _) .refl)

theorem updRegions {f} (h : Kept L r s) (hp : (Foot.part .regions).Within L := by exact .mono ‹_› ⟨by decide +kernel⟩)
    : Kept L r (s.updRegions f) :=
  h.ofPart hp (.updRegions (.head _) .refl)

theorem updSlices {f} (h : Kept L r s) (hp : (Foot.part .slices).Within L := by exact .mono ‹_› ⟨by decide +kernel⟩)
    : Kept L r (s.updSlices f) :=
  h.ofPart hp (.updSlices (.head _) .refl)

theorem updFrames {f} (h : Kept L r s) (hp : (Foot.part .frames).Within L := by exact .mono ‹_› ⟨by decide +kernel⟩)
    : Kept L r (s.updFrames f) :=
  h.ofPart hp (.updFrames (.head _) .refl)

theorem updFrameDyn {f} (h : Kept L r s) (hp : (Foot.part .frameDyn).Within L := by exact .mono ‹_› ⟨by decide +kernel⟩)
    : Kept L r (s.updFrameDyn f) :=
  h.ofPart hp (.updFrameDyn (.head _) .refl)

theorem updFrameCode {f} (h : Kept L r s) (hp : (Foot.part .frameCode).Within L := by exact .mono ‹_› ⟨by decide +kernel⟩)
    : Kept L r (s.updFrameCode f) :=
  h.ofPart hp (.updFrameCode (.head _) .refl)

theorem updFrameBad {f} (h : Kept L r s) (hp : (Foot.part .frameBad).Within L := by exact .mono ‹_› ⟨by decide +kernel⟩)
    : Kept L r (s.updFrameBad f) :=
  h.ofPart hp (.updFrameBad (.head _) .refl)

theorem updCfg {f} (h : Kept L r s) (hp : (Foot.part .cfg).Within L := by exact .mono ‹_› ⟨by decide +kernel⟩)
    : Kept L r (s.updCfg f) :=
  h.ofPart hp (.updCfg (.head _) .refl)

theorem updLanes {f} (h : Kept L r s) (hp : (Foot.part .lanes).Within L := by exact .mono ‹_› ⟨by decide +kernel⟩)
    : Kept L r (s.updLanes f) :=
  h.ofPart hp (.updLanes (.head _) .refl)

theorem updGroups {f} (h : Kept L r s) (hp : (Foot.part .groups).Within L := by exact .mono ‹_› ⟨by decide +kernel⟩)
    : Kept L r (s.updGroups f) :=
  h.ofPart hp (.updGroups (.head _) .refl)

theorem updClk {f} (h : Kept L r s) (hp : (Foot.part .clk).Within L := by exact .mono ‹_› ⟨by decide +kernel⟩)
    : Kept L r (s.updClk f) :=
  h.ofPart hp (.updClk (.head _) .refl)

theorem updMesh {f} (h : Kept L r s) (hp : (Foot.part .mesh).Within L := by exact .mono ‹_› ⟨by decide +kernel⟩)
    : Kept L r (s.updMesh f) :=
  h.ofPart hp (.updMesh (.head _) .refl)

theorem updHost {f} (h : Kept L r s) (hp : (Foot.part .host).Within L := by exact .mono ‹_› ⟨by decide +kernel⟩)
    : Kept L r (s.updHost f) :=
  h.ofPart hp (.updHost (.head _) .refl)

theorem updPw {f} (h : Kept L r s) (hp : (Foot.part .pw).Within L := by exact .mono ‹_› ⟨by decide +kernel⟩)
    : Kept L r (s.updPw f) :=
  h.ofPart hp (.updPw (.head _) .refl)

theorem updIo {f} (h : Kept L r s) (hp : (Foot.part .io).Within L := by exact .mono ‹_› ⟨by decide +kernel⟩)
    : Kept L r (s.updIo f) :=
  h.ofPart hp (.updIo (.head _) .refl)

theorem updBoot {f} (h : Kept L r s) (hp : (Foot.part .boot).Within L := by exact .mono ‹_› ⟨by decide +kernel⟩)
    : Kept L r (s.updBoot f) :=
  h.ofPart hp (.updBoot (.head _) .refl)

theorem updHostMem {f} (h : Kept L r s)
    (hw : ∀ m, Memory.wf m = true → Memory.wf (f m) = true := by exact fun _ => swf_memWrBytes _ _ _)
    (hp : (Foot.part .hostMem).Within L := by exact .mono ‹_› ⟨by decide +kernel⟩) : Kept L r (s.updHostMem f) :=
  h.ofPart hp (.updHostMem (.head _) .refl) (hmem := fun k => by
    simp only [memoriesOk_iff] at k ⊢
    simp [k, hw])

theorem updScratch {f} (h : Kept L r s)
    (hw : ∀ m, Memory.wf m = true → Memory.wf (f m) = true := by exact fun _ => swf_memWrBytes _ _ _)
    (hp : (Foot.part .scratch).Within L := by exact .mono ‹_› ⟨by decide +kernel⟩) : Kept L r (s.updScratch f) :=
  h.ofPart hp (.updScratch (.head _) .refl) (hmem := fun k => by
    simp only [memoriesOk_iff] at k ⊢
    simp [k, hw])

theorem updDram {f} (h : Kept L r s)
    (hw : ∀ m, Memory.wf m = true → Memory.wf (f m) = true := by exact fun _ => swf_memWrBytes _ _ _)
    (hp : (Foot.part .dram).Within L := by exact .mono ‹_› ⟨by decide +kernel⟩) : Kept L r (s.updDram f) :=
  h.ofPart hp (.updDram (.head _) .refl) (hmem := fun k => by
    simp only [memoriesOk_iff] at k ⊢
    simp [k, hw])

theorem updFlash {f} (h : Kept L r s)
    (hw : ∀ m, Memory.wf m = true → Memory.wf (f m) = true := by exact fun _ => swf_memWrBytes _ _ _)
    (hp : (Foot.part .flash).Within L := by exact .mono ‹_› ⟨by decide +kernel⟩) : Kept L r (s.updFlash f) :=
  h.ofPart hp (.updFlash (.head _) .refl) (hmem := fun k => by
    simp only [memoriesOk_iff] at k ⊢
    simp [k, hw])

theorem updSched {f} (h : Kept L r s)
    (hw : ∀ m, Memory.wf m = true → Memory.wf (f m) = true := by exact fun _ => swf_memWrBytes _ _ _)
    (hp : (Foot.part .sched).Within L := by exact .mono ‹_› ⟨by decide +kernel⟩) : Kept L r (s.updSched f) :=
  h.ofPart hp (.updSched (.head _) .refl) (hmem := fun k => by
    simp only [memoriesOk_iff] at k ⊢
    simp [k, hw])

/-- Writes to fields that take effect at the tick may join those that wait. -/
theorem updTickWrites_append {ws : List FieldWrite} (h : Kept L r s)
    (hw : ∀ w ∈ ws, tickField w.fld = true ∧ (Foot.field w.fld.id).Within L)
    (hp : (Foot.part .tickWrites).Within L := by exact .mono ‹_› ⟨by decide +kernel⟩) :
    Kept L r (s.updTickWrites (· ++ ws)) where
  fields := h.fields
  parts p k := Part.same_trans (h.parts p k) (by cases p <;> first | rfl | exact absurd hp k)
  waiting w k := (List.mem_append.1 k).elim (h.waiting w) fun k => .inr (hw w k)
  memories := h.memories

theorem updTickWrites_single {w : FieldWrite} (h : Kept L r s) (ht : tickField w.fld = true := by decide +kernel)
    (hf : (Foot.field w.fld.id).Within L := by exact .mono ‹_› ⟨by decide +kernel⟩)
    (hp : (Foot.part .tickWrites).Within L := by exact .mono ‹_› ⟨by decide +kernel⟩) :
    Kept L r (s.updTickWrites (· ++ [w])) :=
  h.updTickWrites_append (fun _ hm => by rw [List.mem_singleton.1 hm]; exact ⟨ht, hf⟩) hp

/-- Writes that wait may be dropped. -/
theorem updTickWrites_filter {p : FieldWrite → Bool} (h : Kept L r s)
    (hp : (Foot.part .tickWrites).Within L := by exact .mono ‹_› ⟨by decide +kernel⟩) :
    Kept L r (s.updTickWrites (·.filter p)) where
  fields := h.fields
  parts p k := Part.same_trans (h.parts p k) (by cases p <;> first | rfl | exact absurd hp k)
  waiting w k := h.waiting w (List.mem_filter.1 k).1
  memories := h.memories

/-- All writes that wait are taken. -/
theorem updTickWrites_nil (h : Kept L r s)
    (hp : (Foot.part .tickWrites).Within L := by exact .mono ‹_› ⟨by decide +kernel⟩) :
    Kept L r (s.updTickWrites fun _ => []) where
  fields := h.fields
  parts p k := Part.same_trans (h.parts p k) (by cases p <;> first | rfl | exact absurd hp k)
  waiting _ k := absurd k List.not_mem_nil
  memories := h.memories

/-- Writes one after the other, each of a field that no field outside the footprint shares its id with. -/
theorem foldWrites {ws : List FieldWrite} (h : Kept L r s) (hw : ∀ w ∈ ws, ∀ g, L.Outside r g → g.id ≠ w.fld.id) :
    Kept L r (ws.foldl (fun t w => t.wr w.fld w.v w.i w.j) s) :=
  h.foldl_mem fun w hm _ k => k.wrWhere (hw w hm)

end Kept

/-! Registers of the map. -/

/-- Every field of the register map (R509). -/
@[irreducible] def Foot.registers : Foot := Foot.of (regTable.flatMap (·.fields)) []

theorem Foot.field_within_registers {x : RegRow} {f : Fld} (hx : x ∈ regTable) (hf : f ∈ x.fields) :
    (Foot.field f.id).Within Foot.registers := by
  unfold registers
  exact field_within_of (List.mem_flatMap.2 ⟨x, hx, hf⟩)

/-- A row that an offset names is one of the map. -/
theorem mem_of_regAt {off : Nat} {x : RegRow} {i j b : Nat} (e : regAt off = some (x, i, j, b)) : x ∈ regTable := by
  suffices h : ∀ l, regAt.go off l = some (x, i, j, b) → x ∈ l from h _ e
  intro l h
  induction l with
  | nil => cases h
  | cons y t ih =>
    unfold regAt.go at h
    split at h
    · cases h
      exact List.mem_cons_self
    · exact List.mem_cons_of_mem _ (ih h)

theorem tickField_of_mem {x : RegRow} {f : Fld} (hx : x ∈ regTable) (hf : f ∈ x.fields) (he : f.eff = .tick) :
    tickField f = true :=
  List.any_eq_true.2 ⟨x, hx, List.any_eq_true.2 ⟨f, hf, by simp [he]⟩⟩

end Sys2Proof

namespace Sys2Proof

open Machine Machine.F

set_option Elab.async false

variable {L : Foot} {r s : State}

/-! The footprints of Machine/Ops. -/

theorem Kept.whenDo {b f} (h : Kept L r s) (k : ∀ t, Kept L r t → Kept L r (f t)) :
    Kept L r (State.whenDo s b f) :=
  .ite (k _ h) h

theorem Kept.draw (h : Kept L r s) (hl : (Foot.part .drawn).Within L := by exact .mono ‹_› ⟨by decide +kernel⟩) :
    Kept L r (State.draw s).2 :=
  h.updDrawn

@[irreducible] def Foot.countEvent : Foot := .of [EA_CLASS_FAULT, EA_CLASS_HANDLED, EA_CLASS_MARKED, EA_CLASS_NOTE,
    EA_COUNT_COUNT, EA_FIRST_FAULT_EVENT_ID, EA_FIRST_FAULT_INSTANCE, EA_FIRST_FAULT_VALID, EA_FIRST_TICK_TICK,
    EA_INJECTED_COUNT, GL_ATTENTION_FAULT_SEEN, GL_ATTENTION_GROUP_SEEN] []

theorem classCounter_within (c : Nat) : (Foot.field (classCounter c).id).Within Foot.countEvent := by
  unfold classCounter
  split <;> exact ⟨by decide +kernel⟩

theorem Kept.countEvent {e inst injected} (h : Kept L r s)
    (hl : Foot.countEvent.Within L := by exact .mono ‹_› ⟨by decide +kernel⟩) :
    Kept L r (countEvent e inst injected s) := by
  exact (h.incSat.incSat (hl.mono (classCounter_within _))).andThen fun h => (Kept.ite h.incSat h).andThen fun h =>
    (Kept.ite h.wr h).andThen fun h => (Kept.ite h h.setmbit).andThen fun h => .ite h.wr.wr.wr.wr h

@[irreducible] def Foot.pushRecord : Foot := .of [EV_LOST_COUNT, EV_STATUS_OVERFLOW] [.ev]

theorem Kept.pushRecord {r'} (h : Kept L r s) (hl : Foot.pushRecord.Within L := by exact .mono ‹_› ⟨by decide +kernel⟩) :
    Kept L r (pushRecord r' s) :=
  .ite h.updEv h.incWrap.wr.updEv

@[irreducible] def Foot.raiseCore : Foot := Foot.countEvent ||| Foot.pushRecord

theorem Kept.raiseCore {e inst arg injected write} (h : Kept L r s)
    (hl : Foot.raiseCore.Within L := by exact .mono ‹_› ⟨by decide +kernel⟩) :
    Kept L r (raiseCore e inst arg injected write s) :=
  h.countEvent.updEv.andThen fun h => .ite h.pushRecord h

@[irreducible] def Foot.countHits : Foot := .of [EC_HITS_COUNT, NC_HITS_COUNT, TC_HITS_COUNT] []

theorem Kept.countHits {hits} (h : Kept L r s) (hl : Foot.countHits.Within L := by exact .mono ‹_› ⟨by decide +kernel⟩) :
    Kept L r (countHits hits s) :=
  h.foldl (fun _ _ h => .ite h.incWrap (.ite h.incWrap h.incWrap))

@[irreducible] def Foot.haltSlice : Foot := .of [SL_STATUS_STATE] [.slices]

theorem Kept.haltSlice {k t'} (h : Kept L r s) (hl : Foot.haltSlice.Within L := by exact .mono ‹_› ⟨by decide +kernel⟩) :
    Kept L r (haltSlice k t' s) :=
  .ite h.wr.updSlices h

theorem Kept.releaseSlice {k t'} (h : Kept L r s)
    (hl : (Foot.field SL_STATUS_STATE.id).Within L := by exact .mono ‹_› ⟨by decide +kernel⟩) :
    Kept L r (releaseSlice k t' s) :=
  .ite h.wr h

theorem Kept.releaseSlices {k} (h : Kept L r s)
    (hl : (Foot.field SL_STATUS_STATE.id).Within L := by exact .mono ‹_› ⟨by decide +kernel⟩) :
    Kept L r (releaseSlices k s) :=
  h.foldl (fun _ _ h => h.releaseSlice)

@[irreducible] def Foot.dropAttach : Foot := Foot.field SL_STATUS_STATE.id ||| .of [DA_ATTACHED_REGIONS] [.dbg]

theorem Kept.dropAttach {k} (h : Kept L r s) (hl : Foot.dropAttach.Within L := by exact .mono ‹_› ⟨by decide +kernel⟩) :
    Kept L r (dropAttach k s) :=
  .ite h.setmbit.releaseSlices.updDbg h

@[irreducible] def Foot.haltAttached : Foot := Foot.haltSlice ||| Foot.part .dbg

theorem Kept.haltAttached (h : Kept L r s) (hl : Foot.haltAttached.Within L := by exact .mono ‹_› ⟨by decide +kernel⟩) :
    Kept L r (haltAttached s) :=
  h.foldl (fun _ _ h => .ite h.haltSlice h.updDbg)

@[irreducible] def Foot.sequencerStep : Foot := Foot.raiseCore ||| Foot.countHits ||| Foot.haltAttached ||| .of
    [DB_HIT_COMPARATOR, DB_HIT_STATE, DB_STATUS_SEQ_STATE, SQ_COUNT_HITS] []

theorem Kept.sequencerStep {hits} (h : Kept L r s)
    (hl : Foot.sequencerStep.Within L := by exact .mono ‹_› ⟨by decide +kernel⟩) :
    Kept L r (sequencerStep hits s) :=
  .ite (h.updDbg.wr.andThen fun h => .ite (h.wr.wr.andThen fun h => (Kept.ite h.updDbg h).andThen fun h => (Kept.ite
    h.raiseCore.countHits h).andThen fun h => (Kept.ite h.haltAttached h).wr.wr) h) h

theorem Kept.comparatorHits {hits} (h : Kept L r s)
    (hl : Foot.sequencerStep.Within L := by exact .mono ‹_› ⟨by decide +kernel⟩) :
    Kept L r (comparatorHits hits s) :=
  .ite h h.countHits.sequencerStep

theorem Kept.raiseInj {e inst arg injected} (h : Kept L r s)
    (hl : Foot.sequencerStep.Within L := by exact .mono ‹_› ⟨by decide +kernel⟩) :
    Kept L r (raiseInj e inst arg injected s) :=
  h.raiseCore.comparatorHits

theorem Kept.raise {e inst arg} (h : Kept L r s)
    (hl : Foot.sequencerStep.Within L := by exact .mono ‹_› ⟨by decide +kernel⟩) :
    Kept L r (raise e inst arg s) :=
  h.raiseInj

theorem Kept.raiseOnce {e inst arg injected} (h : Kept L r s)
    (hl : Foot.sequencerStep.Within L := by exact .mono ‹_› ⟨by decide +kernel⟩) :
    Kept L r (raiseOnce e inst arg injected s) :=
  h.raiseCore.updEv.comparatorHits

theorem Kept.markFrame (h : Kept L r s) (hl : (Foot.part .tick).Within L := by exact .mono ‹_› ⟨by decide +kernel⟩) :
    Kept L r (markFrame s) :=
  h.updTick

@[irreducible] def Foot.takeInj : Foot := 0

theorem Kept.takeInj {f i occasion} (h : Kept L r s)
    (hf : (Foot.field f.id).Within L := by exact .mono ‹_› ⟨by decide +kernel⟩) :
    Kept L r (takeInj f i occasion s).2 :=
  .ite_snd (h.wr hf) h

@[irreducible] def Foot.passOffsets : Foot := Foot.sequencerStep ||| Foot.field FRAME_OFFSET_OFFSET.id

theorem Kept.passOffsets {o a} (h : Kept L r s) (hl : Foot.passOffsets.Within L := by exact .mono ‹_› ⟨by decide +kernel⟩) :
    Kept L r (passOffsets o a s) := by
  induction a generalizing s with
  | zero => exact h
  | succ k ih =>
    unfold Machine.passOffsets
    split
    · exact .ite (ih h.wr.comparatorHits) h
    · exact h

theorem Kept.advanceTo {o} (h : Kept L r s) (hl : Foot.passOffsets.Within L := by exact .mono ‹_› ⟨by decide +kernel⟩) :
    Kept L r (advanceTo o s) :=
  h.passOffsets.wr

theorem Kept.passCycle (h : Kept L r s) (hl : Foot.passOffsets.Within L := by exact .mono ‹_› ⟨by decide +kernel⟩) :
    Kept L r (passCycle s) :=
  .ite h.advanceTo h

/-! The footprints of Machine/Ports. -/

theorem Kept.setPort {q st} (h : Kept L r s)
    (hl : (Foot.field NR_STATUS_PORT_STATE.id).Within L := by exact .mono ‹_› ⟨by decide +kernel⟩) :
    Kept L r (setPort q st s) :=
  h.wr

/-! The footprints of Machine/Map. -/

@[irreducible] def Foot.writeField : Foot := Foot.part .tickWrites ||| Foot.part .tickWrites

theorem Kept.writeField {f i j v} (h : Kept L r s) (ht : f.eff = .tick → tickField f = true := by decide +kernel)
    (hf : (Foot.field f.id).Within L := by exact .mono ‹_› ⟨by decide +kernel⟩) (hp : (Foot.part .tickWrites).Within
    L := by exact .mono ‹_› ⟨by decide +kernel⟩) :
    Kept L r (writeField s f i j v) := by
  unfold Machine.writeField
  split
  · exact h
  · split
    next he => exact h.updTickWrites_append (by simpa using ⟨ht he, hf⟩)
    · exact h.wr hf

/-- One value written to each field of a list. -/
theorem Kept.writeFields {fs : List Fld} {i j v} (h : Kept L r s)
    (ht : ∀ f ∈ fs, f.eff = .tick → tickField f = true := by decide +kernel)
    (hl : (Foot.of fs [.tickWrites]).Within L := by exact .mono ‹_› ⟨by decide +kernel⟩) :
    Kept L r (fs.foldl (fun t f => Machine.writeField t f i j v) s) :=
  h.foldl_mem fun f hf _ k => k.writeField (ht f hf) (hl.mono (Foot.field_within_of hf))
    (hl.mono (Foot.part_within_of List.mem_cons_self))

@[irreducible] def Foot.applyTickWrites : Foot := Foot.part .tickWrites ||| Foot.waiting

theorem Kept.applyTickWrites (h : Kept L r s)
    (hl : Foot.applyTickWrites.Within L := by exact .mono ‹_› ⟨by decide +kernel⟩) :
    Kept L r (applyTickWrites s) := by
  refine (h.foldWrites fun w hm g k e => ?_).updTickWrites_nil
  rcases h.waiting w hm with hr | ⟨-, hr⟩
  · exact k.waiting (hl.mono ⟨by decide +kernel⟩) w hr e
  · exact k.field (e ▸ hr)

/-! The footprints of Machine/HostOps. -/

theorem Kept.updOp {ring idx f} (h : Kept L r s) (hl : (Foot.part .ops).Within L := by exact .mono ‹_› ⟨by decide +kernel⟩) :
    Kept L r (State.updOp s ring idx f) :=
  h.updOps

theorem Kept.noteOutstanding {ring} (h : Kept L r s)
    (hl : (Foot.field CR_STATUS_OUTSTANDING.id).Within L := by exact .mono ‹_› ⟨by decide +kernel⟩) :
    Kept L r (noteOutstanding ring s) :=
  .ite h.wr h

@[irreducible] def Foot.noteRejected : Foot := Foot.part .ops ||| Foot.field CR_STATUS_OUTSTANDING.id ||| Foot.field
    CR_COUNTS_REJECTED.id

theorem Kept.noteRejected {o code} (h : Kept L r s)
    (hl : Foot.noteRejected.Within L := by exact .mono ‹_› ⟨by decide +kernel⟩) :
    Kept L r (noteRejected o code s) :=
  .ite h (h.updOp.andThen fun h => .ite h.incSat.noteOutstanding h)

@[irreducible] def Foot.decideOp : Foot := Foot.noteRejected ||| Foot.part .ev

theorem Kept.decideOp {ring idx code fidx result} (h : Kept L r s)
    (hl : Foot.decideOp.Within L := by exact .mono ‹_› ⟨by decide +kernel⟩) :
    Kept L r (decideOp ring idx code fidx result s) := by
  unfold Machine.decideOp
  split
  · exact h
  · exact .ite h (.ite h.updOps h.noteRejected.updOp.updEv)

theorem Kept.runOp {ring idx} (h : Kept L r s) (hl : (Foot.part .ops).Within L := by exact .mono ‹_› ⟨by decide +kernel⟩) :
    Kept L r (runOp ring idx s) :=
  h.updOp

theorem Kept.holdOp {ring idx} (h : Kept L r s) (hl : (Foot.part .ops).Within L := by exact .mono ‹_› ⟨by decide +kernel⟩) :
    Kept L r (holdOp ring idx s) :=
  h.updOp

@[irreducible] def Foot.releaseOp : Foot := Foot.part .ops ||| Foot.part .ready

theorem Kept.releaseOp {ring idx} (h : Kept L r s) (hl : Foot.releaseOp.Within L := by exact .mono ‹_› ⟨by decide +kernel⟩) :
    Kept L r (releaseOp ring idx s) := by
  unfold Machine.releaseOp
  extract_lets s1
  have k1 : Kept L r s1 := h.updOp
  split
  · exact h
  · exact .ite k1.updReady k1

theorem Kept.latchOp {ring idx} (h : Kept L r s) (hl : Foot.releaseOp.Within L := by exact .mono ‹_› ⟨by decide +kernel⟩) :
    Kept L r (latchOp ring idx s) := by
  unfold Machine.latchOp
  extract_lets s1
  have k1 : Kept L r s1 := h.updOp
  split
  · exact h
  · exact .ite (.ite k1 k1.updReady) h

/-! The footprints of Machine/Sched. -/

theorem Kept.openWin {k e complete} (h : Kept L r s)
    (hl : (Foot.part .tick).Within L := by exact .mono ‹_› ⟨by decide +kernel⟩) :
    Kept L r (openWin k e complete s) :=
  h.updTick

/-! The footprints of Machine/ProofOps. -/

@[irreducible] def Foot.stageLoading : Foot := .of [PF_STATE_OWNER, PF_STATE_STATE] []

theorem Kept.stageLoading {byHearth} (h : Kept L r s)
    (hl : Foot.stageLoading.Within L := by exact .mono ‹_› ⟨by decide +kernel⟩) :
    Kept L r (stageLoading byHearth s) :=
  h.wr.setb

@[irreducible] def Foot.stageEmpty : Foot := .of [PF_FIX_TICK_T, PF_STATE_OWNER, PF_STATE_STATE] [.stage]

theorem Kept.stageEmpty (h : Kept L r s) (hl : Foot.stageEmpty.Within L := by exact .mono ‹_› ⟨by decide +kernel⟩) :
    Kept L r (stageEmpty s) :=
  h.wr.wr.wr.updStage

@[irreducible] def Foot.abortFix : Foot := Foot.decideOp ||| .of [PF_FIX_TICK_T, PF_RESULT_CHECK_ID, PF_RESULT_CODE,
    PF_RESULT_DETAIL, PF_STATE_STATE] [.stage]

theorem Kept.abortFix (h : Kept L r s) (hl : Foot.abortFix.Within L := by exact .mono ‹_› ⟨by decide +kernel⟩) :
    Kept L r (abortFix s) := by
  unfold Machine.abortFix
  extract_lets s1 s2
  have k1 : Kept L r s1 := h.wr.wr.updStage
  have k2 : Kept L r s2 := k1.wr.wr.wr
  split
  · exact h
  · exact k2.decideOp

theorem Kept.burnEntry {j} (h : Kept L r s)
    (hl : (Foot.field CHANGE_LOG_ENTRY.id).Within L := by exact .mono ‹_› ⟨by decide +kernel⟩) :
    Kept L r (burnEntry j s) :=
  h.wr

@[irreducible] def Foot.burnValid : Foot := Foot.field CHANGE_LOG_ENTRY.id ||| Foot.part .stage

theorem Kept.burnValid (h : Kept L r s) (hl : Foot.burnValid.Within L := by exact .mono ‹_› ⟨by decide +kernel⟩) :
    Kept L r (burnValid s) := by
  unfold Machine.burnValid
  split
  · exact h
  · exact .ite h h.burnEntry.updStage

theorem Kept.commitLog (h : Kept L r s)
    (hl : (Foot.field CHANGE_LOG_ENTRY.id).Within L := by exact .mono ‹_› ⟨by decide +kernel⟩) :
    Kept L r (commitLog s) :=
  h.foldl (fun _ _ h => .ite h.wr h)

@[irreducible] def Foot.releaseCancels : Foot := Foot.decideOp ||| Foot.part .stage

theorem Kept.releaseCancels {fr fk} (h : Kept L r s)
    (hl : Foot.releaseCancels.Within L := by exact .mono ‹_› ⟨by decide +kernel⟩) :
    Kept L r (releaseCancels fr fk s) :=
  h.updStage.foldl (fun _ _ h => h.decideOp)

theorem Kept.awaitFix {r' k} (h : Kept L r s) (hl : Foot.releaseCancels.Within L := by exact .mono ‹_› ⟨by decide +kernel⟩) :
    Kept L r (awaitFix r' k s) := by
  unfold Machine.awaitFix
  split
  · exact .ite h.updStage h.decideOp
  · exact h.decideOp

theorem Kept.latchCancel {c} (h : Kept L r s) (hl : Foot.abortFix.Within L := by exact .mono ‹_› ⟨by decide +kernel⟩) :
    Kept L r (latchCancel s c) :=
  .ite h.abortFix.decideOp h.awaitFix

theorem Kept.latchCancels (h : Kept L r s) (hl : Foot.abortFix.Within L := by exact .mono ‹_› ⟨by decide +kernel⟩) :
    Kept L r (latchCancels s) :=
  h.updStage.foldl fun _ _ h => h.latchCancel

/-- A cancelled set keeps its staged values. -/
theorem latchCancels_rwf : (latchCancels s).stage.rwf = s.stage.rwf := by
  have outside {P : Foot} (hp : ¬(Foot.part .stage).Within P) {t u : State} (k : Kept P t u) : u.stage = t.stage :=
    k.parts .stage hp
  have decided {r k c a b} {t : State} : (decideOp r k c a b t).stage = t.stage :=
    outside (fun k => absurd k.eq (by decide +kernel)) (Kept.refl.decideOp (hl := ⟨Nat.or_self _⟩))
  have awaited {r k} {t : State} : (awaitFix r k t).stage.rwf = t.stage.rwf := by
    unfold awaitFix
    split
    · split
      · rfl
      · rw [decided]
    · rw [decided]
  have aborted {t : State} : (abortFix t).stage.rwf = t.stage.rwf := by
    unfold abortFix
    split
    · rfl
    · simp [decided]
  have latched (t : State) (c) : (latchCancel t c).stage.rwf = t.stage.rwf := by
    unfold latchCancel
    dsimp only
    split
    · rw [decided, aborted]
    · exact awaited
  unfold latchCancels
  dsimp only
  refine List.foldlRecOn (motive := fun t => t.stage.rwf = s.stage.rwf) _ _ ?_ fun t k c _ => (latched t c).trans k
  rfl

theorem Kept.reachApply (h : Kept L r s)
    (hl : (Foot.field PF_STATE_STATE.id).Within L := by exact .mono ‹_› ⟨by decide +kernel⟩) :
    Kept L r (reachApply s) :=
  .ite h.wr h

/-! The footprints of Machine/DramOps. -/

theorem Kept.updDdr_ {c f} (h : Kept L r s) (hl : (Foot.part .ddr).Within L := by exact .mono ‹_› ⟨by decide +kernel⟩) :
    Kept L r (updDdr_ c f s) :=
  h.updDdr

@[irreducible] def Foot.rfmDraw : Foot := Foot.sequencerStep ||| Foot.part .drawn ||| Foot.part .ddr ||| .of
    [DC_RFM_COUNTS_RFM_OVERFLOW, DC_STATUS_RFM_LEVEL, FI_MISC_INJECT_INJ_RFM_FULL] []

theorem Kept.rfmDraw {addr} (h : Kept L r s) (hl : Foot.rfmDraw.Within L := by exact .mono ‹_› ⟨by decide +kernel⟩) :
    Kept L r (rfmDraw addr s) := by
  unfold Machine.rfmDraw
  extract_lets _ _ s1
  have k1 : Kept L r s1 := .ite h.updDdr_ h
  split
  next s2 e3 =>
  have k2 : Kept L r s2 := .snd k1.draw e3
  refine .ite k2 ?_
  split
  next s4 e5 =>
  have k4 : Kept L r s4 := .snd k2.takeInj e5
  exact .ite k4.incSat.raiseOnce k4.wr.updDdr_

theorem Kept.setPoison {addr p} (h : Kept L r s)
    (hl : (Foot.part .dramPoison).Within L := by exact .mono ‹_› ⟨by decide +kernel⟩) :
    Kept L r (setPoison addr p s) := by
  unfold Machine.setPoison
  exact h.updDramPoison

@[irreducible] def Foot.storeLine : Foot := Foot.part .dramPoison ||| .of [] [.dram, .dramBad, .dramTags]

theorem Kept.storeLine {addr data tag} (h : Kept L r s)
    (hl : Foot.storeLine.Within L := by exact .mono ‹_› ⟨by decide +kernel⟩) :
    Kept L r (storeLine addr data tag s) :=
  h.updDram.updDramTags.updDramBad.setPoison

theorem Kept.poisonLine {addr} (h : Kept L r s) (hl : Foot.storeLine.Within L := by exact .mono ‹_› ⟨by decide +kernel⟩) :
    Kept L r (poisonLine addr s) :=
  h.storeLine.setPoison

theorem Kept.noteWb {c} (h : Kept L r s)
    (hl : (Foot.field DC_STATUS_WB_LEVEL.id).Within L := by exact .mono ‹_› ⟨by decide +kernel⟩) :
    Kept L r (noteWb c s) :=
  h.wr

@[irreducible] def Foot.enqueueWb : Foot := Foot.part .ddr ||| Foot.field DC_STATUS_WB_LEVEL.id ||| Foot.field
    DC_UE_COUNTS_WB_SKIPPED.id

theorem Kept.enqueueWb {addr poison} (h : Kept L r s)
    (hl : Foot.enqueueWb.Within L := by exact .mono ‹_› ⟨by decide +kernel⟩) :
    Kept L r (enqueueWb addr poison s) :=
  .ite h (.ite h.incSat h.updDdr_.noteWb)

@[irreducible] def Foot.dequeueWb : Foot := Foot.part .ddr ||| Foot.field DC_STATUS_WB_LEVEL.id

theorem Kept.dequeueWb {addr} (h : Kept L r s) (hl : Foot.dequeueWb.Within L := by exact .mono ‹_› ⟨by decide +kernel⟩) :
    Kept L r (dequeueWb addr s) :=
  h.updDdr_.noteWb

@[irreducible] def Foot.logUe : Foot := .of [UE_LOG_ADDR, UE_LOG_SOURCE, UE_LOG_TICK, UE_LOG_VALID] []

theorem Kept.logUe {addr src} (h : Kept L r s) (hl : Foot.logUe.Within L := by exact .mono ‹_› ⟨by decide +kernel⟩) :
    Kept L r (logUe addr src s) := by
  unfold Machine.logUe
  extract_lets
  split
  · exact h
  · exact h.wr.wr.wr.wr

@[irreducible] def Foot.logCe : Foot := Foot.part .ddr ||| .of [CE_LOG_ADDR, CE_LOG_DEVICE, CE_LOG_TICK, CE_LOG_VALID] []

theorem Kept.logCe {addr dev} (h : Kept L r s) (hl : Foot.logCe.Within L := by exact .mono ‹_› ⟨by decide +kernel⟩) :
    Kept L r (logCe addr dev s) := by
  unfold Machine.logCe
  exact h.wr.wr.wr.wr.updDdr_

@[irreducible] def Foot.decodeLine : Foot := Foot.rfmDraw ||| Foot.logCe ||| Foot.logUe ||| Foot.enqueueWb ||| .of
    [DC_CORRECTED_CORRECTED, DC_INJECT_INJ_CE, DC_INJECT_INJ_UE, DC_UE_COUNTS_POISON_READS, DC_UE_COUNTS_UNCORR] []

theorem Kept.decodeLine {addr src} (h : Kept L r s)
    (hl : Foot.decodeLine.Within L := by exact .mono ‹_› ⟨by decide +kernel⟩) :
    Kept L r (decodeLine addr src s).2.2 := by
  unfold Machine.decodeLine
  extract_lets _ s1
  have k1 : Kept L r s1 := h.rfmDraw
  split
  next s2 e3 =>
  have k2 : Kept L r s2 := .snd k1.takeInj e3
  split
  next s4 e5 =>
  have k4 : Kept L r s4 := .snd k2.takeInj e5
  split
  next s6 e7 =>
  have k6 : Kept L r s6 := .snd (.ite_snd k4.draw k4) e7
  exact .ite_snd₂ (.ite k6 k6.incSat) (.ite_snd₂ (k6.incSat.logUe.andThen fun h => .ite_snd₂ h h.enqueueWb.raiseInj) (.ite_snd₂
      (k6.incWrap.logCe.andThen fun h => .ite h h.enqueueWb) k6))

theorem Kept.controllerRead {addr src} (h : Kept L r s)
    (hl : Foot.decodeLine.Within L := by exact .mono ‹_› ⟨by decide +kernel⟩) :
    Kept L r (controllerRead addr src s).2 := by
  unfold Machine.controllerRead
  split
  next s1 e2 =>
    have k1 : Kept L r s1 := .snd₂ h.decodeLine e2
    exact k1
  next s3 e4 =>
    have k3 : Kept L r s3 := .snd₂ h.decodeLine e4
    exact k3
  next s5 _ _ e6 =>
    have k5 : Kept L r s5 := .snd₂ h.decodeLine e6
    exact k5

@[irreducible] def Foot.controllerWrite : Foot := Foot.rfmDraw ||| Foot.storeLine ||| Foot.dequeueWb

theorem Kept.controllerWrite {addr data tag} (h : Kept L r s)
    (hl : Foot.controllerWrite.Within L := by exact .mono ‹_› ⟨by decide +kernel⟩) :
    Kept L r (controllerWrite addr data tag s) :=
  h.rfmDraw.dequeueWb.storeLine

theorem Kept.updEngine {f} (h : Kept L r s) (hl : (Foot.part .enc).Within L := by exact .mono ‹_› ⟨by decide +kernel⟩) :
    Kept L r (updEngine f s) :=
  h.updEnc

@[irreducible] def Foot.refuse : Foot := Foot.part .enc ||| .of [DETAIL_LOG_KEY_ID, DETAIL_LOG_OPERATION, DETAIL_LOG_RANGE,
    DETAIL_LOG_REASON, DETAIL_LOG_STREAM_ID, DETAIL_LOG_TICK, DETAIL_LOG_VALID, EN_COUNTS_REFUSALS] []

theorem Kept.refuse {operation kid range sid reason} (h : Kept L r s)
    (hl : Foot.refuse.Within L := by exact .mono ‹_› ⟨by decide +kernel⟩) :
    Kept L r (refuse operation kid range sid reason s) :=
  h.incSat.wr.wr.wr.wr.wr.wr.wr.updEngine

theorem Kept.refuseAccess {sid j r'} (h : Kept L r s) (hl : Foot.refuse.Within L := by exact .mono ‹_› ⟨by decide +kernel⟩) :
    Kept L r (refuseAccess sid j r' s) :=
  h.refuse

@[irreducible] def Foot.integrityFail : Foot := Foot.sequencerStep ||| .of [FAIL_LOG_ADDR, FAIL_LOG_CHANNEL, FAIL_LOG_KEY_ID,
    FAIL_LOG_SEQ_TAG, FAIL_LOG_STREAM_ID, FAIL_LOG_TICK, FAIL_LOG_VALID, INTEGRITY_FAILS_COUNT] []

theorem Kept.integrityFail {addr k tag sid injected} (h : Kept L r s)
    (hl : Foot.integrityFail.Within L := by exact .mono ‹_› ⟨by decide +kernel⟩) :
    Kept L r (integrityFail addr k tag sid injected s) := by
  unfold Machine.integrityFail
  extract_lets _ s1 s2
  have k1 : Kept L r s1 := h.incWrap
  have k2 : Kept L r s2 := by
    unfold s2
    split
    · exact k1
    · exact k1.wr.wr.wr.wr.wr.wr.wr
  exact k2.raiseInj

@[irreducible] def Foot.checkLine : Foot := Foot.integrityFail ||| Foot.field EN_INJECT_INJ_TAG.id

theorem Kept.checkLine {addr k tag sid c} (h : Kept L r s)
    (hl : Foot.checkLine.Within L := by exact .mono ‹_› ⟨by decide +kernel⟩) :
    Kept L r (checkLine addr k tag sid c s).2 := by
  unfold Machine.checkLine
  split
  next s1 e2 =>
  have k1 : Kept L r s1 := .snd h.takeInj e2
  exact .ite_snd k1.integrityFail k1

theorem Kept.newTag {c} (h : Kept L r s) (hl : (Foot.part .enc).Within L := by exact .mono ‹_› ⟨by decide +kernel⟩) :
    Kept L r (newTag c s).2 := by
  dsimp only [Machine.newTag]
  exact h.updEngine

@[irreducible] def Foot.engineRead : Foot := Foot.decodeLine ||| Foot.checkLine ||| Foot.part .enc

theorem Kept.engineRead {sid addr tag} (h : Kept L r s)
    (hl : Foot.engineRead.Within L := by exact .mono ‹_› ⟨by decide +kernel⟩) :
    Kept L r (engineRead sid addr tag s).2 := by
  unfold Machine.engineRead
  split
  · exact h.controllerRead
  · split
    next s1 e2 =>
    have k1 : Kept L r s1 := .snd h.controllerRead e2
    refine .ite_snd k1 ?_
    split
    · exact k1
    · split
      next s3 e4 =>
      have k3 : Kept L r s3 := .snd (.ite_snd k1.newTag k1) e4
      split
      next s5 e6 =>
      have k5 : Kept L r s5 := .snd k3.checkLine e6
      exact .ite k5.updEngine k5

@[irreducible] def Foot.readLine : Foot := Foot.engineRead ||| Foot.refuse

theorem Kept.readLine {sid addr} (h : Kept L r s) (hl : Foot.readLine.Within L := by exact .mono ‹_› ⟨by decide +kernel⟩) :
    Kept L r (readLine sid addr s).2 := by
  unfold Machine.readLine
  extract_lets
  split
  · exact h.refuseAccess
  · exact .ite_snd h h.engineRead

theorem Kept.engineWrite {addr data} (h : Kept L r s)
    (hl : Foot.controllerWrite.Within L := by exact .mono ‹_› ⟨by decide +kernel⟩) :
    Kept L r (engineWrite addr data s) := by
  unfold Machine.engineWrite
  split
  · exact h.controllerWrite
  · exact h.controllerWrite

@[irreducible] def Foot.writeLine : Foot := Foot.controllerWrite ||| Foot.refuse

theorem Kept.writeLine {sid addr data} (h : Kept L r s)
    (hl : Foot.writeLine.Within L := by exact .mono ‹_› ⟨by decide +kernel⟩) :
    Kept L r (writeLine sid addr data s).2 := by
  unfold Machine.writeLine
  extract_lets
  split
  · exact h.refuseAccess
  · exact .ite_snd h h.engineWrite

@[irreducible] def Foot.enginePart : Foot := Foot.decodeLine ||| Foot.controllerWrite ||| Foot.checkLine

theorem Kept.enginePart {sid addr data} (h : Kept L r s)
    (hl : Foot.enginePart.Within L := by exact .mono ‹_› ⟨by decide +kernel⟩) :
    Kept L r (enginePart sid addr data s).2 := by
  unfold Machine.enginePart
  extract_lets
  split
  next s1 e2 =>
  have k1 : Kept L r s1 := .snd h.controllerRead e2
  refine .ite_snd (.ite k1.logUe k1) ?_
  split
  · exact k1.controllerWrite
  · split
    next s3 e4 =>
    have k3 : Kept L r s3 := .snd k1.checkLine e4
    exact .ite_snd k3 k3.controllerWrite

@[irreducible] def Foot.writeBytes : Foot := Foot.enginePart ||| Foot.writeLine

theorem Kept.writeBytes {sid addr data} (h : Kept L r s)
    (hl : Foot.writeBytes.Within L := by exact .mono ‹_› ⟨by decide +kernel⟩) :
    Kept L r (writeBytes sid addr data s).2 := by
  unfold Machine.writeBytes
  extract_lets
  refine .ite_snd h.writeLine ?_
  split
  · exact h.refuseAccess
  · exact .ite_snd h h.enginePart

theorem Kept.readSpan {sid addr n} (h : Kept L r s) (hl : Foot.readLine.Within L := by exact .mono ‹_› ⟨by decide +kernel⟩) :
    Kept L r (readSpan sid addr n s).2 := by
  unfold Machine.readSpan
  extract_lets
  split
  · exact h.refuseAccess
  · refine .ite_snd h ?_
    refine h.foldl_snd fun _ t2 h1 => ?_
    split
    next s3 e4 =>
    have k3 : Kept L r s3 := .snd h1.engineRead e4
    exact k3

theorem Kept.writeSpan {sid addr data} (h : Kept L r s)
    (hl : Foot.writeBytes.Within L := by exact .mono ‹_› ⟨by decide +kernel⟩) :
    Kept L r (writeSpan sid addr data s).2 := by
  unfold Machine.writeSpan
  extract_lets
  split
  · exact h.refuseAccess
  · refine .ite_snd h ?_
    refine h.foldl_snd fun _ t2 h1 => ?_
    split
    next s3 e4 =>
    have k3 : Kept L r s3 := .snd h1.writeBytes e4
    exact k3

/-! The footprints of Machine/DdrOps. -/

theorem Kept.refreshNow {c keys} (h : Kept L r s)
    (hl : (Foot.part .ddr).Within L := by exact .mono ‹_› ⟨by decide +kernel⟩) :
    Kept L r (refreshNow c keys s) := by
  unfold Machine.refreshNow
  exact h.updDdr_

@[irreducible] def Foot.setDelays : Foot := .of [TR_DESKEW_READ, TR_DESKEW_WRITE, TR_DQS_READ_DQS, TR_DQS_WRITE_DQS] []

theorem Kept.setDelays {c deskew dqs} (h : Kept L r s)
    (hl : Foot.setDelays.Within L := by exact .mono ‹_› ⟨by decide +kernel⟩) :
    Kept L r (setDelays c deskew dqs s) :=
  (h.foldl (fun _ _ h => h.wr.wr)).foldl (fun _ _ h => h.wr.wr)

@[irreducible] def Foot.scrubSeek : Foot := Foot.part .ddr ||| Foot.field DC_SCRUB_POS_OFFSET.id

theorem Kept.scrubSeek {c} (h : Kept L r s) (hl : Foot.scrubSeek.Within L := by exact .mono ‹_› ⟨by decide +kernel⟩) :
    Kept L r (scrubSeek c s) := by
  unfold Machine.scrubSeek
  extract_lets
  split
  · exact .ite h h.wr.updDdr_
  · exact .ite h.wr.updDdr_ h

@[irreducible] def Foot.scrubAdvance : Foot := Foot.part .ddr ||| .of [DC_SCRUB_PASSES_LATE_PASSES, DC_SCRUB_PASSES_PASSES,
    DC_SCRUB_POS_OFFSET] []

theorem Kept.scrubAdvance {c} (h : Kept L r s) (hl : Foot.scrubAdvance.Within L := by exact .mono ‹_› ⟨by decide +kernel⟩) :
    Kept L r (scrubAdvance c s) := by
  unfold Machine.scrubAdvance
  extract_lets _ _ s1 s2 _
  have k1 : Kept L r s1 := h.incSat
  have k2 : Kept L r s2 := .ite k1.incSat k1
  refine .ite h.wr.updDdr_ ?_
  split
  · exact h.wr.updDdr_
  · exact k2.wr.updDdr_

@[irreducible] def Foot.scrubLine : Foot := Foot.decodeLine ||| Foot.storeLine ||| Foot.scrubAdvance

theorem Kept.scrubLine {c param quota} (h : Kept L r s)
    (hl : Foot.scrubLine.Within L := by exact .mono ‹_› ⟨by decide +kernel⟩) :
    Kept L r (scrubLine c param quota s).2 := by
  unfold Machine.scrubLine
  extract_lets
  refine .ite_snd h ?_
  refine .ite_snd h ?_
  split
  next s1 e2 =>
    have k1 : Kept L r s1 := .snd₂ h.decodeLine e2
    exact .ite_snd k1.updDramBad.scrubAdvance k1.enqueueWb.scrubAdvance
  next s3 e4 =>
    have k3 : Kept L r s3 := .snd₂ h.decodeLine e4
    exact (Kept.ite k3.poisonLine k3.enqueueWb).raiseInj.scrubAdvance
  next s7 _ _ e8 =>
    have k7 : Kept L r s7 := .snd₂ h.decodeLine e8
    exact k7.scrubAdvance

/-- One turn of the scrub's recursion, whatever is done after it. (The equation of scrubLines itself is too deep for
the kernel, which would evaluate the line that is scrubbed.) -/
theorem Kept.scrubLines_turn {c param quota k} {rest : Nat.below (motive := fun _ => Nat → State → Bool × State) (k + 1)}
    (h : Kept L r s) (hr : ∀ n t, Kept L r t → Kept L r (rest.1 n t).2)
    (hl : Foot.scrubLine.Within L := by exact .mono ‹_› ⟨by decide +kernel⟩) :
    Kept L r (Machine.scrubLines._f c param (k + 1) rest quota s).2 := by
  simp only [Machine.scrubLines._f]
  refine .ite_snd h (.ite_snd h.scrubSeek ?_)
  split
  next e => exact .snd h.scrubSeek.scrubLine e
  next e => exact hr _ _ (.snd h.scrubSeek.scrubLine e)

theorem Kept.scrubLines {c param a a'} (h : Kept L r s)
    (hl : Foot.scrubLine.Within L := by exact .mono ‹_› ⟨by decide +kernel⟩) :
    Kept L r (scrubLines c param a a' s).2 := by
  induction a generalizing a' s with
  | zero => exact h
  | succ k ih =>
    delta Machine.scrubLines
    set_option smartUnfolding false in
    exact h.scrubLines_turn fun _ _ k => ih k

@[irreducible] def Foot.fallbackRefresh : Foot := Foot.sequencerStep ||| Foot.part .ddr ||| .of
    [DC_REFRESH_COUNTS_FALLBACK_AGE, DC_REFRESH_COUNTS_FALLBACK_MISSED, DC_REFRESH_MORE_PARKED_REFRESH,
    DC_REFRESH_MORE_UNSCHEDULED_REFRESH] []

theorem Kept.fallbackRefresh {c rank sub} (h : Kept L r s)
    (hl : Foot.fallbackRefresh.Within L := by exact .mono ‹_› ⟨by decide +kernel⟩) :
    Kept L r (fallbackRefresh c rank sub s) := by
  unfold Machine.fallbackRefresh
  extract_lets missed t done
  have hd {u} (k : Kept L r u) : Kept L r (done u) := k.updDdr_.refreshNow
  refine .ite h (.ite (.ite (hd h.incSat) h) ?_)
  clear_value missed
  cases missed with
  | some m => exact hd h.incSat.raiseOnce
  | none => exact .ite h (.ite (hd h.incSat.raiseOnce) (hd h.incSat))

theorem Kept.rankFallback {c rank} (h : Kept L r s)
    (hl : Foot.fallbackRefresh.Within L := by exact .mono ‹_› ⟨by decide +kernel⟩) :
    Kept L r (rankFallback c rank s) :=
  h.fallbackRefresh.fallbackRefresh

theorem Kept.chanFallback {c} (h : Kept L r s)
    (hl : Foot.fallbackRefresh.Within L := by exact .mono ‹_› ⟨by decide +kernel⟩) :
    Kept L r (chanFallback c s) :=
  h.foldl (fun _ _ h => h.rankFallback)

@[irreducible] def Foot.writeBackOne : Foot := Foot.storeLine ||| Foot.part .ddr ||| Foot.field DC_STATUS_WB_LEVEL.id

theorem Kept.writeBackOne {c} (h : Kept L r s) (hl : Foot.writeBackOne.Within L := by exact .mono ‹_› ⟨by decide +kernel⟩) :
    Kept L r (writeBackOne c s) := by
  unfold Machine.writeBackOne
  split
  · exact h
  · exact .ite h (h.updDdr_.noteWb.andThen fun h => .ite h.poisonLine h.updDramBad)

@[irreducible] def Foot.precedence : Foot := Foot.fallbackRefresh ||| Foot.writeBackOne

theorem Kept.precedence {c} (h : Kept L r s) (hl : Foot.precedence.Within L := by exact .mono ‹_› ⟨by decide +kernel⟩) :
    Kept L r (precedence c s) :=
  h.chanFallback.foldl (fun _ _ h => h.writeBackOne)

/-! The footprints of Machine/NocOps. -/

theorem Kept.updNet {f} (h : Kept L r s) (hl : (Foot.part .noc).Within L := by exact .mono ‹_› ⟨by decide +kernel⟩) :
    Kept L r (updNet f s) :=
  h.updNoc

@[irreducible] def Foot.parityError : Foot := Foot.sequencerStep ||| Foot.field LINK_PARITY_PARITY.id

theorem Kept.parityError {r' d injected} (h : Kept L r s)
    (hl : Foot.parityError.Within L := by exact .mono ‹_› ⟨by decide +kernel⟩) :
    Kept L r (parityError r' d injected s) :=
  h.incSat.raiseInj

theorem Kept.headLands {d kind addr sid} (h : Kept L r s)
    (hl : Foot.sequencerStep.Within L := by exact .mono ‹_› ⟨by decide +kernel⟩) :
    Kept L r (headLands d kind addr sid s) :=
  h.comparatorHits

theorem Kept.headsLand {d kind sid n addrs} (h : Kept L r s)
    (hl : Foot.sequencerStep.Within L := by exact .mono ‹_› ⟨by decide +kernel⟩) :
    Kept L r (headsLand d kind sid n addrs s) :=
  h.foldl (fun _ _ h => h.headLands)

@[irreducible] def Foot.travel : Foot := Foot.parityError ||| .of [LINK_FLITS_FLITS, NR_INJECT_INJ_PARITY] []

theorem Kept.travel {a b n perr} (h : Kept L r s) (hl : Foot.travel.Within L := by exact .mono ‹_› ⟨by decide +kernel⟩) :
    Kept L r (travel a b n perr s).2 := by
  unfold Machine.travel
  refine h.foldl_snd fun _ _ k => ?_
  split
  extract_lets s1 t
  have k1 : Kept L r s1 := k.incWrap
  split
  next s2 e =>
  have k2 : Kept L r s2 := .snd k1.takeInj e
  exact .ite_snd (.pair k2.parityError) k2

theorem Kept.suspend {a b susp} (h : Kept L r s)
    (hl : (Foot.field LINK_SUSPEND_CYCLES.id).Within L := by exact .mono ‹_› ⟨by decide +kernel⟩) :
    Kept L r (suspend a b susp s) := by
  unfold Machine.suspend
  refine h.foldl fun _ t2 h1 => ?_
  split
  · exact h1
  · exact h1.incWrap

@[irreducible] def Foot.slotConflict : Foot := Foot.sequencerStep ||| Foot.field NR_COUNTS_A_SCH_CONFLICTS.id

theorem Kept.slotConflict {injected r'} (h : Kept L r s)
    (hl : Foot.slotConflict.Within L := by exact .mono ‹_› ⟨by decide +kernel⟩) :
    Kept L r (slotConflict injected r' s) :=
  h.incSat.raiseOnce

theorem Kept.meetsAt {meets} (h : Kept L r s) (hl : Foot.slotConflict.Within L := by exact .mono ‹_› ⟨by decide +kernel⟩) :
    Kept L r (meetsAt meets s) :=
  h.foldl (fun _ _ h => h.slotConflict)

@[irreducible] def Foot.notePort : Foot := .of [PORT_FREE_LANDING_FREE, PORT_FREE_RESP_FREE] []

theorem Kept.notePort {q} (h : Kept L r s) (hl : Foot.notePort.Within L := by exact .mono ‹_› ⟨by decide +kernel⟩) :
    Kept L r (notePort q s) :=
  h.wr.wr

theorem Kept.updXact {x f} (h : Kept L r s) (hl : (Foot.part .noc).Within L := by exact .mono ‹_› ⟨by decide +kernel⟩) :
    Kept L r (updXact x f s) :=
  h.updNet

theorem Kept.moveXact {x f} (h : Kept L r s) (hl : (Foot.part .noc).Within L := by exact .mono ‹_› ⟨by decide +kernel⟩) :
    Kept L r (moveXact x f s) :=
  h.updNet

theorem Kept.sendPacket {x cyc f} (h : Kept L r s)
    (hl : (Foot.part .noc).Within L := by exact .mono ‹_› ⟨by decide +kernel⟩) :
    Kept L r (sendPacket x cyc f s) :=
  h.moveXact

theorem Kept.dropXact {x} (h : Kept L r s) (hl : (Foot.part .noc).Within L := by exact .mono ‹_› ⟨by decide +kernel⟩) :
    Kept L r (dropXact x s) :=
  h.updNet

theorem Kept.updStat {q f} (h : Kept L r s) (hl : (Foot.part .noc).Within L := by exact .mono ‹_› ⟨by decide +kernel⟩) :
    Kept L r (updStat q f s) :=
  h.updNet

theorem Kept.deliver {q d} (h : Kept L r s) (hl : (Foot.part .noc).Within L := by exact .mono ‹_› ⟨by decide +kernel⟩) :
    Kept L r (deliver q d s) :=
  h.updNet

theorem Kept.serveQueue {q a} (h : Kept L r s) (hl : (Foot.part .noc).Within L := by exact .mono ‹_› ⟨by decide +kernel⟩) :
    Kept L r (serveQueue q a s) := by
  induction a generalizing s with
  | zero => exact h
  | succ k ih =>
    unfold Machine.serveQueue
    split
    · exact h
    · exact .ite (ih h.sendPacket) h

@[irreducible] def Foot.landingFreed : Foot := Foot.notePort ||| Foot.part .noc

theorem Kept.landingFreed {q} (h : Kept L r s) (hl : Foot.landingFreed.Within L := by exact .mono ‹_› ⟨by decide +kernel⟩) :
    Kept L r (landingFreed q s) :=
  h.serveQueue.notePort

theorem Kept.sendReserves {q a} (h : Kept L r s) (hl : (Foot.part .noc).Within L := by exact .mono ‹_› ⟨by decide +kernel⟩) :
    Kept L r (sendReserves q a s) := by
  induction a generalizing s with
  | zero => exact h
  | succ k ih =>
    unfold Machine.sendReserves
    split
    · exact h
    · exact .ite (ih h.sendPacket) h

theorem Kept.completeXact {x code} (h : Kept L r s)
    (hl : (Foot.part .noc).Within L := by exact .mono ‹_› ⟨by decide +kernel⟩) :
    Kept L r (completeXact x code s) :=
  h.deliver

@[irreducible] def Foot.showStats : Foot := .of [STAT_BYTES_BYTES, STAT_CREDIT_WAIT_CYCLES, STAT_HIST_COUNT,
    STAT_LAT_MAX_CYCLES, STAT_LAT_MIN_CYCLES, STAT_LAT_SUM_CYCLES, STAT_MEAN_CYCLES, STAT_PACKETS_PACKETS,
    STAT_SNAP_TICK_TICK] []

theorem Kept.showStats {q v} (h : Kept L r s) (hl : Foot.showStats.Within L := by exact .mono ‹_› ⟨by decide +kernel⟩) :
    Kept L r (showStats q v s) :=
  h.wr.wr.wr.wr.wr.wr.wr.wr.foldl (fun _ _ h => h.wr)

@[irreducible] def Foot.countRequest : Foot := Foot.showStats ||| Foot.part .noc

theorem Kept.countRequest {q bytes l} (h : Kept L r s)
    (hl : Foot.countRequest.Within L := by exact .mono ‹_› ⟨by decide +kernel⟩) :
    Kept L r (countRequest q bytes l s) := by
  unfold Machine.countRequest
  extract_lets
  split
  · exact .ite h.updStat (h.updNet.showStats.andThen fun h => .ite h h.updStat)
  · exact h.updStat

theorem Kept.countAnswer {x} (h : Kept L r s) (hl : Foot.countRequest.Within L := by exact .mono ‹_› ⟨by decide +kernel⟩) :
    Kept L r (countAnswer x s) :=
  h.countRequest

theorem Kept.failXact {x code} (h : Kept L r s) (hl : (Foot.part .noc).Within L := by exact .mono ‹_› ⟨by decide +kernel⟩) :
    Kept L r (failXact x code s) :=
  h.completeXact.dropXact.sendReserves

@[irreducible] def Foot.timeOut : Foot := Foot.sequencerStep ||| Foot.part .noc ||| Foot.field NR_COUNTS_C_TIMEOUTS.id

theorem Kept.timeOut {x injected} (h : Kept L r s) (hl : Foot.timeOut.Within L := by exact .mono ‹_› ⟨by decide +kernel⟩) :
    Kept L r (timeOut x injected s) :=
  h.incSat.raiseInj.completeXact.updXact

theorem Kept.takeTimeout {q} (h : Kept L r s)
    (hl : (Foot.field NR_INJECT_INJ_TIMEOUT.id).Within L := by exact .mono ‹_› ⟨by decide +kernel⟩) :
    Kept L r (takeTimeout q s).2 :=
  h.takeInj

@[irreducible] def Foot.injectWith : Foot := Foot.timeOut ||| Foot.notePort ||| Foot.field NR_INJECT_INJ_TIMEOUT.id

theorem Kept.injectWith {x cyc held} (h : Kept L r s)
    (hl : Foot.injectWith.Within L := by exact .mono ‹_› ⟨by decide +kernel⟩) :
    Kept L r (injectWith x cyc held s) := by
  unfold Machine.injectWith
  extract_lets s1 s2
  have k1 : Kept L r s1 := h.sendPacket
  have k2 : Kept L r s2 := k1.notePort
  split
  next s3 e4 =>
  have k3 : Kept L r s3 := .snd k2.takeTimeout e4
  exact .ite k3.timeOut k3

theorem Kept.inject {x cyc} (h : Kept L r s) (hl : Foot.injectWith.Within L := by exact .mono ‹_› ⟨by decide +kernel⟩) :
    Kept L r (inject x cyc s) := by
  unfold Machine.inject
  split
  · exact h.injectWith
  · exact h.updXact

theorem Kept.injectReady {q a} (h : Kept L r s) (hl : Foot.injectWith.Within L := by exact .mono ‹_› ⟨by decide +kernel⟩) :
    Kept L r (injectReady q a s) := by
  induction a generalizing s with
  | zero => exact h
  | succ k ih =>
    unfold Machine.injectReady
    split
    · exact h
    · exact ih h.inject

theorem Kept.endXact {x} (h : Kept L r s) (hl : Foot.injectWith.Within L := by exact .mono ‹_› ⟨by decide +kernel⟩) :
    Kept L r (endXact x s) :=
  h.dropXact.injectReady.notePort

theorem Kept.answerXact {x code data tag} (h : Kept L r s)
    (hl : Foot.landingFreed.Within L := by exact .mono ‹_› ⟨by decide +kernel⟩) :
    Kept L r (answerXact x code data tag s) :=
  h.sendPacket.landingFreed

theorem Kept.sendSlots {q dst a a'} (h : Kept L r s)
    (hl : Foot.injectWith.Within L := by exact .mono ‹_› ⟨by decide +kernel⟩) :
    Kept L r (sendSlots q dst a a' s).2 := by
  induction a generalizing a' s with
  | zero => exact h
  | succ k ih =>
    unfold Machine.sendSlots
    split
    · exact h
    · refine .ite_snd h ?_
      split
      · exact h
      · exact .ite_snd (ih h.updXact.injectWith) h.updXact.updXact.notePort

@[irreducible] def Foot.serveSlot : Foot := Foot.injectWith ||| Foot.part .tick

theorem Kept.serveSlot {k} (h : Kept L r s) (hl : Foot.serveSlot.Within L := by exact .mono ‹_› ⟨by decide +kernel⟩) :
    Kept L r (serveSlot k s) := by
  unfold Machine.serveSlot
  split
  · exact h
  · split
    next s1 e2 =>
    have k1 : Kept L r s1 := .snd h.sendSlots e2
    exact k1.updNet.updTick

theorem Kept.holdSlots {k} (h : Kept L r s) (hl : (Foot.part .noc).Within L := by exact .mono ‹_› ⟨by decide +kernel⟩) :
    Kept L r (holdSlots k s) := by
  unfold Machine.holdSlots
  split
  · exact h
  · exact h.updNet

theorem Kept.serveSlots (h : Kept L r s) (hl : Foot.serveSlot.Within L := by exact .mono ‹_› ⟨by decide +kernel⟩) :
    Kept L r (serveSlots s) :=
  h.foldl (fun _ _ h => h.serveSlot)

theorem Kept.submit {x} (h : Kept L r s) (hl : Foot.serveSlot.Within L := by exact .mono ‹_› ⟨by decide +kernel⟩) :
    Kept L r (submit x s) :=
  .ite (h.updNet.foldl (fun _ _ h => h.serveSlot)) (.ite h.updNet.inject h.updNet.sendReserves)

@[irreducible] def Foot.answerReserve : Foot := Foot.notePort ||| Foot.part .noc ||| .of [NR_COUNTS_B_CLOSED_REFUSALS,
    NR_COUNTS_C_RETRIES] []

theorem Kept.answerReserve {x status} (h : Kept L r s)
    (hl : Foot.answerReserve.Within L := by exact .mono ‹_› ⟨by decide +kernel⟩) :
    Kept L r (answerReserve x status s) :=
  (Kept.ite h.incSat (.ite h.incSat h)).sendPacket.notePort

@[irreducible] def Foot.closePort : Foot := Foot.answerReserve ||| Foot.field NR_STATUS_PORT_STATE.id

theorem Kept.closePort {q} (h : Kept L r s) (hl : Foot.closePort.Within L := by exact .mono ‹_› ⟨by decide +kernel⟩) :
    Kept L r (closePort q s) :=
  .ite h ((h.foldl (fun _ _ h => h.answerReserve)).foldl (fun _ _ h => h.failXact)).updNet.setPort

@[irreducible] def Foot.openPort : Foot := Foot.notePort ||| Foot.field NR_STATUS_PORT_STATE.id

theorem Kept.openPort {q} (h : Kept L r s) (hl : Foot.openPort.Within L := by exact .mono ‹_› ⟨by decide +kernel⟩) :
    Kept L r (openPort q s) :=
  h.setPort.notePort

@[irreducible] def Foot.sendBack : Foot := Foot.part .noc ||| Foot.field NR_COUNTS_B_RETURNS.id

theorem Kept.sendBack {x epoch} (h : Kept L r s) (hl : Foot.sendBack.Within L := by exact .mono ‹_› ⟨by decide +kernel⟩) :
    Kept L r (sendBack x epoch s) :=
  h.incSat.sendPacket

theorem Kept.drainXact {q x} (h : Kept L r s) (hl : Foot.landingFreed.Within L := by exact .mono ‹_› ⟨by decide +kernel⟩) :
    Kept L r (drainXact q x s) := by
  unfold Machine.drainXact
  extract_lets
  refine .ite (.ite h.updXact h.dropXact.landingFreed) ?_
  refine .ite h ?_
  split
  · exact h.sendPacket
  · exact h.sendPacket
  · exact h.sendPacket
  · exact h

@[irreducible] def Foot.forceDrain : Foot := Foot.landingFreed ||| Foot.sendBack ||| Foot.field RG_ROLE_MOVED_COUNT.id

theorem Kept.forceDrain {q epoch} (h : Kept L r s)
    (hl : Foot.forceDrain.Within L := by exact .mono ‹_› ⟨by decide +kernel⟩) :
    Kept L r (forceDrain q epoch s).2.2 := by
  unfold Machine.forceDrain
  extract_lets _ _ _ s1 s2 s3
  have k1 : Kept L r s1 := by
    unfold s1
    refine h.foldl fun _ t6 h5 => ?_
    refine .sendBack ?_
    split
    · exact h5.incWrap
    · exact h5
  have k2 : Kept L r s2 := k1.foldl (fun _ _ h => h.drainXact)
  have k3 : Kept L r s3 := k2.updNet
  exact k3.notePort

theorem Kept.accrueWait {q} (h : Kept L r s) (hl : (Foot.part .noc).Within L := by exact .mono ‹_› ⟨by decide +kernel⟩) :
    Kept L r (accrueWait q s) := by
  unfold Machine.accrueWait
  exact h.updNet.updStat

theorem Kept.latchStats {q snap clear} (h : Kept L r s)
    (hl : Foot.countRequest.Within L := by exact .mono ‹_› ⟨by decide +kernel⟩) :
    Kept L r (latchStats q snap clear s) :=
  h.accrueWait.andThen fun h => (Kept.ite h.updNet.showStats h).andThen fun h => .ite h.updStat h

@[irreducible] def Foot.nocTick : Foot := Foot.countRequest ||| Foot.closePort

theorem Kept.nocTick (h : Kept L r s) (hl : Foot.nocTick.Within L := by exact .mono ‹_› ⟨by decide +kernel⟩) :
    Kept L r (nocTick s) :=
  ((h.updNet.foldl (fun _ _ h => h.openPort)).foldl (fun _ _ h => h.closePort)).foldl (fun _ _ h => h.latchStats)

@[irreducible] def Foot.endAccess : Foot := Foot.sequencerStep ||| Foot.countRequest ||| Foot.part .drawn ||| .of
    [NR_COUNTS_C_LATE_RESP, NR_COUNTS_C_TIMEOUTS] []

theorem Kept.endAccess {q bytes code timedOut} (h : Kept L r s)
    (hl : Foot.endAccess.Within L := by exact .mono ‹_› ⟨by decide +kernel⟩) :
    Kept L r (endAccess q bytes code timedOut s).2 := by
  unfold Machine.endAccess
  extract_lets s1
  have k1 : Kept L r s1 := h.incSat.raiseInj
  refine .ite_snd k1.incSat ?_
  split
  next s2 e3 =>
  have k2 : Kept L r s2 := .snd h.draw e3
  exact k2.countRequest

@[irreducible] def Foot.reserveTraffic : Foot := Foot.travel ||| .of [NR_COUNTS_B_CLOSED_REFUSALS, NR_COUNTS_C_RETRIES] []

theorem Kept.reserveTraffic {q d a} (h : Kept L r s)
    (hl : Foot.reserveTraffic.Within L := by exact .mono ‹_› ⟨by decide +kernel⟩) :
    Kept L r (reserveTraffic q d a s).2 := by
  induction a generalizing s with
  | zero => exact h
  | succ k ih =>
    unfold Machine.reserveTraffic
    split
    next s1 e1 =>
    have k1 : Kept L r s1 := .snd h.travel e1
    extract_lets closed s2
    have k2 : Kept L r s2 := .ite k1.incSat (.ite k1.incSat k1)
    split
    next s3 e3 =>
    have k3 : Kept L r s3 := .snd k2.travel e3
    exact .ite_snd k3 (.ite_snd (ih k3) k3)

@[irreducible] def Foot.waitTraffic : Foot := Foot.part .drawn ||| Foot.part .noc

theorem Kept.waitTraffic {q} (h : Kept L r s) (hl : Foot.waitTraffic.Within L := by exact .mono ‹_› ⟨by decide +kernel⟩) :
    Kept L r (waitTraffic q s) := by
  unfold Machine.waitTraffic
  split
  next s1 e2 =>
  have k1 : Kept L r s1 := .snd h.draw e2
  exact k1.updStat

@[irreducible] def Foot.countMessage : Foot := Foot.endAccess ||| Foot.reserveTraffic ||| Foot.field NR_INJECT_INJ_TIMEOUT.id

theorem Kept.countMessage {m addr bytes} (h : Kept L r s)
    (hl : Foot.countMessage.Within L := by exact .mono ‹_› ⟨by decide +kernel⟩) :
    Kept L r (countMessage m addr bytes s).2 := by
  unfold Machine.countMessage
  extract_lets
  split
  · exact h
  · refine .ite_snd h ?_
    split
    next s1 e2 =>
    have k1 : Kept L r s1 := .snd h.reserveTraffic e2
    split
    next s3 e4 =>
    have k3 : Kept L r s3 := .snd k1.waitTraffic.takeTimeout e4
    split
    next s5 e6 =>
    have k5 : Kept L r s5 := .snd k3.travel e6
    extract_lets s7
    have k7 : Kept L r s7 := k5.headLands
    split
    next s8 e9 =>
    have k8 : Kept L r s8 := .snd k7.travel e9
    exact k8.endAccess

@[irreducible] def Foot.countLines : Foot := Foot.countRequest ||| Foot.part .drawn

theorem Kept.countLines {q n} (h : Kept L r s) (hl : Foot.countLines.Within L := by exact .mono ‹_› ⟨by decide +kernel⟩) :
    Kept L r (countLines q n s) := by
  unfold Machine.countLines
  refine h.foldl fun _ t2 h1 => ?_
  split
  next s3 e4 =>
  have k3 : Kept L r s3 := .snd h1.draw e4
  exact k3.countRequest

@[irreducible] def Foot.fetchTraffic : Foot := Foot.endAccess ||| Foot.travel ||| Foot.field NR_INJECT_INJ_TIMEOUT.id

theorem Kept.fetchTraffic {q d n addrs perr other} (h : Kept L r s)
    (hl : Foot.fetchTraffic.Within L := by exact .mono ‹_› ⟨by decide +kernel⟩) :
    Kept L r (fetchTraffic q d n addrs perr other s).2 := by
  unfold Machine.fetchTraffic
  refine .ite_snd h ?_
  split
  next s1 e2 =>
  have k1 : Kept L r s1 := .snd h.takeTimeout e2
  split
  next s3 e4 =>
  have k3 : Kept L r s3 := .snd k1.travel e4
  extract_lets s5
  have k5 : Kept L r s5 := k3.headsLand
  split
  next s6 e7 =>
  have k6 : Kept L r s6 := .snd k5.travel e7
  exact .ite_snd k6.endAccess k6.countLines

theorem Kept.flushTraffic {q d n addrs other} (h : Kept L r s)
    (hl : Foot.fetchTraffic.Within L := by exact .mono ‹_› ⟨by decide +kernel⟩) :
    Kept L r (flushTraffic q d n addrs other s) := by
  unfold Machine.flushTraffic
  refine .ite h ?_
  split
  next s1 e2 =>
  have k1 : Kept L r s1 := .snd h.takeTimeout e2
  exact k1.travel.headsLand.travel.andThen fun h => .ite h.endAccess h.countLines

/-! The footprints of Machine/DdrServe. -/

theorem Kept.refuseXact {x} (h : Kept L r s) (hl : Foot.landingFreed.Within L := by exact .mono ‹_› ⟨by decide +kernel⟩) :
    Kept L r (refuseXact x s) :=
  h.updXact.landingFreed

theorem Kept.answerNow {x code data tag} (h : Kept L r s)
    (hl : Foot.landingFreed.Within L := by exact .mono ‹_› ⟨by decide +kernel⟩) :
    Kept L r (answerNow x code data tag s) :=
  h.answerXact

@[irreducible] def Foot.serveRequest : Foot := Foot.writeBytes ||| Foot.precedence ||| Foot.landingFreed

theorem Kept.serveRequest {c x} (h : Kept L r s)
    (hl : Foot.serveRequest.Within L := by exact .mono ‹_› ⟨by decide +kernel⟩) :
    Kept L r (serveRequest c x s) := by
  unfold Machine.serveRequest
  extract_lets _ s1
  have k1 : Kept L r s1 := h.precedence
  refine .ite h.answerNow ?_
  refine .ite ?_ ?_
  · split
    next s2 e3 =>
    have k2 : Kept L r s2 := .snd k1.readSpan e3
    exact .ite k2.refuseXact k2.answerNow
  · split
    next s4 e5 =>
    have k4 : Kept L r s4 := .snd k1.writeSpan e5
    exact .ite k4.refuseXact k4.answerNow

theorem Kept.serveAbove {c prio a} (h : Kept L r s)
    (hl : Foot.serveRequest.Within L := by exact .mono ‹_› ⟨by decide +kernel⟩) :
    Kept L r (serveAbove c prio a s) := by
  induction a generalizing s with
  | zero => exact h
  | succ k ih =>
    unfold Machine.serveAbove
    split
    · exact h
    · exact .ite (ih h.serveRequest) h

theorem Kept.serveChan {c k} (h : Kept L r s) (hl : Foot.serveRequest.Within L := by exact .mono ‹_› ⟨by decide +kernel⟩) :
    Kept L r (serveChan c k s) :=
  h.serveAbove

theorem Kept.serveWaiting {c} (h : Kept L r s) (hl : Foot.serveRequest.Within L := by exact .mono ‹_› ⟨by decide +kernel⟩) :
    Kept L r (serveWaiting c s) :=
  .ite h h.chanFallback.serveChan

theorem Kept.serveDdr (h : Kept L r s) (hl : Foot.serveRequest.Within L := by exact .mono ‹_› ⟨by decide +kernel⟩) :
    Kept L r (serveDdr s) :=
  .ite (h.foldl (fun _ _ h => h.serveWaiting)) h

theorem Kept.landDdr {c x} (h : Kept L r s) (hl : Foot.serveRequest.Within L := by exact .mono ‹_› ⟨by decide +kernel⟩) :
    Kept L r (landDdr c x s) := by
  unfold Machine.landDdr
  extract_lets _ s1
  have k1 : Kept L r s1 := h.moveXact
  split
  · exact h.refuseAccess.refuseXact
  · exact k1.serveChan

theorem Kept.serveFirst {c prio} (h : Kept L r s)
    (hl : Foot.serveRequest.Within L := by exact .mono ‹_› ⟨by decide +kernel⟩) :
    Kept L r (serveFirst c prio s) :=
  h.precedence.serveAbove

@[irreducible] def Foot.blockRead : Foot := Foot.serveRequest ||| Foot.endAccess ||| Foot.reserveTraffic ||| Foot.field
    NR_INJECT_INJ_TIMEOUT.id

theorem Kept.blockRead {sid addr n prio upset k} (h : Kept L r s)
    (hl : Foot.blockRead.Within L := by exact .mono ‹_› ⟨by decide +kernel⟩) :
    Kept L r (blockRead sid addr n s prio upset k).2 := by
  obtain ⟨travel, et, ht⟩ : ∃ f, f = Machine.travel ∧ ∀ a b n p t, Kept L r t → Kept L r (f a b n p t).2 :=
    ⟨_, rfl, fun _ _ _ _ _ k => k.travel⟩
  obtain ⟨takeTimeout, ew, hw⟩ : ∃ f, f = Machine.takeTimeout ∧ ∀ q t, Kept L r t → Kept L r (f q t).2 :=
    ⟨_, rfl, fun _ _ k => k.takeTimeout⟩
  rw [Machine.blockRead, ← et, ← ew]
  generalize hardPort sid = q, portDdr (chanOf addr) = d
  refine .ite_snd h.readSpan ?_
  split
  next s1 e1 =>
  have k1 : Kept L r s1 := .snd h.waitTraffic.reserveTraffic e1
  refine .ite_snd k1 ?_
  split
  next s2 e2 =>
  have k2 : Kept L r s2 := .snd (hw _ _ k1) e2
  split
  next s3 e3 =>
  have k3 : Kept L r s3 := .snd (ht _ _ _ _ _ k2) e3
  extract_lets s4
  have k4 : Kept L r s4 := k3.headLands
  split
  next s5 e5 =>
  have k5 : Kept L r s5 := .snd (.ite_snd k4 k4.serveFirst.readSpan) e5
  split
  next s6 e6 =>
  have k6 : Kept L r s6 := .snd (ht _ _ _ _ _ k5) e6
  split
  next e7 => exact .snd k6.endAccess e7

theorem Kept.blockWrite {sid addr data prio upset k} (h : Kept L r s)
    (hl : Foot.blockRead.Within L := by exact .mono ‹_› ⟨by decide +kernel⟩) :
    Kept L r (blockWrite sid addr data s prio upset k).2 := by
  obtain ⟨travel, et, ht⟩ : ∃ f, f = Machine.travel ∧ ∀ a b n p t, Kept L r t → Kept L r (f a b n p t).2 :=
    ⟨_, rfl, fun _ _ _ _ _ k => k.travel⟩
  obtain ⟨takeTimeout, ew, hw⟩ : ∃ f, f = Machine.takeTimeout ∧ ∀ q t, Kept L r t → Kept L r (f q t).2 :=
    ⟨_, rfl, fun _ _ k => k.takeTimeout⟩
  rw [Machine.blockWrite, ← et, ← ew]
  generalize hardPort sid = q, portDdr (chanOf addr) = d
  refine .ite_snd h.writeSpan ?_
  split
  next s1 e1 =>
  have k1 : Kept L r s1 := .snd h.waitTraffic.reserveTraffic e1
  refine .ite_snd k1 ?_
  split
  next s2 e2 =>
  have k2 : Kept L r s2 := .snd (hw _ _ k1) e2
  split
  next s3 e3 =>
  have k3 : Kept L r s3 := .snd (ht _ _ _ _ _ k2) e3
  extract_lets s4
  have k4 : Kept L r s4 := k3.headLands
  split
  next s5 e5 =>
  have k5 : Kept L r s5 := .snd (.ite_snd k4 k4.serveFirst.writeSpan) e5
  split
  next s6 e6 =>
  have k6 : Kept L r s6 := .snd (ht _ _ _ _ _ k5) e6
  exact k6.endAccess

/-! The footprints of Machine/DispOps. -/

theorem Kept.updJobs {f} (h : Kept L r s) (hl : (Foot.part .disp).Within L := by exact .mono ‹_› ⟨by decide +kernel⟩) :
    Kept L r (updJobs f s) :=
  h.updDisp

@[irreducible] def Foot.noteJobs : Foot := .of [DELAY_DEPTH_DEPTH, DELAY_NEXT_TICK, DP_POOL_FREE, DP_POOL_SHARED_FREE,
    DP_STATUS_BUSY, READY_DEPTH_DEPTH] []

theorem Kept.noteJobs (h : Kept L r s) (hl : Foot.noteJobs.Within L := by exact .mono ‹_› ⟨by decide +kernel⟩) :
    Kept L r (noteJobs s) :=
  ((h.foldl (fun _ _ h => h.wr)).foldl (fun _ _ h => h.wr.wr)).wr.wr.setb

@[irreducible] def Foot.noteFlow : Foot := .of [FLOW_DEPTH_HELD, FLOW_DEPTH_WINDOW] []

theorem Kept.noteFlow {f} (h : Kept L r s) (hl : Foot.noteFlow.Within L := by exact .mono ‹_› ⟨by decide +kernel⟩) :
    Kept L r (noteFlow f s) :=
  h.wr.wr

@[irreducible] def Foot.flowEnter : Foot := Foot.noteJobs ||| Foot.noteFlow

theorem Kept.flowEnter {f} (h : Kept L r s) (hl : Foot.flowEnter.Within L := by exact .mono ‹_› ⟨by decide +kernel⟩) :
    Kept L r (flowEnter f s) :=
  h.noteFlow.noteJobs

theorem Kept.flowLeave {f} (h : Kept L r s) (hl : Foot.flowEnter.Within L := by exact .mono ‹_› ⟨by decide +kernel⟩) :
    Kept L r (flowLeave f s) :=
  h.noteFlow.noteJobs

@[irreducible] def Foot.addJob : Foot := Foot.noteJobs ||| Foot.noteFlow ||| Foot.part .disp

theorem Kept.addJob {prio flow classMask doneAddr tag payload dlist delay op} (h : Kept L r s)
    (hl : Foot.addJob.Within L := by exact .mono ‹_› ⟨by decide +kernel⟩) :
    Kept L r (addJob prio flow classMask doneAddr tag payload dlist delay op s) := by
  unfold Machine.addJob
  extract_lets _ _ _ _ _ s1 s2
  have k1 : Kept L r s1 := h.updJobs
  have k2 : Kept L r s2 := by
    unfold s2
    split
    exacts [k1.noteFlow, k1]
  exact k2.noteJobs

theorem Kept.enqueueJob {w} (h : Kept L r s) (hl : Foot.addJob.Within L := by exact .mono ‹_› ⟨by decide +kernel⟩) :
    Kept L r (enqueueJob w s) :=
  h.addJob

theorem Kept.enqueueJobs {fromCore a a'} (h : Kept L r s)
    (hl : Foot.addJob.Within L := by exact .mono ‹_› ⟨by decide +kernel⟩) :
    Kept L r (enqueueJobs fromCore a a' s).2.2 := by
  induction a generalizing a' s with
  | nil => exact h
  | cons w t ih =>
    unfold Machine.enqueueJobs
    split
    · exact h
    · exact ih h.enqueueJob

@[irreducible] def Foot.advanceList : Foot := Foot.part .disp ||| .of [DELAY_LATE_LATE_JOBS, DELAY_LATE_MAX_LATE] []

theorem Kept.advanceList {l lo hi a} (h : Kept L r s)
    (hl : Foot.advanceList.Within L := by exact .mono ‹_› ⟨by decide +kernel⟩) :
    Kept L r (advanceList l lo hi a s) := by
  induction a generalizing s with
  | zero => exact h
  | succ k ih =>
    unfold Machine.advanceList
    split
    · exact h
    · exact ih (.updJobs (.ite h h.incSat.wr))

theorem Kept.updWorker {w f} (h : Kept L r s) (hl : (Foot.part .disp).Within L := by exact .mono ‹_› ⟨by decide +kernel⟩) :
    Kept L r (updWorker w f s) :=
  h.updJobs

@[irreducible] def Foot.noteWorker : Foot := Foot.part .disp ||| .of [WK_CFG_STATE, WK_STATUS_IN_FLIGHT] []

theorem Kept.noteWorker {w} (h : Kept L r s) (hl : Foot.noteWorker.Within L := by exact .mono ‹_› ⟨by decide +kernel⟩) :
    Kept L r (noteWorker w s) :=
  h.wr.updWorker.andThen fun h => .ite h.wr h

@[irreducible] def Foot.finishJob : Foot := Foot.noteJobs ||| Foot.noteWorker ||| Foot.field WK_JOBS_JOBS.id

theorem Kept.finishJob {j status result} (h : Kept L r s)
    (hl : Foot.finishJob.Within L := by exact .mono ‹_› ⟨by decide +kernel⟩) :
    Kept L r (finishJob j status result s) :=
  h.updJobs.incWrap.noteWorker.noteJobs

@[irreducible] def Foot.timeoutJob : Foot := Foot.sequencerStep ||| Foot.finishJob ||| Foot.decideOp ||| .of
    [DP_COUNTS_JOB_TIMEOUTS, WK_COUNTS_TIMEOUTS] []

theorem Kept.timeoutJob {j injected} (h : Kept L r s)
    (hl : Foot.timeoutJob.Within L := by exact .mono ‹_› ⟨by decide +kernel⟩) :
    Kept L r (timeoutJob j injected s) := by
  unfold Machine.timeoutJob
  extract_lets s1 s2 s3
  have k1 : Kept L r s1 := h.incSat.incSat
  have k2 : Kept L r s2 := k1.raiseInj
  have k3 : Kept L r s3 := by
    unfold s3
    split
    · exact k2.decideOp
    · exact k2
  exact k3.finishJob

@[irreducible] def Foot.returnJobs : Foot := Foot.noteJobs ||| Foot.noteWorker ||| Foot.noteFlow ||| Foot.field
    WK_COUNTS_RETURNED.id

theorem Kept.returnJobs {w keep} (h : Kept L r s) (hl : Foot.returnJobs.Within L := by exact .mono ‹_› ⟨by decide +kernel⟩) :
    Kept L r (returnJobs w keep s) := by
  unfold Machine.returnJobs
  extract_lets _ _ _ s1 s2 s3
  have k1 : Kept L r s1 := h.updJobs
  have k2 : Kept L r s2 := k1.incSat
  have k3 : Kept L r s3 := by
    unfold s3
    refine k2.foldl fun _ t5 h4 => ?_
    split
    · exact h4.noteFlow
    · exact h4
  exact k3.noteWorker.noteJobs

@[irreducible] def Foot.workerLost : Foot := Foot.sequencerStep ||| Foot.returnJobs ||| Foot.field
    DP_COUNTS_B_WORKERS_LOST.id

theorem Kept.workerLost {w injected} (h : Kept L r s)
    (hl : Foot.workerLost.Within L := by exact .mono ‹_› ⟨by decide +kernel⟩) :
    Kept L r (workerLost w injected s) :=
  h.wr.returnJobs.incSat.raiseInj

theorem Kept.freeRegionWorkers {k} (h : Kept L r s)
    (hl : Foot.returnJobs.Within L := by exact .mono ‹_› ⟨by decide +kernel⟩) :
    Kept L r (freeRegionWorkers k s) :=
  h.foldl (fun _ _ h => .ite h.wr.returnJobs h)

@[irreducible] def Foot.doneMessage : Foot := Foot.finishJob ||| Foot.field DP_COUNTS_B_LATE_DONE.id

theorem Kept.doneMessage {sid entry gen status result} (h : Kept L r s)
    (hl : Foot.doneMessage.Within L := by exact .mono ‹_› ⟨by decide +kernel⟩) :
    Kept L r (doneMessage sid entry gen status result s) := by
  unfold Machine.doneMessage
  extract_lets
  split
  · exact h.finishJob
  · exact h.incSat

@[irreducible] def Foot.registerWorker : Foot := Foot.noteWorker ||| .of [WK_CFG_CLASS, WK_CFG_DEPTH_M1, WK_CFG_PORT,
    WK_CFG_ROUTER, WK_MAILBOX_ADDR, WK_STATUS_EPOCH, WK_STATUS_TIMEOUT_EXP] []

theorem Kept.registerWorker {sid w d} (h : Kept L r s)
    (hl : Foot.registerWorker.Within L := by exact .mono ‹_› ⟨by decide +kernel⟩) :
    Kept L r (registerWorker sid w d s).2 := by
  unfold Machine.registerWorker
  extract_lets c st bound
  refine .ite_snd h (.ite_snd h ?_)
  split
  · exact h
  · exact .ite_snd h (.ite_snd (.ite_snd (.pair h.wr.noteWorker) h) (.ite_snd (.pair h.wr.wr.wr)
      (.ite_snd h (.ite_snd h (.pair (Kept.wr h.wr.wr.wr.wr.wr.wr.wr).updWorker)))))

theorem Kept.enqueueHearth {o} (h : Kept L r s) (hl : Foot.addJob.Within L := by exact .mono ‹_› ⟨by decide +kernel⟩) :
    Kept L r (enqueueHearth o s) := by
  unfold Machine.enqueueHearth
  split
  · exact .ite h.addJob h
  · exact h

@[irreducible] def Foot.landJobs : Foot := Foot.addJob ||| Foot.landingFreed

theorem Kept.landJobs {x} (h : Kept L r s) (hl : Foot.landJobs.Within L := by exact .mono ‹_› ⟨by decide +kernel⟩) :
    Kept L r (landJobs x s) := by
  unfold Machine.landJobs
  split
  next s1 e2 =>
  have k1 : Kept L r s1 := .snd₂ h.enqueueJobs e2
  exact k1.answerNow

theorem Kept.serveDispatch {a} (h : Kept L r s) (hl : Foot.landJobs.Within L := by exact .mono ‹_› ⟨by decide +kernel⟩) :
    Kept L r (serveDispatch a s) := by
  induction a generalizing s with
  | zero => exact h
  | succ k ih =>
    unfold Machine.serveDispatch
    split
    · exact ih h.landJobs
    · split
      · exact ih h.enqueueHearth
      · split
        · exact h
        · exact .ite (ih h.sendPacket) h

theorem Kept.advanceUnscheduled (h : Kept L r s) (hl : Foot.advanceList.Within L := by exact .mono ‹_› ⟨by decide +kernel⟩) :
    Kept L r (advanceUnscheduled s) :=
  h.foldl (fun _ _ h => h.advanceList)

@[irreducible] def Foot.releaseMissed : Foot := Foot.advanceList ||| Foot.part .tick

theorem Kept.releaseMissed (h : Kept L r s) (hl : Foot.releaseMissed.Within L := by exact .mono ‹_› ⟨by decide +kernel⟩) :
    Kept L r (releaseMissed s) := by
  unfold Machine.releaseMissed
  split
  · exact h
  · exact .ite (h.foldl (fun _ _ h => h.advanceList)).updTick h

@[irreducible] def Foot.dispTick : Foot := Foot.landJobs ||| Foot.releaseMissed ||| .of [DP_COUNTS_B_UNSCHEDULED_ADVANCE,
    DP_COUNTS_ENQ_STALL_FRAMES] []

theorem Kept.dispTick {stalled} (h : Kept L r s) (hl : Foot.dispTick.Within L := by exact .mono ‹_› ⟨by decide +kernel⟩) :
    Kept L r (dispTick stalled s) :=
  (Kept.ite h.incSat h).updJobs.andThen fun h => (Kept.ite h
    h.incSat).releaseMissed.advanceUnscheduled.noteJobs.serveDispatch

@[irreducible] def Foot.workerFrame : Foot := Foot.part .disp ||| .of [WK_BUSY_F1, WK_BUSY_F16, WK_BUSY_F256] []

theorem Kept.workerFrame {w} (h : Kept L r s) (hl : Foot.workerFrame.Within L := by exact .mono ‹_› ⟨by decide +kernel⟩) :
    Kept L r (workerFrame w s) :=
  h.updWorker.wr.wr.wr

theorem Kept.workerFrames {cred n} (h : Kept L r s)
    (hl : Foot.workerFrame.Within L := by exact .mono ‹_› ⟨by decide +kernel⟩) :
    Kept L r (workerFrames cred n s) :=
  .ite (h.updDisp.foldl (fun _ _ h => h.workerFrame)) h.updDisp

/-! The footprints of Machine/ReelOps. -/

theorem Kept.updReel {n f} (h : Kept L r s) (hl : (Foot.part .reels).Within L := by exact .mono ‹_› ⟨by decide +kernel⟩) :
    Kept L r (updReel n f s) :=
  h.updReels

@[irreducible] def Foot.latchCause : Foot := Foot.part .reels ||| .of [RE_STATUS_CAUSE_SEEN, RE_STATUS_END_CAUSE] []

theorem Kept.latchCause {n c} (h : Kept L r s) (hl : Foot.latchCause.Within L := by exact .mono ‹_› ⟨by decide +kernel⟩) :
    Kept L r (latchCause n c s) :=
  h.setmbit.andThen fun h => .ite h.wr.updReel h

theorem Kept.addTaint {n vc} (h : Kept L r s) (hl : (Foot.part .reels).Within L := by exact .mono ‹_› ⟨by decide +kernel⟩) :
    Kept L r (addTaint n vc s) :=
  h.updReel

@[irreducible] def Foot.substitute : Foot := Foot.latchCause ||| Foot.field RE_STATUS_STATE.id

theorem Kept.substitute {n c vc} (h : Kept L r s) (hl : Foot.substitute.Within L := by exact .mono ‹_› ⟨by decide +kernel⟩) :
    Kept L r (substitute n c vc s) :=
  .ite h.latchCause.wr.updReel.addTaint (.ite h.latchCause.addTaint (.ite h.latchCause.updReel.addTaint h))

@[irreducible] def Foot.decideReel : Foot := Foot.decideOp ||| Foot.field ABORT_COUNT_COUNT.id

theorem Kept.decideReel {n code hdrField endTick word2} (h : Kept L r s)
    (hl : Foot.decideReel.Within L := by exact .mono ‹_› ⟨by decide +kernel⟩) :
    Kept L r (decideReel n code hdrField endTick word2 s) := by
  unfold Machine.decideReel
  extract_lets s1
  have k1 : Kept L r s1 := .ite h.incWrap h
  split
  · exact h
  · exact k1.decideOp.updOp

@[irreducible] def Foot.flushSplice : Foot := Foot.part .reels ||| Foot.field SPLICE_LEFTOVER_VECTORS.id

theorem Kept.flushSplice {n} (h : Kept L r s) (hl : Foot.flushSplice.Within L := by exact .mono ‹_› ⟨by decide +kernel⟩) :
    Kept L r (flushSplice n s) :=
  h.incWrap.updReel

@[irreducible] def Foot.setLevel : Foot := Foot.part .reels ||| Foot.field BUFFER_LEVEL_LEVEL.id

theorem Kept.setLevel {n v} (h : Kept L r s) (hl : Foot.setLevel.Within L := by exact .mono ‹_› ⟨by decide +kernel⟩) :
    Kept L r (setLevel n v s) :=
  h.wr.updReel

theorem Kept.dropBuffer {n} (h : Kept L r s) (hl : Foot.setLevel.Within L := by exact .mono ‹_› ⟨by decide +kernel⟩) :
    Kept L r (dropBuffer n s) :=
  h.updReel.setLevel

@[irreducible] def Foot.endUnstarted : Foot := Foot.decideReel ||| Foot.flushSplice ||| Foot.setLevel ||| .of
    [RE_STATUS_CAUSE_SEEN, RE_STATUS_END_CAUSE, RE_STATUS_STATE] []

theorem Kept.endUnstarted {n code c hdrField} (h : Kept L r s)
    (hl : Foot.endUnstarted.Within L := by exact .mono ‹_› ⟨by decide +kernel⟩) :
    Kept L r (endUnstarted n code c hdrField s) :=
  h.wr.wr.wr.decideReel.flushSplice.updReel.dropBuffer

@[irreducible] def Foot.takeHeader : Foot := Foot.part .reels ||| .of [MASK_TABLE_MASK, REEL_ID_NOW_REEL_ID] []

theorem Kept.takeHeader {n h'} (h : Kept L r s) (hl : Foot.takeHeader.Within L := by exact .mono ‹_› ⟨by decide +kernel⟩) :
    Kept L r (takeHeader n h' s) := by
  unfold Machine.takeHeader
  exact (h.wr.foldl (fun _ _ h => h.wr)).updReel

theorem Kept.freeLines {n} (h : Kept L r s) (hl : (Foot.part .reels).Within L := by exact .mono ‹_› ⟨by decide +kernel⟩) :
    Kept L r (freeLines n s) :=
  .ite h h.updReel

theorem Kept.noteLevel {n} (h : Kept L r s) (hl : Foot.setLevel.Within L := by exact .mono ‹_› ⟨by decide +kernel⟩) :
    Kept L r (noteLevel n s) :=
  h.freeLines.setLevel

theorem Kept.noteLevels (h : Kept L r s) (hl : Foot.setLevel.Within L := by exact .mono ‹_› ⟨by decide +kernel⟩) :
    Kept L r (noteLevels s) :=
  h.foldl (fun _ _ h => h.noteLevel)

@[irreducible] def Foot.reelTick : Foot := Foot.setLevel ||| Foot.field BUFFER_LEVEL_MIN_LEVEL.id

theorem Kept.reelTick {n} (h : Kept L r s) (hl : Foot.reelTick.Within L := by exact .mono ‹_› ⟨by decide +kernel⟩) :
    Kept L r (reelTick n s) := by
  unfold Machine.reelTick
  exact (Kept.ite h.noteLevel h).wr.updReel

@[irreducible] def Foot.lineFailed : Foot := Foot.sequencerStep ||| Foot.endUnstarted ||| Foot.field RE_STATUS_DICT_VALID.id

theorem Kept.lineFailed {n line tag c} (h : Kept L r s)
    (hl : Foot.lineFailed.Within L := by exact .mono ‹_› ⟨by decide +kernel⟩) :
    Kept L r (lineFailed n line tag c s) :=
  .ite h.wr.endUnstarted ((Kept.ite h h.updReel).substitute.andThen fun h => .ite h h.raise.updReel)

@[irreducible] def Foot.fetchLine : Foot := Foot.readLine ||| Foot.lineFailed ||| Foot.takeHeader ||| .of
    [DICT_ID_LOADED_DICT_ID, LINES_FETCHED_LINES] []

theorem Kept.fetchLine {n} (h : Kept L r s) (hl : Foot.fetchLine.Within L := by exact .mono ‹_› ⟨by decide +kernel⟩) :
    Kept L r (fetchLine n s) := by
  unfold Machine.fetchLine
  extract_lets
  split
  next s1 e2 =>
  have k1 : Kept L r s1 := .snd h.readLine e2
  extract_lets s3 s4 s5 s6 s7
  have k3 : Kept L r s3 := k1.incWrap
  have k4 : Kept L r s4 := k3.updReel
  have k5 : Kept L r s5 := .ite k4.updReel (.ite k4.updReel k4.updReel)
  have k6 : Kept L r s6 := .ite k5.lineFailed k5
  have k7 : Kept L r s7 := k6.updReel
  refine .ite k6 ?_
  refine .ite ?_ (.ite k7.wr.wr (.ite k6.endUnstarted k6))
  split
  · exact k6.endUnstarted
  · exact k6.takeHeader

theorem Kept.fetchLines {n param a} (h : Kept L r s)
    (hl : Foot.fetchLine.Within L := by exact .mono ‹_› ⟨by decide +kernel⟩) :
    Kept L r (fetchLines n param a s) := by
  induction a generalizing s with
  | zero => exact h
  | succ k ih =>
    unfold Machine.fetchLines
    exact .ite (ih h.freeLines.fetchLine) h.freeLines

@[irreducible] def Foot.formatFault : Foot := Foot.sequencerStep ||| Foot.field FORMAT_COUNT_COUNT.id

theorem Kept.formatFault {n injected} (h : Kept L r s)
    (hl : Foot.formatFault.Within L := by exact .mono ‹_› ⟨by decide +kernel⟩) :
    Kept L r (formatFault n injected s) :=
  h.incWrap.raiseInj

@[irreducible] def Foot.formatBreach : Foot := Foot.formatFault ||| Foot.substitute

theorem Kept.formatBreach {n injected} (h : Kept L r s)
    (hl : Foot.formatBreach.Within L := by exact .mono ‹_› ⟨by decide +kernel⟩) :
    Kept L r (formatBreach n injected s) :=
  h.formatFault.substitute

theorem Kept.formatEnd {n vc} (h : Kept L r s) (hl : Foot.formatBreach.Within L := by exact .mono ‹_› ⟨by decide +kernel⟩) :
    Kept L r (formatEnd n vc s) := by
  unfold Machine.formatEnd
  exact h.formatFault.latchCause.addTaint.andThen fun h => (Kept.ite h.wr h).updReel

@[irreducible] def Foot.emit : Foot := Foot.part .reels ||| .of [VCYCLE_VC, VECTORS_EMITTED_VECTORS] []

theorem Kept.emit {n maskSel vecs count} (h : Kept L r s)
    (hl : Foot.emit.Within L := by exact .mono ‹_› ⟨by decide +kernel⟩) :
    Kept L r (emit n maskSel vecs count s) := by
  unfold Machine.emit
  exact h.incWrap.wr.updReel

@[irreducible] def Foot.decodeOp : Foot := Foot.formatBreach ||| Foot.field FI_REEL_INJECT_INJ_FORMAT.id

theorem Kept.decodeOp {n opc run} (h : Kept L r s) (k : ∀ w t, Kept L r t → Kept L r (run w t))
    (hl : Foot.decodeOp.Within L := by exact .mono ‹_› ⟨by decide +kernel⟩) :
    Kept L r (decodeOp n opc run s) := by
  unfold Machine.decodeOp
  split
  · exact h
  · split
    next s1 e1 =>
    have k1 : Kept L r s1 := .snd h.takeInj e1
    exact .ite k1.formatBreach (.ite k1.formatEnd (.ite k1.formatBreach (.ite (.ite k1.formatEnd k1.formatBreach) (k _ _ k1))))

@[irreducible] def Foot.emitOp : Foot := Foot.formatBreach ||| Foot.emit ||| Foot.setLevel

theorem Kept.emitOp {n k rep perVec vec w} (h : Kept L r s)
    (hl : Foot.emitOp.Within L := by exact .mono ‹_› ⟨by decide +kernel⟩) :
    Kept L r (emitOp n k rep perVec vec w s) :=
  h.updReel.andThen fun h => (Kept.ite h h.emit).andThen fun h => .ite h.formatEnd (.ite h.updReel.noteLevel h.noteLevel)

theorem Kept.runDown {n c} (h : Kept L r s) (hl : Foot.substitute.Within L := by exact .mono ‹_› ⟨by decide +kernel⟩) :
    Kept L r (runDown n c s) :=
  h.latchCause.wr.andThen fun h => .ite h.updReel h

theorem Kept.stopReel {n c} (h : Kept L r s) (hl : Foot.endUnstarted.Within L := by exact .mono ‹_› ⟨by decide +kernel⟩) :
    Kept L r (stopReel n c s) :=
  .ite h.endUnstarted (.ite h.runDown h)

theorem Kept.missStart {a b} (h : Kept L r s) (hl : Foot.endUnstarted.Within L := by exact .mono ‹_› ⟨by decide +kernel⟩) :
    Kept L r (missStart a b s) :=
  h.foldl (fun _ _ h => .ite h.endUnstarted h)

/-! The footprints of Machine/CatchOps. -/

theorem Kept.updCatch {n f} (h : Kept L r s) (hl : (Foot.part .catches).Within L := by exact .mono ‹_› ⟨by decide +kernel⟩) :
    Kept L r (updCatch n f s) :=
  h.updCatches

theorem Kept.lineKeep {n} (h : Kept L r s) (hl : (Foot.part .catches).Within L := by exact .mono ‹_› ⟨by decide +kernel⟩) :
    Kept L r (lineKeep n s) := by
  unfold Machine.lineKeep
  extract_lets
  split
  · exact h.updCatch
  · exact h

theorem Kept.takeStamp (h : Kept L r s) (hl : (Foot.part .ev).Within L := by exact .mono ‹_› ⟨by decide +kernel⟩) :
    Kept L r (takeStamp s).2 := by
  dsimp only [Machine.takeStamp]
  exact h.updEv

@[irreducible] def Foot.noteFifo : Foot := Foot.part .catches ||| Foot.field FIFO_LEVEL_LEVEL.id

theorem Kept.noteFifo {n} (h : Kept L r s) (hl : Foot.noteFifo.Within L := by exact .mono ‹_› ⟨by decide +kernel⟩) :
    Kept L r (noteFifo n s) := by
  unfold Machine.noteFifo
  exact h.wr.updCatch

theorem Kept.pushRec {n r'} (h : Kept L r s) (hl : Foot.noteFifo.Within L := by exact .mono ‹_› ⟨by decide +kernel⟩) :
    Kept L r (pushRec n r' s) :=
  h.updCatch.noteFifo

@[irreducible] def Foot.recToFlow : Foot := Foot.flowEnter ||| Foot.part .catches ||| Foot.field RECORDS_MADE_RECORDS.id

theorem Kept.recToFlow {n r'} (h : Kept L r s) (hl : Foot.recToFlow.Within L := by exact .mono ‹_› ⟨by decide +kernel⟩) :
    Kept L r (recToFlow n r' s) :=
  h.incWrap.updCatch.flowEnter

theorem Kept.createDeferred {n a} (h : Kept L r s) (hl : Foot.noteFifo.Within L := by exact .mono ‹_› ⟨by decide +kernel⟩) :
    Kept L r (createDeferred n a s) := by
  induction a generalizing s with
  | zero => exact h
  | succ k ih =>
    unfold Machine.createDeferred
    split
    · exact h
    · exact .ite (ih h.updCatch.pushRec) h

theorem Kept.createRec {n r'} (h : Kept L r s) (hl : Foot.noteFifo.Within L := by exact .mono ‹_› ⟨by decide +kernel⟩) :
    Kept L r (createRec n r' s) :=
  h.updCatch.createDeferred

theorem Kept.mkRec {type vc lane flags body length} (h : Kept L r s)
    (hl : (Foot.part .ev).Within L := by exact .mono ‹_› ⟨by decide +kernel⟩) :
    Kept L r (mkRec type vc lane flags body length s).2 := by
  unfold Machine.mkRec
  split
  next s1 e2 =>
  have k1 : Kept L r s1 := .snd h.takeStamp e2
  exact k1

theorem Kept.closeRun {n r'} (h : Kept L r s) (hl : Foot.noteFifo.Within L := by exact .mono ‹_› ⟨by decide +kernel⟩) :
    Kept L r (closeRun n r' s) :=
  h.updCatch.pushRec

theorem Kept.closeLane {n i} (h : Kept L r s) (hl : Foot.noteFifo.Within L := by exact .mono ‹_› ⟨by decide +kernel⟩) :
    Kept L r (closeLane n i s) := by
  unfold Machine.closeLane
  split
  · exact h.closeRun
  · exact h

theorem Kept.setSeen {n b} (h : Kept L r s)
    (hl : (Foot.field CB_STATUS_SEEN.id).Within L := by exact .mono ‹_› ⟨by decide +kernel⟩) :
    Kept L r (setSeen n b s) :=
  h.setmbit

@[irreducible] def Foot.suppress : Foot := Foot.sequencerStep ||| Foot.part .catches ||| Foot.field CB_STATUS_SEEN.id |||
    Foot.field CB_STATUS_SUMMARY.id

theorem Kept.suppress {n i vc flag bp} (h : Kept L r s)
    (hl : Foot.suppress.Within L := by exact .mono ‹_› ⟨by decide +kernel⟩) :
    Kept L r (suppress n i vc flag bp s) := by
  unfold Machine.suppress
  extract_lets u entry s1
  have k1 : Kept L r s1 := .ite h.wr.setSeen.raise h
  split
  next s2 e =>
  have k2 : Kept L r s2 := by
    refine .snd ?_ e
    split
    · exact k1
    · split
      next e' => exact .snd k1.mkRec e'
  exact k2.updCatch

@[irreducible] def Foot.failWord : Foot := Foot.suppress ||| Foot.noteFifo

theorem Kept.failWord {n i vc mask flags bp} (h : Kept L r s)
    (hl : Foot.failWord.Within L := by exact .mono ‹_› ⟨by decide +kernel⟩) :
    Kept L r (failWord n i vc mask flags bp s) := by
  unfold Machine.failWord
  extract_lets open_
  have ho {t} (k : Kept L r t) : Kept L r (open_ t) := by
    have k1 := k.createDeferred (n := n) (a := (catch_ t n).deferred.length)
    refine .ite k1.suppress (.ite k1.suppress ?_)
    split
    next e => exact (Kept.snd k1.takeStamp e).updCatch
  split
  · exact .ite h.updCatch (ho h.closeRun)
  · exact ho h

@[irreducible] def Foot.burstStart : Foot := Foot.noteFifo ||| Foot.part .ev ||| .of [BURST_COUNT_BURSTS, BURST_FAILS_COUNT,
    CB_STATUS_BP, CB_STATUS_COMPARING, CB_STATUS_SEEN] []

theorem Kept.burstStart {n op} (h : Kept L r s) (hl : Foot.burstStart.Within L := by exact .mono ‹_› ⟨by decide +kernel⟩) :
    Kept L r (burstStart n op s) := by
  unfold Machine.burstStart
  extract_lets s1 s2 old
  have k2 : Kept L r s2 := h.incWrap.wr.wr.wr.clrInst
  split
  extract_lets b s3
  have k3 : Kept L r s3 := k2.updCatch
  split
  next e => exact (Kept.snd k3.mkRec e).createRec

theorem Kept.updBurst {n op f} (h : Kept L r s)
    (hl : (Foot.part .catches).Within L := by exact .mono ‹_› ⟨by decide +kernel⟩) :
    Kept L r (updBurst n op f s) :=
  h.updCatch

@[irreducible] def Foot.laneEnded : Foot := Foot.noteFifo ||| .of [CB_STATUS_COMPARING, CB_STATUS_DRAINING] []

theorem Kept.laneEnded {n i op} (h : Kept L r s) (hl : Foot.laneEnded.Within L := by exact .mono ‹_› ⟨by decide +kernel⟩) :
    Kept L r (laneEnded n i op s) := by
  unfold Machine.laneEnded
  split
  · exact h
  · exact .ite h (h.updBurst.andThen fun h => .ite (h.foldl (fun _ _ h => h.closeLane)).updBurst.setb.wr h)

@[irreducible] def Foot.delayFault : Foot := Foot.sequencerStep ||| Foot.part .tick ||| Foot.part .catches ||| Foot.field
    CB_STATUS_SEEN.id ||| .of [CB_STATUS_DELAY_BROKEN, DELAY_FAULT_COUNT_COUNT] []

theorem Kept.delayFault {n i good} (h : Kept L r s)
    (hl : Foot.delayFault.Within L := by exact .mono ‹_› ⟨by decide +kernel⟩) :
    Kept L r (delayFault n i good s) :=
  h.raiseInj.updCatch.markFrame.incWrap.setSeen.andThen fun h => .ite h.updCatch h.wr.updCatch

theorem Kept.strobes {n i} (h : Kept L r s) (hl : (Foot.part .catches).Within L := by exact .mono ‹_› ⟨by decide +kernel⟩) :
    Kept L r (strobes n i s) := by
  unfold Machine.strobes
  exact h.updCatch

@[irreducible] def Foot.takeFail : Foot := Foot.failWord ||| .of [BURST_FAILS_COUNT, FAIL_BITS_COUNT, FAIL_WORDS_COUNT] []

theorem Kept.takeFail {n i vc mask flags bp} (h : Kept L r s)
    (hl : Foot.takeFail.Within L := by exact .mono ‹_› ⟨by decide +kernel⟩) :
    Kept L r (takeFail n i vc mask flags bp s) :=
  h.strobes.updCatch.incWrap.incSat.incWrap.failWord

theorem Kept.tellNotice {n op endVc} (h : Kept L r s)
    (hl : (Foot.part .catches).Within L := by exact .mono ‹_› ⟨by decide +kernel⟩) :
    Kept L r (tellNotice n op endVc s) :=
  h.updCatch.updBurst

@[irreducible] def Foot.deliverNotice : Foot := Foot.sequencerStep ||| Foot.noteFifo ||| Foot.part .tick ||| .of
    [FIRST_TAINT_VC_VC, TAINT_COUNT_COUNT] []

theorem Kept.deliverNotice {n x} (h : Kept L r s)
    (hl : Foot.deliverNotice.Within L := by exact .mono ‹_› ⟨by decide +kernel⟩) :
    Kept L r (deliverNotice n x s) := by
  unfold Machine.deliverNotice
  extract_lets
  split
  next s1 e2 =>
  have k1 : Kept L r s1 := .snd h.mkRec e2
  exact k1.createRec.incWrap.wr.markFrame.andThen fun h => (Kept.ite h h.raise).tellNotice

@[irreducible] def Foot.taintNotice : Foot := Foot.deliverNotice ||| Foot.part .reels

theorem Kept.taintNotice {n} (h : Kept L r s) (hl : Foot.taintNotice.Within L := by exact .mono ‹_› ⟨by decide +kernel⟩) :
    Kept L r (taintNotice n s) :=
  .ite h.updReel h.updReel.deliverNotice

theorem Kept.payNotice {n} (h : Kept L r s) (hl : Foot.taintNotice.Within L := by exact .mono ‹_› ⟨by decide +kernel⟩) :
    Kept L r (payNotice s n) := by
  unfold Machine.payNotice
  split
  · exact h
  · exact h.updReel.deliverNotice

theorem Kept.noTaint {n} (h : Kept L r s) (hl : (Foot.part .catches).Within L := by exact .mono ‹_› ⟨by decide +kernel⟩) :
    Kept L r (noTaint n s) :=
  h.tellNotice

@[irreducible] def Foot.catchTick : Foot := Foot.recToFlow ||| Foot.noteFifo ||| .of [CB_STATUS_SUMMARY,
    CB_STATUS_SUMMARY_PENDING, FIFO_LEVEL_MAX_LEVEL, FRAME_RECORDS_CAUSES, FRAME_RECORDS_OPENED, SUMMARY_COUNT_COUNT] []

theorem Kept.catchTick {frame n} (h : Kept L r s) (hl : Foot.catchTick.Within L := by exact .mono ‹_› ⟨by decide +kernel⟩) :
    Kept L r (catchTick frame n s) := by
  unfold Machine.catchTick
  extract_lets _ s1 s2 s3 s4 s5
  have k1 : Kept L r s1 := h.wr.wr.wr
  have k2 : Kept L r s2 := k1.wr
  have k3 : Kept L r s3 := k2.incWrap
  have k4 : Kept L r s4 := by
    unfold s4
    split
    · exact k2
    · extract_lets
      split
      · exact k3.updCatch
      · exact .ite k3.recToFlow k3.wr.updCatch
  have k5 : Kept L r s5 := k4.updCatch
  exact k5.createDeferred

/-! The footprints of Machine/CatchFlush. -/

@[irreducible] def Foot.ringFilled : Foot := Foot.sequencerStep ||| Foot.part .catches

theorem Kept.ringFilled {n} (h : Kept L r s) (hl : Foot.ringFilled.Within L := by exact .mono ‹_› ⟨by decide +kernel⟩) :
    Kept L r (ringFilled n s) :=
  .ite h h.raise.updCatch

@[irreducible] def Foot.recordGone : Foot := Foot.flowEnter ||| Foot.releaseOp ||| Foot.noteFifo ||| Foot.field
    CB_STATUS_DRAINING.id

theorem Kept.recordGone {n r'} (h : Kept L r s) (hl : Foot.recordGone.Within L := by exact .mono ‹_› ⟨by decide +kernel⟩) :
    Kept L r (recordGone n r' s) := by
  unfold Machine.recordGone
  extract_lets s1 s2 _ _
  have k1 : Kept L r s1 := .ite h h.flowLeave
  have k2 : Kept L r s2 := k1.createDeferred
  split
  · exact (Kept.ite k2 k2.wr).releaseOp
  · exact k2

@[irreducible] def Foot.flushLine : Foot := Foot.writeLine ||| Foot.travel ||| Foot.recordGone ||| .of [CB_STATUS_RING_FULL,
    CM_WR_INDEX, WRITE_ERR_REFUSED_WRITES] []

theorem Kept.flushLine {n param last perr} (h : Kept L r s)
    (hl : Foot.flushLine.Within L := by exact .mono ‹_› ⟨by decide +kernel⟩) :
    Kept L r (flushLine n param last perr s).2 := by
  unfold Machine.flushLine
  extract_lets
  split
  · exact h
  · extract_lets
    refine .ite_snd h.ringFilled ?_
    refine .ite_snd h ?_
    refine .ite_snd h ?_
    split
    next s1 e2 =>
    have k1 : Kept L r s1 := .snd h.travel e2
    split
    next s3 e4 =>
    have k3 : Kept L r s3 := .snd (.ite_snd k1 k1.writeLine) e4
    exact .ite_snd (k3.wr.updCatch.setb.andThen fun h => (Kept.ite h.ringFilled h).recordGone.recordGone) k3.incSat.raise

theorem Kept.flushLines {n param last a a'} (h : Kept L r s)
    (hl : Foot.flushLine.Within L := by exact .mono ‹_› ⟨by decide +kernel⟩) :
    Kept L r (flushLines n param last a a' s).2.2 := by
  induction a generalizing a' s with
  | zero => exact h
  | succ k ih =>
    unfold Machine.flushLines
    split
    next e => exact ih (.snd h.flushLine e)
    next e => exact .snd h.flushLine e

theorem Kept.markWin {k complete} (h : Kept L r s)
    (hl : (Foot.part .tick).Within L := by exact .mono ‹_› ⟨by decide +kernel⟩) :
    Kept L r (markWin k complete s) :=
  h.updTick

@[irreducible] def Foot.flushOpen : Foot := Foot.flushLine ||| Foot.fetchTraffic ||| Foot.part .tick

theorem Kept.flushOpen {n last perr other} (h : Kept L r s)
    (hl : Foot.flushOpen.Within L := by exact .mono ‹_› ⟨by decide +kernel⟩) :
    Kept L r (flushOpen n last perr other s) := by
  unfold Machine.flushOpen
  extract_lets
  split
  · exact h
  · refine .ite h ?_
    split
    next s1 e2 =>
    have k1 : Kept L r s1 := .snd₂ h.flushLines e2
    exact k1.flushTraffic.updCatch.markWin

theorem Kept.closeFlush {n k} (h : Kept L r s) (hl : Foot.flushOpen.Within L := by exact .mono ‹_› ⟨by decide +kernel⟩) :
    Kept L r (closeFlush n k s) :=
  .ite h.flushOpen h

/-! The footprints of Machine/MgmtOps. -/

theorem Kept.updPad {f} (h : Kept L r s) (hl : (Foot.part .sp).Within L := by exact .mono ‹_› ⟨by decide +kernel⟩) :
    Kept L r (updPad f s) :=
  h.updSp

@[irreducible] def Foot.logDenial : Foot := .of [SP_DENY_LOG_CLASS, SP_DENY_LOG_KIND, SP_DENY_LOG_OFFSET,
    SP_DENY_LOG_STREAM_ID, SP_DENY_LOG_VALID] []

theorem Kept.logDenial {cls kind off sid} (h : Kept L r s)
    (hl : Foot.logDenial.Within L := by exact .mono ‹_› ⟨by decide +kernel⟩) :
    Kept L r (logDenial cls kind off sid s) :=
  h.wr.wr.wr.wr.wr

@[irreducible] def Foot.padLane : Foot := Foot.sequencerStep ||| Foot.part .sp ||| .of [SP_ECC_CORRECTED, SP_ECC_UNCORR,
    SP_INJECT_INJ_ECC1, SP_INJECT_INJ_ECC2] []

theorem Kept.padLane {lane} (h : Kept L r s) (hl : Foot.padLane.Within L := by exact .mono ‹_› ⟨by decide +kernel⟩) :
    Kept L r (padLane lane s).2 := by
  unfold Machine.padLane
  split
  next s1 e1 =>
  have k1 : Kept L r s1 := .snd h.takeInj e1
  split
  next s2 e2 =>
  have k2 : Kept L r s2 := .snd k1.takeInj e2
  exact .ite_snd k2 (.ite_snd (.pair k2.incSat.updPad) (.pair k2.incSat.raiseInj))

theorem Kept.padLanes {ls} (h : Kept L r s) (hl : Foot.padLane.Within L := by exact .mono ‹_› ⟨by decide +kernel⟩) :
    Kept L r (padLanes ls s).2 := by
  unfold Machine.padLanes
  refine h.foldl_snd fun _ t2 h1 => ?_
  split
  next s3 e4 =>
  have k3 : Kept L r s3 := .snd h1.padLane e4
  exact k3

@[irreducible] def Foot.padPerform : Foot := Foot.padLane ||| Foot.part .scratch

theorem Kept.padPerform {kind off n data} (h : Kept L r s)
    (hl : Foot.padPerform.Within L := by exact .mono ‹_› ⟨by decide +kernel⟩) :
    Kept L r (padPerform kind off n data s).2.2 := by
  unfold Machine.padPerform
  extract_lets zeros
  have hp (ls) : Kept L r (Machine.padLanes ls s).2 := h.padLanes
  generalize Machine.padLanes = padLanes at hp ⊢
  cases kind <;> dsimp only
  case write => exact (Kept.updScratch (hp _)).updPad
  case setBits => exact .ite_snd₂ (.triple (hp _)) (.triple (Kept.updScratch (hp _)))
  case clearBits => exact .ite_snd₂ (.triple (hp _)) (.triple (Kept.updScratch (hp _)))
  all_goals exact .ite_snd₂ (.triple (hp _)) (.triple (hp _))

@[irreducible] def Foot.padAccess : Foot := Foot.padPerform ||| Foot.logDenial ||| Foot.field SP_DENY_COUNT_DENIALS.id

theorem Kept.padAccess {cls sid addr n kind core0 data} (h : Kept L r s)
    (hl : Foot.padAccess.Within L := by exact .mono ‹_› ⟨by decide +kernel⟩) :
    Kept L r (padAccess cls sid addr n kind core0 data s).2 := by
  unfold Machine.padAccess
  extract_lets
  refine .ite_snd h ?_
  refine .ite_snd ?_ (.ite_snd (.ite h.logDenial h) h.incWrap.logDenial)
  split
  next s1 e2 =>
  have k1 : Kept L r s1 := .snd₂ h.padPerform e2
  exact k1

@[irreducible] def Foot.padServe : Foot := Foot.padAccess ||| Foot.landingFreed

theorem Kept.padServe {r'} (h : Kept L r s) (hl : Foot.padServe.Within L := by exact .mono ‹_› ⟨by decide +kernel⟩) :
    Kept L r (padServe r' s) := by
  unfold Machine.padServe
  extract_lets _ _ s1 _
  have k1 : Kept L r s1 := h.updPad
  split
  next s2 _ e3 _ =>
    have k2 : Kept L r s2 := .snd k1.padAccess e3
    exact k2.answerNow
  next s4 _ e5 _ =>
    have k4 : Kept L r s4 := .snd k1.padAccess e5
    exact k4.refuseXact
  next s6 e7 _ =>
    have k6 : Kept L r s6 := .snd k1.padAccess e7
    exact k6.updPad
  next s8 e9 _ =>
    have k8 : Kept L r s8 := .snd k1.padAccess e9
    exact k8.updPad

theorem Kept.servePad {a} (h : Kept L r s) (hl : Foot.padServe.Within L := by exact .mono ‹_› ⟨by decide +kernel⟩) :
    Kept L r (servePad a s) := by
  induction a generalizing s with
  | zero => exact h
  | succ k ih =>
    unfold Machine.servePad
    split
    · exact h
    · exact .ite (ih h.updPad.padServe) h

theorem Kept.padTick (h : Kept L r s) (hl : Foot.padServe.Within L := by exact .mono ‹_› ⟨by decide +kernel⟩) :
    Kept L r (padTick s) :=
  h.servePad

theorem Kept.padArrive {r'} (h : Kept L r s) (hl : Foot.padServe.Within L := by exact .mono ‹_› ⟨by decide +kernel⟩) :
    Kept L r (padArrive r' s) :=
  h.padTick.andThen fun h => .ite h.padServe h.updPad

@[irreducible] def Foot.keyWipe : Foot := Foot.part .enc ||| .of [EN_STATUS_REKEY_ACTIVE, EN_STATUS_REKEY_ID,
    EN_STATUS_RETIRE_QUEUE, EN_STATUS_SEALED_ANY, KEY_STATE_MODE, KEY_STATE_RANGES, KEY_STATE_STATE, KEY_STATE_TARGET,
    RANGE_STATUS_STATE, SLOT_STATE_CONFIG, SLOT_STATE_MEMORY, SLOT_STATE_REVOKE_BIT, SLOT_STATE_STATE] []

theorem Kept.keyWipe (h : Kept L r s) (hl : Foot.keyWipe.Within L := by exact .mono ‹_› ⟨by decide +kernel⟩) :
    Kept L r (keyWipe s) :=
  (h.clrAll.foldl (fun _ _ h => .ite h.wr h)).setb.updEngine

@[irreducible] def Foot.clearEmber : Foot := Foot.part .sp ||| .of [SP_STATUS_TESTING, SP_TEST_COUNTS_PASSES,
    SP_TEST_POS_BLOCK] [.scratch]

theorem Kept.clearEmber (h : Kept L r s) (hl : Foot.clearEmber.Within L := by exact .mono ‹_› ⟨by decide +kernel⟩) :
    Kept L r (clearEmber s) := by
  unfold Machine.clearEmber
  extract_lets s1 s2 s3
  have k2 : Kept L r s2 := (h.updScratch fun _ => swf_filter _ _ _).updPad
  have k3 : Kept L r s3 := k2.wr
  split
  · exact .ite k2 (Kept.ite k3.incSat k3).wr.updPad
  · exact k2

@[irreducible] def Foot.emberWipe : Foot := Foot.sequencerStep ||| Foot.keyWipe ||| Foot.clearEmber ||| .of
    [SP_STATUS_WIPING, SP_WIPE_LAST_CAUSE, SP_WIPE_TICK_TICK, SP_WIPE_WIPES] []

theorem Kept.emberWipe {cause} (h : Kept L r s) (hl : Foot.emberWipe.Within L := by exact .mono ‹_› ⟨by decide +kernel⟩) :
    Kept L r (emberWipe cause s) :=
  .ite h (h.clearEmber.keyWipe.andThen fun h => .ite h h.incSat.wr.wr.wr.raise)

theorem Kept.setCore {c st} (h : Kept L r s)
    (hl : (Foot.field HM_STATUS_CORE_STATE.id).Within L := by exact .mono ‹_› ⟨by decide +kernel⟩) :
    Kept L r (setCore c st s) :=
  h.wr

theorem Kept.incByte {f b} (h : Kept L r s) (hf : (Foot.field f.id).Within L := by exact .mono ‹_› ⟨by decide +kernel⟩) :
    Kept L r (incByte f b s) :=
  .ite h (h.wr hf)

theorem Kept.updBt {f} (h : Kept L r s) (hl : (Foot.part .boot).Within L := by exact .mono ‹_› ⟨by decide +kernel⟩) :
    Kept L r (updBt f s) :=
  h.updBoot

@[irreducible] def Foot.keepPrefer : Foot := Foot.part .boot ||| Foot.part .flash

theorem Kept.keepPrefer (h : Kept L r s) (hl : Foot.keepPrefer.Within L := by exact .mono ‹_› ⟨by decide +kernel⟩) :
    Kept L r (keepPrefer s) :=
  .ite h (h.updFlash fun _ hm => swf_memWrBytes _ _ _ (swf_memWrBytes _ _ _ hm)).updBt

@[irreducible] def Foot.fwRevert : Foot := Foot.sequencerStep ||| Foot.keepPrefer ||| .of [FW_COUNTS_REVERTS,
    FW_STATUS_STATE, FW_STATUS_VALID_A, FW_STATUS_VALID_B] []

theorem Kept.fwRevert {injected} (h : Kept L r s) (hl : Foot.fwRevert.Within L := by exact .mono ‹_› ⟨by decide +kernel⟩) :
    Kept L r (fwRevert injected s) := by
  unfold Machine.fwRevert
  extract_lets n left s1 s2
  have k1 : Kept L r s1 := h.wr.updBt
  have k2 : Kept L r s2 := Kept.incSat <| k1.wr (by split <;> exact hl.mono ⟨by decide +kernel⟩)
  exact k2.raiseInj.keepPrefer

theorem Kept.fwWatch {c injected} (h : Kept L r s) (hl : Foot.fwRevert.Within L := by exact .mono ‹_› ⟨by decide +kernel⟩) :
    Kept L r (fwWatch c injected s) :=
  .ite h.fwRevert h

@[irreducible] def Foot.restartCore : Foot := Foot.fwRevert ||| Foot.returnJobs ||| Foot.part .sp ||| Foot.field
    HM_STATUS_CORE_STATE.id ||| Foot.field WD_COUNTS_RESTARTS.id

theorem Kept.restartCore {c injected} (h : Kept L r s)
    (hl : Foot.restartCore.Within L := by exact .mono ‹_› ⟨by decide +kernel⟩) :
    Kept L r (restartCore c injected s) :=
  h.updPad.setCore.incByte.raiseInj.returnJobs.fwWatch.andThen fun h => .ite h.setCore.raiseInj.wr.noteWorker h

theorem Kept.watchdogTick (h : Kept L r s) (hl : (Foot.part .sp).Within L := by exact .mono ‹_› ⟨by decide +kernel⟩) :
    Kept L r (watchdogTick s) :=
  h.foldl (fun _ _ h => .ite h h.updPad)

/-! The footprints of Machine/AlignOps. -/

theorem Kept.updTck {f} (h : Kept L r s) (hl : (Foot.part .tick).Within L := by exact .mono ‹_› ⟨by decide +kernel⟩) :
    Kept L r (updTck f s) :=
  h.updTick

@[irreducible] def Foot.writeLog : Foot := Foot.part .tick ||| .of [FRAME_LOG_ENTRY, LOG_STATUS_LOG_LOST,
    LOG_STATUS_WR_INDEX] []

theorem Kept.writeLog {tick word1} (h : Kept L r s) (hl : Foot.writeLog.Within L := by exact .mono ‹_› ⟨by decide +kernel⟩) :
    Kept L r (writeLog tick word1 s) :=
  (Kept.ite h.incSat h).wr.incWrap.updTck

@[irreducible] def Foot.logGap : Foot := Foot.writeLog ||| Foot.field UNCREDITED_COUNT_GAP_TOTAL.id

theorem Kept.logGap {first n} (h : Kept L r s) (hl : Foot.logGap.Within L := by exact .mono ‹_› ⟨by decide +kernel⟩) :
    Kept L r (logGap first n s) :=
  .ite h h.writeLog.incWrap

theorem Kept.endHaltRun (h : Kept L r s) (hl : Foot.logGap.Within L := by exact .mono ‹_› ⟨by decide +kernel⟩) :
    Kept L r (endHaltRun s) := by
  unfold Machine.endHaltRun
  split
  · exact h
  · exact h.logGap.updTck

@[irreducible] def Foot.noteUnaligned : Foot := Foot.sequencerStep ||| Foot.part .tick

theorem Kept.noteUnaligned {injected} (h : Kept L r s)
    (hl : Foot.noteUnaligned.Within L := by exact .mono ‹_› ⟨by decide +kernel⟩) :
    Kept L r (noteUnaligned injected s) :=
  .ite (h.updTck.andThen fun h => .ite h h.raiseInj) h

@[irreducible] def Foot.setAlign : Foot := Foot.noteUnaligned ||| .of [ALIGN_CTRL_ARM, ALIGN_STATUS_STATE] []

theorem Kept.setAlign {st injected} (h : Kept L r s)
    (hl : Foot.setAlign.Within L := by exact .mono ‹_› ⟨by decide +kernel⟩) :
    Kept L r (setAlign st injected s) :=
  h.wr.andThen fun h => (Kept.ite h.wr h).updTck.noteUnaligned

@[irreducible] def Foot.judgeWindow : Foot := Foot.sequencerStep ||| Foot.part .tick ||| .of [FI_TICK_INJECT_INJ_OVERRUN,
    OVERRUN_COUNT_OVERRUNS] []

theorem Kept.judgeWindow {w} (h : Kept L r s) (hl : Foot.judgeWindow.Within L := by exact .mono ‹_› ⟨by decide +kernel⟩) :
    Kept L r (judgeWindow w s) := by
  unfold Machine.judgeWindow
  extract_lets s1
  have k1 : Kept L r s1 := h.updTck
  split
  next s2 e3 =>
  have k2 : Kept L r s2 := .snd k1.takeInj e3
  exact .ite k2 (k2.incWrap.andThen fun h => (Kept.ite h.countEvent.updEv.updTck.comparatorHits h).updTck)

theorem Kept.endAction {w} (h : Kept L r s) (hl : Foot.flushOpen.Within L := by exact .mono ‹_› ⟨by decide +kernel⟩) :
    Kept L r (endAction w s).2 :=
  .ite h.closeFlush (.ite h.holdSlots h)

@[irreducible] def Foot.judgeAll : Foot := Foot.flushOpen ||| Foot.judgeWindow

theorem Kept.judgeAll (h : Kept L r s) (hl : Foot.judgeAll.Within L := by exact .mono ‹_› ⟨by decide +kernel⟩) :
    Kept L r (judgeAll s) := by
  unfold Machine.judgeAll
  refine h.foldl fun _ t2 h1 => ?_
  split
  next s3 e4 =>
  have k3 : Kept L r s3 := .snd h1.endAction e4
  exact k3.judgeWindow

@[irreducible] def Foot.degradeAlign : Foot := Foot.judgeAll ||| Foot.setAlign

theorem Kept.degradeAlign (h : Kept L r s) (hl : Foot.degradeAlign.Within L := by exact .mono ‹_› ⟨by decide +kernel⟩) :
    Kept L r (degradeAlign s) :=
  h.judgeAll.setAlign.updTck

theorem Kept.restoreAlign (h : Kept L r s) (hl : Foot.setAlign.Within L := by exact .mono ‹_› ⟨by decide +kernel⟩) :
    Kept L r (restoreAlign s) :=
  .ite h (.ite h.setAlign.raise h.setAlign.updTck)

@[irreducible] def Foot.missMark : Foot := Foot.setAlign ||| .of [ALIGN_STATUS_IN_WINDOW, SYNC_MISS_COUNT_MISSES] []

theorem Kept.missMark {injected} (h : Kept L r s) (hl : Foot.missMark.Within L := by exact .mono ‹_› ⟨by decide +kernel⟩) :
    Kept L r (missMark injected s) :=
  h.incWrap.wr.updTck.andThen fun h => .ite (.ite h.setAlign.raiseInj h.updTck.setAlign) h

@[irreducible] def Foot.judgeArm : Foot := Foot.setAlign ||| Foot.field ALIGN_STATUS_ARM_REFUSED.id

theorem Kept.judgeArm (h : Kept L r s) (hl : Foot.judgeArm.Within L := by exact .mono ‹_› ⟨by decide +kernel⟩) :
    Kept L r (judgeArm s) :=
  h.wr.wr.andThen fun h1 => .ite h.wr (.ite h1 (.ite h1 h.wr.setAlign.updTck))

@[irreducible] def Foot.epochCheck : Foot := Foot.setAlign ||| .of [ALIGN_STATUS_EPOCH_DONE, ALIGN_STATUS_EPOCH_MISMATCH] []

theorem Kept.epochCheck {count} (h : Kept L r s) (hl : Foot.epochCheck.Within L := by exact .mono ‹_› ⟨by decide +kernel⟩) :
    Kept L r (epochCheck count s) :=
  h.wr.andThen fun h => .ite h.wr (h.wr.raise.andThen fun h => .ite h.setAlign h)

theorem Kept.countClose {close} (h : Kept L r s) (hl : Foot.setAlign.Within L := by exact .mono ‹_› ⟨by decide +kernel⟩) :
    Kept L r (countClose close s) :=
  .ite h.updTck (.ite h.setAlign h.updTck)

theorem Kept.trimPhase {err} (h : Kept L r s) (hl : (Foot.part .tick).Within L := by exact .mono ‹_› ⟨by decide +kernel⟩) :
    Kept L r (trimPhase err s) :=
  h.updTck

/-! The footprints of Machine/LaneOps. -/

theorem Kept.updLane {g i f} (h : Kept L r s) (hl : (Foot.part .lanes).Within L := by exact .mono ‹_› ⟨by decide +kernel⟩) :
    Kept L r (updLane g i f s) :=
  h.updLanes

theorem Kept.updGroup {g f} (h : Kept L r s) (hl : (Foot.part .groups).Within L := by exact .mono ‹_› ⟨by decide +kernel⟩) :
    Kept L r (updGroup g f s) :=
  h.updGroups

theorem Kept.noteLaneLine {g i} (h : Kept L r s)
    (hl : (Foot.part .lanes).Within L := by exact .mono ‹_› ⟨by decide +kernel⟩) :
    Kept L r (noteLaneLine g s i) :=
  .ite h h.updLane

theorem Kept.noteLine {g} (h : Kept L r s) (hl : (Foot.part .lanes).Within L := by exact .mono ‹_› ⟨by decide +kernel⟩) :
    Kept L r (noteLine g s) :=
  h.foldl (fun _ _ h => h.noteLaneLine)

theorem Kept.updLink {l f} (h : Kept L r s) (hl : (Foot.part .mesh).Within L := by exact .mono ‹_› ⟨by decide +kernel⟩) :
    Kept L r (updLink l f s) :=
  h.updMesh

@[irreducible] def Foot.noteLink : Foot := Foot.part .mesh ||| Foot.field LK_STATUS_STATE.id

theorem Kept.noteLink {g j l} (h : Kept L r s) (hl : Foot.noteLink.Within L := by exact .mono ‹_› ⟨by decide +kernel⟩) :
    Kept L r (noteLink g j l s) := by
  unfold Machine.noteLink
  extract_lets
  split
  · exact .ite h.wr.updMesh h
  · exact .ite h h.wr.updMesh
  · exact h.updLink
  · exact h

theorem Kept.noteLinks {g} (h : Kept L r s) (hl : Foot.noteLink.Within L := by exact .mono ‹_› ⟨by decide +kernel⟩) :
    Kept L r (noteLinks g s) :=
  h.foldl (fun _ _ h => h.noteLink)

theorem Kept.loseDeskew {g lanes} (h : Kept L r s)
    (hl : (Foot.part .lanes).Within L := by exact .mono ‹_› ⟨by decide +kernel⟩) :
    Kept L r (loseDeskew g lanes s) :=
  h.foldl (fun _ _ h => h.updLane)

@[irreducible] def Foot.refreshReady : Foot := Foot.noteLink ||| Foot.field LG_STATUS_READY.id

theorem Kept.refreshReady {g} (h : Kept L r s) (hl : Foot.refreshReady.Within L := by exact .mono ‹_› ⟨by decide +kernel⟩) :
    Kept L r (refreshReady g s) :=
  h.wr.noteLinks

@[irreducible] def Foot.loseMarkers : Foot := Foot.sequencerStep ||| Foot.refreshReady ||| Foot.part .lanes ||| Foot.field
    LN_STATUS_MARKER_LOCK.id

theorem Kept.loseMarkers {g i injected} (h : Kept L r s)
    (hl : Foot.loseMarkers.Within L := by exact .mono ‹_› ⟨by decide +kernel⟩) :
    Kept L r (loseMarkers g i injected s) :=
  .ite h.wr.updLane.refreshReady.raiseInj h

@[irreducible] def Foot.loseLock : Foot := Foot.loseMarkers ||| .of [LN_LOCK_LOCK_LOSSES, LN_STATUS_BLOCK_LOCK] []

theorem Kept.loseLock {g i injected} (h : Kept L r s)
    (hl : Foot.loseLock.Within L := by exact .mono ‹_› ⟨by decide +kernel⟩) :
    Kept L r (loseLock g i injected s) :=
  .ite h.wr.incSat.raiseInj.loseMarkers h

@[irreducible] def Foot.stopPrbs : Foot := .of [LN_PRBS_CTRL_RX_EN, LN_PRBS_CTRL_RX_LOCK, LN_PRBS_CTRL_TX_EN] []

theorem Kept.stopPrbs {g} (h : Kept L r s) (hl : Foot.stopPrbs.Within L := by exact .mono ‹_› ⟨by decide +kernel⟩) :
    Kept L r (stopPrbs g s) :=
  h.foldl (fun _ _ h => .ite h h.wr.wr.wr)

@[irreducible] def Foot.endScan : Foot := Foot.part .drawn ||| .of [LN_EYE_CTRL_BUSY, LN_EYE_RESULT_ERRORS] []

theorem Kept.endScan {g i} (h : Kept L r s) (hl : Foot.endScan.Within L := by exact .mono ‹_› ⟨by decide +kernel⟩) :
    Kept L r (endScan g i s) := by
  unfold Machine.endScan
  refine .ite ?_ h
  split
  next s1 e2 =>
  have k1 : Kept L r s1 := .snd h.draw e2
  exact k1.wr.wr

@[irreducible] def Foot.bankLane : Foot := Foot.endScan ||| Foot.part .lanes ||| .of [LN_PRBS_CTRL_RX_LOCK, LN_SKEW_SKEW,
    LN_STATUS_BLOCK_LOCK, LN_STATUS_ELASTIC, LN_STATUS_MARKER_LOCK, LN_STATUS_STATE] []

theorem Kept.bankLane {g i} (h : Kept L r s) (hl : Foot.bankLane.Within L := by exact .mono ‹_› ⟨by decide +kernel⟩) :
    Kept L r (bankLane g i s) := by
  unfold Machine.bankLane
  exact (h.foldFields fun _ _ hf k => k.wr hf).updLane.endScan

theorem Kept.updPll {d f} (h : Kept L r s) (hl : (Foot.part .clk).Within L := by exact .mono ‹_› ⟨by decide +kernel⟩) :
    Kept L r (updPll d f s) :=
  h.updClk

@[irreducible] def Foot.bankGroup : Foot := Foot.bankLane ||| Foot.refreshReady ||| Foot.part .groups ||| Foot.part .clk |||
    Foot.field LG_STATUS_PLL_STATE.id

theorem Kept.bankGroup {g} (h : Kept L r s) (hl : Foot.bankGroup.Within L := by exact .mono ‹_› ⟨by decide +kernel⟩) :
    Kept L r (bankGroup g s) :=
  (h.foldl (fun _ _ h => h.bankLane)).wr.updPll.updGroup.refreshReady

@[irreducible] def Foot.trainTimeout : Foot := Foot.sequencerStep ||| Foot.part .groups

theorem Kept.trainTimeout {g injected} (h : Kept L r s)
    (hl : Foot.trainTimeout.Within L := by exact .mono ‹_› ⟨by decide +kernel⟩) :
    Kept L r (trainTimeout g injected s) :=
  h.raiseInj.updGroup

@[irreducible] def Foot.trainGroup : Foot := Foot.trainTimeout ||| Foot.refreshReady ||| Foot.part .lanes ||| .of
    [FI_MISC_INJECT_INJ_TRAIN_TIMEOUT, LN_STATUS_STATE] []

theorem Kept.trainGroup {g} (h : Kept L r s) (hl : Foot.trainGroup.Within L := by exact .mono ‹_› ⟨by decide +kernel⟩) :
    Kept L r (trainGroup g s) := by
  unfold Machine.trainGroup
  extract_lets s1 s2
  have k1 : Kept L r s1 := h.foldl (fun _ _ h => h.wr.updLane)
  have k2 : Kept L r s2 := k1.refreshReady.noteLine.updGroup
  split
  next s3 e4 =>
  have k3 : Kept L r s3 := .snd k2.takeInj e4
  exact .ite k3.trainTimeout k3

@[irreducible] def Foot.activateGroup : Foot := Foot.trainGroup ||| Foot.part .clk ||| Foot.field LG_STATUS_PLL_STATE.id

theorem Kept.activateGroup {g} (h : Kept L r s)
    (hl : Foot.activateGroup.Within L := by exact .mono ‹_› ⟨by decide +kernel⟩) :
    Kept L r (activateGroup g s) := by
  unfold Machine.activateGroup
  exact h.wr.updPll.trainGroup

@[irreducible] def Foot.noteWords : Foot := .of [LN_STATUS_SPARE, LN_STATUS_WORD] []

theorem Kept.noteWords {g} (h : Kept L r s) (hl : Foot.noteWords.Within L := by exact .mono ‹_› ⟨by decide +kernel⟩) :
    Kept L r (noteWords g s) :=
  h.foldl (fun _ _ h => h.setb.wr)

theorem Kept.noteLaneNominal {g} (h : Kept L r s)
    (hl : (Foot.field MON_NOMINAL_KHZ.id).Within L := by exact .mono ‹_› ⟨by decide +kernel⟩) :
    Kept L r (noteLaneNominal g s) :=
  h.wr.wr

@[irreducible] def Foot.noteLinkRegs : Foot := Foot.part .mesh ||| .of [LK_SEQ_ACK_RX, LK_STATUS_WIDTH] [] ||| Foot.of
    linkRegs []

theorem Kept.noteLinkRegs {g} (h : Kept L r s) (hl : Foot.noteLinkRegs.Within L := by exact .mono ‹_› ⟨by decide +kernel⟩) :
    Kept L r (noteLinkRegs g s) :=
  h.foldl fun _ _ h => .ite (Kept.ite h.wr h).wr (h.foldFields fun _ _ hf k => k.wr hf).updLink

@[irreducible] def Foot.applyLaneRole : Foot := Foot.activateGroup ||| Foot.bankGroup ||| Foot.noteLinkRegs ||| Foot.stopPrbs
    ||| Foot.noteWords ||| Foot.field MON_NOMINAL_KHZ.id ||| .of [LG_PLL_WORD1, LG_ROLE_WORD0] []

theorem Kept.applyLaneRole {g w0 w1} (h : Kept L r s)
    (hl : Foot.applyLaneRole.Within L := by exact .mono ‹_› ⟨by decide +kernel⟩) :
    Kept L r (applyLaneRole g w0 w1 s) :=
  h.updGroup.wr.wr.noteWords.noteLaneNominal.noteLinkRegs.stopPrbs.andThen fun h => .ite h (.ite (h.bankGroup.andThen fun h
    => .ite h h.activateGroup) (.ite h.loseDeskew.refreshReady.noteLine h.refreshReady.noteLine))

@[irreducible] def Foot.goActive : Foot := Foot.part .lanes ||| Foot.field LN_STATUS_STATE.id

theorem Kept.goActive {g i} (h : Kept L r s) (hl : Foot.goActive.Within L := by exact .mono ‹_› ⟨by decide +kernel⟩) :
    Kept L r (goActive g i s) :=
  h.wr.updLane.noteLaneLine

@[irreducible] def Foot.quietLanes : Foot := Foot.refreshReady ||| Foot.goActive

theorem Kept.quietLanes {g lanes quiet} (h : Kept L r s)
    (hl : Foot.quietLanes.Within L := by exact .mono ‹_› ⟨by decide +kernel⟩) :
    Kept L r (quietLanes g lanes quiet s) :=
  (h.foldl (fun _ _ h => .ite h.wr.noteLaneLine (.ite h.goActive h))).refreshReady

@[irreducible] def Foot.squelch : Foot := Foot.loseLock ||| Foot.substitute ||| Foot.field LG_STATUS_PLL_STATE.id

theorem Kept.squelch {g} (h : Kept L r s) (hl : Foot.squelch.Within L := by exact .mono ‹_› ⟨by decide +kernel⟩) :
    Kept L r (squelch g s) :=
  (h.wr.raise.noteLine.foldl (fun _ _ h => h.loseLock)).andThen fun h => .ite (.ite h.substitute h) h

/-! The footprints of Machine/RegionOps. -/

theorem Kept.updRegion {k f} (h : Kept L r s)
    (hl : (Foot.part .regions).Within L := by exact .mono ‹_› ⟨by decide +kernel⟩) :
    Kept L r (updRegion k f s) :=
  h.updRegions

theorem Kept.refreshStale {r'} (h : Kept L r s)
    (hl : (Foot.field RG_STATUS_EDGE_STALE.id).Within L := by exact .mono ‹_› ⟨by decide +kernel⟩) :
    Kept L r (refreshStale r' s) :=
  .ite h h.wr

@[irreducible] def Foot.refreshEdges : Foot := Foot.part .regions ||| Foot.field RG_STATUS_EDGE_STALE.id

theorem Kept.refreshEdges {k} (h : Kept L r s) (hl : Foot.refreshEdges.Within L := by exact .mono ‹_› ⟨by decide +kernel⟩) :
    Kept L r (refreshEdges k s) :=
  (Kept.ite h h.updRegion).foldl (fun _ _ h => h.refreshStale)

theorem Kept.refreshSuspect {r'} (h : Kept L r s)
    (hl : (Foot.field RG_STATUS_EDGE_SUSPECT.id).Within L := by exact .mono ‹_› ⟨by decide +kernel⟩) :
    Kept L r (refreshSuspect r' s) :=
  h.wr

@[irreducible] def Foot.setPstate : Foot := Foot.refreshEdges ||| .of [PW_BOOST_REGIONS, PW_DAMPED_REGIONS, PW_DARK_REGIONS,
    RG_BIAS_MEASURED, RG_BIAS_TARGET, RG_STATUS_PSTATE] []

theorem Kept.setPstate {k st} (h : Kept L r s) (hl : Foot.setPstate.Within L := by exact .mono ‹_› ⟨by decide +kernel⟩) :
    Kept L r (setPstate k st s) := by
  unfold Machine.setPstate
  exact h.wr.setmbit.setmbit.setmbit.andThen fun h => (Kept.ite h.wr h).andThen fun h => (Kept.ite h.wr h).refreshEdges

@[irreducible] def Foot.setConfigured : Foot := .of [CFG_LOADED_REGIONS, RG_STATUS_CONFIGURED] []

theorem Kept.setConfigured {k b} (h : Kept L r s)
    (hl : Foot.setConfigured.Within L := by exact .mono ‹_› ⟨by decide +kernel⟩) :
    Kept L r (setConfigured k b s) :=
  h.setb.setmbit

@[irreducible] def Foot.setUncorrectable : Foot := .of [RG_STATUS_FRAME_UNCORRECTABLE, SCRUB_UNC_REGIONS_REGIONS] []

theorem Kept.setUncorrectable {k b} (h : Kept L r s)
    (hl : Foot.setUncorrectable.Within L := by exact .mono ‹_› ⟨by decide +kernel⟩) :
    Kept L r (setUncorrectable k b s) :=
  h.setb.setmbit

@[irreducible] def Foot.failGroup : Foot := Foot.sequencerStep ||| .of [RG_FAULT_COUNT_BCLK_MISMATCH, RG_MISMATCH_EDGE,
    RG_MISMATCH_GROUP] []

theorem Kept.failGroup {r' g injected} (h : Kept L r s)
    (hl : Foot.failGroup.Within L := by exact .mono ‹_› ⟨by decide +kernel⟩) :
    Kept L r (failGroup r' g injected s) :=
  h.wr.wr.incSat.raiseInj

theorem Kept.refreshLines {k} (h : Kept L r s)
    (hl : (Foot.field RG_CLK_STATUS_RUNNING.id).Within L := by exact .mono ‹_› ⟨by decide +kernel⟩) :
    Kept L r (refreshLines k s) :=
  .ite h.wr h.wr

@[irreducible] def Foot.boundaryCheck : Foot := Foot.failGroup ||| Foot.part .regions ||| Foot.field RG_STATUS_EDGE_STALE.id
    ||| Foot.field RG_INJECT_INJ_BCLK.id

theorem Kept.boundaryCheck (h : Kept L r s) (hl : Foot.boundaryCheck.Within L := by exact .mono ‹_› ⟨by decide +kernel⟩) :
    Kept L r (boundaryCheck s) := by
  unfold Machine.boundaryCheck
  refine h.foldl fun _ t2 h1 => ?_
  extract_lets
  split
  next s3 e4 =>
  have k3 : Kept L r s3 := .snd h1.takeInj e4
  exact .ite k3 (k3.updRegion.foldl (fun _ _ h => h.failGroup)).refreshStale

theorem Kept.clrSlices {k f} (h : Kept L r s) (hf : (Foot.field f.id).Within L := by exact .mono ‹_› ⟨by decide +kernel⟩) :
    Kept L r (clrSlices k s f) := by
  refine h.updRegs fun g k i j => ?_
  have ne : g.id ≠ f.id := fun e => k.field (e ▸ hf)
  simp only [State.rd, updRegs_regs, sget_sput_ne _ _ _ ne]

@[irreducible] def Foot.idleSlices : Foot := .of [SL_ITER_ITER, SL_PTR_PC, SL_PTR_P_W, SL_PTR_P_X, SL_PTR_P_Y,
    SL_STATUS_STATE] [.slices]

theorem Kept.idleSlices {k} (h : Kept L r s) (hl : Foot.idleSlices.Within L := by exact .mono ‹_› ⟨by decide +kernel⟩) :
    Kept L r (idleSlices k s) := by
  unfold Machine.idleSlices
  exact Kept.updSlices (h.foldFields fun _ _ hf k => k.clrSlices hf)

@[irreducible] def Foot.regionReset : Foot := Foot.idleSlices ||| Foot.part .regions ||| Foot.of regionFields [] ||| Foot.of
    sliceFields []

theorem Kept.regionReset {k} (h : Kept L r s) (hl : Foot.regionReset.Within L := by exact .mono ‹_› ⟨by decide +kernel⟩) :
    Kept L r (regionReset k s) := by
  unfold Machine.regionReset
  exact (h.clrAllInst.foldFields fun _ _ hf k => k.clrSlices hf).idleSlices.updRegion

theorem Kept.refreshAllLines (h : Kept L r s)
    (hl : (Foot.field RG_CLK_STATUS_RUNNING.id).Within L := by exact .mono ‹_› ⟨by decide +kernel⟩) :
    Kept L r (refreshAllLines s) :=
  h.foldl (fun _ _ h => h.refreshLines)

@[irreducible] def Foot.holdRegion : Foot := Foot.regionReset ||| Foot.refreshEdges ||| Foot.field RG_CLK_STATUS_RUNNING.id

theorem Kept.holdRegion {k} (h : Kept L r s) (hl : Foot.holdRegion.Within L := by exact .mono ‹_› ⟨by decide +kernel⟩) :
    Kept L r (holdRegion k s) := by
  unfold Machine.holdRegion
  exact h.wr.regionReset.updRegion.refreshEdges

theorem Kept.takeReading {k code around} (h : Kept L r s)
    (hl : (Foot.part .regions).Within L := by exact .mono ‹_› ⟨by decide +kernel⟩) :
    Kept L r (takeReading k code around s) := by
  unfold Machine.takeReading
  exact h.updRegion

/-! The footprints of Machine/ClockOps. -/

theorem Kept.updMon {m f} (h : Kept L r s) (hl : (Foot.part .clk).Within L := by exact .mono ‹_› ⟨by decide +kernel⟩) :
    Kept L r (updMon m f s) :=
  h.updClk

theorem Kept.startWindow {m} (h : Kept L r s) (hl : (Foot.part .clk).Within L := by exact .mono ‹_› ⟨by decide +kernel⟩) :
    Kept L r (startWindow m s) := by
  unfold Machine.startWindow
  exact h.updClk

theorem Kept.dropSelected {c} (h : Kept L r s) (hl : (Foot.part .clk).Within L := by exact .mono ‹_› ⟨by decide +kernel⟩) :
    Kept L r (dropSelected c s) := by
  unfold Machine.dropSelected
  exact h.updClk

@[irreducible] def Foot.setDomain : Foot := Foot.field RG_CLK_STATUS_RUNNING.id ||| Foot.field CK_DOM_STATE.id

theorem Kept.setDomain {d st} (h : Kept L r s) (hl : Foot.setDomain.Within L := by exact .mono ‹_› ⟨by decide +kernel⟩) :
    Kept L r (setDomain d st s) :=
  .ite h h.wr.refreshAllLines

theorem Kept.parkChannels {bit} (h : Kept L r s) (hl : (Foot.part .ddr).Within L := by exact .mono ‹_› ⟨by decide +kernel⟩) :
    Kept L r (parkChannels bit s) :=
  h.foldl (fun _ _ h => .ite h.updDdr_ h)

theorem Kept.unparkChannels {bit} (h : Kept L r s)
    (hl : (Foot.part .ddr).Within L := by exact .mono ‹_› ⟨by decide +kernel⟩) :
    Kept L r (unparkChannels bit s) :=
  h.foldl (fun _ _ h => h.updDdr_)

@[irreducible] def Foot.degradeClock : Foot := Foot.degradeAlign ||| Foot.field RG_CLK_STATUS_RUNNING.id ||| Foot.part .clk
    ||| .of [CK_STATUS_CAUSE, CK_STATUS_CORE_ON_CPLL, CK_STATUS_DEGRADED] []

theorem Kept.degradeClock {cause} (h : Kept L r s)
    (hl : Foot.degradeClock.Within L := by exact .mono ‹_› ⟨by decide +kernel⟩) :
    Kept L r (degradeClock cause s) :=
  (Kept.ite h.wr h).dropSelected.andThen fun h => .ite h h.wr.wr.raise.refreshAllLines.parkChannels.degradeAlign

@[irreducible] def Foot.smoulder : Foot := Foot.degradeClock ||| Foot.squelch ||| Foot.setDomain ||| .of
    [CK_COUNTS_SMOULDERS, CK_DOM_COUNTS_SMOULDERS] []

theorem Kept.smoulder {d injected} (h : Kept L r s) (hl : Foot.smoulder.Within L := by exact .mono ‹_› ⟨by decide +kernel⟩) :
    Kept L r (smoulder d injected s) :=
  .ite h (h.incSat.andThen fun h => (Kept.ite h.incSat h).setDomain.updPll.raiseInj.andThen fun h => .ite h.degradeClock
    (.ite h.squelch h))

@[irreducible] def Foot.holdTrim : Foot := Foot.sequencerStep ||| Foot.field CK_KINDLING_TRIM_HOLD.id

theorem Kept.holdTrim {injected} (h : Kept L r s) (hl : Foot.holdTrim.Within L := by exact .mono ‹_› ⟨by decide +kernel⟩) :
    Kept L r (holdTrim injected s) :=
  .ite h h.wr.raiseInj

theorem Kept.failReference {m injected} (h : Kept L r s)
    (hl : Foot.smoulder.Within L := by exact .mono ‹_› ⟨by decide +kernel⟩) :
    Kept L r (failReference m injected s) :=
  h.updMon.foldl (fun _ _ h => .ite h.smoulder h)

@[irreducible] def Foot.unstable : Foot := Foot.holdTrim ||| Foot.part .clk ||| .of [MON_STATUS_RUN, MON_STATUS_STABLE] []

theorem Kept.unstable {m injected} (h : Kept L r s) (hl : Foot.unstable.Within L := by exact .mono ‹_› ⟨by decide +kernel⟩) :
    Kept L r (unstable m injected s) :=
  h.wr.wr.andThen fun h => (Kept.ite h.dropSelected h).andThen fun h => .ite h.holdTrim h

@[irreducible] def Foot.loseClock : Foot := Foot.smoulder ||| Foot.unstable ||| .of [MON_COUNTS_LOSSES, MON_STATUS_LOST] []

theorem Kept.loseClock {m injected} (h : Kept L r s)
    (hl : Foot.loseClock.Within L := by exact .mono ‹_› ⟨by decide +kernel⟩) :
    Kept L r (loseClock m injected s) := by
  unfold Machine.loseClock
  exact h.wr.incSat.unstable.failReference

@[irreducible] def Foot.startUp : Foot := Foot.setDomain ||| Foot.part .clk

theorem Kept.startUp {d} (h : Kept L r s) (hl : Foot.startUp.Within L := by exact .mono ‹_› ⟨by decide +kernel⟩) :
    Kept L r (startUp d s) :=
  h.updPll.setDomain

@[irreducible] def Foot.pllDone : Foot := Foot.trainGroup ||| Foot.taintNotice ||| Foot.setAlign ||| Foot.setDomain |||
    Foot.part .clk ||| Foot.part .ddr ||| .of [CK_COUNTS_SWITCHES, CK_DOM_COUNTS_SWITCHES, CK_STATUS_CAUSE,
    CK_STATUS_CORE_ON_CPLL, CK_STATUS_DEGRADED, LG_STATUS_PLL_STATE] []

theorem Kept.pllDone {d} (h : Kept L r s) (hl : Foot.pllDone.Within L := by exact .mono ‹_› ⟨by decide +kernel⟩) :
    Kept L r (pllDone d s) :=
  h.updPll.andThen fun h => (Kept.ite h.incSat.incSat h).andThen fun h => (Kept.ite h.wr.wr.wr h).setDomain.andThen fun h =>
    (Kept.ite h.raise h).andThen fun h => .ite (h.raise.unparkChannels.restoreAlign.foldl (fun _ _ h => h.payNotice)) (.ite
    (h.wr.andThen fun h => .ite h h.trainGroup) h)

theorem Kept.vcoStable {m} (h : Kept L r s) (hl : Foot.pllDone.Within L := by exact .mono ‹_› ⟨by decide +kernel⟩) :
    Kept L r (vcoStable m s) := by
  unfold Machine.vcoStable
  split
  · exact h
  · split
    · exact .ite h.pllDone h.startUp
    · exact .ite h.wr h
    · exact h.setDomain.updPll
    · exact h

@[irreducible] def Foot.judgeClock : Foot := Foot.smoulder ||| Foot.pllDone ||| Foot.unstable ||| Foot.field
    MON_COUNTS_OUT_OF_BAND.id

theorem Kept.judgeClock {m good injected} (h : Kept L r s)
    (hl : Foot.judgeClock.Within L := by exact .mono ‹_› ⟨by decide +kernel⟩) :
    Kept L r (judgeClock m good injected s) :=
  .ite (h.incSat.updMon.andThen fun h => .ite h.wr.vcoStable h) (h.incSat.unstable.updMon.andThen fun h => .ite
    h.failReference h)

@[irreducible] def Foot.relock : Foot := Foot.part .clk ||| .of [MON_STATUS_RUN, MON_STATUS_STABLE] []

theorem Kept.relock {d phase} (h : Kept L r s) (hl : Foot.relock.Within L := by exact .mono ‹_› ⟨by decide +kernel⟩) :
    Kept L r (relock d phase s) := by
  unfold Machine.relock
  exact h.wr.wr.updPll

@[irreducible] def Foot.startSwitch : Foot := Foot.degradeClock ||| Foot.setDomain

theorem Kept.startSwitch {d} (h : Kept L r s) (hl : Foot.startSwitch.Within L := by exact .mono ‹_› ⟨by decide +kernel⟩) :
    Kept L r (startSwitch d s) := by
  unfold Machine.startSwitch
  extract_lets s1 s2 s3
  have k1 : Kept L r s1 := h.updPll
  have k2 : Kept L r s2 := k1.updPll.setDomain
  have k3 : Kept L r s3 := k1.updPll.setDomain
  refine .ite h.updClk ?_
  split
  · exact .ite k2.degradeClock k2
  · exact .ite k3.degradeClock k3
  · exact k1.updPll.setDomain
  · exact .ite k1.updPll k1.updPll.setDomain
  · exact k1

@[irreducible] def Foot.rampStep : Foot := Foot.startUp ||| Foot.field CK_STATUS_CORE_ON_CPLL.id

theorem Kept.rampStep {d} (h : Kept L r s) (hl : Foot.rampStep.Within L := by exact .mono ‹_› ⟨by decide +kernel⟩) :
    Kept L r (rampStep d s) := by
  unfold Machine.rampStep
  extract_lets
  split
  · exact .ite h.updPll h
  · exact .ite h.updPll h.updPll.setDomain
  · exact .ite h.updPll (.ite h.wr.updPll h.updPll.setDomain)
  · exact .ite h.updPll h.startUp
  · exact h

@[irreducible] def Foot.trimWindow : Foot := Foot.holdTrim ||| .of [CK_KINDLING_TRIMMED, CK_KINDLING_TRIM_CODE] [.clk]

theorem Kept.trimWindow {count} (h : Kept L r s) (hl : Foot.trimWindow.Within L := by exact .mono ‹_› ⟨by decide +kernel⟩) :
    Kept L r (trimWindow count s) :=
  .ite h.holdTrim (.ite h.wr.updClk (.ite h.wr.updClk (.ite (h.updClk.andThen fun h => .ite h.wr h) h.updClk.wr)))

/-! The footprints of Machine/EncOps. -/

@[irreducible] def Foot.acceptKey : Foot := Foot.part .ops ||| Foot.part .enc

theorem Kept.acceptKey {ring idx kind kid code mode target walks} (h : Kept L r s)
    (hl : Foot.acceptKey.Within L := by exact .mono ‹_› ⟨by decide +kernel⟩) :
    Kept L r (acceptKey ring idx kind kid code mode target s walks) :=
  h.runOp.updEngine

@[irreducible] def Foot.refuseKey : Foot := Foot.refuse ||| Foot.acceptKey

theorem Kept.refuseKey {ring idx kind operation kid reason} (h : Kept L r s)
    (hl : Foot.refuseKey.Within L := by exact .mono ‹_› ⟨by decide +kernel⟩) :
    Kept L r (refuseKey ring idx kind operation kid reason s) :=
  h.refuse.acceptKey

theorem Kept.injectedRefusal (h : Kept L r s)
    (hl : (Foot.field EN_INJECT_INJ_REFUSE.id).Within L := by exact .mono ‹_› ⟨by decide +kernel⟩) :
    Kept L r (injectedRefusal s).2 :=
  h.takeInj

theorem Kept.noteRetiring (h : Kept L r s)
    (hl : (Foot.field EN_STATUS_RETIRE_QUEUE.id).Within L := by exact .mono ‹_› ⟨by decide +kernel⟩) :
    Kept L r (noteRetiring s) :=
  h.wr

/-! The footprints of Machine/ConfigOps. -/

theorem Kept.upC {f} (h : Kept L r s) (hl : (Foot.part .cfg).Within L := by exact .mono ‹_› ⟨by decide +kernel⟩) :
    Kept L r (upC f s) :=
  h.updCfg

@[irreducible] def Foot.clearFrames : Foot := .of [] [.frameBad, .frameCode, .frameDyn, .frames]

theorem Kept.clearFrames {blocks} (h : Kept L r s)
    (hl : Foot.clearFrames.Within L := by exact .mono ‹_› ⟨by decide +kernel⟩) :
    Kept L r (clearFrames blocks s) :=
  h.updFrames.updFrameDyn.updFrameCode.updFrameBad

theorem Kept.readDram {upset a a' a'' a'''} (h : Kept L r s)
    (hl : Foot.blockRead.Within L := by exact .mono ‹_› ⟨by decide +kernel⟩) :
    Kept L r (readDram upset a a' a'' a''' s).2 := by
  induction a generalizing a' a'' a''' s with
  | zero => exact h
  | succ k ih =>
    unfold Machine.readDram
    refine .ite_snd h ?_
    extract_lets m
    split
    next s1 e1 =>
    have k1 : Kept L r s1 := .snd h.blockRead e1
    refine .ite_snd k1 ?_
    split
    next e2 => exact .snd (ih k1) e2
    next e2 => exact .snd (ih k1) e2

@[irreducible] def Foot.streamRead : Foot := Foot.blockRead ||| Foot.field CFG_BYTES_BYTES.id

theorem Kept.streamRead {off n} (h : Kept L r s) (hl : Foot.streamRead.Within L := by exact .mono ‹_› ⟨by decide +kernel⟩) :
    Kept L r (streamRead off n s).2 := by
  unfold Machine.streamRead
  extract_lets _ s1
  have k1 : Kept L r s1 := h.wr
  split
  · exact k1.readDram
  · exact k1
  · exact k1
  · exact k1

@[irreducible] def Foot.cfgIdle : Foot := Foot.part .enc ||| Foot.part .cfg ||| .of [CFG_RELEASE_TICK_TICK, CFG_STATUS_STATE,
    CFG_TIME_CYCLES] []

theorem Kept.cfgIdle (h : Kept L r s) (hl : Foot.cfgIdle.Within L := by exact .mono ‹_› ⟨by decide +kernel⟩) :
    Kept L r (cfgIdle s) := by
  unfold Machine.cfgIdle
  extract_lets s1 _ s2
  have k1 : Kept L r s1 := by
    unfold s1
    split
    · exact h.wr
    · exact h
  have k2 : Kept L r s2 := k1.updEngine
  exact (Kept.ite k2.wr k2).wr.upC

@[irreducible] def Foot.cfgResult : Foot := Foot.decideOp ||| .of [CFG_COUNTS_LOADS_FAILED, CFG_COUNTS_LOADS_OK,
    CFG_RESULT_CAUSE, CFG_RESULT_CODE, CFG_RESULT_FIELD] []

theorem Kept.cfgResult {code cause field} (h : Kept L r s)
    (hl : Foot.cfgResult.Within L := by exact .mono ‹_› ⟨by decide +kernel⟩) :
    Kept L r (cfgResult code cause field s) := by
  unfold Machine.cfgResult
  extract_lets s1 s2
  have k1 : Kept L r s1 := h.wr.wr.wr
  have k2 : Kept L r s2 := .ite k1 (.ite k1.incSat k1.incSat)
  split
  · exact k2.decideOp
  · exact k2

@[irreducible] def Foot.borrowFrames : Foot := Foot.part .cfg ||| Foot.field SCRUB_STATUS_BORROWED.id

theorem Kept.borrowFrames {n} (h : Kept L r s) (hl : Foot.borrowFrames.Within L := by exact .mono ‹_› ⟨by decide +kernel⟩) :
    Kept L r (borrowFrames n s) :=
  .ite h h.wr.upC

theorem Kept.refreshReloads (h : Kept L r s)
    (hl : (Foot.field SCRUB_STATUS_RELOAD_ACTIVE.id).Within L := by exact .mono ‹_› ⟨by decide +kernel⟩) :
    Kept L r (refreshReloads s) :=
  h.setb

@[irreducible] def Foot.swapFailed : Foot := Foot.sequencerStep ||| Foot.refreshEdges ||| Foot.setConfigured ||| Foot.part
    .cfg ||| Foot.field SCRUB_STATUS_RELOAD_ACTIVE.id ||| .of [RG_STATUS_SWAP, SWAP_STATUS_CAUSE, SWAP_STATUS_CODE,
    SWAP_STATUS_STATE, SWAP_TICK_TICK] []

theorem Kept.swapFailed {code cause k} (h : Kept L r s)
    (hl : Foot.swapFailed.Within L := by exact .mono ‹_› ⟨by decide +kernel⟩) :
    Kept L r (swapFailed code cause k s) :=
  h.wr.wr.wr.wr.wr.setConfigured.refreshReloads.andThen fun h => (Kept.ite h.upC h).refreshEdges.raise

@[irreducible] def Foot.cfgFail : Foot := Foot.swapFailed ||| Foot.cfgResult ||| Foot.cfgIdle ||| Foot.field
    CFG_ERR_POS_OFFSET.id

theorem Kept.cfgFail {code cause field pos} (h : Kept L r s)
    (hl : Foot.cfgFail.Within L := by exact .mono ‹_› ⟨by decide +kernel⟩) :
    Kept L r (cfgFail code cause field pos s) :=
  h.wr.cfgResult.raise.cfgIdle.foldl (fun _ _ h => h.swapFailed)

@[irreducible] def Foot.cfgShort : Foot := Foot.cfgFail ||| Foot.field CFG_BYTES_BYTES.id

theorem Kept.cfgShort {pos} (h : Kept L r s) (hl : Foot.cfgShort.Within L := by exact .mono ‹_› ⟨by decide +kernel⟩) :
    Kept L r (cfgShort pos s) :=
  h.wr.cfgFail

@[irreducible] def Foot.holdKey : Foot := Foot.refuse ||| Foot.part .cfg

theorem Kept.holdKey (h : Kept L r s) (hl : Foot.holdKey.Within L := by exact .mono ‹_› ⟨by decide +kernel⟩) :
    Kept L r (holdKey s) :=
  h.refuse.upC

theorem Kept.answerKey {tick off} (h : Kept L r s) (hl : Foot.cfgFail.Within L := by exact .mono ‹_› ⟨by decide +kernel⟩) :
    Kept L r (answerKey tick off s) := by
  unfold Machine.answerKey
  extract_lets op
  split
  next =>
  refine .ite h ?_
  clear_value op
  cases op with
  | some p => exact h.cfgFail.updOp
  | none => exact h.cfgFail

@[irreducible] def Foot.cfgStart : Foot := Foot.part .cfg ||| .of [CFG_BYTES_BYTES, CFG_FRAMES_FRAMES, CFG_SEGMENT_SEG,
    CFG_STATUS_ENCRYPTED, CFG_STATUS_FORMAT, CFG_STATUS_ID_RESULT, CFG_STATUS_SOURCE, CFG_STATUS_STATE] []

theorem Kept.cfgStart {src source addr len op group} (h : Kept L r s)
    (hl : Foot.cfgStart.Within L := by exact .mono ‹_› ⟨by decide +kernel⟩) :
    Kept L r (cfgStart src source addr len op group s) :=
  h.wr.wr.wr.wr.wr.wr.wr.wr.upC

@[irreducible] def Foot.loadRegion : Foot := Foot.holdRegion ||| Foot.setPstate ||| Foot.setConfigured

theorem Kept.loadRegion {k} (h : Kept L r s) (hl : Foot.loadRegion.Within L := by exact .mono ‹_› ⟨by decide +kernel⟩) :
    Kept L r (loadRegion k s) := by
  unfold Machine.loadRegion
  exact h.holdRegion.setConfigured.updRegion.andThen fun h => .ite h h.setPstate

@[irreducible] def Foot.acceptHeader : Foot := Foot.loadRegion ||| Foot.clearFrames ||| Foot.part .cfg ||| .of
    [CFG_DESIGN_ID_DESIGN_ID, CFG_STATUS_STATE] []

theorem Kept.acceptHeader {f1 h'} (h : Kept L r s)
    (hl : Foot.acceptHeader.Within L := by exact .mono ‹_› ⟨by decide +kernel⟩) :
    Kept L r (acceptHeader f1 h' s) :=
  (h.wr.wr.foldl (fun _ _ h => h.loadRegion)).clearFrames.upC

@[irreducible] def Foot.takeCfgHeader : Foot := Foot.streamRead ||| Foot.cfgShort ||| Foot.acceptHeader ||| .of
    [CFG_STATUS_ENCRYPTED, CFG_STATUS_FORMAT, CFG_STATUS_ID_RESULT] []

theorem Kept.takeCfgHeader (h : Kept L r s) (hl : Foot.takeCfgHeader.Within L := by exact .mono ‹_› ⟨by decide +kernel⟩) :
    Kept L r (takeCfgHeader s) := by
  unfold Machine.takeCfgHeader
  extract_lets bytes
  refine .ite (.ite h h.cfgShort) ?_
  split
  next e => exact (Kept.snd h.streamRead e).cfgFail
  next s1 e =>
  have k1 : Kept L r s1 := .snd h.streamRead e
  extract_lets magic f1 n
  refine .ite k1 (.ite k1.cfgFail (.ite (.ite k1 k1.cfgShort) ?_))
  split
  next e => exact (Kept.snd k1.streamRead e).cfgFail
  next s2 e =>
  have k2 : Kept L r s2 := .snd k1.streamRead e
  refine .ite k2 ?_
  extract_lets s3 flaw id judged s4
  have k3 : Kept L r s3 := k2.setb.setb
  have k4 : Kept L r s4 := .ite k3.wr k3
  clear_value flaw
  split
  · exact k4.holdKey
  · exact .cfgFail (.ite k4.raise k4)
  · exact k4.acceptHeader

@[irreducible] def Foot.handOver : Foot := Foot.part .regions ||| Foot.field SWAP_STATUS_STATE.id

theorem Kept.handOver {group} (h : Kept L r s) (hl : Foot.handOver.Within L := by exact .mono ‹_› ⟨by decide +kernel⟩) :
    Kept L r (handOver group s) :=
  h.foldl (fun _ _ h => h.wr.updRegion)

@[irreducible] def Foot.cfgDone : Foot := Foot.cfgResult ||| Foot.cfgIdle ||| Foot.handOver

theorem Kept.cfgDone (h : Kept L r s) (hl : Foot.cfgDone.Within L := by exact .mono ‹_› ⟨by decide +kernel⟩) :
    Kept L r (cfgDone s) :=
  .ite h.cfgResult.cfgIdle.handOver h.wr.wr

@[irreducible] def Foot.takeSegment : Foot := Foot.streamRead ||| Foot.cfgShort ||| .of [CFG_INJECT_INJ_AUTH,
    CFG_SEGMENT_SEG] []

theorem Kept.takeSegment (h : Kept L r s) (hl : Foot.takeSegment.Within L := by exact .mono ‹_› ⟨by decide +kernel⟩) :
    Kept L r (takeSegment s) := by
  unfold Machine.takeSegment
  extract_lets c
  refine .ite (.ite h h.cfgShort) ?_
  split
  next e => exact (Kept.snd h.streamRead e).cfgFail
  next s1 e =>
  have k1 : Kept L r s1 := .snd h.streamRead e
  refine .ite k1 ?_
  extract_lets n s2 lastBit bad
  have k2 : Kept L r s2 := k1.wr
  clear_value bad
  split
  · exact k2.cfgFail
  · refine .ite (.ite k2 k2.cfgShort) ?_
    split
    next e => exact (Kept.snd k2.streamRead e).cfgFail
    next s3 e =>
    have k3 : Kept L r s3 := .snd k2.streamRead e
    refine .ite k3 ?_
    extract_lets body tag
    split
    next s4 e4 =>
    have k4 : Kept L r s4 := .snd k3.takeInj e4
    extract_lets plain
    clear_value plain
    split
    · exact k4.upC
    · exact k4.raiseInj.cfgFail

@[irreducible] def Foot.takeBodies : Foot := Foot.streamRead ||| Foot.cfgFail

theorem Kept.takeBodies {first dyn left n} (h : Kept L r s)
    (hl : Foot.takeBodies.Within L := by exact .mono ‹_› ⟨by decide +kernel⟩) :
    Kept L r (takeBodies first dyn left n s) := by
  unfold Machine.takeBodies
  extract_lets
  split
  next s1 e2 =>
    have k1 : Kept L r s1 := .snd h.streamRead e2
    exact k1.cfgFail
  next s3 e4 =>
    have k3 : Kept L r s3 := .snd h.streamRead e4
    exact k3.upC

@[irreducible] def Foot.takeRun : Foot := Foot.takeBodies ||| Foot.field CFG_INJECT_INJ_AUTH.id

theorem Kept.takeRun {n} (h : Kept L r s) (hl : Foot.takeRun.Within L := by exact .mono ‹_› ⟨by decide +kernel⟩) :
    Kept L r (takeRun n s) := by
  unfold Machine.takeRun
  extract_lets
  split
  · exact .ite h.takeBodies (.ite h h.cfgShort)
  · refine .ite (.ite h h.cfgShort) ?_
    split
    next s1 e2 =>
      have k1 : Kept L r s1 := .snd h.streamRead e2
      exact k1.cfgFail
    next s3 e4 =>
      have k3 : Kept L r s3 := .snd h.streamRead e4
      extract_lets
      refine .ite ?_ (.ite k3.cfgFail k3.upC.takeBodies)
      refine .ite k3 ?_
      refine .ite (.ite k3 k3.cfgShort) ?_
      split
      next s5 e6 =>
        have k5 : Kept L r s5 := .snd k3.streamRead e6
        exact k5.cfgFail
      next s7 e8 =>
        have k7 : Kept L r s7 := .snd k3.streamRead e8
        split
        next s9 e10 =>
        have k9 : Kept L r s9 := .snd k7.takeInj e10
        exact .ite k9.cfgFail (.ite k9.cfgFail k9.cfgDone)

theorem Kept.cfgBreach (h : Kept L r s) (hl : Foot.cfgFail.Within L := by exact .mono ‹_› ⟨by decide +kernel⟩) :
    Kept L r (cfgBreach s) :=
  h.cfgFail

theorem Kept.nextCommand {opc t} (h : Kept L r s) (e : nextCommand opc s = some (.inl t))
    (hl : Foot.cfgFail.Within L := by exact .mono ‹_› ⟨by decide +kernel⟩) :
    Kept L r t := by
  unfold Machine.nextCommand at e
  extract_lets c at e
  split at e
  · cases e
  · split at e
    · cases e
      exact h.cfgFail
    · split at e <;> cases e

theorem Kept.consume {n} (h : Kept L r s) (hl : Foot.cfgFail.Within L := by exact .mono ‹_› ⟨by decide +kernel⟩) :
    Kept L r (consume n s) :=
  h.upC.andThen fun h => .ite h.cfgBreach h

@[irreducible] def Foot.commitFrame : Foot := Foot.part .cfg ||| .of [CFG_FRAMES_FRAMES] [.frameBad, .frameCode, .frameDyn,
    .frames]

theorem Kept.commitFrame (h : Kept L r s) (hl : Foot.commitFrame.Within L := by exact .mono ‹_› ⟨by decide +kernel⟩) :
    Kept L r (commitFrame s) := by
  unfold Machine.commitFrame
  split
  · exact h
  · exact h.updFrames.updFrameDyn.updFrameCode.updFrameBad.incWrap.upC

@[irreducible] def Foot.cfgAbort : Foot := Foot.cfgFail ||| Foot.commitFrame

theorem Kept.cfgAbort (h : Kept L r s) (hl : Foot.cfgAbort.Within L := by exact .mono ‹_› ⟨by decide +kernel⟩) :
    Kept L r (cfgAbort s) :=
  (Kept.ite h.commitFrame h).cfgFail

@[irreducible] def Foot.startRegion : Foot := Foot.idleSlices ||| Foot.setConfigured ||| Foot.part .regions ||| Foot.field
    RG_CLK_STATUS_RUNNING.id

theorem Kept.startRegion {words k} (h : Kept L r s)
    (hl : Foot.startRegion.Within L := by exact .mono ‹_› ⟨by decide +kernel⟩) :
    Kept L r (startRegion words k s) := by
  unfold Machine.startRegion
  exact (h.idleSlices.updSlices.foldl (fun _ _ h => h.updSlices)).updRegion.refreshLines.setConfigured

@[irreducible] def Foot.openRegion : Foot := Foot.openPort ||| Foot.refreshEdges

theorem Kept.openRegion {k} (h : Kept L r s) (hl : Foot.openRegion.Within L := by exact .mono ‹_› ⟨by decide +kernel⟩) :
    Kept L r (openRegion k s) :=
  h.openPort.openPort.refreshEdges

@[irreducible] def Foot.releaseLoad : Foot := Foot.boundaryCheck ||| Foot.startRegion ||| Foot.cfgResult ||| Foot.cfgIdle |||
    Foot.openRegion ||| .of [CFG_STATUS_GLOBAL_LOADED, CFG_STATUS_RELEASE_LATE, RG_OWNER_OWNER] []

theorem Kept.releaseLoad {words} (h : Kept L r s)
    (hl : Foot.releaseLoad.Within L := by exact .mono ‹_› ⟨by decide +kernel⟩) :
    Kept L r (releaseLoad words s) := by
  unfold Machine.releaseLoad
  extract_lets c late owner s1 s2 s3 s4 s5
  have k1 : Kept L r s1 := h.foldl fun a t k => by
    extract_lets t1 t2
    have k1 : Kept L r t1 := k.startRegion
    have k2 : Kept L r t2 := by
      unfold t2
      clear_value owner
      split
      exacts [k1.wr, k1]
    exact k2.openRegion
  have k2 : Kept L r s2 := .ite k1.wr k1
  have k5 : Kept L r s5 := k2.upC.cfgResult.cfgIdle.boundaryCheck
  exact .ite k5.wr.raise k5

@[irreducible] def Foot.startSwap : Foot := Foot.setPstate ||| Foot.closePort ||| Foot.part .cfg ||| .of [RG_STATUS_SWAP,
    SWAP_STATUS_AUTO, SWAP_STATUS_CAUSE, SWAP_STATUS_FORCED, SWAP_STATUS_LATE, SWAP_STATUS_MODE, SWAP_STATUS_STATE] []

theorem Kept.startSwap {k r'} (h : Kept L r s) (hl : Foot.startSwap.Within L := by exact .mono ‹_› ⟨by decide +kernel⟩) :
    Kept L r (startSwap k r' s) := by
  unfold Machine.startSwap
  exact h.wr.setb.wr.wr.wr.wr.wr.updRegion.andThen fun h => (Kept.ite h.updRegion.setPstate h).upC.updNet.andThen fun h =>
      (Kept.ite h h.closePort.closePort).refreshEdges

@[irreducible] def Foot.drainEnds : Foot := Foot.returnJobs ||| Foot.holdRegion ||| Foot.field NR_STATUS_PORT_STATE.id |||
    Foot.field SWAP_STATUS_STATE.id

theorem Kept.drainEnds {k} (h : Kept L r s) (hl : Foot.drainEnds.Within L := by exact .mono ‹_› ⟨by decide +kernel⟩) :
    Kept L r (drainEnds k s) := by
  unfold Machine.drainEnds
  extract_lets s1
  have k1 : Kept L r s1 := h.setPort.setPort.freeRegionWorkers
  split
  · exact k1
  · exact .ite k1.wr.updRegion k1.wr.holdRegion

/-! The footprints of Machine/LaneLine. -/

theorem Kept.putItem {l x} (h : Kept L r s) (hl : (Foot.part .mesh).Within L := by exact .mono ‹_› ⟨by decide +kernel⟩) :
    Kept L r (putItem l x s) := by
  unfold Machine.putItem
  exact h.updLink

/-! The footprints of Machine/MeshLine. -/

@[irreducible] def Foot.sendControl : Foot := Foot.part .mesh ||| Foot.field LK_FRAMES_TX_FRAMES.id

theorem Kept.sendControl {l kind words} (h : Kept L r s)
    (hl : Foot.sendControl.Within L := by exact .mono ‹_› ⟨by decide +kernel⟩) :
    Kept L r (sendControl l kind words s) := by
  unfold Machine.sendControl
  exact h.incWrap.putItem.updLink

@[irreducible] def Foot.countLinkEvent : Foot := .of [LK_ERRORS_ACK_ERRORS, LK_ERRORS_CRC_ERRORS, LN_LOCK_BAD_TYPE] []

theorem Kept.countLinkEvent {l a} (h : Kept L r s)
    (hl : Foot.countLinkEvent.Within L := by exact .mono ‹_› ⟨by decide +kernel⟩) :
    Kept L r (countLinkEvent l s a) := by
  unfold Machine.countLinkEvent
  split
  · exact h.incSat
  · exact h.incSat
  · exact h.incSat
  · exact h

@[irreducible] def Foot.arrives : Foot := Foot.countLinkEvent ||| Foot.part .mesh

theorem Kept.arrives {l kind w} (h : Kept L r s) (hl : Foot.arrives.Within L := by exact .mono ‹_› ⟨by decide +kernel⟩) :
    Kept L r (arrives l kind w s).2 := by
  unfold Machine.arrives
  split
  · exact .ite_snd (.pair h) (.pair h.incSat.updLink)
  · exact h.updLink.foldl (fun _ _ h => h.countLinkEvent)

/-! The footprints of Machine/MeshOps. -/

theorem Kept.updMsh {f} (h : Kept L r s) (hl : (Foot.part .mesh).Within L := by exact .mono ‹_› ⟨by decide +kernel⟩) :
    Kept L r (updMsh f s) :=
  h.updMesh

theorem Kept.sendAck {l} (h : Kept L r s) (hl : (Foot.part .mesh).Within L := by exact .mono ‹_› ⟨by decide +kernel⟩) :
    Kept L r (sendAck l s) :=
  h.updLink.putItem

theorem Kept.reportFree {l} (h : Kept L r s) (hl : (Foot.part .mesh).Within L := by exact .mono ‹_› ⟨by decide +kernel⟩) :
    Kept L r (reportFree l s) :=
  .ite h.sendAck h

@[irreducible] def Foot.putFrame : Foot := Foot.part .mesh ||| Foot.field MS_INJECT_INJ_CRC.id

theorem Kept.putFrame {l f} (h : Kept L r s) (hl : Foot.putFrame.Within L := by exact .mono ‹_› ⟨by decide +kernel⟩) :
    Kept L r (putFrame l f s) := by
  unfold Machine.putFrame
  split
  next s1 e2 =>
  have k1 : Kept L r s1 := .snd h.takeInj e2
  exact k1.putItem

@[irreducible] def Foot.sendFrame : Foot := Foot.putFrame ||| .of [LK_FRAMES_TX_FRAMES, LK_SEQ_NEXT_SEQ] []

theorem Kept.sendFrame {l q} (h : Kept L r s) (hl : Foot.sendFrame.Within L := by exact .mono ‹_› ⟨by decide +kernel⟩) :
    Kept L r (sendFrame l q s) := by
  unfold Machine.sendFrame
  extract_lets _ s1 _ s2
  have k1 : Kept L r s1 := h.incWrap.incWrap
  have k2 : Kept L r s2 := k1.putFrame.updLink
  split
  · exact k2.reportFree
  · exact k2

theorem Kept.pump {l a} (h : Kept L r s) (hl : Foot.sendFrame.Within L := by exact .mono ‹_› ⟨by decide +kernel⟩) :
    Kept L r (pump l a s) := by
  induction a generalizing s with
  | zero => exact h
  | succ k ih =>
    unfold Machine.pump
    split
    · exact h
    · split
      · exact h
      · exact ih h.updLink.sendFrame

@[irreducible] def Foot.refreshTimeSource : Foot := Foot.sequencerStep ||| Foot.field MS_STATUS_TIME_SOURCE.id

theorem Kept.refreshTimeSource (h : Kept L r s)
    (hl : Foot.refreshTimeSource.Within L := by exact .mono ‹_› ⟨by decide +kernel⟩) :
    Kept L r (refreshTimeSource s) :=
  .ite h h.setb.raise

@[irreducible] def Foot.wakeLink : Foot := Foot.refreshTimeSource ||| Foot.quietLanes ||| Foot.field LK_CTRL_QUIET.id

theorem Kept.wakeLink {l} (h : Kept L r s) (hl : Foot.wakeLink.Within L := by exact .mono ‹_› ⟨by decide +kernel⟩) :
    Kept L r (wakeLink l s) :=
  .ite h.wr.wr.updLink.quietLanes.updMsh.refreshTimeSource h

@[irreducible] def Foot.enqueuePkt : Foot := Foot.wakeLink ||| Foot.sendFrame

theorem Kept.enqueuePkt {l q} (h : Kept L r s) (hl : Foot.enqueuePkt.Within L := by exact .mono ‹_› ⟨by decide +kernel⟩) :
    Kept L r (enqueuePkt l q s) :=
  h.updLink.wakeLink.pump

@[irreducible] def Foot.countUnroutable : Foot := Foot.sequencerStep ||| Foot.field MS_COUNTS_UNROUTABLE.id

theorem Kept.countUnroutable {p} (h : Kept L r s)
    (hl : Foot.countUnroutable.Within L := by exact .mono ‹_› ⟨by decide +kernel⟩) :
    Kept L r (countUnroutable p s) :=
  h.incSat.raiseOnce

theorem Kept.deliverLocal {p l v} (h : Kept L r s)
    (hl : (Foot.part .mesh).Within L := by exact .mono ‹_› ⟨by decide +kernel⟩) :
    Kept L r (deliverLocal p l v s) :=
  h.updMsh

@[irreducible] def Foot.sendResponse : Foot := Foot.enqueuePkt ||| Foot.countUnroutable

theorem Kept.sendResponse {own p} (h : Kept L r s)
    (hl : Foot.sendResponse.Within L := by exact .mono ‹_› ⟨by decide +kernel⟩) :
    Kept L r (sendResponse own p s) := by
  unfold Machine.sendResponse
  refine .ite h.deliverLocal ?_
  split
  · exact h.enqueuePkt
  · exact h.countUnroutable

@[irreducible] def Foot.unroutable : Foot := Foot.sendResponse ||| Foot.decideOp ||| Foot.part .drawn ||| .of
    [MS_COUNTS_REPORTS_DROPPED] [.host]

theorem Kept.unroutable {own p code} (h : Kept L r s)
    (hl : Foot.unroutable.Within L := by exact .mono ‹_› ⟨by decide +kernel⟩) :
    Kept L r (unroutable own p code s) := by
  unfold Machine.unroutable
  extract_lets s1
  have k1 : Kept L r s1 := h.countUnroutable
  split
  · split
    · exact .ite k1.updHost.decideOp k1
    · exact k1
  · refine .ite k1 ?_
    split
    · exact k1.sendResponse
    · split
      next s2 e3 =>
      have k2 : Kept L r s2 := .snd k1.draw e3
      exact k2.sendResponse
  · exact k1.incSat

theorem Kept.emitPkt {p} (h : Kept L r s) (hl : Foot.unroutable.Within L := by exact .mono ‹_› ⟨by decide +kernel⟩) :
    Kept L r (emitPkt p s) := by
  unfold Machine.emitPkt
  refine .ite h.deliverLocal ?_
  split
  · exact h.enqueuePkt
  · exact h.unroutable

theorem Kept.receivePkt {p l v} (h : Kept L r s) (hl : Foot.unroutable.Within L := by exact .mono ‹_› ⟨by decide +kernel⟩) :
    Kept L r (receivePkt p l v s) := by
  unfold Machine.receivePkt
  refine .ite h ?_
  refine .ite h.deliverLocal ?_
  split
  · exact h.enqueuePkt
  · exact h.unroutable

theorem Kept.reroute {q} (h : Kept L r s) (hl : Foot.unroutable.Within L := by exact .mono ‹_› ⟨by decide +kernel⟩) :
    Kept L r (reroute q s) := by
  unfold Machine.reroute
  split
  · exact h
  · exact .ite h.sendResponse h.emitPkt
  · exact h.receivePkt.reportFree

theorem Kept.rerouteAll (h : Kept L r s) (hl : Foot.unroutable.Within L := by exact .mono ‹_› ⟨by decide +kernel⟩) :
    Kept L r (rerouteAll s) :=
  (h.foldl (fun _ _ h => h.updLink)).foldl (fun _ _ h => h.reroute)

@[irreducible] def Foot.linkDown : Foot := Foot.unroutable ||| .of [LK_ERRORS_CRC_ERRORS, LK_REPLAY_DOWNS] []

theorem Kept.linkDown {l} (h : Kept L r s) (hl : Foot.linkDown.Within L := by exact .mono ‹_› ⟨by decide +kernel⟩) :
    Kept L r (linkDown l s) := by
  unfold Machine.linkDown
  extract_lets _ _ s1 s2 s3 s4 s5 s6 s7
  have k1 : Kept L r s1 := h.wr.quietLanes
  have k2 : Kept L r s2 := .ite k1.incSat k1
  have k3 : Kept L r s3 := k2.updLink.updMsh
  have k4 : Kept L r s4 := .ite k3.incSat.raise k3
  have k5 : Kept L r s5 := k4.foldl (fun _ _ h => h.unroutable)
  have k6 : Kept L r s6 := k5.foldl (fun _ _ h => h.reportFree)
  have k7 : Kept L r s7 := k6.refreshTimeSource
  refine .ite h ?_
  split
  · exact k7.noteLink
  · exact k7

@[irreducible] def Foot.linkUp : Foot := Foot.refreshTimeSource ||| Foot.part .mesh ||| .of [LK_SEQ_ACK_RX, LK_SEQ_NEXT_SEQ,
    LK_STATUS_STATE] []

theorem Kept.linkUp {l} (h : Kept L r s) (hl : Foot.linkUp.Within L := by exact .mono ‹_› ⟨by decide +kernel⟩) :
    Kept L r (linkUp l s) :=
  h.wr.wr.wr.updLink.raise.updMsh.refreshTimeSource

@[irreducible] def Foot.takeAck : Foot := Foot.part .mesh ||| Foot.field LK_SEQ_ACK_RX.id

theorem Kept.takeAck {l ack} (h : Kept L r s) (hl : Foot.takeAck.Within L := by exact .mono ‹_› ⟨by decide +kernel⟩) :
    Kept L r (takeAck l ack s) := by
  unfold Machine.takeAck
  extract_lets
  split
  · exact h
  · exact h.wr.updLink

@[irreducible] def Foot.quietStep : Foot := Foot.wakeLink ||| Foot.sendControl

theorem Kept.quietStep {l} (h : Kept L r s) (hl : Foot.quietStep.Within L := by exact .mono ‹_› ⟨by decide +kernel⟩) :
    Kept L r (quietStep l s) :=
  .ite h ((Kept.ite h.sendControl.updLink h).andThen fun h => .ite (h.wr.quietLanes.updMsh.refreshTimeSource.andThen fun h =>
    .ite h h.wakeLink) h)

theorem Kept.afterAck {l} (h : Kept L r s) (hl : Foot.enqueuePkt.Within L := by exact .mono ‹_› ⟨by decide +kernel⟩) :
    Kept L r (afterAck l s) :=
  h.pump.quietStep

theorem Kept.meshTick (h : Kept L r s) (hl : Foot.sendFrame.Within L := by exact .mono ‹_› ⟨by decide +kernel⟩) :
    Kept L r (meshTick s) :=
  h.foldl (fun _ _ h => h.pump)

@[irreducible] def Foot.writeReport : Foot := Foot.writeLine ||| .of [MS_COUNTS_REPORTS_DROPPED, MS_REPORT_WR_INDEX] []

theorem Kept.writeReport {entry} (h : Kept L r s)
    (hl : Foot.writeReport.Within L := by exact .mono ‹_› ⟨by decide +kernel⟩) :
    Kept L r (writeReport entry s) := by
  unfold Machine.writeReport
  extract_lets
  refine .ite h ?_
  refine .ite h.incSat ?_
  split
  next s1 e2 =>
  have k1 : Kept L r s1 := .snd h.writeLine e2
  exact k1.incWrap

@[irreducible] def Foot.sendReport : Foot := Foot.enqueuePkt ||| Foot.field MS_COUNTS_REPORTS_DROPPED.id

theorem Kept.sendReport {l p} (h : Kept L r s) (hl : Foot.sendReport.Within L := by exact .mono ‹_› ⟨by decide +kernel⟩) :
    Kept L r (sendReport l p s) :=
  .ite h.enqueuePkt h.incSat

@[irreducible] def Foot.floodReport : Foot := Foot.writeReport ||| Foot.sendReport

theorem Kept.floodReport (h : Kept L r s) (hl : Foot.floodReport.Within L := by exact .mono ‹_› ⟨by decide +kernel⟩) :
    Kept L r (floodReport s) :=
  h.updMsh.foldl (fun _ _ h => h.updMsh.andThen fun h => (Kept.ite (h.foldl (fun _ _ h => h.writeReport)) h).foldl (fun _ _ h
    => h.sendReport))

@[irreducible] def Foot.takeReport : Foot := Foot.writeReport ||| Foot.sendReport ||| Foot.countUnroutable ||| Foot.field
    MS_STATUS_ADDR_CONFLICT.id

theorem Kept.takeReport {p arrival} (h : Kept L r s)
    (hl : Foot.takeReport.Within L := by exact .mono ‹_› ⟨by decide +kernel⟩) :
    Kept L r (takeReport p arrival s) := by
  unfold Machine.takeReport
  extract_lets
  split
  · exact h
  · exact .ite h (h.updMsh.andThen fun h => (Kept.ite h.wr h).andThen fun h => (Kept.ite h.updMsh.raise h).andThen fun h =>
      (Kept.ite (h.foldl (fun _ _ h => h.writeReport)) h).andThen fun h => .ite h.incSat.countUnroutable (h.foldl (fun _ _ h =>
      h.sendReport)))

@[irreducible] def Foot.engineSend : Foot := Foot.unroutable ||| Foot.part .noc

theorem Kept.engineSend {x} (h : Kept L r s) (hl : Foot.engineSend.Within L := by exact .mono ‹_› ⟨by decide +kernel⟩) :
    Kept L r (engineSend x s) :=
  h.updMsh.updXact.emitPkt

theorem Kept.writeInbox {p} (h : Kept L r s) (hl : Foot.blockRead.Within L := by exact .mono ‹_› ⟨by decide +kernel⟩) :
    Kept L r (writeInbox p s).2 := by
  unfold Machine.writeInbox
  extract_lets
  refine .ite_snd h ?_
  refine h.foldl_snd fun _ t2 h1 => ?_
  split
  next s3 e4 =>
  have k3 : Kept L r s3 := .snd h1.blockWrite e4
  exact k3

@[irreducible] def Foot.takeResponse : Foot := Foot.landingFreed ||| Foot.part .mesh

theorem Kept.takeResponse {p} (h : Kept L r s) (hl : Foot.takeResponse.Within L := by exact .mono ‹_› ⟨by decide +kernel⟩) :
    Kept L r (takeResponse p s) := by
  unfold Machine.takeResponse
  extract_lets s1
  have k1 : Kept L r s1 := h.updMsh
  split
  · exact h
  · split
    · exact k1
    · exact k1.answerXact

theorem Kept.takeLocal {f p l t} (h : Kept L r s) (e : takeLocal f s = some (p, l, t))
    (hl : (Foot.part .mesh).Within L := by exact .mono ‹_› ⟨by decide +kernel⟩) :
    Kept L r t := by
  unfold Machine.takeLocal at e
  split at e
  · cases e
  · split at e
    · cases e
    · cases e
      exact .ite h.updMsh.reportFree h.updMsh

/-! The footprints of Machine/Transfer. -/

theorem Kept.fetchHost {o} (h : Kept L r s) (hl : Foot.unroutable.Within L := by exact .mono ‹_› ⟨by decide +kernel⟩) :
    Kept L r (fetchHost o s) := by
  unfold Machine.fetchHost
  split
  · exact h.updHost.foldl (fun _ _ h => h.emitPkt)
  · exact h

theorem Kept.takeFetched {ring idx a data} (h : Kept L r s)
    (hl : (Foot.part .host).Within L := by exact .mono ‹_› ⟨by decide +kernel⟩) :
    Kept L r (takeFetched ring idx a data s) :=
  h.updHost

@[irreducible] def Foot.hostPut : Foot := Foot.unroutable ||| Foot.part .hostMem

theorem Kept.hostPut {o a data} (h : Kept L r s) (hl : Foot.hostPut.Within L := by exact .mono ‹_› ⟨by decide +kernel⟩) :
    Kept L r (hostPut o a data s) := by
  unfold Machine.hostPut
  refine .ite h.updHostMem ?_
  split
  · exact h
  · exact h.foldl (fun _ _ h => h.emitPkt)

@[irreducible] def Foot.moveLines : Foot := Foot.blockRead ||| Foot.hostPut

theorem Kept.moveLines {o upset a a' a''} (h : Kept L r s)
    (hl : Foot.moveLines.Within L := by exact .mono ‹_› ⟨by decide +kernel⟩) :
    Kept L r (moveLines o upset a a' a'' s).2 := by
  induction a generalizing a' a'' s with
  | zero => exact h
  | succ k ih =>
    unfold Machine.moveLines
    extract_lets src dst dir prio
    split
    next s1 e1 =>
    have k1 : Kept L r s1 := by
      refine .snd₂ (.ite_snd₂ h ?_) e1
      split
      next e => exact .snd h.blockRead e
    split
    next s2 e2 =>
    have k2 : Kept L r s2 := .snd (.ite_snd k1.hostPut k1.blockWrite) e2
    exact ih k2

@[irreducible] def Foot.debugUnitAt : Foot := Foot.blockRead ||| Foot.padAccess

theorem Kept.debugUnitAt {upset space src n} (h : Kept L r s)
    (hl : Foot.debugUnitAt.Within L := by exact .mono ‹_› ⟨by decide +kernel⟩) :
    Kept L r (debugUnitAt upset space src n s).2.2 := by
  unfold Machine.debugUnitAt
  extract_lets
  split
  · split
    next s1 e2 =>
    have k1 : Kept L r s1 := .snd h.blockRead e2
    exact k1
  · split
    next s3 e4 =>
      have k3 : Kept L r s3 := .snd h.padAccess e4
      exact k3
    next s5 e6 =>
      have k5 : Kept L r s5 := .snd h.padAccess e6
      exact k5
  · exact h
  · exact h
  · exact h

@[irreducible] def Foot.debugUnits : Foot := Foot.debugUnitAt ||| Foot.hostPut

theorem Kept.debugUnits {o upset space src dst a a' a''} (h : Kept L r s)
    (hl : Foot.debugUnits.Within L := by exact .mono ‹_› ⟨by decide +kernel⟩) :
    Kept L r (debugUnits o upset space src dst a a' a'' s).2 := by
  induction a generalizing a' a'' s with
  | zero => exact h
  | succ k ih =>
    unfold Machine.debugUnits
    split
    next e => exact ih (.hostPut (.snd₂ h.debugUnitAt e))

/-! The footprints of Machine/RingOps. -/

theorem Kept.updHst {f} (h : Kept L r s) (hl : (Foot.part .host).Within L := by exact .mono ‹_› ⟨by decide +kernel⟩) :
    Kept L r (updHst f s) :=
  h.updHost

@[irreducible] def Foot.sendMsix : Foot := Foot.part .host ||| Foot.part .hostMem

theorem Kept.sendMsix {v} (h : Kept L r s) (hl : Foot.sendMsix.Within L := by exact .mono ‹_› ⟨by decide +kernel⟩) :
    Kept L r (sendMsix v s) :=
  .ite h (.ite h.updHst (h.updHostMem fun _ => swf_memWr _ _ _ _))

theorem Kept.countEntry {r'} (h : Kept L r s) (hl : Foot.sendMsix.Within L := by exact .mono ‹_› ⟨by decide +kernel⟩) :
    Kept L r (countEntry r' s) :=
  .ite h.updHst.sendMsix h.updHst

theorem Kept.writeEntry {base size k w} (h : Kept L r s)
    (hl : (Foot.part .hostMem).Within L := by exact .mono ‹_› ⟨by decide +kernel⟩) :
    Kept L r (writeEntry base size k w s) := by
  unfold Machine.writeEntry
  exact h.updHostMem

@[irreducible] def Foot.writeRecord : Foot := Foot.sendMsix ||| Foot.field EV_WR_INDEX.id

theorem Kept.writeRecord {e} (h : Kept L r s) (hl : Foot.writeRecord.Within L := by exact .mono ‹_› ⟨by decide +kernel⟩) :
    Kept L r (writeRecord e s) :=
  h.writeEntry.incWrap.sendMsix

theorem Kept.settleRing {r'} (h : Kept L r s)
    (hl : (Foot.field CR_STATUS_STATE.id).Within L := by exact .mono ‹_› ⟨by decide +kernel⟩) :
    Kept L r (settleRing r' s) :=
  .ite h.wr h

@[irreducible] def Foot.enterOp : Foot := Foot.unroutable ||| Foot.addJob

theorem Kept.enterOp {r' k d reject} (h : Kept L r s)
    (hl : Foot.enterOp.Within L := by exact .mono ‹_› ⟨by decide +kernel⟩) :
    Kept L r (enterOp r' k d reject s) := by
  unfold Machine.enterOp
  extract_lets s1 s2
  have k1 : Kept L r s1 := h.updOps
  have k2 : Kept L r s2 := k1.noteOutstanding
  split
  · exact k1.decideOp
  · split
    · exact k2
    · exact (Kept.ite k2 k2.fetchHost).andThen fun h => .ite h.enqueueHearth (.ite h.decideOp h)

theorem Kept.acceptDescriptor {r' k d} (h : Kept L r s)
    (hl : Foot.enterOp.Within L := by exact .mono ‹_› ⟨by decide +kernel⟩) :
    Kept L r (acceptDescriptor r' k d s) :=
  h.enterOp

theorem Kept.proxyDescriptor {r' k d} (h : Kept L r s)
    (hl : Foot.enterOp.Within L := by exact .mono ‹_› ⟨by decide +kernel⟩) :
    Kept L r (proxyDescriptor r' k d s) := by
  unfold Machine.proxyDescriptor
  extract_lets s1 s2 s3
  have k1 : Kept L r s1 := h.updOps
  have k2 : Kept L r s2 := k1.noteOutstanding
  have k3 : Kept L r s3 := k2.updHst
  split
  · exact h.enterOp
  · exact k3.emitPkt

theorem Kept.noteStall (h : Kept L r s) (hl : (Foot.part .disp).Within L := by exact .mono ‹_› ⟨by decide +kernel⟩) :
    Kept L r (noteStall s) :=
  .ite h.updDisp h

@[irreducible] def Foot.ringTick : Foot := .of [CR_COUNTS_STALL_FRAMES, HI_STATUS_READY] [.host]

theorem Kept.ringTick (h : Kept L r s) (hl : Foot.ringTick.Within L := by exact .mono ‹_› ⟨by decide +kernel⟩) :
    Kept L r (ringTick s) :=
  (Kept.ite h.wr.updHost h).foldl (fun _ _ h => .ite h.incSat h)

@[irreducible] def Foot.haltRing : Foot := Foot.sequencerStep ||| .of [CR_STATUS_HALT_WRITE, CR_STATUS_STATE] []

theorem Kept.haltRing {r' k byWrite injected} (h : Kept L r s)
    (hl : Foot.haltRing.Within L := by exact .mono ‹_› ⟨by decide +kernel⟩) :
    Kept L r (haltRing r' k byWrite injected s) :=
  h.wr.setb.raiseInj

@[irreducible] def Foot.reelAnswered : Foot := Foot.decideOp ||| Foot.part .reels ||| Foot.field RE_STATUS_STATE.id

theorem Kept.reelAnswered {r' k} (h : Kept L r s)
    (hl : Foot.reelAnswered.Within L := by exact .mono ‹_› ⟨by decide +kernel⟩) :
    Kept L r (reelAnswered r' k s) :=
  h.foldl (fun _ _ h => (Kept.ite (Kept.ite h.wr h).updReel h).andThen fun h => .ite h (h.updReel.foldl (fun _ _ h =>
    h.decideOp)))

@[irreducible] def Foot.abortsAnswered : Foot := Foot.decideOp ||| Foot.part .host

theorem Kept.abortsAnswered {r' k} (h : Kept L r s)
    (hl : Foot.abortsAnswered.Within L := by exact .mono ‹_› ⟨by decide +kernel⟩) :
    Kept L r (abortsAnswered r' k s) :=
  h.updHst.foldl (fun _ _ h => h.decideOp)

@[irreducible] def Foot.answered : Foot := Foot.reelAnswered ||| Foot.releaseCancels ||| Foot.abortsAnswered ||| Foot.field
    CR_STATUS_STATE.id ||| Foot.part .ready

theorem Kept.answered {o} (h : Kept L r s) (hl : Foot.answered.Within L := by exact .mono ‹_› ⟨by decide +kernel⟩) :
    Kept L r (answered o s) :=
  h.updOps.updReady.andThen fun h => (Kept.ite h h.updHst).andThen fun h => (Kept.ite h.reelAnswered h).andThen fun h =>
    (Kept.ite h.releaseCancels h).abortsAnswered.noteOutstanding.settleRing

theorem Kept.returnCompletion {o} (h : Kept L r s)
    (hl : Foot.unroutable.Within L := by exact .mono ‹_› ⟨by decide +kernel⟩) :
    Kept L r (returnCompletion o s) := by
  unfold Machine.returnCompletion
  extract_lets s1 _
  have k1 : Kept L r s1 := h.updHst
  split
  · exact h
  · exact k1.emitPkt

theorem Kept.endMove {o n stopped failed upset} (h : Kept L r s)
    (hl : Foot.moveLines.Within L := by exact .mono ‹_› ⟨by decide +kernel⟩) :
    Kept L r (endMove o n stopped failed s upset) := by
  unfold Machine.endMove
  extract_lets
  split
  next s1 e2 =>
  have k1 : Kept L r s1 := .snd h.moveLines e2
  exact k1.decideOp

@[irreducible] def Foot.endDebug : Foot := Foot.debugUnits ||| Foot.borrowFrames

theorem Kept.endDebug {o n stopped failed upset} (h : Kept L r s)
    (hl : Foot.endDebug.Within L := by exact .mono ‹_› ⟨by decide +kernel⟩) :
    Kept L r (endDebug o n stopped failed s upset) := by
  unfold Machine.endDebug
  extract_lets
  split
  next s1 e2 =>
  have k1 : Kept L r s1 := .snd h.debugUnits e2
  exact (Kept.ite k1.borrowFrames k1).decideOp

@[irreducible] def Foot.stopLoad : Foot := Foot.decideOp ||| Foot.part .drawn ||| Foot.part .stage

theorem Kept.stopLoad {o} (h : Kept L r s) (hl : Foot.stopLoad.Within L := by exact .mono ‹_› ⟨by decide +kernel⟩) :
    Kept L r (stopLoad o s) := by
  unfold Machine.stopLoad
  split
  next s1 e2 =>
  have k1 : Kept L r s1 := .snd h.draw e2
  split
  next s3 e4 =>
  have k3 : Kept L r s3 := .snd k1.draw e4
  exact k3.updStage.decideOp

theorem Kept.programSlot {o n} (h : Kept L r s)
    (hl : (Foot.part .flash).Within L := by exact .mono ‹_› ⟨by decide +kernel⟩) :
    Kept L r (programSlot o n s) :=
  .ite h h.updFlash

@[irreducible] def Foot.stopImage : Foot := Foot.decideOp ||| Foot.part .flash ||| .of [FW_STATUS_VALID_A, FW_STATUS_VALID_B]
    []

theorem Kept.stopImage {o n} (h : Kept L r s) (hl : Foot.stopImage.Within L := by exact .mono ‹_› ⟨by decide +kernel⟩) :
    Kept L r (stopImage o n s) := by
  unfold Machine.stopImage
  extract_lets s1
  have k1 : Kept L r s1 := h.programSlot
  refine .ite h.decideOp ?_
  split
  next e =>
  refine .decideOp ?_
  split at e <;> cases e <;> exact k1.wr

@[irreducible] def Foot.stopOp : Foot := Foot.endDebug ||| Foot.cfgAbort ||| Foot.stopImage ||| Foot.stopLoad

theorem Kept.stopOp {o n} (h : Kept L r s) (hl : Foot.stopOp.Within L := by exact .mono ‹_› ⟨by decide +kernel⟩) :
    Kept L r (stopOp o n s) :=
  .ite h.endMove (.ite h.endDebug (.ite h.cfgAbort (.ite h.stopLoad (.ite h.stopImage h.decideOp))))

theorem Kept.latchHostAbort {n a} (h : Kept L r s) (hl : Foot.stopOp.Within L := by exact .mono ‹_› ⟨by decide +kernel⟩) :
    Kept L r (latchHostAbort n s a) := by
  unfold Machine.latchHostAbort
  split
  · exact h.decideOp
  · exact .ite h.decideOp (.ite h.stopOp.decideOp (.ite h.updOp.decideOp h.updHst))

theorem Kept.dropHostOps (h : Kept L r s) (hl : Foot.stopOp.Within L := by exact .mono ‹_› ⟨by decide +kernel⟩) :
    Kept L r (dropHostOps s) := by
  unfold Machine.dropHostOps
  extract_lets _ _ s1 s2
  have k1 : Kept L r s1 := h.whenDo (fun _ h => h.upC)
  have k2 : Kept L r s2 := by
    unfold s2
    refine k1.foldl fun _ t4 h3 => ?_
    split
    next s5 e6 =>
    have k5 : Kept L r s5 := .snd h3.draw e6
    exact k5.stopOp
  exact k2.updOps

@[irreducible] def Foot.linkReset : Foot := Foot.stopOp ||| Foot.of linkFields [] ||| Foot.part .host

theorem Kept.linkReset (h : Kept L r s) (hl : Foot.linkReset.Within L := by exact .mono ‹_› ⟨by decide +kernel⟩) :
    Kept L r (linkReset s) := by
  unfold Machine.linkReset
  exact h.dropHostOps.clrAll.updHost

theorem Kept.refreshGateway (h : Kept L r s)
    (hl : (Foot.field MS_STATUS_GATEWAY.id).Within L := by exact .mono ‹_› ⟨by decide +kernel⟩) :
    Kept L r (refreshGateway s) :=
  h.setb

/-! The footprints of Machine/PowerOps. -/

theorem Kept.updPower {f} (h : Kept L r s) (hl : (Foot.part .pw).Within L := by exact .mono ‹_› ⟨by decide +kernel⟩) :
    Kept L r (updPower f s) :=
  h.updPw

@[irreducible] def Foot.notePower : Foot := .of [PW_STATUS_BUSY, PW_STATUS_QUEUED] []

theorem Kept.notePower (h : Kept L r s) (hl : Foot.notePower.Within L := by exact .mono ‹_› ⟨by decide +kernel⟩) :
    Kept L r (notePower s) :=
  h.setb.wr

@[irreducible] def Foot.recordPower : Foot := .of [PW_COUNT_ABORTS, PW_COUNT_REFUSALS, PW_LAST_KIND, PW_LAST_REFUSER,
    PW_LAST_TARGET, PW_LAST_TICK_TICK] []

theorem Kept.recordPower {code target abort} (h : Kept L r s)
    (hl : Foot.recordPower.Within L := by exact .mono ‹_› ⟨by decide +kernel⟩) :
    Kept L r (recordPower code target abort s) := by
  unfold Machine.recordPower
  exact (h.incSat (by split <;> exact hl.mono ⟨by decide +kernel⟩)).wr.setb.wr.wr

@[irreducible] def Foot.endRequest : Foot := Foot.decideOp ||| Foot.notePower ||| Foot.part .pw

theorem Kept.endRequest {code result} (h : Kept L r s)
    (hl : Foot.endRequest.Within L := by exact .mono ‹_› ⟨by decide +kernel⟩) :
    Kept L r (endRequest code result s) := by
  unfold Machine.endRequest
  extract_lets s1
  have k1 : Kept L r s1 := h.updPower
  split
  · exact h
  · exact k1.decideOp.notePower

@[irreducible] def Foot.stopRegion : Foot := Foot.refreshEdges ||| .of [RG_BIAS_TARGET, RG_CLK_STATUS_RUNNING] []

theorem Kept.stopRegion {k st} (h : Kept L r s) (hl : Foot.stopRegion.Within L := by exact .mono ‹_› ⟨by decide +kernel⟩) :
    Kept L r (stopRegion k st s) :=
  h.wr.wr.updRegion.refreshEdges

theorem Kept.rampDown {k st} (h : Kept L r s) (hl : Foot.stopRegion.Within L := by exact .mono ‹_› ⟨by decide +kernel⟩) :
    Kept L r (rampDown k st s) :=
  .ite h.stopRegion h.updRegion.refreshEdges

theorem Kept.rampUp {k} (h : Kept L r s) (hl : Foot.refreshEdges.Within L := by exact .mono ‹_› ⟨by decide +kernel⟩) :
    Kept L r (rampUp k s) :=
  h.updRegion.refreshEdges

theorem Kept.beginChange {k} (h : Kept L r s) (hl : Foot.setPstate.Within L := by exact .mono ‹_› ⟨by decide +kernel⟩) :
    Kept L r (beginChange k s) :=
  h.setPstate

@[irreducible] def Foot.darkRegion : Foot := Foot.regionReset ||| Foot.setPstate ||| Foot.clearFrames ||| Foot.setConfigured

theorem Kept.darkRegion {k} (h : Kept L r s) (hl : Foot.darkRegion.Within L := by exact .mono ‹_› ⟨by decide +kernel⟩) :
    Kept L r (darkRegion k s) := by
  unfold Machine.darkRegion
  exact h.clearFrames.regionReset.updSlices.setConfigured.updRegion.setPstate

theorem Kept.reopen {k} (h : Kept L r s) (hl : (Foot.part .noc).Within L := by exact .mono ‹_› ⟨by decide +kernel⟩) :
    Kept L r (reopen k s) :=
  .ite h h.updNet

@[irreducible] def Foot.startBatch : Foot := Foot.setPstate ||| Foot.stopRegion

theorem Kept.startBatch (h : Kept L r s) (hl : Foot.startBatch.Within L := by exact .mono ‹_› ⟨by decide +kernel⟩) :
    Kept L r (startBatch s) :=
  h.foldl (fun _ _ h => .ite (.ite h (.ite h.beginChange.stopRegion h.beginChange.rampDown)) h.beginChange.wr)

@[irreducible] def Foot.restChans : Foot := Foot.closePort ||| Foot.part .ddr

theorem Kept.restChans {cs} (h : Kept L r s) (hl : Foot.restChans.Within L := by exact .mono ‹_› ⟨by decide +kernel⟩) :
    Kept L r (restChans cs s) :=
  h.foldl (fun _ _ h => (Kept.ite h.closePort h.updNet).updDdr_)

@[irreducible] def Foot.wakeChans : Foot := Foot.part .ddr ||| Foot.part .noc

theorem Kept.wakeChans {cs} (h : Kept L r s) (hl : Foot.wakeChans.Within L := by exact .mono ‹_› ⟨by decide +kernel⟩) :
    Kept L r (wakeChans cs s) :=
  h.foldl (fun _ _ h => h.updDdr_.updNet.andThen fun h => .ite h.updNet h)

@[irreducible] def Foot.bankGroups : Foot := Foot.linkDown ||| Foot.bankGroup

theorem Kept.bankGroups {gs} (h : Kept L r s) (hl : Foot.bankGroups.Within L := by exact .mono ‹_› ⟨by decide +kernel⟩) :
    Kept L r (bankGroups gs s) :=
  h.foldl (fun _ _ h => (h.foldl (fun _ _ h => h.linkDown)).bankGroup)

theorem Kept.wakeGroups {gs} (h : Kept L r s) (hl : Foot.activateGroup.Within L := by exact .mono ‹_› ⟨by decide +kernel⟩) :
    Kept L r (wakeGroups gs s) :=
  h.foldl (fun _ _ h => .ite h.activateGroup h)

theorem Kept.restCores (h : Kept L r s)
    (hl : (Foot.field HM_STATUS_CORE_STATE.id).Within L := by exact .mono ‹_› ⟨by decide +kernel⟩) :
    Kept L r (restCores s) :=
  h.foldl (fun _ _ h => .ite h.setCore h)

theorem Kept.wakeCores (h : Kept L r s)
    (hl : (Foot.field HM_STATUS_CORE_STATE.id).Within L := by exact .mono ‹_› ⟨by decide +kernel⟩) :
    Kept L r (wakeCores s) :=
  h.foldl (fun _ _ h => .ite h.setCore h)

theorem Kept.setStep {x} (h : Kept L r s) (hl : (Foot.part .pw).Within L := by exact .mono ‹_› ⟨by decide +kernel⟩) :
    Kept L r (setStep x s) :=
  h.updPower

@[irreducible] def Foot.powerAdvance : Foot := Foot.bankGroups ||| Foot.activateGroup ||| Foot.startBatch ||| Foot.endRequest
    ||| Foot.restChans ||| Foot.field HM_STATUS_CORE_STATE.id ||| Foot.field PW_STATUS_DEVICE_STATE.id

theorem Kept.powerAdvance {a} (h : Kept L r s) (hl : Foot.powerAdvance.Within L := by exact .mono ‹_› ⟨by decide +kernel⟩) :
    Kept L r (powerAdvance a s) := by
  induction a generalizing s with
  | zero => exact h
  | succ k ih =>
    unfold Machine.powerAdvance
    split
    · exact h
    · extract_lets back
      split
      · exact .ite h (.ite (ih h.restChans.setStep) (ih h.setStep.startBatch))
      · exact .ite h (.ite (ih h.setStep.startBatch) h.endRequest)
      · refine .ite h (.ite (ih h.wakeChans.wakeGroups.wakeCores.setStep) (.ite ?_ (.ite h.endRequest (ih h.setStep))))
        exact h.bankGroups.restCores.updPower.wr.endRequest
      · exact .ite h (ih h.setStep)
      · refine .ite h ?_
        split
        exacts [(Kept.ite h.wr h).endRequest, (Kept.ite h.wr h).endRequest]

theorem Kept.powerGo (h : Kept L r s) (hl : Foot.powerAdvance.Within L := by exact .mono ‹_› ⟨by decide +kernel⟩) :
    Kept L r (powerGo s) :=
  h.powerAdvance

@[irreducible] def Foot.powerAbort : Foot := Foot.powerAdvance ||| Foot.recordPower

theorem Kept.powerAbort {code injected} (h : Kept L r s)
    (hl : Foot.powerAbort.Within L := by exact .mono ‹_› ⟨by decide +kernel⟩) :
    Kept L r (powerAbort code injected s) := by
  unfold Machine.powerAbort
  split
  · exact h
  · exact .ite h (((h.recordPower.raiseInj.updPower.foldl (fun _ _ h => h.setPstate.reopen)).updPower.foldl (fun _ _ h =>
      h.beginChange.wr)).foldl (fun _ _ h => h.rampUp)).setStep.powerGo

theorem Kept.powerWatch (h : Kept L r s) (hl : Foot.powerAbort.Within L := by exact .mono ‹_› ⟨by decide +kernel⟩) :
    Kept L r (powerWatch s) := by
  unfold Machine.powerWatch
  split
  · exact h
  · refine .ite h ?_
    split
    · exact h.powerAbort
    · exact h

@[irreducible] def Foot.endChange : Foot := Foot.powerAdvance ||| Foot.darkRegion

theorem Kept.endChange {k opens} (h : Kept L r s) (hl : Foot.endChange.Within L := by exact .mono ‹_› ⟨by decide +kernel⟩) :
    Kept L r (endChange k opens s) :=
  h.updPower.andThen fun h => (Kept.ite h.darkRegion h.updRegion.setPstate).andThen fun h => (Kept.ite h.refreshLines.reopen
    h).andThen fun h => (Kept.ite h h.startBatch).powerGo

theorem Kept.biasSettled {k} (h : Kept L r s) (hl : Foot.endChange.Within L := by exact .mono ‹_› ⟨by decide +kernel⟩) :
    Kept L r (biasSettled k s) :=
  .ite h (.ite h.endChange (h.rampUp.andThen fun h => .ite h.endChange h))

theorem Kept.rampsGo (h : Kept L r s) (hl : Foot.endChange.Within L := by exact .mono ‹_› ⟨by decide +kernel⟩) :
    Kept L r (rampsGo s) := by
  unfold Machine.rampsGo
  refine .ite h ?_
  refine h.foldl fun _ t2 h1 => ?_
  split
  · exact h1
  · exact .ite h1 (.ite h1.endChange h1.stopRegion)

theorem Kept.powerTick (h : Kept L r s) (hl : Foot.powerAbort.Within L := by exact .mono ‹_› ⟨by decide +kernel⟩) :
    Kept L r (powerTick s) :=
  h.powerWatch.powerGo

/-! The footprints of Machine/SlicePort. -/

theorem Kept.updSlice {i f} (h : Kept L r s) (hl : (Foot.part .slices).Within L := by exact .mono ‹_› ⟨by decide +kernel⟩) :
    Kept L r (State.updSlice s i f) :=
  h.updSlices

/-! The footprints of Machine/Fabric. -/

theorem Kept.dropDone {t} (h : Kept L r t) (hl : (Foot.part .slices).Within L := by exact .mono ‹_› ⟨by decide +kernel⟩) :
    Kept L r (dropDone s t) := by
  refine h.foldl fun _ _ k => ?_
  split
  · exact .ite k.updSlice k
  · exact k

@[irreducible] def Foot.fabricCycle : Foot := Foot.endChange ||| Foot.part .tick

theorem Kept.fabricCycle (h : Kept L r s) (hl : Foot.fabricCycle.Within L := by exact .mono ‹_› ⟨by decide +kernel⟩) :
    Kept L r (fabricCycle s) :=
  ((h.foldl (fun _ _ h => h.updRegion)).dropDone.foldl (fun _ _ h => .ite h h.refreshStale)).updTick.rampsGo

@[irreducible] def Foot.passTo : Foot := Foot.fabricCycle ||| Foot.padServe ||| Foot.passOffsets

theorem Kept.passTo {o} (h : Kept L r s) (hl : Foot.passTo.Within L := by exact .mono ‹_› ⟨by decide +kernel⟩) :
    Kept L r (passTo o s) :=
  (Kept.ite (h.foldl (fun _ _ h => h.fabricCycle.advanceTo)) h.updTick.advanceTo).padTick

theorem Kept.windowStart {e} (h : Kept L r s) (hl : Foot.passTo.Within L := by exact .mono ‹_› ⟨by decide +kernel⟩) :
    Kept L r (windowStart e s) :=
  .ite h.passTo h

theorem Kept.windowEnd {w} (h : Kept L r s) (hl : Foot.passTo.Within L := by exact .mono ‹_› ⟨by decide +kernel⟩) :
    Kept L r (windowEnd w s) :=
  .ite h.passTo h

/-! The footprints of Machine/Catch. -/

@[irreducible] def Foot.burstEdges : Foot := Foot.burstStart ||| Foot.laneEnded

theorem Kept.burstEdges {n i d} (h : Kept L r s) (hl : Foot.burstEdges.Within L := by exact .mono ‹_› ⟨by decide +kernel⟩) :
    Kept L r (burstEdges n i d s) := by
  unfold Machine.burstEdges
  split
  · exact h
  · exact .ite h ((Kept.ite h.burstStart h).andThen fun h => .ite h.laneEnded h)

theorem Kept.delayUse {n i} (h : Kept L r s) (hl : Foot.delayFault.Within L := by exact .mono ‹_› ⟨by decide +kernel⟩) :
    Kept L r (delayUse n i s) :=
  .ite h.delayFault h

theorem Kept.noteWordTime {n i r'} (h : Kept L r s)
    (hl : (Foot.part .catches).Within L := by exact .mono ‹_› ⟨by decide +kernel⟩) :
    Kept L r (noteWordTime n i r' s) :=
  h.updCatch

@[irreducible] def Foot.compareWord : Foot := Foot.takeFail ||| Foot.part .tick ||| .of [CB_INJECT_INJ_DISAGREE,
    COMPARED_COUNT, DISAGREE_COUNT_COUNT] []

theorem Kept.compareWord {n i d a flip flags} (h : Kept L r s)
    (hl : Foot.compareWord.Within L := by exact .mono ‹_› ⟨by decide +kernel⟩) :
    Kept L r (compareWord n i d a flip flags s) := by
  unfold Machine.compareWord
  split
  next s1 e2 =>
  have k1 : Kept L r s1 := .snd h.takeInj e2
  exact k1.incWrap.andThen fun h => (Kept.ite h.markFrame.setSeen h).andThen fun h => (Kept.ite
      h.raiseInj.markFrame.incWrap.setSeen h).andThen fun h => .ite h.closeLane h.takeFail

@[irreducible] def Foot.missingWord : Foot := Foot.compareWord ||| Foot.delayFault ||| Foot.burstEdges ||| Foot.field
    MISSING_COUNT.id

theorem Kept.missingWord {n i r' control flip} (h : Kept L r s)
    (hl : Foot.missingWord.Within L := by exact .mono ‹_› ⟨by decide +kernel⟩) :
    Kept L r (missingWord n i r' control flip s) := by
  unfold Machine.missingWord
  extract_lets due pf s1
  have k1 : Kept L r s1 := h.noteWordTime
  refine .delayUse ?_
  clear_value due
  split
  · exact k1
  · exact .ite k1.burstEdges (k1.burstEdges.incWrap.setSeen.andThen fun h => .ite h (.ite h.closeLane h.compareWord))

@[irreducible] def Foot.elasticSlip : Foot := Foot.missingWord ||| .of [LG_COUNTS_SLIPS, LN_STATUS_ELASTIC] []

theorem Kept.elasticSlip {g i overflow injected} (h : Kept L r s)
    (hl : Foot.elasticSlip.Within L := by exact .mono ‹_› ⟨by decide +kernel⟩) :
    Kept L r (elasticSlip g i overflow injected s) :=
  h.incSat.wr.raiseInj.andThen fun h => .ite h.missingWord h

@[irreducible] def Foot.performLock : Foot := Foot.loseLock ||| Foot.field LG_INJECT_INJ_LOCK.id

theorem Kept.performLock {g} (h : Kept L r s) (hl : Foot.performLock.Within L := by exact .mono ‹_› ⟨by decide +kernel⟩) :
    Kept L r (performLock g s) := by
  unfold Machine.performLock
  extract_lets
  split
  next s1 e2 =>
  have k1 : Kept L r s1 := .snd h.takeInj e2
  exact .ite k1.loseLock k1

@[irreducible] def Foot.performSlip : Foot := Foot.elasticSlip ||| Foot.part .drawn ||| Foot.field LG_INJECT_INJ_SLIP.id

theorem Kept.performSlip {g} (h : Kept L r s) (hl : Foot.performSlip.Within L := by exact .mono ‹_› ⟨by decide +kernel⟩) :
    Kept L r (performSlip g s) := by
  unfold Machine.performSlip
  extract_lets
  split
  next s1 e2 =>
  have k1 : Kept L r s1 := .snd h.takeInj e2
  refine .ite ?_ k1
  split
  next s3 e4 =>
  have k3 : Kept L r s3 := .snd k1.draw e4
  exact k3.elasticSlip

@[irreducible] def Foot.execResponseWord : Foot := Foot.missingWord ||| Foot.field UNCOMPARED_COUNT.id

theorem Kept.execResponseWord {n i r' word flip} (h : Kept L r s)
    (hl : Foot.execResponseWord.Within L := by exact .mono ‹_› ⟨by decide +kernel⟩) :
    KeptOut L r (execResponseWord n i r' word flip s) := by
  unfold Machine.execResponseWord
  extract_lets due pf s1 s2
  have k1 : Kept L r s1 := h.noteWordTime
  have k2 : Kept L r s2 := by
    unfold s2
    clear_value due
    split
    exacts [k1, k1.burstEdges]
  refine .ite (.next h) (.ite (.next h.missingWord) (.next (.delayUse (.ite k2.incWrap.setSeen ?_))))
  clear_value due
  split
  · exact k2
  · exact .ite k2.closeLane k2.compareWord

theorem Kept.execMissingResponse {n i r' control} (h : Kept L r s)
    (hl : Foot.missingWord.Within L := by exact .mono ‹_› ⟨by decide +kernel⟩) :
    KeptOut L r (execMissingResponse n i r' control s) :=
  .next (.ite h.missingWord h)

theorem Kept.upsetDelays {n work bad} (h : Kept L r s)
    (hl : (Foot.part .catches).Within L := by exact .mono ‹_› ⟨by decide +kernel⟩) :
    Kept L r (upsetDelays n work bad s) :=
  h.updCatch

@[irreducible] def Foot.execDelayShadowCheck : Foot := Foot.passTo ||| Foot.delayFault

theorem Kept.execDelayShadowCheck {n upset bad} (h : Kept L r s)
    (hl : Foot.execDelayShadowCheck.Within L := by exact .mono ‹_› ⟨by decide +kernel⟩) :
    KeptOut L r (execDelayShadowCheck n upset bad s) :=
  .ite (.next h) (.next ((Kept.ite h.passTo h).upsetDelays.foldl (fun _ _ h => .ite h.delayFault h)))

@[irreducible] def Foot.execRecordToFlow : Foot := Foot.flushOpen ||| Foot.recToFlow

theorem Kept.execRecordToFlow {n} (h : Kept L r s)
    (hl : Foot.execRecordToFlow.Within L := by exact .mono ‹_› ⟨by decide +kernel⟩) :
    KeptOut L r (execRecordToFlow n s) := by
  unfold Machine.execRecordToFlow
  split
  · exact .next h
  · exact .ite (.next h) (.next h.updCatch.recToFlow.noteFifo.flushOpen)

@[irreducible] def Foot.execPendingSummaryRelease : Foot := Foot.flushOpen ||| Foot.recToFlow ||| Foot.field
    CB_STATUS_SUMMARY_PENDING.id

theorem Kept.execPendingSummaryRelease {n} (h : Kept L r s)
    (hl : Foot.execPendingSummaryRelease.Within L := by exact .mono ‹_› ⟨by decide +kernel⟩) :
    KeptOut L r (execPendingSummaryRelease n s) := by
  unfold Machine.execPendingSummaryRelease
  extract_lets s1
  have k1 : Kept L r s1 := h.wr.updCatch
  split
  · exact .next h
  · exact .ite (.next k1.recToFlow.flushOpen) (.next h)

@[irreducible] def Foot.execBurstEnd : Foot := Foot.noteFifo ||| Foot.part .ev

theorem Kept.execBurstEnd {n} (h : Kept L r s) (hl : Foot.execBurstEnd.Within L := by exact .mono ‹_› ⟨by decide +kernel⟩) :
    KeptOut L r (execBurstEnd n s) := by
  unfold Machine.execBurstEnd
  extract_lets
  split
  · exact .next h
  · extract_lets s2
    have k2 : Kept L r s2 := h.updCatch
    split
    next s3 e4 =>
    have k3 : Kept L r s3 := .snd k2.mkRec e4
    exact .next k3.createRec

@[irreducible] def Foot.execCmRdWrite : Foot := Foot.part .catches ||| .of [CB_STATUS_RD_ERR, CB_STATUS_RING_FULL,
    CM_RD_INDEX] []

theorem Kept.execCmRdWrite {n v} (h : Kept L r s)
    (hl : Foot.execCmRdWrite.Within L := by exact .mono ‹_› ⟨by decide +kernel⟩) :
    KeptOut L r (execCmRdWrite n v s) := by
  unfold Machine.execCmRdWrite
  exact .ite (.next h.wr) (.next (.ite h.wr.setb.updCatch h.wr.setb))

theorem Kept.execStrobeRelease {n j} (h : Kept L r s)
    (hl : (Foot.part .catches).Within L := by exact .mono ‹_› ⟨by decide +kernel⟩) :
    KeptOut L r (execStrobeRelease n j s) :=
  .next h.updCatch

@[irreducible] def Foot.execCbClearCounts : Foot := .of [BURST_COUNT_BURSTS, COMPARED_COUNT, DELAY_FAULT_COUNT_COUNT,
    DISAGREE_COUNT_COUNT, FAIL_BITS_COUNT, FAIL_WORDS_COUNT, MISSING_COUNT, RECORDS_MADE_RECORDS, SUMMARY_COUNT_COUNT,
    UNCOMPARED_COUNT, WRITE_ERR_REFUSED_WRITES, WRITE_ERR_WRONG_CHANNEL] []

theorem Kept.execCbClearCounts {n} (h : Kept L r s)
    (hl : Foot.execCbClearCounts.Within L := by exact .mono ‹_› ⟨by decide +kernel⟩) :
    KeptOut L r (execCbClearCounts n s) :=
  .next h.clrAllInst

theorem Kept.execFailPortSnapshot {n} (h : Kept L r s)
    (hl : (Foot.part .catches).Within L := by exact .mono ‹_› ⟨by decide +kernel⟩) :
    KeptOut L r (execFailPortSnapshot n s) :=
  .ite (.next h) (.next h.updCatch)

@[irreducible] def Foot.execCatchFlushWindow : Foot := Foot.passTo ||| Foot.flushOpen ||| Foot.slotConflict ||| .of
    [CB_STATUS_CONFIG_BAD, WRITE_ERR_WRONG_CHANNEL] []

theorem Kept.execCatchFlushWindow {k lines} (h : Kept L r s)
    (hl : Foot.execCatchFlushWindow.Within L := by exact .mono ‹_› ⟨by decide +kernel⟩) :
    KeptOut L r (execCatchFlushWindow k lines s) := by
  unfold Machine.execCatchFlushWindow
  split
  · exact .next h
  · extract_lets s1 _ _ s2
    have k1 : Kept L r s1 := h.windowStart
    have k2 : Kept L r s2 := by
      unfold s2
      split
      · exact k1.closeFlush
      · exact k1
    exact .ite (.next k1.wr.openWin) (.ite (.next k1.incSat.openWin) (.next k2.meetsAt.openWin.updCatch.flushOpen))

/-! The footprints of Machine/InjectOps. -/

@[irreducible] def Foot.fireSensors : Foot := Foot.emberWipe ||| .of [TP_COUNTS_COUNTS, TP_LAST_SENSORS, TP_LAST_TICK_TICK]
    []

theorem Kept.fireSensors {m injected} (h : Kept L r s)
    (hl : Foot.fireSensors.Within L := by exact .mono ‹_› ⟨by decide +kernel⟩) :
    Kept L r (fireSensors m injected s) :=
  .ite h (h.foldl (fun _ _ h => .ite h.incByte h)).wr.wr.raiseInj.emberWipe

@[irreducible] def Foot.clearLogs : Foot := Foot.part .enc ||| .of [DETAIL_LOG_KEY_ID, DETAIL_LOG_OPERATION,
    DETAIL_LOG_RANGE, DETAIL_LOG_REASON, DETAIL_LOG_STREAM_ID, DETAIL_LOG_TICK, DETAIL_LOG_VALID, SP_DENY_LOG_CLASS,
    SP_DENY_LOG_KIND, SP_DENY_LOG_OFFSET, SP_DENY_LOG_STREAM_ID, SP_DENY_LOG_VALID] []

theorem Kept.clearLogs (h : Kept L r s) (hl : Foot.clearLogs.Within L := by exact .mono ‹_› ⟨by decide +kernel⟩) :
    Kept L r (clearLogs s) :=
  h.clrAll.updEngine.andThen fun h => .ite h.clrAll h

@[irreducible] def Foot.performDelay : Foot := Foot.part .catches ||| Foot.field CB_INJECT_INJ_DELAY.id

theorem Kept.performDelay {n} (h : Kept L r s) (hl : Foot.performDelay.Within L := by exact .mono ‹_› ⟨by decide +kernel⟩) :
    Kept L r (performDelay n s) := by
  unfold Machine.performDelay
  exact h.wr.updCatch

@[irreducible] def Foot.performNow : Foot := Foot.fireSensors ||| Foot.performSlip ||| Foot.performLock ||| Foot.performDelay
    ||| Foot.field TP_INJECT_INJ_SENSOR.id

theorem Kept.performNow {f i} (h : Kept L r s) (hl : Foot.performNow.Within L := by exact .mono ‹_› ⟨by decide +kernel⟩) :
    Kept L r (performNow f i s) :=
  .ite h.performDelay (.ite h.performLock (.ite h.performSlip (.ite h.wr.fireSensors h)))

@[irreducible] def Foot.discardInj : Foot := Foot.sequencerStep ||| .of [FI_LAST_DISCARD_OFFSET, FI_STATUS_DISCARDED] []

theorem Kept.discardInj {off a} (h : Kept L r s) (hl : Foot.discardInj.Within L := by exact .mono ‹_› ⟨by decide +kernel⟩) :
    Kept L r (discardInj off a s) := by
  induction a generalizing s with
  | zero => exact h
  | succ k ih =>
    unfold Machine.discardInj
    exact ih h.incSat.wr.raiseOnce

@[irreducible] def Foot.injField : Foot := Foot.performNow ||| Foot.discardInj

theorem Kept.injField {off i v f} (h : Kept L r s) (hf : (Foot.field f.id).Within L)
    (hl : Foot.injField.Within L := by exact .mono ‹_› ⟨by decide +kernel⟩) :
    Kept L r (injField off i v f s) := by
  unfold Machine.injField
  extract_lets
  split
  · exact h
  · exact .ite h (.ite (h.wr hf).performNow h.discardInj)

@[irreducible] def Foot.injWrite : Foot := Foot.injField ||| Foot.writeField ||| Foot.registers

theorem Kept.injWrite {r' i v} (h : Kept L r s) (hr : r' ∈ regTable)
    (hl : Foot.injWrite.Within L := by exact .mono ‹_› ⟨by decide +kernel⟩) :
    Kept L r (injWrite r' i v s) := by
  unfold Machine.injWrite
  have reg {f} (hf : f ∈ r'.fields) : (Foot.field f.id).Within L :=
    .mono (hl.mono ⟨by decide +kernel⟩) (Foot.field_within_registers hr hf)
  refine .foldl_mem (.foldl_mem h fun f hf _ k => .ite k (k.writeField (tickField_of_mem hr hf) (reg hf))) ?_
  exact fun f hf _ k => k.injField (reg hf)

theorem Kept.injCommand {f i v} (h : Kept L r s) (hl : Foot.injWrite.Within L := by exact .mono ‹_› ⟨by decide +kernel⟩) :
    Kept L r (injCommand f i v s) := by
  unfold Machine.injCommand
  split
  · exact h
  next e => exact .ite (h.injWrite (List.mem_of_find?_eq_some e)) h

theorem Kept.disarmAt {f i j} (h : Kept L r s) (hf : (Foot.field f.id).Within L := by exact .mono ‹_› ⟨by decide +kernel⟩)
    (hl : (Foot.field FI_STATUS_DISARMED.id).Within L := by exact .mono ‹_› ⟨by decide +kernel⟩) :
    Kept L r (disarmAt f i j s) :=
  .ite h (h.incSat.wr hf)

theorem Kept.disarmField {f} (h : Kept L r s) (hf : (Foot.field f.id).Within L := by exact .mono ‹_› ⟨by decide +kernel⟩)
    (hl : (Foot.field FI_STATUS_DISARMED.id).Within L := by exact .mono ‹_› ⟨by decide +kernel⟩) :
    Kept L r (disarmField f s) :=
  h.foldl fun _ _ h => h.foldl fun _ _ h => h.disarmAt hf

@[irreducible] def Foot.disarm : Foot := Foot.field FI_STATUS_DISARMED.id ||| Foot.of (injTable.flatMap (·.2)) []

theorem Kept.disarm (h : Kept L r s) (hl : Foot.disarm.Within L := by exact .mono ‹_› ⟨by decide +kernel⟩) :
    Kept L r (disarm s) := by
  have hi : (Foot.of (injTable.flatMap (·.2)) []).Within L := hl.mono ⟨by decide +kernel⟩
  exact h.foldl_mem fun e he _ k => .ite k <| k.foldl_mem fun f hf _ k =>
    k.disarmField (hi.mono (Foot.field_within_of (List.mem_flatMap.2 ⟨e, he, hf⟩))) (hl.mono ⟨by decide +kernel⟩)

theorem Kept.checkerResult {lost arg n fails injected} (h : Kept L r s)
    (hf : (Foot.field lost.id).Within L := by exact .mono ‹_› ⟨by decide +kernel⟩)
    (hl : Foot.sequencerStep.Within L := by exact .mono ‹_› ⟨by decide +kernel⟩) :
    Kept L r (checkerResult lost arg n fails injected s) :=
  .ite (h.setmbit hf).raiseInj (h.setmbit hf)

/-! The footprints of Machine/PinOps. -/

@[irreducible] def Foot.pinsGo : Foot := Foot.linkReset ||| Foot.linkDown ||| Foot.loseLock ||| Foot.field
    MS_STATUS_GATEWAY.id ||| Foot.field HI_STATUS_LINK_UP.id

theorem Kept.pinsGo (h : Kept L r s) (hl : Foot.pinsGo.Within L := by exact .mono ‹_› ⟨by decide +kernel⟩) :
    Kept L r (pinsGo s) :=
  .ite ((h.updDbg.linkReset.wr.refreshGateway.foldl (fun _ _ h => h.linkDown)).foldl (fun _ _ h => h.loseLock)) h

theorem Kept.takePins (h : Kept L r s) (hl : Foot.pinsGo.Within L := by exact .mono ‹_› ⟨by decide +kernel⟩) :
    Kept L r (takePins s) :=
  .ite h h.parkChannels.updDbg.pinsGo

@[irreducible] def Foot.returnPins : Foot := Foot.trainGroup ||| Foot.part .ddr

theorem Kept.returnPins (h : Kept L r s) (hl : Foot.returnPins.Within L := by exact .mono ‹_› ⟨by decide +kernel⟩) :
    Kept L r (returnPins s) :=
  h.updDbg.andThen fun h => (Kept.ite h h.unparkChannels).andThen fun h => .ite (h.foldl (fun _ _ h => .ite h.trainGroup h))
    h

/-! The footprints of Machine/SliceOps. -/

@[irreducible] def Foot.movePointers : Foot := .of [SL_PTR_P_W, SL_PTR_P_X, SL_PTR_P_Y] []

theorem Foot.ptrField_within {g} (hl : Foot.movePointers.Within L) : (Foot.field (ptrField g).id).Within L := by
  unfold ptrField
  split <;> exact hl.mono ⟨by decide +kernel⟩

theorem Kept.movePointers {i level stride} (h : Kept L r s)
    (hl : Foot.movePointers.Within L := by exact .mono ‹_› ⟨by decide +kernel⟩) :
    Kept L r (movePointers i level stride s) :=
  h.foldl fun _ _ h => h.wr (Foot.ptrField_within hl)

@[irreducible] def Foot.sliceCycles : Foot := Foot.part .slices ||| Foot.field SL_CYCLES_CYCLES.id

theorem Kept.sliceCycles {i n} (h : Kept L r s) (hl : Foot.sliceCycles.Within L := by exact .mono ‹_› ⟨by decide +kernel⟩) :
    Kept L r (sliceCycles i n s) :=
  h.incWrap.updSlice

theorem Kept.setIter {i level n} (h : Kept L r s)
    (hl : (Foot.field SL_ITER_ITER.id).Within L := by exact .mono ‹_› ⟨by decide +kernel⟩) :
    Kept L r (setIter i level n s) :=
  h.wr

@[irreducible] def Foot.arrive : Foot := Foot.movePointers ||| Foot.part .slices ||| Foot.field SL_ITER_ITER.id |||
    Foot.field SL_PTR_PC.id

theorem Kept.arrive {i pc a} (h : Kept L r s) (hl : Foot.arrive.Within L := by exact .mono ‹_› ⟨by decide +kernel⟩) :
    Kept L r (arrive i pc a s) := by
  induction a generalizing pc s with
  | zero => exact h.wr.updSlice
  | succ k ih =>
    unfold Machine.arrive
    split
    · exact h.wr.updSlice
    · exact .ite (.ite h.setIter.movePointers.wr.updSlice (ih h.setIter.movePointers.updSlice)) h.wr.updSlice

theorem Kept.retire {i} (h : Kept L r s) (hl : Foot.arrive.Within L := by exact .mono ‹_› ⟨by decide +kernel⟩) :
    Kept L r (retire i s) :=
  h.arrive

@[irreducible] def Foot.sliceFault : Foot := Foot.sequencerStep ||| Foot.part .drawn ||| .of [SL_FAULT_INFO_FAULTS,
    SL_FAULT_INFO_FAULT_CODE, SL_FAULT_INFO_FAULT_PC, SL_FAULT_INFO_PARITY_ERRS] []

theorem Kept.sliceFault {i code injected} (h : Kept L r s)
    (hl : Foot.sliceFault.Within L := by exact .mono ‹_› ⟨by decide +kernel⟩) :
    Kept L r (sliceFault i code injected s) := by
  unfold Machine.sliceFault
  split
  next s1 e =>
  have k1 : Kept L r s1 := by split at e <;> cases e; exacts [h.draw, h]
  exact (Kept.ite k1.incSat k1).wr.wr.incSat.wr.raiseInj

@[irreducible] def Foot.fetchIns : Foot := Foot.sliceFault ||| Foot.field SL_INJECT_INJ_PROG.id

theorem Kept.fetchIns {i opc x t} (h : Kept L r s) (e : fetchIns i opc s = some (x, t))
    (hl : Foot.fetchIns.Within L := by exact .mono ‹_› ⟨by decide +kernel⟩) :
    Kept L r t := by
  unfold Machine.fetchIns at e
  split at e
  · cases e
  · dsimp only at e
    split at e
    · cases e
      exact h.sliceFault
    · have k1 := h.takeInj (f := SL_INJECT_INJ_PROG) (i := i) (occasion := true)
      split at e
      · cases e
        exact k1.sliceFault
      · split at e
        · cases e
          exact k1.sliceFault
        · split at e
          · cases e
            exact k1
          · cases e

theorem Kept.readOperand {i p} (h : Kept L r s)
    (hl : (Foot.field SL_INJECT_INJ_OPMEM.id).Within L := by exact .mono ‹_› ⟨by decide +kernel⟩) :
    Kept L r (readOperand i p s).2.2 := by
  unfold Machine.readOperand
  extract_lets
  split
  next s1 e2 =>
  have k1 : Kept L r s1 := .snd h.takeInj e2
  exact .ite_snd₂ k1 k1

@[irreducible] def Foot.loadSide : Foot := Foot.sliceFault ||| Foot.field SL_INJECT_INJ_OPMEM.id

theorem Kept.loadSide {i src ptr o} (h : Kept L r s) (e : loadSide i src ptr s = o)
    (hl : Foot.loadSide.Within L := by exact .mono ‹_› ⟨by decide +kernel⟩) :
    Kept L r (o.elim id (·.2)) := by
  subst e
  unfold Machine.loadSide
  split
  · split
    next e => exact .snd₂ h.readOperand e
    next e => exact (Kept.snd₂ h.readOperand e).sliceFault
  · split
    next w t _ => exact show Kept L r (s.updSlice i fun u => { u with inFifo := t }) from h.updSlice
    · exact h
  · exact h

@[irreducible] def Foot.runMac : Foot := Foot.loadSide ||| Foot.arrive ||| Foot.sliceCycles ||| .of [SL_MACS_MACS,
    SL_STALL_STALL_IN, SL_STATUS_OVF0, SL_STATUS_OVF1] []

theorem Kept.runMac {i ins} (h : Kept L r s) (hl : Foot.runMac.Within L := by exact .mono ‹_› ⟨by decide +kernel⟩) :
    Kept L r (runMac i ins s) := by
  unfold Machine.runMac
  extract_lets
  refine .ite h.sliceCycles.incSat ?_
  split
  next s1 e2 =>
    have k1 : Kept L r s1 := h.loadSide e2
    exact k1
  next s3 e4 =>
    have k3 : Kept L r s3 := h.loadSide e4
    split
    next s5 e6 =>
      have k5 : Kept L r s5 := k3.loadSide e6
      exact .ite k5.updSlice k5
    next s7 e8 =>
      have k7 : Kept L r s7 := k3.loadSide e8
      exact k7.updSlice.andThen fun h => (Kept.ite h.wr h).andThen fun h => (Kept.ite h.wr
          h).sliceCycles.incWrap.updSlice.retire

@[irreducible] def Foot.runStore : Foot := Foot.arrive ||| Foot.sliceCycles ||| .of [SL_STALL_STALL_OUT, SL_STATUS_STORE_SAT]
    []

theorem Kept.runStore {i ins} (h : Kept L r s) (hl : Foot.runStore.Within L := by exact .mono ‹_› ⟨by decide +kernel⟩) :
    Kept L r (runStore i ins s) :=
  h.sliceCycles.andThen fun h => .ite h.sliceCycles.incSat ((Kept.ite h.wr h).andThen fun h => (Kept.ite h.updSlice
    h.updSlice).andThen fun h => (Kept.ite h.updSlice h).sliceCycles.retire)

@[irreducible] def Foot.runRepeat : Foot := Foot.sliceFault ||| Foot.field SL_ITER_ITER.id ||| Foot.field SL_PTR_PC.id

theorem Kept.runRepeat {i ins} (h : Kept L r s) (hl : Foot.runRepeat.Within L := by exact .mono ‹_› ⟨by decide +kernel⟩) :
    Kept L r (runRepeat i ins s) :=
  .ite h.sliceFault (.ite h.sliceFault h.setIter.wr.updSlice)

@[irreducible] def Foot.runSetp : Foot := Foot.arrive ||| Foot.sliceCycles

theorem Kept.runSetp {i ins} (h : Kept L r s) (hl : Foot.runSetp.Within L := by exact .mono ‹_› ⟨by decide +kernel⟩) :
    Kept L r (runSetp i ins s) :=
  (h.wr (Foot.ptrField_within (hl.mono ⟨by decide +kernel⟩))).sliceCycles.retire

@[irreducible] def Foot.runHalt : Foot := Foot.sliceCycles ||| Foot.field SL_STATUS_STATE.id

theorem Kept.runHalt {i} (h : Kept L r s) (hl : Foot.runHalt.Within L := by exact .mono ‹_› ⟨by decide +kernel⟩) :
    Kept L r (runHalt i s) :=
  h.sliceCycles.updSlice.wr

@[irreducible] def Foot.runNext : Foot := Foot.runMac ||| Foot.fetchIns ||| Foot.runStore

theorem Kept.runNext {i} (h : Kept L r s) (hl : Foot.runNext.Within L := by exact .mono ‹_› ⟨by decide +kernel⟩) :
    Kept L r (runNext i s) := by
  unfold Machine.runNext
  extract_lets opc
  split
  · exact h
  next e => exact h.fetchIns e
  next t e =>
  have k1 : Kept L r t := h.fetchIns e
  clear_value opc
  split
  · exact k1.runMac
  · exact k1.runRepeat
  · exact k1.runStore
  · exact k1.runSetp
  · exact k1.runHalt
  · exact k1.sliceCycles.retire

theorem Kept.ignoreCmd {i} (h : Kept L r s)
    (hl : (Foot.field SL_STATUS_CMD_IGNORED.id).Within L := by exact .mono ‹_› ⟨by decide +kernel⟩) :
    Kept L r (ignoreCmd i s) :=
  h.wr

/-! The footprints of Machine/DebugOps. -/

theorem Kept.updDb {f} (h : Kept L r s) (hl : (Foot.part .dbg).Within L := by exact .mono ‹_› ⟨by decide +kernel⟩) :
    Kept L r (updDb f s) :=
  h.updDbg

@[irreducible] def Foot.emberFollows : Foot := Foot.part .dbg ||| Foot.field SP_STATUS_EMBER_MODE.id

theorem Kept.emberFollows {op} (h : Kept L r s) (hl : Foot.emberFollows.Within L := by exact .mono ‹_› ⟨by decide +kernel⟩) :
    Kept L r (emberFollows op s) :=
  .ite (.ite h.wr.updDb h.wr) (.ite h.wr.updDb h)

@[irreducible] def Foot.selectIr : Foot := Foot.pinsGo ||| Foot.returnPins ||| Foot.emberFollows ||| Foot.field
    DB_STATUS_INSTRUCTION.id

theorem Kept.selectIr {op} (h : Kept L r s) (hl : Foot.selectIr.Within L := by exact .mono ‹_› ⟨by decide +kernel⟩) :
    Kept L r (selectIr op s) :=
  h.wr.emberFollows.andThen fun h => .ite h.takePins h.returnPins

@[irreducible] def Foot.loadIr : Foot := Foot.selectIr ||| Foot.field DB_STATUS_PIN_REFUSED.id

theorem Kept.loadIr {op} (h : Kept L r s) (hl : Foot.loadIr.Within L := by exact .mono ‹_› ⟨by decide +kernel⟩) :
    Kept L r (loadIr op s) :=
  h.updDb.andThen fun h => .ite h.wr.selectIr h.selectIr

theorem Kept.captureDr {v} (h : Kept L r s) (hl : (Foot.part .dbg).Within L := by exact .mono ‹_› ⟨by decide +kernel⟩) :
    Kept L r (captureDr v s) :=
  h.updDb

@[irreducible] def Foot.debugParity : Foot := Foot.sequencerStep ||| Foot.field SL_FAULT_INFO_PARITY_ERRS.id

theorem Kept.debugParity {i code bad} (h : Kept L r s)
    (hl : Foot.debugParity.Within L := by exact .mono ‹_› ⟨by decide +kernel⟩) :
    Kept L r (debugParity i code bad s) :=
  .ite h.incSat.raise h

@[irreducible] def Foot.sliceDebug : Foot := Foot.debugParity ||| Foot.sliceCycles ||| Foot.field SL_STEAL_STOLEN.id

theorem Kept.sliceDebug {a write data} (h : Kept L r s)
    (hl : Foot.sliceDebug.Within L := by exact .mono ‹_› ⟨by decide +kernel⟩) :
    Kept L r (sliceDebug a write data s).2.2 := by
  unfold Machine.sliceDebug
  split
  · exact h
  · extract_lets s1 s2 u
    have k1 : Kept L r s1 := h.incWrap
    have k2 : Kept L r s2 := .ite k1.sliceCycles k1
    refine .ite_snd₂ h (.ite_snd₂ h ?_)
    clear_value s2
    split
    · exact .triple k2.updSlice
    · exact .triple k2.debugParity
    · exact .triple k2.updSlice
    · exact .triple k2.debugParity

theorem Kept.flyMem {code v due} (h : Kept L r s)
    (hl : (Foot.part .dbg).Within L := by exact .mono ‹_› ⟨by decide +kernel⟩) :
    Kept L r (flyMem code v due s) :=
  h.updDb

theorem Kept.landDram {write a data} (h : Kept L r s)
    (hl : Foot.blockRead.Within L := by exact .mono ‹_› ⟨by decide +kernel⟩) :
    Kept L r (landDram write a data s) := by
  unfold Machine.landDram
  refine .ite h.updDb ?_
  split
  next s1 e1 =>
  have k1 : Kept L r s1 := by
    refine .snd₂ (.ite_snd₂ ?_ ?_) e1
    · split
      next e => exact .snd h.blockWrite e
    · split
      next e => exact .snd h.blockRead e
  exact k1.flyMem

@[irreducible] def Foot.landMem : Foot := Foot.blockRead ||| Foot.padAccess ||| Foot.sliceDebug ||| Foot.borrowFrames

theorem Kept.landMem {write space a data} (h : Kept L r s)
    (hl : Foot.landMem.Within L := by exact .mono ‹_› ⟨by decide +kernel⟩) :
    Kept L r (landMem write space a data s) := by
  unfold Machine.landMem
  extract_lets
  split
  · exact h.landDram
  · refine .ite h.flyMem ?_
    split
    next s1 e2 =>
      have k1 : Kept L r s1 := .snd h.padAccess e2
      exact k1.flyMem
    next s3 e4 =>
      have k3 : Kept L r s3 := .snd h.padAccess e4
      exact k3.flyMem
  · refine .ite h.flyMem ?_
    split
    · exact .ite h.flyMem h.borrowFrames.updDb
    · exact h.borrowFrames.updDb
  · split
    next s5 e6 =>
    have k5 : Kept L r s5 := .snd₂ h.sliceDebug e6
    exact k5.flyMem

theorem Kept.fetchFrame (h : Kept L r s) (hl : (Foot.part .dbg).Within L := by exact .mono ‹_› ⟨by decide +kernel⟩) :
    Kept L r (fetchFrame s) := by
  unfold Machine.fetchFrame
  split
  · exact h
  · exact h.updDb

@[irreducible] def Foot.daEnd : Foot := Foot.part .dbg ||| .of [DA_DATA_DATA, DA_STATUS_BUSY, DA_STATUS_CODE] []

theorem Kept.daEnd {tap code data} (h : Kept L r s) (hl : Foot.daEnd.Within L := by exact .mono ‹_› ⟨by decide +kernel⟩) :
    Kept L r (daEnd tap code data s) := by
  unfold Machine.daEnd
  extract_lets s1
  have k1 : Kept L r s1 := h.wr.wr
  refine .ite h.updDb ?_
  split
  · exact k1.wr
  · exact k1

theorem Kept.writeSliceReg {i a v} (h : Kept L r s) (hl : Foot.arrive.Within L := by exact .mono ‹_› ⟨by decide +kernel⟩) :
    Kept L r (writeSliceReg i a v s) := by
  unfold Machine.writeSliceReg
  split
  · exact h.updSlice
  · exact h.updSlice
  · exact h.updSlice
  · exact h.updSlice
  · exact h.updSlice
  · exact h.updSlice
  · exact h.foldFields fun _ _ hf k => k.wr hf
  · exact h.wr
  · exact h

theorem Kept.sliceCommand {k t' op a v} (h : Kept L r s)
    (hl : Foot.runNext.Within L := by exact .mono ‹_› ⟨by decide +kernel⟩) :
    Kept L r (sliceCommand k t' op a v s).2.2 := by
  unfold Machine.sliceCommand
  extract_lets
  split
  · exact h.haltSlice
  · exact .ite_snd₂ h.wr.runNext.haltSlice h
  · exact h.releaseSlice
  · split
    · exact h
    · exact h
  · exact .ite_snd₂ h (.ite_snd₂ h.writeSliceReg h)
  · exact h

@[irreducible] def Foot.attachBit : Foot := Foot.powerAbort ||| Foot.field DA_ATTACHED_REGIONS.id

theorem Kept.attachBit {k t' op} (h : Kept L r s) (hl : Foot.attachBit.Within L := by exact .mono ‹_› ⟨by decide +kernel⟩) :
    Kept L r (attachBit k t' op s) := by
  unfold Machine.attachBit
  extract_lets s1 s2
  have k1 : Kept L r s1 := h.updDb
  have k2 : Kept L r s2 := h.releaseSlices.updDb
  split
  · exact k1.setmbit.powerWatch
  · exact k2.setmbit
  · exact h

@[irreducible] def Foot.daCommand : Foot := Foot.attachBit ||| Foot.runNext ||| Foot.daEnd

theorem Kept.daCommand {tap k t' op a v} (h : Kept L r s)
    (hl : Foot.daCommand.Within L := by exact .mono ‹_› ⟨by decide +kernel⟩) :
    Kept L r (daCommand tap k t' op a v s) := by
  unfold Machine.daCommand
  extract_lets s1 s2 s3
  have k1 : Kept L r s1 := h.attachBit
  have k2 : Kept L r s2 := .ite k1.updDb (.ite k1.updDb k1)
  have k3 : Kept L r s3 := .ite k2 k2.wr
  refine .ite h ?_
  refine .ite h.daEnd ?_
  refine .ite h.daEnd ?_
  refine .ite ?_ k3.updDb
  split
  next s4 e5 =>
  have k4 : Kept L r s4 := .snd₂ k1.sliceCommand e5
  exact k4.daEnd

@[irreducible] def Foot.daWrite : Foot := Foot.daCommand ||| .of [DA_CMD_ADDR, DA_CMD_OP, DA_CMD_REGION, DA_CMD_TARGET] []

theorem Kept.daWrite {k t' op a} (h : Kept L r s) (hl : Foot.daWrite.Within L := by exact .mono ‹_› ⟨by decide +kernel⟩) :
    Kept L r (daWrite k t' op a s) :=
  .ite h h.wr.wr.wr.wr.daCommand

theorem Kept.daFinish {code data} (h : Kept L r s) (hl : Foot.daEnd.Within L := by exact .mono ‹_› ⟨by decide +kernel⟩) :
    Kept L r (daFinish code data s) := by
  unfold Machine.daFinish
  split
  · exact h
  · exact h.updDb.daEnd

theorem Kept.runRequest {f} (h : Kept L r s) (hl : (Foot.part .dbg).Within L := by exact .mono ‹_› ⟨by decide +kernel⟩) :
    Kept L r (runRequest f s) :=
  .ite h.updDb h

@[irreducible] def Foot.latchHalt : Foot := Foot.endUnstarted ||| Foot.part .dbg ||| Foot.field DB_STATUS_RC_STATE.id

theorem Kept.latchHalt (h : Kept L r s) (hl : Foot.latchHalt.Within L := by exact .mono ‹_› ⟨by decide +kernel⟩) :
    Kept L r (latchHalt s) :=
  h.wr.updDb.foldl (fun _ _ h => .ite h h.stopReel)

@[irreducible] def Foot.clearDebugCounts : Foot := .of [EC_HITS_COUNT, NC_HITS_COUNT, SQ_COUNT_HITS, TC_HITS_COUNT] []

theorem Kept.clearDebugCounts (h : Kept L r s)
    (hl : Foot.clearDebugCounts.Within L := by exact .mono ‹_› ⟨by decide +kernel⟩) :
    Kept L r (clearDebugCounts s) :=
  h.clrAll

@[irreducible] def Foot.armSequencer : Foot := .of [DB_CTRL_SEQ_ARM, DB_STATUS_SEQ_STATE, SQ_COUNT_HITS] []

theorem Kept.armSequencer {on} (h : Kept L r s) (hl : Foot.armSequencer.Within L := by exact .mono ‹_› ⟨by decide +kernel⟩) :
    Kept L r (armSequencer on s) :=
  .ite h (.ite h.wr.wr.clr h.setb)

/-! The footprints of Machine/Enc. -/

theorem Kept.badField (h : Kept L r s) (hl : (Foot.part .drawn).Within L := by exact .mono ‹_› ⟨by decide +kernel⟩) :
    Kept L r (badField s).2 := by
  unfold Machine.badField
  split
  next s1 e2 =>
  have k1 : Kept L r s1 := .snd h.draw e2
  exact k1

@[irreducible] def Foot.execKeyLoad : Foot := Foot.refuseKey ||| Foot.field EN_INJECT_INJ_REFUSE.id ||| Foot.part .drawn |||
    Foot.field KEY_STATE_STATE.id

theorem Kept.execKeyLoad {ring} (h : Kept L r s) (hl : Foot.execKeyLoad.Within L := by exact .mono ‹_› ⟨by decide +kernel⟩) :
    KeptOut L r (execKeyLoad ring s) := by
  unfold Machine.execKeyLoad
  split
  · exact .next h
  · extract_lets
    split
    next s1 e2 =>
    have k1 : Kept L r s1 := .snd h.injectedRefusal e2
    refine .ite (.next k1.refuseKey) ?_
    refine .ite ?_ ?_
    · split
      next s3 e4 =>
      have k3 : Kept L r s3 := .snd k1.badField e4
      exact .next k3.refuseKey
    · split
      · exact .next k1.refuseKey
      · exact .next k1.wr.updEngine.acceptKey

theorem Kept.execKeyErase {ring} (h : Kept L r s)
    (hl : Foot.execKeyLoad.Within L := by exact .mono ‹_› ⟨by decide +kernel⟩) :
    KeptOut L r (execKeyErase ring s) := by
  unfold Machine.execKeyErase
  split
  · exact .next h
  · extract_lets
    split
    next s1 e2 =>
    have k1 : Kept L r s1 := .snd h.injectedRefusal e2
    extract_lets s3
    have k3 : Kept L r s3 := k1.wr.updEngine
    refine .ite (.next k1.refuseKey) ?_
    refine .ite ?_ (.ite (.next k1.refuseKey) (.ite (.next k1.refuseKey) (.next k3.acceptKey)))
    split
    next s4 e5 =>
    have k4 : Kept L r s4 := .snd k1.badField e5
    exact .next k4.refuseKey

theorem Kept.noteRetired {k} (h : Kept L r s) (hl : (Foot.part .stage).Within L := by exact .mono ‹_› ⟨by decide +kernel⟩) :
    Kept L r (noteRetired k s) :=
  .ite h.updStage h

@[irreducible] def Foot.execKeyRetire : Foot := Foot.powerAbort ||| Foot.refuseKey ||| Foot.field EN_INJECT_INJ_REFUSE.id |||
    Foot.part .stage ||| Foot.field KEY_STATE_STATE.id

theorem Kept.execKeyRetire {ring} (h : Kept L r s)
    (hl : Foot.execKeyRetire.Within L := by exact .mono ‹_› ⟨by decide +kernel⟩) :
    KeptOut L r (execKeyRetire ring s) := by
  unfold Machine.execKeyRetire
  split
  · exact .next h
  · extract_lets
    split
    next s1 e2 =>
    have k1 : Kept L r s1 := .snd h.injectedRefusal e2
    extract_lets _ s3 s4
    have k3 : Kept L r s3 := k1.noteRetired
    have k4 : Kept L r s4 := k3.wr.updEngine
    refine .ite (.next k1.refuseKey) ?_
    refine .ite ?_ (.ite (.next k1.refuseKey) (.ite (.next k1.refuseKey) (.ite (.next k1.refuseKey) (.ite (.next
        k3.acceptKey.powerWatch) (.next k4.acceptKey)))))
    split
    next s5 e6 =>
    have k5 : Kept L r s5 := .snd k1.badField e6
    exact .next k5.refuseKey

@[irreducible] def Foot.execKeyOpComplete : Foot := Foot.decideOp ||| Foot.part .enc ||| Foot.field EN_STATUS_RETIRE_QUEUE.id
    ||| .of [KEY_STATE_MODE, KEY_STATE_STATE, KEY_STATE_TARGET] []

theorem Kept.execKeyOpComplete (h : Kept L r s)
    (hl : Foot.execKeyOpComplete.Within L := by exact .mono ‹_› ⟨by decide +kernel⟩) :
    KeptOut L r (execKeyOpComplete s) := by
  unfold Machine.execKeyOpComplete
  split
  · exact .next h
  · exact h.updEngine.decideOp.updOp.andThen fun h => .ite (.next h.wr.wr.wr.updEngine.noteRetiring) (.next h)

@[irreducible] def Foot.execRekeyWalkStart : Foot := Foot.part .enc ||| Foot.field EN_STATUS_RETIRE_QUEUE.id ||| .of
    [EN_STATUS_REKEY_ACTIVE, EN_STATUS_REKEY_ID, RK_POS_ADDR] []

theorem Kept.execRekeyWalkStart (h : Kept L r s)
    (hl : Foot.execRekeyWalkStart.Within L := by exact .mono ‹_› ⟨by decide +kernel⟩) :
    KeptOut L r (execRekeyWalkStart s) := by
  unfold Machine.execRekeyWalkStart
  refine .ite (.next h) ?_
  split
  · extract_lets rs s1 s2 s3
    have k2 : Kept L r s2 := h.updEngine.wr.wr
    have k3 : Kept L r s3 := by
      unfold s3
      clear_value rs
      split
      exacts [k2.wr, k2]
    exact .next k3.noteRetiring
  · exact .next h

@[irreducible] def Foot.walkLine : Foot := Foot.decodeLine ||| Foot.controllerWrite ||| Foot.checkLine ||| Foot.field
    EN_COUNTS_REKEY_POISONED.id

theorem Kept.walkLine {j k addr} (h : Kept L r s) (hl : Foot.walkLine.Within L := by exact .mono ‹_› ⟨by decide +kernel⟩) :
    Kept L r (walkLine j k addr s) := by
  unfold Machine.walkLine
  refine .ite h ?_
  split
  next s1 e1 =>
  have k1 : Kept L r s1 := .snd h.controllerRead e1
  split
  next s2 e2 =>
  have k2 : Kept L r s2 := by
    refine .snd (.ite_snd ?_ ?_) e2
    · split
      next e => exact (Kept.snd k1.draw e).integrityFail
    · split
      next e => exact (Kept.snd k1.draw e).checkLine
  exact .ite k2.dequeueWb.poisonLine.incSat (.ite k2.controllerWrite k2.controllerWrite)

@[irreducible] def Foot.execRekeyLine : Foot := Foot.serveRequest ||| Foot.walkLine ||| Foot.field RK_POS_ADDR.id

theorem Kept.execRekeyLine (h : Kept L r s) (hl : Foot.execRekeyLine.Within L := by exact .mono ‹_› ⟨by decide +kernel⟩) :
    KeptOut L r (execRekeyLine s) := by
  unfold Machine.execRekeyLine
  split
  · exact .next h
  · split
    · exact .next h
    · extract_lets addr s1 s2 s3 s4
      have k3 : Kept L r s3 := h.serveFirst.walkLine.updEngine
      have k4 : Kept L r s4 := k3.updEngine
      refine .ite (.next h) (.ite (.next k3.wr) ?_)
      split
      exacts [.next k4.wr, .next k4.wr]

@[irreducible] def Foot.execKeyRetired : Foot := Foot.sequencerStep ||| Foot.part .enc ||| Foot.field
    EN_STATUS_RETIRE_QUEUE.id ||| .of [EN_STATUS_REKEY_ACTIVE, EN_STATUS_REKEY_ID, KEY_STATE_MODE, KEY_STATE_RANGES,
    KEY_STATE_STATE, KEY_STATE_TARGET, RANGE_STATUS_KEY_ID, RANGE_STATUS_STATE] []

theorem Kept.execKeyRetired (h : Kept L r s) (hl : Foot.execKeyRetired.Within L := by exact .mono ‹_› ⟨by decide +kernel⟩) :
    KeptOut L r (execKeyRetired s) := by
  unfold Machine.execKeyRetired
  split
  · exact .next h
  · exact .ite (.next h) ((h.foldl (fun _ _ h => .ite h.wr.wr h.wr.setmbit)).andThen fun h => .next (Kept.ite h.wr
      h).wr.wr.wr.wr.updEngine.wr.wr.noteRetiring.raise)

@[irreducible] def Foot.execEnClearCounts : Foot := .of [EN_COUNTS_REFUSALS, EN_COUNTS_REKEY_POISONED, INTEGRITY_FAILS_COUNT]
    []

theorem Kept.execEnClearCounts (h : Kept L r s)
    (hl : Foot.execEnClearCounts.Within L := by exact .mono ‹_› ⟨by decide +kernel⟩) :
    KeptOut L r (execEnClearCounts s) :=
  .next h.clrAll

@[irreducible] def Foot.installSlot : Foot := Foot.part .enc ||| .of [SLOT_STATE_CONFIG, SLOT_STATE_MEMORY,
    SLOT_STATE_REVOKE_BIT, SLOT_STATE_STATE] []

theorem Kept.installSlot {slot key a} (h : Kept L r s)
    (hl : Foot.installSlot.Within L := by exact .mono ‹_› ⟨by decide +kernel⟩) :
    Kept L r (installSlot slot key a s) :=
  h.wr.wr.wr.wr.updEngine

@[irreducible] def Foot.execSlotProvision : Foot := Foot.refuseKey ||| Foot.installSlot ||| Foot.part .drawn

theorem Kept.execSlotProvision {ring} (h : Kept L r s)
    (hl : Foot.execSlotProvision.Within L := by exact .mono ‹_› ⟨by decide +kernel⟩) :
    KeptOut L r (execSlotProvision ring s) := by
  unfold Machine.execSlotProvision
  split
  · exact .next h
  · extract_lets
    split
    next s1 e2 =>
    have k1 : Kept L r s1 := .snd h.draw e2
    refine .ite ?_ ?_
    · split
      next s3 e4 =>
      have k3 : Kept L r s3 := .snd k1.badField e4
      exact .next k3.refuseKey
    · split
      · exact .next k1.refuseKey
      · exact .next k1.installSlot.acceptKey

/-! The footprints of Machine/Ddr. -/

@[irreducible] def Foot.execDdrRefreshWindow : Foot := Foot.passTo ||| Foot.fallbackRefresh ||| .of [DC_INJECT_INJ_REFMISS,
    TR_DQS_READ_DQS] []

theorem Kept.execDdrRefreshWindow {k waits delays} (h : Kept L r s)
    (hl : Foot.execDdrRefreshWindow.Within L := by exact .mono ‹_› ⟨by decide +kernel⟩) :
    KeptOut L r (execDdrRefreshWindow k waits delays s) := by
  unfold Machine.execDdrRefreshWindow
  split
  · exact .next h
  · extract_lets s1 _ _ s2 _
    have k1 : Kept L r s1 := h.windowStart
    have k2 : Kept L r s2 := k1.rankFallback
    refine .ite (.next k1.openWin) ?_
    split
    next s3 e4 =>
    have k3 : Kept L r s3 := .snd k2.takeInj e4
    exact .ite (.next k3.updDdr_.openWin) (.next (k3.refreshNow.foldl (fun _ _ h => .ite h.wr h)).openWin)

theorem Kept.rfmIssue {c e} (h : Kept L r s) (hl : (Foot.part .ddr).Within L := by exact .mono ‹_› ⟨by decide +kernel⟩) :
    Kept L r (rfmIssue c e s) := by
  unfold Machine.rfmIssue
  exact h.updDdr_

@[irreducible] def Foot.execDdrRfmSpareWindow : Foot := Foot.passTo ||| .of [DC_RFM_COUNTS_RFM_CARRIED,
    DC_RFM_COUNTS_RFM_ISSUED, DC_STATUS_RFM_LEVEL] []

theorem Kept.execDdrRfmSpareWindow {k} (h : Kept L r s)
    (hl : Foot.execDdrRfmSpareWindow.Within L := by exact .mono ‹_› ⟨by decide +kernel⟩) :
    KeptOut L r (execDdrRfmSpareWindow k s) := by
  unfold Machine.execDdrRfmSpareWindow
  extract_lets
  split
  · exact .next h
  · exact h.windowStart.andThen fun h => .ite (.next h.openWin) (.next (h.incWrap.incSat.wr.updDdr_.foldl (fun _ _ h =>
      h.rfmIssue)).openWin)

@[irreducible] def Foot.execDdrScrubWindow : Foot := Foot.passTo ||| Foot.scrubLine

theorem Kept.execDdrScrubWindow {k lines} (h : Kept L r s)
    (hl : Foot.execDdrScrubWindow.Within L := by exact .mono ‹_› ⟨by decide +kernel⟩) :
    KeptOut L r (execDdrScrubWindow k lines s) := by
  unfold Machine.execDdrScrubWindow
  split
  · exact .next h
  · extract_lets s1
    have k1 : Kept L r s1 := h.windowStart
    refine .ite (.next k1.openWin) ?_
    split
    next s2 e3 =>
    have k2 : Kept L r s2 := .snd k1.scrubLines e3
    exact .next k2.openWin

theorem Kept.execFallbackRefresh {c rank sub} (h : Kept L r s)
    (hl : Foot.serveRequest.Within L := by exact .mono ‹_› ⟨by decide +kernel⟩) :
    KeptOut L r (execFallbackRefresh c rank sub s) :=
  .next h.fallbackRefresh.serveWaiting

@[irreducible] def Foot.execMr4Read : Foot := Foot.sequencerStep ||| .of [DC_STATUS_RATE_2X, FI_MISC_INJECT_INJ_MR4] []

theorem Kept.execMr4Read {c doubled} (h : Kept L r s)
    (hl : Foot.execMr4Read.Within L := by exact .mono ‹_› ⟨by decide +kernel⟩) :
    KeptOut L r (execMr4Read c doubled s) := by
  unfold Machine.execMr4Read
  refine .ite (.next h) ?_
  split
  next s1 e2 =>
  have k1 : Kept L r s1 := .snd h.takeInj e2
  exact .ite (.next k1) (.next k1.wr.raiseInj)

theorem Kept.execWriteBack {c} (h : Kept L r s) (hl : Foot.precedence.Within L := by exact .mono ‹_› ⟨by decide +kernel⟩) :
    KeptOut L r (execWriteBack c s) :=
  .next h.chanFallback.writeBackOne

@[irreducible] def Foot.execTrainingPass : Foot := .of [DC_STATUS_TR_IGNORED, TR_ERR_ERRORS, TR_STATUS_BUSY] []

theorem Kept.execTrainingPass {c errs} (h : Kept L r s)
    (hl : Foot.execTrainingPass.Within L := by exact .mono ‹_› ⟨by decide +kernel⟩) :
    KeptOut L r (execTrainingPass c errs s) :=
  .ite (.next h.wr) (.next (h.wr.foldl (fun _ _ h => h.wr)))

@[irreducible] def Foot.copyRow : Foot := Foot.decodeLine ||| Foot.storeLine

theorem Kept.copyRow {c rank sub bank row} (h : Kept L r s)
    (hl : Foot.copyRow.Within L := by exact .mono ‹_› ⟨by decide +kernel⟩) :
    Kept L r (copyRow c rank sub bank row s) := by
  unfold Machine.copyRow
  extract_lets
  refine h.foldl fun _ t2 h1 => ?_
  extract_lets
  split
  next s3 e4 =>
    have k3 : Kept L r s3 := .snd₂ h1.decodeLine e4
    exact k3
  next s5 e6 =>
    have k5 : Kept L r s5 := .snd₂ h1.decodeLine e6
    exact k5.updDramBad.dequeueWb
  next s7 _ _ e8 =>
    have k7 : Kept L r s7 := .snd₂ h1.decodeLine e8
    exact k7.dequeueWb.poisonLine

@[irreducible] def Foot.softRepair : Foot := Foot.copyRow ||| Foot.field DC_REPAIR_SPPR_ACTIVE.id

theorem Kept.softRepair {c row} (h : Kept L r s) (hl : Foot.softRepair.Within L := by exact .mono ‹_› ⟨by decide +kernel⟩) :
    Kept L r (softRepair c row s) := by
  unfold Machine.softRepair
  exact h.updDdr_.wr.copyRow

theorem Kept.applyRepairs {c full rows} (h : Kept L r s)
    (hl : Foot.softRepair.Within L := by exact .mono ‹_› ⟨by decide +kernel⟩) :
    Kept L r (applyRepairs c full rows s).2 := by
  unfold Machine.applyRepairs
  exact h.foldl_snd (fun _ _ h => .ite_snd h (.ite h.softRepair.raise h))

@[irreducible] def Foot.execTrainRecord : Foot := Foot.softRepair ||| Foot.hostPut ||| Foot.part .records

theorem Kept.execTrainRecord {ring matched refusal a repairs} (h : Kept L r s)
    (hl : Foot.execTrainRecord.Within L := by exact .mono ‹_› ⟨by decide +kernel⟩) :
    KeptOut L r (execTrainRecord ring matched refusal a repairs s) := by
  unfold Machine.execTrainRecord
  split
  · exact .next h
  · extract_lets c addr s1 rec_
    have k1 : Kept L r s1 := h.runOp
    refine .ite (.ite (.next k1.decideOp) ?_) ?_
    · split
      next e => exact .next (Kept.snd k1.updRecords.applyRepairs e).decideOp
    · split
      next s2 e =>
      have k2 : Kept L r s2 := by
        refine .snd ?_ e
        split
        · exact k1
        · split
          next e => exact .snd k1.draw e
      exact .next k2.hostPut.decideOp

@[irreducible] def Foot.execDdrRepair : Foot := Foot.decideOp ||| Foot.part .ddr ||| Foot.field DC_STATUS_PARKED.id

theorem Kept.execDdrRepair {ring noResource held} (h : Kept L r s)
    (hl : Foot.execDdrRepair.Within L := by exact .mono ‹_› ⟨by decide +kernel⟩) :
    KeptOut L r (execDdrRepair ring noResource held s) := by
  unfold Machine.execDdrRepair
  split
  · exact .next h
  · exact h.runOp.andThen fun h => .ite (.next h.decideOp) (.next h.setmbit.updDdr_)

@[irreducible] def Foot.poisonRank : Foot := .of [] [.dram, .dramBad, .dramPoison, .dramTags, .dramWhole]

theorem Kept.poisonRank {c rank} (h : Kept L r s) (hl : Foot.poisonRank.Within L := by exact .mono ‹_› ⟨by decide +kernel⟩) :
    Kept L r (poisonRank c rank s) := by
  unfold Machine.poisonRank
  exact (h.updDramPoison.updDramTags.updDramBad.updDram fun _ => swf_filter _ _ _).updDramWhole

@[irreducible] def Foot.execDdrRepairDone : Foot := Foot.softRepair ||| Foot.poisonRank ||| Foot.decideOp ||| .of
    [DC_REPAIR_HPPR_DONE, DC_STATUS_PARKED] [.records]

theorem Kept.execDdrRepairDone {c} (h : Kept L r s)
    (hl : Foot.execDdrRepairDone.Within L := by exact .mono ‹_› ⟨by decide +kernel⟩) :
    KeptOut L r (execDdrRepairDone c s) := by
  unfold Machine.execDdrRepairDone
  extract_lets s1
  have k1 : Kept L r s1 := h.updDdr_
  split
  · exact .next h
  · exact .next (Kept.ite k1.incSat.poisonRank k1.softRepair.updRecords).setmbit.raise.decideOp

@[irreducible] def Foot.execDcClearCounts : Foot := .of [DC_CORRECTED_CORRECTED, DC_REFRESH_COUNTS_FALLBACK_AGE,
    DC_REFRESH_COUNTS_FALLBACK_MISSED, DC_REFRESH_MORE_PARKED_REFRESH, DC_REFRESH_MORE_UNSCHEDULED_REFRESH,
    DC_RFM_COUNTS_RFM_CARRIED, DC_RFM_COUNTS_RFM_ISSUED, DC_RFM_COUNTS_RFM_OVERFLOW, DC_SCRUB_PASSES_LATE_PASSES,
    DC_SCRUB_PASSES_PASSES, DC_UE_COUNTS_POISON_READS, DC_UE_COUNTS_UNCORR, DC_UE_COUNTS_WB_SKIPPED] []

theorem Kept.execDcClearCounts {c} (h : Kept L r s)
    (hl : Foot.execDcClearCounts.Within L := by exact .mono ‹_› ⟨by decide +kernel⟩) :
    KeptOut L r (execDcClearCounts c s) :=
  .next h.clrAllInst

@[irreducible] def Foot.execDcClearLogs : Foot := Foot.part .ddr ||| .of [CE_LOG_ADDR, CE_LOG_DEVICE, CE_LOG_TICK,
    CE_LOG_VALID, UE_LOG_ADDR, UE_LOG_SOURCE, UE_LOG_TICK, UE_LOG_VALID] []

theorem Kept.execDcClearLogs {c} (h : Kept L r s)
    (hl : Foot.execDcClearLogs.Within L := by exact .mono ‹_› ⟨by decide +kernel⟩) :
    KeptOut L r (execDcClearLogs c s) :=
  .next h.clrAllInst.updDdr_

@[irreducible] def Foot.ddrTick : Foot := Foot.field NR_STATUS_PORT_STATE.id ||| Foot.part .ddr

theorem Kept.ddrTick {c} (h : Kept L r s) (hl : Foot.ddrTick.Within L := by exact .mono ‹_› ⟨by decide +kernel⟩) :
    Kept L r (ddrTick c s) := by
  unfold Machine.ddrTick
  exact (Kept.ite h.setPort h).updDdr_

/-! The footprints of Machine/FixOps. -/

@[irreducible] def Foot.closeApply : Foot := Foot.startSwitch ||| .of [FIX_COUNT_FIXES, LAST_FIX_TICK_TICK] [.stage]

theorem Kept.closeApply (h : Kept L r s) (hl : Foot.closeApply.Within L := by exact .mono ‹_› ⟨by decide +kernel⟩) :
    Kept L r (closeApply s) := by
  unfold Machine.closeApply
  extract_lets _ s1 s2 s3
  have k1 : Kept L r s1 := h.raise
  have k2 : Kept L r s2 := k1.incWrap.wr
  have k3 : Kept L r s3 := k2.updStage
  split
  · exact h
  · exact k3.releaseOp.foldl (fun _ _ h => h.startSwitch)

/-! The footprints of Machine/IoOps. -/

theorem Kept.updPins {f} (h : Kept L r s) (hl : (Foot.part .io).Within L := by exact .mono ‹_› ⟨by decide +kernel⟩) :
    Kept L r (updPins f s) :=
  h.updIo

@[irreducible] def Foot.diagAtTick : Foot := .of [PIN_STATUS_DIAG] [.tickWrites]

theorem Kept.diagAtTick {b p v} (h : Kept L r s) (hl : Foot.diagAtTick.Within L := by exact .mono ‹_› ⟨by decide +kernel⟩) :
    Kept L r (diagAtTick b p v s) := by
  exact h.updTickWrites_single (by change tickField PIN_STATUS_DIAG = true; decide +kernel)
    (hl.mono (show (Foot.field PIN_STATUS_DIAG.id).Within Foot.diagAtTick from ⟨by decide +kernel⟩))

@[irreducible] def Foot.classify : Foot := Foot.part .io ||| Foot.field PIN_STATUS_DIAG.id

theorem Kept.classify {b p} (h : Kept L r s) (hl : Foot.classify.Within L := by exact .mono ‹_› ⟨by decide +kernel⟩) :
    Kept L r (classify b p s) :=
  .ite h h.wr.updPins

@[irreducible] def Foot.pinRelease : Foot := Foot.part .io ||| .of [BK_STATUS_VCCO_CLASS, PIN_STATUS_DIAG_OK, PIN_STATUS_DIR,
    PIN_STATUS_SOURCE, PIN_STATUS_STANDARD, PIN_STATUS_STROBE] []

theorem Kept.pinRelease {pins banks} (h : Kept L r s)
    (hl : Foot.pinRelease.Within L := by exact .mono ‹_› ⟨by decide +kernel⟩) :
    Kept L r (pinRelease pins banks s) := by
  unfold Machine.pinRelease
  extract_lets fs s1 s2 ok s3 touches
  have k2 : Kept L r s2 := h.clrAll.foldl fun _ _ h => h.wr
  have k3 : Kept L r s3 := k2.foldl fun _ _ h => h.foldFields fun _ _ hf k => .ite k (k.wr hf)
  exact k3.updPins

@[irreducible] def Foot.retryPin : Foot := .of [BK_COUNTS_RETRIES, BK_SHUT_PINS, PIN_STATUS_SHUT] []

theorem Kept.retryPin {q} (h : Kept L r s) (hl : Foot.retryPin.Within L := by exact .mono ‹_› ⟨by decide +kernel⟩) :
    Kept L r (retryPin q s) :=
  .ite h.wr.setmbit.incSat h

@[irreducible] def Foot.ioTick : Foot := Foot.retryPin ||| Foot.classify

theorem Kept.ioTick (h : Kept L r s) (hl : Foot.ioTick.Within L := by exact .mono ‹_› ⟨by decide +kernel⟩) :
    Kept L r (ioTick s) :=
  (h.foldl (fun _ _ h => h.retryPin)).updPins.foldl (fun _ _ h => h.classify)

@[irreducible] def Foot.shutPin : Foot := Foot.part .io ||| .of [BK_COUNTS_SHUTS, BK_SHUT_PINS, PIN_STATUS_CONTENTIONS,
    PIN_STATUS_SHUT] []

theorem Kept.shutPin {b p} (h : Kept L r s) (hl : Foot.shutPin.Within L := by exact .mono ‹_› ⟨by decide +kernel⟩) :
    Kept L r (shutPin b p s) :=
  h.wr.setmbit.incSat.incSat.updPins

@[irreducible] def Foot.measureVcco : Foot := Foot.part .io ||| .of [BK_STATUS_VCCO_MISMATCH, BK_STATUS_VCCO_MV] []

theorem Kept.measureVcco {b mv} (h : Kept L r s) (hl : Foot.measureVcco.Within L := by exact .mono ‹_› ⟨by decide +kernel⟩) :
    Kept L r (measureVcco b mv s) :=
  h.wr.andThen fun h => .ite h.wr (.ite h.wr.updPins (.ite h.wr h))

/-! The footprints of Machine/TickOps. -/

@[irreducible] def Foot.closeFrame : Foot := Foot.sequencerStep ||| Foot.writeLog

theorem Kept.closeFrame {ended} (h : Kept L r s) (hl : Foot.closeFrame.Within L := by exact .mono ‹_› ⟨by decide +kernel⟩) :
    Kept L r (closeFrame ended s) := by
  unfold Machine.closeFrame
  extract_lets _ s1 _ s2 s3
  have k1 : Kept L r s1 := by
    unfold s1
    split
    · exact h
    · exact .ite h h.pushRecord
  have k2 : Kept L r s2 := .ite k1 k1.writeLog
  have k3 : Kept L r s3 := .ite k2.raise k2
  exact k3.updTck

@[irreducible] def Foot.takeTickWrites : Foot := Foot.applyTickWrites ||| Foot.part .tick ||| Foot.part .clk

theorem Kept.takeTickWrites (h : Kept L r s) (hl : Foot.takeTickWrites.Within L := by exact .mono ‹_› ⟨by decide +kernel⟩) :
    Kept L r (takeTickWrites s) := by
  unfold Machine.takeTickWrites
  exact h.updTck.updClk.updTickWrites_filter.applyTickWrites.foldl fun _ _ h => h.startWindow

@[irreducible] def Foot.unitTicks : Foot := Foot.powerAbort ||| Foot.padServe ||| Foot.dispTick ||| Foot.catchTick |||
    Foot.nocTick ||| Foot.ioTick ||| Foot.workerFrame ||| Foot.reelTick ||| Foot.ringTick ||| Foot.part .enc

theorem Kept.unitTicks {ended cred cycles} (h : Kept L r s)
    (hl : Foot.unitTicks.Within L := by exact .mono ‹_› ⟨by decide +kernel⟩) :
    Kept L r (unitTicks ended cred cycles s) :=
  ((h.foldl (fun _ _ h => h.catchTick.reelTick)).foldl (fun _ _ h => h.ddrTick)).nocTick.dispTick.andThen fun h => (Kept.ite
    h.watchdogTick h).workerFrames.meshTick.ringTick.powerTick.ioTick.updEnc.padTick

@[irreducible] def Foot.enterHalted : Foot := Foot.sequencerStep ||| Foot.field HM_STATUS_CORE_STATE.id ||| .of
    [DB_HALT_TICK_TICK, DB_STATUS_CORES_HALTED, DB_STATUS_RC_STATE] []

theorem Kept.enterHalted (h : Kept L r s) (hl : Foot.enterHalted.Within L := by exact .mono ‹_› ⟨by decide +kernel⟩) :
    Kept L r (enterHalted s) :=
  h.wr.wr.raise.andThen fun h => .ite (h.wr.foldl (fun _ _ h => h.setCore)).updDbg h

@[irreducible] def Foot.leaveHalted : Foot := Foot.landJobs ||| Foot.logGap ||| Foot.releaseMissed ||| Foot.field
    HM_STATUS_CORE_STATE.id ||| .of [DB_STATUS_CORES_HALTED, DB_STATUS_RC_STATE] [.dbg]

theorem Kept.leaveHalted {st} (h : Kept L r s) (hl : Foot.leaveHalted.Within L := by exact .mono ‹_› ⟨by decide +kernel⟩) :
    Kept L r (leaveHalted st s) := by
  unfold Machine.leaveHalted
  exact (h.wr.endHaltRun.releaseMissed.advanceUnscheduled.noteJobs.serveDispatch.foldl (fun _ _ h => .ite h.setCore
      h)).wr.updDbg

@[irreducible] def Foot.frameTurn : Foot := Foot.unitTicks ||| Foot.closeApply ||| Foot.closeFrame ||| Foot.enterHalted |||
    Foot.endUnstarted ||| Foot.abortFix ||| Foot.takeTickWrites ||| Foot.burnValid ||| .of [FRAME_OFFSET_OFFSET,
    SCHED_POS_INDEX, TICK_NOW_TICK] []

theorem Kept.frameTurn {tick cycles} (h : Kept L r s)
    (hl : Foot.frameTurn.Within L := by exact .mono ‹_› ⟨by decide +kernel⟩) :
    Kept L r (frameTurn tick cycles s) :=
  h.noteUnaligned.closeApply.judgeAll.andThen fun h => (Kept.ite h.markFrame h).andThen fun h => (Kept.ite h
    (h.updTck.andThen fun h => (Kept.ite h.abortFix h).missStart)).wr.wr.updTck.wr.updEv.closeFrame.takeTickWrites.andThen
    fun h => (Kept.ite h h.noteUnaligned).andThen fun h => (Kept.ite h.enterHalted h).reachApply.burnValid.andThen fun h =>
    (Kept.ite h h.updTck).unitTicks.comparatorHits

@[irreducible] def Foot.nextTick : Foot := Foot.frameTurn ||| Foot.passTo

theorem Kept.nextTick (h : Kept L r s) (hl : Foot.nextTick.Within L := by exact .mono ‹_› ⟨by decide +kernel⟩) :
    Kept L r (nextTick s) :=
  h.passTo.fabricCycle.frameTurn

theorem Kept.jumpTick {tick} (h : Kept L r s) (hl : Foot.nextTick.Within L := by exact .mono ‹_› ⟨by decide +kernel⟩) :
    Kept L r (jumpTick tick s) :=
  h.fabricCycle.frameTurn.andThen fun h => .ite (h.missStart.andThen fun h => .ite h.abortFix h) h

@[irreducible] def Foot.resumeTick : Foot := Foot.nextTick ||| Foot.logGap

theorem Kept.resumeTick {tick} (h : Kept L r s) (hl : Foot.resumeTick.Within L := by exact .mono ‹_› ⟨by decide +kernel⟩) :
    Kept L r (resumeTick tick s) :=
  h.updTck.endHaltRun.jumpTick.logGap.raise

@[irreducible] def Foot.loadEpoch : Foot := Foot.nextTick ||| .of [ALIGN_STATUS_EPOCH_DONE, ALIGN_STATUS_EPOCH_MISMATCH] []

theorem Kept.loadEpoch (h : Kept L r s) (hl : Foot.loadEpoch.Within L := by exact .mono ‹_› ⟨by decide +kernel⟩) :
    Kept L r (loadEpoch s) :=
  .ite h.wr.wr.updTck.jumpTick h.wr.raise.setAlign

@[irreducible] def Foot.markInWindow : Foot := Foot.epochCheck ||| .of [ALIGN_STATUS_IN_WINDOW, ALIGN_STATUS_PHASE_ERR] []

theorem Kept.markInWindow {epoch err} (h : Kept L r s)
    (hl : Foot.markInWindow.Within L := by exact .mono ‹_› ⟨by decide +kernel⟩) :
    Kept L r (markInWindow epoch err s) := by
  unfold Machine.markInWindow
  extract_lets s1 _ s2 _ s3 s4
  have k1 : Kept L r s1 := h.wr.incSat
  have k2 : Kept L r s2 := k1.updTck
  have k3 : Kept L r s3 := .ite k2.epochCheck k2
  have k4 : Kept L r s4 := k2.setAlign
  split
  · exact k3.countClose
  · exact (Kept.ite k2.epochCheck k2).trimPhase
  · exact (Kept.ite k4.epochCheck k4).trimPhase
  · exact k2

@[irreducible] def Foot.syncMark : Foot := Foot.resumeTick ||| Foot.markInWindow ||| Foot.missMark ||| Foot.field
    FI_TICK_INJECT_INJ_SYNC_MISS.id

theorem Kept.syncMark {epoch pos} (h : Kept L r s) (hl : Foot.syncMark.Within L := by exact .mono ‹_› ⟨by decide +kernel⟩) :
    Kept L r (syncMark epoch pos s) := by
  unfold Machine.syncMark
  extract_lets
  refine .ite h ?_
  refine .ite h.updTck ?_
  refine .ite h.resumeTick ?_
  refine .ite (.ite h.loadEpoch h) ?_
  refine .ite ?_ h
  split
  next s1 e2 =>
  have k1 : Kept L r s1 := .snd h.takeInj e2
  exact .ite k1.missMark k1.markInWindow

/-! The footprints of Machine/Host. -/

theorem Kept.doorbell {f} (h : Kept L r s) (k : ∀ t, Kept L r t → Kept L r (f t))
    (hl : (Foot.field HI_COUNTS_EARLY_DOORBELLS.id).Within L := by exact .mono ‹_› ⟨by decide +kernel⟩) :
    KeptOut L r (doorbell s f) :=
  .next (.ite (k _ h) h.incSat)

@[irreducible] def Foot.execCommandDoorbell : Foot := Foot.sequencerStep ||| Foot.field HI_COUNTS_EARLY_DOORBELLS.id ||| .of
    [CR_PROD_INDEX, CR_STATUS_DB_ERR, HI_INJECT_INJ_DOORBELL] []

theorem Kept.execCommandDoorbell {r' p} (h : Kept L r s)
    (hl : Foot.execCommandDoorbell.Within L := by exact .mono ‹_› ⟨by decide +kernel⟩) :
    KeptOut L r (execCommandDoorbell r' p s) := by
  unfold Machine.execCommandDoorbell
  extract_lets
  refine h.doorbell fun t2 h1 => ?_
  split
  next s3 e4 =>
  have k3 : Kept L r s3 := .snd h1.takeInj e4
  exact .ite k3.wr k3.wr.raiseInj

@[irreducible] def Foot.execCompletionDoorbell : Foot := Foot.field HI_COUNTS_EARLY_DOORBELLS.id ||| .of [CQ_RD_INDEX,
    CR_STATUS_RD_ERR] []

theorem Kept.execCompletionDoorbell {r' v} (h : Kept L r s)
    (hl : Foot.execCompletionDoorbell.Within L := by exact .mono ‹_› ⟨by decide +kernel⟩) :
    KeptOut L r (execCompletionDoorbell r' v s) :=
  h.doorbell (fun _ h => .ite h.wr h.wr)

@[irreducible] def Foot.execEventDoorbell : Foot := Foot.field HI_COUNTS_EARLY_DOORBELLS.id ||| .of [EV_RD_INDEX,
    EV_STATUS_RD_ERR] []

theorem Kept.execEventDoorbell {v} (h : Kept L r s)
    (hl : Foot.execEventDoorbell.Within L := by exact .mono ‹_› ⟨by decide +kernel⟩) :
    KeptOut L r (execEventDoorbell v s) :=
  h.doorbell (fun _ h => .ite h.wr h.wr)

@[irreducible] def Foot.execDescriptorConsume : Foot := Foot.enterOp ||| Foot.haltRing ||| .of [CR_CONS_INDEX,
    HI_INJECT_INJ_FETCH] []

theorem Kept.execDescriptorConsume {r' fails} (h : Kept L r s)
    (hl : Foot.execDescriptorConsume.Within L := by exact .mono ‹_› ⟨by decide +kernel⟩) :
    KeptOut L r (execDescriptorConsume r' fails s) := by
  unfold Machine.execDescriptorConsume
  extract_lets
  refine .ite (.next h) ?_
  split
  next s1 e2 =>
  have k1 : Kept L r s1 := .snd h.takeInj e2
  exact .ite (.next k1.haltRing) (k1.incWrap.andThen fun h => .next (.ite h.proxyDescriptor h.acceptDescriptor))

theorem Kept.execOutcomeLatch {r' idx} (h : Kept L r s)
    (hl : Foot.releaseOp.Within L := by exact .mono ‹_› ⟨by decide +kernel⟩) :
    KeptOut L r (execOutcomeLatch r' idx s) :=
  .next h.latchOp

@[irreducible] def Foot.execCompletionWrite : Foot := Foot.unroutable ||| Foot.haltRing ||| Foot.answered ||| Foot.sendMsix
    ||| .of [CQ_WR_INDEX, HI_COUNTS_LOST_COMPLETIONS] []

theorem Kept.execCompletionWrite {r' fails} (h : Kept L r s)
    (hl : Foot.execCompletionWrite.Within L := by exact .mono ‹_› ⟨by decide +kernel⟩) :
    KeptOut L r (execCompletionWrite r' fails s) := by
  unfold Machine.execCompletionWrite
  extract_lets
  split
  · exact .next h
  · exact .ite (.next h.incSat.answered) (.ite (.next h.returnCompletion.answered) (.ite (.next h) (.ite (.next (.ite
      h.haltRing h)) (.next h.writeEntry.incWrap.countEntry.answered))))

theorem Kept.execMsixTimer {r'} (h : Kept L r s) (hl : Foot.sendMsix.Within L := by exact .mono ‹_› ⟨by decide +kernel⟩) :
    KeptOut L r (execMsixTimer r' s) :=
  .next (.ite h h.updHst.sendMsix)

@[irreducible] def Foot.writeLost : Foot := Foot.sequencerStep ||| Foot.writeRecord

theorem Kept.writeLost (h : Kept L r s) (hl : Foot.writeLost.Within L := by exact .mono ‹_› ⟨by decide +kernel⟩) :
    Kept L r (writeLost s) :=
  h.countEvent.updEv.wr.andThen fun h => (Kept.ite h h.writeRecord).comparatorHits

theorem Kept.execEventRecordWrite (h : Kept L r s) (hl : Foot.writeLost.Within L := by exact .mono ‹_› ⟨by decide +kernel⟩) :
    KeptOut L r (execEventRecordWrite s) := by
  unfold Machine.execEventRecordWrite
  refine .ite (.next h) ?_
  refine .ite (.next h.writeLost) ?_
  split
  · exact .next h
  · exact .next h.updEv.writeRecord

@[irreducible] def Foot.startRing : Foot := Foot.part .host ||| .of [CQ_RD_INDEX, CQ_WR_INDEX, CR_CFG_ENABLE, CR_CONS_INDEX,
    CR_PROD_INDEX, CR_STATUS_CFG_ERR, CR_STATUS_HALT_WRITE, CR_STATUS_STATE] []

theorem Kept.startRing {r'} (h : Kept L r s) (hl : Foot.startRing.Within L := by exact .mono ‹_› ⟨by decide +kernel⟩) :
    Kept L r (startRing r' s) :=
  .ite h (.ite h.wr (h.foldFields fun _ _ hf k => k.wr hf).updHst.wr.wr)

@[irreducible] def Foot.writeRingCfg : Foot := Foot.startRing ||| .of [CR_CFG_PROXY, CR_CFG_SIZE_LOG2, CR_CFG_VECTOR] []

theorem Kept.writeRingCfg {r' v} (h : Kept L r s)
    (hl : Foot.writeRingCfg.Within L := by exact .mono ‹_› ⟨by decide +kernel⟩) :
    Kept L r (writeRingCfg r' v s) :=
  h.wr.andThen fun h => (Kept.ite h.wr.setb (.ite h.wr h)).andThen fun h => .ite (.ite h.startRing (.ite h.wr.wr h))
    (h.wr.andThen fun h => .ite h.wr.settleRing h)

theorem Kept.execRingEnable {r' v} (h : Kept L r s)
    (hl : Foot.writeRingCfg.Within L := by exact .mono ‹_› ⟨by decide +kernel⟩) :
    KeptOut L r (execRingEnable r' v s) :=
  .next (.ite h.writeRingCfg h)

@[irreducible] def Foot.execRingDisable : Foot := Foot.writeRingCfg ||| Foot.part .disp

theorem Kept.execRingDisable {r' v} (h : Kept L r s)
    (hl : Foot.execRingDisable.Within L := by exact .mono ‹_› ⟨by decide +kernel⟩) :
    KeptOut L r (execRingDisable r' v s) :=
  .next (.ite h h.noteStall.writeRingCfg)

theorem Kept.execRingResume {r' v} (h : Kept L r s)
    (hl : Foot.writeRingCfg.Within L := by exact .mono ‹_› ⟨by decide +kernel⟩) :
    KeptOut L r (execRingResume r' v s) :=
  .next (.ite h.writeRingCfg h)

@[irreducible] def Foot.writeEventCfg : Foot := .of [EV_CFG_ENABLE, EV_CFG_SIZE_LOG2, EV_CFG_VECTOR, EV_RD_INDEX,
    EV_STATUS_CFG_ERR, EV_STATUS_RUNNING, EV_WR_INDEX] []

theorem Kept.writeEventCfg {v} (h : Kept L r s)
    (hl : Foot.writeEventCfg.Within L := by exact .mono ‹_› ⟨by decide +kernel⟩) :
    Kept L r (writeEventCfg v s) :=
  h.wr.andThen fun h => (Kept.ite h.wr (.ite h.wr h)).andThen fun h => .ite h.wr.wr (.ite h (.ite h.wr h.wr.wr.wr.wr))

theorem Kept.execEventRingEnable {v} (h : Kept L r s)
    (hl : Foot.writeEventCfg.Within L := by exact .mono ‹_› ⟨by decide +kernel⟩) :
    KeptOut L r (execEventRingEnable v s) :=
  .next h.writeEventCfg

@[irreducible] def Foot.execHiClearCounts : Foot := .of [CR_COUNTS_REJECTED, CR_COUNTS_STALL_FRAMES, EV_LOST_COUNT,
    HI_COUNTS_EARLY_DOORBELLS, HI_COUNTS_LOST_COMPLETIONS, HI_COUNTS_WIDTH_ERRS] []

theorem Kept.execHiClearCounts (h : Kept L r s)
    (hl : Foot.execHiClearCounts.Within L := by exact .mono ‹_› ⟨by decide +kernel⟩) :
    KeptOut L r (execHiClearCounts s) :=
  .next h.clrAll

@[irreducible] def Foot.execLinkReset : Foot := Foot.linkReset ||| Foot.part .disp ||| Foot.field MS_STATUS_GATEWAY.id |||
    .of [HI_STATUS_LINK_UP, HI_STATUS_SPEED, HI_STATUS_WIDTH] [.boot]

theorem Kept.execLinkReset {kind} (h : Kept L r s)
    (hl : Foot.execLinkReset.Within L := by exact .mono ‹_› ⟨by decide +kernel⟩) :
    KeptOut L r (execLinkReset kind s) :=
  (Kept.ite h.updBoot h).noteStall.linkReset.andThen fun h => .next (.ite h.wr.wr h.wr.refreshGateway)

@[irreducible] def Foot.execD3hotEntry : Foot := Foot.stopOp ||| Foot.part .disp ||| .of [CR_CFG_ENABLE,
    CR_STATUS_HALT_WRITE, CR_STATUS_STATE, EV_CFG_ENABLE, EV_STATUS_RUNNING] []

theorem Kept.execD3hotEntry (h : Kept L r s) (hl : Foot.execD3hotEntry.Within L := by exact .mono ‹_› ⟨by decide +kernel⟩) :
    KeptOut L r (execD3hotEntry s) :=
  .next h.noteStall.dropHostOps.clrAll

theorem Kept.execProxyTimeout {r' idx} (h : Kept L r s)
    (hl : Foot.abortsAnswered.Within L := by exact .mono ‹_› ⟨by decide +kernel⟩) :
    KeptOut L r (execProxyTimeout r' idx s) :=
  .next (.ite h.updHst.decideOp h)

theorem Kept.execNop {r'} (h : Kept L r s) (hl : Foot.decideOp.Within L := by exact .mono ‹_› ⟨by decide +kernel⟩) :
    KeptOut L r (execNop r' s) := by
  unfold Machine.execNop
  split
  · exact .next h
  · exact .next h.decideOp

theorem Kept.execDmaMove {r'} (h : Kept L r s) (hl : Foot.decideOp.Within L := by exact .mono ‹_› ⟨by decide +kernel⟩) :
    KeptOut L r (execDmaMove r' s) := by
  unfold Machine.execDmaMove
  split
  · exact .next h
  · refine .next ?_
    split
    · exact h.decideOp
    · exact h.runOp

theorem Kept.execDmaMoveDone {r' idx failedAt} (h : Kept L r s)
    (hl : Foot.moveLines.Within L := by exact .mono ‹_› ⟨by decide +kernel⟩) :
    KeptOut L r (execDmaMoveDone r' idx failedAt s) := by
  unfold Machine.execDmaMoveDone
  split
  · exact .next h
  · refine .ite (.next h) ?_
    split
    · exact .next h.endMove
    · exact .next (.ite h h.endMove)

theorem Kept.execDebugRead {r' failedAt} (h : Kept L r s)
    (hl : Foot.endDebug.Within L := by exact .mono ‹_› ⟨by decide +kernel⟩) :
    KeptOut L r (execDebugRead r' failedAt s) := by
  unfold Machine.execDebugRead
  extract_lets
  split
  · exact .next h
  · extract_lets s1
    have k1 : Kept L r s1 := h.runOp
    split
    · exact .next h.decideOp
    · refine .next ?_
      split
      · exact k1.endDebug
      · exact .ite k1 k1.endDebug

@[irreducible] def Foot.execAbort : Foot := Foot.part .ops ||| Foot.part .host

theorem Kept.execAbort {r'} (h : Kept L r s) (hl : Foot.execAbort.Within L := by exact .mono ‹_› ⟨by decide +kernel⟩) :
    KeptOut L r (execAbort r' s) := by
  unfold Machine.execAbort
  split
  · exact .next h
  · exact .next h.runOp.updHst

theorem Kept.execHostAbortLatch {moved} (h : Kept L r s)
    (hl : Foot.stopOp.Within L := by exact .mono ‹_› ⟨by decide +kernel⟩) :
    KeptOut L r (execHostAbortLatch moved s) :=
  .next (h.updHst.foldl (fun _ _ h => h.latchHostAbort))

@[irreducible] def Foot.execPcieLinkUp : Foot := Foot.field MS_STATUS_GATEWAY.id ||| .of [HI_STATUS_LINK_UP, HI_STATUS_SPEED,
    HI_STATUS_WIDTH] []

theorem Kept.execPcieLinkUp {width speed} (h : Kept L r s)
    (hl : Foot.execPcieLinkUp.Within L := by exact .mono ‹_› ⟨by decide +kernel⟩) :
    KeptOut L r (execPcieLinkUp width speed s) :=
  .ite (.next h) (.next h.wr.wr.wr.refreshGateway)

/-! The footprints of Machine/BootOps. -/

@[irreducible] def Foot.followFused : Foot := .of [DB_STATUS_DEBUG_PERMITTED, LC_STATUS_STATE] []

theorem Kept.followFused (h : Kept L r s) (hl : Foot.followFused.Within L := by exact .mono ‹_› ⟨by decide +kernel⟩) :
    Kept L r (followFused s) :=
  h.wr.setb

/-- The pieces of the state that a DEVICE reset clears (R477). -/
def deviceParts : List Part :=
  [.tickWrites, .latches, .lowHalves, .sched, .ev, .tick, .ops, .ready, .stage, .dbg, .scratch, .reels, .catches, .ddr, .enc,
    .noc, .disp, .sp, .regions, .slices, .frames, .frameDyn, .frameCode, .frameBad, .cfg, .lanes, .groups, .clk, .mesh,
    .host, .pw, .io, .boot]

@[irreducible] def Foot.deviceReset : Foot := Foot.followFused ||| .of [DB_STATUS_INSTRUCTION, MS_STATUS_ADDR,
    MS_STATUS_ADDR_VALID, RS_STATUS_DEVICE_RESETS, RS_STATUS_LAST_CAUSE, SP_STATUS_EMBER_MODE] [] ||| Foot.reset ||| Foot.of
    [] deviceParts

theorem Kept.deviceReset {cause} (h : Kept L r s)
    (hl : Foot.deviceReset.Within L := by exact .mono ‹_› ⟨by decide +kernel⟩) :
    Kept L r (deviceReset cause s) := by
  unfold Machine.deviceReset
  extract_lets n d z t t1 t2
  have reset : Foot.reset.Within L := hl.mono ⟨by decide +kernel⟩
  have cleared : (Foot.of [] deviceParts).Within L := hl.mono ⟨by decide +kernel⟩
  have k : Kept L r t := by
    refine ⟨fun g k => absurd reset k.reset, fun p k => ?_, fun w k => absurd k List.not_mem_nil, fun k => ?_⟩
    · refine Part.same_trans (h.parts p k) ?_
      have hp : p ∉ deviceParts := fun hp => k (cleared.mono (Foot.part_within_of hp))
      cases p <;> first | rfl | simp [deviceParts] at hp
    · obtain ⟨host, -, dram, flash, -⟩ := memoriesOk_iff.1 (h.memories k)
      exact memoriesOk_iff.2 ⟨host, rfl, dram, flash, show Memory.wf State.reset.sched = true by decide +kernel⟩
  clear reset cleared
  have k1 : Kept L r t1 := .ite k k.wr.wr
  have k2 : Kept L r t2 := .ite k1.wr k1
  exact k2.wr.wr.followFused

@[irreducible] def Foot.unburn : Foot := .of [LC_STATUS_FUSED_STATE, LIMIT_STATUS_ADDR_LOCKED, LIMIT_STATUS_ADDR_REWRITES,
    LIMIT_STATUS_ANTI_ROLLBACK, LIMIT_STATUS_REVOKED, MS_STATUS_ADDR, MS_STATUS_ADDR_LOCKED, MS_STATUS_ADDR_VALID] []

theorem Kept.unburn {j} (h : Kept L r s) (hl : Foot.unburn.Within L := by exact .mono ‹_› ⟨by decide +kernel⟩) :
    Kept L r (unburn j s) := by
  unfold Machine.unburn
  extract_lets
  split
  · exact h.wr
  · exact h.wr
  · exact .ite h.wr.wr.wr.wr h.wr.wr
  · exact h.wr
  · exact h

@[irreducible] def Foot.powerLoss : Foot := Foot.unburn ||| Foot.field CHANGE_LOG_ENTRY.id ||| .of [LIMIT_STATUS_LOG_USED]
    [.stage]

theorem Kept.powerLoss {burnt} (h : Kept L r s) (hl : Foot.powerLoss.Within L := by exact .mono ‹_› ⟨by decide +kernel⟩) :
    Kept L r (powerLoss burnt s) := by
  unfold Machine.powerLoss
  extract_lets s1
  have k1 : Kept L r s1 := by
    unfold s1
    split
    · exact h
    · exact (h.foldl (fun _ _ h => h.unburn)).andThen fun h => .ite h.burnEntry.incSat (.ite h.unburn h)
  exact k1.updStage

@[irreducible] def Foot.porReset : Foot := Foot.deviceReset ||| .of [RS_STATUS_BOOTSEL] [.dbg, .dram, .dramBad, .dramPoison,
    .dramTags, .dramWhole, .records, .scratch, .sp]

theorem Kept.porReset {bootsel} (h : Kept L r s) (hl : Foot.porReset.Within L := by exact .mono ‹_› ⟨by decide +kernel⟩) :
    Kept L r (porReset bootsel s) := by
  unfold Machine.porReset
  extract_lets keep s1 s2 s3
  have k1 : Kept L r s1 := (h.updDram fun _ _ => rfl).updDramTags.updDramBad.updDramPoison.updDramWhole.updRecords
  have k2 : Kept L r s2 := (k1.updScratch fun _ _ => rfl).updSp.updDbg
  exact (k2.updRegs fun _ k => absurd (hl.mono ⟨by decide +kernel⟩) k.reset).deviceReset.wr.wr

theorem Kept.setBoot {n} (h : Kept L r s)
    (hl : (Foot.field BOOT_STATUS_STAGE.id).Within L := by exact .mono ‹_› ⟨by decide +kernel⟩) :
    Kept L r (setBoot n s) :=
  h.wr

@[irreducible] def Foot.takeDirectory : Foot := Foot.part .boot ||| .of [BOOT_STATUS_DIR_COPY, MON_NOMINAL_KHZ] []

theorem Kept.takeDirectory {copy d} (h : Kept L r s)
    (hl : Foot.takeDirectory.Within L := by exact .mono ‹_› ⟨by decide +kernel⟩) :
    Kept L r (takeDirectory copy d s) :=
  h.wr.updBt.foldl (fun _ _ h => .ite h h.wr)

@[irreducible] def Foot.recovery : Foot := Foot.emberWipe ||| Foot.clearLogs ||| Foot.disarm ||| .of [CHANGE_LOG_ENTRY,
    LC_STATUS_RECOVERY_DENIED, LC_STATUS_RECOVERY_REQ, LC_STATUS_STATE, LIMIT_STATUS_LOG_USED, LIMIT_STATUS_RECOVERY_USED] []

theorem Kept.recovery {runnable} (h : Kept L r s) (hl : Foot.recovery.Within L := by exact .mono ‹_› ⟨by decide +kernel⟩) :
    Kept L r (recovery runnable s) :=
  .ite h (.ite h.wr h.wr.wr.incSat.wr.wr.clearLogs.emberWipe.disarm)

@[irreducible] def Foot.setPcie : Foot := Foot.part .clk ||| Foot.field MS_STATUS_GATEWAY.id ||| .of [LG_PLL_WORD1,
    LG_ROLE_WORD0, LG_STATUS_PLL_STATE, MON_NOMINAL_KHZ] []

theorem Kept.setPcie {lanes} (h : Kept L r s) (hl : Foot.setPcie.Within L := by exact .mono ‹_› ⟨by decide +kernel⟩) :
    Kept L r (setPcie lanes s) :=
  .ite h (h.foldl (fun _ _ h => h.wr.wr.wr.updPll)).wr.refreshGateway

@[irreducible] def Foot.trainChannel : Foot := Foot.sequencerStep ||| Foot.setDelays ||| Foot.part .drawn ||| Foot.part .ddr
    ||| .of [DC_CAPACITY_BYTES, DC_CONFIG_DENSITY, DC_CONFIG_DRFM, DC_CONFIG_RANKS, DC_CONFIG_RATE, DC_CONFIG_RFM_REQUIRED,
    DC_CONFIG_TWO_DIMMS, DC_REPAIR_SPPR_ACTIVE, DC_STATUS_FAIL_CAUSE, DC_STATUS_STATE, DC_STATUS_TRAIN_SOURCE] [.records]

theorem Kept.trainChannel {e outcome injected} (h : Kept L r s)
    (hl : Foot.trainChannel.Within L := by exact .mono ‹_› ⟨by decide +kernel⟩) :
    Kept L r (trainChannel e outcome injected s) := by
  unfold Machine.trainChannel
  extract_lets c cfg outcome s1 s2 s3 rate saved restored repairs s4 s5 t
  have k1 : Kept L r s1 := h.wr.wr.wr.setb
  have k3 : Kept L r s3 := k1.setb.setb.wr
  have k4 : Kept L r s4 := k3.wr.wr.updDdr_
  have k5 : Kept L r s5 := by
    unfold s5
    clear_value saved restored s4
    split
    · exact k4.setDelays
    · split
      next e => exact (Kept.snd k4.draw e).setDelays.updRecords
  exact .ite h.wr.wr.raiseInj k5.wr.updDdr_

@[irreducible] def Foot.provision : Foot := Foot.refuse ||| Foot.installSlot ||| Foot.part .drawn

theorem Kept.provision {slot} (h : Kept L r s) (hl : Foot.provision.Within L := by exact .mono ‹_› ⟨by decide +kernel⟩) :
    Kept L r (provision slot s) := by
  unfold Machine.provision
  extract_lets
  refine .ite h ?_
  split
  · exact h.installSlot
  · split
    next s1 e2 =>
    have k1 : Kept L r s1 := .snd h.draw e2
    exact k1.refuse

/-! The footprints of Machine/Boot. -/

@[irreducible] def Foot.execPorAssert : Foot := Foot.porReset ||| Foot.powerLoss ||| Foot.part .boot

theorem Kept.execPorAssert {burnt} (h : Kept L r s)
    (hl : Foot.execPorAssert.Within L := by exact .mono ‹_› ⟨by decide +kernel⟩) :
    KeptOut L r (execPorAssert burnt s) :=
  .next h.powerLoss.porReset.updBt

theorem Kept.execPorEnd {bootsel} (h : Kept L r s) (hl : Foot.porReset.Within L := by exact .mono ‹_› ⟨by decide +kernel⟩) :
    KeptOut L r (execPorEnd bootsel s) :=
  .next (.ite h.porReset h)

theorem Kept.execDevrstN (h : Kept L r s) (hl : Foot.deviceReset.Within L := by exact .mono ‹_› ⟨by decide +kernel⟩) :
    KeptOut L r (execDevrstN s) :=
  .next (.ite h h.deviceReset)

theorem Kept.execDeviceReset {v} (h : Kept L r s)
    (hl : Foot.deviceReset.Within L := by exact .mono ‹_› ⟨by decide +kernel⟩) :
    KeptOut L r (execDeviceReset v s) :=
  .next (.ite h.deviceReset h)

theorem Kept.execPerstNRise (h : Kept L r s) (hl : (Foot.part .boot).Within L := by exact .mono ‹_› ⟨by decide +kernel⟩) :
    KeptOut L r (execPerstNRise s) :=
  .next h.updBt

@[irreducible] def Foot.execBootClock : Foot := Foot.part .noc ||| Foot.part .boot ||| Foot.field BOOT_STATUS_STAGE.id |||
    .of [CK_KINDLING_TRIMMED, CK_KINDLING_TRIM_CODE, CK_SEL_WORD0, MON_STATUS_RUN, MON_STATUS_STABLE] [.clk]

theorem Kept.execBootClock {refclk code} (h : Kept L r s)
    (hl : Foot.execBootClock.Within L := by exact .mono ‹_› ⟨by decide +kernel⟩) :
    KeptOut L r (execBootClock refclk code s) :=
  .ite (.next h) (.next (h.wr.wr.wr.updBt.foldl (fun _ _ h => h.wr.wr)).updClk.updNet.setBoot)

@[irreducible] def Foot.execBootDirectory : Foot := Foot.takeDirectory ||| Foot.field BOOT_STATUS_STAGE.id ||| Foot.field
    BOOT_STATUS_NO_DIRECTORY.id

theorem Kept.execBootDirectory {readable} (h : Kept L r s)
    (hl : Foot.execBootDirectory.Within L := by exact .mono ‹_› ⟨by decide +kernel⟩) :
    KeptOut L r (execBootDirectory readable s) := by
  unfold Machine.execBootDirectory
  extract_lets _ s2
  have k2 : Kept L r s2 := by
    unfold s2
    refine .ite h.wr ?_
    split
    · exact h.takeDirectory
    · split
      · exact h.takeDirectory
      · exact h.wr
  exact .ite (.next h) (.next k2.setBoot)

@[irreducible] def Foot.execBootImage : Foot := Foot.recovery ||| Foot.field BOOT_STATUS_STAGE.id ||| .of
    [DB_STATUS_DEBUG_PERMITTED, FW_STATUS_ACTIVE_SLOT, FW_STATUS_VALID_A, FW_STATUS_VALID_B, FW_STATUS_VERSION_A,
    FW_STATUS_VERSION_B, SP_RGN_BASE_BLOCK, SP_RGN_LIMIT_BLOCK, SP_RGN_PERM_ENABLE, SP_RGN_PERM_R, SP_RGN_PERM_W,
    SP_RGN_PERM_X] []

theorem Kept.execBootImage {goodA goodB verA verB regions} (h : Kept L r s)
    (hl : Foot.execBootImage.Within L := by exact .mono ‹_› ⟨by decide +kernel⟩) :
    KeptOut L r (execBootImage goodA goodB verA verB regions s) := by
  unfold Machine.execBootImage
  refine .ite (.next h) ?_
  extract_lets s1 min_ found image s2 slot s3 s4
  have hi {valid version : Fld} {good v t} (k : Kept L r t)
      (hv : (Foot.field valid.id).Within L := by exact .mono ‹_› ⟨by decide +kernel⟩)
      (hw : (Foot.field version.id).Within L := by exact .mono ‹_› ⟨by decide +kernel⟩) :
      Kept L r (image valid version good v t) := .ite k ((k.setb hv).wr hw)
  have k2 : Kept L r s2 := hi (hi h.commitLog)
  have k4 : Kept L r s4 := k2.recovery.setb
  clear_value slot
  split
  · exact .next k4.setBoot
  · exact .next (Kept.wr (k4.foldl fun _ _ k => k.wr.wr.foldFields fun _ _ hf k => k.wr hf)).setBoot

@[irreducible] def Foot.execBootMemory : Foot := Foot.trainChannel ||| Foot.setPcie ||| Foot.part .boot ||| Foot.field
    BOOT_STATUS_STAGE.id

theorem Kept.execBootMemory {chans} (h : Kept L r s)
    (hl : Foot.execBootMemory.Within L := by exact .mono ‹_› ⟨by decide +kernel⟩) :
    KeptOut L r (execBootMemory chans s) :=
  .ite (.next h) (.ite (.next (h.setPcie.updBt.foldl (fun _ _ h => h.wr))) (.ite (.next h) (.next ((h.foldl (fun _ _ h =>
    .ite h.trainChannel h.trainChannel)).foldl (fun _ _ h => h.updDdr_)).setBoot)))

@[irreducible] def Foot.execBootKeys : Foot := Foot.provision ||| Foot.field BOOT_STATUS_STAGE.id ||| Foot.field
    HI_STATUS_READY.id

theorem Kept.execBootKeys (h : Kept L r s) (hl : Foot.execBootKeys.Within L := by exact .mono ‹_› ⟨by decide +kernel⟩) :
    KeptOut L r (execBootKeys s) :=
  .ite (.next h) (.next (h.foldl (fun _ _ h => h.provision)).wr.setBoot)

@[irreducible] def Foot.startBootStream : Foot := Foot.cfgStart ||| Foot.part .boot

theorem Kept.startBootStream {a} (h : Kept L r s)
    (hl : Foot.startBootStream.Within L := by exact .mono ‹_› ⟨by decide +kernel⟩) :
    Kept L r (startBootStream a s) :=
  h.cfgStart.updBt

@[irreducible] def Foot.execBootFabric : Foot := Foot.startBootStream ||| Foot.field BOOT_STATUS_STAGE.id ||| .of
    [BOOT_STATUS_CFG_ALT_USED, BOOT_STATUS_CFG_FAILED] []

theorem Kept.execBootFabric (h : Kept L r s) (hl : Foot.execBootFabric.Within L := by exact .mono ‹_› ⟨by decide +kernel⟩) :
    KeptOut L r (execBootFabric s) := by
  unfold Machine.execBootFabric
  extract_lets
  refine .ite (.next h) ?_
  split
  · exact .ite (.next h.setBoot) (.next h.startBootStream)
  · exact .ite (.next h.setBoot) (.ite (.next h.wr.setBoot) (.next h.wr.startBootStream))
  · exact .next (Kept.ite h.wr h).setBoot

@[irreducible] def Foot.execBootService : Foot := Foot.part .dbg ||| .of [BOOT_TIME_CYCLES, HM_STATUS_BOOT_DONE,
    SP_STATUS_EMBER_MODE, WD_CFG_WD_PERIOD_EXP, WK_CFG_CLASS, WK_CFG_DEPTH_M1, WK_CFG_PORT, WK_CFG_ROUTER, WK_CFG_STATE,
    WK_STATUS_TIMEOUT_EXP] []

theorem Kept.execBootService {exp timeout} (h : Kept L r s)
    (hl : Foot.execBootService.Within L := by exact .mono ‹_› ⟨by decide +kernel⟩) :
    KeptOut L r (execBootService exp timeout s) :=
  .ite (.next h) (.next (h.foldl (fun _ _ h => h.wr.wr.wr.wr.wr.wr)).wr.wr.updDb.wr.wr)

@[irreducible] def Foot.execBootWaitImage : Foot := Foot.setPcie ||| Foot.field HI_STATUS_READY.id

theorem Kept.execBootWaitImage (h : Kept L r s)
    (hl : Foot.execBootWaitImage.Within L := by exact .mono ‹_› ⟨by decide +kernel⟩) :
    KeptOut L r (execBootWaitImage s) :=
  .ite (.next h.setPcie.wr) (.next h)

theorem Kept.execBootWatchdog (h : Kept L r s) (hl : Foot.deviceReset.Within L := by exact .mono ‹_› ⟨by decide +kernel⟩) :
    KeptOut L r (execBootWatchdog s) :=
  .ite (.next h) (.next h.deviceReset)

@[irreducible] def Foot.execFwWrite : Foot := Foot.decideOp ||| Foot.part .drawn ||| Foot.part .flash ||| Foot.field
    BOOT_STATUS_STAGE.id ||| .of [FW_STATUS_VALID_A, FW_STATUS_VALID_B, FW_STATUS_VERSION_A, FW_STATUS_VERSION_B] []

theorem Kept.execFwWrite {ring good version} (h : Kept L r s)
    (hl : Foot.execFwWrite.Within L := by exact .mono ‹_› ⟨by decide +kernel⟩) :
    KeptOut L r (execFwWrite ring good version s) := by
  unfold Machine.execFwWrite
  extract_lets
  split
  · exact .next h
  · extract_lets _ s1 _ _ s2 s3
    have k1 : Kept L r s1 := h.runOp.programSlot
    have k2 : Kept L r s2 := .ite k1.setb.wr k1.setb.wr
    have k3 : Kept L r s3 := k2.decideOp
    refine .ite (.next h.decideOp) ?_
    refine .ite ?_ (.next (.ite k3.setBoot k3))
    split
    next s4 e5 =>
    have k4 : Kept L r s4 := .snd h.draw e5
    exact .next k4.decideOp

@[irreducible] def Foot.execFwCoreRestart : Foot := Foot.field HM_STATUS_CORE_STATE.id ||| Foot.part .boot ||| Foot.field
    FW_STATUS_STATE.id

theorem Kept.execFwCoreRestart {c} (h : Kept L r s)
    (hl : Foot.execFwCoreRestart.Within L := by exact .mono ‹_› ⟨by decide +kernel⟩) :
    KeptOut L r (execFwCoreRestart c s) :=
  .ite (.next h) (h.setCore.updBt.andThen fun h => .ite (.next h) (.ite (.next h.wr.updBt) (.next h.wr)))

@[irreducible] def Foot.commitVersion : Foot := Foot.stageLoading ||| Foot.part .drawn ||| .of [FW_STATUS_COMMIT_PENDING,
    PF_SET_ID_SET_ID] [.stage]

theorem Kept.commitVersion (h : Kept L r s) (hl : Foot.commitVersion.Within L := by exact .mono ‹_› ⟨by decide +kernel⟩) :
    Kept L r (commitVersion s) := by
  unfold Machine.commitVersion
  extract_lets
  refine .ite h.wr ?_
  split
  next s1 e2 =>
  have k1 : Kept L r s1 := .snd h.draw e2
  exact k1.stageLoading.wr.wr.wr.updStage

@[irreducible] def Foot.execFwSelfCheck : Foot := Foot.fwRevert ||| Foot.commitVersion ||| .of [FW_COUNTS_SWITCHES,
    FW_STATUS_ACTIVE_SLOT] []

theorem Kept.execFwSelfCheck {pass} (h : Kept L r s)
    (hl : Foot.execFwSelfCheck.Within L := by exact .mono ‹_› ⟨by decide +kernel⟩) :
    KeptOut L r (execFwSelfCheck pass s) :=
  .ite (.next h) (.ite (.next h.fwRevert) (h.wr.wr.incSat.keepPrefer.raise.andThen fun h => .next (.ite h.commitVersion h)))

@[irreducible] def Foot.execFwCommitRetry : Foot := Foot.addJob ||| Foot.commitVersion

theorem Kept.execFwCommitRetry (h : Kept L r s)
    (hl : Foot.execFwCommitRetry.Within L := by exact .mono ‹_› ⟨by decide +kernel⟩) :
    KeptOut L r (execFwCommitRetry s) := by
  unfold Machine.execFwCommitRetry
  refine .next ?_
  refine .ite h ?_
  split
  · exact .ite h.commitVersion h
  · exact .ite h.addJob h

/-! The footprints of Machine/Clock. -/

@[irreducible] def Foot.endWindow : Foot := Foot.judgeClock ||| Foot.loseClock ||| .of [CK_INJECT_INJ_BAND,
    CK_INJECT_INJ_LOSS, FI_CHECK_INJECT_INJ_MONITOR, FI_MON_FAULT_MONITORS, MON_STATUS_ERR] []

theorem Kept.endWindow {m comp count disagree} (h : Kept L r s)
    (hl : Foot.endWindow.Within L := by exact .mono ‹_› ⟨by decide +kernel⟩) :
    Kept L r (endWindow m comp count disagree s) := by
  unfold Machine.endWindow
  refine .ite h.wr.updClk ?_
  split
  next s1 e2 =>
  have k1 : Kept L r s1 := .snd h.takeInj e2
  extract_lets s3 _ _
  have k3 : Kept L r s3 := k1.setmbit.updMon
  refine .ite k3.raiseInj ?_
  refine .ite (.ite k1.updMon k1.setmbit.updMon) ?_
  split
  next s4 e5 =>
  have k4 : Kept L r s4 := .snd k1.takeInj e5
  extract_lets
  split
  next s6 e7 =>
  have k6 : Kept L r s6 := .snd k4.takeInj e7
  exact (Kept.ite k6.loseClock k6).wr.setb.judgeClock

theorem Kept.execMonitorWindow {m count disagree} (h : Kept L r s)
    (hl : Foot.endWindow.Within L := by exact .mono ‹_› ⟨by decide +kernel⟩) :
    KeptOut L r (execMonitorWindow m count disagree s) := by
  unfold Machine.execMonitorWindow
  split
  · exact .next h
  · exact .next h.endWindow.startWindow

theorem Kept.execMonitorEdgeLoss {m} (h : Kept L r s)
    (hl : Foot.loseClock.Within L := by exact .mono ‹_› ⟨by decide +kernel⟩) :
    KeptOut L r (execMonitorEdgeLoss m s) :=
  .ite (.next h) (.next h.loseClock)

theorem Kept.execPllLockLoss {d} (h : Kept L r s) (hl : Foot.smoulder.Within L := by exact .mono ‹_› ⟨by decide +kernel⟩) :
    KeptOut L r (execPllLockLoss d s) :=
  .next (.ite h.smoulder h)

theorem Kept.execPllRelock {d} (h : Kept L r s) (hl : Foot.relock.Within L := by exact .mono ‹_› ⟨by decide +kernel⟩) :
    KeptOut L r (execPllRelock d s) := by
  unfold Machine.execPllRelock
  refine .ite (.next h) ?_
  split
  · exact .next h.relock
  · exact .next h.relock
  · exact .next h.relock
  · exact .next h

theorem Kept.execRampStep {d} (h : Kept L r s) (hl : Foot.rampStep.Within L := by exact .mono ‹_› ⟨by decide +kernel⟩) :
    KeptOut L r (execRampStep d s) :=
  .next h.rampStep

theorem Kept.execRampEnd {d} (h : Kept L r s) (hl : Foot.pllDone.Within L := by exact .mono ‹_› ⟨by decide +kernel⟩) :
    KeptOut L r (execRampEnd d s) := by
  unfold Machine.execRampEnd
  extract_lets
  refine .next ?_
  split
  · exact .ite h.pllDone h
  · exact h

theorem Kept.execTrimWindow {count} (h : Kept L r s)
    (hl : Foot.trimWindow.Within L := by exact .mono ‹_› ⟨by decide +kernel⟩) :
    KeptOut L r (execTrimWindow count s) :=
  .next h.trimWindow

@[irreducible] def Foot.execCkClearCounts : Foot := .of [CK_COUNTS_SMOULDERS, CK_COUNTS_SWITCHES, CK_DOM_COUNTS_SMOULDERS,
    CK_DOM_COUNTS_SWITCHES, MON_COUNTS_LOSSES, MON_COUNTS_OUT_OF_BAND] []

theorem Kept.execCkClearCounts (h : Kept L r s)
    (hl : Foot.execCkClearCounts.Within L := by exact .mono ‹_› ⟨by decide +kernel⟩) :
    KeptOut L r (execCkClearCounts s) :=
  .next h.clrAll

@[irreducible] def Foot.execDdrSelfRefreshEntered : Foot := Foot.pinsGo ||| Foot.powerAdvance ||| .of
    [DC_RFM_COUNTS_RFM_ISSUED, DC_STATUS_STATE] []

theorem Kept.execDdrSelfRefreshEntered {c} (h : Kept L r s)
    (hl : Foot.execDdrSelfRefreshEntered.Within L := by exact .mono ‹_› ⟨by decide +kernel⟩) :
    KeptOut L r (execDdrSelfRefreshEntered c s) :=
  .ite (h.updDdr_.wr.andThen fun h => .ite (.next h.powerGo.pinsGo) (.next h.incWrap.wr.updDdr_.setPort.powerGo.pinsGo))
    (.next h)

@[irreducible] def Foot.execSelfRefreshExitDone : Foot := Foot.powerAdvance ||| Foot.serveRequest ||| Foot.field
    DC_STATUS_STATE.id

theorem Kept.execSelfRefreshExitDone {c} (h : Kept L r s)
    (hl : Foot.execSelfRefreshExitDone.Within L := by exact .mono ‹_› ⟨by decide +kernel⟩) :
    KeptOut L r (execSelfRefreshExitDone c s) :=
  .ite (.next h.wr.updDdr_.powerGo.serveDdr) (.next h)

/-! The footprints of Machine/Debug. -/

theorem Kept.execTapReset (h : Kept L r s) (hl : Foot.selectIr.Within L := by exact .mono ‹_› ⟨by decide +kernel⟩) :
    KeptOut L r (execTapReset s) :=
  .next h.selectIr

theorem Kept.scanBoundary {op cells update} (h : Kept L r s)
    (hl : Foot.loadIr.Within L := by exact .mono ‹_› ⟨by decide +kernel⟩) :
    Kept L r (scanBoundary op cells update s) :=
  h.loadIr.andThen fun h => .ite h.updDb.captureDr h.captureDr

theorem Kept.execExtest {cells update} (h : Kept L r s)
    (hl : Foot.loadIr.Within L := by exact .mono ‹_› ⟨by decide +kernel⟩) :
    KeptOut L r (execExtest cells update s) :=
  .next h.scanBoundary

theorem Kept.execSamplePreload {cells update} (h : Kept L r s)
    (hl : Foot.loadIr.Within L := by exact .mono ‹_› ⟨by decide +kernel⟩) :
    KeptOut L r (execSamplePreload cells update s) :=
  .next h.scanBoundary

theorem Kept.execExtestPulse {cells update} (h : Kept L r s)
    (hl : Foot.loadIr.Within L := by exact .mono ‹_› ⟨by decide +kernel⟩) :
    KeptOut L r (execExtestPulse cells update s) :=
  .next h.scanBoundary

theorem Kept.execExtestTrain {cells update} (h : Kept L r s)
    (hl : Foot.loadIr.Within L := by exact .mono ‹_› ⟨by decide +kernel⟩) :
    KeptOut L r (execExtestTrain cells update s) :=
  .next h.scanBoundary

theorem Kept.execClamp (h : Kept L r s) (hl : Foot.loadIr.Within L := by exact .mono ‹_› ⟨by decide +kernel⟩) :
    KeptOut L r (execClamp s) :=
  .next h.loadIr.captureDr

theorem Kept.execHighz (h : Kept L r s) (hl : Foot.loadIr.Within L := by exact .mono ‹_› ⟨by decide +kernel⟩) :
    KeptOut L r (execHighz s) :=
  .next h.loadIr.captureDr

theorem Kept.execIdcode (h : Kept L r s) (hl : Foot.loadIr.Within L := by exact .mono ‹_› ⟨by decide +kernel⟩) :
    KeptOut L r (execIdcode s) :=
  .next h.loadIr.captureDr

theorem Kept.execBypass {op} (h : Kept L r s) (hl : Foot.loadIr.Within L := by exact .mono ‹_› ⟨by decide +kernel⟩) :
    KeptOut L r (execBypass op s) :=
  .ite (.next h) (.next h.loadIr.captureDr)

@[irreducible] def Foot.execCfgIn : Foot := Foot.loadIr ||| Foot.cfgStart

theorem Kept.execCfgIn {start bytes} (h : Kept L r s)
    (hl : Foot.execCfgIn.Within L := by exact .mono ‹_› ⟨by decide +kernel⟩) :
    KeptOut L r (execCfgIn start bytes s) :=
  (Kept.ite h (h.loadIr.andThen fun h => .ite h.updDb h.updDb.cfgStart)).andThen fun h => .ite (.next h.wr.upC) (.next h)

theorem Kept.execCfgStatus (h : Kept L r s) (hl : Foot.loadIr.Within L := by exact .mono ‹_› ⟨by decide +kernel⟩) :
    KeptOut L r (execCfgStatus s) :=
  .next h.loadIr.captureDr

theorem Kept.captureLifecycle (h : Kept L r s) (hl : (Foot.part .dbg).Within L := by exact .mono ‹_› ⟨by decide +kernel⟩) :
    Kept L r (captureLifecycle s) :=
  h.captureDr

@[irreducible] def Foot.execDbgMem : Foot := Foot.loadIr ||| Foot.landMem

theorem Kept.execDbgMem {dr} (h : Kept L r s) (hl : Foot.execDbgMem.Within L := by exact .mono ‹_› ⟨by decide +kernel⟩) :
    KeptOut L r (execDbgMem dr s) :=
  h.loadIr.andThen fun h => .ite (.next h.captureLifecycle) (h.captureDr.andThen fun h => .ite (.next h.updDb) (.next
    h.updDb.landMem))

@[irreducible] def Foot.execDbgAttach : Foot := Foot.loadIr ||| Foot.daCommand

theorem Kept.execDbgAttach {dr} (h : Kept L r s)
    (hl : Foot.execDbgAttach.Within L := by exact .mono ‹_› ⟨by decide +kernel⟩) :
    KeptOut L r (execDbgAttach dr s) :=
  h.loadIr.andThen fun h => .ite (.next h.captureLifecycle) (h.captureDr.andThen fun h => .ite (.next h) (.next h.daCommand))

theorem Kept.execDebugAccessDone {mem} (h : Kept L r s)
    (hl : Foot.blockRead.Within L := by exact .mono ‹_› ⟨by decide +kernel⟩) :
    KeptOut L r (execDebugAccessDone mem s) := by
  unfold Machine.execDebugAccessDone
  extract_lets _ s1
  have k1 : Kept L r s1 := by
    unfold s1
    split
    · exact h.landDram
    · exact h.fetchFrame
  exact .ite (.ite (.next k1) (.next k1.updDb)) (.next h.updDb)

theorem Kept.execDbHalt (h : Kept L r s) (hl : (Foot.part .dbg).Within L := by exact .mono ‹_› ⟨by decide +kernel⟩) :
    KeptOut L r (execDbHalt s) :=
  .next h.runRequest

theorem Kept.execDbResume (h : Kept L r s) (hl : (Foot.part .dbg).Within L := by exact .mono ‹_› ⟨by decide +kernel⟩) :
    KeptOut L r (execDbResume s) :=
  .next h.runRequest

theorem Kept.execDbStep (h : Kept L r s) (hl : (Foot.part .dbg).Within L := by exact .mono ‹_› ⟨by decide +kernel⟩) :
    KeptOut L r (execDbStep s) :=
  .next h.runRequest

@[irreducible] def Foot.execRunControlLatch : Foot := Foot.leaveHalted ||| Foot.latchHalt

theorem Kept.execRunControlLatch (h : Kept L r s)
    (hl : Foot.execRunControlLatch.Within L := by exact .mono ‹_› ⟨by decide +kernel⟩) :
    KeptOut L r (execRunControlLatch s) := by
  unfold Machine.execRunControlLatch
  extract_lets due d frozen st step s1
  have k1 : Kept L r s1 := h.updDb
  refine .next ?_
  clear_value st
  split
  · exact .ite k1.latchHalt k1
  · exact .ite k1.wr k1
  · exact .ite k1.leaveHalted (.ite k1.leaveHalted k1)
  · exact k1

@[irreducible] def Foot.execHaltedEntry : Foot := Foot.enterHalted ||| Foot.field DB_STATUS_DRAIN_INCOMPLETE.id

theorem Kept.execHaltedEntry (h : Kept L r s)
    (hl : Foot.execHaltedEntry.Within L := by exact .mono ‹_› ⟨by decide +kernel⟩) :
    KeptOut L r (execHaltedEntry s) :=
  .ite (.next (Kept.ite h.wr h).enterHalted) (.next h)

theorem Kept.execSeqArm {on} (h : Kept L r s) (hl : Foot.armSequencer.Within L := by exact .mono ‹_› ⟨by decide +kernel⟩) :
    KeptOut L r (execSeqArm on s) :=
  .next h.armSequencer

theorem Kept.execDbClearCounts (h : Kept L r s)
    (hl : Foot.clearDebugCounts.Within L := by exact .mono ‹_› ⟨by decide +kernel⟩) :
    KeptOut L r (execDbClearCounts s) :=
  .next h.clearDebugCounts

theorem Kept.execDaAttach {k t'} (h : Kept L r s) (hl : Foot.daWrite.Within L := by exact .mono ‹_› ⟨by decide +kernel⟩) :
    KeptOut L r (execDaAttach k t' s) :=
  .next h.daWrite

theorem Kept.execDaDetach {k t'} (h : Kept L r s) (hl : Foot.daWrite.Within L := by exact .mono ‹_› ⟨by decide +kernel⟩) :
    KeptOut L r (execDaDetach k t' s) :=
  .next h.daWrite

theorem Kept.execDaHalt {k t'} (h : Kept L r s) (hl : Foot.daWrite.Within L := by exact .mono ‹_› ⟨by decide +kernel⟩) :
    KeptOut L r (execDaHalt k t' s) :=
  .next h.daWrite

theorem Kept.execDaStep {k t'} (h : Kept L r s) (hl : Foot.daWrite.Within L := by exact .mono ‹_› ⟨by decide +kernel⟩) :
    KeptOut L r (execDaStep k t' s) :=
  .next h.daWrite

theorem Kept.execDaRelease {k t'} (h : Kept L r s) (hl : Foot.daWrite.Within L := by exact .mono ‹_› ⟨by decide +kernel⟩) :
    KeptOut L r (execDaRelease k t' s) :=
  .next h.daWrite

theorem Kept.execDaRead {k t' a} (h : Kept L r s) (hl : Foot.daWrite.Within L := by exact .mono ‹_› ⟨by decide +kernel⟩) :
    KeptOut L r (execDaRead k t' a s) :=
  .next h.daWrite

theorem Kept.execDaWrite {k t' a} (h : Kept L r s) (hl : Foot.daWrite.Within L := by exact .mono ‹_› ⟨by decide +kernel⟩) :
    KeptOut L r (execDaWrite k t' a s) :=
  .next h.daWrite

theorem Kept.execDaAck {code data} (h : Kept L r s) (hl : Foot.daEnd.Within L := by exact .mono ‹_› ⟨by decide +kernel⟩) :
    KeptOut L r (execDaAck code data s) :=
  .next h.daFinish

theorem Kept.execDaTimeout (h : Kept L r s) (hl : Foot.daEnd.Within L := by exact .mono ‹_› ⟨by decide +kernel⟩) :
    KeptOut L r (execDaTimeout s) := by
  unfold Machine.execDaTimeout
  split
  · exact .ite (.next h.daFinish) (.next h)
  · exact .next h

/-! The footprints of Machine/Disp. -/

@[irreducible] def Foot.execDispatchAdvanceWindow : Foot := Foot.passTo ||| Foot.noteJobs ||| Foot.advanceList

theorem Kept.execDispatchAdvanceWindow {k} (h : Kept L r s)
    (hl : Foot.execDispatchAdvanceWindow.Within L := by exact .mono ‹_› ⟨by decide +kernel⟩) :
    KeptOut L r (execDispatchAdvanceWindow k s) := by
  unfold Machine.execDispatchAdvanceWindow
  split
  · exact .next h
  · exact .next h.windowStart.noteStall.advanceList.noteJobs.openWin

@[irreducible] def Foot.execDispatchEnqueue : Foot := Foot.addJob ||| Foot.decideOp

theorem Kept.execDispatchEnqueue {ring} (h : Kept L r s)
    (hl : Foot.execDispatchEnqueue.Within L := by exact .mono ‹_› ⟨by decide +kernel⟩) :
    KeptOut L r (execDispatchEnqueue ring s) := by
  unfold Machine.execDispatchEnqueue
  split
  · exact .next h
  · extract_lets _ s1
    have k1 : Kept L r s1 := h.runOp
    refine .ite (.next h.noteStall) ?_
    split
    next s2 e3 =>
    have k2 : Kept L r s2 := .snd₂ k1.enqueueJobs e3
    exact .next k2.decideOp

theorem Kept.sendDispatch {j w slot rec_} (h : Kept L r s)
    (hl : Foot.serveSlot.Within L := by exact .mono ‹_› ⟨by decide +kernel⟩) :
    Kept L r (sendDispatch j w slot rec_ s) := by
  unfold Machine.sendDispatch
  exact h.submit

@[irreducible] def Foot.execJobDispatch : Foot := Foot.timeoutJob ||| Foot.workerLost ||| Foot.serveSlot ||| .of
    [DP_INJECT_INJ_LOST, DP_INJECT_INJ_TIMEOUT, WAIT_HIST_COUNT] []

theorem Kept.execJobDispatch (h : Kept L r s)
    (hl : Foot.execJobDispatch.Within L := by exact .mono ‹_› ⟨by decide +kernel⟩) :
    KeptOut L r (execJobDispatch s) := by
  unfold Machine.execJobDispatch
  extract_lets
  split
  · exact .next h
  · extract_lets _ _ _ _ s1 s2 s3 s4 s5 _
    have k1 : Kept L r s1 := h.incSat
    have k2 : Kept L r s2 := k1.updJobs
    have k3 : Kept L r s3 := k2.updWorker
    have k4 : Kept L r s4 := by
      unfold s4
      split
      · exact k3.noteFlow
      · exact k3
    have k5 : Kept L r s5 := k4.noteWorker.noteJobs
    split
    next s6 e7 =>
    have k6 : Kept L r s6 := .snd k5.takeInj e7
    extract_lets _ s8
    have k8 : Kept L r s8 := .ite k6.updWorker k6.sendDispatch
    refine .ite (.next k6.workerLost) ?_
    split
    next s9 e10 =>
    have k9 : Kept L r s9 := .snd k8.takeInj e10
    exact .ite (.next k9.timeoutJob) (.next k9)

@[irreducible] def Foot.execDoneMessage : Foot := Foot.countMessage ||| Foot.doneMessage

theorem Kept.execDoneMessage {sid entry gen status result} (h : Kept L r s)
    (hl : Foot.execDoneMessage.Within L := by exact .mono ‹_› ⟨by decide +kernel⟩) :
    KeptOut L r (execDoneMessage sid entry gen status result s) := by
  unfold Machine.execDoneMessage
  split
  next s1 e2 =>
  have k1 : Kept L r s1 := .snd h.countMessage e2
  exact .next (.ite k1 k1.doneMessage)

theorem Kept.execDispatchJobTimeout {slot} (h : Kept L r s)
    (hl : Foot.timeoutJob.Within L := by exact .mono ‹_› ⟨by decide +kernel⟩) :
    KeptOut L r (execDispatchJobTimeout slot s) := by
  unfold Machine.execDispatchJobTimeout
  split
  · exact .next h
  · exact .ite (.next h.timeoutJob) (.next h)

@[irreducible] def Foot.execJobRelease : Foot := Foot.blockRead ||| Foot.landJobs ||| Foot.field DP_COUNTS_B_DONE_REFUSED.id

theorem Kept.execJobRelease {slot} (h : Kept L r s)
    (hl : Foot.execJobRelease.Within L := by exact .mono ‹_› ⟨by decide +kernel⟩) :
    KeptOut L r (execJobRelease slot s) := by
  unfold Machine.execJobRelease
  extract_lets _ _ s1 s2
  have k1 : Kept L r s1 := h.noteStall
  have k2 : Kept L r s2 := k1.updJobs
  split
  · exact .next h
  · extract_lets s3 s4
    have k3 : Kept L r s3 := by
      unfold s3
      split
      · exact k2.noteFlow
      · exact k2
    have k4 : Kept L r s4 := k3.noteJobs.serveDispatch
    refine .ite (.next h) ?_
    refine .ite (.next k4) ?_
    split
    next s5 e6 =>
    have k5 : Kept L r s5 := .snd k4.blockWrite e6
    exact .ite (.next k5) (.next k5.incSat.raise)

@[irreducible] def Foot.execWorkerRegistration : Foot := Foot.countMessage ||| Foot.registerWorker

theorem Kept.execWorkerRegistration {sid w w0 w1 w2 w3} (h : Kept L r s)
    (hl : Foot.execWorkerRegistration.Within L := by exact .mono ‹_› ⟨by decide +kernel⟩) :
    KeptOut L r (execWorkerRegistration sid w w0 w1 w2 w3 s) := by
  unfold Machine.execWorkerRegistration
  split
  next s1 e2 =>
  have k1 : Kept L r s1 := .snd h.countMessage e2
  exact .next (.ite k1 k1.registerWorker)

@[irreducible] def Foot.execDpClearCounts : Foot := .of [DELAY_LATE_LATE_JOBS, DELAY_LATE_MAX_LATE, DP_COUNTS_B_DONE_REFUSED,
    DP_COUNTS_B_LATE_DONE, DP_COUNTS_B_UNSCHEDULED_ADVANCE, DP_COUNTS_B_WORKERS_LOST, DP_COUNTS_ENQ_STALL_FRAMES,
    DP_COUNTS_JOB_TIMEOUTS, WAIT_HIST_COUNT, WK_COUNTS_RETURNED, WK_COUNTS_TIMEOUTS, WK_JOBS_JOBS] []

theorem Kept.execDpClearCounts (h : Kept L r s)
    (hl : Foot.execDpClearCounts.Within L := by exact .mono ‹_› ⟨by decide +kernel⟩) :
    KeptOut L r (execDpClearCounts s) :=
  .next h.clrAll

/-! The footprints of Machine/Inject. -/

theorem Kept.execTamperSensorFire {sensors} (h : Kept L r s)
    (hl : Foot.fireSensors.Within L := by exact .mono ‹_› ⟨by decide +kernel⟩) :
    KeptOut L r (execTamperSensorFire sensors s) :=
  .next (.ite h h.fireSensors)

@[irreducible] def Foot.execCheckerTest : Foot := Foot.sequencerStep ||| .of [FI_CHECK_INJECT_INJ_CMP_CHECK,
    FI_CHECK_INJECT_INJ_DLY_CHECK, FI_CHECK_STATUS_CMP_LOST, FI_CHECK_STATUS_DLY_LOST] []

theorem Kept.execCheckerTest {n cmpFails dlyFails} (h : Kept L r s)
    (hl : Foot.execCheckerTest.Within L := by exact .mono ‹_› ⟨by decide +kernel⟩) :
    KeptOut L r (execCheckerTest n cmpFails dlyFails s) := by
  unfold Machine.execCheckerTest
  extract_lets
  refine .ite ?_ (.next h)
  split
  next s1 e2 =>
  have k1 : Kept L r s1 := .snd h.takeInj e2
  extract_lets s3
  have k3 : Kept L r s3 := k1.checkerResult
  split
  next s4 e5 =>
  have k4 : Kept L r s4 := .snd k3.takeInj e5
  exact .next k4.checkerResult

@[irreducible] def Foot.execEaClearCounts : Foot := .of [EA_CLASS_FAULT, EA_CLASS_HANDLED, EA_CLASS_MARKED, EA_CLASS_NOTE,
    EA_COUNT_COUNT, EA_FIRST_FAULT_EVENT_ID, EA_FIRST_FAULT_INSTANCE, EA_FIRST_FAULT_VALID, EA_FIRST_TICK_TICK,
    EA_INJECTED_COUNT] []

theorem Kept.execEaClearCounts (h : Kept L r s)
    (hl : Foot.execEaClearCounts.Within L := by exact .mono ‹_› ⟨by decide +kernel⟩) :
    KeptOut L r (execEaClearCounts s) :=
  .next h.clrAll

theorem Kept.execInjDisagree {n v} (h : Kept L r s) (hl : Foot.injWrite.Within L := by exact .mono ‹_› ⟨by decide +kernel⟩) :
    KeptOut L r (execInjDisagree n v s) :=
  .next h.injCommand

theorem Kept.execInjDelay {n v} (h : Kept L r s) (hl : Foot.injWrite.Within L := by exact .mono ‹_› ⟨by decide +kernel⟩) :
    KeptOut L r (execInjDelay n v s) :=
  .next h.injCommand

@[irreducible] def Foot.execInjTemp : Foot := Foot.injWrite ||| Foot.field RG_INJECT_INJ_TEMP.id

theorem Kept.execInjTemp {n v} (h : Kept L r s) (hl : Foot.execInjTemp.Within L := by exact .mono ‹_› ⟨by decide +kernel⟩) :
    KeptOut L r (execInjTemp n v s) :=
  .next h.injCommand

@[irreducible] def Foot.execInjBias : Foot := Foot.injWrite ||| Foot.field RG_INJECT_INJ_BIAS.id

theorem Kept.execInjBias {n v} (h : Kept L r s) (hl : Foot.execInjBias.Within L := by exact .mono ‹_› ⟨by decide +kernel⟩) :
    KeptOut L r (execInjBias n v s) :=
  .next h.injCommand

@[irreducible] def Foot.execInjBclk : Foot := Foot.injWrite ||| Foot.field RG_INJECT_INJ_BCLK.id

theorem Kept.execInjBclk {n v} (h : Kept L r s) (hl : Foot.execInjBclk.Within L := by exact .mono ‹_› ⟨by decide +kernel⟩) :
    KeptOut L r (execInjBclk n v s) :=
  .next h.injCommand

@[irreducible] def Foot.execInjOpmem : Foot := Foot.injWrite ||| Foot.field SL_INJECT_INJ_OPMEM.id

theorem Kept.execInjOpmem {k t' v} (h : Kept L r s)
    (hl : Foot.execInjOpmem.Within L := by exact .mono ‹_› ⟨by decide +kernel⟩) :
    KeptOut L r (execInjOpmem k t' v s) :=
  .next h.injCommand

@[irreducible] def Foot.execInjProg : Foot := Foot.injWrite ||| Foot.field SL_INJECT_INJ_PROG.id

theorem Kept.execInjProg {k t' v} (h : Kept L r s)
    (hl : Foot.execInjProg.Within L := by exact .mono ‹_› ⟨by decide +kernel⟩) :
    KeptOut L r (execInjProg k t' v s) :=
  .next h.injCommand

@[irreducible] def Foot.execInjAuth : Foot := Foot.injWrite ||| Foot.field CFG_INJECT_INJ_AUTH.id

theorem Kept.execInjAuth {v} (h : Kept L r s) (hl : Foot.execInjAuth.Within L := by exact .mono ‹_› ⟨by decide +kernel⟩) :
    KeptOut L r (execInjAuth v s) :=
  .next h.injCommand

@[irreducible] def Foot.execInjCheck : Foot := Foot.injWrite ||| Foot.field CFG_INJECT_INJ_CHECK.id

theorem Kept.execInjCheck {v} (h : Kept L r s) (hl : Foot.execInjCheck.Within L := by exact .mono ‹_› ⟨by decide +kernel⟩) :
    KeptOut L r (execInjCheck v s) :=
  .next h.injCommand

@[irreducible] def Foot.execInjSingle : Foot := Foot.injWrite ||| Foot.field SCRUB_INJECT_INJ_SINGLE.id

theorem Kept.execInjSingle {v} (h : Kept L r s)
    (hl : Foot.execInjSingle.Within L := by exact .mono ‹_› ⟨by decide +kernel⟩) :
    KeptOut L r (execInjSingle v s) :=
  .next h.injCommand

@[irreducible] def Foot.execInjDouble : Foot := Foot.injWrite ||| Foot.field SCRUB_INJECT_INJ_DOUBLE.id

theorem Kept.execInjDouble {v} (h : Kept L r s)
    (hl : Foot.execInjDouble.Within L := by exact .mono ‹_› ⟨by decide +kernel⟩) :
    KeptOut L r (execInjDouble v s) :=
  .next h.injCommand

@[irreducible] def Foot.execInjParity : Foot := Foot.injWrite ||| Foot.field NR_INJECT_INJ_PARITY.id

theorem Kept.execInjParity {n v} (h : Kept L r s)
    (hl : Foot.execInjParity.Within L := by exact .mono ‹_› ⟨by decide +kernel⟩) :
    KeptOut L r (execInjParity n v s) :=
  .next h.injCommand

@[irreducible] def Foot.execNrInjTimeout : Foot := Foot.injWrite ||| Foot.field NR_INJECT_INJ_TIMEOUT.id

theorem Kept.execNrInjTimeout {n v} (h : Kept L r s)
    (hl : Foot.execNrInjTimeout.Within L := by exact .mono ‹_› ⟨by decide +kernel⟩) :
    KeptOut L r (execNrInjTimeout n v s) :=
  .next h.injCommand

@[irreducible] def Foot.execInjCe : Foot := Foot.injWrite ||| Foot.field DC_INJECT_INJ_CE.id

theorem Kept.execInjCe {n v} (h : Kept L r s) (hl : Foot.execInjCe.Within L := by exact .mono ‹_› ⟨by decide +kernel⟩) :
    KeptOut L r (execInjCe n v s) :=
  .next h.injCommand

@[irreducible] def Foot.execInjUe : Foot := Foot.injWrite ||| Foot.field DC_INJECT_INJ_UE.id

theorem Kept.execInjUe {n v} (h : Kept L r s) (hl : Foot.execInjUe.Within L := by exact .mono ‹_› ⟨by decide +kernel⟩) :
    KeptOut L r (execInjUe n v s) :=
  .next h.injCommand

@[irreducible] def Foot.execInjRefmiss : Foot := Foot.injWrite ||| Foot.field DC_INJECT_INJ_REFMISS.id

theorem Kept.execInjRefmiss {n v} (h : Kept L r s)
    (hl : Foot.execInjRefmiss.Within L := by exact .mono ‹_› ⟨by decide +kernel⟩) :
    KeptOut L r (execInjRefmiss n v s) :=
  .next h.injCommand

@[irreducible] def Foot.execInjTag : Foot := Foot.injWrite ||| Foot.field EN_INJECT_INJ_TAG.id

theorem Kept.execInjTag {v} (h : Kept L r s) (hl : Foot.execInjTag.Within L := by exact .mono ‹_› ⟨by decide +kernel⟩) :
    KeptOut L r (execInjTag v s) :=
  .next h.injCommand

@[irreducible] def Foot.execInjRefuse : Foot := Foot.injWrite ||| Foot.field EN_INJECT_INJ_REFUSE.id

theorem Kept.execInjRefuse {v} (h : Kept L r s)
    (hl : Foot.execInjRefuse.Within L := by exact .mono ‹_› ⟨by decide +kernel⟩) :
    KeptOut L r (execInjRefuse v s) :=
  .next h.injCommand

@[irreducible] def Foot.execInjBip : Foot := Foot.injWrite ||| Foot.field LG_INJECT_INJ_BIP.id

theorem Kept.execInjBip {n v} (h : Kept L r s) (hl : Foot.execInjBip.Within L := by exact .mono ‹_› ⟨by decide +kernel⟩) :
    KeptOut L r (execInjBip n v s) :=
  .next h.injCommand

theorem Kept.execInjLock {n v} (h : Kept L r s) (hl : Foot.injWrite.Within L := by exact .mono ‹_› ⟨by decide +kernel⟩) :
    KeptOut L r (execInjLock n v s) :=
  .next h.injCommand

theorem Kept.execInjSlip {n v} (h : Kept L r s) (hl : Foot.injWrite.Within L := by exact .mono ‹_› ⟨by decide +kernel⟩) :
    KeptOut L r (execInjSlip n v s) :=
  .next h.injCommand

@[irreducible] def Foot.execInjCrc : Foot := Foot.injWrite ||| Foot.field MS_INJECT_INJ_CRC.id

theorem Kept.execInjCrc {v} (h : Kept L r s) (hl : Foot.execInjCrc.Within L := by exact .mono ‹_› ⟨by decide +kernel⟩) :
    KeptOut L r (execInjCrc v s) :=
  .next h.injCommand

@[irreducible] def Foot.execInjAckDrop : Foot := Foot.injWrite ||| Foot.field MS_INJECT_INJ_ACK_DROP.id

theorem Kept.execInjAckDrop {v} (h : Kept L r s)
    (hl : Foot.execInjAckDrop.Within L := by exact .mono ‹_› ⟨by decide +kernel⟩) :
    KeptOut L r (execInjAckDrop v s) :=
  .next h.injCommand

@[irreducible] def Foot.execInjTimeMiss : Foot := Foot.injWrite ||| Foot.field MS_INJECT_INJ_TIME_MISS.id

theorem Kept.execInjTimeMiss {v} (h : Kept L r s)
    (hl : Foot.execInjTimeMiss.Within L := by exact .mono ‹_› ⟨by decide +kernel⟩) :
    KeptOut L r (execInjTimeMiss v s) :=
  .next h.injCommand

@[irreducible] def Foot.execInjFetch : Foot := Foot.injWrite ||| Foot.field HI_INJECT_INJ_FETCH.id

theorem Kept.execInjFetch {v} (h : Kept L r s) (hl : Foot.execInjFetch.Within L := by exact .mono ‹_› ⟨by decide +kernel⟩) :
    KeptOut L r (execInjFetch v s) :=
  .next h.injCommand

@[irreducible] def Foot.execInjDoorbell : Foot := Foot.injWrite ||| Foot.field HI_INJECT_INJ_DOORBELL.id

theorem Kept.execInjDoorbell {v} (h : Kept L r s)
    (hl : Foot.execInjDoorbell.Within L := by exact .mono ‹_› ⟨by decide +kernel⟩) :
    KeptOut L r (execInjDoorbell v s) :=
  .next h.injCommand

@[irreducible] def Foot.execDpInjTimeout : Foot := Foot.injWrite ||| Foot.field DP_INJECT_INJ_TIMEOUT.id

theorem Kept.execDpInjTimeout {v} (h : Kept L r s)
    (hl : Foot.execDpInjTimeout.Within L := by exact .mono ‹_› ⟨by decide +kernel⟩) :
    KeptOut L r (execDpInjTimeout v s) :=
  .next h.injCommand

@[irreducible] def Foot.execInjLost : Foot := Foot.injWrite ||| Foot.field DP_INJECT_INJ_LOST.id

theorem Kept.execInjLost {v} (h : Kept L r s) (hl : Foot.execInjLost.Within L := by exact .mono ‹_› ⟨by decide +kernel⟩) :
    KeptOut L r (execInjLost v s) :=
  .next h.injCommand

@[irreducible] def Foot.execInjEcc1 : Foot := Foot.injWrite ||| Foot.field SP_INJECT_INJ_ECC1.id

theorem Kept.execInjEcc1 {v} (h : Kept L r s) (hl : Foot.execInjEcc1.Within L := by exact .mono ‹_› ⟨by decide +kernel⟩) :
    KeptOut L r (execInjEcc1 v s) :=
  .next h.injCommand

@[irreducible] def Foot.execInjEcc2 : Foot := Foot.injWrite ||| Foot.field SP_INJECT_INJ_ECC2.id

theorem Kept.execInjEcc2 {v} (h : Kept L r s) (hl : Foot.execInjEcc2.Within L := by exact .mono ‹_› ⟨by decide +kernel⟩) :
    KeptOut L r (execInjEcc2 v s) :=
  .next h.injCommand

@[irreducible] def Foot.execInjMarch : Foot := Foot.injWrite ||| Foot.field SP_INJECT_INJ_MARCH.id

theorem Kept.execInjMarch {v} (h : Kept L r s) (hl : Foot.execInjMarch.Within L := by exact .mono ‹_› ⟨by decide +kernel⟩) :
    KeptOut L r (execInjMarch v s) :=
  .next h.injCommand

@[irreducible] def Foot.execInjLoss : Foot := Foot.injWrite ||| Foot.field CK_INJECT_INJ_LOSS.id

theorem Kept.execInjLoss {v} (h : Kept L r s) (hl : Foot.execInjLoss.Within L := by exact .mono ‹_› ⟨by decide +kernel⟩) :
    KeptOut L r (execInjLoss v s) :=
  .next h.injCommand

@[irreducible] def Foot.execInjBand : Foot := Foot.injWrite ||| Foot.field CK_INJECT_INJ_BAND.id

theorem Kept.execInjBand {v} (h : Kept L r s) (hl : Foot.execInjBand.Within L := by exact .mono ‹_› ⟨by decide +kernel⟩) :
    KeptOut L r (execInjBand v s) :=
  .next h.injCommand

@[irreducible] def Foot.execInjDrain : Foot := Foot.injWrite ||| Foot.field PW_INJECT_INJ_DRAIN.id

theorem Kept.execInjDrain {v} (h : Kept L r s) (hl : Foot.execInjDrain.Within L := by exact .mono ‹_› ⟨by decide +kernel⟩) :
    KeptOut L r (execInjDrain v s) :=
  .next h.injCommand

theorem Kept.execTpInjSensor {v} (h : Kept L r s) (hl : Foot.injWrite.Within L := by exact .mono ‹_› ⟨by decide +kernel⟩) :
    KeptOut L r (execTpInjSensor v s) :=
  .next h.injCommand

@[irreducible] def Foot.execInjOverrun : Foot := Foot.injWrite ||| Foot.field FI_TICK_INJECT_INJ_OVERRUN.id

theorem Kept.execInjOverrun {v} (h : Kept L r s)
    (hl : Foot.execInjOverrun.Within L := by exact .mono ‹_› ⟨by decide +kernel⟩) :
    KeptOut L r (execInjOverrun v s) :=
  .next h.injCommand

@[irreducible] def Foot.execInjSyncMiss : Foot := Foot.injWrite ||| Foot.field FI_TICK_INJECT_INJ_SYNC_MISS.id

theorem Kept.execInjSyncMiss {v} (h : Kept L r s)
    (hl : Foot.execInjSyncMiss.Within L := by exact .mono ‹_› ⟨by decide +kernel⟩) :
    KeptOut L r (execInjSyncMiss v s) :=
  .next h.injCommand

@[irreducible] def Foot.execInjUnderrun : Foot := Foot.injWrite ||| Foot.field FI_REEL_INJECT_INJ_UNDERRUN.id

theorem Kept.execInjUnderrun {v} (h : Kept L r s)
    (hl : Foot.execInjUnderrun.Within L := by exact .mono ‹_› ⟨by decide +kernel⟩) :
    KeptOut L r (execInjUnderrun v s) :=
  .next h.injCommand

@[irreducible] def Foot.execInjFormat : Foot := Foot.injWrite ||| Foot.field FI_REEL_INJECT_INJ_FORMAT.id

theorem Kept.execInjFormat {v} (h : Kept L r s)
    (hl : Foot.execInjFormat.Within L := by exact .mono ‹_› ⟨by decide +kernel⟩) :
    KeptOut L r (execInjFormat v s) :=
  .next h.injCommand

@[irreducible] def Foot.execInjSplice : Foot := Foot.injWrite ||| Foot.field FI_REEL_INJECT_INJ_SPLICE.id

theorem Kept.execInjSplice {v} (h : Kept L r s)
    (hl : Foot.execInjSplice.Within L := by exact .mono ‹_› ⟨by decide +kernel⟩) :
    KeptOut L r (execInjSplice v s) :=
  .next h.injCommand

@[irreducible] def Foot.execInjCmpCheck : Foot := Foot.injWrite ||| Foot.field FI_CHECK_INJECT_INJ_CMP_CHECK.id

theorem Kept.execInjCmpCheck {v} (h : Kept L r s)
    (hl : Foot.execInjCmpCheck.Within L := by exact .mono ‹_› ⟨by decide +kernel⟩) :
    KeptOut L r (execInjCmpCheck v s) :=
  .next h.injCommand

@[irreducible] def Foot.execInjDlyCheck : Foot := Foot.injWrite ||| Foot.field FI_CHECK_INJECT_INJ_DLY_CHECK.id

theorem Kept.execInjDlyCheck {v} (h : Kept L r s)
    (hl : Foot.execInjDlyCheck.Within L := by exact .mono ‹_› ⟨by decide +kernel⟩) :
    KeptOut L r (execInjDlyCheck v s) :=
  .next h.injCommand

@[irreducible] def Foot.execInjMonitor : Foot := Foot.injWrite ||| Foot.field FI_CHECK_INJECT_INJ_MONITOR.id

theorem Kept.execInjMonitor {v} (h : Kept L r s)
    (hl : Foot.execInjMonitor.Within L := by exact .mono ‹_› ⟨by decide +kernel⟩) :
    KeptOut L r (execInjMonitor v s) :=
  .next h.injCommand

@[irreducible] def Foot.execFiInjSensor : Foot := Foot.injWrite ||| Foot.field FI_CHECK_INJECT_INJ_SENSOR.id

theorem Kept.execFiInjSensor {v} (h : Kept L r s)
    (hl : Foot.execFiInjSensor.Within L := by exact .mono ‹_› ⟨by decide +kernel⟩) :
    KeptOut L r (execFiInjSensor v s) :=
  .next h.injCommand

@[irreducible] def Foot.execInjWatchdog : Foot := Foot.injWrite ||| Foot.field FI_CORE_INJECT_INJ_WATCHDOG.id

theorem Kept.execInjWatchdog {v} (h : Kept L r s)
    (hl : Foot.execInjWatchdog.Within L := by exact .mono ‹_› ⟨by decide +kernel⟩) :
    KeptOut L r (execInjWatchdog v s) :=
  .next h.injCommand

@[irreducible] def Foot.execInjSchConflict : Foot := Foot.injWrite ||| Foot.field FI_MISC_INJECT_INJ_SCH_CONFLICT.id

theorem Kept.execInjSchConflict {v} (h : Kept L r s)
    (hl : Foot.execInjSchConflict.Within L := by exact .mono ‹_› ⟨by decide +kernel⟩) :
    KeptOut L r (execInjSchConflict v s) :=
  .next h.injCommand

@[irreducible] def Foot.execInjMr4 : Foot := Foot.injWrite ||| Foot.field FI_MISC_INJECT_INJ_MR4.id

theorem Kept.execInjMr4 {v} (h : Kept L r s) (hl : Foot.execInjMr4.Within L := by exact .mono ‹_› ⟨by decide +kernel⟩) :
    KeptOut L r (execInjMr4 v s) :=
  .next h.injCommand

@[irreducible] def Foot.execInjRfmFull : Foot := Foot.injWrite ||| Foot.field FI_MISC_INJECT_INJ_RFM_FULL.id

theorem Kept.execInjRfmFull {v} (h : Kept L r s)
    (hl : Foot.execInjRfmFull.Within L := by exact .mono ‹_› ⟨by decide +kernel⟩) :
    KeptOut L r (execInjRfmFull v s) :=
  .next h.injCommand

@[irreducible] def Foot.execInjDeskew : Foot := Foot.injWrite ||| Foot.field FI_MISC_INJECT_INJ_DESKEW.id

theorem Kept.execInjDeskew {v} (h : Kept L r s)
    (hl : Foot.execInjDeskew.Within L := by exact .mono ‹_› ⟨by decide +kernel⟩) :
    KeptOut L r (execInjDeskew v s) :=
  .next h.injCommand

@[irreducible] def Foot.execInjTrainTimeout : Foot := Foot.injWrite ||| Foot.field FI_MISC_INJECT_INJ_TRAIN_TIMEOUT.id

theorem Kept.execInjTrainTimeout {v} (h : Kept L r s)
    (hl : Foot.execInjTrainTimeout.Within L := by exact .mono ‹_› ⟨by decide +kernel⟩) :
    KeptOut L r (execInjTrainTimeout v s) :=
  .next h.injCommand

@[irreducible] def Foot.execInjSlow : Foot := Foot.injWrite ||| Foot.field FI_MISC_INJECT_INJ_SLOW.id

theorem Kept.execInjSlow {v} (h : Kept L r s) (hl : Foot.execInjSlow.Within L := by exact .mono ‹_› ⟨by decide +kernel⟩) :
    KeptOut L r (execInjSlow v s) :=
  .next h.injCommand

/-! The footprints of Machine/Io. -/

@[irreducible] def Foot.execIoDiagWindow : Foot := Foot.passTo ||| Foot.diagAtTick ||| Foot.part .io ||| Foot.field
    DIAG_COUNTS_DIAG_MISSED.id

theorem Kept.execIoDiagWindow {k} (h : Kept L r s)
    (hl : Foot.execIoDiagWindow.Within L := by exact .mono ‹_› ⟨by decide +kernel⟩) :
    KeptOut L r (execIoDiagWindow k s) := by
  unfold Machine.execIoDiagWindow
  split
  · exact .next h
  · exact h.windowStart.andThen fun h => .ite (.next h.openWin) ((Kept.ite h.diagAtTick h).updPins.andThen fun h => .ite (.next
      h.updPins.openWin) (.next h.updPins.incSat.diagAtTick.openWin))

theorem Kept.execVccoMeasure {b mv} (h : Kept L r s)
    (hl : Foot.measureVcco.Within L := by exact .mono ‹_› ⟨by decide +kernel⟩) :
    KeptOut L r (execVccoMeasure b mv s) :=
  .next h.measureVcco

@[irreducible] def Foot.execContentionDetect : Foot := Foot.shutPin ||| Foot.field PIN_STATUS_SENSED.id

theorem Kept.execContentionDetect {b p sensed} (h : Kept L r s)
    (hl : Foot.execContentionDetect.Within L := by exact .mono ‹_› ⟨by decide +kernel⟩) :
    KeptOut L r (execContentionDetect b p sensed s) :=
  .next (.ite h.setb.shutPin h)

theorem Kept.execPinRetry {b p} (h : Kept L r s) (hl : (Foot.part .io).Within L := by exact .mono ‹_› ⟨by decide +kernel⟩) :
    KeptOut L r (execPinRetry b p s) :=
  .next h.updPins

@[irreducible] def Foot.execSenseTest : Foot := .of [IO_TEST_PIN, IO_TEST_RESULT, IO_TEST_SENSE_TEST] []

theorem Kept.execSenseTest {b pin flagged} (h : Kept L r s)
    (hl : Foot.execSenseTest.Within L := by exact .mono ‹_› ⟨by decide +kernel⟩) :
    KeptOut L r (execSenseTest b pin flagged s) :=
  .next h.wr.wr.wr

@[irreducible] def Foot.execStrobeOpenCheck : Foot := Foot.diagAtTick ||| Foot.part .io ||| Foot.field DIAG_COUNTS_OPENS.id

theorem Kept.execStrobeOpenCheck {b p connected} (h : Kept L r s)
    (hl : Foot.execStrobeOpenCheck.Within L := by exact .mono ‹_› ⟨by decide +kernel⟩) :
    KeptOut L r (execStrobeOpenCheck b p connected s) :=
  .ite (.next h) (.ite (.next h) ((Kept.ite h h.incSat).updPins.andThen fun h => .next (.ite h.diagAtTick h)))

@[irreducible] def Foot.execBkClearCounts : Foot := .of [BK_COUNTS_RETRIES, BK_COUNTS_SHUTS, DIAG_COUNTS_DIAG_MISSED,
    DIAG_COUNTS_OPENS, PIN_STATUS_CONTENTIONS] []

theorem Kept.execBkClearCounts {b} (h : Kept L r s)
    (hl : Foot.execBkClearCounts.Within L := by exact .mono ‹_› ⟨by decide +kernel⟩) :
    KeptOut L r (execBkClearCounts b s) :=
  .next h.clrAllInst

/-! The footprints of Machine/Lane. -/

theorem Kept.execLaneTrained {g i} (h : Kept L r s)
    (hl : Foot.powerAdvance.Within L := by exact .mono ‹_› ⟨by decide +kernel⟩) :
    KeptOut L r (execLaneTrained g i s) :=
  .ite (.next h.goActive.wr.updLane.wr.wr.wr.refreshReady.powerGo) (.next h)

theorem Kept.execLaneTrainTimeout {g} (h : Kept L r s)
    (hl : Foot.trainTimeout.Within L := by exact .mono ‹_› ⟨by decide +kernel⟩) :
    KeptOut L r (execLaneTrainTimeout g s) := by
  unfold Machine.execLaneTrainTimeout
  extract_lets
  split
  · exact .next h
  · exact .next (.ite h.trainTimeout h)

@[irreducible] def Foot.deskewFail : Foot := Foot.sequencerStep ||| Foot.refreshReady ||| Foot.part .lanes ||| Foot.field
    LG_COUNTS_DESKEW_FAILS.id

theorem Kept.deskewFail {g i injected} (h : Kept L r s)
    (hl : Foot.deskewFail.Within L := by exact .mono ‹_› ⟨by decide +kernel⟩) :
    Kept L r (deskewFail g i injected s) :=
  h.updLane.refreshReady.incSat.raiseInj

@[irreducible] def Foot.deskew : Foot := Foot.deskewFail ||| .of [FI_MISC_INJECT_INJ_DESKEW, LN_SKEW_SKEW] []

theorem Kept.deskew {g i skew} (h : Kept L r s) (hl : Foot.deskew.Within L := by exact .mono ‹_› ⟨by decide +kernel⟩) :
    Kept L r (deskew g i skew s) := by
  unfold Machine.deskew
  split
  · exact h
  · extract_lets skew s1 top
    have k1 : Kept L r s1 := by
      unfold s1
      clear_value skew
      split
      exacts [h.wr, h]
    refine .ite h ?_
    split
    next s2 e =>
    have k2 : Kept L r s2 := .snd k1.takeInj e
    clear_value skew
    split
    · exact k2.deskewFail
    · exact .ite k2.deskewFail k2.updLane.refreshReady

@[irreducible] def Foot.takeBlocks : Foot := .of [LN_LOCK_BAD_TYPE, LN_STATUS_ELASTIC] []

theorem Kept.takeBlocks {g i types fill} (h : Kept L r s)
    (hl : Foot.takeBlocks.Within L := by exact .mono ‹_› ⟨by decide +kernel⟩) :
    Kept L r (takeBlocks g i types fill s) :=
  h.incSat.wr

@[irreducible] def Foot.execAlignMarkerReceived : Foot := Foot.deskew ||| Foot.takeBlocks ||| .of [LG_INJECT_INJ_BIP,
    LN_MARKER_BIP_ERRORS, LN_STATUS_MARKER_LOCK] []

theorem Kept.execAlignMarkerReceived {g i spaced bip badTypes fill skew} (h : Kept L r s)
    (hl : Foot.execAlignMarkerReceived.Within L := by exact .mono ‹_› ⟨by decide +kernel⟩) :
    KeptOut L r (execAlignMarkerReceived g i spaced bip badTypes fill skew s) := by
  unfold Machine.execAlignMarkerReceived
  extract_lets s1 s2 s3
  have k1 : Kept L r s1 := h.updLane
  have k2 : Kept L r s2 := .ite k1.wr k1
  have k3 : Kept L r s3 := k2.takeBlocks
  refine .ite (.next h) ?_
  split
  next s4 e5 =>
  have k4 : Kept L r s4 := .snd k3.takeInj e5
  exact .next k4.incSat.deskew

@[irreducible] def Foot.execAlignMarkerMissed : Foot := Foot.loseMarkers ||| Foot.takeBlocks ||| Foot.field
    LN_MARKER_MARKERS_MISSED.id

theorem Kept.execAlignMarkerMissed {g i} (h : Kept L r s)
    (hl : Foot.execAlignMarkerMissed.Within L := by exact .mono ‹_› ⟨by decide +kernel⟩) :
    KeptOut L r (execAlignMarkerMissed g i s) :=
  .ite (.next h) (h.incSat.takeBlocks.andThen fun h => .ite (.next h.loseMarkers) (.next h.updLane))

theorem Kept.execLaneLockLost {g i} (h : Kept L r s)
    (hl : Foot.loseLock.Within L := by exact .mono ‹_› ⟨by decide +kernel⟩) :
    KeptOut L r (execLaneLockLost g i s) :=
  .next h.loseLock

theorem Kept.execBlockLockAcquired {g i} (h : Kept L r s)
    (hl : Foot.performLock.Within L := by exact .mono ‹_› ⟨by decide +kernel⟩) :
    KeptOut L r (execBlockLockAcquired g i s) :=
  .next (.ite h.wr.performLock h)

theorem Kept.execLaneElasticSlip {g i overflow} (h : Kept L r s)
    (hl : Foot.elasticSlip.Within L := by exact .mono ‹_› ⟨by decide +kernel⟩) :
    KeptOut L r (execLaneElasticSlip g i overflow s) :=
  .next (.ite h.elasticSlip h)

@[irreducible] def Foot.execPrbsTxEn : Foot := Foot.part .lanes ||| .of [LN_PRBS_CTRL_IGNORED, LN_PRBS_CTRL_PATTERN,
    LN_PRBS_CTRL_TX_EN] []

theorem Kept.execPrbsTxEn {g i on pattern} (h : Kept L r s)
    (hl : Foot.execPrbsTxEn.Within L := by exact .mono ‹_› ⟨by decide +kernel⟩) :
    KeptOut L r (execPrbsTxEn g i on pattern s) :=
  .ite (.next h.wr) (.next h.wr.setb.noteLaneLine)

@[irreducible] def Foot.execPrbsRxEn : Foot := Foot.part .lanes ||| .of [LN_PRBS_BITS_BITS, LN_PRBS_CTRL_IGNORED,
    LN_PRBS_CTRL_PATTERN, LN_PRBS_CTRL_RX_EN, LN_PRBS_CTRL_RX_LOCK, LN_PRBS_ERR_ERRORS] []

theorem Kept.execPrbsRxEn {g i on pattern} (h : Kept L r s)
    (hl : Foot.execPrbsRxEn.Within L := by exact .mono ‹_› ⟨by decide +kernel⟩) :
    KeptOut L r (execPrbsRxEn g i on pattern s) :=
  .ite (.next h.wr) (h.wr.setb.noteLaneLine.andThen fun h => .ite (.next h.wr.wr.wr) (.ite (.next h.wr) (.next h)))

@[irreducible] def Foot.execPrbsCheckerSync : Foot := Foot.part .lanes ||| .of [LN_PRBS_BITS_BITS, LN_PRBS_CTRL_RX_LOCK,
    LN_PRBS_ERR_ERRORS] []

theorem Kept.execPrbsCheckerSync {g i n a} (h : Kept L r s)
    (hl : Foot.execPrbsCheckerSync.Within L := by exact .mono ‹_› ⟨by decide +kernel⟩) :
    KeptOut L r (execPrbsCheckerSync g i n a s) :=
  .ite (.next h) (.ite (.next h) (.next h.wr.updLane.incWrap.incWrap))

@[irreducible] def Foot.execEyeScanStart : Foot := .of [LN_EYE_CTRL_BUSY, LN_EYE_CTRL_DWELL, LN_EYE_CTRL_EYE,
    LN_EYE_CTRL_PHASE, LN_EYE_CTRL_VOLT, LN_PRBS_CTRL_IGNORED] [.tickWrites]

theorem Kept.execEyeScanStart {g i v} (h : Kept L r s)
    (hl : Foot.execEyeScanStart.Within L := by exact .mono ‹_› ⟨by decide +kernel⟩) :
    KeptOut L r (execEyeScanStart g i v s) :=
  .ite (.next h) (.ite (.next h.wr.writeFields) (h.writeFields.andThen fun h => .ite (.next h.wr) (.next h.wr)))

@[irreducible] def Foot.execEyeScanDone : Foot := .of [LN_EYE_CTRL_BUSY, LN_EYE_RESULT_ERRORS] []

theorem Kept.execEyeScanDone {g i errors} (h : Kept L r s)
    (hl : Foot.execEyeScanDone.Within L := by exact .mono ‹_› ⟨by decide +kernel⟩) :
    KeptOut L r (execEyeScanDone g i errors s) :=
  .ite (.next h.wr.wr) (.next h)

@[irreducible] def Foot.execLgClearCounts : Foot := .of [LG_COUNTS_DESKEW_FAILS, LG_COUNTS_SLIPS, LN_LOCK_BAD_TYPE,
    LN_LOCK_LOCK_LOSSES, LN_MARKER_BIP_ERRORS, LN_MARKER_MARKERS_MISSED] []

theorem Kept.execLgClearCounts {g} (h : Kept L r s)
    (hl : Foot.execLgClearCounts.Within L := by exact .mono ‹_› ⟨by decide +kernel⟩) :
    KeptOut L r (execLgClearCounts g s) :=
  .next h.clrAllInst

/-! The footprints of Machine/Load. -/

@[irreducible] def Foot.execConfigLoad : Foot := Foot.powerAbort ||| Foot.cfgStart

theorem Kept.execConfigLoad {ring} (h : Kept L r s)
    (hl : Foot.execConfigLoad.Within L := by exact .mono ‹_› ⟨by decide +kernel⟩) :
    KeptOut L r (execConfigLoad ring s) := by
  unfold Machine.execConfigLoad
  split
  · exact .next h
  · exact .ite (.next h.decideOp) (.next h.runOp.cfgStart.powerWatch)

theorem Kept.meetUpset {u} (h : Kept L r s) (hl : (Foot.part .cfg).Within L := by exact .mono ‹_› ⟨by decide +kernel⟩) :
    Kept L r (meetUpset u s) :=
  .ite h h.upC

theorem Kept.execConfigHeader {fail} (h : Kept L r s)
    (hl : Foot.takeCfgHeader.Within L := by exact .mono ‹_› ⟨by decide +kernel⟩) :
    KeptOut L r (execConfigHeader fail s) := by
  unfold Machine.execConfigHeader
  refine .ite (.next h) ?_
  split
  · exact .next h.answerKey
  · exact .next h.cfgFail
  · exact .next h
  · exact .next (.ite h h.meetUpset.takeCfgHeader)

@[irreducible] def Foot.execConfigClearDone : Foot := Foot.cfgIdle ||| Foot.handOver

theorem Kept.execConfigClearDone (h : Kept L r s)
    (hl : Foot.execConfigClearDone.Within L := by exact .mono ‹_› ⟨by decide +kernel⟩) :
    KeptOut L r (execConfigClearDone s) :=
  .ite (.next h) (.ite (.next h.cfgIdle.handOver) (.next h.wr))

theorem Kept.execConfigSegment {fail} (h : Kept L r s)
    (hl : Foot.takeSegment.Within L := by exact .mono ‹_› ⟨by decide +kernel⟩) :
    KeptOut L r (execConfigSegment fail s) := by
  unfold Machine.execConfigSegment
  refine .ite (.next h) ?_
  split
  · exact .next h.cfgFail
  · exact .ite (.next h) (.next h.takeRun)
  · exact .ite (.next h) (.ite (.next h.takeRun) (.next h.meetUpset.takeSegment))

theorem Kept.cfgCommand {opc f} (h : Kept L r s) (k : ∀ w t, Kept L r t → Kept L r (f w t))
    (hl : Foot.cfgFail.Within L := by exact .mono ‹_› ⟨by decide +kernel⟩) :
    KeptOut L r (cfgCommand opc s f) := by
  unfold Machine.cfgCommand
  split
  · exact .next h
  next e => exact .next (h.nextCommand e)
  · exact .next (k _ _ h)

theorem Kept.execCfgNop (h : Kept L r s) (hl : Foot.cfgFail.Within L := by exact .mono ‹_› ⟨by decide +kernel⟩) :
    KeptOut L r (execCfgNop s) :=
  h.cfgCommand (fun _ _ h => .ite h.cfgBreach h.consume)

theorem Kept.execRegionSelect (h : Kept L r s) (hl : Foot.cfgFail.Within L := by exact .mono ‹_› ⟨by decide +kernel⟩) :
    KeptOut L r (execRegionSelect s) :=
  h.cfgCommand (fun _ _ h => .ite h.cfgBreach h.upC.consume)

theorem Kept.execWriteFrame (h : Kept L r s) (hl : Foot.cfgFail.Within L := by exact .mono ‹_› ⟨by decide +kernel⟩) :
    KeptOut L r (execWriteFrame s) := by
  unfold Machine.execWriteFrame
  refine h.cfgCommand fun _ t2 h1 => ?_
  extract_lets
  split
  · exact h1.cfgBreach
  · exact .ite h1.cfgBreach h1.upC.consume

theorem Kept.execRepeatFrame (h : Kept L r s) (hl : Foot.cfgFail.Within L := by exact .mono ‹_› ⟨by decide +kernel⟩) :
    KeptOut L r (execRepeatFrame s) :=
  h.cfgCommand (fun _ _ h => .ite h.cfgBreach (.ite h.upC.consume h.cfgBreach))

@[irreducible] def Foot.execCheck : Foot := Foot.cfgFail ||| Foot.field CFG_INJECT_INJ_CHECK.id

theorem Kept.execCheck (h : Kept L r s) (hl : Foot.execCheck.Within L := by exact .mono ‹_› ⟨by decide +kernel⟩) :
    KeptOut L r (execCheck s) := by
  unfold Machine.execCheck
  refine h.cfgCommand fun _ t2 h1 => ?_
  refine .ite h1.cfgBreach ?_
  refine .ite h1 ?_
  split
  next s3 e4 =>
  have k3 : Kept L r s3 := .snd h1.takeInj e4
  exact .ite k3.raiseInj.cfgFail k3.upC.consume

@[irreducible] def Foot.execFixAtTick : Foot := Foot.cfgFail ||| Foot.field CFG_STATUS_FIX_IGNORED.id

theorem Kept.execFixAtTick (h : Kept L r s) (hl : Foot.execFixAtTick.Within L := by exact .mono ‹_› ⟨by decide +kernel⟩) :
    KeptOut L r (execFixAtTick s) :=
  h.cfgCommand (fun _ _ h => .ite h.cfgBreach (Kept.ite h h.wr).upC.consume)

theorem Kept.execKeyRoll (h : Kept L r s) (hl : Foot.cfgFail.Within L := by exact .mono ‹_› ⟨by decide +kernel⟩) :
    KeptOut L r (execKeyRoll s) :=
  h.cfgCommand (fun _ _ h => .ite h.cfgBreach h.upC)

theorem Kept.execCfgEnd (h : Kept L r s) (hl : Foot.cfgFail.Within L := by exact .mono ‹_› ⟨by decide +kernel⟩) :
    KeptOut L r (execCfgEnd s) :=
  h.cfgCommand (fun _ _ h => .ite h.cfgBreach (.ite h (.ite h.cfgFail h.upC.cfgDone)))

theorem Kept.execFrameCommit (h : Kept L r s) (hl : Foot.commitFrame.Within L := by exact .mono ‹_› ⟨by decide +kernel⟩) :
    KeptOut L r (execFrameCommit s) :=
  .next (.ite h.commitFrame h)

@[irreducible] def Foot.execConfigRelease : Foot := Foot.releaseLoad ||| Foot.pinRelease

theorem Kept.execConfigRelease {a words a' pins banks} (h : Kept L r s)
    (hl : Foot.execConfigRelease.Within L := by exact .mono ‹_› ⟨by decide +kernel⟩) :
    KeptOut L r (execConfigRelease a words a' pins banks s) :=
  .ite (h.releaseLoad.andThen fun h => .next (.ite h.pinRelease h)) (.next h)

theorem Kept.execConfigAbort (h : Kept L r s) (hl : (Foot.part .cfg).Within L := by exact .mono ‹_› ⟨by decide +kernel⟩) :
    KeptOut L r (execConfigAbort s) :=
  .next (.ite h h.upC)

theorem Kept.execConfigAbortLatch (h : Kept L r s) (hl : Foot.cfgAbort.Within L := by exact .mono ‹_› ⟨by decide +kernel⟩) :
    KeptOut L r (execConfigAbortLatch s) := by
  unfold Machine.execConfigAbortLatch
  extract_lets
  split
  · exact .next h
  · exact .ite (.next h) (.ite (.next h.upC) (.next h.cfgAbort))

@[irreducible] def Foot.execCfgClearCounts : Foot := .of [CFG_COUNTS_LOADS_FAILED, CFG_COUNTS_LOADS_OK] []

theorem Kept.execCfgClearCounts (h : Kept L r s)
    (hl : Foot.execCfgClearCounts.Within L := by exact .mono ‹_› ⟨by decide +kernel⟩) :
    KeptOut L r (execCfgClearCounts s) :=
  .next h.clrAll

theorem Kept.execSwapDrained {k} (h : Kept L r s) (hl : Foot.drainEnds.Within L := by exact .mono ‹_› ⟨by decide +kernel⟩) :
    KeptOut L r (execSwapDrained k s) :=
  .next (.ite h.drainEnds h)

@[irreducible] def Foot.execSwapDrainForced : Foot := Foot.drainEnds ||| Foot.sequencerStep ||| Foot.forceDrain ||| .of
    [SWAP_DISCARDED_RESPONSES, SWAP_DISCARDED_RETURNED, SWAP_STATUS_FORCED] []

theorem Kept.execSwapDrainForced {k} (h : Kept L r s)
    (hl : Foot.execSwapDrainForced.Within L := by exact .mono ‹_› ⟨by decide +kernel⟩) :
    KeptOut L r (execSwapDrainForced k s) := by
  unfold Machine.execSwapDrainForced
  extract_lets
  split
  · exact .next h
  · refine .ite ?_ (.next h)
    split
    next s1 e2 =>
    have k1 : Kept L r s1 := .snd₂ h.forceDrain e2
    split
    next s3 e4 =>
    have k3 : Kept L r s3 := .snd₂ k1.forceDrain e4
    exact .next k3.wr.wr.wr.raise.drainEnds

@[irreducible] def Foot.execSwapLoadStart : Foot := Foot.loadRegion ||| Foot.cfgStart ||| Foot.clearFrames ||| Foot.field
    SWAP_STATUS_STATE.id

theorem Kept.execSwapLoadStart {k} (h : Kept L r s)
    (hl : Foot.execSwapLoadStart.Within L := by exact .mono ‹_› ⟨by decide +kernel⟩) :
    KeptOut L r (execSwapLoadStart k s) := by
  unfold Machine.execSwapLoadStart
  split
  · exact .next h
  · exact .ite (.next h) ((h.foldl (fun _ _ h => h.wr)).andThen fun h => .ite (.next (h.foldl (fun _ _ h =>
      h.loadRegion)).clearFrames.wr.upC) (.next h.cfgStart))

@[irreducible] def Foot.execSwapOpen : Foot := Foot.boundaryCheck ||| Foot.startRegion ||| Foot.setPstate ||| Foot.openRegion
    ||| Foot.dropAttach ||| Foot.setUncorrectable ||| Foot.field SCRUB_STATUS_RELOAD_ACTIVE.id ||| .of [RG_EPOCH_EPOCH,
    RG_OWNER_OWNER, RG_STATUS_SWAP, SWAP_STATUS_CODE, SWAP_STATUS_LATE, SWAP_STATUS_STATE, SWAP_TICK_TICK] []

theorem Kept.execSwapOpen {k a words a'} (h : Kept L r s)
    (hl : Foot.execSwapOpen.Within L := by exact .mono ‹_› ⟨by decide +kernel⟩) :
    KeptOut L r (execSwapOpen k a words a' s) := by
  unfold Machine.execSwapOpen
  split
  · exact .next h
  · extract_lets s1 s2 s3 s4 s5 s6 s7
    have k1 : Kept L r s1 := h.wr.wr
    have k2 : Kept L r s2 := .ite k1.wr k1
    have k3 : Kept L r s3 := k2.wr.wr.wr
    have k4 : Kept L r s4 := k3.wr.dropAttach
    have k5 : Kept L r s5 := k4.refreshReloads
    have k6 : Kept L r s6 := .ite k5 k5.setUncorrectable
    have k7 : Kept L r s7 := by
      unfold s7
      split
      · exact k6.startRegion.openRegion.boundaryCheck
      · exact k6.updRegion.openRegion.refreshLines
      · exact k6.setConfigured.updRegion.setPstate
    exact .ite (.next k7.raise) (.next h)

@[irreducible] def Foot.frameLost : Foot := Foot.sequencerStep ||| Foot.setUncorrectable ||| Foot.part .cfg ||| .of
    [SCRUB_LAST_UNC_ADDR, SCRUB_STATUS_GLOBAL_UNCORRECTABLE, SCRUB_UNCORR_COUNT] []

theorem Kept.frameLost {l injected} (h : Kept L r s)
    (hl : Foot.frameLost.Within L := by exact .mono ‹_› ⟨by decide +kernel⟩) :
    Kept L r (frameLost l injected s) :=
  h.wr.incWrap.andThen fun h => .ite h.wr.raiseInj (h.setUncorrectable.raiseInj.andThen fun h => .ite h.upC h)

@[irreducible] def Foot.scrubFrame : Foot := Foot.frameLost ||| .of [SCRUB_CORRECTED_COUNT, SCRUB_INJECT_INJ_DOUBLE,
    SCRUB_INJECT_INJ_SINGLE] [.frameBad]

theorem Kept.scrubFrame {l} (h : Kept L r s) (hl : Foot.scrubFrame.Within L := by exact .mono ‹_› ⟨by decide +kernel⟩) :
    Kept L r (scrubFrame l s) := by
  unfold Machine.scrubFrame
  refine .ite h.upC ?_
  refine .ite h.upC ?_
  split
  next s1 e2 =>
  have k1 : Kept L r s1 := .snd h.takeInj e2
  split
  next s3 e4 =>
  have k3 : Kept L r s3 := .snd k1.takeInj e4
  exact .ite k3 (.ite k3.updFrameBad.incWrap k3.frameLost)

theorem Kept.borrowStep (h : Kept L r s) (hl : Foot.borrowFrames.Within L := by exact .mono ‹_› ⟨by decide +kernel⟩) :
    Kept L r (borrowStep s) :=
  h.upC.setb

@[irreducible] def Foot.execScrubStep : Foot := Foot.scrubFrame ||| Foot.borrowFrames ||| .of [SCRUB_PASSES_PASSES,
    SCRUB_PASS_TIME_CYCLES, SCRUB_POS_ADDR, SCRUB_SKIPS_DYNAMIC, SCRUB_SKIPS_EXCLUDED, SCRUB_STATUS_RUNNING] [.tickWrites]
    ||| Foot.part .tickWrites

theorem Kept.execScrubStep (h : Kept L r s) (hl : Foot.execScrubStep.Within L := by exact .mono ‹_› ⟨by decide +kernel⟩) :
    KeptOut L r (execScrubStep s) := by
  have dyn : (Foot.field SCRUB_SKIPS_DYNAMIC.id).Within L := hl.mono ⟨by decide +kernel⟩
  have exc : (Foot.field SCRUB_SKIPS_EXCLUDED.id).Within L := hl.mono ⟨by decide +kernel⟩
  have skips {a b t} (k : Kept L r t) :
      Kept L r (t.updTickWrites (· ++ [⟨SCRUB_SKIPS_DYNAMIC, 0, 0, a⟩, ⟨SCRUB_SKIPS_EXCLUDED, 0, 0, b⟩])) :=
    k.updTickWrites_append (by
      simp only [List.mem_cons, List.not_mem_nil, or_false, forall_eq_or_imp, forall_eq]
      exact ⟨⟨by decide +kernel, dyn⟩, by decide +kernel, exc⟩) (hl.mono ⟨by decide +kernel⟩)
  clear dyn exc
  unfold Machine.execScrubStep
  exact .ite (.next h) (h.setb.andThen fun h => .ite (.next h.borrowStep) (h.upC.scrubFrame.andThen fun h =>
    .ite (.next h.wr) (.next (skips h.wr.incWrap.wr).upC)))

@[irreducible] def Foot.execAutoReloadStart : Foot := Foot.powerAbort ||| Foot.startSwap ||| .of [RELOAD_COUNT_COUNT,
    SCRUB_STATUS_RELOAD_ACTIVE] []

theorem Kept.execAutoReloadStart {k} (h : Kept L r s)
    (hl : Foot.execAutoReloadStart.Within L := by exact .mono ‹_› ⟨by decide +kernel⟩) :
    KeptOut L r (execAutoReloadStart k s) := by
  unfold Machine.execAutoReloadStart
  extract_lets _ _ _ _ s2
  have k2 : Kept L r s2 := h.upC.incWrap
  split
  · exact .next h
  · exact .ite (.next h) (.ite (.next h.upC) (.ite (.next h) (.next k2.wr.startSwap.powerWatch)))

@[irreducible] def Foot.execScrubClearCounts : Foot := .of [FW_COUNTS_REVERTS, FW_COUNTS_SWITCHES, RELOAD_COUNT_COUNT,
    SCRUB_CORRECTED_COUNT, SCRUB_PASSES_PASSES, SCRUB_UNCORR_COUNT] []

theorem Kept.execScrubClearCounts (h : Kept L r s)
    (hl : Foot.execScrubClearCounts.Within L := by exact .mono ‹_› ⟨by decide +kernel⟩) :
    KeptOut L r (execScrubClearCounts s) :=
  .next h.clrAll

/-! The footprints of Machine/MeshTime. -/

@[irreducible] def Foot.setPhase : Foot := Foot.part .tick ||| Foot.field FRAME_OFFSET_OFFSET.id

theorem Kept.setPhase {off} (h : Kept L r s) (hl : Foot.setPhase.Within L := by exact .mono ‹_› ⟨by decide +kernel⟩) :
    Kept L r (setPhase off s) :=
  h.updTck.andThen fun h => .ite h h.wr.updTck

theorem Kept.takeRootTick {tick off} (h : Kept L r s)
    (hl : Foot.loadEpoch.Within L := by exact .mono ‹_› ⟨by decide +kernel⟩) :
    Kept L r (takeRootTick tick off s) :=
  .ite h.wr.raise.setAlign (h.wr.wr.updTck.andThen fun h => (Kept.ite h h.jumpTick).setPhase)

theorem Kept.noteTimeFrom (h : Kept L r s) (hl : (Foot.part .tick).Within L := by exact .mono ‹_› ⟨by decide +kernel⟩) :
    Kept L r (noteTimeFrom s) :=
  h.updTck

theorem Kept.takeTime {tx delay err} (h : Kept L r s)
    (hl : Foot.syncMark.Within L := by exact .mono ‹_› ⟨by decide +kernel⟩) :
    Kept L r (takeTime tx delay err s) := by
  unfold Machine.takeTime
  extract_lets _ _ _ s1
  have k1 : Kept L r s1 := h.noteTimeFrom
  refine .ite k1 ?_
  refine .ite k1.resumeTick.setPhase.noteTimeFrom ?_
  refine .ite k1.takeRootTick.noteTimeFrom ?_
  refine .ite ?_ k1
  split
  next s2 e3 =>
  have k2 : Kept L r s2 := .snd k1.takeInj e3
  exact .ite k2.missMark (.ite (k2.wr.andThen fun h => .ite h.wr.markInWindow (h.wr.raise.andThen fun h => .ite h.setAlign h))
      k2.markInWindow)

/-! The footprints of Machine/Mesh. -/

@[irreducible] def Foot.takeFrame : Foot := Foot.enqueuePkt ||| Foot.arrives ||| Foot.takeAck

theorem Kept.takeFrame {l kind intact ack f} (h : Kept L r s) (k : ∀ t, Kept L r t → Kept L r (f t))
    (hl : Foot.takeFrame.Within L := by exact .mono ‹_› ⟨by decide +kernel⟩) :
    KeptOut L r (takeFrame l kind intact ack s f) := by
  unfold Machine.takeFrame
  refine .ite (.next h) ?_
  split
  next s1 e =>
  have k1 : Kept L r s1 := .snd h.arrives e
  exact .next (.ite (k _ k1.takeAck).afterAck k1)

@[irreducible] def Foot.execMeshPacketFrame : Foot := Foot.unroutable ||| Foot.takeFrame ||| .of [LK_ERRORS_DUPLICATES,
    LK_ERRORS_OUT_OF_ORDER, LK_FRAMES_RX_FRAMES] []

theorem Kept.execMeshPacketFrame {l intact seq ack vc h0 h1 route payload host} (h : Kept L r s)
    (hl : Foot.execMeshPacketFrame.Within L := by exact .mono ‹_› ⟨by decide +kernel⟩) :
    KeptOut L r (execMeshPacketFrame l intact seq ack vc h0 h1 route payload host s) :=
  h.takeFrame (fun _ h => .ite h (.ite h.updLink.incWrap.receivePkt.sendAck (.ite h.incSat.sendAck h.incSat)))

@[irreducible] def Foot.execAckBlock : Foot := Foot.enqueuePkt ||| Foot.arrives ||| Foot.takeAck ||| Foot.field
    MS_INJECT_INJ_ACK_DROP.id

theorem Kept.execAckBlock {l intact ack free0 free1} (h : Kept L r s)
    (hl : Foot.execAckBlock.Within L := by exact .mono ‹_› ⟨by decide +kernel⟩) :
    KeptOut L r (execAckBlock l intact ack free0 free1 s) := by
  unfold Machine.execAckBlock
  refine .ite (.next h) ?_
  split
  next s1 e2 =>
  have k1 : Kept L r s1 := .snd h.arrives e2
  split
  next s3 e4 =>
  have k3 : Kept L r s3 := .snd k1.takeInj e4
  exact .ite (.next k3.incSat) (.ite (.next k3) (.ite (.next k3.takeAck.updLink.afterAck) (.next k3)))

@[irreducible] def Foot.execHelloFrame : Foot := Foot.linkDown ||| Foot.takeFrame ||| .of [LK_PEER_SERIAL,
    LK_STATUS_PEER_ADDR, LK_STATUS_PEER_ADDR_VALID, LK_STATUS_PEER_LINK] []

theorem Kept.execHelloFrame {l intact ack w0 w1 w2 a} (h : Kept L r s)
    (hl : Foot.execHelloFrame.Within L := by exact .mono ‹_› ⟨by decide +kernel⟩) :
    KeptOut L r (execHelloFrame l intact ack w0 w1 w2 a s) :=
  h.takeFrame (fun _ h => h.wr.wr.wr.setb.updLink.andThen fun h => (Kept.ite h.updMsh h).andThen fun h => .ite (.ite h.linkUp
    h) (.ite h.linkDown (.ite h.raise h)))

theorem Kept.execHelloSend {l} (h : Kept L r s) (hl : Foot.sendControl.Within L := by exact .mono ‹_› ⟨by decide +kernel⟩) :
    KeptOut L r (execHelloSend l s) :=
  .ite (.next h) (.next h.sendControl)

theorem Kept.execHelloTimeout {l} (h : Kept L r s) (hl : Foot.linkDown.Within L := by exact .mono ‹_› ⟨by decide +kernel⟩) :
    KeptOut L r (execHelloTimeout l s) :=
  .next (.ite h.linkDown h)

theorem Kept.execSetNotReadyTimeout {l} (h : Kept L r s)
    (hl : Foot.linkDown.Within L := by exact .mono ‹_› ⟨by decide +kernel⟩) :
    KeptOut L r (execSetNotReadyTimeout l s) := by
  unfold Machine.execSetNotReadyTimeout
  refine .next ?_
  split
  · exact .ite h.linkDown h
  · exact h

@[irreducible] def Foot.execReplayTimeout : Foot := Foot.linkDown ||| .of [LK_REPLAY_REPLAYS, LK_REPLAY_TIMEOUTS] []

theorem Kept.execReplayTimeout {l} (h : Kept L r s)
    (hl : Foot.execReplayTimeout.Within L := by exact .mono ‹_› ⟨by decide +kernel⟩) :
    KeptOut L r (execReplayTimeout l s) := by
  unfold Machine.execReplayTimeout
  extract_lets _ s1 s2 s3 s4
  have k1 : Kept L r s1 := h.incSat.incSat
  have k2 : Kept L r s2 := k1.incWrap
  have k3 : Kept L r s3 := k2.foldl (fun _ _ h => h.putFrame)
  have k4 : Kept L r s4 := k3.updLink
  split
  · exact .next h
  · exact .ite (.next h) (.next (.ite k4.linkDown k4))

theorem Kept.execQuietFrame {l intact ack} (h : Kept L r s)
    (hl : Foot.takeFrame.Within L := by exact .mono ‹_› ⟨by decide +kernel⟩) :
    KeptOut L r (execQuietFrame l intact ack s) :=
  h.takeFrame (fun _ h => .ite h.updLink h)

theorem Kept.execTimeFrameSend {l} (h : Kept L r s)
    (hl : Foot.sendControl.Within L := by exact .mono ‹_› ⟨by decide +kernel⟩) :
    KeptOut L r (execTimeFrameSend l s) :=
  .next (.ite h.sendControl h)

@[irreducible] def Foot.noteRoundTrip : Foot := Foot.sequencerStep ||| .of [FI_MISC_INJECT_INJ_SLOW, LK_DELAY_ROUND_TRIP,
    LK_STATUS_SLOW] []

theorem Kept.noteRoundTrip {l rt} (h : Kept L r s)
    (hl : Foot.noteRoundTrip.Within L := by exact .mono ‹_› ⟨by decide +kernel⟩) :
    Kept L r (noteRoundTrip l rt s).2 := by
  unfold Machine.noteRoundTrip
  split
  next s1 e2 =>
  have k1 : Kept L r s1 := .snd h.takeInj e2
  exact k1.wr.andThen fun h => .ite_snd h.wr.raiseInj h

@[irreducible] def Foot.execTimeFrame : Foot := Foot.syncMark ||| Foot.takeFrame ||| Foot.noteRoundTrip ||| .of
    [MS_INJECT_INJ_TIME_MISS, MS_STATUS_STRATUM] []

theorem Kept.execTimeFrame {l intact ack w0 w1 w2 w3 frac} (h : Kept L r s)
    (hl : Foot.execTimeFrame.Within L := by exact .mono ‹_› ⟨by decide +kernel⟩) :
    KeptOut L r (execTimeFrame l intact ack w0 w1 w2 w3 frac s) := by
  unfold Machine.execTimeFrame
  extract_lets
  refine h.takeFrame fun t2 h1 => ?_
  split
  next s3 e4 =>
  have k3 : Kept L r s3 := .snd h1.takeInj e4
  extract_lets _ _ _ _ s5 s6
  have k5 : Kept L r s5 := .ite k3.wr k3
  have k6 : Kept L r s6 := k5.updLink
  refine .ite k3 ?_
  refine .ite k6 ?_
  split
  next s7 e8 =>
  have k7 : Kept L r s7 := .snd k6.noteRoundTrip e8
  exact .ite k7.takeTime k7

theorem Kept.execTimeFrameMissed (h : Kept L r s) (hl : Foot.missMark.Within L := by exact .mono ‹_› ⟨by decide +kernel⟩) :
    KeptOut L r (execTimeFrameMissed s) :=
  .next (.ite h.noteTimeFrom.missMark h)

theorem Kept.execMeshReportSend (h : Kept L r s) (hl : Foot.floodReport.Within L := by exact .mono ‹_› ⟨by decide +kernel⟩) :
    KeptOut L r (execMeshReportSend s) :=
  .next (.ite h h.floodReport)

theorem Kept.execMeshReportPacket (h : Kept L r s)
    (hl : Foot.takeReport.Within L := by exact .mono ‹_› ⟨by decide +kernel⟩) :
    KeptOut L r (execMeshReportPacket s) := by
  unfold Machine.execMeshReportPacket
  refine .next ?_
  split
  next s1 e2 =>
    have k1 : Kept L r s1 := h.takeLocal e2
    exact k1.takeReport
  · exact h

@[irreducible] def Foot.execMeshDataRequest : Foot := Foot.blockRead ||| Foot.sendResponse

theorem Kept.execMeshDataRequest (h : Kept L r s)
    (hl : Foot.execMeshDataRequest.Within L := by exact .mono ‹_› ⟨by decide +kernel⟩) :
    KeptOut L r (execMeshDataRequest s) := by
  unfold Machine.execMeshDataRequest
  refine .next ?_
  split
  next s1 e2 =>
    have k1 : Kept L r s1 := h.takeLocal e2
    refine .ite h ?_
    split
    next s3 e4 =>
    have k3 : Kept L r s3 := .snd k1.writeInbox e4
    exact k3.sendResponse
  · exact h

theorem Kept.execMeshDataResponse (h : Kept L r s)
    (hl : Foot.takeResponse.Within L := by exact .mono ‹_› ⟨by decide +kernel⟩) :
    KeptOut L r (execMeshDataResponse s) := by
  unfold Machine.execMeshDataResponse
  refine .next ?_
  split
  next s1 e2 =>
    have k1 : Kept L r s1 := h.takeLocal e2
    exact k1.takeResponse
  · exact h

theorem Kept.runProxied {p r' k words} (h : Kept L r s)
    (hl : Foot.enterOp.Within L := by exact .mono ‹_› ⟨by decide +kernel⟩) :
    Kept L r (runProxied p r' k words s) :=
  h.updHst.acceptDescriptor

@[irreducible] def Foot.takeCompletion : Foot := Foot.part .ops ||| Foot.part .host ||| .of [HI_COUNTS_LOST_COMPLETIONS]
    [.ready]

theorem Kept.takeCompletion {r' k w} (h : Kept L r s)
    (hl : Foot.takeCompletion.Within L := by exact .mono ‹_› ⟨by decide +kernel⟩) :
    Kept L r (takeCompletion r' k w s) := by
  unfold Machine.takeCompletion
  extract_lets
  split
  · exact h.incSat
  · exact h.updHst.updOp.updReady

@[irreducible] def Foot.execMeshHostPacket : Foot := Foot.enterOp ||| Foot.takeCompletion ||| Foot.part .hostMem

theorem Kept.execMeshHostPacket (h : Kept L r s)
    (hl : Foot.execMeshHostPacket.Within L := by exact .mono ‹_› ⟨by decide +kernel⟩) :
    KeptOut L r (execMeshHostPacket s) := by
  unfold Machine.execMeshHostPacket
  refine .next ?_
  split
  next s1 e2 =>
    have k1 : Kept L r s1 := h.takeLocal e2
    extract_lets
    split
    · exact k1.runProxied
    · exact k1.takeCompletion
    · exact .ite k1.emitPkt k1
    · exact k1.takeFetched
    · exact .ite k1.updHostMem k1
    · exact k1
  · exact h

@[irreducible] def Foot.execLkQuiet : Foot := Foot.quietStep ||| Foot.sendFrame ||| Foot.field LK_CTRL_IGNORED.id

theorem Kept.execLkQuiet {l on} (h : Kept L r s) (hl : Foot.execLkQuiet.Within L := by exact .mono ‹_› ⟨by decide +kernel⟩) :
    KeptOut L r (execLkQuiet l on s) :=
  .ite (.next h) (.ite (.ite (.next h.wr) (.next h.wr.quietStep)) (h.wr.andThen fun h => .next (.ite h.wakeLink
    h.updLink.pump)))

theorem Kept.execLkReset {l} (h : Kept L r s) (hl : Foot.linkDown.Within L := by exact .mono ‹_› ⟨by decide +kernel⟩) :
    KeptOut L r (execLkReset l s) :=
  .next (.ite h.linkDown h)

theorem Kept.execMsReportRdWrite {v} (h : Kept L r s)
    (hl : (Foot.field MS_REPORT_RD_INDEX.id).Within L := by exact .mono ‹_› ⟨by decide +kernel⟩) :
    KeptOut L r (execMsReportRdWrite v s) :=
  .next (.ite h h.wr)

@[irreducible] def Foot.execMsClearCounts : Foot := .of [LK_ERRORS_ACK_ERRORS, LK_ERRORS_CRC_ERRORS, LK_ERRORS_DUPLICATES,
    LK_ERRORS_OUT_OF_ORDER, LK_FRAMES_RX_FRAMES, LK_FRAMES_TX_FRAMES, LK_REPLAY_DOWNS, LK_REPLAY_REPLAYS, LK_REPLAY_TIMEOUTS,
    MS_COUNTS_REPORTS_DROPPED, MS_COUNTS_UNROUTABLE] []

theorem Kept.execMsClearCounts (h : Kept L r s)
    (hl : Foot.execMsClearCounts.Within L := by exact .mono ‹_› ⟨by decide +kernel⟩) :
    KeptOut L r (execMsClearCounts s) :=
  .next h.clrAll

theorem Kept.execLinkSignalDetected {l} (h : Kept L r s)
    (hl : Foot.enqueuePkt.Within L := by exact .mono ‹_› ⟨by decide +kernel⟩) :
    KeptOut L r (execLinkSignalDetected l s) :=
  .next (.ite h.wakeLink.pump h)

/-! The footprints of Machine/Mgmt. -/

theorem Kept.execWatchdogKick {c} (h : Kept L r s)
    (hl : (Foot.part .sp).Within L := by exact .mono ‹_› ⟨by decide +kernel⟩) :
    KeptOut L r (execWatchdogKick c s) :=
  .ite (.next h) (.next h.updPad)

@[irreducible] def Foot.execWatchdogExpiry : Foot := Foot.restartCore ||| Foot.field FI_CORE_INJECT_INJ_WATCHDOG.id

theorem Kept.execWatchdogExpiry {c} (h : Kept L r s)
    (hl : Foot.execWatchdogExpiry.Within L := by exact .mono ‹_› ⟨by decide +kernel⟩) :
    KeptOut L r (execWatchdogExpiry c s) := by
  unfold Machine.execWatchdogExpiry
  refine .ite (.next h) ?_
  split
  next s1 e2 =>
  have k1 : Kept L r s1 := .snd h.takeInj e2
  exact .ite (.next k1.restartCore) (.next k1)

@[irreducible] def Foot.execCoreRestartDone : Foot := Foot.field HM_STATUS_CORE_STATE.id ||| Foot.part .dbg

theorem Kept.execCoreRestartDone {c} (h : Kept L r s)
    (hl : Foot.execCoreRestartDone.Within L := by exact .mono ‹_› ⟨by decide +kernel⟩) :
    KeptOut L r (execCoreRestartDone c s) :=
  .next (.ite h (.ite h.setCore.updDbg h.setCore))

theorem Kept.execScratchpadAccess {cls sid addr n kind core0 data} (h : Kept L r s)
    (hl : Foot.padServe.Within L := by exact .mono ‹_› ⟨by decide +kernel⟩) :
    KeptOut L r (execScratchpadAccess cls sid addr n kind core0 data s) :=
  .next (Kept.ite h.headLands h).padArrive

@[irreducible] def Foot.execTestStep : Foot := Foot.padLane ||| .of [SP_INJECT_INJ_MARCH, SP_STATUS_TESTING,
    SP_TEST_COUNTS_PASSES, SP_TEST_COUNTS_TEST_FAILS, SP_TEST_COUNTS_TEST_LATE, SP_TEST_POS_BLOCK] []

theorem Kept.execTestStep {fails} (h : Kept L r s)
    (hl : Foot.execTestStep.Within L := by exact .mono ‹_› ⟨by decide +kernel⟩) :
    KeptOut L r (execTestStep fails s) := by
  obtain ⟨padLanes, e, hp⟩ : ∃ f, f = Machine.padLanes ∧ ∀ l t, Kept L r t → Kept L r (f l t).2 :=
    ⟨_, rfl, fun _ _ k => k.padLanes⟩
  unfold Machine.execTestStep
  rw [← e]
  extract_lets
  refine .ite (.next h) (.ite (.next (.ite h.incSat.updPad h)) (.ite (.next h) ?_))
  split
  · exact .next h
  · extract_lets s1 s2 _ s3
    have k1 : Kept L r s1 := .ite h.incSat h
    have k3 : Kept L r s3 := k1.wr.updPad
    split
    next s4 e4 =>
    have k4 : Kept L r s4 := .snd k3.takeInj e4
    split
    next s5 e5 =>
    have k5 : Kept L r s5 := .snd (hp _ _ k4) e5
    exact k5.updPad.wr.andThen fun h => .ite (.next h.incSat.raiseInj) (.next h)

@[irreducible] def Foot.execTestStepEnd : Foot := Foot.part .sp ||| .of [SP_REPAIR_ENTRIES, SP_STATUS_REPAIRS_USED,
    SP_STATUS_TESTING, SP_STATUS_UNREPAIRED, SP_TEST_COUNTS_PASSES, SP_TEST_POS_BLOCK] []

theorem Kept.execTestStepEnd (h : Kept L r s)
    (hl : Foot.execTestStepEnd.Within L := by exact .mono ‹_› ⟨by decide +kernel⟩) :
    KeptOut L r (execTestStepEnd s) := by
  unfold Machine.execTestStepEnd
  extract_lets
  split
  · exact .next h
  · exact (Kept.ite h (.ite h.wr.wr h.wr.updPad)).andThen fun h => .next (Kept.ite h.incSat h).wr.wr.updPad

theorem Kept.execEmberWipeDone (h : Kept L r s)
    (hl : (Foot.field SP_STATUS_WIPING.id).Within L := by exact .mono ‹_› ⟨by decide +kernel⟩) :
    KeptOut L r (execEmberWipeDone s) :=
  .next h.wr

@[irreducible] def Foot.execSpClearCounts : Foot := .of [SP_DENY_COUNT_DENIALS, SP_ECC_CORRECTED, SP_ECC_UNCORR,
    SP_TEST_COUNTS_PASSES, SP_TEST_COUNTS_TEST_FAILS, SP_TEST_COUNTS_TEST_LATE] []

theorem Kept.execSpClearCounts (h : Kept L r s)
    (hl : Foot.execSpClearCounts.Within L := by exact .mono ‹_› ⟨by decide +kernel⟩) :
    KeptOut L r (execSpClearCounts s) :=
  .next h.clrAll

/-! The footprints of Machine/Power. -/

theorem Kept.execPowerRequest {ring} (h : Kept L r s)
    (hl : Foot.endRequest.Within L := by exact .mono ‹_› ⟨by decide +kernel⟩) :
    KeptOut L r (execPowerRequest ring s) := by
  unfold Machine.execPowerRequest
  extract_lets
  split
  · exact .next h
  · extract_lets
    split
    · exact .next h.decideOp
    · exact .ite (.next h.decideOp) (.next h.runOp.updPower.notePower)

theorem Kept.startRequest {q} (h : Kept L r s) (hl : Foot.powerAdvance.Within L := by exact .mono ‹_› ⟨by decide +kernel⟩) :
    Kept L r (startRequest q s) := by
  unfold Machine.startRequest
  split
  · exact h.setStep.powerGo
  · exact h.setStep.powerGo
  · exact h.wr.setStep.powerGo
  · exact h.wr.setStep.startBatch.powerGo
  · exact h.restChans.setStep.powerGo
  · exact h.wakeChans.setStep.powerGo
  · exact h.bankGroups.endRequest
  · exact h.wakeGroups.setStep.powerGo
  · exact h.setStep.startBatch.powerGo

@[irreducible] def Foot.execPowerCheck : Foot := Foot.powerAdvance ||| Foot.recordPower ||| Foot.field PW_RESTORE_REGIONS.id

theorem Kept.execPowerCheck (h : Kept L r s) (hl : Foot.execPowerCheck.Within L := by exact .mono ‹_› ⟨by decide +kernel⟩) :
    KeptOut L r (execPowerCheck s) := by
  unfold Machine.execPowerCheck
  extract_lets
  split
  · extract_lets _ _ _ s1 _ _ s2 s3
    have k1 : Kept L r s1 := h.updPower.notePower
    have k2 : Kept L r s2 := .ite k1.wr k1
    have k3 : Kept L r s3 := .ite (k2.foldl (fun _ _ h => (Kept.ite h h.beginChange).closePort.closePort)) k2
    refine .ite (.next h) ?_
    refine .ite (.next k1.endRequest) ?_
    split
    · exact .next k1.recordPower.endRequest
    · exact .ite (.next k1.endRequest) (.next k3.startRequest)
  · exact .next h

theorem Kept.execBiasSettled {k} (h : Kept L r s) (hl : Foot.endChange.Within L := by exact .mono ‹_› ⟨by decide +kernel⟩) :
    KeptOut L r (execBiasSettled k s) :=
  .next h.biasSettled

@[irreducible] def Foot.execPowerDrainTimeout : Foot := Foot.powerAbort ||| Foot.field PW_INJECT_INJ_DRAIN.id

theorem Kept.execPowerDrainTimeout (h : Kept L r s)
    (hl : Foot.execPowerDrainTimeout.Within L := by exact .mono ‹_› ⟨by decide +kernel⟩) :
    KeptOut L r (execPowerDrainTimeout s) := by
  unfold Machine.execPowerDrainTimeout
  extract_lets
  refine .ite (.next h) ?_
  refine .ite (.next h) ?_
  split
  next s1 e2 =>
  have k1 : Kept L r s1 := .snd h.takeInj e2
  exact .next k1.powerAbort

@[irreducible] def Foot.execPwClearCounts : Foot := .of [PW_COUNT_ABORTS, PW_COUNT_REFUSALS] []

theorem Kept.execPwClearCounts (h : Kept L r s)
    (hl : Foot.execPwClearCounts.Within L := by exact .mono ‹_› ⟨by decide +kernel⟩) :
    KeptOut L r (execPwClearCounts s) :=
  .next h.clrAll

/-! The footprints of Machine/Proof. -/

@[irreducible] def Foot.execProofLoad : Foot := Foot.decideOp ||| Foot.stageLoading ||| Foot.part .drawn ||| .of
    [PF_SET_ID_SET_ID] [.stage]

theorem Kept.execProofLoad {ring arg} (h : Kept L r s)
    (hl : Foot.execProofLoad.Within L := by exact .mono ‹_› ⟨by decide +kernel⟩) :
    KeptOut L r (execProofLoad ring arg s) := by
  unfold Machine.execProofLoad
  extract_lets
  refine .ite (.next h) ?_
  split
  · exact .next h
  · extract_lets s1 _ _ _ _
    have k1 : Kept L r s1 := h.runOp
    refine .ite (.next h.decideOp) ?_
    split
    next s2 e3 =>
    have k2 : Kept L r s2 := .snd (.ite_snd k1.draw k1) e3
    exact .next k2.stageLoading.wr.updStage

@[irreducible] def Foot.execProofLoadDone : Foot := Foot.decideOp ||| .of [PF_ITEM_FIELD, PF_ITEM_ITEM] [.stage]

theorem Kept.execProofLoadDone (h : Kept L r s)
    (hl : Foot.execProofLoadDone.Within L := by exact .mono ‹_› ⟨by decide +kernel⟩) :
    KeptOut L r (execProofLoadDone s) := by
  unfold Machine.execProofLoadDone
  extract_lets s1
  have k1 : Kept L r s1 := h.updStage
  split
  · exact .next h
  · exact .next (Kept.ite k1 k1.wr.wr).decideOp

@[irreducible] def Foot.execProofCheck : Foot := Foot.decideOp ||| Foot.part .drawn ||| .of [PF_STATE_STATE] [.stage]

theorem Kept.execProofCheck {ring} (h : Kept L r s)
    (hl : Foot.execProofCheck.Within L := by exact .mono ‹_› ⟨by decide +kernel⟩) :
    KeptOut L r (execProofCheck ring s) := by
  unfold Machine.execProofCheck
  refine .ite (.next h) ?_
  split
  · exact .next h
  · refine .ite (.next h.decideOp) ?_
    refine .ite (.next h.runOp.wr.updStage) ?_
    split
    next s1 e2 =>
    have k1 : Kept L r s1 := .snd h.draw e2
    exact .next k1.decideOp

@[irreducible] def Foot.execFix : Foot := Foot.decideOp ||| .of [PF_FIX_TICK_T, PF_STATE_STATE] [.stage]

theorem Kept.execFix {ring arg} (h : Kept L r s) (hl : Foot.execFix.Within L := by exact .mono ‹_› ⟨by decide +kernel⟩) :
    KeptOut L r (execFix ring arg s) := by
  unfold Machine.execFix
  refine .ite (.next h) ?_
  split
  · exact .next h
  · exact .ite (.next h.decideOp) (.ite (.next h.decideOp) (.ite (.next h.decideOp) (.next h.runOp.wr.wr.updStage)))

theorem Kept.execFixCancel {ring} (h : Kept L r s)
    (hl : Foot.releaseCancels.Within L := by exact .mono ‹_› ⟨by decide +kernel⟩) :
    KeptOut L r (execFixCancel ring s) := by
  unfold Machine.execFixCancel
  split
  · exact .next h
  · exact .ite (.next h.decideOp) (.ite (.next h.runOp.awaitFix) (.next h.runOp.updStage))

theorem Kept.execFixCancelLatch (h : Kept L r s) (hl : Foot.abortFix.Within L := by exact .mono ‹_› ⟨by decide +kernel⟩) :
    KeptOut L r (execFixCancelLatch s) :=
  .next h.latchCancels.reachApply

@[irreducible] def Foot.execProofDiscard : Foot := Foot.decideOp ||| Foot.stageEmpty ||| Foot.part .drawn

theorem Kept.execProofDiscard {ring} (h : Kept L r s)
    (hl : Foot.execProofDiscard.Within L := by exact .mono ‹_› ⟨by decide +kernel⟩) :
    KeptOut L r (execProofDiscard ring s) := by
  unfold Machine.execProofDiscard
  refine .ite (.next h) ?_
  split
  · exact .next h
  · refine .ite (.next h.decideOp) ?_
    refine .ite ?_ (.next h.stageEmpty.decideOp)
    split
    next s1 e2 =>
    have k1 : Kept L r s1 := .snd h.draw e2
    exact .next k1.decideOp

@[irreducible] def Foot.execFuseProgramDone : Foot := .of [CHANGE_LOG_ENTRY, LIMIT_STATUS_LOG_USED] [.stage]

theorem Kept.execFuseProgramDone (h : Kept L r s)
    (hl : Foot.execFuseProgramDone.Within L := by exact .mono ‹_› ⟨by decide +kernel⟩) :
    KeptOut L r (execFuseProgramDone s) := by
  unfold Machine.execFuseProgramDone
  split
  · exact .next h
  · exact .next h.wr.incSat.updStage

/-! The footprints of Machine/Reel. -/

@[irreducible] def Foot.execReelStart : Foot := Foot.powerAbort ||| Foot.setLevel ||| .of [RE_STATUS_CAUSE_SEEN,
    RE_STATUS_END_CAUSE, RE_STATUS_STATE, START_TICK_S, VCYCLE_VC] []

theorem Kept.execReelStart {ring} (h : Kept L r s)
    (hl : Foot.execReelStart.Within L := by exact .mono ‹_› ⟨by decide +kernel⟩) :
    KeptOut L r (execReelStart ring s) := by
  unfold Machine.execReelStart
  split
  · exact .next h
  · extract_lets _ _ s1 s2 s3
    have k1 : Kept L r s1 := h.runOp.wr.wr
    have k2 : Kept L r s2 := k1.wr.wr.wr
    have k3 : Kept L r s3 := k2.updReel
    split
    · exact .next h.decideOp
    · exact .next k3.setLevel.powerWatch

@[irreducible] def Foot.execReelAbort : Foot := Foot.part .ops ||| Foot.part .reels

theorem Kept.execReelAbort {ring} (h : Kept L r s)
    (hl : Foot.execReelAbort.Within L := by exact .mono ‹_› ⟨by decide +kernel⟩) :
    KeptOut L r (execReelAbort ring s) := by
  unfold Machine.execReelAbort
  split
  · exact .next h
  · exact .next h.runOp.updReel

theorem Kept.latchAbort {n a} (h : Kept L r s) (hl : Foot.endUnstarted.Within L := by exact .mono ‹_› ⟨by decide +kernel⟩) :
    Kept L r (latchAbort n s a) :=
  .ite h.decideOp (.ite h.stopReel.decideOp (.ite h.decideOp (.ite h.updReel (.ite h.stopReel.decideOp (Kept.ite h.wr.setmbit
    h).decideOp))))

theorem Kept.execReelAbortLatch {n} (h : Kept L r s)
    (hl : Foot.endUnstarted.Within L := by exact .mono ‹_› ⟨by decide +kernel⟩) :
    KeptOut L r (execReelAbortLatch n s) :=
  .next (h.updReel.foldl (fun _ _ h => h.latchAbort))

theorem Kept.execReelPrefetchStart {n} (h : Kept L r s)
    (hl : (Foot.field RE_STATUS_STATE.id).Within L := by exact .mono ‹_› ⟨by decide +kernel⟩) :
    KeptOut L r (execReelPrefetchStart n s) :=
  .ite (.next h.wr) (.next h)

@[irreducible] def Foot.execReelStartTick : Foot := Foot.endUnstarted ||| Foot.part .catches

theorem Kept.execReelStartTick {n a w0} (h : Kept L r s)
    (hl : Foot.execReelStartTick.Within L := by exact .mono ‹_› ⟨by decide +kernel⟩) :
    KeptOut L r (execReelStartTick n a w0 s) := by
  unfold Machine.execReelStartTick
  extract_lets s1 _
  have k1 : Kept L r s1 := h.updReel.updCatch
  refine .ite ?_ (.next h)
  refine .ite (.ite (.next k1.wr.updReel) (.next k1.wr)) ?_
  split
  · exact .next h.endUnstarted
  · exact .next h.endUnstarted

theorem Kept.execReelNaturalCompletion {n} (h : Kept L r s)
    (hl : Foot.latchCause.Within L := by exact .mono ‹_› ⟨by decide +kernel⟩) :
    KeptOut L r (execReelNaturalCompletion n s) :=
  .ite (.next h.latchCause) (.next h)

@[irreducible] def Foot.execPad : Foot := Foot.decodeOp ||| Foot.setLevel

theorem Kept.execPad {n} (h : Kept L r s) (hl : Foot.execPad.Within L := by exact .mono ‹_› ⟨by decide +kernel⟩) :
    KeptOut L r (execPad n s) :=
  .next (h.decodeOp (fun _ _ h => h.updReel.noteLevel))

@[irreducible] def Foot.execLiteral : Foot := Foot.emitOp ||| Foot.decodeOp

theorem Kept.execLiteral {n k} (h : Kept L r s) (hl : Foot.execLiteral.Within L := by exact .mono ‹_› ⟨by decide +kernel⟩) :
    KeptOut L r (execLiteral n k s) :=
  .next (h.decodeOp (fun _ _ h => h.emitOp))

theorem Kept.execRepeatVector {n k} (h : Kept L r s)
    (hl : Foot.execLiteral.Within L := by exact .mono ‹_› ⟨by decide +kernel⟩) :
    KeptOut L r (execRepeatVector n k s) :=
  .next (h.decodeOp (fun _ _ h => h.emitOp))

theorem Kept.execRepeatBlock {n} (h : Kept L r s) (hl : Foot.execPad.Within L := by exact .mono ‹_› ⟨by decide +kernel⟩) :
    KeptOut L r (execRepeatBlock n s) :=
  .next (h.decodeOp (fun _ _ h => .ite h.updReel.noteLevel h.formatBreach))

theorem Kept.execDict {n k} (h : Kept L r s) (hl : Foot.execLiteral.Within L := by exact .mono ‹_› ⟨by decide +kernel⟩) :
    KeptOut L r (execDict n k s) :=
  .next (h.decodeOp fun _ _ h => h.emitOp)

@[irreducible] def Foot.spliceFault : Foot := Foot.sequencerStep ||| Foot.substitute

theorem Kept.spliceFault {n injected} (h : Kept L r s)
    (hl : Foot.spliceFault.Within L := by exact .mono ‹_› ⟨by decide +kernel⟩) :
    Kept L r (spliceFault n injected s) :=
  h.raiseInj.substitute

@[irreducible] def Foot.execSplice : Foot := Foot.emitOp ||| Foot.decodeOp ||| .of [FI_REEL_INJECT_INJ_SPLICE,
    SPLICED_VECTORS_VECTORS] []

theorem Kept.execSplice {n k} (h : Kept L r s) (hl : Foot.execSplice.Within L := by exact .mono ‹_› ⟨by decide +kernel⟩) :
    KeptOut L r (execSplice n k s) := by
  unfold Machine.execSplice
  refine .next ?_
  refine h.decodeOp fun _ t2 h1 => ?_
  extract_lets _ _ s3 _
  have k3 : Kept L r s3 := .ite h1.updReel h1
  split
  next s4 e5 =>
  have k4 : Kept L r s4 := .snd k3.takeInj e5
  exact (Kept.ite k4.updReel k4.incWrap.emitOp.updReel).andThen fun h => .ite h.spliceFault h

@[irreducible] def Foot.passStop : Foot := Foot.setLevel ||| .of [NEXT_STOP_VC_VC, STOP_NOW_STOP_ID] []

theorem Kept.passStop {n w} (h : Kept L r s) (hl : Foot.passStop.Within L := by exact .mono ‹_› ⟨by decide +kernel⟩) :
    Kept L r (passStop n w s) :=
  h.wr.wr.updReel.noteLevel

@[irreducible] def Foot.execStop : Foot := Foot.decodeOp ||| Foot.passStop

theorem Kept.execStop {n} (h : Kept L r s) (hl : Foot.execStop.Within L := by exact .mono ‹_› ⟨by decide +kernel⟩) :
    KeptOut L r (execStop n s) :=
  .next (h.decodeOp (fun _ _ h => .ite h.passStop h.formatEnd))

@[irreducible] def Foot.execSpliceWrite : Foot := Foot.spliceFault ||| .of [SPLICE_ERR_BAD_VALID, SPLICE_ERR_OVERFLOW,
    SPLICE_LEFTOVER_VECTORS] []

theorem Kept.execSpliceWrite {n valid v0 v1} (h : Kept L r s)
    (hl : Foot.execSpliceWrite.Within L := by exact .mono ‹_› ⟨by decide +kernel⟩) :
    KeptOut L r (execSpliceWrite n valid v0 v1 s) :=
  .ite (.next h) (.ite (.next h.incSat) (.ite (.next h.incWrap) (h.updReel.andThen fun h => .ite (.next h) (.next
    h.incSat.spliceFault))))

@[irreducible] def Foot.execReelUnderrun : Foot := Foot.sequencerStep ||| Foot.substitute ||| .of
    [FI_REEL_INJECT_INJ_UNDERRUN, UNDERRUN_COUNT_COUNT] []

theorem Kept.execReelUnderrun {n} (h : Kept L r s)
    (hl : Foot.execReelUnderrun.Within L := by exact .mono ‹_› ⟨by decide +kernel⟩) :
    KeptOut L r (execReelUnderrun n s) := by
  unfold Machine.execReelUnderrun
  extract_lets
  refine .ite ?_ (.next h)
  split
  next s1 e2 =>
  have k1 : Kept L r s1 := .snd h.takeInj e2
  exact .ite (.next k1) (.ite (.next k1.substitute) (.next k1.incWrap.raiseInj.substitute))

theorem Kept.execSubstitutionStart {n} (h : Kept L r s)
    (hl : (Foot.part .reels).Within L := by exact .mono ‹_› ⟨by decide +kernel⟩) :
    KeptOut L r (execSubstitutionStart n s) := by
  unfold Machine.execSubstitutionStart
  extract_lets
  split
  · exact .next h
  · exact .ite (.next h.updReel) (.next h)

@[irreducible] def Foot.execHoldReached : Foot := Foot.part .reels ||| Foot.field END_TICK_TICK.id

theorem Kept.execHoldReached {n} (h : Kept L r s)
    (hl : Foot.execHoldReached.Within L := by exact .mono ‹_› ⟨by decide +kernel⟩) :
    KeptOut L r (execHoldReached n s) := by
  unfold Machine.execHoldReached
  extract_lets
  split
  · exact .next h
  · exact .ite (.next h.wr.updReel) (.next h)

@[irreducible] def Foot.execReelHolding : Foot := Foot.taintNotice ||| Foot.decideReel ||| Foot.latchCause |||
    Foot.flushSplice ||| Foot.setLevel ||| Foot.field RE_STATUS_STATE.id

theorem Kept.execReelHolding {n} (h : Kept L r s)
    (hl : Foot.execReelHolding.Within L := by exact .mono ‹_› ⟨by decide +kernel⟩) :
    KeptOut L r (execReelHolding n s) := by
  unfold Machine.execReelHolding
  extract_lets _ _ s1 s2 s3 _ _ s4 s5 s6
  have k1 : Kept L r s1 := .ite h.latchCause h
  have k2 : Kept L r s2 := k1.wr.flushSplice
  have k3 : Kept L r s3 := k2.updReel.dropBuffer
  have k4 : Kept L r s4 := k3.decideReel
  have k5 : Kept L r s5 := by
    unfold s5
    split
    · exact k4.holdOp
    · exact k4
  have k6 : Kept L r s6 := k5.lineKeep
  exact .ite (.next (.ite k6.taintNotice k6.noTaint)) (.next h)

@[irreducible] def Foot.execReClearCounts : Foot := .of [ABORT_COUNT_COUNT, FORMAT_COUNT_COUNT, LINES_FETCHED_LINES,
    SPLICED_VECTORS_VECTORS, SPLICE_ERR_BAD_VALID, SPLICE_ERR_OVERFLOW, SPLICE_LEFTOVER_VECTORS, TAINT_COUNT_COUNT,
    UNDERRUN_COUNT_COUNT, VECTORS_EMITTED_VECTORS] []

theorem Kept.execReClearCounts {n} (h : Kept L r s)
    (hl : Foot.execReClearCounts.Within L := by exact .mono ‹_› ⟨by decide +kernel⟩) :
    KeptOut L r (execReClearCounts n s) :=
  .next h.clrAllInst

theorem Kept.execFlushDict {n} (h : Kept L r s)
    (hl : (Foot.field RE_STATUS_DICT_VALID.id).Within L := by exact .mono ‹_› ⟨by decide +kernel⟩) :
    KeptOut L r (execFlushDict n s) :=
  .ite (.next h.wr) (.next h)

@[irreducible] def Foot.execReelFetchWindow : Foot := Foot.passTo ||| Foot.fetchLine ||| Foot.fetchTraffic |||
    Foot.slotConflict

theorem Kept.execReelFetchWindow {k lines} (h : Kept L r s)
    (hl : Foot.execReelFetchWindow.Within L := by exact .mono ‹_› ⟨by decide +kernel⟩) :
    KeptOut L r (execReelFetchWindow k lines s) := by
  obtain ⟨fetchTraffic, ef, hf⟩ : ∃ f, f = Machine.fetchTraffic ∧ ∀ a b n g p o t, Kept L r t → Kept L r (f a b n g p o t).2 :=
    ⟨_, rfl, fun _ _ _ _ _ _ _ k => k.fetchTraffic⟩
  unfold Machine.execReelFetchWindow
  rw [← ef]
  split
  · exact .next h
  · extract_lets s1 _ _ _ _ _ _ s2
    have k1 : Kept L r s1 := h.windowStart
    have k2 : Kept L r s2 := .ite k1.fetchLines.noteLevel k1
    split
    next s3 e =>
    have k3 : Kept L r s3 := .snd (hf _ _ _ _ _ _ _ k2) e
    exact .next (Kept.ite k3.lineFailed k3).meetsAt.openWin

/-! The footprints of Machine/Region. -/

@[irreducible] def Foot.execFabricReset : Foot := Foot.regionReset ||| Foot.field RG_CTRL_IGNORED.id

theorem Kept.execFabricReset {k} (h : Kept L r s)
    (hl : Foot.execFabricReset.Within L := by exact .mono ‹_› ⟨by decide +kernel⟩) :
    KeptOut L r (execFabricReset k s) :=
  .next (.ite h.regionReset.updRegion h.wr)

@[irreducible] def Foot.setSensorBad : Foot := .of [FI_CHECK_STATUS_CENTRAL_FAULT, FI_SENSOR_FAULT_REGIONS] []

theorem Kept.setSensorBad {k b} (h : Kept L r s)
    (hl : Foot.setSensorBad.Within L := by exact .mono ‹_› ⟨by decide +kernel⟩) :
    Kept L r (setSensorBad k b s) :=
  .ite h.setb h.setmbit

@[irreducible] def Foot.checkSensor : Foot := Foot.sequencerStep ||| Foot.setSensorBad ||| Foot.part .regions ||| Foot.field
    FI_CHECK_INJECT_INJ_SENSOR.id

theorem Kept.checkSensor {codes k} (h : Kept L r s)
    (hl : Foot.checkSensor.Within L := by exact .mono ‹_› ⟨by decide +kernel⟩) :
    Kept L r (checkSensor codes k s) := by
  unfold Machine.checkSensor
  extract_lets _ _ _ s1 s2
  have k1 : Kept L r s1 := .ite h.setSensorBad h
  have k2 : Kept L r s2 := k1.takeReading
  split
  next s3 e4 =>
  have k3 : Kept L r s3 := .snd k2.takeInj e4
  exact .ite k3.setSensorBad.raiseInj k3

@[irreducible] def Foot.compareEdge : Foot := Foot.sequencerStep ||| Foot.part .regions ||| Foot.field
    RG_STATUS_EDGE_SUSPECT.id ||| Foot.field RG_FAULT_COUNT_TEMP_SKEW.id

theorem Kept.compareEdge {codes injected k e} (h : Kept L r s)
    (hl : Foot.compareEdge.Within L := by exact .mono ‹_› ⟨by decide +kernel⟩) :
    Kept L r (compareEdge codes injected k e s) := by
  unfold Machine.compareEdge
  extract_lets
  split
  · exact h
  · exact .ite h (.ite h.updRegion.updRegion.incSat.incSat.refreshSuspect.refreshSuspect.raiseInj (.ite
      h.updRegion.updRegion.refreshSuspect.refreshSuspect h))

theorem Kept.tempTamper {codes} (h : Kept L r s) (hl : Foot.fireSensors.Within L := by exact .mono ‹_› ⟨by decide +kernel⟩) :
    Kept L r (tempTamper codes s) :=
  .ite (h.updEngine.andThen fun h => .ite h h.fireSensors) h.updEngine

@[irreducible] def Foot.execTempReading : Foot := Foot.fireSensors ||| Foot.checkSensor ||| Foot.compareEdge ||| .of
    [RG_INJECT_INJ_TEMP, RG_TEMP_MAX_TEMP, RG_TEMP_TEMP] []

theorem Kept.execTempReading {readings} (h : Kept L r s)
    (hl : Foot.execTempReading.Within L := by exact .mono ‹_› ⟨by decide +kernel⟩) :
    KeptOut L r (execTempReading readings s) :=
  .next ((((h.foldl (fun _ _ h => h.wr)).foldl (fun _ _ h => h.wr.andThen fun h => .ite h.wr h)).foldl (fun _ _ h =>
    h.checkSensor)).foldl (fun _ _ h => h.compareEdge.compareEdge)).tempTamper

@[irreducible] def Foot.biasFlag : Foot := Foot.field RG_STATUS_EDGE_SUSPECT.id ||| Foot.field RG_STATUS_BIAS_FAULT.id

theorem Kept.biasFlag {k b} (h : Kept L r s) (hl : Foot.biasFlag.Within L := by exact .mono ‹_› ⟨by decide +kernel⟩) :
    Kept L r (biasFlag k b s) :=
  h.setb.foldl (fun _ _ h => h.refreshSuspect)

@[irreducible] def Foot.execBiasFault : Foot := Foot.sequencerStep ||| Foot.biasFlag ||| .of [RG_BIAS_MEASURED,
    RG_FAULT_COUNT_BIAS_FAULTS, RG_INJECT_INJ_BIAS] []

theorem Kept.execBiasFault {k measured} (h : Kept L r s)
    (hl : Foot.execBiasFault.Within L := by exact .mono ‹_› ⟨by decide +kernel⟩) :
    KeptOut L r (execBiasFault k measured s) := by
  unfold Machine.execBiasFault
  split
  next s1 e2 =>
  have k1 : Kept L r s1 := .snd h.takeInj e2
  exact .ite (k1.wr.andThen fun h => .ite (.next h) (.next h.biasFlag.incSat.raiseInj)) (.next k1)

@[irreducible] def Foot.execBiasFaultCleared : Foot := Foot.biasFlag ||| Foot.field RG_BIAS_MEASURED.id

theorem Kept.execBiasFaultCleared {k measured} (h : Kept L r s)
    (hl : Foot.execBiasFaultCleared.Within L := by exact .mono ‹_› ⟨by decide +kernel⟩) :
    KeptOut L r (execBiasFaultCleared k measured s) :=
  .ite (.next h.wr.biasFlag) (.next h)

/-! The footprints of Machine/Slice. -/

theorem Kept.whenRuns {k t' f} (h : Kept L r s) (hf : ∀ t, Kept L r t → Kept L r (f t)) :
    KeptOut L r (whenRuns k t' s f) :=
  .next (.ite (hf _ h) h)

theorem Kept.whenPort {k t' f} (h : Kept L r s) (hf : ∀ t, Kept L r t → Kept L r (f t)) :
    KeptOut L r (whenPort k t' s f) :=
  .next (.ite (hf _ h) h)

@[irreducible] def Foot.execSliceStart : Foot := Foot.part .slices ||| Foot.field SL_STATUS_CMD_IGNORED.id ||| .of
    [SL_PTR_PC, SL_PTR_P_W, SL_PTR_P_X, SL_PTR_P_Y, SL_STATUS_OVF0, SL_STATUS_OVF1, SL_STATUS_STATE, SL_STATUS_STORE_SAT] []

theorem Kept.execSliceStart {k t' entry} (h : Kept L r s)
    (hl : Foot.execSliceStart.Within L := by exact .mono ‹_› ⟨by decide +kernel⟩) :
    KeptOut L r (execSliceStart k t' entry s) :=
  h.whenRuns (fun _ h => .ite h.ignoreCmd h.wr.wr.wr.wr.wr.wr.wr.updSlice.wr)

@[irreducible] def Foot.execSliceStop : Foot := Foot.sliceCycles ||| Foot.field SL_STATUS_CMD_IGNORED.id ||| Foot.field
    SL_STATUS_STATE.id

theorem Kept.execSliceStop {k t'} (h : Kept L r s)
    (hl : Foot.execSliceStop.Within L := by exact .mono ‹_› ⟨by decide +kernel⟩) :
    KeptOut L r (execSliceStop k t' s) :=
  h.whenRuns (fun _ h => .ite h.sliceCycles.wr h.ignoreCmd)

@[irreducible] def Foot.execSliceContinue : Foot := Foot.field SL_STATUS_CMD_IGNORED.id ||| Foot.field SL_STATUS_STATE.id

theorem Kept.execSliceContinue {k t'} (h : Kept L r s)
    (hl : Foot.execSliceContinue.Within L := by exact .mono ‹_› ⟨by decide +kernel⟩) :
    KeptOut L r (execSliceContinue k t' s) :=
  h.whenRuns (fun _ h => .ite h.wr h.ignoreCmd)

theorem Kept.issue {i opc f} (h : Kept L r s) (k : ∀ w t, Kept L r t → Kept L r (f w t))
    (hl : Foot.fetchIns.Within L := by exact .mono ‹_› ⟨by decide +kernel⟩) :
    KeptOut L r (issue i opc s f) := by
  unfold Machine.issue
  split
  · exact .next h
  next e => exact .next (h.fetchIns e)
  next e => exact .next (k _ _ (h.fetchIns e))

@[irreducible] def Foot.execSliceNop : Foot := Foot.fetchIns ||| Foot.arrive ||| Foot.sliceCycles

theorem Kept.execSliceNop {k t'} (h : Kept L r s)
    (hl : Foot.execSliceNop.Within L := by exact .mono ‹_› ⟨by decide +kernel⟩) :
    KeptOut L r (execSliceNop k t' s) :=
  h.issue (fun _ _ h => h.sliceCycles.retire)

@[irreducible] def Foot.execMac : Foot := Foot.runMac ||| Foot.fetchIns

theorem Kept.execMac {k t'} (h : Kept L r s) (hl : Foot.execMac.Within L := by exact .mono ‹_› ⟨by decide +kernel⟩) :
    KeptOut L r (execMac k t' s) :=
  h.issue (fun _ _ h => h.runMac)

@[irreducible] def Foot.execRepeat : Foot := Foot.runRepeat ||| Foot.fetchIns

theorem Kept.execRepeat {k t'} (h : Kept L r s) (hl : Foot.execRepeat.Within L := by exact .mono ‹_› ⟨by decide +kernel⟩) :
    KeptOut L r (execRepeat k t' s) :=
  h.issue (fun _ _ h => h.runRepeat)

@[irreducible] def Foot.execStore : Foot := Foot.fetchIns ||| Foot.runStore

theorem Kept.execStore {k t'} (h : Kept L r s) (hl : Foot.execStore.Within L := by exact .mono ‹_› ⟨by decide +kernel⟩) :
    KeptOut L r (execStore k t' s) :=
  h.issue (fun _ _ h => h.runStore)

theorem Kept.execSetp {k t'} (h : Kept L r s) (hl : Foot.execSliceNop.Within L := by exact .mono ‹_› ⟨by decide +kernel⟩) :
    KeptOut L r (execSetp k t' s) :=
  h.issue (fun _ _ h => h.runSetp)

@[irreducible] def Foot.execHalt : Foot := Foot.fetchIns ||| Foot.runHalt

theorem Kept.execHalt {k t'} (h : Kept L r s) (hl : Foot.execHalt.Within L := by exact .mono ‹_› ⟨by decide +kernel⟩) :
    KeptOut L r (execHalt k t' s) :=
  h.issue fun _ _ h => h.runHalt

@[irreducible] def Foot.execSliceMemAccess : Foot := Foot.sequencerStep ||| Foot.part .drawn ||| Foot.field
    SL_FAULT_INFO_PARITY_ERRS.id

theorem Kept.execSliceMemAccess {k t' space write addr data} (h : Kept L r s)
    (hl : Foot.execSliceMemAccess.Within L := by exact .mono ‹_› ⟨by decide +kernel⟩) :
    KeptOut L r (execSliceMemAccess k t' space write addr data s) := by
  unfold Machine.execSliceMemAccess
  extract_lets
  refine h.whenRuns fun t2 h1 => ?_
  extract_lets _ _ _ s3 _ s4
  have k3 : Kept L r s3 := h1.updSlice
  have k4 : Kept L r s4 := h1.updSlice
  refine .ite (.ite h1.updSlice (.ite k3.incSat.raise k3)) ?_
  refine .ite (.ite h1.updSlice h1.updSlice) ?_
  refine .ite (.ite k4.incSat.raise k4) ?_
  split
  next s5 e6 =>
  have k5 : Kept L r s5 := .snd h1.draw e6
  exact k5.updSlice

theorem Kept.execSliceInputWord {k t' word} (h : Kept L r s)
    (hl : (Foot.part .slices).Within L := by exact .mono ‹_› ⟨by decide +kernel⟩) :
    KeptOut L r (execSliceInputWord k t' word s) :=
  h.whenPort (fun _ h => .ite h.updSlice h)

theorem Kept.execSliceOutputTake {k t'} (h : Kept L r s)
    (hl : (Foot.part .slices).Within L := by exact .mono ‹_› ⟨by decide +kernel⟩) :
    KeptOut L r (execSliceOutputTake k t' s) := by
  unfold Machine.execSliceOutputTake
  extract_lets
  refine h.whenPort fun t2 h1 => ?_
  split
  · exact h1
  · exact h1.updSlice

@[irreducible] def Foot.execSlClearCounts : Foot := .of [SL_CYCLES_CYCLES, SL_MACS_MACS, SL_STALL_STALL_IN,
    SL_STALL_STALL_OUT, SL_STEAL_STOLEN] []

theorem Kept.execSlClearCounts {k t'} (h : Kept L r s)
    (hl : Foot.execSlClearCounts.Within L := by exact .mono ‹_› ⟨by decide +kernel⟩) :
    KeptOut L r (execSlClearCounts k t' s) :=
  .next h.clrAllInst

/-! The footprints of Machine/Tick. -/

@[irreducible] def Foot.execTick : Foot := Foot.nextTick ||| Foot.serveRequest

theorem Kept.execTick (h : Kept L r s) (hl : Foot.execTick.Within L := by exact .mono ‹_› ⟨by decide +kernel⟩) :
    KeptOut L r (execTick s) :=
  .next (.ite h h.nextTick.serveDdr)

theorem Kept.execFrameLogRead {k debug} (h : Kept L r s)
    (hl : (Foot.part .tick).Within L := by exact .mono ‹_› ⟨by decide +kernel⟩) :
    KeptOut L r (execFrameLogRead k debug s) :=
  .next (.ite h h.updTck)

theorem Kept.execSyncMark {width pos} (h : Kept L r s)
    (hl : Foot.syncMark.Within L := by exact .mono ‹_› ⟨by decide +kernel⟩) :
    KeptOut L r (execSyncMark width pos s) :=
  .next (.ite h.syncMark (.ite h.syncMark h.incWrap))

@[irreducible] def Foot.execSyncMarkMissed : Foot := Foot.missMark ||| Foot.field FI_TICK_INJECT_INJ_SYNC_MISS.id

theorem Kept.execSyncMarkMissed (h : Kept L r s)
    (hl : Foot.execSyncMarkMissed.Within L := by exact .mono ‹_› ⟨by decide +kernel⟩) :
    KeptOut L r (execSyncMarkMissed s) := by
  unfold Machine.execSyncMarkMissed
  extract_lets
  refine .next ?_
  refine .ite h ?_
  split
  next s1 e2 =>
  have k1 : Kept L r s1 := .snd h.takeInj e2
  exact k1.missMark

@[irreducible] def Foot.execAlignArm : Foot := Foot.judgeArm ||| .of [ALIGN_CTRL_HOLDOVER, ALIGN_CTRL_MARK_DIV,
    ALIGN_CTRL_MODE] [.tickWrites]

theorem Kept.execAlignArm {v} (h : Kept L r s) (hl : Foot.execAlignArm.Within L := by exact .mono ‹_› ⟨by decide +kernel⟩) :
    KeptOut L r (execAlignArm v s) :=
  .ite (.next h) (h.writeFields.andThen fun h => .next (.ite h.wr.updTck h.judgeArm))

@[irreducible] def Foot.execAlignModeChange : Foot := Foot.judgeArm ||| Foot.field ALIGN_CTRL_MODE.id

theorem Kept.execAlignModeChange (h : Kept L r s)
    (hl : Foot.execAlignModeChange.Within L := by exact .mono ‹_› ⟨by decide +kernel⟩) :
    KeptOut L r (execAlignModeChange s) := by
  unfold Machine.execAlignModeChange
  extract_lets
  split
  · exact .next h
  · exact .ite (.next h) (h.wr.updTck.andThen fun h => (Kept.ite h.setAlign h.noteUnaligned).andThen fun h => .next (.ite
      h.judgeArm h))

/-! The footprints of Machine/BusOps. -/

@[irreducible] def Foot.plainWrite : Foot := Foot.writeField ||| Foot.registers

theorem Kept.plainWrite {skip r' i j v} (h : Kept L r s) (hr : r' ∈ regTable)
    (hl : Foot.plainWrite.Within L := by exact .mono ‹_› ⟨by decide +kernel⟩) :
    Kept L r (plainWrite skip r' i j v s) := by
  exact h.foldl_mem fun f hf _ k => .ite k (k.writeField (tickField_of_mem hr hf)
    (.mono (hl.mono ⟨by decide +kernel⟩) (Foot.field_within_registers hr hf)))

theorem Kept.clearing {b v f} (h : Kept L r s) (hf : ∀ t, Kept L r t → KeptOut L r (f t)) :
    Kept L r (clearing b v f s) :=
  .ite (h.after (hf _ h)) h

@[irreducible] def Foot.writeAlignCtrl : Foot := Foot.execAlignArm ||| Foot.plainWrite

theorem Kept.writeAlignCtrl {r' v} (h : Kept L r s) (hr : r' ∈ regTable)
    (hl : Foot.writeAlignCtrl.Within L := by exact .mono ‹_› ⟨by decide +kernel⟩) :
    Kept L r (writeAlignCtrl r' v s) :=
  .ite (h.after h.execAlignArm) (h.plainWrite hr)

@[irreducible] def Foot.writeTraining : Foot := Foot.plainWrite ||| .of [DC_STATUS_TR_IGNORED, TR_STATUS_BUSY] []

theorem Kept.writeTraining {r' c j v} (h : Kept L r s) (hr : r' ∈ regTable)
    (hl : Foot.writeTraining.Within L := by exact .mono ‹_› ⟨by decide +kernel⟩) :
    Kept L r (writeTraining r' c j v s) :=
  .ite ((h.plainWrite hr).andThen fun h => .ite h.wr h) h.wr

@[irreducible] def Foot.writePrbs : Foot := Foot.execPrbsRxEn ||| Foot.execPrbsTxEn ||| Foot.plainWrite

theorem Kept.writePrbs {r' g i v} (h : Kept L r s) (hr : r' ∈ regTable)
    (hl : Foot.writePrbs.Within L := by exact .mono ‹_› ⟨by decide +kernel⟩) :
    Kept L r (writePrbs r' g i v s) :=
  .ite h.wr ((h.plainWrite hr).andThen fun h => (h.after h.execPrbsTxEn).andThen fun h => h.after h.execPrbsRxEn)

@[irreducible] def Foot.writeEye : Foot := Foot.execEyeScanStart ||| Foot.plainWrite

theorem Kept.writeEye {r' g i v} (h : Kept L r s) (hr : r' ∈ regTable)
    (hl : Foot.writeEye.Within L := by exact .mono ‹_› ⟨by decide +kernel⟩) :
    Kept L r (writeEye r' g i v s) :=
  .ite (h.after h.execEyeScanStart) (h.plainWrite hr)

@[irreducible] def Foot.writeLink : Foot := Foot.linkDown ||| Foot.execLkQuiet ||| Foot.plainWrite

theorem Kept.writeLink {r' l v} (h : Kept L r s) (hr : r' ∈ regTable)
    (hl : Foot.writeLink.Within L := by exact .mono ‹_› ⟨by decide +kernel⟩) :
    Kept L r (writeLink r' l v s) := by
  exact (h.plainWrite hr).andThen fun h => (Kept.ite (h.after h.execLkQuiet) h).andThen fun h =>
    .ite (h.after h.execLkReset) h

@[irreducible] def Foot.writeRingBase : Foot := Foot.plainWrite ||| Foot.field CR_STATUS_CFG_ERR.id

theorem Kept.writeRingBase {r' j v} (h : Kept L r s) (hr : r' ∈ regTable)
    (hl : Foot.writeRingBase.Within L := by exact .mono ‹_› ⟨by decide +kernel⟩) :
    Kept L r (writeRingBase r' j v s) :=
  .ite (h.plainWrite hr) h.wr

@[irreducible] def Foot.writeDbCtrl : Foot := Foot.clearDebugCounts ||| Foot.armSequencer ||| Foot.plainWrite ||| Foot.part
    .dbg ||| Foot.field DB_CTRL_HALT_CORES.id

theorem Kept.writeDbCtrl {r' v} (h : Kept L r s) (hr : r' ∈ regTable)
    (hl : Foot.writeDbCtrl.Within L := by exact .mono ‹_› ⟨by decide +kernel⟩) :
    Kept L r (writeDbCtrl r' v s) := by
  unfold Machine.writeDbCtrl
  extract_lets s1 s2 s3 s4
  have k1 : Kept L r s1 := .ite (h.after h.execDbHalt) h
  have k2 : Kept L r s2 := .ite (k1.after k1.execDbResume) k1
  have k3 : Kept L r s3 := .ite (k2.after k2.execDbStep) k2
  have k4 : Kept L r s4 := .ite k3.armSequencer.writeField h
  exact (k4.plainWrite hr).clearing fun _ k => k.execDbClearCounts

@[irreducible] def Foot.writeDaCmd : Foot := Foot.daWrite ||| Foot.plainWrite

theorem Kept.writeDaCmd {r' v} (h : Kept L r s) (hr : r' ∈ regTable)
    (hl : Foot.writeDaCmd.Within L := by exact .mono ‹_› ⟨by decide +kernel⟩) :
    Kept L r (writeDaCmd r' v s) :=
  .ite h (.ite h.daWrite (h.plainWrite hr))

theorem Kept.writeStatCtrl {r' p snap clear} (h : Kept L r s)
    (hl : (Foot.part .noc).Within L := by exact .mono ‹_› ⟨by decide +kernel⟩) :
    Kept L r (writeStatCtrl r' p snap clear s) :=
  .ite h.updNet h

@[irreducible] def Foot.clearRouter : Foot := .of [LINK_FLITS_FLITS, LINK_PARITY_PARITY, LINK_SUSPEND_CYCLES,
    NR_COUNTS_A_AGED, NR_COUNTS_A_SCH_CONFLICTS, NR_COUNTS_B_CLOSED_REFUSALS, NR_COUNTS_B_RETURNS, NR_COUNTS_C_LATE_RESP,
    NR_COUNTS_C_RETRIES, NR_COUNTS_C_TIMEOUTS] []

theorem Kept.clearRouter {r'} (h : Kept L r s) (hl : Foot.clearRouter.Within L := by exact .mono ‹_› ⟨by decide +kernel⟩) :
    Kept L r (clearRouter r' s) :=
  h.clrAllInst

@[irreducible] def Foot.regWrite : Foot := Foot.writeDaCmd ||| Foot.injWrite ||| Foot.writeLink ||| Foot.writeAlignCtrl |||
    Foot.execDcClearCounts ||| Foot.execCbClearCounts ||| Foot.writeRingCfg ||| Foot.execDpClearCounts |||
    Foot.execMsClearCounts ||| Foot.execFabricReset ||| Foot.writePrbs ||| Foot.writeDbCtrl ||| Foot.deviceReset |||
    Foot.execReClearCounts ||| Foot.clearRouter ||| Foot.execDcClearLogs ||| Foot.writeEye ||| Foot.writeEventCfg |||
    Foot.execHiClearCounts ||| Foot.execCkClearCounts ||| Foot.execLgClearCounts ||| Foot.execScrubClearCounts |||
    Foot.execSpClearCounts ||| Foot.execBkClearCounts ||| Foot.execSlClearCounts ||| Foot.writeTraining |||
    Foot.execCmRdWrite ||| Foot.execEnClearCounts ||| Foot.execCfgClearCounts ||| Foot.part .io ||| Foot.part .cfg |||
    Foot.field MS_REPORT_RD_INDEX.id ||| Foot.field RE_STATUS_DICT_VALID.id

/-- What a register's own action does on a write of it. -/
theorem Kept.action {e x i j v} (h : Kept L r s) (he : e ∈ actionTable) (hr : x ∈ regTable)
    (hl : Foot.regWrite.Within L := by exact .mono ‹_› ⟨by decide +kernel⟩) : Kept L r (e.2 x i j v s) := by
  revert e
  unfold actionTable
  simp only [List.forall_mem_cons]
  exact ⟨h.writeAlignCtrl hr, (h.clearing fun _ k => k.execReClearCounts).clearing fun _ k => k.execFlushDict,
    h.clearing fun _ k => k.execCbClearCounts, h.after h.execCmRdWrite,
    (h.plainWrite hr).clearing fun _ k => k.execFabricReset, h.clearing fun _ k => k.execSlClearCounts,
    (h.clearing fun _ k => k.execConfigAbort).clearing fun _ k => k.execCfgClearCounts,
    (h.plainWrite hr).clearing fun _ k => k.execScrubClearCounts,
    by split; exacts [(h.plainWrite hr).clearRouter, h.plainWrite hr],
    h.writeStatCtrl, (h.clearing fun _ k => k.execDcClearCounts).clearing fun _ k => k.execDcClearLogs,
    h.writeTraining hr, h.writeTraining hr, h.writeTraining hr, h.writeTraining hr,
    h.clearing fun _ k => k.execEnClearCounts, h.clearing fun _ k => k.execLgClearCounts, h.writePrbs hr, h.writeEye hr,
    (h.plainWrite hr).clearing fun _ k => k.execMsClearCounts, h.after h.execMsReportRdWrite, h.writeLink hr,
    h.clearing fun _ k => k.execHiClearCounts, .ite h.wr (h.plainWrite hr), h.writeEventCfg, h.writeRingBase hr,
    h.writeRingBase hr, h.writeRingCfg, (h.plainWrite hr).clearing fun _ k => k.execDpClearCounts,
    (h.plainWrite hr).clearing fun _ k => k.execSpClearCounts, h.clearing fun _ k => k.execCkClearCounts,
    .ite h (h.plainWrite hr), (h.plainWrite hr).clearing fun _ k => k.execPwClearCounts, h.writeDbCtrl hr, h.writeDaCmd hr,
    h.clearing fun _ k => k.execEaClearCounts, h.after h.execDeviceReset, h.clearing fun _ k => k.execBkClearCounts,
    h.clearing fun _ k => k.execPinRetry, fun _ k => absurd k List.not_mem_nil⟩

theorem Kept.regWrite {r' i j v} (h : Kept L r s) (hr : r' ∈ regTable)
    (hl : Foot.regWrite.Within L := by exact .mono ‹_› ⟨by decide +kernel⟩) :
    Kept L r (regWrite r' i j v s) := by
  unfold Machine.regWrite
  refine .ite h (.ite (h.injWrite hr) ?_)
  split
  next e => exact h.action (List.mem_of_find?_eq_some e) hr
  · exact h.plainWrite hr

@[irreducible] def Foot.stageRwf : Foot := Foot.sequencerStep ||| Foot.stageLoading ||| Foot.part .stage

theorem Kept.stageRwf {who off ws} (h : Kept L r s) (hl : Foot.stageRwf.Within L := by exact .mono ‹_› ⟨by decide +kernel⟩) :
    Kept L r (stageRwf who off ws s) :=
  .ite h (.ite h.raise h.updStage.stageLoading)

@[irreducible] def Foot.logAccess : Foot := Foot.sequencerStep ||| .of [HI_ACCESS_LOG_BAR, HI_ACCESS_LOG_BYTE_EN,
    HI_ACCESS_LOG_KIND, HI_ACCESS_LOG_OFFSET, HI_COUNTS_WIDTH_ERRS] []

theorem Kept.logAccess {bar2 off be kind} (h : Kept L r s)
    (hl : Foot.logAccess.Within L := by exact .mono ‹_› ⟨by decide +kernel⟩) :
    Kept L r (logAccess bar2 off be kind s) :=
  h.wr.setb.wr.wr.incSat.raiseOnce

theorem Kept.holdLow {off v} (h : Kept L r s)
    (hl : (Foot.part .lowHalves).Within L := by exact .mono ‹_› ⟨by decide +kernel⟩) :
    Kept L r (holdLow off v s) :=
  h.updLowHalves

@[irreducible] def Foot.writeWhole : Foot := Foot.regWrite ||| Foot.stageRwf

theorem Kept.writeWhole {who off r' i j v} (h : Kept L r s) (hr : r' ∈ regTable)
    (hl : Foot.writeWhole.Within L := by exact .mono ‹_› ⟨by decide +kernel⟩) :
    Kept L r (writeWhole who off r' i j v s) :=
  (Kept.ite h.stageRwf h).regWrite hr

@[irreducible] def Foot.writeHigh : Foot := Foot.regWrite ||| Foot.stageRwf ||| Foot.part .lowHalves

theorem Kept.writeHigh {who off r' i j v} (h : Kept L r s) (hr : r' ∈ regTable)
    (hl : Foot.writeHigh.Within L := by exact .mono ‹_› ⟨by decide +kernel⟩) :
    Kept L r (writeHigh who off r' i j v s) :=
  h.holdLow.andThen fun h => (Kept.ite h.stageRwf h).regWrite hr

theorem Kept.writeWord {who off v t} (h : Kept L r s) (e : writeWord who off v s = some t)
    (hl : Foot.writeHigh.Within L := by exact .mono ‹_› ⟨by decide +kernel⟩) :
    Kept L r t := by
  unfold Machine.writeWord at e
  split at e
  · cases e
  next hr =>
  have hr := mem_of_regAt hr
  split at e
  · cases e
    exact h.writeWhole hr
  split at e
  · cases e
    exact .ite h.holdLow (h.writeHigh hr)
  · cases e
    exact h

theorem Kept.writePair {who off v} (h : Kept L r s)
    (hl : Foot.writeHigh.Within L := by exact .mono ‹_› ⟨by decide +kernel⟩) :
    Kept L r (writePair who off v s).2 := by
  unfold Machine.writePair
  have word {off v t} (k : Kept L r t) : Kept L r ((Machine.writeWord who off v t).getD t) := by
    cases e : Machine.writeWord who off v t with
    | none => exact k
    | some u => exact k.writeWord e
  split
  next e =>
    refine .ite_snd (h.holdLow.writeWhole (mem_of_regAt e)) ?_
    extract_lets s1
    have k1 : Kept L r s1 := word h
    split
    next e => exact k1.writeWord e
    · exact k1
  · exact h
  · split
    next e => exact h.writeWord e
    · exact h

@[irreducible] def Foot.busWrite : Foot := Foot.writeHigh ||| Foot.logAccess

theorem Kept.busWrite {who off n v} (h : Kept L r s)
    (hl : Foot.busWrite.Within L := by exact .mono ‹_› ⟨by decide +kernel⟩) :
    Kept L r (busWrite who off n v s).2 := by
  unfold Machine.busWrite
  extract_lets
  split
  next t e =>
  have k : Kept L r t := by
    split at e
    · exact .snd h.writePair e
    · split at e
      next e' =>
        cases e
        exact h.writeWord e'
      · cases e
        exact h
  exact .ite_snd k.logAccess (.ite_snd k k)

theorem Kept.latchHigh {off v} (h : Kept L r s)
    (hl : (Foot.part .latches).Within L := by exact .mono ‹_› ⟨by decide +kernel⟩) :
    Kept L r (latchHigh off v s) :=
  h.updLatches

theorem Kept.unlatch {off} (h : Kept L r s) (hl : (Foot.part .latches).Within L := by exact .mono ‹_› ⟨by decide +kernel⟩) :
    Kept L r (unlatch off s) :=
  h.updLatches

@[irreducible] def Foot.busRead : Foot := Foot.part .tick ||| Foot.part .latches

theorem Kept.busRead {off n} (h : Kept L r s) (hl : Foot.busRead.Within L := by exact .mono ‹_› ⟨by decide +kernel⟩) :
    Kept L r (busRead off n s).2 := by
  unfold Machine.busRead
  split
  · exact .ite_snd h h
  · exact (Kept.ite (h.after h.execFrameLogRead) h).andThen fun h =>
      .ite_snd (.ite_snd h h) (.ite_snd (.ite_snd (.ite_snd h h.latchHigh) h.latchHigh) (.ite h.unlatch h))

/-! The footprints of Machine/Endpoint. -/

theorem Kept.releaseMsix (h : Kept L r s) (hl : Foot.sendMsix.Within L := by exact .mono ‹_› ⟨by decide +kernel⟩) :
    Kept L r (releaseMsix s) :=
  h.foldl (fun _ _ h => .ite h h.updHst.sendMsix)

theorem Kept.configWrite {f v} (h : Kept L r s) (hl : Foot.sendMsix.Within L := by exact .mono ‹_› ⟨by decide +kernel⟩) :
    Kept L r (configWrite f v s) := by
  unfold Machine.configWrite
  extract_lets
  split
  · exact h.updHst.releaseMsix
  · exact h.updHst.releaseMsix
  · exact .ite h.updHst h
  · exact .ite h.updHst h
  · exact h.updHst
  · exact h.updHst
  · exact h.updHst
  · exact .ite h.updHst h
  · exact h
  · exact h
  · exact h
  · exact h
  · exact h

theorem Kept.writeMsix {v word x} (h : Kept L r s) (hl : Foot.sendMsix.Within L := by exact .mono ‹_› ⟨by decide +kernel⟩) :
    Kept L r (writeMsix v word x s) :=
  h.updHst.releaseMsix

/-! The footprints of Machine/Bus. -/

theorem Kept.hostBar0 {off be v} (h : Kept L r s) (hl : Foot.busWrite.Within L := by exact .mono ‹_› ⟨by decide +kernel⟩) :
    Kept L r (hostBar0 off be v s) := by
  unfold Machine.hostBar0
  extract_lets
  refine .ite h.logAccess ?_
  refine .ite ?_ h.busWrite
  split
  next s1 e2 =>
  have k1 : Kept L r s1 := .snd h.draw e2
  exact k1.logAccess

@[irreducible] def Foot.hostBar2 : Foot := Foot.logAccess ||| Foot.execCommandDoorbell ||| Foot.execCompletionDoorbell |||
    Foot.execEventDoorbell ||| Foot.sendMsix

theorem Kept.hostBar2 {off be v} (h : Kept L r s) (hl : Foot.hostBar2.Within L := by exact .mono ‹_› ⟨by decide +kernel⟩) :
    Kept L r (hostBar2 off be v s) := by
  exact .ite h.logAccess (.ite (h.writeMsix.andThen fun h => .ite h.writeMsix h) (.ite h (.ite
    (.ite h.logAccess (.ite (h.after h.execCommandDoorbell) (h.after h.execCompletionDoorbell)))
    (.ite (.ite h.logAccess (h.after h.execEventDoorbell)) h.logAccess))))

@[irreducible] def Foot.hostWrite : Foot := Foot.busWrite ||| Foot.hostBar2

theorem Kept.hostWrite {space off be v} (h : Kept L r s)
    (hl : Foot.hostWrite.Within L := by exact .mono ‹_› ⟨by decide +kernel⟩) :
    Kept L r (hostWrite space off be v s) := by
  unfold Machine.hostWrite
  split
  · exact h.hostBar0
  · exact h.hostBar2
  · exact h.configWrite

theorem Kept.hostRead {bar2 off be} (h : Kept L r s) (hl : Foot.busRead.Within L := by exact .mono ‹_› ⟨by decide +kernel⟩) :
    Kept L r (hostRead bar2 off be s).2 :=
  .ite_snd h (.ite_snd h.busRead h)

theorem Kept.execRegisterWrite {bar2 off be v who} (h : Kept L r s)
    (hl : Foot.hostWrite.Within L := by exact .mono ‹_› ⟨by decide +kernel⟩) :
    KeptOut L r (execRegisterWrite bar2 off be v who s) :=
  .ite (.next h.hostWrite) (.ite (.next h) (.next (.ite h.busWrite h)))

theorem Kept.execPairLowRead {off wide debug} (h : Kept L r s)
    (hl : Foot.busRead.Within L := by exact .mono ‹_› ⟨by decide +kernel⟩) :
    KeptOut L r (execPairLowRead off wide debug s) := by
  unfold Machine.execPairLowRead
  split
  · exact .ite (.next h) (.next h.hostRead)
  · exact .next h

theorem Kept.execRwfWrite {off v who} (h : Kept L r s)
    (hl : Foot.busWrite.Within L := by exact .mono ‹_› ⟨by decide +kernel⟩) :
    KeptOut L r (execRwfWrite off v who s) := by
  unfold Machine.execRwfWrite
  split
  · exact .ite (.next (.ite h.hostBar0 h.busWrite)) (.next h)
  · exact .next h

/-! The footprints of Machine/DebugBus. -/

@[irreducible] def Foot.execDbgReg : Foot := Foot.busWrite ||| Foot.loadIr

theorem Kept.execDbgReg {dr} (h : Kept L r s) (hl : Foot.execDbgReg.Within L := by exact .mono ‹_› ⟨by decide +kernel⟩) :
    KeptOut L r (execDbgReg dr s) := by
  unfold Machine.execDbgReg
  extract_lets s1 _ _ s2 _ s3
  have k1 : Kept L r s1 := h.loadIr
  have k2 : Kept L r s2 := k1.captureDr
  refine .ite (.next k1.captureLifecycle) (.ite (.next k2.updDb) ?_)
  split
  next s4 e =>
  have k4 : Kept L r s4 := by
    split at e
    · split at e
      next e' =>
        cases e
        exact .snd k2.headLands.busWrite e'
    · cases e
      exact k2.headLands
  exact .next k4.updDb

/-! The footprints of Machine/FixChecks. -/

theorem Kept.setStanding {x} (h : Kept L r s) (hl : (Foot.part .noc).Within L := by exact .mono ‹_› ⟨by decide +kernel⟩) :
    Kept L r (setStanding x s) :=
  h.updNet

@[irreducible] def Foot.setFlow : Foot := .of [FLOW_CFG_CATCH, FLOW_CFG_KIND, FLOW_CFG_RESERVED] []

theorem Kept.setFlow {x} (h : Kept L r s) (hl : Foot.setFlow.Within L := by exact .mono ‹_› ⟨by decide +kernel⟩) :
    Kept L r (setFlow x s) :=
  h.wr.wr.wr

@[irreducible] def Foot.setAddress : Foot := .of [MS_STATUS_ADDR, MS_STATUS_ADDR_VALID] []

theorem Kept.setAddress {a} (h : Kept L r s) (hl : Foot.setAddress.Within L := by exact .mono ‹_› ⟨by decide +kernel⟩) :
    Kept L r (setAddress a s) :=
  h.wr.wr

theorem Kept.takeRwf (h : Kept L r s) (hr : ∀ w ∈ s.stage.rwf, w ∈ r.stage.rwf)
    (hl : Foot.staged.Within L := by exact .mono ‹_› ⟨by decide +kernel⟩) :
    Kept L r (takeRwf s) :=
  h.foldWrites fun w hm _ k => k.staged hl w (hr w hm)

theorem Kept.keySlotRefusal {live t} (h : Kept L r s) (e : keySlotRefusal s live = some t)
    (hl : Foot.refuse.Within L := by exact .mono ‹_› ⟨by decide +kernel⟩) :
    Kept L r t := by
  obtain ⟨e, -, rfl⟩ := Option.map_eq_some_iff.1 e
  exact h.refuse

@[irreducible] def Foot.reportFlaw : Foot := .of [INCONSISTENT_COUNT_FAILS, PF_ITEM_ITEM, PF_RESULT_CHECK_ID, PF_RESULT_CODE,
    PF_RESULT_DETAIL] []

theorem Kept.reportFlaw {f} (h : Kept L r s) (hl : Foot.reportFlaw.Within L := by exact .mono ‹_› ⟨by decide +kernel⟩) :
    Kept L r (reportFlaw f s) := by
  unfold Machine.reportFlaw
  split
  · exact h.wr.wr.wr.wr
  · exact h.wr.wr.wr.wr.incWrap

/-! The footprints of Machine/Fix. -/

@[irreducible] def Foot.hearthFix : Foot := .of [PF_FIX_TICK_T, PF_STATE_STATE] [.stage]

theorem Kept.hearthFix (h : Kept L r s) (hl : Foot.hearthFix.Within L := by exact .mono ‹_› ⟨by decide +kernel⟩) :
    Kept L r (hearthFix s) :=
  h.wr.wr.updStage

@[irreducible] def Foot.refuseProof : Foot := Foot.reportFlaw ||| Foot.decideOp ||| .of [PF_STATE_STATE, PROOF_TIME_CYCLES]
    [.stage]

theorem Kept.refuseProof {r' k since t} (h : Kept L r s) (ht : Kept L r t)
    (hl : Foot.refuseProof.Within L := by exact .mono ‹_› ⟨by decide +kernel⟩) :
    KeptOut L r (refuseProof r' k since s t) :=
  .ite (.next h) (.next ht.updStage.wr.wr.reportFlaw.decideOp.updOp)

@[irreducible] def Foot.execProofCheckDone : Foot := Foot.refuseProof ||| Foot.refuse ||| Foot.hearthFix

theorem Kept.execProofCheckDone {vccOk} (h : Kept L r s)
    (hl : Foot.execProofCheckDone.Within L := by exact .mono ‹_› ⟨by decide +kernel⟩) :
    KeptOut L r (execProofCheckDone vccOk s) := by
  unfold Machine.execProofCheckDone
  split
  · exact .next h
  · extract_lets s1 s2 s3
    have k1 : Kept L r s1 := h.updStage.wr
    have k3 : Kept L r s3 := k1.wr.wr.wr.wr.decideOp
    split
    next e => exact h.refuseProof (h.keySlotRefusal e)
    · split
      · exact .next k1.wr.reportFlaw.decideOp
      · exact .next (.ite k3.hearthFix k3)

theorem Kept.failFix {code result} (h : Kept L r s) (hl : Foot.execFix.Within L := by exact .mono ‹_› ⟨by decide +kernel⟩) :
    Kept L r (failFix code result s) := by
  unfold Machine.failFix
  extract_lets s1
  have k1 : Kept L r s1 := h.wr.wr.updStage
  split
  · exact h
  · exact k1.decideOp

@[irreducible] def Foot.execFinalCheck : Foot := Foot.abortFix ||| Foot.refuse ||| Foot.reportFlaw

theorem Kept.execFinalCheck (h : Kept L r s) (hl : Foot.execFinalCheck.Within L := by exact .mono ‹_› ⟨by decide +kernel⟩) :
    KeptOut L r (execFinalCheck s) := by
  unfold Machine.execFinalCheck
  extract_lets s1 _
  have k1 : Kept L r s1 := h.latchCancels.reachApply
  refine .ite (.next k1) ?_
  split
  next s2 e3 =>
    have k2 : Kept L r s2 := k1.keySlotRefusal e3
    exact .next k2.reportFlaw.failFix
  · split
    · exact .next k1.reportFlaw.failFix
    · exact .next k1.updStage

@[irreducible] def Foot.delayFix : Foot := Foot.noteFifo ||| Foot.part .ev ||| Foot.field CB_STATUS_DELAY_BROKEN.id

theorem Kept.delayFix {changed written n} (h : Kept L r s)
    (hl : Foot.delayFix.Within L := by exact .mono ‹_› ⟨by decide +kernel⟩) :
    Kept L r (delayFix changed written n s) := by
  unfold Machine.delayFix
  extract_lets s1 s2
  have k1 : Kept L r s1 := h.updCatch
  have k2 : Kept L r s2 := k1.setb
  refine .ite h ?_
  refine .ite ?_ k2
  split
  next s3 e4 =>
  have k3 : Kept L r s3 := .snd k2.mkRec e4
  exact k3.createRec

@[irreducible] def Foot.catchRingFix : Foot := Foot.part .catches ||| .of [CB_STATUS_CONFIG_BAD, CB_STATUS_RING_FULL,
    CM_RD_INDEX, CM_WR_INDEX] []

theorem Kept.catchRingFix {base lines n} (h : Kept L r s)
    (hl : Foot.catchRingFix.Within L := by exact .mono ‹_› ⟨by decide +kernel⟩) :
    Kept L r (catchRingFix base lines n s) :=
  .ite h h.wr.wr.wr.setb.updCatch

@[irreducible] def Foot.reportRingFix : Foot := .of [MS_REPORT_RD_INDEX, MS_REPORT_WR_INDEX] []

theorem Kept.reportRingFix {base lines} (h : Kept L r s)
    (hl : Foot.reportRingFix.Within L := by exact .mono ‹_› ⟨by decide +kernel⟩) :
    Kept L r (reportRingFix base lines s) :=
  .ite h h.wr.wr

@[irreducible] def Foot.applyRwf : Foot := Foot.noteJobs ||| Foot.catchRingFix ||| Foot.delayFix ||| Foot.noteFlow |||
    Foot.reportRingFix ||| Foot.staged ||| Foot.field RG_BIAS_TARGET.id

theorem Kept.applyRwf (h : Kept L r s) (hr : ∀ w ∈ s.stage.rwf, w ∈ r.stage.rwf)
    (hl : Foot.applyRwf.Within L := by exact .mono ‹_› ⟨by decide +kernel⟩) :
    Kept L r (applyRwf s) := by
  unfold Machine.applyRwf
  extract_lets old s1 s2 s3 s4 flows
  have k1 : Kept L r s1 := h.takeRwf hr
  have k2 : Kept L r s2 := k1.foldl fun _ _ k => k.delayFix.catchRingFix
  have k4 : Kept L r s4 := k2.reportRingFix.foldl fun _ _ k => k.wr
  exact .ite k4 (k4.foldl fun _ _ k => k.noteFlow.noteFlow).noteJobs

@[irreducible] def Foot.fixSchedule : Foot := .of [PERIOD_NOW_N, SCHED_BASE_BASE, SCHED_ID_NOW_SCHED_ID, SCHED_POS_CYCLE_LEN,
    SCHED_POS_INDEX] [.sched]

theorem Kept.fixSchedule {p} (h : Kept L r s) (hl : Foot.fixSchedule.Within L := by exact .mono ‹_› ⟨by decide +kernel⟩) :
    Kept L r (fixSchedule p s) := by
  unfold Machine.fixSchedule
  exact (h.updSched fun _ _ => swf_memWrBytes _ _ _ rfl).wr.wr.wr.wr.wr

@[irreducible] def Foot.fixLanes : Foot := Foot.applyLaneRole ||| Foot.linkDown ||| Foot.part .reels ||| Foot.part .catches

theorem Kept.fixLanes {g w0 w1} (h : Kept L r s) (hl : Foot.fixLanes.Within L := by exact .mono ‹_› ⟨by decide +kernel⟩) :
    Kept L r (fixLanes g w0 w1 s) :=
  (Kept.ite (h.foldl (fun _ _ h => h.linkDown)) h).andThen fun h => (Kept.ite h.updCatch.updReel h).applyLaneRole

theorem Kept.fixStanding {x} (h : Kept L r s) (hl : Foot.landingFreed.Within L := by exact .mono ‹_› ⟨by decide +kernel⟩) :
    Kept L r (fixStanding x s) :=
  h.setStanding.foldl (fun _ _ h => h.notePort)

theorem Kept.fixRegion {group x} (h : Kept L r s) (hl : Foot.startSwap.Within L := by exact .mono ‹_› ⟨by decide +kernel⟩) :
    Kept L r (fixRegion group x s) := by
  unfold Machine.fixRegion
  exact h.startSwap

@[irreducible] def Foot.unbindRanges : Foot := .of [RANGE_STATUS_KEY_ID, RANGE_STATUS_STATE] []

theorem Kept.unbindRanges {x} (h : Kept L r s) (hl : Foot.unbindRanges.Within L := by exact .mono ‹_› ⟨by decide +kernel⟩) :
    Kept L r (unbindRanges x s) :=
  .ite h (h.foldl (fun _ _ h => .ite h.wr.wr h))

@[irreducible] def Foot.bindRanges : Foot := .of [KEY_STATE_RANGES, KEY_STATE_STATE, RANGE_BASE_SECTOR, RANGE_ENTRY_ENTRY,
    RANGE_LIMIT_SECTOR, RANGE_LSN_LSN_BASE, RANGE_STATUS_KEY_ID, RANGE_STATUS_STATE] []

theorem Kept.bindRanges {x} (h : Kept L r s) (hl : Foot.bindRanges.Within L := by exact .mono ‹_› ⟨by decide +kernel⟩) :
    Kept L r (bindRanges x s) :=
  .ite h (h.foldl (fun _ _ h => h.wr.wr.wr.wr.wr.foldl (fun _ _ h => h.wr))).wr.wr

@[irreducible] def Foot.fixRoutes : Foot := Foot.refreshTimeSource ||| Foot.part .mesh ||| .of [MS_ROUTES_ROUTES_ID,
    MS_STATUS_STRATUM, MS_TIME_CFG_BACKUP, MS_TIME_CFG_ROOT, MS_TIME_CFG_UPLINK, ROUTE_LINK, ROUTE_SET_VC1] []

theorem Kept.fixRoutes {p} (h : Kept L r s) (hl : Foot.fixRoutes.Within L := by exact .mono ‹_› ⟨by decide +kernel⟩) :
    Kept L r (fixRoutes p s) :=
  (h.foldl (fun _ _ h => h.wr.wr)).wr.wr.wr.wr.wr.updMsh.andThen fun h => (Kept.ite h.wr (.ite h.wr h)).refreshTimeSource

@[irreducible] def Foot.fixClock : Foot := .of [CK_DOM_RAMP_STEP, CK_KINDLING_TRIM_REF, CK_SEL_WORD0, MON_NOMINAL_KHZ]
    [.stage]

theorem Kept.fixClock {d w0 w1} (h : Kept L r s) (hl : Foot.fixClock.Within L := by exact .mono ‹_› ⟨by decide +kernel⟩) :
    Kept L r (fixClock d w0 w1 s) :=
  h.wr.updStage.andThen fun h => .ite h.wr h.wr.wr

@[irreducible] def Foot.fixFirmware : Foot := Foot.part .boot ||| Foot.field FW_STATUS_STATE.id

theorem Kept.fixFirmware {w} (h : Kept L r s) (hl : Foot.fixFirmware.Within L := by exact .mono ‹_› ⟨by decide +kernel⟩) :
    Kept L r (fixFirmware w s) :=
  h.wr.updBt

@[irreducible] def Foot.fixLifecycle : Foot := Foot.emberWipe ||| Foot.clearLogs ||| .of [DB_STATUS_DEBUG_PERMITTED,
    INJ_PERMIT_PERMIT, LC_STATUS_FUSED_STATE, LC_STATUS_STATE, TP_MASK_MASK] []

theorem Kept.fixLifecycle {new} (h : Kept L r s)
    (hl : Foot.fixLifecycle.Within L := by exact .mono ‹_› ⟨by decide +kernel⟩) :
    Kept L r (fixLifecycle new s) :=
  h.wr.wr.setb.clrAll.clearLogs.emberWipe

@[irreducible] def Foot.fixRevoke : Foot := Foot.part .enc ||| .of [LIMIT_STATUS_REVOKED, SLOT_STATE_STATE] []

theorem Kept.fixRevoke {bitsBurnt} (h : Kept L r s)
    (hl : Foot.fixRevoke.Within L := by exact .mono ‹_› ⟨by decide +kernel⟩) :
    Kept L r (fixRevoke bitsBurnt s) :=
  h.wr.foldl (fun _ _ h => .ite h.wr.updEngine h)

@[irreducible] def Foot.fixLimited : Foot := Foot.fixLifecycle ||| Foot.fixRevoke ||| Foot.setAddress ||| .of
    [LIMIT_STATUS_ADDR_LOCKED, LIMIT_STATUS_ADDR_REWRITES, LIMIT_STATUS_ANTI_ROLLBACK, MS_STATUS_ADDR_LOCKED] [.stage]

theorem Kept.fixLimited {w} (h : Kept L r s) (hl : Foot.fixLimited.Within L := by exact .mono ‹_› ⟨by decide +kernel⟩) :
    Kept L r (fixLimited w s) := by
  unfold Machine.fixLimited
  extract_lets kind v old new entry tick s1
  have k1 : Kept L r s1 := h.updStage
  clear_value kind
  split
  · exact k1.fixLifecycle
  · exact k1.wr
  · exact (Kept.wr (.ite k1.incSat k1.wr)).setAddress
  · exact k1.fixRevoke

@[irreducible] def Foot.fixItem : Foot := Foot.fixLimited ||| Foot.fixLanes ||| Foot.fixRoutes ||| Foot.startSwap |||
    Foot.bindRanges ||| Foot.noteJobs ||| Foot.fixSchedule ||| Foot.fixClock ||| Foot.setFlow ||| Foot.noteFlow |||
    Foot.fixFirmware

theorem Kept.fixItem {items x} (h : Kept L r s) (hl : Foot.fixItem.Within L := by exact .mono ‹_› ⟨by decide +kernel⟩) :
    Kept L r (fixItem items s x) := by
  unfold Machine.fixItem
  extract_lets
  split
  · exact h.fixSchedule
  · exact h.fixLanes
  · exact h.fixStanding
  · exact h.setFlow.noteFlow.noteJobs
  · exact h.fixRegion
  · exact h.bindRanges
  · exact h.fixRoutes
  · exact h.fixClock
  · exact h.setAddress
  · exact h.fixFirmware
  · exact h.fixLimited
  · exact h

theorem Kept.recomputeFrameWords (h : Kept L r s)
    (hl : (Foot.field FRAME_WORDS_WORDS.id).Within L := by exact .mono ‹_› ⟨by decide +kernel⟩) :
    Kept L r (recomputeFrameWords s) :=
  h.foldl (fun _ _ h => h.wr)

@[irreducible] def Foot.applySet : Foot := Foot.fixItem ||| Foot.applyRwf ||| Foot.disarm ||| Foot.field FRAME_WORDS_WORDS.id

theorem Kept.applySet (h : Kept L r s) (hr : ∀ w ∈ s.stage.rwf, w ∈ r.stage.rwf)
    (hl : Foot.applySet.Within L := by exact .mono ‹_› ⟨by decide +kernel⟩) :
    Kept L r (applySet s) := by
  unfold Machine.applySet
  extract_lets items s1 s2 s3 s4 s5
  have k1 : Kept L r s1 := h.applyRwf hr
  have k3 : Kept L r s3 := (k1.foldl fun _ _ k => k.unbindRanges).foldl fun _ _ k => k.fixItem
  have k4 : Kept L r s4 := .ite k3.rerouteAll k3
  exact k4.setb.recomputeFrameWords.disarm

theorem Kept.openApply (h : Kept L r s) (hl : (Foot.part .tick).Within L := by exact .mono ‹_› ⟨by decide +kernel⟩) :
    Kept L r (openApply s) := by
  unfold Machine.openApply
  split
  · exact h
  · split
    · exact h
    · exact h.openWin

@[irreducible] def Foot.execFixApply : Foot := Foot.applySet ||| Foot.powerAbort ||| Foot.boundaryCheck ||| Foot.abortFix |||
    Foot.stageEmpty ||| Foot.part .tick

theorem Kept.execFixApply {a a'} (h : Kept L r s) (hr : ∀ w ∈ s.stage.rwf, w ∈ r.stage.rwf)
    (hl : Foot.execFixApply.Within L := by exact .mono ‹_› ⟨by decide +kernel⟩) :
    KeptOut L r (execFixApply a a' s) := by
  unfold Machine.execFixApply
  extract_lets s1 s2 _ _
  have k1 : Kept L r s1 := h.latchCancels
  have k2 : Kept L r s2 := k1.applySet fun w hw => hr w (latchCancels_rwf ▸ hw)
  refine .ite (.next k1) (.ite (.next k1.abortFix) (.ite (.next k1) ?_))
  split
  · exact .next k1
  · exact .next k2.stageEmpty.updStage.wr.wr.wr.decideOp.holdOp.openApply.powerWatch.boundaryCheck

@[irreducible] def Foot.execWindowClose : Foot := Foot.passTo ||| Foot.closeApply ||| Foot.serveRequest

theorem Kept.execWindowClose {k settled} (h : Kept L r s)
    (hl : Foot.execWindowClose.Within L := by exact .mono ‹_› ⟨by decide +kernel⟩) :
    KeptOut L r (execWindowClose k settled s) := by
  unfold Machine.execWindowClose
  split
  · exact .next h
  · extract_lets _ s1
    have k1 : Kept L r s1 := h.windowEnd
    split
    next s2 e3 =>
    have k2 : Kept L r s2 := .snd k1.endAction e3
    exact k2.judgeWindow.andThen fun h => .next (Kept.ite h.closeApply h).serveDdr

/-! The footprints of Machine/Noc. -/

theorem Kept.execFabricRequest {k p kind dst dstPort addr bytes data prio epoch sched tag} (h : Kept L r s)
    (hl : Foot.serveSlot.Within L := by exact .mono ‹_› ⟨by decide +kernel⟩) :
    KeptOut L r (execFabricRequest k p kind dst dstPort addr bytes data prio epoch sched tag s) := by
  unfold Machine.execFabricRequest
  extract_lets
  refine .ite (.next h) ?_
  split
  · exact .next h.completeXact
  · exact .ite (.next h.completeXact) (.next h.submit)

@[irreducible] def Foot.execNocSlotWindow : Foot := Foot.passTo ||| Foot.serveSlot ||| Foot.slotConflict ||| Foot.field
    FI_MISC_INJECT_INJ_SCH_CONFLICT.id

theorem Kept.execNocSlotWindow {k meets} (h : Kept L r s)
    (hl : Foot.execNocSlotWindow.Within L := by exact .mono ‹_› ⟨by decide +kernel⟩) :
    KeptOut L r (execNocSlotWindow k meets s) := by
  unfold Machine.execNocSlotWindow
  split
  · exact .next h
  · extract_lets s1 _ _ _ s2 s3
    have k1 : Kept L r s1 := h.windowStart
    have k2 : Kept L r s2 := k1.openWin
    have k3 : Kept L r s3 := k2.updNet.serveSlot
    split
    next s4 e5 =>
    have k4 : Kept L r s4 := .snd k3.takeInj e5
    exact .next (Kept.ite k4.slotConflict k4).meetsAt

@[irreducible] def Foot.execReserve : Foot := Foot.travel ||| Foot.answerReserve

theorem Kept.execReserve {q tag perr} (h : Kept L r s)
    (hl : Foot.execReserve.Within L := by exact .mono ‹_› ⟨by decide +kernel⟩) :
    KeptOut L r (execReserve q tag perr s) := by
  unfold Machine.execReserve
  split
  · exact .next h
  · refine .ite (.next h) ?_
    split
    next s1 e2 =>
    have k1 : Kept L r s1 := .snd h.travel e2
    exact .ite (.next k1.answerReserve) (.ite (.next k1.answerReserve) (.ite (.next k1.answerReserve) (.ite (.next
        k1.answerReserve) (.next k1.moveXact))))

theorem Kept.countWait {x} (h : Kept L r s) (hl : (Foot.part .noc).Within L := by exact .mono ‹_› ⟨by decide +kernel⟩) :
    Kept L r (countWait x s) := by
  unfold Machine.countWait
  exact h.updStat

@[irreducible] def Foot.execGrant : Foot := Foot.injectWith ||| Foot.travel

theorem Kept.execGrant {q tag perr} (h : Kept L r s)
    (hl : Foot.execGrant.Within L := by exact .mono ‹_› ⟨by decide +kernel⟩) :
    KeptOut L r (execGrant q tag perr s) := by
  unfold Machine.execGrant
  split
  · exact .next h
  · refine .ite (.next h) ?_
    split
    · split
      next s1 e2 =>
      have k1 : Kept L r s1 := .snd h.travel e2
      exact .ite (.next k1.sendPacket.landingFreed) (.ite (.next k1.countWait.inject.sendReserves) (.next
          k1.countWait.failXact))
    · exact .next h

theorem Kept.execReserveRetry {q tag} (h : Kept L r s)
    (hl : (Foot.part .noc).Within L := by exact .mono ‹_› ⟨by decide +kernel⟩) :
    KeptOut L r (execReserveRetry q tag s) := by
  unfold Machine.execReserveRetry
  split
  · exact .next h
  · exact .ite (.next h) (.next h.updXact.sendReserves)

theorem Kept.landPad {x} (h : Kept L r s) (hl : Foot.padServe.Within L := by exact .mono ‹_› ⟨by decide +kernel⟩) :
    Kept L r (landPad x s) :=
  h.updXact.padArrive

@[irreducible] def Foot.landRegister : Foot := Foot.busWrite ||| Foot.busRead

theorem Kept.landRegister {x} (h : Kept L r s) (hl : Foot.landRegister.Within L := by exact .mono ‹_› ⟨by decide +kernel⟩) :
    Kept L r (landRegister x s) := by
  unfold Machine.landRegister
  refine .ite h.answerNow ?_
  refine .ite ?_ ?_
  · split
    next s1 e2 =>
    have k1 : Kept L r s1 := .snd h.busRead e2
    exact k1.answerNow
  · split
    · exact h.answerNow
    · split
      next s3 e4 =>
      have k3 : Kept L r s3 := .snd h.busWrite e4
      exact k3.answerNow

@[irreducible] def Foot.landDispatcher : Foot := Foot.landJobs ||| Foot.doneMessage ||| Foot.registerWorker

theorem Kept.landDispatcher {x} (h : Kept L r s)
    (hl : Foot.landDispatcher.Within L := by exact .mono ‹_› ⟨by decide +kernel⟩) :
    Kept L r (landDispatcher x s) := by
  unfold Machine.landDispatcher
  extract_lets _ s2
  have k2 : Kept L r s2 := h.foldl (fun _ _ h => h.doneMessage)
  refine .ite h.answerNow ?_
  refine .ite h.updXact.serveDispatch ?_
  refine .ite k2.answerNow ?_
  refine .ite ?_ h.answerNow
  split
  next s3 e4 =>
  have k3 : Kept L r s3 := .snd h.registerWorker e4
  exact k3.answerNow

@[irreducible] def Foot.landRegion : Foot := Foot.landingFreed ||| Foot.sendBack ||| .of [RG_ROLE_MOVED_COUNT,
    SWAP_DISCARDED_RETURNED] []

theorem Kept.landRegion {k x} (h : Kept L r s) (hl : Foot.landRegion.Within L := by exact .mono ‹_› ⟨by decide +kernel⟩) :
    Kept L r (landRegion k x s) :=
  .ite (Kept.ite h.incSat h).incWrap.sendBack.landingFreed (.ite h.incWrap.sendBack.landingFreed h.updXact.landingFreed)

@[irreducible] def Foot.landTarget : Foot := Foot.landRegister ||| Foot.serveRequest ||| Foot.padServe |||
    Foot.landDispatcher ||| Foot.landRegion

theorem Kept.landTarget {x} (h : Kept L r s) (hl : Foot.landTarget.Within L := by exact .mono ‹_› ⟨by decide +kernel⟩) :
    Kept L r (landTarget x s) := by
  unfold Machine.landTarget
  split
  · exact h.landRegion
  · split
    · exact h.landDdr
    · exact .ite h.landPad (.ite h.landRegister (.ite h.landDispatcher (.ite (.ite h.answerNow h.engineSend.landingFreed)
        h.answerNow)))

@[irreducible] def Foot.landRequest : Foot := Foot.landTarget ||| Foot.serveSlot ||| Foot.travel

theorem Kept.landRequest {kind q tag perr susp} (h : Kept L r s)
    (hl : Foot.landRequest.Within L := by exact .mono ‹_› ⟨by decide +kernel⟩) :
    Kept L r (landRequest kind q tag perr susp s) := by
  unfold Machine.landRequest
  split
  · exact h
  · refine .ite h ?_
    split
    next s1 e2 =>
    have k1 : Kept L r s1 := .snd h.travel e2
    exact (Kept.ite k1 k1.suspend).updXact.headLands.andThen fun h => (Kept.ite h.answerNow h.landTarget).serveSlots

theorem Kept.execReadReq {q tag perr} (h : Kept L r s)
    (hl : Foot.landRequest.Within L := by exact .mono ‹_› ⟨by decide +kernel⟩) :
    KeptOut L r (execReadReq q tag perr s) :=
  .next h.landRequest

theorem Kept.execWriteReq {q tag perr susp} (h : Kept L r s)
    (hl : Foot.landRequest.Within L := by exact .mono ‹_› ⟨by decide +kernel⟩) :
    KeptOut L r (execWriteReq q tag perr susp s) :=
  .next h.landRequest

theorem Kept.answerOwner {x} (h : Kept L r s) (hl : Foot.workerLost.Within L := by exact .mono ‹_› ⟨by decide +kernel⟩) :
    Kept L r (answerOwner x s) := by
  unfold Machine.answerOwner
  split
  · exact .ite h.workerLost h
  · exact h

@[irreducible] def Foot.takeAnswer : Foot := Foot.workerLost ||| Foot.serveSlot ||| Foot.travel ||| Foot.countRequest |||
    Foot.field LINK_SUSPEND_CYCLES.id ||| Foot.field NR_COUNTS_C_LATE_RESP.id

theorem Kept.takeAnswer {x perr susp} (h : Kept L r s)
    (hl : Foot.takeAnswer.Within L := by exact .mono ‹_› ⟨by decide +kernel⟩) :
    Kept L r (takeAnswer x perr susp s) := by
  unfold Machine.takeAnswer
  split
  next s1 e2 =>
  have k1 : Kept L r s1 := .snd h.travel e2
  exact k1.suspend.andThen fun h => (Kept.ite h.incSat.endXact (.ite h.endXact
      h.countAnswer.completeXact.endXact.answerOwner)).serveSlots

theorem Kept.respond {kind q tag code data perr susp} (h : Kept L r s)
    (hl : Foot.takeAnswer.Within L := by exact .mono ‹_› ⟨by decide +kernel⟩) :
    Kept L r (respond kind q tag code data perr susp s) := by
  unfold Machine.respond
  split
  · exact h
  · refine .ite h ?_
    split
    · exact .ite h.takeAnswer h
    · exact .ite h.takeAnswer h
    · exact h

theorem Kept.execReadResp {q tag code data perr susp} (h : Kept L r s)
    (hl : Foot.takeAnswer.Within L := by exact .mono ‹_› ⟨by decide +kernel⟩) :
    KeptOut L r (execReadResp q tag code data perr susp s) :=
  .next h.respond

theorem Kept.execWriteResp {q tag code perr} (h : Kept L r s)
    (hl : Foot.takeAnswer.Within L := by exact .mono ‹_› ⟨by decide +kernel⟩) :
    KeptOut L r (execWriteResp q tag code perr s) :=
  .next h.respond

theorem Kept.execReturn {q tag perr susp} (h : Kept L r s)
    (hl : Foot.takeAnswer.Within L := by exact .mono ‹_› ⟨by decide +kernel⟩) :
    KeptOut L r (execReturn q tag perr susp s) := by
  unfold Machine.execReturn
  split
  · exact .next h
  · exact .ite (.next h.takeAnswer) (.next h)

@[irreducible] def Foot.execRevoke : Foot := Foot.travel ||| Foot.part .noc

theorem Kept.execRevoke {q holder} (h : Kept L r s)
    (hl : Foot.execRevoke.Within L := by exact .mono ‹_› ⟨by decide +kernel⟩) :
    KeptOut L r (execRevoke q holder s) :=
  .ite (.next h) (.next h.travel.updNet)

theorem Kept.execRelease {q holder} (h : Kept L r s)
    (hl : Foot.execRevoke.Within L := by exact .mono ‹_› ⟨by decide +kernel⟩) :
    KeptOut L r (execRelease q holder s) :=
  .ite (.next h) (.next h.travel.updNet)

theorem Kept.execNocTimeout {q tag} (h : Kept L r s) (hl : Foot.timeOut.Within L := by exact .mono ‹_› ⟨by decide +kernel⟩) :
    KeptOut L r (execNocTimeout q tag s) := by
  unfold Machine.execNocTimeout
  split
  · exact .next h
  · exact .ite (.next h.timeOut) (.next h)

@[irreducible] def Foot.execPriorityAging : Foot := Foot.part .noc ||| Foot.field NR_COUNTS_A_AGED.id

theorem Kept.execPriorityAging {r' q tag} (h : Kept L r s)
    (hl : Foot.execPriorityAging.Within L := by exact .mono ‹_› ⟨by decide +kernel⟩) :
    KeptOut L r (execPriorityAging r' q tag s) := by
  unfold Machine.execPriorityAging
  extract_lets
  split
  · exact .next h
  · split
    · exact .next h
    · exact .ite (.next h.updXact.incSat) (.next h)

theorem Kept.execPortDrained {q} (h : Kept L r s)
    (hl : Foot.powerAdvance.Within L := by exact .mono ‹_› ⟨by decide +kernel⟩) :
    KeptOut L r (execPortDrained q s) :=
  .next (.ite h.setPort.powerGo h)

theorem Kept.execStatSnap {q clear} (h : Kept L r s)
    (hl : (Foot.part .noc).Within L := by exact .mono ‹_› ⟨by decide +kernel⟩) :
    KeptOut L r (execStatSnap q clear s) :=
  .next h.writeStatCtrl

theorem Kept.execStatClear {q} (h : Kept L r s) (hl : (Foot.part .noc).Within L := by exact .mono ‹_› ⟨by decide +kernel⟩) :
    KeptOut L r (execStatClear q s) :=
  .next h.writeStatCtrl

theorem Kept.execNrClearCounts {r'} (h : Kept L r s)
    (hl : Foot.clearRouter.Within L := by exact .mono ‹_› ⟨by decide +kernel⟩) :
    KeptOut L r (execNrClearCounts r' s) :=
  .next h.clearRouter

@[irreducible] def Foot.taintHolding : Foot := Foot.taintNotice ||| Foot.part .ops

theorem Kept.taintHolding {n} (h : Kept L r s) (hl : Foot.taintHolding.Within L := by exact .mono ‹_› ⟨by decide +kernel⟩) :
    Kept L r (taintHolding n s) := by
  unfold Machine.taintHolding
  extract_lets
  split
  · exact h
  · exact .ite h h.updOp.taintNotice

@[irreducible] def Foot.alarmReel : Foot := Foot.lineFailed ||| Foot.taintHolding

theorem Kept.alarmReel {n tag} (h : Kept L r s) (hl : Foot.alarmReel.Within L := by exact .mono ‹_› ⟨by decide +kernel⟩) :
    Kept L r (alarmReel n tag s) := by
  unfold Machine.alarmReel
  extract_lets
  split
  · exact h
  · exact h.lineFailed.andThen fun h => .ite h.taintHolding h

@[irreducible] def Foot.execLateAlarm : Foot := Foot.cfgFail ||| Foot.alarmReel

theorem Kept.execLateAlarm (h : Kept L r s) (hl : Foot.execLateAlarm.Within L := by exact .mono ‹_› ⟨by decide +kernel⟩) :
    KeptOut L r (execLateAlarm s) := by
  unfold Machine.execLateAlarm
  split
  · exact .next h
  · extract_lets s1
    have k1 : Kept L r s1 := h.updEngine
    split
    · exact .next k1.alarmReel
    · refine .ite (.next k1.cfgFail) ?_
      split
      · exact .next k1.updRegion
      · exact .next k1

@[irreducible] def Foot.execRefusalAnswer : Foot := Foot.landingFreed ||| Foot.part .sp

theorem Kept.execRefusalAnswer {noc} (h : Kept L r s)
    (hl : Foot.execRefusalAnswer.Within L := by exact .mono ‹_› ⟨by decide +kernel⟩) :
    KeptOut L r (execRefusalAnswer noc s) := by
  unfold Machine.execRefusalAnswer
  refine .ite ?_ ?_
  · split
    · exact .ite (.next h.answerNow) (.next h)
    · exact .next h
  · split
    · exact .ite (.next h.updPad) (.next h)
    · exact .next h

/-! The footprints of Machine/Idle. -/

@[irreducible] def Foot.idleCycle : Foot := Foot.fabricCycle ||| Foot.serveRequest ||| Foot.padServe ||| Foot.passOffsets |||
    Foot.setLevel

theorem Kept.idleCycle (h : Kept L r s) (hl : Foot.idleCycle.Within L := by exact .mono ‹_› ⟨by decide +kernel⟩) :
    Kept L r (idleCycle s) :=
  (Kept.ite h.fabricCycle h).passCycle.serveDdr.padTick.noteLevels

end Sys2Proof

namespace Sys2Proof

open Machine Machine.F

set_option Elab.async false

/-- An outcome whose next state, if any, keeps within some footprint. -/
def Footed (r : State) (o : Out) : Prop := ∀ t, o = .next t → ∃ L, Kept L r t

theorem Footed.intro {L : Foot} {r : State} {o : Out} (h : KeptOut L r o) : Footed r o := fun t e => ⟨L, h t e⟩

/-- Every command keeps within the footprint of its own lemma. -/
theorem exec_footed (s : State) : (i : Instr) → Footed s (exec i s)
  | .registerWrite bar2 off be v who => show Footed s (execRegisterWrite bar2 off be v who s) from .intro
      (Kept.refl.execRegisterWrite .refl)
  | .pairLowRead off wide debug => show Footed s (execPairLowRead off wide debug s) from .intro (Kept.refl.execPairLowRead
      .refl)
  | .rwfWrite off v who => show Footed s (execRwfWrite off v who s) from .intro (Kept.refl.execRwfWrite .refl)
  | .tick => show Footed s (execTick s) from .intro (Kept.refl.execTick .refl)
  | .frameLogRead k debug => show Footed s (execFrameLogRead k debug s) from .intro (Kept.refl.execFrameLogRead .refl)
  | .reelFetchWindow k lines => show Footed s (execReelFetchWindow k lines s) from .intro (Kept.refl.execReelFetchWindow .refl)
  | .catchFlushWindow k lines => show Footed s (execCatchFlushWindow k lines s) from .intro (Kept.refl.execCatchFlushWindow
      .refl)
  | .nocSlotWindow k meets => show Footed s (execNocSlotWindow k meets s) from .intro (Kept.refl.execNocSlotWindow .refl)
  | .ddrRefreshWindow k waits delays => show Footed s (execDdrRefreshWindow k waits delays s) from .intro
      (Kept.refl.execDdrRefreshWindow .refl)
  | .ddrRfmSpareWindow k => show Footed s (execDdrRfmSpareWindow k s) from .intro (Kept.refl.execDdrRfmSpareWindow .refl)
  | .ddrScrubWindow k lines => show Footed s (execDdrScrubWindow k lines s) from .intro (Kept.refl.execDdrScrubWindow .refl)
  | .dispatchAdvanceWindow k => show Footed s (execDispatchAdvanceWindow k s) from .intro (Kept.refl.execDispatchAdvanceWindow
      .refl)
  | .ioDiagWindow k => show Footed s (execIoDiagWindow k s) from .intro (Kept.refl.execIoDiagWindow .refl)
  | .windowClose k settled => show Footed s (execWindowClose k settled s) from .intro (Kept.refl.execWindowClose .refl)
  | .syncMark width pos => show Footed s (execSyncMark width pos s) from .intro (Kept.refl.execSyncMark .refl)
  | .syncMarkMissed => show Footed s (execSyncMarkMissed s) from .intro (Kept.refl.execSyncMarkMissed .refl)
  | .alignArm v => show Footed s (execAlignArm v s) from .intro (Kept.refl.execAlignArm .refl)
  | .alignModeChange => show Footed s (execAlignModeChange s) from .intro (Kept.refl.execAlignModeChange .refl)
  | .proofLoad ring arg => show Footed s (execProofLoad ring arg s) from .intro (Kept.refl.execProofLoad .refl)
  | .proofLoadDone => show Footed s (execProofLoadDone s) from .intro (Kept.refl.execProofLoadDone .refl)
  | .proofCheck ring => show Footed s (execProofCheck ring s) from .intro (Kept.refl.execProofCheck .refl)
  | .proofCheckDone vccOk => show Footed s (execProofCheckDone vccOk s) from .intro (Kept.refl.execProofCheckDone .refl)
  | .fix ring arg => show Footed s (execFix ring arg s) from .intro (Kept.refl.execFix .refl)
  | .fixCancel ring => show Footed s (execFixCancel ring s) from .intro (Kept.refl.execFixCancel .refl)
  | .fixCancelLatch => show Footed s (execFixCancelLatch s) from .intro (Kept.refl.execFixCancelLatch .refl)
  | .proofDiscard ring => show Footed s (execProofDiscard ring s) from .intro (Kept.refl.execProofDiscard .refl)
  | .finalCheck => show Footed s (execFinalCheck s) from .intro (Kept.refl.execFinalCheck .refl)
  | .fixApply vcs mismatch => show Footed s (execFixApply vcs mismatch s) from .intro (Kept.refl.execFixApply (fun _ k => k)
      (a := ()) (a' := ()) .refl)
  | .fuseProgramDone => show Footed s (execFuseProgramDone s) from .intro (Kept.refl.execFuseProgramDone .refl)
  | .reelStart ring => show Footed s (execReelStart ring s) from .intro (Kept.refl.execReelStart .refl)
  | .reelAbort ring => show Footed s (execReelAbort ring s) from .intro (Kept.refl.execReelAbort .refl)
  | .reelAbortLatch n => show Footed s (execReelAbortLatch n s) from .intro (Kept.refl.execReelAbortLatch .refl)
  | .reelPrefetchStart n => show Footed s (execReelPrefetchStart n s) from .intro (Kept.refl.execReelPrefetchStart .refl)
  | .reelStartTick n inTime w0 => show Footed s (execReelStartTick n inTime w0 s) from .intro (Kept.refl.execReelStartTick
      (a := ()) .refl)
  | .reelNaturalCompletion n => show Footed s (execReelNaturalCompletion n s) from .intro (Kept.refl.execReelNaturalCompletion
      .refl)
  | .pad n => show Footed s (execPad n s) from .intro (Kept.refl.execPad .refl)
  | .literal n k => show Footed s (execLiteral n k s) from .intro (Kept.refl.execLiteral .refl)
  | .repeatVector n k => show Footed s (execRepeatVector n k s) from .intro (Kept.refl.execRepeatVector .refl)
  | .repeatBlock n => show Footed s (execRepeatBlock n s) from .intro (Kept.refl.execRepeatBlock .refl)
  | .dict n k => show Footed s (execDict n k s) from .intro (Kept.refl.execDict .refl)
  | .splice n k => show Footed s (execSplice n k s) from .intro (Kept.refl.execSplice .refl)
  | .stop n => show Footed s (execStop n s) from .intro (Kept.refl.execStop .refl)
  | .spliceWrite n valid v0 v1 => show Footed s (execSpliceWrite n valid v0 v1 s) from .intro (Kept.refl.execSpliceWrite .refl)
  | .reelUnderrun n => show Footed s (execReelUnderrun n s) from .intro (Kept.refl.execReelUnderrun .refl)
  | .substitutionStart n => show Footed s (execSubstitutionStart n s) from .intro (Kept.refl.execSubstitutionStart .refl)
  | .holdReached n => show Footed s (execHoldReached n s) from .intro (Kept.refl.execHoldReached .refl)
  | .reelHolding n => show Footed s (execReelHolding n s) from .intro (Kept.refl.execReelHolding .refl)
  | .reClearCounts n => show Footed s (execReClearCounts n s) from .intro (Kept.refl.execReClearCounts .refl)
  | .flushDict n => show Footed s (execFlushDict n s) from .intro (Kept.refl.execFlushDict .refl)
  | .responseWord n idx r word flip => show Footed s (execResponseWord n idx r word flip s) from .intro
      (Kept.refl.execResponseWord .refl)
  | .missingResponse n idx r control => show Footed s (execMissingResponse n idx r control s) from .intro
      (Kept.refl.execMissingResponse .refl)
  | .delayShadowCheck n upset bad => show Footed s (execDelayShadowCheck n upset bad s) from .intro
      (Kept.refl.execDelayShadowCheck .refl)
  | .recordToFlow n => show Footed s (execRecordToFlow n s) from .intro (Kept.refl.execRecordToFlow .refl)
  | .pendingSummaryRelease n => show Footed s (execPendingSummaryRelease n s) from .intro (Kept.refl.execPendingSummaryRelease
      .refl)
  | .burstEnd n => show Footed s (execBurstEnd n s) from .intro (Kept.refl.execBurstEnd .refl)
  | .cmRdWrite n v => show Footed s (execCmRdWrite n v s) from .intro (Kept.refl.execCmRdWrite .refl)
  | .strobeRelease n j => show Footed s (execStrobeRelease n j s) from .intro (Kept.refl.execStrobeRelease .refl)
  | .cbClearCounts n => show Footed s (execCbClearCounts n s) from .intro (Kept.refl.execCbClearCounts .refl)
  | .fabricReset k => show Footed s (execFabricReset k s) from .intro (Kept.refl.execFabricReset .refl)
  | .tempReading readings => show Footed s (execTempReading readings s) from .intro (Kept.refl.execTempReading .refl)
  | .biasFault k measured => show Footed s (execBiasFault k measured s) from .intro (Kept.refl.execBiasFault .refl)
  | .sliceStart k t entry => show Footed s (execSliceStart k t entry s) from .intro (Kept.refl.execSliceStart .refl)
  | .sliceStop k t => show Footed s (execSliceStop k t s) from .intro (Kept.refl.execSliceStop .refl)
  | .sliceContinue k t => show Footed s (execSliceContinue k t s) from .intro (Kept.refl.execSliceContinue .refl)
  | .sliceNop k t => show Footed s (execSliceNop k t s) from .intro (Kept.refl.execSliceNop .refl)
  | .mac k t => show Footed s (execMac k t s) from .intro (Kept.refl.execMac .refl)
  | .repeat_ k t => show Footed s (execRepeat k t s) from .intro (Kept.refl.execRepeat .refl)
  | .store k t => show Footed s (execStore k t s) from .intro (Kept.refl.execStore .refl)
  | .setp k t => show Footed s (execSetp k t s) from .intro (Kept.refl.execSetp .refl)
  | .halt k t => show Footed s (execHalt k t s) from .intro (Kept.refl.execHalt .refl)
  | .sliceMemAccess k t space write addr data => show Footed s (execSliceMemAccess k t space write addr data s) from .intro
      (Kept.refl.execSliceMemAccess .refl)
  | .sliceInputWord k t word => show Footed s (execSliceInputWord k t word s) from .intro (Kept.refl.execSliceInputWord .refl)
  | .sliceOutputTake k t => show Footed s (execSliceOutputTake k t s) from .intro (Kept.refl.execSliceOutputTake .refl)
  | .slClearCounts k t => show Footed s (execSlClearCounts k t s) from .intro (Kept.refl.execSlClearCounts .refl)
  | .configLoad ring => show Footed s (execConfigLoad ring s) from .intro (Kept.refl.execConfigLoad .refl)
  | .configHeader fail => show Footed s (execConfigHeader fail s) from .intro (Kept.refl.execConfigHeader .refl)
  | .configClearDone => show Footed s (execConfigClearDone s) from .intro (Kept.refl.execConfigClearDone .refl)
  | .configSegment fail => show Footed s (execConfigSegment fail s) from .intro (Kept.refl.execConfigSegment .refl)
  | .cfgNop => show Footed s (execCfgNop s) from .intro (Kept.refl.execCfgNop .refl)
  | .regionSelect => show Footed s (execRegionSelect s) from .intro (Kept.refl.execRegionSelect .refl)
  | .writeFrame => show Footed s (execWriteFrame s) from .intro (Kept.refl.execWriteFrame .refl)
  | .repeatFrame => show Footed s (execRepeatFrame s) from .intro (Kept.refl.execRepeatFrame .refl)
  | .check => show Footed s (execCheck s) from .intro (Kept.refl.execCheck .refl)
  | .fixAtTick => show Footed s (execFixAtTick s) from .intro (Kept.refl.execFixAtTick .refl)
  | .keyRoll => show Footed s (execKeyRoll s) from .intro (Kept.refl.execKeyRoll .refl)
  | .cfgEnd => show Footed s (execCfgEnd s) from .intro (Kept.refl.execCfgEnd .refl)
  | .frameCommit => show Footed s (execFrameCommit s) from .intro (Kept.refl.execFrameCommit .refl)
  | .configRelease lines words mismatch pins banks => show Footed s (execConfigRelease lines words mismatch pins banks s) from
      .intro (Kept.refl.execConfigRelease (a := ()) (a' := ()) .refl)
  | .configAbort => show Footed s (execConfigAbort s) from .intro (Kept.refl.execConfigAbort .refl)
  | .configAbortLatch => show Footed s (execConfigAbortLatch s) from .intro (Kept.refl.execConfigAbortLatch .refl)
  | .cfgClearCounts => show Footed s (execCfgClearCounts s) from .intro (Kept.refl.execCfgClearCounts .refl)
  | .swapDrained k => show Footed s (execSwapDrained k s) from .intro (Kept.refl.execSwapDrained .refl)
  | .swapDrainForced k => show Footed s (execSwapDrainForced k s) from .intro (Kept.refl.execSwapDrainForced .refl)
  | .swapLoadStart k => show Footed s (execSwapLoadStart k s) from .intro (Kept.refl.execSwapLoadStart .refl)
  | .swapOpen k lines words mismatch => show Footed s (execSwapOpen k lines words mismatch s) from .intro
      (Kept.refl.execSwapOpen (a := ()) (a' := ()) .refl)
  | .scrubStep => show Footed s (execScrubStep s) from .intro (Kept.refl.execScrubStep .refl)
  | .autoReloadStart k => show Footed s (execAutoReloadStart k s) from .intro (Kept.refl.execAutoReloadStart .refl)
  | .scrubClearCounts => show Footed s (execScrubClearCounts s) from .intro (Kept.refl.execScrubClearCounts .refl)
  | .fwWrite ring good version => show Footed s (execFwWrite ring good version s) from .intro (Kept.refl.execFwWrite .refl)
  | .fwCoreRestart c => show Footed s (execFwCoreRestart c s) from .intro (Kept.refl.execFwCoreRestart .refl)
  | .fwSelfCheck pass => show Footed s (execFwSelfCheck pass s) from .intro (Kept.refl.execFwSelfCheck .refl)
  | .fwCommitRetry => show Footed s (execFwCommitRetry s) from .intro (Kept.refl.execFwCommitRetry .refl)
  | .fabricRequest k p kind dst dstPort addr bytes data prio epoch sched tag => show Footed s (execFabricRequest k p kind dst
      dstPort addr bytes data prio epoch sched tag s) from .intro (Kept.refl.execFabricRequest .refl)
  | .reserve q tag perr => show Footed s (execReserve q tag perr s) from .intro (Kept.refl.execReserve .refl)
  | .grant q tag perr => show Footed s (execGrant q tag perr s) from .intro (Kept.refl.execGrant .refl)
  | .reserveRetry q tag => show Footed s (execReserveRetry q tag s) from .intro (Kept.refl.execReserveRetry .refl)
  | .readReq q tag perr => show Footed s (execReadReq q tag perr s) from .intro (Kept.refl.execReadReq .refl)
  | .writeReq q tag perr susp => show Footed s (execWriteReq q tag perr susp s) from .intro (Kept.refl.execWriteReq .refl)
  | .readResp q tag code data perr susp => show Footed s (execReadResp q tag code data perr susp s) from .intro
      (Kept.refl.execReadResp .refl)
  | .writeResp q tag code perr => show Footed s (execWriteResp q tag code perr s) from .intro (Kept.refl.execWriteResp .refl)
  | .return_ q tag perr susp => show Footed s (execReturn q tag perr susp s) from .intro (Kept.refl.execReturn .refl)
  | .revoke q holder => show Footed s (execRevoke q holder s) from .intro (Kept.refl.execRevoke .refl)
  | .release q holder => show Footed s (execRelease q holder s) from .intro (Kept.refl.execRelease .refl)
  | .nocTimeout q tag => show Footed s (execNocTimeout q tag s) from .intro (Kept.refl.execNocTimeout .refl)
  | .priorityAging r q tag => show Footed s (execPriorityAging r q tag s) from .intro (Kept.refl.execPriorityAging .refl)
  | .portDrained q => show Footed s (execPortDrained q s) from .intro (Kept.refl.execPortDrained .refl)
  | .statSnap q clear => show Footed s (execStatSnap q clear s) from .intro (Kept.refl.execStatSnap .refl)
  | .statClear q => show Footed s (execStatClear q s) from .intro (Kept.refl.execStatClear .refl)
  | .nrClearCounts r => show Footed s (execNrClearCounts r s) from .intro (Kept.refl.execNrClearCounts .refl)
  | .fallbackRefresh c rank sub => show Footed s (execFallbackRefresh c rank sub s) from .intro (Kept.refl.execFallbackRefresh
      .refl)
  | .mr4Read c doubled => show Footed s (execMr4Read c doubled s) from .intro (Kept.refl.execMr4Read .refl)
  | .writeBack c => show Footed s (execWriteBack c s) from .intro (Kept.refl.execWriteBack .refl)
  | .trainingPass c errs => show Footed s (execTrainingPass c errs s) from .intro (Kept.refl.execTrainingPass .refl)
  | .selfRefreshExitDone c => show Footed s (execSelfRefreshExitDone c s) from .intro (Kept.refl.execSelfRefreshExitDone .refl)
  | .trainRecord ring matched refusal applied repairs => show Footed s (execTrainRecord ring matched refusal applied repairs s)
      from .intro (Kept.refl.execTrainRecord (a := ()) .refl)
  | .ddrRepair ring noResource held => show Footed s (execDdrRepair ring noResource held s) from .intro
      (Kept.refl.execDdrRepair .refl)
  | .ddrRepairDone c => show Footed s (execDdrRepairDone c s) from .intro (Kept.refl.execDdrRepairDone .refl)
  | .dcClearCounts c => show Footed s (execDcClearCounts c s) from .intro (Kept.refl.execDcClearCounts .refl)
  | .dcClearLogs c => show Footed s (execDcClearLogs c s) from .intro (Kept.refl.execDcClearLogs .refl)
  | .lateAlarm => show Footed s (execLateAlarm s) from .intro (Kept.refl.execLateAlarm .refl)
  | .keyLoad ring => show Footed s (execKeyLoad ring s) from .intro (Kept.refl.execKeyLoad .refl)
  | .keyErase ring => show Footed s (execKeyErase ring s) from .intro (Kept.refl.execKeyErase .refl)
  | .keyRetire ring => show Footed s (execKeyRetire ring s) from .intro (Kept.refl.execKeyRetire .refl)
  | .keyOpComplete => show Footed s (execKeyOpComplete s) from .intro (Kept.refl.execKeyOpComplete .refl)
  | .refusalAnswer noc => show Footed s (execRefusalAnswer noc s) from .intro (Kept.refl.execRefusalAnswer .refl)
  | .rekeyWalkStart => show Footed s (execRekeyWalkStart s) from .intro (Kept.refl.execRekeyWalkStart .refl)
  | .rekeyLine => show Footed s (execRekeyLine s) from .intro (Kept.refl.execRekeyLine .refl)
  | .keyRetired => show Footed s (execKeyRetired s) from .intro (Kept.refl.execKeyRetired .refl)
  | .enClearCounts => show Footed s (execEnClearCounts s) from .intro (Kept.refl.execEnClearCounts .refl)
  | .laneTrained g idx => show Footed s (execLaneTrained g idx s) from .intro (Kept.refl.execLaneTrained .refl)
  | .laneTrainTimeout g => show Footed s (execLaneTrainTimeout g s) from .intro (Kept.refl.execLaneTrainTimeout .refl)
  | .alignMarkerReceived g idx spaced bip badTypes fill skew => show Footed s (execAlignMarkerReceived g idx spaced bip
      badTypes fill skew s) from .intro (Kept.refl.execAlignMarkerReceived .refl)
  | .alignMarkerMissed g idx => show Footed s (execAlignMarkerMissed g idx s) from .intro (Kept.refl.execAlignMarkerMissed
      .refl)
  | .laneLockLost g idx => show Footed s (execLaneLockLost g idx s) from .intro (Kept.refl.execLaneLockLost .refl)
  | .laneElasticSlip g idx overflow => show Footed s (execLaneElasticSlip g idx overflow s) from .intro
      (Kept.refl.execLaneElasticSlip .refl)
  | .prbsTxEn g idx on pattern => show Footed s (execPrbsTxEn g idx on pattern s) from .intro (Kept.refl.execPrbsTxEn .refl)
  | .prbsRxEn g idx on pattern => show Footed s (execPrbsRxEn g idx on pattern s) from .intro (Kept.refl.execPrbsRxEn .refl)
  | .eyeScanStart g idx v => show Footed s (execEyeScanStart g idx v s) from .intro (Kept.refl.execEyeScanStart .refl)
  | .eyeScanDone g idx errors => show Footed s (execEyeScanDone g idx errors s) from .intro (Kept.refl.execEyeScanDone .refl)
  | .lgClearCounts g => show Footed s (execLgClearCounts g s) from .intro (Kept.refl.execLgClearCounts .refl)
  | .meshPacketFrame l intact seq ack vc h0 h1 route payload host => show Footed s (execMeshPacketFrame l intact seq ack vc h0
      h1 route payload host s) from .intro (Kept.refl.execMeshPacketFrame .refl)
  | .ackBlock l intact ack free0 free1 => show Footed s (execAckBlock l intact ack free0 free1 s) from .intro
      (Kept.refl.execAckBlock .refl)
  | .helloFrame l intact ack w0 w1 w2 w3 => show Footed s (execHelloFrame l intact ack w0 w1 w2 w3 s) from .intro
      (Kept.refl.execHelloFrame (a := 0) .refl)
  | .helloSend l => show Footed s (execHelloSend l s) from .intro (Kept.refl.execHelloSend .refl)
  | .helloTimeout l => show Footed s (execHelloTimeout l s) from .intro (Kept.refl.execHelloTimeout .refl)
  | .setNotReadyTimeout l => show Footed s (execSetNotReadyTimeout l s) from .intro (Kept.refl.execSetNotReadyTimeout .refl)
  | .replayTimeout l => show Footed s (execReplayTimeout l s) from .intro (Kept.refl.execReplayTimeout .refl)
  | .quietFrame l intact ack => show Footed s (execQuietFrame l intact ack s) from .intro (Kept.refl.execQuietFrame .refl)
  | .timeFrameSend l => show Footed s (execTimeFrameSend l s) from .intro (Kept.refl.execTimeFrameSend .refl)
  | .timeFrame l intact ack w0 w1 w2 w3 frac => show Footed s (execTimeFrame l intact ack w0 w1 w2 w3 frac s) from .intro
      (Kept.refl.execTimeFrame .refl)
  | .timeFrameMissed => show Footed s (execTimeFrameMissed s) from .intro (Kept.refl.execTimeFrameMissed .refl)
  | .meshReportSend => show Footed s (execMeshReportSend s) from .intro (Kept.refl.execMeshReportSend .refl)
  | .meshReportPacket => show Footed s (execMeshReportPacket s) from .intro (Kept.refl.execMeshReportPacket .refl)
  | .meshDataRequest => show Footed s (execMeshDataRequest s) from .intro (Kept.refl.execMeshDataRequest .refl)
  | .meshDataResponse => show Footed s (execMeshDataResponse s) from .intro (Kept.refl.execMeshDataResponse .refl)
  | .meshHostPacket => show Footed s (execMeshHostPacket s) from .intro (Kept.refl.execMeshHostPacket .refl)
  | .lkQuiet l on => show Footed s (execLkQuiet l on s) from .intro (Kept.refl.execLkQuiet .refl)
  | .lkReset l => show Footed s (execLkReset l s) from .intro (Kept.refl.execLkReset .refl)
  | .msReportRdWrite v => show Footed s (execMsReportRdWrite v s) from .intro (Kept.refl.execMsReportRdWrite .refl)
  | .msClearCounts => show Footed s (execMsClearCounts s) from .intro (Kept.refl.execMsClearCounts .refl)
  | .commandDoorbell r p => show Footed s (execCommandDoorbell r p s) from .intro (Kept.refl.execCommandDoorbell .refl)
  | .completionDoorbell r v => show Footed s (execCompletionDoorbell r v s) from .intro (Kept.refl.execCompletionDoorbell .refl)
  | .eventDoorbell v => show Footed s (execEventDoorbell v s) from .intro (Kept.refl.execEventDoorbell .refl)
  | .descriptorConsume r fails => show Footed s (execDescriptorConsume r fails s) from .intro (Kept.refl.execDescriptorConsume
      .refl)
  | .outcomeLatch r idx => show Footed s (execOutcomeLatch r idx s) from .intro (Kept.refl.execOutcomeLatch .refl)
  | .completionWrite r fails => show Footed s (execCompletionWrite r fails s) from .intro (Kept.refl.execCompletionWrite .refl)
  | .msixTimer r => show Footed s (execMsixTimer r s) from .intro (Kept.refl.execMsixTimer .refl)
  | .eventRecordWrite => show Footed s (execEventRecordWrite s) from .intro (Kept.refl.execEventRecordWrite .refl)
  | .ringEnable r v => show Footed s (execRingEnable r v s) from .intro (Kept.refl.execRingEnable .refl)
  | .ringDisable r v => show Footed s (execRingDisable r v s) from .intro (Kept.refl.execRingDisable .refl)
  | .ringResume r v => show Footed s (execRingResume r v s) from .intro (Kept.refl.execRingResume .refl)
  | .eventRingEnable v => show Footed s (execEventRingEnable v s) from .intro (Kept.refl.execEventRingEnable .refl)
  | .hiClearCounts => show Footed s (execHiClearCounts s) from .intro (Kept.refl.execHiClearCounts .refl)
  | .linkResetCmd kind => show Footed s (execLinkReset kind s) from .intro (Kept.refl.execLinkReset .refl)
  | .d3hotEntry => show Footed s (execD3hotEntry s) from .intro (Kept.refl.execD3hotEntry .refl)
  | .proxyTimeout r idx => show Footed s (execProxyTimeout r idx s) from .intro (Kept.refl.execProxyTimeout .refl)
  | .nop r => show Footed s (execNop r s) from .intro (Kept.refl.execNop .refl)
  | .dmaMove r => show Footed s (execDmaMove r s) from .intro (Kept.refl.execDmaMove .refl)
  | .dmaMoveDone r idx failedAt => show Footed s (execDmaMoveDone r idx failedAt s) from .intro (Kept.refl.execDmaMoveDone
      .refl)
  | .debugRead r failedAt => show Footed s (execDebugRead r failedAt s) from .intro (Kept.refl.execDebugRead .refl)
  | .abortOp r => show Footed s (execAbort r s) from .intro (Kept.refl.execAbort .refl)
  | .hostAbortLatch moved => show Footed s (execHostAbortLatch moved s) from .intro (Kept.refl.execHostAbortLatch .refl)
  | .dispatchEnqueue ring => show Footed s (execDispatchEnqueue ring s) from .intro (Kept.refl.execDispatchEnqueue .refl)
  | .jobDispatch => show Footed s (execJobDispatch s) from .intro (Kept.refl.execJobDispatch .refl)
  | .doneMessage sid entry gen status result => show Footed s (execDoneMessage sid entry gen status result s) from .intro
      (Kept.refl.execDoneMessage .refl)
  | .dispatchJobTimeout slot => show Footed s (execDispatchJobTimeout slot s) from .intro (Kept.refl.execDispatchJobTimeout
      .refl)
  | .jobRelease slot => show Footed s (execJobRelease slot s) from .intro (Kept.refl.execJobRelease .refl)
  | .workerRegistration sid w w0 w1 w2 w3 => show Footed s (execWorkerRegistration sid w w0 w1 w2 w3 s) from .intro
      (Kept.refl.execWorkerRegistration .refl)
  | .dpClearCounts => show Footed s (execDpClearCounts s) from .intro (Kept.refl.execDpClearCounts .refl)
  | .slotProvision ring => show Footed s (execSlotProvision ring s) from .intro (Kept.refl.execSlotProvision .refl)
  | .watchdogKick c => show Footed s (execWatchdogKick c s) from .intro (Kept.refl.execWatchdogKick .refl)
  | .watchdogExpiry c => show Footed s (execWatchdogExpiry c s) from .intro (Kept.refl.execWatchdogExpiry .refl)
  | .coreRestartDone c => show Footed s (execCoreRestartDone c s) from .intro (Kept.refl.execCoreRestartDone .refl)
  | .scratchpadAccess cls sid addr n kind core0 data => show Footed s (execScratchpadAccess cls sid addr n kind core0 data s)
      from .intro (Kept.refl.execScratchpadAccess .refl)
  | .testStep fails => show Footed s (execTestStep fails s) from .intro (Kept.refl.execTestStep .refl)
  | .testStepEnd => show Footed s (execTestStepEnd s) from .intro (Kept.refl.execTestStepEnd .refl)
  | .emberWipeDone => show Footed s (execEmberWipeDone s) from .intro (Kept.refl.execEmberWipeDone .refl)
  | .spClearCounts => show Footed s (execSpClearCounts s) from .intro (Kept.refl.execSpClearCounts .refl)
  | .monitorWindow m count disagree => show Footed s (execMonitorWindow m count disagree s) from .intro
      (Kept.refl.execMonitorWindow .refl)
  | .monitorEdgeLoss m => show Footed s (execMonitorEdgeLoss m s) from .intro (Kept.refl.execMonitorEdgeLoss .refl)
  | .pllLockLoss d => show Footed s (execPllLockLoss d s) from .intro (Kept.refl.execPllLockLoss .refl)
  | .pllRelock d => show Footed s (execPllRelock d s) from .intro (Kept.refl.execPllRelock .refl)
  | .rampStep d => show Footed s (execRampStep d s) from .intro (Kept.refl.execRampStep .refl)
  | .rampEnd d => show Footed s (execRampEnd d s) from .intro (Kept.refl.execRampEnd .refl)
  | .trimWindow count => show Footed s (execTrimWindow count s) from .intro (Kept.refl.execTrimWindow .refl)
  | .ckClearCounts => show Footed s (execCkClearCounts s) from .intro (Kept.refl.execCkClearCounts .refl)
  | .powerRequest ring => show Footed s (execPowerRequest ring s) from .intro (Kept.refl.execPowerRequest .refl)
  | .powerCheck => show Footed s (execPowerCheck s) from .intro (Kept.refl.execPowerCheck .refl)
  | .biasSettledCmd k => show Footed s (execBiasSettled k s) from .intro (Kept.refl.execBiasSettled .refl)
  | .powerDrainTimeout => show Footed s (execPowerDrainTimeout s) from .intro (Kept.refl.execPowerDrainTimeout .refl)
  | .pwClearCounts => show Footed s (execPwClearCounts s) from .intro (Kept.refl.execPwClearCounts .refl)
  | .tamperSensorFire sensors => show Footed s (execTamperSensorFire sensors s) from .intro (Kept.refl.execTamperSensorFire
      .refl)
  | .tapReset => show Footed s (execTapReset s) from .intro (Kept.refl.execTapReset .refl)
  | .extest cells update => show Footed s (execExtest cells update s) from .intro (Kept.refl.execExtest .refl)
  | .samplePreload cells update => show Footed s (execSamplePreload cells update s) from .intro (Kept.refl.execSamplePreload
      .refl)
  | .extestPulse cells update => show Footed s (execExtestPulse cells update s) from .intro (Kept.refl.execExtestPulse .refl)
  | .extestTrain cells update => show Footed s (execExtestTrain cells update s) from .intro (Kept.refl.execExtestTrain .refl)
  | .clamp => show Footed s (execClamp s) from .intro (Kept.refl.execClamp .refl)
  | .highz => show Footed s (execHighz s) from .intro (Kept.refl.execHighz .refl)
  | .idcode => show Footed s (execIdcode s) from .intro (Kept.refl.execIdcode .refl)
  | .bypass op => show Footed s (execBypass op s) from .intro (Kept.refl.execBypass .refl)
  | .cfgIn start bytes => show Footed s (execCfgIn start bytes s) from .intro (Kept.refl.execCfgIn .refl)
  | .cfgStatus => show Footed s (execCfgStatus s) from .intro (Kept.refl.execCfgStatus .refl)
  | .dbgReg dr => show Footed s (execDbgReg dr s) from .intro (Kept.refl.execDbgReg .refl)
  | .dbgMem dr => show Footed s (execDbgMem dr s) from .intro (Kept.refl.execDbgMem .refl)
  | .dbgAttach dr => show Footed s (execDbgAttach dr s) from .intro (Kept.refl.execDbgAttach .refl)
  | .debugAccessDone mem => show Footed s (execDebugAccessDone mem s) from .intro (Kept.refl.execDebugAccessDone .refl)
  | .dbHalt => show Footed s (execDbHalt s) from .intro (Kept.refl.execDbHalt .refl)
  | .dbResume => show Footed s (execDbResume s) from .intro (Kept.refl.execDbResume .refl)
  | .dbStep => show Footed s (execDbStep s) from .intro (Kept.refl.execDbStep .refl)
  | .runControlLatch => show Footed s (execRunControlLatch s) from .intro (Kept.refl.execRunControlLatch .refl)
  | .haltedEntry => show Footed s (execHaltedEntry s) from .intro (Kept.refl.execHaltedEntry .refl)
  | .seqArm on => show Footed s (execSeqArm on s) from .intro (Kept.refl.execSeqArm .refl)
  | .dbClearCounts => show Footed s (execDbClearCounts s) from .intro (Kept.refl.execDbClearCounts .refl)
  | .daAttach k t => show Footed s (execDaAttach k t s) from .intro (Kept.refl.execDaAttach .refl)
  | .daDetach k t => show Footed s (execDaDetach k t s) from .intro (Kept.refl.execDaDetach .refl)
  | .daHalt k t => show Footed s (execDaHalt k t s) from .intro (Kept.refl.execDaHalt .refl)
  | .daStep k t => show Footed s (execDaStep k t s) from .intro (Kept.refl.execDaStep .refl)
  | .daRelease k t => show Footed s (execDaRelease k t s) from .intro (Kept.refl.execDaRelease .refl)
  | .daRead k t a => show Footed s (execDaRead k t a s) from .intro (Kept.refl.execDaRead .refl)
  | .daWrite k t a => show Footed s (execDaWrite k t a s) from .intro (Kept.refl.execDaWrite .refl)
  | .daAck code data => show Footed s (execDaAck code data s) from .intro (Kept.refl.execDaAck .refl)
  | .daTimeout => show Footed s (execDaTimeout s) from .intro (Kept.refl.execDaTimeout .refl)
  | .checkerTest n cmpFails dlyFails => show Footed s (execCheckerTest n cmpFails dlyFails s) from .intro
      (Kept.refl.execCheckerTest .refl)
  | .eaClearCounts => show Footed s (execEaClearCounts s) from .intro (Kept.refl.execEaClearCounts .refl)
  | .injDisagree n v => show Footed s (execInjDisagree n v s) from .intro (Kept.refl.execInjDisagree .refl)
  | .injDelay n v => show Footed s (execInjDelay n v s) from .intro (Kept.refl.execInjDelay .refl)
  | .injTemp n v => show Footed s (execInjTemp n v s) from .intro (Kept.refl.execInjTemp .refl)
  | .injBias n v => show Footed s (execInjBias n v s) from .intro (Kept.refl.execInjBias .refl)
  | .injBclk n v => show Footed s (execInjBclk n v s) from .intro (Kept.refl.execInjBclk .refl)
  | .injOpmem k t v => show Footed s (execInjOpmem k t v s) from .intro (Kept.refl.execInjOpmem .refl)
  | .injProg k t v => show Footed s (execInjProg k t v s) from .intro (Kept.refl.execInjProg .refl)
  | .injAuth v => show Footed s (execInjAuth v s) from .intro (Kept.refl.execInjAuth .refl)
  | .injCheck v => show Footed s (execInjCheck v s) from .intro (Kept.refl.execInjCheck .refl)
  | .injSingle v => show Footed s (execInjSingle v s) from .intro (Kept.refl.execInjSingle .refl)
  | .injDouble v => show Footed s (execInjDouble v s) from .intro (Kept.refl.execInjDouble .refl)
  | .injParity n v => show Footed s (execInjParity n v s) from .intro (Kept.refl.execInjParity .refl)
  | .nrInjTimeout n v => show Footed s (execNrInjTimeout n v s) from .intro (Kept.refl.execNrInjTimeout .refl)
  | .injCe n v => show Footed s (execInjCe n v s) from .intro (Kept.refl.execInjCe .refl)
  | .injUe n v => show Footed s (execInjUe n v s) from .intro (Kept.refl.execInjUe .refl)
  | .injRefmiss n v => show Footed s (execInjRefmiss n v s) from .intro (Kept.refl.execInjRefmiss .refl)
  | .injTag v => show Footed s (execInjTag v s) from .intro (Kept.refl.execInjTag .refl)
  | .injRefuse v => show Footed s (execInjRefuse v s) from .intro (Kept.refl.execInjRefuse .refl)
  | .injBip n v => show Footed s (execInjBip n v s) from .intro (Kept.refl.execInjBip .refl)
  | .injLock n v => show Footed s (execInjLock n v s) from .intro (Kept.refl.execInjLock .refl)
  | .injSlip n v => show Footed s (execInjSlip n v s) from .intro (Kept.refl.execInjSlip .refl)
  | .injCrc v => show Footed s (execInjCrc v s) from .intro (Kept.refl.execInjCrc .refl)
  | .injAckDrop v => show Footed s (execInjAckDrop v s) from .intro (Kept.refl.execInjAckDrop .refl)
  | .injTimeMiss v => show Footed s (execInjTimeMiss v s) from .intro (Kept.refl.execInjTimeMiss .refl)
  | .injFetch v => show Footed s (execInjFetch v s) from .intro (Kept.refl.execInjFetch .refl)
  | .injDoorbell v => show Footed s (execInjDoorbell v s) from .intro (Kept.refl.execInjDoorbell .refl)
  | .dpInjTimeout v => show Footed s (execDpInjTimeout v s) from .intro (Kept.refl.execDpInjTimeout .refl)
  | .injLost v => show Footed s (execInjLost v s) from .intro (Kept.refl.execInjLost .refl)
  | .injEcc1 v => show Footed s (execInjEcc1 v s) from .intro (Kept.refl.execInjEcc1 .refl)
  | .injEcc2 v => show Footed s (execInjEcc2 v s) from .intro (Kept.refl.execInjEcc2 .refl)
  | .injMarch v => show Footed s (execInjMarch v s) from .intro (Kept.refl.execInjMarch .refl)
  | .injLoss v => show Footed s (execInjLoss v s) from .intro (Kept.refl.execInjLoss .refl)
  | .injBand v => show Footed s (execInjBand v s) from .intro (Kept.refl.execInjBand .refl)
  | .injDrain v => show Footed s (execInjDrain v s) from .intro (Kept.refl.execInjDrain .refl)
  | .tpInjSensor v => show Footed s (execTpInjSensor v s) from .intro (Kept.refl.execTpInjSensor .refl)
  | .injOverrun v => show Footed s (execInjOverrun v s) from .intro (Kept.refl.execInjOverrun .refl)
  | .injSyncMiss v => show Footed s (execInjSyncMiss v s) from .intro (Kept.refl.execInjSyncMiss .refl)
  | .injUnderrun v => show Footed s (execInjUnderrun v s) from .intro (Kept.refl.execInjUnderrun .refl)
  | .injFormat v => show Footed s (execInjFormat v s) from .intro (Kept.refl.execInjFormat .refl)
  | .injSplice v => show Footed s (execInjSplice v s) from .intro (Kept.refl.execInjSplice .refl)
  | .injCmpCheck v => show Footed s (execInjCmpCheck v s) from .intro (Kept.refl.execInjCmpCheck .refl)
  | .injDlyCheck v => show Footed s (execInjDlyCheck v s) from .intro (Kept.refl.execInjDlyCheck .refl)
  | .injMonitor v => show Footed s (execInjMonitor v s) from .intro (Kept.refl.execInjMonitor .refl)
  | .fiInjSensor v => show Footed s (execFiInjSensor v s) from .intro (Kept.refl.execFiInjSensor .refl)
  | .injWatchdog v => show Footed s (execInjWatchdog v s) from .intro (Kept.refl.execInjWatchdog .refl)
  | .injSchConflict v => show Footed s (execInjSchConflict v s) from .intro (Kept.refl.execInjSchConflict .refl)
  | .injMr4 v => show Footed s (execInjMr4 v s) from .intro (Kept.refl.execInjMr4 .refl)
  | .injRfmFull v => show Footed s (execInjRfmFull v s) from .intro (Kept.refl.execInjRfmFull .refl)
  | .injDeskew v => show Footed s (execInjDeskew v s) from .intro (Kept.refl.execInjDeskew .refl)
  | .injTrainTimeout v => show Footed s (execInjTrainTimeout v s) from .intro (Kept.refl.execInjTrainTimeout .refl)
  | .injSlow v => show Footed s (execInjSlow v s) from .intro (Kept.refl.execInjSlow .refl)
  | .porAssert burnt => show Footed s (execPorAssert burnt s) from .intro (Kept.refl.execPorAssert .refl)
  | .porEnd bootsel => show Footed s (execPorEnd bootsel s) from .intro (Kept.refl.execPorEnd .refl)
  | .devrstN => show Footed s (execDevrstN s) from .intro (Kept.refl.execDevrstN .refl)
  | .deviceResetCmd v => show Footed s (execDeviceReset v s) from .intro (Kept.refl.execDeviceReset .refl)
  | .perstNRise => show Footed s (execPerstNRise s) from .intro (Kept.refl.execPerstNRise .refl)
  | .bootClock refclk code => show Footed s (execBootClock refclk code s) from .intro (Kept.refl.execBootClock .refl)
  | .bootDirectory readable => show Footed s (execBootDirectory readable s) from .intro (Kept.refl.execBootDirectory .refl)
  | .bootImage goodA goodB verA verB regions => show Footed s (execBootImage goodA goodB verA verB regions s) from .intro
      (Kept.refl.execBootImage .refl)
  | .bootMemory chans => show Footed s (execBootMemory chans s) from .intro (Kept.refl.execBootMemory .refl)
  | .bootKeys => show Footed s (execBootKeys s) from .intro (Kept.refl.execBootKeys .refl)
  | .bootFabric => show Footed s (execBootFabric s) from .intro (Kept.refl.execBootFabric .refl)
  | .bootService exp timeout => show Footed s (execBootService exp timeout s) from .intro (Kept.refl.execBootService .refl)
  | .bootWaitImage => show Footed s (execBootWaitImage s) from .intro (Kept.refl.execBootWaitImage .refl)
  | .bootWatchdog => show Footed s (execBootWatchdog s) from .intro (Kept.refl.execBootWatchdog .refl)
  | .vccoMeasure b mv => show Footed s (execVccoMeasure b mv s) from .intro (Kept.refl.execVccoMeasure .refl)
  | .contentionDetect b p sensed => show Footed s (execContentionDetect b p sensed s) from .intro
      (Kept.refl.execContentionDetect .refl)
  | .pinRetry b p => show Footed s (execPinRetry b p s) from .intro (Kept.refl.execPinRetry .refl)
  | .senseTest b pin flagged => show Footed s (execSenseTest b pin flagged s) from .intro (Kept.refl.execSenseTest .refl)
  | .strobeOpenCheck b p connected => show Footed s (execStrobeOpenCheck b p connected s) from .intro
      (Kept.refl.execStrobeOpenCheck .refl)
  | .bkClearCounts b => show Footed s (execBkClearCounts b s) from .intro (Kept.refl.execBkClearCounts .refl)
  | .blockLockAcquired g idx => show Footed s (execBlockLockAcquired g idx s) from .intro (Kept.refl.execBlockLockAcquired
      .refl)
  | .prbsCheckerSync g idx n e => show Footed s (execPrbsCheckerSync g idx n e s) from .intro (Kept.refl.execPrbsCheckerSync
      (a := ()) .refl)
  | .pcieLinkUp width speed => show Footed s (execPcieLinkUp width speed s) from .intro (Kept.refl.execPcieLinkUp .refl)
  | .ddrSelfRefreshEntered c => show Footed s (execDdrSelfRefreshEntered c s) from .intro (Kept.refl.execDdrSelfRefreshEntered
      .refl)
  | .failPortSnapshot n => show Footed s (execFailPortSnapshot n s) from .intro (Kept.refl.execFailPortSnapshot .refl)
  | .biasFaultCleared k measured => show Footed s (execBiasFaultCleared k measured s) from .intro
      (Kept.refl.execBiasFaultCleared .refl)
  | .linkSignalDetected l => show Footed s (execLinkSignalDetected l s) from .intro (Kept.refl.execLinkSignalDetected .refl)

end Sys2Proof

namespace Sys2Proof

open Machine Machine.F

set_option Elab.async false

/-- A step keeps within a footprint. -/
theorem step_footed {s t : State} (e : step s = .next t) : ∃ p L, Kept L (s.updPending fun _ => p) t := by
  unfold step at e
  split at e
  next h =>
    cases e
    have same : s.updPending (fun _ => []) = s := by rw [← h]; rfl
    refine ⟨[], Foot.idleCycle, ?_⟩
    rw [same]
    exact Kept.refl.idleCycle .refl
  next c rest _ =>
    obtain ⟨L, k⟩ := exec_footed _ c t e
    exact ⟨rest, L, k⟩

theorem tickWritesOk_iff {s : State} : tickWritesOk s = true ↔ ∀ w ∈ s.tickWrites, tickField w.fld = true :=
  List.all_eq_true

/-- Settles O3: each memory and the list of waiting writes of the reset state is evaluated. -/
theorem resetWellFormed : Obligations.ResetWellFormed :=
  ⟨by decide +kernel, by decide +kernel, rfl⟩

/-- Settles O4: every step keeps within a footprint, and what keeps within one keeps the memories canonical. -/
theorem stepKeepsMemories : Obligations.StepKeepsMemories := by
  intro s t h e
  obtain ⟨p, L, k⟩ := step_footed e
  exact k.memories h

/-- Settles O5: what keeps within a footprint lets no other write join those that wait. -/
theorem stepKeepsTickWrites : Obligations.StepKeepsTickWrites := by
  intro s t h e
  obtain ⟨p, L, k⟩ := step_footed e
  exact tickWritesOk_iff.2 fun w hw => (k.waiting w hw).elim (tickWritesOk_iff.1 h w) And.left

/-! From footprints to frames. -/

namespace Foot

theorem testBit_place {n i : Nat} : (1 <<< n).testBit i = true ↔ n = i := by
  simp [Nat.one_shiftLeft, Nat.testBit_two_pow]

theorem Within.testBit {n : Nat} {L : Foot} (h : Foot.Within (1 <<< n) L) : L.testBit n = true := by
  rw [← h.eq, Nat.testBit_or, testBit_place.2 rfl, Bool.true_or]

theorem testBit_of {fs : List Fld} {ps : List Part} {n : Nat} : (of fs ps).testBit n = true ↔
    (∃ f ∈ fs, 2 * f.id = n) ∨ ∃ p ∈ ps, 2 * p.ctorIdx + 1 = n := by
  unfold of field part
  induction fs with
  | cons f fs ih =>
    simp only [List.foldr_cons, Nat.testBit_or, Bool.or_eq_true, ih, testBit_place, List.mem_cons, exists_eq_or_imp, or_assoc]
  | nil =>
    induction ps with
    | nil => simp
    | cons p ps ih =>
      simp only [List.foldr_nil, List.not_mem_nil, false_and, exists_false, false_or] at ih ⊢
      simp only [List.foldr_cons, Nat.testBit_or, Bool.or_eq_true, ih, testBit_place, List.mem_cons, exists_eq_or_imp]

theorem ctorIdx_lt (p : Part) : p.ctorIdx < 50 := by cases p <;> decide

theorem ctorIdx_inj {p q : Part} (h : p.ctorIdx = q.ctorIdx) : p = q := by
  rw [← Part.ofNat_ctorIdx p, h, Part.ofNat_ctorIdx]

end Foot

/-- The places of a command's footprint, of the waiting writes and of the staged set. -/
def Instr.foot (c : Instr) : Foot := Foot.of c.writes c.changes ||| Foot.waiting ||| Foot.staged

/-- The places of two lists, the waiting writes and the staged set, as bits. -/
theorem Foot.Within.cases_framing {fs : List Fld} {ps : List Part} {n : Nat}
    (h : Foot.Within (1 <<< n) (Foot.of fs ps ||| Foot.waiting ||| Foot.staged)) :
    (∃ f ∈ fs, 2 * f.id = n) ∨ (∃ p ∈ ps, 2 * p.ctorIdx + 1 = n) ∨ n = 201 ∨ n = 203 := by
  have h := h.testBit
  simp only [Nat.testBit_or, Bool.or_eq_true, Foot.testBit_of, Foot.waiting, Foot.staged, Foot.testBit_place] at h
  rcases h with ((h | h) | h) | h
  exacts [.inl h, .inr (.inl h), .inr (.inr (.inl h.symm)), .inr (.inr (.inr h.symm))]

/-- What keeps within the places of two lists, the waiting writes and the staged set is framed by them. -/
theorem Kept.framed {fs : List Fld} {ps : List Part} {s t : State}
    (h : Kept (Foot.of fs ps ||| Foot.waiting ||| Foot.staged) s t) :
    Framed (fs ++ s.tickWrites.map (·.fld) ++ s.stage.rwf.map (·.fld)) ps s t := by
  refine ⟨fun g i j hg => h.fields g ?_ i j, fun p hp => h.parts p fun k => ?_⟩
  · simp only [List.mem_append, List.mem_map] at hg
    refine ⟨fun k => ?_, fun k => ?_, fun _ w hw => hg _ (.inl (.inr ⟨w, hw, rfl⟩)), fun _ w hw => hg _ (.inr ⟨w, hw, rfl⟩)⟩
    · rcases k.cases_framing with ⟨f, hf, e⟩ | ⟨p, _, e⟩ | e | e
      · exact hg f (.inl (.inl hf)) (by omega)
      all_goals omega
    · rcases k.cases_framing with ⟨f, _, e⟩ | ⟨p, _, e⟩ | e | e
      · omega
      · have := Foot.ctorIdx_lt p
        omega
      all_goals omega
  · have := Foot.ctorIdx_lt p
    rcases k.cases_framing with ⟨f, _, e⟩ | ⟨q, hq, e⟩ | e | e
    · omega
    · exact hp (Foot.ctorIdx_inj (show q.ctorIdx = p.ctorIdx by omega) ▸ hq)
    all_goals omega

/-- Settles O53: the footprints of the four commands lie within what they may change, the waiting writes and the staged
set. -/
theorem boundaryFrames : Obligations.BoundaryFrames := by
  intro c s t hc e
  have tick : Foot.execTick.Within Instr.tick.foot := ⟨by decide +kernel⟩
  have syncMark : Foot.syncMark.Within (Instr.syncMark 0 0).foot := ⟨by decide +kernel⟩
  have fixApply : Foot.execFixApply.Within (Instr.fixApply () ()).foot := ⟨by decide +kernel⟩
  have timeFrame : Foot.execTimeFrame.Within (Instr.timeFrame 0 .whole 0 0 0 0 0 0).foot := ⟨by decide +kernel⟩
  refine Kept.framed ?_
  cases c
  case tick => exact Kept.refl.execTick tick t e
  case syncMark => exact Kept.refl.execSyncMark syncMark t e
  case fixApply => exact Kept.refl.execFixApply (fun _ k => k) (a := ()) (a' := ()) fixApply t e
  case timeFrame => exact Kept.refl.execTimeFrame timeFrame t e
  all_goals cases hc

end Sys2Proof

namespace Sys2Proof

open Machine Machine.F

set_option Elab.async false

/-! What the resets keep (R13, R477, R485). -/

variable {s t : State} {cause bootsel : Nat}

/-- A register field that is kept holds its values over the reset of the others. -/
theorem sget_resetRegs {keep : List Fld} {f : Fld} (h : f ∈ keep) :
    sget [] (resetRegs keep s) f.id = sget [] s.regs f.id := by
  suffices go : ∀ (l : List Fld) r, (f ∈ l ∨ sget [] r f.id = sget [] s.regs f.id) →
      sget [] (l.foldl (fun r f => sput [] r f.id (sget [] s.regs f.id)) r) f.id = sget [] s.regs f.id from
    go keep _ (.inl h)
  intro l
  induction l with
  | nil => exact fun r h => h.resolve_left List.not_mem_nil
  | cons g l ih =>
    refine fun r h => ih _ ?_
    by_cases e : f.id = g.id
    · exact .inr (by rw [e, sget_sput_same])
    · rw [sget_sput_ne _ _ _ e]
      exact h.imp_left fun k => (List.mem_cons.1 k).resolve_left fun k => e (k ▸ rfl)

/-- The fields that a DEVICE reset keeps: those that show a fuse, the POR domain and the TAP's instruction. -/
def keptFields : List Fld := DB_STATUS_INSTRUCTION :: fuseFields ++ porFields

/-- The fields that a DEVICE reset writes, kept or not (R309, R387, R477, R485). -/
def deviceResetFields : List Fld :=
  [LC_STATUS_STATE, DB_STATUS_DEBUG_PERMITTED, MS_STATUS_ADDR, MS_STATUS_ADDR_VALID, SP_STATUS_EMBER_MODE, RS_STATUS_LAST_CAUSE,
    RS_STATUS_DEVICE_RESETS]

/-- What a DEVICE reset keeps beside the memories outside the device. -/
structure DeviceKept (s t : State) : Prop where
  records : t.records = s.records
  fuses : t.stage.fuses = s.stage.fuses
  boundary : t.dbg.boundary = s.dbg.boundary
  capture : t.dbg.capture = s.dbg.capture
  perst : t.boot.perst = s.boot.perst
  fields : ∀ f ∈ keptFields, (∀ g ∈ deviceResetFields, f.id ≠ g.id) → ∀ i j, t.rd f i j = s.rd f i j

theorem DeviceKept.refl : DeviceKept s s := ⟨rfl, rfl, rfl, rfl, rfl, fun _ _ _ _ _ => rfl⟩

theorem DeviceKept.wr {f : Fld} {v i j : Nat} (h : DeviceKept s t) (hf : f ∈ deviceResetFields := by decide) :
    DeviceKept s (t.wr f v i j) :=
  { h with fields := fun g hg k a b => (rd_wr_ne _ _ _ _ _ _ _ _ (k f hf)).trans (h.fields g hg k a b) }

theorem DeviceKept.ite {c : Prop} {_ : Decidable c} {u : State} (h : DeviceKept s t) (k : DeviceKept s u) :
    DeviceKept s (if c then t else u) := by
  split <;> assumption

theorem deviceReset_keeps : DeviceKept s (deviceReset cause s) := by
  unfold deviceReset
  extract_lets n d z t t1 t2
  have regs : t.regs = resetRegs keptFields s := by dsimp only [t, keptFields]
  have k : DeviceKept s t := ⟨rfl, rfl, rfl, rfl, rfl, fun f hf _ i j => by
    rw [State.rd, regs, sget_resetRegs hf, State.rd]⟩
  have k1 : DeviceKept s t1 := .ite k k.wr.wr
  have k2 : DeviceKept s t2 := .ite k1.wr k1
  exact k2.wr.wr.wr.wr

theorem porReset_perst : (porReset bootsel s).boot.perst = s.boot.perst := by
  simp only [porReset, wr_boot, deviceReset_keeps.perst, updRegs_boot, updDbg_boot, updSp_boot, updScratch_boot,
    updRecords_boot, updDramWhole_boot, updDramPoison_boot, updDramBad_boot, updDramTags_boot, updDram_boot]

theorem powerLoss_boot {burnt : Nat} : (powerLoss burnt s).boot = s.boot :=
  (Kept.refl.powerLoss .refl).parts .boot fun k => absurd k.eq (by decide +kernel)

/-- The memories outside the device and the queue: no reset changes them. -/
def outsideParts : List Part := [.hostMem, .flash, .pending]

theorem Kept.outside {L : Foot} (h : Kept L s t) (hL : ∀ p ∈ outsideParts, ¬(Foot.part p).Within L) :
    t.hostMem = s.hostMem ∧ t.flash = s.flash ∧ t.pending = s.pending :=
  ⟨h.parts .hostMem (hL _ (by decide)), h.parts .flash (hL _ (by decide)), h.parts .pending (hL _ (by decide))⟩

/-- The POR domain and the fuses are kept, but for what the reset writes. -/
theorem DeviceKept.rd {x : RegRow} {f : Fld} (h : DeviceKept s t) (hx : x ∈ regTable) (hf : f ∈ x.fields)
    (kept : f.dom = .por ∨ f.acc = .fuse)
    (other : f.id ∉ [LC_STATUS_STATE.id, DB_STATUS_DEBUG_PERMITTED.id, MS_STATUS_ADDR.id, MS_STATUS_ADDR_VALID.id,
      RS_STATUS_LAST_CAUSE.id, RS_STATUS_DEVICE_RESETS.id]) (i j : Nat) : t.rd f i j = s.rd f i j := by
  have mem : f ∈ (regTable.map (·.fields)).flatten := List.mem_flatten.2 ⟨_, List.mem_map.2 ⟨x, hx, rfl⟩, hf⟩
  have device : ∀ x ∈ regTable, ∀ f ∈ x.fields, (f.dom = .por ∨ f.acc = .fuse) → f.id ≠ SP_STATUS_EMBER_MODE.id := by
    decide +kernel
  refine h.fields f ?_ ?_ i j
  · refine List.mem_append.2 ?_
    by_cases fuse : f.acc = .fuse
    · exact .inl (List.mem_cons_of_mem _ (List.mem_append_left _ (List.mem_filter.2 ⟨mem, by simp [fuse]⟩)))
    · exact .inr (List.mem_filter.2 ⟨mem, by simp [fuse, kept.resolve_right fuse]⟩)
  · simp only [List.mem_cons, List.not_mem_nil, or_false, not_or] at other
    obtain ⟨state, permitted, addr, valid, cause, resets⟩ := other
    simp only [deviceResetFields, List.forall_mem_cons]
    exact ⟨state, permitted, addr, valid, device x hx f hf kept, cause, resets, fun _ k => absurd k List.not_mem_nil⟩

/-- What each command of the DEVICE resets leaves. -/
theorem device_command_keeps {c : Instr} (hc : c.family = .reset) (hp : ∀ b, c ≠ .porAssert b) (hq : ∀ b, c ≠ .porEnd b)
    (e : exec c s = .next t) : DeviceKept s t := by
  cases c
  case porAssert b => exact absurd rfl (hp b)
  case porEnd b => exact absurd rfl (hq b)
  case devrstN =>
    cases e
    exact .ite .refl deviceReset_keeps
  case deviceResetCmd v =>
    cases e
    exact .ite deviceReset_keeps .refl
  case bootWatchdog =>
    change execBootWatchdog s = _ at e
    unfold execBootWatchdog at e
    split at e
    · rw [← Host.Outcome.next.inj e]
      exact .refl
    · rw [← Host.Outcome.next.inj e]
      exact deviceReset_keeps
  all_goals cases hc

/-- Every reset keeps what is outside the device. -/
theorem reset_kept {c : Instr} (hc : c.family = .reset) (e : exec c s = .next t) : Kept Foot.execPorAssert s t := by
  cases c
  case porAssert b => exact Kept.refl.execPorAssert .refl t e
  case porEnd b => exact Kept.refl.execPorEnd ⟨by decide +kernel⟩ t e
  case devrstN => exact Kept.refl.execDevrstN ⟨by decide +kernel⟩ t e
  case deviceResetCmd v => exact Kept.refl.execDeviceReset ⟨by decide +kernel⟩ t e
  case bootWatchdog => exact Kept.refl.execBootWatchdog ⟨by decide +kernel⟩ t e
  all_goals cases hc

theorem reset_perst {c : Instr} (hc : c.family = .reset) (e : exec c s = .next t) : t.boot.perst = s.boot.perst := by
  by_cases hp : ∃ b, c = .porAssert b
  · obtain ⟨b, rfl⟩ := hp
    have e : execPorAssert b s = .next t := e
    unfold execPorAssert at e
    rw [← Host.Outcome.next.inj e, updBt, updBoot_boot]
    simp only [porReset_perst, powerLoss_boot]
  by_cases hq : ∃ b, c = .porEnd b
  · obtain ⟨b, rfl⟩ := hq
    rw [← Host.Outcome.next.inj e]
    split
    exacts [porReset_perst, rfl]
  exact (device_command_keeps hc (fun b k => hp ⟨b, k⟩) (fun b k => hq ⟨b, k⟩) e).perst

/-- Settles O56: the footprint of each reset leaves out what is outside the device, and a DEVICE reset carries over the
registers that it keeps. -/
theorem resetsKeep : Obligations.ResetsKeep := by
  have outside : ∀ p ∈ outsideParts, ¬(Foot.part p).Within Foot.execPorAssert := by
    simp only [outsideParts, List.forall_mem_cons]
    exact ⟨fun k => absurd k.eq (by decide +kernel), fun k => absurd k.eq (by decide +kernel),
      fun k => absurd k.eq (by decide +kernel), fun _ k => absurd k List.not_mem_nil⟩
  constructor
  · intro c s t hc e
    obtain ⟨host, flash, pending⟩ := (reset_kept hc e).outside outside
    exact ⟨host, flash, pending, reset_perst hc e⟩
  · intro c s t hc hp hq e
    have k := device_command_keeps hc hp hq e
    exact ⟨k.records, k.fuses, k.boundary, k.capture, fun x hx f hf kept other i j => k.rd hx hf kept other i j⟩

end Sys2Proof

namespace Sys2Proof

open Machine Machine.F

set_option Elab.async false

/-! Two statements about accesses that fail, each with a state of its own. -/

/-- A low half is held at the offset of TICK_NOW, a 64-bit register that is read only. -/
def heldAtReadOnly : State := holdLow 0x100000 (some 7) (State.reset.setb HI_STATUS_READY true)

/-- The row of the map at an offset's register. -/
def readOnlyRow : RegRow := ((regAt 0x100000).map (·.1)).getD ⟨0, [], [], 0, []⟩

/-- A write of the high half of a read-only register does nothing, so the low half stays held (writeWord). -/
theorem high_half_of_readOnly_keeps_low :
    exec (.registerWrite .registers (0x100000 + 4) 0x0F 0 1) heldAtReadOnly = .next heldAtReadOnly := by
  rfl

/-- Refutes O40: the clause on the high half after its low half does not ask that the register take writes. The high half of
TICK_NOW is written where a low half is held at its offset (no write brings that about, and the clause does not ask for a
state that one has left): nothing happens, and the low half is still held. -/
theorem not_registerAccessResults : ¬ Obligations.RegisterAccessResults := by
  unfold Obligations.RegisterAccessResults
  rintro ⟨-, -, -, high, -⟩
  obtain ⟨t, e, held, -⟩ := high 0x100000 0 0 0 7 1 readOnlyRow TICK_NOW_TICK heldAtReadOnly (by decide) (by decide)
      (by decide +kernel)
    (by decide +kernel) (by decide +kernel) (by decide +kernel) (by decide +kernel) (by decide +kernel) (by decide +kernel)
    (by decide +kernel) (by decide +kernel)
  rw [high_half_of_readOnly_keeps_low] at e
  cases e
  revert held
  decide +kernel

/-- Slice 0 runs, attached to the debugger, and the armed sequencer stops it at the first discarded access. -/
def stopAtDiscard : State :=
  let s := (State.reset.wr EC_CFG_ENABLE 1).wr EC_CFG_EVENT_ID E.ACCESS_DISCARDED.id
  let s := ((s.wr DB_CTRL_SEQ_ARM 1).wr SQ_MASK_COMPARATORS (2 ^ 24)).wr SQ_CFG_ACT_STOP 1
  ((s.wr SL_STATUS_STATE 1).updSlices fun _ => [(0, { sinceMac := 0 })]).updDbg fun d => { d with attached := [(0, 0)] }

/-- Refutes O54: the pieces listed for a doorbell write leave out the slices, which an event changes where the sequencer
stops an attached one (R450, R457). A write of two bytes of a doorbell is discarded, its event is the sequencer's hit, and
slice 0, which ran, is halted. -/
theorem not_accessFrames : ¬ Obligations.AccessFrames := by
  unfold Obligations.AccessFrames
  rintro ⟨-, -, doorbell, -⟩
  have same := (doorbell 0 0 3 stopAtDiscard _ rfl).2 .slices (by decide)
  have halted : (sget {} (hostBar2 0 3 0 stopAtDiscard).slices 0).sinceMac = 3 := by decide +kernel
  have ran : (sget {} stopAtDiscard.slices 0).sinceMac = 0 := by decide +kernel
  change (hostBar2 0 3 0 stopAtDiscard).slices = stopAtDiscard.slices at same
  rw [same, ran] at halted
  cases halted

end Sys2Proof

namespace Sys2Proof

open Machine Machine.F

set_option Elab.async false

/-! What the commands of the family staging leave unchanged (R54, R57, R66, R336). -/

/-- The places of two lists, as bits. -/
theorem Foot.Within.cases_of {fs : List Fld} {ps : List Part} {n : Nat} (h : Foot.Within (1 <<< n) (Foot.of fs ps)) :
    (∃ f ∈ fs, 2 * f.id = n) ∨ ∃ p ∈ ps, 2 * p.ctorIdx + 1 = n :=
  Foot.testBit_of.1 h.testBit

/-- An odd place past those of the pieces is one of no field and of no piece. -/
theorem Foot.not_within_of {fs : List Fld} {ps : List Part} {n : Nat} (odd : n % 2 = 1) (high : 100 < n) :
    ¬Foot.Within (1 <<< n) (Foot.of fs ps) := fun h => by
  rcases h.cases_of with ⟨f, _, e⟩ | ⟨p, _, e⟩
  · omega
  · have := Foot.ctorIdx_lt p
    omega

/-- What keeps within the places of two lists alone is framed by them. -/
theorem Kept.framed_of {fs : List Fld} {ps : List Part} {s t : State} (h : Kept (Foot.of fs ps) s t) : Framed fs ps s t := by
  refine ⟨fun g i j hg => h.fields g ⟨fun k => ?_, Foot.not_within_of rfl (by decide),
    fun k => absurd k (Foot.not_within_of rfl (by decide)), fun k => absurd k (Foot.not_within_of rfl (by decide))⟩ i j,
    fun p hp => h.parts p fun k => ?_⟩
  · rcases k.cases_of with ⟨f, hf, e⟩ | ⟨p, _, e⟩
    · exact hg f hf (by omega)
    · omega
  · rcases k.cases_of with ⟨f, _, e⟩ | ⟨q, hq, e⟩
    · omega
    · exact hp (Foot.ctorIdx_inj (show q.ctorIdx = p.ctorIdx by omega) ▸ hq)

/-- The places that a command may change. -/
def Instr.places (c : Instr) : Foot := Foot.of c.writes c.changes

/-- Settles O43: the footprint of each command of the family lies within what it may change. -/
theorem stagingFrames : Obligations.StagingFrames := by
  intro c s t hc e
  refine Kept.framed_of ?_
  have pairLowRead : Foot.busRead.Within (Instr.pairLowRead 0 false false).places := ⟨by decide +kernel⟩
  have frameLogRead : (Foot.part .tick).Within (Instr.frameLogRead 0 false).places := ⟨by decide +kernel⟩
  have reelFetch : Foot.execReelFetchWindow.Within (Instr.reelFetchWindow 0 ⟨0, none, none, []⟩).places := ⟨by decide +kernel⟩
  have catchFlush : Foot.execCatchFlushWindow.Within (Instr.catchFlushWindow 0 ⟨0, none, none, []⟩).places := ⟨by decide +kernel⟩
  have nocSlot : Foot.execNocSlotWindow.Within (Instr.nocSlotWindow 0 []).places := ⟨by decide +kernel⟩
  have ddrRefresh : Foot.execDdrRefreshWindow.Within (Instr.ddrRefreshWindow 0 false []).places := ⟨by decide +kernel⟩
  have ddrRfmSpare : Foot.execDdrRfmSpareWindow.Within (Instr.ddrRfmSpareWindow ⟨0, 0⟩).places := ⟨by decide +kernel⟩
  have ddrScrub : Foot.execDdrScrubWindow.Within (Instr.ddrScrubWindow 0 0).places := ⟨by decide +kernel⟩
  have dispatchAdvance : Foot.execDispatchAdvanceWindow.Within (Instr.dispatchAdvanceWindow 0).places := ⟨by decide +kernel⟩
  have ioDiag : Foot.execIoDiagWindow.Within (Instr.ioDiagWindow 0).places := ⟨by decide +kernel⟩
  have windowClose : Foot.execWindowClose.Within (Instr.windowClose 0 false).places := ⟨by decide +kernel⟩
  have syncMarkMissed : Foot.execSyncMarkMissed.Within Instr.syncMarkMissed.places := ⟨by decide +kernel⟩
  have alignArm : Foot.execAlignArm.Within (Instr.alignArm 0).places := ⟨by decide +kernel⟩
  have alignModeChange : Foot.execAlignModeChange.Within Instr.alignModeChange.places := ⟨by decide +kernel⟩
  have proofLoad : Foot.execProofLoad.Within (Instr.proofLoad 0 0).places := ⟨by decide +kernel⟩
  have proofLoadDone : Foot.execProofLoadDone.Within Instr.proofLoadDone.places := ⟨by decide +kernel⟩
  have proofCheck : Foot.execProofCheck.Within (Instr.proofCheck 0).places := ⟨by decide +kernel⟩
  have proofCheckDone : Foot.execProofCheckDone.Within (Instr.proofCheckDone false).places := ⟨by decide +kernel⟩
  have fix : Foot.execFix.Within (Instr.fix 0 0).places := ⟨by decide +kernel⟩
  have fixCancel : Foot.releaseCancels.Within (Instr.fixCancel 0).places := ⟨by decide +kernel⟩
  have fixCancelLatch : Foot.abortFix.Within Instr.fixCancelLatch.places := ⟨by decide +kernel⟩
  have proofDiscard : Foot.execProofDiscard.Within (Instr.proofDiscard 0).places := ⟨by decide +kernel⟩
  have finalCheck : Foot.execFinalCheck.Within Instr.finalCheck.places := ⟨by decide +kernel⟩
  have fuseProgramDone : Foot.execFuseProgramDone.Within Instr.fuseProgramDone.places := ⟨by decide +kernel⟩
  cases c
  case pairLowRead => exact Kept.refl.execPairLowRead pairLowRead t e
  case frameLogRead => exact Kept.refl.execFrameLogRead frameLogRead t e
  case reelFetchWindow => exact Kept.refl.execReelFetchWindow reelFetch t e
  case catchFlushWindow => exact Kept.refl.execCatchFlushWindow catchFlush t e
  case nocSlotWindow => exact Kept.refl.execNocSlotWindow nocSlot t e
  case ddrRefreshWindow => exact Kept.refl.execDdrRefreshWindow ddrRefresh t e
  case ddrRfmSpareWindow => exact Kept.refl.execDdrRfmSpareWindow ddrRfmSpare t e
  case ddrScrubWindow => exact Kept.refl.execDdrScrubWindow ddrScrub t e
  case dispatchAdvanceWindow => exact Kept.refl.execDispatchAdvanceWindow dispatchAdvance t e
  case ioDiagWindow => exact Kept.refl.execIoDiagWindow ioDiag t e
  case windowClose => exact Kept.refl.execWindowClose windowClose t e
  case syncMarkMissed => exact Kept.refl.execSyncMarkMissed syncMarkMissed t e
  case alignArm => exact Kept.refl.execAlignArm alignArm t e
  case alignModeChange => exact Kept.refl.execAlignModeChange alignModeChange t e
  case proofLoad => exact Kept.refl.execProofLoad proofLoad t e
  case proofLoadDone => exact Kept.refl.execProofLoadDone proofLoadDone t e
  case proofCheck => exact Kept.refl.execProofCheck proofCheck t e
  case proofCheckDone => exact Kept.refl.execProofCheckDone proofCheckDone t e
  case fix => exact Kept.refl.execFix fix t e
  case fixCancel => exact Kept.refl.execFixCancel fixCancel t e
  case fixCancelLatch => exact Kept.refl.execFixCancelLatch fixCancelLatch t e
  case proofDiscard => exact Kept.refl.execProofDiscard proofDiscard t e
  case finalCheck => exact Kept.refl.execFinalCheck finalCheck t e
  case fuseProgramDone => exact Kept.refl.execFuseProgramDone fuseProgramDone t e
  all_goals cases hc

end Sys2Proof

namespace Sys2Proof

open Machine Machine.F

set_option Elab.async false

/-! What a footprint without a place keeps: the field or the piece of the state at that place. -/

/-- Footprints without a common place: of one, no place is within the other. -/
theorem Foot.not_within_of_land {n : Nat} {L M : Foot} (apart : L &&& M = 0) (hn : M.testBit n = true) :
    ¬Foot.Within (1 <<< n) L := fun h => by
  have both : (L &&& M).testBit n = true := by rw [Nat.testBit_and, h.testBit, hn]; rfl
  simp [apart] at both

namespace Kept

variable {L : Foot} {r s : State}

/-- A field is kept by a footprint that holds neither it nor a list of fields. -/
theorem rd_same (h : Kept L r s) {f : Fld} {i j : Nat}
    (apart : L &&& (Foot.field f.id ||| Foot.reset ||| Foot.waiting ||| Foot.staged) = 0 := by decide +kernel) :
    s.rd f i j = r.rd f i j := by
  have out {n : Nat} (hn : (Foot.field f.id ||| Foot.reset ||| Foot.waiting ||| Foot.staged).testBit n = true) :
      ¬Foot.Within (1 <<< n) L := Foot.not_within_of_land apart hn
  simp only [Nat.testBit_or, Bool.or_eq_true, Foot.field, Foot.reset, Foot.waiting, Foot.staged, Foot.testBit_place] at out
  exact h.fields f ⟨out (by simp), out (by simp), fun k => absurd k (out (by simp)), fun k => absurd k (out (by simp))⟩ i j

/-- Where only writes to fields that take effect at the tick wait for it, a field of another effect is kept also by a
footprint that takes the waiting writes. -/
theorem rd_same_of_tickWritesOk (h : Kept L r s) (ok : tickWritesOk r = true) {f : Fld} {i j : Nat}
    (apart : L &&& (Foot.field f.id ||| Foot.reset ||| Foot.staged) = 0 := by decide +kernel)
    (noTick : (regTable.all fun x => x.fields.all fun g => g.eff != .tick || g.id != f.id) = true := by decide +kernel) :
    s.rd f i j = r.rd f i j := by
  have out {n : Nat} (hn : (Foot.field f.id ||| Foot.reset ||| Foot.staged).testBit n = true) :
      ¬Foot.Within (1 <<< n) L := Foot.not_within_of_land apart hn
  simp only [Nat.testBit_or, Bool.or_eq_true, Foot.field, Foot.reset, Foot.staged, Foot.testBit_place] at out
  refine h.fields f ⟨out (by simp), out (by simp), fun _ w hw e => ?_, fun k => absurd k (out (by simp))⟩ i j
  obtain ⟨x, hx, hg⟩ := List.any_eq_true.1 (tickWritesOk_iff.1 ok w hw)
  obtain ⟨g, hg, same⟩ := List.any_eq_true.1 hg
  simp only [Bool.and_eq_true, beq_iff_eq] at same
  have := List.all_eq_true.1 (List.all_eq_true.1 noTick x hx) g hg
  simp [← same.1, same.2, e] at this

/-- The hidden state of the tick engine is kept by a footprint that does not hold it. -/
theorem tick_same (h : Kept L r s) (apart : L &&& Foot.part .tick = 0 := by decide +kernel) : s.tick = r.tick :=
  h.parts .tick (Foot.not_within_of_land apart (Foot.testBit_place.2 rfl))

theorem sched_same (h : Kept L r s) (apart : L &&& Foot.part .sched = 0 := by decide +kernel) : s.sched = r.sched :=
  h.parts .sched (Foot.not_within_of_land apart (Foot.testBit_place.2 rfl))

/-- Beside the writes that waited, only writes to fields that take effect at the tick wait. -/
theorem tickWritesOk (h : Kept L r s) (ok : tickWritesOk r = true) : Sys2Proof.tickWritesOk s = true :=
  tickWritesOk_iff.2 fun w hw => (h.waiting w hw).elim (tickWritesOk_iff.1 ok w) And.left

end Kept

/-! The core cycle that a frame began with (R27): the tick turns it over, and nothing that the tick does beside. -/

/-- Every place but the hidden state of the tick engine. -/
@[irreducible] def Foot.untimed : Foot := 2 ^ 4096 - 1 - Foot.part .tick

@[simp] theorem updTck_tick {f} {s : State} : (updTck f s).tick = f s.tick := rfl

@[simp] theorem updTck_rd {f} {s : State} {g : Fld} {i j : Nat} : (updTck f s).rd g i j = s.rd g i j := rfl

theorem Kept.untimed_base {r s : State} (h : Kept Foot.untimed r s) : s.tick.base = r.tick.base :=
  congrArg TickSt.base h.tick_same

section

variable {s : State}

theorem foldl_base {α : Type} {f : State → α → State} {l : List α} (hf : ∀ a t, (f t a).tick.base = t.tick.base) :
    (l.foldl f s).tick.base = s.tick.base :=
  List.foldlRecOn (motive := fun t : State => t.tick.base = s.tick.base) l f rfl fun t ih a _ => (hf a t).trans ih

@[simp] theorem comparatorHits_tick {hits} : (comparatorHits hits s).tick = s.tick :=
  (Kept.refl.comparatorHits .refl).tick_same

theorem noteUnaligned_tick {b} : ∃ x, (noteUnaligned b s).tick = { s.tick with unaligned := x } := by
  unfold noteUnaligned
  split
  · refine ⟨true, ?_⟩
    dsimp only
    split
    · rfl
    · rw [raiseInj_tick]
      rfl
  · exact ⟨s.tick.unaligned, rfl⟩

theorem setAlign_tick {st b} :
    ∃ x c m, (setAlign st b s).tick = { s.tick with unaligned := x, closeMarks := c, missRun := m } := by
  have hl : Foot.untimed.Within Foot.untimed := .refl
  unfold setAlign
  extract_lets s1 s2
  have k2 : Kept Foot.untimed s s2 := .ite Kept.refl.wr.wr Kept.refl.wr
  obtain ⟨x, e⟩ := noteUnaligned_tick (b := b)
    (s := updTck (fun t => { t with closeMarks := 0, missRun := if st = 3 then t.missRun else 0 }) s2)
  exact ⟨x, 0, _, by rw [e, updTck_tick, k2.tick_same]⟩

theorem noteUnaligned_base {b} : (noteUnaligned b s).tick.base = s.tick.base := by
  obtain ⟨x, e⟩ := noteUnaligned_tick (s := s) (b := b)
  rw [e]

theorem setAlign_base {st b} : (setAlign st b s).tick.base = s.tick.base := by
  obtain ⟨x, c, m, e⟩ := setAlign_tick (s := s) (st := st) (b := b)
  rw [e]

theorem flushOpen_base {n last perr other} : (flushOpen n last perr other s).tick.base = s.tick.base := by
  have hl : Foot.untimed.Within Foot.untimed := .refl
  unfold flushOpen
  split
  · rfl
  · split
    · rfl
    · split
      next s1 e =>
      have lines : Kept Foot.untimed s s1 := .snd₂ Kept.refl.flushLines e
      exact lines.flushTraffic.untimed_base

theorem endAction_base {w} : (endAction w s).2.tick.base = s.tick.base := by
  have hl : Foot.untimed.Within Foot.untimed := .refl
  unfold endAction closeFlush
  dsimp only
  split
  · split
    · exact flushOpen_base
    · rfl
  · split
    · exact Kept.refl.holdSlots.untimed_base
    · rfl

theorem judgeWindow_base {w} : (judgeWindow w s).tick.base = s.tick.base := by
  unfold judgeWindow
  extract_lets s1
  split
  next s2 e =>
  have hl : Foot.untimed.Within Foot.untimed := .refl
  have taken : Kept Foot.untimed s1 s2 := .snd Kept.refl.takeInj e
  split
  · exact taken.untimed_base
  · extract_lets s3 _ _ _ s4
    have k3 : Kept Foot.untimed s1 s3 := taken.incWrap
    have k4 : s4.tick.base = s3.tick.base := by
      unfold s4
      split
      · rw [comparatorHits_tick, updTck_tick]
        exact Kept.refl.countEvent.updEv.untimed_base
      · rfl
    rw [updTck_tick]
    exact k4.trans k3.untimed_base

theorem judgeAll_base : (judgeAll s).tick.base = s.tick.base :=
  foldl_base fun _ _ => judgeWindow_base.trans endAction_base

theorem degradeAlign_base : (degradeAlign s).tick.base = s.tick.base :=
  setAlign_base.trans judgeAll_base

theorem degradeClock_base {cause} : (degradeClock cause s).tick.base = s.tick.base := by
  have hl : Foot.untimed.Within Foot.untimed := .refl
  unfold degradeClock
  extract_lets s1 s2
  have k1 : Kept Foot.untimed s s1 := (Kept.ite Kept.refl.wr Kept.refl).dropSelected
  have k2 : Kept Foot.untimed s s2 := k1.wr.wr.raise
  split
  · exact k1.untimed_base
  · exact degradeAlign_base.trans k2.refreshAllLines.parkChannels.untimed_base

theorem startSwitch_base {d} : (startSwitch d s).tick.base = s.tick.base := by
  have hl : Foot.untimed.Within Foot.untimed := .refl
  unfold startSwitch
  extract_lets s1 s2 s3
  have k1 : Kept Foot.untimed s s1 := Kept.refl.updPll
  have k2 : Kept Foot.untimed s s2 := k1.updPll.setDomain
  have k3 : Kept Foot.untimed s s3 := k1.updPll.setDomain
  split
  · rfl
  · split
    · split
      · exact degradeClock_base.trans k2.untimed_base
      · exact k2.untimed_base
    · split
      · exact degradeClock_base.trans k3.untimed_base
      · exact k3.untimed_base
    · exact k1.updPll.setDomain.untimed_base
    · exact (Kept.ite k1.updPll k1.updPll.setDomain).untimed_base
    · exact k1.untimed_base

theorem closeApply_base : (closeApply s).tick.base = s.tick.base := by
  have hl : Foot.untimed.Within Foot.untimed := .refl
  unfold closeApply
  split
  · rfl
  · exact (foldl_base fun _ _ => startSwitch_base).trans Kept.refl.raise.incWrap.wr.updStage.releaseOp.untimed_base

theorem writeLog_base {tick word1} : (writeLog tick word1 s).tick.base = s.tick.base := by
  have hl : Foot.untimed.Within Foot.untimed := .refl
  unfold writeLog
  extract_lets k s1 s2
  have k1 : Kept Foot.untimed s s1 := .ite Kept.refl.incSat .refl
  have k2 : Kept Foot.untimed s s2 := k1.wr.incWrap
  rw [updTck_tick]
  exact k2.untimed_base

theorem closeFrame_base {ended} : (closeFrame ended s).tick.base = s.tick.base := by
  have hl : Foot.untimed.Within Foot.untimed := .refl
  unfold closeFrame
  extract_lets t s1 word s2 s3
  have k1 : Kept Foot.untimed s s1 := by
    unfold s1
    split
    · exact .refl
    · exact .ite .refl Kept.refl.pushRecord
  have k2 : s2.tick.base = s.tick.base := by
    unfold s2
    split
    · exact k1.untimed_base
    · exact writeLog_base.trans k1.untimed_base
  have k3 : Kept Foot.untimed s2 s3 := .ite Kept.refl.raise .refl
  exact k3.untimed_base.trans k2

theorem takeTickWrites_base : (takeTickWrites s).tick.base = s.tick.base := by
  have hl : Foot.untimed.Within Foot.untimed := .refl
  unfold takeTickWrites
  extract_lets modes s1 moved s2 s3
  have k3 : Kept Foot.untimed s1 s3 := Kept.refl.updClk.updTickWrites_filter.applyTickWrites
  have k1 : s1.tick.base = s.tick.base := by
    unfold s1
    rw [updTck_tick]
  exact (k3.foldl fun _ _ h => h.startWindow).untimed_base.trans k1

theorem releaseMissed_base : (releaseMissed s).tick.base = s.tick.base := by
  have hl : Foot.untimed.Within Foot.untimed := .refl
  unfold releaseMissed
  split
  · rfl
  · split
    · extract_lets s1
      have k1 : Kept Foot.untimed s s1 := Kept.refl.foldl fun _ _ h => h.advanceList
      rw [updTick_tick]
      exact k1.untimed_base
    · rfl

theorem dispTick_base {stalled} : (dispTick stalled s).tick.base = s.tick.base := by
  have hl : Foot.untimed.Within Foot.untimed := .refl
  unfold dispTick
  extract_lets s1 s2 s3
  have k1 : Kept Foot.untimed s s1 := .ite Kept.refl.incSat .refl
  have k3 : Kept Foot.untimed s s3 := .ite k1.updJobs k1.updJobs.incSat
  exact Kept.refl.advanceUnscheduled.noteJobs.serveDispatch.untimed_base.trans (releaseMissed_base.trans k3.untimed_base)

theorem unitTicks_base {ended cred cycles} : (unitTicks ended cred cycles s).tick.base = s.tick.base := by
  have hl : Foot.untimed.Within Foot.untimed := .refl
  unfold unitTicks
  extract_lets s1 s2 s3 s4 s5
  have k1 : Kept Foot.untimed s s1 := Kept.refl.foldl fun _ _ h => h.catchTick.reelTick
  have k2 : Kept Foot.untimed s s2 := k1.foldl fun _ _ h => h.ddrTick
  have k3 : s3.tick.base = s.tick.base := by
    unfold s3
    rw [dispTick_base, k2.nocTick.untimed_base]
  have k4 : Kept Foot.untimed s3 s4 := .ite Kept.refl.watchdogTick .refl
  have k5 : Kept Foot.untimed s3 s5 := k4.workerFrames.meshTick.ringTick.powerTick.ioTick
  exact k5.updEnc.padTick.untimed_base.trans k3

theorem fabricCycle_tick : (fabricCycle s).tick = { s.tick with fabric := s.tick.fabric + 1 } := by
  have hl : Foot.untimed.Within Foot.untimed := .refl
  unfold fabricCycle
  extract_lets live t1 t2
  have k1 : Kept Foot.untimed s t2 :=
    (Kept.refl.foldl fun _ _ h => h.updRegion).dropDone.foldl fun _ _ h => .ite h h.refreshStale
  rw [Kept.refl.rampsGo.tick_same (L := Foot.untimed), updTick_tick, k1.tick_same]

/-- What stands where the frame before tick number `tick` has given way, and the first frame of the tick begins. -/
structure AtTurn (tick cycles : Nat) (s u : State) : Prop where
  now : u.now = tick % 2 ^ 64
  offset : u.offset = 0
  index : u.rd SCHED_POS_INDEX = frameIndex s tick % 2 ^ 13
  base : u.tick.base = s.tick.base + cycles
  waiting : tickWritesOk s = true → tickWritesOk u = true

/-- What the frame that ends may change before the tick number moves. -/
@[irreducible] def Foot.frameEnd : Foot := Foot.closeApply ||| Foot.judgeAll ||| Foot.noteUnaligned ||| Foot.endUnstarted |||
    Foot.abortFix

/-- What the frame that begins may change once the tick number has moved. -/
@[irreducible] def Foot.frameStart : Foot := Foot.unitTicks ||| Foot.closeFrame ||| Foot.enterHalted |||
    Foot.takeTickWrites ||| Foot.burnValid ||| Foot.noteUnaligned ||| Foot.field PF_STATE_STATE.id

theorem frameIndex_kept {L : Foot} {r : State} {tick : Nat} (h : Kept L r s)
    (base : L &&& (Foot.field SCHED_BASE_BASE.id ||| Foot.reset ||| Foot.waiting ||| Foot.staged) = 0 := by decide +kernel)
    (len : L &&& (Foot.field SCHED_POS_CYCLE_LEN.id ||| Foot.reset ||| Foot.waiting ||| Foot.staged) = 0 := by decide +kernel) :
    frameIndex s tick = frameIndex r tick := by
  simp only [frameIndex, h.rd_same base, h.rd_same len]

theorem frameTurn_atTurn {tick cycles : Nat} :
    ∃ u, AtTurn tick cycles s u ∧ Kept Foot.frameStart u (frameTurn tick cycles s) ∧
      (frameTurn tick cycles s).tick.base = u.tick.base := by
  unfold frameTurn
  extract_lets ended cred s1 s2 s3 s4 u1 missed u2 u3 u4 v1 v2 v3 v4 v5 v6
  have hl : Foot.untimed.Within Foot.untimed := .refl
  have ended_kept : Kept Foot.frameEnd s s4 := by
    have hl : Foot.frameEnd.Within Foot.frameEnd := .refl
    have k1 : Kept Foot.frameEnd s s1 := Kept.refl.noteUnaligned.closeApply.judgeAll
    have k2 : Kept Foot.frameEnd s s2 := .ite k1.markFrame k1
    have k3 : Kept Foot.frameEnd s s3 := k2.updTck
    exact .ite k2 (Kept.ite k3.abortFix k3).missStart
  have ended_base : s4.tick.base = s.tick.base := by
    have b1 : s1.tick.base = s.tick.base := judgeAll_base.trans (closeApply_base.trans noteUnaligned_base)
    have b2 : s2.tick.base = s1.tick.base := by
      unfold s2
      split <;> rfl
    have b3 : s3.tick.base = s2.tick.base := by
      unfold s3
      rw [updTck_tick]
    have k4 : Kept Foot.untimed s3 (missStart ended ended (if fixPending s3 && s3.rd PF_FIX_TICK_T == ended then abortFix s3 else s3)) :=
      (Kept.ite Kept.refl.abortFix .refl).missStart
    unfold s4
    split
    · exact b2.trans b1
    · exact k4.untimed_base.trans (b3.trans (b2.trans b1))
  have start_kept : Kept Foot.frameStart u4 (comparatorHits (tickHits 0 v6) v6) := by
    have hl : Foot.frameStart.Within Foot.frameStart := .refl
    have k1 : Kept Foot.frameStart u4 v1 := Kept.refl.closeFrame.takeTickWrites
    have k2 : Kept Foot.frameStart u4 v2 := .ite k1 k1.noteUnaligned
    have k3 : Kept Foot.frameStart u4 v3 := .ite k2.enterHalted k2
    have k4 : Kept Foot.frameStart u4 v4 := k3.reachApply.burnValid
    have k5 : Kept Foot.frameStart u4 v5 := .ite k4 k4.updTck
    exact k5.unitTicks.comparatorHits
  have start_base : (comparatorHits (tickHits 0 v6) v6).tick.base = u4.tick.base := by
    have b1 : v1.tick.base = u4.tick.base := takeTickWrites_base.trans closeFrame_base
    have b2 : v2.tick.base = v1.tick.base := by
      unfold v2
      split
      · rfl
      · exact noteUnaligned_base
    have k4 : Kept Foot.untimed v2 v4 := (Kept.ite Kept.refl.enterHalted .refl).reachApply.burnValid
    have b5 : v5.tick.base = v4.tick.base := by
      unfold v5
      split
      · rfl
      · rw [updTck_tick]
    unfold v6
    rw [comparatorHits_tick, unitTicks_base, b5, k4.untimed_base, b2, b1]
  have moved {f : Fld} (hf : f.id ≠ SCHED_POS_INDEX.id) : u4.rd f = u1.rd f := by
    unfold u4 u3 u2
    rw [rd_updEv, rd_wr_ne _ _ _ _ _ _ _ _ hf, updTck_rd]
  refine ⟨u4, ⟨?_, ?_, ?_, ?_, ended_kept.tickWritesOk⟩, start_kept, start_base⟩
  · show u4.rd TICK_NOW_TICK = _
    rw [moved (by decide)]
    unfold u1
    rw [rd_wr_ne _ _ _ _ _ _ _ _ (by decide)]
    exact rd_wr_same ..
  · show u4.rd FRAME_OFFSET_OFFSET = _
    rw [moved (by decide)]
    exact rd_wr_same ..
  · have same : frameIndex u2 tick = frameIndex s4 tick := by
      unfold frameIndex u2 u1
      rw [updTck_rd, updTck_rd]
      rw [rd_wr_ne _ _ SCHED_BASE_BASE _ _ _ _ _ (by decide), rd_wr_ne _ _ SCHED_BASE_BASE _ _ _ _ _ (by decide),
        rd_wr_ne _ _ SCHED_POS_CYCLE_LEN _ _ _ _ _ (by decide), rd_wr_ne _ _ SCHED_POS_CYCLE_LEN _ _ _ _ _ (by decide)]
    unfold u4 u3
    rw [rd_updEv, rd_wr_same, same, frameIndex_kept ended_kept]
    rfl
  · show u2.tick.base = s.tick.base + cycles
    rw [← ended_base]
    unfold u2
    rw [updTck_tick]
    rfl

/-- The core cycles that pass in a frame change no more of the tick engine's hidden state than the fabric's count. -/
theorem passTo_tick {o : Nat} : ∃ n, (passTo o s).tick = { s.tick with fabric := n } := by
  have hl : Foot.untimed.Within Foot.untimed := .refl
  unfold passTo
  rw [Kept.refl.padTick.tick_same (L := Foot.untimed)]
  split
  · refine List.foldlRecOn (motive := fun t : State => ∃ n, t.tick = { s.tick with fabric := n }) _ _ ⟨_, rfl⟩ ?_
    rintro t ⟨n, ih⟩ _ _
    refine ⟨n + 1, ?_⟩
    rw [Kept.refl.advanceTo.tick_same (L := Foot.untimed), fabricCycle_tick, ih]
  · exact ⟨_, by rw [Kept.refl.advanceTo.tick_same (L := Foot.untimed), updTick_tick]⟩

theorem passTo_base {o : Nat} : (passTo o s).tick.base = s.tick.base := by
  obtain ⟨n, e⟩ := passTo_tick (s := s) (o := o)
  rw [e]

theorem nextTick_atTurn : ∃ u, AtTurn (s.now + 1) s.period s u ∧ Kept Foot.frameStart u (nextTick s) ∧
    (nextTick s).tick.base = u.tick.base := by
  have passed : Kept Foot.passTo s (fabricCycle (passTo (s.period - 1) s)) := by
    have hl : Foot.passTo.Within Foot.passTo := .refl
    exact Kept.refl.passTo.fabricCycle
  unfold nextTick
  extract_lets n u
  have now : u.now = s.now := passed.rd_same
  have base : u.tick.base = s.tick.base := by
    unfold u
    rw [fabricCycle_tick]
    exact passTo_base
  obtain ⟨v, atTurn, kept, same⟩ := frameTurn_atTurn (s := u) (tick := u.now + 1) (cycles := n)
  refine ⟨v, ⟨?_, atTurn.offset, ?_, ?_, fun ok => atTurn.waiting (passed.tickWritesOk ok)⟩, kept, same⟩
  · rw [atTurn.now, now]
  · rw [atTurn.index, now, frameIndex_kept passed]
  · rw [atTurn.base, base]

/-- What TICK does to the tick number, the offset, the frame index and the count of core cycles (R27, R33). -/
theorem nextTick_turns (ok : tickWritesOk s = true) : (nextTick s).now = (s.now + 1) % 2 ^ 64 ∧ (nextTick s).offset = 0 ∧
    (nextTick s).rd SCHED_POS_INDEX = frameIndex s (s.now + 1) % 2 ^ 13 ∧ (nextTick s).tick.base = s.tick.base + s.period := by
  obtain ⟨u, atTurn, kept, base⟩ := nextTick_atTurn (s := s)
  have ok := atTurn.waiting ok
  exact ⟨(kept.rd_same_of_tickWritesOk ok).trans atTurn.now, (kept.rd_same_of_tickWritesOk ok).trans atTurn.offset,
    (kept.rd_same_of_tickWritesOk ok).trans atTurn.index, base.trans atTurn.base⟩

theorem serveDdr_kept : Kept Foot.serveRequest s (serveDdr s) := Kept.refl.serveDdr .refl

end

/-- The frame index within a cycle of at least one frame (R33). -/
theorem frameIndex_of_pos {s : State} {t : Nat} (h : 1 ≤ s.rd SCHED_POS_CYCLE_LEN) :
    frameIndex s t = (t - s.rd SCHED_BASE_BASE) % s.rd SCHED_POS_CYCLE_LEN := by
  unfold frameIndex
  rw [show Nat.max 1 (s.rd SCHED_POS_CYCLE_LEN) = s.rd SCHED_POS_CYCLE_LEN from Nat.max_eq_right h]

/-- The entries of the current frame are those that the directory gives for its index (R32). -/
theorem currentSlot_eq {s : State} {k : Nat} : currentSlot s k = (frameSlots s.sched (frameIndex s s.now))[k]? := by
  simp only [currentSlot, frameSlots, List.getElem?_map]
  split <;> simp [*]

theorem bits_lt {v hi lo : Nat} : bits v hi lo < 2 ^ (hi + 1 - lo) := Nat.mod_lt _ (Nat.two_pow_pos _)

/-- What the fix of a schedule leaves in the registers of the schedule (R33, R67). -/
theorem fixSchedule_schedule {p : List Byte} {s : State} :
    (fixSchedule p s).sched = payMem p ∧ (fixSchedule p s).rd SCHED_BASE_BASE = s.now % 2 ^ 64 ∧
      (fixSchedule p s).rd SCHED_POS_CYCLE_LEN = bankCycle (payMem p) ∧ (fixSchedule p s).rd SCHED_POS_INDEX = 0 := by
  unfold fixSchedule
  extract_lets m s1
  have now : s1.now = s.now := by
    show s1.rd TICK_NOW_TICK = s.rd TICK_NOW_TICK
    unfold s1
    rw [rd_wr_ne _ _ _ _ _ _ _ _ (by decide), rd_wr_ne _ _ _ _ _ _ _ _ (by decide)]
    rfl
  refine ⟨rfl, ?_, ?_, ?_⟩
  · rw [rd_wr_same, now]
    rfl
  · rw [rd_wr_ne _ _ _ _ _ _ _ _ (by decide), rd_wr_ne _ _ _ _ _ _ _ _ (by decide), rd_wr_same]
    exact Nat.mod_eq_of_lt bits_lt
  · rw [rd_wr_ne _ _ _ _ _ _ _ _ (by decide), rd_wr_same]
    rfl

theorem exec_tick_of_running {s : State} (running : frozen s = false) : exec .tick s = .next (serveDdr (nextTick s)) := by
  show execTick s = _
  simp [execTick, running]

/-- Settles O58: TICK computes the index from the schedule in force, which it leaves as it is; the entries of a frame are
the directory's; and a fix of a schedule begins it at the present tick. -/
theorem frameIndexOfEveryTick : Obligations.FrameIndexOfEveryTick := by
  refine ⟨fun s ok running small len short => ?_, fun k s len => ?_, fun p s small => ?_⟩
  · have kept : Kept Foot.execTick s (serveDdr (nextTick s)) := Kept.refl.execTick .refl _ (exec_tick_of_running running)
    obtain ⟨now, -, index, -⟩ := nextTick_turns ok
    have now : (serveDdr (nextTick s)).now = s.now + 1 :=
      (serveDdr_kept.rd_same.trans now).trans (Nat.mod_eq_of_lt small)
    have base : (serveDdr (nextTick s)).rd SCHED_BASE_BASE = s.rd SCHED_BASE_BASE := kept.rd_same_of_tickWritesOk ok
    have cycle : (serveDdr (nextTick s)).rd SCHED_POS_CYCLE_LEN = s.rd SCHED_POS_CYCLE_LEN := kept.rd_same_of_tickWritesOk ok
    have fits : frameIndex s (s.now + 1) < 2 ^ 13 := by
      rw [frameIndex_of_pos len]
      exact (Nat.mod_lt _ len).trans_le (short.trans (by decide))
    refine ⟨_, exec_tick_of_running running, now, kept.sched_same, base, cycle, ?_⟩
    rw [now, base, cycle, ← frameIndex_of_pos len, ← Nat.mod_eq_of_lt fits, ← index]
    exact serveDdr_kept.rd_same
  · rw [currentSlot_eq, frameIndex_of_pos len]
  · obtain ⟨sched, base, cycle, index⟩ := fixSchedule_schedule (p := p) (s := s)
    have base : (fixSchedule p s).rd SCHED_BASE_BASE = s.now := base.trans (Nat.mod_eq_of_lt small)
    refine ⟨sched, base, cycle, index, ?_⟩
    rw [frameIndex, base, Nat.sub_self, Nat.zero_mod]

end Sys2Proof

namespace Sys2Proof

open Machine Machine.F

set_option Elab.async false

section

variable {s : State}

/-! The core cycles up to the START of a window (R34). -/

theorem advanceTo_offset {o : Nat} : (advanceTo o s).offset = o % 2 ^ 17 := rd_wr_same ..

theorem fabricCycle_offset : (fabricCycle s).offset = s.offset := (Kept.refl.fabricCycle .refl).rd_same

/-- Core cycle after core cycle passes: the fabric captures, and the offset goes up by one. -/
theorem foldl_cycles_offset (n : Nat) : s.offset + n < 2 ^ 17 →
    ((List.range n).foldl (fun t _ => advanceTo (t.offset + 1) (fabricCycle t)) s).offset = s.offset + n := by
  induction n with
  | zero => exact fun _ => rfl
  | succ n ih =>
    intro h
    rw [List.range_succ, List.foldl_append, List.foldl_cons, List.foldl_nil, advanceTo_offset, ih (by omega)]
    exact Nat.mod_eq_of_lt h

theorem passTo_offset {o : Nat} (h : s.offset < o) (ho : o < 2 ^ 17) : (passTo o s).offset = o := by
  unfold passTo
  rw [show ∀ u, (padTick u).offset = u.offset from fun u => (Kept.refl.padTick .refl).rd_same]
  split
  · rw [foldl_cycles_offset _ (by omega)]
    omega
  · rw [advanceTo_offset]
    exact Nat.mod_eq_of_lt ho

/-- Once a core cycle has passed, the offset is what the 17 bits of its field show. -/
theorem passTo_offset_lt {o : Nat} (h : s.offset < o) : (passTo o s).offset < 2 ^ 17 := by
  unfold passTo
  rw [show ∀ u, (padTick u).offset = u.offset from fun u => (Kept.refl.padTick .refl).rd_same]
  split
  · obtain ⟨n, hn⟩ : ∃ n, o - s.offset = n + 1 := ⟨o - s.offset - 1, by omega⟩
    rw [hn, List.range_succ, List.foldl_append, List.foldl_cons, List.foldl_nil, advanceTo_offset]
    exact Nat.mod_lt _ (by decide)
  · rw [advanceTo_offset]
    exact Nat.mod_lt _ (by decide)

theorem windowStart_offset {e : Slot} (h : s.offset ≤ e.start) (he : e.start < 2 ^ 17) : (windowStart e s).offset = e.start := by
  unfold windowStart
  split
  · exact passTo_offset ‹_› he
  · omega

theorem windowStart_tick {e : Slot} : ∃ n, (windowStart e s).tick = { s.tick with fabric := n } := by
  unfold windowStart
  split
  · exact passTo_tick
  · exact ⟨s.tick.fabric, rfl⟩

/-- What it takes for the window of an entry to open (R33, R34, R51). -/
theorem opening_eq_some {type k : Nat} {e : Slot} : opening s type k = some e ↔
    currentSlot s k = some e ∧ windowsOpen s = true ∧ e.type = type ∧ k ∉ s.tick.opened ∧ s.offset ≤ e.start := by
  unfold opening
  split
  next x hx =>
    simp only [hx, Option.some.injEq, Option.ite_none_right_eq_some, Bool.and_eq_true, beq_iff_eq, Bool.not_eq_true',
      decide_eq_true_eq, List.contains_eq_mem, decide_eq_false_iff_not]
    constructor
    · rintro ⟨⟨⟨⟨a, b⟩, c⟩, d⟩, rfl⟩
      exact ⟨rfl, a, b, c, d⟩
    · rintro ⟨rfl, a, b, c, d⟩
      exact ⟨⟨⟨⟨a, b⟩, c⟩, d⟩, rfl⟩
  next hx => simp [hx]

/-- START is a field of 17 bits (R34). -/
theorem start_lt {k : Nat} {e : Slot} (h : currentSlot s k = some e) : e.start < 2 ^ 17 := by
  rw [currentSlot_eq, frameSlots, List.getElem?_map, Option.map_eq_some_iff] at h
  obtain ⟨i, -, rfl⟩ := h
  exact bits_lt

/-- The core cycles up to START leave the window as ready to open as it was. -/
theorem opening_windowStart {type k : Nat} {e : Slot} (h : opening s type k = some e) :
    opening (windowStart e s) type k = some e := by
  obtain ⟨slot, isOpen, type, fresh, offset⟩ := opening_eq_some.1 h
  obtain ⟨n, tick⟩ := windowStart_tick (s := s) (e := e)
  have kept : Kept Foot.passTo s (windowStart e s) := Kept.refl.windowStart .refl
  refine opening_eq_some.2 ⟨?_, ?_, type, ?_, (windowStart_offset offset (start_lt slot)).le⟩
  · rw [currentSlot_eq, kept.sched_same, frameIndex_kept kept, show (windowStart e s).now = s.now from kept.rd_same,
      ← currentSlot_eq, slot]
  · simpa only [windowsOpen, credited, frozen, tick, kept.rd_same (f := ALIGN_STATUS_STATE),
      kept.rd_same (f := DB_STATUS_RC_STATE)] using isOpen
  · rwa [tick]

/-- A command whose effect depends on the state at the START of its window alone: it lets the core cycles up to START pass
first (log entry 2). -/
theorem starts_at_start {c : State → Out} {type k : Nat} {e : Slot} (h : opening s type k = some e)
    (hc : ∀ u, opening u type k = some e → windowStart e u = windowStart e s → c u = c s) :
    c s = c (windowStart e s) ∧ (windowStart e s).offset = e.start := by
  obtain ⟨slot, -, -, -, offset⟩ := opening_eq_some.1 h
  have start := windowStart_offset offset (start_lt slot)
  refine ⟨(hc _ (opening_windowStart h) ?_).symm, start⟩
  rw [windowStart, if_neg (by omega)]

variable {k : Nat} {e : Slot}

/-- With the entry known, a window command is its effect for that entry. It is stated for any two effects, so that a long one
is never evaluated. -/
theorem entry_match_congr {o o' : Option Slot} {e : Slot} {idle idle' : Unit → Out} {act act' : Slot → Out} (h : o = some e)
    (h' : o' = some e) (same : act e = act' e) :
    (match (generalizing := false) o with | none => idle () | some x => act x) =
      match (generalizing := false) o' with | none => idle' () | some x => act' x := by
  subst h h'
  exact same

theorem reelFetchWindow_starts {w : WindowLines} (h : opening s 0x10 k = some e) :
    exec (.reelFetchWindow k w) s = exec (.reelFetchWindow k w) (windowStart e s) ∧ (windowStart e s).offset = e.start :=
  starts_at_start (c := execReelFetchWindow k w) h fun u hu same => by
    unfold execReelFetchWindow
    refine entry_match_congr (idle := fun _ => .next u) (idle' := fun _ => .next s) hu h ?_
    rw [same]

theorem catchFlushWindow_starts {w : WindowLines} (h : opening s 0x20 k = some e) :
    exec (.catchFlushWindow k w) s = exec (.catchFlushWindow k w) (windowStart e s) ∧ (windowStart e s).offset = e.start :=
  starts_at_start (c := execCatchFlushWindow k w) h fun u hu same => by
    simp only [execCatchFlushWindow, h, hu, same]

theorem nocSlotWindow_starts {m : List (Fin 120)} (h : opening s 0x30 k = some e) :
    exec (.nocSlotWindow k m) s = exec (.nocSlotWindow k m) (windowStart e s) ∧ (windowStart e s).offset = e.start :=
  starts_at_start (c := execNocSlotWindow k m) h fun u hu same => by
    simp only [execNocSlotWindow, h, hu, same]

theorem ddrRefreshWindow_starts {w : Bool} {d : List (Nat × Nat)} (h : opening s 0x40 k = some e) :
    exec (.ddrRefreshWindow k w d) s = exec (.ddrRefreshWindow k w d) (windowStart e s) ∧ (windowStart e s).offset = e.start :=
  starts_at_start (c := execDdrRefreshWindow k w d) h fun u hu same => by
    simp only [execDdrRefreshWindow, h, hu, same]

theorem ddrRfmSpareWindow_starts {n : Nat} (h : opening s 0x41 k = some e) :
    exec (.ddrRfmSpareWindow ⟨k, n⟩) s = exec (.ddrRfmSpareWindow ⟨k, n⟩) (windowStart e s) ∧ (windowStart e s).offset = e.start :=
  starts_at_start (c := execDdrRfmSpareWindow ⟨k, n⟩) h fun u hu same => by
    simp only [execDdrRfmSpareWindow, h, hu, same]

theorem ddrScrubWindow_starts {n : Nat} (h : opening s 0x42 k = some e) :
    exec (.ddrScrubWindow k n) s = exec (.ddrScrubWindow k n) (windowStart e s) ∧ (windowStart e s).offset = e.start :=
  starts_at_start (c := execDdrScrubWindow k n) h fun u hu same => by
    simp only [execDdrScrubWindow, h, hu, same]

theorem dispatchAdvanceWindow_starts (h : opening s 0x50 k = some e) :
    exec (.dispatchAdvanceWindow k) s = exec (.dispatchAdvanceWindow k) (windowStart e s) ∧ (windowStart e s).offset = e.start :=
  starts_at_start (c := execDispatchAdvanceWindow k) h fun u hu same => by
    simp only [execDispatchAdvanceWindow, h, hu, same]

theorem ioDiagWindow_starts (h : opening s 0x60 k = some e) :
    exec (.ioDiagWindow k) s = exec (.ioDiagWindow k) (windowStart e s) ∧ (windowStart e s).offset = e.start :=
  starts_at_start (c := execIoDiagWindow k) h fun u hu same => by
    simp only [execIoDiagWindow, h, hu, same]

end

end Sys2Proof

namespace Sys2Proof

open Machine Machine.F

set_option Elab.async false

section

variable {s : State} {g : Fld} {i j : Nat}

/-! What the alignment of the tick engine changes among the registers (R47, R49). -/

theorem alignState_eq : alignState s = s.rd ALIGN_STATUS_STATE := rfl

theorem rd_noteUnaligned {b : Bool} (hg : ∀ f ∈ eventFields, g.id ≠ f.id) : (noteUnaligned b s).rd g i j = s.rd g i j := by
  unfold noteUnaligned
  dsimp only
  split
  · split
    · rfl
    · exact rd_raiseInj hg
  · rfl

/-- A change of the alignment's state leaves every register but STATE, ARM and those of an event. -/
theorem rd_setAlign {st : Nat} {b : Bool} (hg : ∀ f ∈ eventFields, g.id ≠ f.id) (state : g.id ≠ ALIGN_STATUS_STATE.id)
    (arm : g.id ≠ ALIGN_CTRL_ARM.id) : (setAlign st b s).rd g i j = s.rd g i j := by
  unfold setAlign
  dsimp only
  rw [rd_noteUnaligned hg, updTck_rd]
  split
  · rw [rd_wr_ne _ _ _ _ _ _ _ _ arm, rd_wr_ne _ _ _ _ _ _ _ _ state]
  · exact rd_wr_ne _ _ _ _ _ _ _ _ state

theorem alignState_setAlign {st : Nat} {b : Bool} : alignState (setAlign st b s) = st % 8 := by
  unfold setAlign
  dsimp only
  rw [alignState_eq, rd_noteUnaligned (by decide +kernel), updTck_rd]
  split
  · rw [rd_wr_ne _ _ _ _ _ _ _ _ (by decide)]
    exact rd_wr_same ..
  · exact rd_wr_same ..

/-- Only FREE, state 0, clears ARM. -/
theorem arm_setAlign {st : Nat} {b : Bool} (h : st ≠ 0) : (setAlign st b s).rd ALIGN_CTRL_ARM = s.rd ALIGN_CTRL_ARM := by
  unfold setAlign
  dsimp only
  rw [rd_noteUnaligned (by decide +kernel), updTck_rd, if_neg h]
  exact rd_wr_ne _ _ _ _ _ _ _ _ (by decide)

theorem rd_takeInj {f : Fld} {n : Nat} {b : Bool} (h : g.id ≠ f.id) : (takeInj f n b s).2.rd g i j = s.rd g i j := by
  unfold takeInj
  split
  · exact rd_wr_ne _ _ _ _ _ _ _ _ h
  · rfl

theorem takeInj_of_clear {f : Fld} {n : Nat} {b : Bool} (h : s.rd f n = 0) : takeInj f n b s = (false, s) := by
  simp [takeInj, State.flag, h]

/-! The marks of SYNC mode (R49). -/

theorem phaseErr_lt {err : Int} : phaseErr err < 2 ^ 8 := by
  unfold phaseErr
  omega

/-- A plain mark in its window, in ALIGNED. -/
theorem markInWindow_of_aligned {err : Int} (h : alignState s = 2) :
    (markInWindow false err s).rd ALIGN_STATUS_IN_WINDOW = min (s.rd ALIGN_STATUS_IN_WINDOW + 1) 255 ∧
      (markInWindow false err s).rd ALIGN_STATUS_PHASE_ERR = phaseErr err ∧ alignState (markInWindow false err s) = 2 := by
  have counted {f : Fld} (hp : f.id ≠ ALIGN_STATUS_PHASE_ERR.id) (hw : f.id ≠ ALIGN_STATUS_IN_WINDOW.id) :
      ((s.wr ALIGN_STATUS_PHASE_ERR (phaseErr err)).incSat ALIGN_STATUS_IN_WINDOW).rd f = s.rd f := by
    rw [State.incSat, rd_wr_ne _ _ _ _ _ _ _ _ hw, rd_wr_ne _ _ _ _ _ _ _ _ hp]
  have state : alignState ((s.wr ALIGN_STATUS_PHASE_ERR (phaseErr err)).incSat ALIGN_STATUS_IN_WINDOW) = 2 :=
    (counted (by decide) (by decide)).trans h
  have result {f : Fld} : (markInWindow false err s).rd f =
      ((s.wr ALIGN_STATUS_PHASE_ERR (phaseErr err)).incSat ALIGN_STATUS_IN_WINDOW).rd f := by
    unfold markInWindow
    dsimp only
    rw [show ∀ f u, alignState (updTck f u) = alignState u from fun _ _ => rfl, state]
    rfl
  rw [alignState_eq, result, result, result]
  refine ⟨?_, ?_, state⟩
  · rw [State.incSat, rd_wr_same, rd_wr_ne _ _ _ _ _ _ _ _ (by decide)]
    exact Nat.mod_eq_of_lt (Nat.lt_of_le_of_lt (Nat.min_le_right ..) (by decide))
  · rw [State.incSat, rd_wr_ne _ _ _ _ _ _ _ _ (by decide), rd_wr_same]
    exact Nat.mod_eq_of_lt phaseErr_lt

/-- A missed mark, in ALIGNED. -/
theorem missMark_of_aligned {b : Bool} (h : alignState s = 2) :
    (missMark b s).rd SYNC_MISS_COUNT_MISSES = (s.rd SYNC_MISS_COUNT_MISSES + 1) % 2 ^ 32 ∧
      (missMark b s).rd ALIGN_STATUS_IN_WINDOW = 0 ∧
      alignState (missMark b s) = if s.rd ALIGN_CTRL_HOLDOVER ≤ 1 then 0 else 3 := by
  unfold missMark
  extract_lets s1 s2 limit st n s3
  have kept {f : Fld} (hm : f.id ≠ SYNC_MISS_COUNT_MISSES.id) (hw : f.id ≠ ALIGN_STATUS_IN_WINDOW.id) : s2.rd f = s.rd f := by
    unfold s2 s1
    rw [updTck_rd, rd_wr_ne _ _ _ _ _ _ _ _ hw, State.incWrap, rd_wr_ne _ _ _ _ _ _ _ _ hm]
  have misses : s2.rd SYNC_MISS_COUNT_MISSES = (s.rd SYNC_MISS_COUNT_MISSES + 1) % 2 ^ 32 := by
    unfold s2 s1
    rw [updTck_rd, rd_wr_ne _ _ _ _ _ _ _ _ (by decide)]
    exact rd_wr_same ..
  have window : s2.rd ALIGN_STATUS_IN_WINDOW = 0 := by
    unfold s2 s1
    rw [updTck_rd, rd_wr_same, Nat.zero_mod]
  have state : st = 2 := (kept (by decide) (by decide)).trans h
  have holdover : s2.rd ALIGN_CTRL_HOLDOVER = s.rd ALIGN_CTRL_HOLDOVER := kept (by decide) (by decide)
  have first : n = 1 := if_pos state
  rw [if_pos (.inl state), first]
  by_cases short : s.rd ALIGN_CTRL_HOLDOVER ≤ 1
  · rw [if_pos (by unfold limit; omega), if_pos short, rd_raiseInj (by decide +kernel), rd_raiseInj (by decide +kernel),
      alignState_eq, rd_raiseInj (by decide +kernel)]
    unfold s3
    rw [rd_setAlign (by decide +kernel) (by decide) (by decide), rd_setAlign (by decide +kernel) (by decide) (by decide)]
    exact ⟨misses, window, alignState_setAlign⟩
  · rw [if_neg (by unfold limit; omega), if_neg short,
      rd_setAlign (by decide +kernel) (by decide) (by decide), rd_setAlign (by decide +kernel) (by decide) (by decide)]
    exact ⟨misses, window, alignState_setAlign⟩

/-! ARM and MODE (R47). -/

/-- A write to a field that takes effect at the tick changes no register before it (R12). -/
theorem rd_writeField_of_tick {f : Fld} {a b v : Nat} (h : f.eff = .tick) : (writeField s f a b v).rd g i j = s.rd g i j := by
  unfold writeField
  split
  · rfl
  · rw [if_pos h]
    rfl

/-- The fields of ALIGN_CTRL that a write of ARM takes along. -/
abbrev armFields : List Fld := [ALIGN_CTRL_MODE, ALIGN_CTRL_MARK_DIV, ALIGN_CTRL_HOLDOVER]

theorem rd_writeArmFields {v : Nat} : (armFields.foldl (fun t f => writeField t f 0 0 v) s).rd g i j = s.rd g i j := by
  simp only [armFields, List.foldl_cons, List.foldl_nil]
  rw [rd_writeField_of_tick rfl, rd_writeField_of_tick rfl, rd_writeField_of_tick rfl]

/-- A write of ARM that leaves MODE as it is judges ARM at once. -/
theorem exec_alignArm_of_same_mode {v : Nat} (arm : bit v 16 = true) (same : bits v 1 0 = 3 ∨ bits v 1 0 = alignMode s) :
    exec (.alignArm v) s = .next (judgeArm (armFields.foldl (fun t f => writeField t f 0 0 v) s)) := by
  show execAlignArm v s = _
  have : ¬(bits v 1 0 ≠ 3 ∧ bits v 1 0 ≠ alignMode s) := by omega
  simp only [execAlignArm, arm, this, if_false, Bool.not_true, Bool.false_eq_true]

theorem judgeArm_of_aligned (h : alignState s = 2) :
    (judgeArm s).rd ALIGN_CTRL_ARM = 1 ∧ alignState (judgeArm s) = 2 := by
  unfold judgeArm
  dsimp only
  rw [if_pos h]
  exact ⟨rd_wr_same .., (rd_wr_ne _ _ _ _ _ _ _ _ (by decide)).trans h⟩

theorem judgeArm_of_free (free : alignState s = 0) (mode : alignMode s ≠ 0)
    (still : ∀ n : Fin 16, s.rd RE_STATUS_STATE n < 3 ∨ 5 < s.rd RE_STATUS_STATE n) (fix : fixPending s = false)
    (epoch : s.now < s.rd ALIGN_TICK_EPOCH) : (judgeArm s).rd ALIGN_CTRL_ARM = 1 ∧ alignState (judgeArm s) = 1 := by
  have idle : ((List.range 16).any fun n => decide (3 ≤ s.rd RE_STATUS_STATE n) && decide (s.rd RE_STATUS_STATE n ≤ 5)) = false := by
    simp only [List.any_eq_false, List.mem_range, Bool.and_eq_true, decide_eq_true_eq]
    intro n hn
    have := still ⟨n, hn⟩
    dsimp only at this
    omega
  unfold judgeArm
  dsimp only
  rw [idle, fix, if_neg (by omega), if_neg (by omega), if_neg (by simp [mode, epoch])]
  rw [alignState_eq, updTck_rd, updTck_rd, arm_setAlign (by decide), rd_wr_same]
  exact ⟨rfl, alignState_setAlign⟩

end

end Sys2Proof

namespace Sys2Proof

open Machine Machine.F

set_option Elab.async false

section

variable {s : State}

/-! What each command of the tick and of the alignment does, one result each. -/

theorem tick_runs (ok : tickWritesOk s = true) (running : frozen s = false) :
    Runs .tick s fun t => t.now = (s.now + 1) % 2 ^ 64 ∧ t.offset = 0 ∧ t.tick.base = s.tick.base + s.period := by
  obtain ⟨now, offset, -, base⟩ := nextTick_turns ok
  refine ⟨_, exec_tick_of_running running, ?_, ?_, ?_⟩
  · exact serveDdr_kept.rd_same.trans now
  · exact serveDdr_kept.rd_same.trans offset
  · rw [serveDdr_kept.tick_same, base]

theorem exec_tick_of_frozen (h : frozen s = true) : exec .tick s = .next s := by
  show execTick s = _
  simp [execTick, h]

theorem frameLogRead_runs {k : Fin 256} :
    Runs (.frameLogRead k false) s fun t => k.val ∉ t.tick.unread ∧ ∀ j, j ≠ k.val → (j ∈ t.tick.unread ↔ j ∈ s.tick.unread) := by
  refine ⟨updTck (fun t => { t with unread := t.unread.filter (· != k.val) }) s, rfl, ?_, fun j hj => ?_⟩ <;>
    rw [updTck_tick]
  · simp
  · simp [hj]

theorem syncMark_miss_runs {width : Nat} {pos : Int} (h : width < 4 ∨ (12 < width ∧ width < 24) ∨ 40 < width) :
    Runs (.syncMark width pos) s fun t =>
      t.rd SYNC_MISS_COUNT_MISSES = (s.rd SYNC_MISS_COUNT_MISSES + 1) % 2 ^ 32 := by
  refine ⟨s.incWrap SYNC_MISS_COUNT_MISSES, ?_, rd_wr_same ..⟩
  show execSyncMark width pos s = _
  rw [execSyncMark, if_neg (by omega), if_neg (by omega)]

theorem syncMark_inWindow_runs {width : Nat} {pos : Int} (low : 4 ≤ width) (high : width ≤ 12) (mode : alignMode s = 1)
    (state : alignState s = 2) (await : s.tick.awaitTick = false) (near : (markError s pos).natAbs ≤ 512)
    (clear : s.rd FI_TICK_INJECT_INJ_SYNC_MISS = 0) :
    Runs (.syncMark width pos) s fun t =>
      t.rd ALIGN_STATUS_IN_WINDOW = min (s.rd ALIGN_STATUS_IN_WINDOW + 1) 255 ∧
        t.rd ALIGN_STATUS_PHASE_ERR = phaseErr (markError s pos) ∧ alignState t = 2 := by
  refine ⟨markInWindow false (markError s pos) s, ?_, markInWindow_of_aligned state⟩
  show execSyncMark width pos s = _
  rw [execSyncMark, if_pos ⟨low, high⟩]
  simp [syncMark, mode, state, await, near, takeInj_of_clear clear]

theorem syncMarkMissed_runs (mode : alignMode s = 1) (state : alignState s = 2) (await : s.tick.awaitTick = false) :
    Runs .syncMarkMissed s fun t =>
      t.rd SYNC_MISS_COUNT_MISSES = (s.rd SYNC_MISS_COUNT_MISSES + 1) % 2 ^ 32 ∧ t.rd ALIGN_STATUS_IN_WINDOW = 0 ∧
        alignState t = if s.rd ALIGN_CTRL_HOLDOVER ≤ 1 then 0 else 3 := by
  have running : frozen s = false := by simp [frozen, await, ← alignState_eq, state]
  refine ⟨missMark (takeInj FI_TICK_INJECT_INJ_SYNC_MISS 0 true s).1 (takeInj FI_TICK_INJECT_INJ_SYNC_MISS 0 true s).2, ?_, ?_⟩
  · show execSyncMarkMissed s = _
    simp [execSyncMarkMissed, mode, running, state]
  · have state : alignState (takeInj FI_TICK_INJECT_INJ_SYNC_MISS 0 true s).2 = 2 := (rd_takeInj (by decide)).trans state
    have result := missMark_of_aligned (b := (takeInj FI_TICK_INJECT_INJ_SYNC_MISS 0 true s).1) state
    rwa [rd_takeInj (by decide), rd_takeInj (by decide)] at result

theorem alignArm_aligned_runs {v : Nat} (arm : bit v 16 = true) (same : bits v 1 0 = 3 ∨ bits v 1 0 = alignMode s)
    (state : alignState s = 2) : Runs (.alignArm v) s fun t => t.rd ALIGN_CTRL_ARM = 1 ∧ alignState t = 2 :=
  ⟨_, exec_alignArm_of_same_mode arm same, judgeArm_of_aligned (rd_writeArmFields.trans state)⟩

theorem alignArm_free_runs {v : Nat} (arm : bit v 16 = true) (same : bits v 1 0 = 3 ∨ bits v 1 0 = alignMode s)
    (free : alignState s = 0) (mode : alignMode s ≠ 0)
    (still : ∀ n : Fin 16, s.rd RE_STATUS_STATE n < 3 ∨ 5 < s.rd RE_STATUS_STATE n) (fix : fixPending s = false)
    (epoch : s.now < s.rd ALIGN_TICK_EPOCH) : Runs (.alignArm v) s fun t => t.rd ALIGN_CTRL_ARM = 1 ∧ alignState t = 1 := by
  refine ⟨_, exec_alignArm_of_same_mode arm same, judgeArm_of_free (rd_writeArmFields.trans free) ?_ ?_ ?_ ?_⟩
  · rwa [alignMode, rd_writeArmFields]
  · simpa only [rd_writeArmFields] using still
  · rwa [fixPending, stageState, rd_writeArmFields]
  · rwa [State.now, rd_writeArmFields, rd_writeArmFields]

/-- The MODE that waited for the tick has taken effect. -/
def takeMode (m : Nat) (s : State) : State :=
  updTck (fun t => { t with modeDue := none, armAtTick := false }) (s.wr ALIGN_CTRL_MODE m)

theorem exec_alignModeChange_of_due {m : Nat} (due : s.tick.modeDue = some m) (await : s.tick.awaitTick = false)
    (arm : s.tick.armAtTick = false) : exec .alignModeChange s = .next
      (if m ≠ alignMode s ∧ 1 ≤ alignState s ∧ alignState s ≤ 3 then setAlign 0 false (takeMode m s)
        else noteUnaligned false (takeMode m s)) := by
  have state : alignState (takeMode m s) = alignState s := rd_wr_ne _ _ _ _ _ _ _ _ (by decide)
  rw [← state]
  show execAlignModeChange s = _
  simp only [execAlignModeChange, due, await, arm, Bool.false_eq_true, if_false]
  rfl

theorem alignModeChange_runs {m : Nat} (due : s.tick.modeDue = some m) (await : s.tick.awaitTick = false)
    (arm : s.tick.armAtTick = false) :
    Runs .alignModeChange s fun t =>
      alignMode t = m % 4 ∧ t.tick.modeDue = none ∧
        (m ≠ alignMode s → 1 ≤ alignState s → alignState s ≤ 3 → alignState t = 0) := by
  have exec := exec_alignModeChange_of_due due await arm
  have mode : (takeMode m s).rd ALIGN_CTRL_MODE = m % 4 := rd_wr_same ..
  by_cases left : m ≠ alignMode s ∧ 1 ≤ alignState s ∧ alignState s ≤ 3
  · rw [if_pos left] at exec
    refine ⟨_, exec, (rd_setAlign (by decide +kernel) (by decide) (by decide)).trans mode, ?_, fun _ _ _ => alignState_setAlign⟩
    obtain ⟨x, c, n, tick⟩ := setAlign_tick (s := takeMode m s) (st := 0) (b := false)
    rw [tick]
    rfl
  · rw [if_neg left] at exec
    refine ⟨_, exec, (rd_noteUnaligned (by decide +kernel)).trans mode, ?_, fun a b c => absurd ⟨a, b, c⟩ left⟩
    obtain ⟨x, tick⟩ := noteUnaligned_tick (s := takeMode m s) (b := false)
    rw [tick]
    rfl

end

/-- Settles O6, clause by clause: the tick, the frame log, the marks, ARM and MODE, and the windows. -/
theorem tickResults : Obligations.TickResults :=
  ⟨fun _ => tick_runs, fun _ => exec_tick_of_frozen, fun _ _ => frameLogRead_runs, fun _ _ => rfl,
    fun _ _ _ => syncMark_miss_runs, fun _ _ _ => syncMark_inWindow_runs, fun _ => syncMarkMissed_runs,
    fun _ _ => alignArm_aligned_runs, fun _ _ => alignArm_free_runs, fun _ _ => alignModeChange_runs,
    fun _ _ _ _ => ⟨reelFetchWindow_starts, catchFlushWindow_starts, nocSlotWindow_starts, ddrRefreshWindow_starts,
      ddrRfmSpareWindow_starts, ddrScrubWindow_starts, dispatchAdvanceWindow_starts, ioDiagWindow_starts⟩⟩

end Sys2Proof

namespace Sys2Proof

open Machine Machine.F

set_option Elab.async false

/-! The close of an APPLY window whose last core cycle is beyond the 17 bits of the offset. -/

/-- The APPLY window of an entry at the last core cycle that START can name, and of a LENGTH of 2. -/
def wideWindow : OpenWin := { idx := 0, type := 1, unit := 0, param := 0, last := 2 ^ 17, complete := true }

/-- The state after power-up, with that window open and a fix applied in it. -/
def wideClose : State :=
  (openWin 0 ⟨1, 0, 2 ^ 17 - 1, 2, 0, 0⟩ true State.reset).updStage fun g => { g with applied := some (0, 0) }

theorem wideClose_find : (wideClose.tick.wins.find? fun w => w.idx == 0) = some wideWindow := rfl

theorem wideClose_offset : wideClose.offset = 0 := by decide +kernel

theorem windowEnd_wideClose_landed : ((windowEnd wideWindow wideClose).noc.xacts.any fun x => x.phase == .landed) = false := by
  decide +kernel

/-- The offset never shows the window's last core cycle: its field is 17 bits wide. -/
theorem windowEnd_wideClose_offset : (windowEnd wideWindow wideClose).offset < 2 ^ 17 := by
  unfold windowEnd
  rw [if_pos (by rw [wideClose_offset]; decide)]
  exact passTo_offset_lt (by rw [wideClose_offset]; decide)

/-- Refutes O8: a window with START 1FFFFh and LENGTH 2 ends at core cycle 20000h, which the 17 bits of the offset cannot
show, so its close does not leave the offset there. -/
theorem not_fixResults : ¬ Obligations.FixResults := by
  rintro ⟨-, -, -, -, -, -, close, -⟩
  obtain ⟨t, -, -, -, -, last⟩ := close 0 wideWindow 0 0 wideClose _ wideClose_find rfl rfl rfl windowEnd_wideClose_landed
  have reached : (windowEnd wideWindow wideClose).offset = 2 ^ 17 := last (by rw [wideClose_offset]; exact Nat.zero_le _)
  exact absurd windowEnd_wideClose_offset (by rw [reached]; exact lt_irrefl _)

end Sys2Proof

namespace Sys2Proof

open Machine Machine.F

/-! What the parts of the requests of the staging area do to it (R56, R57). -/

/-- The staging area is kept by a footprint that does not hold it. -/
theorem Kept.stage_same {L : Foot} {r s : State} (h : Kept L r s)
    (apart : L &&& Foot.part .stage = 0 := by decide +kernel) : s.stage = r.stage :=
  h.parts .stage (Foot.not_within_of_land apart (Foot.testBit_place.2 rfl))

section

variable {s : State}

theorem decideOp_stage {r k code x res : Nat} : (decideOp r k code x res s).stage = s.stage :=
  (Kept.refl.decideOp (L := Foot.decideOp) .refl).stage_same

theorem stageState_decideOp {r k code x res : Nat} : stageState (decideOp r k code x res s) = stageState s :=
  (Kept.refl.decideOp (L := Foot.decideOp) .refl).rd_same

theorem fixTick_decideOp {r k code x res : Nat} :
    (decideOp r k code x res s).rd PF_FIX_TICK_T = s.rd PF_FIX_TICK_T :=
  (Kept.refl.decideOp (L := Foot.decideOp) .refl).rd_same

theorem stageState_stageLoading {b : Bool} : stageState (stageLoading b s) = 1 :=
  (rd_wr_ne _ _ _ _ _ _ _ _ (by decide)).trans (rd_wr_same ..)

theorem owner_stageLoading : (stageLoading false s).rd PF_STATE_OWNER = 0 := by
  simp [stageLoading, State.setb]

theorem stageState_stageEmpty : stageState (stageEmpty s) = 0 :=
  ((rd_wr_ne _ _ _ _ _ _ _ _ (by decide)).trans (rd_wr_ne _ _ _ _ _ _ _ _ (by decide))).trans (rd_wr_same ..)

theorem stageEmpty_ops : (stageEmpty s).ops = s.ops := by
  simp only [stageEmpty, updStage_ops, wr_ops]

/-- A fix that is aborted leaves the set PROOFED with no tick; what is left is to complete its operation ABORTED (R68). -/
theorem abortFix_eq {fr fk : Nat} (fixing : s.stage.fixOp = some (fr, fk)) :
    ∃ u, abortFix s = decideOp fr fk Code.ABORTED 0 0 u ∧ u.ops = s.ops ∧ u.stage.fixOp = none ∧ stageState u = 3 ∧
      u.rd PF_FIX_TICK_T = 0 := by
  simp only [abortFix, fixing]
  refine ⟨_, rfl, ?_, ?_, ?_, ?_⟩
  · simp only [wr_ops, updStage_ops]
  · simp only [wr_stage, updStage_stage]
  · rw [stageState, rd_wr_ne _ _ _ _ _ _ _ _ (by decide), rd_wr_ne _ _ _ _ _ _ _ _ (by decide),
      rd_wr_ne _ _ _ _ _ _ _ _ (by decide), rd_updStage, rd_wr_ne _ _ _ _ _ _ _ _ (by decide), rd_wr_same]
    rfl
  · rw [rd_wr_ne _ _ _ _ _ _ _ _ (by decide), rd_wr_ne _ _ _ _ _ _ _ _ (by decide),
      rd_wr_ne _ _ _ _ _ _ _ _ (by decide), rd_updStage, rd_wr_same]
    rfl

/-- An outcome that is decided stays when another operation is decided. -/
theorem Decided.decideOp_ne {r k code x a b c y res : Nat} (h : Decided s a b c y) (other : (a, b) ≠ (r, k))
    (hr : r ≠ 64) : Decided (decideOp r k code x res s) a b c y := by
  rwa [Decided, opAt_decideOp_ne other hr]

/-! The requests of a command ring. -/

variable {r : Fin 65} {o : Op} {opcode arg : Nat}

theorem isHearth_of_ring (ring : r.val < 64) : isHearth r = false := by
  simpa [isHearth, hearth] using ring.ne

theorem request_of_waits (ring : r.val < 64) (waits : Waits s r opcode o) :
    request s r opcode arg = some (o.idx, o.desc) := by
  have notHearth : (r.val == hearth) = false := isHearth_of_ring ring
  simp [request, notHearth, waits.1]

theorem opAt_runOp (found : opAt s r o.idx = some o) :
    opAt (runOp r o.idx s) r o.idx = some { o with phase := .running } :=
  opAt_updOp_same (f := fun o => { o with phase := OpPhase.running }) (fun _ => ⟨rfl, rfl⟩) found

theorem desc_getD {w : Nat} : o.desc.getD w 0 = o.word w := rfl

/-- The host memory that an operation reads is the same once it runs. -/
theorem hostImage_runOp {ring k : Nat} : hostImage (runOp ring k s) { o with phase := .running } = hostImage s o := rfl

/-! What each request does. -/

/-- A load that may act stages what its image holds, and its end is to come. -/
theorem exec_proofLoad_of_owned (ring : r.val < 64) (idle : s.stage.load = none) (waits : Waits s r 0x20 o)
    (owns : ownsStage s false = true) (unlocked : stageLocked s = false) :
    ∃ u f, exec (.proofLoad r arg) s = .next
        (((stageLoading false u).wr PF_SET_ID_SET_ID (memRd (hostImage s o) (o.word 1) 4)).updStage f) ∧
      ∀ g, ∃ x, (f g).load = some (r.val, o.idx, x) := by
  show ∃ u f, execProofLoad r arg s = _ ∧ _
  simp only [execProofLoad, idle, request_of_waits ring waits, isHearth_of_ring ring, owns, unlocked,
    opAt_runOp waits.2, hostImage_runOp, Option.isSome_none, Bool.false_eq_true, if_false, Bool.not_true, Bool.or_false]
  exact ⟨_, _, rfl, fun _ => ⟨_, rfl⟩⟩

theorem proofLoad_runs (ring : r.val < 64) (idle : s.stage.load = none) (waits : Waits s r 0x20 o)
    (owns : ownsStage s false = true) (unlocked : stageLocked s = false) :
    Runs (.proofLoad r arg) s fun t =>
      stageState t = 1 ∧ t.flag PF_STATE_OWNER = false ∧
        t.rd PF_SET_ID_SET_ID = memRd (hostImage s o) (o.word 1) 4 % 2 ^ 32 ∧
        ∃ x, t.stage.load = some (r.val, o.idx, x) := by
  obtain ⟨u, f, exec, load⟩ := exec_proofLoad_of_owned (arg := arg) ring idle waits owns unlocked
  refine ⟨_, exec, ?_, ?_, ?_, load _⟩
  · rw [stageState, rd_updStage, rd_wr_ne _ _ _ _ _ _ _ _ (by decide)]
    exact stageState_stageLoading
  · rw [State.flag, rd_updStage, rd_wr_ne _ _ _ _ _ _ _ _ (by decide), owner_stageLoading]
    rfl
  · rw [rd_updStage, rd_wr_same]
    rfl

/-- A load of a requester that may not act on the area, or of a locked area, is turned away (R57). -/
theorem exec_proofLoad_of_barred (ring : r.val < 64) (idle : s.stage.load = none) (waits : Waits s r 0x20 o)
    (barred : ownsStage s false = false ∨ stageLocked s = true) :
    exec (.proofLoad r arg) s = .next (decideOp r o.idx Code.BUSY 0 0 s) := by
  show execProofLoad r arg s = _
  have turnedAway : (!ownsStage s false || stageLocked s) = true := by simpa using barred
  simp only [execProofLoad, idle, request_of_waits ring waits, isHearth_of_ring ring, turnedAway, if_true,
    Option.isSome_none, Bool.false_eq_true, if_false]

theorem proofLoad_barred_runs (ring : r.val < 64) (idle : s.stage.load = none) (waits : Waits s r 0x20 o)
    (barred : ownsStage s false = false ∨ stageLocked s = true) :
    Runs (.proofLoad r arg) s fun t => Decided t r o.idx Code.BUSY 0 ∧ stageState t = stageState s :=
  ⟨_, exec_proofLoad_of_barred ring idle waits barred, decided_decideOp waits.2 (waits_open waits) ring.ne,
    stageState_decideOp⟩

/-- The end of a load decides its operation, whatever it reports of a fault. -/
theorem proofLoadDone_runs {r k code item fld : Nat} (loading : s.stage.load = some (r, k, code, item, fld)) (ring : r < 64)
    (found : opAt s r k = some o) (isOpen : o.isOpen = true) :
    Runs .proofLoadDone s fun t => Decided t r k code 0 ∧ t.stage.load = none := by
  have exec : ∃ u res, exec .proofLoadDone s = .next (decideOp r k code 0 res u) ∧ u.ops = s.ops ∧ u.stage.load = none := by
    show ∃ u res, execProofLoadDone s = _ ∧ _
    simp only [execProofLoadDone, loading]
    refine ⟨_, _, rfl, ?_⟩
    split
    · exact ⟨updStage_ops .., by rw [updStage_stage]⟩
    · exact ⟨by simp only [wr_ops, updStage_ops], by simp only [wr_stage, updStage_stage]⟩
  obtain ⟨u, res, exec, ops, load⟩ := exec
  exact ⟨_, exec, decided_decideOp ((opAt_congr ops).trans found) isOpen ring.ne, by rwa [decideOp_stage]⟩

theorem proofCheck_runs (ring : r.val < 64) (idle : s.stage.load = none) (waits : Waits s r 0x21 o)
    (owns : ownsStage s false = true) (state : stageState s = 1) :
    Runs (.proofCheck r) s fun t => stageState t = 2 ∧ t.stage.check = some (r.val, o.idx, s.cycle) := by
  have unlocked : stageLocked s = false := by simp [stageLocked, state]
  have exec : exec (.proofCheck r) s = .next (((runOp r o.idx s).wr PF_STATE_STATE 2).updStage fun g =>
      { g with check := some (r.val, o.idx, s.cycle) }) := by
    show execProofCheck r s = _
    simp only [execProofCheck, idle, request_of_waits ring waits, isHearth_of_ring ring, owns, unlocked, state,
      Option.isSome_none, Bool.not_true, Bool.or_false, Bool.false_eq_true, if_false, if_true]
  refine ⟨_, exec, ?_, by rw [updStage_stage]⟩
  rw [stageState, rd_updStage, rd_wr_same]
  rfl

/-- A permitted FIX of a PROOFED set makes it FIX_PENDING for its tick (R65). -/
theorem exec_fix_of_permitted (ring : r.val < 64) (idle : s.stage.load = none) (waits : Waits s r 0x22 o)
    (owns : ownsStage s false = true) (state : stageState s = 3) (tick : s.now + 2 ≤ o.word 1)
    (window : (s.stage.items.any fun x => x.type == 1) = true ∨ hasApply s (o.word 1) = true) :
    exec (.fix r arg) s = .next ((((runOp r o.idx s).wr PF_STATE_STATE 4).wr PF_FIX_TICK_T (o.word 1)).updStage fun g =>
      { g with fixOp := some (r.val, o.idx), lastFix := some (r.val, o.idx), checked := false, retired := [] }) := by
  have permitted : ¬(o.word 1 < s.now + 2 ∨
      ((!s.stage.items.any fun x => x.type == 1) = true ∧ (!hasApply s (o.word 1)) = true)) := by
    rintro (early | ⟨noSchedule, noApply⟩)
    · exact absurd tick (Nat.not_le.2 early)
    · rw [Bool.not_eq_true'] at noSchedule noApply
      simp only [noSchedule, noApply, Bool.false_eq_true, or_self] at window
  show execFix r arg s = _
  simp only [execFix, idle, request_of_waits ring waits, isHearth_of_ring ring, owns, state, desc_getD, permitted,
    ne_eq, not_true_eq_false, Option.isSome_none, Bool.false_eq_true, Bool.not_true, if_false]

theorem fix_runs (ring : r.val < 64) (idle : s.stage.load = none) (waits : Waits s r 0x22 o)
    (owns : ownsStage s false = true) (state : stageState s = 3) (tick : s.now + 2 ≤ o.word 1)
    (window : (s.stage.items.any fun x => x.type == 1) = true ∨ hasApply s (o.word 1) = true) :
    Runs (.fix r arg) s fun t =>
      stageState t = 4 ∧ t.rd PF_FIX_TICK_T = o.word 1 % 2 ^ 64 ∧ t.stage.fixOp = some (r.val, o.idx) := by
  refine ⟨_, exec_fix_of_permitted ring idle waits owns state tick window, ?_, ?_, by rw [updStage_stage]⟩
  · rw [stageState, rd_updStage, rd_wr_ne _ _ _ _ _ _ _ _ (by decide), rd_wr_same]
    rfl
  · rw [rd_updStage, rd_wr_same]
    rfl

theorem fixCancel_runs (ring : r.val < 64) (waits : Waits s r 0x23 o) (owns : ownsStage s false = true)
    (fixing : s.stage.fixOp.isSome = true) :
    Runs (.fixCancel r) s fun t =>
      t.stage.cancels = s.stage.cancels ++ [(r.val, o.idx, s.now)] ∧ Running t r o.idx := by
  have exec : exec (.fixCancel r) s = .next ((runOp r o.idx s).updStage fun g =>
      { g with cancels := g.cancels ++ [(r.val, o.idx, s.now)] }) := by
    have pending : s.stage.fixOp.isNone = false := by simpa using fixing
    show execFixCancel r s = _
    simp only [execFixCancel, request_of_waits ring waits, isHearth_of_ring ring, owns, pending, Bool.not_true,
      Bool.false_eq_true, if_false]
  refine ⟨_, exec, by rw [updStage_stage]; rfl, ?_⟩
  rw [Running, opAt_congr (updStage_ops ..)]
  exact running_runOp waits.2

/-- One cancel that has arrived in time is latched: the fix is aborted, and the cancel completes OK (R68). -/
theorem latchCancels_of_timely {r k arrived fr fk : Nat} (cancels : s.stage.cancels = [(r, k, arrived)])
    (earlier : arrived < s.now) (fixing : s.stage.fixOp = some (fr, fk)) (timely : arrived + 1 ≤ s.rd PF_FIX_TICK_T - 1) :
    ∃ u, latchCancels s = decideOp r k Code.OK 0 0 (abortFix u) ∧ u.ops = s.ops ∧ u.stage.fixOp = some (fr, fk) := by
  have due : dueCancels s = [(r, k, arrived)] := by simp [dueCancels, cancels, earlier]
  simp only [latchCancels, due, List.foldl_cons, List.foldl_nil, latchCancel, updStage_stage, rd_updStage, fixing, timely,
    Option.isSome_some, decide_true, Bool.and_self, if_true]
  exact ⟨_, rfl, updStage_ops .., by rwa [updStage_stage]⟩

/-- Only a set that is FIX_PENDING passes to APPLYING. -/
theorem reachApply_of_not_pending (state : stageState s ≠ 4) : reachApply s = s := if_neg fun pending => state pending.1

theorem fixCancelLatch_runs {r k arrived fr fk : Nat} {o p : Op} (cancels : s.stage.cancels = [(r, k, arrived)])
    (earlier : arrived < s.now) (fixing : s.stage.fixOp = some (fr, fk)) (timely : arrived + 1 ≤ s.rd PF_FIX_TICK_T - 1)
    (found : opAt s r k = some o) (isOpen : o.isOpen = true) (fixFound : opAt s fr fk = some p) (fixOpen : p.isOpen = true)
    (other : (r, k) ≠ (fr, fk)) (ring : r < 64) (fixRing : fr < 64) :
    Runs .fixCancelLatch s fun t =>
      stageState t = 3 ∧ t.stage.fixOp = none ∧ t.rd PF_FIX_TICK_T = 0 ∧ Decided t fr fk Code.ABORTED 0 ∧
        Decided t r k Code.OK 0 := by
  obtain ⟨v, latch, latchOps, latchFix⟩ := latchCancels_of_timely cancels earlier fixing timely
  obtain ⟨u, abort, abortOps, fixOp, state, fixTick⟩ := abortFix_eq latchFix
  have same {a b : Nat} : opAt u a b = opAt s a b := opAt_congr (abortOps.trans latchOps)
  have exec : exec .fixCancelLatch s =
      .next (decideOp r k Code.OK 0 0 (decideOp fr fk Code.ABORTED 0 0 u)) := by
    show Host.Outcome.next (reachApply (latchCancels s)) = _
    rw [latch, abort, reachApply_of_not_pending]
    rw [stageState_decideOp, stageState_decideOp, state]
    decide
  refine ⟨_, exec, ?_, ?_, ?_, ?_, ?_⟩
  · rw [stageState_decideOp, stageState_decideOp, state]
  · rw [decideOp_stage, decideOp_stage, fixOp]
  · rw [fixTick_decideOp, fixTick_decideOp, fixTick]
  · exact (decided_decideOp (same.trans fixFound) fixOpen fixRing.ne).decideOp_ne other.symm ring.ne
  · exact decided_decideOp ((opAt_decideOp_ne other fixRing.ne).trans (same.trans found)) isOpen ring.ne

theorem proofDiscard_runs (ring : r.val < 64) (idle : s.stage.load = none) (waits : Waits s r 0x24 o)
    (owns : ownsStage s false = true) (unlocked : stageLocked s = false) (state : stageState s ≠ 0) :
    Runs (.proofDiscard r) s fun t =>
      stageState t = 0 ∧ t.stage.items = [] ∧ t.stage.rwf = [] ∧ Decided t r o.idx Code.OK 0 := by
  have exec : exec (.proofDiscard r) s = .next (decideOp r o.idx Code.OK 0 0 (stageEmpty s)) := by
    show execProofDiscard r s = _
    simp only [execProofDiscard, idle, request_of_waits ring waits, isHearth_of_ring ring, owns, unlocked, state,
      Option.isSome_none, Bool.not_true, Bool.or_false, Bool.false_eq_true, if_false]
  have found : opAt (stageEmpty s) r o.idx = some o := (opAt_congr stageEmpty_ops).trans waits.2
  refine ⟨_, exec, ?_, ?_, ?_, decided_decideOp found (waits_open waits) ring.ne⟩
  · rw [stageState_decideOp, stageState_stageEmpty]
  · rw [decideOp_stage]
    rfl
  · rw [decideOp_stage]
    rfl

end

/-- Settles O7, clause by clause: the load and its end, the check, the fix, the cancel and its latch, and the discard. -/
theorem stagingResults : Obligations.StagingResults :=
  ⟨fun _ _ _ _ => proofLoad_runs, fun _ _ _ _ => proofLoad_barred_runs, fun _ _ _ _ _ _ _ => proofLoadDone_runs,
    fun _ _ _ => proofCheck_runs, fun _ _ _ _ => fix_runs, fun _ _ _ => fixCancel_runs,
    fun _ _ _ _ _ _ _ _ => fixCancelLatch_runs, fun _ _ _ => proofDiscard_runs⟩

end Sys2Proof

namespace Sys2Proof

open Machine Machine.F

set_option Elab.async false

/-! What the commands of the family streams leave unchanged (R80, R93, R98, R116, R125). -/

/-- Settles O44: the footprint of each command of the family lies within what it may change. -/
theorem streamFrames : Obligations.StreamFrames := by
  intro c s t hc e
  refine Kept.framed_of ?_
  have reelStart : Foot.execReelStart.Within (Instr.reelStart 0).places := ⟨by decide +kernel⟩
  have reelAbort : Foot.execReelAbort.Within (Instr.reelAbort 0).places := ⟨by decide +kernel⟩
  have abortLatch : Foot.endUnstarted.Within (Instr.reelAbortLatch 0).places := ⟨by decide +kernel⟩
  have prefetchStart : (Foot.field RE_STATUS_STATE.id).Within (Instr.reelPrefetchStart 0).places := ⟨by decide +kernel⟩
  have startTick : Foot.execReelStartTick.Within (Instr.reelStartTick 0 () 0).places := ⟨by decide +kernel⟩
  have natural : Foot.latchCause.Within (Instr.reelNaturalCompletion 0).places := ⟨by decide +kernel⟩
  have pad : Foot.execPad.Within (Instr.pad 0).places := ⟨by decide +kernel⟩
  have literal : Foot.execLiteral.Within (Instr.literal 0 0).places := ⟨by decide +kernel⟩
  have repeatVector : Foot.execLiteral.Within (Instr.repeatVector 0 0).places := ⟨by decide +kernel⟩
  have repeatBlock : Foot.execPad.Within (Instr.repeatBlock 0).places := ⟨by decide +kernel⟩
  have dict : Foot.execLiteral.Within (Instr.dict 0 0).places := ⟨by decide +kernel⟩
  have splice : Foot.execSplice.Within (Instr.splice 0 0).places := ⟨by decide +kernel⟩
  have stop : Foot.execStop.Within (Instr.stop 0).places := ⟨by decide +kernel⟩
  have spliceWrite : Foot.execSpliceWrite.Within (Instr.spliceWrite 0 0 0 0).places := ⟨by decide +kernel⟩
  have underrun : Foot.execReelUnderrun.Within (Instr.reelUnderrun 0).places := ⟨by decide +kernel⟩
  have substitution : (Foot.part .reels).Within (Instr.substitutionStart 0).places := ⟨by decide +kernel⟩
  have holdReached : Foot.execHoldReached.Within (Instr.holdReached 0).places := ⟨by decide +kernel⟩
  have holding : Foot.execReelHolding.Within (Instr.reelHolding 0).places := ⟨by decide +kernel⟩
  have reClear : Foot.execReClearCounts.Within (Instr.reClearCounts 0).places := ⟨by decide +kernel⟩
  have flushDict : (Foot.field RE_STATUS_DICT_VALID.id).Within (Instr.flushDict 0).places := ⟨by decide +kernel⟩
  have responseWord : Foot.execResponseWord.Within (Instr.responseWord 0 0 0 0 0).places := ⟨by decide +kernel⟩
  have missing : Foot.missingWord.Within (Instr.missingResponse 0 0 0 ⟨false, 0⟩).places := ⟨by decide +kernel⟩
  have shadowCheck : Foot.execDelayShadowCheck.Within (Instr.delayShadowCheck 0 {} ⟨0, 0⟩).places := ⟨by decide +kernel⟩
  have recordToFlow : Foot.execRecordToFlow.Within (Instr.recordToFlow 0).places := ⟨by decide +kernel⟩
  have summary : Foot.execPendingSummaryRelease.Within (Instr.pendingSummaryRelease 0).places := ⟨by decide +kernel⟩
  have burstEnd : Foot.execBurstEnd.Within (Instr.burstEnd 0).places := ⟨by decide +kernel⟩
  have cmRdWrite : Foot.execCmRdWrite.Within (Instr.cmRdWrite 0 0).places := ⟨by decide +kernel⟩
  have strobe : (Foot.part .catches).Within (Instr.strobeRelease 0 0).places := ⟨by decide +kernel⟩
  have cbClear : Foot.execCbClearCounts.Within (Instr.cbClearCounts 0).places := ⟨by decide +kernel⟩
  have failPort : (Foot.part .catches).Within (Instr.failPortSnapshot 0).places := ⟨by decide +kernel⟩
  cases c
  case reelStart => exact Kept.refl.execReelStart reelStart t e
  case reelAbort => exact Kept.refl.execReelAbort reelAbort t e
  case reelAbortLatch => exact Kept.refl.execReelAbortLatch abortLatch t e
  case reelPrefetchStart => exact Kept.refl.execReelPrefetchStart prefetchStart t e
  case reelStartTick => exact Kept.refl.execReelStartTick (a := ()) startTick t e
  case reelNaturalCompletion => exact Kept.refl.execReelNaturalCompletion natural t e
  case pad => exact Kept.refl.execPad pad t e
  case literal => exact Kept.refl.execLiteral literal t e
  case repeatVector => exact Kept.refl.execRepeatVector repeatVector t e
  case repeatBlock => exact Kept.refl.execRepeatBlock repeatBlock t e
  case dict => exact Kept.refl.execDict dict t e
  case splice => exact Kept.refl.execSplice splice t e
  case stop => exact Kept.refl.execStop stop t e
  case spliceWrite => exact Kept.refl.execSpliceWrite spliceWrite t e
  case reelUnderrun => exact Kept.refl.execReelUnderrun underrun t e
  case substitutionStart => exact Kept.refl.execSubstitutionStart substitution t e
  case holdReached => exact Kept.refl.execHoldReached holdReached t e
  case reelHolding => exact Kept.refl.execReelHolding holding t e
  case reClearCounts => exact Kept.refl.execReClearCounts reClear t e
  case flushDict => exact Kept.refl.execFlushDict flushDict t e
  case responseWord => exact Kept.refl.execResponseWord responseWord t e
  case missingResponse => exact Kept.refl.execMissingResponse missing t e
  case delayShadowCheck => exact Kept.refl.execDelayShadowCheck shadowCheck t e
  case recordToFlow => exact Kept.refl.execRecordToFlow recordToFlow t e
  case pendingSummaryRelease => exact Kept.refl.execPendingSummaryRelease summary t e
  case burstEnd => exact Kept.refl.execBurstEnd burstEnd t e
  case cmRdWrite => exact Kept.refl.execCmRdWrite cmRdWrite t e
  case strobeRelease => exact Kept.refl.execStrobeRelease strobe t e
  case cbClearCounts => exact Kept.refl.execCbClearCounts cbClear t e
  case failPortSnapshot => exact Kept.refl.execFailPortSnapshot failPort t e
  all_goals cases hc

end Sys2Proof

namespace Sys2Proof

open Machine Machine.F

set_option Elab.async false

/-! Clearing the counts of one unit, and of the device (R10, R13, R103 and the other register tables). -/

/-- Distinct fields that are 0 after reset. -/
def Counts (fs : List Fld) : Prop := (fs.Pairwise fun x y => x.id ≠ y.id) ∧ ∀ f ∈ fs, f.rst = 0

section

variable {fs : List Fld} {s : State} {i : Nat}

/-- Clearing the fields of one unit leaves those of every other unit. -/
theorem rd_clrAllInst_inst {g : Fld} {k j : Nat} (h : k ≠ i) : (s.clrAllInst fs i).rd g k j = s.rd g k j := by
  unfold State.clrAllInst
  induction fs generalizing s with
  | nil => rfl
  | cons f fs ih =>
    refine ih.trans ?_
    by_cases same : g.id = f.id
    · simp [State.rd, State.clrInst, same, sget_sput_ne _ _ _ h]
    · exact rd_clrInst_ne _ _ _ _ _ _ same

theorem Framed.clrAllInst {gs : List Fld} {ps : List Part} (hg : gs ⊆ fs) : Framed fs ps s (s.clrAllInst gs i) := by
  unfold State.clrAllInst
  exact List.foldlRecOn (motive := Framed fs ps s) gs _ .refl fun _ h _ hf => h.clrInst (hg hf)

/-- The counts of one unit are 0, those of the others as they were, and nothing else has changed. -/
theorem clrAllInst_clears (hc : Counts fs := by exact ⟨by decide +kernel, by decide +kernel⟩) :
    (∀ f ∈ fs, ∀ j : Nat, (s.clrAllInst fs i).rd f i j = 0 ∧ ∀ k : Nat, k ≠ i → (s.clrAllInst fs i).rd f k j = s.rd f k j) ∧
      Framed fs [] s (s.clrAllInst fs i) :=
  ⟨fun f hf _ => ⟨(rd_clrAllInst_mem _ _ _ _ _ hc.1 hf).trans (hc.2 f hf), fun _ h => rd_clrAllInst_inst h⟩,
    .clrAllInst fun _ hf => hf⟩

/-- The counts are 0, of every unit, and nothing else has changed. -/
theorem clrAll_clears (hc : Counts fs := by exact ⟨by decide +kernel, by decide +kernel⟩) :
    (∀ f ∈ fs, ∀ k j : Nat, (s.clrAll fs).rd f k j = 0) ∧ Framed fs [] s (s.clrAll fs) :=
  ⟨fun f hf _ _ => (rd_clrAll_mem _ _ _ _ _ hc.1 hf).trans (hc.2 f hf), Framed.refl.clrAll fun _ hf => hf⟩

/-- A channel's CLEAR_LOGS: its log entries are 0, and the error log begins anew. -/
theorem dcClearLogs_runs {c : Fin 8} : Runs (.dcClearLogs c) s fun t =>
    (∀ f ∈ dcClearLogsFields, ∀ j : Nat, t.rd f c j = 0 ∧ ∀ i : Nat, i ≠ c → t.rd f i j = s.rd f i j) ∧
      Framed dcClearLogsFields [.ddr] s t := by
  obtain ⟨cleared, framed⟩ := clrAllInst_clears (fs := dcClearLogsFields) (s := s) (i := c)
  have exec : exec (.dcClearLogs c) s =
      .next (updDdr_ c (fun u => { u with ceNext := 0 }) (s.clrAllInst dcClearLogsFields c)) := rfl
  refine ⟨_, exec, ?_, (framed.mono (List.Subset.refl _) (List.nil_subset _)).updDdr (.head _)⟩
  simpa only [updDdr_, rd_updDdr] using cleared

end

/-- Settles O42, clause by clause: each command clears one list of distinct fields that reset to 0. -/
theorem clearingOfCounts : Obligations.ClearingOfCounts :=
  ⟨fun _ _ => ⟨_, rfl, clrAllInst_clears⟩, fun _ _ => ⟨_, rfl, clrAllInst_clears⟩, fun _ _ _ => ⟨_, rfl, clrAllInst_clears⟩,
    fun _ _ => ⟨_, rfl, clrAllInst_clears⟩, fun _ _ => ⟨_, rfl, clrAllInst_clears⟩, fun _ _ => ⟨_, rfl, clrAllInst_clears⟩,
    fun _ _ => ⟨_, rfl, clrAllInst_clears⟩, fun _ _ => dcClearLogs_runs,
    fun _ => ⟨_, rfl, clrAll_clears⟩, fun _ => ⟨_, rfl, clrAll_clears⟩, fun _ => ⟨_, rfl, clrAll_clears⟩,
    fun _ => ⟨_, rfl, clrAll_clears⟩, fun _ => ⟨_, rfl, clrAll_clears⟩, fun _ => ⟨_, rfl, clrAll_clears⟩,
    fun _ => ⟨_, rfl, clrAll_clears⟩, fun _ => ⟨_, rfl, clrAll_clears⟩, fun _ => ⟨_, rfl, clrAll_clears⟩,
    fun _ => ⟨_, rfl, clrAll_clears⟩, fun _ => ⟨_, rfl, clrAll_clears⟩⟩

end Sys2Proof

namespace Sys2Proof

open Machine Machine.F

set_option Elab.async false

/-! A block that reaches beyond its stream (R79, R80, R95). -/

/-- Engine 0 runs a stream of 18 operation words and has come to the word after the initial stop point: a REPEAT_BLOCK of
nine words, of which the stream holds eight. -/
def longBlock : State :=
  let header : Nat := 3 * 2 ^ 60 + 9 * 2 ^ 16 + 1
  updReel 0 (fun _ =>
    { hdrOk := true, fetched := 12, opWords := 18, rundown := 100, initStop := true, seen := 9, pos := 9,
      opBuf := memWr [] (8 * 9) header 8 })
    ((State.reset.wr RE_STATUS_STATE 3).wr NEXT_STOP_VC_VC 100)

/-- Refutes O10: the clause on REPEAT_BLOCK does not ask that the block's words lie within the stream. One that does not is in
turn, with its fields in range, and is a breach of R80: the decode position stays, and the engine substitutes. -/
theorem not_reelVectorResults : ¬ Obligations.ReelVectorResults := by
  unfold Obligations.ReelVectorResults
  rintro ⟨-, -, -, repeatBlock, -⟩
  obtain ⟨t, e, pos, -⟩ := repeatBlock 0 (3 * 2 ^ 60 + 9 * 2 ^ 16 + 1) longBlock (by decide +kernel) (by decide +kernel)
    (by decide +kernel) (by decide +kernel) (by decide +kernel)
  cases e
  revert pos
  decide +kernel

end Sys2Proof

namespace Sys2Proof

open Machine Machine.F

set_option Elab.async false

/-! A partial write of a poisoned line (R248, R250), and a request that holds data beyond its channel. -/

section

variable {s : State} {addr : Nat}

/-- An activate for a line changes nothing that makes it poisoned. -/
theorem poisoned_rfmDraw {b : Nat} : poisoned (rfmDraw b s) addr = poisoned s addr := by
  have k : Kept Foot.rfmDraw s (rfmDraw b s) := Kept.refl.rfmDraw .refl
  have lines : (rfmDraw b s).dramPoison = s.dramPoison :=
    k.parts .dramPoison (Foot.not_within_of_land (M := Foot.part .dramPoison) (by decide +kernel) (Foot.testBit_place.2 rfl))
  have ranks : (rfmDraw b s).dramWhole = s.dramWhole :=
    k.parts .dramWhole (Foot.not_within_of_land (M := Foot.part .dramWhole) (by decide +kernel) (Foot.testBit_place.2 rfl))
  have density : (rfmDraw b s).rd DC_CONFIG_DENSITY (chanOf addr) = s.rd DC_CONFIG_DENSITY (chanOf addr) := k.rd_same
  simp only [poisoned, placeOf, rankBytes, lines, ranks, density]

/-- Where no injection is armed, a poisoned line that is read for a requester counts as a poisoned read of its channel. -/
theorem decodeLine_of_poisoned (poison : poisoned s addr = true) (ue : s.rd DC_INJECT_INJ_UE (chanOf addr) = 0)
    (ce : s.rd DC_INJECT_INJ_CE (chanOf addr) = 0) :
    decodeLine addr 2 s = (.poison, false, (rfmDraw addr s).incSat DC_UE_COUNTS_POISON_READS (chanOf addr)) := by
  have k : Kept Foot.rfmDraw s (rfmDraw addr s) := Kept.refl.rfmDraw .refl
  have noUe := takeInj_of_clear (s := rfmDraw addr s) (b := true) (k.rd_same.trans ue)
  have noCe := takeInj_of_clear (s := rfmDraw addr s) (b := true) (k.rd_same.trans ce)
  simp [decodeLine, noUe, noCe, poisoned_rfmDraw, poison]

theorem controllerRead_of_poisoned (poison : poisoned s addr = true) (ue : s.rd DC_INJECT_INJ_UE (chanOf addr) = 0)
    (ce : s.rd DC_INJECT_INJ_CE (chanOf addr) = 0) :
    controllerRead addr 2 s =
      (noData Code.POISONED, (rfmDraw addr s).incSat DC_UE_COUNTS_POISON_READS (chanOf addr)) := by
  unfold controllerRead
  rw [decodeLine_of_poisoned poison ue ce]

/-- A write of part of a poisoned line counts as a poisoned read of its channel (R250). -/
theorem poisonReads_enginePart {sid : Nat} {data : List Byte} (base : addr % 64 = 0) (poison : poisoned s addr = true)
    (ue : s.rd DC_INJECT_INJ_UE (chanOf addr) = 0) (ce : s.rd DC_INJECT_INJ_CE (chanOf addr) = 0) :
    (enginePart sid addr data s).2.rd DC_UE_COUNTS_POISON_READS (chanOf addr) =
      min (s.rd DC_UE_COUNTS_POISON_READS (chanOf addr) + 1) DC_UE_COUNTS_POISON_READS.max := by
  have line : addr / 64 * 64 = addr := by omega
  have logged : (enginePart sid addr data s).2 =
      logUe addr 2 ((rfmDraw addr s).incSat DC_UE_COUNTS_POISON_READS (chanOf addr)) := by
    have failed : (noData Code.POISONED).code ≠ Code.OK := by decide
    simp only [enginePart, line, poison, controllerRead_of_poisoned poison ue ce, if_pos failed, Bool.true_or, if_true]
  have count : (rfmDraw addr s).rd DC_UE_COUNTS_POISON_READS (chanOf addr) = s.rd DC_UE_COUNTS_POISON_READS (chanOf addr) :=
    (Kept.refl.rfmDraw (L := Foot.rfmDraw) .refl).rd_same
  rw [logged, (Kept.refl.logUe (L := Foot.logUe) .refl).rd_same, State.incSat, rd_wr_same, count]
  have small : DC_UE_COUNTS_POISON_READS.max < 2 ^ DC_UE_COUNTS_POISON_READS.width := by decide
  exact Nat.mod_eq_of_lt (by omega)

end

/-- The first byte beyond channel 0, which is the first of channel 1. -/
def strayAddr : Nat := 2 ^ 37

/-- A write of no bytes at the end of channel 0, landed there, that holds one byte of data all the same. -/
def strayWrite : Xact :=
  { src := 0, tag := 0, kind := 3, dst := portDdr 0, addr := strayAddr, bytes := 0, data := [0], prio := 0, epoch := 0,
    sched := false, sid := 0, owner := .fabric, phase := .landed }

/-- The write waits at channel 0, and the first line of channel 1 is poisoned. -/
def strayWaits : State :=
  ((State.reset.wr DC_CAPACITY_BYTES 64 1).updDramPoison fun _ => [(2 ^ 31, 1)]).updNoc fun n => { n with xacts := [strayWrite] }

theorem chanFallback_strayWaits : chanFallback 0 strayWaits = strayWaits := by
  have ranks : rankCount strayWaits 0 = 0 := by decide +kernel
  simp [chanFallback, ranks]

/-- A fallback refresh of channel 0, which is off, lets it serve the write. -/
theorem exec_strayWaits : exec (.fallbackRefresh 0 0 0) strayWaits = .next (serveRequest 0 strayWrite strayWaits) := by
  have off : fallbackRefresh 0 0 0 strayWaits = strayWaits := if_pos (.inl (by decide +kernel))
  have waits : (strayWaits.noc.xacts.countP fun x => x.phase == .landed && x.dst == portDdr 0) = 1 := by decide +kernel
  have next : nextRequest strayWaits 0 = some strayWrite := by decide +kernel
  show Host.Outcome.next (serveWaiting 0 (fallbackRefresh 0 0 0 strayWaits)) = _
  rw [off, serveWaiting, waits, chanFallback_strayWaits]
  simp [serveChan, serveAbove, next]

/-- The data of the write goes to channel 1. -/
theorem writeSpan_strayWaits : (writeSpan 0 strayAddr [0] strayWaits).2 = (enginePart 0 strayAddr [0] strayWaits).2 := by
  have admitted : refusedBy strayWaits 0 strayAddr true = none := by decide +kernel
  have pieces : linePieces 2 strayAddr 1 = [(strayAddr, 1)] := by decide +kernel
  have reach : lineReach strayWaits strayAddr = Code.OK := by decide +kernel
  simp [writeSpan, writeBytes, admitted, pieces, reach, firstCode]

/-- Serving the write changes no more counts of poisoned reads than its data does. -/
theorem poisonReads_strayWaits :
    (serveRequest 0 strayWrite strayWaits).rd DC_UE_COUNTS_POISON_READS 1 =
      (enginePart 0 strayAddr [0] strayWaits).2.rd DC_UE_COUNTS_POISON_READS 1 := by
  have alone : precedence 0 strayWaits = strayWaits := by
    have empty : (ddr_ strayWaits 0).wb = [] := by decide +kernel
    simp [precedence, chanFallback_strayWaits, empty]
  have served : serveRequest 0 strayWrite strayWaits =
      if (writeSpan 0 strayAddr [0] strayWaits).1 = Code.REFUSED then
        refuseXact strayWrite (writeSpan 0 strayAddr [0] strayWaits).2
      else answerNow strayWrite (writeSpan 0 strayAddr [0] strayWaits).1 [] 0 (writeSpan 0 strayAddr [0] strayWaits).2 := by
    have near : ¬ 137438953472 < strayAddr := by decide
    simp [serveRequest, strayWrite, alone, near]
  rw [served, ← writeSpan_strayWaits]
  split
  · exact (Kept.refl.refuseXact (L := Foot.landingFreed) .refl).rd_same
  · exact (Kept.refl.answerNow (L := Foot.landingFreed) .refl).rd_same

/-- Refutes O55: the statement asks nothing of the requests that wait at a channel. One whose data reaches beyond its channel
(no command makes one, and the statement is of all states) is served with a FALLBACK_REFRESH of channel 0, and its partial
write of a poisoned line counts in channel 1. -/
theorem not_otherUnitsKept : ¬ Obligations.OtherUnitsKept := by
  intro h
  have same := h (.fallbackRefresh 0 0 0) regs_DDR_channel_c 0 strayWaits _ rfl exec_strayWaits
    ⟨0x800038, [(0x20000, 8)], [], 32, [DC_UE_COUNTS_UNCORR, DC_UE_COUNTS_POISON_READS, DC_UE_COUNTS_WB_SKIPPED]⟩
    (by decide +kernel) DC_UE_COUNTS_POISON_READS (by decide +kernel) (by decide) 1 0 (by decide)
  have counted := poisonReads_enginePart (s := strayWaits) (addr := strayAddr) (sid := 0) (data := [0]) (by decide)
    (by decide +kernel) (by decide +kernel) (by decide +kernel)
  have before : strayWaits.rd DC_UE_COUNTS_POISON_READS 1 = 0 := by decide +kernel
  have channel : chanOf strayAddr = 1 := by decide
  rw [channel, before] at counted
  rw [poisonReads_strayWaits, counted, before] at same
  exact absurd same (by decide)

end Sys2Proof

namespace Sys2Proof

open Machine Machine.F

set_option Elab.async false

/-! A reel engine beside its registers, and what keeps it. -/

section

variable {s t : State} {n : Nat} {f : ReelU → ReelU}

@[simp] theorem reel_updReel : reel (updReel n f s) n = f (reel s n) := by
  simp [reel, updReel]

theorem reel_congr (same : t.reels = s.reels) : reel t n = reel s n := by
  rw [reel, same, reel]

@[simp] theorem rd_updReel {g : Fld} {i j : Nat} : (updReel n f s).rd g i j = s.rd g i j := rfl

@[simp] theorem reel_wr {g : Fld} {v i j : Nat} : reel (s.wr g v i j) n = reel s n := rfl

theorem updReel_congr {g : ReelU → ReelU} (same : f (reel s n) = g (reel s n)) : updReel n f s = updReel n g s :=
  congrArg (fun u => s.updReels fun m => sput {} m n u) same

/-- A footprint without the reel engines keeps each of them. -/
theorem Kept.reel_same {L : Foot} (h : Kept L s t) (apart : L &&& Foot.part .reels = 0 := by decide +kernel) :
    reel t n = reel s n :=
  reel_congr (h.parts .reels (Foot.not_within_of_land apart (Foot.testBit_place.2 rfl)))

/-- A footprint without the operations keeps each of them. -/
theorem Kept.opAt_same {L : Foot} {r k : Nat} (h : Kept L s t) (apart : L &&& Foot.part .ops = 0 := by decide +kernel) :
    opAt t r k = opAt s r k :=
  opAt_congr (h.parts .ops (Foot.not_within_of_land apart (Foot.testBit_place.2 rfl)))

/-- A decided outcome stays where an operation changes in nothing of its outcome. -/
theorem Decided.updOp {r k a b code x : Nat} {g : Op → Op} (h : Decided s r k code x)
    (name : ∀ o, (g o).ring = o.ring ∧ (g o).idx = o.idx)
    (outcome : ∀ o, (g o).phase = o.phase ∧ (g o).code = o.code ∧ (g o).fidx = o.fidx) :
    Decided (s.updOp a b g) r k code x := by
  obtain ⟨o, found, phase, code, field⟩ := h
  refine ⟨_, by rw [opAt_updOp name, found]; rfl, ?_⟩
  obtain ⟨samePhase, sameCode, sameField⟩ := outcome o
  dsimp only
  split
  · exact ⟨samePhase.trans phase, sameCode.trans code, sameField.trans field⟩
  · exact ⟨phase, code, field⟩

theorem Decided.congr {r k code x : Nat} (h : Decided s r k code x) (same : opAt t r k = opAt s r k) :
    Decided t r k code x := by
  rwa [Decided, same]

end

/-! Latching a cause (R97). -/

section

variable {s : State} {n c : Nat}

theorem causeSeen_latchCause :
    (latchCause n c s).rd RE_STATUS_CAUSE_SEEN n = (s.rd RE_STATUS_CAUSE_SEEN n ||| 2 ^ c) % 2 ^ 11 := by
  unfold latchCause
  dsimp only
  split
  · rw [rd_updReel, rd_wr_ne _ _ _ _ _ _ _ _ (by decide), State.setmbit, rd_wr_same]
    rfl
  · rw [State.setmbit, rd_wr_same]
    rfl

theorem mbit_latchCause (cause : c < 11) : (latchCause n c s).mbit RE_STATUS_CAUSE_SEEN c n = true := by
  rw [State.mbit, causeSeen_latchCause, Nat.testBit_mod_two_pow, Nat.testBit_or, Nat.testBit_two_pow_self]
  simp [cause]

/-- The first cause latched is the one that ends the burst. -/
theorem endCause_latchCause : (latchCause n c s).rd RE_STATUS_END_CAUSE n =
    if s.rd RE_STATUS_END_CAUSE n = 0 then c % 2 ^ 4 else s.rd RE_STATUS_END_CAUSE n := by
  unfold latchCause
  by_cases first : s.rd RE_STATUS_END_CAUSE n = 0
  · simp only [first, beq_self_eq_true, if_true, rd_updReel, rd_wr_same]
    rfl
  · simp only [beq_iff_eq, if_neg first]
    exact rd_wr_ne _ _ _ _ _ _ _ _ (by decide)

/-- Of an engine, latching a cause changes the tick of the first cause alone. -/
theorem reel_latchCause : ∃ tick, reel (latchCause n c s) n = { reel s n with causeTick := tick } := by
  unfold latchCause
  dsimp only
  split
  · exact ⟨_, reel_updReel⟩
  · exact ⟨_, rfl⟩

theorem tainted_latchCause_final : tainted (latchCause n causeFinal s) n = tainted s n := by
  have bits (x : Nat) : (x ||| 2 ^ 1) % 2 ^ 11 / 2 ^ 4 % 2 ^ 6 = x / 2 ^ 4 % 2 ^ 6 := Nat.eq_of_testBit_eq fun i => by
    simp only [Nat.testBit_mod_two_pow, Nat.testBit_div_two_pow, Nat.testBit_or, Nat.testBit_two_pow]
    by_cases low : i < 6
    · simp [low, show i + 4 < 11 by omega]
    · simp [low]
  rw [tainted, causeSeen_latchCause, tainted]
  exact congrArg (· != 0) (bits _)

theorem reelNaturalCompletion_runs {n : Fin 16} (stands : naturalStands s n = true) :
    Runs (.reelNaturalCompletion n) s fun t =>
      t.mbit RE_STATUS_CAUSE_SEEN causeFinal n = true ∧
        (s.rd RE_STATUS_END_CAUSE n = 0 → t.rd RE_STATUS_END_CAUSE n = causeFinal) := by
  have latched : exec (.reelNaturalCompletion n) s = .next (latchCause n causeFinal s) := if_pos stands
  exact ⟨_, latched, mbit_latchCause (by decide), fun first => endCause_latchCause.trans (if_pos first)⟩

end

/-! REEL_START (R87, R90) and REEL_ABORT (R96). -/

section

variable {s : State} {r : Fin 64} {o : Op}

/-- The conditions of R87 and R451, all met. -/
theorem reelStartCheck_none {n addr tick p : Nat} (aligned : addr % 64 = 0) (least : 1 ≤ p) (most : p ≤ 16)
    (ahead : s.now + p + 1 ≤ tick) (idle : reelState s n = 0 ∨ reelState s n = 6) (group : isReelGroup s n = true)
    (channel : namesChannel s n (addr / 2 ^ 37) = true) (control : s.rd DB_STATUS_RC_STATE = 0) :
    reelStartCheck s n addr tick p = none := by
  unfold reelStartCheck
  dsimp only
  rw [if_neg (not_not.2 aligned), if_neg (by omega), if_neg (by omega), if_neg (by omega), if_neg (by simp [group]),
    if_neg (by rw [channel]; decide), if_neg (not_not.2 control)]

/-- The state in which an accepted REEL_START has armed its engine. -/
def reelArmed (r : Fin 64) (o : Op) (s : State) : State :=
  let n := bits (o.word 1) 3 0
  let s := ((runOp r o.idx s).wr RE_STATUS_STATE 1 n).wr START_TICK_S (o.word 3) n
  let s := ((s.wr RE_STATUS_END_CAUSE 0 n).wr RE_STATUS_CAUSE_SEEN 0 n).wr VCYCLE_VC 0 n
  setLevel n 0 (updReel n (fun u =>
    { dict := u.dict, dictLoaded := u.dictLoaded, minLevel := u.minLevel, laneHold := u.laneHold, owed := u.owed,
      aborts := u.aborts, lateAborts := u.lateAborts, flushes := u.flushes,
      op := some (r.val, o.idx), addr := o.word 2, prefetch := bits (o.word 4) 4 0 }) s)

theorem reelStart_runs_ok (waits : Waits s r 0x40 o)
    (ok : reelStartCheck s (bits (o.word 1) 3 0) (o.word 2) (o.word 3) (bits (o.word 4) 4 0) = none) :
    Runs (.reelStart r) s fun t =>
      reelState t (bits (o.word 1) 3 0) = 1 ∧ t.rd START_TICK_S (bits (o.word 1) 3 0) = o.word 3 % 2 ^ 64 ∧
        t.rd VCYCLE_VC (bits (o.word 1) 3 0) = 0 ∧
        (reel t (bits (o.word 1) 3 0)).op = some (r.val, o.idx) ∧ (reel t (bits (o.word 1) 3 0)).addr = o.word 2 ∧
        (reel t (bits (o.word 1) 3 0)).prefetch = bits (o.word 4) 4 0 := by
  have armed : exec (.reelStart r) s = .next (powerWatch (reelArmed r o s)) := by
    show execReelStart r s = _
    simp only [execReelStart, waits.1, ok]
    rfl
  have k : Kept Foot.powerAbort (reelArmed r o s) (powerWatch (reelArmed r o s)) := Kept.refl.powerWatch .refl
  refine ⟨_, armed, k.rd_same.trans ?_, k.rd_same.trans ?_, k.rd_same.trans ?_, ?_⟩
  · simp (disch := decide) [reelArmed, setLevel, rd_wr_ne]
  · simp (disch := decide) [reelArmed, setLevel, rd_wr_ne]
    rfl
  · simp (disch := decide) [reelArmed, setLevel, rd_wr_ne]
  · rw [k.reel_same, reelArmed, setLevel, reel_updReel, reel_wr, reel_updReel]
    exact ⟨rfl, rfl, rfl⟩

theorem reelStart_runs_refused {code f : Nat} (waits : Waits s r 0x40 o)
    (fails : reelStartCheck s (bits (o.word 1) 3 0) (o.word 2) (o.word 3) (bits (o.word 4) 4 0) = some (code, f)) :
    Runs (.reelStart r) s fun t =>
      Decided t r o.idx code f ∧ reelState t (bits (o.word 1) 3 0) = reelState s (bits (o.word 1) 3 0) := by
  have refused : exec (.reelStart r) s = .next (decideOp r o.idx code f 0 s) := by
    show execReelStart r s = _
    simp only [execReelStart, waits.1, fails]
  exact ⟨_, refused, decided_decideOp waits.2 (waits_open waits) r.isLt.ne,
    (Kept.refl.decideOp (L := Foot.decideOp) .refl).rd_same⟩

theorem reelAbort_runs (waits : Waits s r 0x41 o) :
    Runs (.reelAbort r) s fun t =>
      (reel t (bits (o.word 1) 3 0)).aborts =
          (reel s (bits (o.word 1) 3 0)).aborts ++ [(r.val, o.idx, s.now, o.word 2)] ∧ Running t r o.idx := by
  have queued : exec (.reelAbort r) s = .next (updReel (bits (o.word 1) 3 0)
      (fun u => { u with aborts := u.aborts ++ [(r.val, o.idx, s.now, o.word 2)] }) (runOp r o.idx s)) := by
    show execReelAbort r s = _
    simp only [execReelAbort, waits.1]
  refine ⟨_, queued, ?_, running_runOp waits.2⟩
  rw [reel_updReel]
  rfl

end

/-! PREFETCH, and FLUSH_DICT (R90, R103). -/

section

variable {s : State} {n : Fin 16}

theorem reelPrefetchStart_runs (armed : reelState s n = 1) (cred : credited s = true)
    (due : s.rd START_TICK_S n - (reel s n).prefetch ≤ s.now) :
    Runs (.reelPrefetchStart n) s fun t => reelState t n = 2 := by
  have begins : exec (.reelPrefetchStart n) s = .next (s.wr RE_STATUS_STATE 2 n) := if_pos (by simp [armed, cred, due])
  exact ⟨_, begins, rd_wr_same ..⟩

theorem flushDict_runs (idle : reelState s n = 0) : Runs (.flushDict n) s fun t => t.rd RE_STATUS_DICT_VALID n = 0 := by
  have flushes : exec (.flushDict n) s = .next (s.wr RE_STATUS_DICT_VALID 0 n) := if_pos (by simp [idle])
  exact ⟨_, flushes, rd_wr_same ..⟩

theorem flushDict_of_busy (busy : reelState s n ≠ 0) : exec (.flushDict n) s = .next s := if_neg (by simp [busy])

end

/-! The ends of a burst: a reel that does not start (R88 to R90), and a run-down (R95). -/

section

variable {s : State} {n code c field r k : Nat} {p : Op}

theorem opAt_decideReel_ne {endTick word2 a b : Nat} (armed : (reel s n).op = some (r, k)) (ring : r ≠ 64)
    (other : (a, b) ≠ (r, k)) : opAt (decideReel n code field endTick word2 s) a b = opAt s a b := by
  simp only [decideReel, armed]
  refine (opAt_updOp_ne (f := fun o => { o with reelForm := some (endTick, word2) }) (fun _ => ⟨rfl, rfl⟩) other).trans
    ((opAt_decideOp_ne other ring).trans ?_)
  split <;> rfl

/-- The outcome of a reel is that of its REEL_START. -/
theorem decided_decideReel {endTick word2 : Nat} (armed : (reel s n).op = some (r, k)) (found : opAt s r k = some p)
    (opened : p.isOpen = true) (ring : r ≠ 64) : Decided (decideReel n code field endTick word2 s) r k code 0 := by
  simp only [decideReel, armed]
  refine (decided_decideOp (o := p) ?_ opened ring).updOp (fun _ => ⟨rfl, rfl⟩) fun _ => ⟨rfl, rfl, rfl⟩
  split <;> exact found

/-- The state in which the outcome of a reel that does not start is decided. -/
def unstarted (n : Nat) (c : Cause) (s : State) : State :=
  ((s.wr RE_STATUS_END_CAUSE c n).wr RE_STATUS_CAUSE_SEEN (2 ^ c) n).wr RE_STATUS_STATE 0 n

/-- Once its outcome is decided, the engine lets go of the reel and discards what it holds of it. -/
def letGo (n : Nat) (s : State) : State := dropBuffer n (updReel n (fun u => { u with op := none }) (flushSplice n s))

theorem endUnstarted_eq : endUnstarted n code c field s =
    letGo n (decideReel n code field (unstarted n c s).now 0 (unstarted n c s)) := rfl

theorem kept_letGo : Kept (Foot.flushSplice ||| Foot.setLevel) s (letGo n s) :=
  (Kept.refl.flushSplice ⟨by decide +kernel⟩).updReel ⟨by decide +kernel⟩ |>.dropBuffer ⟨by decide +kernel⟩

theorem reelState_endUnstarted : reelState (endUnstarted n code c field s) n = 0 := by
  rw [endUnstarted_eq, reelState, kept_letGo.rd_same, (Kept.refl.decideReel (L := Foot.decideReel) .refl).rd_same]
  exact rd_wr_same ..

theorem endCause_endUnstarted : (endUnstarted n code c field s).rd RE_STATUS_END_CAUSE n = c % 2 ^ 4 := by
  rw [endUnstarted_eq, kept_letGo.rd_same, (Kept.refl.decideReel (L := Foot.decideReel) .refl).rd_same, unstarted,
    rd_wr_ne _ _ _ _ _ _ _ _ (by decide), rd_wr_ne _ _ _ _ _ _ _ _ (by decide), rd_wr_same]
  rfl

theorem op_endUnstarted : (reel (endUnstarted n code c field s) n).op = none := by
  rw [endUnstarted_eq, letGo, dropBuffer, setLevel, reel_updReel, reel_wr, reel_updReel, reel_updReel]

theorem decided_endUnstarted (armed : (reel s n).op = some (r, k)) (found : opAt s r k = some p)
    (opened : p.isOpen = true) (ring : r ≠ 64) : Decided (endUnstarted n code c field s) r k code 0 :=
  (decided_decideReel (s := unstarted n c s) armed found opened ring).congr kept_letGo.opAt_same

theorem opAt_endUnstarted_ne {a b : Nat} (armed : (reel s n).op = some (r, k)) (ring : r ≠ 64) (other : (a, b) ≠ (r, k)) :
    opAt (endUnstarted n code c field s) a b = opAt s a b :=
  kept_letGo.opAt_same.trans (opAt_decideReel_ne (s := unstarted n c s) armed ring other)

/-- A run-down is a cause latched in RUNDOWN; where the engine stands at a stop point its end is known at once. -/
theorem kept_runDown : Kept (Foot.part .reels) ((latchCause n c s).wr RE_STATUS_STATE 4 n) (runDown n c s) :=
  .ite (Kept.refl.updReel .refl) .refl

theorem reelState_runDown : reelState (runDown n c s) n = 4 := kept_runDown.rd_same.trans (rd_wr_same ..)

theorem causeSeen_runDown : (runDown n c s).rd RE_STATUS_CAUSE_SEEN n = (latchCause n c s).rd RE_STATUS_CAUSE_SEEN n :=
  kept_runDown.rd_same.trans (rd_wr_ne _ _ _ _ _ _ _ _ (by decide))

theorem endCause_runDown : (runDown n c s).rd RE_STATUS_END_CAUSE n = (latchCause n c s).rd RE_STATUS_END_CAUSE n :=
  kept_runDown.rd_same.trans (rd_wr_ne _ _ _ _ _ _ _ _ (by decide))

theorem aborts_runDown : (reel (runDown n c s) n).aborts = (reel s n).aborts := by
  obtain ⟨tick, latched⟩ := reel_latchCause (s := s) (n := n) (c := c)
  have same : (reel ((latchCause n c s).wr RE_STATUS_STATE 4 n) n).aborts = (reel s n).aborts := by rw [reel_wr, latched]
  unfold runDown
  dsimp only
  split
  · rw [reel_updReel]
    exact same
  · exact same

theorem opAt_runDown : opAt (runDown n c s) r k = opAt s r k :=
  (Kept.refl.runDown (L := Foot.substitute) .refl).opAt_same

end

/-! REEL_ABORT_LATCH (R90, R95, R96). -/

section

variable {s : State} {n : Fin 16} {r k a x : Nat} {o : Op}

/-- The engine's aborts have been taken from their queue. -/
def abortsTaken (n : Nat) (s : State) : State := updReel n (fun u => { u with aborts := [] }) s

theorem reel_abortsTaken {n : Nat} : reel (abortsTaken n s) n = { reel s n with aborts := [] } := reel_updReel

theorem naturalStands_abortsTaken {n : Nat} : naturalStands (abortsTaken n s) n = naturalStands s n := by
  simp only [naturalStands, reel_abortsTaken]
  rfl

/-- The one abort of an engine, of an earlier frame, is latched. -/
theorem exec_reelAbortLatch (one : (reel s n).aborts = [(r, k, a, x)]) (due : a < s.now) :
    exec (.reelAbortLatch n) s = .next (latchAbort n (abortsTaken n s) (r, k, a, x)) := by
  have taken : updReel n (fun u => { u with aborts := u.aborts.filter fun a => !decide (a.2.2.1 < s.now) }) s =
      abortsTaken n s := updReel_congr (by simp [one, due])
  show execReelAbortLatch n s = _
  simp only [execReelAbortLatch, taken, one, List.filter_cons, due, decide_true, if_true, List.filter_nil, List.foldl_cons,
    List.foldl_nil]

theorem reelAbortLatch_runs_runDown (one : (reel s n).aborts = [(r, k, a, s.rd START_TICK_S n)]) (due : a < s.now)
    (running : reelState s n = 3) (armed : (reel s n).op.isSome = true) (unfinished : naturalStands s n = false)
    (found : opAt s r k = some o) (opened : o.isOpen = true) (ring : r < 64) :
    Runs (.reelAbortLatch n) s fun t =>
      reelState t n = 4 ∧ t.mbit RE_STATUS_CAUSE_SEEN causeAbort n = true ∧
        (s.rd RE_STATUS_END_CAUSE n = 0 → t.rd RE_STATUS_END_CAUSE n = causeAbort) ∧ Decided t r k Code.OK 0 ∧
        (reel t n).aborts = [] := by
  have latched : latchAbort n (abortsTaken n s) (r, k, a, s.rd START_TICK_S n) =
      decideOp r k Code.OK 0 0 (runDown n causeAbort (abortsTaken n s)) := by
    have state : reelState (abortsTaken n s) n = 3 := running
    have start : (abortsTaken n s).rd START_TICK_S n = s.rd START_TICK_S n := rfl
    have held : (reel (abortsTaken n s) n).op.isNone = false := by
      rw [reel_abortsTaken, ← Option.not_isSome, armed]; rfl
    simp [latchAbort, state, start, held, naturalStands_abortsTaken, unfinished, stopReel]
  have decides : Kept Foot.decideOp (runDown n causeAbort (abortsTaken n s))
    (decideOp r k Code.OK 0 0 (runDown n causeAbort (abortsTaken n s))) := Kept.refl.decideOp .refl
  refine ⟨_, (exec_reelAbortLatch one due).trans (congrArg _ latched), decides.rd_same.trans reelState_runDown, ?_,
    fun first => ?_, decided_decideOp (opAt_runDown.trans found) opened ring.ne, ?_⟩
  · rw [State.mbit, decides.rd_same, causeSeen_runDown]
    exact mbit_latchCause (by decide)
  · rw [decides.rd_same, endCause_runDown, endCause_latchCause]
    exact if_pos first
  · rw [decides.reel_same, aborts_runDown, reel_abortsTaken]

theorem reelAbortLatch_runs_unstarted {rr kk : Nat} {p : Op} (one : (reel s n).aborts = [(r, k, a, x)]) (due : a < s.now)
    (start : x = s.rd START_TICK_S n) (waiting : reelState s n = 1 ∨ reelState s n = 2)
    (armed : (reel s n).op = some (rr, kk)) (foundReel : opAt s rr kk = some p) (openedReel : p.isOpen = true)
    (found : opAt s r k = some o) (opened : o.isOpen = true) (ring : r < 64) (ringReel : rr < 64)
    (other : (r, k) ≠ (rr, kk)) :
    Runs (.reelAbortLatch n) s fun t =>
      reelState t n = 0 ∧ t.rd RE_STATUS_END_CAUSE n = causeAbort ∧ Decided t r k Code.OK 0 ∧
        Decided t rr kk Code.ABORTED 0 := by
  have armed' : (reel (abortsTaken n s) n).op = some (rr, kk) := by rw [reel_abortsTaken]; exact armed
  have latched : latchAbort n (abortsTaken n s) (r, k, a, x) =
      decideOp r k Code.OK 0 0 (endUnstarted n Code.ABORTED causeAbort 0 (abortsTaken n s)) := by
    have same : (abortsTaken n s).rd START_TICK_S n = x := start.symm
    have state : reelState (abortsTaken n s) n = 1 ∨ reelState (abortsTaken n s) n = 2 := waiting
    rcases state with state | state <;> simp [latchAbort, stopReel, state, same, armed']
  have decides : Kept Foot.decideOp (endUnstarted n Code.ABORTED causeAbort 0 (abortsTaken n s))
    (decideOp r k Code.OK 0 0 (endUnstarted n Code.ABORTED causeAbort 0 (abortsTaken n s))) := Kept.refl.decideOp .refl
  refine ⟨_, (exec_reelAbortLatch one due).trans (congrArg _ latched), decides.rd_same.trans reelState_endUnstarted,
    decides.rd_same.trans endCause_endUnstarted, ?_, ?_⟩
  · exact decided_decideOp ((opAt_endUnstarted_ne armed' ringReel.ne other).trans found) opened ring.ne
  · exact (decided_endUnstarted armed' foundReel openedReel ringReel.ne).decideOp_ne other.symm ring.ne

theorem reelAbortLatch_runs_late (one : (reel s n).aborts = [(r, k, a, x)]) (due : a < s.now)
    (noSuchReel : reelState s n = 0 ∨ x ≠ s.rd START_TICK_S n) (found : opAt s r k = some o) (opened : o.isOpen = true)
    (ring : r < 64) :
    Runs (.reelAbortLatch n) s fun t => Decided t r k Code.ALREADY_DONE 0 ∧ reelState t n = reelState s n := by
  have latched : latchAbort n (abortsTaken n s) (r, k, a, x) = decideOp r k Code.ALREADY_DONE 0 0 (abortsTaken n s) := by
    have gone : reelState (abortsTaken n s) n = 0 ∨ (abortsTaken n s).rd START_TICK_S n ≠ x := noSuchReel.imp id Ne.symm
    rcases gone with gone | gone <;> simp [latchAbort, gone]
  exact ⟨_, (exec_reelAbortLatch one due).trans (congrArg _ latched),
    decided_decideOp (s := abortsTaken n s) found opened ring.ne, (Kept.refl.decideOp (L := Foot.decideOp) .refl).rd_same⟩

end

/-! REEL_START_TICK (R89, R90, R97). -/

section

variable {s : State} {n : Fin 16} {w0 : Nat}

/-- The lanes read the transmit FIFOs of engine n from this tick on, the word of vector cycle 0 at w0. -/
def begun (n w0 : Nat) (s : State) : State :=
  updCatch n (fun c => { c with w0 := some w0 }) (updReel n (fun u => { u with started := some s.tick.base }) s)

theorem startReady_iff : startReady s n = true ↔ (reel s n).hdrOk = true ∧ (reel s n).hdrAt + 20 ≤ s.tick.base ∧
    9 + (reel s n).dictLines ≤ (reel s n).fetched ∧
    ((reel s n).dictLines = 0 ∨ (reel s n).dictAt + 20 ≤ s.tick.base) ∧ (reel s n).initStop = true ∧
    (reel s n).stopAt + 20 ≤ s.tick.base ∧ 20 ≤ s.tick.base ∧ lanesActive s n (s.tick.base - 20) = true := by
  simp [startReady, and_assoc]

theorem reelStartTick_runs_ready (prefetching : reelState s n = 2) (cred : credited s = true)
    (due : s.rd START_TICK_S n = s.now) (ready : startReady s n = true) :
    Runs (.reelStartTick n () w0) s fun t =>
      reelState t n = (if tainted s n then 5 else 3) ∧ (catch_ t n).w0 = some w0 ∧
        (reel t n).started = some s.tick.base := by
  have begins : (reelState s n == 2 && credited s && s.rd START_TICK_S n == s.now) = true := by
    simp [prefetching, cred, due]
  have starts : exec (.reelStartTick n () w0) s =
      if tainted s n = true then
        .next (updReel n (fun u => { u with endVc := some (u.endVc.getD (nextStopAt (begun n w0 s) n)) })
          ((begun n w0 s).wr RE_STATUS_STATE 5 n))
      else .next ((begun n w0 s).wr RE_STATUS_STATE 3 n) := (if_pos begins).trans (if_pos ready)
  have started : (reel (begun n w0 s) n).started = some s.tick.base :=
    congrArg ReelU.started (reel_updReel (s := s) (f := fun u => { u with started := some s.tick.base }))
  have first {u : State} : (catch_ (updCatch n (fun c => { c with w0 := some w0 }) u) n).w0 = some w0 := by
    simp [catch_, updCatch]
  by_cases taint : tainted s n = true
  · rw [if_pos taint] at starts
    refine ⟨_, starts, ?_, first, by rwa [reel_updReel]⟩
    rw [if_pos taint]
    exact rd_wr_same ..
  · rw [if_neg taint] at starts
    refine ⟨_, starts, ?_, first, started⟩
    rw [if_neg taint]
    exact rd_wr_same ..

/-- The cause of a reel that does not start fits its field. -/
theorem earlyCause_lt : (earlyCause s n).getD causeShort < 2 ^ 4 := by
  unfold earlyCause
  dsimp only
  split
  next failed =>
    rcases failed with failed | failed <;> rw [failed] <;> decide
  · split
    · decide
    · split <;> decide

theorem reelStartTick_runs_late (prefetching : reelState s n = 2) (cred : credited s = true)
    (due : s.rd START_TICK_S n = s.now) (late : startReady s n = false) :
    Runs (.reelStartTick n () w0) s fun t =>
      reelState t n = 0 ∧ t.rd RE_STATUS_END_CAUSE n = (earlyCause s n).getD causeShort ∧ (reel t n).op = none := by
  have begins : (reelState s n == 2 && credited s && s.rd START_TICK_S n == s.now) = true := by
    simp [prefetching, cred, due]
  have ends : ∃ code, exec (.reelStartTick n () w0) s =
      .next (endUnstarted n code ((earlyCause s n).getD causeShort) 0 s) := by
    have cause : exec (.reelStartTick n () w0) s = match earlyCause s n with
      | some c => .next (endUnstarted n Code.TAINTED c 0 s)
      | none => .next (endUnstarted n Code.ABORTED causeShort 0 s) := (if_pos begins).trans (if_neg (by simp [late]))
    cases early : earlyCause s n with
    | some c => exact ⟨_, cause.trans (by rw [early]; rfl)⟩
    | none => exact ⟨_, cause.trans (by rw [early]; rfl)⟩
  obtain ⟨code, ends⟩ := ends
  exact ⟨_, ends, reelState_endUnstarted, endCause_endUnstarted.trans (Nat.mod_eq_of_lt earlyCause_lt), op_endUnstarted⟩

end

/-! REEL_HOLDING (R84, R97, R102). -/

section

variable {s : State} {n : Fin 16} {r k : Nat} {o : Op}

/-- The natural end of a burst that no other cause ends. -/
def naturalEnd (n : Nat) (s : State) : State :=
  if s.rd RE_STATUS_END_CAUSE n = 0 then latchCause n causeFinal s else s

/-- The engine holds; what it held of the burst's lines and spliced vectors is discarded. -/
def holding (n : Nat) (s : State) : State :=
  dropBuffer n (updReel n (fun u => { u with fetched := 9 + u.dictLines }) (flushSplice n (s.wr RE_STATUS_STATE 6 n)))

theorem kept_holding : Kept (Foot.flushSplice ||| Foot.setLevel) (s.wr RE_STATUS_STATE 6 n) (holding n s) :=
  (Kept.refl.flushSplice ⟨by decide +kernel⟩).updReel ⟨by decide +kernel⟩ |>.dropBuffer ⟨by decide +kernel⟩

theorem op_naturalEnd : (reel (naturalEnd n s) n).op = (reel s n).op := by
  obtain ⟨tick, latched⟩ := reel_latchCause (s := s) (n := n) (c := causeFinal)
  unfold naturalEnd
  split
  · rw [latched]
  · rfl

theorem endCause_naturalEnd (natural : s.rd RE_STATUS_END_CAUSE n ≤ 1) :
    (naturalEnd n s).rd RE_STATUS_END_CAUSE n = causeFinal := by
  unfold naturalEnd
  split
  next first => exact endCause_latchCause.trans (if_pos first)
  next other => exact Nat.le_antisymm natural (Nat.one_le_iff_ne_zero.2 other)

theorem tainted_naturalEnd : tainted (naturalEnd n s) n = tainted s n := by
  unfold naturalEnd
  split
  · exact tainted_latchCause_final
  · rfl

theorem op_holding : (reel (holding n s) n).op = (reel s n).op := by
  simp [holding, dropBuffer, setLevel, flushSplice, State.incWrap]

theorem splice_holding : (reel (holding n s) n).splice = [] := by
  simp [holding, dropBuffer, setLevel, flushSplice]

theorem level_holding : (holding n s).rd BUFFER_LEVEL_LEVEL n = 0 := by
  simp [holding, dropBuffer, setLevel]

theorem reelHolding_runs (held : (reel s n).heldAt.isSome = true) (running : reelState s n = 3)
    (natural : s.rd RE_STATUS_END_CAUSE n ≤ 1) (clean : tainted s n = false) (armed : (reel s n).op = some (r, k))
    (found : opAt s r k = some o) (opened : o.isOpen = true) (ring : r < 64)
    (shut : (reel s n).lines.all (fun l => windowShut s l.2.2) = true) :
    Runs (.reelHolding n) s fun t =>
      reelState t n = 6 ∧ Decided t r k Code.OK 0 ∧ (reel t n).splice = [] ∧ t.rd BUFFER_LEVEL_LEVEL n = 0 ∧
        t.rd RE_STATUS_END_CAUSE n = causeFinal := by
  have due : ((reel s n).heldAt.isSome && (reelState s n == 3 || reelState s n == 4 || reelState s n == 5) &&
      (reel s n).lines.all (fun l => windowShut s l.2.2)) = true := by simp [held, running, shut]
  obtain ⟨u, hu⟩ : ∃ u, u = holding n (naturalEnd n s) := ⟨_, rfl⟩
  have kept : Kept (Foot.flushSplice ||| Foot.setLevel) ((naturalEnd n s).wr RE_STATUS_STATE 6 n) u := hu ▸ kept_holding
  have cause : u.rd RE_STATUS_END_CAUSE n = causeFinal :=
    kept.rd_same.trans ((rd_wr_ne _ _ _ _ _ _ _ _ (by decide)).trans (endCause_naturalEnd natural))
  have uclean : tainted u n = false := by
    rw [tainted, kept.rd_same, rd_wr_ne _ _ _ _ _ _ _ _ (by decide)]
    exact tainted_naturalEnd.trans clean
  have ok : reelCode u n = Code.OK := by
    rw [reelCode, uclean, cause]
    rfl
  have uop : (reel u n).op = some (r, k) := by rw [hu, op_holding, op_naturalEnd, armed]
  have ufound : opAt u r k = some o := by
    refine kept.opAt_same.trans (Eq.trans ?_ found)
    exact (Kept.ite (Kept.refl.latchCause (L := Foot.latchCause) .refl) .refl : Kept _ s (naturalEnd n s)).opAt_same
  obtain ⟨v, hv⟩ : ∃ v, v = lineKeep n (holdOp r k (decideReel n Code.OK 0 (u.rd END_TICK_TICK n)
      ((reel s n).endVc.getD 0 % 2 ^ 48 + u.rd STOP_NOW_STOP_ID n * 2 ^ 48) u)) := ⟨_, rfl⟩
  have later : Kept (Foot.decideReel ||| Foot.part .catches) u (noTaint n v) := by
    rw [hv]
    exact ((Kept.refl.decideReel ⟨by decide +kernel⟩).holdOp ⟨by decide +kernel⟩).lineKeep ⟨by decide +kernel⟩
      |>.noTaint ⟨by decide +kernel⟩
  have vclean : tainted v n = false := by
    have same : Kept (Foot.part .catches) v (noTaint n v) := Kept.refl.noTaint .refl
    rw [tainted, ← same.rd_same, later.rd_same]
    exact uclean
  have holds : exec (.reelHolding n) s = .next (noTaint n v) := by
    have decides : exec (.reelHolding n) s = .next (if tainted v n then taintNotice n v else noTaint n v) := by
      refine (if_pos due).trans ?_
      simp only [armed]
      rw [hv, ← ok, hu]
      rfl
    rw [decides, vclean]
    rfl
  refine ⟨_, holds, later.rd_same.trans (kept.rd_same.trans (rd_wr_same ..)), ?_, ?_, ?_, later.rd_same.trans cause⟩
  · refine Decided.congr ?_ (Kept.refl.noTaint (L := Foot.part .catches) .refl).opAt_same
    rw [hv]
    refine Decided.congr ?_ (Kept.refl.lineKeep (L := Foot.part .catches) .refl).opAt_same
    exact (decided_decideReel uop ufound opened ring.ne).updOp (fun _ => ⟨rfl, rfl⟩) fun _ => ⟨rfl, rfl, rfl⟩
  · rw [later.reel_same, hu, splice_holding]
  · rw [later.rd_same, hu, level_holding]

end

/-! A fetch window that fetches a line (R41, R86). -/

section

variable {s : State} {n : Nat}

/-- Freeing lines changes of an engine only what its buffer holds, and frees none that has not been fetched. -/
theorem reel_freeLines : ∃ buf freed, reel (freeLines n s) n = { reel s n with opBuf := buf, freed := freed } ∧
    (reel s n).freed ≤ freed := by
  unfold freeLines
  dsimp only
  split
  next => exact ⟨_, _, rfl, Nat.le_refl _⟩
  next more => exact ⟨_, _, reel_updReel, (Nat.lt_of_not_le more).le⟩

theorem ite_updReel_congr {α : Type} {c : Prop} [Decidable c] {g : State → α} (f : ReelU → ReelU)
    (blind : g (updReel n f s) = g s) : g (if c then s else updReel n f s) = g s := by
  split
  · rfl
  · exact blind

theorem inMasks_freeLines {addr param : Nat} : inMasks (freeLines n s) addr param = inMasks s addr param :=
  ite_updReel_congr (g := (inMasks · addr param)) _ rfl

theorem bankBlocked_freeLines {addr : Nat} : bankBlocked (freeLines n s) addr = bankBlocked s addr :=
  ite_updReel_congr (g := (bankBlocked · addr)) _ rfl

/-- What a fetched line may change once it has been counted. -/
def Foot.lineTaken : Foot := Foot.lineFailed ||| Foot.takeHeader ||| Foot.field DICT_ID_LOADED_DICT_ID.id

/-- A line that is fetched counts once. -/
theorem linesFetched_fetchLine :
    (fetchLine n s).rd LINES_FETCHED_LINES n = (s.rd LINES_FETCHED_LINES n + 1) % 2 ^ 64 := by
  unfold fetchLine
  extract_lets
  split
  next read s1 delivered =>
  have read : Kept Foot.readLine s s1 := .snd (Kept.refl.readLine .refl) delivered
  extract_lets s2 s3 s4 s5 s6
  have counted : s2.rd LINES_FETCHED_LINES n = (s.rd LINES_FETCHED_LINES n + 1) % 2 ^ 64 := by
    rw [← read.rd_same]
    exact rd_wr_same ..
  have reels : (Foot.part .reels).Within Foot.lineTaken := ⟨by decide +kernel⟩
  have failed : Foot.lineFailed.Within Foot.lineTaken := ⟨by decide +kernel⟩
  have ended : Foot.endUnstarted.Within Foot.lineTaken := ⟨by decide +kernel⟩
  have k4 : Kept Foot.lineTaken s2 s4 :=
    (Kept.refl.updReel reels).andThen fun h => .ite (h.updReel reels) (.ite (h.updReel reels) (h.updReel reels))
  have k5 : Kept Foot.lineTaken s2 s5 := .ite (k4.lineFailed failed) k4
  refine Eq.trans (Kept.rd_same (L := Foot.lineTaken) (r := s2) ?_) counted
  refine .ite k5 (.ite ?_ (.ite (((k5.updReel reels).wr ⟨by decide +kernel⟩).wr ⟨by decide +kernel⟩)
    (.ite (k5.endUnstarted ended) k5)))
  split
  · exact k5.endUnstarted ended
  · exact k5.takeHeader ⟨by decide +kernel⟩

/-- A window of one line fetches it where its engine runs, has room and may touch the line. -/
theorem fetchLines_one {param : Nat} (running : reelState s n = 3) (more : (reel s n).fetched < reelLines (reel s n))
    (room : bufferLevel (reel s n) < 2048) (goes : (reel s n).stopped = false)
    (inMask : inMasks s (fetchAddr (reel s n)) param = true) (free : bankBlocked s (fetchAddr (reel s n)) = false) :
    fetchLines n param 1 s = fetchLine n (freeLines n s) := by
  obtain ⟨buf, freed, same, le⟩ := reel_freeLines (s := s) (n := n)
  have addr : fetchAddr (reel (freeLines n s) n) = fetchAddr (reel s n) := by rw [same]; rfl
  have state : reelState (freeLines n s) n = 3 := (Kept.refl.freeLines (L := Foot.part .reels) .refl).rd_same.trans running
  have left : (reel (freeLines n s) n).fetched < reelLines (reel (freeLines n s) n) := by rw [same]; exact more
  have level : bufferLevel (reel (freeLines n s) n) < 2048 := by
    rw [same]
    have : bufferLevel { reel s n with opBuf := buf, freed := freed } ≤ bufferLevel (reel s n) :=
      Nat.sub_le_sub_left le _
    omega
  have unstopped : (reel (freeLines n s) n).stopped = false := by rw [same]; exact goes
  simp [fetchLines, state, left, level, unstopped, addr, inMasks_freeLines, inMask, bankBlocked_freeLines, free]

/-- What a fetch window may change once it has fetched its lines. -/
def Foot.windowLines : Foot := Foot.setLevel ||| Foot.fetchTraffic ||| Foot.lineFailed ||| Foot.slotConflict

theorem reelFetchWindow_runs {k : Nat} {e : Slot} {meets : List (Fin 120)} (opens : opening s 0x10 k = some e)
    (start : s.offset = e.start) (armed : (reel s e.unit).op.isSome = true) (running : reelState s e.unit = 3)
    (channel : bits e.param 2 0 = (reel s e.unit).addr / 2 ^ 37) (quota : 1 ≤ bits e.param 23 8)
    (more : (reel s e.unit).fetched < reelLines (reel s e.unit)) (room : bufferLevel (reel s e.unit) < 2048)
    (goes : (reel s e.unit).stopped = false) (inMask : inMasks s (fetchAddr (reel s e.unit)) e.param = true)
    (free : bankBlocked s (fetchAddr (reel s e.unit)) = false) :
    Runs (.reelFetchWindow k ⟨1, none, none, meets⟩) s fun t =>
      t.rd LINES_FETCHED_LINES e.unit = (s.rd LINES_FETCHED_LINES e.unit + 1) % 2 ^ 64 ∧
        (t.tick.wins.any fun w => w.idx == k) = true := by
  obtain ⟨fetched, fetch⟩ : ∃ u, u = fetchLine e.unit (freeLines e.unit s) := ⟨_, rfl⟩
  have runs : ∃ complete u, exec (.reelFetchWindow k ⟨1, none, none, meets⟩) s = .next (openWin k e complete u) ∧
      Kept Foot.windowLines fetched u := by
    have now : windowStart e s = s := if_neg (by omega)
    have one : fetchLines e.unit e.param (min (bits e.param 23 8) 1) s = fetched := by
      rw [Nat.min_eq_right quota, fetchLines_one running more room goes inMask free, fetch]
    obtain ⟨traffic, named, keeps⟩ : ∃ f, f = Machine.fetchTraffic ∧ ∀ a b n g p o t,
        Kept Foot.windowLines fetched t → Kept Foot.windowLines fetched (f a b n g p o t).2 :=
      ⟨_, rfl, fun _ _ _ _ _ _ _ k => k.fetchTraffic ⟨by decide +kernel⟩⟩
    show ∃ complete u, execReelFetchWindow k ⟨1, none, none, meets⟩ s = _ ∧ _
    unfold execReelFetchWindow
    rw [← named]
    split
    next none => cases none.symm.trans opens
    next e' some =>
    cases some.symm.trans opens
    extract_lets s1 n quota mine before asked count s2
    have ours : mine = true := by
      simp only [mine, s1, n, now, armed, channel, decide_true, Bool.and_self]
    have k2 : Kept Foot.windowLines fetched s2 := by
      have noted : s2 = noteLevel e.unit fetched := by
        simp only [s2, ours, if_true, s1, n, quota, now, one]
      rw [noted]
      exact Kept.refl.noteLevel ⟨by decide +kernel⟩
    split
    next bad s3 fetches =>
    have k3 : Kept Foot.windowLines fetched s3 := .snd (keeps _ _ _ _ _ _ _ k2) fetches
    exact ⟨_, _, rfl, (Kept.ite (k3.lineFailed ⟨by decide +kernel⟩) k3).meetsAt ⟨by decide +kernel⟩⟩
  obtain ⟨complete, u, exec, later⟩ := runs
  refine ⟨_, exec, ?_, ?_⟩
  · refine later.rd_same.trans ?_
    rw [fetch, linesFetched_fetchLine, (Kept.refl.freeLines (L := Foot.part .reels) .refl).rd_same]
  · simp [openWin]

end

/-- Settles O9, clause by clause. -/
theorem reelLifeResults : Obligations.ReelLifeResults := by
  unfold Obligations.ReelLifeResults
  refine ⟨?start, fun _ _ _ _ _ => reelStart_runs_refused, fun _ _ _ => reelAbort_runs,
    fun _ _ _ _ _ _ => reelAbortLatch_runs_runDown, fun _ _ _ _ _ _ _ _ _ _ => reelAbortLatch_runs_unstarted,
    fun _ _ _ _ _ _ _ => reelAbortLatch_runs_late, fun _ _ => reelPrefetchStart_runs, ?ready, ?late,
    fun _ _ => reelNaturalCompletion_runs, fun _ _ _ _ _ => reelHolding_runs, fun _ _ => flushDict_runs,
    fun _ _ => flushDict_of_busy, ?window⟩
  case start =>
    intro r o s waits aligned least most tick idle group channel control
    exact reelStart_runs_ok waits (reelStartCheck_none aligned least most tick idle group channel control)
  case ready =>
    intro n w0 s prefetching cred due header headerAt lines dictAt stop stopAt lanes
    exact reelStartTick_runs_ready prefetching cred due
      (startReady_iff.2 ⟨header, headerAt, lines, .inr dictAt, stop, stopAt, by omega, lanes⟩)
  case late =>
    intro n w0 s prefetching cred due late
    refine reelStartTick_runs_late prefetching cred due (Bool.eq_false_iff.2 fun ready => ?_)
    obtain ⟨header, headerAt, lines, dictAt, stop, stopAt, -, lanes⟩ := startReady_iff.1 ready
    rcases late with h | h | h | h | h | h | h
    · simp [header] at h
    · simp [stop] at h
    · omega
    · omega
    · omega
    · omega
    · simp [lanes] at h
  case window =>
    intro k e meets s opens start armed running channel quota more room goes inMask free _
    exact reelFetchWindow_runs opens start armed running channel quota more room goes inMask free

end Sys2Proof

namespace Sys2Proof

open Machine Machine.F

/-! A DEBUG_READ of a space that does not exist (R348), ended by an ABORT. -/

/-- A DEBUG_READ of 64 bytes into host memory at 1000h that runs on ring 2, of the reserved space 5. -/
def strayRead : Op := { ring := 2, idx := 7, desc := [2, 5, 0, 0x1000, 64], phase := .running }

/-- It runs, an ABORT that names it has arrived before the present frame, and bit 800 of frame 0 of the block 0 is set. -/
def strayReads : State :=
  (((State.reset.wr TICK_NOW_TICK 5).updOps fun _ => [strayRead]).updFrames fun _ => [(frameIdx 0 0, 2 ^ 800)]).updHost fun h =>
    { h with aborts := [{ ring := 3, idx := 1, frame := 4, onRing := 2, onIdx := 7 }] }

/-- The bytes that the operations running there may store to, as the statement names them. -/
theorem moveRanges_strayReads : moveRanges strayReads = [(0x1000, 64)] := by decide +kernel

/-- The host memory that HOST_ABORT_LATCH leaves, one unit of the read having moved. -/
def strayStored : Mem := (match exec (.hostAbortLatch 1) strayReads with | .next t => t | _ => strayReads).hostMem

theorem strayStored_beyond : memRd strayStored (0x1000 + 100) 1 = 1 := by decide +kernel

/-- Refutes O57: the clause on the commands that end a transfer does not ask that a DEBUG_READ that runs is of one of the five
spaces, as the clause on DEBUG_READ does. One unit of space 5 counts as 64 bytes, and is read as a frame of 384. -/
theorem not_memoryKept : ¬ Obligations.MemoryKept := by
  unfold Obligations.MemoryKept
  rintro ⟨-, -, -, -, -, ended, -⟩
  have kept := ended (.hostAbortLatch 1) strayReads _ (.inl ⟨1, rfl⟩) rfl (0x1000 + 100)
    (by rw [moveRanges_strayReads]; decide)
  have before : memRd strayReads.hostMem (0x1000 + 100) 1 = 0 := by decide +kernel
  exact absurd (strayStored_beyond.symm.trans (kept.trans before)) (by decide)

end Sys2Proof

namespace Sys2Proof

open Machine Machine.F

/-! The flush window of a catch block that does not exist (R34, R123, R239). -/

/-- A record that waits in the flow of a catch block. -/
def strayRecord : Rec :=
  { type := 1, vc := 0, lane := 0, flags := 0, body := 0, length := 1, bp := 0, tick := 0, off := 0, dev := 0, seq := 0 }

/-- The only entry of the schedule: at core cycle 0, a flush window of block 255, of 100 core cycles and up to five lines, to
channel 0, that may touch every bank of the four ranks. -/
def strayEntry : Slot := { type := 0x20, unit := 255, start := 0, length := 100, param := 0xFFFFFFFF00000578, rsv := 0 }

/-- A schedule of one frame with that entry. -/
def straySchedule : Mem :=
  memWr (memWr (memWr [] 0x1000 0x10000 8) 0x10000 (0x20 + 255 * 256 + 100 * 2 ^ 33) 8) 0x10008 strayEntry.param 8

/-- The schedule is in force, block 255 has two records and a ring of 64 lines at the start of channel 0, which is READY, and a
parity error is armed on the first hop from where the port of the block would be: at the router 273, of 120. -/
def strayFlush : State :=
  let scheduled := (State.reset.updSched fun _ => straySchedule).wr SCHED_POS_CYCLE_LEN 1
  let channel := (scheduled.wr DC_STATUS_STATE 2).wr DC_CAPACITY_BYTES (2 ^ 36)
  let block := updCatch 255 (fun u => { u with flow := [strayRecord, strayRecord] }) (channel.wr CM_LINES_LINES 64 255)
  (block.wr NR_INJECT_DIR 3 273).wr NR_INJECT_INJ_PARITY 1 273

theorem opening_strayFlush : opening strayFlush 0x20 0 = some strayEntry := by decide +kernel

/-- The parity error meets the line, which is refused, so that the write index stays. -/
theorem strayFlush_stays :
    (match exec (.catchFlushWindow 0 ⟨1, none, none, []⟩) strayFlush with
      | .next t => t.rd CM_WR_INDEX strayEntry.unit
      | _ => 2) = 0 := by
  decide +kernel

/-- Refutes O12: the clause on a flush window that writes its line asks for no armed parity error at any of the 120 routers, but
not that the entry names one of the 16 catch blocks. -/
theorem not_catchRecordResults : ¬ Obligations.CatchRecordResults := by
  unfold Obligations.CatchRecordResults
  rintro ⟨-, -, -, -, -, -, -, -, -, -, flushes, -⟩
  obtain ⟨t, e, index, -⟩ := flushes 0 strayEntry strayRecord strayRecord [] [] strayFlush opening_strayFlush
    (by decide +kernel) (by decide +kernel) (by decide +kernel) (by decide +kernel) (by decide +kernel) (by decide +kernel)
    (by decide +kernel) (by decide +kernel) (by decide +kernel) (by decide +kernel) (by decide +kernel) (by decide +kernel)
    (by decide +kernel)
  have stays := strayFlush_stays
  rw [e] at stays
  have before : strayFlush.rd CM_WR_INDEX strayEntry.unit = 0 := by decide +kernel
  rw [before] at index
  exact absurd (index.symm.trans stays) (by decide)

end Sys2Proof

namespace Sys2Proof

open Machine Machine.F

set_option Elab.async false

/-! A catch block beside its registers, and what keeps it. -/

section

variable {s t : State} {n : Nat} {f : CatchU → CatchU}

@[simp] theorem catch_updCatch : catch_ (updCatch n f s) n = f (catch_ s n) := by
  simp [catch_, updCatch]

theorem catch_congr (same : t.catches = s.catches) : catch_ t n = catch_ s n := by
  rw [catch_, same, catch_]

@[simp] theorem catch_wr {g : Fld} {v i j : Nat} : catch_ (s.wr g v i j) n = catch_ s n := rfl

@[simp] theorem rd_updCatch {g : Fld} {i j : Nat} : (updCatch n f s).rd g i j = s.rd g i j := rfl

/-- A footprint without the catch blocks keeps each of them. -/
theorem Kept.catch_same {L : Foot} (h : Kept L s t) (apart : L &&& Foot.part .catches = 0 := by decide +kernel) :
    catch_ t n = catch_ s n :=
  catch_congr (h.parts .catches (Foot.not_within_of_land apart (Foot.testBit_place.2 rfl)))

end

/-! A bit of a mask field, after one has been set or cleared. -/

section

variable {s : State} {f : Fld} {b c i j : Nat} {v : Bool}

/-- A bit that is set reads clear once its value is taken off. -/
theorem testBit_sub_two_pow {x : Nat} (set : x.testBit b = true) : (x - 2 ^ b).testBit b = false := by
  have whole : 2 ^ b + (x - 2 ^ b) = x := by
    have := Nat.ge_two_pow_of_testBit set
    omega
  have flips := Nat.testBit_two_pow_add_eq (x - 2 ^ b) b
  rw [whole, set] at flips
  simpa using flips.symm

/-- The bit reads what it was given. -/
theorem mbit_setmbit_same (wide : b < f.width) : (s.setmbit f b v i j).mbit f b i j = v := by
  rw [State.mbit, State.setmbit, rd_wr_same, Nat.testBit_mod_two_pow, decide_eq_true wide, Bool.true_and]
  cases v with
  | true => simp
  | false =>
    rw [if_neg Bool.false_ne_true]
    split
    next set => exact testBit_sub_two_pow set
    next clear => simpa using clear

/-- Setting a bit clears no other. -/
theorem mbit_setmbit_true (wide : b < f.width) (set : s.mbit f b i j = true) :
    (s.setmbit f c true i j).mbit f b i j = true := by
  rw [State.mbit] at set
  rw [State.mbit, State.setmbit, rd_wr_same, Nat.testBit_mod_two_pow, if_pos rfl, Nat.testBit_or, set, decide_eq_true wide]
  rfl

end

end Sys2Proof

namespace Sys2Proof

open Machine Machine.F

set_option Elab.async false

/-! The wipe of the ember region (R388, R434, R435). -/

section

variable {s : State}

/-- A table without the keys from a bound on reads its default there. -/
theorem sget_filter_lt {α : Type} (d : α) {bound k : Nat} (h : bound ≤ k) : ∀ m : List (Nat × α),
    sget d (m.filter fun c => decide (c.1 < bound)) k = d
  | [] => rfl
  | (a, w) :: m => by
    rw [List.filter_cons]
    split
    next low =>
      have : a ≠ k := fun e => by simp only [e, decide_eq_true_eq] at low; omega
      rw [sget, if_neg this, sget_filter_lt d h m]
    next => exact sget_filter_lt d h m

/-- Bytes that all read 0 make the number 0. -/
theorem memRd_of_zeros {m : Mem} : ∀ {n a : Nat}, (∀ k, a ≤ k → sget (0 : Byte) m k = 0) → memRd m a n = 0
  | 0, _, _ => rfl
  | n + 1, a, h => by
    rw [memRd, h a le_rfl, memRd_of_zeros fun k hk => h k (by omega)]
    rfl

theorem clearEmber_scratch : (clearEmber s).scratch = s.scratch.filter fun c => decide (c.1 < 0x780000) := by
  unfold clearEmber
  dsimp only
  split
  · split
    · rfl
    · split <;> rfl
  · rfl

theorem keyWipe_scratch : (keyWipe s).scratch = s.scratch :=
  (Kept.refl.keyWipe .refl).parts .scratch fun k => absurd k.eq (by decide +kernel)

/-- What a wipe changes once it has cleared the state of the keys. -/
@[irreducible] def Foot.sealRanges : Foot := .of [RANGE_STATUS_STATE, EN_STATUS_SEALED_ANY] [.enc]

theorem keyState_keyWipe {k : Nat} : keyState (keyWipe s) k = 0 := by
  unfold keyWipe
  extract_lets cleared
  have hl : Foot.sealRanges.Within Foot.sealRanges := .refl
  refine Eq.trans (b := cleared.rd KEY_STATE_STATE 0 k) (Kept.rd_same (L := Foot.sealRanges) ?_)
    (rd_clrAll_mem _ _ _ _ _ (by decide +kernel) (by decide))
  exact (Kept.refl.foldl fun _ _ h => .ite h.wr h).setb.updEngine

/-- A wipe that starts, for a cause that is told. -/
theorem emberWipe_of_idle {cause : Nat} (idle : s.flag SP_STATUS_WIPING = false) (told : cause ≠ 4) :
    emberWipe cause s = raise E.EMBER_WIPED 0 cause (((((keyWipe (clearEmber s)).incSat SP_WIPE_WIPES).wr SP_WIPE_LAST_CAUSE
      cause).wr SP_WIPE_TICK_TICK (keyWipe (clearEmber s)).now).wr SP_STATUS_WIPING 1) := by
  simp only [emberWipe, idle, if_neg told, Bool.false_eq_true, if_false]

/-- The wipe that starts clears the ember region and empties every key slot of the engine. -/
theorem emberWipe_clears {cause : Nat} (idle : s.flag SP_STATUS_WIPING = false) (told : cause ≠ 4) :
    memRd (emberWipe cause s).scratch 0x780000 8 = 0 ∧ ∀ k, keyState (emberWipe cause s) k = 0 := by
  rw [emberWipe_of_idle idle told]
  constructor
  · refine memRd_of_zeros fun k hk => ?_
    rw [raise_scratch, wr_scratch, wr_scratch, wr_scratch, State.incSat, wr_scratch, keyWipe_scratch, clearEmber_scratch]
    exact sget_filter_lt _ hk _
  · intro k
    rw [keyState, rd_raise (by decide +kernel), rd_wr_ne _ _ _ _ _ _ _ _ (by decide), rd_wr_ne _ _ _ _ _ _ _ _ (by decide),
      rd_wr_ne _ _ _ _ _ _ _ _ (by decide), State.incSat, rd_wr_ne _ _ _ _ _ _ _ _ (by decide)]
    exact keyState_keyWipe

/-- After the start of a wipe one runs, also where another ran already. -/
theorem wiping_emberWipe {cause : Nat} (told : cause ≠ 4) : (emberWipe cause s).rd SP_STATUS_WIPING ≠ 0 := by
  by_cases idle : s.flag SP_STATUS_WIPING = false
  · rw [emberWipe_of_idle idle told, rd_raise (by decide +kernel), rd_wr_same]
    decide
  · rw [Bool.not_eq_false] at idle
    rw [emberWipe, idle, if_pos rfl]
    simpa [State.flag] using idle

end

/-! The tamper sensors (R437, R438). -/

section

variable {s : State} {m : Nat}

/-- The sensors that fire are recorded with the tick, and the ember region is wiped. -/
structure SensorsTaken (m : Nat) (s t : State) : Prop where
  sensors : t.rd TP_LAST_SENSORS = m
  tick : t.rd TP_LAST_TICK_TICK = s.now % 2 ^ 64
  wiping : t.rd SP_STATUS_WIPING ≠ 0
  cleared : s.flag SP_STATUS_WIPING = false → memRd t.scratch 0x780000 8 = 0 ∧ ∀ k, keyState t k = 0

/-- TP_MASK acts in Developer alone: in another state every sensor of the mask is taken. -/
theorem fireSensors_takes {injected : Bool} (fires : m ≠ 0) (four : m < 16) (state : lifecycle s ≠ 1) :
    SensorsTaken m s (fireSensors m injected s) := by
  simp only [fireSensors, Nat.mod_eq_of_lt four, if_neg state, if_neg fires]
  generalize counts : (List.range 4).foldl _ s = counted
  have kept : Kept (Foot.field TP_COUNTS_COUNTS.id) s counted := by
    rw [← counts]
    exact Kept.refl.foldl fun _ _ h => .ite (h.incByte .refl) h
  have recorded {g : Fld} (hg : ∀ f ∈ eventFields, g.id ≠ f.id) (sensors : g.id ≠ TP_LAST_SENSORS.id)
      (tick : g.id ≠ TP_LAST_TICK_TICK.id) :
      (raiseInj E.TAMPER_DETECTED 0 m injected ((counted.wr TP_LAST_SENSORS m).wr TP_LAST_TICK_TICK counted.now)).rd g =
        counted.rd g := by
    rw [rd_raiseInj hg, rd_wr_ne _ _ _ _ _ _ _ _ tick, rd_wr_ne _ _ _ _ _ _ _ _ sensors]
  have now : counted.now = s.now := kept.rd_same
  refine ⟨(Kept.refl.emberWipe (L := Foot.emberWipe) .refl).rd_same.trans ?_,
    (Kept.refl.emberWipe (L := Foot.emberWipe) .refl).rd_same.trans ?_, wiping_emberWipe (by decide), fun idle => ?_⟩
  · rw [rd_raiseInj (by decide +kernel), rd_wr_ne _ _ _ _ _ _ _ _ (by decide), rd_wr_same]
    exact Nat.mod_eq_of_lt four
  · rw [rd_raiseInj (by decide +kernel), rd_wr_same, now]
    rfl
  · refine emberWipe_clears ?_ (by decide)
    rw [State.flag, recorded (by decide +kernel) (by decide) (by decide), kept.rd_same]
    exact idle

theorem tamperSensorFire_runs {m : Fin 16} (fires : m ≠ 0) (state : lifecycle s ≠ 1) (on : s.boot.por = false) :
    Runs (.tamperSensorFire m) s (SensorsTaken m s) := by
  refine ⟨fireSensors m false s, ?_, fireSensors_takes (fun e => fires (Fin.ext e)) m.isLt state⟩
  show Host.Outcome.next _ = _
  rw [on, if_neg Bool.false_ne_true]

theorem exec_tamperSensorFire_of_masked {m : Fin 16}
    (masked : s.boot.por = true ∨ (lifecycle s = 1 ∧ m.val - (m.val &&& s.rd TP_MASK_MASK) = 0)) :
    exec (.tamperSensorFire m) s = .next s := by
  show Host.Outcome.next (if s.boot.por then s else fireSensors m false s) = _
  rcases masked with off | ⟨state, none⟩
  · rw [if_pos off]
  · have same : fireSensors m false s = s := by
      simp only [fireSensors, Nat.mod_eq_of_lt m.isLt, if_pos state, if_pos none]
    rw [same, ite_self]

end

/-! Actions of the injection registers that are performed as they are armed (R469, R470; log entry 56). -/

section

variable {s : State} {f : Fld} {off i v b : Nat}

/-- What permits an action is kept by the fields of other registers. -/
theorem permitted_wr {x j : Nat} (state : LC_STATUS_STATE.id ≠ f.id) (permit : INJ_PERMIT_PERMIT.id ≠ f.id) :
    permitted (s.wr f x i j) b = permitted s b := by
  simp only [permitted, lifecycle, State.mbit, rd_wr_ne _ _ _ _ _ _ _ _ state, rd_wr_ne _ _ _ _ _ _ _ _ permit]

theorem injField_of_selector (h : permitBit f = none) : injField off i v f s = s := by
  simp only [injField, h]

theorem injField_of_permitted (h : permitBit f = some b) (ok : permitted s b = true) (named : bits v f.hi f.lo ≠ 0) :
    injField off i v f s = performNow f i (s.wr f (s.rd f i ||| bits v f.hi f.lo) i) := by
  simp only [injField, h, ok, if_neg named, if_true]

/-- An action that has its occasion later is armed or, where the value does not name it, left as it is. -/
theorem injField_of_later (h : permitBit f = some b) (ok : permitted s b = true)
    (later : ∀ u, performNow f i u = u) :
    injField off i v f s = s ∨ ∃ x, injField off i v f s = s.wr f x i := by
  by_cases named : bits v f.hi f.lo = 0
  · exact .inl (by simp only [injField, h, if_pos named])
  · exact .inr ⟨_, (injField_of_permitted h ok named).trans (later _)⟩

/-- The value written takes the selectors first, and then its actions in order. -/
theorem injCommand_of_row {r : RegRow} (row : rowOf f = some r) (unit : i < r.instances) (named : bits v f.hi f.lo ≠ 0) :
    injCommand f i v s = injWrite r i v s := by
  simp only [injCommand, row, if_pos (And.intro unit named)]

/-- The row of CB_INJECT. -/
def delayRow : RegRow :=
  ⟨0x110001c, [(0x10000, 16)], [], 32, [CB_INJECT_LANE, CB_INJECT_INJ_DISAGREE, CB_INJECT_INJ_DELAY]⟩

/-- The write takes LANE, and last performs INJ_DELAY. -/
theorem injWrite_delay (ok : permitted s 0 = true) (named : bits v 9 9 ≠ 0) :
    ∃ u, injWrite delayRow i v s = performDelay i u ∧ catch_ u i = catch_ s i ∧ u.rd CB_INJECT_LANE i = bits v 2 0 := by
  have lane : permitBit CB_INJECT_LANE = none := by decide +kernel
  have disagree : permitBit CB_INJECT_INJ_DISAGREE = some 0 := by decide +kernel
  have delay : permitBit CB_INJECT_INJ_DELAY = some 0 := by decide +kernel
  have selected : delayRow.fields.foldl (fun t f => if (permitBit f).isSome then t else writeField t f i 0 v) s =
      s.wr CB_INJECT_LANE (bits v 2 0) i := by
    simp only [delayRow, List.foldl_cons, List.foldl_nil, lane, disagree, delay, Option.isSome_none, Option.isSome_some,
      if_true, Bool.false_eq_true, if_false]
    rfl
  have taken : (s.wr CB_INJECT_LANE (bits v 2 0) i).rd CB_INJECT_LANE i = bits v 2 0 :=
    (rd_wr_same ..).trans (Nat.mod_eq_of_lt bits_lt)
  have ok : permitted (s.wr CB_INJECT_LANE (bits v 2 0) i) 0 = true := (permitted_wr (by decide) (by decide)).trans ok
  have performed {u : State} (ok : permitted u 0 = true) :
      injField (delayRow.offsetOf i 0) i v CB_INJECT_INJ_DELAY u = performDelay i (u.wr CB_INJECT_INJ_DELAY _ i) :=
    injField_of_permitted delay ok named
  unfold injWrite
  rw [selected]
  simp only [delayRow, List.foldl_cons, List.foldl_nil, injField_of_selector lane]
  rcases injField_of_later (off := delayRow.offsetOf i 0) (i := i) (v := v) disagree ok (fun _ => rfl) with e | ⟨x, e⟩
  · rw [delayRow] at e performed
    rw [e, performed ok]
    exact ⟨_, rfl, rfl, (rd_wr_ne _ _ _ _ _ _ _ _ (by decide)).trans taken⟩
  · rw [delayRow] at e performed
    rw [e, performed ((permitted_wr (by decide) (by decide)).trans ok)]
    exact ⟨_, rfl, rfl, (rd_wr_ne _ _ _ _ _ _ _ _ (by decide)).trans
      ((rd_wr_ne _ _ _ _ _ _ _ _ (by decide)).trans taken)⟩

/-- INJ_DELAY inverts bit 0 of the working delay of the lane that LANE names in the same write. -/
theorem injDelay_runs {n : Fin 16} (ok : permitted s 0 = true) (named : bit v 9 = true) :
    Runs (.injDelay n v) s fun t => t.rd CB_INJECT_INJ_DELAY n = 0 ∧
      sget 0 (catch_ t n).workDiff (bits v CB_INJECT_LANE.hi CB_INJECT_LANE.lo) =
        sget 0 (catch_ s n).workDiff (bits v CB_INJECT_LANE.hi CB_INJECT_LANE.lo) ^^^ 1 := by
  have action : bits v 9 9 ≠ 0 := by
    rw [bit, Nat.testBit_eq_decide_div_mod_eq, decide_eq_true_eq] at named
    simp [bits, named]
  have row : rowOf CB_INJECT_INJ_DELAY = some delayRow := by decide +kernel
  obtain ⟨u, run, catches, lane⟩ := injWrite_delay (i := n) ok action
  refine ⟨performDelay n u, ?_, ?_⟩
  · rw [← run]
    exact congrArg _ (injCommand_of_row row n.isLt action)
  · simp only [performDelay, lane, catch_updCatch, rd_updCatch, rd_wr_same, catch_wr, catches]
    exact ⟨rfl, sget_sput_same ..⟩

/-- The tamper sensors of INJ_SENSOR fire as they are armed. -/
theorem tpInjSensor_runs (ok : permitted s 15 = true) (state : lifecycle s ≠ 1) (named : bits v 3 0 ≠ 0)
    (clear : s.rd TP_INJECT_INJ_SENSOR = 0) :
    Runs (.tpInjSensor v) s fun t =>
      t.rd TP_INJECT_INJ_SENSOR = 0 ∧ t.rd TP_LAST_SENSORS = bits v 3 0 ∧ t.rd TP_LAST_TICK_TICK = s.now % 2 ^ 64 ∧
        t.rd SP_STATUS_WIPING ≠ 0 := by
  have row : rowOf TP_INJECT_INJ_SENSOR = some ⟨0x404, [], [], 32, [TP_INJECT_INJ_SENSOR]⟩ := by decide +kernel
  have sensor : permitBit TP_INJECT_INJ_SENSOR = some 15 := by decide +kernel
  have run : exec (.tpInjSensor v) s = .next (performNow TP_INJECT_INJ_SENSOR 0 (s.wr TP_INJECT_INJ_SENSOR (bits v 3 0))) := by
    refine congrArg _ ((injCommand_of_row row Nat.zero_lt_one named).trans ?_)
    simp only [injWrite, List.foldl_cons, List.foldl_nil, sensor, Option.isSome_some, if_true,
      injField_of_permitted sensor ok named, clear, Nat.zero_or]
    rfl
  have armed : (s.wr TP_INJECT_INJ_SENSOR (bits v 3 0)).rd TP_INJECT_INJ_SENSOR = bits v 3 0 :=
    (rd_wr_same ..).trans (Nat.mod_eq_of_lt bits_lt)
  have performed : performNow TP_INJECT_INJ_SENSOR 0 (s.wr TP_INJECT_INJ_SENSOR (bits v 3 0)) =
      fireSensors (bits v 3 0) true ((s.wr TP_INJECT_INJ_SENSOR (bits v 3 0)).wr TP_INJECT_INJ_SENSOR 0) := by
    rw [performNow, if_neg (by decide), if_neg (by decide), if_neg (by decide), if_pos rfl, armed]
  rw [performed] at run
  have taken := fireSensors_takes (injected := true)
    (s := (s.wr TP_INJECT_INJ_SENSOR (bits v 3 0)).wr TP_INJECT_INJ_SENSOR 0) named bits_lt
    (by rwa [lifecycle, rd_wr_ne _ _ _ _ _ _ _ _ (by decide), rd_wr_ne _ _ _ _ _ _ _ _ (by decide)])
  refine ⟨_, run, ?_, taken.sensors, taken.tick.trans ?_, taken.wiping⟩
  · rw [(Kept.refl.fireSensors (L := Foot.fireSensors) .refl).rd_same, rd_wr_same]
    rfl
  · rw [State.now, rd_wr_ne _ _ _ _ _ _ _ _ (by decide), rd_wr_ne _ _ _ _ _ _ _ _ (by decide)]
    rfl

end

/-! The tests of the compare and delay checkers (R468). -/

section

variable {s : State} {n : Fin 16} {lost : Fld} {arg : Nat} {fails : Bool}

theorem mbit_checkerResult (sixteen : lost.width = 16) (hl : ∀ f ∈ eventFields, lost.id ≠ f.id) :
    (checkerResult lost arg n fails false s).mbit lost n = fails := by
  have taken (v : Bool) : (s.setmbit lost n v).mbit lost n = v := mbit_setmbit_same (by have := n.isLt; omega)
  cases fails with
  | true =>
    simp only [checkerResult, Bool.true_or, if_true]
    rw [State.mbit, rd_raiseInj hl]
    exact taken true
  | false => exact taken false

theorem rd_checkerResult {g : Fld} {i j : Nat} (hg : ∀ f ∈ eventFields, g.id ≠ f.id) (other : g.id ≠ lost.id) :
    (checkerResult lost arg n fails false s).rd g i j = s.rd g i j := by
  unfold checkerResult
  split
  · exact (rd_raiseInj hg).trans (rd_wr_ne _ _ _ _ _ _ _ _ other)
  · exact rd_wr_ne _ _ _ _ _ _ _ _ other

theorem checkerTest_runs {cmp dly : Bool} (cred : credited s = true) (late : s.period ≤ s.offset + 16)
    (noCmp : s.rd FI_CHECK_INJECT_INJ_CMP_CHECK = 0) (noDly : s.rd FI_CHECK_INJECT_INJ_DLY_CHECK = 0) :
    Runs (.checkerTest n cmp dly) s fun t =>
      t.mbit FI_CHECK_STATUS_CMP_LOST n = cmp ∧ t.mbit FI_CHECK_STATUS_DLY_LOST n = dly := by
  have run : exec (.checkerTest n cmp dly) s = .next (checkerResult FI_CHECK_STATUS_DLY_LOST 2 n dly false
      (checkerResult FI_CHECK_STATUS_CMP_LOST 1 n cmp false s)) := by
    show execCheckerTest n cmp dly s = _
    simp only [execCheckerTest, cred, late, decide_true, Bool.and_self, if_true, takeInj_of_clear noCmp]
    rw [takeInj_of_clear ((rd_checkerResult (by decide +kernel) (by decide)).trans noDly)]
  refine ⟨_, run, ?_, mbit_checkerResult rfl (by decide +kernel)⟩
  rw [State.mbit, rd_checkerResult (by decide +kernel) (by decide)]
  exact mbit_checkerResult rfl (by decide +kernel)

end

/-- Settles O36: an injection of a permitted action writes its register and performs the action in the same step, which is
what log entry 56 gives; a sensor that is taken ends in `fireSensors`, and a checker's bit is what its test has given it. -/
theorem faultResults : Obligations.FaultResults := by
  unfold Obligations.FaultResults
  refine ⟨fun _ _ _ ok named _ => injDelay_runs ok named,
    fun _ _ ok state named clear => tpInjSensor_runs ok state named clear, ?fire,
    fun _ _ masked => exec_tamperSensorFire_of_masked masked,
    fun _ _ _ _ cred late noCmp noDly => checkerTest_runs cred late noCmp noDly, ?early⟩
  case fire =>
    intro m s fires state on
    obtain ⟨t, run, taken⟩ := tamperSensorFire_runs fires state on
    refine ⟨t, run, taken.sensors, taken.tick, taken.wiping, fun idle => ?_⟩
    obtain ⟨cleared, keys⟩ := taken.cleared idle
    exact ⟨cleared, fun k => keys k⟩
  case early =>
    intro n cmp dly s early
    show (if _ then _ else Host.Outcome.next s) = _
    rw [if_neg (by simp; omega)]

end Sys2Proof

namespace Sys2Proof

open Machine Machine.F

set_option Elab.async false

theorem rd_markFrame {g : Fld} {i j : Nat} {s : State} : (markFrame s).rd g i j = s.rd g i j := rfl

/-! What the operations of a catch block that take no failing word leave: the fail port, and every _SEEN bit that is set. -/

/-- What the fail port of a catch block has taken: the lanes and the bits. -/
def failPort (s : State) (n : Nat) : Nat × Nat := ((catch_ s n).cfFail, (catch_ s n).cfBits)

/-- The fail port of block n is as it was, and no _SEEN bit has been cleared. -/
structure PortKept (n : Nat) (s t : State) : Prop where
  port : failPort t n = failPort s n
  seen : ∀ b < 5, s.mbit CB_STATUS_SEEN b n = true → t.mbit CB_STATUS_SEEN b n = true

section

variable {n i : Nat} {r s t u : State} {f : CatchU → CatchU}

/-- A footprint without the catch blocks keeps the fail port. -/
theorem Kept.failPort_same {L : Foot} (h : Kept L s t) (apart : L &&& Foot.part .catches = 0 := by decide +kernel) :
    failPort t n = failPort s n := by
  rw [failPort, h.catch_same apart, failPort]

theorem failPort_updCatch (same : ∀ u, ((f u).cfFail, (f u).cfBits) = (u.cfFail, u.cfBits)) :
    failPort (updCatch n f s) n = failPort s n := by
  rw [failPort, catch_updCatch]
  exact same _

namespace PortKept

theorem refl : PortKept n s s := ⟨rfl, fun _ _ => id⟩

theorem trans (h : PortKept n r s) (k : PortKept n s t) : PortKept n r t :=
  ⟨k.port.trans h.port, fun b low set => k.seen b low (h.seen b low set)⟩

theorem ite {c : Prop} {_ : Decidable c} (h : PortKept n r s) (k : PortKept n r t) : PortKept n r (if c then s else t) := by
  split <;> assumption

theorem snd {α : Type} {p : α × State} {a : α} (h : PortKept n r p.2) (e : p = (a, t)) : PortKept n r t := by
  rwa [e] at h

theorem foldl {α : Type} {g : State → α → State} {l : List α} (h : PortKept n r s)
    (hg : ∀ a t, PortKept n r t → PortKept n r (g t a)) : PortKept n r (l.foldl g s) := by
  induction l generalizing s with
  | nil => exact h
  | cons a l ih => exact ih (hg a _ h)

/-- A footprint with neither the catch blocks nor the field SEEN. -/
theorem apart {L : Foot} (h : PortKept n r s) (k : Kept L s t) (catches : L &&& Foot.part .catches = 0 := by decide +kernel)
    (seen : L &&& (Foot.field CB_STATUS_SEEN.id ||| Foot.reset ||| Foot.waiting ||| Foot.staged) = 0 := by decide +kernel) :
    PortKept n r t :=
  h.trans ⟨k.failPort_same catches, fun b _ set => by rwa [State.mbit, k.rd_same seen]⟩

theorem updCatch (h : PortKept n r s)
    (same : ∀ u, ((f u).cfFail, (f u).cfBits) = (u.cfFail, u.cfBits) := by exact fun _ => rfl) :
    PortKept n r (updCatch n f s) :=
  h.trans ⟨failPort_updCatch same, fun _ _ => id⟩

theorem setSeen {b : Nat} (h : PortKept n r s) : PortKept n r (setSeen n b s) :=
  h.trans ⟨rfl, fun _ low set => mbit_setmbit_true low set⟩

theorem wr {g : Fld} {v i j : Nat} (h : PortKept n r s) (other : CB_STATUS_SEEN.id ≠ g.id := by decide) :
    PortKept n r (s.wr g v i j) :=
  h.trans ⟨rfl, fun b _ set => by rwa [State.mbit, rd_wr_ne _ _ _ _ _ _ _ _ other]⟩

theorem raiseInj {e : Evt} {k a : Nat} {inj : Bool} (h : PortKept n r s) : PortKept n r (raiseInj e k a inj s) :=
  h.apart (Kept.refl.raiseInj (L := Foot.sequencerStep) .refl)

theorem takeStamp (h : PortKept n r s) : PortKept n r (takeStamp s).2 :=
  h.apart (Kept.refl.takeStamp (L := Foot.part .ev) .refl)

theorem mkRec {type vc lane flags body length : Nat} (h : PortKept n r s) :
    PortKept n r (mkRec type vc lane flags body length s).2 :=
  h.apart (Kept.refl.mkRec (L := Foot.part .ev) .refl)

theorem noteFifo (h : PortKept n r s) : PortKept n r (noteFifo n s) := by
  unfold Machine.noteFifo
  exact h.wr.updCatch

theorem pushRec {x : Rec} (h : PortKept n r s) : PortKept n r (pushRec n x s) :=
  h.updCatch.noteFifo

theorem createDeferred {a : Nat} (h : PortKept n r s) : PortKept n r (createDeferred n a s) := by
  induction a generalizing s with
  | zero => exact h
  | succ k ih =>
    unfold Machine.createDeferred
    split
    · exact h
    · exact .ite (ih h.updCatch.pushRec) h

theorem createRec {x : Rec} (h : PortKept n r s) : PortKept n r (createRec n x s) :=
  h.updCatch.createDeferred

theorem closeRun {x : Run} (h : PortKept n r s) : PortKept n r (closeRun n x s) :=
  h.updCatch.pushRec

theorem closeLane (h : PortKept n r s) : PortKept n r (closeLane n i s) := by
  unfold Machine.closeLane
  split
  · exact h.closeRun
  · exact h

theorem suppress {vc flag bp : Nat} (h : PortKept n r s) : PortKept n r (suppress n i vc flag bp s) := by
  unfold Machine.suppress
  extract_lets _ _ entered
  have entered : PortKept n r entered := .ite h.wr.setSeen.raiseInj h
  split
  next s2 e =>
  have stamped : PortKept n r s2 := by
    split at e
    · cases e
      exact entered
    · split at e
      next made =>
      cases e
      exact entered.mkRec.snd made
  exact stamped.updCatch

theorem failWord {vc mask flags bp : Nat} (h : PortKept n r s) : PortKept n r (failWord n i vc mask flags bp s) := by
  unfold Machine.failWord
  extract_lets opens
  have opened {t : State} (k : PortKept n r t) : PortKept n r (opens t) := by
    have created := k.createDeferred (a := (catch_ t n).deferred.length)
    refine .ite created.suppress (.ite created.suppress ?_)
    exact created.takeStamp.updCatch
  split
  · exact .ite h.updCatch (opened h.closeRun)
  · exact opened h

theorem laneEnded {op : Nat × Nat} (h : PortKept n r s) : PortKept n r (laneEnded n i op s) := by
  unfold Machine.laneEnded
  split
  · exact h
  · refine .ite h ?_
    extract_lets _ noted closed told
    have noted : PortKept n r noted := h.updCatch
    have closed : PortKept n r closed := noted.foldl fun _ _ k => k.closeLane
    have told : PortKept n r told := closed.updCatch
    exact .ite (told.apart (L := .of [CB_STATUS_COMPARING] []) (Kept.refl.setb ⟨by decide +kernel⟩)).wr noted

theorem delayFault {good : Bool} (h : PortKept n r s) : PortKept n r (delayFault n i good s) := by
  unfold Machine.delayFault
  extract_lets raised reset reported
  have reported : PortKept n r reported :=
    (h.raiseInj.updCatch.apart (Kept.refl.markFrame (L := Foot.part .tick) .refl)).wr.setSeen
  exact .ite reported.updCatch reported.wr.updCatch

theorem delayUse (h : PortKept n r s) : PortKept n r (delayUse n i s) :=
  .ite h.delayFault h

end PortKept

end

section

variable {n i r : Nat} {d : Due} {s : State}

/-- The fields that the start of a burst writes. -/
@[irreducible] def Foot.burstCleared : Foot :=
  .of [BURST_COUNT_BURSTS, CB_STATUS_BP, CB_STATUS_SEEN, CB_STATUS_COMPARING, BURST_FAILS_COUNT] []

/-- The start of a burst clears the _SEEN bits, and leaves the fail port. -/
theorem failPort_burstStart {op : Nat × Nat} : failPort (burstStart n op s) n = failPort s n := by
  unfold burstStart
  extract_lets counted cleared _
  have before : failPort cleared n = failPort s n := by
    have hl : Foot.burstCleared.Within Foot.burstCleared := .refl
    exact Kept.failPort_same (L := Foot.burstCleared) Kept.refl.incWrap.wr.wr.wr.clrInst
  split
  extract_lets b opened
  have opened : PortKept n cleared opened := PortKept.refl.updCatch
  rw [← before]
  split
  next made => exact (opened.mkRec.snd made).createRec.port

theorem failPort_burstEdges : failPort (burstEdges n i d s) n = failPort s n := by
  unfold burstEdges
  split
  · rfl
  · split
    · rfl
    · extract_lets started
      have started : failPort started n = failPort s n := by
        unfold started
        split
        exacts [failPort_burstStart, rfl]
      split
      · exact (PortKept.refl.laneEnded).port.trans started
      · exact started

/-! The state in which a word is compared: the word time has passed, and the edges of its burst with it. -/

theorem wordTime_kept : Kept Foot.burstEdges s (burstEdges n i d (noteWordTime n i r s)) :=
  have hl : Foot.burstEdges.Within Foot.burstEdges := .refl
  Kept.refl.noteWordTime.burstEdges

theorem failPort_wordTime : failPort (burstEdges n i d (noteWordTime n i r s)) n = failPort s n :=
  failPort_burstEdges.trans (failPort_updCatch fun _ => rfl)

end

/-! A failing word (R112, R114, R122). -/

section

variable {n i vc mask flags bp : Nat} {s : State}

theorem takeFail_seen {b : Nat} (low : b < 5) (set : s.mbit CB_STATUS_SEEN b n = true) :
    (takeFail n i vc mask flags bp s).mbit CB_STATUS_SEEN b n = true := by
  unfold takeFail
  extract_lets strobed taken counted
  have counted : PortKept n taken counted := PortKept.refl.wr.wr.wr
  exact counted.failWord.seen b low set

/-- The fail port takes the lane and the bits. -/
theorem failPort_takeFail : failPort (takeFail n i vc mask flags bp s) n =
    ((catch_ s n).cfFail ||| 2 ^ i, (catch_ s n).cfBits ||| mask) := by
  unfold takeFail
  extract_lets strobed taken counted
  have strobed : failPort strobed n = failPort s n := failPort_updCatch fun _ => rfl
  have counted : PortKept n taken counted := PortKept.refl.wr.wr.wr
  simp only [failPort, Prod.mk.injEq] at strobed
  refine counted.failWord.port.trans ?_
  rw [failPort, catch_updCatch, strobed.1, strobed.2]

theorem rd_takeFail_failWords : (takeFail n i vc mask flags bp s).rd FAIL_WORDS_COUNT n i =
    (s.rd FAIL_WORDS_COUNT n i + 1) % 2 ^ 64 := by
  unfold takeFail
  extract_lets strobed taken counted
  refine (Kept.refl.failWord (L := Foot.failWord) .refl).rd_same.trans ?_
  exact (rd_wr_ne _ _ _ _ _ _ _ _ (by decide)).trans ((rd_wr_ne _ _ _ _ _ _ _ _ (by decide)).trans (rd_wr_same ..))

theorem rd_takeFail_failBits : (takeFail n i vc mask flags bp s).rd FAIL_BITS_COUNT n i =
    (s.rd FAIL_BITS_COUNT n i + popcount mask) % 2 ^ 64 := by
  unfold takeFail
  extract_lets strobed taken counted
  refine (Kept.refl.failWord (L := Foot.failWord) .refl).rd_same.trans ((rd_wr_same ..).trans ?_)
  rw [State.incSat, rd_wr_ne _ _ _ _ _ _ _ _ (by decide), State.incWrap, rd_wr_ne _ _ _ _ _ _ _ _ (by decide)]
  rfl

end

/-! One compare (R108, R109). -/

section

variable {n i a flip flags : Nat} {d : Due} {s : State}

/-- What a compare counts before its word passes or fails; copy B has found the bits of b. -/
def compareNotes (n i : Nat) (d : Due) (a b : Nat) (s : State) : State :=
  let s := s.incWrap COMPARED_COUNT n i
  let s := if s.mbit FI_CHECK_STATUS_CMP_LOST n then setSeen n 0 (markFrame s) else s
  if a ≠ b then
    setSeen n 0 ((markFrame (raiseInj E.COMPARE_DISAGREE n (d.vc % 2 ^ 48 + (8 * n + i) * 2 ^ 48) false s)).incWrap
      DISAGREE_COUNT_COUNT n)
  else s

/-- A compare without an injection: the word passes where neither copy has found a bit. -/
theorem compareWord_of_clear (clear : s.rd CB_INJECT_INJ_DISAGREE n = 0) : ∃ x bp,
    compareWord n i d a flip flags s =
      if a ||| (a ^^^ flip % 2 ^ 64) = 0 then closeLane n i (compareNotes n i d a (a ^^^ flip % 2 ^ 64) s)
      else takeFail n i d.vc (a ||| (a ^^^ flip % 2 ^ 64)) x bp (compareNotes n i d a (a ^^^ flip % 2 ^ 64) s) := by
  rw [compareWord, takeInj_of_clear clear]
  simp only [Bool.false_eq_true, if_false, Nat.xor_zero]
  exact ⟨_, _, rfl⟩

/-- What a compare notes beside COMPARED, and the bits of a disagreement. -/
@[irreducible] def Foot.compareNotes : Foot := Foot.sequencerStep ||| Foot.part .tick ||| .of [CB_STATUS_SEEN,
    DISAGREE_COUNT_COUNT] []

theorem compareNotes_kept {b : Nat} : Kept Foot.compareNotes (s.incWrap COMPARED_COUNT n i) (compareNotes n i d a b s) := by
  have hl : Foot.compareNotes.Within Foot.compareNotes := .refl
  unfold compareNotes
  extract_lets counted lost
  have lost : Kept Foot.compareNotes counted lost := .ite Kept.refl.markFrame.setSeen .refl
  exact .ite lost.raiseInj.markFrame.incWrap.setSeen lost

theorem portKept_compareNotes {b : Nat} : PortKept n s (compareNotes n i d a b s) := by
  unfold compareNotes
  extract_lets counted lost
  have counted : PortKept n s counted := PortKept.refl.wr
  have lost : PortKept n s lost := .ite (counted.apart (Kept.refl.markFrame (L := Foot.part .tick) .refl)).setSeen counted
  exact .ite (lost.raiseInj.apart (Kept.refl.markFrame (L := Foot.part .tick) .refl)).wr.setSeen lost

theorem rd_compareNotes_compared {b : Nat} : (compareNotes n i d a b s).rd COMPARED_COUNT n i =
    (s.rd COMPARED_COUNT n i + 1) % 2 ^ 64 :=
  compareNotes_kept.rd_same.trans (rd_wr_same ..)

/-- What a compare notes before it judges the copies. -/
@[irreducible] def Foot.compareLost : Foot := Foot.part .tick ||| .of [COMPARED_COUNT, CB_STATUS_SEEN] []

/-- A disagreement of the copies is counted and seen. -/
theorem compareNotes_of_ne {b : Nat} (differ : a ≠ b) :
    (compareNotes n i d a b s).rd DISAGREE_COUNT_COUNT n = (s.rd DISAGREE_COUNT_COUNT n + 1) % 2 ^ 32 ∧
      (compareNotes n i d a b s).mbit CB_STATUS_SEEN 0 n = true := by
  have hl : Foot.compareLost.Within Foot.compareLost := .refl
  unfold compareNotes
  extract_lets counted lost
  have counted : Kept Foot.compareLost s counted := Kept.refl.incWrap
  have lost : Kept Foot.compareLost s lost := .ite counted.markFrame.setSeen counted
  rw [if_pos differ]
  refine ⟨?_, mbit_setmbit_same (by decide)⟩
  refine (rd_wr_ne _ _ _ _ _ _ _ _ (by decide)).trans ((rd_wr_same ..).trans ?_)
  rw [rd_markFrame, rd_raiseInj (by decide +kernel), lost.rd_same]
  rfl

end

end Sys2Proof

namespace Sys2Proof

open Machine Machine.F

set_option Elab.async false

/-! What a word time comes to: no compare, a word that passes, and a word that fails. -/

/-- What a word that passes changes once it has been counted, with a fault of the lane's delay. -/
@[irreducible] def Foot.wordPassed : Foot := Foot.noteFifo ||| Foot.delayFault

/-- What a word that fails changes once it has been counted, with a fault of the lane's delay. -/
@[irreducible] def Foot.wordFailed : Foot := Foot.takeFail ||| Foot.delayFault

section

variable {n i : Nat} {d : Due} {s : State}

theorem wordPassed_kept : Kept Foot.wordPassed s (delayUse n i (closeLane n i s)) :=
  have hl : Foot.wordPassed.Within Foot.wordPassed := .refl
  Kept.refl.closeLane.delayUse

theorem wordFailed_kept {vc mask flags bp : Nat} : Kept Foot.wordFailed s (delayUse n i (takeFail n i vc mask flags bp s)) :=
  have hl : Foot.wordFailed.Within Foot.wordFailed := .refl
  Kept.refl.takeFail.delayUse

theorem delayUse_kept : Kept Foot.delayFault s (delayUse n i s) :=
  Kept.refl.delayUse .refl

/-- A word passes: it is counted, and nothing fails. -/
structure WordPasses (n i : Nat) (s t : State) : Prop where
  compared : t.rd COMPARED_COUNT n i = (s.rd COMPARED_COUNT n i + 1) % 2 ^ 64
  words : t.rd FAIL_WORDS_COUNT n i = s.rd FAIL_WORDS_COUNT n i
  bits : t.rd FAIL_BITS_COUNT n i = s.rd FAIL_BITS_COUNT n i
  port : failPort t n = failPort s n

/-- A word fails with a mask: it and its bits are counted, and the fail port takes them. -/
structure WordFails (n i mask : Nat) (s t : State) : Prop where
  compared : t.rd COMPARED_COUNT n i = (s.rd COMPARED_COUNT n i + 1) % 2 ^ 64
  words : t.rd FAIL_WORDS_COUNT n i = (s.rd FAIL_WORDS_COUNT n i + 1) % 2 ^ 64
  bits : t.rd FAIL_BITS_COUNT n i = (s.rd FAIL_BITS_COUNT n i + popcount mask) % 2 ^ 64
  port : failPort t n = ((catch_ s n).cfFail ||| 2 ^ i, (catch_ s n).cfBits ||| mask)
  missing : t.rd MISSING_COUNT n i = s.rd MISSING_COUNT n i
  seen : ∀ b < 5, s.mbit CB_STATUS_SEEN b n = true → t.mbit CB_STATUS_SEEN b n = true

/-- A word in which neither copy finds a bit passes. -/
theorem compareWord_passes {a flip flags : Nat} (clear : s.rd CB_INJECT_INJ_DISAGREE n = 0)
    (clean : a ||| (a ^^^ flip % 2 ^ 64) = 0) : WordPasses n i s (delayUse n i (compareWord n i d a flip flags s)) := by
  obtain ⟨_, _, run⟩ := compareWord_of_clear (i := i) (a := a) (flip := flip) (flags := flags) (d := d) clear
  rw [run, if_pos clean]
  exact {
    compared := wordPassed_kept.rd_same.trans rd_compareNotes_compared
    words := wordPassed_kept.rd_same.trans (compareNotes_kept.rd_same.trans (rd_wr_ne _ _ _ _ _ _ _ _ (by decide)))
    bits := wordPassed_kept.rd_same.trans (compareNotes_kept.rd_same.trans (rd_wr_ne _ _ _ _ _ _ _ _ (by decide)))
    port := (portKept_compareNotes.closeLane.delayUse).port }

/-- A word fails with every bit that a copy finds. -/
theorem compareWord_fails {a flip flags mask : Nat} (clear : s.rd CB_INJECT_INJ_DISAGREE n = 0)
    (found : a ||| (a ^^^ flip % 2 ^ 64) = mask) (fails : mask ≠ 0) :
    WordFails n i mask s (delayUse n i (compareWord n i d a flip flags s)) := by
  obtain ⟨_, _, run⟩ := compareWord_of_clear (i := i) (a := a) (flip := flip) (flags := flags) (d := d) clear
  rw [run, found, if_neg fails]
  have noted {b : Nat} : PortKept n s (compareNotes n i d a b s) := portKept_compareNotes
  have before {b : Nat} : failPort (compareNotes n i d a b s) n = failPort s n := noted.port
  simp only [failPort, Prod.mk.injEq] at before
  have counted {g : Fld} {b : Nat} (kept : (compareNotes n i d a b s).rd g n i = (s.incWrap COMPARED_COUNT n i).rd g n i)
      (other : g.id ≠ COMPARED_COUNT.id) : (compareNotes n i d a b s).rd g n i = s.rd g n i :=
    kept.trans (rd_wr_ne _ _ _ _ _ _ _ _ other)
  exact {
    compared := wordFailed_kept.rd_same.trans rd_compareNotes_compared
    words := delayUse_kept.rd_same.trans (rd_takeFail_failWords.trans
      (by rw [counted compareNotes_kept.rd_same (by decide)]))
    bits := delayUse_kept.rd_same.trans (rd_takeFail_failBits.trans
      (by rw [counted compareNotes_kept.rd_same (by decide)]))
    port := PortKept.refl.delayUse.port.trans (failPort_takeFail.trans (by rw [before.1, before.2]))
    missing := wordFailed_kept.rd_same.trans (counted compareNotes_kept.rd_same (by decide))
    seen := fun b low set => PortKept.refl.delayUse.seen b low (takeFail_seen low (noted.seen b low set)) }

theorem xor_ne_self {a b : Nat} (h : b ≠ 0) : a ≠ a ^^^ b := fun e => h (by simpa using e.symm)

/-- Copies that differ are counted and seen. -/
theorem compareWord_disagrees {a flip flags : Nat} (clear : s.rd CB_INJECT_INJ_DISAGREE n = 0) (differ : flip % 2 ^ 64 ≠ 0) :
    (delayUse n i (compareWord n i d a flip flags s)).rd DISAGREE_COUNT_COUNT n = (s.rd DISAGREE_COUNT_COUNT n + 1) % 2 ^ 32 ∧
      (delayUse n i (compareWord n i d a flip flags s)).mbit CB_STATUS_SEEN 0 n = true := by
  obtain ⟨_, _, run⟩ := compareWord_of_clear (i := i) (a := a) (flip := flip) (flags := flags) (d := d) clear
  have copies : a ≠ a ^^^ flip % 2 ^ 64 := xor_ne_self differ
  have found : a ||| (a ^^^ flip % 2 ^ 64) ≠ 0 := fun e =>
    copies ((Nat.or_eq_zero_iff.1 e).1.trans (Nat.or_eq_zero_iff.1 e).2.symm)
  obtain ⟨count, seen⟩ := compareNotes_of_ne (n := n) (i := i) (d := d) (s := s) copies
  rw [run, if_neg found]
  exact ⟨wordFailed_kept.rd_same.trans count, PortKept.refl.delayUse.seen 0 (by decide) (takeFail_seen (by decide) seen)⟩

end

/-! The commands of a word time. -/

section

variable {n : Fin 16} {i : Fin 8} {r word flip : Nat} {control : Bool} {d : Due} {s : State}

/-- An entry is due in the reel and catch role alone. -/
theorem isReelGroup_of_due (due : dueEntry s n i r = some d) : isReelGroup s n = true := by
  simp only [dueEntry, dueOf] at due
  split at due
  · cases due
  next here =>
    simp only [not_or, not_not] at here
    simp [isReelGroup, here.2]

/-- Read pointers that stand alike find the same entry. -/
theorem pointerFlip_of_alike {x : Option Nat} (alike : ptrDiff s n i 0 = ptrDiff s n i 1) : pointerFlip s n i r x = 0 := by
  rw [pointerFlip, if_pos alike]

/-- A word with an entry due, while the core PLL is stable: a mask of zeros closes the lane's run, and another compares. -/
theorem exec_responseWord_of_due (ready : s.mbit LG_STATUS_READY 0 n = true) (due : dueEntry s n i r = some d)
    (stable : s.rd ALIGN_STATUS_STATE ≠ 4) (alike : ptrDiff s n i 0 = ptrDiff s n i 1) :
    exec (.responseWord n i r word flip) s = .next (delayUse n i (
      if d.mask = 0 then closeLane n i (burstEdges n i d (noteWordTime n i r s))
      else compareWord n i d (((word % 2 ^ 64) ^^^ d.word) &&& d.mask) flip 0 (burstEdges n i d (noteWordTime n i r s)))) := by
  have stable : (burstEdges n i d (noteWordTime n i r s)).rd ALIGN_STATUS_STATE ≠ 4 := by rwa [wordTime_kept.rd_same]
  show execResponseWord n i r word flip s = _
  simp only [execResponseWord, isReelGroup_of_due due, ready, Bool.not_true, Bool.false_eq_true, if_false, due,
    pointerFlip_of_alike alike, if_neg stable, and_true, Nat.xor_zero]
  rfl

/-- A word time without a word whose due entry has a mask is missing, and fails with the whole of it. -/
theorem missingWord_of_due (due : dueEntry s n i r = some d) (stable : s.rd ALIGN_STATUS_STATE ≠ 4)
    (alike : ptrDiff s n i 0 = ptrDiff s n i 1) (masked : d.mask ≠ 0) :
    missingWord n i r control flip s = delayUse n i (compareWord n i d d.mask flip 2
      (setSeen n 3 ((burstEdges n i d (noteWordTime n i r s)).incWrap MISSING_COUNT n i))) := by
  have stable :
      (setSeen n 3 ((burstEdges n i d (noteWordTime n i r s)).incWrap MISSING_COUNT n i)).rd ALIGN_STATUS_STATE ≠ 4 := by
    rw [setSeen, State.setmbit, rd_wr_ne _ _ _ _ _ _ _ _ (by decide), State.incWrap, rd_wr_ne _ _ _ _ _ _ _ _ (by decide),
      wordTime_kept.rd_same]
    exact stable
  simp [missingWord, due, pointerFlip_of_alike alike, masked, stable]

theorem exec_responseWord_of_unready (reel : isReelGroup s n = true) (unready : s.mbit LG_STATUS_READY 0 n = false) :
    exec (.responseWord n i r word flip) s = .next (missingWord n i r false flip s) := by
  show execResponseWord n i r word flip s = _
  simp [execResponseWord, reel, unready]

theorem exec_missingResponse (reel : isReelGroup s n = true) :
    exec (.missingResponse n i r ⟨control, flip⟩) s = .next (missingWord n i r control flip s) := by
  show execMissingResponse n i r ⟨control, flip⟩ s = _
  rw [execMissingResponse, if_pos reel]

/-- A word of a block that is no reel group, with or without data, changes nothing. -/
theorem exec_wordTime_of_otherRole (other : isReelGroup s n = false) :
    exec (.responseWord n i r word flip) s = .next s ∧ exec (.missingResponse n i r ⟨control, flip⟩) s = .next s := by
  constructor
  · show execResponseWord n i r word flip s = _
    simp [execResponseWord, other]
  · show execMissingResponse n i r ⟨control, flip⟩ s = _
    simp [execMissingResponse, other]

theorem delayUse_of_good (good : delayParityBad s n i = false) : delayUse n i s = s := by
  simp [delayUse, good]

/-- Without an entry due a word time passes and nothing else. -/
theorem exec_wordTime_of_noneDue (reel : isReelGroup s n = true) (ready : s.mbit LG_STATUS_READY 0 n = true)
    (none : dueEntry s n i r = none) (good : delayParityBad s n i = false) (stable : s.rd ALIGN_STATUS_STATE ≠ 4) :
    exec (.responseWord n i r word flip) s = .next (noteWordTime n i r s) ∧
      exec (.missingResponse n i r ⟨control, flip⟩) s = .next (noteWordTime n i r s) := by
  have good : delayParityBad (noteWordTime n i r s) n i = false := by
    rwa [delayParityBad, noteWordTime, catch_updCatch]
  have stable : (noteWordTime n i r s).rd ALIGN_STATUS_STATE ≠ 4 := by rwa [noteWordTime, rd_updCatch]
  constructor
  · show execResponseWord n i r word flip s = _
    simp [execResponseWord, reel, ready, none, stable, delayUse_of_good good]
  · rw [exec_missingResponse reel]
    simp [missingWord, none, delayUse_of_good good]

/-- A word while the core PLL smoulders is counted as uncompared, and not compared. -/
theorem responseWord_smoulders (reel : isReelGroup s n = true) (ready : s.mbit LG_STATUS_READY 0 n = true)
    (smoulders : s.rd ALIGN_STATUS_STATE = 4) :
    Runs (.responseWord n i r word flip) s fun t =>
      t.rd UNCOMPARED_COUNT n i = (s.rd UNCOMPARED_COUNT n i + 1) % 2 ^ 32 ∧
        t.rd COMPARED_COUNT n i = s.rd COMPARED_COUNT n i := by
  have run {u : State} (passed : Kept Foot.burstEdges s u) :
      (delayUse n i (setSeen n 4 (u.incWrap UNCOMPARED_COUNT n i))).rd UNCOMPARED_COUNT n i =
        (s.rd UNCOMPARED_COUNT n i + 1) % 2 ^ 32 ∧
      (delayUse n i (setSeen n 4 (u.incWrap UNCOMPARED_COUNT n i))).rd COMPARED_COUNT n i = s.rd COMPARED_COUNT n i := by
    constructor
    · rw [delayUse_kept.rd_same, setSeen, State.setmbit, rd_wr_ne _ _ _ _ _ _ _ _ (by decide), State.incWrap, rd_wr_same,
        passed.rd_same]
      rfl
    · rw [delayUse_kept.rd_same, setSeen, State.setmbit, rd_wr_ne _ _ _ _ _ _ _ _ (by decide), State.incWrap,
        rd_wr_ne _ _ _ _ _ _ _ _ (by decide), passed.rd_same]
  show ∃ t, execResponseWord n i r word flip s = .next t ∧ _
  unfold execResponseWord
  extract_lets due _ timed edges
  have passed : Kept Foot.burstEdges s edges := by
    have hl : Foot.burstEdges.Within Foot.burstEdges := .refl
    unfold edges
    clear_value due
    split
    exacts [Kept.refl.noteWordTime, wordTime_kept]
  rw [reel, ready, Bool.not_true, if_neg Bool.false_ne_true, if_neg Bool.false_ne_true, if_pos (passed.rd_same.trans smoulders)]
  exact ⟨_, rfl, run passed⟩

end

end Sys2Proof

namespace Sys2Proof

open Machine Machine.F

set_option Elab.async false

/-! The delay of a lane: what the shadow compare reads of it, and what a DELAY_FAULT leaves (R110). -/

/-- The working copy, the read pointers, the shadow and the parity bit of a lane's delay are all as its register has them. -/
structure LaneSound (u : CatchU) (j : Nat) : Prop where
  copy : sget 0 u.workDiff j = 0
  pointerA : sget 0 u.ptrDiff (2 * j) = 0
  pointerB : sget 0 u.ptrDiff (2 * j + 1) = 0
  shadow : sget 0 u.shadowDiff j = 0
  parity : u.parityBad.testBit j = false

section

variable {n i j : Nat} {good : Bool} {s : State}

/-- Register and shadow are good where no fault stands in the shadow or in the parity bit. -/
theorem delayGood_iff : delayGood s n j = true ↔
    sget 0 (catch_ s n).shadowDiff j = 0 ∧ (catch_ s n).parityBad.testBit j = false := by
  have same (x d : Nat) : x ^^^ d = x ↔ d = 0 := by simp
  have flips (p b : Bool) : (p != b) = p ↔ b = false := by cases p <;> simp
  simp only [delayGood, shadowDelay, delayParity, Bool.and_eq_true, beq_iff_eq, same, flips]

/-- The shadow compare finds a lane wrong that is not sound. -/
theorem delayWrong_eq_false_iff : delayWrong s n j = false ↔ LaneSound (catch_ s n) j := by
  simp only [delayWrong, Bool.or_eq_false_iff, bne_eq_false_iff_eq, Bool.not_eq_false', delayGood_iff, ptrDiff, Nat.add_zero]
  exact ⟨fun ⟨⟨⟨w, a⟩, b⟩, x, p⟩ => ⟨w, a, b, x, p⟩, fun ⟨w, a, b, x, p⟩ => ⟨⟨⟨w, a⟩, b⟩, x, p⟩⟩

/-- A fault reloads the working copy and the read pointers of its lane where the register and its shadow are good. -/
theorem catch_delayFault_delays :
    let u := catch_ s n
    let v := catch_ (delayFault n i good s) n
    v.workDiff = (if good then sput 0 u.workDiff i 0 else u.workDiff) ∧
      v.ptrDiff = (if good then sput 0 (sput 0 u.ptrDiff (2 * i) 0) (2 * i + 1) 0 else u.ptrDiff) ∧
      v.shadowDiff = u.shadowDiff ∧ v.parityBad = u.parityBad := by
  extract_lets u v
  have raised {e : Evt} {k a : Nat} {b : Bool} : catch_ (raiseInj e k a b s) n = u := catch_congr raiseInj_catches
  have marked {t : State} : catch_ (markFrame t) n = catch_ t n := rfl
  unfold v delayFault
  cases good <;> simp [raised, marked, setSeen, State.setmbit, State.incWrap]

/-- The lanes beside that of the fault are as they were. -/
theorem laneSound_delayFault_ne (other : j ≠ i) :
    LaneSound (catch_ (delayFault n i good s) n) j ↔ LaneSound (catch_ s n) j := by
  obtain ⟨work, pointers, shadow, parity⟩ := catch_delayFault_delays (n := n) (i := i) (good := good) (s := s)
  have work : sget 0 (catch_ (delayFault n i good s) n).workDiff j = sget 0 (catch_ s n).workDiff j := by
    rw [work]
    split
    exacts [sget_sput_ne _ _ _ other, rfl]
  have pointers {k : Nat} (a : k ≠ 2 * i) (b : k ≠ 2 * i + 1) :
      sget 0 (catch_ (delayFault n i good s) n).ptrDiff k = sget 0 (catch_ s n).ptrDiff k := by
    rw [pointers]
    split
    exacts [(sget_sput_ne _ _ _ b).trans (sget_sput_ne _ _ _ a), rfl]
  have a := pointers (k := 2 * j) (by omega) (by omega)
  have b := pointers (k := 2 * j + 1) (by omega) (by omega)
  constructor
  · exact fun h => ⟨work ▸ h.copy, a ▸ h.pointerA, b ▸ h.pointerB, shadow ▸ h.shadow, parity ▸ h.parity⟩
  · exact fun h => ⟨work ▸ h.copy, a ▸ h.pointerA, b ▸ h.pointerB, shadow ▸ h.shadow, parity ▸ h.parity⟩

/-- Where register and shadow are good, the working copy and the read pointers of the lane stand right after its fault. -/
theorem delayFault_reloads : sget 0 (catch_ (delayFault n i true s) n).workDiff i = 0 ∧
    ∀ c < 2, ptrDiff (delayFault n i true s) n i c = 0 := by
  obtain ⟨work, pointers, -, -⟩ := catch_delayFault_delays (n := n) (i := i) (good := true) (s := s)
  refine ⟨by rw [work, if_pos rfl, sget_sput_same], fun c two => ?_⟩
  rw [ptrDiff, pointers, if_pos rfl, sget_sput, sget_sput]
  split
  · rfl
  · rw [if_pos (by omega)]

/-- A fault mends neither the register nor its shadow. -/
theorem delayGood_delayFault : delayGood (delayFault n i good s) n j = delayGood s n j := by
  obtain ⟨-, -, shadow, parity⟩ := catch_delayFault_delays (n := n) (i := i) (good := good) (s := s)
  rw [Bool.eq_iff_iff, delayGood_iff, delayGood_iff, shadow, parity]

/-- A DELAY_FAULT is counted and seen, and where register or shadow is not good the delays of the block are broken. -/
theorem rd_delayFault : (delayFault n i good s).rd DELAY_FAULT_COUNT_COUNT n = (s.rd DELAY_FAULT_COUNT_COUNT n + 1) % 2 ^ 32 ∧
    (delayFault n i good s).mbit CB_STATUS_SEEN 1 n = true ∧
    (delayFault n i good s).rd CB_STATUS_DELAY_BROKEN n = if good then s.rd CB_STATUS_DELAY_BROKEN n else 1 := by
  unfold delayFault
  extract_lets raised reset reported
  have before {g : Fld} (hg : ∀ f ∈ eventFields, g.id ≠ f.id) : (markFrame reset).rd g n = s.rd g n := by
    rw [rd_markFrame]
    unfold reset raised
    rw [rd_updCatch, rd_raiseInj hg]
  have counted : reported.rd DELAY_FAULT_COUNT_COUNT n = (s.rd DELAY_FAULT_COUNT_COUNT n + 1) % 2 ^ 32 := by
    unfold reported
    rw [setSeen, State.setmbit, rd_wr_ne _ _ _ _ _ _ _ _ (by decide), State.incWrap, rd_wr_same, before (by decide +kernel)]
    rfl
  have seen : reported.mbit CB_STATUS_SEEN 1 n = true := mbit_setmbit_same (by decide)
  have broken : reported.rd CB_STATUS_DELAY_BROKEN n = s.rd CB_STATUS_DELAY_BROKEN n := by
    unfold reported
    rw [setSeen, State.setmbit, rd_wr_ne _ _ _ _ _ _ _ _ (by decide), State.incWrap, rd_wr_ne _ _ _ _ _ _ _ _ (by decide),
      before (by decide +kernel)]
  clear_value reported
  cases good with
  | true =>
    rw [if_pos rfl, if_pos rfl, State.mbit, rd_updCatch, rd_updCatch, rd_updCatch]
    exact ⟨counted, seen, broken⟩
  | false =>
    rw [if_neg Bool.false_ne_true, if_neg Bool.false_ne_true, State.mbit, rd_updCatch, rd_updCatch, rd_updCatch, rd_wr_same,
      rd_wr_ne _ _ _ _ _ _ _ _ (by decide), rd_wr_ne _ _ _ _ _ _ _ _ (by decide)]
    exact ⟨counted, seen, rfl⟩

theorem rd_delayFault_words {k : Nat} : (delayFault n i good s).rd DELAY_WORDS n k = s.rd DELAY_WORDS n k :=
  (Kept.refl.delayFault (L := Foot.delayFault) .refl).rd_same

/-! The lanes of a shadow compare in order. -/

/-- The shadow compare of one lane. -/
def shadowLane (n : Nat) (t : State) (i : Nat) : State :=
  if delayWrong t n i then delayFault n i (delayGood t n i) t else t

theorem shadowLane_of_sound (sound : LaneSound (catch_ s n) j) : shadowLane n s j = s := by
  rw [shadowLane, delayWrong_eq_false_iff.2 sound, if_neg Bool.false_ne_true]

theorem shadowLane_of_unsound (unsound : ¬LaneSound (catch_ s n) j) :
    shadowLane n s j = delayFault n j (delayGood s n j) s := by
  rw [← delayWrong_eq_false_iff, Bool.not_eq_false] at unsound
  rw [shadowLane, if_pos unsound]

theorem foldl_shadowLane_of_sound {l : List Nat} (sound : ∀ j ∈ l, LaneSound (catch_ s n) j) :
    l.foldl (shadowLane n) s = s := by
  induction l with
  | nil => rfl
  | cons j l ih =>
    rw [List.foldl_cons, shadowLane_of_sound (sound j List.mem_cons_self)]
    exact ih fun k hk => sound k (List.mem_cons_of_mem _ hk)

/-- Of lanes of which one is not sound, that one alone is reported. -/
theorem foldl_shadowLane_of_unsound {l : List Nat} (once : l.Nodup) (mem : i ∈ l) (unsound : ¬LaneSound (catch_ s n) i)
    (others : ∀ j ∈ l, j ≠ i → LaneSound (catch_ s n) j) :
    l.foldl (shadowLane n) s = delayFault n i (delayGood s n i) s := by
  induction l with
  | nil => cases mem
  | cons j l ih =>
    obtain ⟨fresh, once⟩ := List.nodup_cons.1 once
    rw [List.foldl_cons]
    by_cases here : j = i
    · subst here
      rw [shadowLane_of_unsound unsound]
      refine foldl_shadowLane_of_sound fun k hk => ?_
      have other : k ≠ j := fun e => fresh (e ▸ hk)
      exact (laneSound_delayFault_ne other).2 (others k (List.mem_cons_of_mem _ hk) other)
    · rw [shadowLane_of_sound (others j List.mem_cons_self here)]
      exact ih once ((List.mem_cons.1 mem).resolve_left (Ne.symm here)) fun k hk => others k (List.mem_cons_of_mem _ hk)

end

/-! The shadow compare. -/

section

variable {n : Fin 16} {work : WorkUpset} {bad : DelayUpset} {s : State}

/-- The state that the shadow compare sees: the core cycles up to its own have passed, and the upsets have come. -/
def shadowState (n : Nat) (work : WorkUpset) (bad : DelayUpset) (s : State) : State :=
  upsetDelays n work bad (if s.offset < s.period - 16 then passTo (s.period - 16) s else s)

theorem exec_delayShadowCheck (stable : s.rd ALIGN_STATUS_STATE ≠ 4) :
    exec (.delayShadowCheck n work bad) s = .next ((List.range 8).foldl (shadowLane n) (shadowState n work bad s)) := by
  show execDelayShadowCheck n work bad s = _
  rw [execDelayShadowCheck, if_neg stable]
  rfl

theorem exec_delayShadowCheck_of_smouldering (smoulders : s.rd ALIGN_STATUS_STATE = 4) :
    exec (.delayShadowCheck n work bad) s = .next s := by
  show execDelayShadowCheck n work bad s = _
  rw [execDelayShadowCheck, if_pos smoulders]

/-- What the shadow compare changes before it compares. -/
@[irreducible] def Foot.shadowState : Foot := Foot.passTo ||| Foot.part .catches

theorem shadowState_kept {n : Nat} : Kept Foot.shadowState s (shadowState n work bad s) := by
  have hl : Foot.shadowState.Within Foot.shadowState := .refl
  exact Kept.upsetDelays (.ite Kept.refl.passTo .refl)

/-- The upsets come to the delays as they stood. -/
theorem catch_shadowState {n : Nat} : catch_ (shadowState n work bad s) n = catch_ (upsetDelays n work bad s) n := by
  have passed : catch_ (if s.offset < s.period - 16 then passTo (s.period - 16) s else s) n = catch_ s n := by
    split
    exacts [(Kept.refl.passTo (L := Foot.passTo) .refl).catch_same, rfl]
  rw [shadowState, upsetDelays, catch_updCatch, passed, upsetDelays, catch_updCatch]

/-- The shadow compare reports one lane alone. -/
structure ReportsLane (n i : Nat) (good : Bool) (s t : State) : Prop where
  count : t.rd DELAY_FAULT_COUNT_COUNT n = (s.rd DELAY_FAULT_COUNT_COUNT n + 1) % 2 ^ 32
  seen : t.mbit CB_STATUS_SEEN 1 n = true
  broken : t.rd CB_STATUS_DELAY_BROKEN n = if good then s.rd CB_STATUS_DELAY_BROKEN n else 1
  words : t.rd DELAY_WORDS n i = s.rd DELAY_WORDS n i
  reloaded : good = true → sget 0 (catch_ t n).workDiff i = 0 ∧ ∀ c < 2, ptrDiff t n i c = 0
  bad : good = false → delayGood t n i = false

/-- Upsets after which one lane is not sound have that lane reported. -/
theorem delayShadowCheck_reports {i : Fin 8} (stable : s.rd ALIGN_STATUS_STATE ≠ 4)
    (unsound : ¬LaneSound (catch_ (upsetDelays n work bad s) n) i)
    (others : ∀ j : Fin 8, j ≠ i → LaneSound (catch_ (upsetDelays n work bad s) n) j) :
    Runs (.delayShadowCheck n work bad) s (ReportsLane n i (delayGood (upsetDelays n work bad s) n i) s) := by
  have good : delayGood (shadowState n work bad s) n i = delayGood (upsetDelays n work bad s) n i := by
    rw [Bool.eq_iff_iff, delayGood_iff, delayGood_iff, catch_shadowState]
  rw [← catch_shadowState] at unsound
  refine ⟨_, (exec_delayShadowCheck stable).trans (congrArg _ (foldl_shadowLane_of_unsound List.nodup_range
    (List.mem_range.2 i.isLt) unsound fun j hj other => ?_)), ?_⟩
  · rw [catch_shadowState]
    exact others ⟨j, List.mem_range.1 hj⟩ fun e => other (congrArg Fin.val e)
  · rw [good]
    generalize delayGood (upsetDelays n work bad s) n i = sound at good
    exact {
      count := rd_delayFault.1.trans (by rw [shadowState_kept.rd_same])
      seen := rd_delayFault.2.1
      broken := rd_delayFault.2.2.trans (by rw [shadowState_kept.rd_same])
      words := rd_delayFault_words.trans shadowState_kept.rd_same
      reloaded := fun e => e ▸ delayFault_reloads
      bad := fun e => delayGood_delayFault.trans (good.trans e) }

end

end Sys2Proof

namespace Sys2Proof

open Machine Machine.F

set_option Elab.async false

/-! The upsets of one lane (R110). -/

section

variable {n j : Nat} {work : WorkUpset} {bad : DelayUpset} {s : State}

/-- A change of the bits that are set goes to their lanes. -/
theorem sget_foldl_flip {x : Nat} {l : List Nat} (once : l.Nodup) (d : List (Nat × Nat)) :
    sget 0 (l.foldl (fun d i => if x.testBit i then sput 0 d i (sget 0 d i ^^^ 1) else d) d) j =
      if j ∈ l ∧ x.testBit j = true then sget 0 d j ^^^ 1 else sget 0 d j := by
  induction l generalizing d with
  | nil => simp
  | cons k l ih =>
    obtain ⟨fresh, once⟩ := List.nodup_cons.1 once
    rw [List.foldl_cons, ih once]
    by_cases here : j = k
    · subst here
      by_cases set : x.testBit j = true <;> simp [fresh, set]
    · have other : sget 0 (if x.testBit k then sput 0 d k (sget 0 d k ^^^ 1) else d) j = sget 0 d j := by
        split
        exacts [sget_sput_ne _ _ _ here, rfl]
      simp [other, here]

theorem shadowDiff_upsetDelays (lane : j < 8) : sget 0 (catch_ (upsetDelays n work bad s) n).shadowDiff j =
    if bad.shadow.val.testBit j = true then sget 0 (catch_ s n).shadowDiff j ^^^ 1 else sget 0 (catch_ s n).shadowDiff j := by
  rw [upsetDelays, catch_updCatch]
  refine (sget_foldl_flip List.nodup_range _).trans ?_
  simp only [List.mem_range.2 lane, true_and]

theorem parityBad_upsetDelays : (catch_ (upsetDelays n work bad s) n).parityBad.testBit j =
    ((catch_ s n).parityBad.testBit j ^^ bad.parity.val.testBit j) := by
  rw [upsetDelays, catch_updCatch]
  exact Nat.testBit_xor ..

theorem workDiff_upsetDelays : (catch_ (upsetDelays n work bad s) n).workDiff =
    work.copy.foldl (fun m e => sput 0 m e.1 (sget 0 m e.1 ^^^ e.2.val)) (catch_ s n).workDiff := by
  rw [upsetDelays, catch_updCatch]

theorem ptrDiff_upsetDelays : (catch_ (upsetDelays n work bad s) n).ptrDiff =
    work.pointer.foldl (fun m e => sput 0 m (2 * e.1 + e.2.1) ((sget 0 m (2 * e.1 + e.2.1) + e.2.2.val) % 8192))
      (catch_ s n).ptrDiff := by
  rw [upsetDelays, catch_updCatch]

/-- Register and shadow of a sound lane stay good where no upset comes to its shadow or its parity bit. -/
theorem delayGood_upsetDelays (lane : j < 8) (sound : LaneSound (catch_ s n) j) :
    delayGood (upsetDelays n work bad s) n j = true ↔ bad.shadow.val.testBit j = false ∧ bad.parity.val.testBit j = false := by
  rw [delayGood_iff, shadowDiff_upsetDelays lane, parityBad_upsetDelays, sound.shadow, sound.parity, Bool.false_xor]
  cases bad.shadow.val.testBit j <;> simp

/-- A sound lane to which no upset comes stays sound. -/
theorem laneSound_upsetDelays (sound : LaneSound (catch_ s n) j)
    (good : delayGood (upsetDelays n work bad s) n j = true)
    (copy : sget 0 (catch_ (upsetDelays n work bad s) n).workDiff j = sget 0 (catch_ s n).workDiff j)
    (pointers : ∀ c < 2, sget 0 (catch_ (upsetDelays n work bad s) n).ptrDiff (2 * j + c) =
      sget 0 (catch_ s n).ptrDiff (2 * j + c)) :
    LaneSound (catch_ (upsetDelays n work bad s) n) j :=
  have ⟨shadow, parity⟩ := delayGood_iff.1 good
  ⟨copy.trans sound.copy, (pointers 0 (by decide)).trans sound.pointerA, (pointers 1 (by decide)).trans sound.pointerB,
    shadow, parity⟩

end

section

variable {n : Fin 16} {i : Fin 8} {m : Fin 8192} {c : Fin 2} {s : State}

/-- A working copy that an upset has changed is reported, and reloaded. -/
theorem copyUpset_reported (stable : s.rd ALIGN_STATUS_STATE ≠ 4) (changes : m ≠ 0)
    (sound : ∀ j : Fin 8, LaneSound (catch_ s n) j) :
    Runs (.delayShadowCheck n { copy := [(i, m)] } ⟨0, 0⟩) s (ReportsLane n i true s) := by
  have good (j : Fin 8) : delayGood (upsetDelays n { copy := [(i, m)] } ⟨0, 0⟩ s) n j = true :=
    (delayGood_upsetDelays j.isLt (sound j)).2 ⟨Nat.zero_testBit _, Nat.zero_testBit _⟩
  rw [← good i]
  refine delayShadowCheck_reports stable (fun h => changes (Fin.ext ?_)) fun j other =>
    laneSound_upsetDelays (sound j) (good j) ?_ fun c _ => by rw [ptrDiff_upsetDelays]; rfl
  · have copy := h.copy
    rw [workDiff_upsetDelays, List.foldl_cons, List.foldl_nil, sget_sput_same, (sound i).copy, Nat.zero_xor] at copy
    exact copy
  · rw [workDiff_upsetDelays, List.foldl_cons, List.foldl_nil]
    exact sget_sput_ne _ _ _ fun e => other (Fin.ext e)

/-- A read pointer that an upset has moved is reported, and reloaded. -/
theorem pointerUpset_reported (stable : s.rd ALIGN_STATUS_STATE ≠ 4) (moves : m ≠ 0)
    (sound : ∀ j : Fin 8, LaneSound (catch_ s n) j) :
    Runs (.delayShadowCheck n { pointer := [(i, c, m)] } ⟨0, 0⟩) s (ReportsLane n i true s) := by
  have good (j : Fin 8) : delayGood (upsetDelays n { pointer := [(i, c, m)] } ⟨0, 0⟩ s) n j = true :=
    (delayGood_upsetDelays j.isLt (sound j)).2 ⟨Nat.zero_testBit _, Nat.zero_testBit _⟩
  have two := c.isLt
  rw [← good i]
  refine delayShadowCheck_reports stable (fun h => moves (Fin.ext ?_)) fun j other =>
    laneSound_upsetDelays (sound j) (good j) (by rw [workDiff_upsetDelays]; rfl) fun k _ => ?_
  · have stood : sget 0 (catch_ s n).ptrDiff (2 * i + c) = 0 := by
      obtain e | e : c.val = 0 ∨ c.val = 1 := by omega
      · rw [e]
        exact (sound i).pointerA
      · rw [e]
        exact (sound i).pointerB
    have stands : sget 0 (catch_ (upsetDelays n { pointer := [(i, c, m)] } ⟨0, 0⟩ s) n).ptrDiff (2 * i + c) = 0 := by
      obtain e | e : c.val = 0 ∨ c.val = 1 := by omega
      · rw [e]
        exact h.pointerA
      · rw [e]
        exact h.pointerB
    rw [ptrDiff_upsetDelays, List.foldl_cons, List.foldl_nil, sget_sput_same, stood, Nat.zero_add,
      Nat.mod_eq_of_lt m.isLt] at stands
    exact stands
  · rw [ptrDiff_upsetDelays, List.foldl_cons, List.foldl_nil]
    have : j.val ≠ i.val := fun e => other (Fin.ext e)
    have apart : 2 * j.val + k ≠ 2 * i.val + c.val := by omega
    exact sget_sput_ne _ _ _ apart

/-- A fault in the parity bit of one lane's register, or in its shadow, is reported, and breaks the delays of the block. -/
theorem faultUpset_reported {bad : DelayUpset} (stable : s.rd ALIGN_STATUS_STATE ≠ 4)
    (one : ∀ j : Fin 8, bad.shadow.val.testBit j = false ∧ bad.parity.val.testBit j = false ↔ j ≠ i)
    (sound : ∀ j : Fin 8, LaneSound (catch_ s n) j) :
    Runs (.delayShadowCheck n {} bad) s (ReportsLane n i false s) := by
  have good (j : Fin 8) : delayGood (upsetDelays n {} bad s) n j = true ↔ j ≠ i :=
    (delayGood_upsetDelays j.isLt (sound j)).trans (one j)
  have broken : delayGood (upsetDelays n {} bad s) n i = false := by
    rw [← Bool.not_eq_true, good]
    exact not_not.2 rfl
  rw [← broken]
  refine delayShadowCheck_reports stable (fun h => ?_) fun j other => laneSound_upsetDelays (sound j) ((good j).2 other)
    (by rw [workDiff_upsetDelays]; rfl) fun _ _ => by rw [ptrDiff_upsetDelays]; rfl
  exact Bool.false_ne_true (broken.symm.trans (delayGood_iff.2 ⟨h.shadow, h.parity⟩))

/-- Without an upset the lanes of a sound block stay as they are. -/
theorem delayShadowCheck_of_sound (stable : s.rd ALIGN_STATUS_STATE ≠ 4) (sound : ∀ j : Fin 8, LaneSound (catch_ s n) j) :
    Runs (.delayShadowCheck n {} ⟨0, 0⟩) s fun t =>
      t.rd DELAY_FAULT_COUNT_COUNT n = s.rd DELAY_FAULT_COUNT_COUNT n ∧ ∀ j : Fin 8, workDelay t n j = workDelay s n j := by
  have still : ∀ j ∈ List.range 8, LaneSound (catch_ (shadowState n {} ⟨0, 0⟩ s) n) j := fun j hj => by
    have lane := List.mem_range.1 hj
    rw [catch_shadowState]
    exact laneSound_upsetDelays (sound ⟨j, lane⟩)
      ((delayGood_upsetDelays lane (sound ⟨j, lane⟩)).2 ⟨Nat.zero_testBit _, Nat.zero_testBit _⟩)
      (by rw [workDiff_upsetDelays]; rfl) fun _ _ => by rw [ptrDiff_upsetDelays]; rfl
  refine ⟨_, (exec_delayShadowCheck stable).trans (congrArg _ (foldl_shadowLane_of_sound still)), shadowState_kept.rd_same,
    fun j => ?_⟩
  rw [workDelay, shadowState_kept.rd_same, catch_shadowState, workDiff_upsetDelays]
  rfl

end

end Sys2Proof

namespace Sys2Proof

open Machine Machine.F

set_option Elab.async false

/-! The clauses of O11. -/

section

variable {n : Fin 16} {i : Fin 8} {r word flip : Nat} {control : Bool} {d : Due} {s : State}

/-- Copies that find the same bits find those of the one. -/
theorem or_xor_zero (a : Nat) : a ||| (a ^^^ 0 % 2 ^ 64) = a := by simp

/-- Copy B of a mask differs only within the mask. -/
theorem or_xor_of_within {a f : Nat} (within : f &&& a = f) : a ||| (a ^^^ f) = a := by
  refine Nat.eq_of_testBit_eq fun k => ?_
  have bit : (f &&& a).testBit k = f.testBit k := by rw [within]
  rw [Nat.testBit_and] at bit
  rw [Nat.testBit_or, Nat.testBit_xor]
  cases whole : a.testBit k with
  | true => rfl
  | false =>
    rw [whole, Bool.and_false] at bit
    rw [← bit]
    rfl

theorem testBit_zero_and_two_pow {i j : Nat} : (0 : Nat).testBit j = false ∧ (2 ^ i).testBit j = false ↔ j ≠ i := by
  simp [Nat.testBit_two_pow, eq_comm]

/-- A word in which every masked bit agrees is compared and passes. -/
theorem responseWord_passes (ready : s.mbit LG_STATUS_READY 0 n = true) (due : dueEntry s n i r = some d)
    (stable : s.rd ALIGN_STATUS_STATE ≠ 4) (alike : ptrDiff s n i 0 = ptrDiff s n i 1) (masked : d.mask ≠ 0)
    (clear : s.rd CB_INJECT_INJ_DISAGREE n = 0) (agrees : ((word % 2 ^ 64) ^^^ d.word) &&& d.mask = 0) :
    Runs (.responseWord n i r word 0) s (WordPasses n i s) := by
  have run := exec_responseWord_of_due (word := word) (flip := 0) ready due stable alike
  rw [if_neg masked] at run
  obtain ⟨compared, words, bits, port⟩ := compareWord_passes (i := i) (d := d) (flip := 0) (flags := 0)
    ((wordTime_kept (n := n) (i := i) (r := r) (d := d) (s := s)).rd_same.trans clear) ((or_xor_zero _).trans agrees)
  exact ⟨_, run, by rw [compared, wordTime_kept.rd_same], by rw [words, wordTime_kept.rd_same],
    by rw [bits, wordTime_kept.rd_same], port.trans failPort_wordTime⟩

/-- A word fails in the masked bits that do not agree. -/
theorem responseWord_fails (ready : s.mbit LG_STATUS_READY 0 n = true) (due : dueEntry s n i r = some d)
    (stable : s.rd ALIGN_STATUS_STATE ≠ 4) (alike : ptrDiff s n i 0 = ptrDiff s n i 1) (masked : d.mask ≠ 0)
    (clear : s.rd CB_INJECT_INJ_DISAGREE n = 0) (fails : ((word % 2 ^ 64) ^^^ d.word) &&& d.mask ≠ 0) :
    Runs (.responseWord n i r word 0) s (WordFails n i (((word % 2 ^ 64) ^^^ d.word) &&& d.mask)
      (burstEdges n i d (noteWordTime n i r s))) := by
  have run := exec_responseWord_of_due (word := word) (flip := 0) ready due stable alike
  rw [if_neg masked] at run
  exact ⟨_, run, compareWord_fails (wordTime_kept.rd_same.trans clear) (or_xor_zero _) fails⟩

theorem responseWord_disagrees (ready : s.mbit LG_STATUS_READY 0 n = true) (due : dueEntry s n i r = some d)
    (stable : s.rd ALIGN_STATUS_STATE ≠ 4) (alike : ptrDiff s n i 0 = ptrDiff s n i 1) (masked : d.mask ≠ 0)
    (clear : s.rd CB_INJECT_INJ_DISAGREE n = 0) (differ : flip % 2 ^ 64 ≠ 0) :
    Runs (.responseWord n i r word flip) s fun t =>
      t.rd DISAGREE_COUNT_COUNT n = (s.rd DISAGREE_COUNT_COUNT n + 1) % 2 ^ 32 ∧ t.mbit CB_STATUS_SEEN 0 n = true := by
  have run := exec_responseWord_of_due (word := word) (flip := flip) ready due stable alike
  rw [if_neg masked] at run
  obtain ⟨count, seen⟩ := compareWord_disagrees (i := i) (d := d) (flags := 0) (a := ((word % 2 ^ 64) ^^^ d.word) &&& d.mask)
    ((wordTime_kept (n := n) (i := i) (r := r) (d := d) (s := s)).rd_same.trans clear) differ
  exact ⟨_, run, by rw [count, wordTime_kept.rd_same], seen⟩

/-- A word whose entry has no mask is not compared. -/
theorem responseWord_of_unmasked (ready : s.mbit LG_STATUS_READY 0 n = true) (due : dueEntry s n i r = some d)
    (stable : s.rd ALIGN_STATUS_STATE ≠ 4) (alike : ptrDiff s n i 0 = ptrDiff s n i 1) (unmasked : d.mask = 0) :
    Runs (.responseWord n i r word flip) s fun t =>
      t.rd COMPARED_COUNT n i = s.rd COMPARED_COUNT n i ∧ t.rd FAIL_WORDS_COUNT n i = s.rd FAIL_WORDS_COUNT n i := by
  have run := exec_responseWord_of_due (word := word) (flip := flip) ready due stable alike
  rw [if_pos unmasked] at run
  exact ⟨_, run, wordPassed_kept.rd_same.trans wordTime_kept.rd_same, wordPassed_kept.rd_same.trans wordTime_kept.rd_same⟩

/-- A missing word of an entry with a mask is compared, and fails with the whole of it. -/
theorem missingWord_fails (due : dueEntry s n i r = some d) (stable : s.rd ALIGN_STATUS_STATE ≠ 4)
    (alike : ptrDiff s n i 0 = ptrDiff s n i 1) (masked : d.mask ≠ 0) (clear : s.rd CB_INJECT_INJ_DISAGREE n = 0)
    (within : flip % 2 ^ 64 &&& d.mask = flip % 2 ^ 64) :
    let t := missingWord n i r control flip s
    t.rd MISSING_COUNT n i = (s.rd MISSING_COUNT n i + 1) % 2 ^ 32 ∧
      t.rd COMPARED_COUNT n i = (s.rd COMPARED_COUNT n i + 1) % 2 ^ 64 ∧
      t.rd FAIL_BITS_COUNT n i = (s.rd FAIL_BITS_COUNT n i + popcount d.mask) % 2 ^ 64 ∧
      t.mbit CB_STATUS_SEEN 3 n = true := by
  intro t
  have timed : Kept Foot.burstEdges s (burstEdges n i d (noteWordTime n i r s)) := wordTime_kept
  have missed {g : Fld} (seen : g.id ≠ CB_STATUS_SEEN.id) (missing : g.id ≠ MISSING_COUNT.id) {a b : Nat} :
      (setSeen n 3 ((burstEdges n i d (noteWordTime n i r s)).incWrap MISSING_COUNT n i)).rd g a b =
        (burstEdges n i d (noteWordTime n i r s)).rd g a b :=
    (rd_wr_ne _ _ _ _ _ _ _ _ seen).trans (rd_wr_ne _ _ _ _ _ _ _ _ missing)
  obtain ⟨compared, -, bits, -, missing, seen⟩ := compareWord_fails (i := i) (d := d) (flags := 2)
    ((missed (by decide) (by decide)).trans (timed.rd_same.trans clear)) (or_xor_of_within within) masked
  unfold t
  rw [missingWord_of_due due stable alike masked]
  refine ⟨missing.trans ?_, ?_, ?_, seen 3 (by decide) (mbit_setmbit_same (by decide))⟩
  · refine (rd_wr_ne _ _ _ _ _ _ _ _ (by decide)).trans ((rd_wr_same ..).trans ?_)
    rw [timed.rd_same]
    rfl
  · rw [compared, missed (by decide) (by decide), timed.rd_same]
  · rw [bits, missed (by decide) (by decide), timed.rd_same]

/-- A lane whose copies, pointers and register all stand right is sound. -/
theorem laneSound_of_still (still : sget 0 (catch_ s n).workDiff i = 0 ∧ ptrDiff s n i 0 = 0 ∧ ptrDiff s n i 1 = 0)
    (good : delayGood s n i = true) :
    LaneSound (catch_ s n) i := by
  obtain ⟨copy, a, b⟩ := still
  exact delayWrong_eq_false_iff.1 (by simp [delayWrong, copy, a, b, good])

theorem ReportsLane.flag_broken {t : State} (h : ReportsLane n i false s t) : t.flag CB_STATUS_DELAY_BROKEN n = true := by
  rw [State.flag, h.broken]
  rfl

theorem ReportsLane.workDelay_same {t : State} (h : ReportsLane n i true s t) (sound : LaneSound (catch_ s n) i) :
    workDelay t n i = workDelay s n i := by
  rw [workDelay, workDelay, h.words, (h.reloaded rfl).1, sound.copy]

end

/-- Settles O11: a word time is its burst's edges, then the compare of its entry, then the use of the lane's delay, and each
count is followed through the three; the shadow compare goes lane by lane, and reports the one that is not sound. -/
theorem compareResults : Obligations.CompareResults := by
  unfold Obligations.CompareResults
  refine ⟨?passes, ?fails, fun _ _ _ _ _ _ _ ready due stable alike masked clear differ =>
      responseWord_disagrees ready due stable alike masked clear differ,
    fun _ _ _ _ _ _ _ ready due stable alike unmasked => responseWord_of_unmasked ready due stable alike unmasked,
    fun _ _ _ _ _ _ _ ready due smoulders => responseWord_smoulders (isReelGroup_of_due due) ready smoulders,
    fun _ _ _ _ _ _ _ other => exec_wordTime_of_otherRole other,
    fun _ _ _ _ _ _ _ reel ready none good stable => exec_wordTime_of_noneDue reel ready none good stable, ?smoulders,
    ?unready, ?missing, ?upset, ?sound⟩
  case passes =>
    intro n i r word d s ready due stable alike masked clear agrees
    obtain ⟨t, run, compared, words, bits, port⟩ := responseWord_passes ready due stable alike masked clear agrees
    exact ⟨t, run, compared, words, bits, congrArg Prod.fst port⟩
  case fails =>
    intro n i r word d s ready due stable alike masked clear fails
    obtain ⟨t, run, compared, words, bits, port, -, -⟩ := responseWord_fails ready due stable alike masked clear fails
    have timed : failPort (burstEdges n i d (noteWordTime n i r s)) n = failPort s n := failPort_wordTime
    simp only [failPort, Prod.mk.injEq] at port timed
    rw [wordTime_kept.rd_same] at compared words bits
    exact ⟨t, run, compared, words, bits, port.1.trans (by rw [timed.1]), port.2.trans (by rw [timed.2])⟩
  case smoulders =>
    intro n i r word flip s reel ready smoulders
    obtain ⟨t, run, uncompared, -⟩ := responseWord_smoulders reel ready smoulders
    exact ⟨t, run, uncompared⟩
  case unready =>
    intro n i r word flip d s reel unready due stable alike masked clear within
    obtain ⟨missing, -, bits, -⟩ := missingWord_fails (control := false) due stable alike masked clear within
    exact ⟨_, exec_responseWord_of_unready reel unready, missing, bits⟩
  case missing =>
    intro n i r control flip d s due stable alike masked clear within
    exact ⟨_, exec_missingResponse (isReelGroup_of_due due), missingWord_fails due stable alike masked clear within⟩
  case upset =>
    intro n i m c u s stable changes lane still good
    have sound (j : Fin 8) : LaneSound (catch_ s n) j := laneSound_of_still (still j) (good j)
    have one (j : Fin 8) : (0 : Nat).testBit j = false ∧ u.val.testBit j = false ↔ j ≠ i := by
      rw [lane, testBit_zero_and_two_pow, Ne, Ne, Fin.ext_iff]
    refine ⟨?_, ?_, ?_, ?_⟩
    · obtain ⟨t, run, h⟩ := copyUpset_reported stable changes sound
      exact ⟨t, run, h.count, h.seen, h.broken, h.workDelay_same (sound i)⟩
    · obtain ⟨t, run, h⟩ := pointerUpset_reported (c := c) stable changes sound
      exact ⟨t, run, h.count, h.seen, h.broken, (h.reloaded rfl).2 c c.isLt⟩
    · obtain ⟨t, run, h⟩ := faultUpset_reported (bad := ⟨u, 0⟩) stable one sound
      exact ⟨t, run, h.count, h.seen, h.flag_broken, h.bad rfl⟩
    · obtain ⟨t, run, h⟩ := faultUpset_reported (bad := ⟨0, u⟩) stable (fun j => and_comm.trans (one j)) sound
      exact ⟨t, run, h.count, h.seen, h.flag_broken, h.bad rfl⟩
  case sound =>
    intro n s state
    by_cases smoulders : s.rd ALIGN_STATUS_STATE = 4
    · exact ⟨s, exec_delayShadowCheck_of_smouldering smoulders, rfl, fun _ => rfl⟩
    · obtain ⟨still, good⟩ := state.resolve_left smoulders
      exact delayShadowCheck_of_sound smoulders fun j => laneSound_of_still (still j) (good j)

end Sys2Proof

namespace Sys2Proof

open Machine Machine.F

set_option Elab.async false

/-! Walks that write one unit after the other. -/

/-- A walk whose step at a unit gives the unit's field one value, and leaves every other unit's, leaves each unit that it
visits with its value. -/
theorem rd_foldl_units {f : Fld} {v : Nat → Nat} {g : State → Nat → State} (writes : ∀ t i, (g t i).rd f i = v i)
    (others : ∀ t i j, j ≠ i → (g t i).rd f j = t.rd f j) {l : List Nat} {k : Nat} (mem : k ∈ l) {s : State} :
    (l.foldl g s).rd f k = v k := by
  induction l using List.reverseRecOn with
  | nil => cases mem
  | append_singleton l i ih =>
    rw [List.foldl_concat]
    by_cases last : k = i
    · rw [last, writes]
    · rw [others _ _ _ last, ih ((List.mem_append.1 mem).resolve_right (mt List.mem_singleton.1 last))]

/-- A walk that changes n entries of a table in a row, each alone. -/
theorem sget_foldl_range {α : Type} [DecidableEq α] {d : α} {f : α → α} {a j n : Nat} (within : j < n) (m : List (Nat × α)) :
    sget d ((List.range n).foldl (fun m i => sput d m (a + i) (f (sget d m (a + i)))) m) (a + j) = f (sget d m (a + j)) := by
  suffices each : ∀ n, sget d ((List.range n).foldl (fun m i => sput d m (a + i) (f (sget d m (a + i)))) m) (a + j) =
      if j < n then f (sget d m (a + j)) else sget d m (a + j) from (each n).trans (if_pos within)
  intro n
  induction n with
  | zero => rfl
  | succ n ih =>
    rw [List.range_succ, List.foldl_concat]
    by_cases last : j = n
    · subst last
      rw [sget_sput_same, ih, if_neg (Nat.lt_irrefl j), if_pos j.lt_succ_self]
    · rw [sget_sput_ne _ _ _ (by omega), ih]
      simp only [show j < n + 1 ↔ j < n by omega]

/-- A table without the keys that fail a test reads its default at each of them. -/
theorem sget_filter_of_fails {α : Type} (d : α) {p : Nat → Bool} {k : Nat} (fails : p k = false) : ∀ m : List (Nat × α),
    sget d (m.filter fun e => p e.1) k = d
  | [] => rfl
  | (a, w) :: m => by
    rw [List.filter_cons]
    split
    next passes =>
      have other : a ≠ k := fun e => by simp [e, fails] at passes
      rw [sget, if_neg other, sget_filter_of_fails d fails m]
    next => exact sget_filter_of_fails d fails m

/-! A region beside its registers, and its slices (R133, R153, R161, R168). -/

section

variable {s : State} {k i j : Nat} {f g : Fld}

@[simp] theorem region_updRegion {u : RegionU → RegionU} : (updRegion k u s).region_ k = u (s.region_ k) := by
  simp [State.region_, updRegion]

@[simp] theorem rd_updRegion {u : RegionU → RegionU} : (updRegion k u s).rd g i j = s.rd g i j := rfl

@[simp] theorem slice_updRegion {u : RegionU → RegionU} : (updRegion k u s).slice_ i = s.slice_ i := rfl

/-- A footprint without the slices keeps each of them. -/
theorem Kept.slice_same {L : Foot} {t : State} (h : Kept L s t) (apart : L &&& Foot.part .slices = 0 := by decide +kernel) :
    t.slice_ i = s.slice_ i := by
  have same : t.slices = s.slices := h.parts .slices (Foot.not_within_of_land apart (Foot.testBit_place.2 rfl))
  rw [State.slice_, same, State.slice_]

/-- A field cleared in the slices of a region reads its reset value in each. -/
theorem rd_clrSlices_same (slice : i / 96 = k) : (clrSlices k s f).rd f i j = f.rst := by
  simp only [State.rd, clrSlices, updRegs_regs, sget_sput_same]
  rw [sget_filter_of_fails (p := fun a => a / 96 != k) _ (by simp [slice]), sget_nil]

theorem rd_clrSlices_ne (other : g.id ≠ f.id) : (clrSlices k s f).rd g i j = s.rd g i j := by
  simp only [State.rd, clrSlices, updRegs_regs, sget_sput_ne _ _ _ other]

/-- The slices of the region stand in IDLE. -/
theorem state_idleSlices (slice : i / 96 = k) : (idleSlices k s).rd SL_STATUS_STATE i = 0 := by
  simp (disch := decide) only [idleSlices, List.foldl_cons, List.foldl_nil, rd_updSlices, rd_clrSlices_ne]
  exact rd_clrSlices_same slice

theorem slice_idleSlices (within : j < 96) : (idleSlices k s).slice_ (k * 96 + j) = (s.slice_ (k * 96 + j)).cleared := by
  simp only [idleSlices, List.foldl_cons, List.foldl_nil, clrSlices, State.slice_, updSlices_slices, updRegs_slices]
  exact sget_foldl_range within _

/-- What a REGION reset changes beside the fields of the region itself. -/
@[irreducible] def Foot.regionUnits : Foot := Foot.idleSlices ||| Foot.part .regions ||| Foot.of sliceFields []

theorem regionReset_kept : Kept Foot.regionUnits (s.clrAllInst regionFields k) (regionReset k s) := by
  have hl : Foot.regionUnits.Within Foot.regionUnits := .refl
  unfold regionReset
  exact (Kept.refl.foldFields (fs := sliceFields) fun _ _ hf h => h.clrSlices hf).idleSlices.updRegion

/-- The accumulators, loops and FIFOs of each slice of the region are cleared. -/
theorem slice_regionReset (within : j < 96) :
    (regionReset k s).slice_ (k * 96 + j) = (s.slice_ (k * 96 + j)).cleared := by
  have hl : (Foot.of regionFields [] ||| Foot.of sliceFields []).Within (Foot.of regionFields [] ||| Foot.of sliceFields []) :=
    .refl
  have fields : Kept (Foot.of regionFields [] ||| Foot.of sliceFields []) s
      (sliceFields.foldl (clrSlices k) (s.clrAllInst regionFields k)) :=
    (Kept.refl.clrAllInst hl.left).foldFields (fun _ _ hf h => h.clrSlices hf) hl.right
  rw [regionReset, slice_updRegion, slice_idleSlices within, fields.slice_same]

theorem state_regionReset (slice : i / 96 = k) : (regionReset k s).rd SL_STATUS_STATE i = 0 := by
  rw [regionReset, rd_updRegion, state_idleSlices slice]

theorem flops_regionReset : ((regionReset k s).region_ k).flops = [] := by
  rw [regionReset, region_updRegion]

theorem edges_regionReset : ((regionReset k s).region_ k).edges = [] := by
  rw [regionReset, region_updRegion]

theorem roleMoved_regionReset : (regionReset k s).rd RG_ROLE_MOVED_COUNT k = 0 :=
  regionReset_kept.rd_same.trans (rd_clrAllInst_mem _ _ _ _ _ (by decide +kernel) (by decide))

end

/-! FABRIC_RESET (R153, R209). -/

section

variable {s : State} {k : Fin 64}

/-- Where FABRIC_RESET is ignored: PSTATE is neither Run nor Boost, or a swap waits for its load, loads or has failed. -/
def ResetIgnored (s : State) (k : Nat) : Prop :=
  2 ≤ s.rd RG_STATUS_PSTATE k ∨ s.rd SWAP_STATUS_STATE 0 k = 2 ∨ s.rd SWAP_STATUS_STATE 0 k = 3 ∨ s.rd SWAP_STATUS_STATE 0 k = 5

theorem fabricReset_runs (runs : s.rd RG_STATUS_PSTATE k < 2) (waits : s.rd SWAP_STATUS_STATE 0 k ≠ 2)
    (loads : s.rd SWAP_STATUS_STATE 0 k ≠ 3) (failed : s.rd SWAP_STATUS_STATE 0 k ≠ 5) :
    Runs (.fabricReset k) s fun t =>
      (t.region_ k).flops = [] ∧ (t.region_ k).edges = [] ∧ (t.region_ k).resetting = some [] ∧ t.rd RG_ROLE_MOVED_COUNT k = 0 ∧
        ∀ j : Fin 96, t.rd SL_STATUS_STATE (sliceIdx k j) = 0 ∧ (t.slice_ (sliceIdx k j)).acc0 = 0 ∧
          (t.slice_ (sliceIdx k j)).opmem = (s.slice_ (sliceIdx k j)).opmem := by
  have resets : exec (.fabricReset k) s = .next (updRegion k (fun u => { u with resetting := some [] }) (regionReset k s)) := by
    refine congrArg Host.Outcome.next (if_pos ?_)
    simp [runs, waits, loads, failed]
  refine ⟨_, resets, ?_, ?_, by rw [region_updRegion], by rw [rd_updRegion, roleMoved_regionReset], fun j => ?_⟩
  · rw [region_updRegion, flops_regionReset]
  · rw [region_updRegion, edges_regionReset]
  · have slice : sliceIdx k j / 96 = k := by
      rw [sliceIdx]
      omega
    rw [rd_updRegion, slice_updRegion, state_regionReset slice,
      show sliceIdx k j = k.val * 96 + j.val from rfl, slice_regionReset j.isLt]
    exact ⟨rfl, rfl, rfl⟩

theorem exec_fabricReset_of_ignored (ignored : ResetIgnored s k) :
    exec (.fabricReset k) s = .next (s.wr RG_CTRL_IGNORED 1 k) := by
  refine congrArg Host.Outcome.next (if_neg ?_)
  simp only [Bool.and_eq_true, decide_eq_true_eq, Bool.not_eq_true', Bool.or_eq_false_iff, beq_eq_false_iff_ne, not_and]
  rcases ignored with stopped | swap
  · omega
  · tauto

end

/-! TEMP_READING (R148, R468). -/

section

variable {s t : State} {k : Fin 64} {l : List Nat}

/-- What follows once the readings stand in the registers: the sensors' checks, the edges and the tamper sensor. -/
@[irreducible] def Foot.judgeReadings : Foot := Foot.fireSensors ||| Foot.checkSensor ||| Foot.compareEdge

theorem temp_execTempReading (whole : l.length = 65) (clear : s.rd RG_INJECT_INJ_TEMP k = 0)
    (e : execTempReading l s = .next t) : t.rd RG_TEMP_TEMP k = l.getD k 0 % 2 ^ 12 := by
  have hl : Foot.judgeReadings.Within Foot.judgeReadings := .refl
  unfold execTempReading at e
  extract_lets armed codes s1 s2 s3 at e
  obtain rfl := Host.Outcome.next.inj e
  have judged : Kept Foot.judgeReadings s2 (tempTamper codes ((List.range 64).foldl (fun t k =>
      compareEdge codes armed k 1 (compareEdge codes armed k 0 t)) s3)) :=
    ((Kept.refl.foldl fun _ _ h => h.checkSensor).foldl fun _ _ h => h.compareEdge.compareEdge).tempTamper
  have entered : s2.rd RG_TEMP_TEMP k = codes k % 2 ^ 12 := by
    refine rd_foldl_units (v := fun i => codes i % 2 ^ 12) (fun t i => ?_) (fun t i k other => ?_) (List.mem_range.2 k.isLt)
    · dsimp only
      split
      · rw [rd_wr_ne _ _ _ _ _ _ _ _ (by decide)]
        exact rd_wr_same ..
      · exact rd_wr_same ..
    · dsimp only
      split
      · rw [rd_wr_ne _ _ _ _ _ _ _ _ (by decide), rd_wr_inst _ _ _ _ _ _ _ other]
      · exact rd_wr_inst _ _ _ _ _ _ _ other
  have unarmed : armed.contains k.val = false := by simp [armed, State.flag, clear]
  have reading : l.getD k (s.region_ k).last = l.getD k 0 := by
    have present : k.val < l.length := by omega
    simp only [List.getD_eq_getElem?_getD, List.getElem?_eq_getElem present, Option.getD_some]
  rw [judged.rd_same, entered]
  simp only [codes, unarmed, reading, Bool.false_eq_true, if_false, Nat.add_zero]
  exact Nat.mod_mod _ _

end

/-! BIAS_FAULT and BIAS_FAULT_CLEARED (R149). -/

section

variable {s : State} {k : Nat}

/-- The edges of the region and of its neighbours follow its condition, and nothing else does. -/
theorem biasFlag_kept {b : Bool} :
    Kept (Foot.field RG_STATUS_EDGE_SUSPECT.id) (s.setb RG_STATUS_BIAS_FAULT b k) (biasFlag k b s) :=
  Kept.refl.foldl fun _ _ h => h.refreshSuspect .refl

theorem flag_biasFlag {b : Bool} : (biasFlag k b s).flag RG_STATUS_BIAS_FAULT k = b := by
  rw [State.flag, biasFlag_kept.rd_same, State.setb, rd_wr_same]
  cases b <;> rfl

theorem measured_biasFlag {b : Bool} : (biasFlag k b s).rd RG_BIAS_MEASURED k = s.rd RG_BIAS_MEASURED k :=
  biasFlag_kept.rd_same.trans (rd_wr_ne _ _ _ _ _ _ _ _ (by decide))

theorem biasFaults_biasFlag {b : Bool} : (biasFlag k b s).rd RG_FAULT_COUNT_BIAS_FAULTS k = s.rd RG_FAULT_COUNT_BIAS_FAULTS k :=
  biasFlag_kept.rd_same.trans (rd_wr_ne _ _ _ _ _ _ _ _ (by decide))

/-- A measured bias fills its field. -/
theorem measured_wr {m : Fin 1024} : (s.wr RG_BIAS_MEASURED m k).rd RG_BIAS_MEASURED k = m :=
  (rd_wr_same ..).trans (Nat.mod_eq_of_lt m.isLt)

end

section

variable {s : State} {k : Fin 64} {m : Fin 1024}

/-- The state in which a new bias fault stands and is counted. -/
def biasFaulted (k m : Nat) (s : State) : State :=
  (biasFlag k true (s.wr RG_BIAS_MEASURED m k)).incSat RG_FAULT_COUNT_BIAS_FAULTS k

theorem exec_biasFault_of_new (clear : s.rd RG_INJECT_INJ_BIAS k = 0) (new : s.flag RG_STATUS_BIAS_FAULT k = false)
    (far : (biasOf m - biasOf (s.rd RG_BIAS_TARGET k)).natAbs > 25) :
    exec (.biasFault k m) s = .next (raiseInj E.BIAS_FAULT k m false (biasFaulted k m s)) := by
  have still : (s.wr RG_BIAS_MEASURED m k).flag RG_STATUS_BIAS_FAULT k = false := by
    rwa [State.flag, rd_wr_ne _ _ _ _ _ _ _ _ (by decide)]
  show execBiasFault k m s = _
  simp only [execBiasFault, takeInj_of_clear clear, Bool.false_eq_true, if_false, Nat.add_zero, Nat.mod_eq_of_lt m.isLt,
    if_pos far, still]
  rfl

theorem biasFault_runs (clear : s.rd RG_INJECT_INJ_BIAS k = 0) (new : s.flag RG_STATUS_BIAS_FAULT k = false)
    (far : (biasOf m - biasOf (s.rd RG_BIAS_TARGET k)).natAbs > 25) :
    Runs (.biasFault k m) s fun t =>
      t.rd RG_BIAS_MEASURED k = m ∧ t.flag RG_STATUS_BIAS_FAULT k = true ∧
        t.rd RG_FAULT_COUNT_BIAS_FAULTS k = min (s.rd RG_FAULT_COUNT_BIAS_FAULTS k + 1) 255 := by
  refine ⟨_, exec_biasFault_of_new clear new far, ?_, ?_, ?_⟩
  · rw [rd_raiseInj (by decide +kernel), biasFaulted, State.incSat, rd_wr_ne _ _ _ _ _ _ _ _ (by decide), measured_biasFlag,
      measured_wr]
  · rw [State.flag, rd_raiseInj (by decide +kernel), biasFaulted, State.incSat, rd_wr_ne _ _ _ _ _ _ _ _ (by decide)]
    exact flag_biasFlag
  · have byte : min (s.rd RG_FAULT_COUNT_BIAS_FAULTS k + 1) 255 < 2 ^ 8 := by omega
    rw [rd_raiseInj (by decide +kernel), biasFaulted, State.incSat, rd_wr_same, biasFaults_biasFlag,
      rd_wr_ne _ _ _ _ _ _ _ _ (by decide)]
    exact Nat.mod_eq_of_lt byte

theorem biasFaultCleared_runs (near : (biasOf m - biasOf (s.rd RG_BIAS_TARGET k)).natAbs ≤ 25) :
    Runs (.biasFaultCleared k m) s fun t =>
      t.rd RG_BIAS_MEASURED k = m ∧ t.flag RG_STATUS_BIAS_FAULT k = false := by
  have clears : exec (.biasFaultCleared k m) s = .next (biasFlag k false (s.wr RG_BIAS_MEASURED m k)) := if_pos near
  exact ⟨_, clears, measured_biasFlag.trans measured_wr, flag_biasFlag⟩

theorem exec_biasFaultCleared_of_far (far : 25 < (biasOf m - biasOf (s.rd RG_BIAS_TARGET k)).natAbs) :
    exec (.biasFaultCleared k m) s = .next s :=
  if_neg (Nat.not_le.2 far)

end

/-- Settles O14, clause by clause: FABRIC_RESET where it acts (R153, R168) and where it is ignored (R153, R209), a region's
reading, and the bias condition as it begins and as it clears. -/
theorem regionResults : Obligations.RegionResults :=
  ⟨fun _ _ runs waits loads failed => fabricReset_runs runs waits loads failed,
    fun _ _ ignored => exec_fabricReset_of_ignored ignored,
    fun _ _ _ whole clear => ⟨_, rfl, temp_execTempReading whole clear rfl⟩,
    fun _ _ _ clear new far => biasFault_runs clear new far,
    fun _ _ _ near => biasFaultCleared_runs near,
    fun _ _ _ far => exec_biasFaultCleared_of_far far⟩

end Sys2Proof

namespace Sys2Proof

open Machine Machine.F

set_option Elab.async false

/-! What the commands of the family slices leave unchanged (R154, R165, R170). -/

/-- Settles O45: the footprint of each command of the family lies within what it may change. -/
theorem sliceFrames : Obligations.SliceFrames := by
  intro c s t hc e
  refine Kept.framed_of ?_
  have fabricReset : Foot.execFabricReset.Within (Instr.fabricReset 0).places := ⟨by decide +kernel⟩
  have tempReading : Foot.execTempReading.Within (Instr.tempReading []).places := ⟨by decide +kernel⟩
  have biasFault : Foot.execBiasFault.Within (Instr.biasFault 0 0).places := ⟨by decide +kernel⟩
  have biasCleared : Foot.execBiasFaultCleared.Within (Instr.biasFaultCleared 0 0).places := ⟨by decide +kernel⟩
  have start : Foot.execSliceStart.Within (Instr.sliceStart 0 0 0).places := ⟨by decide +kernel⟩
  have stop : Foot.execSliceStop.Within (Instr.sliceStop 0 0).places := ⟨by decide +kernel⟩
  have cont : Foot.execSliceContinue.Within (Instr.sliceContinue 0 0).places := ⟨by decide +kernel⟩
  have nop : Foot.execSliceNop.Within (Instr.sliceNop 0 0).places := ⟨by decide +kernel⟩
  have mac : Foot.execMac.Within (Instr.mac 0 0).places := ⟨by decide +kernel⟩
  have repeat_ : Foot.execRepeat.Within (Instr.repeat_ 0 0).places := ⟨by decide +kernel⟩
  have store : Foot.execStore.Within (Instr.store 0 0).places := ⟨by decide +kernel⟩
  have setp : Foot.execSliceNop.Within (Instr.setp 0 0).places := ⟨by decide +kernel⟩
  have halt : Foot.execHalt.Within (Instr.halt 0 0).places := ⟨by decide +kernel⟩
  have memAccess : Foot.execSliceMemAccess.Within (Instr.sliceMemAccess 0 0 false false 0 0).places := ⟨by decide +kernel⟩
  have inputWord : (Foot.part .slices).Within (Instr.sliceInputWord 0 0 0).places := ⟨by decide +kernel⟩
  have outputTake : (Foot.part .slices).Within (Instr.sliceOutputTake 0 0).places := ⟨by decide +kernel⟩
  have slClear : Foot.execSlClearCounts.Within (Instr.slClearCounts 0 0).places := ⟨by decide +kernel⟩
  cases c
  case fabricReset => exact Kept.refl.execFabricReset fabricReset t e
  case tempReading => exact Kept.refl.execTempReading tempReading t e
  case biasFault => exact Kept.refl.execBiasFault biasFault t e
  case biasFaultCleared => exact Kept.refl.execBiasFaultCleared biasCleared t e
  case sliceStart => exact Kept.refl.execSliceStart start t e
  case sliceStop => exact Kept.refl.execSliceStop stop t e
  case sliceContinue => exact Kept.refl.execSliceContinue cont t e
  case sliceNop => exact Kept.refl.execSliceNop nop t e
  case mac => exact Kept.refl.execMac mac t e
  case repeat_ => exact Kept.refl.execRepeat repeat_ t e
  case store => exact Kept.refl.execStore store t e
  case setp => exact Kept.refl.execSetp setp t e
  case halt => exact Kept.refl.execHalt halt t e
  case sliceMemAccess => exact Kept.refl.execSliceMemAccess memAccess t e
  case sliceInputWord => exact Kept.refl.execSliceInputWord inputWord t e
  case sliceOutputTake => exact Kept.refl.execSliceOutputTake outputTake t e
  case slClearCounts => exact Kept.refl.execSlClearCounts slClear t e
  all_goals cases hc

end Sys2Proof

namespace Sys2Proof

open Machine Machine.F

set_option Elab.async false

/-! The unit of a slice, and what the shared operations of the slices do to it (R154, R166, R172). -/

section

variable {s t : State} {i n a b v : Nat} {f g : Fld} {c : Prop} [Decidable c]

@[simp] theorem slice_updSlice {u : SliceU → SliceU} : (s.updSlice i u).slice_ i = u (s.slice_ i) := by
  simp [State.slice_, State.updSlice]

@[simp] theorem rd_updSlice {u : SliceU → SliceU} : (s.updSlice i u).rd g a b = s.rd g a b := rfl

@[simp] theorem slice_wr : (s.wr f v a b).slice_ i = s.slice_ i := rfl

@[simp] theorem slice_updDbg {d : DbgSt → DbgSt} : (s.updDbg d).slice_ i = s.slice_ i := rfl

@[simp] theorem slice_incWrap : (s.incWrap f a b n).slice_ i = s.slice_ i := rfl

@[simp] theorem slice_incSat : (s.incSat f a b n).slice_ i = s.slice_ i := rfl

theorem slice_ite : (if c then s else t).slice_ i = if c then s.slice_ i else t.slice_ i :=
  apply_ite (fun r : State => r.slice_ i) ..

theorem rd_ite : (if c then s else t).rd g a b = if c then s.rd g a b else t.rd g a b :=
  apply_ite (fun r : State => r.rd g a b) ..

theorem rd_incWrap_same : (s.incWrap f a b n).rd f a b = (s.rd f a b + n) % 2 ^ f.width := rd_wr_same ..

theorem rd_incWrap_ne (h : g.id ≠ f.id) : (s.incWrap f i n v).rd g a b = s.rd g a b := rd_wr_ne _ _ _ _ _ _ _ _ h

theorem rd_incSat_ne (h : g.id ≠ f.id) : (s.incSat f i n v).rd g a b = s.rd g a b := rd_wr_ne _ _ _ _ _ _ _ _ h

@[simp] theorem slice_sliceCycles :
    (sliceCycles i n s).slice_ i = { s.slice_ i with sinceMac := min 3 ((s.slice_ i).sinceMac + n) } :=
  slice_updSlice

theorem cycles_sliceCycles :
    (sliceCycles i n s).rd SL_CYCLES_CYCLES i = (s.rd SL_CYCLES_CYCLES i + n) % 2 ^ 64 := rd_wr_same ..

theorem rd_sliceCycles_ne (h : g.id ≠ SL_CYCLES_CYCLES.id) : (sliceCycles i n s).rd g a b = s.rd g a b :=
  rd_incWrap_ne h

theorem ptrField_cases (n : Nat) : ptrField n = SL_PTR_P_X ∨ ptrField n = SL_PTR_P_Y ∨ ptrField n = SL_PTR_P_W := by
  unfold ptrField
  split <;> simp

end

/-! Execution goes on (R166). -/

section

variable {s : State} {i : Nat} {l : Loop} {rest : List Loop}

/-- With no loop open, execution goes on with the next entry. -/
theorem retire_of_no_loop (none : (s.slice_ i).loops = []) :
    retire i s = (s.wr SL_PTR_PC (s.rd SL_PTR_PC i + 1) i).updSlice i
      fun u => { u with past := decide (s.rd SL_PTR_PC i + 1 > 63) } := by
  simp [retire, arrive, none]

theorem pc_retire (none : (s.slice_ i).loops = []) : (retire i s).rd SL_PTR_PC i = (s.rd SL_PTR_PC i + 1) % 64 := by
  rw [retire_of_no_loop none]
  exact rd_wr_same ..

theorem slice_retire (none : (s.slice_ i).loops = []) :
    (retire i s).slice_ i = { s.slice_ i with past := decide (s.rd SL_PTR_PC i + 1 > 63) } := by
  rw [retire_of_no_loop none]
  exact slice_updSlice

/-- Going on changes no field but the pointers, PC and ITER. -/
theorem rd_retire {g : Fld} {a b : Nat}
    (apart : Foot.arrive &&& (Foot.field g.id ||| Foot.reset ||| Foot.waiting ||| Foot.staged) = 0 := by decide +kernel) :
    (retire i s).rd g a b = s.rd g a b :=
  (Kept.refl.retire .refl).rd_same apart

/-- In the last entry of a loop with iterations left, one of them is counted and execution returns to its start. -/
theorem retire_at_loop_end (loops : (s.slice_ i).loops = l :: rest) (ends : s.rd SL_PTR_PC i + 1 = l.start + l.body)
    (more : 0 < l.left) :
    (retire i s).rd SL_PTR_PC i = l.start % 64 ∧
      ((retire i s).slice_ i).loops = { l with left := l.left - 1 } :: rest := by
  simp only [retire, arrive, loops, ends, if_true, gt_iff_lt, more]
  exact ⟨rd_wr_same .., by rw [slice_updSlice]⟩

end

/-! The next instruction issues (R165, R168). -/

section

variable {s : State} {i opc ins : Nat}

theorem fetchIns_of_issues (h : issues s i ins = true) (op : bits ins 63 60 = opc) :
    fetchIns i opc s = some (some ins, s) := by
  simp only [issues, Bool.and_eq_true, beq_iff_eq, Bool.not_eq_true'] at h
  obtain ⟨⟨⟨⟨⟨⟨running, runs⟩, inside⟩, clear⟩, parity⟩, due⟩, valid⟩ := h
  simp [fetchIns, running, runs, inside, takeInj_of_clear clear, parity, due, valid, op]

/-- A command of the opcode of the instruction that issues runs it. -/
theorem runs_issue {c : Instr} {f : Nat → State → State} {P : State → Prop} (meaning : exec c s = issue i opc s f)
    (h : issues s i ins = true) (op : bits ins 63 60 = opc) (p : P (f ins s)) : Runs c s P :=
  ⟨_, by rw [meaning, issue, fetchIns_of_issues h op], p⟩

theorem issue_of_other {f : Nat → State → State} (other : fetchIns i opc s = none) : issue i opc s f = .next s := by
  rw [issue, other]

theorem fetchIns_of_invalid (running : s.rd SL_STATUS_STATE i = 1) (runs : sliceRuns s i = true)
    (inside : (s.slice_ i).past = false) (clear : s.rd SL_INJECT_INJ_PROG i = 0)
    (parity : sget 0 (s.slice_ i).progBad (s.rd SL_PTR_PC i) = 0)
    (invalid : badIns (sget 0 (s.slice_ i).prog (s.rd SL_PTR_PC i)) = true) :
    fetchIns i opc s = some (none, sliceFault i 1 false s) := by
  simp [fetchIns, running, runs, inside, takeInj_of_clear clear, parity, invalid]

/-- The fault of an invalid instruction, code 1, leaves its code and the entry in SL_FAULT_INFO (R168). -/
theorem faultInfo_sliceFault {injected : Bool} :
    (sliceFault i 1 injected s).rd SL_FAULT_INFO_FAULT_CODE i = 1 ∧
      (sliceFault i 1 injected s).rd SL_FAULT_INFO_FAULT_PC i = s.rd SL_PTR_PC i % 64 := by
  rw [sliceFault, rd_raiseInj (by decide +kernel), rd_raiseInj (by decide +kernel)]
  simp (disch := decide) only [rd_wr_ne, rd_incSat_ne, rd_wr_same]
  exact ⟨rfl, rfl⟩

end

/-! MAC (R157, R158, R167). -/

section

variable {s : State} {i ins p : Nat}

theorem loadSide_of_good (clear : s.rd SL_INJECT_INJ_OPMEM i = 0) (good : sget 0 (s.slice_ i).opBad p = 0) :
    loadSide i 1 p s = .inr (some (sget 0 (s.slice_ i).opmem p), s) := by
  simp [loadSide, readOperand, takeInj_of_clear clear, good]

/-- The state in which a MAC of two operands from the memory has taken its sums and not yet gone on. -/
def summed (i ins : Nat) (s : State) : State :=
  let m := macOf s i ins
  let loaded := s.updSlice i fun u =>
    { u with x := sget 0 (s.slice_ i).opmem (s.rd SL_PTR_P_X i), y := sget 0 (s.slice_ i).opmem (s.rd SL_PTR_P_Y i) }
  let low := if m.1.2 then loaded.wr SL_STATUS_OVF0 1 i else loaded
  let both := if m.2.2 then low.wr SL_STATUS_OVF1 1 i else low
  ((sliceCycles i 1 both).incWrap SL_MACS_MACS i).updSlice i fun u =>
    { u with
      acc0 := m.1.1, acc1 := m.2.1, sinceMac := if bits ins 51 49 != 0 || bits ins 48 46 != 0 then 0 else u.sinceMac }

theorem runMac_of_memory (x : bits ins 57 56 = 1) (y : bits ins 55 54 = 1) (clear : s.rd SL_INJECT_INJ_OPMEM i = 0)
    (goodX : sget 0 (s.slice_ i).opBad (s.rd SL_PTR_P_X i) = 0)
    (goodY : sget 0 (s.slice_ i).opBad (s.rd SL_PTR_P_Y i) = 0) :
    runMac i ins s = retire i (summed i ins s) := by
  simp only [runMac, x, y, Nat.reduceBEq, Bool.or_self, Bool.false_and, Bool.false_eq_true, if_false,
    loadSide_of_good clear goodX, loadSide_of_good clear goodY, slice_updSlice, Option.getD_some]
  rfl

theorem slice_summed : (summed i ins s).slice_ i =
    { s.slice_ i with
      x := sget 0 (s.slice_ i).opmem (s.rd SL_PTR_P_X i), y := sget 0 (s.slice_ i).opmem (s.rd SL_PTR_P_Y i),
      acc0 := (macOf s i ins).1.1, acc1 := (macOf s i ins).2.1,
      sinceMac := if bits ins 51 49 != 0 || bits ins 48 46 != 0 then 0 else min 3 ((s.slice_ i).sinceMac + 1) } := by
  simp only [summed, slice_updSlice, slice_incWrap, slice_sliceCycles, slice_ite, slice_wr, ite_self]

/-- Taking the sums changes no field but the overflow bits and the two counts. -/
theorem rd_summed_ne {g : Fld} {a b : Nat} (ovf0 : g.id ≠ SL_STATUS_OVF0.id) (ovf1 : g.id ≠ SL_STATUS_OVF1.id)
    (cycles : g.id ≠ SL_CYCLES_CYCLES.id) (macs : g.id ≠ SL_MACS_MACS.id) : (summed i ins s).rd g a b = s.rd g a b := by
  simp only [summed, rd_updSlice, rd_incWrap_ne macs, rd_sliceCycles_ne cycles, rd_ite, rd_wr_ne _ _ _ _ _ _ _ _ ovf0,
    rd_wr_ne _ _ _ _ _ _ _ _ ovf1, ite_self]

theorem macs_summed : (summed i ins s).rd SL_MACS_MACS i = (s.rd SL_MACS_MACS i + 1) % 2 ^ 64 := by
  simp (disch := decide) only [summed, rd_updSlice, rd_incWrap_same, rd_sliceCycles_ne, rd_ite, rd_wr_ne, ite_self]
  rfl

theorem ovf0_summed :
    (summed i ins s).rd SL_STATUS_OVF0 i = if (macOf s i ins).1.2 then 1 else s.rd SL_STATUS_OVF0 i := by
  simp (disch := decide) only [summed, rd_updSlice, rd_incWrap_ne, rd_sliceCycles_ne, rd_ite, rd_wr_ne, rd_wr_same,
    ite_self]
  rfl

theorem ovf1_summed :
    (summed i ins s).rd SL_STATUS_OVF1 i = if (macOf s i ins).2.2 then 1 else s.rd SL_STATUS_OVF1 i := by
  simp (disch := decide) only [summed, rd_updSlice, rd_incWrap_ne, rd_sliceCycles_ne, rd_ite, rd_wr_ne, rd_wr_same,
    ite_self]
  rfl

/-- An empty input FIFO stalls a MAC that reads it, for one slice cycle. -/
theorem runMac_of_stall (fifo : bits ins 57 56 = 2 ∨ bits ins 55 54 = 2) (empty : (s.slice_ i).inFifo = []) :
    runMac i ins s = (sliceCycles i 1 s).incSat SL_STALL_STALL_IN i := by
  simp [runMac, fifo, empty]

end

/-! STORE (R159, R167). -/

section

variable {s : State} {i ins : Nat}

/-- The state in which a STORE has put its word into the output FIFO or the operand memory and not yet gone on. -/
def stored (i ins : Nat) (s : State) : State :=
  let w := storeWord ins (s.slice_ i).acc0 (s.slice_ i).acc1
  let drained := sliceCycles i (3 - min 3 (s.slice_ i).sinceMac) s
  let marked := if w.2 then drained.wr SL_STATUS_STORE_SAT 1 i else drained
  let put := if bit ins 59 then marked.updSlice i fun u => { u with outFifo := u.outFifo ++ [w.1] }
    else marked.updSlice i fun u =>
      { u with opmem := sput 0 u.opmem (s.rd SL_PTR_P_W i) w.1, opBad := sput 0 u.opBad (s.rd SL_PTR_P_W i) 0 }
  sliceCycles i 1 (if bit ins 47 then put.updSlice i fun u => { u with acc0 := 0, acc1 := 0 } else put)

theorem runStore_of_room (room : bit ins 59 = true → (s.slice_ i).outFifo.length < 8) :
    runStore i ins s = retire i (stored i ins s) := by
  have free : (bit ins 59 && decide ((s.slice_ i).outFifo.length ≥ 8)) = false := by
    cases h : bit ins 59
    · rfl
    · simpa using room h
  simp (disch := decide) only [runStore, slice_sliceCycles, free, Bool.false_eq_true, if_false, rd_ite, rd_wr_ne,
    rd_sliceCycles_ne, ite_self]
  rfl

theorem slice_stored : (stored i ins s).slice_ i =
    let w := (storeWord ins (s.slice_ i).acc0 (s.slice_ i).acc1).1
    let p := s.rd SL_PTR_P_W i
    let u := s.slice_ i
    { u with
      acc0 := if bit ins 47 then 0 else u.acc0, acc1 := if bit ins 47 then 0 else u.acc1,
      outFifo := if bit ins 59 then u.outFifo ++ [w] else u.outFifo,
      opmem := if bit ins 59 then u.opmem else sput 0 u.opmem p w,
      opBad := if bit ins 59 then u.opBad else sput 0 u.opBad p 0,
      sinceMac := min 3 (min 3 (u.sinceMac + (3 - min 3 u.sinceMac)) + 1) } := by
  simp only [stored, slice_sliceCycles, slice_ite, slice_updSlice, slice_wr, ite_self]
  cases bit ins 59 <;> cases bit ins 47 <;> rfl

end

/-! REPEAT, SETP and HALT (R165, R166, R168). -/

section

variable {s : State} {i ins : Nat}

theorem runRepeat_of_fit (fits : badNest (s.slice_ i) (s.rd SL_PTR_PC i) ins = false)
    (level : sget 0 (s.slice_ i).progBad (64 + bits ins 59 58) = 0) (window : sget 0 (s.slice_ i).progBad 68 = 0) :
    (runRepeat i ins s).rd SL_PTR_PC i = (s.rd SL_PTR_PC i + 1) % 64 ∧
      ((runRepeat i ins s).slice_ i).loops =
        ⟨s.rd SL_PTR_PC i + 1, bits ins 5 0, bits ins 59 58, bits ins 47 32 - 1⟩ :: (s.slice_ i).loops := by
  simp only [runRepeat, fits, level, window, bne_self_eq_false, Bool.or_self, Bool.false_eq_true, if_false]
  exact ⟨rd_wr_same .., by rw [slice_updSlice]; rfl⟩

theorem pointer_runSetp (none : (s.slice_ i).loops = []) :
    (runSetp i ins s).rd (ptrField (bits ins 59 58)) i = bits ins 7 0 := by
  rw [runSetp, retire_of_no_loop (by simpa using none)]
  have value : bits ins 7 0 < 2 ^ 8 := bits_lt
  rcases ptrField_cases (bits ins 59 58) with h | h | h <;> rw [h] <;>
    simp (disch := decide) only [rd_updSlice, rd_wr_ne, rd_sliceCycles_ne, rd_wr_same] <;> exact Nat.mod_eq_of_lt value

theorem runHalt_done : (runHalt i s).rd SL_STATUS_STATE i = 3 ∧ slDone (runHalt i s) i = true := by
  refine ⟨rd_wr_same .., ?_⟩
  simp [runHalt, slDone]

end

/-! The commands of the fabric (R168 to R170). -/

section

variable {s : State} {k : Fin 64} {t : Fin 96} {f : State → State}

theorem whenRuns_of_runs (runs : sliceRuns s (sliceIdx k t) = true) (port : slicePort s (sliceIdx k t) = true) :
    whenRuns k t s f = .next (f s) := by
  simp [whenRuns, runs, port]

theorem whenRuns_of_still (still : (sliceRuns s (sliceIdx k t) && slicePort s (sliceIdx k t)) = false) :
    whenRuns k t s f = .next s := by
  simp [whenRuns, still]

theorem whenPort_of_port (port : slicePort s (sliceIdx k t) = true) : whenPort k t s f = .next (f s) :=
  congrArg _ (if_pos port)

end

/-! An event leaves the answer at the memory port (R457, R463). -/

section

variable {s : State} {i k g n a : Nat} {e : Evt} {b w : Bool} {hits : List Nat}

theorem ack_haltSlice : ((haltSlice k g s).slice_ i).ack = (s.slice_ i).ack := by
  unfold haltSlice
  split
  · simp only [State.slice_, updSlices_slices, sget_sput]
    split
    next same => rw [same]; rfl
    next => rfl
  · rfl

theorem ack_haltAttached : ((haltAttached s).slice_ i).ack = (s.slice_ i).ack := by
  unfold haltAttached
  refine List.foldlRecOn (motive := fun t : State => (t.slice_ i).ack = (s.slice_ i).ack) _ _ rfl fun t kept x _ => ?_
  dsimp only
  split
  · exact ack_haltSlice.trans kept
  · exact kept

theorem slice_raiseCore : (raiseCore e n a b w s).slice_ i = s.slice_ i :=
  (Kept.refl.raiseCore .refl).slice_same

theorem slice_countHits : (countHits hits s).slice_ i = s.slice_ i :=
  (Kept.refl.countHits .refl).slice_same

theorem ack_sequencerStep : ((sequencerStep hits s).slice_ i).ack = (s.slice_ i).ack := by
  simp only [sequencerStep, slice_ite, apply_ite SliceU.ack, slice_wr, slice_updDbg, ack_haltAttached, slice_countHits,
    slice_raiseCore, ite_self]

theorem ack_raiseInj : ((raiseInj e n a b s).slice_ i).ack = (s.slice_ i).ack := by
  unfold raiseInj comparatorHits
  dsimp only
  split
  · rw [slice_raiseCore]
  · rw [ack_sequencerStep, slice_countHits, slice_raiseCore]

end

/-! The commands that start, stop and continue a slice (R168, R169). -/

section

variable {s : State} {k : Fin 64} {t : Fin 96}

/-- A command of a slice of which both clocks run, through the model's own definition of its meaning. -/
theorem runs_whenRuns {c : Instr} {f : State → State} {P : State → Prop} (out : Out) (meaning : exec c s = out)
    (waits : out = whenRuns k t s f) (runs : sliceRuns s (sliceIdx k t) = true)
    (port : slicePort s (sliceIdx k t) = true) (p : P (f s)) : Runs c s P :=
  ⟨_, (meaning.trans waits).trans (whenRuns_of_runs runs port), p⟩

theorem runs_whenPort {c : Instr} {f : State → State} {P : State → Prop} (out : Out) (meaning : exec c s = out)
    (waits : out = whenPort k t s f) (port : slicePort s (sliceIdx k t) = true) (p : P (f s)) : Runs c s P :=
  ⟨_, (meaning.trans waits).trans (whenPort_of_port port), p⟩

section

variable (runs : sliceRuns s (sliceIdx k t) = true) (port : slicePort s (sliceIdx k t) = true)
include runs port

theorem sliceStart_runs {e : Fin 64} (still : s.rd SL_STATUS_STATE (sliceIdx k t) ≠ 1)
    (free : s.rd SL_STATUS_STATE (sliceIdx k t) ≠ 5) :
    Runs (.sliceStart k t e) s fun u =>
      u.rd SL_STATUS_STATE (sliceIdx k t) = 1 ∧ u.rd SL_PTR_PC (sliceIdx k t) = e ∧
        (u.slice_ (sliceIdx k t)).acc0 = 0 ∧ (u.slice_ (sliceIdx k t)).acc1 = 0 ∧
        u.rd SL_PTR_P_X (sliceIdx k t) = 0 ∧ u.rd SL_STATUS_OVF0 (sliceIdx k t) = 0 := by
  refine runs_whenRuns (execSliceStart k t e s) rfl rfl runs port ?_
  simp (disch := decide) only [beq_false_of_ne still, beq_false_of_ne free, Bool.or_self, Bool.false_eq_true, if_false,
    rd_wr_same, rd_wr_ne, rd_updSlice, slice_wr, slice_updSlice]
  exact ⟨rfl, Nat.mod_eq_of_lt e.isLt, trivial, trivial, rfl, rfl⟩

theorem sliceStop_runs (running : s.rd SL_STATUS_STATE (sliceIdx k t) = 1) :
    Runs (.sliceStop k t) s fun u =>
      u.rd SL_STATUS_STATE (sliceIdx k t) = 2 ∧
        u.rd SL_CYCLES_CYCLES (sliceIdx k t) = (s.rd SL_CYCLES_CYCLES (sliceIdx k t) + 4) % 2 ^ 64 := by
  refine runs_whenRuns (execSliceStop k t s) rfl rfl runs port ?_
  simp (disch := decide) only [running, beq_self_eq_true, if_true, rd_wr_same, rd_wr_ne, cycles_sliceCycles]
  exact ⟨rfl, trivial⟩

theorem exec_sliceContinue_of_stopped (stopped : s.rd SL_STATUS_STATE (sliceIdx k t) = 2) :
    exec (.sliceContinue k t) s = .next (s.wr SL_STATUS_STATE 1 (sliceIdx k t)) := by
  show execSliceContinue k t s = _
  refine (whenRuns_of_runs runs port).trans ?_
  simp only [stopped, beq_self_eq_true, if_true]

/-- A command that the slice's state does not allow only sets CMD_IGNORED. -/
theorem exec_sliceCommand_of_ignored {e : Fin 64} :
    ((s.rd SL_STATUS_STATE (sliceIdx k t) = 1 ∨ s.rd SL_STATUS_STATE (sliceIdx k t) = 5) →
      exec (.sliceStart k t e) s = .next (ignoreCmd (sliceIdx k t) s)) ∧
    (s.rd SL_STATUS_STATE (sliceIdx k t) ≠ 1 → exec (.sliceStop k t) s = .next (ignoreCmd (sliceIdx k t) s)) ∧
    (s.rd SL_STATUS_STATE (sliceIdx k t) ≠ 2 → exec (.sliceContinue k t) s = .next (ignoreCmd (sliceIdx k t) s)) := by
  refine ⟨fun busy => ?_, fun other => ?_, fun other => ?_⟩
  · show execSliceStart k t e s = _
    refine (whenRuns_of_runs runs port).trans ?_
    have taken : (s.rd SL_STATUS_STATE (sliceIdx k t) == 1 || s.rd SL_STATUS_STATE (sliceIdx k t) == 5) = true := by
      simpa using busy
    simp only [taken, if_true]
  · show execSliceStop k t s = _
    refine (whenRuns_of_runs runs port).trans ?_
    simp only [beq_false_of_ne other, Bool.false_eq_true, if_false]
  · show execSliceContinue k t s = _
    refine (whenRuns_of_runs runs port).trans ?_
    simp only [beq_false_of_ne other, Bool.false_eq_true, if_false]

end

/-- A slice of which a clock line does not run takes no command. -/
theorem exec_sliceCommand_of_still {e : Fin 64}
    (still : (sliceRuns s (sliceIdx k t) && slicePort s (sliceIdx k t)) = false) :
    exec (.sliceStart k t e) s = .next s ∧ exec (.sliceStop k t) s = .next s ∧ exec (.sliceContinue k t) s = .next s :=
  ⟨show execSliceStart k t e s = _ from whenRuns_of_still still,
    show execSliceStop k t s = _ from whenRuns_of_still still,
    show execSliceContinue k t s = _ from whenRuns_of_still still⟩

end

/-! The instructions (R157 to R168). -/

section

variable {s : State} {k : Fin 64} {t : Fin 96} {ins : Nat}

theorem sliceNop_runs (h : issues s (sliceIdx k t) ins = true) (op : bits ins 63 60 = 0)
    (none : (s.slice_ (sliceIdx k t)).loops = []) :
    Runs (.sliceNop k t) s fun u =>
      u.rd SL_PTR_PC (sliceIdx k t) = (s.rd SL_PTR_PC (sliceIdx k t) + 1) % 64 ∧
        u.rd SL_CYCLES_CYCLES (sliceIdx k t) = (s.rd SL_CYCLES_CYCLES (sliceIdx k t) + 1) % 2 ^ 64 := by
  refine runs_issue rfl h op ⟨?_, .trans rd_retire cycles_sliceCycles⟩
  rw [pc_retire (by simpa using none), rd_sliceCycles_ne (by decide)]

theorem sliceNop_loop_runs {l : Loop} {rest : List Loop} (h : issues s (sliceIdx k t) ins = true) (op : bits ins 63 60 = 0)
    (loops : (s.slice_ (sliceIdx k t)).loops = l :: rest) (ends : s.rd SL_PTR_PC (sliceIdx k t) + 1 = l.start + l.body)
    (more : 0 < l.left) :
    Runs (.sliceNop k t) s fun u =>
      u.rd SL_PTR_PC (sliceIdx k t) = l.start % 64 ∧
        (u.slice_ (sliceIdx k t)).loops = { l with left := l.left - 1 } :: rest :=
  runs_issue rfl h op
    (retire_at_loop_end (by simpa using loops) (by rwa [rd_sliceCycles_ne (by decide)]) more)

theorem mac_runs (h : issues s (sliceIdx k t) ins = true) (op : bits ins 63 60 = 1) (x : bits ins 57 56 = 1)
    (y : bits ins 55 54 = 1) (clear : s.rd SL_INJECT_INJ_OPMEM (sliceIdx k t) = 0)
    (goodX : sget 0 (s.slice_ (sliceIdx k t)).opBad (s.rd SL_PTR_P_X (sliceIdx k t)) = 0)
    (goodY : sget 0 (s.slice_ (sliceIdx k t)).opBad (s.rd SL_PTR_P_Y (sliceIdx k t)) = 0)
    (none : (s.slice_ (sliceIdx k t)).loops = []) :
    Runs (.mac k t) s fun u =>
      (u.slice_ (sliceIdx k t)).acc0 = (macOf s (sliceIdx k t) ins).1.1 ∧
        (u.slice_ (sliceIdx k t)).acc1 = (macOf s (sliceIdx k t) ins).2.1 ∧
        u.rd SL_MACS_MACS (sliceIdx k t) = (s.rd SL_MACS_MACS (sliceIdx k t) + 1) % 2 ^ 64 ∧
        u.rd SL_PTR_PC (sliceIdx k t) = (s.rd SL_PTR_PC (sliceIdx k t) + 1) % 64 ∧
        u.rd SL_STATUS_OVF0 (sliceIdx k t) =
          (if (macOf s (sliceIdx k t) ins).1.2 then 1 else s.rd SL_STATUS_OVF0 (sliceIdx k t)) ∧
        u.rd SL_STATUS_OVF1 (sliceIdx k t) =
          (if (macOf s (sliceIdx k t) ins).2.2 then 1 else s.rd SL_STATUS_OVF1 (sliceIdx k t)) := by
  refine runs_issue rfl h op ?_
  have closed : ((summed (sliceIdx k t) ins s).slice_ (sliceIdx k t)).loops = [] := by rw [slice_summed]; exact none
  rw [runMac_of_memory x y clear goodX goodY, pc_retire closed, slice_retire closed, slice_summed,
    rd_summed_ne (by decide) (by decide) (by decide) (by decide)]
  exact ⟨rfl, rfl, .trans rd_retire macs_summed, rfl, .trans rd_retire ovf0_summed, .trans rd_retire ovf1_summed⟩

theorem mac_stall_runs (h : issues s (sliceIdx k t) ins = true) (op : bits ins 63 60 = 1)
    (fifo : bits ins 57 56 = 2 ∨ bits ins 55 54 = 2) (empty : (s.slice_ (sliceIdx k t)).inFifo = []) :
    Runs (.mac k t) s fun u =>
      u.rd SL_PTR_PC (sliceIdx k t) = s.rd SL_PTR_PC (sliceIdx k t) ∧
        (u.slice_ (sliceIdx k t)).acc0 = (s.slice_ (sliceIdx k t)).acc0 ∧
        u.rd SL_CYCLES_CYCLES (sliceIdx k t) = (s.rd SL_CYCLES_CYCLES (sliceIdx k t) + 1) % 2 ^ 64 := by
  refine runs_issue rfl h op ?_
  rw [runMac_of_stall fifo empty, rd_incSat_ne (by decide), rd_incSat_ne (by decide), rd_sliceCycles_ne (by decide),
    cycles_sliceCycles, slice_incSat, slice_sliceCycles]
  exact ⟨rfl, rfl, rfl⟩

theorem repeat_runs (h : issues s (sliceIdx k t) ins = true) (op : bits ins 63 60 = 2)
    (fits : badNest (s.slice_ (sliceIdx k t)) (s.rd SL_PTR_PC (sliceIdx k t)) ins = false)
    (level : sget 0 (s.slice_ (sliceIdx k t)).progBad (64 + bits ins 59 58) = 0)
    (window : sget 0 (s.slice_ (sliceIdx k t)).progBad 68 = 0) :
    Runs (.repeat_ k t) s fun u =>
      (u.slice_ (sliceIdx k t)).loops = ⟨s.rd SL_PTR_PC (sliceIdx k t) + 1, bits ins 5 0, bits ins 59 58,
        bits ins 47 32 - 1⟩ :: (s.slice_ (sliceIdx k t)).loops ∧
      u.rd SL_PTR_PC (sliceIdx k t) = (s.rd SL_PTR_PC (sliceIdx k t) + 1) % 64 :=
  runs_issue rfl h op (runRepeat_of_fit fits level window).symm

theorem store_memory_runs (h : issues s (sliceIdx k t) ins = true) (op : bits ins 63 60 = 3)
    (none : (s.slice_ (sliceIdx k t)).loops = []) (memory : bit ins 59 = false) :
    Runs (.store k t) s fun u =>
      sget 0 (u.slice_ (sliceIdx k t)).opmem (s.rd SL_PTR_P_W (sliceIdx k t)) =
          (storeWord ins (s.slice_ (sliceIdx k t)).acc0 (s.slice_ (sliceIdx k t)).acc1).1 ∧
        (u.slice_ (sliceIdx k t)).acc0 = (if bit ins 47 then 0 else (s.slice_ (sliceIdx k t)).acc0) := by
  refine runs_issue rfl h op ?_
  rw [runStore_of_room (by simp [memory]), slice_retire (by rw [slice_stored]; exact none), slice_stored]
  exact ⟨by simp [memory], rfl⟩

theorem store_fifo_runs (h : issues s (sliceIdx k t) ins = true) (op : bits ins 63 60 = 3)
    (none : (s.slice_ (sliceIdx k t)).loops = []) (fifo : bit ins 59 = true)
    (room : (s.slice_ (sliceIdx k t)).outFifo.length < 8) :
    Runs (.store k t) s fun u =>
      (u.slice_ (sliceIdx k t)).outFifo = (s.slice_ (sliceIdx k t)).outFifo ++
        [(storeWord ins (s.slice_ (sliceIdx k t)).acc0 (s.slice_ (sliceIdx k t)).acc1).1] := by
  refine runs_issue rfl h op ?_
  rw [runStore_of_room fun _ => room, slice_retire (by rw [slice_stored]; exact none), slice_stored]
  exact if_pos fifo

theorem mac_invalid_runs (running : s.rd SL_STATUS_STATE (sliceIdx k t) = 1) (runs : sliceRuns s (sliceIdx k t) = true)
    (inside : (s.slice_ (sliceIdx k t)).past = false) (clear : s.rd SL_INJECT_INJ_PROG (sliceIdx k t) = 0)
    (parity : sget 0 (s.slice_ (sliceIdx k t)).progBad (s.rd SL_PTR_PC (sliceIdx k t)) = 0)
    (invalid : badIns (sget 0 (s.slice_ (sliceIdx k t)).prog (s.rd SL_PTR_PC (sliceIdx k t))) = true) :
    Runs (.mac k t) s fun u =>
      u.rd SL_FAULT_INFO_FAULT_CODE (sliceIdx k t) = 1 ∧
        u.rd SL_FAULT_INFO_FAULT_PC (sliceIdx k t) = s.rd SL_PTR_PC (sliceIdx k t) % 64 := by
  refine ⟨_, ?_, faultInfo_sliceFault (injected := false)⟩
  show issue _ _ _ _ = _
  rw [issue, fetchIns_of_invalid running runs inside clear parity invalid]

end

/-! The memory port and the FIFOs (R160, R161, R163, R170). -/

section

variable {s : State} {k : Fin 64} {t : Fin 96} {a : Fin 256} {v : Nat}

theorem sliceMemAccess_operand_runs (runs : sliceRuns s (sliceIdx k t) = true) (port : slicePort s (sliceIdx k t) = true) :
    (Runs (.sliceMemAccess k t false true a v) s fun u =>
      sget 0 (u.slice_ (sliceIdx k t)).opmem a = v % 2 ^ 128 ∧
        sget 0 (u.slice_ (sliceIdx k t)).opBad a = 0 ∧ (u.slice_ (sliceIdx k t)).ack = some (0, false)) ∧
    Runs (.sliceMemAccess k t false false a v) s fun u =>
      (u.slice_ (sliceIdx k t)).ack = some (sget 0 (s.slice_ (sliceIdx k t)).opmem a,
        sget 0 (s.slice_ (sliceIdx k t)).opBad a != 0) := by
  constructor <;> refine runs_whenRuns (execSliceMemAccess k t false _ a v s) rfl rfl runs port ?_
  · simp
  · simp only [Bool.not_false, if_true, Bool.false_eq_true, if_false, slice_ite, apply_ite SliceU.ack, raise, ack_raiseInj,
      slice_incSat, slice_updSlice, ite_self]

theorem sliceMemAccess_program_runs (runs : sliceRuns s (sliceIdx k t) = true) (port : slicePort s (sliceIdx k t) = true)
    (idle : s.rd SL_STATUS_STATE (sliceIdx k t) = 0) :
    if a.val < 69 then
      Runs (.sliceMemAccess k t true true a v) s fun u =>
        sget 0 (u.slice_ (sliceIdx k t)).prog a = v % 2 ^ 64 ∧ (u.slice_ (sliceIdx k t)).ack = some (0, false)
    else Runs (.sliceMemAccess k t true true a v) s fun u =>
      (u.slice_ (sliceIdx k t)).prog = (s.slice_ (sliceIdx k t)).prog ∧
        (u.slice_ (sliceIdx k t)).ack = some (0, true) := by
  split
  next within =>
    refine runs_whenRuns (execSliceMemAccess k t true true a v s) rfl rfl runs port ?_
    simp [within, idle]
  next beyond =>
    refine runs_whenRuns (execSliceMemAccess k t true true a v s) rfl rfl runs port ?_
    simp [beyond]

theorem sliceInputWord_runs {w : Nat} (port : slicePort s (sliceIdx k t) = true)
    (room : (s.slice_ (sliceIdx k t)).inFifo.length < 16) :
    Runs (.sliceInputWord k t w) s fun u =>
      (u.slice_ (sliceIdx k t)).inFifo = (s.slice_ (sliceIdx k t)).inFifo ++ [w % 2 ^ 128] := by
  refine runs_whenPort (execSliceInputWord k t w s) rfl rfl port ?_
  simp only [room, if_true, slice_updSlice]

theorem sliceOutputTake_runs {w : Nat} {rest : List Nat} (port : slicePort s (sliceIdx k t) = true)
    (oldest : (s.slice_ (sliceIdx k t)).outFifo = w :: rest) :
    Runs (.sliceOutputTake k t) s fun u =>
      (u.slice_ (sliceIdx k t)).outFifo = rest ∧ (u.slice_ (sliceIdx k t)).taken = some w := by
  refine runs_whenPort (execSliceOutputTake k t s) rfl rfl port ?_
  simp only [oldest, slice_updSlice, and_self]

end

/-- Settles O13, clause by clause: the commands, the instructions by their opcodes, the fault of an invalid one, and the
ports. -/
theorem sliceResults : Obligations.SliceResults :=
  ⟨fun _ _ _ _ runs port still free => sliceStart_runs runs port still free,
    fun _ _ _ runs port running => sliceStop_runs runs port running,
    fun _ _ _ runs port stopped => exec_sliceContinue_of_stopped runs port stopped,
    fun _ _ _ _ runs port => exec_sliceCommand_of_ignored runs port,
    fun _ _ _ _ still => exec_sliceCommand_of_still still,
    fun _ _ _ _ h op none => sliceNop_runs h op none,
    fun _ _ _ _ _ _ h op loops ends more => sliceNop_loop_runs h op loops ends more,
    fun _ _ _ _ h op x y clear goodX goodY none => mac_runs h op x y clear goodX goodY none,
    fun _ _ _ _ h op fifo empty => mac_stall_runs h op fifo empty,
    fun _ _ _ _ h op fits level window => repeat_runs h op fits level window,
    fun _ _ _ _ h op none memory => store_memory_runs h op none memory,
    fun _ _ _ _ h op none fifo room => store_fifo_runs h op none fifo room,
    fun _ _ _ _ h op none => runs_issue rfl h op (pointer_runSetp none),
    fun _ _ _ _ h op => runs_issue rfl h op runHalt_done,
    fun _ _ _ running runs inside clear parity invalid => mac_invalid_runs running runs inside clear parity invalid,
    fun _ _ _ => ⟨issue_of_other, issue_of_other, issue_of_other, issue_of_other, issue_of_other, issue_of_other⟩,
    fun _ _ _ _ _ runs port => sliceMemAccess_operand_runs runs port,
    fun _ _ _ _ _ runs port idle => sliceMemAccess_program_runs runs port idle,
    fun _ _ _ _ port room => sliceInputWord_runs port room,
    fun _ _ _ _ _ port oldest => sliceOutputTake_runs port oldest⟩

end Sys2Proof

namespace Sys2Proof

open Machine Machine.F

set_option Elab.async false

/-! What the commands of the family loading leave unchanged (R176, R196, R211). -/

/-- Settles O46: the footprint of each command of the family lies within what it may change. -/
theorem loadingFrames : Obligations.LoadingFrames := by
  intro c s t hc e
  refine Kept.framed_of ?_
  have configLoad : Foot.execConfigLoad.Within (Instr.configLoad 0).places := ⟨by decide +kernel⟩
  have configHeader : Foot.takeCfgHeader.Within (Instr.configHeader .fails).places := ⟨by decide +kernel⟩
  have configClearDone : Foot.execConfigClearDone.Within Instr.configClearDone.places := ⟨by decide +kernel⟩
  have configSegment : Foot.takeSegment.Within (Instr.configSegment .fails).places := ⟨by decide +kernel⟩
  have cfgNop : Foot.cfgFail.Within Instr.cfgNop.places := ⟨by decide +kernel⟩
  have regionSelect : Foot.cfgFail.Within Instr.regionSelect.places := ⟨by decide +kernel⟩
  have writeFrame : Foot.cfgFail.Within Instr.writeFrame.places := ⟨by decide +kernel⟩
  have repeatFrame : Foot.cfgFail.Within Instr.repeatFrame.places := ⟨by decide +kernel⟩
  have check : Foot.execCheck.Within Instr.check.places := ⟨by decide +kernel⟩
  have fixAtTick : Foot.execFixAtTick.Within Instr.fixAtTick.places := ⟨by decide +kernel⟩
  have keyRoll : Foot.cfgFail.Within Instr.keyRoll.places := ⟨by decide +kernel⟩
  have cfgEnd : Foot.cfgFail.Within Instr.cfgEnd.places := ⟨by decide +kernel⟩
  have frameCommit : Foot.commitFrame.Within Instr.frameCommit.places := ⟨by decide +kernel⟩
  have configRelease : Foot.execConfigRelease.Within (Instr.configRelease () [] () [] []).places := ⟨by decide +kernel⟩
  have configAbort : (Foot.part .cfg).Within Instr.configAbort.places := ⟨by decide +kernel⟩
  have configAbortLatch : Foot.cfgAbort.Within Instr.configAbortLatch.places := ⟨by decide +kernel⟩
  have cfgClearCounts : Foot.execCfgClearCounts.Within Instr.cfgClearCounts.places := ⟨by decide +kernel⟩
  have swapDrained : Foot.drainEnds.Within (Instr.swapDrained 0).places := ⟨by decide +kernel⟩
  have swapDrainForced : Foot.execSwapDrainForced.Within (Instr.swapDrainForced 0).places := ⟨by decide +kernel⟩
  have swapLoadStart : Foot.execSwapLoadStart.Within (Instr.swapLoadStart 0).places := ⟨by decide +kernel⟩
  have swapOpen : Foot.execSwapOpen.Within (Instr.swapOpen 0 () [] ()).places := ⟨by decide +kernel⟩
  have scrubStep : Foot.execScrubStep.Within Instr.scrubStep.places := ⟨by decide +kernel⟩
  have autoReloadStart : Foot.execAutoReloadStart.Within (Instr.autoReloadStart 0).places := ⟨by decide +kernel⟩
  have scrubClearCounts : Foot.execScrubClearCounts.Within Instr.scrubClearCounts.places := ⟨by decide +kernel⟩
  have fwWrite : Foot.execFwWrite.Within (Instr.fwWrite 0 false 0).places := ⟨by decide +kernel⟩
  have fwCoreRestart : Foot.execFwCoreRestart.Within (Instr.fwCoreRestart 0).places := ⟨by decide +kernel⟩
  have fwSelfCheck : Foot.execFwSelfCheck.Within (Instr.fwSelfCheck false).places := ⟨by decide +kernel⟩
  have fwCommitRetry : Foot.execFwCommitRetry.Within Instr.fwCommitRetry.places := ⟨by decide +kernel⟩
  cases c
  case configLoad => exact Kept.refl.execConfigLoad configLoad t e
  case configHeader => exact Kept.refl.execConfigHeader configHeader t e
  case configClearDone => exact Kept.refl.execConfigClearDone configClearDone t e
  case configSegment => exact Kept.refl.execConfigSegment configSegment t e
  case cfgNop => exact Kept.refl.execCfgNop cfgNop t e
  case regionSelect => exact Kept.refl.execRegionSelect regionSelect t e
  case writeFrame => exact Kept.refl.execWriteFrame writeFrame t e
  case repeatFrame => exact Kept.refl.execRepeatFrame repeatFrame t e
  case check => exact Kept.refl.execCheck check t e
  case fixAtTick => exact Kept.refl.execFixAtTick fixAtTick t e
  case keyRoll => exact Kept.refl.execKeyRoll keyRoll t e
  case cfgEnd => exact Kept.refl.execCfgEnd cfgEnd t e
  case frameCommit => exact Kept.refl.execFrameCommit frameCommit t e
  case configRelease => exact Kept.refl.execConfigRelease (a := ()) (a' := ()) configRelease t e
  case configAbort => exact Kept.refl.execConfigAbort configAbort t e
  case configAbortLatch => exact Kept.refl.execConfigAbortLatch configAbortLatch t e
  case cfgClearCounts => exact Kept.refl.execCfgClearCounts cfgClearCounts t e
  case swapDrained => exact Kept.refl.execSwapDrained swapDrained t e
  case swapDrainForced => exact Kept.refl.execSwapDrainForced swapDrainForced t e
  case swapLoadStart => exact Kept.refl.execSwapLoadStart swapLoadStart t e
  case swapOpen => exact Kept.refl.execSwapOpen (a := ()) (a' := ()) swapOpen t e
  case scrubStep => exact Kept.refl.execScrubStep scrubStep t e
  case autoReloadStart => exact Kept.refl.execAutoReloadStart autoReloadStart t e
  case scrubClearCounts => exact Kept.refl.execScrubClearCounts scrubClearCounts t e
  case fwWrite => exact Kept.refl.execFwWrite fwWrite t e
  case fwCoreRestart => exact Kept.refl.execFwCoreRestart fwCoreRestart t e
  case fwSelfCheck => exact Kept.refl.execFwSelfCheck fwSelfCheck t e
  case fwCommitRetry => exact Kept.refl.execFwCommitRetry fwCommitRetry t e
  all_goals cases hc

end Sys2Proof

namespace Sys2Proof

open Machine Machine.F

set_option Elab.async false

/-! A statement about the TAP that fails, with a state of its own. -/

/-- Comparator 0 counts the reads that land at the register target (R449). -/
def countsRegisterReads : State :=
  (((State.reset.wr NC_CFG_ROUTER (portAt 2 0 1 / 4)).wr NC_CFG_PORT (portAt 2 0 1 % 4)).wr NC_CFG_KIND 1).wr
    NC_HIGH_ADDR 0x1FFFFFF

/-- What DBG_REG shifts in to read the count of comparator 0, at 160_0118h (R454). -/
def readOfItsCount : Nat := 2 * (0x1600118 / 4)

/-- The state before the head of the access lands: the instruction is loaded and the data register captured (R446). -/
def beforeHead : State :=
  captureDr (countsRegisterReads.dbg.reg.captureCode + countsRegisterReads.dbg.reg.data % 2 ^ 32 * 2 ^ 25)
    (loadIr 0x20 countsRegisterReads)

theorem count_beforeHead : debugWord beforeHead (bits readOfItsCount 24 1 * 4) = 0 := by
  decide +kernel

/-- The head of the read is counted as it lands, before the word is read. -/
theorem dbgReg_reads_its_own_hit :
    (after (exec (.dbgReg readOfItsCount) countsRegisterReads) countsRegisterReads).dbg.reg.flight = some (Code.OK, 1, 0) := by
  decide +kernel

/-- Refutes O32: the clause on DBG_REG takes the word read from the state before the head of the access lands, where a
comparator of the network may match it (R449). Comparator 0 counts the reads of the registers, and DBG_REG reads its count:
the head is counted first, so the access returns 1, and the clause asks for the 0 from before. -/
theorem not_tapResults : ¬ Obligations.TapResults := by
  unfold Obligations.TapResults
  rintro ⟨-, -, -, -, -, -, -, -, -, -, -, -, -, -, -, reads, -⟩
  obtain ⟨t, e, flight⟩ := reads readOfItsCount countsRegisterReads beforeHead (by decide +kernel) (by decide +kernel) rfl
  have own := dbgReg_reads_its_own_hit
  rw [if_neg (by decide), count_beforeHead] at flight
  rw [e, show after (.next t) countsRegisterReads = t from rfl, flight] at own
  exact absurd own (by decide)

end Sys2Proof

namespace Sys2Proof

open Machine Machine.F

set_option Elab.async false

/-! How a load ends: its result, its state, and what each step of its end keeps (R198, R199, R201, R208). -/

section

variable {L : Foot} {r s t : State} {code cause field pos k : Nat}

/-- The hidden state of the configuration block is kept by a footprint that does not hold it. -/
theorem Kept.cfg_same (h : Kept L r s) (apart : L &&& Foot.part .cfg = 0 := by decide +kernel) : s.cfg = r.cfg :=
  h.parts .cfg (Foot.not_within_of_land apart (Foot.testBit_place.2 rfl))

theorem Kept.cfgState_same (h : Kept L r s)
    (apart : L &&& (Foot.field CFG_STATUS_STATE.id ||| Foot.reset ||| Foot.waiting ||| Foot.staged) = 0 := by decide +kernel) :
    cfgState s = cfgState r :=
  h.rd_same apart

@[simp] theorem cfg_upC {f : CfgSt → CfgSt} : (upC f s).cfg = f s.cfg := rfl

@[simp] theorem rd_upC {f : CfgSt → CfgSt} {g : Fld} {i j : Nat} : (upC f s).rd g i j = s.rd g i j := rfl

@[simp] theorem cfgState_upC {f : CfgSt → CfgSt} : cfgState (upC f s) = cfgState s := rfl

/-- The result of a load is in its registers, whatever its CONFIG_LOAD is told. -/
theorem result_cfgResult : (cfgResult code cause field s).rd CFG_RESULT_CODE = code % 2 ^ 16 ∧
    (cfgResult code cause field s).rd CFG_RESULT_CAUSE = cause % 2 ^ 8 := by
  have counts {f : Fld} (hl : f.id ≠ CFG_COUNTS_LOADS_OK.id) (hf : f.id ≠ CFG_COUNTS_LOADS_FAILED.id) (u : State) :
      (if cause = 0x08 then u else if code = Code.OK then u.incSat CFG_COUNTS_LOADS_OK
        else u.incSat CFG_COUNTS_LOADS_FAILED).rd f = u.rd f := by
    simp only [rd_ite, rd_incSat_ne hl, rd_incSat_ne hf, ite_self]
  have told (u : State) (f : Fld)
      (apart : Foot.decideOp &&& (Foot.field f.id ||| Foot.reset ||| Foot.waiting ||| Foot.staged) = 0) :
      (match u.cfg.op with
        | some (ring, idx) => decideOp ring idx code 0 (cause + field * 256) u
        | none => u).rd f = u.rd f := by
    split
    · exact (Kept.refl.decideOp .refl).rd_same apart
    · rfl
  unfold cfgResult
  constructor
  · refine (told _ CFG_RESULT_CODE (by decide +kernel)).trans ((counts (by decide) (by decide) _).trans ?_)
    rw [rd_wr_ne _ _ _ _ _ _ _ _ (by decide), rd_wr_ne _ _ _ _ _ _ _ _ (by decide), rd_wr_same]
    rfl
  · refine (told _ CFG_RESULT_CAUSE (by decide +kernel)).trans ((counts (by decide) (by decide) _).trans ?_)
    rw [rd_wr_ne _ _ _ _ _ _ _ _ (by decide), rd_wr_same]
    rfl

theorem cfgState_cfgIdle : cfgState (cfgIdle s) = 0 := by
  rw [cfgIdle, cfgState_upC, cfgState, rd_wr_same]
  rfl

theorem abort_cfgIdle : (cfgIdle s).cfg.abort = none := rfl

/-- A swap that fails changes only which automatic reloads are barred of the configuration block. -/
theorem cfg_swapFailed : ∃ l, (swapFailed code cause k s).cfg = { s.cfg with noAuto := l } := by
  unfold swapFailed
  extract_lets s1 s2 auto s3
  have same : s2.cfg = s.cfg := by
    unfold s2 s1
    rfl
  rw [raise_cfg, (Kept.refl.refreshEdges .refl).cfg_same]
  unfold s3
  split
  · exact ⟨_, congrArg (fun c : CfgSt => { c with noAuto := k :: c.noAuto }) same⟩
  · exact ⟨_, same⟩

theorem abort_foldl_swapFailed {group : List Nat} :
    (group.foldl (fun t k => swapFailed code cause k t) s).cfg.abort = s.cfg.abort :=
  List.foldlRecOn (motive := fun t : State => t.cfg.abort = s.cfg.abort) group _ rfl fun t ih k _ => by
    obtain ⟨l, e⟩ := cfg_swapFailed (code := code) (cause := cause) (k := k) (s := t)
    rw [e, ← ih]

/-- A load has ended with this code and cause: the block is IDLE. -/
def LoadEnded (code cause : Nat) (t : State) : Prop :=
  cfgState t = 0 ∧ t.rd CFG_RESULT_CODE = code ∧ t.rd CFG_RESULT_CAUSE = cause

/-- A load that fails or is aborted ends so, whatever its swap group. -/
theorem loadEnded_cfgFail (hcode : code < 2 ^ 16 := by decide) (hcause : cause < 2 ^ 8 := by decide) :
    LoadEnded code cause (cfgFail code cause field pos s) := by
  obtain ⟨resultCode, resultCause⟩ := result_cfgResult (code := code) (cause := cause) (field := field)
    (s := s.wr CFG_ERR_POS_OFFSET pos)
  have group {u : State} {l : List Nat} : Kept Foot.swapFailed u (l.foldl (fun t k => swapFailed code cause k t) u) :=
    Kept.refl.foldl fun _ _ h => h.swapFailed .refl
  have idle {u : State} : Kept Foot.cfgIdle u (cfgIdle u) := Kept.refl.cfgIdle .refl
  have raised {u : State} {e : Evt} {n a : Nat} : Kept Foot.sequencerStep u (raise e n a u) := Kept.refl.raise .refl
  unfold cfgFail
  refine ⟨group.cfgState_same.trans cfgState_cfgIdle, ?_, ?_⟩
  · exact group.rd_same.trans <| idle.rd_same.trans <| raised.rd_same.trans <| resultCode.trans (Nat.mod_eq_of_lt hcode)
  · exact group.rd_same.trans <| idle.rd_same.trans <| raised.rd_same.trans <| resultCause.trans (Nat.mod_eq_of_lt hcause)

theorem abort_cfgFail : (cfgFail code cause field pos s).cfg.abort = none :=
  abort_foldl_swapFailed.trans abort_cfgIdle

end

/-! The commands of a configuration stream (R183, R184, R187, R188). -/

section

variable {s : State} {w b opc : Nat} {f : Nat → State → State}

theorem runs_due {c : Instr} {P : State → Prop} (meaning : exec c s = cfgCommand opc s f)
    (due : nextCommand opc s = some (.inr w)) (h : P (f w s)) : Runs c s P :=
  ⟨_, by rw [meaning, cfgCommand, due], h⟩

theorem exec_of_other {c : Instr} (meaning : exec c s = cfgCommand opc s f) (other : nextCommand opc s = none) :
    exec c s = .next s := by
  rw [meaning, cfgCommand, other]

/-- A command in whose segment more words follow leaves those to the decoder. -/
theorem consume_of_more {n : Nat} (more : 4 * n < s.cfg.payload.length) :
    consume n s = upC (fun c => { c with payload := c.payload.drop (4 * n), payPos := c.payPos + 4 * n }) s := by
  refine if_neg ?_
  simp only [cfg_upC, List.isEmpty_iff, List.drop_eq_nil_iff]
  omega

theorem holdsWords_of_le {n : Nat} (le : 4 * n ≤ s.cfg.payload.length) : holdsWords s n = true := decide_eq_true le

theorem cfgNop_runs (due : nextCommand 0 s = some (.inr w)) (zero : bits w 23 0 = 0) (more : 4 < s.cfg.payload.length) :
    Runs .cfgNop s fun t => t.cfg.payload = s.cfg.payload.drop 4 ∧ t.cfg.payPos = s.cfg.payPos + 4 := by
  refine runs_due (show execCfgNop s = _ from rfl) due ?_
  rw [if_neg (not_not.2 zero), consume_of_more more]
  exact ⟨rfl, rfl⟩

theorem cfgNop_breach_runs (due : nextCommand 0 s = some (.inr w)) (reserved : bits w 23 0 ≠ 0) :
    Runs .cfgNop s (LoadEnded Code.BAD_FIELD 0x0C) := by
  refine runs_due (show execCfgNop s = _ from rfl) due ?_
  rw [if_pos reserved]
  exact loadEnded_cfgFail

theorem regionSelect_runs (due : nextCommand 1 s = some (.inr w)) (zero : bits w 23 7 = 0) (block : bits w 6 0 ≤ 0x40)
    (more : 4 < s.cfg.payload.length) : Runs .regionSelect s fun t => t.cfg.block = some (bits w 6 0) := by
  refine runs_due (show execRegionSelect s = _ from rfl) due ?_
  rw [if_neg (not_or.2 ⟨not_not.2 zero, block.not_gt⟩), consume_of_more (by exact more)]
  rfl

theorem writeFrame_runs (due : nextCommand 2 s = some (.inr w)) (block : s.cfg.block = some b) (zero : bits w 23 22 = 0)
    (more : 4 * (1 + 96 * (bits w 21 15 + 1)) < s.cfg.payload.length) (bodies : bits w 21 15 + 1 ≤ s.cfg.bodies)
    (first : mayWrite s b (bits w 13 0) = true) (last : mayWrite s b (bits w 13 0 + bits w 21 15) = true) :
    Runs .writeFrame s fun t =>
      t.cfg.bodies = s.cfg.bodies - (bits w 21 15 + 1) ∧
        t.cfg.queue = s.cfg.queue ++ (List.range (bits w 21 15 + 1)).map fun j =>
          ⟨frameIdx b (bits w 13 0 + j), bit w 14, leAt s.cfg.payload (4 + 384 * j) 384⟩ := by
  refine runs_due (show execWriteFrame s = _ from rfl) due ?_
  simp only [block]
  rw [if_neg, consume_of_more (by exact more)]
  · exact ⟨rfl, rfl⟩
  · simp only [zero, holdsWords_of_le more.le, first, last, ne_eq, not_true_eq_false, Bool.not_true, Bool.false_eq_true,
      Nat.add_sub_cancel, ← Nat.add_assoc, false_or, or_false, not_lt]
    exact bodies

theorem repeatFrame_runs (due : nextCommand 3 s = some (.inr w)) (zero : bits w 13 10 = 0) (zero' : bits w 23 15 = 0)
    (more : 4 * (97 + (bits w 9 0 + 1)) < s.cfg.payload.length) (bodies : 1 ≤ s.cfg.bodies)
    (good : ∀ j, j ≤ bits w 9 0 → leAt s.cfg.payload (388 + 4 * j) 4 < 2 ^ 23 ∧
      bits (leAt s.cfg.payload (388 + 4 * j) 4) 15 14 = 0 ∧
      mayWrite s (bits (leAt s.cfg.payload (388 + 4 * j) 4) 22 16) (bits (leAt s.cfg.payload (388 + 4 * j) 4) 13 0) = true) :
    Runs .repeatFrame s fun t =>
      t.cfg.bodies = s.cfg.bodies - 1 ∧
        t.cfg.queue = s.cfg.queue ++ (List.range (bits w 9 0 + 1)).map fun j =>
          ⟨frameIdx (bits (leAt s.cfg.payload (388 + 4 * j) 4) 22 16) (bits (leAt s.cfg.payload (388 + 4 * j) 4) 13 0),
            bit w 14, leAt s.cfg.payload 4 384⟩ := by
  refine runs_due (show execRepeatFrame s = _ from rfl) due ?_
  have fits : ¬(bits w 13 10 ≠ 0 ∨ bits w 23 15 ≠ 0 ∨ (!holdsWords s (97 + (bits w 9 0 + 1))) = true ∨
      s.cfg.bodies < 1) := by
    simp [zero, zero', holdsWords_of_le more.le]
    omega
  have listed : (((List.range (bits w 9 0 + 1)).map fun j => leAt s.cfg.payload (388 + 4 * j) 4).all fun a =>
      bits a 15 14 == 0 && bits a 31 23 == 0 && mayWrite s (bits a 22 16) (bits a 13 0)) = true := by
    simp only [List.all_map, List.all_eq_true, List.mem_range, Function.comp_apply, Bool.and_eq_true, beq_iff_eq]
    intro j hj
    obtain ⟨small, clear, may⟩ := good j (by omega)
    refine ⟨⟨clear, ?_⟩, may⟩
    rw [bits, Nat.div_eq_of_lt small, Nat.zero_mod]
  rw [if_neg fits]
  dsimp only
  rw [if_pos listed, consume_of_more (by exact more)]
  refine ⟨rfl, ?_⟩
  simp only [cfg_upC, List.map_map]
  rfl

theorem check_runs (due : nextCommand 4 s = some (.inr w)) (zero : bits w 23 0 = 0) (more : 8 < s.cfg.payload.length)
    (done : s.cfg.queue = []) (clear : s.rd CFG_INJECT_INJ_CHECK = 0)
    (same : leAt s.cfg.payload 4 4 = s.cfg.crc ^^^ 0xFFFFFFFF) :
    Runs .check s fun t => t.cfg.crc = 0xFFFFFFFF ∧ t.cfg.payload = s.cfg.payload.drop 8 := by
  refine runs_due (show execCheck s = _ from rfl) due ?_
  have fits : ¬(bits w 23 0 ≠ 0 ∨ (!holdsWords s 2) = true) := by simp [zero, holdsWords_of_le (n := 2) more.le]
  rw [if_neg fits, if_neg (by simp [done])]
  dsimp only
  rw [takeInj_of_clear clear, if_neg (by simp [same]), consume_of_more (by exact more)]
  exact ⟨rfl, rfl⟩

theorem check_fails_runs (due : nextCommand 4 s = some (.inr w)) (zero : bits w 23 0 = 0) (held : 8 ≤ s.cfg.payload.length)
    (done : s.cfg.queue = []) (clear : s.rd CFG_INJECT_INJ_CHECK = 0)
    (differ : leAt s.cfg.payload 4 4 ≠ s.cfg.crc ^^^ 0xFFFFFFFF) : Runs .check s (LoadEnded Code.INTERNAL 0x0D) := by
  refine runs_due (show execCheck s = _ from rfl) due ?_
  have fits : ¬(bits w 23 0 ≠ 0 ∨ (!holdsWords s 2) = true) := by simp [zero, holdsWords_of_le (n := 2) held]
  rw [if_neg fits, if_neg (by simp [done])]
  dsimp only
  rw [takeInj_of_clear clear, if_pos (by simp [differ])]
  exact loadEnded_cfgFail

theorem fixAtTick_runs (due : nextCommand 5 s = some (.inr w)) (zero : bits w 23 0 = 0) (more : 12 < s.cfg.payload.length)
    (first : s.cfg.fixTick = none) :
    Runs .fixAtTick s fun t =>
      t.cfg.fixTick = some (leAt s.cfg.payload 4 8) ∧ (s.cfg.swap ≠ [] → t.rd CFG_STATUS_FIX_IGNORED = 1) := by
  refine runs_due (show execFixAtTick s = _ from rfl) due ?_
  have fits : ¬(bits w 23 0 ≠ 0 ∨ (!holdsWords s 3) = true ∨ s.cfg.fixTick.isSome = true) := by
    simp [zero, holdsWords_of_le (n := 3) more.le, first]
  rw [if_neg fits]
  have payload : (if s.cfg.swap.isEmpty = true then s else s.wr CFG_STATUS_FIX_IGNORED 1).cfg = s.cfg := by
    split <;> rfl
  dsimp only
  rw [consume_of_more (by simpa only [cfg_upC, payload] using more)]
  refine ⟨rfl, fun swap => ?_⟩
  simp only [rd_upC, List.isEmpty_iff, swap, if_false, rd_wr_same]
  rfl

theorem keyRoll_runs (due : nextCommand 6 s = some (.inr w)) (zero : bits w 23 0 = 0) (more : s.cfg.last = false)
    (bodies : s.cfg.bodies = 0) (ends : s.cfg.payload.length = 4) :
    Runs .keyRoll s fun t => t.cfg.seg = s.cfg.seg + 1 ∧ t.cfg.decoding = false ∧ t.cfg.payload = [] := by
  refine runs_due (show execKeyRoll s = _ from rfl) due ?_
  dsimp only
  rw [if_neg (by simp [zero, more, bodies, ends])]
  exact ⟨rfl, rfl, rfl⟩

/-- What END needs before it counts the frames: it is the last word of the last segment, whose bodies are used. -/
theorem cfgEnd_fits (zero : bits w 23 0 = 0) (last : s.cfg.last = true) (bodies : s.cfg.bodies = 0)
    (ends : s.cfg.payload.length = 4) :
    ¬(bits w 23 0 ≠ 0 ∨ (!s.cfg.last) = true ∨ s.cfg.bodies ≠ 0 ∨ s.cfg.payload.length ≠ 4) := by
  simp [zero, last, bodies, ends]

theorem cfgEnd_runs (due : nextCommand 7 s = some (.inr w)) (zero : bits w 23 0 = 0) (last : s.cfg.last = true)
    (bodies : s.cfg.bodies = 0) (ends : s.cfg.payload.length = 4) (done : s.cfg.queue = [])
    (whole : s.rd CFG_FRAMES_FRAMES = s.cfg.writes) (noSwap : s.cfg.swap = []) :
    Runs .cfgEnd s fun t =>
      cfgState t = 4 ∧ t.cfg.decoding = false ∧ t.rd CFG_RELEASE_TICK_TICK =
        (match s.cfg.fixTick with
          | some x => if s.now < x then x else s.now + 1
          | none => s.now + 1) % 2 ^ 64 := by
  refine runs_due (show execCfgEnd s = _ from rfl) due ?_
  dsimp only
  rw [if_neg (cfgEnd_fits zero last bodies ends), if_neg (by simp [done]), if_neg (not_not.2 whole), cfgDone,
    if_neg (by simp [noSwap])]
  refine ⟨?_, rfl, ?_⟩
  · rw [cfgState, rd_wr_ne _ _ _ _ _ _ _ _ (by decide), rd_wr_same]
    rfl
  · rw [rd_wr_same]
    rfl

theorem cfgEnd_short_runs (due : nextCommand 7 s = some (.inr w)) (zero : bits w 23 0 = 0) (last : s.cfg.last = true)
    (bodies : s.cfg.bodies = 0) (ends : s.cfg.payload.length = 4) (done : s.cfg.queue = [])
    (differ : s.rd CFG_FRAMES_FRAMES ≠ s.cfg.writes) : Runs .cfgEnd s (LoadEnded Code.BAD_FIELD 0x12) := by
  refine runs_due (show execCfgEnd s = _ from rfl) due ?_
  dsimp only
  rw [if_neg (cfgEnd_fits zero last bodies ends), if_neg (by simp [done]), if_pos differ]
  exact loadEnded_cfgFail

/-- FRAME_COMMIT writes the oldest frame that waits, with its trailer, and no other (R175, R176). -/
theorem frameCommit_runs {x : CfgWrite} {rest : List CfgWrite} (loading : cfgState s = 3) (quiet : streamAlarmed s = false)
    (oldest : s.cfg.queue = x :: rest) :
    Runs .frameCommit s fun t =>
      sget 0 t.frames x.frame = x.body ∧ sget 0 t.frameDyn x.frame = (if x.dyn then 1 else 0) ∧
        sget 0 t.frameCode x.frame = secdedCode 3072 12 x.body ∧ t.cfg.queue = rest ∧
        t.rd CFG_FRAMES_FRAMES = (s.rd CFG_FRAMES_FRAMES + 1) % 2 ^ 32 ∧
        ∀ f, f ≠ x.frame → sget 0 t.frames f = sget 0 s.frames f := by
  have commits : exec .frameCommit s = .next (commitFrame s) := by
    refine congrArg Host.Outcome.next (if_pos ?_)
    simp [loading, quiet]
  refine ⟨_, commits, ?_⟩
  simp +contextual [commitFrame, oldest, upC, State.incWrap, sget_sput_ne, show CFG_FRAMES_FRAMES.width = 32 from rfl]

/-- An invalid opcode ends the load, whichever command was due (R187). -/
theorem cfgNop_invalid_runs (loading : cfgState s = 3) (decoding : s.cfg.decoding = true) (word : w = leAt s.cfg.payload 0 4)
    (invalid : 7 < bits w 31 24) : Runs .cfgNop s (LoadEnded Code.BAD_OPCODE 0x0B) := by
  have next : nextCommand 0 s = some (.inl (cfgFail Code.BAD_OPCODE 0x0B 0 s.cfg.payPos s)) := by
    simp [nextCommand, loading, decoding, ← word, invalid]
  have ends : exec .cfgNop s = .next (cfgFail Code.BAD_OPCODE 0x0B 0 s.cfg.payPos s) := by
    show execCfgNop s = _
    rw [execCfgNop, cfgCommand, next]
  exact ⟨_, ends, loadEnded_cfgFail⟩

/-- Settles O16, clause by clause: the commands by their opcodes, FRAME_COMMIT, the invalid opcode, and a command that is not
due. -/
theorem configCommandResults : Obligations.ConfigCommandResults :=
  ⟨fun _ _ => cfgNop_runs,
    fun _ _ => cfgNop_breach_runs,
    fun _ _ => regionSelect_runs,
    fun _ _ _ => writeFrame_runs,
    fun _ _ => repeatFrame_runs,
    fun _ _ => check_runs,
    fun _ _ => check_fails_runs,
    fun _ _ => fixAtTick_runs,
    fun _ _ => keyRoll_runs,
    fun _ _ => cfgEnd_runs,
    fun _ _ => cfgEnd_short_runs,
    fun _ _ _ => frameCommit_runs,
    fun _ _ => cfgNop_invalid_runs,
    fun s => ⟨exec_of_other (show execCfgNop s = _ from rfl),
      exec_of_other (show execRegionSelect s = _ from rfl),
      exec_of_other (show execWriteFrame s = _ from rfl),
      exec_of_other (show execRepeatFrame s = _ from rfl),
      exec_of_other (show execCheck s = _ from rfl),
      exec_of_other (show execFixAtTick s = _ from rfl),
      exec_of_other (show execKeyRoll s = _ from rfl),
      exec_of_other (show execCfgEnd s = _ from rfl)⟩⟩

end

end Sys2Proof

namespace Sys2Proof

open Machine Machine.F

set_option Elab.async false

/-! The stream of a CONFIG_LOAD, which the host's memory holds (R192). -/

section

variable {s : State} {off n : Nat}

theorem meetUpset_eq {u : Option Upset} : meetUpset u s = upC (fun c => { c with upset := u }) s := by
  unfold meetUpset
  split
  next same =>
    subst same
    rfl
  next => rfl

theorem streamAlarmed_of_host (host : s.cfg.src = 0) : streamAlarmed s = false := by
  simp [streamAlarmed, host]

theorem streamRests_of_host (host : s.cfg.src = 0) : streamRests s = false := by
  simp [streamRests, host]

theorem streamHas_of_host (host : s.cfg.src = 0) (within : off + n ≤ s.cfg.len) : streamHas s off n = true := by
  simp [streamHas, host, within]

/-- The host's memory that a CONFIG_LOAD reads is the same for a state that keeps the load and the memory. -/
theorem streamMem_kept {L : Foot} {r : State} (kept : Kept L r s)
    (apart : L &&& (Foot.part .cfg ||| Foot.part .ops ||| Foot.part .hostMem ||| Foot.part .host) = 0 := by decide +kernel) :
    streamMem s = streamMem r := by
  have out {p : Part} (hp : (Foot.part .cfg ||| Foot.part .ops ||| Foot.part .hostMem ||| Foot.part .host).testBit
      (2 * p.ctorIdx + 1) = true) : p.same r s := kept.parts p (Foot.not_within_of_land apart hp)
  have cfg : s.cfg = r.cfg := out (p := .cfg) (by decide +kernel)
  have ops : s.ops = r.ops := out (p := .ops) (by decide +kernel)
  have hostMem : s.hostMem = r.hostMem := out (p := .hostMem) (by decide +kernel)
  have host : s.host = r.host := out (p := .host) (by decide +kernel)
  simp only [streamMem, opAt, hostImage, cfg, ops, hostMem, host]

/-- A read of the host's stream gives its bytes, and counts them as taken in. -/
theorem streamRead_of_host {L : Foot} {r : State} (host : r.cfg.src = 0) (kept : Kept L r s)
    (hl : (Foot.field CFG_BYTES_BYTES.id).Within L := by exact .mono ‹_› ⟨by decide +kernel⟩)
    (apart : L &&& (Foot.part .cfg ||| Foot.part .ops ||| Foot.part .hostMem ||| Foot.part .host) = 0 := by decide +kernel) :
    ∃ u, Kept L r u ∧ streamRead off n s = (some (memBytes (streamMem r) (r.cfg.addr + off) n), u) := by
  have cfg : s.cfg = r.cfg := kept.parts .cfg (Foot.not_within_of_land apart (by decide +kernel))
  refine ⟨s.wr CFG_BYTES_BYTES (max (s.rd CFG_BYTES_BYTES) (off + n)), kept.wr hl, ?_⟩
  rw [← streamMem_kept kept apart]
  simp only [streamRead, cfg, host]
  rfl

end

/-! CONFIG_LOAD, CONFIG_CLEAR_DONE and the aborts (R178, R192, R195, R196). -/

section

variable {s : State}

theorem cfgState_cfgStart {src source addr len : Nat} {op : Option (Nat × Nat)} {group : List Nat} :
    cfgState (cfgStart src source addr len op group s) = 1 := by
  rw [cfgStart, cfgState_upC, cfgState]
  simp (disch := decide) only [rd_wr_ne, rd_wr_same]
  rfl

theorem configLoad_runs {r : Fin 64} {o : Op} (waits : Waits s r 0x10 o) (free : cfgBusy s = false) :
    Runs (.configLoad r) s fun t =>
      cfgState t = 1 ∧ t.cfg.src = 0 ∧ t.cfg.addr = o.word 1 ∧ t.cfg.len = bits (o.word 2) 31 0 ∧
        t.cfg.op = some (r.val, o.idx) := by
  have starts : exec (.configLoad r) s = .next (powerWatch
      (cfgStart 0 1 (o.word 1) (bits (o.word 2) 31 0) (some (r.val, o.idx)) [] (runOp r o.idx s))) := by
    show execConfigLoad r s = _
    simp only [execConfigLoad, waits.1, free, Bool.false_eq_true, if_false]
  have watched {u : State} : Kept Foot.powerAbort u (powerWatch u) := Kept.refl.powerWatch .refl
  refine ⟨_, starts, watched.cfgState_same.trans cfgState_cfgStart, ?_⟩
  rw [watched.cfg_same]
  exact ⟨rfl, rfl, rfl, rfl⟩

theorem configLoad_busy_runs {r : Fin 64} {o : Op} (waits : Waits s r 0x10 o) (busy : cfgBusy s = true) :
    Runs (.configLoad r) s fun t => Decided t r o.idx Code.BUSY 0 ∧ t.cfg = s.cfg := by
  have turnedAway : exec (.configLoad r) s = .next (decideOp r o.idx Code.BUSY 0 0 s) := by
    show execConfigLoad r s = _
    simp only [execConfigLoad, waits.1, busy, if_true]
  exact ⟨_, turnedAway, decided_decideOp waits.2 (waits_open waits) r.isLt.ne, (Kept.refl.decideOp .refl).cfg_same⟩

theorem exec_configClearDone_of_load (clearing : cfgState s = 2) (load : s.cfg.clearOnly = false) :
    exec .configClearDone s = .next (s.wr CFG_STATUS_STATE 3) := by
  show execConfigClearDone s = _
  simp [execConfigClearDone, clearing, load]

/-- What a walk's step gives to its unit, and leaves at every other, each unit has that the walk visits. -/
theorem foldl_establishes {P : Nat → State → Prop} {g : State → Nat → State} (own : ∀ t i, P i (g t i))
    (keeps : ∀ t i j, j ≠ i → P j t → P j (g t i)) {l : List Nat} {k : Nat} (mem : k ∈ l) {s : State} :
    P k (l.foldl g s) := by
  induction l using List.reverseRecOn with
  | nil => cases mem
  | append_singleton l i ih =>
    rw [List.foldl_concat]
    by_cases last : k = i
    · exact last ▸ own _ _
    · exact keeps _ _ _ last (ih ((List.mem_append.1 mem).resolve_right (mt List.mem_singleton.1 last)))

/-- Every region of the group waits for its open tick. -/
theorem swapState_handOver {group : List Nat} {k : Nat} (mem : k ∈ group) :
    (handOver group s).rd SWAP_STATUS_STATE 0 k = 4 := by
  unfold handOver
  refine foldl_establishes (P := fun k t => t.rd SWAP_STATUS_STATE 0 k = 4) (fun t i => ?_) (fun t i j other h => ?_) mem
  · rw [rd_updRegion, rd_wr_same]
    rfl
  · rw [rd_updRegion, rd_wr_index _ _ _ _ _ _ other, h]

theorem configClearDone_swap_runs {k : Nat} (clearing : cfgState s = 2) (swap : s.cfg.clearOnly = true) (mem : k ∈ s.cfg.swap) :
    Runs .configClearDone s fun t => cfgState t = 0 ∧ t.rd SWAP_STATUS_STATE 0 k = 4 := by
  have handsOver : exec .configClearDone s = .next (handOver s.cfg.swap (cfgIdle s)) := by
    show execConfigClearDone s = _
    simp [execConfigClearDone, clearing, swap]
  exact ⟨_, handsOver, (Kept.refl.handOver .refl).cfgState_same.trans cfgState_cfgIdle, swapState_handOver mem⟩

theorem configAbort_runs (busy : cfgState s ≠ 0) :
    Runs .configAbort s fun t => t.cfg.abort = some (s.cfg.abort.getD s.now) := by
  have waits : exec .configAbort s = .next (upC (fun c => { c with abort := some (c.abort.getD s.now) }) s) := by
    show execConfigAbort s = _
    simp [execConfigAbort, busy]
  exact ⟨_, waits, rfl⟩

theorem exec_configAbort_of_idle (idle : cfgState s = 0) : exec .configAbort s = .next s := by
  show execConfigAbort s = _
  simp [execConfigAbort, idle]

theorem configAbortLatch_runs {x : Nat} (abort : s.cfg.abort = some x) (earlier : x < s.now) (busy : cfgState s ≠ 0)
    (judged : cfgState s ≠ 1) (unreleased : releaseStands s = false) :
    Runs .configAbortLatch s fun t =>
      cfgState t = 0 ∧ t.rd CFG_RESULT_CODE = Code.ABORTED ∧ t.rd CFG_RESULT_CAUSE = 0x11 ∧ t.cfg.abort = none := by
  have aborts : exec .configAbortLatch s = .next (cfgAbort s) := by
    show execConfigAbortLatch s = _
    simp [execConfigAbortLatch, abort, earlier.not_ge, busy, judged, unreleased]
  obtain ⟨idle, code, cause⟩ : LoadEnded Code.ABORTED 0x11 (cfgAbort s) := loadEnded_cfgFail
  exact ⟨_, aborts, idle, code, cause, abort_cfgFail⟩

theorem configAbortLatch_late_runs {x : Nat} (abort : s.cfg.abort = some x) (earlier : x < s.now)
    (released : releaseStands s = true) : Runs .configAbortLatch s fun t => t.cfg.abort = none ∧ cfgState t = 4 := by
  have waiting : cfgState s = 4 := by
    simp only [releaseStands, Bool.and_eq_true, beq_iff_eq] at released
    exact released.1.1
  have dropped : exec .configAbortLatch s = .next (upC (fun c => { c with abort := none }) s) := by
    show execConfigAbortLatch s = _
    simp [execConfigAbortLatch, abort, earlier.not_ge, waiting, released]
  exact ⟨_, dropped, rfl, waiting⟩

end

/-! CONFIG_HEADER (R178, R196, R198). -/

section

variable {s t : State} {k : Nat} {h : List Byte}

/-- What is written before a header is judged. -/
@[irreducible] def Foot.headerBytes : Foot := .of [CFG_BYTES_BYTES, CFG_STATUS_FORMAT, CFG_STATUS_ENCRYPTED] []

/-- Nothing that a header's checks look at is written before they are made. -/
theorem flawF2_kept (kept : Kept Foot.headerBytes s t) : flawF2 t h = flawF2 s h := by
  simp only [flawF2, identity, lifeFlaw, lifecycle, kindFlaw, slotOpens, State.flag, kept.cfg_same,
    kept.rd_same (f := GL_IDCODE_IDCODE), kept.rd_same (f := GL_GRADE_SPEED), kept.rd_same (f := LC_STATUS_STATE),
    kept.rd_same (f := CFG_STATUS_GLOBAL_LOADED), kept.rd_same (f := CFG_LOADED_REGIONS),
    kept.rd_same (f := RG_STATUS_CONFIGURED), kept.rd_same (f := RG_STATUS_PSTATE), kept.rd_same (f := RG_STATUS_SWAP),
    kept.rd_same (f := RG_OWNER_OWNER), kept.rd_same (f := SLOT_STATE_STATE), kept.rd_same (f := SLOT_STATE_CONFIG)]

/-- A header of the host's stream that passes its checks is accepted. -/
theorem takeCfgHeader_of_good (host : s.cfg.src = 0) (len : 64 ≤ s.cfg.len)
    (bytes : h = memBytes (streamMem s) s.cfg.addr 64)
    (magic : leAt (memBytes (streamMem s) s.cfg.addr 4) 0 4 = 0x4643584C) (good : flawF2 s h = none) :
    ∃ u, takeCfgHeader s = acceptHeader false h u := by
  have hl : Foot.headerBytes.Within Foot.headerBytes := .refl
  obtain ⟨u, kept, first⟩ := streamRead_of_host (off := 0) (n := 4) host (.refl (L := Foot.headerBytes))
  obtain ⟨v, kept', second⟩ := streamRead_of_host (off := 0) (n := 64) host kept
  have src : u.cfg.src = 0 := by rw [kept.cfg_same, host]
  have quiet : streamAlarmed u = false := streamAlarmed_of_host src
  have quiet' : streamAlarmed v = false := streamAlarmed_of_host (by rw [kept'.cfg_same, host])
  have whole : streamHas s 0 4 = true := streamHas_of_host host (by omega)
  have whole' : streamHas u 0 64 = true := streamHas_of_host src (by rw [kept.cfg_same]; exact len)
  have judged {b b' : Bool} : flawF2 ((v.setb CFG_STATUS_FORMAT b).setb CFG_STATUS_ENCRYPTED b') h = none := by
    rw [flawF2_kept kept'.setb.setb, good]
  rw [Nat.add_zero] at first second
  rw [← bytes] at second
  simp only [takeCfgHeader, whole, first, quiet, magic, whole', second, quiet', judged, Bool.not_true, Bool.false_eq_true,
    if_false, if_true, ne_eq, not_true_eq_false, false_and, show ((0x4643584C : Nat) == 0x3146584C) = false from rfl]
  exact ⟨_, rfl⟩

theorem held_updRegion {j : Nat} {f : RegionU → RegionU} (same : ∀ u : RegionU, (f u).held = u.held) :
    ((updRegion j f s).region_ k).held = (s.region_ k).held := by
  by_cases own : k = j
  · rw [own, region_updRegion, same]
  · rw [State.region_, updRegion, updRegions_regions, sget_sput_ne _ _ _ own, State.region_]

theorem Kept.region_same {L : Foot} (h : Kept L s t) (apart : L &&& Foot.part .regions = 0 := by decide +kernel) :
    t.region_ k = s.region_ k := by
  have same : t.regions = s.regions := h.parts .regions (Foot.not_within_of_land apart (Foot.testBit_place.2 rfl))
  rw [State.region_, same, State.region_]

theorem held_refreshEdges {j : Nat} : ((refreshEdges j s).region_ k).held = (s.region_ k).held := by
  have stale {u : State} {l : List Nat} :
      Kept (Foot.field RG_STATUS_EDGE_STALE.id) u (l.foldl (fun t r => refreshStale r t) u) :=
    Kept.refl.foldl fun _ _ h => h.refreshStale .refl
  rw [refreshEdges, stale.region_same]
  split
  · rfl
  · exact held_updRegion fun _ => rfl

theorem held_setPstate {j st : Nat} : ((setPstate j st s).region_ k).held = (s.region_ k).held := by
  rw [setPstate, held_refreshEdges]
  split <;> split <;> rfl

/-- A REGION reset keeps which regions are held. -/
theorem held_regionReset {j : Nat} : ((regionReset j s).region_ k).held = (s.region_ k).held := by
  have fields : Kept (Foot.of regionFields [] ||| Foot.of sliceFields [] ||| Foot.idleSlices) s
      (idleSlices j (sliceFields.foldl (clrSlices j) (s.clrAllInst regionFields j))) := by
    have hl : (Foot.of regionFields [] ||| Foot.of sliceFields [] ||| Foot.idleSlices).Within
      (Foot.of regionFields [] ||| Foot.of sliceFields [] ||| Foot.idleSlices) := .refl
    exact ((Kept.refl.clrAllInst hl.left.left).foldFields (fun _ _ hf h => h.clrSlices hf) hl.left.right).idleSlices hl.right
  rw [regionReset, held_updRegion, fields.region_same]
  exact fun _ => rfl

/-- Holding a region lets go of no other. -/
theorem held_holdRegion {j : Nat} : ((holdRegion j s).region_ k).held = if k = j then true else (s.region_ k).held := by
  rw [holdRegion, held_refreshEdges]
  split
  next own => rw [own, region_updRegion]
  next other =>
    rw [State.region_, updRegion, updRegions_regions, sget_sput_ne _ _ _ other]
    exact held_regionReset

theorem region_upC {f : CfgSt → CfgSt} : (upC f s).region_ k = s.region_ k := rfl

theorem frames_upC {f : CfgSt → CfgSt} {l : Nat} : sget 0 (upC f s).frames l = sget 0 s.frames l := rfl

theorem region_setConfigured {j : Nat} {b : Bool} : (setConfigured j b s).region_ k = s.region_ k := rfl

theorem held_loadRegion {j : Nat} : ((loadRegion j s).region_ k).held = if k = j then true else (s.region_ k).held := by
  rw [← held_holdRegion, loadRegion]
  split
  · rw [held_updRegion, region_setConfigured]
    exact fun _ => rfl
  · rw [held_setPstate, held_updRegion, region_setConfigured]
    exact fun _ => rfl

theorem configured_setConfigured {b : Bool} : (setConfigured k b s).flag RG_STATUS_CONFIGURED k = b := by
  rw [State.flag, setConfigured, State.setmbit, rd_wr_ne _ _ _ _ _ _ _ _ (by decide), State.setb, rd_wr_same]
  cases b <;> rfl

theorem configured_setConfigured_ne {j : Nat} {b : Bool} (other : k ≠ j) :
    (setConfigured j b s).rd RG_STATUS_CONFIGURED k = s.rd RG_STATUS_CONFIGURED k := by
  rw [setConfigured, State.setmbit, rd_wr_ne _ _ _ _ _ _ _ _ (by decide), State.setb, rd_wr_inst _ _ _ _ _ _ _ other]

/-- Of what CONFIGURED tells, taking a region into a load changes only that region's. -/
theorem configured_loadRegion {j : Nat} : (loadRegion j s).flag RG_STATUS_CONFIGURED k =
    if k = j then false else s.flag RG_STATUS_CONFIGURED k := by
  have pstate {u : State} : (setPstate j 0 u).rd RG_STATUS_CONFIGURED k = u.rd RG_STATUS_CONFIGURED k :=
    (Kept.refl.setPstate .refl).rd_same
  have held : (holdRegion j s).rd RG_STATUS_CONFIGURED k = s.rd RG_STATUS_CONFIGURED k := (Kept.refl.holdRegion .refl).rd_same
  have load : (loadRegion j s).rd RG_STATUS_CONFIGURED k =
      (setConfigured j false (holdRegion j s)).rd RG_STATUS_CONFIGURED k := by
    rw [loadRegion]
    split
    · rw [rd_updRegion]
    · rw [pstate, rd_updRegion]
  rw [State.flag, load]
  split
  next own => exact own ▸ configured_setConfigured
  next other => rw [configured_setConfigured_ne other, held, State.flag]

/-- Every region that a load names is held, and unconfigured (R178). -/
theorem foldl_loadRegion {l : List Nat} (mem : k ∈ l) :
    ((l.foldl (fun t k => loadRegion k t) s).region_ k).held = true ∧
      (l.foldl (fun t k => loadRegion k t) s).flag RG_STATUS_CONFIGURED k = false :=
  foldl_establishes (P := fun k t => (t.region_ k).held = true ∧ t.flag RG_STATUS_CONFIGURED k = false)
    (fun t i => ⟨by rw [held_loadRegion, if_pos rfl], by rw [configured_loadRegion, if_pos rfl]⟩)
    (fun t i j other => by rw [held_loadRegion, if_neg other, configured_loadRegion, if_neg other]; exact id) mem

theorem frameBlock_frameIdx {f : Nat} (region : k < 64) (within : f < 10240) : frameBlock (frameIdx k f) = k := by
  rw [frameIdx, if_neg (by omega), frameBlock, if_neg (by omega)]
  omega

/-- The frames of a block that is cleared read zero (R178). -/
theorem frames_clearFrames {blocks : List Nat} {l : Nat} (mem : frameBlock l ∈ blocks) :
    sget 0 (clearFrames blocks s).frames l = 0 :=
  sget_filter_of_fails (p := fun a => !blocks.contains (frameBlock a)) 0 (by simp [mem]) _

theorem mem_regionsOf {mask : Nat} (region : k < 64) (named : mask.testBit k = true) : k ∈ regionsOf mask :=
  List.mem_filter.2 ⟨List.mem_range.2 region, named⟩

/-- What the acceptance of an F2 header does to the regions and the frames. -/
theorem acceptHeader_eq : ∃ u, cfgState u = 2 ∧ ∃ f, acceptHeader false h s =
    upC f (clearFrames (if bit (leAt h 0x0C 4) 3 then 0x40 :: regionsOf (leAt h 0x10 8) else regionsOf (leAt h 0x10 8))
      ((regionsOf (leAt h 0x10 8)).foldl (fun t k => loadRegion k t) u)) := by
  refine ⟨(s.wr CFG_STATUS_STATE 2).wr CFG_DESIGN_ID_DESIGN_ID (leAt h 0x28 4), ?_, ?_⟩
  · rw [cfgState, rd_wr_ne _ _ _ _ _ _ _ _ (by decide), rd_wr_same]
    rfl
  · simp only [acceptHeader, Bool.false_or, Bool.false_eq_true, if_false]
    exact ⟨_, rfl⟩

/-- An F2 header that is accepted: the block clears, and the regions that it names are held. -/
theorem acceptHeader_accepts : cfgState (acceptHeader false h s) = 2 ∧ (acceptHeader false h s).cfg.mask = leAt h 0x10 8 ∧
    (acceptHeader false h s).cfg.segments = leAt h 0x20 4 ∧ (acceptHeader false h s).cfg.writes = leAt h 0x24 4 ∧
      ∀ k, k < 64 → (leAt h 0x10 8).testBit k = true →
        ((acceptHeader false h s).region_ k).held = true ∧ (acceptHeader false h s).flag RG_STATUS_CONFIGURED k = false ∧
          ∀ f, f < 10240 → sget 0 (acceptHeader false h s).frames (frameIdx k f) = 0 := by
  have cfg : (acceptHeader false h s).cfg.mask = leAt h 0x10 8 ∧ (acceptHeader false h s).cfg.segments = leAt h 0x20 4 ∧
      (acceptHeader false h s).cfg.writes = leAt h 0x24 4 := by
    simp only [acceptHeader, cfg_upC, Bool.false_eq_true, if_false, and_self]
  have regions {u : State} {l : List Nat} : Kept Foot.loadRegion u (l.foldl (fun t k => loadRegion k t) u) :=
    Kept.refl.foldl fun _ _ h => h.loadRegion .refl
  have cleared {u : State} {l : List Nat} : Kept Foot.clearFrames u (clearFrames l u) := Kept.refl.clearFrames .refl
  obtain ⟨mask, segments, writes⟩ := cfg
  obtain ⟨u, clearing, f, e⟩ := acceptHeader_eq (s := s) (h := h)
  refine ⟨?_, mask, segments, writes, fun k region named => ?_⟩
  · rw [e, cfgState_upC, cleared.cfgState_same, regions.cfgState_same, clearing]
  · have mem := mem_regionsOf region named
    obtain ⟨held, configured⟩ := foldl_loadRegion (s := u) mem
    rw [e]
    refine ⟨?_, ?_, fun f within => ?_⟩
    · rw [region_upC, cleared.region_same, held]
    · rw [State.flag, rd_upC, cleared.rd_same]
      exact configured
    · refine frames_upC.trans (frames_clearFrames ?_)
      rw [frameBlock_frameIdx region within]
      split
      exacts [List.mem_cons_of_mem _ mem, mem]

theorem configHeader_runs (header : cfgState s = 1) (host : s.cfg.src = 0) (len : 64 ≤ s.cfg.len)
    (bytes : h = memBytes (streamMem s) s.cfg.addr 64)
    (magic : leAt (memBytes (streamMem s) s.cfg.addr 4) 0 4 = 0x4643584C) (good : flawF2 s h = none)
    (unrefused : s.cfg.refusedAt = none) :
    Runs (.configHeader (.whole none)) s fun t =>
      cfgState t = 2 ∧ t.cfg.mask = leAt h 0x10 8 ∧ t.cfg.segments = leAt h 0x20 4 ∧ t.cfg.writes = leAt h 0x24 4 ∧
        ∀ k, k < 64 → (leAt h 0x10 8).testBit k = true →
          (t.region_ k).held = true ∧ t.flag RG_STATUS_CONFIGURED k = false ∧
            ∀ f, f < 10240 → sget 0 t.frames (frameIdx k f) = 0 := by
  have taken : exec (.configHeader (.whole none)) s = .next (takeCfgHeader (upC (fun c => { c with upset := none }) s)) := by
    show execConfigHeader _ s = _
    simp [execConfigHeader, header, streamAlarmed_of_host host, unrefused, streamRests_of_host host, meetUpset_eq]
  obtain ⟨u, accepted⟩ := takeCfgHeader_of_good (s := upC (fun c => { c with upset := none }) s) (h := h) host len bytes magic
    good
  exact ⟨_, taken, accepted ▸ acceptHeader_accepts⟩

theorem configHeader_fails_runs (header : cfgState s = 1) (quiet : streamAlarmed s = false)
    (unrefused : s.cfg.refusedAt = none) : Runs (.configHeader .fails) s (LoadEnded Code.ABORTED 0x10) := by
  have fails : exec (.configHeader .fails) s = .next (cfgFail Code.ABORTED 0x10 0 0 s) := by
    show execConfigHeader _ s = _
    simp [execConfigHeader, header, quiet, unrefused]
  exact ⟨_, fails, loadEnded_cfgFail⟩

end

/-! CONFIG_SEGMENT (R182, R185, R189, R198). -/

section

variable {s : State} {h b : List Byte} {n : Nat}

/-- The LAST word of a segment header holds its bit alone. -/
theorem lastWord_of_eq {v : Nat} {c : Bool} (last : v = if c then 1 else 0) : (v % 2 == 1) = c ∧ bits v 31 1 = 0 := by
  subst last
  cases c <;> exact ⟨rfl, rfl⟩

/-- The block that has taken in a segment with this payload: it decodes it (R183 to R185). -/
def decodes (payload : List Byte) (bodies n : Nat) (last : Bool) (c : CfgSt) : CfgSt :=
  { c with
    decoding := true, payload := payload, payPos := c.pos + 16, bodies := bodies, last := last, pos := c.pos + 32 + n,
    key := [], parent := if last then [] else c.key }

/-- What is written before a segment is decoded. -/
@[irreducible] def Foot.segmentBytes : Foot := .of [CFG_BYTES_BYTES, CFG_SEGMENT_SEG] []

/-- The next segment of the host's stream is plaintext, with a good header h and a good tag: b is its payload of n bytes with
its tag (R182, R185, R186). -/
structure GoodSegment (s : State) (h b : List Byte) (n : Nat) : Prop where
  plain : s.flag CFG_STATUS_ENCRYPTED = false
  clear : s.rd CFG_INJECT_INJ_AUTH = 0
  host : s.cfg.src = 0
  header : h = memBytes (streamMem s) (s.cfg.addr + s.cfg.pos) 16
  words : n = leAt h 4 4
  body : b = memBytes (streamMem s) (s.cfg.addr + (s.cfg.pos + 16)) (n + 16)
  within : s.cfg.pos + 32 + n ≤ s.cfg.len
  number : leAt h 0 4 = s.cfg.seg
  whole : n % 4 = 0
  least : 4 ≤ n
  most : n ≤ 524288
  bodies : leAt h 8 4 ≤ 1024
  last : leAt h 12 4 = if s.cfg.seg + 1 = s.cfg.segments then 1 else 0
  crc : leNat ((byteVals (b.drop n)).take 4) = crc32 (h ++ b.take n)
  zero : ((byteVals (b.drop n)).drop 4).all (· == 0) = true

/-- Whether a parity error meets its reads is no matter of the segment. -/
theorem GoodSegment.upset {u : Option Upset} :
    GoodSegment s h b n → GoodSegment (upC (fun c => { c with upset := u }) s) h b n
  | ⟨plain, clear, host, header, words, body, within, number, whole, least, most, bodies, last, crc, zero⟩ =>
    ⟨plain, clear, host, header, words, body, within, number, whole, least, most, bodies, last, crc, zero⟩

/-- The payload of a good segment is decoded. -/
theorem takeSegment_of_good (good : GoodSegment s h b n) : ∃ u, u.cfg.pos = s.cfg.pos ∧ cfgState u = cfgState s ∧
    takeSegment s = upC (decodes (b.take n) (leAt h 8 4) n (s.cfg.seg + 1 == s.cfg.segments)) u := by
  obtain ⟨plain, clear, host, header, words, body, within, number, whole, least, most, bodies, last, crc, zero⟩ := good
  have hl : Foot.segmentBytes.Within Foot.segmentBytes := .refl
  obtain ⟨u, read, first⟩ := streamRead_of_host (off := s.cfg.pos) (n := 16) host (.refl (L := Foot.segmentBytes))
  have numbered : Kept Foot.segmentBytes s (u.wr CFG_SEGMENT_SEG s.cfg.seg) := read.wr
  obtain ⟨v, taken, second⟩ := streamRead_of_host (off := s.cfg.pos + 16) (n := n + 16) host numbered
  rw [← header] at first
  rw [← body] at second
  have there : streamHas s s.cfg.pos 16 = true := streamHas_of_host host (by omega)
  have there' : streamHas (u.wr CFG_SEGMENT_SEG s.cfg.seg) (s.cfg.pos + 16) (n + 16) = true :=
    streamHas_of_host (by rw [numbered.cfg_same, host]) (by rw [numbered.cfg_same]; omega)
  have quiet : streamAlarmed u = false := streamAlarmed_of_host (by rw [read.cfg_same, host])
  have quiet' : streamAlarmed v = false := streamAlarmed_of_host (by rw [taken.cfg_same, host])
  have clear' : v.rd CFG_INJECT_INJ_AUTH = 0 := taken.rd_same.trans clear
  have plain' : v.flag CFG_STATUS_ENCRYPTED = false := by
    rw [State.flag, taken.rd_same]
    exact plain
  obtain ⟨lastBit, lastRest⟩ := lastWord_of_eq (c := s.cfg.seg + 1 == s.cfg.segments) (last.trans (by simp))
  have bodyBits : bits (leAt h 8 4) 10 0 = leAt h 8 4 ∧ bits (leAt h 8 4) 31 11 = 0 := by
    constructor
    · rw [bits, Nat.pow_zero, Nat.div_one, Nat.mod_eq_of_lt (by omega)]
    · rw [bits, Nat.div_eq_of_lt (by omega), Nat.zero_mod]
  refine ⟨v, congrArg CfgSt.pos taken.cfg_same, taken.cfgState_same, ?_⟩
  unfold takeSegment
  simp only [there, first, quiet, ← words, number, lastBit, lastRest, bodyBits, Bool.not_true, Bool.false_eq_true, if_false,
    firstFlaw, whole, least.not_gt, most.not_gt, bodies.not_gt, decide_false, bne_self_eq_false, Bool.or_false,
    List.find?_cons, List.find?_nil, Option.map_none, there', second, quiet', takeInj_of_clear clear', plain', crc, zero,
    and_self, if_true]
  rfl

theorem configSegment_runs (loading : cfgState s = 3) (idle : s.cfg.decoding = false)
    (written : s.cfg.prevEnd ≤ s.rd CFG_FRAMES_FRAMES) (f2 : s.flag CFG_STATUS_FORMAT = false) (good : GoodSegment s h b n) :
    Runs (.configSegment .whole) s fun t =>
      cfgState t = 3 ∧ t.cfg.decoding = true ∧ t.cfg.payload = b.take n ∧ t.cfg.bodies = leAt h 8 4 ∧
        t.cfg.pos = s.cfg.pos + 32 + n ∧ t.cfg.payPos = s.cfg.pos + 16 := by
  have taken : exec (.configSegment .whole) s = .next (takeSegment (upC (fun c => { c with upset := none }) s)) := by
    show execConfigSegment .whole s = _
    simp [execConfigSegment, loading, idle, written.not_gt, streamAlarmed_of_host good.host, streamRests_of_host good.host, f2,
      meetUpset_eq]
  obtain ⟨u, (pos : u.cfg.pos = s.cfg.pos), state, decoded⟩ := takeSegment_of_good (good.upset (u := none))
  refine ⟨_, taken, ?_⟩
  rw [decoded, ← pos]
  exact ⟨state.trans loading, rfl, rfl, rfl, rfl, rfl⟩

theorem configSegment_fails_runs (loading : cfgState s = 3) (idle : s.cfg.decoding = false)
    (written : s.cfg.prevEnd ≤ s.rd CFG_FRAMES_FRAMES) (quiet : streamAlarmed s = false) :
    Runs (.configSegment .fails) s (LoadEnded Code.ABORTED 0x10) := by
  have fails : exec (.configSegment .fails) s = .next (cfgFail Code.ABORTED 0x10 0 s.cfg.pos s) := by
    show execConfigSegment .fails s = _
    simp [execConfigSegment, loading, idle, written.not_gt, quiet]
  exact ⟨_, fails, loadEnded_cfgFail⟩

/-- The bodies of a run of an F1 stream that are all there wait for consecutive frames (R189, R190). -/
theorem takeBodies_of_whole {first count most : Nat} {dyn : Bool} (host : s.cfg.src = 0) (few : count ≤ most)
    (within : s.cfg.pos + count * 384 ≤ s.cfg.len)
    (body : b = memBytes (streamMem s) (s.cfg.addr + s.cfg.pos) (count * 384)) :
    (takeBodies first dyn count most s).cfg.run = none ∧
      (takeBodies first dyn count most s).cfg.pos = s.cfg.pos + count * 384 ∧
      (takeBodies first dyn count most s).cfg.queue =
        s.cfg.queue ++ (List.range count).map fun j => ⟨first + j, dyn, leAt b (j * 384) 384⟩ := by
  have there : bodiesThere s s.cfg.pos count = count := by
    simp only [bodiesThere, host, OfNat.zero_ne_ofNat, if_false]
    exact min_eq_left ((Nat.le_div_iff_mul_le (by decide)).2 (by omega))
  obtain ⟨u, kept, read⟩ := streamRead_of_host (off := s.cfg.pos) (n := count * 384) host
    (.refl (L := Foot.field CFG_BYTES_BYTES.id)) .refl
  rw [← body] at read
  simp only [takeBodies, there, Nat.min_eq_right few, read, cfg_upC, lt_irrefl, if_false, kept.cfg_same, and_self]

theorem configSegment_run_runs (loading : cfgState s = 3) (idle : s.cfg.decoding = false)
    (written : s.cfg.prevEnd ≤ s.rd CFG_FRAMES_FRAMES) (f1 : s.flag CFG_STATUS_FORMAT = true) (host : s.cfg.src = 0)
    (new : s.cfg.run = none) (header : h = memBytes (streamMem s) (s.cfg.addr + s.cfg.pos) 8) (more : leAt h 4 4 ≠ 0)
    (body : b = memBytes (streamMem s) (s.cfg.addr + (s.cfg.pos + 8)) (leAt h 4 4 * 384)) (zero : bits (leAt h 0 4) 30 20 = 0)
    (inside : bits (leAt h 0 4) 19 0 + leAt h 4 4 ≤ frameCount) (within : s.cfg.pos + 8 + leAt h 4 4 * 384 ≤ s.cfg.len) :
    Runs (.configSegment .whole) s fun t =>
      t.cfg.run = none ∧ t.cfg.pos = s.cfg.pos + 8 + leAt h 4 4 * 384 ∧
        t.cfg.queue = s.cfg.queue ++ (List.range (leAt h 4 4)).map fun j =>
          ⟨bits (leAt h 0 4) 19 0 + j, bit (leAt h 0 4) 31, leAt b (j * 384) 384⟩ := by
  obtain ⟨v, kept, read⟩ := streamRead_of_host (off := s.cfg.pos) (n := 8) host
    (.refl (L := Foot.field CFG_BYTES_BYTES.id)) .refl
  rw [← header] at read
  have mem : streamMem v = streamMem s := streamMem_kept kept
  have there : streamHas s s.cfg.pos 8 = true := streamHas_of_host host (by omega)
  have taken : ∃ u, exec (.configSegment .whole) s = .next (takeBodies (bits (leAt h 0 4) 19 0) (bit (leAt h 0 4) 31)
      (leAt h 4 4) frameCount u) ∧ u.cfg.src = 0 ∧ u.cfg.addr = s.cfg.addr ∧ u.cfg.len = s.cfg.len ∧
        u.cfg.pos = s.cfg.pos + 8 ∧ u.cfg.queue = s.cfg.queue ∧ streamMem u = streamMem s := by
    show ∃ u, execConfigSegment .whole s = _ ∧ _
    simp only [execConfigSegment, loading, idle, written.not_gt, streamAlarmed_of_host host, streamRests_of_host host, f1,
      takeRun, new, there, read, more, zero, inside.not_gt, bne_self_eq_false, decide_false, Bool.or_false, Bool.not_true,
      Bool.false_eq_true, if_false, if_true, ne_eq, not_true_eq_false, or_false]
    refine ⟨_, rfl, ?_, ?_, ?_, ?_, ?_, mem⟩ <;> simp only [cfg_upC, kept.cfg_same, host]
  obtain ⟨u, exec, src, addr, len, pos, queue, mem⟩ := taken
  obtain ⟨run, next, bodies⟩ := takeBodies_of_whole (s := u) (first := bits (leAt h 0 4) 19 0) (count := leAt h 4 4)
    (most := frameCount) (dyn := bit (leAt h 0 4) 31) src (by omega) (by rw [pos, len]; exact within)
    (body.trans (by rw [mem, addr, pos]))
  exact ⟨_, exec, run, next.trans (by rw [pos]), bodies.trans (by rw [queue])⟩

end

/-! CONFIG_RELEASE (R179, R195, R200). -/

section

variable {s : State} {k : Nat} {words : List (Nat × Nat × Nat)}

/-- What starting a region changes beside CONFIGURED. -/
@[irreducible] def Foot.startUnits : Foot := Foot.idleSlices ||| Foot.part .regions ||| Foot.field RG_CLK_STATUS_RUNNING.id

/-- A loaded region runs: CONFIGURED is set last. -/
theorem startRegion_eq : ∃ u, Kept Foot.startUnits s u ∧ startRegion words k s = setConfigured k true u := by
  have hl : Foot.startUnits.Within Foot.startUnits := .refl
  exact ⟨_, (Kept.refl.idleSlices.updSlices.foldl fun _ _ h => h.updSlices).updRegion.refreshLines, rfl⟩

/-- One region of a load is released to the owner of its ring, if it has one (R179, R195). -/
def releaseRegion (words : List (Nat × Nat × Nat)) (owner : Option Nat) (s : State) (k : Nat) : State :=
  openRegion k (match owner with
    | some r => (startRegion words k s).wr RG_OWNER_OWNER r k
    | none => startRegion words k s)

theorem configured_releaseRegion {owner : Option Nat} {j : Nat} :
    (releaseRegion words owner s j).flag RG_STATUS_CONFIGURED k = if k = j then true else s.flag RG_STATUS_CONFIGURED k := by
  have opened {u : State} : (openRegion j u).rd RG_STATUS_CONFIGURED k = u.rd RG_STATUS_CONFIGURED k :=
    (Kept.refl.openRegion .refl).rd_same
  have owned : (releaseRegion words owner s j).rd RG_STATUS_CONFIGURED k = (startRegion words j s).rd RG_STATUS_CONFIGURED k := by
    cases owner with
    | none => exact opened
    | some r => exact opened.trans (rd_wr_ne _ _ _ _ _ _ _ _ (by decide))
  obtain ⟨u, kept, started⟩ := startRegion_eq (s := s) (k := j) (words := words)
  rw [State.flag, owned, started]
  split
  next own => exact own ▸ configured_setConfigured
  next other => rw [configured_setConfigured_ne other, kept.rd_same, State.flag]

theorem configured_foldl_releaseRegion {owner : Option Nat} {l : List Nat} (mem : k ∈ l) :
    (l.foldl (releaseRegion words owner) s).flag RG_STATUS_CONFIGURED k = true :=
  foldl_establishes (P := fun k t => t.flag RG_STATUS_CONFIGURED k = true)
    (fun t i => by rw [configured_releaseRegion, if_pos rfl])
    (fun t i j other => by rw [configured_releaseRegion, if_neg other]; exact id) mem

/-- What the end of a release changes once its load has its result: it checks the boundaries, and may be late. -/
@[irreducible] def Foot.releaseEnd : Foot := Foot.boundaryCheck ||| Foot.field CFG_STATUS_RELEASE_LATE.id

/-- The release of a load: the regions it names, the global block, the result, and the end. -/
theorem releaseLoad_eq : ∃ u, u = (regionsOf s.cfg.mask).foldl (releaseRegion words (s.cfg.op.map (·.1))) s ∧ ∃ f,
    Kept Foot.releaseEnd (cfgIdle (cfgResult Code.OK 0 0
      (upC f (if s.cfg.full then u.wr CFG_STATUS_GLOBAL_LOADED 1 else u)))) (releaseLoad words s) := by
  have hl : Foot.releaseEnd.Within Foot.releaseEnd := .refl
  exact ⟨_, rfl, _, .ite Kept.refl.boundaryCheck.wr.raise Kept.refl.boundaryCheck⟩

theorem releaseLoad_releases : cfgState (releaseLoad words s) = 0 ∧ (releaseLoad words s).rd CFG_RESULT_CODE = Code.OK ∧
    (s.cfg.full = true → (releaseLoad words s).flag CFG_STATUS_GLOBAL_LOADED = true) ∧
      ∀ k, k < 64 → s.cfg.mask.testBit k = true → (releaseLoad words s).flag RG_STATUS_CONFIGURED k = true := by
  have idle {u : State} : Kept Foot.cfgIdle u (cfgIdle u) := Kept.refl.cfgIdle .refl
  have result {u : State} : Kept Foot.cfgResult u (cfgResult Code.OK 0 0 u) := Kept.refl.cfgResult .refl
  obtain ⟨u, released, f, ends⟩ := releaseLoad_eq (s := s) (words := words)
  refine ⟨ends.cfgState_same.trans cfgState_cfgIdle, ?_, fun full => ?_, fun k region named => ?_⟩
  · rw [ends.rd_same, idle.rd_same, result_cfgResult.1]
    rfl
  · rw [State.flag, ends.rd_same, idle.rd_same, result.rd_same, rd_upC, full, if_pos rfl, rd_wr_same]
    rfl
  · have configured := configured_foldl_releaseRegion (s := s) (words := words) (owner := s.cfg.op.map (·.1))
      (mem_regionsOf region named)
    rw [← released, State.flag] at configured
    rw [State.flag, ends.rd_same, idle.rd_same, result.rd_same, rd_upC, rd_ite, rd_wr_ne _ _ _ _ _ _ _ _ (by decide), ite_self,
      configured]

theorem configRelease_runs {pins : List (Nat × Nat × Nat)} {banks : List (Nat × Nat)} (waiting : cfgState s = 4)
    (tick : s.offset = 0) (credit : s.cfg.fixTick = none ∨ credited s = true) (due : s.rd CFG_RELEASE_TICK_TICK ≤ s.now) :
    Runs (.configRelease () words () pins banks) s fun t =>
      cfgState t = 0 ∧ t.rd CFG_RESULT_CODE = Code.OK ∧ (s.cfg.full = true → t.flag CFG_STATUS_GLOBAL_LOADED = true) ∧
        ∀ k, k < 64 → s.cfg.mask.testBit k = true → t.flag RG_STATUS_CONFIGURED k = true := by
  have releases : exec (.configRelease () words () pins banks) s = .next
      (if s.cfg.full then pinRelease pins banks (releaseLoad words s) else releaseLoad words s) := by
    show execConfigRelease () words () pins banks s = _
    refine if_pos ?_
    simpa [tick, releaseStands, waiting, due] using credit
  have pinned : Kept Foot.pinRelease (releaseLoad words s)
      (if s.cfg.full then pinRelease pins banks (releaseLoad words s) else releaseLoad words s) :=
    .ite (Kept.refl.pinRelease .refl) .refl
  obtain ⟨idle, code, global, configured⟩ := releaseLoad_releases (s := s) (words := words)
  refine ⟨_, releases, pinned.cfgState_same.trans idle, pinned.rd_same.trans code, fun full => ?_, fun k region named => ?_⟩
  · rw [State.flag, pinned.rd_same]
    exact global full
  · rw [State.flag, pinned.rd_same]
    exact configured k region named

end

/-- Settles O15, clause by clause: CONFIG_LOAD, the header, the clear, the segments and runs, the release, and the aborts. -/
theorem configLoadResults : Obligations.ConfigLoadResults :=
  ⟨fun _ _ _ => configLoad_runs,
    fun _ _ _ => configLoad_busy_runs,
    fun _ _ => configHeader_runs,
    fun _ => configHeader_fails_runs,
    fun _ => exec_configClearDone_of_load,
    fun _ _ => configClearDone_swap_runs,
    fun _ _ _ _ loading idle written f2 plain clear host header words body within number whole least most bodies last crc zero =>
      configSegment_runs loading idle written f2
        ⟨plain, clear, host, header, words, body, within, number, whole, least, most, bodies, last, crc, zero⟩,
    fun _ _ _ => configSegment_run_runs,
    fun _ => configSegment_fails_runs,
    fun _ _ _ _ => configRelease_runs,
    fun _ => configAbort_runs,
    fun _ => exec_configAbort_of_idle,
    fun _ _ => configAbortLatch_runs,
    fun _ _ => configAbortLatch_late_runs⟩

end Sys2Proof

namespace Sys2Proof

open Machine Machine.F

set_option Elab.async false

/-! The end of a swap's drain (R204, R205, R236, R237). -/

section

variable {s : State} {k : Fin 64} {q : SwapReq}

/-- The drain of a region's swap q has ended: the region waits for its open tick where it only changes owner, else it is held
for its load. -/
def DrainEnded (k : Nat) (q : SwapReq) (t : State) : Prop :=
  t.rd SWAP_STATUS_STATE 0 k = (if q.mode = 1 then 4 else 2) ∧ (q.mode ≠ 1 → (t.region_ k).held = true)

/-- What closing a region's ports and freeing its workers changes. -/
@[irreducible] def Foot.portsClosed : Foot := Foot.returnJobs ||| Foot.field NR_STATUS_PORT_STATE.id

theorem drainEnded_drainEnds {k : Nat} (swap : (s.region_ k).swap = some q) : DrainEnded k q (drainEnds k s) := by
  have hl : Foot.portsClosed.Within Foot.portsClosed := .refl
  have held {u : State} : Kept Foot.holdRegion u (holdRegion k u) := Kept.refl.holdRegion .refl
  unfold drainEnds
  extract_lets u
  have closed : Kept Foot.portsClosed s u := Kept.refl.setPort.setPort.freeRegionWorkers
  rw [closed.region_same, swap]
  by_cases ownerOnly : q.mode = 1
  · simp only [DrainEnded, ownerOnly, if_true, rd_updRegion, rd_wr_same, ne_eq, not_true_eq_false, false_implies, and_true]
    rfl
  · simp only [DrainEnded, ownerOnly, if_false, held_holdRegion, if_true, implies_true, and_true]
    rw [held.rd_same, rd_wr_same]
    rfl

theorem swapDrained_runs (swap : (s.region_ k).swap = some q) (draining : s.rd SWAP_STATUS_STATE 0 k = 1)
    (first : portDrained s (portRegion k 0) = true) (second : portDrained s (portRegion k 1) = true) :
    Runs (.swapDrained k) s (DrainEnded k q) := by
  have ends : exec (.swapDrained k) s = .next (drainEnds k s) := by
    show execSwapDrained k s = _
    simp [execSwapDrained, draining, first, second]
  exact ⟨_, ends, drainEnded_drainEnds swap⟩

theorem exec_swapDrained_of_undrained
    (undrained : s.rd SWAP_STATUS_STATE 0 k ≠ 1 ∨ portDrained s (portRegion k 0) = false) :
    exec (.swapDrained k) s = .next s := by
  show execSwapDrained k s = _
  rcases undrained with state | first
  · simp [execSwapDrained, state]
  · simp [execSwapDrained, first]

/-- What forcing the drain of both ports of a region changes, and the counts of it. -/
@[irreducible] def Foot.portsForced : Foot :=
  Foot.forceDrain ||| .of [SWAP_DISCARDED_RESPONSES, SWAP_DISCARDED_RETURNED] []

/-- The drain of both ports of a region is forced; what came back and what will be discarded is counted. -/
def portsForced (k : Nat) (q : SwapReq) (s : State) : State :=
  let (b0, g0, s) := forceDrain (portRegion k 0) q.epoch s
  let (b1, g1, s) := forceDrain (portRegion k 1) q.epoch s
  (s.wr SWAP_DISCARDED_RESPONSES (g0 + g1) 0 k).wr SWAP_DISCARDED_RETURNED (b0 + b1) 0 k

theorem kept_portsForced {k : Nat} : Kept Foot.portsForced s (portsForced k q s) := by
  have hl : Foot.portsForced.Within Foot.portsForced := .refl
  have first : Kept Foot.portsForced s (forceDrain (portRegion k 0) q.epoch s).2.2 := Kept.refl.forceDrain
  exact first.forceDrain.wr.wr

theorem region_wr {f : Fld} {v i j k : Nat} : (s.wr f v i j).region_ k = s.region_ k := rfl

/-- A drain that overstays is forced at both ports, marked FORCED, recorded and ended. -/
theorem exec_swapDrainForced_of_overdue (swap : (s.region_ k).swap = some q) (draining : s.rd SWAP_STATUS_STATE 0 k = 1)
    (tick : s.offset = 0) (overdue : q.start + max 1 q.drain ≤ s.now) (undrained : portDrained s (portRegion k 0) = false) :
    ∃ n, exec (.swapDrainForced k) s =
      .next (drainEnds k (raise E.SWAP_DRAIN_FORCED k n ((portsForced k q s).wr SWAP_STATUS_FORCED 1 0 k))) := by
  show ∃ n, execSwapDrainForced k s = _
  simp only [execSwapDrainForced, swap, draining, tick, overdue, undrained, beq_self_eq_true, decide_true, Bool.false_and,
    Bool.not_false, Bool.and_self, if_true]
  exact ⟨_, rfl⟩

theorem swapDrainForced_runs (swap : (s.region_ k).swap = some q) (draining : s.rd SWAP_STATUS_STATE 0 k = 1)
    (tick : s.offset = 0) (overdue : q.start + max 1 q.drain ≤ s.now) (undrained : portDrained s (portRegion k 0) = false) :
    Runs (.swapDrainForced k) s fun t =>
      t.rd SWAP_STATUS_FORCED 0 k = 1 ∧ t.rd SWAP_STATUS_STATE 0 k = (if q.mode = 1 then 4 else 2) := by
  obtain ⟨n, ends⟩ := exec_swapDrainForced_of_overdue swap draining tick overdue undrained
  have ended {v : State} : Kept Foot.drainEnds v (drainEnds k v) := Kept.refl.drainEnds .refl
  have raised {v : State} {e : Evt} {a b : Nat} : Kept Foot.sequencerStep v (raise e a b v) := Kept.refl.raise .refl
  refine ⟨_, ends, ?_, (drainEnded_drainEnds ?_).1⟩
  · rw [ended.rd_same, raised.rd_same, rd_wr_same]
    rfl
  · rw [raised.region_same, region_wr, kept_portsForced.region_same, swap]

end

/-! The start of a swap's load or clear, and its open tick (R206, R207). -/

section

variable {s : State} {k : Fin 64} {q : SwapReq}

/-- The regions of a swap's group whose load or clear starts. -/
def groupLoads (group : List Nat) (s : State) : State := group.foldl (fun t j => t.wr SWAP_STATUS_STATE 3 0 j) s

theorem state_groupLoads {group : List Nat} {j : Nat} (mem : j ∈ group) :
    (groupLoads group s).rd SWAP_STATUS_STATE 0 j = 3 :=
  foldl_establishes (P := fun j t => t.rd SWAP_STATUS_STATE 0 j = 3) (fun _ _ => rd_wr_same ..)
    (fun _ _ _ other => (rd_wr_index _ _ _ _ _ _ other).trans) mem

theorem swapLoadStart_load_runs (swap : (s.region_ k).swap = some q) (ready : groupReady s k = true) (loads : q.mode ≠ 2) :
    Runs (.swapLoadStart k) s fun t =>
      cfgState t = 1 ∧ t.cfg.swap = groupOf s q ∧ t.cfg.addr = q.addr ∧ t.cfg.len = q.len ∧
        ∀ j ∈ groupOf s q, t.rd SWAP_STATUS_STATE 0 j = 3 := by
  have starts : exec (.swapLoadStart k) s = .next (cfgStart (if q.dram then 1 else 0) (if q.dram then 0 else 1) q.addr q.len none
      (groupOf s q) (groupLoads (groupOf s q) s)) := by
    show execSwapLoadStart k s = _
    simp only [execSwapLoadStart, swap, ready, loads, Bool.not_true, Bool.false_eq_true, if_false, groupLoads]
  have started {u : State} {src source addr len : Nat} {op : Option (Nat × Nat)} {group : List Nat} :
      Kept Foot.cfgStart u (cfgStart src source addr len op group u) := Kept.refl.cfgStart .refl
  exact ⟨_, starts, cfgState_cfgStart, rfl, rfl, rfl, fun j mem => started.rd_same.trans (state_groupLoads mem)⟩

theorem swapLoadStart_clear_runs (swap : (s.region_ k).swap = some q) (ready : groupReady s k = true) (clears : q.mode = 2) :
    Runs (.swapLoadStart k) s fun t =>
      cfgState t = 2 ∧ t.cfg.clearOnly = true ∧ ∀ j ∈ groupOf s q, ∀ f, f < 10240 → sget 0 t.frames (frameIdx j f) = 0 := by
  have starts : ∃ u, exec (.swapLoadStart k) s = .next (upC (fun c => { c with swap := groupOf s q, clearOnly := true })
      ((clearFrames (groupOf s q) u).wr CFG_STATUS_STATE 2)) := by
    refine ⟨(groupOf s q).foldl (fun t j => loadRegion j t) (groupLoads (groupOf s q) s), ?_⟩
    show execSwapLoadStart k s = _
    simp only [execSwapLoadStart, swap, ready, clears, Bool.not_true, Bool.false_eq_true, if_false, if_true, groupLoads]
  obtain ⟨u, starts⟩ := starts
  refine ⟨_, starts, rd_wr_same .., rfl, fun j mem f within => frames_upC.trans (frames_clearFrames ?_)⟩
  have region : j < 64 := List.mem_range.1 (List.mem_filter.1 mem).1
  rwa [frameBlock_frameIdx region within]

/-- The registers of a region at the open tick of its swap: its epoch and owner, and the swap over. -/
def swapTaken (k : Nat) (q : SwapReq) (s : State) : State :=
  let s := (s.wr RG_EPOCH_EPOCH q.epoch k).wr RG_OWNER_OWNER q.owner k
  let s := if q.openTick ≠ 0 ∧ q.openTick < s.now then s.wr SWAP_STATUS_LATE 1 0 k else s
  (((s.wr SWAP_STATUS_STATE 0 0 k).wr SWAP_STATUS_CODE Code.OK 0 k).wr SWAP_TICK_TICK s.now 0 k).wr RG_STATUS_SWAP 0 k

theorem swapTaken_takes {k : Nat} : (swapTaken k q s).rd RG_EPOCH_EPOCH k = q.epoch % 2 ^ 16 ∧
    (swapTaken k q s).rd RG_OWNER_OWNER k = q.owner % 2 ^ 8 ∧ (swapTaken k q s).rd SWAP_STATUS_STATE 0 k = 0 ∧
      (swapTaken k q s).rd RG_STATUS_SWAP k = 0 := by
  refine ⟨?_, ?_, ?_, ?_⟩ <;>
    simp (disch := decide) only [swapTaken, rd_ite, rd_wr_ne, rd_wr_same, ite_self] <;> rfl

/-- What the open tick changes beside: the region starts or goes Dark, its ports open, and the swap is recorded. -/
@[irreducible] def Foot.swapOpened : Foot := Foot.boundaryCheck ||| Foot.startRegion ||| Foot.setPstate ||| Foot.openRegion |||
  Foot.dropAttach ||| Foot.setUncorrectable ||| Foot.field SCRUB_STATUS_RELOAD_ACTIVE.id

theorem exec_swapOpen_of_due {words : List (Nat × Nat × Nat)} (swap : (s.region_ k).swap = some q)
    (waits : s.rd SWAP_STATUS_STATE 0 k = 4) (tick : s.offset = 0) (credit : credited s = true)
    (due : (s.region_ k).openFrom ≤ s.now) :
    ∃ t, exec (.swapOpen k () words ()) s = .next t ∧ Kept Foot.swapOpened (swapTaken k q s) t := by
  have hl : Foot.swapOpened.Within Foot.swapOpened := .refl
  show ∃ t, execSwapOpen k () words () s = _ ∧ _
  unfold execSwapOpen
  rw [swap]
  dsimp only
  rw [if_pos (by simp [waits, tick, credit, due])]
  refine ⟨_, rfl, Kept.raise ?_⟩
  have dropped : Kept Foot.swapOpened (swapTaken k q s) (refreshReloads (dropAttach k (swapTaken k q s))) :=
    Kept.refl.dropAttach.refreshReloads
  have judged : Kept Foot.swapOpened (swapTaken k q s) (if q.mode = 1 then refreshReloads (dropAttach k (swapTaken k q s))
    else setUncorrectable k false (refreshReloads (dropAttach k (swapTaken k q s)))) := .ite dropped dropped.setUncorrectable
  split
  · exact Kept.boundaryCheck (.openRegion (.startRegion judged))
  · exact Kept.refreshLines (.openRegion (.updRegion judged))
  · exact Kept.setPstate (.updRegion (.setConfigured judged))

theorem swapOpen_runs {words : List (Nat × Nat × Nat)} (swap : (s.region_ k).swap = some q)
    (waits : s.rd SWAP_STATUS_STATE 0 k = 4) (tick : s.offset = 0) (credit : credited s = true)
    (due : (s.region_ k).openFrom ≤ s.now) :
    Runs (.swapOpen k () words ()) s fun t =>
      t.rd RG_EPOCH_EPOCH k = q.epoch % 2 ^ 16 ∧ t.rd RG_OWNER_OWNER k = q.owner % 2 ^ 8 ∧
        t.rd SWAP_STATUS_STATE 0 k = 0 ∧ t.rd RG_STATUS_SWAP k = 0 := by
  obtain ⟨t, opens, kept⟩ := exec_swapOpen_of_due (words := words) swap waits tick credit due
  obtain ⟨epoch, owner, state, ended⟩ := swapTaken_takes (s := s) (q := q) (k := k)
  exact ⟨t, opens, kept.rd_same.trans epoch, kept.rd_same.trans owner, kept.rd_same.trans state, kept.rd_same.trans ended⟩

end

/-! The scrubber (R212, R213, R214, R217). -/

section

variable {s : State}

/-- The scrubber's state as a step checks its frame: RUNNING follows ENABLE, and the step counts towards the next that debug
readback may borrow. -/
def scrubbing (s : State) : State :=
  upC (fun c => { c with steps := min 15 (c.steps + 1) }) (s.setb SCRUB_STATUS_RUNNING (s.flag SCRUB_CTRL_ENABLE))

theorem rd_scrubbing {g : Fld} {i j : Nat} (other : g.id ≠ SCRUB_STATUS_RUNNING.id) : (scrubbing s).rd g i j = s.rd g i j :=
  rd_wr_ne _ _ _ _ _ _ _ _ other

theorem scrubExcludes_scrubbing {b : Nat} : scrubExcludes (scrubbing s) b = scrubExcludes s b := by
  simp (disch := decide) only [scrubExcludes, cfgState, State.flag, rd_scrubbing]
  rfl

/-- The step goes on to the frame after l, or ends the pass. -/
def scrubbedTo (l : Nat) (s : State) : State :=
  if l + 1 < frameCount then s.wr SCRUB_POS_ADDR (frameAddr (l + 1))
  else
    let c := s.cfg
    let s := ((s.wr SCRUB_POS_ADDR (frameAddr 0)).incWrap SCRUB_PASSES_PASSES).wr SCRUB_PASS_TIME_CYCLES (s.cycle - c.passStart)
    let s := s.updTickWrites (· ++ [⟨SCRUB_SKIPS_DYNAMIC, 0, 0, c.skipDyn⟩, ⟨SCRUB_SKIPS_EXCLUDED, 0, 0, c.skipExc⟩])
    upC (fun c => { c with passStart := s.cycle, skipDyn := 0, skipExc := 0 }) s

/-- A step that debug readback does not borrow checks the frame at the scrubber's position, and goes on. -/
theorem exec_scrubStep_of_own (enabled : s.flag SCRUB_CTRL_ENABLE = true) (own : s.flag SCRUB_STATUS_BORROWED = false) :
    exec .scrubStep s = .next
      (scrubbedTo (addrIdx (s.rd SCRUB_POS_ADDR)) (scrubFrame (addrIdx (s.rd SCRUB_POS_ADDR)) (scrubbing s))) := by
  show execScrubStep s = _
  have own' : (s.setb SCRUB_STATUS_RUNNING true).flag SCRUB_STATUS_BORROWED = false := by
    rw [State.flag, State.setb, rd_wr_ne _ _ _ _ _ _ _ _ (by decide)]
    exact own
  have pos : (s.setb SCRUB_STATUS_RUNNING true).rd SCRUB_POS_ADDR = s.rd SCRUB_POS_ADDR := rd_wr_ne _ _ _ _ _ _ _ _ (by decide)
  simp only [execScrubStep, scrubbing, scrubbedTo, enabled, own', pos, Bool.not_true, Bool.false_and, Bool.false_eq_true, if_false]
  exact (apply_ite Host.Outcome.next _ _ _).symm

theorem frameAddr_lt {l : Nat} (frame : l < frameCount) : frameAddr l < 2 ^ 32 := by
  simp only [frameCount, frameAddr, frameBlock] at frame ⊢
  split <;> omega

theorem scrubStep_runs (enabled : s.flag SCRUB_CTRL_ENABLE = true) (own : s.flag SCRUB_STATUS_BORROWED = false)
    (more : addrIdx (s.rd SCRUB_POS_ADDR) + 1 < frameCount) :
    Runs .scrubStep s fun t =>
      t.rd SCRUB_POS_ADDR = frameAddr (addrIdx (s.rd SCRUB_POS_ADDR) + 1) ∧ t.flag SCRUB_STATUS_RUNNING = true := by
  have checked {l : Nat} {u : State} : Kept Foot.scrubFrame u (scrubFrame l u) := Kept.refl.scrubFrame .refl
  refine ⟨_, exec_scrubStep_of_own enabled own, ?_, ?_⟩
  · rw [scrubbedTo, if_pos more, rd_wr_same]
    exact Nat.mod_eq_of_lt (frameAddr_lt more)
  · rw [scrubbedTo, if_pos more, State.flag, rd_wr_ne _ _ _ _ _ _ _ _ (by decide), checked.rd_same, scrubbing, rd_upC,
      State.setb, rd_wr_same, enabled]
    rfl

/-- A frame with a single error and no injection is corrected. -/
theorem scrubFrame_of_single {l : Nat} (scrubbed : scrubExcludes s (frameBlock l) = false) (static : sget 0 s.frameDyn l = 0)
    (single : sget 0 s.frameBad l = 1) (one : s.rd SCRUB_INJECT_INJ_SINGLE = 0) (two : s.rd SCRUB_INJECT_INJ_DOUBLE = 0) :
    scrubFrame l s = (s.updFrameBad fun m => sput 0 m l 0).incWrap SCRUB_CORRECTED_COUNT := by
  simp only [scrubFrame, scrubbed, static, takeInj_of_clear one, takeInj_of_clear two, single, bne_self_eq_false,
    Bool.false_eq_true, if_false, Nat.add_zero, one_ne_zero, if_true]

theorem frameBad_scrubbedTo {l : Nat} : (scrubbedTo l s).frameBad = s.frameBad := by
  unfold scrubbedTo
  split <;> rfl

theorem corrected_scrubbedTo {l : Nat} : (scrubbedTo l s).rd SCRUB_CORRECTED_COUNT = s.rd SCRUB_CORRECTED_COUNT := by
  unfold scrubbedTo
  split
  · exact rd_wr_ne _ _ _ _ _ _ _ _ (by decide)
  · simp (disch := decide) only [rd_upC, rd_updTickWrites, rd_wr_ne, rd_incWrap_ne]

theorem scrubStep_corrects_runs {l : Nat} (enabled : s.flag SCRUB_CTRL_ENABLE = true)
    (own : s.flag SCRUB_STATUS_BORROWED = false) (pos : l = addrIdx (s.rd SCRUB_POS_ADDR))
    (scrubbed : scrubExcludes s (frameBlock l) = false) (static : sget 0 s.frameDyn l = 0) (single : sget 0 s.frameBad l = 1)
    (one : s.rd SCRUB_INJECT_INJ_SINGLE = 0) (two : s.rd SCRUB_INJECT_INJ_DOUBLE = 0) :
    Runs .scrubStep s fun t =>
      sget 0 t.frameBad l = 0 ∧ t.rd SCRUB_CORRECTED_COUNT = (s.rd SCRUB_CORRECTED_COUNT + 1) % 2 ^ 64 := by
  have corrects : scrubFrame l (scrubbing s) = ((scrubbing s).updFrameBad fun m => sput 0 m l 0).incWrap SCRUB_CORRECTED_COUNT :=
    scrubFrame_of_single (scrubExcludes_scrubbing.trans scrubbed) static single ((rd_scrubbing (by decide)).trans one)
      ((rd_scrubbing (by decide)).trans two)
  refine ⟨_, exec_scrubStep_of_own enabled own, ?_, ?_⟩
  · rw [← pos, frameBad_scrubbedTo, corrects]
    exact sget_sput_same 0 0 (scrubbing s).frameBad l
  · rw [← pos, corrected_scrubbedTo, corrects, rd_incWrap_same, rd_updFrameBad, rd_scrubbing (by decide)]
    rfl

theorem exec_scrubStep_of_stopped (disabled : s.flag SCRUB_CTRL_ENABLE = false)
    (stopped : s.flag SCRUB_STATUS_RUNNING = false) : exec .scrubStep s = .next s := by
  show execScrubStep s = _
  simp [execScrubStep, disabled, stopped]

end

/-! The automatic reload (R216, R218). -/

section

variable {s : State} {k : Fin 64} {due : Nat}

/-- What a swap's start changes beside the configuration block once its registers are written: the region's state, and its
ports. -/
@[irreducible] def Foot.swapStarted : Foot := Foot.setPstate ||| Foot.closePort

/-- A swap of region k stands begun. -/
structure SwapBegun (k : Nat) (r : SwapReq) (s t : State) : Prop where
  state : t.rd SWAP_STATUS_STATE 0 k = if s.rd SWAP_STATUS_STATE 0 k = 5 then 2 else 1
  auto : t.rd SWAP_STATUS_AUTO 0 k = if r.auto then 1 else 0
  swap : t.rd RG_STATUS_SWAP k = 1
  reloads : t.cfg.reloads = s.cfg.reloads.filter (·.1 != k)

theorem startSwap_begins {k : Nat} {r : SwapReq} : SwapBegun k r s (startSwap k r s) := by
  have hl : Foot.swapStarted.Within Foot.swapStarted := .refl
  unfold startSwap
  extract_lets failed damped s1 s2 s3 s4 s5 s6 s7
  have started : Kept Foot.swapStarted s3 s4 := .ite (Kept.setPstate (.updRegion .refl)) .refl
  have closed : Kept Foot.swapStarted s6 (refreshEdges k s7) :=
    .refreshEdges (.ite .refl (.closePort (.closePort .refl)))
  have same {g : Fld} {i j : Nat}
      (apart : Foot.swapStarted &&& (Foot.field g.id ||| Foot.reset ||| Foot.waiting ||| Foot.staged) = 0) :
      (refreshEdges k s7).rd g i j = s3.rd g i j := (closed.rd_same apart).trans (started.rd_same apart)
  refine ⟨(same (by decide +kernel)).trans ?_, (same (by decide +kernel)).trans ?_, (same (by decide +kernel)).trans ?_, ?_⟩
  · simp (disch := decide) only [s3, s2, s1, failed, State.setb, rd_updRegion, rd_wr_ne, rd_wr_same, beq_iff_eq]
    split <;> rfl
  · simp (disch := decide) only [s3, s2, s1, State.setb, rd_updRegion, rd_wr_ne, rd_wr_same]
    split <;> rfl
  · simp only [s3, rd_updRegion, rd_wr_same]
    rfl
  · rw [closed.cfg_same]
    exact congrArg (fun c : CfgSt => c.reloads.filter (·.1 != k)) started.cfg_same

/-- The swap that an automatic reload of region k asks for (R216, R218). -/
def reloadOf (k : Nat) (s : State) : SwapReq :=
  { owner := s.rd RG_OWNER_OWNER k, mode := 0, dram := true, epoch := (s.rd RG_EPOCH_EPOCH k + 1) % 65536,
    drain := max 1 (s.rd SCRUB_CTRL_AUTO_DRAIN), addr := s.rd RELOAD_ADDR_ADDR 0 k, len := s.rd RELOAD_LEN_BYTES 0 k, openTick := 0,
    set := s.cycle, group := k + 65536, start := s.now, auto := true }

/-- No automatic reload of region k waits any more. -/
def reloadTaken (k : Nat) (s : State) : State := upC (fun c => { c with reloads := c.reloads.filter (·.1 != k) }) s

theorem reloads_reloadTaken (waits : s.cfg.reloads = [(k.val, due)]) : (reloadTaken k s).cfg.reloads = [] := by
  simp [reloadTaken, waits]

/-- The one reload that waits, due at a permitted tick, where no swap is under way: it starts. -/
theorem exec_autoReloadStart_of_due (waits : s.cfg.reloads = [(k.val, due)]) (tick : s.offset = 0) (reached : due ≤ s.now)
    (credit : credited s = true) (permits : hasApply s s.now = true) (awake : s.rd RG_STATUS_PSTATE k ≠ 2)
    (none : ∀ j : Fin 64, s.flag RG_STATUS_SWAP j = false) (image : s.rd RELOAD_LEN_BYTES 0 k ≠ 0) :
    exec (.autoReloadStart k) s = .next (powerWatch (startSwap k (reloadOf k s)
      (((reloadTaken k s).incWrap RELOAD_COUNT_COUNT 0 k).wr SCRUB_STATUS_RELOAD_ACTIVE 1))) := by
  have another : ((List.range 64).any fun j =>
      s.flag SWAP_STATUS_AUTO 0 j && s.flag RG_STATUS_SWAP j && decide (s.rd SWAP_STATUS_STATE 0 j < 4)) = false := by
    refine List.any_eq_false.2 fun j mem => ?_
    have idle : s.flag RG_STATUS_SWAP j = false := none ⟨j, List.mem_range.1 mem⟩
    simp [idle]
  show execAutoReloadStart k s = _
  simp [execAutoReloadStart, waits, tick, reached.not_gt, credit, permits, none k, image, awake, another, reloadOf, reloadTaken]

theorem autoReloadStart_runs (waits : s.cfg.reloads = [(k.val, due)]) (tick : s.offset = 0) (reached : due ≤ s.now)
    (credit : credited s = true) (permits : hasApply s s.now = true) (awake : s.rd RG_STATUS_PSTATE k ≠ 2)
    (none : ∀ j : Fin 64, s.flag RG_STATUS_SWAP j = false) (image : s.rd RELOAD_LEN_BYTES 0 k ≠ 0) :
    Runs (.autoReloadStart k) s fun t =>
      t.flag SWAP_STATUS_AUTO 0 k = true ∧ t.rd RG_STATUS_SWAP k = 1 ∧ t.cfg.reloads = [] ∧
        t.rd RELOAD_COUNT_COUNT 0 k = (s.rd RELOAD_COUNT_COUNT 0 k + 1) % 2 ^ 32 ∧
        t.rd SWAP_STATUS_STATE 0 k = (if s.rd SWAP_STATUS_STATE 0 k = 5 then 2 else 1) := by
  have watched {u : State} : Kept Foot.powerAbort u (powerWatch u) := Kept.refl.powerWatch .refl
  have started {j : Nat} {r : SwapReq} {u : State} : Kept Foot.startSwap u (startSwap j r u) := Kept.refl.startSwap .refl
  obtain ⟨state, auto, swap, reloads⟩ := startSwap_begins (k := k) (r := reloadOf k s)
    (s := ((reloadTaken k s).incWrap RELOAD_COUNT_COUNT 0 k).wr SCRUB_STATUS_RELOAD_ACTIVE 1)
  refine ⟨_, exec_autoReloadStart_of_due waits tick reached credit permits awake none image, ?_, ?_, ?_, ?_, ?_⟩
  · rw [State.flag, watched.rd_same, auto]
    rfl
  · rw [watched.rd_same, swap]
  · rw [watched.cfg_same, reloads]
    exact congrArg (List.filter _) (reloads_reloadTaken waits)
  · rw [watched.rd_same, started.rd_same, rd_wr_ne _ _ _ _ _ _ _ _ (by decide), rd_incWrap_same]
    rfl
  · rw [watched.rd_same, state, rd_wr_ne _ _ _ _ _ _ _ _ (by decide), rd_incWrap_ne (by decide)]
    rfl

theorem autoReloadStart_empty_runs (waits : s.cfg.reloads = [(k.val, due)]) (tick : s.offset = 0) (reached : due ≤ s.now)
    (credit : credited s = true) (permits : hasApply s s.now = true) (empty : s.rd RELOAD_LEN_BYTES 0 k = 0) :
    Runs (.autoReloadStart k) s fun t =>
      t.cfg.reloads = [] ∧ t.rd RG_STATUS_SWAP k = s.rd RG_STATUS_SWAP k ∧
        t.rd RELOAD_COUNT_COUNT 0 k = s.rd RELOAD_COUNT_COUNT 0 k := by
  have drops : exec (.autoReloadStart k) s = .next (reloadTaken k s) := by
    show execAutoReloadStart k s = _
    simp [execAutoReloadStart, waits, tick, reached.not_gt, credit, permits, empty, reloadTaken]
  exact ⟨_, drops, reloads_reloadTaken waits, rfl, rfl⟩

theorem exec_autoReloadStart_of_none (none : (s.cfg.reloads.any fun x => x.1 == k.val) = false) :
    exec (.autoReloadStart k) s = .next s := by
  have missing : s.cfg.reloads.find? (·.1 == k.val) = Option.none :=
    List.find?_eq_none.2 fun x mem found => List.any_eq_false.1 none x mem found
  show execAutoReloadStart k s = _
  simp only [execAutoReloadStart, missing]

end

/-- Settles O17, clause by clause: the drain's end, the load and the clear, the open tick, the scrubber's step, and the
automatic reload. -/
theorem swapScrubResults : Obligations.SwapScrubResults :=
  ⟨fun _ _ _ => swapDrained_runs,
    fun _ _ => exec_swapDrained_of_undrained,
    fun _ _ _ => swapDrainForced_runs,
    fun _ _ _ => swapLoadStart_load_runs,
    fun _ _ _ => swapLoadStart_clear_runs,
    fun _ _ _ _ => swapOpen_runs,
    fun _ => scrubStep_runs,
    fun _ _ => scrubStep_corrects_runs,
    fun _ => exec_scrubStep_of_stopped,
    fun _ _ _ waits tick reached credit permits _ awake none image =>
      autoReloadStart_runs waits tick reached credit permits awake none image,
    fun _ _ _ => autoReloadStart_empty_runs,
    fun _ _ => exec_autoReloadStart_of_none⟩

end Sys2Proof

namespace Sys2Proof

open Machine Machine.F

set_option Elab.async false

/-! FW_WRITE (R346, R379, R429, R436, R480, R482). -/

section

variable {s : State} {r : Fin 64} {o : Op} {v : Fin 256} {slot : Nat} {ok : Bool}

/-- The slot of an image that has been programmed takes its version, and is VALID if the image may run. -/
def imageSet (slot : Nat) (ok : Bool) (v : Nat) (s : State) : State :=
  if slot = 0 then (s.setb FW_STATUS_VALID_A ok).wr FW_STATUS_VERSION_A v
  else (s.setb FW_STATUS_VALID_B ok).wr FW_STATUS_VERSION_B v

theorem valid_set {valid version : Fld} (apart : valid.id ≠ version.id) (one : valid.width = 1) (eight : version.width = 8) :
    ((s.setb valid ok).wr version v).flag valid = ok ∧ ((s.setb valid ok).wr version v).rd version = v := by
  constructor
  · rw [State.flag, rd_wr_ne _ _ _ _ _ _ _ _ apart, State.setb, rd_wr_same, one]
    cases ok <;> rfl
  · rw [rd_wr_same, eight]
    exact Nat.mod_eq_of_lt v.isLt

theorem imageSet_sets :
    if slot = 0 then (imageSet slot ok v s).flag FW_STATUS_VALID_A = ok ∧ (imageSet slot ok v s).rd FW_STATUS_VERSION_A = v
    else (imageSet slot ok v s).flag FW_STATUS_VALID_B = ok ∧ (imageSet slot ok v s).rd FW_STATUS_VERSION_B = v := by
  by_cases first : slot = 0
  · simp only [imageSet, first, if_true]
    exact valid_set (by decide) rfl rfl
  · simp only [imageSet, first, if_false]
    exact valid_set (by decide) rfl rfl

theorem opAt_imageSet {a b n : Nat} : opAt (imageSet slot ok n s) a b = opAt s a b := by
  unfold imageSet
  split <;> rfl

/-- Is a version not below the anti-rollback version (R436)? -/
abbrev isNewer (s : State) (v : Nat) : Bool := decide (s.rd LIMIT_STATUS_ANTI_ROLLBACK ≤ v)

/-- The outcome of an FW_WRITE of a well-signed image of version v. -/
def fwCode (s : State) (v : Nat) : Nat := if isNewer s v then Code.OK else Code.LIMIT_REACHED

/-- A slot is programmed with a well-signed image of version v, and its FW_WRITE is decided. -/
def fwWritten (r : Nat) (o : Op) (v : Nat) (s : State) : State :=
  decideOp r o.idx (fwCode s v) 0 (v + if isNewer s v then 256 else 0)
    (imageSet (bits (o.word 1) 0 0) (isNewer s v) v (programSlot o (bits (o.word 3) 31 0) (runOp r o.idx s)))

theorem decided_fwWritten {n : Nat} (found : opAt s r o.idx = some o) :
    Decided (fwWritten r o n s) r o.idx (fwCode s n) 0 := by
  have programmed {u : State} : Kept (Foot.part .flash) u (programSlot o (bits (o.word 3) 31 0) u) := Kept.refl.programSlot .refl
  refine decided_decideOp (o := { o with phase := .running }) ?_ rfl r.isLt.ne
  rw [opAt_imageSet, programmed.opAt_same]
  exact opAt_updOp_same (f := fun o => { o with phase := OpPhase.running }) (fun _ => ⟨rfl, rfl⟩) found

theorem kept_fwWritten {n : Nat} :
    ∃ u, Kept Foot.decideOp (imageSet (bits (o.word 1) 0 0) (isNewer s n) n u) (fwWritten r o n s) :=
  ⟨_, Kept.refl.decideOp .refl⟩

/-- An image that is taken, from a core's job or in WAIT_IMAGE, is programmed and decided. -/
theorem exec_fwWrite_of_taken
    (taken : (if bootStage s == 8 then takeOp s r 0x70 else hearthTake s r 0x70) = some o) (life : lifecycle s ≠ 4)
    (idle : bootStage s = 8 ∨ bits (o.word 1) 0 0 ≠ s.rd FW_STATUS_ACTIVE_SLOT) :
    exec (.fwWrite r true v) s =
      .next (if bootStage s == 8 && isNewer s v then setBoot 3 (fwWritten r o v s) else fwWritten r o v s) := by
  have limit : (programSlot o (bits (o.word 3) 31 0) (runOp r o.idx s)).rd LIMIT_STATUS_ANTI_ROLLBACK =
      s.rd LIMIT_STATUS_ANTI_ROLLBACK := (Kept.refl.programSlot (L := Foot.part .flash) .refl).rd_same
  have free : (!(bootStage s == 8) && bits (o.word 1) 0 0 == s.rd FW_STATUS_ACTIVE_SLOT) = false := by
    rcases idle with waits | other
    · simp [waits]
    · simp [other]
  show execFwWrite r true v s = _
  simp only [execFwWrite, taken, life, free, limit, Bool.true_and, if_false, Bool.false_eq_true]
  rfl

theorem fwWrite_runs (stage : bootStage s ≠ 8) (taken : hearthTake s r 0x70 = some o) (found : opAt s r o.idx = some o)
    (life : lifecycle s ≠ 4) (other : bits (o.word 1) 0 0 ≠ s.rd FW_STATUS_ACTIVE_SLOT) :
    Runs (.fwWrite r true v) s fun t =>
      Decided t r o.idx (fwCode s v) 0 ∧
        if bits (o.word 1) 0 0 = 0 then t.flag FW_STATUS_VALID_A = isNewer s v ∧ t.rd FW_STATUS_VERSION_A = v
        else t.flag FW_STATUS_VALID_B = isNewer s v ∧ t.rd FW_STATUS_VERSION_B = v := by
  have awake : (bootStage s == 8) = false := by simp [stage]
  have writes := exec_fwWrite_of_taken (v := v) (by rwa [awake, if_neg Bool.false_ne_true]) life (.inr other)
  rw [awake, Bool.false_and, if_neg Bool.false_ne_true] at writes
  obtain ⟨u, kept⟩ := kept_fwWritten (s := s) (r := r) (o := o) (n := v)
  refine ⟨_, writes, decided_fwWritten found, ?_⟩
  simp only [State.flag, kept.rd_same (f := FW_STATUS_VALID_A), kept.rd_same (f := FW_STATUS_VERSION_A),
    kept.rd_same (f := FW_STATUS_VALID_B), kept.rd_same (f := FW_STATUS_VERSION_B)]
  exact imageSet_sets

theorem fwWrite_waiting_runs (stage : bootStage s = 8) (waits : Waits s r 0x70 o) (life : lifecycle s ≠ 4)
    (zero : bits (o.word 1) 0 0 = 0) (newer : s.rd LIMIT_STATUS_ANTI_ROLLBACK ≤ v.val) :
    Runs (.fwWrite r true v) s fun t => Decided t r o.idx Code.OK 0 ∧ t.rd FW_STATUS_VALID_A = 1 ∧ bootStage t = 3 := by
  obtain ⟨taken, found⟩ := waits
  have asleep : (bootStage s == 8) = true := by simp [stage]
  have newer : isNewer s v = true := decide_eq_true newer
  have writes := exec_fwWrite_of_taken (v := v) (by rwa [asleep, if_pos rfl]) life (.inl stage)
  rw [asleep, newer, Bool.and_self, if_pos rfl] at writes
  obtain ⟨u, kept⟩ := kept_fwWritten (s := s) (r := r) (o := o) (n := v)
  refine ⟨_, writes, ?_, ?_, rd_wr_same ..⟩
  · have decided := decided_fwWritten (n := v) found
    rw [fwCode, newer, if_pos rfl] at decided
    exact decided
  · rw [setBoot, rd_wr_ne _ _ _ _ _ _ _ _ (by decide), kept.rd_same, zero, newer, imageSet, if_pos rfl,
      rd_wr_ne _ _ _ _ _ _ _ _ (by decide), State.setb, rd_wr_same]
    rfl

theorem isOpen_of_hearthTake {opcode : Nat} (taken : hearthTake s r opcode = some o) : o.isOpen = true := by
  have accepted := List.find?_some taken
  simp only [Bool.and_eq_true, beq_iff_eq] at accepted
  obtain ⟨⟨⟨_, phase⟩, _⟩, _⟩ := accepted
  simp [Op.isOpen, phase]

theorem fwWrite_running_runs {good : Bool} (stage : bootStage s ≠ 8) (taken : hearthTake s r 0x70 = some o)
    (found : opAt s r o.idx = some o) (life : lifecycle s ≠ 4) (running : bits (o.word 1) 0 0 = s.rd FW_STATUS_ACTIVE_SLOT) :
    Runs (.fwWrite r good v) s fun t => (∃ code, Decided t r o.idx code 0) ∧ t.flash = s.flash := by
  have refuses : exec (.fwWrite r good v) s = .next (decideOp r o.idx (Code.free s.draw.1) 0 0 s.draw.2) := by
    show execFwWrite r good v s = _
    simp [execFwWrite, stage, taken, life, running]
  have decided : Kept Foot.decideOp s.draw.2 (decideOp r o.idx (Code.free s.draw.1) 0 0 s.draw.2) := Kept.refl.decideOp .refl
  exact ⟨_, refuses, ⟨_, decided_decideOp (s := s.draw.2) found (isOpen_of_hearthTake taken) r.isLt.ne⟩,
    decided.parts .flash (Foot.not_within_of_land (M := Foot.part .flash) (by decide +kernel) (Foot.testBit_place.2 rfl))⟩

end

/-! The switch of the image: the cores' restarts and the self-check (R211). -/

section

variable {s : State} {c : Fin 4}

theorem coreState_setCore {st : Nat} (state : st < 8) : coreState (setCore c st s) c = st := by
  have place (v : Nat) {n : Nat} (hn : n = 3 * c.val) (b : Nat) (hb : b = bits v (n + 2) n) :
      bits ((v - b * 8 ^ c.val + st * 8 ^ c.val) % 2 ^ 12) (n + 2) n = st := by
    subst hb hn
    obtain ⟨c, hc⟩ := c
    simp only [bits]
    interval_cases c <;> omega
  rw [coreState, setCore, rd_wr_same]
  exact place _ rfl _ rfl

theorem fwCoreRestart_runs (switching : fwState s = 1) (last : s.boot.fwLeft = [c.val]) (free : heldBy s c = [])
    (tick : s.offset = 0) :
    Runs (.fwCoreRestart c) s fun t =>
      t.boot.fwLeft = [] ∧ coreState t c = 2 ∧ fwState t = (if s.boot.fwBack then 0 else 2) ∧ t.boot.fwBack = false := by
  have core : coreState (setCore c 2 s) c = 2 := coreState_setCore (by decide)
  have restarts : exec (.fwCoreRestart c) s = .next
      (if s.boot.fwBack then
        updBt (fun b => { b with fwBack := false }) ((updBt (fun b => { b with fwLeft := [] }) (setCore c 2 s)).wr FW_STATUS_STATE 0)
      else (updBt (fun b => { b with fwLeft := [] }) (setCore c 2 s)).wr FW_STATUS_STATE 2) := by
    show execFwCoreRestart c s = _
    have left : s.boot.fwLeft.filter (· != c.val) = [] := by simp [last]
    have named : s.boot.fwLeft.contains c.val = true := by simp [last]
    simp only [execFwCoreRestart, switching, named, free, tick, left, bne_self_eq_false, List.isEmpty_nil, Bool.not_true,
      Bool.or_self, Bool.false_eq_true, if_false]
    exact (apply_ite _ _ _ _).symm
  refine ⟨_, restarts, ?_⟩
  cases back : s.boot.fwBack
  · exact ⟨rfl, (congrArg (fun v => bits v _ _) (rd_wr_ne _ _ _ _ _ _ _ _ (by decide))).trans core, rd_wr_same .., back⟩
  · exact ⟨rfl, (congrArg (fun v => bits v _ _) (rd_wr_ne _ _ _ _ _ _ _ _ (by decide))).trans core, rd_wr_same .., rfl⟩

theorem exec_fwCoreRestart_of_other
    (other : fwState s ≠ 1 ∨ heldBy s c ≠ [] ∨ s.offset ≠ 0 ∨ c.val ∉ s.boot.fwLeft) :
    exec (.fwCoreRestart c) s = .next s := by
  show execFwCoreRestart c s = _
  refine if_pos ?_
  rcases other with state | held | tick | done
  · simp [state]
  · simp [held]
  · simp [tick]
  · simp [done]

/-- Keeping PREFER_B changes of the boot stage only the directory in use. -/
theorem boot_keepPrefer : ∃ d, (keepPrefer s).boot = { s.boot with dir := d } := by
  unfold keepPrefer
  split <;> exact ⟨_, rfl⟩

theorem none_restarting (steady : ∀ c : Fin 4, coreState s c ≠ 2) :
    ((List.range 4).any fun c => coreState s c == 2) = false :=
  List.any_eq_false.2 fun c mem => by simpa using steady ⟨c, List.mem_range.1 mem⟩

theorem rd_incSat_same {f : Fld} {i j n : Nat} : (s.incSat f i j n).rd f i j = min (s.rd f i j + n) f.max := by
  have pos : 0 < 2 ^ f.width := Nat.two_pow_pos _
  rw [State.incSat, rd_wr_same, Nat.mod_eq_of_lt]
  simp only [Fld.max]
  omega

theorem fwSelfCheck_pass_runs (checking : fwState s = 2) (steady : ∀ c : Fin 4, coreState s c ≠ 2)
    (noCommit : s.boot.fwCommit = false) :
    Runs (.fwSelfCheck true) s fun t =>
      fwState t = 0 ∧ t.rd FW_STATUS_ACTIVE_SLOT = s.boot.fwSlot % 2 ∧
        t.rd FW_COUNTS_SWITCHES = min (s.rd FW_COUNTS_SWITCHES + 1) FW_COUNTS_SWITCHES.max := by
  have prefers {u : State} : Kept Foot.keepPrefer u (keepPrefer u) := Kept.refl.keepPrefer .refl
  have raised {u : State} {e : Evt} {n a : Nat} : Kept Foot.sequencerStep u (raise e n a u) := Kept.refl.raise .refl
  have switches : exec (.fwSelfCheck true) s = .next (raise E.FW_SWITCHED 0 s.boot.fwSlot (keepPrefer
      (((s.wr FW_STATUS_STATE 0).wr FW_STATUS_ACTIVE_SLOT s.boot.fwSlot).incSat FW_COUNTS_SWITCHES))) := by
    obtain ⟨d, boot⟩ := boot_keepPrefer
      (s := ((s.wr FW_STATUS_STATE 0).wr FW_STATUS_ACTIVE_SLOT s.boot.fwSlot).incSat FW_COUNTS_SWITCHES)
    have kept : (keepPrefer (((s.wr FW_STATUS_STATE 0).wr FW_STATUS_ACTIVE_SLOT s.boot.fwSlot).incSat
        FW_COUNTS_SWITCHES)).boot.fwCommit = false := by
      rw [boot]
      exact noCommit
    show execFwSelfCheck true s = _
    simp only [execFwSelfCheck, checking, none_restarting steady, bne_self_eq_false, Bool.or_self, Bool.not_true,
      Bool.false_eq_true, if_false, raise_boot, kept]
  refine ⟨_, switches, ?_, ?_, ?_⟩
  · rw [fwState, raised.rd_same, prefers.rd_same, rd_incSat_ne (by decide), rd_wr_ne _ _ _ _ _ _ _ _ (by decide), rd_wr_same]
    rfl
  · rw [raised.rd_same, prefers.rd_same, rd_incSat_ne (by decide), rd_wr_same]
    rfl
  · rw [raised.rd_same, prefers.rd_same, rd_incSat_same, rd_wr_ne _ _ _ _ _ _ _ _ (by decide),
      rd_wr_ne _ _ _ _ _ _ _ _ (by decide)]

theorem fwSelfCheck_fail_runs (checking : fwState s = 2) (steady : ∀ c : Fin 4, coreState s c ≠ 2) :
    Runs (.fwSelfCheck false) s fun t =>
      fwState t = 1 ∧ t.boot.fwBack = true ∧ t.rd FW_COUNTS_REVERTS = min (s.rd FW_COUNTS_REVERTS + 1) FW_COUNTS_REVERTS.max ∧
        (if s.boot.fwSlot = 0 then t.rd FW_STATUS_VALID_A else t.rd FW_STATUS_VALID_B) = 0 := by
  have prefers {u : State} : Kept Foot.keepPrefer u (keepPrefer u) := Kept.refl.keepPrefer .refl
  have raised {u : State} {e : Evt} {n a : Nat} {b : Bool} : Kept Foot.sequencerStep u (raiseInj e n a b u) :=
    Kept.refl.raiseInj .refl
  have reverts : exec (.fwSelfCheck false) s = .next (fwRevert false s) := by
    show execFwSelfCheck false s = _
    simp only [execFwSelfCheck, checking, none_restarting steady, bne_self_eq_false, Bool.or_self, Bool.not_false,
      Bool.false_eq_true, if_false, if_true]
  refine ⟨_, reverts, ?_⟩
  unfold fwRevert
  extract_lets n left s1 s2
  obtain ⟨d, boot⟩ := boot_keepPrefer (s := raiseInj E.FW_REVERTED 0 n false s2)
  have other {g : Fld} (a : g.id ≠ FW_STATUS_VALID_A.id) (b : g.id ≠ FW_STATUS_VALID_B.id) :
      g.id ≠ (if n = 0 then FW_STATUS_VALID_A else FW_STATUS_VALID_B).id := by
    split <;> assumption
  refine ⟨?_, ?_, ?_, ?_⟩
  · rw [fwState, prefers.rd_same, raised.rd_same, rd_incSat_ne (by decide),
      rd_wr_ne _ _ _ _ _ _ _ _ (other (by decide) (by decide))]
    exact rd_wr_same ..
  · rw [boot, raiseInj_boot]
    rfl
  · rw [prefers.rd_same, raised.rd_same, rd_incSat_same, rd_wr_ne _ _ _ _ _ _ _ _ (other (by decide) (by decide))]
    exact congrArg (fun v => min (v + 1) _) (rd_wr_ne _ _ _ _ _ _ _ _ (by decide))
  · simp only [prefers.rd_same (f := FW_STATUS_VALID_A), prefers.rd_same (f := FW_STATUS_VALID_B),
      raised.rd_same (f := FW_STATUS_VALID_A), raised.rd_same (f := FW_STATUS_VALID_B), s2,
      rd_incSat_ne (g := FW_STATUS_VALID_A) (f := FW_COUNTS_REVERTS) (by decide),
      rd_incSat_ne (g := FW_STATUS_VALID_B) (f := FW_COUNTS_REVERTS) (by decide), n]
    split <;> exact (rd_wr_same ..).trans (Nat.zero_mod _)

end

/-! The version commit (R72, R211, R379). -/

section

variable {s : State} {j : Job}

/-- The job of a version commit that is not done (R211, R379). -/
abbrev commitJobIn (s : State) : Option Job := s.disp.jobs.find? fun j => j.op == some commitJob && j.place != .done

theorem commitVersion_stages (empty : stageState s = 0) :
    (commitVersion s).rd FW_STATUS_COMMIT_PENDING = 0 ∧ stageState (commitVersion s) = 2 ∧
      (commitVersion s).flag PF_STATE_OWNER = true ∧ ((commitVersion s).stage.items.map (·.type)) = [0x0B] := by
  rw [commitVersion, if_neg (not_not.2 empty)]
  refine ⟨?_, ?_, ?_, ?_⟩ <;>
    simp (disch := decide) only [stageState, State.flag, State.setb, State.draw, stageLoading, rd_updStage, updStage_stage,
      rd_wr_ne, rd_wr_same] <;> rfl

theorem fwCommitRetry_held_runs (pending : s.flag FW_STATUS_COMMIT_PENDING = true) (empty : stageState s = 0)
    (job : commitJobIn s = some j) (held : j.place = .held j.worker) :
    Runs .fwCommitRetry s fun t =>
      t.rd FW_STATUS_COMMIT_PENDING = 0 ∧ stageState t = 2 ∧ t.flag PF_STATE_OWNER = true ∧
        (t.stage.items.map (·.type)) = [0x0B] := by
  have commits : exec .fwCommitRetry s = .next (commitVersion s) := by
    show execFwCommitRetry s = _
    simp [execFwCommitRetry, pending, job, held]
  exact ⟨_, commits, commitVersion_stages empty⟩

theorem exec_fwCommitRetry_of_waiting (pending : s.flag FW_STATUS_COMMIT_PENDING = true) (job : commitJobIn s = some j)
    (waits : j.place ≠ .held j.worker) : exec .fwCommitRetry s = .next s := by
  show execFwCommitRetry s = _
  simp [execFwCommitRetry, pending, job, waits]

/-- What the registers of the lists and flows show. -/
@[irreducible] def Foot.jobNoted : Foot := Foot.noteJobs ||| Foot.noteFlow

/-- The hidden state of the dispatcher is kept by a footprint that does not hold it. -/
theorem Kept.disp_same {L : Foot} {r : State} (h : Kept L r s) (apart : L &&& Foot.part .disp = 0 := by decide +kernel) :
    s.disp = r.disp :=
  h.parts .disp (Foot.not_within_of_land apart (Foot.testBit_place.2 rfl))

/-- A job that enters the lists is the last of them; the dispatcher's registers follow. -/
theorem jobs_addJob {prio classMask doneAddr tag dlist delay : Nat} {flow : Option Nat} {payload : List Nat}
    {op : Option (Nat × Nat)} :
    ∃ j, (addJob prio flow classMask doneAddr tag payload dlist delay op s).disp.jobs = s.disp.jobs ++ [j] ∧
      j.op = op ∧ j.prio = prio ∧ j.flow.map (·.1) = flow ∧ (delay = 0 → j.place = .ready) := by
  have hl : Foot.jobNoted.Within Foot.jobNoted := .refl
  unfold addJob
  extract_lets slot tick pos shared j s1 s2
  have noted : Kept Foot.jobNoted s1 s2 := by
    unfold s2
    split
    exacts [Kept.refl.noteFlow, .refl]
  refine ⟨j, congrArg DispSt.jobs noted.noteJobs.disp_same, rfl, rfl, ?_, fun now => if_pos now⟩
  cases flow <;> rfl

theorem fwCommitRetry_enqueues_runs (pending : s.flag FW_STATUS_COMMIT_PENDING = true) (none : commitJobIn s = none)
    (room : hearthRoom s = true) :
    Runs .fwCommitRetry s fun t => t.flag FW_STATUS_COMMIT_PENDING = true ∧
      ∃ j, t.disp.jobs = s.disp.jobs ++ [j] ∧ j.op = some commitJob ∧ j.prio = 2 ∧ j.flow.map (·.1) = some hearthFlow ∧
        j.place = .ready := by
  have enqueues : exec .fwCommitRetry s = .next (addJob 2 (some hearthFlow) 1 0 0 [] 0 0 (some commitJob) s) := by
    show execFwCommitRetry s = _
    simp [execFwCommitRetry, pending, none, room]
  have added : Kept Foot.addJob s (addJob 2 (some hearthFlow) 1 0 0 [] 0 0 (some commitJob) s) := Kept.refl.addJob .refl
  obtain ⟨j, jobs, op, prio, flow, place⟩ := jobs_addJob (s := s) (prio := 2) (flow := some hearthFlow) (classMask := 1)
    (doneAddr := 0) (tag := 0) (payload := []) (dlist := 0) (delay := 0) (op := some commitJob)
  refine ⟨_, enqueues, ?_, j, jobs, op, prio, flow, place rfl⟩
  rw [State.flag, added.rd_same]
  exact pending

theorem exec_fwCommitRetry_of_full (none : commitJobIn s = none) (full : hearthRoom s = false) :
    exec .fwCommitRetry s = .next s := by
  show execFwCommitRetry s = _
  simp [execFwCommitRetry, none, full]

theorem exec_fwCommitRetry_of_not_pending (settled : s.flag FW_STATUS_COMMIT_PENDING = false) :
    exec .fwCommitRetry s = .next s := by
  show execFwCommitRetry s = _
  simp [execFwCommitRetry, settled]

end

/-- Settles O39, clause by clause: FW_WRITE, the cores' restarts, the self-check, and the version commit. -/
theorem firmwareResults : Obligations.FirmwareResults :=
  ⟨fun _ _ _ _ => fwWrite_runs,
    fun _ _ _ _ => fwWrite_waiting_runs,
    fun _ _ _ _ _ => fwWrite_running_runs,
    fun _ _ => fwCoreRestart_runs,
    fun _ _ => exec_fwCoreRestart_of_other,
    fun _ => fwSelfCheck_pass_runs,
    fun _ => fwSelfCheck_fail_runs,
    fun _ _ => fwCommitRetry_held_runs,
    fun _ _ => exec_fwCommitRetry_of_waiting,
    fun _ => fwCommitRetry_enqueues_runs,
    fun _ => exec_fwCommitRetry_of_full,
    fun _ => exec_fwCommitRetry_of_not_pending⟩

end Sys2Proof
